-- ==== Sys2Proof/Word.lean ====
section
/-! DEFINITION. Bytes and the sparse store: the data types every block of the module shares.

A register field is a number below two to the power of its width, kept as a `Nat` under a numeric key. A store lists
only the keys whose value differs from the default that its reader names, with the keys strictly rising, so that equal
stores are equal data. -/

namespace Sys2Proof

/-- One byte. -/
abbrev Byte := BitVec 8

/-- A sparse map from numeric keys to numeric values, keys strictly rising. -/
abbrev Store := List (Nat × Nat)

/-- The value listed at key `k`, or the default `d` that an unlisted key stands for. -/
def Store.get : Store → Nat → Nat → Nat
  | [], _, d => d
  | (k', v) :: m, k, d => if k' = k then v else if k < k' then d else Store.get m k d

/-- Take key `k` out of the store. -/
def Store.erase : Store → Nat → Store
  | [], _ => []
  | (k', v) :: m, k => if k' = k then m else if k < k' then (k', v) :: m else (k', v) :: Store.erase m k

/-- List `v` at key `k`, keeping the keys strictly rising. -/
def Store.insert : Store → Nat → Nat → Store
  | [], k, v => [(k, v)]
  | (k', v') :: m, k, v =>
    if k' = k then (k, v) :: m
    else if k < k' then (k, v) :: (k', v') :: m
    else (k', v') :: Store.insert m k v

/-- Write `v` at key `k`, where an unlisted key reads `d`: writing the default takes the entry out. -/
def Store.put (m : Store) (k d v : Nat) : Store :=
  if v = d then m.erase k else m.insert k v

/-- The keys of a store strictly rise from above `lo`. -/
def Store.risingFrom : Nat → Store → Bool
  | _, [] => true
  | lo, (k, _) :: m => decide (lo ≤ k) && Store.risingFrom (k + 1) m

/-- The canonical form of a store: its keys strictly rise. -/
def Store.wf (m : Store) : Bool := m.risingFrom 0

end Sys2Proof
end

