-- ==== Sys2Proof/Machine/Bits.lean ====
section
/-! DEFINITION. Bit fields, signed numbers, byte orders, counts and the check byte: the arithmetic the blocks share.
Multi-byte quantities follow R19: network order in frames and wire formats, little-endian in memory structures. -/

namespace Sys2Proof

/-- Bits `lo + w - 1 : lo` of a number. -/
def bits (v lo w : Nat) : Nat := v / 2 ^ lo % 2 ^ w

/-- Whether bit `i` of a number is 1. -/
def bitAt (v i : Nat) : Bool := v / 2 ^ i % 2 == 1

/-- Replace bits `lo + w - 1 : lo` of a number by the low `w` bits of `x`. -/
def setBits (v lo w x : Nat) : Nat := v - bits v lo w * 2 ^ lo + x % 2 ^ w * 2 ^ lo

/-- The signed value of the low `w` bits of a number, in two's complement. -/
def signed (w v : Nat) : Int :=
  if v % 2 ^ w < 2 ^ (w - 1) then (v % 2 ^ w : Nat) else (v % 2 ^ w : Nat) - (2 ^ w : Nat)

/-- The low `w` bits of an integer, in two's complement. -/
def unsigned (w : Nat) (x : Int) : Nat := (x % (2 ^ w : Nat)).toNat

/-- Clamp an integer into the signed range of `w` bits. -/
def satSigned (w : Nat) (x : Int) : Int :=
  if x < -(2 ^ (w - 1) : Nat) then -(2 ^ (w - 1) : Nat)
  else if (2 ^ (w - 1) : Nat) - 1 < x then (2 ^ (w - 1) : Nat) - 1 else x

/-- Clamp a count at the largest value of `w` bits. -/
def satNat (w v : Nat) : Nat := min v (2 ^ w - 1)

/-- Bool as the number 0 or 1. -/
def b2n (b : Bool) : Nat := if b then 1 else 0

/-- The number that bytes spell, most significant first (network order, R19). -/
def beNat : List Byte → Nat
  | [] => 0
  | b :: bs => b.toNat * 256 ^ bs.length + beNat bs

/-- The number that bytes spell, least significant first (memory order, R19). -/
def leNat : List Byte → Nat
  | [] => 0
  | b :: bs => b.toNat + 256 * leNat bs

/-- `n` bytes of a number, least significant first. -/
def leBytes : Nat → Nat → List Byte
  | 0, _ => []
  | n + 1, v => BitVec.ofNat 8 v :: leBytes n (v / 256)

/-- `n` bytes of a number, most significant first. -/
def beBytes (n v : Nat) : List Byte := (leBytes n v).reverse

/-- `n` bytes from offset `off`; bytes beyond the end read as absent. -/
def slice (bs : List Byte) (off n : Nat) : List Byte := (bs.drop off).take n

/-- The network-order number in `n` bytes at `off`. -/
def beAt (bs : List Byte) (off n : Nat) : Nat := beNat (slice bs off n)

/-- The little-endian number in `n` bytes at `off`. -/
def leAt (bs : List Byte) (off n : Nat) : Nat := leNat (slice bs off n)

/-- Replace the bytes at `off` by `new`, in place. -/
def patch (bs : List Byte) (off : Nat) (new : List Byte) : List Byte :=
  bs.take off ++ new ++ bs.drop (off + new.length)

/-- One step of the CRC-8 with polynomial 0x07 without reflection (R487): `n` shifts. -/
def crc8Shift : Nat → Nat → Nat
  | 0, c => c
  | n + 1, c => crc8Shift n (if 128 ≤ c then ((c * 2) % 256) ^^^ 7 else c * 2)

/-- The CRC-8 of R487 over a list of bytes, initial value 0. -/
def crc8 (bs : List Byte) : Nat := bs.foldl (fun c b => crc8Shift 8 (c ^^^ b.toNat)) 0

/-- The number of 1 bits in the low `w` bits. -/
def popcount : Nat → Nat → Nat
  | 0, _ => 0
  | w + 1, v => v % 2 + popcount w (v / 2)

/-- The position of the lowest 1 bit among the low `w` bits, if any. -/
def lowestBit (w v : Nat) : Option Nat := (List.range w).find? (fun i => bitAt v i)

/-- The integer part of the base-2 logarithm of a positive number; 0 for 0. -/
def log2Floor (v : Nat) : Nat := Nat.log2 v

/-- Division that rounds to the nearest integer, halves away from zero. -/
def divRound (a : Int) (b : Nat) : Int :=
  if 0 ≤ a then (2 * a + b) / (2 * b) else -((2 * (-a) + b) / (2 * b))

/-- Replace entry `i` of a list. -/
def setAt {α : Type} (l : List α) (i : Nat) (a : α) : List α := l.set i a

/-- Apply `f` to entry `i` of a list. -/
def modAt {α : Type} (l : List α) (i : Nat) (f : α → α) : List α :=
  match l, i with
  | [], _ => []
  | a :: l, 0 => f a :: l
  | a :: l, i + 1 => a :: modAt l i f

end Sys2Proof
end

