-- ==== Sys2Proof/Machine/Regs.lean ====
section
/-! DEFINITION. The register map: every register field of the module, with its offset, place, width, type code, reset
value, instances and domain, as the register tables of the block chapters and R493 list them (R10-R17, R481).

A field of a group that repeats (R13) lies at `off + i * stride` in instance `i`. A field of a run of registers with one
layout lies at `off + 4 * k` in register `k` of the run. A field wider than 32 bits, or one named `_LO / _HI` in the
spec, occupies a pair of registers, low word first (R10). Fields that the spec marks Bnd reset to 0 (R17). -/

namespace Sys2Proof

/-- The type codes of a register field ("Type codes"). `rwlE` is an RWL field of the Endpaper, locked with EP_LOCK (R47,
R48); `rwlB` is an RWL field that locks when the load reaches READY. -/
inductive FType where
  | ro | rw | w1c | wo | rwlE | rwlB
  deriving DecidableEq, Repr

/-- One register field of the map. -/
structure Fld where
  /-- offset of its register in instance 0 -/
  off : Nat
  /-- lowest bit -/
  lo : Nat
  /-- width in bits -/
  w : Nat
  /-- type code -/
  typ : FType
  /-- reset value -/
  rst : Nat := 0
  /-- instances of its group (R493) -/
  cnt : Nat := 1
  /-- stride of its group -/
  stride : Nat := 0
  /-- registers in its run -/
  rep : Nat := 1
  /-- in the always-on domain (R17) -/
  aon : Bool := false
  /-- filled by the Binding (R17) -/
  bnd : Bool := false
  deriving DecidableEq, Repr

/-- The key of a field's instance in the register store: its bit address. -/
def Fld.key (f : Fld) (i k : Nat) : Nat := (f.off + i * f.stride + 4 * k) * 32 + f.lo


namespace Reg

def SYS_ID_DEVICE : Fld := { off := 0x0, lo := 0, w := 16, typ := .ro, rst := 0x4816 }
def SYS_ID_VARIANT : Fld := { off := 0x0, lo := 16, w := 8, typ := .ro }
def SYS_ID_BLOCK_REV : Fld := { off := 0x0, lo := 24, w := 8, typ := .ro, rst := 1 }
def SYS_TROUBLE_SUM : Fld := { off := 0x10, lo := 0, w := 18, typ := .ro }
def SYS_TROUBLE_MAC : Fld := { off := 0x14, lo := 0, w := 20, typ := .ro }
def SYS_TROUBLE_ROUTE_SUP : Fld := { off := 0x18, lo := 0, w := 18, typ := .rw, rst := 0x3ffff }
def SYS_TROUBLE_ROUTE_CM : Fld := { off := 0x1C, lo := 0, w := 18, typ := .rw, rst := 0x3ffff }
def SYS_MB_ACCESSES : Fld := { off := 0x20, lo := 0, w := 32, typ := .ro }
def SYS_MB_ERRORS : Fld := { off := 0x24, lo := 0, w := 32, typ := .ro }
def SYS_MB_ADDR : Fld := { off := 0x28, lo := 0, w := 7, typ := .ro }
def SYS_MB_ADDR_SLOT_ID : Fld := { off := 0x28, lo := 8, w := 5, typ := .ro }
def SYS_PWR_CMD_TARGET : Fld := { off := 0x40, lo := 0, w := 2, typ := .rw }
def SYS_PWR_CMD_GO : Fld := { off := 0x40, lo := 31, w := 1, typ := .wo }
def SYS_PWR_STATUS_BUSY : Fld := { off := 0x44, lo := 0, w := 1, typ := .ro }
def SYS_PWR_STATUS_DONE : Fld := { off := 0x44, lo := 1, w := 1, typ := .w1c }
def SYS_PWR_STATUS_CLK_REFUSED : Fld := { off := 0x44, lo := 2, w := 1, typ := .w1c }
def SYS_PWR_STATUS_RESULT : Fld := { off := 0x44, lo := 8, w := 4, typ := .ro }
def SYS_PWR_STATUS_STATE : Fld := { off := 0x44, lo := 16, w := 2, typ := .ro, rst := 2 }
def SYS_PWR_AON_SLEEP_MODE : Fld := { off := 0x48, lo := 0, w := 1, typ := .rw, aon := true }
def SYS_PWR_AON_PWR_EN : Fld := { off := 0x48, lo := 1, w := 1, typ := .ro, aon := true }
def SYS_CLK_REQ : Fld := { off := 0x50, lo := 0, w := 48, typ := .rw }
def SYS_CLK_RUN : Fld := { off := 0x58, lo := 0, w := 48, typ := .ro }
def SYS_CLK_BOOT : Fld := { off := 0x60, lo := 0, w := 48, typ := .rw, aon := true }
def SYS_CLK_REFUSED : Fld := { off := 0x68, lo := 0, w := 48, typ := .w1c }
def SYS_RST_CMD_KEY : Fld := { off := 0x80, lo := 0, w := 16, typ := .wo }
def SYS_RST_CMD_GO : Fld := { off := 0x80, lo := 31, w := 1, typ := .wo }
def SYS_RST_STATUS_BUSY : Fld := { off := 0x84, lo := 0, w := 1, typ := .ro }
def SYS_RST_STATUS_DONE : Fld := { off := 0x84, lo := 1, w := 1, typ := .w1c }
def SYS_RST_STATUS_RESULT : Fld := { off := 0x84, lo := 8, w := 4, typ := .ro }
def SYS_RST_STATUS_LAST_KIND : Fld := { off := 0x84, lo := 16, w := 4, typ := .ro, aon := true }
def SYS_RST_STATUS_WDOG_EXPIRED : Fld := { off := 0x84, lo := 20, w := 1, typ := .w1c, aon := true }
def SYS_RST_COUNT : Fld := { off := 0x88, lo := 0, w := 32, typ := .ro, aon := true }
def SYS_WDOG_CFG_PERIOD_MS : Fld := { off := 0x90, lo := 0, w := 16, typ := .rwlE }
def SYS_WDOG_CFG_ACTION : Fld := { off := 0x90, lo := 16, w := 2, typ := .rwlE }
def SYS_WDOG_KICK : Fld := { off := 0x94, lo := 0, w := 1, typ := .wo }
def SYS_WDOG_STATUS_LEFT_MS : Fld := { off := 0x98, lo := 0, w := 16, typ := .ro }
def SYS_SUPPLY_STATUS_VWARN : Fld := { off := 0xA0, lo := 0, w := 1, typ := .ro }
def SYS_SUPPLY_STATUS_VSTBY_OK : Fld := { off := 0xA0, lo := 1, w := 1, typ := .ro }
def SYS_SUPPLY_STATUS_VWARN_SEEN : Fld := { off := 0xA0, lo := 2, w := 1, typ := .w1c, aon := true }
def SYS_SUPPLY_STATUS_VRESET_SEEN : Fld := { off := 0xA0, lo := 3, w := 1, typ := .w1c, aon := true }
def SYS_SUPPLY_STATUS_VSTBY_LOW : Fld := { off := 0xA0, lo := 4, w := 1, typ := .w1c, aon := true }
def SYS_SUPPLY_STATUS_DIPS : Fld := { off := 0xA0, lo := 16, w := 16, typ := .ro, aon := true }
def SYS_SUPPLY_LAST_DURATION_US : Fld := { off := 0xA4, lo := 0, w := 32, typ := .ro, aon := true }
def SYS_SUPPLY_MIN_MIN_MV : Fld := { off := 0xA8, lo := 0, w := 16, typ := .ro, aon := true }
def SYS_SUPPLY_MIN_NOW_MV : Fld := { off := 0xA8, lo := 16, w := 16, typ := .ro }
def SYS_TROUBLE_LOCKED_WRITE : Fld := { off := 0x100, lo := 0, w := 1, typ := .w1c }
def SYS_TROUBLE_UNMAPPED : Fld := { off := 0x100, lo := 1, w := 1, typ := .w1c }
def SYS_TROUBLE_SIZE : Fld := { off := 0x100, lo := 2, w := 1, typ := .w1c }
def SYS_TROUBLE_MB_FRAME : Fld := { off := 0x100, lo := 3, w := 1, typ := .w1c }
def SYS_TROUBLE_MB_DENIED : Fld := { off := 0x100, lo := 4, w := 1, typ := .w1c }
def SYS_TROUBLE_WDOG_EXPIRED : Fld := { off := 0x100, lo := 5, w := 1, typ := .w1c, aon := true }
def SYS_TROUBLE_SUPPLY : Fld := { off := 0x100, lo := 6, w := 1, typ := .w1c, aon := true }
def SYS_TROUBLE_CLK_REFUSED : Fld := { off := 0x100, lo := 7, w := 1, typ := .w1c }
def SYS_TROUBLE_EN_LOCKED_WRITE : Fld := { off := 0x104, lo := 0, w := 1, typ := .rw, rst := 1 }
def SYS_TROUBLE_EN_UNMAPPED : Fld := { off := 0x104, lo := 1, w := 1, typ := .rw, rst := 1 }
def SYS_TROUBLE_EN_SIZE : Fld := { off := 0x104, lo := 2, w := 1, typ := .rw, rst := 1 }
def SYS_TROUBLE_EN_MB_FRAME : Fld := { off := 0x104, lo := 3, w := 1, typ := .rw, rst := 1 }
def SYS_TROUBLE_EN_MB_DENIED : Fld := { off := 0x104, lo := 4, w := 1, typ := .rw, rst := 1 }
def SYS_TROUBLE_EN_WDOG_EXPIRED : Fld := { off := 0x104, lo := 5, w := 1, typ := .rw, rst := 1 }
def SYS_TROUBLE_EN_SUPPLY : Fld := { off := 0x104, lo := 6, w := 1, typ := .rw, rst := 1 }
def SYS_TROUBLE_EN_CLK_REFUSED : Fld := { off := 0x104, lo := 7, w := 1, typ := .rw, rst := 1 }
def BND_ID_FORMAT_MAX : Fld := { off := 0x10000, lo := 0, w := 16, typ := .ro, rst := 1 }
def BND_ID_BLOCK_REV : Fld := { off := 0x10000, lo := 16, w := 16, typ := .ro, rst := 1 }
def BND_CTRL_LOAD : Fld := { off := 0x10004, lo := 0, w := 1, typ := .wo }
def BND_CTRL_ABORT : Fld := { off := 0x10004, lo := 1, w := 1, typ := .wo }
def BND_CTRL_SRC : Fld := { off := 0x10004, lo := 2, w := 2, typ := .rw }
def BND_BOOT_CFG_AUTOLOAD : Fld := { off := 0x10008, lo := 0, w := 1, typ := .rw, aon := true }
def BND_BOOT_CFG_SLOT_SEL : Fld := { off := 0x10008, lo := 1, w := 1, typ := .rw, aon := true }
def BND_BOOT_CFG_FALLBACK_EN : Fld := { off := 0x10008, lo := 2, w := 1, typ := .rw, rst := 1, aon := true }
def BND_STATUS_PHASE : Fld := { off := 0x1000C, lo := 0, w := 4, typ := .ro }
def BND_STATUS_BUSY : Fld := { off := 0x1000C, lo := 4, w := 1, typ := .ro }
def BND_STATUS_LOADED : Fld := { off := 0x1000C, lo := 5, w := 1, typ := .ro }
def BND_STATUS_EP_LOCK : Fld := { off := 0x1000C, lo := 6, w := 1, typ := .ro }
def BND_STATUS_SOURCE : Fld := { off := 0x1000C, lo := 8, w := 2, typ := .ro }
def BND_STATUS_FAIL_CODE : Fld := { off := 0x1000C, lo := 16, w := 8, typ := .ro }
def BND_STATUS_FAIL_SECTION : Fld := { off := 0x1000C, lo := 24, w := 6, typ := .ro }
def BND_IMAGE_VER_IMAGE_VERSION : Fld := { off := 0x10010, lo := 0, w := 32, typ := .ro, bnd := true }
def BND_FLOOR : Fld := { off := 0x10014, lo := 0, w := 32, typ := .ro }
def BND_FLOOR_SET_NEW_FLOOR : Fld := { off := 0x10018, lo := 0, w := 32, typ := .wo }
def BND_EP_POLICY_TIPIN_EN : Fld := { off := 0x1001C, lo := 0, w := 1, typ := .rwlE }
def BND_EP_POLICY_JOURNAL_EN : Fld := { off := 0x1001C, lo := 1, w := 1, typ := .rwlE }
def BND_EP_POLICY_SECTIONS : Fld := { off := 0x1001C, lo := 2, w := 10, typ := .rwlE }
def BND_EP_POLICY_TIP_KEY_SLOT : Fld := { off := 0x1001C, lo := 16, w := 10, typ := .rwlE }
def BND_DIGEST : Fld := { off := 0x10020, lo := 0, w := 32, typ := .ro, rep := 8, bnd := true }
def BND_STAGE_BASE : Fld := { off := 0x10040, lo := 0, w := 64, typ := .rw }
def BND_STAGE_LEN : Fld := { off := 0x10048, lo := 0, w := 27, typ := .rw }
def BND_STAGE_WR_DATA : Fld := { off := 0x1004C, lo := 0, w := 32, typ := .wo }
def BND_TIP_CTRL_STAGE : Fld := { off := 0x10050, lo := 0, w := 1, typ := .wo }
def BND_TIP_CTRL_ARM : Fld := { off := 0x10050, lo := 1, w := 1, typ := .wo }
def BND_TIP_CTRL_CONFIRM : Fld := { off := 0x10050, lo := 2, w := 1, typ := .wo }
def BND_TIP_CTRL_REVERT : Fld := { off := 0x10050, lo := 3, w := 1, typ := .wo }
def BND_TIP_CTRL_DISCARD : Fld := { off := 0x10050, lo := 4, w := 1, typ := .wo }
def BND_TIP_STATUS_STATE : Fld := { off := 0x10054, lo := 0, w := 3, typ := .ro }
def BND_TIP_STATUS_DEFERRALS : Fld := { off := 0x10054, lo := 4, w := 4, typ := .ro }
def BND_TIP_STATUS_FAIL_CODE : Fld := { off := 0x10054, lo := 8, w := 8, typ := .ro }
def BND_TIP_STATUS_SECTIONS : Fld := { off := 0x10054, lo := 16, w := 10, typ := .ro }
def BND_TIP_TARGET : Fld := { off := 0x10058, lo := 0, w := 64, typ := .rw }
def BND_TIP_COMMIT : Fld := { off := 0x10060, lo := 0, w := 64, typ := .ro }
def BND_TIP_EPOCH : Fld := { off := 0x10068, lo := 0, w := 64, typ := .ro }
def BND_TIP_CFG_REVERT_TIMEOUT : Fld := { off := 0x10070, lo := 0, w := 16, typ := .rw }
def BND_TIP_CFG_MAX_DEFER : Fld := { off := 0x10070, lo := 16, w := 4, typ := .rw, rst := 8 }
def BND_TIP_SEQ : Fld := { off := 0x10074, lo := 0, w := 32, typ := .ro, bnd := true }
def BND_STORE_CTRL_PROGRAM : Fld := { off := 0x10078, lo := 0, w := 1, typ := .wo }
def BND_STORE_CTRL_ERASE_JOURNAL : Fld := { off := 0x10078, lo := 1, w := 1, typ := .wo }
def BND_STORE_CTRL_TARGET_SLOT : Fld := { off := 0x10078, lo := 2, w := 1, typ := .rw }
def BND_STORE_STATUS_BUSY : Fld := { off := 0x1007C, lo := 0, w := 1, typ := .ro }
def BND_STORE_STATUS_DONE : Fld := { off := 0x1007C, lo := 1, w := 1, typ := .w1c }
def BND_STORE_STATUS_FAIL_CODE : Fld := { off := 0x1007C, lo := 8, w := 8, typ := .ro }
def BND_STORE_STATUS_JOURNAL_A : Fld := { off := 0x1007C, lo := 16, w := 5, typ := .ro }
def BND_STORE_STATUS_JOURNAL_B : Fld := { off := 0x1007C, lo := 24, w := 5, typ := .ro }
def BND_TROUBLE_LOAD_FAIL : Fld := { off := 0x10100, lo := 0, w := 1, typ := .w1c, aon := true }
def BND_TROUBLE_TIP_FAIL : Fld := { off := 0x10100, lo := 1, w := 1, typ := .w1c }
def BND_TROUBLE_TIP_REVERTED : Fld := { off := 0x10100, lo := 2, w := 1, typ := .w1c }
def BND_TROUBLE_LOCKED_WRITE : Fld := { off := 0x10100, lo := 3, w := 1, typ := .w1c }
def BND_TROUBLE_FLOOR_REJECT : Fld := { off := 0x10100, lo := 4, w := 1, typ := .w1c }
def BND_TROUBLE_FALLBACK_USED : Fld := { off := 0x10100, lo := 5, w := 1, typ := .w1c, aon := true }
def BND_TROUBLE_JOURNAL_TRUNC : Fld := { off := 0x10100, lo := 6, w := 1, typ := .w1c, aon := true }
def BND_TROUBLE_STORE_ERR : Fld := { off := 0x10100, lo := 7, w := 1, typ := .w1c }
def BND_TROUBLE_TIP_DEFERRED : Fld := { off := 0x10100, lo := 8, w := 1, typ := .w1c }
def BND_TROUBLE_EN_LOAD_FAIL : Fld := { off := 0x10104, lo := 0, w := 1, typ := .rw, rst := 1 }
def BND_TROUBLE_EN_TIP_FAIL : Fld := { off := 0x10104, lo := 1, w := 1, typ := .rw, rst := 1 }
def BND_TROUBLE_EN_TIP_REVERTED : Fld := { off := 0x10104, lo := 2, w := 1, typ := .rw, rst := 1 }
def BND_TROUBLE_EN_LOCKED_WRITE : Fld := { off := 0x10104, lo := 3, w := 1, typ := .rw, rst := 1 }
def BND_TROUBLE_EN_FLOOR_REJECT : Fld := { off := 0x10104, lo := 4, w := 1, typ := .rw, rst := 1 }
def BND_TROUBLE_EN_FALLBACK_USED : Fld := { off := 0x10104, lo := 5, w := 1, typ := .rw, rst := 1 }
def BND_TROUBLE_EN_JOURNAL_TRUNC : Fld := { off := 0x10104, lo := 6, w := 1, typ := .rw, rst := 1 }
def BND_TROUBLE_EN_STORE_ERR : Fld := { off := 0x10104, lo := 7, w := 1, typ := .rw, rst := 1 }
def BND_TROUBLE_EN_TIP_DEFERRED : Fld := { off := 0x10104, lo := 8, w := 1, typ := .rw, rst := 1 }
def SVI_ID_STREAMS : Fld := { off := 0x20000, lo := 0, w := 16, typ := .ro, rst := 0x200 }
def SVI_ID_UNITS : Fld := { off := 0x20000, lo := 16, w := 8, typ := .ro, rst := 4 }
def SVI_ID_BLOCK_REV : Fld := { off := 0x20000, lo := 24, w := 8, typ := .ro, rst := 1 }
def SVI_CTRL_ENABLE : Fld := { off := 0x20004, lo := 0, w := 1, typ := .rw }
def SVI_CTRL_SIM_MODE : Fld := { off := 0x20004, lo := 1, w := 1, typ := .rw }
def SVI_CTRL_CLEAR_PEAKS : Fld := { off := 0x20004, lo := 2, w := 1, typ := .wo }
def SVI_CTRL_CLEAR_COUNTERS : Fld := { off := 0x20004, lo := 3, w := 1, typ := .wo }
def SVI_STATUS_RUNNING : Fld := { off := 0x20008, lo := 0, w := 1, typ := .ro }
def SVI_STATUS_ACTIVE_UNITS : Fld := { off := 0x20008, lo := 1, w := 3, typ := .ro }
def SVI_STATUS_DEGRADED : Fld := { off := 0x20008, lo := 4, w := 1, typ := .ro }
def SVI_STATUS_NO_SPARE : Fld := { off := 0x20008, lo := 5, w := 1, typ := .ro }
def SVI_STATUS_STREAMS_ACTIVE : Fld := { off := 0x20008, lo := 16, w := 10, typ := .ro }
def SVI_EPOCH : Fld := { off := 0x20010, lo := 0, w := 64, typ := .ro, rst := 1 }
def SVI_FRONTIER : Fld := { off := 0x20018, lo := 0, w := 64, typ := .ro }
def SVI_HORIZON : Fld := { off := 0x20020, lo := 0, w := 64, typ := .ro }
def SVI_BACKLOG : Fld := { off := 0x20028, lo := 0, w := 16, typ := .ro }
def SVI_BACKLOG_PEAK_BACKLOG : Fld := { off := 0x20028, lo := 16, w := 16, typ := .ro }
def SVI_LAT_PEAK_PEAK_LAT : Fld := { off := 0x2002C, lo := 0, w := 16, typ := .ro }
def SVI_VER_CTRL_SPARE_SEL : Fld := { off := 0x20030, lo := 0, w := 2, typ := .rw, rst := 3 }
def SVI_VER_CTRL_KAT_EN : Fld := { off := 0x20030, lo := 4, w := 1, typ := .rw, rst := 1 }
def SVI_VER_CTRL_RETIRE : Fld := { off := 0x20030, lo := 8, w := 4, typ := .wo }
def SVI_VER_CTRL_RESTORE : Fld := { off := 0x20030, lo := 12, w := 4, typ := .wo }
def SVI_VER_STATUS_UNIT_STATE : Fld := { off := 0x20034, lo := 0, w := 8, typ := .ro, rst := 0xc0 }
def SVI_VER_STATUS_LAST_FAIL_UNIT : Fld := { off := 0x20034, lo := 8, w := 2, typ := .ro }
def SVI_VER_STATUS_LAST_FAIL_CAUSE : Fld := { off := 0x20034, lo := 10, w := 3, typ := .ro }
def SVI_LAST_REFUTE_STREAM : Fld := { off := 0x20038, lo := 0, w := 9, typ := .ro }
def SVI_LAST_REFUTE_CAUSE : Fld := { off := 0x20038, lo := 12, w := 4, typ := .ro }
def SVI_LAST_REFUTE_VALID : Fld := { off := 0x20038, lo := 31, w := 1, typ := .ro }
def SVI_LAST_REJECT_CODE : Fld := { off := 0x2003C, lo := 0, w := 8, typ := .ro }
def SVI_LAST_REJECT_STREAM : Fld := { off := 0x2003C, lo := 16, w := 9, typ := .ro }
def SVI_LAST_REFUTE_EPOCH : Fld := { off := 0x20040, lo := 0, w := 64, typ := .ro }
def SVI_RX_FRAMES : Fld := { off := 0x20050, lo := 0, w := 32, typ := .ro }
def SVI_PLACED : Fld := { off := 0x20054, lo := 0, w := 32, typ := .ro }
def SVI_DUP_PRP : Fld := { off := 0x20058, lo := 0, w := 32, typ := .ro }
def SVI_DUP_SLOT : Fld := { off := 0x2005C, lo := 0, w := 32, typ := .ro }
def SVI_UNMATCHED : Fld := { off := 0x20060, lo := 0, w := 32, typ := .ro }
def SVI_PARSE_REJECT : Fld := { off := 0x20064, lo := 0, w := 32, typ := .ro }
def SVI_KEY_REJECT : Fld := { off := 0x20068, lo := 0, w := 32, typ := .ro }
def SVI_CONFIRMED : Fld := { off := 0x2006C, lo := 0, w := 32, typ := .ro }
def SVI_REFUTED : Fld := { off := 0x20070, lo := 0, w := 32, typ := .ro }
def SVI_LATE : Fld := { off := 0x20074, lo := 0, w := 32, typ := .ro }
def SVI_EARLY : Fld := { off := 0x20078, lo := 0, w := 32, typ := .ro }
def SVI_MISSING : Fld := { off := 0x2007C, lo := 0, w := 32, typ := .ro }
def SVI_OVERRUN : Fld := { off := 0x20080, lo := 0, w := 32, typ := .ro }
def SVI_SIM_DROP : Fld := { off := 0x20084, lo := 0, w := 32, typ := .ro }
def SVI_EXPIRED_READ : Fld := { off := 0x20088, lo := 0, w := 32, typ := .ro }
def SVI_TBL_CTRL_TABLE_ID : Fld := { off := 0x20090, lo := 0, w := 16, typ := .rw }
def SVI_TBL_CTRL_INDEX : Fld := { off := 0x20090, lo := 16, w := 9, typ := .rw }
def SVI_TBL_CTRL_READ : Fld := { off := 0x20090, lo := 31, w := 1, typ := .wo }
def SVI_TBL_STATUS_BUSY : Fld := { off := 0x20094, lo := 0, w := 1, typ := .ro }
def SVI_TBL_STATUS_DONE : Fld := { off := 0x20094, lo := 1, w := 1, typ := .w1c }
def SVI_TBL_STATUS_BAD_ADDR : Fld := { off := 0x20094, lo := 2, w := 1, typ := .w1c }
def SVI_TBL_DATA : Fld := { off := 0x200A0, lo := 0, w := 32, typ := .ro, rep := 16 }
def SVI_TROUBLE_VERIFIER_FAIL : Fld := { off := 0x20100, lo := 0, w := 1, typ := .w1c }
def SVI_TROUBLE_NO_SPARE : Fld := { off := 0x20100, lo := 1, w := 1, typ := .w1c }
def SVI_TROUBLE_REFUTED : Fld := { off := 0x20100, lo := 2, w := 1, typ := .w1c }
def SVI_TROUBLE_TIMEOUT : Fld := { off := 0x20100, lo := 3, w := 1, typ := .w1c }
def SVI_TROUBLE_MISSING : Fld := { off := 0x20100, lo := 4, w := 1, typ := .w1c }
def SVI_TROUBLE_LATE : Fld := { off := 0x20100, lo := 5, w := 1, typ := .w1c }
def SVI_TROUBLE_EARLY : Fld := { off := 0x20100, lo := 6, w := 1, typ := .w1c }
def SVI_TROUBLE_PARSE_REJECT : Fld := { off := 0x20100, lo := 7, w := 1, typ := .w1c }
def SVI_TROUBLE_KEY_REJECT : Fld := { off := 0x20100, lo := 8, w := 1, typ := .w1c }
def SVI_TROUBLE_ORPHANED : Fld := { off := 0x20100, lo := 9, w := 1, typ := .w1c }
def SVI_TROUBLE_OVERRUN : Fld := { off := 0x20100, lo := 10, w := 1, typ := .w1c }
def SVI_TROUBLE_BURST : Fld := { off := 0x20100, lo := 11, w := 1, typ := .w1c }
def SVI_TROUBLE_RING_ECC : Fld := { off := 0x20100, lo := 12, w := 1, typ := .w1c }
def SVI_TROUBLE_EXPIRED_READ : Fld := { off := 0x20100, lo := 13, w := 1, typ := .w1c }
def SVI_TROUBLE_CMD_REFUSED : Fld := { off := 0x20100, lo := 14, w := 1, typ := .w1c }
def SVI_TROUBLE_EN_VERIFIER_FAIL : Fld := { off := 0x20104, lo := 0, w := 1, typ := .rw, rst := 1 }
def SVI_TROUBLE_EN_NO_SPARE : Fld := { off := 0x20104, lo := 1, w := 1, typ := .rw, rst := 1 }
def SVI_TROUBLE_EN_REFUTED : Fld := { off := 0x20104, lo := 2, w := 1, typ := .rw, rst := 1 }
def SVI_TROUBLE_EN_TIMEOUT : Fld := { off := 0x20104, lo := 3, w := 1, typ := .rw, rst := 1 }
def SVI_TROUBLE_EN_MISSING : Fld := { off := 0x20104, lo := 4, w := 1, typ := .rw, rst := 1 }
def SVI_TROUBLE_EN_LATE : Fld := { off := 0x20104, lo := 5, w := 1, typ := .rw, rst := 1 }
def SVI_TROUBLE_EN_EARLY : Fld := { off := 0x20104, lo := 6, w := 1, typ := .rw, rst := 1 }
def SVI_TROUBLE_EN_PARSE_REJECT : Fld := { off := 0x20104, lo := 7, w := 1, typ := .rw, rst := 1 }
def SVI_TROUBLE_EN_KEY_REJECT : Fld := { off := 0x20104, lo := 8, w := 1, typ := .rw, rst := 1 }
def SVI_TROUBLE_EN_ORPHANED : Fld := { off := 0x20104, lo := 9, w := 1, typ := .rw, rst := 1 }
def SVI_TROUBLE_EN_OVERRUN : Fld := { off := 0x20104, lo := 10, w := 1, typ := .rw, rst := 1 }
def SVI_TROUBLE_EN_BURST : Fld := { off := 0x20104, lo := 11, w := 1, typ := .rw, rst := 1 }
def SVI_TROUBLE_EN_RING_ECC : Fld := { off := 0x20104, lo := 12, w := 1, typ := .rw, rst := 1 }
def SVI_TROUBLE_EN_EXPIRED_READ : Fld := { off := 0x20104, lo := 13, w := 1, typ := .rw, rst := 1 }
def SVI_TROUBLE_EN_CMD_REFUSED : Fld := { off := 0x20104, lo := 14, w := 1, typ := .rw, rst := 1 }
def CLS_ID_FOLIOS : Fld := { off := 0x40000, lo := 0, w := 8, typ := .ro, rst := 0x20 }
def CLS_ID_ENTRIES : Fld := { off := 0x40000, lo := 8, w := 8, typ := .ro, rst := 0xff }
def CLS_ID_STALL_US : Fld := { off := 0x40000, lo := 16, w := 8, typ := .ro, rst := 0x32 }
def CLS_ID_BLOCK_REV : Fld := { off := 0x40000, lo := 24, w := 8, typ := .ro, rst := 1 }
def CLS_CTRL_ENABLE : Fld := { off := 0x40004, lo := 0, w := 1, typ := .rw }
def CLS_CTRL_RERUN_MAX : Fld := { off := 0x40004, lo := 4, w := 4, typ := .rw, rst := 3 }
def CLS_CTRL_CLEAR_COUNTERS : Fld := { off := 0x40004, lo := 8, w := 1, typ := .wo }
def CLS_STATUS_EMIT : Fld := { off := 0x40008, lo := 0, w := 1, typ := .ro }
def CLS_STATUS_EMITTING : Fld := { off := 0x40008, lo := 1, w := 1, typ := .ro }
def CLS_STATUS_SEALED : Fld := { off := 0x40008, lo := 8, w := 8, typ := .ro }
def CLS_STATUS_SQUASHED : Fld := { off := 0x40008, lo := 16, w := 8, typ := .ro }
def CLS_STATUS_DT_FOLIO : Fld := { off := 0x40008, lo := 24, w := 8, typ := .ro }
def CLS_FRONTIER : Fld := { off := 0x40010, lo := 0, w := 64, typ := .ro }
def CLS_QUIRE_CYCLE : Fld := { off := 0x40018, lo := 0, w := 32, typ := .ro }
def CLS_QUIRE_LEN : Fld := { off := 0x4001C, lo := 0, w := 22, typ := .ro }
def CLS_RELEASED : Fld := { off := 0x40020, lo := 0, w := 32, typ := .ro }
def CLS_SQUASH_REFUTE : Fld := { off := 0x40024, lo := 0, w := 32, typ := .ro }
def CLS_SQUASH_STALL : Fld := { off := 0x40028, lo := 0, w := 32, typ := .ro }
def CLS_SQUASH_CASCADE : Fld := { off := 0x4002C, lo := 0, w := 32, typ := .ro }
def CLS_LOST : Fld := { off := 0x40030, lo := 0, w := 32, typ := .ro }
def CLS_ABANDONED : Fld := { off := 0x40034, lo := 0, w := 32, typ := .ro }
def CLS_STAGE_ERR : Fld := { off := 0x40038, lo := 0, w := 32, typ := .ro }
def CLS_EMIT_DISCARD : Fld := { off := 0x4003C, lo := 0, w := 32, typ := .ro }
def CLS_LAST_SQUASH_FOLIO : Fld := { off := 0x40040, lo := 0, w := 5, typ := .ro }
def CLS_LAST_SQUASH_CAUSE : Fld := { off := 0x40040, lo := 5, w := 3, typ := .ro }
def CLS_LAST_SQUASH_VALID : Fld := { off := 0x40040, lo := 31, w := 1, typ := .ro }
def CLS_TROUBLE_SQUASH : Fld := { off := 0x40100, lo := 0, w := 1, typ := .w1c }
def CLS_TROUBLE_STALL : Fld := { off := 0x40100, lo := 1, w := 1, typ := .w1c }
def CLS_TROUBLE_LOST : Fld := { off := 0x40100, lo := 2, w := 1, typ := .w1c }
def CLS_TROUBLE_ABANDONED : Fld := { off := 0x40100, lo := 3, w := 1, typ := .w1c }
def CLS_TROUBLE_STAGE_ERR : Fld := { off := 0x40100, lo := 4, w := 1, typ := .w1c }
def CLS_TROUBLE_SEAL_ERR : Fld := { off := 0x40100, lo := 5, w := 1, typ := .w1c }
def CLS_TROUBLE_QUIRE_STALE : Fld := { off := 0x40100, lo := 6, w := 1, typ := .w1c }
def CLS_TROUBLE_EMIT_DISCARD : Fld := { off := 0x40100, lo := 7, w := 1, typ := .w1c }
def CLS_TROUBLE_EN_SQUASH : Fld := { off := 0x40104, lo := 0, w := 1, typ := .rw, rst := 1 }
def CLS_TROUBLE_EN_STALL : Fld := { off := 0x40104, lo := 1, w := 1, typ := .rw, rst := 1 }
def CLS_TROUBLE_EN_LOST : Fld := { off := 0x40104, lo := 2, w := 1, typ := .rw, rst := 1 }
def CLS_TROUBLE_EN_ABANDONED : Fld := { off := 0x40104, lo := 3, w := 1, typ := .rw, rst := 1 }
def CLS_TROUBLE_EN_STAGE_ERR : Fld := { off := 0x40104, lo := 4, w := 1, typ := .rw, rst := 1 }
def CLS_TROUBLE_EN_SEAL_ERR : Fld := { off := 0x40104, lo := 5, w := 1, typ := .rw, rst := 1 }
def CLS_TROUBLE_EN_QUIRE_STALE : Fld := { off := 0x40104, lo := 6, w := 1, typ := .rw, rst := 1 }
def CLS_TROUBLE_EN_EMIT_DISCARD : Fld := { off := 0x40104, lo := 7, w := 1, typ := .rw, rst := 1 }
def CLS_F_CFG_PROV : Fld := { off := 0x41000, lo := 0, w := 1, typ := .ro, cnt := 32, stride := 0x40, bnd := true }
def CLS_F_CFG_BACKGROUND : Fld := { off := 0x41000, lo := 1, w := 1, typ := .ro, cnt := 32, stride := 0x40, bnd := true }
def CLS_F_CFG_DT_MASK : Fld := { off := 0x41000, lo := 8, w := 8, typ := .ro, cnt := 32, stride := 0x40, bnd := true }
def CLS_F_CFG_QUIRE_UNITS : Fld := { off := 0x41000, lo := 16, w := 9, typ := .ro, cnt := 32, stride := 0x40, bnd := true }
def CLS_F_SEAL : Fld := { off := 0x41004, lo := 0, w := 1, typ := .wo, cnt := 32, stride := 0x40 }
def CLS_F_SEAL_ABANDON : Fld := { off := 0x41004, lo := 1, w := 1, typ := .wo, cnt := 32, stride := 0x40 }
def CLS_F_SEAL_ENTRIES : Fld := { off := 0x41004, lo := 2, w := 9, typ := .wo, cnt := 32, stride := 0x40 }
def CLS_F_SEAL_QUIRE_LEN : Fld := { off := 0x41004, lo := 11, w := 21, typ := .wo, cnt := 32, stride := 0x40 }
def CLS_F_STATE_STATE_OLD : Fld := { off := 0x41008, lo := 0, w := 3, typ := .ro, cnt := 32, stride := 0x40 }
def CLS_F_STATE_STATE_NEW : Fld := { off := 0x41008, lo := 3, w := 3, typ := .ro, cnt := 32, stride := 0x40 }
def CLS_F_STATE_RUN : Fld := { off := 0x41008, lo := 8, w := 4, typ := .ro, cnt := 32, stride := 0x40 }
def CLS_F_STATE_SQUASHES : Fld := { off := 0x41008, lo := 16, w := 16, typ := .ro, cnt := 32, stride := 0x40 }
def CLS_F_NOTICE_PENDING : Fld := { off := 0x4100C, lo := 0, w := 1, typ := .w1c, cnt := 32, stride := 0x40 }
def CLS_F_NOTICE_CAUSE : Fld := { off := 0x4100C, lo := 1, w := 3, typ := .ro, cnt := 32, stride := 0x40 }
def CLS_F_NOTICE_STREAM : Fld := { off := 0x4100C, lo := 16, w := 9, typ := .ro, cnt := 32, stride := 0x40 }
def CLS_F_CYCLE : Fld := { off := 0x41010, lo := 0, w := 64, typ := .ro, cnt := 32, stride := 0x40 }
def CLS_F_EMAX : Fld := { off := 0x41018, lo := 0, w := 64, typ := .ro, cnt := 32, stride := 0x40 }
def CLS_F_NOTICE_EPOCH : Fld := { off := 0x41020, lo := 0, w := 64, typ := .ro, cnt := 32, stride := 0x40 }
def CLS_F_RELEASED : Fld := { off := 0x41028, lo := 0, w := 64, typ := .ro, cnt := 32, stride := 0x40 }
def CLS_F_DT_REQ : Fld := { off := 0x41030, lo := 0, w := 8, typ := .ro, cnt := 32, stride := 0x40 }
def FLT_ID_INSTANCES : Fld := { off := 0x50000, lo := 0, w := 12, typ := .ro, rst := 0x800 }
def FLT_ID_ELEMENTS : Fld := { off := 0x50000, lo := 16, w := 8, typ := .ro, rst := 0x40 }
def FLT_ID_BLOCK_REV : Fld := { off := 0x50000, lo := 24, w := 8, typ := .ro, rst := 1 }
def FLT_CTRL_CLEAR_COUNTERS : Fld := { off := 0x50004, lo := 0, w := 1, typ := .wo }
def FLT_STATUS_RUNNING : Fld := { off := 0x50008, lo := 0, w := 1, typ := .ro }
def FLT_STATUS_LOAD : Fld := { off := 0x50008, lo := 8, w := 8, typ := .ro }
def FLT_STATUS_ACTIVE : Fld := { off := 0x50008, lo := 16, w := 12, typ := .ro }
def FLT_DT_CFG_LINE_EN : Fld := { off := 0x50010, lo := 0, w := 8, typ := .rwlE }
def FLT_DT_CFG_MIN_ON : Fld := { off := 0x50010, lo := 8, w := 8, typ := .rwlE }
def FLT_BKST_FLOOR : Fld := { off := 0x50014, lo := 0, w := 64, typ := .rwlE }
def FLT_DT_STATE_LINE : Fld := { off := 0x5001C, lo := 0, w := 8, typ := .ro }
def FLT_DT_STATE_BKST : Fld := { off := 0x5001C, lo := 8, w := 8, typ := .ro }
def FLT_DT_STATE_FOLIO : Fld := { off := 0x5001C, lo := 16, w := 8, typ := .ro }
def FLT_DT_STATE_MIN_ON_RUN : Fld := { off := 0x5001C, lo := 24, w := 8, typ := .ro }
def FLT_BKST_BLOCK : Fld := { off := 0x50020, lo := 0, w := 64, typ := .rw }
def FLT_BKST_START : Fld := { off := 0x50028, lo := 0, w := 64, typ := .ro }
def FLT_BKST_TRIP : Fld := { off := 0x50030, lo := 0, w := 64, typ := .ro }
def FLT_BKST_RESET_ELEMENT : Fld := { off := 0x50038, lo := 0, w := 6, typ := .wo }
def FLT_BKST_RESET_ALL : Fld := { off := 0x50038, lo := 8, w := 1, typ := .wo }
def FLT_BKST_RESET : Fld := { off := 0x50038, lo := 31, w := 1, typ := .wo }
def FLT_SWITCH_INSTANCE : Fld := { off := 0x5003C, lo := 0, w := 11, typ := .rw }
def FLT_SWITCH_FORCE : Fld := { off := 0x5003C, lo := 12, w := 2, typ := .rw }
def FLT_SWITCH_APPLY : Fld := { off := 0x5003C, lo := 31, w := 1, typ := .wo }
def FLT_STEPS : Fld := { off := 0x50040, lo := 0, w := 32, typ := .ro }
def FLT_SWITCHES : Fld := { off := 0x50044, lo := 0, w := 32, typ := .ro }
def FLT_SATURATED : Fld := { off := 0x50048, lo := 0, w := 32, typ := .ro }
def FLT_BKST_TRIPS : Fld := { off := 0x5004C, lo := 0, w := 32, typ := .ro }
def FLT_CFG_LATE : Fld := { off := 0x50050, lo := 0, w := 32, typ := .ro }
def FLT_EXPIRED_READ : Fld := { off := 0x50054, lo := 0, w := 32, typ := .ro }
def FLT_TBL_CTRL_TABLE_ID : Fld := { off := 0x50060, lo := 0, w := 16, typ := .rw }
def FLT_TBL_CTRL_INDEX : Fld := { off := 0x50060, lo := 16, w := 11, typ := .rw }
def FLT_TBL_CTRL_READ : Fld := { off := 0x50060, lo := 31, w := 1, typ := .wo }
def FLT_TBL_STATUS_BUSY : Fld := { off := 0x50064, lo := 0, w := 1, typ := .ro }
def FLT_TBL_STATUS_DONE : Fld := { off := 0x50064, lo := 1, w := 1, typ := .w1c }
def FLT_TBL_STATUS_BAD_ADDR : Fld := { off := 0x50064, lo := 2, w := 1, typ := .w1c }
def FLT_TBL_DATA : Fld := { off := 0x50080, lo := 0, w := 32, typ := .ro, rep := 32 }
def FLT_TROUBLE_LOCKED_WRITE : Fld := { off := 0x50100, lo := 0, w := 1, typ := .w1c }
def FLT_TROUBLE_SATURATED : Fld := { off := 0x50100, lo := 1, w := 1, typ := .w1c }
def FLT_TROUBLE_STEP : Fld := { off := 0x50100, lo := 2, w := 1, typ := .w1c }
def FLT_TROUBLE_SWITCH : Fld := { off := 0x50100, lo := 3, w := 1, typ := .w1c }
def FLT_TROUBLE_NO_SOURCE : Fld := { off := 0x50100, lo := 4, w := 1, typ := .w1c }
def FLT_TROUBLE_BKST_TRIP : Fld := { off := 0x50100, lo := 5, w := 1, typ := .w1c }
def FLT_TROUBLE_FLOOR_BLOCK : Fld := { off := 0x50100, lo := 6, w := 1, typ := .w1c }
def FLT_TROUBLE_CFG_LATE : Fld := { off := 0x50100, lo := 7, w := 1, typ := .w1c }
def FLT_TROUBLE_EXPIRED_READ : Fld := { off := 0x50100, lo := 8, w := 1, typ := .w1c }
def FLT_TROUBLE_STATE_ECC : Fld := { off := 0x50100, lo := 9, w := 1, typ := .w1c }
def FLT_TROUBLE_EN_LOCKED_WRITE : Fld := { off := 0x50104, lo := 0, w := 1, typ := .rw, rst := 1 }
def FLT_TROUBLE_EN_SATURATED : Fld := { off := 0x50104, lo := 1, w := 1, typ := .rw, rst := 1 }
def FLT_TROUBLE_EN_STEP : Fld := { off := 0x50104, lo := 2, w := 1, typ := .rw, rst := 1 }
def FLT_TROUBLE_EN_SWITCH : Fld := { off := 0x50104, lo := 3, w := 1, typ := .rw, rst := 1 }
def FLT_TROUBLE_EN_NO_SOURCE : Fld := { off := 0x50104, lo := 4, w := 1, typ := .rw, rst := 1 }
def FLT_TROUBLE_EN_BKST_TRIP : Fld := { off := 0x50104, lo := 5, w := 1, typ := .rw, rst := 1 }
def FLT_TROUBLE_EN_FLOOR_BLOCK : Fld := { off := 0x50104, lo := 6, w := 1, typ := .rw, rst := 1 }
def FLT_TROUBLE_EN_CFG_LATE : Fld := { off := 0x50104, lo := 7, w := 1, typ := .rw, rst := 1 }
def FLT_TROUBLE_EN_EXPIRED_READ : Fld := { off := 0x50104, lo := 8, w := 1, typ := .rw, rst := 1 }
def FLT_TROUBLE_EN_STATE_ECC : Fld := { off := 0x50104, lo := 9, w := 1, typ := .rw, rst := 1 }
def FOL_ID_FOLIOS : Fld := { off := 0x70000, lo := 0, w := 8, typ := .ro, rst := 0x20 }
def FOL_ID_PAIRS : Fld := { off := 0x70000, lo := 8, w := 8, typ := .ro, rst := 0xc }
def FOL_ID_WINDOWS : Fld := { off := 0x70000, lo := 16, w := 8, typ := .ro, rst := 0xff }
def FOL_ID_BLOCK_REV : Fld := { off := 0x70000, lo := 24, w := 8, typ := .ro, rst := 1 }
def FOL_CTRL_ENABLE : Fld := { off := 0x70004, lo := 0, w := 1, typ := .rw }
def FOL_CTRL_CLEAR_COUNTERS : Fld := { off := 0x70004, lo := 1, w := 1, typ := .wo }
def FOL_STATUS_RUNNING : Fld := { off := 0x70008, lo := 0, w := 1, typ := .ro }
def FOL_STATUS_SUBSTITUTING : Fld := { off := 0x70008, lo := 1, w := 1, typ := .ro }
def FOL_STATUS_PAIRS_ACTIVE : Fld := { off := 0x70008, lo := 8, w := 4, typ := .ro }
def FOL_STATUS_SPARES_LEFT : Fld := { off := 0x70008, lo := 12, w := 4, typ := .ro }
def FOL_STATUS_HALTED : Fld := { off := 0x70008, lo := 16, w := 6, typ := .ro }
def FOL_SPARES_DESIGNATED : Fld := { off := 0x7000C, lo := 0, w := 12, typ := .ro, bnd := true }
def FOL_SPARES_AVAILABLE : Fld := { off := 0x7000C, lo := 16, w := 12, typ := .ro, bnd := true }
def FOL_PAIR_CMD_PAIR : Fld := { off := 0x70010, lo := 0, w := 4, typ := .rw }
def FOL_PAIR_CMD_OP : Fld := { off := 0x70010, lo := 4, w := 3, typ := .rw }
def FOL_PAIR_CMD_GO : Fld := { off := 0x70010, lo := 31, w := 1, typ := .wo }
def FOL_PAIR_CMD_STATUS_BUSY : Fld := { off := 0x70014, lo := 0, w := 1, typ := .ro }
def FOL_PAIR_CMD_STATUS_DONE : Fld := { off := 0x70014, lo := 1, w := 1, typ := .w1c }
def FOL_PAIR_CMD_STATUS_RESULT : Fld := { off := 0x70014, lo := 4, w := 4, typ := .ro }
def FOL_LAST_SUB_KIND : Fld := { off := 0x70018, lo := 0, w := 4, typ := .ro }
def FOL_LAST_SUB_FROM_PAIR : Fld := { off := 0x70018, lo := 4, w := 4, typ := .ro }
def FOL_LAST_SUB_TO_PAIR : Fld := { off := 0x70018, lo := 8, w := 4, typ := .ro }
def FOL_LAST_SUB_LOST_RUNS : Fld := { off := 0x70018, lo := 16, w := 8, typ := .ro }
def FOL_LAST_SUB_VALID : Fld := { off := 0x70018, lo := 31, w := 1, typ := .ro }
def FOL_LAST_SUB_FOLIOS : Fld := { off := 0x7001C, lo := 0, w := 32, typ := .ro }
def FOL_MISMATCHES : Fld := { off := 0x70020, lo := 0, w := 32, typ := .ro }
def FOL_MOVES : Fld := { off := 0x70024, lo := 0, w := 32, typ := .ro }
def FOL_FAULTS : Fld := { off := 0x70028, lo := 0, w := 32, typ := .ro }
def FOL_RESETS : Fld := { off := 0x7002C, lo := 0, w := 32, typ := .ro }
def FOL_SVC_LOST : Fld := { off := 0x70030, lo := 0, w := 32, typ := .ro }
def FOL_TBL_CTRL_TABLE_ID : Fld := { off := 0x70040, lo := 0, w := 16, typ := .rw }
def FOL_TBL_CTRL_INDEX : Fld := { off := 0x70040, lo := 16, w := 8, typ := .rw }
def FOL_TBL_CTRL_READ : Fld := { off := 0x70040, lo := 31, w := 1, typ := .wo }
def FOL_TBL_STATUS_BUSY : Fld := { off := 0x70044, lo := 0, w := 1, typ := .ro }
def FOL_TBL_STATUS_DONE : Fld := { off := 0x70044, lo := 1, w := 1, typ := .w1c }
def FOL_TBL_STATUS_BAD_ADDR : Fld := { off := 0x70044, lo := 2, w := 1, typ := .w1c }
def FOL_TBL_DATA : Fld := { off := 0x70060, lo := 0, w := 32, typ := .ro, rep := 8 }
def FOL_TROUBLE_MISMATCH : Fld := { off := 0x70100, lo := 0, w := 1, typ := .w1c }
def FOL_TROUBLE_SUBSTITUTED : Fld := { off := 0x70100, lo := 1, w := 1, typ := .w1c }
def FOL_TROUBLE_FALLBACK : Fld := { off := 0x70100, lo := 2, w := 1, typ := .w1c }
def FOL_TROUBLE_NO_PLACEMENT : Fld := { off := 0x70100, lo := 3, w := 1, typ := .w1c }
def FOL_TROUBLE_FOLIO_FAULT : Fld := { off := 0x70100, lo := 4, w := 1, typ := .w1c }
def FOL_TROUBLE_FOLIO_HALT : Fld := { off := 0x70100, lo := 5, w := 1, typ := .w1c }
def FOL_TROUBLE_BUDGET : Fld := { off := 0x70100, lo := 6, w := 1, typ := .w1c }
def FOL_TROUBLE_SVC_LOST : Fld := { off := 0x70100, lo := 7, w := 1, typ := .w1c }
def FOL_TROUBLE_RX_DROP : Fld := { off := 0x70100, lo := 8, w := 1, typ := .w1c }
def FOL_TROUBLE_RESTORE_FAIL : Fld := { off := 0x70100, lo := 9, w := 1, typ := .w1c }
def FOL_TROUBLE_EN_MISMATCH : Fld := { off := 0x70104, lo := 0, w := 1, typ := .rw, rst := 1 }
def FOL_TROUBLE_EN_SUBSTITUTED : Fld := { off := 0x70104, lo := 1, w := 1, typ := .rw, rst := 1 }
def FOL_TROUBLE_EN_FALLBACK : Fld := { off := 0x70104, lo := 2, w := 1, typ := .rw, rst := 1 }
def FOL_TROUBLE_EN_NO_PLACEMENT : Fld := { off := 0x70104, lo := 3, w := 1, typ := .rw, rst := 1 }
def FOL_TROUBLE_EN_FOLIO_FAULT : Fld := { off := 0x70104, lo := 4, w := 1, typ := .rw, rst := 1 }
def FOL_TROUBLE_EN_FOLIO_HALT : Fld := { off := 0x70104, lo := 5, w := 1, typ := .rw, rst := 1 }
def FOL_TROUBLE_EN_BUDGET : Fld := { off := 0x70104, lo := 6, w := 1, typ := .rw, rst := 1 }
def FOL_TROUBLE_EN_SVC_LOST : Fld := { off := 0x70104, lo := 7, w := 1, typ := .rw, rst := 1 }
def FOL_TROUBLE_EN_RX_DROP : Fld := { off := 0x70104, lo := 8, w := 1, typ := .rw, rst := 1 }
def FOL_TROUBLE_EN_RESTORE_FAIL : Fld := { off := 0x70104, lo := 9, w := 1, typ := .rw, rst := 1 }
def FOL_P_STATE : Fld := { off := 0x70800, lo := 0, w := 3, typ := .ro, cnt := 12, stride := 0x10, bnd := true }
def FOL_P_STATE_DESIGNATED : Fld := { off := 0x70800, lo := 3, w := 1, typ := .ro, cnt := 12, stride := 0x10, bnd := true }
def FOL_P_FOLIOS : Fld := { off := 0x70804, lo := 0, w := 32, typ := .ro, cnt := 12, stride := 0x10, bnd := true }
def FOL_P_CURRENT_FOLIO : Fld := { off := 0x70808, lo := 0, w := 5, typ := .ro, cnt := 12, stride := 0x10 }
def FOL_P_CURRENT_MODE : Fld := { off := 0x70808, lo := 5, w := 2, typ := .ro, cnt := 12, stride := 0x10 }
def FOL_P_CURRENT_PEND : Fld := { off := 0x70808, lo := 7, w := 1, typ := .ro, cnt := 12, stride := 0x10 }
def FOL_P_CURRENT_PEND_FOLIO : Fld := { off := 0x70808, lo := 8, w := 5, typ := .ro, cnt := 12, stride := 0x10 }
def FOL_P_KFAULT_FOLIO : Fld := { off := 0x7080C, lo := 0, w := 5, typ := .wo, cnt := 12, stride := 0x10 }
def FOL_P_KFAULT_CODE : Fld := { off := 0x7080C, lo := 8, w := 8, typ := .wo, cnt := 12, stride := 0x10 }
def FOL_P_KFAULT_GO : Fld := { off := 0x7080C, lo := 31, w := 1, typ := .wo, cnt := 12, stride := 0x10 }
def FOL_F_CTRL_YIELD : Fld := { off := 0x71000, lo := 0, w := 1, typ := .wo, cnt := 32, stride := 0x40 }
def FOL_F_CTRL_RESET : Fld := { off := 0x71000, lo := 1, w := 1, typ := .wo, cnt := 32, stride := 0x40 }
def FOL_F_CTRL_HALT : Fld := { off := 0x71000, lo := 2, w := 1, typ := .wo, cnt := 32, stride := 0x40 }
def FOL_F_CTRL_RESUME : Fld := { off := 0x71000, lo := 3, w := 1, typ := .wo, cnt := 32, stride := 0x40 }
def FOL_F_STATUS_STATE : Fld := { off := 0x71004, lo := 0, w := 4, typ := .ro, cnt := 32, stride := 0x40 }
def FOL_F_STATUS_PAIR : Fld := { off := 0x71004, lo := 4, w := 4, typ := .ro, cnt := 32, stride := 0x40, bnd := true }
def FOL_F_STATUS_ON_SPARE : Fld := { off := 0x71004, lo := 8, w := 1, typ := .ro, cnt := 32, stride := 0x40 }
def FOL_F_STATUS_ON_FALLBACK : Fld := { off := 0x71004, lo := 9, w := 1, typ := .ro, cnt := 32, stride := 0x40 }
def FOL_F_STATUS_HALT_CAUSE : Fld := { off := 0x71004, lo := 12, w := 3, typ := .ro, cnt := 32, stride := 0x40 }
def FOL_F_FAULT_CAUSE : Fld := { off := 0x71008, lo := 0, w := 8, typ := .ro, cnt := 32, stride := 0x40 }
def FOL_F_FAULT_RUN : Fld := { off := 0x71008, lo := 8, w := 4, typ := .ro, cnt := 32, stride := 0x40 }
def FOL_F_FAULT_ACTION : Fld := { off := 0x71008, lo := 12, w := 2, typ := .ro, cnt := 32, stride := 0x40 }
def FOL_F_FAULT_VALID : Fld := { off := 0x71008, lo := 31, w := 1, typ := .w1c, cnt := 32, stride := 0x40 }
def FOL_F_FAULT_ADDR : Fld := { off := 0x7100C, lo := 0, w := 64, typ := .ro, cnt := 32, stride := 0x40 }
def FOL_F_RX_PTR_HEAD : Fld := { off := 0x71014, lo := 0, w := 16, typ := .ro, cnt := 32, stride := 0x40 }
def FOL_F_RX_PTR_TAIL : Fld := { off := 0x71014, lo := 16, w := 16, typ := .rw, cnt := 32, stride := 0x40 }
def FOL_F_TX_PTR_HEAD : Fld := { off := 0x71018, lo := 0, w := 16, typ := .ro, cnt := 32, stride := 0x40 }
def FOL_F_TX_PTR_TAIL : Fld := { off := 0x71018, lo := 16, w := 16, typ := .rw, cnt := 32, stride := 0x40 }
def FOL_F_RING_CFG_RX_LOG2 : Fld := { off := 0x7101C, lo := 0, w := 4, typ := .ro, cnt := 32, stride := 0x40, bnd := true }
def FOL_F_RING_CFG_TX_LOG2 : Fld := { off := 0x7101C, lo := 4, w := 4, typ := .ro, cnt := 32, stride := 0x40, bnd := true }
def FOL_F_RING_CFG_RX_DROP : Fld := { off := 0x7101C, lo := 16, w := 16, typ := .ro, cnt := 32, stride := 0x40 }
def FOL_F_PLACE_HOME : Fld := { off := 0x71020, lo := 0, w := 4, typ := .ro, cnt := 32, stride := 0x40, bnd := true }
def FOL_F_PLACE_FALLBACK : Fld := { off := 0x71020, lo := 4, w := 4, typ := .ro, cnt := 32, stride := 0x40, bnd := true }
def FOL_F_PLACE_PRIORITY : Fld := { off := 0x71020, lo := 8, w := 3, typ := .ro, cnt := 32, stride := 0x40, bnd := true }
def FOL_F_PLACE_BACKGROUND : Fld := { off := 0x71020, lo := 11, w := 1, typ := .ro, cnt := 32, stride := 0x40, bnd := true }
def FOL_F_PLACE_PROV : Fld := { off := 0x71020, lo := 12, w := 1, typ := .ro, cnt := 32, stride := 0x40, bnd := true }
def FOL_F_PLACE_L3_UNITS : Fld := { off := 0x71020, lo := 16, w := 7, typ := .ro, cnt := 32, stride := 0x40, bnd := true }
def FOL_F_BUDGET_BUDGET_US : Fld := { off := 0x71024, lo := 0, w := 16, typ := .ro, cnt := 32, stride := 0x40, bnd := true }
def FOL_F_BUDGET_LAST_RUN_US : Fld := { off := 0x71024, lo := 16, w := 16, typ := .ro, cnt := 32, stride := 0x40 }
def FOL_F_TRIGGER_TRIG_STREAM : Fld := { off := 0x71028, lo := 0, w := 9, typ := .ro, cnt := 32, stride := 0x40, bnd := true }
def FOL_F_TRIGGER_DEADLINE_US : Fld := { off := 0x71028, lo := 16, w := 16, typ := .ro, cnt := 32, stride := 0x40, bnd := true }
def FOL_F_COUNT_FAULTS : Fld := { off := 0x7102C, lo := 0, w := 16, typ := .ro, cnt := 32, stride := 0x40 }
def FOL_F_COUNT_RESETS : Fld := { off := 0x7102C, lo := 16, w := 16, typ := .ro, cnt := 32, stride := 0x40 }
def LGE_ID_STITCH_LOG2 : Fld := { off := 0x90000, lo := 0, w := 8, typ := .ro, rst := 0x10 }
def LGE_ID_FORCES : Fld := { off := 0x90000, lo := 8, w := 8, typ := .ro, rst := 0xff }
def LGE_ID_IMAGE_KIB : Fld := { off := 0x90000, lo := 16, w := 8, typ := .ro, rst := 0x2c }
def LGE_ID_BLOCK_REV : Fld := { off := 0x90000, lo := 24, w := 8, typ := .ro, rst := 1 }
def LGE_CTRL_ENABLE : Fld := { off := 0x90004, lo := 0, w := 1, typ := .rw }
def LGE_CTRL_RESTART : Fld := { off := 0x90004, lo := 1, w := 1, typ := .wo }
def LGE_CTRL_CLEAR_COUNTERS : Fld := { off := 0x90004, lo := 2, w := 1, typ := .wo }
def LGE_CTRL_CLEAR_PEAKS : Fld := { off := 0x90004, lo := 3, w := 1, typ := .wo }
def LGE_STATUS_STATE : Fld := { off := 0x90008, lo := 0, w := 2, typ := .ro }
def LGE_STATUS_PHASE : Fld := { off := 0x90008, lo := 2, w := 3, typ := .ro }
def LGE_STATUS_STALLED : Fld := { off := 0x90008, lo := 5, w := 1, typ := .ro }
def LGE_STATUS_TIPIN_PENDING : Fld := { off := 0x90008, lo := 6, w := 1, typ := .ro }
def LGE_STATUS_FORCES : Fld := { off := 0x90008, lo := 8, w := 9, typ := .ro }
def LGE_SCAN_CFG_PERIOD_US : Fld := { off := 0x9000C, lo := 0, w := 16, typ := .rw, bnd := true }
def LGE_SCAN_CFG_BUDGET_US : Fld := { off := 0x9000C, lo := 16, w := 16, typ := .rw, bnd := true }
def LGE_OVERRUN_CFG_OVERRUN_MAX : Fld := { off := 0x90010, lo := 0, w := 8, typ := .rw, bnd := true }
def LGE_SCAN_NO : Fld := { off := 0x90018, lo := 0, w := 64, typ := .ro }
def LGE_SCAN_TIME_LAST : Fld := { off := 0x90020, lo := 0, w := 16, typ := .ro }
def LGE_SCAN_TIME_PEAK : Fld := { off := 0x90020, lo := 16, w := 16, typ := .ro }
def LGE_SCAN_DELTA_LAST_DELTA : Fld := { off := 0x90024, lo := 0, w := 16, typ := .ro }
def LGE_SCAN_DELTA_MAX_DELTA : Fld := { off := 0x90024, lo := 16, w := 16, typ := .ro }
def LGE_LAST_OVERRUN_STITCH : Fld := { off := 0x90028, lo := 0, w := 16, typ := .ro }
def LGE_LAST_OVERRUN_CONSEC : Fld := { off := 0x90028, lo := 16, w := 8, typ := .ro }
def LGE_LAST_OVERRUN_VALID : Fld := { off := 0x90028, lo := 31, w := 1, typ := .ro }
def LGE_SCANS : Fld := { off := 0x90030, lo := 0, w := 32, typ := .ro }
def LGE_OVERRUNS : Fld := { off := 0x90034, lo := 0, w := 32, typ := .ro }
def LGE_EVT_DROP : Fld := { off := 0x90038, lo := 0, w := 32, typ := .ro }
def LGE_FORCE_OPS : Fld := { off := 0x9003C, lo := 0, w := 32, typ := .ro }
def LGE_FORCE_ID : Fld := { off := 0x90040, lo := 0, w := 32, typ := .rw }
def LGE_FORCE_VALUE : Fld := { off := 0x90044, lo := 0, w := 32, typ := .rw }
def LGE_FORCE_CTRL_OP : Fld := { off := 0x90048, lo := 0, w := 2, typ := .rw }
def LGE_FORCE_CTRL_GO : Fld := { off := 0x90048, lo := 31, w := 1, typ := .wo }
def LGE_FORCE_STATUS_BUSY : Fld := { off := 0x9004C, lo := 0, w := 1, typ := .ro }
def LGE_FORCE_STATUS_DONE : Fld := { off := 0x9004C, lo := 1, w := 1, typ := .w1c }
def LGE_FORCE_STATUS_RESULT : Fld := { off := 0x9004C, lo := 4, w := 4, typ := .ro }
def LGE_FORCE_STATUS_SLOT : Fld := { off := 0x9004C, lo := 8, w := 8, typ := .ro }
def LGE_TBL_CTRL_TABLE_ID : Fld := { off := 0x90060, lo := 0, w := 16, typ := .rw }
def LGE_TBL_CTRL_READ : Fld := { off := 0x90060, lo := 31, w := 1, typ := .wo }
def LGE_TBL_STATUS_BUSY : Fld := { off := 0x90064, lo := 0, w := 1, typ := .ro }
def LGE_TBL_STATUS_DONE : Fld := { off := 0x90064, lo := 1, w := 1, typ := .w1c }
def LGE_TBL_STATUS_BAD_ADDR : Fld := { off := 0x90064, lo := 2, w := 1, typ := .w1c }
def LGE_TBL_INDEX : Fld := { off := 0x90068, lo := 0, w := 16, typ := .rw }
def LGE_TBL_DATA : Fld := { off := 0x90070, lo := 0, w := 32, typ := .ro, rep := 8 }
def LGE_TROUBLE_OVERRUN : Fld := { off := 0x90100, lo := 0, w := 1, typ := .w1c }
def LGE_TROUBLE_STALLED : Fld := { off := 0x90100, lo := 1, w := 1, typ := .w1c }
def LGE_TROUBLE_EVT_DROP : Fld := { off := 0x90100, lo := 2, w := 1, typ := .w1c }
def LGE_TROUBLE_FORCE_CHANGE : Fld := { off := 0x90100, lo := 3, w := 1, typ := .w1c }
def LGE_TROUBLE_FORCE_DROPPED : Fld := { off := 0x90100, lo := 4, w := 1, typ := .w1c }
def LGE_TROUBLE_IMAGE_ECC : Fld := { off := 0x90100, lo := 5, w := 1, typ := .w1c }
def LGE_TROUBLE_IMAGE_REFUSED : Fld := { off := 0x90100, lo := 6, w := 1, typ := .w1c }
def LGE_TROUBLE_RESTARTED : Fld := { off := 0x90100, lo := 7, w := 1, typ := .w1c }
def LGE_TROUBLE_EN_OVERRUN : Fld := { off := 0x90104, lo := 0, w := 1, typ := .rw, rst := 1 }
def LGE_TROUBLE_EN_STALLED : Fld := { off := 0x90104, lo := 1, w := 1, typ := .rw, rst := 1 }
def LGE_TROUBLE_EN_EVT_DROP : Fld := { off := 0x90104, lo := 2, w := 1, typ := .rw, rst := 1 }
def LGE_TROUBLE_EN_FORCE_CHANGE : Fld := { off := 0x90104, lo := 3, w := 1, typ := .rw, rst := 1 }
def LGE_TROUBLE_EN_FORCE_DROPPED : Fld := { off := 0x90104, lo := 4, w := 1, typ := .rw, rst := 1 }
def LGE_TROUBLE_EN_IMAGE_ECC : Fld := { off := 0x90104, lo := 5, w := 1, typ := .rw, rst := 1 }
def LGE_TROUBLE_EN_IMAGE_REFUSED : Fld := { off := 0x90104, lo := 6, w := 1, typ := .rw, rst := 1 }
def LGE_TROUBLE_EN_RESTARTED : Fld := { off := 0x90104, lo := 7, w := 1, typ := .rw, rst := 1 }
def SWC_ID_PORTS : Fld := { off := 0xA0000, lo := 0, w := 8, typ := .ro, rst := 0x14 }
def SWC_ID_CLASSES : Fld := { off := 0xA0000, lo := 8, w := 8, typ := .ro, rst := 8 }
def SWC_ID_CELLS_LOG2 : Fld := { off := 0xA0000, lo := 16, w := 8, typ := .ro, rst := 0x11 }
def SWC_ID_BLOCK_REV : Fld := { off := 0xA0000, lo := 24, w := 8, typ := .ro, rst := 1 }
def SWC_CTRL_ENABLE : Fld := { off := 0xA0004, lo := 0, w := 1, typ := .rw }
def SWC_CTRL_CT_EN : Fld := { off := 0xA0004, lo := 1, w := 1, typ := .rw, bnd := true }
def SWC_CTRL_TC_EN : Fld := { off := 0xA0004, lo := 2, w := 1, typ := .rw, bnd := true }
def SWC_CTRL_CLEAR_COUNTERS : Fld := { off := 0xA0004, lo := 3, w := 1, typ := .wo }
def SWC_CTRL_CLEAR_PEAKS : Fld := { off := 0xA0004, lo := 4, w := 1, typ := .wo }
def SWC_STATUS_RUNNING : Fld := { off := 0xA0008, lo := 0, w := 1, typ := .ro }
def SWC_STATUS_PORTS_HOLD : Fld := { off := 0xA0008, lo := 8, w := 5, typ := .ro }
def SWC_STATUS_PORTS_DOWN : Fld := { off := 0xA0008, lo := 16, w := 5, typ := .ro }
def SWC_BUF_FREE : Fld := { off := 0xA000C, lo := 0, w := 18, typ := .ro, rst := 0x20000 }
def SWC_BUF_PEAK_PEAK_USED : Fld := { off := 0xA0010, lo := 0, w := 18, typ := .ro }
def SWC_CT_CFG_CT_LEAD_NS : Fld := { off := 0xA0014, lo := 0, w := 8, typ := .rw, bnd := true }
def SWC_CT_CFG_CT_MIN_CELLS : Fld := { off := 0xA0014, lo := 8, w := 4, typ := .rw, bnd := true }
def SWC_TC_CFG_DOMAIN : Fld := { off := 0xA0018, lo := 0, w := 8, typ := .rw, bnd := true }
def SWC_RED_PAIR_PORT_A : Fld := { off := 0xA0020, lo := 0, w := 4, typ := .rwlB, cnt := 6, stride := 0x4, bnd := true }
def SWC_RED_PAIR_PORT_B : Fld := { off := 0xA0020, lo := 4, w := 4, typ := .rwlB, cnt := 6, stride := 0x4, bnd := true }
def SWC_RED_PAIR_MODE : Fld := { off := 0xA0020, lo := 8, w := 2, typ := .rwlB, cnt := 6, stride := 0x4, bnd := true }
def SWC_RED_PAIR_NET_ID : Fld := { off := 0xA0020, lo := 12, w := 3, typ := .rwlB, cnt := 6, stride := 0x4, bnd := true }
def SWC_RED_PAIR_SUP_MS : Fld := { off := 0xA0020, lo := 16, w := 16, typ := .rwlB, cnt := 6, stride := 0x4, bnd := true }
def SWC_RUNT : Fld := { off := 0xA0040, lo := 0, w := 32, typ := .ro }
def SWC_OVERSIZE : Fld := { off := 0xA0044, lo := 0, w := 32, typ := .ro }
def SWC_FCS_DROP : Fld := { off := 0xA0048, lo := 0, w := 32, typ := .ro }
def SWC_RX_STOMPED : Fld := { off := 0xA004C, lo := 0, w := 32, typ := .ro }
def SWC_STOMP_FCS : Fld := { off := 0xA0050, lo := 0, w := 32, typ := .ro }
def SWC_STOMP_LONG : Fld := { off := 0xA0054, lo := 0, w := 32, typ := .ro }
def SWC_STOMP_ECC : Fld := { off := 0xA0058, lo := 0, w := 32, typ := .ro }
def SWC_PUSHOUT : Fld := { off := 0xA005C, lo := 0, w := 32, typ := .ro }
def SWC_BUF_DROP : Fld := { off := 0xA0060, lo := 0, w := 32, typ := .ro }
def SWC_QCAP_DROP : Fld := { off := 0xA0064, lo := 0, w := 32, typ := .ro }
def SWC_LATE_DROP : Fld := { off := 0xA0068, lo := 0, w := 32, typ := .ro }
def SWC_DOWN_DROP : Fld := { off := 0xA006C, lo := 0, w := 32, typ := .ro }
def SWC_NO_DEST : Fld := { off := 0xA0070, lo := 0, w := 32, typ := .ro }
def SWC_VLAN_DROP : Fld := { off := 0xA0074, lo := 0, w := 32, typ := .ro }
def SWC_HSR_DUP : Fld := { off := 0xA0078, lo := 0, w := 32, typ := .ro }
def SWC_SUPERVISION : Fld := { off := 0xA007C, lo := 0, w := 32, typ := .ro }
def SWC_ECC_DROP : Fld := { off := 0xA0080, lo := 0, w := 32, typ := .ro }
def SWC_ECC_CORR : Fld := { off := 0xA0084, lo := 0, w := 32, typ := .ro }
def SWC_TBL_CTRL_TABLE_ID : Fld := { off := 0xA0090, lo := 0, w := 16, typ := .rw }
def SWC_TBL_CTRL_INDEX : Fld := { off := 0xA0090, lo := 16, w := 13, typ := .rw }
def SWC_TBL_CTRL_READ : Fld := { off := 0xA0090, lo := 31, w := 1, typ := .wo }
def SWC_TBL_STATUS_BUSY : Fld := { off := 0xA0094, lo := 0, w := 1, typ := .ro }
def SWC_TBL_STATUS_DONE : Fld := { off := 0xA0094, lo := 1, w := 1, typ := .w1c }
def SWC_TBL_STATUS_BAD_ADDR : Fld := { off := 0xA0094, lo := 2, w := 1, typ := .w1c }
def SWC_TBL_DATA : Fld := { off := 0xA00A0, lo := 0, w := 32, typ := .ro, rep := 8 }
def SWC_TROUBLE_LOCKED_WRITE : Fld := { off := 0xA0100, lo := 0, w := 1, typ := .w1c }
def SWC_TROUBLE_STOMP : Fld := { off := 0xA0100, lo := 1, w := 1, typ := .w1c }
def SWC_TROUBLE_PUSHOUT : Fld := { off := 0xA0100, lo := 2, w := 1, typ := .w1c }
def SWC_TROUBLE_BUF_DROP : Fld := { off := 0xA0100, lo := 3, w := 1, typ := .w1c }
def SWC_TROUBLE_LATE_DROP : Fld := { off := 0xA0100, lo := 4, w := 1, typ := .w1c }
def SWC_TROUBLE_LINK_HOLD : Fld := { off := 0xA0100, lo := 5, w := 1, typ := .w1c }
def SWC_TROUBLE_FLUSH : Fld := { off := 0xA0100, lo := 6, w := 1, typ := .w1c }
def SWC_TROUBLE_ECC : Fld := { off := 0xA0100, lo := 7, w := 1, typ := .w1c }
def SWC_TROUBLE_LENGTH : Fld := { off := 0xA0100, lo := 8, w := 1, typ := .w1c }
def SWC_TROUBLE_EN_LOCKED_WRITE : Fld := { off := 0xA0104, lo := 0, w := 1, typ := .rw, rst := 1 }
def SWC_TROUBLE_EN_STOMP : Fld := { off := 0xA0104, lo := 1, w := 1, typ := .rw, rst := 1 }
def SWC_TROUBLE_EN_PUSHOUT : Fld := { off := 0xA0104, lo := 2, w := 1, typ := .rw, rst := 1 }
def SWC_TROUBLE_EN_BUF_DROP : Fld := { off := 0xA0104, lo := 3, w := 1, typ := .rw, rst := 1 }
def SWC_TROUBLE_EN_LATE_DROP : Fld := { off := 0xA0104, lo := 4, w := 1, typ := .rw, rst := 1 }
def SWC_TROUBLE_EN_LINK_HOLD : Fld := { off := 0xA0104, lo := 5, w := 1, typ := .rw, rst := 1 }
def SWC_TROUBLE_EN_FLUSH : Fld := { off := 0xA0104, lo := 6, w := 1, typ := .rw, rst := 1 }
def SWC_TROUBLE_EN_ECC : Fld := { off := 0xA0104, lo := 7, w := 1, typ := .rw, rst := 1 }
def SWC_TROUBLE_EN_LENGTH : Fld := { off := 0xA0104, lo := 8, w := 1, typ := .rw, rst := 1 }
def SWC_P_STATE : Fld := { off := 0xA1000, lo := 0, w := 2, typ := .ro, cnt := 20, stride := 0x40 }
def SWC_P_STATE_SENDING : Fld := { off := 0xA1000, lo := 2, w := 1, typ := .ro, cnt := 20, stride := 0x40 }
def SWC_P_STATE_HOLD_LEFT : Fld := { off := 0xA1000, lo := 16, w := 10, typ := .ro, cnt := 20, stride := 0x40 }
def SWC_P_QDEPTH_DEPTH_LO : Fld := { off := 0xA1004, lo := 0, w := 16, typ := .ro, cnt := 20, stride := 0x40, rep := 4 }
def SWC_P_QDEPTH_DEPTH_HI : Fld := { off := 0xA1004, lo := 16, w := 16, typ := .ro, cnt := 20, stride := 0x40, rep := 4 }
def SWC_P_FLUSH : Fld := { off := 0xA1014, lo := 0, w := 32, typ := .ro, cnt := 20, stride := 0x40 }
def SWC_P_ABORT : Fld := { off := 0xA1018, lo := 0, w := 32, typ := .ro, cnt := 20, stride := 0x40 }
def SWC_P_CT : Fld := { off := 0xA101C, lo := 0, w := 32, typ := .ro, cnt := 20, stride := 0x40 }
def SWC_P_HOLDS : Fld := { off := 0xA1020, lo := 0, w := 16, typ := .ro, cnt := 20, stride := 0x40 }
def SWC_P_HOLDS_EXPIRIES : Fld := { off := 0xA1020, lo := 16, w := 16, typ := .ro, cnt := 20, stride := 0x40 }
def SWC_P_PUSHED : Fld := { off := 0xA1024, lo := 0, w := 32, typ := .ro, cnt := 20, stride := 0x40 }
def MAC_P_ID_PORT : Fld := { off := 0xC0000, lo := 0, w := 5, typ := .ro, cnt := 20, stride := 0x1000 }
def MAC_P_ID_KIND : Fld := { off := 0xC0000, lo := 5, w := 3, typ := .ro, cnt := 20, stride := 0x1000 }
def MAC_P_ID_PREEMPT : Fld := { off := 0xC0000, lo := 8, w := 1, typ := .ro, cnt := 20, stride := 0x1000 }
def MAC_P_ID_PAUSE : Fld := { off := 0xC0000, lo := 9, w := 1, typ := .ro, cnt := 20, stride := 0x1000 }
def MAC_P_ID_TS_HW : Fld := { off := 0xC0000, lo := 10, w := 1, typ := .ro, cnt := 20, stride := 0x1000 }
def MAC_P_ID_CSMACD : Fld := { off := 0xC0000, lo := 11, w := 1, typ := .ro, cnt := 20, stride := 0x1000 }
def MAC_P_ID_BLOCK_REV : Fld := { off := 0xC0000, lo := 24, w := 8, typ := .ro, rst := 1, cnt := 20, stride := 0x1000 }
def MAC_P_CFG_SPEED : Fld := { off := 0xC0004, lo := 0, w := 3, typ := .rwlB, cnt := 20, stride := 0x1000 }
def MAC_P_CFG_AN_EN : Fld := { off := 0xC0004, lo := 3, w := 1, typ := .rwlB, cnt := 20, stride := 0x1000 }
def MAC_P_CFG_FEC_EN : Fld := { off := 0xC0004, lo := 4, w := 1, typ := .rwlB, cnt := 20, stride := 0x1000 }
def MAC_P_CFG_MAX_LEN : Fld := { off := 0xC0004, lo := 16, w := 14, typ := .rwlB, rst := 0x5f8, cnt := 20, stride := 0x1000 }
def MAC_P_LINK_CFG_HOLD_MS : Fld := { off := 0xC0008, lo := 0, w := 7, typ := .rwlB, rst := 5, cnt := 20, stride := 0x1000 }
def MAC_P_LINK_CFG_LINK_QUAL_US : Fld := { off := 0xC0008, lo := 16, w := 10, typ := .rwlB, rst := 0x64, cnt := 20, stride := 0x1000 }
def MAC_P_CTRL_PORT_EN : Fld := { off := 0xC000C, lo := 0, w := 1, typ := .rw, rst := 1, cnt := 20, stride := 0x1000 }
def MAC_P_CTRL_VERIFY_RESTART : Fld := { off := 0xC000C, lo := 1, w := 1, typ := .wo, cnt := 20, stride := 0x1000 }
def MAC_P_CTRL_CLEAR_COUNTERS : Fld := { off := 0xC000C, lo := 2, w := 1, typ := .wo, cnt := 20, stride := 0x1000 }
def MAC_P_STATUS_LINK : Fld := { off := 0xC0010, lo := 0, w := 1, typ := .ro, cnt := 20, stride := 0x1000 }
def MAC_P_STATUS_LOCK : Fld := { off := 0xC0010, lo := 1, w := 1, typ := .ro, cnt := 20, stride := 0x1000 }
def MAC_P_STATUS_SENDING : Fld := { off := 0xC0010, lo := 2, w := 1, typ := .ro, cnt := 20, stride := 0x1000 }
def MAC_P_STATUS_SFP_PRESENT : Fld := { off := 0xC0010, lo := 3, w := 1, typ := .ro, cnt := 20, stride := 0x1000 }
def MAC_P_STATUS_SFP_LOS : Fld := { off := 0xC0010, lo := 4, w := 1, typ := .ro, cnt := 20, stride := 0x1000 }
def MAC_P_STATUS_SFP_TX_FAULT : Fld := { off := 0xC0010, lo := 5, w := 1, typ := .ro, cnt := 20, stride := 0x1000 }
def MAC_P_STATUS_PREEMPT_ACTIVE : Fld := { off := 0xC0010, lo := 6, w := 1, typ := .ro, cnt := 20, stride := 0x1000 }
def MAC_P_STATUS_CARRIER : Fld := { off := 0xC0010, lo := 7, w := 1, typ := .ro, cnt := 20, stride := 0x1000 }
def MAC_P_PREEMPT_PREEMPT_EN : Fld := { off := 0xC0014, lo := 0, w := 1, typ := .rwlB, cnt := 20, stride := 0x1000 }
def MAC_P_PREEMPT_VERIFY_DIS : Fld := { off := 0xC0014, lo := 1, w := 1, typ := .rwlB, cnt := 20, stride := 0x1000 }
def MAC_P_PREEMPT_ADD_FRAG : Fld := { off := 0xC0014, lo := 2, w := 2, typ := .rwlB, cnt := 20, stride := 0x1000 }
def MAC_P_PREEMPT_EXPRESS_MASK : Fld := { off := 0xC0014, lo := 8, w := 8, typ := .rwlB, cnt := 20, stride := 0x1000 }
def MAC_P_PREEMPT_VERIFY_MS : Fld := { off := 0xC0014, lo := 16, w := 8, typ := .rwlB, rst := 0xa, cnt := 20, stride := 0x1000 }
def MAC_P_PREEMPT_STATUS_VERIFY : Fld := { off := 0xC0018, lo := 0, w := 3, typ := .ro, cnt := 20, stride := 0x1000 }
def MAC_P_PREEMPT_STATUS_ATTEMPTS : Fld := { off := 0xC0018, lo := 3, w := 2, typ := .ro, cnt := 20, stride := 0x1000 }
def MAC_P_PAUSE_RX_PAUSE_EN : Fld := { off := 0xC001C, lo := 0, w := 1, typ := .rwlB, cnt := 20, stride := 0x1000 }
def MAC_P_PAUSE_TX_PAUSE_EN : Fld := { off := 0xC001C, lo := 1, w := 1, typ := .rwlB, cnt := 20, stride := 0x1000 }
def MAC_P_PAUSE_EXEMPT_MASK : Fld := { off := 0xC001C, lo := 8, w := 8, typ := .rwlB, cnt := 20, stride := 0x1000 }
def MAC_P_PAUSE_PAUSE_QUANTA : Fld := { off := 0xC001C, lo := 16, w := 16, typ := .rwlB, rst := 0xffff, cnt := 20, stride := 0x1000 }
def MAC_P_PAUSE_THR_XOFF_CELLS : Fld := { off := 0xC0020, lo := 0, w := 13, typ := .rwlB, rst := 0x400, cnt := 20, stride := 0x1000 }
def MAC_P_PAUSE_THR_XON_CELLS : Fld := { off := 0xC0020, lo := 16, w := 13, typ := .rwlB, rst := 0x200, cnt := 20, stride := 0x1000 }
def MAC_P_PAUSE_STATUS_RX_LEFT : Fld := { off := 0xC0024, lo := 0, w := 16, typ := .ro, cnt := 20, stride := 0x1000 }
def MAC_P_PAUSE_STATUS_XOFF : Fld := { off := 0xC0024, lo := 16, w := 1, typ := .ro, cnt := 20, stride := 0x1000 }
def MAC_P_WAKE_CFG_WAKE_EN : Fld := { off := 0xC0028, lo := 0, w := 1, typ := .rw, rst := 1, cnt := 20, stride := 0x1000 }
def MAC_P_WAKE_CFG_WAKE_BCAST : Fld := { off := 0xC0028, lo := 1, w := 1, typ := .rw, rst := 1, cnt := 20, stride := 0x1000 }
def MAC_P_WAKE_CFG_DA_HI : Fld := { off := 0xC0028, lo := 16, w := 16, typ := .rw, cnt := 20, stride := 0x1000 }
def MAC_P_WAKE_STATUS_WAKE : Fld := { off := 0xC002C, lo := 0, w := 1, typ := .w1c, cnt := 20, stride := 0x1000 }
def MAC_P_WAKE_STATUS_WAKE_OVERRUN : Fld := { off := 0xC002C, lo := 1, w := 1, typ := .w1c, cnt := 20, stride := 0x1000 }
def MAC_P_WAKE_CODE : Fld := { off := 0xC0030, lo := 0, w := 32, typ := .ro, cnt := 20, stride := 0x1000 }
def MAC_P_WAKE_DA_LO : Fld := { off := 0xC0034, lo := 0, w := 32, typ := .rw, cnt := 20, stride := 0x1000 }
def MAC_P_WAKE_SRC : Fld := { off := 0xC0038, lo := 0, w := 32, typ := .ro, cnt := 20, stride := 0x1000 }
def MAC_P_WAKE_SRC_HI : Fld := { off := 0xC003C, lo := 16, w := 16, typ := .ro, cnt := 20, stride := 0x1000 }
def MAC_P_RX_FRAMES : Fld := { off := 0xC0040, lo := 0, w := 32, typ := .ro, cnt := 20, stride := 0x1000 }
def MAC_P_RX_OCTETS : Fld := { off := 0xC0044, lo := 0, w := 64, typ := .ro, cnt := 20, stride := 0x1000 }
def MAC_P_RX_FCS_ERR : Fld := { off := 0xC004C, lo := 0, w := 32, typ := .ro, cnt := 20, stride := 0x1000 }
def MAC_P_RX_SYMBOL_ERR : Fld := { off := 0xC0050, lo := 0, w := 32, typ := .ro, cnt := 20, stride := 0x1000 }
def MAC_P_RX_JABBER : Fld := { off := 0xC0054, lo := 0, w := 32, typ := .ro, cnt := 20, stride := 0x1000 }
def MAC_P_RX_PAUSE : Fld := { off := 0xC0058, lo := 0, w := 32, typ := .ro, cnt := 20, stride := 0x1000 }
def MAC_P_RX_CONTROL : Fld := { off := 0xC005C, lo := 0, w := 32, typ := .ro, cnt := 20, stride := 0x1000 }
def MAC_P_RX_SMD_ERR : Fld := { off := 0xC0060, lo := 0, w := 32, typ := .ro, cnt := 20, stride := 0x1000 }
def MAC_P_RX_ASSY_ERR : Fld := { off := 0xC0064, lo := 0, w := 32, typ := .ro, cnt := 20, stride := 0x1000 }
def MAC_P_RX_ASSY_OK : Fld := { off := 0xC0068, lo := 0, w := 32, typ := .ro, cnt := 20, stride := 0x1000 }
def MAC_P_RX_FRAGMENTS : Fld := { off := 0xC006C, lo := 0, w := 32, typ := .ro, cnt := 20, stride := 0x1000 }
def MAC_P_RX_WAKE : Fld := { off := 0xC0070, lo := 0, w := 32, typ := .ro, cnt := 20, stride := 0x1000 }
def MAC_P_TX_DEFERRED : Fld := { off := 0xC0074, lo := 0, w := 32, typ := .ro, cnt := 20, stride := 0x1000 }
def MAC_P_TX_FRAMES : Fld := { off := 0xC0078, lo := 0, w := 32, typ := .ro, cnt := 20, stride := 0x1000 }
def MAC_P_TX_OCTETS : Fld := { off := 0xC007C, lo := 0, w := 64, typ := .ro, cnt := 20, stride := 0x1000 }
def MAC_P_TX_EXPRESS : Fld := { off := 0xC0084, lo := 0, w := 32, typ := .ro, cnt := 20, stride := 0x1000 }
def MAC_P_TX_PREEMPTABLE : Fld := { off := 0xC0088, lo := 0, w := 32, typ := .ro, cnt := 20, stride := 0x1000 }
def MAC_P_TX_FRAGMENTS : Fld := { off := 0xC008C, lo := 0, w := 32, typ := .ro, cnt := 20, stride := 0x1000 }
def MAC_P_TX_PREEMPTIONS : Fld := { off := 0xC0090, lo := 0, w := 32, typ := .ro, cnt := 20, stride := 0x1000 }
def MAC_P_TX_PAUSE : Fld := { off := 0xC0094, lo := 0, w := 32, typ := .ro, cnt := 20, stride := 0x1000 }
def MAC_P_TX_STOMPED : Fld := { off := 0xC0098, lo := 0, w := 32, typ := .ro, cnt := 20, stride := 0x1000 }
def MAC_P_PAUSED_US : Fld := { off := 0xC009C, lo := 0, w := 32, typ := .ro, cnt := 20, stride := 0x1000 }
def MAC_P_LINK_LOSSES : Fld := { off := 0xC00A0, lo := 0, w := 32, typ := .ro, cnt := 20, stride := 0x1000 }
def MAC_P_VERIFY_SENT : Fld := { off := 0xC00A4, lo := 0, w := 32, typ := .ro, cnt := 20, stride := 0x1000 }
def MAC_P_COLLISIONS : Fld := { off := 0xC00A8, lo := 0, w := 32, typ := .ro, cnt := 20, stride := 0x1000 }
def MAC_P_LATE_COLL : Fld := { off := 0xC00AC, lo := 0, w := 32, typ := .ro, cnt := 20, stride := 0x1000 }
def MAC_P_EXCESS_COLL : Fld := { off := 0xC00B0, lo := 0, w := 32, typ := .ro, cnt := 20, stride := 0x1000 }
def MAC_P_TS_LAT_RX_LAT : Fld := { off := 0xC00B4, lo := 0, w := 16, typ := .ro, cnt := 20, stride := 0x1000 }
def MAC_P_TS_LAT_TX_LAT : Fld := { off := 0xC00B4, lo := 16, w := 16, typ := .ro, cnt := 20, stride := 0x1000 }
def MAC_P_TROUBLE_LOCKED_WRITE : Fld := { off := 0xC00B8, lo := 0, w := 1, typ := .w1c, cnt := 20, stride := 0x1000 }
def MAC_P_TROUBLE_LINK_LOSS : Fld := { off := 0xC00B8, lo := 1, w := 1, typ := .w1c, cnt := 20, stride := 0x1000 }
def MAC_P_TROUBLE_FCS_ERR : Fld := { off := 0xC00B8, lo := 2, w := 1, typ := .w1c, cnt := 20, stride := 0x1000 }
def MAC_P_TROUBLE_JABBER : Fld := { off := 0xC00B8, lo := 3, w := 1, typ := .w1c, cnt := 20, stride := 0x1000 }
def MAC_P_TROUBLE_VERIFY_FAIL : Fld := { off := 0xC00B8, lo := 4, w := 1, typ := .w1c, cnt := 20, stride := 0x1000 }
def MAC_P_TROUBLE_ASSY_ERR : Fld := { off := 0xC00B8, lo := 5, w := 1, typ := .w1c, cnt := 20, stride := 0x1000 }
def MAC_P_TROUBLE_PAUSED : Fld := { off := 0xC00B8, lo := 6, w := 1, typ := .w1c, cnt := 20, stride := 0x1000 }
def MAC_P_TROUBLE_XOFF : Fld := { off := 0xC00B8, lo := 7, w := 1, typ := .w1c, cnt := 20, stride := 0x1000 }
def MAC_P_TROUBLE_COLLISION : Fld := { off := 0xC00B8, lo := 8, w := 1, typ := .w1c, cnt := 20, stride := 0x1000 }
def MAC_P_TROUBLE_SFP_FAULT : Fld := { off := 0xC00B8, lo := 9, w := 1, typ := .w1c, cnt := 20, stride := 0x1000 }
def MAC_P_TROUBLE_WAKE : Fld := { off := 0xC00B8, lo := 10, w := 1, typ := .w1c, cnt := 20, stride := 0x1000 }
def MAC_P_TROUBLE_EN_LOCKED_WRITE : Fld := { off := 0xC00BC, lo := 0, w := 1, typ := .rw, rst := 1, cnt := 20, stride := 0x1000 }
def MAC_P_TROUBLE_EN_LINK_LOSS : Fld := { off := 0xC00BC, lo := 1, w := 1, typ := .rw, rst := 1, cnt := 20, stride := 0x1000 }
def MAC_P_TROUBLE_EN_FCS_ERR : Fld := { off := 0xC00BC, lo := 2, w := 1, typ := .rw, rst := 1, cnt := 20, stride := 0x1000 }
def MAC_P_TROUBLE_EN_JABBER : Fld := { off := 0xC00BC, lo := 3, w := 1, typ := .rw, rst := 1, cnt := 20, stride := 0x1000 }
def MAC_P_TROUBLE_EN_VERIFY_FAIL : Fld := { off := 0xC00BC, lo := 4, w := 1, typ := .rw, rst := 1, cnt := 20, stride := 0x1000 }
def MAC_P_TROUBLE_EN_ASSY_ERR : Fld := { off := 0xC00BC, lo := 5, w := 1, typ := .rw, rst := 1, cnt := 20, stride := 0x1000 }
def MAC_P_TROUBLE_EN_PAUSED : Fld := { off := 0xC00BC, lo := 6, w := 1, typ := .rw, rst := 1, cnt := 20, stride := 0x1000 }
def MAC_P_TROUBLE_EN_XOFF : Fld := { off := 0xC00BC, lo := 7, w := 1, typ := .rw, rst := 1, cnt := 20, stride := 0x1000 }
def MAC_P_TROUBLE_EN_COLLISION : Fld := { off := 0xC00BC, lo := 8, w := 1, typ := .rw, rst := 1, cnt := 20, stride := 0x1000 }
def MAC_P_TROUBLE_EN_SFP_FAULT : Fld := { off := 0xC00BC, lo := 9, w := 1, typ := .rw, rst := 1, cnt := 20, stride := 0x1000 }
def MAC_P_TROUBLE_EN_WAKE : Fld := { off := 0xC00BC, lo := 10, w := 1, typ := .rw, rst := 1, cnt := 20, stride := 0x1000 }
def TIM_ID_PUBLISHERS : Fld := { off := 0xE0000, lo := 0, w := 9, typ := .ro, rst := 0x100 }
def TIM_ID_BLOCK_REV : Fld := { off := 0xE0000, lo := 24, w := 8, typ := .ro, rst := 1 }
def TIM_CTRL_PUB_EN : Fld := { off := 0xE0004, lo := 0, w := 1, typ := .rw }
def TIM_CTRL_PPS_FREE : Fld := { off := 0xE0004, lo := 1, w := 1, typ := .rw, bnd := true }
def TIM_CTRL_CLEAR_COUNTERS : Fld := { off := 0xE0004, lo := 2, w := 1, typ := .wo }
def TIM_STATUS_STATE : Fld := { off := 0xE0008, lo := 0, w := 3, typ := .ro }
def TIM_STATUS_SOURCE : Fld := { off := 0xE0008, lo := 3, w := 3, typ := .ro }
def TIM_STATUS_TIME_VALID : Fld := { off := 0xE0008, lo := 6, w := 1, typ := .ro, aon := true }
def TIM_STATUS_UTC_VALID : Fld := { off := 0xE0008, lo := 7, w := 1, typ := .ro }
def TIM_STATUS_REF10_OK : Fld := { off := 0xE0008, lo := 8, w := 1, typ := .ro }
def TIM_STATUS_QUALIFIED : Fld := { off := 0xE0008, lo := 9, w := 4, typ := .ro }
def TIM_STATUS_HOLDOVER_MIN : Fld := { off := 0xE0008, lo := 16, w := 16, typ := .ro }
def TIM_TAI : Fld := { off := 0xE0010, lo := 0, w := 64, typ := .ro }
def TIM_UTC_OFFSET_OFFSET_S : Fld := { off := 0xE0018, lo := 0, w := 16, typ := .rw, bnd := true }
def TIM_UTC_OFFSET_LEAP : Fld := { off := 0xE0018, lo := 16, w := 2, typ := .rw, bnd := true }
def TIM_OFFSET_OFFSET_NS : Fld := { off := 0xE001C, lo := 0, w := 32, typ := .ro }
def TIM_FREQ : Fld := { off := 0xE0020, lo := 0, w := 32, typ := .ro }
def TIM_LAST_STEP : Fld := { off := 0xE0024, lo := 0, w := 64, typ := .ro }
def TIM_CADENCE : Fld := { off := 0xE002C, lo := 0, w := 64, typ := .ro }
def TIM_SRC_CFG_LIST : Fld := { off := 0xE0034, lo := 0, w := 12, typ := .rw, bnd := true }
def TIM_SRC_CFG_QUAL_S : Fld := { off := 0xE0034, lo := 16, w := 4, typ := .rw, bnd := true }
def TIM_SRC_CFG_LOSS_S : Fld := { off := 0xE0034, lo := 20, w := 4, typ := .rw, bnd := true }
def TIM_SRC_CFG_IRIG_EXT : Fld := { off := 0xE0034, lo := 24, w := 1, typ := .rw, bnd := true }
def TIM_SERVO_CFG_LOCK_NS : Fld := { off := 0xE0038, lo := 0, w := 16, typ := .rw, bnd := true }
def TIM_SERVO_CFG_HOLDOVER_MAX_MIN : Fld := { off := 0xE0038, lo := 16, w := 16, typ := .rw, bnd := true }
def TIM_STEP_CFG_STEP_NS : Fld := { off := 0xE003C, lo := 0, w := 24, typ := .rw, bnd := true }
def TIM_STEP_CFG_STEP_CONFIRM : Fld := { off := 0xE003C, lo := 24, w := 4, typ := .rw, bnd := true }
def TIM_CADENCE_CFG_FS : Fld := { off := 0xE0040, lo := 0, w := 16, typ := .ro, bnd := true }
def TIM_CADENCE_CFG_K : Fld := { off := 0xE0040, lo := 16, w := 5, typ := .ro, bnd := true }
def TIM_CADENCE_OFS_OFFSET_US : Fld := { off := 0xE0044, lo := 0, w := 13, typ := .ro, bnd := true }
def TIM_PTP_CFG_DOMAIN : Fld := { off := 0xE0048, lo := 0, w := 8, typ := .ro, bnd := true }
def TIM_PTP_CFG_LOG_PDELAY : Fld := { off := 0xE0048, lo := 8, w := 4, typ := .ro, bnd := true }
def TIM_PTP_CFG_PTP_PORT_MASK : Fld := { off := 0xE0048, lo := 12, w := 18, typ := .ro, bnd := true }
def TIM_LAUNCH_CFG_PPS_WIDTH_US : Fld := { off := 0xE004C, lo := 0, w := 10, typ := .rw, bnd := true }
def TIM_LAUNCH_CFG_HORIZON_MS : Fld := { off := 0xE004C, lo := 10, w := 6, typ := .rw, bnd := true }
def TIM_LAUNCH_CFG_LATE_TOL_NS : Fld := { off := 0xE004C, lo := 16, w := 16, typ := .rw, bnd := true }
def TIM_SRC_MAC_LO : Fld := { off := 0xE0050, lo := 0, w := 32, typ := .ro, bnd := true }
def TIM_SRC_MAC_HI : Fld := { off := 0xE0054, lo := 16, w := 16, typ := .ro, bnd := true }
def TIM_GM_ID : Fld := { off := 0xE0058, lo := 0, w := 64, typ := .ro }
def TIM_ADJ : Fld := { off := 0xE0060, lo := 0, w := 64, typ := .rw }
def TIM_ADJ_CTRL_OP : Fld := { off := 0xE0068, lo := 0, w := 2, typ := .rw }
def TIM_ADJ_CTRL_GO : Fld := { off := 0xE0068, lo := 31, w := 1, typ := .wo }
def TIM_ADJ_STATUS_BUSY : Fld := { off := 0xE006C, lo := 0, w := 1, typ := .ro }
def TIM_ADJ_STATUS_DONE : Fld := { off := 0xE006C, lo := 1, w := 1, typ := .w1c }
def TIM_ADJ_STATUS_ADJ_REFUSED : Fld := { off := 0xE006C, lo := 2, w := 1, typ := .w1c }
def TIM_ADJ_STATUS_RESULT : Fld := { off := 0xE006C, lo := 4, w := 4, typ := .ro }
def TIM_STEPS : Fld := { off := 0xE0080, lo := 0, w := 32, typ := .ro }
def TIM_SYNC_RX : Fld := { off := 0xE0084, lo := 0, w := 32, typ := .ro }
def TIM_ANNOUNCE_RX : Fld := { off := 0xE0088, lo := 0, w := 32, typ := .ro }
def TIM_IRIG_ERR : Fld := { off := 0xE008C, lo := 0, w := 32, typ := .ro }
def TIM_PPS_ERR : Fld := { off := 0xE0090, lo := 0, w := 32, typ := .ro }
def TIM_LATE_LAUNCH : Fld := { off := 0xE0094, lo := 0, w := 32, typ := .ro }
def TIM_PUB_FRAMES : Fld := { off := 0xE0098, lo := 0, w := 32, typ := .ro }
def TIM_PUB_STATES : Fld := { off := 0xE009C, lo := 0, w := 32, typ := .ro }
def TIM_PUB_REFUSED : Fld := { off := 0xE00A0, lo := 0, w := 32, typ := .ro }
def TIM_CADENCE_SKIPPED : Fld := { off := 0xE00A4, lo := 0, w := 32, typ := .ro }
def TIM_TBL_CTRL_TABLE_ID : Fld := { off := 0xE00C0, lo := 0, w := 16, typ := .rw }
def TIM_TBL_CTRL_INDEX : Fld := { off := 0xE00C0, lo := 16, w := 8, typ := .rw }
def TIM_TBL_CTRL_READ : Fld := { off := 0xE00C0, lo := 31, w := 1, typ := .wo }
def TIM_TBL_STATUS_BUSY : Fld := { off := 0xE00C4, lo := 0, w := 1, typ := .ro }
def TIM_TBL_STATUS_DONE : Fld := { off := 0xE00C4, lo := 1, w := 1, typ := .w1c }
def TIM_TBL_STATUS_BAD_ADDR : Fld := { off := 0xE00C4, lo := 2, w := 1, typ := .w1c }
def TIM_TROUBLE_STEP : Fld := { off := 0xE0100, lo := 0, w := 1, typ := .w1c, aon := true }
def TIM_TROUBLE_HOLDOVER : Fld := { off := 0xE0100, lo := 1, w := 1, typ := .w1c }
def TIM_TROUBLE_FREERUN : Fld := { off := 0xE0100, lo := 2, w := 1, typ := .w1c }
def TIM_TROUBLE_SOURCE_CHANGE : Fld := { off := 0xE0100, lo := 3, w := 1, typ := .w1c }
def TIM_TROUBLE_TSQ_OVERFLOW : Fld := { off := 0xE0100, lo := 4, w := 1, typ := .w1c }
def TIM_TROUBLE_LAUNCH_LATE : Fld := { off := 0xE0100, lo := 5, w := 1, typ := .w1c }
def TIM_TROUBLE_LAUNCH_FAR : Fld := { off := 0xE0100, lo := 6, w := 1, typ := .w1c }
def TIM_TROUBLE_PUB_REFUSED : Fld := { off := 0xE0100, lo := 7, w := 1, typ := .w1c }
def TIM_TROUBLE_CADENCE_SKIP : Fld := { off := 0xE0100, lo := 8, w := 1, typ := .w1c }
def TIM_TROUBLE_CADENCE_RESTART : Fld := { off := 0xE0100, lo := 9, w := 1, typ := .w1c, aon := true }
def TIM_TROUBLE_IRIG_ERR : Fld := { off := 0xE0100, lo := 10, w := 1, typ := .w1c }
def TIM_TROUBLE_PPS_ERR : Fld := { off := 0xE0100, lo := 11, w := 1, typ := .w1c }
def TIM_TROUBLE_UTC_CHANGE : Fld := { off := 0xE0100, lo := 12, w := 1, typ := .w1c }
def TIM_TROUBLE_EN_STEP : Fld := { off := 0xE0104, lo := 0, w := 1, typ := .rw, rst := 1 }
def TIM_TROUBLE_EN_HOLDOVER : Fld := { off := 0xE0104, lo := 1, w := 1, typ := .rw, rst := 1 }
def TIM_TROUBLE_EN_FREERUN : Fld := { off := 0xE0104, lo := 2, w := 1, typ := .rw, rst := 1 }
def TIM_TROUBLE_EN_SOURCE_CHANGE : Fld := { off := 0xE0104, lo := 3, w := 1, typ := .rw, rst := 1 }
def TIM_TROUBLE_EN_TSQ_OVERFLOW : Fld := { off := 0xE0104, lo := 4, w := 1, typ := .rw, rst := 1 }
def TIM_TROUBLE_EN_LAUNCH_LATE : Fld := { off := 0xE0104, lo := 5, w := 1, typ := .rw, rst := 1 }
def TIM_TROUBLE_EN_LAUNCH_FAR : Fld := { off := 0xE0104, lo := 6, w := 1, typ := .rw, rst := 1 }
def TIM_TROUBLE_EN_PUB_REFUSED : Fld := { off := 0xE0104, lo := 7, w := 1, typ := .rw, rst := 1 }
def TIM_TROUBLE_EN_CADENCE_SKIP : Fld := { off := 0xE0104, lo := 8, w := 1, typ := .rw, rst := 1 }
def TIM_TROUBLE_EN_CADENCE_RESTART : Fld := { off := 0xE0104, lo := 9, w := 1, typ := .rw, rst := 1 }
def TIM_TROUBLE_EN_IRIG_ERR : Fld := { off := 0xE0104, lo := 10, w := 1, typ := .rw, rst := 1 }
def TIM_TROUBLE_EN_PPS_ERR : Fld := { off := 0xE0104, lo := 11, w := 1, typ := .rw, rst := 1 }
def TIM_TROUBLE_EN_UTC_CHANGE : Fld := { off := 0xE0104, lo := 12, w := 1, typ := .rw, rst := 1 }
def TIM_TBL_DATA : Fld := { off := 0xE0200, lo := 0, w := 32, typ := .ro, rep := 64 }
def TIM_P_CFG_PDELAY_EN : Fld := { off := 0xE1000, lo := 0, w := 1, typ := .ro, cnt := 20, stride := 0x40, bnd := true }
def TIM_P_ASYM : Fld := { off := 0xE1004, lo := 0, w := 32, typ := .rw, cnt := 20, stride := 0x40, bnd := true }
def TIM_P_MLD : Fld := { off := 0xE1008, lo := 0, w := 32, typ := .ro, cnt := 20, stride := 0x40 }
def TIM_P_PTP_STATE : Fld := { off := 0xE100C, lo := 0, w := 3, typ := .ro, cnt := 20, stride := 0x40 }
def TIM_P_PTP_STATE_MLD_VALID : Fld := { off := 0xE100C, lo := 3, w := 1, typ := .ro, cnt := 20, stride := 0x40 }
def TIM_P_TSQ_CTRL_POP : Fld := { off := 0xE1010, lo := 0, w := 1, typ := .wo, cnt := 20, stride := 0x40 }
def TIM_P_TSQ_STATUS_COUNT : Fld := { off := 0xE1014, lo := 0, w := 7, typ := .ro, cnt := 20, stride := 0x40 }
def TIM_P_TSQ_STATUS_LATCHED : Fld := { off := 0xE1014, lo := 7, w := 1, typ := .ro, cnt := 20, stride := 0x40 }
def TIM_P_TSQ_STATUS_MISSING : Fld := { off := 0xE1014, lo := 8, w := 8, typ := .ro, cnt := 20, stride := 0x40 }
def TIM_P_TSQ_DATA : Fld := { off := 0xE1018, lo := 0, w := 32, typ := .ro, cnt := 20, stride := 0x40, rep := 4 }
def TIM_P_LAUNCH_LATE : Fld := { off := 0xE1028, lo := 0, w := 32, typ := .ro, cnt := 20, stride := 0x40 }
def TIM_P_TSQ_LOST : Fld := { off := 0xE102C, lo := 0, w := 32, typ := .ro, cnt := 20, stride := 0x40 }
def TIM_P_TS_COUNT : Fld := { off := 0xE1030, lo := 0, w := 32, typ := .ro, cnt := 20, stride := 0x40 }
def EVR_ID_RECORDS_LOG2 : Fld := { off := 0xF0000, lo := 0, w := 8, typ := .ro, rst := 0x14 }
def EVR_ID_CLASSES_LOG2 : Fld := { off := 0xF0000, lo := 8, w := 8, typ := .ro, rst := 0xa }
def EVR_ID_QUEUE_LOG2 : Fld := { off := 0xF0000, lo := 16, w := 8, typ := .ro, rst := 0xa }
def EVR_ID_BLOCK_REV : Fld := { off := 0xF0000, lo := 24, w := 8, typ := .ro, rst := 1 }
def EVR_STATUS_STATE : Fld := { off := 0xF0004, lo := 0, w := 2, typ := .ro }
def EVR_STATUS_CLEARING : Fld := { off := 0xF0004, lo := 2, w := 1, typ := .ro }
def EVR_STATUS_QUEUE : Fld := { off := 0xF0004, lo := 16, w := 11, typ := .ro }
def EVR_BASE : Fld := { off := 0xF0008, lo := 0, w := 64, typ := .ro }
def EVR_NEXT : Fld := { off := 0xF0010, lo := 0, w := 64, typ := .ro }
def EVR_LOST : Fld := { off := 0xF0018, lo := 0, w := 32, typ := .ro }
def EVR_QUEUE_LOST : Fld := { off := 0xF001C, lo := 0, w := 32, typ := .ro }
def EVR_REFUSED : Fld := { off := 0xF0020, lo := 0, w := 32, typ := .ro }
def EVR_LAST_REFUSED_CLASS : Fld := { off := 0xF0024, lo := 0, w := 10, typ := .ro }
def EVR_LAST_REFUSED_SRC_KIND : Fld := { off := 0xF0024, lo := 10, w := 3, typ := .ro }
def EVR_LAST_REFUSED_SRC_ID : Fld := { off := 0xF0024, lo := 13, w := 5, typ := .ro }
def EVR_LAST_REFUSED_CAUSE : Fld := { off := 0xF0024, lo := 18, w := 2, typ := .ro }
def EVR_LAST_REFUSED_VALID : Fld := { off := 0xF0024, lo := 31, w := 1, typ := .ro }
def EVR_CLEAR_UPTO : Fld := { off := 0xF0030, lo := 0, w := 64, typ := .rw }
def EVR_CLEAR_CTRL_GO : Fld := { off := 0xF0038, lo := 31, w := 1, typ := .wo }
def EVR_CLEAR_STATUS_BUSY : Fld := { off := 0xF003C, lo := 0, w := 1, typ := .ro }
def EVR_CLEAR_STATUS_DONE : Fld := { off := 0xF003C, lo := 1, w := 1, typ := .w1c }
def EVR_CLEAR_STATUS_RESULT : Fld := { off := 0xF003C, lo := 4, w := 4, typ := .ro }
def EVR_TBL_CTRL_TABLE_ID : Fld := { off := 0xF0040, lo := 0, w := 16, typ := .rw }
def EVR_TBL_CTRL_INDEX : Fld := { off := 0xF0040, lo := 16, w := 10, typ := .rw }
def EVR_TBL_CTRL_READ : Fld := { off := 0xF0040, lo := 31, w := 1, typ := .wo }
def EVR_TBL_STATUS_BUSY : Fld := { off := 0xF0044, lo := 0, w := 1, typ := .ro }
def EVR_TBL_STATUS_DONE : Fld := { off := 0xF0044, lo := 1, w := 1, typ := .w1c }
def EVR_TBL_STATUS_BAD_ADDR : Fld := { off := 0xF0044, lo := 2, w := 1, typ := .w1c }
def EVR_TBL_DATA : Fld := { off := 0xF0050, lo := 0, w := 32, typ := .ro, rep := 4 }
def EVR_TROUBLE_CRITICAL_ONLY : Fld := { off := 0xF0100, lo := 0, w := 1, typ := .w1c, aon := true }
def EVR_TROUBLE_FULL : Fld := { off := 0xF0100, lo := 1, w := 1, typ := .w1c, aon := true }
def EVR_TROUBLE_QUEUE_LOST : Fld := { off := 0xF0100, lo := 2, w := 1, typ := .w1c }
def EVR_TROUBLE_REFUSED : Fld := { off := 0xF0100, lo := 3, w := 1, typ := .w1c }
def EVR_TROUBLE_ECC : Fld := { off := 0xF0100, lo := 4, w := 1, typ := .w1c }
def EVR_TROUBLE_WRONG_AGENT : Fld := { off := 0xF0100, lo := 5, w := 1, typ := .w1c }
def EVR_TROUBLE_CLEARED : Fld := { off := 0xF0100, lo := 6, w := 1, typ := .w1c }
def EVR_TROUBLE_CLEAR_RESUMED : Fld := { off := 0xF0100, lo := 7, w := 1, typ := .w1c, aon := true }
def EVR_TROUBLE_EN_CRITICAL_ONLY : Fld := { off := 0xF0104, lo := 0, w := 1, typ := .rw, rst := 1 }
def EVR_TROUBLE_EN_FULL : Fld := { off := 0xF0104, lo := 1, w := 1, typ := .rw, rst := 1 }
def EVR_TROUBLE_EN_QUEUE_LOST : Fld := { off := 0xF0104, lo := 2, w := 1, typ := .rw, rst := 1 }
def EVR_TROUBLE_EN_REFUSED : Fld := { off := 0xF0104, lo := 3, w := 1, typ := .rw, rst := 1 }
def EVR_TROUBLE_EN_ECC : Fld := { off := 0xF0104, lo := 4, w := 1, typ := .rw, rst := 1 }
def EVR_TROUBLE_EN_WRONG_AGENT : Fld := { off := 0xF0104, lo := 5, w := 1, typ := .rw, rst := 1 }
def EVR_TROUBLE_EN_CLEARED : Fld := { off := 0xF0104, lo := 6, w := 1, typ := .rw, rst := 1 }
def EVR_TROUBLE_EN_CLEAR_RESUMED : Fld := { off := 0xF0104, lo := 7, w := 1, typ := .rw, rst := 1 }
def EVR_W_CURSOR : Fld := { off := 0xF0200, lo := 0, w := 64, typ := .rw, cnt := 2, stride := 0x80 }
def EVR_W_CTRL_READ : Fld := { off := 0xF0208, lo := 0, w := 1, typ := .wo, cnt := 2, stride := 0x80 }
def EVR_W_CTRL_AUTO_INC : Fld := { off := 0xF0208, lo := 1, w := 1, typ := .rw, rst := 1, cnt := 2, stride := 0x80 }
def EVR_W_STATUS_BUSY : Fld := { off := 0xF020C, lo := 0, w := 1, typ := .ro, cnt := 2, stride := 0x80 }
def EVR_W_STATUS_DONE : Fld := { off := 0xF020C, lo := 1, w := 1, typ := .w1c, cnt := 2, stride := 0x80 }
def EVR_W_STATUS_RESULT : Fld := { off := 0xF020C, lo := 4, w := 3, typ := .ro, cnt := 2, stride := 0x80 }
def EVR_W_DATA : Fld := { off := 0xF0240, lo := 0, w := 32, typ := .ro, cnt := 2, stride := 0x80, rep := 16 }
def GTH_ID_SEQUENCERS : Fld := { off := 0x100000, lo := 0, w := 8, typ := .ro, rst := 0x10 }
def GTH_ID_DEFINITIONS : Fld := { off := 0x100000, lo := 8, w := 8, typ := .ro, rst := 8 }
def GTH_ID_BLOCK_REV : Fld := { off := 0x100000, lo := 24, w := 8, typ := .ro, rst := 1 }
def GTH_CTRL_ENABLE : Fld := { off := 0x100004, lo := 0, w := 1, typ := .rw }
def GTH_CTRL_HOST_EN : Fld := { off := 0x100004, lo := 1, w := 1, typ := .rw }
def GTH_CTRL_CLEAR_COUNTERS : Fld := { off := 0x100004, lo := 2, w := 1, typ := .wo }
def GTH_STATUS_RUNNING : Fld := { off := 0x100008, lo := 0, w := 1, typ := .ro }
def GTH_STATUS_STORE_SCANNING : Fld := { off := 0x100008, lo := 1, w := 1, typ := .ro }
def GTH_STATUS_STORE_FULL : Fld := { off := 0x100008, lo := 2, w := 1, typ := .ro }
def GTH_STATUS_NAND_BUSY : Fld := { off := 0x100008, lo := 3, w := 1, typ := .ro }
def GTH_STATUS_HOST_BUSY : Fld := { off := 0x100008, lo := 4, w := 1, typ := .ro }
def GTH_STATUS_CAPTURING : Fld := { off := 0x100008, lo := 8, w := 4, typ := .ro }
def GTH_NEXT_SEQ : Fld := { off := 0x10000C, lo := 0, w := 64, typ := .ro }
def GTH_STORE_OLDEST : Fld := { off := 0x100014, lo := 0, w := 64, typ := .ro }
def GTH_STORE_FREE_FREE_MIB : Fld := { off := 0x10001C, lo := 0, w := 32, typ := .ro }
def GTH_STORE_CMD_OP : Fld := { off := 0x100020, lo := 0, w := 2, typ := .rw }
def GTH_STORE_CMD_GO : Fld := { off := 0x100020, lo := 31, w := 1, typ := .wo }
def GTH_STORE_ARG : Fld := { off := 0x100024, lo := 0, w := 64, typ := .rw }
def GTH_STORE_STATUS_BUSY : Fld := { off := 0x10002C, lo := 0, w := 1, typ := .ro }
def GTH_STORE_STATUS_DONE : Fld := { off := 0x10002C, lo := 1, w := 1, typ := .w1c }
def GTH_STORE_STATUS_RESULT : Fld := { off := 0x10002C, lo := 4, w := 4, typ := .ro }
def GTH_HOST_BASE : Fld := { off := 0x100030, lo := 0, w := 64, typ := .rw }
def GTH_HOST_LEN : Fld := { off := 0x100038, lo := 0, w := 32, typ := .rw }
def GTH_HOST_PRODUCED : Fld := { off := 0x10003C, lo := 0, w := 32, typ := .ro }
def GTH_HOST_CONSUMED : Fld := { off := 0x100040, lo := 0, w := 32, typ := .rw }
def GTH_ACCEPTED : Fld := { off := 0x100050, lo := 0, w := 32, typ := .ro }
def GTH_IGN_HEAD : Fld := { off := 0x100054, lo := 0, w := 32, typ := .ro }
def GTH_IGN_GUTTER : Fld := { off := 0x100058, lo := 0, w := 32, typ := .ro }
def GTH_IGN_BUSY : Fld := { off := 0x10005C, lo := 0, w := 32, typ := .ro }
def GTH_OVERFLOWS : Fld := { off := 0x100060, lo := 0, w := 32, typ := .ro }
def GTH_GAP_POSITIONS : Fld := { off := 0x100064, lo := 0, w := 32, typ := .ro }
def GTH_TORN : Fld := { off := 0x100068, lo := 0, w := 32, typ := .ro }
def GTH_NW_SEQ : Fld := { off := 0x100070, lo := 0, w := 64, typ := .rw }
def GTH_NW_OFFSET : Fld := { off := 0x100078, lo := 0, w := 32, typ := .rw }
def GTH_NW_CTRL_READ : Fld := { off := 0x10007C, lo := 0, w := 1, typ := .wo }
def GTH_NW_STATUS_BUSY : Fld := { off := 0x100080, lo := 0, w := 1, typ := .ro }
def GTH_NW_STATUS_DONE : Fld := { off := 0x100080, lo := 1, w := 1, typ := .w1c }
def GTH_NW_STATUS_RESULT : Fld := { off := 0x100080, lo := 4, w := 2, typ := .ro }
def GTH_NW_DATA : Fld := { off := 0x100090, lo := 0, w := 32, typ := .ro, rep := 16 }
def GTH_TBL_CTRL_TABLE_ID : Fld := { off := 0x1000D0, lo := 0, w := 16, typ := .rw }
def GTH_TBL_CTRL_INDEX : Fld := { off := 0x1000D0, lo := 16, w := 14, typ := .rw }
def GTH_TBL_CTRL_READ : Fld := { off := 0x1000D0, lo := 31, w := 1, typ := .wo }
def GTH_TBL_STATUS_BUSY : Fld := { off := 0x1000D4, lo := 0, w := 1, typ := .ro }
def GTH_TBL_STATUS_DONE : Fld := { off := 0x1000D4, lo := 1, w := 1, typ := .w1c }
def GTH_TBL_STATUS_BAD_ADDR : Fld := { off := 0x1000D4, lo := 2, w := 1, typ := .w1c }
def GTH_TBL_DATA : Fld := { off := 0x1000E0, lo := 0, w := 32, typ := .ro, rep := 8 }
def GTH_TROUBLE_IGNORED : Fld := { off := 0x100100, lo := 0, w := 1, typ := .w1c }
def GTH_TROUBLE_OVERFLOW : Fld := { off := 0x100100, lo := 1, w := 1, typ := .w1c }
def GTH_TROUBLE_GAP : Fld := { off := 0x100100, lo := 2, w := 1, typ := .w1c }
def GTH_TROUBLE_STORE_FULL : Fld := { off := 0x100100, lo := 3, w := 1, typ := .w1c }
def GTH_TROUBLE_HOST_STALL : Fld := { off := 0x100100, lo := 4, w := 1, typ := .w1c }
def GTH_TROUBLE_TORN : Fld := { off := 0x100100, lo := 5, w := 1, typ := .w1c, aon := true }
def GTH_TROUBLE_SUPPLY_CUT : Fld := { off := 0x100100, lo := 6, w := 1, typ := .w1c }
def GTH_TROUBLE_ECC : Fld := { off := 0x100100, lo := 7, w := 1, typ := .w1c }
def GTH_TROUBLE_EN_IGNORED : Fld := { off := 0x100104, lo := 0, w := 1, typ := .rw, rst := 1 }
def GTH_TROUBLE_EN_OVERFLOW : Fld := { off := 0x100104, lo := 1, w := 1, typ := .rw, rst := 1 }
def GTH_TROUBLE_EN_GAP : Fld := { off := 0x100104, lo := 2, w := 1, typ := .rw, rst := 1 }
def GTH_TROUBLE_EN_STORE_FULL : Fld := { off := 0x100104, lo := 3, w := 1, typ := .rw, rst := 1 }
def GTH_TROUBLE_EN_HOST_STALL : Fld := { off := 0x100104, lo := 4, w := 1, typ := .rw, rst := 1 }
def GTH_TROUBLE_EN_TORN : Fld := { off := 0x100104, lo := 5, w := 1, typ := .rw, rst := 1 }
def GTH_TROUBLE_EN_SUPPLY_CUT : Fld := { off := 0x100104, lo := 6, w := 1, typ := .rw, rst := 1 }
def GTH_TROUBLE_EN_ECC : Fld := { off := 0x100104, lo := 7, w := 1, typ := .rw, rst := 1 }
def GTH_S_CTRL_FORCE : Fld := { off := 0x100800, lo := 0, w := 1, typ := .wo, cnt := 16, stride := 0x20 }
def GTH_S_CTRL_RESET : Fld := { off := 0x100800, lo := 1, w := 1, typ := .wo, cnt := 16, stride := 0x20 }
def GTH_S_STATE : Fld := { off := 0x100804, lo := 0, w := 5, typ := .ro, cnt := 16, stride := 0x20 }
def GTH_S_STATE_TIMER_RUN : Fld := { off := 0x100804, lo := 5, w := 1, typ := .ro, cnt := 16, stride := 0x20 }
def GTH_S_STATE_COUNT : Fld := { off := 0x100804, lo := 16, w := 16, typ := .ro, cnt := 16, stride := 0x20 }
def GTH_S_TIMER_TIMER_LEFT : Fld := { off := 0x100808, lo := 0, w := 32, typ := .ro, cnt := 16, stride := 0x20 }
def GTH_S_LAST_TP : Fld := { off := 0x10080C, lo := 0, w := 64, typ := .ro, cnt := 16, stride := 0x20 }
def GTH_S_STATS_OFFERED : Fld := { off := 0x100814, lo := 0, w := 16, typ := .ro, cnt := 16, stride := 0x20 }
def GTH_S_STATS_ACCEPTED : Fld := { off := 0x100814, lo := 16, w := 16, typ := .ro, cnt := 16, stride := 0x20 }
def GTH_D_STATE : Fld := { off := 0x100C00, lo := 0, w := 3, typ := .ro, cnt := 8, stride := 0x40 }
def GTH_D_POS : Fld := { off := 0x100C04, lo := 0, w := 64, typ := .ro, cnt := 8, stride := 0x40 }
def GTH_D_FILL_FILL_START : Fld := { off := 0x100C0C, lo := 0, w := 32, typ := .ro, cnt := 8, stride := 0x40 }
def GTH_D_UNDRAINED_UNDRAINED_KIB : Fld := { off := 0x100C10, lo := 0, w := 32, typ := .ro, cnt := 8, stride := 0x40 }
def GTH_D_SEQ : Fld := { off := 0x100C14, lo := 0, w := 64, typ := .ro, cnt := 8, stride := 0x40 }
def TWN_ID_LANES : Fld := { off := 0x110000, lo := 0, w := 8, typ := .ro, rst := 2 }
def TWN_ID_HB_US : Fld := { off := 0x110000, lo := 8, w := 8, typ := .ro, rst := 0xa }
def TWN_ID_BLOCK_REV : Fld := { off := 0x110000, lo := 24, w := 8, typ := .ro, rst := 1 }
def TWN_CTRL_ENABLE : Fld := { off := 0x110004, lo := 0, w := 1, typ := .rw }
def TWN_CTRL_RELINQUISH : Fld := { off := 0x110004, lo := 1, w := 1, typ := .wo }
def TWN_CTRL_CLEAR_COUNTERS : Fld := { off := 0x110004, lo := 2, w := 1, typ := .wo }
def TWN_STATUS_ROLE : Fld := { off := 0x110008, lo := 0, w := 4, typ := .ro }
def TWN_STATUS_PEER_ROLE : Fld := { off := 0x110008, lo := 4, w := 4, typ := .ro, rst := 0xf }
def TWN_STATUS_POSITION : Fld := { off := 0x110008, lo := 8, w := 1, typ := .ro }
def TWN_STATUS_HB_OK : Fld := { off := 0x110008, lo := 9, w := 1, typ := .ro }
def TWN_STATUS_BEAT_OK : Fld := { off := 0x110008, lo := 10, w := 1, typ := .ro }
def TWN_STATUS_FORCE_SEEN : Fld := { off := 0x110008, lo := 11, w := 1, typ := .ro }
def TWN_STATUS_LANES_UP : Fld := { off := 0x110008, lo := 12, w := 2, typ := .ro }
def TWN_STATUS_LEASE : Fld := { off := 0x110008, lo := 14, w := 1, typ := .ro }
def TWN_STATUS_IN_SYNC : Fld := { off := 0x110008, lo := 15, w := 1, typ := .ro }
def TWN_STATUS_QUIRE_AGE : Fld := { off := 0x110008, lo := 16, w := 8, typ := .ro }
def TWN_CFG_TWIN_EN : Fld := { off := 0x11000C, lo := 0, w := 1, typ := .ro, bnd := true }
def TWN_CFG_PREFER_POS : Fld := { off := 0x11000C, lo := 1, w := 1, typ := .ro, bnd := true }
def TWN_CFG_COLD_PROMOTE : Fld := { off := 0x11000C, lo := 2, w := 1, typ := .ro, bnd := true }
def TWN_CFG_SYNC_QUIRES : Fld := { off := 0x11000C, lo := 4, w := 4, typ := .ro, bnd := true }
def TWN_CFG_SYNC_AGE : Fld := { off := 0x11000C, lo := 8, w := 2, typ := .ro, bnd := true }
def TWN_CFG_INIT_WAIT_MS : Fld := { off := 0x11000C, lo := 16, w := 16, typ := .ro, bnd := true }
def TWN_QUIRE_TX : Fld := { off := 0x110010, lo := 0, w := 64, typ := .ro }
def TWN_QUIRE_RX : Fld := { off := 0x110018, lo := 0, w := 64, typ := .ro }
def TWN_QUIRE_LEN : Fld := { off := 0x110020, lo := 0, w := 22, typ := .ro }
def TWN_QUIRE_TIME_LAST : Fld := { off := 0x110024, lo := 0, w := 16, typ := .ro }
def TWN_QUIRE_TIME_PEAK : Fld := { off := 0x110024, lo := 16, w := 16, typ := .ro }
def TWN_LAST_REFUSE_CAUSE : Fld := { off := 0x110028, lo := 0, w := 4, typ := .ro }
def TWN_LAST_REFUSE_VALID : Fld := { off := 0x110028, lo := 31, w := 1, typ := .ro }
def TWN_PROMOTION_CATCHUP : Fld := { off := 0x11002C, lo := 0, w := 8, typ := .ro }
def TWN_PROMOTION_COLD : Fld := { off := 0x11002C, lo := 8, w := 1, typ := .ro }
def TWN_PROMOTION_GAP_US : Fld := { off := 0x11002C, lo := 16, w := 16, typ := .ro }
def TWN_QUIRES_SENT : Fld := { off := 0x110040, lo := 0, w := 32, typ := .ro }
def TWN_QUIRES_ACCEPTED : Fld := { off := 0x110044, lo := 0, w := 32, typ := .ro }
def TWN_QUIRES_REFUSED : Fld := { off := 0x110048, lo := 0, w := 32, typ := .ro }
def TWN_FRAME_ERR : Fld := { off := 0x11004C, lo := 0, w := 32, typ := .ro }
def TWN_PROMOTIONS : Fld := { off := 0x110050, lo := 0, w := 32, typ := .ro }
def TWN_FENCES : Fld := { off := 0x110054, lo := 0, w := 32, typ := .ro }
def TWN_GATED_DROP : Fld := { off := 0x110058, lo := 0, w := 32, typ := .ro }
def TWN_LANE_LOSSES : Fld := { off := 0x11005C, lo := 0, w := 32, typ := .ro }
def TWN_TROUBLE_PEER_FAILED : Fld := { off := 0x110100, lo := 0, w := 1, typ := .w1c, aon := true }
def TWN_TROUBLE_PROMOTED : Fld := { off := 0x110100, lo := 1, w := 1, typ := .w1c, aon := true }
def TWN_TROUBLE_FENCED : Fld := { off := 0x110100, lo := 2, w := 1, typ := .w1c, aon := true }
def TWN_TROUBLE_CORUSK_LOST : Fld := { off := 0x110100, lo := 3, w := 1, typ := .w1c }
def TWN_TROUBLE_LANE_DOWN : Fld := { off := 0x110100, lo := 4, w := 1, typ := .w1c }
def TWN_TROUBLE_TOKEN_FAULT : Fld := { off := 0x110100, lo := 5, w := 1, typ := .w1c }
def TWN_TROUBLE_QUIRE_REFUSED : Fld := { off := 0x110100, lo := 6, w := 1, typ := .w1c }
def TWN_TROUBLE_QUIRE_LATE : Fld := { off := 0x110100, lo := 7, w := 1, typ := .w1c }
def TWN_TROUBLE_SYNC_LOST : Fld := { off := 0x110100, lo := 8, w := 1, typ := .w1c }
def TWN_TROUBLE_LEASE_LAPSED : Fld := { off := 0x110100, lo := 9, w := 1, typ := .w1c }
def TWN_TROUBLE_NO_PEER : Fld := { off := 0x110100, lo := 10, w := 1, typ := .w1c }
def TWN_TROUBLE_EN_PEER_FAILED : Fld := { off := 0x110104, lo := 0, w := 1, typ := .rw, rst := 1 }
def TWN_TROUBLE_EN_PROMOTED : Fld := { off := 0x110104, lo := 1, w := 1, typ := .rw, rst := 1 }
def TWN_TROUBLE_EN_FENCED : Fld := { off := 0x110104, lo := 2, w := 1, typ := .rw, rst := 1 }
def TWN_TROUBLE_EN_CORUSK_LOST : Fld := { off := 0x110104, lo := 3, w := 1, typ := .rw, rst := 1 }
def TWN_TROUBLE_EN_LANE_DOWN : Fld := { off := 0x110104, lo := 4, w := 1, typ := .rw, rst := 1 }
def TWN_TROUBLE_EN_TOKEN_FAULT : Fld := { off := 0x110104, lo := 5, w := 1, typ := .rw, rst := 1 }
def TWN_TROUBLE_EN_QUIRE_REFUSED : Fld := { off := 0x110104, lo := 6, w := 1, typ := .rw, rst := 1 }
def TWN_TROUBLE_EN_QUIRE_LATE : Fld := { off := 0x110104, lo := 7, w := 1, typ := .rw, rst := 1 }
def TWN_TROUBLE_EN_SYNC_LOST : Fld := { off := 0x110104, lo := 8, w := 1, typ := .rw, rst := 1 }
def TWN_TROUBLE_EN_LEASE_LAPSED : Fld := { off := 0x110104, lo := 9, w := 1, typ := .rw, rst := 1 }
def TWN_TROUBLE_EN_NO_PEER : Fld := { off := 0x110104, lo := 10, w := 1, typ := .rw, rst := 1 }
def KEY_ID_SLOTS : Fld := { off := 0x120000, lo := 0, w := 11, typ := .ro, rst := 0x400 }
def KEY_ID_BLOCK_REV : Fld := { off := 0x120000, lo := 24, w := 8, typ := .ro, rst := 1 }
def KEY_CTRL_CLEAR_COUNTERS : Fld := { off := 0x120004, lo := 0, w := 1, typ := .wo }
def KEY_STATUS_STATE : Fld := { off := 0x120008, lo := 0, w := 3, typ := .ro }
def KEY_STATUS_PENDING_ZEROIZE : Fld := { off := 0x120008, lo := 3, w := 1, typ := .ro, aon := true }
def KEY_STATUS_CLASS : Fld := { off := 0x120008, lo := 4, w := 1, typ := .ro }
def KEY_STATUS_LMS_BUSY : Fld := { off := 0x120008, lo := 5, w := 1, typ := .ro }
def KEY_STATUS_VALID_SLOTS : Fld := { off := 0x120008, lo := 16, w := 11, typ := .ro }
def KEY_POLICY_AON_LOSS_ZEROIZE : Fld := { off := 0x12000C, lo := 0, w := 1, typ := .ro, bnd := true }
def KEY_POLICY_ATTEST_EN : Fld := { off := 0x12000C, lo := 1, w := 1, typ := .ro, bnd := true }
def KEY_DEVICE_ID : Fld := { off := 0x120010, lo := 0, w := 32, typ := .ro, rep := 4 }
def KEY_RESET_COUNT : Fld := { off := 0x120020, lo := 0, w := 32, typ := .ro }
def KEY_OP_CTRL_OP : Fld := { off := 0x120030, lo := 0, w := 3, typ := .rw }
def KEY_OP_CTRL_SRC : Fld := { off := 0x120030, lo := 3, w := 1, typ := .rw }
def KEY_OP_CTRL_SLOT : Fld := { off := 0x120030, lo := 4, w := 10, typ := .rw }
def KEY_OP_CTRL_GO : Fld := { off := 0x120030, lo := 31, w := 1, typ := .wo }
def KEY_OP_STATUS_BUSY : Fld := { off := 0x120034, lo := 0, w := 1, typ := .ro }
def KEY_OP_STATUS_DONE : Fld := { off := 0x120034, lo := 1, w := 1, typ := .w1c }
def KEY_OP_STATUS_OUTPUT_VALID : Fld := { off := 0x120034, lo := 2, w := 1, typ := .ro }
def KEY_OP_STATUS_RESULT : Fld := { off := 0x120034, lo := 8, w := 8, typ := .ro }
def KEY_OP_BASE : Fld := { off := 0x120038, lo := 0, w := 64, typ := .rw }
def KEY_OP_LEN : Fld := { off := 0x120040, lo := 0, w := 17, typ := .rw }
def KEY_OP_OUT : Fld := { off := 0x120044, lo := 0, w := 64, typ := .rw }
def KEY_OP_OUT_LEN : Fld := { off := 0x12004C, lo := 0, w := 13, typ := .ro }
def KEY_OP_WR_DATA : Fld := { off := 0x120050, lo := 0, w := 32, typ := .wo }
def KEY_OP_RD_DATA : Fld := { off := 0x120054, lo := 0, w := 32, typ := .ro }
def KEY_NONCE : Fld := { off := 0x120060, lo := 0, w := 32, typ := .rw, rep := 8 }
def KEY_ATTEST_NEXT : Fld := { off := 0x120080, lo := 0, w := 21, typ := .ro }
def KEY_ATTEST_FRONT : Fld := { off := 0x120084, lo := 0, w := 21, typ := .ro }
def KEY_ATTEST_LEFT : Fld := { off := 0x120088, lo := 0, w := 21, typ := .ro }
def KEY_LAST_ORPHAN_SLOT : Fld := { off := 0x12008C, lo := 0, w := 10, typ := .ro }
def KEY_LAST_ORPHAN_DESCENDANTS : Fld := { off := 0x12008C, lo := 16, w := 11, typ := .ro }
def KEY_LAST_ORPHAN_VALID : Fld := { off := 0x12008C, lo := 31, w := 1, typ := .ro }
def KEY_UPDATES : Fld := { off := 0x120090, lo := 0, w := 32, typ := .ro }
def KEY_REFUSED : Fld := { off := 0x120094, lo := 0, w := 32, typ := .ro }
def KEY_VERIFIES : Fld := { off := 0x120098, lo := 0, w := 32, typ := .ro }
def KEY_ATTESTS : Fld := { off := 0x12009C, lo := 0, w := 32, typ := .ro }
def KEY_ORPHANINGS : Fld := { off := 0x1200A0, lo := 0, w := 32, typ := .ro }
def KEY_USE_REFUSED : Fld := { off := 0x1200A4, lo := 0, w := 32, typ := .ro }
def KEY_ZEROIZES : Fld := { off := 0x1200A8, lo := 0, w := 32, typ := .ro }
def KEY_TBL_CTRL_TABLE_ID : Fld := { off := 0x1200C0, lo := 0, w := 16, typ := .rw }
def KEY_TBL_CTRL_INDEX : Fld := { off := 0x1200C0, lo := 16, w := 10, typ := .rw }
def KEY_TBL_CTRL_READ : Fld := { off := 0x1200C0, lo := 31, w := 1, typ := .wo }
def KEY_TBL_STATUS_BUSY : Fld := { off := 0x1200C4, lo := 0, w := 1, typ := .ro }
def KEY_TBL_STATUS_DONE : Fld := { off := 0x1200C4, lo := 1, w := 1, typ := .w1c }
def KEY_TBL_STATUS_BAD_ADDR : Fld := { off := 0x1200C4, lo := 2, w := 1, typ := .w1c }
def KEY_TROUBLE_UPDATE_REFUSED : Fld := { off := 0x120100, lo := 0, w := 1, typ := .w1c }
def KEY_TROUBLE_ORPHANED : Fld := { off := 0x120100, lo := 1, w := 1, typ := .w1c }
def KEY_TROUBLE_EXPIRED : Fld := { off := 0x120100, lo := 2, w := 1, typ := .w1c }
def KEY_TROUBLE_EXHAUSTED : Fld := { off := 0x120100, lo := 3, w := 1, typ := .w1c }
def KEY_TROUBLE_ZEROIZED : Fld := { off := 0x120100, lo := 4, w := 1, typ := .w1c, aon := true }
def KEY_TROUBLE_UNSEAL_STOPPED : Fld := { off := 0x120100, lo := 5, w := 1, typ := .w1c, aon := true }
def KEY_TROUBLE_SUSPENDED : Fld := { off := 0x120100, lo := 6, w := 1, typ := .w1c }
def KEY_TROUBLE_ATTEST_LOW : Fld := { off := 0x120100, lo := 7, w := 1, typ := .w1c }
def KEY_TROUBLE_ATTEST_EXHAUSTED : Fld := { off := 0x120100, lo := 8, w := 1, typ := .w1c }
def KEY_TROUBLE_USE_REFUSED : Fld := { off := 0x120100, lo := 9, w := 1, typ := .w1c }
def KEY_TROUBLE_STORE_ECC : Fld := { off := 0x120100, lo := 10, w := 1, typ := .w1c }
def KEY_TROUBLE_AON_LOSS : Fld := { off := 0x120100, lo := 11, w := 1, typ := .w1c }
def KEY_TROUBLE_EN_UPDATE_REFUSED : Fld := { off := 0x120104, lo := 0, w := 1, typ := .rw, rst := 1 }
def KEY_TROUBLE_EN_ORPHANED : Fld := { off := 0x120104, lo := 1, w := 1, typ := .rw, rst := 1 }
def KEY_TROUBLE_EN_EXPIRED : Fld := { off := 0x120104, lo := 2, w := 1, typ := .rw, rst := 1 }
def KEY_TROUBLE_EN_EXHAUSTED : Fld := { off := 0x120104, lo := 3, w := 1, typ := .rw, rst := 1 }
def KEY_TROUBLE_EN_ZEROIZED : Fld := { off := 0x120104, lo := 4, w := 1, typ := .rw, rst := 1 }
def KEY_TROUBLE_EN_UNSEAL_STOPPED : Fld := { off := 0x120104, lo := 5, w := 1, typ := .rw, rst := 1 }
def KEY_TROUBLE_EN_SUSPENDED : Fld := { off := 0x120104, lo := 6, w := 1, typ := .rw, rst := 1 }
def KEY_TROUBLE_EN_ATTEST_LOW : Fld := { off := 0x120104, lo := 7, w := 1, typ := .rw, rst := 1 }
def KEY_TROUBLE_EN_ATTEST_EXHAUSTED : Fld := { off := 0x120104, lo := 8, w := 1, typ := .rw, rst := 1 }
def KEY_TROUBLE_EN_USE_REFUSED : Fld := { off := 0x120104, lo := 9, w := 1, typ := .rw, rst := 1 }
def KEY_TROUBLE_EN_STORE_ECC : Fld := { off := 0x120104, lo := 10, w := 1, typ := .rw, rst := 1 }
def KEY_TROUBLE_EN_AON_LOSS : Fld := { off := 0x120104, lo := 11, w := 1, typ := .rw, rst := 1 }
def KEY_TBL_DATA : Fld := { off := 0x120200, lo := 0, w := 32, typ := .ro, rep := 16 }
def LCS_ID_LOG_ENTRIES : Fld := { off := 0x130000, lo := 0, w := 8, typ := .ro, rst := 0x10 }
def LCS_ID_BLOCK_REV : Fld := { off := 0x130000, lo := 24, w := 8, typ := .ro, rst := 1 }
def LCS_STATUS_LIFECYCLE : Fld := { off := 0x130004, lo := 0, w := 3, typ := .ro }
def LCS_STATUS_DEBUG : Fld := { off := 0x130004, lo := 4, w := 3, typ := .ro }
def LCS_STATUS_TRANSITIONS_LEFT : Fld := { off := 0x130004, lo := 8, w := 6, typ := .ro }
def LCS_STATUS_TAMPER_N_DRIVEN : Fld := { off := 0x130004, lo := 16, w := 1, typ := .ro, aon := true }
def LCS_STATUS_SENSORS : Fld := { off := 0x130004, lo := 17, w := 7, typ := .ro }
def LCS_TAMPER_POLICY_CLASS : Fld := { off := 0x130008, lo := 0, w := 1, typ := .rwlE }
def LCS_TAMPER_POLICY_TAMPER_HOLD_MS : Fld := { off := 0x130008, lo := 8, w := 8, typ := .rwlE, rst := 0xa }
def LCS_DEBUG_CEILING : Fld := { off := 0x13000C, lo := 0, w := 3, typ := .rwlE }
def LCS_CHALLENGE : Fld := { off := 0x130010, lo := 0, w := 32, typ := .ro, rep := 8 }
def LCS_CHALLENGE_CTRL_NEW : Fld := { off := 0x130030, lo := 0, w := 1, typ := .wo }
def LCS_CHALLENGE_CTRL_LIVE : Fld := { off := 0x130030, lo := 1, w := 1, typ := .ro }
def LCS_TOKEN_LEN : Fld := { off := 0x130034, lo := 0, w := 16, typ := .rw }
def LCS_TOKEN_WR_DATA : Fld := { off := 0x130038, lo := 0, w := 32, typ := .wo }
def LCS_TOKEN_CTRL_GO : Fld := { off := 0x13003C, lo := 31, w := 1, typ := .wo }
def LCS_TOKEN_STATUS_BUSY : Fld := { off := 0x130040, lo := 0, w := 1, typ := .ro }
def LCS_TOKEN_STATUS_DONE : Fld := { off := 0x130040, lo := 1, w := 1, typ := .w1c }
def LCS_TOKEN_STATUS_RESULT : Fld := { off := 0x130040, lo := 8, w := 8, typ := .ro }
def LCS_DEBUG_ATTEMPTS : Fld := { off := 0x130044, lo := 0, w := 32, typ := .ro }
def LCS_DEBUG_CTRL_CLOSE : Fld := { off := 0x130048, lo := 0, w := 1, typ := .wo }
def LCS_DEBUG_STATUS_STATE : Fld := { off := 0x13004C, lo := 0, w := 3, typ := .ro }
def LCS_DEBUG_STATUS_VENDOR : Fld := { off := 0x13004C, lo := 3, w := 1, typ := .ro }
def LCS_DEBUG_STATUS_LEFT_S : Fld := { off := 0x13004C, lo := 16, w := 16, typ := .ro }
def LCS_DEBUG_FOLIOS : Fld := { off := 0x130050, lo := 0, w := 32, typ := .ro }
def LCS_TAMPER_CTRL_RELEASE : Fld := { off := 0x130054, lo := 0, w := 1, typ := .wo }
def LCS_TAMPER_TOTAL : Fld := { off := 0x130058, lo := 0, w := 32, typ := .ro, aon := true }
def LCS_TLOG_INDEX : Fld := { off := 0x13005C, lo := 0, w := 4, typ := .rw }
def LCS_TLOG_DATA : Fld := { off := 0x130060, lo := 0, w := 32, typ := .ro, rep := 4, aon := true }
def LCS_TOKEN_CTR_OWNER : Fld := { off := 0x130070, lo := 0, w := 64, typ := .ro }
def LCS_TOKEN_CTR_VENDOR : Fld := { off := 0x130078, lo := 0, w := 64, typ := .ro }
def LCS_TAMPER_AON_CLASS_AON : Fld := { off := 0x130080, lo := 0, w := 1, typ := .ro, aon := true }
def LCS_TROUBLE_TAMPER : Fld := { off := 0x130100, lo := 0, w := 1, typ := .w1c, aon := true }
def LCS_TROUBLE_LOG_FULL : Fld := { off := 0x130100, lo := 1, w := 1, typ := .w1c, aon := true }
def LCS_TROUBLE_LIFECYCLE_CHANGED : Fld := { off := 0x130100, lo := 2, w := 1, typ := .w1c, aon := true }
def LCS_TROUBLE_TOKEN_REFUSED : Fld := { off := 0x130100, lo := 3, w := 1, typ := .w1c }
def LCS_TROUBLE_DEBUG_OPENED : Fld := { off := 0x130100, lo := 4, w := 1, typ := .w1c }
def LCS_TROUBLE_DEBUG_ATTEMPT : Fld := { off := 0x130100, lo := 5, w := 1, typ := .w1c }
def LCS_TROUBLE_LOCKED_WRITE : Fld := { off := 0x130100, lo := 6, w := 1, typ := .w1c }
def LCS_TROUBLE_EN_TAMPER : Fld := { off := 0x130104, lo := 0, w := 1, typ := .rw, rst := 1 }
def LCS_TROUBLE_EN_LOG_FULL : Fld := { off := 0x130104, lo := 1, w := 1, typ := .rw, rst := 1 }
def LCS_TROUBLE_EN_LIFECYCLE_CHANGED : Fld := { off := 0x130104, lo := 2, w := 1, typ := .rw, rst := 1 }
def LCS_TROUBLE_EN_TOKEN_REFUSED : Fld := { off := 0x130104, lo := 3, w := 1, typ := .rw, rst := 1 }
def LCS_TROUBLE_EN_DEBUG_OPENED : Fld := { off := 0x130104, lo := 4, w := 1, typ := .rw, rst := 1 }
def LCS_TROUBLE_EN_DEBUG_ATTEMPT : Fld := { off := 0x130104, lo := 5, w := 1, typ := .rw, rst := 1 }
def LCS_TROUBLE_EN_LOCKED_WRITE : Fld := { off := 0x130104, lo := 6, w := 1, typ := .rw, rst := 1 }
def BST_ID_TARGETS : Fld := { off := 0x140000, lo := 0, w := 8, typ := .ro, rst := 0x13 }
def BST_ID_BLOCK_REV : Fld := { off := 0x140000, lo := 24, w := 8, typ := .ro, rst := 1 }
def BST_BOOT_CFG_MODE_COLD : Fld := { off := 0x140004, lo := 0, w := 2, typ := .rw, rst := 2, aon := true }
def BST_BOOT_CFG_MODE_WARM : Fld := { off := 0x140004, lo := 2, w := 2, typ := .rw, rst := 1, aon := true }
def BST_STATUS_PHASE : Fld := { off := 0x140008, lo := 0, w := 2, typ := .ro }
def BST_STATUS_MODE : Fld := { off := 0x140008, lo := 2, w := 2, typ := .ro }
def BST_STATUS_SAFE : Fld := { off := 0x140008, lo := 4, w := 1, typ := .ro }
def BST_STATUS_RESULT : Fld := { off := 0x140008, lo := 8, w := 3, typ := .ro }
def BST_STATUS_DURATION : Fld := { off := 0x140008, lo := 16, w := 16, typ := .ro }
def BST_CMD_TARGET : Fld := { off := 0x140010, lo := 0, w := 2, typ := .rw }
def BST_CMD_INSTANCE : Fld := { off := 0x140010, lo := 4, w := 4, typ := .rw }
def BST_CMD_GO : Fld := { off := 0x140010, lo := 31, w := 1, typ := .wo }
def BST_CMD_STATUS_BUSY : Fld := { off := 0x140014, lo := 0, w := 1, typ := .ro }
def BST_CMD_STATUS_DONE : Fld := { off := 0x140014, lo := 1, w := 1, typ := .w1c }
def BST_CMD_STATUS_RESULT : Fld := { off := 0x140014, lo := 4, w := 4, typ := .ro }
def BST_FAIL_COUNT_ENTRIES : Fld := { off := 0x140018, lo := 0, w := 7, typ := .ro }
def BST_FAIL_COUNT_OVERFLOW : Fld := { off := 0x140018, lo := 7, w := 1, typ := .ro }
def BST_FAIL_COUNT_FINDINGS : Fld := { off := 0x140018, lo := 16, w := 16, typ := .ro }
def BST_FAIL_INDEX : Fld := { off := 0x14001C, lo := 0, w := 6, typ := .rw }
def BST_FAIL_DATA : Fld := { off := 0x140020, lo := 0, w := 32, typ := .ro, rep := 2 }
def BST_REPAIR_USED : Fld := { off := 0x140028, lo := 0, w := 9, typ := .ro }
def BST_REPAIR_NEW : Fld := { off := 0x140028, lo := 16, w := 8, typ := .ro }
def BST_TROUBLE_BOOT_FAIL : Fld := { off := 0x140100, lo := 0, w := 1, typ := .w1c, aon := true }
def BST_TROUBLE_REPAIRED : Fld := { off := 0x140100, lo := 1, w := 1, typ := .w1c }
def BST_TROUBLE_SUBSTITUTED : Fld := { off := 0x140100, lo := 2, w := 1, typ := .w1c }
def BST_TROUBLE_DEMAND_FAIL : Fld := { off := 0x140100, lo := 3, w := 1, typ := .w1c }
def BST_TROUBLE_REPAIR_LOG_FULL : Fld := { off := 0x140100, lo := 4, w := 1, typ := .w1c, aon := true }
def BST_TROUBLE_LOG_OVERFLOW : Fld := { off := 0x140100, lo := 5, w := 1, typ := .w1c }
def BST_TROUBLE_EN_BOOT_FAIL : Fld := { off := 0x140104, lo := 0, w := 1, typ := .rw, rst := 1 }
def BST_TROUBLE_EN_REPAIRED : Fld := { off := 0x140104, lo := 1, w := 1, typ := .rw, rst := 1 }
def BST_TROUBLE_EN_SUBSTITUTED : Fld := { off := 0x140104, lo := 2, w := 1, typ := .rw, rst := 1 }
def BST_TROUBLE_EN_DEMAND_FAIL : Fld := { off := 0x140104, lo := 3, w := 1, typ := .rw, rst := 1 }
def BST_TROUBLE_EN_REPAIR_LOG_FULL : Fld := { off := 0x140104, lo := 4, w := 1, typ := .rw, rst := 1 }
def BST_TROUBLE_EN_LOG_OVERFLOW : Fld := { off := 0x140104, lo := 5, w := 1, typ := .rw, rst := 1 }
def HKA_ID_CHANNELS : Fld := { off := 0x150000, lo := 0, w := 8, typ := .ro, rst := 0x10 }
def HKA_ID_MONITORS : Fld := { off := 0x150000, lo := 8, w := 8, typ := .ro, rst := 0x20 }
def HKA_ID_BLOCK_REV : Fld := { off := 0x150000, lo := 24, w := 8, typ := .ro, rst := 1 }
def HKA_CTRL_ENABLE : Fld := { off := 0x150004, lo := 0, w := 1, typ := .rw }
def HKA_CTRL_CLEAR_COUNTERS : Fld := { off := 0x150004, lo := 1, w := 1, typ := .wo }
def HKA_STATUS_RUNNING : Fld := { off := 0x150008, lo := 0, w := 1, typ := .ro }
def HKA_STATUS_SPARING : Fld := { off := 0x150008, lo := 1, w := 1, typ := .ro }
def HKA_STATUS_OPEN : Fld := { off := 0x150008, lo := 8, w := 8, typ := .ro }
def HKA_SEQ_CFG_MASK : Fld := { off := 0x15000C, lo := 0, w := 16, typ := .rw, bnd := true }
def HKA_SEQ_CFG_SWEEP_MS : Fld := { off := 0x15000C, lo := 16, w := 8, typ := .rw, bnd := true }
def HKA_CONV_CTRL_CHANNEL : Fld := { off := 0x150010, lo := 0, w := 4, typ := .rw }
def HKA_CONV_CTRL_URGENT : Fld := { off := 0x150010, lo := 4, w := 1, typ := .rw }
def HKA_CONV_CTRL_GO : Fld := { off := 0x150010, lo := 31, w := 1, typ := .wo }
def HKA_CONV_STATUS_BUSY : Fld := { off := 0x150014, lo := 0, w := 1, typ := .ro }
def HKA_CONV_STATUS_STARTED : Fld := { off := 0x150014, lo := 1, w := 1, typ := .ro }
def HKA_DATA_LO_VALID : Fld := { off := 0x150018, lo := 0, w := 1, typ := .w1c }
def HKA_DATA_LO_URGENT : Fld := { off := 0x150018, lo := 1, w := 1, typ := .ro }
def HKA_DATA_LO_CHANNEL : Fld := { off := 0x150018, lo := 4, w := 4, typ := .ro }
def HKA_DATA_LO_WAIT : Fld := { off := 0x150018, lo := 16, w := 16, typ := .ro }
def HKA_DATA_HI_VALUE : Fld := { off := 0x15001C, lo := 0, w := 32, typ := .ro }
def HKA_DATA_TAI : Fld := { off := 0x150020, lo := 0, w := 64, typ := .ro }
def HKA_TEMP_LIMIT_WARN_DIE : Fld := { off := 0x150030, lo := 0, w := 16, typ := .rw, bnd := true }
def HKA_TEMP_LIMIT_WARN_BOARD : Fld := { off := 0x150030, lo := 16, w := 16, typ := .rw, bnd := true }
def HKA_AGE_LIMIT_WARN_PPM : Fld := { off := 0x150034, lo := 0, w := 16, typ := .rw, bnd := true }
def HKA_AGE_LIMIT_PROPOSE_PPM : Fld := { off := 0x150034, lo := 16, w := 16, typ := .rw, bnd := true }
def HKA_ECC_LIMIT_DRAM_24H : Fld := { off := 0x150038, lo := 0, w := 16, typ := .rw, bnd := true }
def HKA_ECC_LIMIT_REPEAT : Fld := { off := 0x150038, lo := 16, w := 4, typ := .rw, bnd := true }
def HKA_LIFE_LIMIT_WARN_PCT : Fld := { off := 0x15003C, lo := 0, w := 8, typ := .rw, bnd := true }
def HKA_LIFE_LIMIT_PROPOSE_PCT : Fld := { off := 0x15003C, lo := 8, w := 8, typ := .rw, bnd := true }
def HKA_LIFE_LIMIT_REMIND_DAYS : Fld := { off := 0x15003C, lo := 16, w := 8, typ := .rw, bnd := true }
def HKA_LIFE : Fld := { off := 0x150040, lo := 0, w := 64, typ := .ro }
def HKA_SPARES_DRAM_SPARE : Fld := { off := 0x150048, lo := 0, w := 4, typ := .ro }
def HKA_SPARES_QUEUED : Fld := { off := 0x150048, lo := 8, w := 4, typ := .ro }
def HKA_CMD_OP : Fld := { off := 0x150050, lo := 0, w := 2, typ := .rw }
def HKA_CMD_RANK : Fld := { off := 0x150050, lo := 4, w := 2, typ := .rw }
def HKA_CMD_DEVICE : Fld := { off := 0x150050, lo := 8, w := 5, typ := .rw }
def HKA_CMD_PROP : Fld := { off := 0x150050, lo := 16, w := 4, typ := .rw }
def HKA_CMD_GO : Fld := { off := 0x150050, lo := 31, w := 1, typ := .wo }
def HKA_CMD_STATUS_BUSY : Fld := { off := 0x150058, lo := 0, w := 1, typ := .ro }
def HKA_CMD_STATUS_DONE : Fld := { off := 0x150058, lo := 1, w := 1, typ := .w1c }
def HKA_CMD_STATUS_RESULT : Fld := { off := 0x150058, lo := 4, w := 4, typ := .ro }
def HKA_CONVERSIONS : Fld := { off := 0x150060, lo := 0, w := 32, typ := .ro }
def HKA_OVERRUNS : Fld := { off := 0x150064, lo := 0, w := 32, typ := .ro }
def HKA_PROPOSED : Fld := { off := 0x150068, lo := 0, w := 32, typ := .ro }
def HKA_TBL_CTRL_TABLE_ID : Fld := { off := 0x150080, lo := 0, w := 16, typ := .rw }
def HKA_TBL_CTRL_INDEX : Fld := { off := 0x150080, lo := 16, w := 5, typ := .rw }
def HKA_TBL_CTRL_READ : Fld := { off := 0x150080, lo := 31, w := 1, typ := .wo }
def HKA_TBL_STATUS_BUSY : Fld := { off := 0x150084, lo := 0, w := 1, typ := .ro }
def HKA_TBL_STATUS_DONE : Fld := { off := 0x150084, lo := 1, w := 1, typ := .w1c }
def HKA_TBL_STATUS_BAD_ADDR : Fld := { off := 0x150084, lo := 2, w := 1, typ := .w1c }
def HKA_TBL_DATA : Fld := { off := 0x150090, lo := 0, w := 32, typ := .ro, rep := 4 }
def HKA_TROUBLE_OVERRUN : Fld := { off := 0x150100, lo := 0, w := 1, typ := .w1c }
def HKA_TROUBLE_REQ_BUSY : Fld := { off := 0x150100, lo := 1, w := 1, typ := .w1c }
def HKA_TROUBLE_TEMP_WARN : Fld := { off := 0x150100, lo := 2, w := 1, typ := .w1c }
def HKA_TROUBLE_AGE_WARN : Fld := { off := 0x150100, lo := 3, w := 1, typ := .w1c }
def HKA_TROUBLE_ECC_WARN : Fld := { off := 0x150100, lo := 4, w := 1, typ := .w1c }
def HKA_TROUBLE_LIFE_WARN : Fld := { off := 0x150100, lo := 5, w := 1, typ := .w1c, aon := true }
def HKA_TROUBLE_PROPOSAL : Fld := { off := 0x150100, lo := 6, w := 1, typ := .w1c }
def HKA_TROUBLE_SPARE_EXHAUSTED : Fld := { off := 0x150100, lo := 7, w := 1, typ := .w1c, aon := true }
def HKA_TROUBLE_SPARING_FAIL : Fld := { off := 0x150100, lo := 8, w := 1, typ := .w1c }
def HKA_TROUBLE_EN_OVERRUN : Fld := { off := 0x150104, lo := 0, w := 1, typ := .rw, rst := 1 }
def HKA_TROUBLE_EN_REQ_BUSY : Fld := { off := 0x150104, lo := 1, w := 1, typ := .rw, rst := 1 }
def HKA_TROUBLE_EN_TEMP_WARN : Fld := { off := 0x150104, lo := 2, w := 1, typ := .rw, rst := 1 }
def HKA_TROUBLE_EN_AGE_WARN : Fld := { off := 0x150104, lo := 3, w := 1, typ := .rw, rst := 1 }
def HKA_TROUBLE_EN_ECC_WARN : Fld := { off := 0x150104, lo := 4, w := 1, typ := .rw, rst := 1 }
def HKA_TROUBLE_EN_LIFE_WARN : Fld := { off := 0x150104, lo := 5, w := 1, typ := .rw, rst := 1 }
def HKA_TROUBLE_EN_PROPOSAL : Fld := { off := 0x150104, lo := 6, w := 1, typ := .rw, rst := 1 }
def HKA_TROUBLE_EN_SPARE_EXHAUSTED : Fld := { off := 0x150104, lo := 7, w := 1, typ := .rw, rst := 1 }
def HKA_TROUBLE_EN_SPARING_FAIL : Fld := { off := 0x150104, lo := 8, w := 1, typ := .rw, rst := 1 }
def CTL_ID_OBJECTS : Fld := { off := 0x160000, lo := 0, w := 12, typ := .ro, rst := 0x400 }
def CTL_ID_MASTERS : Fld := { off := 0x160000, lo := 16, w := 8, typ := .ro, rst := 0x40 }
def CTL_ID_BLOCK_REV : Fld := { off := 0x160000, lo := 24, w := 8, typ := .ro, rst := 1 }
def CTL_CTRL_ENABLE : Fld := { off := 0x160004, lo := 0, w := 1, typ := .rw }
def CTL_CTRL_PORT_EN : Fld := { off := 0x160004, lo := 1, w := 1, typ := .rw }
def CTL_CTRL_SIM_MODE : Fld := { off := 0x160004, lo := 2, w := 1, typ := .rw }
def CTL_CTRL_CLEAR_COUNTERS : Fld := { off := 0x160004, lo := 3, w := 1, typ := .wo }
def CTL_STATUS_RUNNING : Fld := { off := 0x160008, lo := 0, w := 1, typ := .ro }
def CTL_STATUS_EXECUTING : Fld := { off := 0x160008, lo := 1, w := 1, typ := .ro }
def CTL_STATUS_IL_CLK_PRESENT : Fld := { off := 0x160008, lo := 2, w := 1, typ := .ro }
def CTL_STATUS_IL_IMAGE_OK : Fld := { off := 0x160008, lo := 3, w := 1, typ := .ro }
def CTL_STATUS_HELD : Fld := { off := 0x160008, lo := 16, w := 11, typ := .ro }
def CTL_IL_CFG_MAX_AGE_US : Fld := { off := 0x16000C, lo := 0, w := 16, typ := .rw, bnd := true }
def CTL_IL_IMAGE_SCAN_SCAN_LO : Fld := { off := 0x160010, lo := 0, w := 32, typ := .ro }
def CTL_CMD_OBJECT : Fld := { off := 0x160020, lo := 0, w := 10, typ := .rw, cnt := 2, stride := 0x10 }
def CTL_CMD_CODE : Fld := { off := 0x160020, lo := 16, w := 8, typ := .rw, cnt := 2, stride := 0x10 }
def CTL_CMD_GO : Fld := { off := 0x160020, lo := 31, w := 1, typ := .wo, cnt := 2, stride := 0x10 }
def CTL_CMD_TAG : Fld := { off := 0x160024, lo := 0, w := 32, typ := .rw, cnt := 2, stride := 0x10 }
def CTL_CMD_STATUS_BUSY : Fld := { off := 0x160028, lo := 0, w := 1, typ := .ro, cnt := 2, stride := 0x10 }
def CTL_CMD_STATUS_DONE : Fld := { off := 0x160028, lo := 1, w := 1, typ := .w1c, cnt := 2, stride := 0x10 }
def CTL_CMD_STATUS_EXECUTED : Fld := { off := 0x160028, lo := 2, w := 1, typ := .ro, cnt := 2, stride := 0x10 }
def CTL_CMD_STATUS_RESULT : Fld := { off := 0x160028, lo := 8, w := 8, typ := .ro, cnt := 2, stride := 0x10 }
def CTL_OBJ_CTRL_OBJECT : Fld := { off := 0x160040, lo := 0, w := 10, typ := .rw }
def CTL_OBJ_CTRL_ABORT : Fld := { off := 0x160040, lo := 16, w := 1, typ := .rw }
def CTL_OBJ_CTRL_GO : Fld := { off := 0x160040, lo := 31, w := 1, typ := .wo }
def CTL_LAST_RESULT_OBJECT : Fld := { off := 0x160044, lo := 0, w := 10, typ := .ro }
def CTL_LAST_RESULT_MASTER : Fld := { off := 0x160044, lo := 10, w := 6, typ := .ro }
def CTL_LAST_RESULT_CODE : Fld := { off := 0x160044, lo := 16, w := 8, typ := .ro }
def CTL_LAST_RESULT_VALID : Fld := { off := 0x160044, lo := 31, w := 1, typ := .ro }
def CTL_CMDS : Fld := { off := 0x160050, lo := 0, w := 32, typ := .ro }
def CTL_EXECUTED : Fld := { off := 0x160054, lo := 0, w := 32, typ := .ro }
def CTL_REJECTED : Fld := { off := 0x160058, lo := 0, w := 32, typ := .ro }
def CTL_TRAVEL_FAIL : Fld := { off := 0x16005C, lo := 0, w := 32, typ := .ro }
def CTL_IL_QUERIES : Fld := { off := 0x160060, lo := 0, w := 32, typ := .ro }
def CTL_IL_PAR_ERR : Fld := { off := 0x160064, lo := 0, w := 32, typ := .ro }
def CTL_TBL_CTRL_TABLE_ID : Fld := { off := 0x160080, lo := 0, w := 16, typ := .rw }
def CTL_TBL_CTRL_INDEX : Fld := { off := 0x160080, lo := 16, w := 10, typ := .rw }
def CTL_TBL_CTRL_READ : Fld := { off := 0x160080, lo := 31, w := 1, typ := .wo }
def CTL_TBL_STATUS_BUSY : Fld := { off := 0x160084, lo := 0, w := 1, typ := .ro }
def CTL_TBL_STATUS_DONE : Fld := { off := 0x160084, lo := 1, w := 1, typ := .w1c }
def CTL_TBL_STATUS_BAD_ADDR : Fld := { off := 0x160084, lo := 2, w := 1, typ := .w1c }
def CTL_TBL_DATA : Fld := { off := 0x1600A0, lo := 0, w := 32, typ := .ro, rep := 8 }
def CTL_TROUBLE_REJECT : Fld := { off := 0x160100, lo := 0, w := 1, typ := .w1c }
def CTL_TROUBLE_TRAVEL_FAIL : Fld := { off := 0x160100, lo := 1, w := 1, typ := .w1c }
def CTL_TROUBLE_TIMEOUT : Fld := { off := 0x160100, lo := 2, w := 1, typ := .w1c }
def CTL_TROUBLE_QUEUE_FULL : Fld := { off := 0x160100, lo := 3, w := 1, typ := .w1c }
def CTL_TROUBLE_POS_LOST : Fld := { off := 0x160100, lo := 4, w := 1, typ := .w1c }
def CTL_TROUBLE_IL_PAR_ERR : Fld := { off := 0x160100, lo := 5, w := 1, typ := .w1c }
def CTL_TROUBLE_IL_CLK_LOSS : Fld := { off := 0x160100, lo := 6, w := 1, typ := .w1c }
def CTL_TROUBLE_IL_STALE : Fld := { off := 0x160100, lo := 7, w := 1, typ := .w1c }
def CTL_TROUBLE_WRONG_AGENT : Fld := { off := 0x160100, lo := 8, w := 1, typ := .w1c }
def CTL_TROUBLE_NO_OBJECT : Fld := { off := 0x160100, lo := 9, w := 1, typ := .w1c }
def CTL_TROUBLE_EN_REJECT : Fld := { off := 0x160104, lo := 0, w := 1, typ := .rw, rst := 1 }
def CTL_TROUBLE_EN_TRAVEL_FAIL : Fld := { off := 0x160104, lo := 1, w := 1, typ := .rw, rst := 1 }
def CTL_TROUBLE_EN_TIMEOUT : Fld := { off := 0x160104, lo := 2, w := 1, typ := .rw, rst := 1 }
def CTL_TROUBLE_EN_QUEUE_FULL : Fld := { off := 0x160104, lo := 3, w := 1, typ := .rw, rst := 1 }
def CTL_TROUBLE_EN_POS_LOST : Fld := { off := 0x160104, lo := 4, w := 1, typ := .rw, rst := 1 }
def CTL_TROUBLE_EN_IL_PAR_ERR : Fld := { off := 0x160104, lo := 5, w := 1, typ := .rw, rst := 1 }
def CTL_TROUBLE_EN_IL_CLK_LOSS : Fld := { off := 0x160104, lo := 6, w := 1, typ := .rw, rst := 1 }
def CTL_TROUBLE_EN_IL_STALE : Fld := { off := 0x160104, lo := 7, w := 1, typ := .rw, rst := 1 }
def CTL_TROUBLE_EN_WRONG_AGENT : Fld := { off := 0x160104, lo := 8, w := 1, typ := .rw, rst := 1 }
def CTL_TROUBLE_EN_NO_OBJECT : Fld := { off := 0x160104, lo := 9, w := 1, typ := .rw, rst := 1 }

def mapSYS0 : List Fld :=
  [SYS_ID_DEVICE, SYS_ID_VARIANT, SYS_ID_BLOCK_REV, SYS_TROUBLE_SUM, SYS_TROUBLE_MAC, SYS_TROUBLE_ROUTE_SUP, SYS_TROUBLE_ROUTE_CM, SYS_MB_ACCESSES, SYS_MB_ERRORS, SYS_MB_ADDR, SYS_MB_ADDR_SLOT_ID, SYS_PWR_CMD_TARGET, SYS_PWR_CMD_GO, SYS_PWR_STATUS_BUSY, SYS_PWR_STATUS_DONE, SYS_PWR_STATUS_CLK_REFUSED, SYS_PWR_STATUS_RESULT, SYS_PWR_STATUS_STATE, SYS_PWR_AON_SLEEP_MODE, SYS_PWR_AON_PWR_EN, SYS_CLK_REQ, SYS_CLK_RUN, SYS_CLK_BOOT, SYS_CLK_REFUSED, SYS_RST_CMD_KEY, SYS_RST_CMD_GO, SYS_RST_STATUS_BUSY, SYS_RST_STATUS_DONE, SYS_RST_STATUS_RESULT, SYS_RST_STATUS_LAST_KIND, SYS_RST_STATUS_WDOG_EXPIRED, SYS_RST_COUNT, SYS_WDOG_CFG_PERIOD_MS, SYS_WDOG_CFG_ACTION, SYS_WDOG_KICK, SYS_WDOG_STATUS_LEFT_MS, SYS_SUPPLY_STATUS_VWARN, SYS_SUPPLY_STATUS_VSTBY_OK, SYS_SUPPLY_STATUS_VWARN_SEEN, SYS_SUPPLY_STATUS_VRESET_SEEN]
def mapSYS1 : List Fld :=
  [SYS_SUPPLY_STATUS_VSTBY_LOW, SYS_SUPPLY_STATUS_DIPS, SYS_SUPPLY_LAST_DURATION_US, SYS_SUPPLY_MIN_MIN_MV, SYS_SUPPLY_MIN_NOW_MV, SYS_TROUBLE_LOCKED_WRITE, SYS_TROUBLE_UNMAPPED, SYS_TROUBLE_SIZE, SYS_TROUBLE_MB_FRAME, SYS_TROUBLE_MB_DENIED, SYS_TROUBLE_WDOG_EXPIRED, SYS_TROUBLE_SUPPLY, SYS_TROUBLE_CLK_REFUSED, SYS_TROUBLE_EN_LOCKED_WRITE, SYS_TROUBLE_EN_UNMAPPED, SYS_TROUBLE_EN_SIZE, SYS_TROUBLE_EN_MB_FRAME, SYS_TROUBLE_EN_MB_DENIED, SYS_TROUBLE_EN_WDOG_EXPIRED, SYS_TROUBLE_EN_SUPPLY, SYS_TROUBLE_EN_CLK_REFUSED]
/-- The fields of block SYS. -/
def mapSYS : List Fld := mapSYS0 ++ mapSYS1

def mapBND0 : List Fld :=
  [BND_ID_FORMAT_MAX, BND_ID_BLOCK_REV, BND_CTRL_LOAD, BND_CTRL_ABORT, BND_CTRL_SRC, BND_BOOT_CFG_AUTOLOAD, BND_BOOT_CFG_SLOT_SEL, BND_BOOT_CFG_FALLBACK_EN, BND_STATUS_PHASE, BND_STATUS_BUSY, BND_STATUS_LOADED, BND_STATUS_EP_LOCK, BND_STATUS_SOURCE, BND_STATUS_FAIL_CODE, BND_STATUS_FAIL_SECTION, BND_IMAGE_VER_IMAGE_VERSION, BND_FLOOR, BND_FLOOR_SET_NEW_FLOOR, BND_EP_POLICY_TIPIN_EN, BND_EP_POLICY_JOURNAL_EN, BND_EP_POLICY_SECTIONS, BND_EP_POLICY_TIP_KEY_SLOT, BND_DIGEST, BND_STAGE_BASE, BND_STAGE_LEN, BND_STAGE_WR_DATA, BND_TIP_CTRL_STAGE, BND_TIP_CTRL_ARM, BND_TIP_CTRL_CONFIRM, BND_TIP_CTRL_REVERT, BND_TIP_CTRL_DISCARD, BND_TIP_STATUS_STATE, BND_TIP_STATUS_DEFERRALS, BND_TIP_STATUS_FAIL_CODE, BND_TIP_STATUS_SECTIONS, BND_TIP_TARGET, BND_TIP_COMMIT, BND_TIP_EPOCH, BND_TIP_CFG_REVERT_TIMEOUT, BND_TIP_CFG_MAX_DEFER]
def mapBND1 : List Fld :=
  [BND_TIP_SEQ, BND_STORE_CTRL_PROGRAM, BND_STORE_CTRL_ERASE_JOURNAL, BND_STORE_CTRL_TARGET_SLOT, BND_STORE_STATUS_BUSY, BND_STORE_STATUS_DONE, BND_STORE_STATUS_FAIL_CODE, BND_STORE_STATUS_JOURNAL_A, BND_STORE_STATUS_JOURNAL_B, BND_TROUBLE_LOAD_FAIL, BND_TROUBLE_TIP_FAIL, BND_TROUBLE_TIP_REVERTED, BND_TROUBLE_LOCKED_WRITE, BND_TROUBLE_FLOOR_REJECT, BND_TROUBLE_FALLBACK_USED, BND_TROUBLE_JOURNAL_TRUNC, BND_TROUBLE_STORE_ERR, BND_TROUBLE_TIP_DEFERRED, BND_TROUBLE_EN_LOAD_FAIL, BND_TROUBLE_EN_TIP_FAIL, BND_TROUBLE_EN_TIP_REVERTED, BND_TROUBLE_EN_LOCKED_WRITE, BND_TROUBLE_EN_FLOOR_REJECT, BND_TROUBLE_EN_FALLBACK_USED, BND_TROUBLE_EN_JOURNAL_TRUNC, BND_TROUBLE_EN_STORE_ERR, BND_TROUBLE_EN_TIP_DEFERRED]
/-- The fields of block BND. -/
def mapBND : List Fld := mapBND0 ++ mapBND1

def mapSVI0 : List Fld :=
  [SVI_ID_STREAMS, SVI_ID_UNITS, SVI_ID_BLOCK_REV, SVI_CTRL_ENABLE, SVI_CTRL_SIM_MODE, SVI_CTRL_CLEAR_PEAKS, SVI_CTRL_CLEAR_COUNTERS, SVI_STATUS_RUNNING, SVI_STATUS_ACTIVE_UNITS, SVI_STATUS_DEGRADED, SVI_STATUS_NO_SPARE, SVI_STATUS_STREAMS_ACTIVE, SVI_EPOCH, SVI_FRONTIER, SVI_HORIZON, SVI_BACKLOG, SVI_BACKLOG_PEAK_BACKLOG, SVI_LAT_PEAK_PEAK_LAT, SVI_VER_CTRL_SPARE_SEL, SVI_VER_CTRL_KAT_EN, SVI_VER_CTRL_RETIRE, SVI_VER_CTRL_RESTORE, SVI_VER_STATUS_UNIT_STATE, SVI_VER_STATUS_LAST_FAIL_UNIT, SVI_VER_STATUS_LAST_FAIL_CAUSE, SVI_LAST_REFUTE_STREAM, SVI_LAST_REFUTE_CAUSE, SVI_LAST_REFUTE_VALID, SVI_LAST_REJECT_CODE, SVI_LAST_REJECT_STREAM, SVI_LAST_REFUTE_EPOCH, SVI_RX_FRAMES, SVI_PLACED, SVI_DUP_PRP, SVI_DUP_SLOT, SVI_UNMATCHED, SVI_PARSE_REJECT, SVI_KEY_REJECT, SVI_CONFIRMED, SVI_REFUTED]
def mapSVI1 : List Fld :=
  [SVI_LATE, SVI_EARLY, SVI_MISSING, SVI_OVERRUN, SVI_SIM_DROP, SVI_EXPIRED_READ, SVI_TBL_CTRL_TABLE_ID, SVI_TBL_CTRL_INDEX, SVI_TBL_CTRL_READ, SVI_TBL_STATUS_BUSY, SVI_TBL_STATUS_DONE, SVI_TBL_STATUS_BAD_ADDR, SVI_TBL_DATA, SVI_TROUBLE_VERIFIER_FAIL, SVI_TROUBLE_NO_SPARE, SVI_TROUBLE_REFUTED, SVI_TROUBLE_TIMEOUT, SVI_TROUBLE_MISSING, SVI_TROUBLE_LATE, SVI_TROUBLE_EARLY, SVI_TROUBLE_PARSE_REJECT, SVI_TROUBLE_KEY_REJECT, SVI_TROUBLE_ORPHANED, SVI_TROUBLE_OVERRUN, SVI_TROUBLE_BURST, SVI_TROUBLE_RING_ECC, SVI_TROUBLE_EXPIRED_READ, SVI_TROUBLE_CMD_REFUSED, SVI_TROUBLE_EN_VERIFIER_FAIL, SVI_TROUBLE_EN_NO_SPARE, SVI_TROUBLE_EN_REFUTED, SVI_TROUBLE_EN_TIMEOUT, SVI_TROUBLE_EN_MISSING, SVI_TROUBLE_EN_LATE, SVI_TROUBLE_EN_EARLY, SVI_TROUBLE_EN_PARSE_REJECT, SVI_TROUBLE_EN_KEY_REJECT, SVI_TROUBLE_EN_ORPHANED, SVI_TROUBLE_EN_OVERRUN, SVI_TROUBLE_EN_BURST]
def mapSVI2 : List Fld :=
  [SVI_TROUBLE_EN_RING_ECC, SVI_TROUBLE_EN_EXPIRED_READ, SVI_TROUBLE_EN_CMD_REFUSED]
/-- The fields of block SVI. -/
def mapSVI : List Fld := mapSVI0 ++ mapSVI1 ++ mapSVI2

def mapCLS0 : List Fld :=
  [CLS_ID_FOLIOS, CLS_ID_ENTRIES, CLS_ID_STALL_US, CLS_ID_BLOCK_REV, CLS_CTRL_ENABLE, CLS_CTRL_RERUN_MAX, CLS_CTRL_CLEAR_COUNTERS, CLS_STATUS_EMIT, CLS_STATUS_EMITTING, CLS_STATUS_SEALED, CLS_STATUS_SQUASHED, CLS_STATUS_DT_FOLIO, CLS_FRONTIER, CLS_QUIRE_CYCLE, CLS_QUIRE_LEN, CLS_RELEASED, CLS_SQUASH_REFUTE, CLS_SQUASH_STALL, CLS_SQUASH_CASCADE, CLS_LOST, CLS_ABANDONED, CLS_STAGE_ERR, CLS_EMIT_DISCARD, CLS_LAST_SQUASH_FOLIO, CLS_LAST_SQUASH_CAUSE, CLS_LAST_SQUASH_VALID, CLS_TROUBLE_SQUASH, CLS_TROUBLE_STALL, CLS_TROUBLE_LOST, CLS_TROUBLE_ABANDONED, CLS_TROUBLE_STAGE_ERR, CLS_TROUBLE_SEAL_ERR, CLS_TROUBLE_QUIRE_STALE, CLS_TROUBLE_EMIT_DISCARD, CLS_TROUBLE_EN_SQUASH, CLS_TROUBLE_EN_STALL, CLS_TROUBLE_EN_LOST, CLS_TROUBLE_EN_ABANDONED, CLS_TROUBLE_EN_STAGE_ERR, CLS_TROUBLE_EN_SEAL_ERR]
def mapCLS1 : List Fld :=
  [CLS_TROUBLE_EN_QUIRE_STALE, CLS_TROUBLE_EN_EMIT_DISCARD, CLS_F_CFG_PROV, CLS_F_CFG_BACKGROUND, CLS_F_CFG_DT_MASK, CLS_F_CFG_QUIRE_UNITS, CLS_F_SEAL, CLS_F_SEAL_ABANDON, CLS_F_SEAL_ENTRIES, CLS_F_SEAL_QUIRE_LEN, CLS_F_STATE_STATE_OLD, CLS_F_STATE_STATE_NEW, CLS_F_STATE_RUN, CLS_F_STATE_SQUASHES, CLS_F_NOTICE_PENDING, CLS_F_NOTICE_CAUSE, CLS_F_NOTICE_STREAM, CLS_F_CYCLE, CLS_F_EMAX, CLS_F_NOTICE_EPOCH, CLS_F_RELEASED, CLS_F_DT_REQ]
/-- The fields of block CLS. -/
def mapCLS : List Fld := mapCLS0 ++ mapCLS1

def mapFLT0 : List Fld :=
  [FLT_ID_INSTANCES, FLT_ID_ELEMENTS, FLT_ID_BLOCK_REV, FLT_CTRL_CLEAR_COUNTERS, FLT_STATUS_RUNNING, FLT_STATUS_LOAD, FLT_STATUS_ACTIVE, FLT_DT_CFG_LINE_EN, FLT_DT_CFG_MIN_ON, FLT_BKST_FLOOR, FLT_DT_STATE_LINE, FLT_DT_STATE_BKST, FLT_DT_STATE_FOLIO, FLT_DT_STATE_MIN_ON_RUN, FLT_BKST_BLOCK, FLT_BKST_START, FLT_BKST_TRIP, FLT_BKST_RESET_ELEMENT, FLT_BKST_RESET_ALL, FLT_BKST_RESET, FLT_SWITCH_INSTANCE, FLT_SWITCH_FORCE, FLT_SWITCH_APPLY, FLT_STEPS, FLT_SWITCHES, FLT_SATURATED, FLT_BKST_TRIPS, FLT_CFG_LATE, FLT_EXPIRED_READ, FLT_TBL_CTRL_TABLE_ID, FLT_TBL_CTRL_INDEX, FLT_TBL_CTRL_READ, FLT_TBL_STATUS_BUSY, FLT_TBL_STATUS_DONE, FLT_TBL_STATUS_BAD_ADDR, FLT_TBL_DATA, FLT_TROUBLE_LOCKED_WRITE, FLT_TROUBLE_SATURATED, FLT_TROUBLE_STEP, FLT_TROUBLE_SWITCH]
def mapFLT1 : List Fld :=
  [FLT_TROUBLE_NO_SOURCE, FLT_TROUBLE_BKST_TRIP, FLT_TROUBLE_FLOOR_BLOCK, FLT_TROUBLE_CFG_LATE, FLT_TROUBLE_EXPIRED_READ, FLT_TROUBLE_STATE_ECC, FLT_TROUBLE_EN_LOCKED_WRITE, FLT_TROUBLE_EN_SATURATED, FLT_TROUBLE_EN_STEP, FLT_TROUBLE_EN_SWITCH, FLT_TROUBLE_EN_NO_SOURCE, FLT_TROUBLE_EN_BKST_TRIP, FLT_TROUBLE_EN_FLOOR_BLOCK, FLT_TROUBLE_EN_CFG_LATE, FLT_TROUBLE_EN_EXPIRED_READ, FLT_TROUBLE_EN_STATE_ECC]
/-- The fields of block FLT. -/
def mapFLT : List Fld := mapFLT0 ++ mapFLT1

def mapFOL0 : List Fld :=
  [FOL_ID_FOLIOS, FOL_ID_PAIRS, FOL_ID_WINDOWS, FOL_ID_BLOCK_REV, FOL_CTRL_ENABLE, FOL_CTRL_CLEAR_COUNTERS, FOL_STATUS_RUNNING, FOL_STATUS_SUBSTITUTING, FOL_STATUS_PAIRS_ACTIVE, FOL_STATUS_SPARES_LEFT, FOL_STATUS_HALTED, FOL_SPARES_DESIGNATED, FOL_SPARES_AVAILABLE, FOL_PAIR_CMD_PAIR, FOL_PAIR_CMD_OP, FOL_PAIR_CMD_GO, FOL_PAIR_CMD_STATUS_BUSY, FOL_PAIR_CMD_STATUS_DONE, FOL_PAIR_CMD_STATUS_RESULT, FOL_LAST_SUB_KIND, FOL_LAST_SUB_FROM_PAIR, FOL_LAST_SUB_TO_PAIR, FOL_LAST_SUB_LOST_RUNS, FOL_LAST_SUB_VALID, FOL_LAST_SUB_FOLIOS, FOL_MISMATCHES, FOL_MOVES, FOL_FAULTS, FOL_RESETS, FOL_SVC_LOST, FOL_TBL_CTRL_TABLE_ID, FOL_TBL_CTRL_INDEX, FOL_TBL_CTRL_READ, FOL_TBL_STATUS_BUSY, FOL_TBL_STATUS_DONE, FOL_TBL_STATUS_BAD_ADDR, FOL_TBL_DATA, FOL_TROUBLE_MISMATCH, FOL_TROUBLE_SUBSTITUTED, FOL_TROUBLE_FALLBACK]
def mapFOL1 : List Fld :=
  [FOL_TROUBLE_NO_PLACEMENT, FOL_TROUBLE_FOLIO_FAULT, FOL_TROUBLE_FOLIO_HALT, FOL_TROUBLE_BUDGET, FOL_TROUBLE_SVC_LOST, FOL_TROUBLE_RX_DROP, FOL_TROUBLE_RESTORE_FAIL, FOL_TROUBLE_EN_MISMATCH, FOL_TROUBLE_EN_SUBSTITUTED, FOL_TROUBLE_EN_FALLBACK, FOL_TROUBLE_EN_NO_PLACEMENT, FOL_TROUBLE_EN_FOLIO_FAULT, FOL_TROUBLE_EN_FOLIO_HALT, FOL_TROUBLE_EN_BUDGET, FOL_TROUBLE_EN_SVC_LOST, FOL_TROUBLE_EN_RX_DROP, FOL_TROUBLE_EN_RESTORE_FAIL, FOL_P_STATE, FOL_P_STATE_DESIGNATED, FOL_P_FOLIOS, FOL_P_CURRENT_FOLIO, FOL_P_CURRENT_MODE, FOL_P_CURRENT_PEND, FOL_P_CURRENT_PEND_FOLIO, FOL_P_KFAULT_FOLIO, FOL_P_KFAULT_CODE, FOL_P_KFAULT_GO, FOL_F_CTRL_YIELD, FOL_F_CTRL_RESET, FOL_F_CTRL_HALT, FOL_F_CTRL_RESUME, FOL_F_STATUS_STATE, FOL_F_STATUS_PAIR, FOL_F_STATUS_ON_SPARE, FOL_F_STATUS_ON_FALLBACK, FOL_F_STATUS_HALT_CAUSE, FOL_F_FAULT_CAUSE, FOL_F_FAULT_RUN, FOL_F_FAULT_ACTION, FOL_F_FAULT_VALID]
def mapFOL2 : List Fld :=
  [FOL_F_FAULT_ADDR, FOL_F_RX_PTR_HEAD, FOL_F_RX_PTR_TAIL, FOL_F_TX_PTR_HEAD, FOL_F_TX_PTR_TAIL, FOL_F_RING_CFG_RX_LOG2, FOL_F_RING_CFG_TX_LOG2, FOL_F_RING_CFG_RX_DROP, FOL_F_PLACE_HOME, FOL_F_PLACE_FALLBACK, FOL_F_PLACE_PRIORITY, FOL_F_PLACE_BACKGROUND, FOL_F_PLACE_PROV, FOL_F_PLACE_L3_UNITS, FOL_F_BUDGET_BUDGET_US, FOL_F_BUDGET_LAST_RUN_US, FOL_F_TRIGGER_TRIG_STREAM, FOL_F_TRIGGER_DEADLINE_US, FOL_F_COUNT_FAULTS, FOL_F_COUNT_RESETS]
/-- The fields of block FOL. -/
def mapFOL : List Fld := mapFOL0 ++ mapFOL1 ++ mapFOL2

def mapLGE0 : List Fld :=
  [LGE_ID_STITCH_LOG2, LGE_ID_FORCES, LGE_ID_IMAGE_KIB, LGE_ID_BLOCK_REV, LGE_CTRL_ENABLE, LGE_CTRL_RESTART, LGE_CTRL_CLEAR_COUNTERS, LGE_CTRL_CLEAR_PEAKS, LGE_STATUS_STATE, LGE_STATUS_PHASE, LGE_STATUS_STALLED, LGE_STATUS_TIPIN_PENDING, LGE_STATUS_FORCES, LGE_SCAN_CFG_PERIOD_US, LGE_SCAN_CFG_BUDGET_US, LGE_OVERRUN_CFG_OVERRUN_MAX, LGE_SCAN_NO, LGE_SCAN_TIME_LAST, LGE_SCAN_TIME_PEAK, LGE_SCAN_DELTA_LAST_DELTA, LGE_SCAN_DELTA_MAX_DELTA, LGE_LAST_OVERRUN_STITCH, LGE_LAST_OVERRUN_CONSEC, LGE_LAST_OVERRUN_VALID, LGE_SCANS, LGE_OVERRUNS, LGE_EVT_DROP, LGE_FORCE_OPS, LGE_FORCE_ID, LGE_FORCE_VALUE, LGE_FORCE_CTRL_OP, LGE_FORCE_CTRL_GO, LGE_FORCE_STATUS_BUSY, LGE_FORCE_STATUS_DONE, LGE_FORCE_STATUS_RESULT, LGE_FORCE_STATUS_SLOT, LGE_TBL_CTRL_TABLE_ID, LGE_TBL_CTRL_READ, LGE_TBL_STATUS_BUSY, LGE_TBL_STATUS_DONE]
def mapLGE1 : List Fld :=
  [LGE_TBL_STATUS_BAD_ADDR, LGE_TBL_INDEX, LGE_TBL_DATA, LGE_TROUBLE_OVERRUN, LGE_TROUBLE_STALLED, LGE_TROUBLE_EVT_DROP, LGE_TROUBLE_FORCE_CHANGE, LGE_TROUBLE_FORCE_DROPPED, LGE_TROUBLE_IMAGE_ECC, LGE_TROUBLE_IMAGE_REFUSED, LGE_TROUBLE_RESTARTED, LGE_TROUBLE_EN_OVERRUN, LGE_TROUBLE_EN_STALLED, LGE_TROUBLE_EN_EVT_DROP, LGE_TROUBLE_EN_FORCE_CHANGE, LGE_TROUBLE_EN_FORCE_DROPPED, LGE_TROUBLE_EN_IMAGE_ECC, LGE_TROUBLE_EN_IMAGE_REFUSED, LGE_TROUBLE_EN_RESTARTED]
/-- The fields of block LGE. -/
def mapLGE : List Fld := mapLGE0 ++ mapLGE1

def mapSWC0 : List Fld :=
  [SWC_ID_PORTS, SWC_ID_CLASSES, SWC_ID_CELLS_LOG2, SWC_ID_BLOCK_REV, SWC_CTRL_ENABLE, SWC_CTRL_CT_EN, SWC_CTRL_TC_EN, SWC_CTRL_CLEAR_COUNTERS, SWC_CTRL_CLEAR_PEAKS, SWC_STATUS_RUNNING, SWC_STATUS_PORTS_HOLD, SWC_STATUS_PORTS_DOWN, SWC_BUF_FREE, SWC_BUF_PEAK_PEAK_USED, SWC_CT_CFG_CT_LEAD_NS, SWC_CT_CFG_CT_MIN_CELLS, SWC_TC_CFG_DOMAIN, SWC_RED_PAIR_PORT_A, SWC_RED_PAIR_PORT_B, SWC_RED_PAIR_MODE, SWC_RED_PAIR_NET_ID, SWC_RED_PAIR_SUP_MS, SWC_RUNT, SWC_OVERSIZE, SWC_FCS_DROP, SWC_RX_STOMPED, SWC_STOMP_FCS, SWC_STOMP_LONG, SWC_STOMP_ECC, SWC_PUSHOUT, SWC_BUF_DROP, SWC_QCAP_DROP, SWC_LATE_DROP, SWC_DOWN_DROP, SWC_NO_DEST, SWC_VLAN_DROP, SWC_HSR_DUP, SWC_SUPERVISION, SWC_ECC_DROP, SWC_ECC_CORR]
def mapSWC1 : List Fld :=
  [SWC_TBL_CTRL_TABLE_ID, SWC_TBL_CTRL_INDEX, SWC_TBL_CTRL_READ, SWC_TBL_STATUS_BUSY, SWC_TBL_STATUS_DONE, SWC_TBL_STATUS_BAD_ADDR, SWC_TBL_DATA, SWC_TROUBLE_LOCKED_WRITE, SWC_TROUBLE_STOMP, SWC_TROUBLE_PUSHOUT, SWC_TROUBLE_BUF_DROP, SWC_TROUBLE_LATE_DROP, SWC_TROUBLE_LINK_HOLD, SWC_TROUBLE_FLUSH, SWC_TROUBLE_ECC, SWC_TROUBLE_LENGTH, SWC_TROUBLE_EN_LOCKED_WRITE, SWC_TROUBLE_EN_STOMP, SWC_TROUBLE_EN_PUSHOUT, SWC_TROUBLE_EN_BUF_DROP, SWC_TROUBLE_EN_LATE_DROP, SWC_TROUBLE_EN_LINK_HOLD, SWC_TROUBLE_EN_FLUSH, SWC_TROUBLE_EN_ECC, SWC_TROUBLE_EN_LENGTH, SWC_P_STATE, SWC_P_STATE_SENDING, SWC_P_STATE_HOLD_LEFT, SWC_P_QDEPTH_DEPTH_LO, SWC_P_QDEPTH_DEPTH_HI, SWC_P_FLUSH, SWC_P_ABORT, SWC_P_CT, SWC_P_HOLDS, SWC_P_HOLDS_EXPIRIES, SWC_P_PUSHED]
/-- The fields of block SWC. -/
def mapSWC : List Fld := mapSWC0 ++ mapSWC1

def mapMAC0 : List Fld :=
  [MAC_P_ID_PORT, MAC_P_ID_KIND, MAC_P_ID_PREEMPT, MAC_P_ID_PAUSE, MAC_P_ID_TS_HW, MAC_P_ID_CSMACD, MAC_P_ID_BLOCK_REV, MAC_P_CFG_SPEED, MAC_P_CFG_AN_EN, MAC_P_CFG_FEC_EN, MAC_P_CFG_MAX_LEN, MAC_P_LINK_CFG_HOLD_MS, MAC_P_LINK_CFG_LINK_QUAL_US, MAC_P_CTRL_PORT_EN, MAC_P_CTRL_VERIFY_RESTART, MAC_P_CTRL_CLEAR_COUNTERS, MAC_P_STATUS_LINK, MAC_P_STATUS_LOCK, MAC_P_STATUS_SENDING, MAC_P_STATUS_SFP_PRESENT, MAC_P_STATUS_SFP_LOS, MAC_P_STATUS_SFP_TX_FAULT, MAC_P_STATUS_PREEMPT_ACTIVE, MAC_P_STATUS_CARRIER, MAC_P_PREEMPT_PREEMPT_EN, MAC_P_PREEMPT_VERIFY_DIS, MAC_P_PREEMPT_ADD_FRAG, MAC_P_PREEMPT_EXPRESS_MASK, MAC_P_PREEMPT_VERIFY_MS, MAC_P_PREEMPT_STATUS_VERIFY, MAC_P_PREEMPT_STATUS_ATTEMPTS, MAC_P_PAUSE_RX_PAUSE_EN, MAC_P_PAUSE_TX_PAUSE_EN, MAC_P_PAUSE_EXEMPT_MASK, MAC_P_PAUSE_PAUSE_QUANTA, MAC_P_PAUSE_THR_XOFF_CELLS, MAC_P_PAUSE_THR_XON_CELLS, MAC_P_PAUSE_STATUS_RX_LEFT, MAC_P_PAUSE_STATUS_XOFF, MAC_P_WAKE_CFG_WAKE_EN]
def mapMAC1 : List Fld :=
  [MAC_P_WAKE_CFG_WAKE_BCAST, MAC_P_WAKE_CFG_DA_HI, MAC_P_WAKE_STATUS_WAKE, MAC_P_WAKE_STATUS_WAKE_OVERRUN, MAC_P_WAKE_CODE, MAC_P_WAKE_DA_LO, MAC_P_WAKE_SRC, MAC_P_WAKE_SRC_HI, MAC_P_RX_FRAMES, MAC_P_RX_OCTETS, MAC_P_RX_FCS_ERR, MAC_P_RX_SYMBOL_ERR, MAC_P_RX_JABBER, MAC_P_RX_PAUSE, MAC_P_RX_CONTROL, MAC_P_RX_SMD_ERR, MAC_P_RX_ASSY_ERR, MAC_P_RX_ASSY_OK, MAC_P_RX_FRAGMENTS, MAC_P_RX_WAKE, MAC_P_TX_DEFERRED, MAC_P_TX_FRAMES, MAC_P_TX_OCTETS, MAC_P_TX_EXPRESS, MAC_P_TX_PREEMPTABLE, MAC_P_TX_FRAGMENTS, MAC_P_TX_PREEMPTIONS, MAC_P_TX_PAUSE, MAC_P_TX_STOMPED, MAC_P_PAUSED_US, MAC_P_LINK_LOSSES, MAC_P_VERIFY_SENT, MAC_P_COLLISIONS, MAC_P_LATE_COLL, MAC_P_EXCESS_COLL, MAC_P_TS_LAT_RX_LAT, MAC_P_TS_LAT_TX_LAT, MAC_P_TROUBLE_LOCKED_WRITE, MAC_P_TROUBLE_LINK_LOSS, MAC_P_TROUBLE_FCS_ERR]
def mapMAC2 : List Fld :=
  [MAC_P_TROUBLE_JABBER, MAC_P_TROUBLE_VERIFY_FAIL, MAC_P_TROUBLE_ASSY_ERR, MAC_P_TROUBLE_PAUSED, MAC_P_TROUBLE_XOFF, MAC_P_TROUBLE_COLLISION, MAC_P_TROUBLE_SFP_FAULT, MAC_P_TROUBLE_WAKE, MAC_P_TROUBLE_EN_LOCKED_WRITE, MAC_P_TROUBLE_EN_LINK_LOSS, MAC_P_TROUBLE_EN_FCS_ERR, MAC_P_TROUBLE_EN_JABBER, MAC_P_TROUBLE_EN_VERIFY_FAIL, MAC_P_TROUBLE_EN_ASSY_ERR, MAC_P_TROUBLE_EN_PAUSED, MAC_P_TROUBLE_EN_XOFF, MAC_P_TROUBLE_EN_COLLISION, MAC_P_TROUBLE_EN_SFP_FAULT, MAC_P_TROUBLE_EN_WAKE]
/-- The fields of block MAC. -/
def mapMAC : List Fld := mapMAC0 ++ mapMAC1 ++ mapMAC2

def mapTIM0 : List Fld :=
  [TIM_ID_PUBLISHERS, TIM_ID_BLOCK_REV, TIM_CTRL_PUB_EN, TIM_CTRL_PPS_FREE, TIM_CTRL_CLEAR_COUNTERS, TIM_STATUS_STATE, TIM_STATUS_SOURCE, TIM_STATUS_TIME_VALID, TIM_STATUS_UTC_VALID, TIM_STATUS_REF10_OK, TIM_STATUS_QUALIFIED, TIM_STATUS_HOLDOVER_MIN, TIM_TAI, TIM_UTC_OFFSET_OFFSET_S, TIM_UTC_OFFSET_LEAP, TIM_OFFSET_OFFSET_NS, TIM_FREQ, TIM_LAST_STEP, TIM_CADENCE, TIM_SRC_CFG_LIST, TIM_SRC_CFG_QUAL_S, TIM_SRC_CFG_LOSS_S, TIM_SRC_CFG_IRIG_EXT, TIM_SERVO_CFG_LOCK_NS, TIM_SERVO_CFG_HOLDOVER_MAX_MIN, TIM_STEP_CFG_STEP_NS, TIM_STEP_CFG_STEP_CONFIRM, TIM_CADENCE_CFG_FS, TIM_CADENCE_CFG_K, TIM_CADENCE_OFS_OFFSET_US, TIM_PTP_CFG_DOMAIN, TIM_PTP_CFG_LOG_PDELAY, TIM_PTP_CFG_PTP_PORT_MASK, TIM_LAUNCH_CFG_PPS_WIDTH_US, TIM_LAUNCH_CFG_HORIZON_MS, TIM_LAUNCH_CFG_LATE_TOL_NS, TIM_SRC_MAC_LO, TIM_SRC_MAC_HI, TIM_GM_ID, TIM_ADJ]
def mapTIM1 : List Fld :=
  [TIM_ADJ_CTRL_OP, TIM_ADJ_CTRL_GO, TIM_ADJ_STATUS_BUSY, TIM_ADJ_STATUS_DONE, TIM_ADJ_STATUS_ADJ_REFUSED, TIM_ADJ_STATUS_RESULT, TIM_STEPS, TIM_SYNC_RX, TIM_ANNOUNCE_RX, TIM_IRIG_ERR, TIM_PPS_ERR, TIM_LATE_LAUNCH, TIM_PUB_FRAMES, TIM_PUB_STATES, TIM_PUB_REFUSED, TIM_CADENCE_SKIPPED, TIM_TBL_CTRL_TABLE_ID, TIM_TBL_CTRL_INDEX, TIM_TBL_CTRL_READ, TIM_TBL_STATUS_BUSY, TIM_TBL_STATUS_DONE, TIM_TBL_STATUS_BAD_ADDR, TIM_TROUBLE_STEP, TIM_TROUBLE_HOLDOVER, TIM_TROUBLE_FREERUN, TIM_TROUBLE_SOURCE_CHANGE, TIM_TROUBLE_TSQ_OVERFLOW, TIM_TROUBLE_LAUNCH_LATE, TIM_TROUBLE_LAUNCH_FAR, TIM_TROUBLE_PUB_REFUSED, TIM_TROUBLE_CADENCE_SKIP, TIM_TROUBLE_CADENCE_RESTART, TIM_TROUBLE_IRIG_ERR, TIM_TROUBLE_PPS_ERR, TIM_TROUBLE_UTC_CHANGE, TIM_TROUBLE_EN_STEP, TIM_TROUBLE_EN_HOLDOVER, TIM_TROUBLE_EN_FREERUN, TIM_TROUBLE_EN_SOURCE_CHANGE, TIM_TROUBLE_EN_TSQ_OVERFLOW]
def mapTIM2 : List Fld :=
  [TIM_TROUBLE_EN_LAUNCH_LATE, TIM_TROUBLE_EN_LAUNCH_FAR, TIM_TROUBLE_EN_PUB_REFUSED, TIM_TROUBLE_EN_CADENCE_SKIP, TIM_TROUBLE_EN_CADENCE_RESTART, TIM_TROUBLE_EN_IRIG_ERR, TIM_TROUBLE_EN_PPS_ERR, TIM_TROUBLE_EN_UTC_CHANGE, TIM_TBL_DATA, TIM_P_CFG_PDELAY_EN, TIM_P_ASYM, TIM_P_MLD, TIM_P_PTP_STATE, TIM_P_PTP_STATE_MLD_VALID, TIM_P_TSQ_CTRL_POP, TIM_P_TSQ_STATUS_COUNT, TIM_P_TSQ_STATUS_LATCHED, TIM_P_TSQ_STATUS_MISSING, TIM_P_TSQ_DATA, TIM_P_LAUNCH_LATE, TIM_P_TSQ_LOST, TIM_P_TS_COUNT]
/-- The fields of block TIM. -/
def mapTIM : List Fld := mapTIM0 ++ mapTIM1 ++ mapTIM2

def mapEVR0 : List Fld :=
  [EVR_ID_RECORDS_LOG2, EVR_ID_CLASSES_LOG2, EVR_ID_QUEUE_LOG2, EVR_ID_BLOCK_REV, EVR_STATUS_STATE, EVR_STATUS_CLEARING, EVR_STATUS_QUEUE, EVR_BASE, EVR_NEXT, EVR_LOST, EVR_QUEUE_LOST, EVR_REFUSED, EVR_LAST_REFUSED_CLASS, EVR_LAST_REFUSED_SRC_KIND, EVR_LAST_REFUSED_SRC_ID, EVR_LAST_REFUSED_CAUSE, EVR_LAST_REFUSED_VALID, EVR_CLEAR_UPTO, EVR_CLEAR_CTRL_GO, EVR_CLEAR_STATUS_BUSY, EVR_CLEAR_STATUS_DONE, EVR_CLEAR_STATUS_RESULT, EVR_TBL_CTRL_TABLE_ID, EVR_TBL_CTRL_INDEX, EVR_TBL_CTRL_READ, EVR_TBL_STATUS_BUSY, EVR_TBL_STATUS_DONE, EVR_TBL_STATUS_BAD_ADDR, EVR_TBL_DATA, EVR_TROUBLE_CRITICAL_ONLY, EVR_TROUBLE_FULL, EVR_TROUBLE_QUEUE_LOST, EVR_TROUBLE_REFUSED, EVR_TROUBLE_ECC, EVR_TROUBLE_WRONG_AGENT, EVR_TROUBLE_CLEARED, EVR_TROUBLE_CLEAR_RESUMED, EVR_TROUBLE_EN_CRITICAL_ONLY, EVR_TROUBLE_EN_FULL, EVR_TROUBLE_EN_QUEUE_LOST]
def mapEVR1 : List Fld :=
  [EVR_TROUBLE_EN_REFUSED, EVR_TROUBLE_EN_ECC, EVR_TROUBLE_EN_WRONG_AGENT, EVR_TROUBLE_EN_CLEARED, EVR_TROUBLE_EN_CLEAR_RESUMED, EVR_W_CURSOR, EVR_W_CTRL_READ, EVR_W_CTRL_AUTO_INC, EVR_W_STATUS_BUSY, EVR_W_STATUS_DONE, EVR_W_STATUS_RESULT, EVR_W_DATA]
/-- The fields of block EVR. -/
def mapEVR : List Fld := mapEVR0 ++ mapEVR1

def mapGTH0 : List Fld :=
  [GTH_ID_SEQUENCERS, GTH_ID_DEFINITIONS, GTH_ID_BLOCK_REV, GTH_CTRL_ENABLE, GTH_CTRL_HOST_EN, GTH_CTRL_CLEAR_COUNTERS, GTH_STATUS_RUNNING, GTH_STATUS_STORE_SCANNING, GTH_STATUS_STORE_FULL, GTH_STATUS_NAND_BUSY, GTH_STATUS_HOST_BUSY, GTH_STATUS_CAPTURING, GTH_NEXT_SEQ, GTH_STORE_OLDEST, GTH_STORE_FREE_FREE_MIB, GTH_STORE_CMD_OP, GTH_STORE_CMD_GO, GTH_STORE_ARG, GTH_STORE_STATUS_BUSY, GTH_STORE_STATUS_DONE, GTH_STORE_STATUS_RESULT, GTH_HOST_BASE, GTH_HOST_LEN, GTH_HOST_PRODUCED, GTH_HOST_CONSUMED, GTH_ACCEPTED, GTH_IGN_HEAD, GTH_IGN_GUTTER, GTH_IGN_BUSY, GTH_OVERFLOWS, GTH_GAP_POSITIONS, GTH_TORN, GTH_NW_SEQ, GTH_NW_OFFSET, GTH_NW_CTRL_READ, GTH_NW_STATUS_BUSY, GTH_NW_STATUS_DONE, GTH_NW_STATUS_RESULT, GTH_NW_DATA, GTH_TBL_CTRL_TABLE_ID]
def mapGTH1 : List Fld :=
  [GTH_TBL_CTRL_INDEX, GTH_TBL_CTRL_READ, GTH_TBL_STATUS_BUSY, GTH_TBL_STATUS_DONE, GTH_TBL_STATUS_BAD_ADDR, GTH_TBL_DATA, GTH_TROUBLE_IGNORED, GTH_TROUBLE_OVERFLOW, GTH_TROUBLE_GAP, GTH_TROUBLE_STORE_FULL, GTH_TROUBLE_HOST_STALL, GTH_TROUBLE_TORN, GTH_TROUBLE_SUPPLY_CUT, GTH_TROUBLE_ECC, GTH_TROUBLE_EN_IGNORED, GTH_TROUBLE_EN_OVERFLOW, GTH_TROUBLE_EN_GAP, GTH_TROUBLE_EN_STORE_FULL, GTH_TROUBLE_EN_HOST_STALL, GTH_TROUBLE_EN_TORN, GTH_TROUBLE_EN_SUPPLY_CUT, GTH_TROUBLE_EN_ECC, GTH_S_CTRL_FORCE, GTH_S_CTRL_RESET, GTH_S_STATE, GTH_S_STATE_TIMER_RUN, GTH_S_STATE_COUNT, GTH_S_TIMER_TIMER_LEFT, GTH_S_LAST_TP, GTH_S_STATS_OFFERED, GTH_S_STATS_ACCEPTED, GTH_D_STATE, GTH_D_POS, GTH_D_FILL_FILL_START, GTH_D_UNDRAINED_UNDRAINED_KIB, GTH_D_SEQ]
/-- The fields of block GTH. -/
def mapGTH : List Fld := mapGTH0 ++ mapGTH1

def mapTWN0 : List Fld :=
  [TWN_ID_LANES, TWN_ID_HB_US, TWN_ID_BLOCK_REV, TWN_CTRL_ENABLE, TWN_CTRL_RELINQUISH, TWN_CTRL_CLEAR_COUNTERS, TWN_STATUS_ROLE, TWN_STATUS_PEER_ROLE, TWN_STATUS_POSITION, TWN_STATUS_HB_OK, TWN_STATUS_BEAT_OK, TWN_STATUS_FORCE_SEEN, TWN_STATUS_LANES_UP, TWN_STATUS_LEASE, TWN_STATUS_IN_SYNC, TWN_STATUS_QUIRE_AGE, TWN_CFG_TWIN_EN, TWN_CFG_PREFER_POS, TWN_CFG_COLD_PROMOTE, TWN_CFG_SYNC_QUIRES, TWN_CFG_SYNC_AGE, TWN_CFG_INIT_WAIT_MS, TWN_QUIRE_TX, TWN_QUIRE_RX, TWN_QUIRE_LEN, TWN_QUIRE_TIME_LAST, TWN_QUIRE_TIME_PEAK, TWN_LAST_REFUSE_CAUSE, TWN_LAST_REFUSE_VALID, TWN_PROMOTION_CATCHUP, TWN_PROMOTION_COLD, TWN_PROMOTION_GAP_US, TWN_QUIRES_SENT, TWN_QUIRES_ACCEPTED, TWN_QUIRES_REFUSED, TWN_FRAME_ERR, TWN_PROMOTIONS, TWN_FENCES, TWN_GATED_DROP, TWN_LANE_LOSSES]
def mapTWN1 : List Fld :=
  [TWN_TROUBLE_PEER_FAILED, TWN_TROUBLE_PROMOTED, TWN_TROUBLE_FENCED, TWN_TROUBLE_CORUSK_LOST, TWN_TROUBLE_LANE_DOWN, TWN_TROUBLE_TOKEN_FAULT, TWN_TROUBLE_QUIRE_REFUSED, TWN_TROUBLE_QUIRE_LATE, TWN_TROUBLE_SYNC_LOST, TWN_TROUBLE_LEASE_LAPSED, TWN_TROUBLE_NO_PEER, TWN_TROUBLE_EN_PEER_FAILED, TWN_TROUBLE_EN_PROMOTED, TWN_TROUBLE_EN_FENCED, TWN_TROUBLE_EN_CORUSK_LOST, TWN_TROUBLE_EN_LANE_DOWN, TWN_TROUBLE_EN_TOKEN_FAULT, TWN_TROUBLE_EN_QUIRE_REFUSED, TWN_TROUBLE_EN_QUIRE_LATE, TWN_TROUBLE_EN_SYNC_LOST, TWN_TROUBLE_EN_LEASE_LAPSED, TWN_TROUBLE_EN_NO_PEER]
/-- The fields of block TWN. -/
def mapTWN : List Fld := mapTWN0 ++ mapTWN1

def mapKEY0 : List Fld :=
  [KEY_ID_SLOTS, KEY_ID_BLOCK_REV, KEY_CTRL_CLEAR_COUNTERS, KEY_STATUS_STATE, KEY_STATUS_PENDING_ZEROIZE, KEY_STATUS_CLASS, KEY_STATUS_LMS_BUSY, KEY_STATUS_VALID_SLOTS, KEY_POLICY_AON_LOSS_ZEROIZE, KEY_POLICY_ATTEST_EN, KEY_DEVICE_ID, KEY_RESET_COUNT, KEY_OP_CTRL_OP, KEY_OP_CTRL_SRC, KEY_OP_CTRL_SLOT, KEY_OP_CTRL_GO, KEY_OP_STATUS_BUSY, KEY_OP_STATUS_DONE, KEY_OP_STATUS_OUTPUT_VALID, KEY_OP_STATUS_RESULT, KEY_OP_BASE, KEY_OP_LEN, KEY_OP_OUT, KEY_OP_OUT_LEN, KEY_OP_WR_DATA, KEY_OP_RD_DATA, KEY_NONCE, KEY_ATTEST_NEXT, KEY_ATTEST_FRONT, KEY_ATTEST_LEFT, KEY_LAST_ORPHAN_SLOT, KEY_LAST_ORPHAN_DESCENDANTS, KEY_LAST_ORPHAN_VALID, KEY_UPDATES, KEY_REFUSED, KEY_VERIFIES, KEY_ATTESTS, KEY_ORPHANINGS, KEY_USE_REFUSED, KEY_ZEROIZES]
def mapKEY1 : List Fld :=
  [KEY_TBL_CTRL_TABLE_ID, KEY_TBL_CTRL_INDEX, KEY_TBL_CTRL_READ, KEY_TBL_STATUS_BUSY, KEY_TBL_STATUS_DONE, KEY_TBL_STATUS_BAD_ADDR, KEY_TROUBLE_UPDATE_REFUSED, KEY_TROUBLE_ORPHANED, KEY_TROUBLE_EXPIRED, KEY_TROUBLE_EXHAUSTED, KEY_TROUBLE_ZEROIZED, KEY_TROUBLE_UNSEAL_STOPPED, KEY_TROUBLE_SUSPENDED, KEY_TROUBLE_ATTEST_LOW, KEY_TROUBLE_ATTEST_EXHAUSTED, KEY_TROUBLE_USE_REFUSED, KEY_TROUBLE_STORE_ECC, KEY_TROUBLE_AON_LOSS, KEY_TROUBLE_EN_UPDATE_REFUSED, KEY_TROUBLE_EN_ORPHANED, KEY_TROUBLE_EN_EXPIRED, KEY_TROUBLE_EN_EXHAUSTED, KEY_TROUBLE_EN_ZEROIZED, KEY_TROUBLE_EN_UNSEAL_STOPPED, KEY_TROUBLE_EN_SUSPENDED, KEY_TROUBLE_EN_ATTEST_LOW, KEY_TROUBLE_EN_ATTEST_EXHAUSTED, KEY_TROUBLE_EN_USE_REFUSED, KEY_TROUBLE_EN_STORE_ECC, KEY_TROUBLE_EN_AON_LOSS, KEY_TBL_DATA]
/-- The fields of block KEY. -/
def mapKEY : List Fld := mapKEY0 ++ mapKEY1

def mapLCS0 : List Fld :=
  [LCS_ID_LOG_ENTRIES, LCS_ID_BLOCK_REV, LCS_STATUS_LIFECYCLE, LCS_STATUS_DEBUG, LCS_STATUS_TRANSITIONS_LEFT, LCS_STATUS_TAMPER_N_DRIVEN, LCS_STATUS_SENSORS, LCS_TAMPER_POLICY_CLASS, LCS_TAMPER_POLICY_TAMPER_HOLD_MS, LCS_DEBUG_CEILING, LCS_CHALLENGE, LCS_CHALLENGE_CTRL_NEW, LCS_CHALLENGE_CTRL_LIVE, LCS_TOKEN_LEN, LCS_TOKEN_WR_DATA, LCS_TOKEN_CTRL_GO, LCS_TOKEN_STATUS_BUSY, LCS_TOKEN_STATUS_DONE, LCS_TOKEN_STATUS_RESULT, LCS_DEBUG_ATTEMPTS, LCS_DEBUG_CTRL_CLOSE, LCS_DEBUG_STATUS_STATE, LCS_DEBUG_STATUS_VENDOR, LCS_DEBUG_STATUS_LEFT_S, LCS_DEBUG_FOLIOS, LCS_TAMPER_CTRL_RELEASE, LCS_TAMPER_TOTAL, LCS_TLOG_INDEX, LCS_TLOG_DATA, LCS_TOKEN_CTR_OWNER, LCS_TOKEN_CTR_VENDOR, LCS_TAMPER_AON_CLASS_AON, LCS_TROUBLE_TAMPER, LCS_TROUBLE_LOG_FULL, LCS_TROUBLE_LIFECYCLE_CHANGED, LCS_TROUBLE_TOKEN_REFUSED, LCS_TROUBLE_DEBUG_OPENED, LCS_TROUBLE_DEBUG_ATTEMPT, LCS_TROUBLE_LOCKED_WRITE, LCS_TROUBLE_EN_TAMPER]
def mapLCS1 : List Fld :=
  [LCS_TROUBLE_EN_LOG_FULL, LCS_TROUBLE_EN_LIFECYCLE_CHANGED, LCS_TROUBLE_EN_TOKEN_REFUSED, LCS_TROUBLE_EN_DEBUG_OPENED, LCS_TROUBLE_EN_DEBUG_ATTEMPT, LCS_TROUBLE_EN_LOCKED_WRITE]
/-- The fields of block LCS. -/
def mapLCS : List Fld := mapLCS0 ++ mapLCS1

def mapBST0 : List Fld :=
  [BST_ID_TARGETS, BST_ID_BLOCK_REV, BST_BOOT_CFG_MODE_COLD, BST_BOOT_CFG_MODE_WARM, BST_STATUS_PHASE, BST_STATUS_MODE, BST_STATUS_SAFE, BST_STATUS_RESULT, BST_STATUS_DURATION, BST_CMD_TARGET, BST_CMD_INSTANCE, BST_CMD_GO, BST_CMD_STATUS_BUSY, BST_CMD_STATUS_DONE, BST_CMD_STATUS_RESULT, BST_FAIL_COUNT_ENTRIES, BST_FAIL_COUNT_OVERFLOW, BST_FAIL_COUNT_FINDINGS, BST_FAIL_INDEX, BST_FAIL_DATA, BST_REPAIR_USED, BST_REPAIR_NEW, BST_TROUBLE_BOOT_FAIL, BST_TROUBLE_REPAIRED, BST_TROUBLE_SUBSTITUTED, BST_TROUBLE_DEMAND_FAIL, BST_TROUBLE_REPAIR_LOG_FULL, BST_TROUBLE_LOG_OVERFLOW, BST_TROUBLE_EN_BOOT_FAIL, BST_TROUBLE_EN_REPAIRED, BST_TROUBLE_EN_SUBSTITUTED, BST_TROUBLE_EN_DEMAND_FAIL, BST_TROUBLE_EN_REPAIR_LOG_FULL, BST_TROUBLE_EN_LOG_OVERFLOW]
/-- The fields of block BST. -/
def mapBST : List Fld := mapBST0

def mapHKA0 : List Fld :=
  [HKA_ID_CHANNELS, HKA_ID_MONITORS, HKA_ID_BLOCK_REV, HKA_CTRL_ENABLE, HKA_CTRL_CLEAR_COUNTERS, HKA_STATUS_RUNNING, HKA_STATUS_SPARING, HKA_STATUS_OPEN, HKA_SEQ_CFG_MASK, HKA_SEQ_CFG_SWEEP_MS, HKA_CONV_CTRL_CHANNEL, HKA_CONV_CTRL_URGENT, HKA_CONV_CTRL_GO, HKA_CONV_STATUS_BUSY, HKA_CONV_STATUS_STARTED, HKA_DATA_LO_VALID, HKA_DATA_LO_URGENT, HKA_DATA_LO_CHANNEL, HKA_DATA_LO_WAIT, HKA_DATA_HI_VALUE, HKA_DATA_TAI, HKA_TEMP_LIMIT_WARN_DIE, HKA_TEMP_LIMIT_WARN_BOARD, HKA_AGE_LIMIT_WARN_PPM, HKA_AGE_LIMIT_PROPOSE_PPM, HKA_ECC_LIMIT_DRAM_24H, HKA_ECC_LIMIT_REPEAT, HKA_LIFE_LIMIT_WARN_PCT, HKA_LIFE_LIMIT_PROPOSE_PCT, HKA_LIFE_LIMIT_REMIND_DAYS, HKA_LIFE, HKA_SPARES_DRAM_SPARE, HKA_SPARES_QUEUED, HKA_CMD_OP, HKA_CMD_RANK, HKA_CMD_DEVICE, HKA_CMD_PROP, HKA_CMD_GO, HKA_CMD_STATUS_BUSY, HKA_CMD_STATUS_DONE]
def mapHKA1 : List Fld :=
  [HKA_CMD_STATUS_RESULT, HKA_CONVERSIONS, HKA_OVERRUNS, HKA_PROPOSED, HKA_TBL_CTRL_TABLE_ID, HKA_TBL_CTRL_INDEX, HKA_TBL_CTRL_READ, HKA_TBL_STATUS_BUSY, HKA_TBL_STATUS_DONE, HKA_TBL_STATUS_BAD_ADDR, HKA_TBL_DATA, HKA_TROUBLE_OVERRUN, HKA_TROUBLE_REQ_BUSY, HKA_TROUBLE_TEMP_WARN, HKA_TROUBLE_AGE_WARN, HKA_TROUBLE_ECC_WARN, HKA_TROUBLE_LIFE_WARN, HKA_TROUBLE_PROPOSAL, HKA_TROUBLE_SPARE_EXHAUSTED, HKA_TROUBLE_SPARING_FAIL, HKA_TROUBLE_EN_OVERRUN, HKA_TROUBLE_EN_REQ_BUSY, HKA_TROUBLE_EN_TEMP_WARN, HKA_TROUBLE_EN_AGE_WARN, HKA_TROUBLE_EN_ECC_WARN, HKA_TROUBLE_EN_LIFE_WARN, HKA_TROUBLE_EN_PROPOSAL, HKA_TROUBLE_EN_SPARE_EXHAUSTED, HKA_TROUBLE_EN_SPARING_FAIL]
/-- The fields of block HKA. -/
def mapHKA : List Fld := mapHKA0 ++ mapHKA1

def mapCTL0 : List Fld :=
  [CTL_ID_OBJECTS, CTL_ID_MASTERS, CTL_ID_BLOCK_REV, CTL_CTRL_ENABLE, CTL_CTRL_PORT_EN, CTL_CTRL_SIM_MODE, CTL_CTRL_CLEAR_COUNTERS, CTL_STATUS_RUNNING, CTL_STATUS_EXECUTING, CTL_STATUS_IL_CLK_PRESENT, CTL_STATUS_IL_IMAGE_OK, CTL_STATUS_HELD, CTL_IL_CFG_MAX_AGE_US, CTL_IL_IMAGE_SCAN_SCAN_LO, CTL_CMD_OBJECT, CTL_CMD_CODE, CTL_CMD_GO, CTL_CMD_TAG, CTL_CMD_STATUS_BUSY, CTL_CMD_STATUS_DONE, CTL_CMD_STATUS_EXECUTED, CTL_CMD_STATUS_RESULT, CTL_OBJ_CTRL_OBJECT, CTL_OBJ_CTRL_ABORT, CTL_OBJ_CTRL_GO, CTL_LAST_RESULT_OBJECT, CTL_LAST_RESULT_MASTER, CTL_LAST_RESULT_CODE, CTL_LAST_RESULT_VALID, CTL_CMDS, CTL_EXECUTED, CTL_REJECTED, CTL_TRAVEL_FAIL, CTL_IL_QUERIES, CTL_IL_PAR_ERR, CTL_TBL_CTRL_TABLE_ID, CTL_TBL_CTRL_INDEX, CTL_TBL_CTRL_READ, CTL_TBL_STATUS_BUSY, CTL_TBL_STATUS_DONE]
def mapCTL1 : List Fld :=
  [CTL_TBL_STATUS_BAD_ADDR, CTL_TBL_DATA, CTL_TROUBLE_REJECT, CTL_TROUBLE_TRAVEL_FAIL, CTL_TROUBLE_TIMEOUT, CTL_TROUBLE_QUEUE_FULL, CTL_TROUBLE_POS_LOST, CTL_TROUBLE_IL_PAR_ERR, CTL_TROUBLE_IL_CLK_LOSS, CTL_TROUBLE_IL_STALE, CTL_TROUBLE_WRONG_AGENT, CTL_TROUBLE_NO_OBJECT, CTL_TROUBLE_EN_REJECT, CTL_TROUBLE_EN_TRAVEL_FAIL, CTL_TROUBLE_EN_TIMEOUT, CTL_TROUBLE_EN_QUEUE_FULL, CTL_TROUBLE_EN_POS_LOST, CTL_TROUBLE_EN_IL_PAR_ERR, CTL_TROUBLE_EN_IL_CLK_LOSS, CTL_TROUBLE_EN_IL_STALE, CTL_TROUBLE_EN_WRONG_AGENT, CTL_TROUBLE_EN_NO_OBJECT]
/-- The fields of block CTL. -/
def mapCTL : List Fld := mapCTL0 ++ mapCTL1

end Reg

/-- The blocks of R481. -/
inductive Block where
  | sys | bnd | svi | cls | flt | fol | lge | swc | mac | tim | evr | gth | twn | key | lcs | bst | hka | ctl
  deriving DecidableEq, Repr

/-- The block whose range holds an offset (R481). -/
def Block.ofOffset (o : Nat) : Option Block :=
  match o / 0x10000 with
  | 0 => some .sys
  | 1 => some .bnd
  | 2 => some .svi
  | 3 => some .svi
  | 4 => some .cls
  | 5 => some .flt
  | 6 => some .flt
  | 7 => some .fol
  | 8 => some .fol
  | 9 => some .lge
  | 10 => some .swc
  | 11 => some .swc
  | 12 => some .mac
  | 13 => some .mac
  | 14 => some .tim
  | 15 => some .evr
  | 16 => some .gth
  | 17 => some .twn
  | 18 => some .key
  | 19 => some .lcs
  | 20 => some .bst
  | 21 => some .hka
  | 22 => some .ctl
  | _ => none

/-- The fields of a block. -/
def Block.fields : Block → List Fld
  | .sys => Reg.mapSYS
  | .bnd => Reg.mapBND
  | .svi => Reg.mapSVI
  | .cls => Reg.mapCLS
  | .flt => Reg.mapFLT
  | .fol => Reg.mapFOL
  | .lge => Reg.mapLGE
  | .swc => Reg.mapSWC
  | .mac => Reg.mapMAC
  | .tim => Reg.mapTIM
  | .evr => Reg.mapEVR
  | .gth => Reg.mapGTH
  | .twn => Reg.mapTWN
  | .key => Reg.mapKEY
  | .lcs => Reg.mapLCS
  | .bst => Reg.mapBST
  | .hka => Reg.mapHKA
  | .ctl => Reg.mapCTL

/-- The instance and run place at which a field holds bits of the register at offset `o`, and whether `o` is its high
word: `none` where it does not. -/
def Fld.place (f : Fld) (o : Nat) : Option (Nat × Nat × Bool) :=
  if o < f.off then none else
  let d := o - f.off
  let i := if f.stride = 0 then 0 else d / f.stride
  let e := if f.stride = 0 then d else d % f.stride
  if f.cnt ≤ i then none
  else if e % 4 = 0 ∧ e / 4 < f.rep then some (i, e / 4, false)
  else if e = 4 ∧ 32 < f.lo + f.w then some (i, 0, true)
  else none

/-- The fields that hold bits of the register at offset `o`, each with its place. -/
def fieldsAt (o : Nat) : List (Fld × Nat × Nat × Bool) :=
  match Block.ofOffset o with
  | none => []
  | some b => b.fields.filterMap (fun f => (f.place o).map (fun p => (f, p)))

/-- Whether a register lies at offset `o` (R481, R482): the registers that hold only reserved bits are CLS_F at 0x34 to
0x3C, SWC_P at 0x28 to 0x3C, TIM_P at 0x34 to 0x3C and the rest of each MAC instance ("reserved" in their chapters). -/
def mapped (o : Nat) : Bool :=
  decide (o % 4 = 0) && (!(fieldsAt o).isEmpty ||
    (decide (0x41000 ≤ o ∧ o < 0x41800) && decide (0x34 ≤ o % 0x40)) ||
    (decide (0xA1000 ≤ o ∧ o < 0xA1500) && decide (0x28 ≤ o % 0x40)) ||
    (decide (0xE1000 ≤ o ∧ o < 0xE1500) && decide (0x34 ≤ o % 0x40)) ||
    (decide (0xC0000 ≤ o ∧ o < 0xD4000)) || decide (0x100084 ≤ o ∧ o ≤ 0x10008C))

end Sys2Proof
end

