-- ==== Sys2Proof/Syntax.lean ====
section
/-! DEFINITION. The commands of the module as data: one constructor per row of spec/opcode_table.json.

The table gives its rows no operand bits, so the operands are the model's own (DESIGN CHOICE, log entry 8): who sends a
write and the fields it writes, which port or unit an event concerns, and what the world outside answers (a measured
value, the result of a check made elsewhere). -/

namespace Sys2Proof

/-- Who makes a register access: a folio (folio 0 is the Supervisor), the kernel of a core pair, the chassis manager on
the management bus, or the debug transport (R2, R155, R156, R431, R484). -/
inductive Agent where
  | folio (n : Fin 32)
  | kernel (p : Fin 12)
  | mgmt
  | debug
  deriving DecidableEq, Repr

/-- What a core does at an address: a load, a store, an instruction fetch, or a load that meets an uncorrectable memory error (R154,
R174). -/
inductive MemAcc where
  | load | store | fetch | badLoad
  deriving DecidableEq, Repr

/-- How the reception of a frame ended (R240, R260, R271, R277, R281): a good FCS, a failed FCS, the inverted FCS of a stomped
frame, the link lost under it, a fragment that could not be reassembled, an unknown SMD, a line-code error,
or a collision at port A. -/
inductive RxEnd where
  | good | badFcs | stomped | linkLost | reassembly | unknownSmd | symbolError | collision
  deriving DecidableEq, Repr

/-- A finding of self-test (R457, R458): the target, its instance, the failing bit (0xFF for a whole row), the word address,
and whether the instance still has a spare that repairs it. -/
structure Finding where
  target : Nat
  inst : Nat
  bit : Nat
  addr : Nat
  spare : Bool
  deriving DecidableEq, Repr

/-- An access on the debug transport (R431): of a register, of a folio's memory or contexts, of a kernel's, of a trace, or of
the scan chains. -/
inductive DbgAcc where
  | readReg (off : BitVec 24)
  | writeReg (off : BitVec 24) (value : BitVec 32)
  | trace
  | context (folio : Fin 32)
  | readMemory (folio : Fin 32) (addr : BitVec 64) (len : Fin 9)
  | writeMemory (folio : Fin 32) (addr : BitVec 64) (bytes : List Byte)
  | kernel
  | kernelRead (pair : Fin 12) (addr : BitVec 64) (len : Fin 9)
  | kernelWrite (pair : Fin 12) (addr : BitVec 64) (bytes : List Byte)
  | scan
  deriving DecidableEq, Repr

/-- What a copy's IEC 62351-6 extension holds; the spec gives no layout of it, so the command carries it (log entry 8). -/
structure SvExt where
  alg : Nat
  keyId : List Byte
  /-- the bytes that the MAC covers, as the standard defines them (R80) -/
  covered : List Byte
  /-- the nonce, where the algorithm takes one -/
  nonce : List Byte
  /-- the tag that the copy carries -/
  tag : List Byte
  deriving DecidableEq, Repr


/-- The commands and events of the module, one constructor per row of the opcode table. -/
inductive Instr where
  /-- REGISTER_WRITE (R15): A write to a register field that has no row of its own is applied by type code, and writes to RO and locked RWL fields are ignored. -/
  | registerWrite (who : Agent) (off : BitVec 24) (narrow : Bool) (value : BitVec 32)
  /-- UNMAPPED_ACCESS (R482): An access to an unmapped offset reads 0 or ignores the write, and sets UNMAPPED unless R155 applies. -/
  | unmappedAccess (who : Agent) (off : BitVec 24) (write : Bool)
  /-- LOW_WORD_READ (R10): A read of the low word of a 64-bit pair latches the high word for that requester. -/
  | lowWordRead (who : Agent) (off : BitVec 24)
  /-- HKA_DATA_READ (R471): A read of HKA_DATA_LO latches HKA_DATA_HI and the result's TAI words. -/
  | hkaDataRead (who : Agent)
  /-- KEY_OP_READ (R418): A read of KEY_OP_RD returns the next four output bytes and advances the offset. -/
  | keyOpRead (who : Agent)
  /-- TABLE_READ (R485): A write of READ to a block's table window latches the named entry as one snapshot, or sets BAD_ADDR. -/
  | tableRead (who : Agent) (block : Block) (table : BitVec 16) (index : BitVec 16)
  /-- CLEAR_COUNTERS (R485): A write of CLEAR_COUNTERS clears the block's counters. -/
  | clearCounters (who : Agent) (block : Block) (inst : Fin 20)
  /-- CLEAR_PEAKS (R485): A write of CLEAR_PEAKS clears the block's peak values. -/
  | clearPeaks (who : Agent) (block : Block)
  /-- MB_READ (R487): A management-bus READ transaction is checked and carried out, and STATUS, DATA and CRC are returned. -/
  | mbRead (frame : List Byte)
  /-- MB_WRITE (R487): A management-bus WRITE transaction is checked and carried out when its CRC byte is acknowledged. -/
  | mbWrite (frame : List Byte)
  /-- LOAD (R49): A write of BND_CTRL.LOAD starts a full load from SRC at the FETCH phase. -/
  | load (who : Agent) (src : Fin 4)
  /-- LOAD_FETCH_DONE (R49): When the container has been fetched, the header, directory, digests and slot colophon are checked. -/
  | loadFetchDone (readError : Bool)
  /-- LOAD_ABORT (R54): A write of BND_CTRL.ABORT ends a full load in progress with ABORTED. -/
  | loadAbort (who : Agent)
  /-- FLOOR_SET (R52): A write of BND_FLOOR_SET raises the anti-rollback floor, or is refused with FLOOR_REJECT. -/
  | floorSet (who : Agent) (floor : BitVec 32)
  /-- STAGE_LEN_WRITE (R56): A write of BND_STAGE_LEN sets the window length and resets the BND_STAGE_WR offset. -/
  | stageLenWrite (who : Agent) (len : BitVec 27)
  /-- STAGE_WRITE (R56): A write of BND_STAGE_WR appends four container bytes to the staging window. -/
  | stageWrite (who : Agent) (data : BitVec 32)
  /-- STAGE (R55): The STAGE command starts verification of the staged tip-in container, or is refused with BUSY. -/
  | stage (who : Agent)
  /-- ARM (R59): The ARM command fixes the target cadence number, or is refused with TARGET. -/
  | arm (who : Agent)
  /-- CONFIRM (R55): The CONFIRM command returns a committed tip-in to IDLE and starts the journal append. -/
  | confirm (who : Agent)
  /-- REVERT (R55): The REVERT command schedules a revert of a committed tip-in at the next boundary. -/
  | revert (who : Agent)
  /-- DISCARD (R55): The DISCARD command abandons a verifying, staged or armed tip-in and clears the shadow banks. -/
  | discard (who : Agent)
  /-- PROGRAM (R37): The PROGRAM command verifies the staged full Binding and starts writing it into TARGET_SLOT. -/
  | program (who : Agent) (slot : Bool)
  /-- ERASE_JOURNAL (R37): The ERASE_JOURNAL command erases the journal of TARGET_SLOT, or is refused for the active slot. -/
  | eraseJournal (who : Agent) (slot : Bool)
  /-- SV_COPY_RECEIVED (R64): A copy at the ingest tap is header-checked, matched, parsed, discard-judged and placed with an epoch. -/
  | svCopyReceived (port : Fin 20) (frame : List Byte) (fcs : Bool) (ext : Option SvExt)
  /-- SV_VERDICT (R77): A verifier or FCS result gives an epoch its verdict, advances the frontier and delivers sets to the filters and the gathering engine. -/
  | svVerdict (epoch : Nat)
  /-- EPOCH_TIMEOUT (R79): An epoch without a verdict 60 µs after placement is refuted with cause TIMEOUT. -/
  | epochTimeout (epoch : Nat)
  /-- SEAL (R88): At a cycle's seal instant, its empty slots become MISSING with epochs and are delivered. -/
  | sealInstant (stream : Fin 512)
  /-- SVI_ENABLE (R88): A write of SVI_CTRL.ENABLE starts or stops ingest, and the first 1 after a load fixes the first ingest cycle. -/
  | sviEnable (who : Agent) (en : Bool)
  /-- RING_LOAD (R90): A folio load from the ring aperture returns the slot in the view and reports the folio, stream and epoch to the Clasp. -/
  | ringLoad (folio : Fin 32) (stream : Fin 512) (slot : Fin 1024) (confirmed : Bool)
  /-- RING_ECC_ERROR (R91): An uncorrectable error in a ring slot makes the slot read ERROR with cause ECC and sets RING_ECC. -/
  | ringEccError (stream : Fin 512) (slot : Fin 1024)
  /-- VERIFIER_FAULT (R84): A comparison mismatch or key-cache parity error retires a verifier unit and brings in the spare. -/
  | verifierFault (unit : Fin 4) (parity : Bool)
  /-- VERIFIER_JOB_TIMEOUT (R84): A verifier job that outlasts its limit retires the unit. -/
  | verifierJobTimeout (unit : Fin 4)
  /-- VERIFIER_KAT (R84): Every 1 ms while KAT_EN is set, a known-answer test runs on an idle engine and retires the unit on failure. -/
  | verifierKat (unit : Fin 4) (pass : Bool)
  /-- SPARE_SEL_WRITE (R84): A write of SVI_VER_CTRL.SPARE_SEL exchanges the roles of an active unit and the spare, or is refused. -/
  | spareSelWrite (who : Agent) (unit : Fin 4)
  /-- VERIFIER_IDLE_TO_SPARE (R84): A unit released by SPARE_SEL becomes SPARE once its jobs in service have finished. -/
  | verifierIdleToSpare (unit : Fin 4)
  /-- VERIFIER_RETIRE (R84): A write of SVI_VER_CTRL.RETIRE retires a unit on host command, or is refused. -/
  | verifierRetire (who : Agent) (unit : Fin 4)
  /-- VERIFIER_RESTORE (R84): A write of SVI_VER_CTRL.RESTORE starts the test of a retired unit, or is refused. -/
  | verifierRestore (who : Agent) (unit : Fin 4)
  /-- VERIFIER_RESTORE_DONE (R84): When the RESTORE test ends, the unit becomes SPARE or stays RETIRED. -/
  | verifierRestoreDone (unit : Fin 4) (pass : Bool)
  /-- SEAL_RUN (R100): A write of CLS_F_SEAL.SEAL seals the run or closes a background batch after the staged entries are checked. -/
  | sealRun (who : Agent) (folio : Fin 32) (entries : List Nat) (payload : List Byte) (quire : List Byte)
  /-- ABANDON (R100): A write of CLS_F_SEAL.ABANDON ends a SQUASHED run without entries so that its re-run can be dispatched. -/
  | abandon (who : Agent) (folio : Fin 32)
  /-- STALL_TIMEOUT (R110): A sealed run whose E_MAX is still above F 50 µs after its SEAL is squashed with cause STALL. -/
  | stallTimeout (folio : Fin 32)
  /-- FILTER_CONSUME (R122): A filter instance consumes its next delivered position through the CIC, FIR and detector, and writes its output. -/
  | filterConsume (inst : Fin 2048)
  /-- ELEMENT_DELAY_EXPIRE (R138): When a started element's on-count reaches outputs(DELAY), a definite-time element trips. -/
  | elementDelayExpire (elem : Fin 64)
  /-- ELEMENT_RESET_TIME_EXPIRE (R138): When RESET_TIME passes without a restart under definite reset, the integrator is cleared. -/
  | elementResetTimeExpire (elem : Fin 64)
  /-- ELEMENT_INTEGRATOR_FULL (R138): When an inverse-time integrator reaches 2^48 with the minimum time met, the element trips. -/
  | elementIntegratorFull (elem : Fin 64)
  /-- ELEMENT_FREEZE_EXPIRE (R139): An element frozen for longer than INV_HOLD resets and releases an unlatched trip. -/
  | elementFreezeExpire (elem : Fin 64)
  /-- SETTLING_END (R129): After SETTLE_N outputs without a new event, SETTLING clears on the fine path. -/
  | settlingEnd (inst : Fin 2048)
  /-- SOURCE_SWITCH (R130): After SWITCH_N consecutive positions, an instance switches between sources A and B. -/
  | sourceSwitch (inst : Fin 2048)
  /-- DT_MIN_ON_EXPIRE (R140): When a line's minimum-on timer runs out, the line is recomputed. -/
  | dtMinOnExpire (line : Fin 8)
  /-- DT_HOLD_EXPIRE (R116): When a folio DT request's hold time runs out, the request is released. -/
  | dtHoldExpire (folio : Fin 32) (line : Fin 8)
  /-- BKST_BLOCK_WRITE (R142): A write of FLT_BKST_BLOCK blocks elements on host command, and a block of a floor element is refused. -/
  | bkstBlockWrite (who : Agent) (elems : BitVec 64)
  /-- BKST_RESET_ELEMENT (R138): A FLT_BKST_RESET write with RESET releases the latched trip of the named element. -/
  | bkstResetElement (who : Agent) (elem : Fin 64)
  /-- BKST_RESET_ALL (R138): A FLT_BKST_RESET write with ALL and RESET releases every latched trip. -/
  | bkstResetAll (who : Agent)
  /-- SWITCH_FORCE_A (R130): FLT_SWITCH APPLY with FORCE 1 forces the instance onto source A from the next position. -/
  | switchForceA (who : Agent) (inst : Fin 2048)
  /-- SWITCH_FORCE_B (R130): FLT_SWITCH APPLY with FORCE 2 forces the instance onto source B from the next position. -/
  | switchForceB (who : Agent) (inst : Fin 2048)
  /-- SWITCH_AUTOMATIC (R130): FLT_SWITCH APPLY with FORCE 0 restores automatic switching. -/
  | switchAutomatic (who : Agent) (inst : Fin 2048)
  /-- FILTER_LOAD (R131): A folio load from the filter aperture returns the output entry, or EXPIRED for an old cycle. -/
  | filterLoad (folio : Fin 32) (inst : Fin 2048) (slot : Fin 1024)
  /-- STATE_ECC (R511): An uncorrectable error in filter or element state restarts the instance or resets the element. -/
  | stateEcc (elem : Bool) (index : Fin 2048)
  /-- DISPATCH_DEADLINE (R161): At a folio's dispatch deadline, the folio becomes READY for the cycle. -/
  | dispatchDeadline (folio : Fin 32)
  /-- FOLIO_DISPATCH (R162): A free pair chooses its next run and dispatches the folio, opening the cycle in the Clasp. -/
  | folioDispatch (pair : Fin 12)
  /-- YIELD (R162): A write of FOL_F_CTRL.YIELD by a background folio gives up the pair. -/
  | yield (who : Agent) (folio : Fin 32) (consumed : List (Nat × Nat))
  /-- BACKGROUND_TIMESLICE (R162): After 1 ms of continuous running, a background folio gives way to its equal-priority peers. -/
  | backgroundTimeslice (pair : Fin 12)
  /-- RUN_BUDGET_EXPIRE (R164): A run reaching BUDGET_US is stopped and raises a folio fault with cause BUDGET. -/
  | runBudgetExpire (folio : Fin 32)
  /-- FOLIO_FAULT (R175): A folio access fault stops the folio, writes a fault record and applies FAULT_ACTION. -/
  | folioFault (folio : Fin 32) (acc : MemAcc) (len : Fin 9) (addr : BitVec 64) (epc : BitVec 64)
  /-- KERNEL_FAULT (R174): A write of FOL_P_KFAULT.GO raises a folio fault with a KERNEL cause. -/
  | kernelFault (who : Agent) (pair : Fin 12) (folio : Fin 32) (code : BitVec 8)
  /-- FOLIO_RESET (R176): A host RESET discards the folio's unresolved cycles and reinitialises it. -/
  | folioReset (who : Agent) (folio : Fin 32)
  /-- FOLIO_RESET_DONE (R176): When the reset steps complete, the folio enters WAITING. -/
  | folioResetDone (folio : Fin 32)
  /-- FOLIO_HALT (R177): A host HALT halts the folio until RESUME. -/
  | folioHalt (who : Agent) (folio : Fin 32)
  /-- FOLIO_RESUME (R177): A host RESUME resets a halted folio, placing it first if it has no pair. -/
  | folioResume (who : Agent) (folio : Fin 32)
  /-- RX_TAIL_WRITE (R167): A write of FOL_F_RX_PTR.TAIL posts free receive buffers. -/
  | rxTailWrite (who : Agent) (folio : Fin 32) (tail : BitVec 16) (descs : List Nat)
  /-- TX_TAIL_WRITE (R167): A write of FOL_F_TX_PTR.TAIL posts transmit descriptors, held until release or passed at once for a background folio. -/
  | txTailWrite (who : Agent) (folio : Fin 32) (tail : BitVec 16) (descs : List Nat)
  /-- LOCKSTEP_MISMATCH (R178): A lockstep mismatch retires and fences the pair, makes its runs LOST and starts substitution. -/
  | lockstepMismatch (pair : Fin 12)
  /-- PAIR_RETIRE (R185): FOL_PAIR_CMD with OP RETIRE retires an unused spare pair. -/
  | pairRetire (who : Agent) (pair : Fin 16)
  /-- PAIR_RESTORE (R185): FOL_PAIR_CMD with OP RESTORE starts the self-test of a retired pair. -/
  | pairRestore (who : Agent) (pair : Fin 16)
  /-- PAIR_RESTORE_DONE (R185): When the RESTORE test ends, the pair becomes SPARE or stays RETIRED, with a notice. -/
  | pairRestoreDone (pass : Bool)
  /-- MIGRATE (R184): FOL_PAIR_CMD with OP MIGRATE schedules the planned move of a pair's folios, or is refused with NO_PAIR. -/
  | migrate (who : Agent) (pair : Fin 16)
  /-- SCAN_BUDGET_EXPIRE (R205): A scan not finished when BUDGET_US runs out is abandoned and its working image discarded. -/
  | scanBudgetExpire (stitch : BitVec 16)
  /-- RESTART (R189): A write of LGE_CTRL.RESTART reinitialises the image at the next scan start. -/
  | restart (who : Agent)
  /-- FORCE_SET (R208): LGE_FORCE_CTRL with OP SET forces a variable at the next snapshot. -/
  | forceSet (who : Agent)
  /-- FORCE_RELEASE (R208): LGE_FORCE_CTRL with OP RELEASE releases a forced variable at the next snapshot. -/
  | forceRelease (who : Agent)
  /-- FORCE_RELEASE_ALL (R208): LGE_FORCE_CTRL with OP RELEASE_ALL releases every force at the next snapshot. -/
  | forceReleaseAll (who : Agent)
  /-- IMAGE_ECC (R205): An uncorrectable error in the committed image halts the logic engine. -/
  | imageEcc (stitch : BitVec 16)
  /-- CTL_OPEN (R217): An OPEN command from a register master enters the arrival buffer for the next batch. -/
  | ctlOpen (who : Agent) (cm : Bool) (object : Fin 1024)
  /-- CTL_CLOSE (R217): A CLOSE command from a register master enters the arrival buffer for the next batch. -/
  | ctlClose (who : Agent) (cm : Bool) (object : Fin 1024)
  /-- CTL_CANCEL (R218): A CANCEL command from a register master withdraws the master's own held command at the next latch. -/
  | ctlCancel (who : Agent) (cm : Bool) (object : Fin 1024)
  /-- CTL_WAIT_TIMEOUT (R223): A held command not decided within WAIT_MS ends with TIMEOUT. -/
  | ctlWaitTimeout (object : Fin 1024)
  /-- OPERATE_TIMEOUT (R224): When OPERATE_MS runs out, the operate value returns to idle, completing an object without position. -/
  | operateTimeout (object : Fin 1024)
  /-- TRAVEL_TIMEOUT (R226): When TRAVEL_MS runs out before the end position, the object ends TRAVEL_FAIL and FAULT is set. -/
  | travelTimeout (object : Fin 1024)
  /-- POSITION_TAL_EXPIRE (R225): When no position frame arrives within timeAllowedToLive, POS_VALID clears and POS_LOST is set. -/
  | positionTalExpire (object : Fin 1024)
  /-- OBJECT_ABORT (R227): CTL_OBJ_CTRL.GO with ABORT ends the object's command with ABORTED and returns the operate value to idle. -/
  | objectAbort (who : Agent) (object : Fin 1024)
  /-- IL_QUERY (R232): A query on the interlock answer port is answered from the applied image. -/
  | ilQuery (object : BitVec 12) (parity : Bool)
  /-- FRAME_INGRESS (R242): When a frame's first 64 bytes have arrived, the switch takes the forwarding decision and admits the copies. -/
  | frameIngress (port : Fin 20) (frame : List Byte) (sfdAgo : Nat)
  /-- FRAME_RX_END (R260): When a frame's last bit arrives, its FCS is checked, and a stored frame is dropped or a cut-through copy stomped. -/
  | frameRxEnd (port : Fin 20) (frame : List Byte) (verdict : RxEnd) (fragments : Nat)
  /-- CUT_THROUGH_START (R261): A cut-through copy starts when the resequencer holds N_CT of its cells in order. -/
  | cutThroughStart (port : Fin 20)
  /-- EGRESS_START (R273): At a frame boundary, a port drops late frames and starts the next eligible frame. -/
  | egressStart (port : Fin 20) (deferred : Bool)
  /-- TX_COMPLETE (R304): When a copy has been sent or discarded, its transmit-timestamp entry falls due. -/
  | txComplete (port : Fin 20)
  /-- BUFFER_ECC_ERROR (R259): An uncorrectable buffer error discards the frame, or stomps it if it has started. -/
  | bufferEccError (copy : Nat) (correctable : Bool)
  /-- LINK_LOST (R263): A link-loss report puts the port into HOLD, or DOWN with a flush when the window is 0. -/
  | linkLost (port : Fin 20) (los : Bool)
  /-- LINK_RETURNED (R263): A link-return report puts a HOLD or DOWN port UP. -/
  | linkReturned (port : Fin 20)
  /-- LINK_HOLD_EXPIRE (R263): When the link-hold window ends, the port becomes DOWN and its queues are flushed. -/
  | linkHoldExpire (port : Fin 20)
  /-- SUPERVISION_TX (R250): Every SUP_MS, a supervision frame is sent on each port of every enabled redundancy pair. -/
  | supervisionTx (pair : Fin 6)
  /-- LINK_QUALIFIED (R270): After lock has been held for LINK_QUAL_US, the MAC reports the link returned. -/
  | linkQualified (port : Fin 20)
  /-- PORT_EN_WRITE (R270): A write of MAC_P_CTRL.PORT_EN enables or disables the port and its transmitter. -/
  | portEnWrite (who : Agent) (port : Fin 20) (en : Bool)
  /-- SFP_OVERCURRENT (R496): A cage drawing over 0.6 A for 50 µs is switched off and SFP_FAULT is set. -/
  | sfpOvercurrent (port : Fin 16)
  /-- VERIFY_RESTART (R275): A write of VERIFY_RESTART returns preemption verification to INITIAL. -/
  | verifyRestart (who : Agent) (port : Fin 20)
  /-- VERIFY_TIMEOUT (R275): When VERIFY_MS passes without a response, the verify mPacket is resent or verification fails. -/
  | verifyTimeout (port : Fin 20)
  /-- VERIFY_RESPONSE (R275): A respond mPacket received while VERIFYING makes preemption active. -/
  | verifyResponse (port : Fin 20)
  /-- VERIFY_RECEIVED (R275): A verify mPacket received is answered with a respond mPacket. -/
  | verifyReceived (port : Fin 20)
  /-- PREEMPTION (R276): An eligible express frame preempts the preemptable frame at the first permitted 8-octet boundary. -/
  | preemption (port : Fin 20) (sent : Nat)
  /-- PAUSE_RECEIVED (R278): A PAUSE frame on a port with RX_PAUSE_EN sets or ends the port's pause timer. -/
  | pauseReceived (port : Fin 20) (quanta : BitVec 16)
  /-- PAUSE_EXPIRE (R278): When the pause timer runs out, paused classes may start again. -/
  | pauseExpire (port : Fin 20)
  /-- PAUSE_XOFF (R279): When a port's ingress cells rise above XOFF_CELLS, it sends a PAUSE with PAUSE_QUANTA. -/
  | pauseXoff (port : Fin 20)
  /-- PAUSE_REFRESH (R279): Each time half the quanta elapses while above XON_CELLS, the PAUSE is repeated. -/
  | pauseRefresh (port : Fin 20)
  /-- PAUSE_XON (R279): When a port's ingress cells fall to XON_CELLS or below, it sends a PAUSE with quanta 0. -/
  | pauseXon (port : Fin 20)
  /-- PORT_A_COLLISION (R281): A port A collision sends a jam and backs off, or drops the frame after 16 collisions or a late collision. -/
  | portACollision (sentBits : Nat)
  /-- PORT_A_FRAME_INTERRUPT (R282): The port A frame interrupt latches the TAI counter as the frame's timestamp. -/
  | portAFrameInterrupt (sent : Bool)
  /-- WAKE_FRAME (R287): A wake frame at an armed detector captures its request code and source address and sets WAKE. -/
  | wakeFrame (port : Fin 20) (frame : List Byte)
  /-- PDELAY_REQ_TX (R293): Every 2^LOG_PDELAY s, a Pdelay_Req is sent on each port with PDELAY_EN. -/
  | pdelayReqTx (port : Fin 18)
  /-- IRIG_FRAME (R295): A decoded IRIG-B frame gives an offset measurement, or is rejected and counted. -/
  | irigFrame (marks : List (Fin 3)) (year : Bool) (ago : Nat)
  /-- PPS_EDGE (R295): A rising edge on a PPS input gives a phase measurement, or is ignored and counted. -/
  | ppsEdge (backplane : Bool)
  /-- SOURCE_QUALIFIED (R292): A source that has delivered measurements in QUAL_S consecutive seconds qualifies, and the servo may follow it. -/
  | sourceQualified (entry : Fin 4)
  /-- SOURCE_LOST (R292): A source without measurements for LOSS_S seconds is lost, and the time base changes source or state. -/
  | sourceLost (entry : Fin 4)
  /-- TIME_SET (R299): TIM_ADJ_CTRL.GO with OP SET loads an absolute time, or is refused while a source is selected. -/
  | timeSet (who : Agent)
  /-- TIME_STEP (R299): TIM_ADJ_CTRL.GO with OP STEP adds a signed amount, or is refused while a source is selected. -/
  | timeStep (who : Agent)
  /-- TIMED_LAUNCH (R307): A held timed copy starts so that its SFD crosses the boundary at LAUNCH_TIME. -/
  | timedLaunch (port : Fin 20)
  /-- LAUNCH_LATE (R308): A timed copy that can no longer meet its launch time is dropped late with cause 5. -/
  | launchLate (port : Fin 20)
  /-- TSQ_POP (R306): A write of TIM_P_TSQ_CTRL.POP latches the oldest transmit-timestamp entry and removes it. -/
  | tsqPop (who : Agent) (port : Fin 20)
  /-- GOOSE_RETRANSMIT (R316): When a publisher's next interval elapses, the next retransmission frame is sent. -/
  | gooseRetransmit (publisher : Fin 256)
  /-- EVR_SCAN_DONE (R330): When the start-up binary search ends, NEXT is set and START and the waiting records are numbered. -/
  | evrScanDone (unreadable : Option Nat)
  /-- CURSOR_LOAD (R333): A write of EVR_W_CURSOR_HI loads the window's 64-bit cursor. -/
  | cursorLoad (who : Agent) (win : Fin 2) (high : BitVec 32)
  /-- EVR_READ (R334): A write of EVR_W_CTRL.READ latches the record at the cursor with its result. -/
  | evrRead (who : Agent) (win : Fin 2) (uncorrectable : Bool)
  /-- EVR_CLEAR (R335): A write of EVR_CLEAR_CTRL.GO starts a clear of the region, or refuses it. -/
  | evrClear (who : Agent)
  /-- POSITION_CAPTURE (R342): Once every analogue source is delivered for a position, its record is written to the capture ring. -/
  | positionCapture (defn : Nat)
  /-- HEAD_FILLED (R348): When HEAD positions have been written since the fill start, the definition becomes ARMED. -/
  | headFilled (defn : Nat)
  /-- GATHERING_COMPLETE (R355): When position j + TAIL − 1 is captured, the measurements and trailer are written. -/
  | gatheringComplete (defn : Nat)
  /-- GUTTER_END (R348): When GUTTER positions have been captured, the definition becomes ARMED. -/
  | gutterEnd (defn : Nat)
  /-- GAP_END (R352): Once 64 KiB plus P bytes are free, a gap record is written and capture resumes. -/
  | gapEnd (defn : Nat)
  /-- CAPTURE_RESUME (R348): A PAUSED definition returns to FILLING once enough room is free. -/
  | captureResume (defn : Nat)
  /-- GTH_ENABLE (R348): A write of GTH_CTRL.ENABLE starts or stops capture and the sequencers. -/
  | gthEnable (who : Agent) (en : Bool)
  /-- HOST_EN_WRITE (R351): A write of GTH_CTRL.HOST_EN validates the host ring, or is refused with BAD_BUF. -/
  | hostEnWrite (who : Agent) (en : Bool)
  /-- DELETE_UPTO (R353): GTH_STORE_CMD with OP DELETE_UPTO deletes stored gatherings up to a sequence number. -/
  | deleteUpto (who : Agent)
  /-- READ_TO_HOST (R353): GTH_STORE_CMD with OP READ_TO_HOST copies a stored gathering into the host ring. -/
  | readToHost (who : Agent)
  /-- NAND_WINDOW_READ (R353): A write of GTH_NW_CTRL.READ latches 64 bytes of a stored gathering. -/
  | nandWindowRead (who : Agent) (uncorrectable : Bool)
  /-- SEQUENCER_FORCE (R345): A write of GTH_S_CTRL.FORCE is seen by the sequencer's next evaluation. -/
  | sequencerForce (who : Agent) (seq : Fin 16)
  /-- SEQUENCER_RESET (R345): A write of GTH_S_CTRL.RESET returns the sequencer to state 0 at its next evaluation. -/
  | sequencerReset (who : Agent) (seq : Fin 16)
  /-- TWIN_ENABLE (R364): A write of TWN_CTRL.ENABLE moves the module from OFF to INIT and starts Corusk. -/
  | twinEnable (who : Agent) (en : Bool)
  /-- RELINQUISH (R382): A write of TWN_CTRL.RELINQUISH schedules a planned handover, or is refused with BAD_STATE. -/
  | relinquish (who : Agent)
  /-- HEARTBEAT_RX (R370): A received heartbeat updates the peer's role, the tip-in orders and the role transitions. -/
  | heartbeatRx (frame : List Byte)
  /-- QUIRE_RX (R374): A standby receiving a complete quire accepts and installs it, or refuses it. -/
  | quireRx (frames : List (List Byte))
  /-- CORUSK_LANE_DOWN (R368): A lane losing block lock for 1 µs is dropped, and LANE_DOWN is set. -/
  | coruskLaneDown (lane : Fin 2)
  /-- CORUSK_LANE_REJOIN (R368): A lane holding lock for 100 µs rejoins at the next quire boundary. -/
  | coruskLaneRejoin (lane : Fin 2)
  /-- UNSEAL_DONE (R390): When unsealing completes, the key store reads READY. -/
  | unsealDone (failed : List Nat)
  /-- UPDATE (R403): KEY_OP_CTRL with OP UPDATE checks an update message and commits it, or refuses it. -/
  | update (who : Agent) (src : Bool) (slot : Fin 1024)
  /-- VERIFY (R418): KEY_OP_CTRL with OP VERIFY checks an HSS signature against the named slot. -/
  | verify (who : Agent) (src : Bool) (slot : Fin 1024)
  /-- ATTEST (R410): KEY_OP_CTRL with OP ATTEST builds and signs an attestation statement. -/
  | attest (who : Agent) (src : Bool) (slot : Fin 1024)
  /-- PUBKEY (R409): KEY_OP_CTRL with OP PUBKEY outputs the attestation public key. -/
  | pubkey (who : Agent) (src : Bool) (slot : Fin 1024)
  /-- DELETE (R418): KEY_OP_CTRL with OP DELETE returns an unusable slot to EMPTY with GEN + 1. -/
  | delete (who : Agent) (src : Bool) (slot : Fin 1024)
  /-- KEY_OP_WRITE (R418): A write of KEY_OP_WR appends four input bytes to the internal buffer. -/
  | keyOpWrite (who : Agent) (data : BitVec 32)
  /-- CHALLENGE_NEW (R436): A write of LCS_CHALLENGE_CTRL.NEW draws a fresh challenge. -/
  | challengeNew (who : Agent)
  /-- TOKEN_WRITE (R435): A write of LCS_TOKEN_WR appends four token bytes. -/
  | tokenWrite (who : Agent) (data : BitVec 32)
  /-- TOKEN_DEBUG (R432): A DEBUG token submitted with LCS_TOKEN_CTRL.GO is checked and opens the named debug state. -/
  | tokenDebug (who : Agent)
  /-- TOKEN_LIFECYCLE (R420): A LIFECYCLE token is checked and starts the permitted transition. -/
  | tokenLifecycle (who : Agent)
  /-- TOKEN_CLEAR_LOG (R443): A CLEAR_LOG token is checked and empties the tamper log. -/
  | tokenClearLog (who : Agent)
  /-- DEBUG_CLOSE (R433): A write of LCS_DEBUG_CTRL.CLOSE closes the debug session. -/
  | debugClose (who : Agent)
  /-- DEBUG_ACCESS (R431): An access on the debug transport is carried out within the state, or refused with DEBUG_ATTEMPT. -/
  | debugAccess (access : DbgAcc)
  /-- TAMPER_EVENT (R439): A recognised sensor condition writes a log entry and takes the response of its matrix cell. -/
  | tamperEvent (sensors : BitVec 6)
  /-- TAMPER_RELEASE (R441): A write of LCS_TAMPER_CTRL.RELEASE releases TAMPER_N, at once or when the hold ends. -/
  | tamperRelease (who : Agent)
  /-- PWR_RUN (R423): SYS_PWR_CMD with TARGET RUN moves QUIET to RUN, or is refused. -/
  | pwrRun (who : Agent)
  /-- PWR_QUIET (R423): SYS_PWR_CMD with TARGET QUIET moves RUN to QUIET, or is refused with ROLE. -/
  | pwrQuiet (who : Agent)
  /-- PWR_STANDBY (R425): SYS_PWR_CMD with TARGET STANDBY starts the entry to STANDBY from QUIET. -/
  | pwrStandby (who : Agent)
  /-- PWR_OFF (R425): SYS_PWR_CMD with TARGET OFF starts the entry to OFF from QUIET. -/
  | pwrOff (who : Agent)
  /-- CLK_REQ_WRITE (R429): A write of SYS_CLK_REQ requests or gates clock units, and gates of in-use units are refused. -/
  | clkReqWrite (who : Agent) (high : Bool) (value : BitVec 32)
  /-- CLOCK_UNIT_RUNNING (R428): When a requested unit's wake latency ends, its bit sets in SYS_CLK_RUN. -/
  | clockUnitRunning (unit : Fin 48)
  /-- HOST_RESET (R449): SYS_RST_CMD with KEY 0x4B52 and GO requests a HOST reset, or is refused. -/
  | hostReset (who : Agent) (key : BitVec 16)
  /-- WDOG_KICK (R450): A write of SYS_WDOG_KICK by folio 0 reloads the watchdog. -/
  | wdogKick (who : Agent)
  /-- MBIST_DONE (R457): When MBIST ends, its repairs have been made and its failures logged. -/
  | mbistDone (findings : List Finding) (queued : List Bool)
  /-- LBIST_DONE (R454): When LBIST ends, the logic signatures have been compared. -/
  | lbistDone (findings : List Finding)
  /-- BIST_TEST_PAIR (R461): BST_CMD with TARGET pair starts a test on demand of a spare pair, or is refused. -/
  | bistTestPair (who : Agent) (inst : Fin 16)
  /-- BIST_TEST_UNIT (R461): BST_CMD with TARGET verifier unit starts a test on demand of the spare unit, or is refused. -/
  | bistTestUnit (who : Agent) (inst : Fin 16)
  /-- BIST_DEMAND_DONE (R461): When a test on demand ends, the instance returns to SPARE or becomes RETIRED. -/
  | bistDemandDone (findings : List Finding)
  /-- VWARN_FALL (R464): VWARN falling ends loads and tip-ins in progress, suspends capture and commits the use counts. -/
  | vwarnFall (vin : BitVec 16)
  /-- VWARN_RISE (R465): VWARN rising before VRESET records VWARN_RISE and permits RUN and capture again. -/
  | vwarnRise (vin : BitVec 16) (low : BitVec 16)
  /-- VRESET (R466): VIN below 30 V causes a SUPPLY reset and switches the rails off. -/
  | vreset (vin : BitVec 16)
  /-- VSTBY_LOW (R467): VSTBY below 1.7 V for 100 µs sets VSTBY_LOW and requests a record. -/
  | vstbyLow (vin : BitVec 16)
  /-- VSTBY_OK (R467): The return of VSTBY requests a VSTBY_OK record. -/
  | vstbyOk (vin : BitVec 16)
  /-- ADC_SWEEP (R470): Every SWEEP_MS, the sequencer converts each channel in MASK and feeds the monitors. -/
  | adcSweep (values : List Int)
  /-- ADC_CONVERT (R470): HKA_CONV_CTRL.GO with URGENT 0 queues a normal host conversion. -/
  | adcConvert (who : Agent) (channel : Fin 16)
  /-- ADC_CONVERT_URGENT (R470): HKA_CONV_CTRL.GO with URGENT 1 starts a conversion ahead of the sweep. -/
  | adcConvertUrgent (who : Agent) (channel : Fin 16)
  /-- ADC_RESULT (R471): A finished host conversion writes HKA_DATA, replacing an unread result with OVERRUN set. -/
  | adcResult (value : BitVec 32)
  /-- AGEING_MEASURE (R472): Once an hour, the ageing monitors are measured and may raise proposals. -/
  | ageingMeasure (ppm : List Nat) (nand : Nat)
  /-- ECC_CORRECTED (R474): A corrected memory error is counted in its monitor's window and address list. -/
  | eccCorrected (monitor : Fin 32) (target : Nat) (inst : Nat) (addr : Nat)
  /-- SPARE_DEVICE (R478): HKA_CMD with OP SPARE_DEVICE starts rebuilding a DRAM device onto the rank's spare. -/
  | spareDevice (who : Agent) (rank : Fin 4) (device : Fin 32)
  /-- QUEUE_REPAIR (R478): HKA_CMD with OP QUEUE_REPAIR records the proposal's address for the next MBIST. -/
  | queueRepair (who : Agent) (prop : Fin 16)
  /-- DISMISS (R478): HKA_CMD with OP DISMISS sets the proposal DISMISSED. -/
  | dismiss (who : Agent) (prop : Fin 16)
  /-- PROPOSAL_REMIND (R478): REMIND_DAYS after a dismissal, the monitor raises the proposal again. -/
  | proposalRemind (monitor : Fin 32)
  /-- HOST_CONSUMED_WRITE (R351): A write of GTH_HOST_CONSUMED by the Supervisor frees room in the host ring and lets a stalled host channel resume. -/
  | hostConsumedWrite (who : Agent) (consumed : BitVec 32)
  /-- LGE_ENABLE (R186): A write of LGE_CTRL.ENABLE starts scanning, or, when it is cleared, lets the current scan finish and puts the engine in STOPPED. -/
  | lgeEnable (who : Agent) (en : Bool)
  /-- CTL_ENABLE (R317): A write of CTL_CTRL.ENABLE starts command acceptance, and when CTL first executes, its publishers are accepted with their initial data sets. -/
  | ctlEnable (who : Agent) (en : Bool)
  /-- SFP_FAULT (R270): An SFP+ reporting a transmit fault, or being removed, sets SFP_FAULT and the port's status bits. -/
  | sfpFault (port : Fin 16) (removed : Bool)
  /-- LOAD_SIGNATURE_DONE (R49): When the HSS verification completes, the floor is checked, the Endpaper is applied, EP_LOCK sets and the sections are filled. -/
  | loadSignatureDone
  /-- LOAD_JOURNAL_ENTRY (R53): Each journal entry is verified and applied as a tip-in, and a failing or torn entry truncates the journal. -/
  | loadJournalEntry
  /-- LOAD_CHECK_DONE (R49): When every block has checked its contents, the load reaches READY or fails with CONTENT. -/
  | loadCheckDone
  /-- TIPIN_VERIFIED (R56): When tip-in verification and block checks complete, the shadow banks are filled and the state becomes STAGED, or IDLE on failure. -/
  | tipinVerified
  /-- TIPIN_JOURNAL_APPENDED (R36): When the journal append completes, the entry's colophon is written and BND_TIP_SEQ advances. -/
  | tipinJournalAppended
  /-- TIPIN_COMMIT_CHECK (R59): Twenty microseconds before the target boundary, the four commit conditions are checked, and the commit is deferred if any fails. -/
  | tipinCommitCheck
  /-- REVERT_TIMEOUT (R55): When REVERT_TIMEOUT cadence cycles pass after a commit without CONFIRM, a revert is scheduled. -/
  | revertTimeout
  /-- STORE_WRITE_DONE (R37): When a slot write completes, the colophon MAGIC has been written last and DONE is set. -/
  | storeWriteDone
  /-- CYCLE_RELEASE (R104): A sealed run whose E_MAX the frontier has reached, with its predecessor resolved, is released and becomes the checkpoint. -/
  | cycleRelease
  /-- SUBSTITUTION_DONE (R179): When substitution or fallback completes, the moved folios are served on the new pair and a notice is written. -/
  | substitutionDone
  /-- MIGRATION_MOVE (R184): Once no run is OPEN on the migrating pair, its folios are moved and the pair is retired. -/
  | migrationMove
  /-- SCAN_START (R187): A logic scan starts, runs CARRY if due, and SNAPSHOT latches inputs, forces and arbitrated commands. -/
  | scanStart
  /-- SCAN_COMMIT (R192): At the end of EXECUTE, the working image is committed, and the outputs, events and acknowledgements go out. -/
  | scanCommit
  /-- POSITION_FRAME (R225): A backplane position GOOSE frame updates the object's position and may complete an execution. -/
  | positionFrame
  /-- IL_IMAGE_APPLY (R230): A received interlock image is applied at the second rising edge of IL_CLK after its receipt. -/
  | ilImageApply
  /-- IL_CLK_LOSS (R230): When IL_CLK is absent for 1 µs, the image is applied at once and IL_CLK_LOSS is set. -/
  | ilClkLoss
  /-- IL_STALE (R232): When the applied image ages past MAX_AGE_US, the port answers invalid and IL_STALE is set. -/
  | ilStale
  /-- PORT_A_BACKOFF_EXPIRE (R281): When the back-off runs out, port A retries the frame. -/
  | portABackoffExpire
  /-- PTP_SYNC (R294): A Sync on the SLAVE port gives an offset measurement to the servo. -/
  | ptpSync
  /-- PTP_FOLLOW_UP (R293): A Follow_Up matching a two-step Sync completes the offset measurement. -/
  | ptpFollowUp
  /-- ANNOUNCE_RX (R296): An Announce updates the best-master selection and the UTC offset. -/
  | announceRx
  /-- PDELAY_REQ_RX (R293): A received Pdelay_Req is answered one-step with a Pdelay_Resp. -/
  | pdelayReqRx
  /-- PDELAY_RESP_RX (R294): A completed peer-delay exchange updates the port's mean link delay. -/
  | pdelayRespRx
  /-- HOLDOVER_EXPIRE (R298): After HOLDOVER_MAX_MIN minutes in HOLDOVER, the time base enters FREERUN. -/
  | holdoverExpire
  /-- WHOLE_SECOND (R300): At each whole TAI second, PPS out rises and, while LOCKED, the always-on seconds counter is reloaded. -/
  | wholeSecond
  /-- PPS_OUT_FALL (R300): After PPS_WIDTH_US, PPS out falls. -/
  | ppsOutFall
  /-- TIME_FLOOR_UPDATE (R291): Once an hour while LOCKED, the MRAM time floor is raised to the current TAI second. -/
  | timeFloorUpdate
  /-- LEAP_SECOND (R296): At the end of a UTC day carrying a pending leap second, TIM_UTC_OFFSET changes. -/
  | leapSecond
  /-- CADENCE_BOUNDARY (R309): At a cadence boundary, quire N is formed, pending flips apply and the cycle number advances. -/
  | cadenceBoundary
  /-- RECORD_COMMIT (R327): The recorder commits the next queued record to MRAM, writing the colophon last. -/
  | recordCommit
  /-- EVR_CLEAR_DONE (R336): When the clear front reaches the end of the region, the clear state is cleared. -/
  | evrClearDone
  /-- SEQUENCER_EVAL (R345): Once a position is captured and its filter inputs are written, the sequencer is evaluated and may offer a trigger. -/
  | sequencerEval
  /-- GATHERING_STORED (R354): When a drained gathering's trailer colophon is written, the gathering is stored. -/
  | gatheringStored
  /-- STORE_SCAN_DONE (R354): When the start-up scan of the store index ends, torn gatherings have been reclaimed. -/
  | storeScanDone
  /-- RELINQUISH_WITHDRAW (R382): Once the QUIRE_END of the last quire has left, the relinquishing module withdraws. -/
  | relinquishWithdraw
  /-- HEARTBEAT_TX (R370): Every 10 µs, a HEARTBEAT frame is sent on Corusk. -/
  | heartbeatTx
  /-- QUIRE_TX_DONE (R371): When quire N has left completely, TWN_QUIRE_TX is updated. -/
  | quireTxDone
  /-- PEER_HOLDING (R380): Recognition of HOLDING on the peer's line in INIT makes the module SYNCING. -/
  | peerHolding
  /-- PEER_FORCING (R367): Recognition of FORCING on the peer's line makes an ACTIVE or PROMOTING module withdraw. -/
  | peerForcing
  /-- PEER_RELEASED (R376): The peer's line going RELEASED while heartbeats continue lets a standby declare the peer relinquished and promote. -/
  | peerReleased
  /-- PEER_FAILED (R376): After 25 µs with neither heartbeat nor beat edge, the peer is declared failed and the module may promote. -/
  | peerFailed
  /-- CORUSK_LOST (R364): Heartbeats lost while the peer's line stays HOLDING make the module ISOLATED. -/
  | coruskLost
  /-- TOKEN_READBACK_FAULT (R365): Three consecutive readback mismatches on the own line set TOKEN_FAULT and make an active module withdraw. -/
  | tokenReadbackFault
  /-- LEASE_RENEW (R366): At each elapse of one cadence-cycle length, TWN renews the lease if the conditions hold. -/
  | leaseRenew
  /-- LEASE_LAPSE (R366): A lease not renewed within one cadence-cycle length plus 50 µs lapses and the gates close. -/
  | leaseLapse
  /-- INIT_CLAIM (R380): In INIT, after 1 ms at PREFER_POS or INIT_WAIT_MS without the peer, the module makes a cold claim. -/
  | initClaim
  /-- PROMOTION_COMPLETE (R377): Once FORCING has ended and catch-up has resolved, the module enters ACTIVE and is granted the lease. -/
  | promotionComplete
  /-- KEY_OP_COMPLETE (R418): When a KEY operation finishes, its output and RESULT are written and DONE sets. -/
  | keyOpComplete
  /-- CHALLENGE_EXPIRE (R436): Ten minutes after it was drawn, the challenge becomes void. -/
  | challengeExpire
  /-- LIFECYCLE_BURN_DONE (R421): When the OTP transition record is burnt, the new lifecycle takes effect and debug closes. -/
  | lifecycleBurnDone
  /-- SESSION_EXPIRE (R433): When SESSION_S elapses, the debug session closes. -/
  | sessionExpire
  /-- ZEROIZE_METADATA_DONE (R413): The metadata of the zeroized slots is rewritten ZEROIZED in MRAM. -/
  | zeroizeMetadataDone
  /-- TAMPER_HOLD_EXPIRE (R441): When TAMPER_HOLD_MS ends, a pending release takes effect. -/
  | tamperHoldExpire
  /-- POWER_DOWN_DONE (R425): After the drain and retention steps, the main rails are switched off. -/
  | powerDownDone
  /-- PWR_EN_LOW (R426): PWR_EN held low for 1 ms commands entry to the SLEEP_MODE state. -/
  | pwrEnLow
  /-- PWR_EN_RISE (R423): PWR_EN rising in STANDBY or OFF starts a POWER_UP start. -/
  | pwrEnRise
  /-- POWER_ON_RESET (R446): VSTBY applied without always-on supply causes a POWER_ON reset. -/
  | powerOnReset
  /-- PIN_RESET (R448): RESET_N low for at least 1 µs causes a PIN reset. -/
  | pinReset
  /-- HOST_RESET_EFFECT (R449): When the queue has drained or 5 ms have passed, the HOST reset takes effect. -/
  | hostResetEffect
  /-- WDOG_EXPIRE (R450): At watchdog expiry, ACTION is applied, up to a WATCHDOG reset. -/
  | wdogExpire
  /-- POWER_UP_START (R451): When PWR_EN, VSTBY and VIN meet the start conditions, the rails are sequenced. -/
  | powerUpStart
  /-- DDR_TRAINING_DONE (R451): When DDR training completes, the boot can proceed to DECIDE. -/
  | ddrTrainingDone
  /-- BOOT_DECIDE (R459): At DECIDE, the module holds in the safe state or retires substitutable targets and starts the unseal and scans. -/
  | bootDecide
  /-- LIFE_ACCRUE (R473): Once a minute, thermal life accrues from the board temperature. -/
  | lifeAccrue
  /-- LIFE_COMMIT (R473): Once an hour, the thermal-life total is committed to MRAM. -/
  | lifeCommit
  /-- ECC_WINDOW_END (R474): At the end of each 24-hour window, the ECC counts are closed and may raise proposals. -/
  | eccWindowEnd
  /-- SPARE_REBUILD_DONE (R478): When the rebuild completes, the new mapping is committed to MRAM. -/
  | spareRebuildDone
  /-- RESET_N_RELEASE (R451): The release of RESET_N after a PIN reset starts the warm start at the CLOCKS step. -/
  | resetNRelease
  /-- TOKEN_CHECK_DONE (R436): When the HSS check of a submitted token ends, RESULT is written, the counter is raised and the token takes effect or is refused. -/
  | tokenCheckDone
  /-- JOURNAL_ERASE_DONE (R37): When an ERASE_JOURNAL store operation finishes, BUSY clears, DONE sets and the journal count reads 0. -/
  | journalEraseDone
  /-- GTH_STORE_CMD_DONE (R353): When a DELETE_UPTO or READ_TO_HOST store command finishes, RESULT is written and DONE sets. -/
  | gthStoreCmdDone
  /-- REF10_QUALIFIED (R295): The backplane 10 MHz reference qualifies, REF10_OK sets and the servo may steer frequency to it in HOLDOVER and FREERUN. -/
  | ref10Qualified
  /-- REF10_LOST (R295): The backplane 10 MHz reference is lost, and REF10_OK clears. -/
  | ref10Lost
  deriving DecidableEq, Repr

end Sys2Proof
end

