-- ==== Sys2Proof/Decode.lean ====
section
/-! DEFINITION. Commands by the bits of the opcode table. The table gives none of its rows any bits: the module takes
commands and events, and has no instruction encoding. -/

namespace Sys2Proof

/-- The command that a word spells by the table's bits: none, since no row has bits. -/
def decodeTableWord (_nbits _w : Nat) : Option Instr := none

end Sys2Proof
end

