-- ==== Sys2Proof/Config.lean ====
section
/-! DEFINITION. What the spec leaves to an implementation or to another standard: constants without a body, so that
nothing can be proved that rests on a value of theirs. -/

namespace Sys2Proof.Config

/-- The `n`-th value that the spec leaves free ("undefined", random, or without a stated result). DESIGN CHOICE, log
entry 4: an uninterpreted constant, applied to the counter `freeCount` of State. -/
opaque freeValue : Nat → Nat

/-- SHA-256 of a byte string, 32 bytes (R38 and others name the standard). DEDUCED, log entry 7. -/
opaque sha256 : List Byte → List Byte

/-- HSS/LMS verification (R406): public key, message, signature. DEDUCED, log entry 7. -/
opaque hssVerify : List Byte → List Byte → List Byte → Bool

/-- HSS/LMS signing with the module's attestation key (R410): index and message. DEDUCED, log entry 7. -/
opaque hssSign : Nat → List Byte → List Byte

/-- The attestation public key (R409). DEDUCED, log entry 7. -/
opaque attestPublicKey : List Byte

/-- HMAC-SHA-256: key and message (R399). DEDUCED, log entry 7. -/
opaque hmac : List Byte → List Byte → List Byte

/-- AES-GMAC: key, nonce and message (R80). DEDUCED, log entry 7. -/
opaque gmac : List Byte → List Byte → List Byte → List Byte

/-- AES key unwrap: wrapping key and wrapped blob; absent where the integrity check fails (R403). DEDUCED, log entry 7. -/
opaque keyUnwrap : List Byte → List Byte → Option (List Byte)

/-- The IEC 62351-6 extension of a frame: algorithm (R80), key identifier, key, frame (R313). DEDUCED, log entry 7. -/
opaque authExtension : Nat → List Byte → List Byte → List Byte → List Byte

/-- Key derivation inside the key store: a label and an input (R389). DEDUCED, log entry 7. -/
opaque derive : List Byte → List Byte → List Byte

/-- The 16 bytes of the device identity burnt at manufacture (R408). DEDUCED, log entry 7. -/
opaque deviceId : List Byte

/-- The vendor anchor in OTP: the SHA-256 of the vendor's HSS public key (R436, step 4). DEDUCED, log entry 7. -/
opaque vendorAnchor : List Byte

/-- A byte of DRAM, by reset and address, before anything has been written to it: it is undefined after every reset (R447). DESIGN CHOICE, log entry 5. -/
opaque dramByte : Nat → Nat → Byte

/-- Whether the lower levels of an HSS signature use supported parameter sets with one hash output (R406). DEDUCED, log
entry 7. -/
opaque hssLevelsOk : List Byte → List Byte → Bool

/-- The digest of the boot code measured at start-up (R410). DEDUCED, log entry 7. -/
opaque bootDigest : List Byte

/-- What an offset in ns adds to the frequency correction in the proportional branch of the servo, whose gains R297 does not state.
DESIGN CHOICE, log entry 30. -/
opaque servoProportional : Int → Int

/-- What an offset in ns adds to the servo's integrator (R297). DESIGN CHOICE, log entry 30. -/
opaque servoIntegral : Int → Int

/-- Whether the parity bit of an IRIG-B frame makes the number of its 1 bits odd (R295 names IEEE C37.118.1). PRESUMED, log entry
29. -/
opaque irigOddParity : Bool

end Sys2Proof.Config
end

