-- ==== Sys2Proof/Machine/Entries.lean ====
section
/-! DEFINITION. The places of the fields in table entries, descriptors and records, as the entry formats of the block
chapters list them. An entry is a number whose bit 0 is bit 0 of its first byte (little-endian, R19). -/

namespace Sys2Proof

/-- A field of an entry: its lowest bit and its width. -/
structure Bits where
  lo : Nat
  w : Nat
  deriving DecidableEq, Repr

/-- The value of a field in an entry. -/
def Bits.of (b : Bits) (e : Nat) : Nat := bits e b.lo b.w

/-- Whether a one-bit field of an entry is 1. -/
def Bits.on (b : Bits) (e : Nat) : Bool := decide (bits e b.lo b.w = 1)

/-- The entry with a field replaced. -/
def Bits.put (b : Bits) (e x : Nat) : Nat := setBits e b.lo b.w x

/-- A field placed in an otherwise empty entry. -/
def Bits.mk' (b : Bits) (x : Nat) : Nat := x % 2 ^ b.w * 2 ^ b.lo

namespace Ent


/-! 03_sv_ingest.md, R68. -/

def SUB_STABLE_ID : Bits := ⟨0, 32⟩
def SUB_APPID : Bits := ⟨32, 16⟩
def SUB_DST_MAC : Bits := ⟨48, 48⟩
def SUB_VID : Bits := ⟨96, 12⟩
def SUB_VID_MATCH : Bits := ⟨108, 1⟩
def SUB_PORT_MASK : Bits := ⟨112, 12⟩
def SUB_CONTEXT : Bits := ⟨128, 9⟩
def SUB_SVID_LEN : Bits := ⟨144, 8⟩
def SUB_SVID : Bits := ⟨160, 352⟩

/-! 03_sv_ingest.md, R69. -/

def CTX_STABLE_ID : Bits := ⟨0, 32⟩
def CTX_ENABLE : Bits := ⟨32, 1⟩
def CTX_REDUNDANCY : Bits := ⟨33, 2⟩
def CTX_AUTH : Bits := ⟨35, 3⟩
def CTX_REQUIRE_AUTH : Bits := ⟨38, 1⟩
def CTX_SIM_ELIGIBLE : Bits := ⟨39, 1⟩
def CTX_PROFILE : Bits := ⟨40, 4⟩
def CTX_CHANNELS : Bits := ⟨44, 5⟩
def CTX_NOASDU : Bits := ⟨49, 3⟩
def CTX_SLOT_BASE : Bits := ⟨52, 12⟩
def CTX_RATE : Bits := ⟨64, 16⟩
def CTX_SETS_PER_CYCLE : Bits := ⟨80, 5⟩
def CTX_MIN_SMPSYNCH : Bits := ⟨85, 2⟩
def CTX_CONFREV : Bits := ⟨96, 32⟩
def CTX_SEAL_DELAY : Bits := ⟨128, 16⟩
def CTX_EARLY_TOL : Bits := ⟨144, 8⟩
def CTX_KEY_SLOT_CUR : Bits := ⟨160, 10⟩
def CTX_KEY_SLOT_NEXT : Bits := ⟨176, 10⟩

/-! 03_sv_ingest.md, R71. -/

def PRS_TAG : Bits := ⟨0, 8⟩
def PRS_LEVEL : Bits := ⟨8, 2⟩
def PRS_PRESENCE : Bits := ⟨10, 2⟩
def PRS_ACTION : Bits := ⟨12, 4⟩
def PRS_MAX_LEN : Bits := ⟨16, 8⟩
def PRS_CHECK_VALUE : Bits := ⟨24, 16⟩
def PRS_CHECK_EN : Bits := ⟨40, 1⟩

/-! 03_sv_ingest.md, R87. -/

def SLOT_EPOCH : Bits := ⟨0, 64⟩
def SLOT_INGRESS : Bits := ⟨64, 64⟩
def SLOT_STATE : Bits := ⟨128, 4⟩
def SLOT_CAUSE : Bits := ⟨132, 4⟩
def SLOT_LAN : Bits := ⟨136, 1⟩
def SLOT_SIM : Bits := ⟨137, 1⟩
def SLOT_SMPSYNCH : Bits := ⟨138, 2⟩
def SLOT_UNSYNCED : Bits := ⟨140, 1⟩
def SLOT_KEY : Bits := ⟨141, 1⟩
def SLOT_SMPCNT : Bits := ⟨144, 16⟩
def SLOT_CHANNELS : Bits := ⟨160, 5⟩
def SLOT_CONFREV : Bits := ⟨192, 32⟩
def SLOT_CYCLE_LO : Bits := ⟨224, 32⟩

/-! 03_sv_ingest.md, R95. -/

def STST_STABLE_ID : Bits := ⟨0, 32⟩
def STST_LAST_SMPCNT : Bits := ⟨32, 16⟩
def STST_LAST_STATE : Bits := ⟨48, 4⟩
def STST_LAST_CAUSE : Bits := ⟨52, 4⟩
def STST_KEY_IN_USE : Bits := ⟨56, 1⟩
def STST_LAST_EPOCH : Bits := ⟨64, 64⟩
def STST_LAST_INGRESS : Bits := ⟨128, 64⟩
def STST_PLACED_A : Bits := ⟨192, 32⟩
def STST_PLACED_B : Bits := ⟨224, 32⟩
def STST_DUPLICATES : Bits := ⟨256, 32⟩
def STST_REFUTED : Bits := ⟨288, 32⟩
def STST_MISSING : Bits := ⟨320, 32⟩
def STST_LATE : Bits := ⟨352, 32⟩
def STST_REJECTED : Bits := ⟨384, 32⟩
def STST_EARLY : Bits := ⟨416, 32⟩

/-! 04_provisional_and_clasp.md, R112. -/

def STG_KIND : Bits := ⟨0, 8⟩
def STG_LENGTH : Bits := ⟨16, 16⟩
def STG_TARGET : Bits := ⟨32, 32⟩
def STG_ASSERT : Bits := ⟨64, 8⟩
def STG_RELEASE : Bits := ⟨72, 8⟩
def STG_PAYLOAD_OFF : Bits := ⟨80, 16⟩
def STG_VALUE : Bits := ⟨96, 32⟩
def STG_BODY : Bits := ⟨128, 384⟩

/-! 05_stream_filters_backstop.md, R120. -/

def INST_STABLE_ID : Bits := ⟨0, 32⟩
def INST_ENABLE : Bits := ⟨32, 1⟩
def INST_SRC_KIND : Bits := ⟨33, 2⟩
def INST_ALT_EN : Bits := ⟨35, 1⟩
def INST_SRC_A : Bits := ⟨36, 12⟩
def INST_SRC_B : Bits := ⟨48, 12⟩
def INST_SWITCH_N : Bits := ⟨60, 4⟩
def INST_CIC_N : Bits := ⟨64, 3⟩
def INST_CIC_M : Bits := ⟨67, 1⟩
def INST_CIC_R : Bits := ⟨68, 7⟩
def INST_CIC_SHIFT : Bits := ⟨75, 6⟩
def INST_FIR_TAPS : Bits := ⟨82, 6⟩
def INST_FIR_SET : Bits := ⟨88, 8⟩
def INST_DET : Bits := ⟨96, 2⟩
def INST_F0 : Bits := ⟨98, 1⟩
def INST_SUBST : Bits := ⟨99, 1⟩
def INST_W_FULL : Bits := ⟨104, 12⟩
def INST_STEP_THRESH : Bits := ⟨128, 32⟩

/-! 05_stream_filters_backstop.md, R126. -/

def FIR_STABLE_ID : Bits := ⟨0, 32⟩

/-! 05_stream_filters_backstop.md, R132. -/

def OUT_FINE : Bits := ⟨0, 32⟩
def OUT_FAST : Bits := ⟨32, 32⟩
def OUT_INGRESS : Bits := ⟨64, 64⟩
def OUT_SMPCNT : Bits := ⟨128, 16⟩
def OUT_STATE : Bits := ⟨144, 4⟩
def OUT_INVALID : Bits := ⟨148, 1⟩
def OUT_FAST_INVALID : Bits := ⟨149, 1⟩
def OUT_QUESTIONABLE : Bits := ⟨150, 1⟩
def OUT_SETTLING : Bits := ⟨151, 1⟩
def OUT_STEP : Bits := ⟨152, 1⟩
def OUT_SOURCE_B : Bits := ⟨153, 1⟩
def OUT_SATURATED : Bits := ⟨154, 1⟩
def OUT_CFG_LATE : Bits := ⟨155, 1⟩
def OUT_GEN : Bits := ⟨156, 2⟩
def OUT_STREAM : Bits := ⟨160, 9⟩
def OUT_CYCLE_LO : Bits := ⟨192, 32⟩
def OUT_EPOCH_LO : Bits := ⟨224, 32⟩

/-! 05_stream_filters_backstop.md, R135. -/

def ELEM_STABLE_ID : Bits := ⟨0, 32⟩
def ELEM_MODE : Bits := ⟨32, 2⟩
def ELEM_VALUE_SEL : Bits := ⟨34, 2⟩
def ELEM_LATCH : Bits := ⟨36, 1⟩
def ELEM_RESET_MODE : Bits := ⟨37, 2⟩
def ELEM_INPUT : Bits := ⟨40, 11⟩
def ELEM_DT_MASK : Bits := ⟨56, 8⟩
def ELEM_PICKUP : Bits := ⟨64, 32⟩
def ELEM_DROPOUT : Bits := ⟨96, 8⟩
def ELEM_CURVE : Bits := ⟨104, 5⟩
def ELEM_RESET_CURVE : Bits := ⟨109, 5⟩
def ELEM_INV_HOLD : Bits := ⟨120, 8⟩
def ELEM_TMS : Bits := ⟨128, 16⟩
def ELEM_DELAY : Bits := ⟨160, 32⟩
def ELEM_RESET_TIME : Bits := ⟨192, 32⟩

/-! 05_stream_filters_backstop.md, R136. -/

def CURV_STABLE_ID : Bits := ⟨0, 32⟩
def CURV_X : Bits := ⟨32, 16⟩
def CURV_Y : Bits := ⟨48, 16⟩

/-! 05_stream_filters_backstop.md, R147. -/

def FST_STABLE_ID : Bits := ⟨0, 32⟩
def FST_SOURCE_B : Bits := ⟨32, 1⟩
def FST_FORCED : Bits := ⟨33, 2⟩
def FST_SETTLE_LEFT : Bits := ⟨35, 13⟩
def FST_LAST_SMPCNT : Bits := ⟨48, 16⟩
def FST_LAST_CYCLE_LO : Bits := ⟨64, 32⟩
def FST_STEPS : Bits := ⟨96, 32⟩
def FST_SWITCHES : Bits := ⟨128, 32⟩
def FST_STATE : Bits := ⟨32, 3⟩
def FST_INTEGRATOR : Bits := ⟨64, 64⟩
def FST_TRIPS : Bits := ⟨128, 32⟩
def FST_TRIP_SMPCNT : Bits := ⟨160, 16⟩
def FST_TRIP_CYCLE_LO : Bits := ⟨192, 32⟩

/-! 06_folios_and_core_pairs.md, R157. -/

def PLC_ENABLE : Bits := ⟨0, 1⟩
def PLC_BACKGROUND : Bits := ⟨1, 1⟩
def PLC_PROV : Bits := ⟨2, 1⟩
def PLC_FAULT_ACTION : Bits := ⟨3, 1⟩
def PLC_PRIORITY : Bits := ⟨4, 3⟩
def PLC_HOME_PAIR : Bits := ⟨8, 4⟩
def PLC_FALLBACK_PAIR : Bits := ⟨12, 4⟩
def PLC_TRIG_STREAM : Bits := ⟨16, 9⟩
def PLC_DEADLINE_US : Bits := ⟨32, 16⟩
def PLC_BUDGET_US : Bits := ⟨48, 16⟩
def PLC_DT_MASK : Bits := ⟨64, 8⟩
def PLC_QUIRE_UNITS : Bits := ⟨72, 9⟩
def PLC_L3_UNITS : Bits := ⟨81, 7⟩
def PLC_RX_LOG2 : Bits := ⟨88, 4⟩
def PLC_TX_LOG2 : Bits := ⟨92, 4⟩
def PLC_RESET_MAX : Bits := ⟨96, 4⟩

/-! 06_folios_and_core_pairs.md, R158. -/

def WIN_FOLIO : Bits := ⟨0, 5⟩
def WIN_ENABLE : Bits := ⟨5, 1⟩
def WIN_ACCESS : Bits := ⟨6, 2⟩
def WIN_SHARED : Bits := ⟨8, 1⟩
def WIN_KERNEL : Bits := ⟨9, 1⟩
def WIN_SIZE : Bits := ⟨16, 16⟩
def WIN_GUEST_BASE : Bits := ⟨32, 20⟩
def WIN_DRAM_BASE : Bits := ⟨64, 14⟩

/-! 06_folios_and_core_pairs.md, R168. -/

def RXD_BUF_ADDR : Bits := ⟨0, 64⟩
def RXD_BUF_SIZE : Bits := ⟨64, 16⟩
def RXD_FRAME_LEN : Bits := ⟨80, 16⟩
def RXD_OWN : Bits := ⟨96, 1⟩
def RXD_TRUNC : Bits := ⟨97, 1⟩
def RXD_TS_VALID : Bits := ⟨98, 1⟩
def RXD_BAD_BUF : Bits := ⟨99, 1⟩
def RXD_IN_PORT : Bits := ⟨100, 5⟩
def RXD_CLASS : Bits := ⟨105, 3⟩
def RXD_RX_TS : Bits := ⟨128, 64⟩

/-! 06_folios_and_core_pairs.md, R170. -/

def TXD_BUF_ADDR : Bits := ⟨0, 64⟩
def TXD_LEN : Bits := ⟨64, 16⟩
def TXD_OWN : Bits := ⟨80, 1⟩
def TXD_SENT : Bits := ⟨81, 1⟩
def TXD_DISCARDED : Bits := ⟨82, 1⟩
def TXD_TS_REQ : Bits := ⟨83, 1⟩
def TXD_TIMED : Bits := ⟨84, 1⟩
def TXD_CLASS : Bits := ⟨85, 3⟩
def TXD_CAUSE : Bits := ⟨88, 8⟩
def TXD_LAUNCH_TIME : Bits := ⟨128, 64⟩

/-! 06_folios_and_core_pairs.md, R175. -/

def FLTREC_SEQ : Bits := ⟨0, 32⟩
def FLTREC_FOLIO : Bits := ⟨32, 5⟩
def FLTREC_PAIR : Bits := ⟨37, 4⟩
def FLTREC_CAUSE : Bits := ⟨48, 8⟩
def FLTREC_RUN : Bits := ⟨56, 4⟩
def FLTREC_ACTION : Bits := ⟨60, 2⟩
def FLTREC_TAI : Bits := ⟨64, 64⟩
def FLTREC_MONO : Bits := ⟨128, 64⟩
def FLTREC_CYCLE : Bits := ⟨192, 64⟩
def FLTREC_ADDR : Bits := ⟨256, 64⟩
def FLTREC_EPC : Bits := ⟨320, 64⟩

/-! 06_folios_and_core_pairs.md, R183. -/

def MOVREC_SEQ : Bits := ⟨0, 32⟩
def MOVREC_KIND : Bits := ⟨32, 4⟩
def MOVREC_FROM_PAIR : Bits := ⟨36, 4⟩
def MOVREC_TO_PAIR : Bits := ⟨40, 4⟩
def MOVREC_SPARES_LEFT : Bits := ⟨44, 4⟩
def MOVREC_FOLIOS : Bits := ⟨64, 32⟩
def MOVREC_TAI : Bits := ⟨128, 64⟩
def MOVREC_CYCLE : Bits := ⟨192, 64⟩
def MOVREC_LOST_RUNS : Bits := ⟨256, 8⟩
def MOVREC_DURATION : Bits := ⟨288, 32⟩

/-! 07_logic_engine.md, R197. -/

def STI_STABLE_ID : Bits := ⟨0, 32⟩
def STI_OP : Bits := ⟨64, 8⟩
def STI_SPACE : Bits := ⟨72, 4⟩
def STI_INV : Bits := ⟨76, 1⟩
def STI_INDEX : Bits := ⟨80, 16⟩
def STI_IMM : Bits := ⟨96, 32⟩

/-! 07_logic_engine.md, R200. -/

def IDN_STABLE_ID : Bits := ⟨0, 32⟩
def IDN_KIND : Bits := ⟨32, 3⟩
def IDN_INDEX : Bits := ⟨36, 14⟩
def IDN_TMODE : Bits := ⟨50, 2⟩
def IDN_PRESET : Bits := ⟨64, 32⟩

/-! 07_logic_engine.md, R206. -/

def FRC_STABLE_ID : Bits := ⟨0, 32⟩
def FRC_KIND : Bits := ⟨32, 3⟩
def FRC_ACTIVE : Bits := ⟨35, 1⟩
def FRC_INDEX : Bits := ⟨36, 14⟩
def FRC_VALUE : Bits := ⟨64, 32⟩
def FRC_SET_TAI : Bits := ⟨128, 64⟩

/-! 08_control_objects_interlocks.md, R214. -/

def OBJ_STABLE_ID : Bits := ⟨0, 32⟩
def OBJ_ENABLE : Bits := ⟨32, 1⟩
def OBJ_SAFE_DIR : Bits := ⟨33, 1⟩
def OBJ_RANK_CLASS : Bits := ⟨34, 3⟩
def OBJ_PUB : Bits := ⟨40, 8⟩
def OBJ_PUB_MEMBER : Bits := ⟨48, 8⟩
def OBJ_POS_MEMBER : Bits := ⟨56, 8⟩
def OBJ_POS_APPID : Bits := ⟨64, 16⟩
def OBJ_WAIT_MS : Bits := ⟨80, 16⟩
def OBJ_OPERATE_MS : Bits := ⟨96, 16⟩
def OBJ_TRAVEL_MS : Bits := ⟨112, 16⟩
def OBJ_EVT_CLASS : Bits := ⟨128, 16⟩

/-! 08_control_objects_interlocks.md, R215. -/

def MST_STABLE_ID : Bits := ⟨0, 32⟩
def MST_ENABLE : Bits := ⟨32, 1⟩
def MST_SOURCE : Bits := ⟨33, 3⟩
def MST_FOLIO : Bits := ⟨36, 5⟩
def MST_RANKS : Bits := ⟨64, 32⟩

/-! 08_control_objects_interlocks.md, R228. -/

def RES_SEQ : Bits := ⟨0, 32⟩
def RES_OBJECT : Bits := ⟨32, 10⟩
def RES_MASTER : Bits := ⟨42, 6⟩
def RES_CODE : Bits := ⟨48, 8⟩
def RES_DIR : Bits := ⟨56, 2⟩
def RES_NO_POS : Bits := ⟨58, 1⟩
def RES_TAG : Bits := ⟨64, 32⟩
def RES_OBJ_ID : Bits := ⟨96, 32⟩
def RES_LATCH_TAI : Bits := ⟨128, 64⟩
def RES_RESULT_TAI : Bits := ⟨192, 64⟩
def RES_SCAN_NO : Bits := ⟨256, 64⟩

/-! 08_control_objects_interlocks.md, R238. -/

def OST_STABLE_ID : Bits := ⟨0, 32⟩
def OST_TAG : Bits := ⟨32, 32⟩
def OST_STATE : Bits := ⟨64, 3⟩
def OST_DIR : Bits := ⟨67, 2⟩
def OST_MASTER : Bits := ⟨69, 6⟩
def OST_FAULT : Bits := ⟨75, 1⟩
def OST_POS : Bits := ⟨76, 2⟩
def OST_POS_VALID : Bits := ⟨78, 1⟩
def OST_LAST_CODE : Bits := ⟨80, 8⟩
def OST_LATCH_TAI : Bits := ⟨128, 64⟩
def OST_POS_TAI : Bits := ⟨192, 64⟩

/-! 09_switch_core.md, R243. -/

def FWD_VALID : Bits := ⟨0, 1⟩
def FWD_VID : Bits := ⟨4, 12⟩
def FWD_DST_MAC : Bits := ⟨16, 48⟩
def FWD_PORT_MASK : Bits := ⟨64, 20⟩
def FWD_CLASS_SET : Bits := ⟨84, 4⟩
def FWD_CT_DIS : Bits := ⟨88, 1⟩
def FWD_TO_CTL : Bits := ⟨89, 1⟩
def FWD_TO_TIM : Bits := ⟨90, 1⟩
def FWD_DROP : Bits := ⟨91, 1⟩
def FWD_FOLIO_MASK : Bits := ⟨96, 32⟩

/-! 09_switch_core.md, R244. -/

def VLAN_VALID : Bits := ⟨0, 1⟩
def VLAN_MEMBER : Bits := ⟨8, 20⟩
def VLAN_UNTAG : Bits := ⟨32, 20⟩
def VLAN_FLOOD : Bits := ⟨64, 20⟩
def VLAN_FLOOD_FOLIOS : Bits := ⟨96, 32⟩

/-! 09_switch_core.md, R245. -/

def PORT_PVID : Bits := ⟨0, 12⟩
def PORT_ACCEPT : Bits := ⟨12, 2⟩
def PORT_DEFAULT_CLASS : Bits := ⟨16, 3⟩
def PORT_DEFAULT_PCP : Bits := ⟨19, 3⟩
def PORT_CT_EN : Bits := ⟨22, 1⟩
def PORT_PCP_MAP : Bits := ⟨32, 24⟩

/-! 09_switch_core.md, R246. -/

def CLAS_RESERVE : Bits := ⟨0, 17⟩
def CLAS_QUEUE_CAP : Bits := ⟨32, 17⟩
def CLAS_AGE_LIMIT : Bits := ⟨64, 16⟩
def CLAS_CT_EN : Bits := ⟨80, 1⟩

/-! 11_time_and_launch.md, R306. -/

def TSQ_TS : Bits := ⟨0, 64⟩
def TSQ_DESC : Bits := ⟨64, 12⟩
def TSQ_FOLIO : Bits := ⟨76, 5⟩
def TSQ_CLASS : Bits := ⟨81, 3⟩
def TSQ_CAUSE : Bits := ⟨84, 4⟩
def TSQ_TIME_VALID : Bits := ⟨88, 1⟩
def TSQ_FLUSHED : Bits := ⟨89, 1⟩
def TSQ_GAP : Bits := ⟨90, 1⟩
def TSQ_INTR : Bits := ⟨91, 1⟩
def TSQ_STOMPED : Bits := ⟨92, 1⟩
def TSQ_GAP_COUNT : Bits := ⟨96, 8⟩
def TSQ_SEQ : Bits := ⟨112, 16⟩

/-! 11_time_and_launch.md, R313. -/

def PUB_STABLE_ID : Bits := ⟨0, 32⟩
def PUB_OWNER : Bits := ⟨32, 2⟩
def PUB_FOLIO : Bits := ⟨34, 5⟩
def PUB_SIM : Bits := ⟨39, 1⟩
def PUB_NDSCOM : Bits := ⟨40, 1⟩
def PUB_CLASS : Bits := ⟨41, 3⟩
def PUB_CURVE : Bits := ⟨48, 6⟩
def PUB_AUTH : Bits := ⟨56, 3⟩
def PUB_KEY_SLOT : Bits := ⟨64, 10⟩
def PUB_APPID : Bits := ⟨80, 16⟩
def PUB_DST_MAC : Bits := ⟨96, 48⟩
def PUB_VID : Bits := ⟨144, 12⟩
def PUB_PCP : Bits := ⟨156, 3⟩
def PUB_TAGGED : Bits := ⟨159, 1⟩
def PUB_CONFREV : Bits := ⟨160, 32⟩
def PUB_MAX_PAYLOAD : Bits := ⟨192, 16⟩
def PUB_MEMBERS : Bits := ⟨208, 16⟩
def PUB_IDS_LEN : Bits := ⟨224, 8⟩
def PUB_IDS : Bits := ⟨512, 1536⟩

/-! 11_time_and_launch.md, R315. -/

def RETR_STABLE_ID : Bits := ⟨0, 32⟩
def RETR_STEPS : Bits := ⟨32, 4⟩
def RETR_TAL_Q : Bits := ⟨40, 8⟩
def RETR_HEARTBEAT_US : Bits := ⟨64, 32⟩

/-! 12_event_recorder.md, R319. -/

def REC_STAMP : Bits := ⟨0, 64⟩
def REC_CLASS : Bits := ⟨64, 10⟩
def REC_SRC_KIND : Bits := ⟨74, 3⟩
def REC_SRC_ID : Bits := ⟨77, 5⟩
def REC_STAMP_CN : Bits := ⟨82, 1⟩
def REC_TIME_VALID : Bits := ⟨83, 1⟩
def REC_ACTIVE : Bits := ⟨84, 1⟩
def REC_BODY : Bits := ⟨96, 384⟩
def REC_COLOPHON : Bits := ⟨480, 32⟩

/-! 12_event_recorder.md, R323. -/

def EVC_STABLE_ID : Bits := ⟨0, 32⟩
def EVC_ENABLE : Bits := ⟨32, 1⟩
def EVC_CRITICAL : Bits := ⟨33, 1⟩
def EVC_SOURCES : Bits := ⟨34, 3⟩
def EVC_FOLIO_MASK : Bits := ⟨64, 32⟩

/-! 13_gatherings.md, R338. -/

def GATH_ENABLE : Bits := ⟨39, 1⟩
def GATH_REF_STREAM : Bits := ⟨40, 9⟩
def GATH_OVERFLOW : Bits := ⟨49, 1⟩
def GATH_DEST : Bits := ⟨50, 1⟩
def GATH_F0 : Bits := ⟨51, 1⟩
def GATH_AREA_MIB : Bits := ⟨52, 12⟩
def GATH_HEAD : Bits := ⟨64, 32⟩
def GATH_TAIL : Bits := ⟨96, 32⟩
def GATH_GUTTER : Bits := ⟨128, 32⟩
def GATH_ANALOGUE : Bits := ⟨160, 11⟩
def GATH_BINARY : Bits := ⟨171, 13⟩
def GATH_AREA_BASE : Bits := ⟨184, 11⟩
def GATH_ORDER : Bits := ⟨40, 10⟩
def GATH_SRC_KIND : Bits := ⟨50, 2⟩
def GATH_SRC : Bits := ⟨52, 12⟩
def GATH_SCALE_A : Bits := ⟨64, 32⟩
def GATH_OFFSET_B : Bits := ⟨96, 32⟩
def GATH_ORDER2 : Bits := ⟨40, 12⟩

/-! 13_gatherings.md, R343. -/

def SEQ_STABLE_ID : Bits := ⟨0, 32⟩
def SEQ_ENABLE : Bits := ⟨32, 1⟩
def SEQ_TARGETS : Bits := ⟨33, 8⟩
def SEQ_SKEW_A_US : Bits := ⟨48, 16⟩
def SEQ_THRESH_A : Bits := ⟨64, 32⟩
def SEQ_THRESH_B : Bits := ⟨96, 32⟩
def SEQ_TIMER_US : Bits := ⟨128, 32⟩
def SEQ_COUNT_LIMIT : Bits := ⟨160, 16⟩
def SEQ_SKEW_B_US : Bits := ⟨176, 16⟩
def SEQ_TRANS_A : Bits := ⟨192, 32⟩
def SEQ_TRANS_B : Bits := ⟨224, 32⟩

/-! 15_keys_and_signatures.md, R388. -/

def SLT_GEN : Bits := ⟨0, 32⟩
def SLT_PARENT_GEN : Bits := ⟨32, 32⟩
def SLT_PARENT : Bits := ⟨64, 10⟩
def SLT_LEVEL : Bits := ⟨74, 2⟩
def SLT_TYPE : Bits := ⟨76, 4⟩
def SLT_STATE : Bits := ⟨80, 3⟩
def SLT_ORPHANED : Bits := ⟨83, 1⟩
def SLT_PC : Bits := ⟨84, 1⟩
def SLT_SUSPENDED : Bits := ⟨85, 1⟩
def SLT_USAGE : Bits := ⟨88, 8⟩
def SLT_USE_COUNT : Bits := ⟨96, 48⟩
def SLT_USE_LIMIT : Bits := ⟨144, 48⟩
def SLT_NOT_AFTER : Bits := ⟨192, 64⟩
def SLT_RESET_AT : Bits := ⟨256, 32⟩
def SLT_RESET_LIMIT : Bits := ⟨288, 32⟩
def SLT_LAST_COUNTER : Bits := ⟨320, 64⟩
def SLT_KEY_ID : Bits := ⟨384, 128⟩

/-! 15_keys_and_signatures.md, R398. -/

def POL_ENABLE : Bits := ⟨0, 1⟩
def POL_LEVEL : Bits := ⟨1, 2⟩
def POL_PC_OK : Bits := ⟨3, 1⟩
def POL_TYPES : Bits := ⟨8, 5⟩
def POL_USAGE : Bits := ⟨16, 8⟩
def POL_SLOT_FIRST : Bits := ⟨32, 10⟩
def POL_SLOT_LAST : Bits := ⟨48, 10⟩
def POL_MAX_USE_64K : Bits := ⟨64, 32⟩
def POL_MAX_LIFE_S : Bits := ⟨96, 32⟩

/-! 16_lifecycle_power_debug_tamper.md, R442. -/

def TLOG_NUMBER : Bits := ⟨0, 32⟩
def TLOG_SENSOR : Bits := ⟨32, 3⟩
def TLOG_LIFECYCLE : Bits := ⟨35, 3⟩
def TLOG_DEBUG : Bits := ⟨38, 3⟩
def TLOG_POWER : Bits := ⟨41, 2⟩
def TLOG_RESPONSE : Bits := ⟨43, 3⟩
def TLOG_CLASS_P : Bits := ⟨46, 1⟩
def TLOG_REPORTED : Bits := ⟨47, 1⟩
def TLOG_UNSEAL_STOPPED : Bits := ⟨48, 1⟩
def TLOG_OP_ABORTED : Bits := ⟨49, 1⟩
def TLOG_PENDING : Bits := ⟨50, 1⟩
def TLOG_SECONDS : Bits := ⟨64, 32⟩

/-! 17_startup_bist_supply.md, R458. -/

def FAIL_TARGET : Bits := ⟨0, 8⟩
def FAIL_INSTANCE : Bits := ⟨8, 6⟩
def FAIL_KIND : Bits := ⟨14, 2⟩
def FAIL_BIT : Bits := ⟨16, 8⟩
def FAIL_ADDRESS : Bits := ⟨32, 24⟩
def FAIL_REPAIR : Bits := ⟨56, 8⟩

/-! 18_housekeeping_wear_spares.md, R475. -/

def MON_VALUE : Bits := ⟨0, 32⟩
def MON_PEAK : Bits := ⟨32, 32⟩
def MON_KIND : Bits := ⟨64, 4⟩
def MON_WARN : Bits := ⟨68, 1⟩
def MON_PROPOSED : Bits := ⟨69, 1⟩
def MON_EXHAUSTED : Bits := ⟨70, 1⟩
def MON_UPDATED_S : Bits := ⟨96, 32⟩

/-! 18_housekeeping_wear_spares.md, R477. -/

def PROP_MONITOR : Bits := ⟨0, 8⟩
def PROP_ACTION : Bits := ⟨8, 4⟩
def PROP_STATE : Bits := ⟨12, 4⟩
def PROP_SUBJECT : Bits := ⟨16, 8⟩
def PROP_DETAIL : Bits := ⟨24, 8⟩
def PROP_ADDRESS : Bits := ⟨32, 24⟩
def PROP_RAISED_S : Bits := ⟨64, 32⟩
def PROP_VALUE : Bits := ⟨96, 32⟩

end Ent

end Sys2Proof
end

