-- ==== Sys2Proof/Machine/State.lean ====
section
/-! DEFINITION. The state of the module as plain data, and its value after a power-on reset.

Register fields lie in one sparse store (`regs`), keyed by bit address (Machine/Regs.lean). What the spec gives a block
beside its registers lies in that block's structure below. Times are fabric nanoseconds (`now`) unless a name says TAI. -/

namespace Sys2Proof.Machine

/-- The reasons a command can stop the machine. No command of this block stops it: the spec gives every row of the table
an effect, so this type has no constructor that any meaning raises; `impossible` is raised by nobody and is safe. -/
inductive Fault where
  /-- raised by no command; safe -/
  | impossible
  deriving DecidableEq, Repr

/-- The reasons the model declines a command. -/
inductive Refusal where
  /-- an arm of `exec` whose meaning is not written; raised by `exec` only; safe -/
  | notModelled (mnemonic : String)
  deriving DecidableEq, Repr

/-- One table with its banks (R57): the running bank, the shadow bank that a tip-in fills, and the retired bank that a
revert brings back. A store maps an entry index to the entry as a number; an unlisted entry is 0. -/
structure Table where
  id : Nat
  active : Store := []
  shadow : Store := []
  retired : Store := []
  deriving DecidableEq, Repr

/-! ## Event recorder -/

/-- An event record without its sequence number (R319): the COLOPHON follows from its index (R320). -/
structure EvRec where
  stamp : Nat
  cls : Nat
  srcKind : Nat
  srcId : Nat
  stampCn : Bool
  timeValid : Bool
  active : Bool
  body : List Byte
  deriving DecidableEq, Repr

/-- The event recorder beside its registers. -/
structure EvrS where
  /-- MRAM region: the valid run from index 0, each record with whether it holds an uncorrectable error (R328, R334) -/
  region : List (EvRec × Bool) := []
  /-- records accepted and not yet committed, oldest first; without numbers while SCANNING (R326) -/
  queue : List EvRec := []
  /-- records accepted in this fabric cycle, each with its place in the order in which they enter the queue (R326) -/
  arrivals : List (Nat × EvRec) := []
  /-- records committed in this fabric cycle, which no read in it finds ("A read meets a commit") -/
  newNow : Nat := 0
  /-- control block: a clear is pending (R336) -/
  clearing : Bool := false
  /-- control block: committed clear front in slots (R336) -/
  front : Nat := 0
  /-- control block: the CLEARED record of the pending clear, kept so that it can be written after an interruption (R337) -/
  cleared : Option EvRec := none
  /-- SEQ of the last record before the first ordinary refusal, and the TAI of that refusal (R325, R329) -/
  firstRefusal : Option (Nat × Nat) := none
  deriving DecidableEq, Repr

/-! ## Key store -/

/-- One key slot (R386-R388): its metadata, its material and what of it the MRAM holds. -/
structure KeySlot where
  gen : Nat := 0
  parentGen : Nat := 0
  parent : Nat := 0
  level : Nat := 0
  typ : Nat := 0
  /-- state code of R387 -/
  state : Nat := 0
  pc : Bool := false
  suspended : Bool := false
  usage : Nat := 0
  /-- live use count, in the key RAM -/
  useCount : Nat := 0
  /-- use count last committed to MRAM (R395) -/
  useMram : Nat := 0
  useLimit : Nat := 0
  notAfter : Nat := 0
  resetAt : Nat := 0
  resetLimit : Nat := 0
  lastCounter : Nat := 0
  /-- 16 octets, first first -/
  keyId : List Byte := []
  material : List Byte := []
  deriving DecidableEq, Repr

/-- A KEY operation in progress (R418). -/
structure KeyJob where
  /-- 1 UPDATE, 2 VERIFY, 3 ATTEST, 4 PUBKEY, 5 DELETE -/
  op : Nat
  slot : Nat
  /-- the slots that it uses and that were usable when it began, with the generation of each (R393) -/
  uses : List (Nat × Nat)
  input : List Byte
  /-- the statement of an ATTEST (R410) -/
  statement : List Byte
  /-- the attestation index taken (R411) -/
  index : Nat
  /-- the output goes to DRAM at this address; none for the internal buffer -/
  outAddr : Option Nat
  /-- a result that ends the operation whatever it computes: TAMPER or SUPPLY (R414, R416) -/
  forced : Option Nat
  deriving DecidableEq, Repr

/-- The key store beside its registers. -/
structure KeyS where
  /-- slots that are not EMPTY with generation 0, by number, rising -/
  slots : List (Nat × KeySlot) := [(0, { gen := 1, state := 1, typ := 15, usage := 32 })]
  job : Option KeyJob := none
  /-- KEY_OP_WR buffer and offset, KEY_OP_RD buffer and offset (R418) -/
  inBuf : List Byte := []
  inOff : Nat := 0
  outBuf : List Byte := []
  outOff : Nat := 0
  /-- metadata of zeroized slots still to be rewritten in MRAM (R413) -/
  rewrite : Bool := false
  /-- the key RAM lost power since the last unseal (R395) -/
  ramLost : Bool := true
  /-- the always-on domain lost power before this unseal (R415) -/
  aonLost : Bool := true
  /-- KEY_POLICY.AON_LOSS_ZEROIZE of the last Binding loaded, which the MRAM keeps for the unseal (log entry 49) -/
  lossZeroize : Bool := false
  deriving DecidableEq, Repr

/-! ## Switch core and port MACs -/

/-- One copy of a frame on its way to one egress port (R251). Bytes run from the destination address to the last octet
before the FCS, so the frame's length is four more. -/
structure Copy where
  id : Nat
  port : Nat
  cls : Nat
  inPort : Nat
  bytes : List Byte
  /-- fabric time of the arrival of its first cell (R258) -/
  firstAt : Nat
  /-- residence counter at its ingress SFD (R303) -/
  inResid : Nat
  /-- TAI of its ingress SFD (R301) -/
  rxTs : Nat
  /-- cells that it holds or has set aside (R251, R260) -/
  cells : Nat
  /-- 0 still arriving, kept for cut-through; 1 in its egress queue; 2 leaving; 3 preempted remainder; 4 backing off at
  port A (R281); 5 whole and on its way through the Spine -/
  st : Nat
  /-- its last bit has arrived -/
  complete : Bool
  /-- it leaves with an inverted FCS (R262) -/
  stomped : Bool
  /-- a transmit-timestamp entry is pending: descriptor and folio (R304) -/
  ts : Option (Nat × Nat)
  /-- launch time of a timed copy (R307) -/
  launch : Option Nat
  /-- twin-gated (R366) -/
  gated : Bool
  /-- TAI of its egress SFD (R301) -/
  egressTs : Nat
  /-- fragments sent so far, and the octets that they carried (R276) -/
  fragments : Nat
  sentOctets : Nat
  /-- at I0: the receive rings it goes to, and whether CTL or the time base receives it (R243) -/
  folios : Nat
  toCtl : Bool
  toTim : Bool
  /-- cells that the input has put into its queue for the Spine (R251) -/
  entered : Nat := 0
  deriving DecidableEq, Repr

/-- A frame that is still being received, with its forwarding decision (R242). -/
structure RxFrame where
  port : Nat
  firstAt : Nat
  inResid : Nat
  rxTs : Nat
  cls : Nat
  /-- egress ports whose copies are stored, a bit each: those of the decision but for the copies kept for cut-through -/
  dests : Nat
  folios : Nat
  toCtl : Bool
  toTim : Bool
  ctDis : Bool
  deriving DecidableEq, Repr

/-- One cell in the Spine (R251-R254). -/
structure SpineCell where
  copy : Nat
  inp : Nat
  out : Nat
  seq : Nat
  cls : Nat
  at_ : Nat
  deriving DecidableEq, Repr

/-- The switch core beside its registers. -/
structure SwcS where
  rx : List RxFrame := []
  /-- all copies in the buffer, oldest first -/
  copies : List Copy := []
  nextCopy : Nat := 0
  /-- sequence number of each redundancy pair (R248, R249) -/
  pairSeq : List Nat := [0, 0, 0, 0, 0, 0]
  /-- forwarding discard tables of HSR pairs: pair, source address, sequence number, time (R249) -/
  hsrSeen : List (Nat × Nat × Nat × Nat) := []
  /-- end of the link-hold window of a port in HOLD (R263) -/
  holdEnd : Store := []
  /-- next supervision frame of each pair (R250) -/
  supDue : Store := []
  /-- cells waiting at the inputs, oldest first; cells in lanes; cells held in resequencers (R252-R254) -/
  spineIn : List SpineCell := []
  lanes : List (Nat × SpineCell) := []
  held : List SpineCell := []
  /-- next sequence number of each (input, output), at the input and at the resequencer; key 20 * input + output -/
  seqIn : Store := []
  seqOut : Store := []
  /-- cells of a copy that its resequencer has released in order, by copy -/
  released : Store := []
  /-- ns since the switch clock started: slot t of the Spine takes ns 5t to 5t + 4 (R251) -/
  spineNs : Nat := 0
  deriving DecidableEq, Repr

/-- The port MACs beside their registers. -/
structure MacS where
  /-- end of a running VERIFY_MS interval, by port (R275) -/
  verifyEnd : Store := []
  /-- end of the pause timer, by port (R278) -/
  pauseEnd : Store := []
  /-- start of the present pause, by port, for PAUSED_US -/
  pauseStart : Store := []
  /-- next repetition of an XOFF PAUSE, by port (R279) -/
  xoffRefresh : Store := []
  /-- control frames waiting at a port: port and quanta (R273, R279) -/
  ctrl : List (Nat × Nat) := []
  /-- ports that owe a respond mPacket (R275) -/
  respond : List Nat := []
  /-- port A: collisions of the frame in progress, end of back-off (R281) -/
  collisions : Nat := 0
  backoffEnd : Option Nat := none
  /-- port A: the sent copy, and the first-cell times of the received frames, whose interrupt is awaited (R282) -/
  awaitTx : Option Copy := none
  awaitRx : List Nat := []
  /-- fabric time from which lock has been held without a break, by port (R270) -/
  qualAt : Store := []
  /-- port A: its PHY reports a fault (R270); fabric time at which carrier was last sensed; the copy that has deferred (R281) -/
  phyFault : Bool := false
  carrierAt : Nat := 0
  deferred : Option Nat := none
  /-- cages switched off for overcurrent: 1 off, 2 off and PORT_EN written 0 since (R496) -/
  cageOff : Store := []
  deriving DecidableEq, Repr

/-- One entry of a transmit-timestamp queue (R306), as a 128-bit number, per port oldest first. -/
structure TsqS where
  entries : List (Nat × Nat) := []
  /-- entry number of each port (SEQ) and entries not stored since the last stored one -/
  seq : Store := []
  deriving DecidableEq, Repr

/-! ## Sampled-value ingest -/

/-- One slot of a stream's ring that holds a set or a seal (R85, R87). -/
structure SvSlot where
  cycle : Nat
  epoch : Nat
  /-- TAI ns of the owner's last bit; 0 for MISSING -/
  ingress : Nat
  /-- state code of R87: 1 PROVISIONAL, 2 CONFIRMED, 3 REFUTED, 4 MISSING, 8 ERROR -/
  st : Nat
  cause : Nat := 0
  lan : Bool := false
  sim : Bool := false
  smpSynch : Nat := 0
  unsynced : Bool := false
  key : Bool := false
  smpCnt : Nat := 0
  confRev : Nat := 0
  /-- value and quality words, channel 0 first, as unsigned 32-bit numbers -/
  vals : List Nat := []
  quals : List Nat := []
  deriving DecidableEq, Repr

/-- The running state of one stream. -/
structure SvStream where
  /-- slots that hold a set or a seal, by slot number, rising -/
  ring : List (Nat × SvSlot) := []
  /-- discard table: sequence number and fabric time, oldest first, at most 32 (R73) -/
  disc : List (Nat × Nat) := []
  /-- the entry of the stream status table 0x0204 (R95) -/
  stat : Nat := 0
  /-- cycles below this read EXPIRED (R88, R93) -/
  expired : Nat := 0
  /-- the next cycle to be sealed, once the first ingest cycle is known -/
  sealed : Option Nat := none
  deriving DecidableEq, Repr

/-- An epoch without a verdict (R76-R79). -/
structure SvEpoch where
  epoch : Nat
  stream : Nat
  slots : List Nat
  placedAt : Nat
  lastBit : Nat
  /-- frame-equivalents (R82) -/
  fe : Nat
  /-- the verifier unit that serves it -/
  unit : Option Nat
  keySlot : Option Nat
  /-- the slot's generation at placement -/
  keyGen : Nat
  /-- the FCS of the copy is good (R65), and its tag is the one that the key gives (R80) -/
  fcsOk : Bool := true
  macOk : Bool := true
  /-- when an engine of the unit took the job into service (R84) -/
  started : Option Nat := none
  deriving DecidableEq, Repr

/-- The ingest engine beside its registers. -/
structure SviS where
  streams : List (Nat × SvStream) := []
  pend : List SvEpoch := []
  /-- first ingest cycle C0 (R88) -/
  c0 : Option Nat := none
  /-- SIM_MODE in force since the last cadence boundary -/
  simMode : Bool := false
  /-- units released by SPARE_SEL that still finish jobs (R84) -/
  leaving : List Nat := []
  /-- key slots of streams that were found orphaned (R82) -/
  lostKeys : List Nat := []
  /-- the model's own: streams that a tip-in has removed stay readable for what was placed before (R93, R122), under numbers from 512
  on; their context entries by that number, and how many SUBS flips there have been (log entry 48) -/
  ghosts : Store := []
  flips : Nat := 0
  deriving DecidableEq, Repr

/-! ## Stream filters and the backstop -/

/-- A value on its way through an instance's pipeline, with what taints it (R128). -/
structure Sample where
  v : Int
  taint : Bool
  quest : Bool
  sat : Bool
  deriving DecidableEq, Repr

/-- Where a source of an instance's configuration lies, found once from the tables that brought the configuration (R120): channels of a
stream from an offset on, or the fine or fast output of an instance. -/
inductive FSrc where
  | none
  | chan (stream off n : Nat)
  | inst (i : Nat) (fast : Bool)
  deriving DecidableEq, Repr

/-- A configuration that waits for its switch point: its first epoch, entry, coefficient entry and sources (R61, R147). -/
structure FNext where
  due : Nat
  cfg : Nat
  coef : Nat
  srcA : FSrc
  srcB : FSrc
  deriving DecidableEq, Repr

/-- An output entry in its ring slot, with the whole epoch of its set where there is one (R131, R132). -/
structure FOut where
  slot : Nat
  cycle : Nat
  entry : Nat
  epoch : Option Nat
  deriving DecidableEq, Repr

/-- The running state of one filter instance (R120-R131). -/
structure FInst where
  /-- entry, coefficient entry and sources in force (R147) -/
  cfg : Nat
  coef : Nat
  srcA : FSrc := .none
  srcB : FSrc := .none
  /-- configurations waiting for their switch points, oldest first -/
  next : List FNext := []
  /-- the first epoch under the configuration in force -/
  since : Nat := 0
  gen : Nat := 0
  /-- position to be consumed next, numbered from the TAI epoch at the root stream's rate -/
  pos : Option Nat := none
  /-- RATE and SETS_PER_CYCLE of that numbering -/
  rate : Nat := 1
  sc : Nat := 1
  /-- the last change of the numbering: old and new position, old RATE and SETS_PER_CYCLE (R147) -/
  turn : Option (Nat × Nat × Nat × Nat) := none
  /-- the first cycle consumed where `pos` is still to be formed; none for the first ingest cycle -/
  start : Option Nat := none
  /-- integrators, and the delay line of each comb, newest first -/
  integ : List Int := []
  combs : List (List Int) := []
  /-- positions since the last tainted, questionable and saturated input of each stage -/
  cicAge : Nat × Nat × Nat := (0, 65536, 65536)
  fir : List Int := []
  firAge : Nat × Nat × Nat := (0, 65536, 65536)
  det : List Int := []
  detAge : Nat × Nat × Nat := (0, 65536, 65536)
  last : Int := 0
  settle : Nat := 0
  onB : Bool := false
  /-- 0 automatic, 1 A forced, 2 B forced -/
  forced : Nat := 0
  badA : Nat := 0
  goodA : Nat := 0
  lastSmp : Nat := 0
  lastCycle : Nat := 0
  steps : Nat := 0
  switches : Nat := 0
  /-- output ring, newest first (R131, R132) -/
  out : List FOut := []
  deriving DecidableEq, Repr

/-- A configuration that an element waits for: entry, curves and the instance watched (R147). -/
structure ENext where
  cfg : Nat
  pts : List (Int × Int)
  rpts : List (Int × Int)
  src : Nat
  deriving DecidableEq, Repr

/-- The running state of one backstop element (R138). -/
structure Elem where
  cfg : Nat
  /-- points of its operate and reset curve in force -/
  pts : List (Int × Int) := []
  rpts : List (Int × Int) := []
  /-- the instance watched -/
  src : Nat := 0
  /-- configurations waiting for outputs with a new GEN, oldest first (R147) -/
  next : List ENext := []
  trip : Bool := false
  /-- the trip came or stood under LATCH = 1: it holds until FLT_BKST_RESET (R135, R145) -/
  latched : Bool := false
  started : Bool := false
  on : Nat := 0
  integ : Nat := 0
  frozen : Nat := 0
  /-- outputs without a restart, for definite reset -/
  idle : Nat := 0
  trips : Nat := 0
  tripSmp : Nat := 0
  tripCycle : Nat := 0
  deriving DecidableEq, Repr

/-- The filter engine, the backstop and the DT lines beside their registers. -/
structure FltS where
  /-- instances by index; from 2048 on the model's own, instances that a tip-in has stopped and whose outputs are still read (log
  entry 48) -/
  insts : List (Nat × FInst) := []
  flips : Nat := 0
  elems : List (Nat × Elem) := []
  /-- folio requests for DT lines: folio, line, and the fabric time at which its hold ends (R116) -/
  dtReq : List (Nat × Nat × Option Nat) := []
  /-- end of each running minimum-on timer, by line (R140) -/
  minOn : Store := []
  /-- TAI of the last change of each DT line, and of each element's start and trip (R346) -/
  lineAt : Store := []
  startAt : Store := []
  tripAt : Store := []
  /-- inputs consumed in the present ms, and its number, for FLT_STATUS.LOAD -/
  inputs : Nat := 0
  inputsMs : Nat := 0
  deriving DecidableEq, Repr

/-! ## GOOSE publishers -/

/-- The running state of one publisher (R313-R318). -/
structure Pub where
  /-- stNum; 0 before the first acceptance -/
  stNum : Nat := 0
  /-- sqNum of the last frame sent, and the next to be sent -/
  sqNum : Nat := 0
  nextSq : Nat := 0
  acceptTai : Nat := 0
  /-- the seconds, fraction and quality of the t field, as its 8 octets -/
  t : List Byte := []
  /-- curve position; 15 in heartbeat -/
  step : Nat := 0
  /-- fabric time of the next frame -/
  due : Option Nat := none
  /-- content of allData last accepted -/
  data : List Byte := []
  /-- members of a CTL publisher, by index -/
  members : Store := []
  /-- a tip-in changed the entry: the next frame counts as an acceptance (R318) -/
  changed : Bool := false
  deriving DecidableEq, Repr

/-- The publishers beside their registers. -/
structure PubS where
  /-- publishers that differ from their start, by index, rising -/
  pubs : List (Nat × Pub) := []
  /-- CTL has started executing (R317) -/
  ctlStarted : Bool := false
  deriving DecidableEq, Repr

/-! ## Time base -/

/-- A message that the switch delivered to the time base (R243): bytes, port, TAI and residence counter at its SFD. -/
structure TimMsg where
  bytes : List Byte
  inPort : Nat
  rxTs : Nat
  resid : Nat
  deriving DecidableEq, Repr

/-- A foreign master on a port (R293): its source port identity, its last Announce, and the fabric times of the last two. -/
structure Master where
  ident : Nat
  /-- the 14 octets that the data set comparison ranks, and stepsRemoved -/
  quality : Nat
  steps : Nat
  times : List Nat
  /-- 2^n s, its announce interval, as n + 16 -/
  logInt : Nat
  deriving DecidableEq, Repr

/-- The PTP engine on one port (R293, R294). -/
structure PtpPort where
  /-- sequenceId of the last Pdelay_Req, its egress SFD, and the fabric time of its sending -/
  reqSeq : Nat := 0
  reqT1 : Option Nat := none
  reqAt : Option Nat := none
  /-- an answer awaits its follow-up: t4, the receipt time and the correction so far -/
  respWait : Option (Nat × Nat × Int) := none
  /-- the last measurements of the mean link delay, newest first, at most 8, and exchanges completed -/
  delays : List Int := []
  exchanges : Nat := 0
  masters : List Master := []
  /-- a two-step Sync that awaits its Follow_Up: sequenceId, t2, correctionField, fabric time of its arrival -/
  syncWait : Option (Nat × Nat × Int × Nat) := none
  deriving DecidableEq, Repr

/-- The measurements of one source (R292): first and last second of the unbroken run, and fabric time of the last. -/
structure TimSrc where
  first : Nat
  last : Nat
  at_ : Nat
  deriving DecidableEq, Repr

/-- The time base beside its registers. -/
structure TimS where
  inbox : List TimMsg := []
  ports : List (Nat × PtpPort) := []
  srcs : List (Nat × TimSrc) := []
  /-- a measurement has been used since the last entry to FREERUN (R297) -/
  used : Bool := false
  /-- consecutive measurements at or above STEP_NS, within LOCK_NS, and beyond twice LOCK_NS (R297, R298) -/
  big : Nat := 0
  near : Nat := 0
  far : Nat := 0
  /-- frequency corrections with the fabric time from which each held, newest first (R298) -/
  freqs : List (Nat × Int) := []
  /-- the previous frame of the IRIG-B input, as seconds of UTC (R295) -/
  irig : Option Nat := none
  /-- fabric time of the previous edge of the front and of the backplane PPS input (R295) -/
  ppsFront : Option Nat := none
  ppsBp : Option Nat := none
  /-- fabric time of the entry to HOLDOVER -/
  holdAt : Nat := 0
  /-- the PPS output is high until this fabric time (R300) -/
  ppsOut : Option Nat := none
  /-- the TAI second whose start has been taken; none where the counter stands on a whole second that has not -/
  second : Option Nat := some 0
  /-- the integrator of the servo (R297) -/
  integ : Int := 0
  /-- a host adjustment that waits for its period: OP and value (R299) -/
  adj : Option (Nat × Nat) := none
  /-- the always-on seconds counter in ns, and the time floor in MRAM in s (R291) -/
  aon : Nat := 0
  floor : Nat := 0
  /-- fabric time of the last hourly floor update -/
  floorAt : Nat := 0
  deriving DecidableEq, Repr


/-! ## Folios and the Clasp -/

/-- One cadence cycle of a folio, or one batch of a background folio (R99, R100, R117). -/
structure Cyc where
  cycle : Nat
  /-- state code of CLS_F_STATE: 1 OPEN, 2 SEALED, 3 RELEASED, 4 SQUASHED, 5 LOST, 6 ABANDONED -/
  st : Nat := 1
  run : Nat := 1
  /-- the run is executing on its pair -/
  executing : Bool := false
  /-- the run was SQUASHED when its pair failed (R111) -/
  lostSquashed : Bool := false
  /-- the read set (R101): E_MAX, the streams and the lowest epoch loaded PROVISIONAL -/
  emax : Nat := 0
  streams : List Nat := []
  eminP : Option Nat := none
  /-- staged entries that passed their check, as 512-bit numbers, with the payload area from offset 0x4000 -/
  entries : List Nat := []
  payload : List Byte := []
  /-- the quire contribution in the run's quire slot -/
  quire : List Byte := []
  /-- fabric time of the SEAL (R110) -/
  sealedAt : Nat := 0
  /-- transmit descriptors posted during the run -/
  posted : List Nat := []
  deriving DecidableEq, Repr

/-- The running state of one folio beside its registers. -/
structure Fol where
  /-- the cycles that hold a staging bank, in cycle order; of a background folio its sealed batch (R99) -/
  cycs : List Cyc := []
  /-- a background folio's batch not yet sealed: E_MAX since the previous SEAL, and whether it has begun -/
  openEmax : Nat := 0
  openUsed : Bool := false
  /-- the checkpoint: its bytes, its SRC_CYCLE, and whether there is one (R107, R118) -/
  ckpt : List Byte := []
  ckptCycle : Nat := 0
  ckptValid : Bool := false
  /-- what a quire mapped into the predecessor window of a background folio (R375) -/
  twinPred : List Byte := []
  /-- cycles that became ready and are not yet dispatched, and cycles that have had their readiness event (R161) -/
  ready : List Nat := []
  evented : List Nat := []
  /-- fabric time of the dispatch of the run in progress, and of the start of the present stretch of running -/
  dispatchAt : Nat := 0
  runningSince : Nat := 0
  /-- the turn taken among background folios of equal priority (R162) -/
  turn : Nat := 0
  /-- fabric times of the resets within the last second (R177) -/
  resets : List Nat := []
  /-- a host command that waits for the end of a move: 1 RESET, 2 HALT -/
  deferred : Nat := 0
  /-- receive and transmit descriptors by index (R168, R170) -/
  rx : Store := []
  tx : Store := []
  /-- a RING fault has been raised in this run, for the receive and for the transmit ring (R174) -/
  rxFaulted : Bool := false
  txFaulted : Bool := false
  deriving DecidableEq, Repr

/-- One service ring (R172). -/
structure Svc where
  produced : Nat := 0
  consumed : Nat := 0
  lost : Nat := 0
  /-- slots 1 to 1023 as 512-bit numbers -/
  slots : Store := []
  deriving DecidableEq, Repr

/-- A substitution or a fallback in progress (R179, R181). -/
structure SubJob where
  from_ : Nat
  /-- the spare chosen; none for a fallback -/
  to_ : Option Nat
  folios : Nat
  lost : Nat
  tai : Nat
  at_ : Nat
  cycle : Nat
  deriving DecidableEq, Repr

/-- A planned migration (R184). -/
structure MigJob where
  from_ : Nat
  to_ : Nat
  /-- its cadence boundary has passed: no more dispatch on the pair -/
  stopped : Bool := false
  tai : Nat
  at_ : Nat
  cycle : Nat
  deriving DecidableEq, Repr

/-- FOL and CLS beside their registers. -/
structure FolS where
  fols : List (Nat × Fol) := []
  svc : List (Nat × Svc) := []
  subs : List SubJob := []
  mig : Option MigJob := none
  /-- a RESTORE test in progress: the pair -/
  restoring : Option MigJob := none
  nextTurn : Nat := 1
  /-- RING faults to be raised at the end of the command: folio and buffer address -/
  ringFaults : List (Nat × Nat) := []
  /-- the interrupts raised at kernels in this fabric cycle: pair, folio, and whether it is a dispatch (R163, R165) or a reset
  (R176) -/
  irqs : List (Nat × Nat × Bool) := []
  deriving DecidableEq, Repr


/-! ## Control objects -/

/-- A command on its way to an object (R217). -/
structure CtlCmd where
  /-- the master's SOURCE: 0 folio, 1 Supervisor, 2 chassis manager, 3 logic engine (R215) -/
  src : Nat
  folio : Nat
  obj : Nat
  /-- 1 OPEN, 2 CLOSE, 3 CANCEL -/
  code : Nat
  tag : Nat
  deriving DecidableEq, Repr

/-- The running state of one control object (R214-R228). -/
structure CtlObj where
  /-- 0 IDLE, 1 HELD, 2 EXECUTING, 3 TRAVEL -/
  st : Nat := 0
  cmd : Option CtlCmd := none
  master : Nat := 0
  latchTai : Nat := 0
  /-- fabric times of the latch and of the execution -/
  latchAt : Nat := 0
  execAt : Nat := 0
  /-- the held command has not been presented to a scan yet (R221) -/
  fresh : Bool := false
  fault : Bool := false
  pos : Nat := 0
  posValid : Bool := false
  posTai : Nat := 0
  /-- fabric time of the last position frame, and of the end of its timeAllowedToLive -/
  posAt : Nat := 0
  talEnd : Option Nat := none
  /-- position and validity before the last position frame ("in the fabric cycle of a SNAPSHOT latch") -/
  posWas : Nat := 0
  posWasValid : Bool := false
  /-- operate code of a displaced command whose value is still out, and the fabric time of its execution (R224) -/
  out : Option (Nat × Nat) := none
  lastCode : Nat := 0
  deriving DecidableEq, Repr

/-- An interlock image: the two permit bits of each object, the scan that committed it and the fabric time of the commit
(R230). -/
structure IlImage where
  openMask : Nat
  closeMask : Nat
  scanNo : Nat
  commitAt : Nat
  deriving DecidableEq, Repr

/-- CTL beside its registers. -/
structure CtlS where
  arrivals : List CtlCmd := []
  objs : List (Nat × CtlObj) := []
  /-- frames that left I0 for the position receiver: their bytes and ingress port (R225) -/
  inbox : List (List Byte × Nat) := []
  /-- output image Y last received, as its 2 048 bytes by offset (R222) -/
  y : Store := []
  /-- the image received and not yet applied, and the applied one -/
  ilNext : Option IlImage := none
  il : Option IlImage := none
  /-- fabric time of the last rising edge of IL_CLK -/
  ilEdge : Option Nat := none
  /-- rising edges of IL_CLK since `ilNext` was received (R230) -/
  ilEdges : Nat := 0
  /-- the query lines IL_Q and IL_QPAR (R231) -/
  ilQ : Nat × Bool := (0, false)
  /-- the answer at the last rising edge with a query: IL_PERMIT, IL_VALID and IL_APAR, as the port then stood; none while it was
  high impedance (R231, R232). The port itself is `State.ilPort`. -/
  ilOut : Option (Bool × Bool × Bool) := none
  deriving DecidableEq, Repr


/-! ## Logic engine -/

/-- A scan between its start and its end (R186). -/
structure Scan where
  no : Nat
  /-- fabric time and TAI of its start -/
  at_ : Nat
  startTai : Nat
  delta : Nat
  /-- BUDGET_US and PERIOD_US in force for it (R188) -/
  budget : Nat
  period : Nat
  /-- X as a bit mask, F by instance as unsigned words, G as a bit mask (R191) -/
  x : Nat
  f : Store
  g : Nat
  deriving DecidableEq, Repr

/-- A force command that waits for its SNAPSHOT (R208). -/
structure ForceCmd where
  /-- 1 SET, 2 RELEASE, 3 RELEASE_ALL -/
  op : Nat
  id : Nat
  value : Nat
  deriving DecidableEq, Repr

/-- The logic engine beside its registers. Images hold bytes by offset (R195). -/
structure LgeS where
  committed : Store := []
  quire : Store := []
  /-- fabric time of the last commit, and the image and start that were committed before it (R196) -/
  commitAt : Nat := 0
  prev : Store := []
  prevStart : Option Nat := none
  scan : Option Scan := none
  /-- number of the last scan started (R189) -/
  scanNo : Nat := 0
  /-- fabric time of the start of the last committed scan; none where the next Δ is 0 (R190) -/
  lastStart : Option Nat := none
  /-- earliest start of the next scan (R187) -/
  nextAt : Nat := 0
  /-- X bits FIRST_SCAN, TIPIN_SCAN, OVERRUN_PREV and PROMOTED (R194) -/
  first : Bool := true
  tipin : Bool := false
  overrunPrev : Bool := false
  promoted : Bool := false
  /-- consecutive abandoned scans (R205) -/
  consec : Nat := 0
  halted : Bool := false
  /-- a RESTART waits for the next scan start -/
  restart : Bool := false
  force : Option ForceCmd := none
  /-- flips that wait for the next scan start, oldest first: whether LOGC and CTLO are in it, and whether it is a revert -/
  flips : List (Bool × Bool × Bool) := []
  /-- register values that a staged, and a retired, LOGC or CTLO section carries: 0 PERIOD_US, 1 BUDGET_US, 2 OVERRUN_MAX,
  3 MAX_AGE_US -/
  cfgShadow : List (Nat × Nat) := []
  cfgRetired : List (Nat × Nat) := []
  /-- DIGEST of the LOGC directory entry in force, in the shadow bank and in the retired bank -/
  digest : List Byte := []
  digestShadow : List Byte := []
  digestRetired : List Byte := []
  /-- the identity table that the latest LOGC flip retired, and the object table where it retired one (R212) -/
  idsRetired : Store := []
  objsRetired : Option Store := none
  /-- in SHADOW: cycle of the quire whose image is held, and fabric time of the local boundary that formed it, once it has
  passed (R213) -/
  image : Option Nat := none
  imageAt : Option Nat := none
  /-- the latest cadence boundaries: the cycle that each ended and its fabric time, newest first -/
  bounds : List (Nat × Nat) := []
  /-- the next scan is the first after a promotion (R213) -/
  promotedNext : Bool := false
  deriving DecidableEq, Repr



/-! ## Gatherings -/

/-- One record in a capture area (R341, R352). -/
structure GRec where
  /-- bytes written to the area before it -/
  off : Nat
  /-- its position in the numbering of the reference stream; of a gap record the first missing one -/
  n : Nat
  gap : Bool := false
  bytes : List Byte
  /-- value and validity code of each analogue channel -/
  vals : List (Int × Nat) := []
  /-- ACTIVE, TIME_VALID and the UTC offset when it was captured -/
  act : Bool := false
  tv : Bool := false
  utc : Nat := 0
  deriving DecidableEq, Repr

/-- The configuration of a definition: its entry, its analogue channels and its groups of binary channels, each in ORDER;
the entry 0 stands for no definition. -/
structure GCfg where
  ent : Nat := 0
  chans : List Nat := []
  groups : List Nat := []
  /-- the reference stream with its RATE and SETS_PER_CYCLE, and the source of each analogue channel, as they stand now: a flip
  that gives streams and instances other numbers gives them here too -/
  ref : Nat := 0
  rate : Nat := 0
  sc : Nat := 0
  srcs : List FSrc := []
  deriving DecidableEq, Repr

/-- One gathering definition that the engine runs (R348), which DEF of its entry numbers. Positions are numbered as positions of the reference stream; `bases` gives the
number k from the enable: pairs (k, n), newest first. -/
structure GDef where
  cfg : GCfg := {}
  /-- a configuration that a tip-in brings and that is not yet in force (R360) -/
  next : Option GCfg := none
  /-- state code of GTH_D_STATE -/
  st : Nat := 0
  bases : List (Nat × Nat) := []
  /-- next position -/
  n : Nat := 0
  fill : Nat := 0
  /-- first position after the last gathering, where GUTTER runs -/
  gutter : Nat := 0
  /-- bytes written to the area, and the records that it holds, oldest first -/
  wr : Nat := 0
  recs : List GRec := []
  /-- an open gap: its first position -/
  gap : Option Nat := none
  /-- SEQ of the gathering in capture -/
  cur : Option Nat := none
  /-- positions before which a time step fell -/
  steps : List Nat := []
  deriving DecidableEq, Repr

/-- A gathering from its acceptance until it is drained (R348-R351). -/
structure Gath where
  seq : Nat
  d : Nat
  cfg : GCfg
  rate : Nat
  sqr : Nat
  inKind : Nat
  inIndex : Nat
  skew : Nat
  /-- first position, trigger point and evaluation position -/
  first : Nat
  tp : Nat
  eval : Nat
  srcInst : Nat
  act : Bool
  tv : Bool
  utc : Nat
  tipSeq : Nat
  binding : List Byte
  coincident : Bool := false
  step : Bool := false
  /-- once ended: the positions covered, its records and the end cause -/
  ended : Bool := false
  count : Nat := 0
  cause : Nat := 0
  recs : List GRec := []
  /-- offset of its first record in the area -/
  off : Nat
  deriving DecidableEq, Repr

/-- One trigger sequencer (R343-R345). -/
structure GSeq where
  /-- its number, its 32 states in force and the sources of their numeric inputs, by input number -/
  num : Nat := 0
  rows : Store := []
  srcs : List (Nat × FSrc) := []
  /-- number, states and sources that a tip-in brings (R57, R360) -/
  next : Option (Nat × Store × List (Nat × FSrc)) := none
  st : Nat := 0
  run : Bool := false
  left : Nat := 0
  count : Nat := 0
  force : Bool := false
  reset : Bool := false
  /-- boolean inputs seen at the previous evaluation, by input number -/
  prev : Store := []
  /-- next position to evaluate; none while its timeline is OFF -/
  n : Option Nat := none
  /-- the reference stream, RATE and SETS_PER_CYCLE in whose numbering `n` is -/
  line : Nat × Nat × Nat := (0, 0, 0)
  deriving DecidableEq, Repr

/-- The gathering engine beside its registers. -/
structure GthS where
  /-- the definitions, each at a place of its own: after a load the place is DEF, and one that a tip-in adds takes a free place -/
  defs : List (Nat × GDef) := []
  seqs : List (Nat × GSeq) := []
  /-- gatherings in capture or not fully drained, by rising SEQ -/
  open_ : List Gath := []
  /-- NAND store: SEQ and bytes, oldest first (R353) -/
  stored : List (Nat × List Byte) := []
  /-- index entries without a valid colophon, to be reclaimed by the scan: SEQ, DEF, SEQUENCER and TP_INSTANT (R354) -/
  torn : List (Nat × Nat × Nat × Nat) := []
  /-- a host-ring transfer in progress: whether it is a READ_TO_HOST copy, SEQ and the bytes to go (R351) -/
  host : Option (Bool × Nat × List Byte) := none
  /-- a READ_TO_HOST that waits for a drain: SEQ -/
  copyWaits : Option Nat := none
  /-- the store command in progress has this result when it ends -/
  cmdResult : Option Nat := none
  /-- START_TAI of the image that first carried the present value of a V or Y bit used as an input (R346); V bits from 0,
  Y bits from 16 384 -/
  since : Store := []
  deriving DecidableEq, Repr



/-! ## The Binding loader -/

/-- A slot of the Binding store with its colophon and its journal (R35-R37). -/
structure BndSlot where
  image : List Byte := []
  /-- 64 bytes; empty once erased -/
  colophon : List Byte := []
  /-- journal entries: the container, and whether its colophon is valid -/
  journal : List (List Byte × Bool) := []
  deriving DecidableEq, Repr

/-- A full load in progress (R49). -/
structure LoadJob where
  /-- 0 slot A, 1 slot B, 2 staging window -/
  src : Nat
  /-- it is the attempt from the other slot (R51) -/
  fallback : Bool
  bytes : List Byte := []
  /-- the verifying key was usable when verification began (R54, ORPHANED) -/
  keyOk : Bool := false
  /-- next journal entry -/
  entry : Nat := 0
  deriving DecidableEq, Repr

/-- The tip-in in the engine (R55-R63). -/
structure TipJob where
  bytes : List Byte
  /-- sections in the bit order of BND_EP_POLICY.SECTIONS -/
  mask : Nat
  /-- SHA-256 of the signed message -/
  digest : List Byte
  seq : Nat
  keyOk : Bool
  /-- the target boundary, once armed or reverting (R55, R59) -/
  target : Nat := 0
  /-- the target for which the commit check has passed or failed (R59) -/
  checked : Option (Nat × Bool) := none
  /-- the boundary of its commit (R55) -/
  commit : Nat := 0
  deriving DecidableEq, Repr

/-- A store operation in progress: 1 PROGRAM, 2 ERASE_JOURNAL, 3 journal append (R37, R55). -/
structure StoreJob where
  op : Nat
  slot : Nat
  bytes : List Byte := []
  seq : Nat := 0
  /-- the verifying key could be used when the operation began (R393) -/
  keyOk : Bool := false
  deriving DecidableEq, Repr

/-- BND beside its registers. -/
structure BndS where
  slotA : BndSlot := {}
  slotB : BndSlot := {}
  /-- the anti-rollback floor in MRAM (R52) -/
  floor : Nat := 0
  load : Option LoadJob := none
  /-- a load that waits for DECIDE or for VWARN to be high: its source (R451, R452) -/
  wait : Option Nat := none
  tip : Option TipJob := none
  store : Option StoreJob := none
  /-- running offset of BND_STAGE_WR -/
  stageOff : Nat := 0
  /-- the tip-in confirmed last: its number and bytes 0-7 of its digest (R374) -/
  confirmed : Nat × List Byte := (0, [])
  /-- TIP_SEQ and TIP_DIGEST as they were before the last commit or revert (R374) -/
  before : Nat × List Byte := (0, [])
  deriving DecidableEq, Repr



/-! ## Twin operation -/

/-- The last heartbeat received (R370). -/
structure Beat where
  role : Nat
  flags : Nat
  tipSeq : Nat
  tai : Nat
  binding : List Byte
  quireRef : Nat
  tipState : Nat
  order : Nat
  deferrals : Nat
  target : Nat
  tipDigest : List Byte
  cycle : Nat
  /-- fabric time of its reception -/
  at_ : Nat
  deriving DecidableEq, Repr

/-- A contribution of a quire (R373): KIND, FOLIO, SRC and content. -/
structure QuireEnt where
  kind : Nat
  folio : Nat
  src : Nat
  body : List Byte
  deriving DecidableEq, Repr

/-- A quire on its way out (R371). -/
structure QuireTx where
  n : Nat
  at_ : Nat
  tai : Nat
  restart : Bool
  tipSeq : Nat
  tipDigest : List Byte
  ents : List QuireEnt
  deriving DecidableEq, Repr

/-- TWN beside its registers. -/
structure TwnS where
  /-- own line driven (R365), and the end of its FORCING pattern -/
  drive : Bool := false
  forceEnd : Nat := 0
  /-- pattern recognised on the peer's line: 0 RELEASED, 1 HOLDING, 2 FORCING -/
  peerLine : Nat := 0
  /-- fabric time of the last recognised pattern of the peer's line -/
  lineAt : Option Nat := none
  peer : Option Beat := none
  /-- the peer has been declared failed and has given no sign since -/
  peerDown : Bool := false
  /-- fabric time of the entry to INIT -/
  initAt : Nat := 0
  /-- the claim in progress was made in INIT -/
  initClaim : Bool := false
  /-- a peer FORCING has been recognised since the claim (R377) -/
  forceSeen : Bool := false
  readbackBad : Bool := false
  /-- fabric time of the last grant or renewal of the lease (R366) -/
  leaseAt : Option Nat := none
  declAt : Nat := 0
  /-- quires accepted in sequence (R364) -/
  accepted : Nat := 0
  tx : Option QuireTx := none
  /-- frames of the last quire sent, and the last heartbeat sent, as they left (R369) -/
  quireOut : List (List Byte) := []
  hbOut : List Byte := []
  hbAt : Option Nat := none
  /-- SEQ of the next frame -/
  txSeq : Nat := 0
  /-- RELINQUISH: 1 waits for a boundary, 2 waits for the quire formed there (R382) -/
  relinquish : Nat := 0
  /-- the next quire is the first after a cadence restart -/
  restart : Bool := false
  /-- TIP_ORDER and TIP_TARGET that the active module sends (R383) -/
  order : Nat × Nat := (0, 0)
  deriving DecidableEq, Repr



/-! ## Lifecycle, debug and tamper -/

/-- A token check in progress (R436). -/
structure TokJob where
  /-- the token buffer up to LCS_TOKEN_LEN when GO was written -/
  bytes : List Byte
  /-- the token's challenge equals the live challenge (step 3) -/
  challengeOk : Bool
  deriving DecidableEq, Repr

/-- A debug session in force (R431, R433). -/
structure DbgSession where
  issuer : Nat
  counter : Nat
  mask : Nat
  secs : Nat
  /-- fabric time at which SESSION_S has elapsed -/
  ends : Nat
  deriving DecidableEq, Repr

/-- LCS beside its registers. -/
structure LcsS where
  /-- LCS_TOKEN_WR buffer and offset (R435) -/
  tokBuf : List Byte := []
  tokOff : Nat := 0
  job : Option TokJob := none
  /-- a transition record being burnt: target, issuer and counter of its token (R421) -/
  burn : Option (Nat × Nat × Nat) := none
  /-- fabric time at which the live challenge was drawn (R436) -/
  drawnAt : Nat := 0
  session : Option DbgSession := none
  /-- the always-on tamper log: entries 0-15 as 128-bit numbers (R442) -/
  log : List Nat := []
  /-- fabric time at which TAMPER_HOLD_MS ends, while it runs (R441) -/
  holdEnd : Option Nat := none
  /-- a release written before the hold ends (R441) -/
  releaseAsked : Bool := false
  deriving DecidableEq, Repr


/-! ## Housekeeping -/

/-- A host conversion that is pending or converting (R470). -/
structure HkaConv where
  channel : Nat
  urgent : Bool
  /-- fabric time and TAI of GO, and the fabric time at which its conversion starts -/
  goAt : Nat
  goTai : Nat
  start : Nat
  deriving DecidableEq, Repr

/-- A tracked address of corrected errors (R474): the monitor, target, instance or device, word address, and the errors at it
in the current window. -/
structure EccAddr where
  mon : Nat
  target : Nat
  inst : Nat
  addr : Nat
  count : Nat
  deriving DecidableEq, Repr

/-- A proposal as R477 names it, before it has an entry. -/
structure HkaProp where
  mon : Nat
  action : Nat
  subject : Nat
  detail : Nat
  addr : Nat
  /-- the level reached -/
  level : Nat
  deriving DecidableEq, Repr

/-- HKA beside its registers. -/
structure HkaS where
  /-- monitor entries without their KIND, by number (R475) -/
  mon : Store := []
  /-- proposal entries, by number (R477) -/
  prop : Store := []
  conv : Option HkaConv := none
  /-- the last sweep burst: fabric times of its start and of the end of its last conversion (R470) -/
  burst : Option (Nat × Nat) := none
  /-- fabric times of the last ageing measurement, accrual and commit of thermal life, and of the last end of an ECC window
  (R472-R474) -/
  agedAt : Option Nat := none
  accruedAt : Option Nat := none
  committedAt : Option Nat := none
  windowAt : Nat := 0
  /-- temperature channels at or above their warning level -/
  hot : List Nat := []
  /-- the last reading of channel 13, in 0.1 °C (R473) -/
  board : Option Int := none
  /-- thermal life in units of 2^-32 equivalent minutes, and the total committed to MRAM (R473) -/
  life : Nat := 0
  lifeMram : Nat := 0
  /-- tracked addresses, newest first, at most 16 a monitor -/
  addrs : List EccAddr := []
  /-- corrected errors in the window: rank's monitor, device, count -/
  devs : List (Nat × Nat × Nat) := []
  /-- proposals that wait for a free entry, oldest first -/
  waiting : List HkaProp := []
  /-- dismissed proposals, with the fabric time of the dismissal -/
  dismissed : List (HkaProp × Nat) := []
  /-- a SPARE_DEVICE rebuild: rank and device (R478) -/
  rebuild : Option (Nat × Nat) := none
  /-- the mapping in MRAM: rank and the device that its spare replaces -/
  map : List (Nat × Nat) := []
  /-- pending repairs in MRAM: target, instance and word address -/
  queued : List (Nat × Nat × Nat) := []
  deriving DecidableEq, Repr


/-! ## Start-up, power and supply -/

/-- SYS and BST beside their registers. -/
structure SysS where
  /-- fabric time of the watchdog's expiry, while it runs (R450) -/
  wdogEnd : Option Nat := none
  /-- how far start-up is (R451): 0 in reset or before RAILS, 1 MBIST, 2 LBIST, 3 waiting for DECIDE, 4 past DECIDE -/
  boot : Nat := 0
  /-- DDR training has completed -/
  ddr : Bool := false
  /-- fabric time at which self-test began -/
  testAt : Nat := 0
  /-- every finding of the run, as entries of R458, oldest first -/
  findings : List Nat := []
  /-- the repair log in MRAM: the finding that each repair answered (R457) -/
  repairs : List Nat := []
  /-- a test on demand: TARGET, INSTANCE, fabric time of its start (R461) -/
  test : Option (Nat × Nat × Nat) := none
  /-- entry to STANDBY or OFF under way: the state commanded, and the fabric time at which the drain ends (R425) -/
  down : Option (Nat × Nat) := none
  /-- SEQ of the gathering that the NAND channel was writing when that entry began (R425) -/
  writing : Option Nat := none
  /-- until when the main rails stay off after VRESET (R466) -/
  railsOff : Option Nat := none
  /-- an accepted HOST or WATCHDOG reset that drains: its kind, and the fabric time at which it takes effect at the latest
  (R449) -/
  drain : Option (Nat × Nat) := none
  /-- since VWARN fell: its fabric time and the lowest VIN in mV (R464) -/
  dip : Option (Nat × Nat) := none
  /-- noted by the always-on domain at VRESET, for the record of the next start: power state, VIN, µs since VWARN fell and
  lowest VIN (R466) -/
  vreset : Option (Nat × Nat × Nat × Nat) := none
  /-- the bytes that the module returned to the last READ of the management bus (R487) -/
  mbReply : List Byte := []
  /-- a management-bus write went wrong since the last READ response (R489) -/
  mbWriteErr : Bool := false
  /-- the supply interrupt at the kernels has been raised (R464) -/
  supplyIrq : Bool := false
  deriving DecidableEq, Repr

/-- Start-up has passed DECIDE (R451). -/
def SysS.decided (y : SysS) : Bool := decide (3 < y.boot)

/-! ## The whole state -/

/-- A memory: the bytes listed by address, addresses strictly rising. -/
abbrev Memory := List Host.Cell

/-- The state of the module. -/
structure State where
  /-- fabric time in ns, one fabric cycle a ns ("Cycles and time", R290) -/
  now : Nat := 0
  /-- TAI counter in ns, as of the last period of the time-base clock (R288) -/
  tai : Nat := 0
  /-- fraction of both counters below a ns, in units of 2^-32 ns (R288) -/
  taiFrac : Nat := 0
  /-- residence counter in ns, as of the last period: the disciplined clock, never stepped (R289) -/
  resid : Nat := 0
  /-- the register fields whose value differs from their reset value -/
  regs : Store := []
  /-- the tables of R45 -/
  tables : List Table := []
  /-- DRAM bytes that have been written since the last reset -/
  dram : Memory := []
  /-- the model's own: resets so far, since DRAM is undefined after each (R447, log entry 5) -/
  dramGen : Nat := 0
  /-- low-word latches, one a requester: the offset of the high word and its value (R10, R484) -/
  latches : List (Agent × Nat × Nat) := []
  /-- management-bus accesses that wait for the following fabric cycle, since the Supervisor accesses the same register in this one
  (R4) -/
  mbLater : List Instr := []
  /-- W1C bits set in this fabric cycle: the field's key and a mask of its bits (R14) -/
  setNow : Store := []
  /-- the model's own: the data that the last read returned to its requester (log entry 16) -/
  lastRead : Nat := 0
  /-- the model's own: how many free values have been taken (log entry 4) -/
  freeCount : Nat := 0
  evr : EvrS := {}
  key : KeyS := {}
  swc : SwcS := {}
  mac : MacS := {}
  tsq : TsqS := {}
  tim : TimS := {}
  pub : PubS := {}
  fol : FolS := {}
  ctl : CtlS := {}
  lge : LgeS := {}
  sys : SysS := {}
  lcs : LcsS := {}
  hka : HkaS := {}
  gth : GthS := {}
  bnd : BndS := {}
  twn : TwnS := {}
  svi : SviS := {}
  flt : FltS := {}
  /-- commands that wait, first in, first out -/
  pending : List Instr := []
  deriving DecidableEq, Repr

/-- Replace the event recorder's state. -/
def State.onEvr (s : State) (f : EvrS → EvrS) : State := { s with evr := f s.evr }

/-- Replace the key store's state. -/
def State.onKey (s : State) (f : KeyS → KeyS) : State := { s with key := f s.key }

/-- Replace the switch's state. -/
def State.onSwc (s : State) (f : SwcS → SwcS) : State := { s with swc := f s.swc }

/-- Replace the MACs' state. -/
def State.onMac (s : State) (f : MacS → MacS) : State := { s with mac := f s.mac }

/-- Replace the transmit-timestamp queues. -/
def State.onTsq (s : State) (f : TsqS → TsqS) : State := { s with tsq := f s.tsq }

/-- Replace the time base's state. -/
def State.onTim (s : State) (f : TimS → TimS) : State := { s with tim := f s.tim }

/-- Replace the ingest engine's state. -/
def State.onSvi (s : State) (f : SviS → SviS) : State := { s with svi := f s.svi }

/-- Replace the filter engine's state. -/
def State.onFlt (s : State) (f : FltS → FltS) : State := { s with flt := f s.flt }

/-- Replace the publishers' state. -/
def State.onPub (s : State) (f : PubS → PubS) : State := { s with pub := f s.pub }

/-- Replace the state of FOL and CLS. -/
def State.onFol (s : State) (f : FolS → FolS) : State := { s with fol := f s.fol }

/-- Replace CTL's state. -/
def State.onCtl (s : State) (f : CtlS → CtlS) : State := { s with ctl := f s.ctl }

/-- Replace the state of SYS and BST. -/
def State.onSys (s : State) (f : SysS → SysS) : State := { s with sys := f s.sys }

/-- Replace the housekeeping state. -/
def State.onHka (s : State) (f : HkaS → HkaS) : State := { s with hka := f s.hka }

/-- Replace the state of LCS. -/
def State.onLcs (s : State) (f : LcsS → LcsS) : State := { s with lcs := f s.lcs }

/-- Replace the gathering engine's state. -/
def State.onGth (s : State) (f : GthS → GthS) : State := { s with gth := f s.gth }

/-- Replace the loader's state. -/
def State.onBnd (s : State) (f : BndS → BndS) : State := { s with bnd := f s.bnd }

/-- Replace TWN's state. -/
def State.onTwn (s : State) (f : TwnS → TwnS) : State := { s with twn := f s.twn }

/-- Replace the logic engine's state. -/
def State.onLge (s : State) (f : LgeS → LgeS) : State := { s with lge := f s.lge }

/-- The tables that the module holds as data (R45): the tables a Binding fills. -/
def tableIds : List Nat :=
  [0x201, 0x202, 0x203, 0x501, 0x502, 0x503, 0x504, 0x701, 0x702, 0x901, 0x902, 0xA01, 0xA02, 0xA03, 0xA04, 0xE01, 0xE02,
   0xF01, 0x1001, 0x1002, 0x1201, 0x1601, 0x1602]

/-- The kind of port `p`: 0 P, 1 S, 2 B, 3 internal, 4 A (R268). -/
def macKind (p : Nat) : Nat := if p < 12 then 0 else if p < 16 then 1 else if p < 18 then 2 else if p = 18 then 3 else 4

/-- The reset speed of port `p` (R268). Port I0 has none. -/
def macResetSpeed (p : Nat) : Nat := if p < 16 then 2 else if p < 18 then 3 else if p = 19 then 4 else 0

/-- The factory value of SYS_CLK_BOOT (R430): FABRIC, DDR, every pair, SWITCH, INGEST, KEYHASH, MGMT, TIMEBASE, BACKPLANE, PORTA and
every lane unit, but not CORUSK (19); units 22 to 31 do not exist (R428). -/
def bootUnits : Nat := 0xFFFF0037FFFF

/-- The register fields whose value right after a power-on reset is not the value of the register tables, field, instance
and value: the reset speed and identity of each MAC (R268), and the contents that the spec leaves to the factory, the slot
or non-volatile storage (log entry 6). -/
def resetFields : List (Fld × Nat × Nat) :=
  (List.range 20).map (fun p => (Reg.MAC_P_ID_PORT, p, p)) ++
  (List.range 20).map (fun p => (Reg.MAC_P_ID_KIND, p, macKind p)) ++
  (List.range 20).map (fun p => (Reg.MAC_P_ID_PREEMPT, p, b2n (decide (p < 18)))) ++
  (List.range 20).map (fun p => (Reg.MAC_P_ID_PAUSE, p, b2n (decide (12 ≤ p ∧ p < 16)))) ++
  (List.range 20).map (fun p => (Reg.MAC_P_ID_TS_HW, p, b2n (decide (p < 18)))) ++
  (List.range 20).map (fun p => (Reg.MAC_P_ID_CSMACD, p, b2n (decide (p = 19)))) ++
  (List.range 20).map (fun p => (Reg.MAC_P_CFG_SPEED, p, macResetSpeed p)) ++
  [(Reg.SYS_MB_ADDR, 0, 0x40), (Reg.SYS_PWR_AON_PWR_EN, 0, 1), (Reg.SYS_CLK_REQ, 0, bootUnits), (Reg.SYS_CLK_RUN, 0, bootUnits),
   (Reg.SYS_CLK_BOOT, 0, bootUnits), (Reg.SYS_RST_STATUS_LAST_KIND, 0, 1), (Reg.SYS_SUPPLY_STATUS_VSTBY_OK, 0, 1),
   (Reg.EVR_BASE, 0, 1), (Reg.EVR_NEXT, 0, 1), (Reg.GTH_NEXT_SEQ, 0, 1), (Reg.GTH_STORE_FREE_FREE_MIB, 0, 131072),
   (Reg.LCS_STATUS_LIFECYCLE, 0, 2), (Reg.LCS_STATUS_TRANSITIONS_LEFT, 0, 63), (Reg.HKA_SPARES_DRAM_SPARE, 0, 15)]

/-- The module right after a power-on reset (R446). -/
def State.reset : State :=
  { tables := tableIds.map (fun i => { id := i }),
    regs := resetFields.foldl (fun r x => r.put (x.1.key x.2.1 0) x.1.rst (x.2.2 % 2 ^ x.1.w)) [] }

end Sys2Proof.Machine
end

