-- ==== Sys2Proof/Machine/Ops.lean ====
section
/-! DEFINITION. The named operations that every block uses: register fields, tables, DRAM, free values, time, roles and
the low-word latch. -/

namespace Sys2Proof.Machine

open Sys2Proof

/-! ## Register fields (R10-R17) -/

/-- The value of a field, in instance `i` and register `k` of a run (R13). -/
def State.rdK (s : State) (f : Fld) (i k : Nat) : Nat := s.regs.get (f.key i k) f.rst

/-- The value of a field in instance `i`. -/
def State.rdI (s : State) (f : Fld) (i : Nat) : Nat := s.rdK f i 0

/-- The value of a field that exists once. -/
def State.rd (s : State) (f : Fld) : Nat := s.rdK f 0 0

/-- Whether a one-bit field is 1. -/
def State.on (s : State) (f : Fld) : Bool := decide (s.rd f = 1)

/-- Whether a one-bit field of instance `i` is 1. -/
def State.onI (s : State) (f : Fld) (i : Nat) : Bool := decide (s.rdI f i = 1)

/-- Set a field, in instance `i` and register `k` of a run, to the low bits of a value. -/
def State.wrK (s : State) (f : Fld) (i k v : Nat) : State :=
  { s with regs := s.regs.put (f.key i k) f.rst (v % 2 ^ f.w) }

/-- Set a field of instance `i`. -/
def State.wrI (s : State) (f : Fld) (i v : Nat) : State := s.wrK f i 0 v

/-- Set a field that exists once. -/
def State.wr (s : State) (f : Fld) (v : Nat) : State := s.wrK f 0 0 v

/-- Set a one-bit field from a Bool. -/
def State.wrB (s : State) (f : Fld) (b : Bool) : State := s.wr f (b2n b)

/-- Set a one-bit field of instance `i` from a Bool. -/
def State.wrBI (s : State) (f : Fld) (i : Nat) (b : Bool) : State := s.wrI f i (b2n b)

/-- Set a field to a value clamped at the field's largest value ("saturating"). -/
def State.wrSat (s : State) (f : Fld) (v : Nat) : State := s.wr f (satNat f.w v)

/-- Set a field of instance `i` to a clamped value. -/
def State.wrSatI (s : State) (f : Fld) (i v : Nat) : State := s.wrI f i (satNat f.w v)

/-- Count one in a saturating counter. -/
def State.bump (s : State) (f : Fld) : State := s.wrSat f (s.rd f + 1)

/-- Count one in a saturating counter of instance `i`. -/
def State.bumpI (s : State) (f : Fld) (i : Nat) : State := s.wrSatI f i (s.rdI f i + 1)

/-- Count `n` in a saturating counter. -/
def State.bumpBy (s : State) (f : Fld) (n : Nat) : State := s.wrSat f (s.rd f + n)

/-- Count `n` in a saturating counter of instance `i`. -/
def State.bumpByI (s : State) (f : Fld) (i n : Nat) : State := s.wrSatI f i (s.rdI f i + n)

/-- Note the W1C bits `m` of a field as set in this fabric cycle (R14). -/
def State.noteSet (s : State) (key m : Nat) : State := { s with setNow := s.setNow.put key 0 (s.setNow.get key 0 ||| m) }

/-- Count where a condition holds. -/
def State.bumpIf (s : State) (c : Bool) (f : Fld) : State := if c then s.bump f else s

/-- Set a sticky bit (a trouble bit or a DONE bit). -/
def State.flag (s : State) (f : Fld) : State := (s.wr f 1).noteSet (f.key 0 0) 1

/-- Set a sticky bit of instance `i`. -/
def State.flagI (s : State) (f : Fld) (i : Nat) : State := (s.wrI f i 1).noteSet (f.key i 0) 1

/-- Set a sticky bit if a condition holds. -/
def State.flagIf (s : State) (c : Bool) (f : Fld) : State := if c then s.flag f else s

/-- Return a field to its reset value. -/
def State.clr (s : State) (f : Fld) : State := s.wr f f.rst

/-- Clear every field in a list, in instance `i`. -/
def State.clrAllI (s : State) (fs : List Fld) (i : Nat) : State := fs.foldl (fun s f => s.wrI f i f.rst) s

/-- Clear every field in a list. -/
def State.clrAll (s : State) (fs : List Fld) : State := s.clrAllI fs 0

/-- The value of a field with 0 standing for a default ("0 acts as"). -/
def State.rdOr (s : State) (f : Fld) (d : Nat) : Nat := if s.rd f = 0 then d else s.rd f

/-- Bit `b` of a field set or cleared. -/
def State.wrBit (s : State) (f : Fld) (i b : Nat) (v : Bool) : State :=
  s.wrI f i (setBits (s.rdI f i) b 1 (b2n v))

/-! ## Command and status registers (R485) -/

/-- An operation begins: BUSY sets. -/
def State.begin (s : State) (busy : Fld) : State := s.wr busy 1

/-- An operation ends: BUSY clears and DONE sets with RESULT valid (R485). -/
def State.finish (s : State) (busy done result : Fld) (r : Nat) : State :=
  ((s.wr busy 0).wr result r).flag done

/-- A GO that is refused while no operation is in progress, or recorded with result BUSY: DONE sets with RESULT, and BUSY
keeps its value (R485). -/
def State.answer (s : State) (done result : Fld) (r : Nat) : State := (s.wr result r).flag done

/-! ## Tables -/

/-- The table with an identifier; an identifier with no table reads as empty. -/
def State.tab (s : State) (id : Nat) : Table := (s.tables.find? (fun t => t.id == id)).getD { id := id }

/-- Replace the table with an identifier. -/
def State.onTab (s : State) (id : Nat) (f : Table → Table) : State :=
  { s with tables := s.tables.map (fun t => if t.id = id then f t else t) }

/-- Entry `i` of the running bank of a table. -/
def State.ent (s : State) (id i : Nat) : Nat := (s.tab id).active.get i 0

/-- Entry `i` of the shadow bank of a table. -/
def State.shadowEnt (s : State) (id i : Nat) : Nat := (s.tab id).shadow.get i 0

/-- Write entry `i` of the running bank of a table. -/
def State.putEnt (s : State) (id i v : Nat) : State :=
  s.onTab id (fun t => { t with active := t.active.put i 0 v })

/-- Swap banks at a commit: the shadow bank runs, the running bank is retired (R57, R60). -/
def State.flipTab (s : State) (id : Nat) : State :=
  s.onTab id (fun t => { t with active := t.shadow, shadow := [], retired := t.active })

/-- Swap banks at a revert: the retired bank runs again. -/
def State.revertTab (s : State) (id : Nat) : State :=
  s.onTab id (fun t => { t with active := t.retired, shadow := [], retired := [] })

/-- The entries in use of a bank of a tip-in-capable table: those whose stable identity is not 0 (R44). -/
def usedOf (m : Store) : Store := m.filter (fun e => decide (e.2 % 2 ^ 32 ≠ 0))

/-- The entries in use of the running bank of a tip-in-capable table (R44). -/
def State.used (s : State) (id : Nat) : Store := usedOf (s.tab id).active

/-- Entry `i` of the running bank of a tip-in-capable table, 0 where it is unused (R44). -/
def State.useEnt (s : State) (id i : Nat) : Nat := if s.ent id i % 2 ^ 32 = 0 then 0 else s.ent id i

/-- The stable identities of a bank are unique (R44). -/
def idsUnique (m : Store) : Bool := decide (((usedOf m).map (fun e => e.2 % 2 ^ 32)).Nodup)

/-- The listed entries of a bank whose stable identity (bits 31:0) is `sid`: the index and the entry. -/
def findStable (m : Store) (sid : Nat) : Option (Nat × Nat) :=
  if sid = 0 then none else m.find? (fun e => e.2 % 2 ^ 32 == sid)

/-! ## DRAM -/

/-- The byte listed at an address, if any. -/
def Memory.read? : Memory → Nat → Option Byte
  | [], _ => none
  | (k, b) :: m, a => if k = a then some b else if a < k then none else Memory.read? m a

/-- List a byte at an address, keeping the addresses strictly rising. -/
def Memory.write : Memory → Nat → Byte → Memory
  | [], a, b => [(a, b)]
  | (k, c) :: m, a, b =>
    if k = a then (a, b) :: m else if a < k then (a, b) :: (k, c) :: m else (k, c) :: Memory.write m a b

/-- List bytes at rising addresses from `a`. -/
def Memory.writeAll : Memory → Nat → List Byte → Memory
  | m, _, [] => m
  | m, a, b :: bs => Memory.writeAll (m.write a b) (a + 1) bs

/-- The addresses of a memory strictly rise from `lo` on. -/
def Memory.risingFrom : Nat → Memory → Bool
  | _, [] => true
  | lo, (k, _) :: m => decide (lo ≤ k) && Memory.risingFrom (k + 1) m

/-- The canonical form of a memory: its addresses strictly rise. What an unlisted address reads as is a free value without a
body (log entry 5), so no listed byte can be equal to it by choice. -/
def Memory.wf (m : Memory) : Bool := m.risingFrom 0

/-- A byte of DRAM; a byte that nothing has written reads a free value (log entry 5). -/
def State.dramByte (s : State) (a : Nat) : Byte := (s.dram.read? a).getD (Config.dramByte s.dramGen a)

/-- `n` bytes of DRAM from address `a`. -/
def State.dramBytes (s : State) (a n : Nat) : List Byte := (List.range n).map (fun i => s.dramByte (a + i))

/-- Write bytes to DRAM from address `a`. -/
def State.dramWrite (s : State) (a : Nat) (bs : List Byte) : State :=
  { s with dram := s.dram.writeAll a bs }

/-- Write a number as `n` little-endian bytes of DRAM. -/
def State.dramPut (s : State) (a n v : Nat) : State := s.dramWrite a (leBytes n v)

/-- A little-endian number of `n` bytes in DRAM. -/
def State.dramGet (s : State) (a n : Nat) : Nat := leNat (s.dramBytes a n)

/-- The DRAM address of `n` bytes at a folio physical address, where one enabled window of the folio grants the access
(R154, R158): `w` asks for write permission. A KERNEL window is not part of it. -/
def State.window (s : State) (folio a n : Nat) (w : Bool) : Option Nat :=
  ((s.tab 0x702).active.find? (fun e =>
    Ent.WIN_ENABLE.on e.2 && decide (Ent.WIN_FOLIO.of e.2 = folio) && !(Ent.WIN_KERNEL.on e.2) &&
    decide (Ent.WIN_GUEST_BASE.of e.2 * 2 ^ 21 ≤ a) &&
    decide (a + n ≤ (Ent.WIN_GUEST_BASE.of e.2 + Ent.WIN_SIZE.of e.2) * 2 ^ 21) &&
    (!w || decide (Ent.WIN_ACCESS.of e.2 % 2 = 1)))).map (fun e =>
      Ent.WIN_DRAM_BASE.of e.2 * 2 ^ 21 + (a - Ent.WIN_GUEST_BASE.of e.2 * 2 ^ 21))

/-- The DRAM address of `n` bytes at a physical address in M-mode or HS-mode, where a KERNEL window holds them and grants the
access (R156, R158): `w` asks for write permission. -/
def State.kernelWindow (s : State) (a n : Nat) (w : Bool) : Option Nat :=
  ((s.tab 0x702).active.find? (fun e =>
    Ent.WIN_ENABLE.on e.2 && Ent.WIN_KERNEL.on e.2 &&
    decide (Ent.WIN_GUEST_BASE.of e.2 * 2 ^ 21 ≤ a) &&
    decide (a + n ≤ (Ent.WIN_GUEST_BASE.of e.2 + Ent.WIN_SIZE.of e.2) * 2 ^ 21) &&
    (!w || decide (Ent.WIN_ACCESS.of e.2 % 2 = 1)))).map (fun e =>
      Ent.WIN_DRAM_BASE.of e.2 * 2 ^ 21 + (a - Ent.WIN_GUEST_BASE.of e.2 * 2 ^ 21))

/-- Whether a window of the folio grants the fetch of `n` bytes (R154, R158). -/
def State.windowExec (s : State) (folio a n : Nat) : Bool :=
  (s.tab 0x702).active.any (fun e =>
    Ent.WIN_ENABLE.on e.2 && decide (Ent.WIN_FOLIO.of e.2 = folio) && !(Ent.WIN_KERNEL.on e.2) &&
    decide (Ent.WIN_GUEST_BASE.of e.2 * 2 ^ 21 ≤ a) &&
    decide (a + n ≤ (Ent.WIN_GUEST_BASE.of e.2 + Ent.WIN_SIZE.of e.2) * 2 ^ 21) && decide (2 ≤ Ent.WIN_ACCESS.of e.2))

/-! ## Free values, time and roles -/

/-- Take the next free value (log entry 4). -/
def State.fresh (s : State) : Nat × State :=
  (Config.freeValue s.freeCount, { s with freeCount := s.freeCount + 1 })

/-- A timestamp of the TAI counter in ns, interpolated within the period of the time-base clock (R288). -/
def State.taiNs (s : State) : Nat := (s.tai + s.now % 4) % 2 ^ 64

/-- A timestamp of the residence counter (R289, R303). -/
def State.residNs (s : State) : Nat := s.resid + s.now % 4

/-- The role code (R362). -/
def State.role (s : State) : Nat := s.rd Reg.TWN_STATUS_ROLE

/-- The twin role is reported ACTIVE: SOLO or ACTIVE (R362). -/
def State.isActive (s : State) : Bool := decide (s.role = 1) || decide (s.role = 3)

/-- The twin role is reported PROMOTING (R362). -/
def State.isPromoting (s : State) : Bool := decide (s.role = 4)

/-- The power state: 0 OFF, 1 STANDBY, 2 QUIET, 3 RUN. -/
def State.power (s : State) : Nat := s.rd Reg.SYS_PWR_STATUS_STATE

/-- A Binding has reached READY. -/
def State.loaded (s : State) : Bool := s.on Reg.BND_STATUS_LOADED

/-- Length of a cadence cycle in fabric ns: K sample periods of the station rate (R25); 0 with no Binding. -/
def State.cycleNs (s : State) : Nat :=
  if s.rd Reg.TIM_CADENCE_CFG_FS = 0 then 0
  else s.rd Reg.TIM_CADENCE_CFG_K * 1000000000 / s.rd Reg.TIM_CADENCE_CFG_FS

/-- The emission gates are open: always in SOLO, else while a lease is held (R366). -/
def State.gateOpen (s : State) : Bool :=
  decide (s.role = 1) || (match s.twn.leaseAt with
    | some t => decide (s.now < t + s.cycleNs + 50000)
    | none => false)

/-- Released outputs leave the module: ACTIVE reported, power state RUN and the gates open (CLS_STATUS.EMIT, R366, R424). -/
def State.emits (s : State) : Bool := s.isActive && decide (s.power = 3) && s.gateOpen

/-- How a tip-in treats an entry of a bank by its stable identity (R57): `none` where neither bank holds it. -/
inductive Carry where
  | same | changed | new | removed
  deriving DecidableEq, Repr

/-- The class of stable identity `sid` between two banks, where `eq` says whether two entries are alike (R57). -/
def carryOf (old new : Store) (sid : Nat) (eq : Nat → Nat → Bool) : Option Carry :=
  match findStable old sid, findStable new sid with
  | some (_, a), some (_, b) => some (if eq a b then .same else .changed)
  | none, some _ => some .new
  | some _, none => some .removed
  | none, none => none

/-- Whether a clock unit runs (R428); a block whose unit is gated does nothing (R429). -/
def State.clk (s : State) (u : Nat) : Bool := bitAt (s.rd Reg.SYS_CLK_RUN) u

/-- The cadence cycle in progress (R309). -/
def State.cycle (s : State) : Nat := s.rd Reg.TIM_CADENCE

/-- A deadline that is set has been reached. -/
def State.due (s : State) (t : Option Nat) : Bool :=
  match t with
  | some d => decide (d ≤ s.now)
  | none => false

/-! ## Agents -/

/-- The two commanding agents (R2): the Supervisor and the chassis manager. -/
def isHost : Agent → Bool
  | .folio n => decide (n.val = 0)
  | .mgmt => true
  | _ => false

/-- The Supervisor alone. -/
def isSup : Agent → Bool
  | .folio n => decide (n.val = 0)
  | _ => false

/-- The value that the low-word latch of a requester holds for the high word at offset `o`, if any (R10, R484). -/
def State.latched (s : State) (who : Agent) (o : Nat) : Option Nat :=
  (s.latches.find? (fun l => decide (l.1 = who) && l.2.1 == o)).map (fun l => l.2.2)

/-- Latch a high word for a requester; each requester has one latch (R484). -/
def State.latch (s : State) (who : Agent) (o v : Nat) : State :=
  { s with latches := (who, o, v) :: s.latches.filter (fun l => !decide (l.1 = who)) }

end Sys2Proof.Machine
end

