-- ==== Sys2Proof/Machine/Access.lean ====
section
/-! DEFINITION. Which register each command accesses, and for whom: what the order of R4 between the two commanding agents needs. -/

namespace Sys2Proof.Machine

open Sys2Proof Reg

/-- The offset of the register that holds a block's CLEAR_COUNTERS and CLEAR_PEAKS; `i` is the MAC instance. -/
def ctrlOffset (b : Block) (i : Nat) : Nat :=
  match b with
  | .sys => 0x4 | .bnd => 0x10004 | .svi => 0x20004 | .cls => 0x40004 | .flt => 0x50004 | .fol => 0x70004 | .lge => 0x90004
  | .swc => 0xA0004 | .mac => 0xC000C + 0x1000 * i | .tim => 0xE0004 | .evr => 0xF0004 | .gth => 0x100004 | .twn => 0x110004
  | .key => 0x120004 | .lcs => 0x130004 | .bst => 0x140004 | .hka => 0x150004 | .ctl => 0x160004

/-- The offset of the register that holds a block's table READ bit (R485); 0 for a block without a table window. -/
def tableCtrl (b : Block) : Nat :=
  match b with
  | .svi => 0x20090 | .flt => 0x50060 | .fol => 0x70040 | .lge => 0x90060 | .swc => 0xA0090 | .tim => 0xE00C0 | .evr => 0xF0040
  | .gth => 0x1000D0 | .key => 0x1200C0 | .hka => 0x150080 | .ctl => 0x160080
  | _ => 0

end Sys2Proof.Machine

namespace Sys2Proof

open Sys2Proof.Machine

/-- The register that a command accesses on behalf of an agent; none for an event, and for the frames of the management bus, whose
offset lies in the frame. -/
def Instr.access (c : Instr) : Option (Agent × Nat) :=
  match c with
  | .registerWrite who off _ _ => some (who, off.toNat)
  | .lowWordRead who off => some (who, off.toNat)
  | .hkaDataRead who => some (who, 0x150018)
  | .keyOpRead who => some (who, 0x120054)
  | .tableRead who block _ _ => some (who, tableCtrl block)
  | .clearCounters who block inst => some (who, ctrlOffset block inst.val)
  | .clearPeaks who block => some (who, ctrlOffset block 0)
  | .load who _ => some (who, 0x10004)
  | .loadAbort who => some (who, 0x10004)
  | .floorSet who _ => some (who, 0x10018)
  | .stageLenWrite who _ => some (who, 0x10048)
  | .stageWrite who _ => some (who, 0x1004C)
  | .stage who => some (who, 0x10050)
  | .arm who => some (who, 0x10050)
  | .confirm who => some (who, 0x10050)
  | .revert who => some (who, 0x10050)
  | .discard who => some (who, 0x10050)
  | .program who _ => some (who, 0x10078)
  | .eraseJournal who _ => some (who, 0x10078)
  | .sviEnable who _ => some (who, 0x20004)
  | .spareSelWrite who _ => some (who, 0x20030)
  | .verifierRetire who _ => some (who, 0x20030)
  | .verifierRestore who _ => some (who, 0x20030)
  | .sealRun who folio _ _ _ => some (who, 0x41004 + 64 * folio.val)
  | .abandon who folio => some (who, 0x41004 + 64 * folio.val)
  | .bkstBlockWrite who _ => some (who, 0x50020)
  | .bkstResetElement who _ => some (who, 0x50038)
  | .bkstResetAll who => some (who, 0x50038)
  | .switchForceA who _ => some (who, 0x5003C)
  | .switchForceB who _ => some (who, 0x5003C)
  | .switchAutomatic who _ => some (who, 0x5003C)
  | .yield who folio _ => some (who, 0x71000 + 64 * folio.val)
  | .kernelFault who pair _ _ => some (who, 0x7080C + 16 * pair.val)
  | .folioReset who folio => some (who, 0x71000 + 64 * folio.val)
  | .folioHalt who folio => some (who, 0x71000 + 64 * folio.val)
  | .folioResume who folio => some (who, 0x71000 + 64 * folio.val)
  | .rxTailWrite who folio _ _ => some (who, 0x71014 + 64 * folio.val)
  | .txTailWrite who folio _ _ => some (who, 0x71018 + 64 * folio.val)
  | .pairRetire who _ => some (who, 0x70010)
  | .pairRestore who _ => some (who, 0x70010)
  | .migrate who _ => some (who, 0x70010)
  | .restart who => some (who, 0x90004)
  | .forceSet who => some (who, 0x90048)
  | .forceRelease who => some (who, 0x90048)
  | .forceReleaseAll who => some (who, 0x90048)
  | .ctlOpen who cm _ => some (who, 0x160020 + 16 * b2n cm)
  | .ctlClose who cm _ => some (who, 0x160020 + 16 * b2n cm)
  | .ctlCancel who cm _ => some (who, 0x160020 + 16 * b2n cm)
  | .objectAbort who _ => some (who, 0x160040)
  | .portEnWrite who port _ => some (who, 0xC000C + 0x1000 * port.val)
  | .verifyRestart who port => some (who, 0xC000C + 0x1000 * port.val)
  | .timeSet who => some (who, 0xE0068)
  | .timeStep who => some (who, 0xE0068)
  | .tsqPop who port => some (who, 0xE1010 + 64 * port.val)
  | .cursorLoad who win _ => some (who, 0xF0204 + 0x80 * win.val)
  | .evrRead who win _ => some (who, 0xF0208 + 0x80 * win.val)
  | .evrClear who => some (who, 0xF0038)
  | .gthEnable who _ => some (who, 0x100004)
  | .hostEnWrite who _ => some (who, 0x100004)
  | .deleteUpto who => some (who, 0x100020)
  | .readToHost who => some (who, 0x100020)
  | .nandWindowRead who _ => some (who, 0x10007C)
  | .sequencerForce who seq => some (who, 0x100800 + 32 * seq.val)
  | .sequencerReset who seq => some (who, 0x100800 + 32 * seq.val)
  | .twinEnable who _ => some (who, 0x110004)
  | .relinquish who => some (who, 0x110004)
  | .update who _ _ => some (who, 0x120030)
  | .verify who _ _ => some (who, 0x120030)
  | .attest who _ _ => some (who, 0x120030)
  | .pubkey who _ _ => some (who, 0x120030)
  | .delete who _ _ => some (who, 0x120030)
  | .keyOpWrite who _ => some (who, 0x120050)
  | .challengeNew who => some (who, 0x130030)
  | .tokenWrite who _ => some (who, 0x130038)
  | .tokenDebug who => some (who, 0x13003C)
  | .tokenLifecycle who => some (who, 0x13003C)
  | .tokenClearLog who => some (who, 0x13003C)
  | .debugClose who => some (who, 0x130048)
  | .tamperRelease who => some (who, 0x130054)
  | .pwrRun who => some (who, 0x40)
  | .pwrQuiet who => some (who, 0x40)
  | .pwrStandby who => some (who, 0x40)
  | .pwrOff who => some (who, 0x40)
  | .clkReqWrite who high _ => some (who, 0x50 + 4 * b2n high)
  | .hostReset who _ => some (who, 0x80)
  | .wdogKick who => some (who, 0x94)
  | .bistTestPair who _ => some (who, 0x140010)
  | .bistTestUnit who _ => some (who, 0x140010)
  | .adcConvert who _ => some (who, 0x150010)
  | .adcConvertUrgent who _ => some (who, 0x150010)
  | .spareDevice who _ _ => some (who, 0x150050)
  | .queueRepair who _ => some (who, 0x150050)
  | .dismiss who _ => some (who, 0x150050)
  | .hostConsumedWrite who _ => some (who, 0x100040)
  | .lgeEnable who _ => some (who, 0x90004)
  | .ctlEnable who _ => some (who, 0x160004)
  | _ => none

end Sys2Proof
end

