-- ==== Sys2Proof/Machine/EvrOps.lean ====
section
/-! DEFINITION. Event records: how a record is requested, checked, queued, committed and numbered (chapter "The event
recorder", R319-R337). -/

namespace Sys2Proof.Machine

open Sys2Proof Reg

/-- A body of 48 bytes: the given bytes, then zeros (R319). -/
def body48 (bs : List Byte) : List Byte := (bs ++ List.replicate 48 0#8).take 48

/-- The record as 64 bytes in number form, with the COLOPHON of its sequence number (R319, R320). -/
def EvRec.toNat (r : EvRec) (seq : Nat) : Nat :=
  Ent.REC_STAMP.mk' r.stamp + Ent.REC_CLASS.mk' r.cls + Ent.REC_SRC_KIND.mk' r.srcKind + Ent.REC_SRC_ID.mk' r.srcId +
  Ent.REC_STAMP_CN.mk' (b2n r.stampCn) + Ent.REC_TIME_VALID.mk' (b2n r.timeValid) + Ent.REC_ACTIVE.mk' (b2n r.active) +
  Ent.REC_BODY.mk' (leNat r.body) + Ent.REC_COLOPHON.mk' seq

/-- BASE: the sequence number of index 0 (R320). -/
def State.evrBase (s : State) : Nat := s.rd EVR_BASE

/-- NEXT: the sequence number that the next committed record takes (R328). -/
def State.evrNext (s : State) : Nat := s.rd EVR_NEXT

/-- EVR_STATUS follows the fill, the queue and the clear state (R329). -/
def State.evrRefresh (s : State) : State :=
  let n := s.evr.region.length
  let st := if n = 1048576 then 3 else if 1044480 ≤ n then 2 else 1
  let s := if s.rd EVR_STATUS_STATE = 0 then s else s.wr EVR_STATUS_STATE st
  (((s.wr EVR_NEXT (s.evrBase + n)).wrB EVR_STATUS_CLEARING s.evr.clearing).wr EVR_STATUS_QUEUE s.evr.queue.length)

/-- Whether the record's class counts as critical: a system class, or CRITICAL = 1 (R322, R329). -/
def State.evrCritical (s : State) (r : EvRec) : Bool :=
  decide (r.cls < 64) || Ent.EVC_CRITICAL.on (s.useEnt 0xF01 r.cls)

/-- Room for a record whose index would be `i` (R329). -/
def State.evrRoom (s : State) (r : EvRec) (i : Nat) : Bool :=
  decide (i < (if s.evrCritical r then 1048575 else 1044480))

/-- A record refused for want of room is counted in EVR_LOST; the first ordinary refusal sets CRITICAL_ONLY (R329). -/
def State.evrNoRoom (s : State) (r : EvRec) (i : Nat) : State :=
  let s1 := s.bump EVR_LOST
  if s.evrCritical r then s1
  else match s.evr.firstRefusal with
    | some _ => s1
    | none => (s1.flag EVR_TROUBLE_CRITICAL_ONLY).onEvr (fun e => { e with firstRefusal := some (s.evrBase + i - 1, s.taiNs) })

/-- An accepted record enters the queue and takes the next number, unless the queue is full or there is no room (R326,
R329). While SCANNING it waits without a number. -/
def State.evrEnter (s : State) (r : EvRec) : State :=
  if 1024 ≤ s.evr.queue.length then (s.bump EVR_QUEUE_LOST).flag EVR_TROUBLE_QUEUE_LOST
  else
    let i := s.evr.region.length + s.evr.queue.length
    if s.rd EVR_STATUS_STATE ≠ 0 ∧ s.evrRoom r i = false then s.evrNoRoom r i
    else (s.onEvr (fun e => { e with queue := e.queue ++ [r] })).evrRefresh

/-- Why the class table refuses a record from a source outside the module blocks: 1 UNKNOWN, 2 NOT_PERMITTED (R322,
R324); `none` where it accepts. -/
def State.evrCheck (s : State) (cls srcKind srcId : Nat) : Option Nat :=
  let e := s.ent 0xF01 cls
  if srcKind = 0 then none
  else if cls < 64 then some 2
  else if Ent.EVC_STABLE_ID.of e = 0 ∨ Ent.EVC_ENABLE.of e = 0 then some 1
  else if bitAt (Ent.EVC_SOURCES.of e) (srcKind - 1) = false then some 2
  else if srcKind = 1 ∧ bitAt (Ent.EVC_FOLIO_MASK.of e) srcId = false then some 2
  else none

/-- The block, by register base, that emits a system class (R325). -/
def classBlock : Nat → Nat
  | 3 => 0x0E | 4 => 0x0E | 5 => 0x02 | 6 => 0x04 | 7 => 0x04 | 8 => 0x07
  | 9 => 0x09 | 0x0A => 0x09 | 0x0B => 0x09 | 0x0C => 0x09 | 0x0D => 0x09 | 0x0E => 0x09
  | 0x0F => 0x01 | 0x10 => 0x11 | 0x11 => 0x00 | 0x12 => 0x13 | 0x13 => 0x12 | 0x14 => 0x13
  | 0x15 => 0x14 | 0x16 => 0x10 | 0x17 => 0x15 | _ => 0x0F

/-- The place of a record among those that arrive in one fabric cycle: TIME_STEP, other module blocks by base, folios, the logic
engine, CTL by object (R326). -/
def EvRec.place (r : EvRec) : Nat :=
  match r.srcKind with
  | 0 => if r.cls = 3 then 0 else 1 + classBlock r.cls
  | 1 => 0x20
  | 2 => 0x21
  | _ => 0x22 + bits (leNat r.body) 32 10

/-- Put a record behind those whose place is not higher. -/
def arriveAt (r : EvRec) : List (Nat × EvRec) → List (Nat × EvRec)
  | [] => [(r.place, r)]
  | x :: l => if r.place < x.1 then (r.place, r) :: x :: l else x :: arriveAt r l

/-- The records that arrived in a fabric cycle enter the queue as it ends, in the order of R326. -/
def State.evrSettle (s : State) : State :=
  let rs := s.evr.arrivals
  let s := s.onEvr (fun e => { e with arrivals := [], newNow := 0 })
  rs.foldl (fun s x => s.evrEnter x.2) s

/-- No accepted record waits to be committed. -/
def State.evrIdle (s : State) : Bool := decide (s.evr.queue = []) && decide (s.evr.arrivals = [])

/-- A record arrives: it is checked against the class table in force, refused and recorded, or accepted (R324, R326). -/
def State.evrArrive (s : State) (r : EvRec) : State :=
  match s.evrCheck r.cls r.srcKind r.srcId with
  | some cause =>
    (((((((s.bump EVR_REFUSED).wr EVR_LAST_REFUSED_CLASS r.cls).wr EVR_LAST_REFUSED_SRC_KIND r.srcKind).wr
      EVR_LAST_REFUSED_SRC_ID r.srcId).wr EVR_LAST_REFUSED_CAUSE cause).wr EVR_LAST_REFUSED_VALID 1).flag EVR_TROUBLE_REFUSED)
  | none => s.onEvr (fun e => { e with arrivals := arriveAt r e.arrivals })

/-- The record that a source makes now, with the flags of R319. -/
def State.evrMake (s : State) (cls srcKind srcId stamp : Nat) (cn : Bool) (body : List Byte) : EvRec :=
  { stamp := stamp, cls := cls, srcKind := srcKind, srcId := srcId, stampCn := cn,
    timeValid := s.on TIM_STATUS_TIME_VALID, active := s.isActive, body := body48 body }

/-- A module block requests a system record: STAMP is the TAI of its arrival (R325). -/
def State.event (s : State) (cls : Nat) (body : List Byte) : State :=
  s.evrArrive (s.evrMake cls 0 0 s.taiNs false body)

/-- A module block requests a system record with a stamp of its own (R325). -/
def State.eventAt (s : State) (cls stamp : Nat) (body : List Byte) : State :=
  s.evrArrive (s.evrMake cls 0 0 stamp false body)

/-- A folio's EVENT entry of a released cycle becomes a record (R115, R321). -/
def State.eventFolio (s : State) (cls folio cycle : Nat) (body : List Byte) : State :=
  s.evrArrive (s.evrMake cls 1 folio cycle true body)

/-- An EVT request of the logic engine becomes a record (R199, R321). -/
def State.eventLogic (s : State) (cls startTai stableId scanNo : Nat) : State :=
  s.evrArrive (s.evrMake cls 2 0 startTai false (leBytes 4 stableId ++ leBytes 8 scanNo))

/-- A CTL result with an event class becomes a record (R228, R321). -/
def State.eventCtl (s : State) (cls resultTai : Nat) (result : List Byte) : State :=
  s.evrArrive (s.evrMake cls 3 0 resultTai false (result.take 40))

/-- The FULL record, written at the last index once index 1 048 574 is committed (R325, R329). Where no ordinary record was
refused before it, bytes 0-15 of its body are free values (log entry 9). -/
def State.evrFull (s : State) : State :=
  if s.evr.region.length = 1048575 then
    let (q, t, s) := match s.evr.firstRefusal with
      | some (q, t) => (q, t, s)
      | none => let (q, s) := s.fresh
                let (t, s) := s.fresh
                (q, t, s)
    let r := s.evrMake 2 0 0 s.taiNs false (leBytes 8 q ++ leBytes 8 t)
    ((s.onEvr (fun e => { e with region := e.region ++ [(r, false)] })).flag EVR_TROUBLE_FULL).evrRefresh
  else s

/-- The CLEARED record has been written at index 0: the counters are zeroed (R336, step 3). -/
def State.evrAfterCommit (s : State) (r : EvRec) : State :=
  if r.cls = 0 ∧ r.srcKind = 0 then
    (((s.wr EVR_LOST 0).wr EVR_QUEUE_LOST 0).wr EVR_REFUSED 0).onEvr (fun e => { e with cleared := none, firstRefusal := none })
  else s

/-- The record at the head of the queue is committed: its body first, its colophon last (R327, R328). During a clear it is
committed below the front, which advances in steps of 4 096 slots (R336; how far it is ahead is not stated, DESIGN
CHOICE, log entry 9). -/
def State.evrCommit (s : State) : State :=
  if s.rd EVR_STATUS_STATE = 0 then s
  else match s.evr.queue with
    | [] => s
    | r :: q =>
      let i := s.evr.region.length
      let s1 := s.onEvr (fun e => { e with
        region := e.region ++ [(r, false)], queue := q, newNow := e.newNow + 1,
        front := if e.clearing then max e.front (min 1048576 ((i / 4096 + 1) * 4096)) else e.front })
      ((s1.evrAfterCommit r).evrRefresh).evrFull

/-- Number and allow the records that waited while SCANNING, in order (R329, R330). -/
def State.evrAdmit (s : State) (rs : List EvRec) : State := rs.foldl State.evrEnter s

/-- The start-up search has ended: NEXT is set, START is numbered first and the waiting records after it (R330, R331,
R337). `unreadable` is a probed index whose colophon could not be read. -/
def State.evrScanDone (s : State) (unreadable : Option Nat) : State :=
  if s.rd EVR_STATUS_STATE ≠ 0 then s
  else
    let filler : EvRec := { stamp := 0, cls := 0, srcKind := 0, srcId := 0, stampCn := false, timeValid := false,
                            active := false, body := [] }
    let s := match unreadable with
      | none => s
      | some i => (s.onEvr (fun e => { e with
          region := if i < e.region.length then modAt e.region i (fun p => (p.1, true))
                    else if i = e.region.length then e.region ++ [(filler, true)] else e.region })).flag EVR_TROUBLE_ECC
    let waiting := s.evr.queue
    let e := s.evr.region.length
    let s := (s.onEvr (fun e => { e with queue := [] })).wr EVR_STATUS_STATE 1
    let s := match s.evr.cleared with
      | some r => if e = 0 then s.evrEnter r else s
      | none => s
    let start := s.evrMake 1 0 0 s.taiNs false
      (leBytes 8 e ++ leBytes 1 (s.rd SYS_RST_STATUS_LAST_KIND) ++ leBytes 1 (b2n s.evr.clearing))
    let s := (s.flagIf s.evr.clearing EVR_TROUBLE_CLEAR_RESUMED).wrB EVR_CLEAR_STATUS_BUSY s.evr.clearing
    (((s.evrEnter start).evrAdmit waiting).evrRefresh).evrFull

/-- A reset of the EVR block: the queue is lost, the region and the control block stay in MRAM, and the scan starts
(R330; "A reset interrupts the queue"). -/
def State.evrReset (s : State) : State :=
  (s.onEvr (fun e => { e with queue := [], arrivals := [] })).wr EVR_STATUS_STATE 0

/-- EVR_CLEAR_CTRL.GO: the clear starts or is refused (R335, R336). -/
def State.evrClear (s : State) : State :=
  if s.evr.clearing then s.answer EVR_CLEAR_STATUS_DONE EVR_CLEAR_STATUS_RESULT 2
  else if s.rd EVR_STATUS_STATE = 0 then s.answer EVR_CLEAR_STATUS_DONE EVR_CLEAR_STATUS_RESULT 3
  else if s.rd EVR_CLEAR_UPTO + 1 ≠ s.evrNext ∨ s.evrIdle = false then
    s.answer EVR_CLEAR_STATUS_DONE EVR_CLEAR_STATUS_RESULT 1
  else
    let r := s.evrMake 0 0 0 s.taiNs false
      (leBytes 8 s.evrBase ++ leBytes 8 s.evr.region.length ++ leBytes 4 (s.rd EVR_LOST) ++
       leBytes 4 (s.rd EVR_QUEUE_LOST) ++ leBytes 4 (s.rd EVR_REFUSED))
    (((s.onEvr (fun e => { e with region := [], queue := [r], clearing := true, front := 0, cleared := some r,
                                   firstRefusal := none })).wr EVR_BASE s.evrNext).begin EVR_CLEAR_STATUS_BUSY).evrRefresh

/-- The clear front has reached the end of the region, which it does after CLEARED is written at index 0 (R336, steps 3 and 4). -/
def State.evrClearDone (s : State) : State :=
  if s.evr.clearing = true ∧ s.evr.region ≠ [] ∧ s.rd EVR_STATUS_STATE ≠ 0 then
    (((s.onEvr (fun e => { e with clearing := false, front := 1048576, cleared := none })).finish
      EVR_CLEAR_STATUS_BUSY EVR_CLEAR_STATUS_DONE EVR_CLEAR_STATUS_RESULT 0).flag EVR_TROUBLE_CLEARED).evrRefresh
  else s

/-- The agent that may write read window `w` (R333). -/
def evrWindowAgent (w : Nat) (who : Agent) : Bool := if w = 0 then isSup who else decide (who = .mgmt)

/-- Load the cursor of window `w` from CURSOR_LO and the written high word (R333). -/
def State.evrCursorLoad (s : State) (who : Agent) (w high : Nat) : State :=
  if evrWindowAgent w who then s.wrI EVR_W_CURSOR w (s.rdI EVR_W_CURSOR w % 2 ^ 32 + high % 2 ^ 32 * 2 ^ 32)
  else s.flag EVR_TROUBLE_WRONG_AGENT

/-- Latch 64 bytes into the data registers of window `w`. -/
def State.evrLatch (s : State) (w v : Nat) : State :=
  (List.range 16).foldl (fun s k => s.wrK EVR_W_DATA w k (bits v (32 * k) 32)) s

/-- The result of a read at the cursor: 0 VALID, 1 NOT_YET, 2 CLEARED, 3 ECC, and the data (R334). -/
def State.evrLookup (s : State) (cursor : Nat) (ecc : Bool) : Nat × Nat :=
  if s.rd EVR_STATUS_STATE = 0 then (1, 0)
  else if s.evrNext ≤ cursor + s.evr.newNow then (1, 0)
  else if cursor < s.evrBase then (2, 0)
  else match s.evr.region[cursor - s.evrBase]? with
    | none => (1, 0)
    | some (r, bad) => if bad || ecc then (3, 0) else (0, r.toNat cursor)

/-- EVR_W_CTRL.READ: latch the record at the cursor; the cursor advances after VALID with AUTO_INC (R333, R334). -/
def State.evrRead (s : State) (who : Agent) (w : Nat) (ecc : Bool) : State :=
  if evrWindowAgent w who then
    let c := s.rdI EVR_W_CURSOR w
    let (r, v) := s.evrLookup c ecc
    let s := if r = 0 ∨ r = 3 then s.evrLatch w v else s
    let s := ((s.wrI EVR_W_STATUS_BUSY w 0).wrI EVR_W_STATUS_RESULT w r).flagI EVR_W_STATUS_DONE w
    let s := s.flagIf (decide (r = 3)) EVR_TROUBLE_ECC
    if r = 0 ∧ s.onI EVR_W_CTRL_AUTO_INC w then s.wrI EVR_W_CURSOR w (c + 1) else s
  else s.flag EVR_TROUBLE_WRONG_AGENT

end Sys2Proof.Machine
end

