-- ==== Sys2Proof/Machine/KeyOps.lean ====
section
/-! DEFINITION. The key store: slots, usability, generations, limits, policy, update messages, attestation and
zeroization (chapter "Keys, signatures and attestation", R385-R418). -/

namespace Sys2Proof.Machine

open Sys2Proof Reg

/-- The slot with a number; an unlisted slot is EMPTY with generation 0. -/
def State.slot (s : State) (n : Nat) : KeySlot := ((s.key.slots.find? (fun p => p.1 == n)).map (fun p => p.2)).getD {}

/-- Replace one slot in a list kept in rising order of slot numbers. -/
def putSlot : List (Nat × KeySlot) → Nat → KeySlot → List (Nat × KeySlot)
  | [], n, k => [(n, k)]
  | (m, k') :: l, n, k =>
    if m = n then (n, k) :: l else if n < m then (n, k) :: (m, k') :: l else (m, k') :: putSlot l n k

/-- Replace one slot. -/
def State.setSlot (s : State) (n : Nat) (k : KeySlot) : State :=
  s.onKey (fun e => { e with slots := putSlot e.slots n k })

/-- The chain check of R392, over the slot and at most three ancestors. -/
def State.chain (s : State) : Nat → Nat → Bool
  | 0, n => decide ((s.slot n).level = 0)
  | fuel + 1, n =>
    let k := s.slot n
    if k.level = 0 then true else decide ((s.slot k.parent).gen = k.parentGen) && s.chain fuel k.parent

/-- The usability check of R392; the key RAM holds a key only once the store has been unsealed (R390). -/
def State.usable (s : State) (n : Nat) : Bool :=
  let k := s.slot n
  decide (s.rd KEY_STATUS_STATE = 2) && decide (k.state = 1) && !k.suspended && s.chain 3 n

/-- Whether `a` is an ancestor of slot `n` (R403, step 7). -/
def State.ancestor (s : State) (a : Nat) : Nat → Nat → Bool
  | 0, _ => false
  | fuel + 1, n =>
    let k := s.slot n
    if k.level = 0 then false else decide (k.parent = a) || s.ancestor a fuel k.parent

/-- The descendants of a slot that pass the chain check now (R393). -/
def State.liveDescendants (s : State) (n : Nat) : Nat :=
  (s.key.slots.filter (fun p => decide (p.2.state ≠ 0) && s.ancestor n 3 p.1 && s.chain 3 p.1)).length

/-- The metadata of a slot as slot-table entry 0x1202 (R388). -/
def State.slotEntry (s : State) (n : Nat) : Nat :=
  let k := s.slot n
  Ent.SLT_GEN.mk' k.gen + Ent.SLT_PARENT_GEN.mk' k.parentGen + Ent.SLT_PARENT.mk' k.parent + Ent.SLT_LEVEL.mk' k.level +
  Ent.SLT_TYPE.mk' k.typ + Ent.SLT_STATE.mk' k.state + Ent.SLT_ORPHANED.mk' (b2n (!s.chain 3 n)) +
  Ent.SLT_PC.mk' (b2n k.pc) + Ent.SLT_SUSPENDED.mk' (b2n k.suspended) + Ent.SLT_USAGE.mk' k.usage +
  Ent.SLT_USE_COUNT.mk' k.useCount + Ent.SLT_USE_LIMIT.mk' k.useLimit + Ent.SLT_NOT_AFTER.mk' k.notAfter +
  Ent.SLT_RESET_AT.mk' k.resetAt + Ent.SLT_RESET_LIMIT.mk' k.resetLimit + Ent.SLT_LAST_COUNTER.mk' k.lastCounter +
  Ent.SLT_KEY_ID.mk' (leNat k.keyId)

/-- The KEY event (class 0x13) of R417. -/
def State.keyEvent (s : State) (kind result slot signer n counter : Nat) : State :=
  let k := s.slot slot
  s.event 0x13 (leBytes 1 kind ++ leBytes 1 result ++ leBytes 2 slot ++ leBytes 2 signer ++ leBytes 1 k.typ ++
    leBytes 1 k.level ++ leBytes 4 k.gen ++ leBytes 4 n ++ leBytes 8 counter ++ k.keyId.take 16)

/-- The slot becomes EXPIRED if its NOT_AFTER has been reached (R396). -/
def State.keyExpire (s : State) (n : Nat) : State :=
  let k := s.slot n
  if k.state = 1 ∧ k.notAfter ≠ 0 ∧ k.notAfter ≤ s.taiNs then
    ((s.setSlot n { k with state := 3 }).flag KEY_TROUBLE_EXPIRED).keyEvent 5 0x0D n k.parent 0 0
  else s

/-- One use of a slot for a purpose (R392, R395, R396): whether it is permitted, and the state with the use counted, or
refused and recorded. -/
def State.keyUse (s : State) (n : Nat) : Bool × State :=
  let s := s.keyExpire n
  let k := s.slot n
  if s.usable n = false then (false, (s.bump KEY_USE_REFUSED).flag KEY_TROUBLE_USE_REFUSED)
  else if k.useLimit ≠ 0 ∧ k.useLimit < k.useCount + 1 then
    (false, ((((s.setSlot n { k with state := 4 }).flag KEY_TROUBLE_EXHAUSTED).keyEvent 6 0x0E n k.parent 0 0).bump
      KEY_USE_REFUSED).flag KEY_TROUBLE_USE_REFUSED)
  else
    let c := k.useCount + 1
    (true, s.setSlot n { k with useCount := c, useMram := if c % 65536 = 0 then c else k.useMram })

/-- Commit every live use count to MRAM (R395, R416, R425). -/
def State.keyCommitCounts (s : State) : State :=
  s.onKey (fun e => { e with slots := e.slots.map (fun p => (p.1, { p.2 with useMram := p.2.useCount })) })

/-! ## Policy (R386, R398-R400) -/

/-- The levels at which a type may stand (R386). -/
def typeLevelOk (typ level : Nat) : Bool :=
  match typ with
  | 1 => decide (level = 1) || decide (level = 2)
  | 2 => decide (level = 3)
  | 3 => decide (level = 3)
  | 4 => decide (level = 2)
  | 5 => decide (level = 1)
  | _ => false

/-- The usage bits that a type may carry (R386). -/
def typeUsage (typ : Nat) : Nat :=
  match typ with
  | 1 => 0b01010011
  | 2 => 0b00001100
  | 3 => 0b00001100
  | 4 => 0b10000010
  | 5 => 0b10000000
  | 15 => 0b00100000
  | _ => 0

/-- The bytes of material of a type (R386, R401); the public key is 60 or 52 bytes. -/
def materialLenOk (typ len : Nat) (clear : Bool) : Bool :=
  match typ with
  | 1 => (decide (len = 64) || decide (len = 56))
  | 3 => if clear then decide (len = 16) else decide (len = 24)
  | _ => if clear then decide (len = 32) else decide (len = 40)

/-- Bits of `a` that are not bits of `b`, among the low 8. -/
def bitsBeyond (a b : Nat) : Bool := (List.range 8).any (fun i => bitAt a i && !bitAt b i)

/-- The first enabled policy entry whose range holds the slot at the level (R398). -/
def State.policyEntry (s : State) (slot level : Nat) : Option Nat :=
  ((s.tab 0x1201).active.find? (fun e => Ent.POL_ENABLE.on e.2 && decide (Ent.POL_LEVEL.of e.2 = level) &&
    decide (Ent.POL_SLOT_FIRST.of e.2 ≤ slot ∧ slot ≤ Ent.POL_SLOT_LAST.of e.2))).map (fun e => e.2)

/-- Whether the policy admits a slot with these contents (R398). -/
def State.policyAdmits (s : State) (slot : Nat) (k : KeySlot) : Bool :=
  match s.policyEntry slot k.level with
  | none => false
  | some e =>
    decide (1 ≤ k.typ) && bitAt (Ent.POL_TYPES.of e) (k.typ - 1) && !bitsBeyond k.usage (Ent.POL_USAGE.of e) &&
    (!k.pc || Ent.POL_PC_OK.on e) &&
    (decide (Ent.POL_MAX_USE_64K.of e = 0) ||
      (decide (k.useLimit ≠ 0) && decide (k.useLimit ≤ Ent.POL_MAX_USE_64K.of e * 65536))) &&
    (decide (Ent.POL_MAX_LIFE_S.of e = 0) ||
      (decide (k.notAfter ≠ 0) && decide (k.notAfter ≤ s.taiNs + Ent.POL_MAX_LIFE_S.of e * 1000000000)))

/-- The CHECK of KEYP: whether a table of policy entries is consistent (R399). -/
def keypOk (m : Store) : Bool :=
  m.all (fun e => !Ent.POL_ENABLE.on e.2 ||
    (decide (Ent.POL_SLOT_FIRST.of e.2 ≠ 0) && decide (Ent.POL_SLOT_FIRST.of e.2 ≤ Ent.POL_SLOT_LAST.of e.2) &&
     decide (Ent.POL_LEVEL.of e.2 ≠ 0) &&
     (List.range 5).all (fun t => !bitAt (Ent.POL_TYPES.of e.2) t || typeLevelOk (t + 1) (Ent.POL_LEVEL.of e.2)) &&
     (List.range 8).all (fun u => !bitAt (Ent.POL_USAGE.of e.2) u ||
        (List.range 5).any (fun t => bitAt (Ent.POL_TYPES.of e.2) t && bitAt (typeUsage (t + 1)) u)) &&
     !(Ent.POL_PC_OK.on e.2 && decide (Ent.POL_LEVEL.of e.2 ≤ 2))))

/-- KEYP is applied: every VALID slot is checked against the new policy and suspended or resumed (R400). -/
def State.keypApply (s : State) : State :=
  s.key.slots.foldl (fun s p =>
    let k := s.slot p.1
    if p.1 = 0 ∨ k.state ≠ 1 then s
    else if s.policyAdmits p.1 k then s.setSlot p.1 { k with suspended := false }
    else if k.suspended then s
    else ((s.setSlot p.1 { k with suspended := true }).flag KEY_TROUBLE_SUSPENDED).keyEvent 11 0 p.1 k.parent 0 0) s

/-! ## Update messages (R401-R405) -/

/-- The HSS parameter sets of a public key in the encoding of RFC 8554 (R406). -/
def hssPubOk (pub : List Byte) : Bool :=
  let l := beAt pub 0 4
  let lms := beAt pub 4 4
  let ots := beAt pub 8 4
  decide (1 ≤ l ∧ l ≤ 4) &&
  ((decide (5 ≤ lms ∧ lms ≤ 9) && decide (1 ≤ ots ∧ ots ≤ 4) && decide (60 ≤ pub.length)) ||
   (decide (10 ≤ lms ∧ lms ≤ 14) && decide (5 ≤ ots ∧ ots ≤ 8) && decide (52 ≤ pub.length)))

/-- The identifier I of a public key in the encoding of RFC 8554 (R386). -/
def hssId (pub : List Byte) : List Byte := slice pub 12 16

/-- Whether all bytes are zero. -/
def allZero (bs : List Byte) : Bool := bs.all (fun b => decide (b = 0#8))

/-- A key derived from a secret with an ASCII label (R402). -/
def labelKey (k : List Byte) (label : List Nat) : List Byte := Config.hmac k (label.map (BitVec.ofNat 8))

/-- The fields of an update message (R401). -/
structure UpdMsg where
  op : Nat
  authKind : Nat
  device : List Byte
  counter : Nat
  signer : Nat
  target : Nat
  wrap : Nat
  typ : Nat
  level : Nat
  parent : Nat
  usage : Nat
  pc : Bool
  notAfter : Nat
  useLimit : Nat
  resetLimit : Nat
  keyId : List Byte
  material : List Byte
  /-- the authenticated part and the authenticator -/
  body : List Byte
  auth : List Byte
  deriving DecidableEq, Repr

/-- Read an update message; absent where step 1 of R403 fails. -/
def readUpdate (m : List Byte) : Option UpdMsg :=
  let len := beAt m 0x44 4
  let u : UpdMsg :=
    { op := beAt m 6 1, authKind := beAt m 7 1, device := slice m 8 16, counter := beAt m 0x18 8,
      signer := beAt m 0x20 2, target := beAt m 0x22 2, wrap := beAt m 0x24 2, typ := beAt m 0x26 1,
      level := beAt m 0x27 1, parent := beAt m 0x28 2, usage := beAt m 0x2A 2, pc := bitAt (beAt m 0x2C 1) 0,
      notAfter := beAt m 0x30 8, useLimit := beAt m 0x38 8, resetLimit := beAt m 0x40 4, keyId := slice m 0x48 16,
      material := slice m 0x80 len, body := m.take (0x80 + len), auth := m.drop (0x80 + len) }
  if decide (m.length < 0x80 + len) || decide (beAt m 0 4 ≠ 0x4B555044) || decide (beAt m 4 2 ≠ 1) ||
     decide (u.op = 0 ∨ 3 < u.op) || decide (2 < u.authKind) || decide (1 < beAt m 0x2C 1) ||
     !allZero (slice m 0x2D 3) || decide (2 ^ 48 ≤ u.useLimit) || !allZero (slice m 0x58 40) ||
     decide (255 < u.usage) then none
  else if u.op = 1 then
    if decide (u.typ = 0 ∨ 5 < u.typ) || !materialLenOk u.typ len (decide (u.wrap = 0xFFFF)) then none else some u
  else if decide (len ≠ 0) || decide (u.typ ≠ 0) || decide (u.level ≠ 0) || decide (u.parent ≠ 0) then none
  else some u

/-- The contents that the target slot would have after the message (R405). -/
def State.updContents (s : State) (u : UpdMsg) : KeySlot :=
  let k := s.slot u.target
  if u.op = 1 then
    { gen := k.gen + 1, parentGen := (s.slot u.parent).gen, parent := u.parent, level := u.level, typ := u.typ, state := 1,
      pc := u.pc, suspended := false, usage := u.usage, useLimit := u.useLimit, notAfter := u.notAfter,
      resetAt := s.rd KEY_RESET_COUNT, resetLimit := u.resetLimit, lastCounter := k.lastCounter, keyId := u.keyId,
      material := u.material }
  else if u.op = 2 then { gen := k.gen + 1, lastCounter := k.lastCounter }
  else { k with notAfter := u.notAfter, useLimit := u.useLimit, resetLimit := u.resetLimit, usage := u.usage }

/-- A limit is tightened or kept: 0 means none (R403, step 10). -/
def tightened (old new : Nat) : Bool := decide (old = 0) || (decide (new ≠ 0) && decide (new ≤ old))

/-- The material in clear, if it unwraps (R402, R403 step 11); an HSS public key loses the four octets that pad it. -/
def State.updUnwrap (s : State) (u : UpdMsg) : Option (List Byte) :=
  if u.wrap = 0xFFFF then
    if u.typ = 1 then some (u.material.take (u.material.length - 4))
    else if u.authKind = 0 then some u.material else none
  else
    let w := s.slot u.wrap
    if s.usable u.wrap && bitAt w.usage 7 then
      if w.typ = 5 then Config.keyUnwrap w.material u.material
      else Config.keyUnwrap (labelKey w.material [0x57, 0x52, 0x41, 0x50]) u.material
    else none

/-- The lifecycle state permits a provisioning install: PROVISION (R402, R419). -/
def State.provisioning (s : State) : Bool := decide (s.rd LCS_STATUS_LIFECYCLE = 2)

/-- Steps 2 to 11 of R403: the result code of the first failing check, or the material to install. -/
def State.updCheck (s : State) (u : UpdMsg) : Nat ⊕ List Byte :=
  let signer := s.slot u.signer
  let k := s.slot u.target
  if u.device ≠ Config.deviceId ∨ allZero u.device = true then .inl 0x02
  else if (match u.authKind with
      | 0 => !(decide (u.op = 1 ∧ u.level = 1 ∧ u.signer = 0) && s.provisioning)
      | 1 => !(s.usable u.signer && bitAt signer.usage 1 && decide (signer.typ = 1))
      | _ => !(s.usable u.signer && bitAt signer.usage 1 && decide (signer.typ = 4))) then .inl 0x03
  else if u.authKind = 1 ∧ (hssPubOk signer.material = false ∨ Config.hssLevelsOk signer.material (u.auth.drop 4) = false)
    then .inl 0x04
  else if (match u.authKind with
      | 0 => false
      | 1 => decide (beAt u.auth 0 4 ≠ (u.auth.drop 4).length) || !Config.hssVerify signer.material u.body (u.auth.drop 4)
      | _ => decide (u.auth ≠ Config.hmac (labelKey signer.material [0x4D, 0x41, 0x43]) u.body)) then .inl 0x05
  else if u.counter ≤ signer.lastCounter then .inl 0x06
  else if u.op = 1 ∧ u.signer ≠ u.parent ∧ ¬(u.level = 1 ∧ signer.typ = 1 ∧ signer.level = 1) then .inl 0x07
  else if u.op ≠ 1 ∧ s.ancestor u.signer 3 u.target = false then .inl 0x07
  else if u.op ≠ 2 ∧ s.policyAdmits u.target (s.updContents u) = false then .inl 0x08
  else if u.op = 1 ∧ (typeLevelOk u.typ u.level = false ∨ bitsBeyond u.usage (typeUsage u.typ) = true) then .inl 0x08
  else if u.op = 1 ∧ (s.usable u.parent = false ∨ (s.slot u.parent).level + 1 ≠ u.level) then .inl 0x09
  else if k.gen = 0xFFFFFFFF then .inl 0x0A
  else if u.op = 3 ∧ (k.state ≠ 1 ∨ tightened k.notAfter u.notAfter = false ∨ tightened k.useLimit u.useLimit = false ∨
      tightened k.resetLimit u.resetLimit = false ∨ bitsBeyond u.usage k.usage = true) then .inl 0x0A
  else if u.op ≠ 1 then .inr []
  else match s.updUnwrap u with
    | none => .inl 0x0B
    | some mat => if u.typ = 1 ∧ u.keyId ≠ hssId mat then .inl 0x0B else .inr mat

/-- A generation change reaches the key RAM: descendants that passed the chain check fail from now on (R393). `n` is how
many they were. -/
def State.orphaned (s : State) (slot n : Nat) : State :=
  let s := (s.wr KEY_LAST_ORPHAN_SLOT slot).wr KEY_LAST_ORPHAN_DESCENDANTS n
  if n = 0 then s
  else (((s.wr KEY_LAST_ORPHAN_VALID 1).bump KEY_ORPHANINGS).flag KEY_TROUBLE_ORPHANED).keyEvent 4 0 slot (s.slot slot).parent n 0

/-- An accepted message is committed: the signer's counter, the target's record, the key RAM (R404, R405). -/
def State.updCommit (s : State) (u : UpdMsg) (mat : List Byte) : State :=
  let n := if u.op = 3 then 0 else s.liveDescendants u.target
  let k := { s.updContents u with material := if u.op = 1 then mat else if u.op = 2 then [] else (s.slot u.target).material }
  let s := s.setSlot u.signer { s.slot u.signer with lastCounter := u.counter }
  let k := if u.signer = u.target then { k with lastCounter := u.counter } else k
  let s := (s.setSlot u.target k).bump KEY_UPDATES
  let s := s.keyEvent u.op 0 u.target u.signer n u.counter
  if u.op = 3 then s else s.orphaned u.target n

/-- An update message is checked and committed, or refused (R403): the result and the state. -/
def State.keyUpdate (s : State) (m : List Byte) : Nat × State :=
  let refuse (s : State) (r target signer counter : Nat) : Nat × State :=
    (r, ((s.bump KEY_REFUSED).flag KEY_TROUBLE_UPDATE_REFUSED).keyEvent 8 r target signer 0 counter)
  match readUpdate m with
  | none => refuse s 0x01 (beAt m 0x22 2) (beAt m 0x20 2) (beAt m 0x18 8)
  | some u =>
    let s := s.keyExpire u.signer
    match s.updCheck u with
    | .inl r => refuse (if u.authKind = 1 ∧ 5 ≤ r then s.bump KEY_VERIFIES else s) r u.target u.signer u.counter
    | .inr mat =>
      if u.authKind = 0 then (0, s.updCommit u mat)
      else match s.keyUse u.signer with
        | (false, s') => refuse s' 0x03 u.target u.signer u.counter
        | (true, s') => (0, (if u.authKind = 1 then s'.bump KEY_VERIFIES else s').updCommit u mat)

/-- DELETE returns a slot to EMPTY (R418). -/
def State.keyDelete (s : State) (n : Nat) : Nat × State :=
  let k := s.slot n
  let deletable := !s.chain 3 n || decide (k.state = 2 ∨ k.state = 3 ∨ k.state = 4) || k.suspended
  if n = 0 ∨ k.state = 0 ∨ deletable = false ∨ k.gen = 0xFFFFFFFF then (0x15, s)
  else
    let d := s.liveDescendants n
    let s := s.setSlot n { gen := k.gen + 1, lastCounter := k.lastCounter }
    (0, (s.keyEvent 12 0 n k.parent d 0).orphaned n d)

/-- VERIFY: an HSS signature against an HSS_PUB slot that carries VERIFY (R418). -/
def State.keyVerify (s : State) (n : Nat) (input : List Byte) : Nat × State :=
  let s := s.keyExpire n
  let k := s.slot n
  let len := beAt input 0 4
  let sig := input.drop (4 + len)
  if k.state = 3 then (0x0D, (s.bump KEY_USE_REFUSED).flag KEY_TROUBLE_USE_REFUSED)
  else if k.state = 4 then (0x0E, (s.bump KEY_USE_REFUSED).flag KEY_TROUBLE_USE_REFUSED)
  else if s.usable n = false then
    (if k.state = 1 ∧ k.suspended = false then 0x0C else 0x03, (s.bump KEY_USE_REFUSED).flag KEY_TROUBLE_USE_REFUSED)
  else if k.typ ≠ 1 ∨ bitAt k.usage 6 = false then (0x03, s)
  else if input.length < 4 + len then (0x01, s)
  else if hssPubOk k.material = false ∨ Config.hssLevelsOk k.material sig = false then (0x04, s)
  else match s.keyUse n with
    | (false, s') => (0x0E, s')
    | (true, s') => (if Config.hssVerify k.material (slice input 4 len) sig then 0 else 0x05, s'.bump KEY_VERIFIES)

/-! ## Attestation (R408-R412) -/

/-- The debug state in force (R431), as LCS_DEBUG_STATUS reads. -/
def State.debugCode (s : State) : Nat := s.rd LCS_DEBUG_STATUS_STATE

/-- SHA-256 over the slot-table entries of every VALID slot, in slot order (R410). -/
def State.keysDigest (s : State) : List Byte :=
  Config.sha256 ((s.key.slots.filter (fun p => decide (p.2.state = 1))).foldl
    (fun bs p => bs ++ leBytes 64 (s.slotEntry p.1)) [])

/-- The 256-byte statement with index `q` (R410); `tamperEntries` counts the entries of the tamper log. -/
def State.statement (s : State) (q tamperEntries : Nat) : List Byte :=
  beBytes 4 0x4B415454 ++ beBytes 2 1 ++ beBytes 2 0 ++ Config.deviceId.take 16 ++ beBytes 4 q ++ beBytes 4 0 ++
  (List.range 8).foldl (fun bs k => bs ++ beBytes 4 (s.rdK KEY_NONCE 0 k)) [] ++
  beBytes 8 s.taiNs ++ beBytes 1 (s.rd TIM_STATUS_TIME_VALID) ++ beBytes 1 (s.rd LCS_STATUS_LIFECYCLE) ++
  beBytes 1 s.debugCode ++ beBytes 1 s.role ++ beBytes 4 (s.rd BND_TIP_SEQ) ++
  (List.range 8).foldl (fun bs k => bs ++ beBytes 4 (s.rdK BND_DIGEST 0 k)) [] ++
  beBytes 4 (s.rd BND_IMAGE_VER_IMAGE_VERSION) ++ beBytes 4 (s.rd BND_FLOOR) ++ beBytes 8 (s.rd KEY_RESET_COUNT) ++
  s.keysDigest ++ Config.bootDigest ++ beBytes 4 tamperEntries ++ List.replicate 60 0#8

/-- ATTEST_LOW holds while fewer than 65 536 indices are left (R412). -/
def State.attestLow (s : State) : State := s.flagIf (decide (1048576 < s.rd KEY_ATTEST_NEXT + 65536)) KEY_TROUBLE_ATTEST_LOW

/-- Take the next attestation index; the committed front moves on by 64 first when NEXT has reached it (R411). -/
def State.takeIndex (s : State) : Nat × State :=
  let q := s.rd KEY_ATTEST_NEXT
  let s := if q = s.rd KEY_ATTEST_FRONT then s.wr KEY_ATTEST_FRONT (min 1048576 (q + 64)) else s
  (q, (s.wr KEY_ATTEST_NEXT (q + 1)).attestLow)

/-! ## Operations (R418) -/

/-- An input or output buffer in DRAM that lies in a window of folio 0. -/
def State.keyBuf (s : State) (a n : Nat) (w : Bool) : Option Nat := s.window 0 a n w

/-- Bytes of output that an operation writes. -/
def keyOutLen (op : Nat) : Nat := if op = 3 then 5332 else if op = 4 then 60 else 0

/-- The usable slots that an operation uses: the signer, parent and wrapping slot of an update message, or the slot of VERIFY. -/
def State.keyUses (s : State) (op slot : Nat) (input : List Byte) : List Nat :=
  let named := if op = 1 then [beAt input 0x20 2, beAt input 0x28 2, beAt input 0x24 2] else if op = 2 then [slot] else []
  named.filter s.usable

/-- Start a KEY operation from the operation registers, or refuse it (R407, R412, R418, R485). -/
def State.keyStart (s : State) (tamperEntries : Nat) : State :=
  let op := s.rd KEY_OP_CTRL_OP
  let slot := s.rd KEY_OP_CTRL_SLOT
  let refuse (s : State) (r : Nat) : State :=
    (s.wr KEY_OP_STATUS_OUTPUT_VALID 0).answer KEY_OP_STATUS_DONE KEY_OP_STATUS_RESULT r
  let dram := decide (s.rd KEY_OP_CTRL_SRC = 0)
  let len := s.rd KEY_OP_LEN
  let needsIn := decide (op = 1 ∨ op = 2)
  let inAddr := s.keyBuf (s.rd KEY_OP_BASE) len false
  let outAddr := s.keyBuf (s.rd KEY_OP_OUT) (keyOutLen op) true
  if s.on KEY_OP_STATUS_BUSY then s.answer KEY_OP_STATUS_DONE KEY_OP_STATUS_RESULT 0x11
  else if s.on BND_STATUS_BUSY then refuse s 0x11
  else if s.rd KEY_STATUS_STATE ≠ 2 then refuse s 0x12
  else if op = 0 ∨ 5 < op then refuse s 0x13
  else if op = 3 ∧ s.on KEY_POLICY_ATTEST_EN = false then refuse s 0x13
  else if op = 3 ∧ 1048576 ≤ s.rd KEY_ATTEST_NEXT then (refuse s 0x0E).flag KEY_TROUBLE_ATTEST_EXHAUSTED
  else if needsIn && ((dram && (inAddr.isNone || decide (65536 < len))) || (!dram && decide (49152 < len))) then refuse s 0x14
  else if dram && decide (keyOutLen op ≠ 0) && outAddr.isNone then refuse s 0x14
  else
    let input := if needsIn then (if dram then s.dramBytes (inAddr.getD 0) len else s.key.inBuf.take len) else []
    let (q, s) := if op = 3 then s.takeIndex else (0, s)
    let job : KeyJob :=
      { op := op, slot := slot, uses := (s.keyUses op slot input).map (fun n => (n, (s.slot n).gen)), input := input,
        statement := if op = 3 then s.statement q tamperEntries else [], index := q,
        outAddr := if dram then outAddr else none, forced := none }
    ((s.onKey (fun e => { e with job := some job })).begin KEY_OP_STATUS_BUSY).wr KEY_OP_STATUS_OUTPUT_VALID 0

/-- What an operation computes when it finishes: its result, its output and the state (R393, R414, R416, R418). -/
def State.keyRun (s : State) (j : KeyJob) : Nat × List Byte × State :=
  match j.forced with
  | some r => (r, [], s)
  | none =>
    if j.uses.any (fun u => !s.usable u.1 || decide ((s.slot u.1).gen ≠ u.2)) then (0x0C, [], s)
    else match j.op with
    | 1 => let (r, s) := s.keyUpdate j.input; (r, [], s)
    | 2 => let (r, s) := s.keyVerify j.slot j.input; (r, [], s)
    | 3 => (0, j.statement ++ Config.hssSign j.index j.statement, ((s.keyUse 0).2.bump KEY_ATTESTS).keyEvent 9 0 0 0 j.index 0)
    | 4 => (0, Config.attestPublicKey, s)
    | _ => let (r, s) := s.keyDelete j.slot; (r, [], s)

/-- The operation in progress finishes: output, RESULT and DONE (R418, R485). -/
def State.keyComplete (s : State) : State :=
  match s.key.job with
  | none => s
  | some j =>
    let s := s.onKey (fun e => { e with job := none })
    let (r, out, s) := s.keyRun j
    let ok := decide (r = 0) && decide (out ≠ [])
    let s := match j.outAddr with
      | some a => if ok then s.dramWrite a out else s
      | none => s
    let s := s.onKey (fun e => { e with outBuf := if ok then out else [], outOff := 0 })
    (((s.wr KEY_OP_OUT_LEN (if ok then out.length else 0)).wrB KEY_OP_STATUS_OUTPUT_VALID ok).finish
      KEY_OP_STATUS_BUSY KEY_OP_STATUS_DONE KEY_OP_STATUS_RESULT r)

/-- The operation in progress will end with a given result and no output: TAMPER (R414) or SUPPLY (R416). -/
def State.keyForce (s : State) (r : Nat) : State :=
  s.onKey (fun e => { e with job := e.job.map (fun j => { j with forced := some r }) })

/-- KEY_OP_WR appends four input bytes, the first in bits 31:24 (R418). -/
def State.keyWrite (s : State) (v : Nat) : State :=
  if 49152 ≤ s.key.inOff then s
  else s.onKey (fun e => { e with
    inBuf := patch (e.inBuf ++ List.replicate (e.inOff - e.inBuf.length) 0#8) e.inOff (beBytes 4 v), inOff := e.inOff + 4 })

/-- KEY_OP_LEN is written: the KEY_OP_WR offset returns to 0. -/
def State.keyLen (s : State) (v : Nat) : State := (s.wr KEY_OP_LEN v).onKey (fun e => { e with inOff := 0 })

/-- A read of KEY_OP_RD: the next four output bytes, first in bits 31:24; the offset advances (R484). -/
def State.keyRead (s : State) : Nat × State :=
  (beNat (slice (s.key.outBuf ++ List.replicate 4 0#8) s.key.outOff 4),
   (s.onKey (fun e => { e with outOff := e.outOff + 4 })).wr KEY_OP_RD_DATA (beNat (slice s.key.outBuf s.key.outOff 4)))

/-! ## Zeroization and unseal (R389, R390, R413-R415) -/

/-- The LMS engine works: for a VERIFY, an ATTEST, an update message with an HSS signature, a token, or the signature of a load (R407). -/
def State.lmsBusy (s : State) : Bool :=
  (match s.key.job with
    | some j => decide (j.op = 2 ∨ j.op = 3) || (decide (j.op = 1) && decide (beAt j.input 7 1 = 1))
    | none => false) || s.lcs.job.isSome || (s.on BND_STATUS_BUSY && decide (s.rd BND_STATUS_PHASE = 3))

/-- Zeroize: class Z clears every slot but slot 0, class P every slot with PC = 0 (R413). -/
def State.zeroize (s : State) (classP : Bool) : State :=
  let hit (p : Nat × KeySlot) : Bool := decide (p.1 ≠ 0) && decide (p.2.state ≠ 0) && !(classP && p.2.pc)
  let n := (s.key.slots.filter hit).length
  ((((s.onKey (fun e => { e with
      slots := e.slots.map (fun p => if hit p then (p.1, { p.2 with state := 2, material := [] }) else p),
      rewrite := true })).bump KEY_ZEROIZES).flag KEY_TROUBLE_ZEROIZED).keyEvent 7 0 0 0 n 0)

/-- Unsealing completes (R390): a pending zeroization first, then the reset count, the unwrap and the limits. `failed` are
the slots whose record does not unwrap. -/
def State.unseal (s : State) (failed : List Nat) : State :=
  if s.rd KEY_STATUS_STATE ≠ 1 then s
  else
    let s := if s.on KEY_STATUS_PENDING_ZEROIZE then (s.zeroize (s.on LCS_TAMPER_AON_CLASS_AON)).wr KEY_STATUS_PENDING_ZEROIZE 0 else s
    let s := if s.key.aonLost then
        (if s.key.lossZeroize then s.zeroize false else s).flag KEY_TROUBLE_AON_LOSS else s
    let s := s.wr KEY_RESET_COUNT (s.rd KEY_RESET_COUNT + 1)
    let rc := s.rd KEY_RESET_COUNT
    let lost := s.key.ramLost
    let s := s.onKey (fun e => { e with
      slots := e.slots.map (fun p =>
        let k := p.2
        let k := if decide (p.1 ≠ 0) && decide (k.state ≠ 0) && failed.contains p.1 then { k with state := 2, material := [] } else k
        let k := if lost && decide (k.state ≠ 0) then { k with useCount := k.useMram + 65536, useMram := k.useMram + 65536 } else k
        (p.1, k)), ramLost := false, aonLost := false })
    let s := s.flagIf (failed ≠ []) KEY_TROUBLE_STORE_ECC
    let s := s.key.slots.foldl (fun s p =>
      let s := s.keyExpire p.1
      let k := s.slot p.1
      if k.state = 1 ∧ k.resetLimit ≠ 0 ∧ k.resetLimit ≤ rc - k.resetAt then
        ((s.setSlot p.1 { k with state := 3 }).flag KEY_TROUBLE_EXPIRED).keyEvent 5 0x0D p.1 k.parent 0 0
      else s) s
    ((s.wr KEY_ATTEST_NEXT (s.rd KEY_ATTEST_FRONT)).attestLow).wr KEY_STATUS_STATE 2

/-- A tamper event stops an unseal in progress: the key RAM is cleared until the next reset (R390). -/
def State.unsealStop (s : State) : State :=
  if s.rd KEY_STATUS_STATE = 1 then
    (((s.onKey (fun e => { e with ramLost := true })).wr KEY_STATUS_STATE 3).flag KEY_TROUBLE_UNSEAL_STOPPED).keyEvent 10 0 0 0 0 0
  else s

end Sys2Proof.Machine
end

