-- ==== Sys2Proof/Machine/SwcOps.lean ====
section
/-! DEFINITION. The switch core and the transmit-timestamp queues (chapters "The switch core", R239-R267, and "Time base,
timestamps and timed launch", R301-R308). -/

namespace Sys2Proof.Machine

open Sys2Proof Reg

/-! ## Rates and lengths -/

/-- Time of one octet on the switch side of a port, in ps (R239). Speed codes: 1 for 1 Gbit/s, 2 for 10, 3 for 25. -/
def State.octetPs (s : State) (p : Nat) : Nat :=
  if p = 18 then 80 else if p = 19 then 800 else if p = 16 ∨ p = 17 then 320
  else match s.rdI MAC_P_CFG_SPEED p with
    | 1 => 8000
    | 3 => 320
    | _ => 800

/-- Time of one octet on the line of a port, in ps: port A runs at 10 Mbit/s (R268). -/
def State.lineOctetPs (s : State) (p : Nat) : Nat := if p = 19 then 800000 else s.octetPs p

/-- Time from the start of a frame on a port to the end of its SFD at the port's boundary, in ns: preamble and SFD, and the transmit
latency of MAC_P_TS_LAT (R272, R301). I0 has no line. -/
def State.sfdLead (s : State) (p : Nat) : Nat :=
  if p = 18 then 0 else (8 * s.lineOctetPs p + 100 * s.rdI MAC_P_TS_LAT_TX_LAT p) / 1000

/-- L_max of a port (R240); I0 has no MAC fields and takes the largest settable length. -/
def State.maxLen (s : State) (p : Nat) : Nat := if p = 18 then 9216 else s.rdI MAC_P_CFG_MAX_LEN p

/-- Length of a frame of which `bs` are the octets before its FCS (R240). -/
def frameLen (bs : List Byte) : Nat := bs.length + 4

/-- Cells of a frame of `n` octets (R251). -/
def cellsOf (n : Nat) : Nat := (n + 63) / 64

/-! ## Transmit-timestamp queues (R304-R306) -/

/-- Entries stored at a port, oldest first. -/
def State.tsqOf (s : State) (p : Nat) : List Nat := (s.tsq.entries.filter (fun e => e.1 == p)).map (fun e => e.2)

/-- An entry falls due at a port: it is stored, or counted as missing when 64 are unread (R305, R306). -/
def State.tsqPush (s : State) (p : Nat) (c : Copy) (cause : Nat) (intr : Bool) : State :=
  match c.ts with
  | none => s
  | some (desc, folio) =>
    let n := s.tsq.seq.get p 0
    let s := s.onTsq (fun q => { q with seq := q.seq.put p 0 ((n + 1) % 65536) })
    if 64 ≤ (s.tsqOf p).length then
      ((s.bumpI TIM_P_TSQ_LOST p).bumpI TIM_P_TSQ_STATUS_MISSING p).flag TIM_TROUBLE_TSQ_OVERFLOW
    else
      let gap := s.rdI TIM_P_TSQ_STATUS_MISSING p
      let e := Ent.TSQ_TS.mk' (if cause = 0 then c.egressTs else 0) + Ent.TSQ_DESC.mk' desc + Ent.TSQ_FOLIO.mk' folio +
        Ent.TSQ_CLASS.mk' c.cls + Ent.TSQ_CAUSE.mk' cause + Ent.TSQ_TIME_VALID.mk' (b2n (decide (cause = 0))) +
        Ent.TSQ_FLUSHED.mk' (b2n (decide (cause = 1))) + Ent.TSQ_GAP.mk' (b2n (decide (gap ≠ 0))) +
        Ent.TSQ_INTR.mk' (b2n intr) + Ent.TSQ_STOMPED.mk' (b2n (c.stomped && decide (cause = 0))) +
        Ent.TSQ_GAP_COUNT.mk' gap + Ent.TSQ_SEQ.mk' n
      let s := s.onTsq (fun q => { q with entries := q.entries ++ [(p, e)] })
      ((s.wrI TIM_P_TSQ_STATUS_MISSING p 0).wrI TIM_P_TSQ_STATUS_COUNT p (s.tsqOf p).length).bumpI TIM_P_TS_COUNT p

/-- POP latches the oldest entry of a port and removes it; with none stored nothing is latched (R306). -/
def State.tsqPop (s : State) (p : Nat) : State :=
  match s.tsq.entries.find? (fun e => e.1 == p) with
  | none => s.wrI TIM_P_TSQ_STATUS_LATCHED p 0
  | some e =>
    let s := s.onTsq (fun q => { q with entries := q.entries.erase e })
    let s := (List.range 4).foldl (fun s k => s.wrK TIM_P_TSQ_DATA p k (bits e.2 (32 * k) 32)) s
    (s.wrI TIM_P_TSQ_STATUS_LATCHED p 1).wrI TIM_P_TSQ_STATUS_COUNT p (s.tsqOf p).length

/-! ## The buffer (R256, R257) -/

/-- Reserve of a class. -/
def State.reserve (s : State) (c : Nat) : Nat := Ent.CLAS_RESERVE.of (s.ent 0xA04 c)

/-- Cells that a class holds. -/
def State.classUsed (s : State) (c : Nat) : Nat :=
  (s.swc.copies.filter (fun x => x.cls == c)).foldl (fun n x => n + x.cells) 0

/-- Cells in use. -/
def State.cellsUsed (s : State) : Nat := s.swc.copies.foldl (fun n x => n + x.cells) 0

/-- Free cells of the shared pool: what the reserves leave, less what classes hold above their reserve. -/
def State.poolFree (s : State) : Nat :=
  131072 - (List.range 8).foldl (fun n c => n + max (s.reserve c) (s.classUsed c)) 0

/-- Free cells that a class can take without a push-out. -/
def State.cellsFor (s : State) (c : Nat) : Nat := s.poolFree + (s.reserve c - s.classUsed c)

/-- Cells in one egress queue. -/
def State.queueCells (s : State) (p c : Nat) : Nat :=
  (s.swc.copies.filter (fun x => x.port == p && x.cls == c && x.st == 1)).foldl (fun n x => n + x.cells) 0

/-- Refresh the buffer and queue-depth registers of a port. -/
def State.swcRefresh (s : State) (p : Nat) : State :=
  let used := s.cellsUsed
  let s := (s.wr SWC_BUF_FREE (131072 - used)).wr SWC_BUF_PEAK_PEAK_USED (max used (s.rd SWC_BUF_PEAK_PEAK_USED))
  let s := s.wrBI SWC_P_STATE_SENDING p (s.swc.copies.any (fun x => x.port == p && x.st == 2))
  (List.range 4).foldl (fun s k =>
    (s.wrK SWC_P_QDEPTH_DEPTH_LO p k (satNat 16 (s.queueCells p (2 * k)))).wrK SWC_P_QDEPTH_DEPTH_HI p k
      (satNat 16 (s.queueCells p (2 * k + 1)))) s

/-- Take a copy out of the buffer. Its cells that are in the Spine keep their sequence numbers and cross it empty (R254, log entry
35). -/
def State.dropCopy (s : State) (c : Copy) : State :=
  (s.onSwc (fun w => { w with copies := w.copies.filter (fun x => !(x.id == c.id)), released := w.released.erase c.id })).swcRefresh c.port

/-- Discard a copy after its acceptance, with the cause of its timestamp entry (R259, R304). -/
def State.discard (s : State) (c : Copy) (cause : Nat) : State := (s.dropCopy c).tsqPush c.port c cause false

/-- Whether a cell of a copy is still in the Spine: an input queue, a lane or a resequencer. -/
def SwcS.crossing (w : SwcS) (id : Nat) : Bool :=
  w.spineIn.any (fun c => c.copy == id) || w.lanes.any (fun l => l.2.copy == id) || w.held.any (fun c => c.copy == id)

/-- The tail of an egress queue among the copies that have arrived there whole. -/
def State.queueTail (s : State) (p c : Nat) : Option Copy :=
  (s.swc.copies.filter (fun x => x.port == p && x.cls == c && x.st == 1 && !s.swc.crossing x.id)).getLast?

/-- The tail copies of egress queues that a frame of class `c` may push out (R256). -/
def State.victims (s : State) (c : Nat) : List Copy :=
  s.swc.copies.filter (fun x =>
    decide (x.cls < c) && decide (s.reserve x.cls < s.classUsed x.cls) && decide (s.queueTail x.port x.cls = some x))

/-- Whether victim `a` goes before victim `b`: in HOLD first, then the lowest class, then the fullest queue (R256). -/
def State.victimBefore (s : State) (a b : Copy) : Bool :=
  let ha := decide (s.rdI SWC_P_STATE a.port = 2)
  let hb := decide (s.rdI SWC_P_STATE b.port = 2)
  if ha != hb then ha else if a.cls ≠ b.cls then decide (a.cls < b.cls)
  else decide (s.queueCells b.port b.cls < s.queueCells a.port a.cls)

/-- The victim of a push-out. -/
def State.victim (s : State) (c : Nat) : Option Copy :=
  (s.victims c).foldl (fun best x => match best with
    | none => some x
    | some b => if s.victimBefore x b then some x else best) none

/-- Find `n` cells for class `c`, pushing frames out one at a time; `none` where no victim is left (R256). -/
def State.makeRoom : Nat → State → Nat → Nat → Bool × State
  | 0, s, n, c => (decide (n ≤ s.cellsFor c), s)
  | fuel + 1, s, n, c =>
    if n ≤ s.cellsFor c then (true, s)
    else match s.victim c with
      | none => (false, (s.bump SWC_BUF_DROP).flag SWC_TROUBLE_BUF_DROP)
      | some v =>
        makeRoom fuel ((((s.discard v 3).bump SWC_PUSHOUT).flag SWC_TROUBLE_PUSHOUT).bumpI SWC_P_PUSHED v.port) n c

/-! ## Frame contents -/

/-- Whether octets 12 and 13 are an 802.1Q tag. -/
def hasTag (bs : List Byte) : Bool := decide (beAt bs 12 2 = 0x8100)

/-- VID of the tag; 0 without one. -/
def tagVid (bs : List Byte) : Nat := if hasTag bs then beAt bs 14 2 % 4096 else 0

/-- PCP of the tag; 0 without one. -/
def tagPcp (bs : List Byte) : Nat := if hasTag bs then beAt bs 14 2 / 8192 else 0

/-- The offset of the EtherType after at most one 802.1Q tag. -/
def etypeOff (bs : List Byte) : Nat := if hasTag bs then 16 else 12

/-- The EtherType after at most one 802.1Q tag and an HSR tag, and the offset of what follows it (R266). -/
def innerType (bs : List Byte) : Nat × Nat :=
  let o := etypeOff bs
  if beAt bs o 2 = 0x892F then (beAt bs (o + 6) 2, o + 8) else (beAt bs o 2, o + 2)

/-- Whether a frame is a MAC control frame, which the MAC consumes (R271). -/
def isMacControl (bs : List Byte) : Bool := decide (beAt bs 12 2 = 0x8808)

/-- Whether a frame is a peer-delay message of PTP version 2: Pdelay_Req, Pdelay_Resp or Pdelay_Resp_Follow_Up, which are
link-local (R267). -/
def isPeerDelay (bs : List Byte) : Bool :=
  let (ty, o) := innerType bs
  decide (ty = 0x88F7) && decide (beAt bs (o + 1) 1 % 16 = 2) && ([2, 3, 10] : List Nat).contains (beAt bs o 1 % 16)

/-- Whether the frame ends in a valid PRP trailer: suffix 0x88FB and a size field that is true (R241, R248). The LSDU
counts the octets after the EtherType, trailer included. PRESUMED (IEC 62439-3), log entry 12. -/
def prpTrailer (bs : List Byte) : Bool :=
  decide (20 ≤ bs.length) && decide (beAt bs (bs.length - 2) 2 = 0x88FB) &&
  decide (beAt bs (bs.length - 4) 2 % 4096 = bs.length - (etypeOff bs + 2))

/-- The frame as it leaves a port: tagged or not under UNTAG, padded to 64 octets (R241, R247). -/
def State.asSent (s : State) (bs : List Byte) (inPort outPort vid : Nat) : List Byte :=
  let bare := if hasTag bs then bs.take 12 ++ bs.drop 16 else bs
  let untag := bitAt (Ent.VLAN_UNTAG.of (s.ent 0xA02 vid)) outPort
  let pcp := if hasTag bs then tagPcp bs else Ent.PORT_DEFAULT_PCP.of (s.ent 0xA03 inPort)
  let tagged := bare.take 12 ++ beBytes 2 0x8100 ++ beBytes 2 (pcp * 8192 + vid) ++ bare.drop 12
  if untag then
    if bare.length < 60 then (if prpTrailer bs then tagged else bare ++ List.replicate (60 - bare.length) 0#8) else bare
  else tagged

/-! ## Redundancy pairs (R248-R250) -/

/-- The enabled redundancy pair that a port belongs to, with its mode: 1 PRP, 2 HSR. -/
def State.pairOf (s : State) (p : Nat) : Option (Nat × Nat) :=
  ((List.range 6).find? (fun k => decide (s.rdI SWC_RED_PAIR_MODE k = 1 ∨ s.rdI SWC_RED_PAIR_MODE k = 2) &&
    decide (s.rdI SWC_RED_PAIR_PORT_A k = p ∨ s.rdI SWC_RED_PAIR_PORT_B k = p))).map
    (fun k => (k, s.rdI SWC_RED_PAIR_MODE k))

/-- The other port of a pair. -/
def State.otherPort (s : State) (k p : Nat) : Nat :=
  if s.rdI SWC_RED_PAIR_PORT_A k = p then s.rdI SWC_RED_PAIR_PORT_B k else s.rdI SWC_RED_PAIR_PORT_A k

/-- The module's own address: SRC_MAC of the time base, octets 0-1 high (R250). -/
def State.ownMac (s : State) : Nat := s.rd TIM_SRC_MAC_HI * 2 ^ 32 + s.rd TIM_SRC_MAC_LO

/-- A PRP trailer for a frame on LAN A or B (R248). -/
def withPrp (bs : List Byte) (seq : Nat) (lanB : Bool) : List Byte :=
  let bs := bs ++ List.replicate (54 - bs.length) 0#8
  bs ++ beBytes 2 seq ++ beBytes 2 ((if lanB then 0xB else 0xA) * 4096 + (bs.length + 6 - (etypeOff bs + 2)) % 4096) ++
    beBytes 2 0x88FB

/-- An HSR tag for a frame on a path (R249). -/
def withHsr (bs : List Byte) (seq path : Nat) : List Byte :=
  let o := etypeOff bs
  bs.take o ++ beBytes 2 0x892F ++ beBytes 2 (path * 4096 + (bs.length - o + 4) % 4096) ++ beBytes 2 seq ++ bs.drop o

/-- Sequence number of a received HSR frame, if tagged. -/
def hsrSeq (bs : List Byte) : Option Nat :=
  let o := etypeOff bs
  if beAt bs o 2 = 0x892F then some (beAt bs (o + 4) 2) else none

/-- Whether a received HSR frame is a duplicate in the pair's discard table (R249). -/
def State.hsrDup (s : State) (k : Nat) (bs : List Byte) : Bool :=
  match hsrSeq bs with
  | none => false
  | some q => s.swc.hsrSeen.any (fun e => e.1 == k && e.2.1 == beAt bs 6 6 && e.2.2.1 == q &&
      decide (s.now < e.2.2.2 + 20000000))

/-- Enter a received HSR frame in the pair's discard table of 64 entries (R249). -/
def State.hsrEnter (s : State) (k : Nat) (bs : List Byte) : State :=
  match hsrSeq bs with
  | none => s
  | some q => s.onSwc (fun w =>
      let mine := (w.hsrSeen.filter (fun e => e.1 == k)) ++ [(k, beAt bs 6 6, q, s.now)]
      { w with hsrSeen := w.hsrSeen.filter (fun e => !(e.1 == k)) ++ mine.drop (mine.length - 64) })

/-! ## The forwarding decision (R242-R247) -/

/-- The valid forwarding entry for a destination address and VID. -/
def State.lookupFwd (s : State) (mac vid : Nat) : Option Nat :=
  ((s.tab 0xA01).active.find? (fun e => Ent.FWD_VALID.on e.2 && decide (Ent.FWD_VID.of e.2 = vid) &&
    decide (Ent.FWD_DST_MAC.of e.2 = mac))).map (fun e => e.2)

/-- The outcome of a forwarding decision: the destinations and class, or the counter of the step that emptied them. -/
inductive Decision where
  | drop (counter : Fld)
  | send (vid dests cls folios : Nat) (toCtl toTim ctDis : Bool)
  deriving DecidableEq, Repr

/-- Bitwise "and not" over 20 ports. -/
def maskOff (m p : Nat) : Nat := setBits m p 1 0

/-- Whether a frame is a duplicate at the HSR pair on whose port it was received (R249). -/
def State.dupAt (s : State) (p : Nat) (bs : List Byte) : Bool :=
  match s.pairOf p with
  | some (k, 2) => s.hsrDup k bs
  | _ => false

/-- Steps 1 to 5 and 7 of R242 for a frame that entered on a port, where `dup` says whether it is taken as an HSR duplicate; step 6
follows in `State.dropDown`. -/
def State.decideWith (s : State) (dup : Bool) (p : Nat) (bs : List Byte) : Decision :=
  let pe := s.ent 0xA03 p
  let vid := if tagVid bs = 0 then Ent.PORT_PVID.of pe else tagVid bs
  let accept := Ent.PORT_ACCEPT.of pe
  let prio := decide (tagVid bs = 0)
  let ve := s.ent 0xA02 vid
  let member := if Ent.VLAN_VALID.on ve then Ent.VLAN_MEMBER.of ve else 0
  let mac := beAt bs 0 6
  let entry := s.lookupFwd mac vid
  let cls := match entry with
    | some e => if Ent.FWD_CLASS_SET.of e < 8 then Ent.FWD_CLASS_SET.of e
                else if hasTag bs then bits (Ent.PORT_PCP_MAP.of pe) (3 * tagPcp bs) 3 else Ent.PORT_DEFAULT_CLASS.of pe
    | none => if hasTag bs then bits (Ent.PORT_PCP_MAP.of pe) (3 * tagPcp bs) 3 else Ent.PORT_DEFAULT_CLASS.of pe
  if (accept = 1 ∧ prio = true) ∨ (accept = 2 ∧ prio = false) then .drop SWC_VLAN_DROP
  else if bitAt member p = false then .drop SWC_VLAN_DROP
  else
    let linkLocal := decide (0x0180C2000000 ≤ mac ∧ mac ≤ 0x0180C200000F) || isPeerDelay bs
    let base := match entry with
      | some e => if Ent.FWD_DROP.on e then 0 else
          if linkLocal then (if bitAt (Ent.FWD_PORT_MASK.of e) 18 then 2 ^ 18 else 0)
          else Ent.FWD_PORT_MASK.of e &&& member
      | none => if linkLocal then 0 else Ent.VLAN_FLOOD.of ve &&& member
    let noSelf := maskOff base p
    let noPair := match s.pairOf p with
      | some (k, 1) => maskOff noSelf (s.otherPort k p)
      | some (k, _) =>
        let ring := s.otherPort k p
        let own := decide (beAt bs 6 6 = s.ownMac)
        let onlyI0 := decide (base = 2 ^ 18) && decide (mac / 2 ^ 40 % 2 = 0)
        let dropped := match entry with
          | some e => Ent.FWD_DROP.on e
          | none => false
        let fwd := if own || onlyI0 || linkLocal || dropped || dup then 0 else 2 ^ ring
        fwd ||| (if dup then 0 else noSelf &&& 2 ^ 18)
      | none => noSelf
    if noPair = 0 then .drop SWC_NO_DEST
    else match entry with
      | some e => .send vid noPair cls (Ent.FWD_FOLIO_MASK.of e) (Ent.FWD_TO_CTL.on e) (Ent.FWD_TO_TIM.on e) (Ent.FWD_CT_DIS.on e)
      | none => .send vid noPair cls (Ent.VLAN_FLOOD_FOLIOS.of ve) false false false

/-- Steps 1 to 5 and 7 of R242 for a frame that entered on a port. -/
def State.decide0 (s : State) (p : Nat) (bs : List Byte) : Decision := s.decideWith (s.dupAt p bs) p bs

/-- Step 6 of R242: ports in state DOWN are removed, and each copy removed is counted. -/
def State.dropDown (s : State) (dests : Nat) : Nat × State :=
  (List.range 20).foldl (fun (a : Nat × State) p =>
    if bitAt a.1 p && decide (p ≠ 18) && decide (s.rdI SWC_P_STATE p = 0)
    then (maskOff a.1 p, a.2.bump SWC_DOWN_DROP) else a) (dests, s)

/-! ## Admission -/

/-- Put a cell of a copy into its input's queue for the Spine, with its sequence number (R253, R254). The forwarding decision takes
40 ns from the arrival of the first cell (R242). -/
def State.spineEnter (s : State) (c : Copy) : State :=
  s.onSwc (fun w =>
    let k := 20 * c.inPort + c.port
    let q := w.seqIn.get k 0
    { w with spineIn := w.spineIn ++ [{ copy := c.id, inp := c.inPort, out := c.port, seq := q, cls := c.cls, at_ := max s.now (c.firstAt + 40) }],
             seqIn := w.seqIn.put k 0 ((q + 1) % 4096) })

/-- Put the next `n` cells of a copy into its input's queue, in frame order (R251, R253). -/
def State.enterCells (s : State) (c : Copy) (n : Nat) : State :=
  ((List.range n).foldl (fun s _ => s.spineEnter c) s).onSwc (fun w => { w with
    copies := w.copies.map (fun x => if x.id = c.id then { x with entered := x.entered + n } else x) })

/-- The first cell of a stored copy reaches its egress queue, and the copy is queued: QUEUE_CAP is tested (R257). A copy whose
port has become DOWN since the decision is removed as at step 6 of R242 (DEDUCED from R263 and R265, log entry 35). -/
def State.arrive (s : State) (c : Copy) : State :=
  let cap := Ent.CLAS_QUEUE_CAP.of (s.ent 0xA04 c.cls)
  if c.port ≠ 18 ∧ s.rdI SWC_P_STATE c.port = 0 then (s.bump SWC_DOWN_DROP).discard c 1
  else if cap ≠ 0 ∧ cap < s.queueCells c.port c.cls + c.cells then (s.bump SWC_QCAP_DROP).discard c 4
  else (s.onSwc (fun w => { w with copies := w.copies.filter (fun x => !(x.id == c.id)) ++ [{ c with st := 1 }] })).swcRefresh c.port

/-- A copy that is whole and checked is taken into the buffer, and its cells join the input's queue for the Spine: length at egress,
cells, push-out (R240, R251, R256). -/
def State.admitCopy (s : State) (c : Copy) : State :=
  let n := frameLen c.bytes
  let cells := cellsOf n
  if c.port ≠ 18 ∧ s.rdI SWC_P_STATE c.port = 0 then (s.bump SWC_DOWN_DROP).tsqPush c.port c 1 false
  else if s.maxLen c.port < n then (s.bump SWC_OVERSIZE).flag SWC_TROUBLE_LENGTH
  else match State.makeRoom (s.swc.copies.length + 1) s cells c.cls with
    | (false, s) => s.tsqPush c.port c 3 false
    | (true, s) =>
      let c := { c with id := s.swc.nextCopy, cells := cells, st := 5, complete := true, entered := 0 }
      ((s.onSwc (fun w => { w with copies := w.copies ++ [c], nextCopy := w.nextCopy + 1 })).enterCells c cells).swcRefresh c.port

/-- The copies of a frame for the ports in `dests`, each as sent on its port (R248, R249). -/
def State.copiesFor (s : State) (bs : List Byte) (inPort vid dests : Nat) (proto : Copy) : List Copy :=
  (List.range 20).filterMap (fun p =>
    if bitAt dests p then
      let out := if p = 18 then bs else s.asSent bs inPort p vid
      let out := if inPort = 18 then
          match s.pairOf p with
          | some (k, 1) =>
            if bitAt dests (s.otherPort k p) then
              withPrp out (s.swc.pairSeq.getD k 0) (decide (s.rdI SWC_RED_PAIR_PORT_B k = p)) else out
          | some (k, _) => withHsr out (s.swc.pairSeq.getD k 0) (b2n (decide (s.rdI SWC_RED_PAIR_PORT_B k = p)))
          | none => out
        else out
      some { proto with port := p, bytes := out }
    else none)

/-- Advance the sequence number of each pair that a frame from I0 goes to (R248, R249). -/
def State.pairAdvance (s : State) (dests : Nat) : State :=
  s.onSwc (fun w => { w with pairSeq := (List.range 6).map (fun k =>
    let q := w.pairSeq.getD k 0
    let a := s.rdI SWC_RED_PAIR_PORT_A k
    let b := s.rdI SWC_RED_PAIR_PORT_B k
    let m := s.rdI SWC_RED_PAIR_MODE k
    if (m = 1 ∧ bitAt dests a = true ∧ bitAt dests b = true) ∨ (m = 2 ∧ (bitAt dests a = true ∨ bitAt dests b = true))
    then (q + 1) % 65536 else q) })

/-- In HSR mode a frame from I0 for the pair leaves on both ports (R249). -/
def State.hsrBoth (s : State) (dests : Nat) : Nat :=
  (List.range 6).foldl (fun d k =>
    let a := s.rdI SWC_RED_PAIR_PORT_A k
    let b := s.rdI SWC_RED_PAIR_PORT_B k
    if s.rdI SWC_RED_PAIR_MODE k = 2 ∧ (bitAt d a = true ∨ bitAt d b = true) then d ||| 2 ^ a ||| 2 ^ b else d) dests

/-- A blank copy that entered on a port now. -/
def State.proto (s : State) (inPort cls : Nat) : Copy :=
  { id := 0, port := 0, cls := cls, inPort := inPort, bytes := [], firstAt := s.now, inResid := s.residNs, rxTs := s.taiNs,
    cells := 0, st := 1, complete := true, stomped := false, ts := none, launch := none, gated := false, egressTs := 0,
    fragments := 0, sentOctets := 0, folios := 0, toCtl := false, toTim := false }

/-- A frame enters the switch at I0 from inside the module: publishers, folio transmit rings, the time base. It takes the
forwarding decision of R242 with its own traffic class (R170, R313). The answer says whether the switch accepted it. -/
def State.inject (s : State) (bs : List Byte) (cls : Nat) (gated : Bool) (ts : Option (Nat × Nat)) (launch : Option Nat) :
    Bool × State :=
  if s.on SWC_CTRL_ENABLE = false ∨ s.loaded = false ∨ s.clk 14 = false then (false, s)
  else match s.decide0 18 bs with
    | .drop f => (false, s.bump f)
    | .send vid dests _ _ _ _ _ =>
      let (dests, s) := s.dropDown (s.hsrBoth dests)
      if dests = 0 then (false, s)
      else
        let proto := { s.proto 18 cls with gated := gated, ts := ts, launch := launch }
        let cs := s.copiesFor bs 18 vid dests proto
        (true, cs.foldl State.admitCopy (s.pairAdvance dests))

/-- Send a frame directly on one port, past the forwarding decision: supervision and the time base's own frames (R250,
R293). -/
def State.injectPort (s : State) (bs : List Byte) (cls p : Nat) : State :=
  if p ≠ 18 ∧ s.rdI SWC_P_STATE p = 0 then s.bump SWC_DOWN_DROP
  else s.admitCopy { s.proto 18 cls with port := p, bytes := bs ++ List.replicate (60 - bs.length) 0#8 }

/-! ## Cut-through (R260, R261) -/

/-- Cells that a cut-through copy must have in order before it starts (R261): max of CT_MIN_CELLS and the lead. -/
def State.nCt (s : State) (p : Nat) : Nat :=
  let lead := s.rdOr SWC_CT_CFG_CT_LEAD_NS 120
  let bitPs := s.octetPs p
  max (max 2 (s.rd SWC_CT_CFG_CT_MIN_CELLS)) ((lead * 8000 + 512 * bitPs - 1) / (512 * bitPs))

/-- Whether an output is idle but for a copy: not sending, its queues empty, and no cell of another copy for it in a lane or a
resequencer (R260). -/
def State.outIdle (s : State) (p id : Nat) : Bool :=
  !(s.swc.copies.any (fun c => c.port == p && !(c.id == id) && decide (1 ≤ c.st ∧ c.st ≤ 4))) &&
  !(s.swc.lanes.any (fun l => l.2.out == p && !(l.2.copy == id))) && !(s.swc.held.any (fun c => c.out == p && !(c.copy == id)))

/-- Whether a copy for port `p` may be kept for cut-through (R260). -/
def State.mayCut (s : State) (r : RxFrame) (p : Nat) : Bool :=
  decide (r.port < 18) && decide (p < 18) && s.on SWC_CTRL_CT_EN && Ent.CLAS_CT_EN.on (s.ent 0xA04 r.cls) &&
  Ent.PORT_CT_EN.on (s.ent 0xA03 p) && !r.ctDis && decide (s.rdI SWC_P_STATE p = 1) &&
  s.outIdle p s.swc.nextCopy && decide (s.octetPs r.port ≤ s.octetPs p) &&
  decide (cellsOf (s.maxLen p) ≤ s.cellsFor r.cls)

/-- The cell that an input moves into the lane it faces in a slot: among the heads of its per-output queues whose output has room in
the lane, the highest class, then the oldest (R253). A cell counts that waited when the slot started. -/
def spinePick (w : SwcS) (start inp lane : Nat) : Option SpineCell :=
  let heads := (List.range 20).filterMap (fun o => w.spineIn.find? (fun c => c.inp == inp && c.out == o))
  let open_ := heads.filter (fun c => decide (c.at_ ≤ start) &&
    decide ((w.lanes.filter (fun l => l.1 == lane && l.2.out == c.out)).length < 8))
  open_.foldl (fun best c => match best with
    | none => some c
    | some b => if b.cls < c.cls ∨ (b.cls = c.cls ∧ c.at_ < b.at_) then some c else best) none

/-- One move of an input in slot `t` (R252, R253). -/
def spineInput (t start : Nat) (w : SwcS) (inp : Nat) : SwcS :=
  let lane := (inp + t) % 20
  match spinePick w start inp lane with
  | none => w
  | some c => { w with spineIn := w.spineIn.erase c, lanes := w.lanes ++ [(lane, c)] }

/-- Release from the resequencer of a pair every held cell that is next in order (R254). -/
def spineRelease : Nat → SwcS → Nat → Nat → SwcS
  | 0, w, _, _ => w
  | fuel + 1, w, inp, out =>
    let k := 20 * inp + out
    match w.held.find? (fun c => c.inp == inp && c.out == out && c.seq == w.seqOut.get k 0) with
    | none => w
    | some c => spineRelease fuel
        { w with held := w.held.erase c, seqOut := w.seqOut.put k 0 ((c.seq + 1) % 4096),
                 released := if w.copies.any (fun x => x.id == c.copy) then w.released.put c.copy 0 (w.released.get c.copy 0 + 1)
                             else w.released } inp out

/-- One move of a lane in slot `t`: one cell to the output it faces, into that output's resequencer (R252, R254). -/
def spineLane (t : Nat) (w : SwcS) (lane : Nat) : SwcS :=
  let out := (lane + t) % 20
  match w.lanes.find? (fun l => l.1 == lane && l.2.out == out) with
  | none => w
  | some l =>
    let w := { w with lanes := w.lanes.erase l, held := w.held ++ [l.2] }
    spineRelease (w.held.length + 1) w l.2.inp out

/-- Slot `t` of the Spine, which began at fabric time `start`: the lanes move what they hold, then the inputs fill them (R252). -/
def spineSlot (w : SwcS) (t start : Nat) : SwcS :=
  (List.range 20).foldl (spineInput t start) ((List.range 20).foldl (spineLane t) w)

/-- The cells that have arrived of the frames in reception join the Spine, for the copies that are kept for cut-through or have
started (R251, R260): one more each 64 octet times after the first. -/
def State.spineFeed (s : State) : State :=
  s.swc.rx.foldl (fun s r =>
    (s.swc.copies.filter (fun c => c.inPort == r.port && !c.complete && c.firstAt == r.firstAt)).foldl (fun s c =>
      s.enterCells c (min c.cells (1 + (s.now - r.firstAt) * 1000 / (64 * s.octetPs r.port)) - c.entered)) s) s

/-- The copies whose first cell a resequencer has released are queued (R257). -/
def State.spineArrivals (s : State) : State :=
  (s.swc.copies.filter (fun c => c.st == 5 && decide (1 ≤ s.swc.released.get c.id 0))).foldl State.arrive s

/-- A ns of the switch clock: each fifth ends a slot of the Spine (R251, R252). The slots count from 0 each time the clock starts. -/
def State.spineTick (s : State) : State :=
  if s.clk 14 = false then s.onSwc (fun w => { w with spineNs := 0 })
  else
    let s := s.onSwc (fun w => { w with spineNs := w.spineNs + 1 })
    if s.swc.spineNs % 5 ≠ 0 then s
    else (s.spineFeed.onSwc (fun w => spineSlot w (w.spineNs / 5 - 1) (s.now - 5))).spineArrivals

/-! ## Reception -/

/-- A copy is set aside for cut-through, with the cells of the longest frame, and its first cell joins the Spine (R251, R260). -/
def State.keepCut (s : State) (r : RxFrame) (bs : List Byte) (vid o : Nat) : State :=
  let c : Copy := { s.proto r.port r.cls with
    port := o, bytes := s.asSent bs r.port o vid, cells := cellsOf (s.maxLen o), st := 0, complete := false, id := s.swc.nextCopy,
    inResid := r.inResid, rxTs := r.rxTs }
  let s := s.onSwc (fun w => { w with
    copies := w.copies ++ [c], nextCopy := w.nextCopy + 1,
    rx := w.rx.map (fun x => if x.port = r.port then { x with dests := maskOff x.dests o } else x) })
  (s.enterCells c 1).swcRefresh o

/-- The frame's first 64 bytes have arrived: the decision is taken and the copies that may cut through are set aside (R242,
R260). Frames of length below 64 octets never reach a decision; a MAC control frame is the MAC's own (R271). Outside RUN a frame
from a line crosses to I0 and the Supervisor's rings only (R424). `ago` is how long ago the end of its SFD, of the first fragment's
where it came in fragments, passed the MAC; the stamps have the receive latency removed (R272, R301). -/
def State.ingress (s : State) (p : Nat) (bs : List Byte) (ago : Nat) : State :=
  if s.on SWC_CTRL_ENABLE = false ∨ s.loaded = false ∨ s.clk 14 = false ∨ s.swc.rx.any (fun r => r.port == p) = true then s
  else if isMacControl bs = true ∨ frameLen bs < 64 then s
  else
    let dup := s.dupAt p bs
    match s.decide0 p bs with
    | .drop f => (s.bumpIf (dup && decide (s.decideWith false p bs ≠ .drop f)) SWC_HSR_DUP).bump f
    | .send _ dests cls folios toCtl toTim ctDis =>
      let vid := if tagVid bs = 0 then Ent.PORT_PVID.of (s.ent 0xA03 p) else tagVid bs
      let s := s.bumpIf dup SWC_HSR_DUP
      let s := match s.pairOf p with
        | some (k, 2) => if dup then s else s.hsrEnter k bs
        | _ => s
      let quiet := decide (s.power ≠ 3)
      let dests := if quiet then dests &&& 2 ^ 18 else dests
      let folios := if quiet then folios % 2 else folios
      let (dests, s) := s.dropDown dests
      let lat := ago + s.rdI MAC_P_TS_LAT_RX_LAT p / 10
      let r : RxFrame := { port := p, firstAt := s.now, inResid := s.residNs - lat, rxTs := s.taiNs - lat, cls := cls, dests := dests,
                           folios := folios, toCtl := toCtl, toTim := toTim, ctDis := ctDis }
      let s := s.onSwc (fun w => { w with rx := w.rx ++ [r] })
      (List.range 18).foldl (fun s o => if bitAt dests o && s.mayCut r o then s.keepCut r bs vid o else s) s

/-- Whether a received frame is an HSR or PRP supervision frame: EtherType 0x88FB (R250). PRESUMED, log entry 12. -/
def isSupervision (bs : List Byte) : Bool := decide ((innerType bs).1 = 0x88FB)

/-- A copy kept for cut-through that has not started when its last bit arrives is stored whole: length at egress, the cells it does
not need are freed, and the rest of its cells join the Spine (R240, R260). -/
def State.storeWhole (s : State) (c : Copy) (out : List Byte) : State :=
  let n := frameLen out
  if s.maxLen c.port < n then ((s.dropCopy c).bump SWC_OVERSIZE).flag SWC_TROUBLE_LENGTH
  else
    let d := { c with bytes := out, cells := cellsOf n, st := 5, complete := true }
    let s := ((s.onSwc (fun w => { w with copies := w.copies.map (fun x => if x.id = c.id then d else x) })).enterCells d
      (cellsOf n - c.entered)).swcRefresh c.port
    if 1 ≤ s.swc.released.get c.id 0 then s.arrive { d with entered := max c.entered (cellsOf n) } else s

/-- A copy that was kept for cut-through or is already leaving learns its whole contents, or is stomped (R262). What has left is as
it was corrected in flight (R266). A copy is counted once: one that is stomped already is not counted again. -/
def State.endCut (s : State) (r : RxFrame) (bs : List Byte) (vid : Nat) (good : Bool) (c : Copy) : State :=
  let out := s.asSent bs r.port c.port vid
  if c.st = 0 then
    if good then s.storeWhole c out else s.dropCopy c
  else
    let out := c.bytes ++ out.drop c.bytes.length
    let long := decide (s.maxLen c.port < frameLen out)
    let out := if long then out.take (s.maxLen c.port - 4) else out
    let s := if c.stomped then s
             else if long then (s.bump SWC_STOMP_LONG).flag SWC_TROUBLE_STOMP
             else if good then s else (s.bump SWC_STOMP_FCS).flag SWC_TROUBLE_STOMP
    let s := s.enterCells c (cellsOf (frameLen out) - c.entered)
    (s.onSwc (fun w => { w with copies := w.copies.map (fun x =>
      if x.id = c.id then { x with bytes := out, complete := true, stomped := x.stomped || long || !good,
                                   cells := cellsOf (frameLen out) } else x) })).swcRefresh c.port

/-- The last bit of a frame has arrived: length and FCS are checked, stored copies go to the Spine or are dropped, which is counted
where the frame had any, cut-through copies are completed or stomped (R240, R260, R262). -/
def State.rxEnd (s : State) (p : Nat) (bs : List Byte) (good stomped : Bool) : State :=
  let live := s.on SWC_CTRL_ENABLE && s.loaded
  let s := if live && stomped then s.bump SWC_RX_STOMPED else s
  let s := if live && good && isSupervision bs then s.bump SWC_SUPERVISION else s
  match s.swc.rx.find? (fun r => r.port == p) with
  | none =>
    if frameLen bs < 64 then (s.bump SWC_RUNT).flag SWC_TROUBLE_LENGTH else s
  | some r =>
    let s := s.onSwc (fun w => { w with rx := w.rx.filter (fun x => !(x.port == p)) })
    let vid := if tagVid bs = 0 then Ent.PORT_PVID.of (s.ent 0xA03 p) else tagVid bs
    let n := frameLen bs
    let runt := decide (n < 64)
    let tooLong := decide (s.maxLen p < n)
    let ok := good && !runt && !tooLong
    let cut := s.swc.copies.filter (fun c => c.inPort == p && !c.complete && c.firstAt == r.firstAt)
    let stored := decide (r.dests ≠ 0) || cut.any (fun c => c.st == 0)
    let s := if runt then (s.bump SWC_RUNT).flag SWC_TROUBLE_LENGTH
             else if tooLong && stored then (s.bump SWC_OVERSIZE).flag SWC_TROUBLE_LENGTH
             else if !tooLong && !good && stored then s.bump SWC_FCS_DROP else s
    let s := cut.foldl (fun s c => s.endCut r bs vid ok c) s
    if ok then
      let proto := { s.proto p r.cls with firstAt := r.firstAt, inResid := r.inResid, rxTs := r.rxTs, folios := r.folios,
                                          toCtl := r.toCtl, toTim := r.toTim }
      (s.copiesFor bs p vid r.dests proto).foldl State.admitCopy s
    else s

/-! ## Egress -/

/-- Whether preemption is active on a port (R274). -/
def State.preemptActive (s : State) (p : Nat) : Bool :=
  s.onI MAC_P_PREEMPT_PREEMPT_EN p && s.onI MAC_P_STATUS_LINK p &&
  decide (s.rdI MAC_P_PREEMPT_STATUS_VERIFY p = 3 ∨ s.rdI MAC_P_PREEMPT_STATUS_VERIFY p = 0)

/-- Whether a class is preemptable on a port by EXPRESS_MASK, preemption active or not ("Frame preemption"). I0 and port A have no
such classes. -/
def State.preemptable (s : State) (p c : Nat) : Bool := decide (p < 18) && !bitAt (s.rdI MAC_P_PREEMPT_EXPRESS_MASK p) c

/-- Whether a class is express on a port; every class is while preemption is inactive (R274). -/
def State.express (s : State) (p c : Nat) : Bool :=
  !s.preemptActive p || bitAt (s.rdI MAC_P_PREEMPT_EXPRESS_MASK p) c

/-- Whether a class is paused on a port now (R278). -/
def State.paused (s : State) (p c : Nat) : Bool :=
  decide (s.now < s.mac.pauseEnd.get p 0) && !bitAt (s.rdI MAC_P_PAUSE_EXEMPT_MASK p) c

/-- Time that a frame of `n` octets takes on a port's line with its preamble and gap, in ns. -/
def State.frameNs (s : State) (p n : Nat) : Nat := ((n + 20) * s.lineOctetPs p + 999) / 1000

/-- The head of an egress queue. -/
def State.queueHead (s : State) (p c : Nat) : Option Copy :=
  s.swc.copies.find? (fun x => x.port == p && x.cls == c && x.st == 1)

/-- Whether a copy is older than the age limit of its class (R258). -/
def State.tooOld (s : State) (c : Copy) : Bool :=
  decide (Ent.CLAS_AGE_LIMIT.of (s.ent 0xA04 c.cls) ≠ 0) &&
  decide (c.firstAt + Ent.CLAS_AGE_LIMIT.of (s.ent 0xA04 c.cls) * 10000 < s.now)

/-- The earliest TAI at which the SFD of a copy can cross its port's boundary: from now, or after the frame on the line, where that
frame cannot be preempted for it (R307, R308). -/
def State.earliestSfd (s : State) (c : Copy) : Nat :=
  let free := s.taiNs + s.sfdLead c.port
  match s.swc.copies.find? (fun x => x.port == c.port && x.st == 2) with
  | none => free
  | some x =>
    if x.complete && decide (x.fragments = 0) && !(s.express c.port c.cls && !s.express c.port x.cls) then
      max free (x.egressTs + (frameLen x.bytes + 20) * s.lineOctetPs c.port / 1000)
    else free

/-- Whether a timed copy can no longer meet its launch time, or its age limit has run out (R308). -/
def State.launchLate (s : State) (c : Copy) : Bool :=
  match c.launch with
  | none => false
  | some t => decide (t + s.rd TIM_LAUNCH_CFG_LATE_TOL_NS < s.earliestSfd c) || s.tooOld c

/-- Whether a timed copy lies beyond the launch horizon; port A is not tested (R308). -/
def State.launchFar (s : State) (c : Copy) : Bool :=
  match c.launch with
  | none => false
  | some t => decide (c.port ≠ 19) && decide (s.taiNs + s.rdOr TIM_LAUNCH_CFG_HORIZON_MS 10 * 1000000 < t)

/-- A frame over its age limit is counted in SWC_LATE_DROP (R258). -/
def State.noteOld (s : State) (c : Copy) : State := if s.tooOld c then (s.bump SWC_LATE_DROP).flag SWC_TROUBLE_LATE_DROP else s

/-- Drop a timed copy as late; one over its age limit is also a late drop of the switch (R258, R308). -/
def State.dropLate (s : State) (c : Copy) : State :=
  ((((s.noteOld c).discard c 5).bumpI TIM_P_LAUNCH_LATE c.port).bump TIM_LATE_LAUNCH).flag TIM_TROUBLE_LAUNCH_LATE

/-- Drop a timed copy that lies beyond the horizon (R308). -/
def State.dropFar (s : State) (c : Copy) : State :=
  ((s.discard c 8).bumpI TIM_P_LAUNCH_LATE c.port).flag TIM_TROUBLE_LAUNCH_FAR

/-- The head of a queue is tested and dropped while it is late, too old or too far ahead (R258, R308). -/
def State.cullHead : Nat → State → Nat → Nat → State
  | 0, s, _, _ => s
  | fuel + 1, s, p, c =>
    match s.queueHead p c with
    | none => s
    | some x =>
      if s.launchLate x then cullHead fuel (s.dropLate x) p c
      else if s.launchFar x then cullHead fuel (s.dropFar x) p c
      else if s.tooOld x then cullHead fuel ((s.noteOld x).discard x 5) p c
      else s

/-- The timed tests are made again on every queue head and on held copies after a step of the TAI counter (R308). -/
def State.retestLaunch (s : State) : State :=
  s.swc.copies.foldl (fun s c =>
    if c.st = 1 then
      (if s.launchLate c then s.dropLate c else if s.launchFar c && decide (s.queueHead c.port c.cls = some c) then s.dropFar c else s)
    else s) s

/-- Whether a timed copy held at the head of a queue of a port leaves room for another frame of `n` octets: the frame ends, with its
gap, before the launch time, or it is preemptable while the timed copy is express and preemption is active (R307). -/
def State.launchRoom (s : State) (p n : Nat) (soft : Bool) : Bool :=
  !(s.swc.copies.any (fun y => y.port == p && y.st == 1 && decide (s.queueHead p y.cls = some y) &&
    (match y.launch with
     | some t => decide (s.taiNs < t) && decide (t ≤ s.taiNs + s.frameNs p n) && !(s.preemptActive p && soft && s.express p y.cls)
     | none => false)))

/-- Whether a copy is the preemptable frame of a port that is unfinished: begun, and on the line or preempted (R273). -/
def State.unfinished (s : State) (p : Nat) (y : Copy) : Bool := y.port == p && (y.st == 3 || (y.st == 2 && s.preemptable p y.cls))

/-- Whether a queue's head may start now (R273, R307). A frame from port A waits for its timestamp before it goes to the
receive rings (R282, DESIGN CHOICE, log entry 13); a head whose last cells are still in the Spine waits for them. -/
def State.eligible (s : State) (p : Nat) (x : Copy) : Bool :=
  let held := match x.launch with
    | some t => decide (s.taiNs < t)
    | none => false
  let stamping := decide (p = 18) && decide (x.inPort = 19) && s.mac.awaitRx.contains x.firstAt
  !s.swc.crossing x.id && !s.paused p x.cls && !held && !stamping &&
  !(s.preemptable p x.cls && s.swc.copies.any (s.unfinished p)) && s.launchRoom p (frameLen x.bytes) (s.preemptable p x.cls)

/-- The highest class of a port whose head may start. -/
def State.nextCopyOf (s : State) (p : Nat) : Option Copy :=
  ((List.range 8).reverse.filterMap (fun c => s.queueHead p c)).find? (fun x => s.eligible p x)

/-- The EtherType of a copy after at most one 802.1Q tag and, if it was received on an HSR pair, the HSR tag; and what follows it
(R266). -/
def State.copyType (s : State) (c : Copy) : Nat × Nat :=
  match s.pairOf c.inPort with
  | some (_, 2) => innerType c.bytes
  | _ => (beAt c.bytes (etypeOff c.bytes) 2, etypeOff c.bytes + 2)

/-- Whether a copy on a line is one of the time base's own PTP frames. -/
def Copy.ownPtp (c : Copy) : Bool := c.toTim && decide (c.inPort = 18) && decide (c.port < 18)

/-- The correctionField of a Sync that enters and leaves on ports 0-17 (R266), and of the time base's own Pdelay_Resp, which
carries the turnaround time (R293). Both take the time from SFD to SFD at the boundaries (R303). -/
def State.correct (s : State) (c : Copy) : List Byte :=
  let (ty, o) := s.copyType c
  let stay : Int := ((s.residNs + s.sfdLead c.port - c.inResid : Nat) : Int) * 65536
  if s.on SWC_CTRL_TC_EN && decide (c.inPort < 18) && decide (c.port < 18) && decide (ty = 0x88F7) &&
     decide (beAt c.bytes o 1 % 16 = 0) && decide (beAt c.bytes (o + 1) 1 % 16 = 2) &&
     decide (beAt c.bytes (o + 4) 1 = s.rd SWC_TC_CFG_DOMAIN) then
    let old := signed 64 (beAt c.bytes (o + 8) 8)
    let sum := old + stay + s.rdI TIM_P_MLD c.inPort + signed 32 (s.rdI TIM_P_ASYM c.inPort)
    let v := if 2 ^ 63 - 1 < sum then 0x7FFFFFFFFFFFFFFF else unsigned 64 sum
    patch c.bytes (o + 8) (beBytes 8 v)
  else if c.ownPtp && decide (ty = 0x88F7) && decide (beAt c.bytes o 1 % 16 = 3) then
    patch c.bytes (o + 8) (beBytes 8 (unsigned 64 (signed 64 (beAt c.bytes (o + 8) 8) + stay)))
  else c.bytes

/-- A copy starts to leave: the port is sending, its egress SFD is stamped (R301) and a Sync is corrected (R266). -/
def State.startCopy (s : State) (c : Copy) (ts : Nat) : State :=
  ((s.onSwc (fun w => { w with
    copies := w.copies.map (fun x => if x.id = c.id then { x with st := 2, egressTs := ts, bytes := s.correct c } else x) })).wrI
    MAC_P_STATUS_SENDING c.port 1).swcRefresh c.port

/-- Whether a port has a copy on its line: leaving, or backing off at port A. -/
def State.sending (s : State) (p : Nat) : Bool := s.swc.copies.any (fun x => x.port == p && (x.st == 2 || x.st == 4))

/-- A copy starts now: the end of its SFD crosses the boundary after preamble, SFD and transmit latency (R301). -/
def State.startNow (s : State) (x : Copy) : State := s.startCopy x (s.taiNs + s.sfdLead x.port)

/-- The remainder of a preempted frame goes on. -/
def State.resumeRest (s : State) (r : Copy) : State :=
  (s.onSwc (fun w => { w with copies := w.copies.map (fun y => if y.id = r.id then { y with st := 2 } else y) })).wrI
    MAC_P_STATUS_SENDING r.port 1

/-- Carrier on port A has ended less than 96 bit times ago, or is sensed (R281). -/
def State.carrierBars (s : State) (p : Nat) : Bool :=
  decide (p = 19) && (s.onI MAC_P_STATUS_CARRIER 19 || decide (s.now < s.mac.carrierAt + 9600))

/-- A frame of port A defers to carrier: it is counted once (R281). -/
def State.noteDefer (s : State) (x : Copy) : State :=
  if s.mac.deferred = some x.id then s
  else (s.bumpI MAC_P_TX_DEFERRED 19).onMac (fun m => { m with deferred := some x.id })

/-- What a port starts at a frame boundary (R273): a respond mPacket that it owes (R275, log entry 35), a waiting control frame, the
remainder of a preempted frame when no express frame is eligible, or the head of the highest eligible class. Each must leave room
for a held timed copy (R307). Port A defers to carrier (R281). -/
def State.startNext (s : State) (p : Nat) : State :=
  let small := s.launchRoom p 64 false
  if s.mac.respond.contains p && small then s.onMac (fun m => { m with respond := m.respond.erase p })
  else match s.mac.ctrl.find? (fun c => c.1 == p && small) with
  | some c => (s.onMac (fun m => { m with ctrl := m.ctrl.erase c })).bumpI MAC_P_TX_PAUSE p
  | none =>
    let rest := s.swc.copies.find? (fun x => x.port == p && x.st == 3 && s.launchRoom p (frameLen x.bytes - x.sentOctets) true)
    match rest, s.nextCopyOf p with
    | some r, some x => if s.express p x.cls then s.startNow x else s.resumeRest r
    | some r, none => s.resumeRest r
    | none, some x => if s.carrierBars p then s.noteDefer x else s.startNow x
    | none, none => s

/-- Late frames at the heads of a port's queues are dropped (R258, R308). -/
def State.cullPort (s : State) (p : Nat) : State :=
  (List.range 8).foldl (fun s c => State.cullHead (s.swc.copies.length + 1) s p c) s

/-- At a frame boundary late frames go first (R258), and the port starts what is next. -/
def State.egressStart (s : State) (p : Nat) : State :=
  if s.sending p ∨ (p ≠ 18 ∧ s.rdI SWC_P_STATE p ≠ 1) then s else (s.cullPort p).startNext p

/-- Port A senses carrier, or senses it no longer (R281). -/
def State.carrier (s : State) (on : Bool) : State :=
  if on then s.wrI MAC_P_STATUS_CARRIER 19 1
  else if s.onI MAC_P_STATUS_CARRIER 19 then (s.wrI MAC_P_STATUS_CARRIER 19 0).onMac (fun m => { m with carrierAt := s.now })
  else s

/-- Whether a copy kept for cut-through may start now: the output is UP and idle but for the copy itself, and the class is not
paused (R260, R278). -/
def State.cutMay (s : State) (c : Copy) : Bool :=
  decide (s.rdI SWC_P_STATE c.port = 1) && s.outIdle c.port c.id && !s.paused c.port c.cls

/-- A cut-through copy starts once its resequencer has released N_CT of its cells in order, where the output is still idle
(R260, R261); where it is not, the copy is stored whole. -/
def State.cutStart (s : State) (p : Nat) : State :=
  match s.swc.copies.find? (fun c => c.port == p && c.st == 0 && decide (s.nCt p ≤ s.swc.released.get c.id 0) && s.cutMay c) with
  | none => s
  | some c => (s.startNow c).bumpI SWC_P_CT p

/-- Whether a held timed copy may start now for its launch time: the head of its queue, whole, not paused, not late, no preemptable
frame in its way, and its SFD due within 8 ns of the time that a start now gives it (R273, R307). -/
def State.mayLaunch (s : State) (p : Nat) (c : Copy) : Bool :=
  c.port == p && c.st == 1 && decide (s.queueHead p c.cls = some c) && !s.swc.crossing c.id && !s.paused p c.cls &&
  !(s.preemptable p c.cls && s.swc.copies.any (s.unfinished p)) &&
  (match c.launch with
   | some t => decide (t ≤ s.taiNs + s.sfdLead p + 8) && !s.launchLate c
   | none => false)

/-- A held timed copy starts so that its SFD crosses the boundary at LAUNCH_TIME, within 8 ns either way, a deviation the
spec leaves open (R307, log entry 4); one that starts later than that crosses as soon as it can. A control frame goes first (R273).
A timed copy for port A only contends from its launch time on (R283). -/
def State.timedLaunch (s : State) (p : Nat) : State :=
  if 18 ≤ p ∨ s.sending p = true ∨ s.rdI SWC_P_STATE p ≠ 1 ∨ s.mac.respond.contains p = true ∨ s.mac.ctrl.any (fun c => c.1 == p) = true
  then s
  else match s.swc.copies.find? (s.mayLaunch p) with
    | none => s
    | some c =>
      let (v, s) := s.fresh
      let first := s.taiNs + s.sfdLead p
      s.startCopy c (if c.launch.getD 0 + 8 < first then first else c.launch.getD 0 + v % 17 - 8)

/-- Timed copies that can no longer meet their launch time, or whose age limit has run out, are dropped (R308). -/
def State.launchLateAll (s : State) (p : Nat) : State :=
  s.swc.copies.foldl (fun s c => if c.port = p ∧ c.st = 1 ∧ s.launchLate c = true then s.dropLate c else s) s

/-- The copies that a port is sending have left: they free their cells, and the timestamp entry falls due (R304). -/
def State.txDone (s : State) (p : Nat) : State :=
  (s.swc.copies.filter (fun x => x.port == p && x.st == 2 && x.complete)).foldl (fun s c =>
    let n := frameLen c.bytes
    let s := s.dropCopy c
    let s := ((s.bumpI MAC_P_TX_FRAMES p).wrI MAC_P_TX_OCTETS p (s.rdI MAC_P_TX_OCTETS p + n)).wrI MAC_P_STATUS_SENDING p 0
    let s := if p < 18 then s.bumpI (if s.preemptable p c.cls then MAC_P_TX_PREEMPTABLE else MAC_P_TX_EXPRESS) p else s
    let s := if c.fragments = 0 then s else s.bumpI MAC_P_TX_FRAGMENTS p
    let s := if c.stomped then s.bumpI MAC_P_TX_STOMPED p else s
    if p < 18 then s.tsqPush p c 0 false
    else if p = 19 then s.onMac (fun m => { m with awaitTx := some c, collisions := 0, carrierAt := s.now }) else s) s

/-- A buffer cell of a copy holds an error: a copy that has started is stomped, another is discarded (R259, R262). -/
def State.bufferEcc (s : State) (id : Nat) (correctable : Bool) : State :=
  match s.swc.copies.find? (fun c => c.id == id) with
  | none => s
  | some c =>
    if correctable then s.bump SWC_ECC_CORR
    else if 2 ≤ c.st ∧ c.st ≤ 4 then
      if c.stomped then s.flag SWC_TROUBLE_ECC
      else (((s.onSwc (fun w => { w with copies := w.copies.map (fun x => if x.id = id then { x with stomped := true }
        else x) })).bump SWC_STOMP_ECC).flag SWC_TROUBLE_STOMP).flag SWC_TROUBLE_ECC
    else ((s.discard c 6).bump SWC_ECC_DROP).flag SWC_TROUBLE_ECC

/-! ## Link hold (R263-R265) -/

/-- Flush a port's queues: every frame is counted, and every pending timestamp entry is written FLUSHED, that of a frame that port A
has sent and whose interrupt is awaited among them (R265). -/
def State.flushPort (s : State) (p : Nat) : State :=
  let qs := s.swc.copies.filter (fun c => c.port == p && c.st == 1)
  let s := qs.foldl (fun s c => (s.discard c 1).bumpI SWC_P_FLUSH p) s
  let s := match s.mac.awaitTx with
    | some c => if p = 19 then (s.onMac (fun m => { m with awaitTx := none })).tsqPush 19 c 1 false else s
    | none => s
  s.flag SWC_TROUBLE_FLUSH

/-- A copy that was being sent when the link was lost is lost (R264, R277). -/
def State.abortPort (s : State) (p : Nat) : State :=
  (s.swc.copies.filter (fun c => c.port == p && decide (2 ≤ c.st ∧ c.st ≤ 4))).foldl
    (fun s c => (s.discard c (if c.st = 3 ∨ c.complete = false then 1 else 2)).bumpI SWC_P_ABORT p) s

/-- SWC_STATUS counts the ports in HOLD and DOWN; I0 is always UP (R263). -/
def State.portCounts (s : State) : State :=
  (s.wr SWC_STATUS_PORTS_HOLD ((List.range 20).filter (fun p => s.rdI SWC_P_STATE p == 2)).length).wr
    SWC_STATUS_PORTS_DOWN ((List.range 20).filter (fun p => s.rdI SWC_P_STATE p == 0 && decide (p ≠ 18))).length

/-- The MAC reports the link lost (R263, R270): HOLD with its window started, or DOWN with a flush where the window is 0. -/
def State.linkLost (s : State) (p : Nat) : State :=
  if p = 18 then s
  else if s.rdI SWC_P_STATE p = 1 then
    let s := s.abortPort p
    let ms := s.rdI MAC_P_LINK_CFG_HOLD_MS p
    if ms = 0 then ((s.wrI SWC_P_STATE p 0).flushPort p).portCounts
    else ((((s.wrI SWC_P_STATE p 2).wrI SWC_P_STATE_HOLD_LEFT p (ms * 10)).bumpI SWC_P_HOLDS p).flag
      SWC_TROUBLE_LINK_HOLD).onSwc (fun w => { w with holdEnd := w.holdEnd.insert p (s.now + ms * 1000000) }) |>.portCounts
  else s

/-- The MAC reports the link returned (R263). -/
def State.linkReturned (s : State) (p : Nat) : State :=
  if p = 18 then s
  else
    let s := if s.rdI SWC_P_STATE p = 2 ∧ s.swc.holdEnd.get p (s.now + 1) ≤ s.now then
        (s.flushPort p).bumpI SWC_P_HOLDS_EXPIRIES p else s
    (((s.wrI SWC_P_STATE p 1).wrI SWC_P_STATE_HOLD_LEFT p 0).onSwc (fun w => { w with holdEnd := w.holdEnd.erase p })).portCounts

/-- The link-hold window of a port ends (R263). -/
def State.holdExpire (s : State) (p : Nat) : State :=
  if s.rdI SWC_P_STATE p = 2 ∧ s.swc.holdEnd.get p (s.now + 1) ≤ s.now then
    (((((s.wrI SWC_P_STATE p 0).wrI SWC_P_STATE_HOLD_LEFT p 0).onSwc (fun w => { w with holdEnd := w.holdEnd.erase p })).bumpI
      SWC_P_HOLDS_EXPIRIES p).flushPort p).portCounts
  else s

/-- The supervision frame of a pair on a port: the module's own address, the pair's NET_ID (R250). The layout is that of
IEC 62439-3, PRESUMED, log entry 12. -/
def State.supFrame (s : State) (k : Nat) : List Byte :=
  beBytes 6 (0x01154E000100) ++ beBytes 6 s.ownMac ++ beBytes 2 0x88FB ++
  beBytes 2 (s.rdI SWC_RED_PAIR_NET_ID k * 4096) ++ beBytes 2 (s.swc.pairSeq.getD k 0) ++
  beBytes 1 (if s.rdI SWC_RED_PAIR_MODE k = 2 then 23 else 20) ++ beBytes 1 6 ++ beBytes 6 s.ownMac

/-- The interval of supervision frames of a pair, in ns (R250). -/
def State.supNs (s : State) (k : Nat) : Nat := (if s.rdI SWC_RED_PAIR_SUP_MS k = 0 then 2000 else s.rdI SWC_RED_PAIR_SUP_MS k) * 1000000

/-- The load reaches READY: supervision starts, an interval from now on every pair (R250). -/
def State.supReady (s : State) : State :=
  s.onSwc (fun w => { w with supDue := (List.range 6).foldl (fun m k => m.put k 0 (s.now + s.supNs k)) w.supDue })

/-- A supervision frame is sent on each port of an enabled pair, every SUP_MS from READY (R250). -/
def State.supervision (s : State) (k : Nat) : State :=
  if s.loaded ∧ (s.rdI SWC_RED_PAIR_MODE k = 1 ∨ s.rdI SWC_RED_PAIR_MODE k = 2) ∧ s.swc.supDue.get k 0 ≤ s.now then
    let next := s.swc.supDue.get k 0 + s.supNs k
    let f := s.supFrame k
    let seq := s.swc.pairSeq.getD k 0
    let prp := decide (s.rdI SWC_RED_PAIR_MODE k = 1)
    let a := if prp then withPrp f seq false else withHsr f seq 0
    let b := if prp then withPrp f seq true else withHsr f seq 1
    let s := (s.injectPort a 7 (s.rdI SWC_RED_PAIR_PORT_A k)).injectPort b 7 (s.rdI SWC_RED_PAIR_PORT_B k)
    s.onSwc (fun w => { w with pairSeq := w.pairSeq.set k ((seq + 1) % 65536), supDue := w.supDue.put k 0 next })
  else s

/-- The CHECK of SWCH (R247), on the tables and registers filled; `folioOn f` says whether PLCE enables folio `f`. -/
def State.swchOk (s : State) (folioOn : Nat → Bool) : Bool :=
  let fwd := (s.tab 0xA01).active.filter (fun e => Ent.FWD_VALID.on e.2)
  let badFolios (m : Nat) : Bool := (List.range 32).any (fun f => bitAt m f && !folioOn f)
  fwd.all (fun e =>
    !(fwd.any (fun d => decide (d.1 < e.1) && decide (Ent.FWD_DST_MAC.of d.2 = Ent.FWD_DST_MAC.of e.2) &&
      decide (Ent.FWD_VID.of d.2 = Ent.FWD_VID.of e.2))) &&
    Ent.VLAN_VALID.on (s.ent 0xA02 (Ent.FWD_VID.of e.2)) &&
    (bitAt (Ent.FWD_PORT_MASK.of e.2) 18 ==
      (decide (Ent.FWD_FOLIO_MASK.of e.2 ≠ 0) || Ent.FWD_TO_CTL.on e.2 || Ent.FWD_TO_TIM.on e.2)) &&
    !badFolios (Ent.FWD_FOLIO_MASK.of e.2)) &&
  (s.tab 0xA02).active.all (fun e => !badFolios (Ent.VLAN_FLOOD_FOLIOS.of e.2) &&
    !(Ent.VLAN_VALID.on e.2 && decide (e.1 = 0 ∨ e.1 = 4095))) &&
  (List.range 20).all (fun p => Ent.VLAN_VALID.on (s.ent 0xA02 (Ent.PORT_PVID.of (s.ent 0xA03 p)))) &&
  decide ((List.range 8).foldl (fun n c => n + s.reserve c) 0 ≤ 65536) &&
  (List.range 6).all (fun k =>
    let a := s.rdI SWC_RED_PAIR_PORT_A k
    let b := s.rdI SWC_RED_PAIR_PORT_B k
    decide (s.rdI SWC_RED_PAIR_MODE k = 0) ||
    (decide (a < 12) && decide (b < 12) && decide (a ≠ b) &&
      (List.range 6).all (fun j => decide (j = k) || decide (s.rdI SWC_RED_PAIR_MODE j = 0) ||
        (decide (s.rdI SWC_RED_PAIR_PORT_A j ≠ a) && decide (s.rdI SWC_RED_PAIR_PORT_B j ≠ a) &&
         decide (s.rdI SWC_RED_PAIR_PORT_A j ≠ b) && decide (s.rdI SWC_RED_PAIR_PORT_B j ≠ b)))))

end Sys2Proof.Machine
end

