-- ==== Sys2Proof/Machine/MacOps.lean ====
section
/-! DEFINITION. The port MACs (chapter "Port MACs", R268-R287, and R496). -/

namespace Sys2Proof.Machine

open Sys2Proof Reg

/-- The clock unit that a port's line needs (R428). -/
def portUnit (p : Nat) : Nat := if p < 16 then 32 + p else if p < 18 then 20 else if p = 19 then 21 else 14

/-- Whether a port has a line: I0 has none (R284). -/
def hasLine (p : Nat) : Bool := decide (p ≠ 18)

/-- Whether a port supports preemption (R268). -/
def hasPreempt (p : Nat) : Bool := decide (p < 18)

/-- Whether a port supports PAUSE (R268). -/
def hasPause (p : Nat) : Bool := decide (12 ≤ p) && decide (p < 16)

/-- PREEMPT_ACTIVE shows whether preemption is active (R274). -/
def State.macRefresh (s : State) (p : Nat) : State := s.wrBI MAC_P_STATUS_PREEMPT_ACTIVE p (s.preemptActive p)

/-! ## Verification (R275) -/

/-- The verify interval in ns. -/
def State.verifyNs (s : State) (p : Nat) : Nat :=
  (if s.rdI MAC_P_PREEMPT_VERIFY_MS p = 0 then 10 else s.rdI MAC_P_PREEMPT_VERIFY_MS p) * 1000000

/-- Whether a port verifies before it preempts. -/
def State.verifies (s : State) (p : Nat) : Bool :=
  hasPreempt p && s.onI MAC_P_PREEMPT_PREEMPT_EN p && !s.onI MAC_P_PREEMPT_VERIFY_DIS p

/-- One verify mPacket is sent and its interval starts. -/
def State.verifySend (s : State) (p : Nat) : State :=
  (((s.wrI MAC_P_PREEMPT_STATUS_VERIFY p 2).bumpI MAC_P_VERIFY_SENT p).wrI MAC_P_PREEMPT_STATUS_ATTEMPTS p
    (s.rdI MAC_P_PREEMPT_STATUS_ATTEMPTS p + 1)).onMac (fun m => { m with verifyEnd := m.verifyEnd.insert p (s.now + s.verifyNs p) })

/-- The port's verification returns to INITIAL, or stays DISABLED. -/
def State.verifyInitial (s : State) (p : Nat) : State :=
  (((s.wrI MAC_P_PREEMPT_STATUS_VERIFY p (b2n (s.verifies p))).wrI MAC_P_PREEMPT_STATUS_ATTEMPTS p 0).onMac
    (fun m => { m with verifyEnd := m.verifyEnd.erase p })).macRefresh p

/-- From INITIAL with the link up, verification starts. -/
def State.verifyStart (s : State) (p : Nat) : State :=
  if s.verifies p ∧ s.onI MAC_P_STATUS_LINK p = true ∧ s.rdI MAC_P_PREEMPT_STATUS_VERIFY p = 1 then s.verifySend p else s

/-- A preempted frame that is not finished is lost: aborted, its timestamp entry FLUSHED (R275, R277). -/
def State.losePreempted (s : State) (p : Nat) : State :=
  (s.swc.copies.filter (fun c => c.port == p && c.st == 3)).foldl (fun s c => (s.discard c 1).bumpI SWC_P_ABORT p) s

/-- Verification starts over: INITIAL, and on from there while the link is up; DISABLED where the port does not verify. -/
def State.verifyOver (s : State) (p : Nat) : State := ((s.verifyInitial p).verifyStart p).macRefresh p

/-- VERIFY_RESTART: back to INITIAL, and on from there while the link is up. -/
def State.verifyRestart (s : State) (p : Nat) : State := if s.verifies p then (s.losePreempted p).verifyOver p else s

/-- The PORT section is in force: the ports verify as it says (R275). -/
def State.macReady (s : State) : State := (List.range 18).foldl State.verifyOver s

/-- The verify interval ends: another attempt, or FAILED after the third. -/
def State.verifyTimeout (s : State) (p : Nat) : State :=
  if s.rdI MAC_P_PREEMPT_STATUS_VERIFY p = 2 ∧ s.mac.verifyEnd.get p (s.now + 1) ≤ s.now then
    if s.rdI MAC_P_PREEMPT_STATUS_ATTEMPTS p < 3 then s.verifySend p
    else (((s.wrI MAC_P_PREEMPT_STATUS_VERIFY p 4).flagI MAC_P_TROUBLE_VERIFY_FAIL p).onMac
      (fun m => { m with verifyEnd := m.verifyEnd.erase p })).macRefresh p
  else s

/-- A respond mPacket while VERIFYING: VERIFIED. -/
def State.verifyResponse (s : State) (p : Nat) : State :=
  if s.rdI MAC_P_PREEMPT_STATUS_VERIFY p = 2 then
    ((s.wrI MAC_P_PREEMPT_STATUS_VERIFY p 3).onMac (fun m => { m with verifyEnd := m.verifyEnd.erase p })).macRefresh p
  else s

/-- A verify mPacket is answered in every state: a respond mPacket waits to be sent. -/
def State.verifyReceived (s : State) (p : Nat) : State :=
  if hasPreempt p && s.onI MAC_P_STATUS_LINK p then s.onMac (fun m => { m with respond := m.respond ++ [p] }) else s

/-! ## PAUSE (R278-R280) -/

/-- The time of `q` quanta of 512 bit times on a port, in ns. -/
def State.quantaNs (s : State) (p q : Nat) : Nat := q * 64 * s.octetPs p / 1000

/-- The pause timer stops; the time paused is counted in PAUSED_US if any class was paused. -/
def State.pauseStop (s : State) (p : Nat) : State :=
  if s.mac.pauseEnd.get p 0 = 0 then s
  else
    let us := (min s.now (s.mac.pauseEnd.get p 0) - s.mac.pauseStart.get p 0) / 1000
    let s := if s.rdI MAC_P_PAUSE_EXEMPT_MASK p = 255 then s else s.bumpByI MAC_P_PAUSED_US p us
    (s.wrI MAC_P_PAUSE_STATUS_RX_LEFT p 0).onMac (fun m => { m with
      pauseEnd := m.pauseEnd.erase p, pauseStart := m.pauseStart.erase p })

/-- A PAUSE frame with a good FCS has been received (R278, R280). -/
def State.pauseReceived (s : State) (p q : Nat) : State :=
  if hasPause p && s.onI MAC_P_PAUSE_RX_PAUSE_EN p then
    let s := ((s.bumpI MAC_P_RX_PAUSE p).flagI MAC_P_TROUBLE_PAUSED p).pauseStop p
    if q = 0 then s
    else (s.wrI MAC_P_PAUSE_STATUS_RX_LEFT p q).onMac (fun m => { m with
      pauseEnd := m.pauseEnd.insert p (s.now + s.quantaNs p q), pauseStart := m.pauseStart.insert p s.now })
  else if hasLine p then s.bumpI MAC_P_RX_CONTROL p
  else s

/-- The pause timer has run out. -/
def State.pauseExpire (s : State) (p : Nat) : State :=
  if s.mac.pauseEnd.get p (s.now + 1) ≤ s.now then s.pauseStop p else s

/-- Cells in the switch buffer that entered on a port and have not yet left (R279). -/
def State.inCells (s : State) (p : Nat) : Nat :=
  (s.swc.copies.filter (fun c => c.inPort == p)).foldl (fun n c => n + c.cells) 0

/-- A PAUSE frame waits to be sent ahead of every queue. -/
def State.pauseQueue (s : State) (p q : Nat) : State := s.onMac (fun m => { m with ctrl := m.ctrl ++ [(p, q)] })

/-- When an XOFF PAUSE is next repeated: half of its quanta later. -/
def State.pauseArm (s : State) (p : Nat) : State :=
  s.onMac (fun m => { m with xoffRefresh := m.xoffRefresh.insert p (s.now + s.quantaNs p (s.rdI MAC_P_PAUSE_PAUSE_QUANTA p) / 2) })

/-- The port's ingress cells have risen above XOFF_CELLS (R279). -/
def State.pauseXoff (s : State) (p : Nat) : State :=
  if hasPause p && s.onI MAC_P_PAUSE_TX_PAUSE_EN p && !s.onI MAC_P_PAUSE_STATUS_XOFF p &&
     decide (16 * s.rdI MAC_P_PAUSE_THR_XOFF_CELLS p < s.inCells p) then
    (((s.pauseQueue p (s.rdI MAC_P_PAUSE_PAUSE_QUANTA p)).wrI MAC_P_PAUSE_STATUS_XOFF p 1).flagI MAC_P_TROUBLE_XOFF p).pauseArm p
  else s

/-- Half of the quanta has elapsed above XON_CELLS (R279). -/
def State.pauseRefresh (s : State) (p : Nat) : State :=
  if s.onI MAC_P_PAUSE_STATUS_XOFF p && decide (16 * s.rdI MAC_P_PAUSE_THR_XON_CELLS p < s.inCells p) &&
     decide (s.mac.xoffRefresh.get p (s.now + 1) ≤ s.now) then
    (s.pauseQueue p (s.rdI MAC_P_PAUSE_PAUSE_QUANTA p)).pauseArm p
  else s

/-- XOFF ends without a frame. -/
def State.xoffClear (s : State) (p : Nat) : State :=
  (s.wrI MAC_P_PAUSE_STATUS_XOFF p 0).onMac (fun m => { m with xoffRefresh := m.xoffRefresh.erase p })

/-- The port's ingress cells have fallen to XON_CELLS or below (R279). -/
def State.pauseXon (s : State) (p : Nat) : State :=
  if s.onI MAC_P_PAUSE_STATUS_XOFF p && decide (s.inCells p ≤ 16 * s.rdI MAC_P_PAUSE_THR_XON_CELLS p) then
    (s.pauseQueue p 0).xoffClear p
  else s

/-! ## Link state (R270, R496) -/

/-- The MAC reports the link lost: its own state, then the switch's (R263, R270, R275, R280). -/
def State.reportLost (s : State) (p : Nat) : State :=
  if hasLine p && s.onI MAC_P_STATUS_LINK p then
    let s := ((((s.wrI MAC_P_STATUS_LINK p 0).wrI MAC_P_STATUS_LOCK p 0).wrI MAC_P_STATUS_SENDING p 0).bumpI
      MAC_P_LINK_LOSSES p).flagI MAC_P_TROUBLE_LINK_LOSS p
    let s := s.onMac (fun m => { m with ctrl := m.ctrl.filter (fun c => !(c.1 == p)), respond := m.respond.filter (fun x => !(x == p)),
                                        collisions := if p = 19 then 0 else m.collisions,
                                        backoffEnd := if p = 19 then none else m.backoffEnd })
    ((((s.verifyInitial p).pauseStop p).xoffClear p).linkLost p).macRefresh p
  else s

/-- A LINK_LOST report: lock is lost; `los` says that the SFP+ reports loss of signal. At port A, which has no link signalling, its PHY
reports a fault. -/
def State.macLinkLost (s : State) (p : Nat) (los : Bool) : State :=
  ((if los && decide (p < 16) then s.wrI MAC_P_STATUS_SFP_LOS p 1 else s).onMac (fun m => { m with
    qualAt := m.qualAt.insert p s.now, phyFault := m.phyFault || decide (p = 19) })).reportLost p

/-- Whether lock has been held for LINK_QUAL_US since the link was lost or PORT_EN was written 1. Port A does not wait. -/
def State.qualHeld (s : State) (p : Nat) : Bool :=
  decide (p = 19) || decide (s.mac.qualAt.get p 0 + s.rdI MAC_P_LINK_CFG_LINK_QUAL_US p * 1000 ≤ s.now)

/-- Lock has been held for LINK_QUAL_US with PORT_EN = 1: the link is up for the MAC, and verification starts. At port A the PHY's
fault is gone. -/
def State.linkQualified (s : State) (p : Nat) : State :=
  if hasLine p && s.onI MAC_P_CTRL_PORT_EN p && decide (s.rdI MAC_P_CFG_SPEED p ≠ 0) && decide (s.mac.cageOff.get p 0 = 0) &&
     s.clk (portUnit p) && s.qualHeld p then
    let s := if p = 19 then s.onMac (fun m => { m with phyFault := false }) else s
    let s := if p < 16 then (s.wrI MAC_P_STATUS_SFP_PRESENT p 1).wrI MAC_P_STATUS_SFP_LOS p 0 else s
    let s := (s.wrI MAC_P_STATUS_LOCK p 1).wrI MAC_P_STATUS_LINK p 1
    ((s.verifyInitial p).verifyStart p).macRefresh p
  else s

/-- The switch hears that the link has returned (R263). -/
def State.macLinkReturned (s : State) (p : Nat) : State :=
  if s.onI MAC_P_STATUS_LINK p then s.linkReturned p else s

/-- The link of port A counts as up again: PORT_EN is 1 and its PHY reports no fault (R270). -/
def State.portAUp (s : State) : State :=
  if s.mac.phyFault = false ∧ s.rdI MAC_P_CFG_SPEED 19 ≠ 0 then
    ((s.wrI MAC_P_STATUS_LOCK 19 1).wrI MAC_P_STATUS_LINK 19 1).linkReturned 19
  else s

/-- PORT_EN is written: 0 is reported as a loss, and 0 then 1 turns an overcurrent cage on again (R270, R496). Qualification counts from
the write of 1. -/
def State.portEn (s : State) (p : Nat) (en : Bool) : State :=
  if hasLine p then
    let off := s.mac.cageOff.get p 0
    let s := s.wrBI MAC_P_CTRL_PORT_EN p en
    if en then
      let s := s.onMac (fun m => { m with qualAt := m.qualAt.insert p s.now, cageOff := if off = 2 then m.cageOff.erase p else m.cageOff })
      if p = 19 then s.portAUp else s
    else
      let s := if off = 0 then s else s.onMac (fun m => { m with cageOff := m.cageOff.insert p 2 })
      s.reportLost p
  else s

/-- A cage draws too much current: it is switched off and its link is lost (R496). -/
def State.sfpOvercurrent (s : State) (p : Nat) : State :=
  ((s.flagI MAC_P_TROUBLE_SFP_FAULT p).onMac (fun m => { m with cageOff := m.cageOff.insert p 1 })).macLinkLost p true

/-- An SFP+ reports a transmit fault, or is removed, which turns an overcurrent cage on again (R270, R496). -/
def State.sfpFault (s : State) (p : Nat) (removed : Bool) : State :=
  let s := s.flagI MAC_P_TROUBLE_SFP_FAULT p
  if removed then
    ((((s.wrI MAC_P_STATUS_SFP_PRESENT p 0).wrI MAC_P_STATUS_SFP_TX_FAULT p 0).onMac
      (fun m => { m with cageOff := m.cageOff.erase p })).macLinkLost p true)
  else s.wrI MAC_P_STATUS_SFP_TX_FAULT p 1

/-! ## Receiving (R271, R277) -/

/-- Whether a MAC control frame is a PAUSE frame (R278). -/
def isPause (bs : List Byte) : Bool :=
  isMacControl bs && decide (beAt bs 0 6 = 0x0180C2000001) && decide (beAt bs 14 2 = 1)

/-- Drop a frame in reception without passing it on; what was cut through is stomped (R262, R277). -/
def State.rxDrop (s : State) (p : Nat) (bs : List Byte) : State :=
  match s.swc.rx.find? (fun r => r.port == p) with
  | none => s
  | some r =>
    let s := s.onSwc (fun w => { w with rx := w.rx.filter (fun x => !(x.port == p)) })
    (s.swc.copies.filter (fun c => c.inPort == p && !c.complete && c.firstAt == r.firstAt)).foldl
      (fun s c => s.endCut r bs (if tagVid bs = 0 then Ent.PORT_PVID.of (s.ent 0xA03 p) else tagVid bs) false c) s

/-- A frame received with a failed FCS is counted (R271). -/
def State.macBadFcs (s : State) (p : Nat) : State := (s.bumpI MAC_P_RX_FCS_ERR p).flagI MAC_P_TROUBLE_FCS_ERR p

/-- A frame lost in reassembly is counted (R277). -/
def State.macAssyErr (s : State) (p : Nat) : State := (s.bumpI MAC_P_RX_ASSY_ERR p).flagI MAC_P_TROUBLE_ASSY_ERR p

/-- The first 64 bytes of a frame have arrived: port A senses carrier, and the switch takes its decision (R242, R281). -/
def State.macIngress (s : State) (p : Nat) (bs : List Byte) (ago : Nat) : State :=
  (if p = 19 then s.carrier true else s).ingress p bs ago

/-- The last bit of a frame has arrived at a MAC, in `frags` fragments or whole (0): it is counted and passed on with its
verdict (R271, R277). PAUSE frames are counted by PAUSE_RECEIVED. -/
def State.macRxEnd (s : State) (p : Nat) (bs : List Byte) (v : RxEnd) (frags : Nat) : State :=
  if p = 18 then s
  else
    let s := if p = 19 then (s.wrI MAC_P_STATUS_CARRIER 19 0).onMac (fun m => { m with carrierAt := s.now }) else s
    let s := if hasPreempt p then s.bumpByI MAC_P_RX_FRAGMENTS p frags else s
    let jabber := decide (16384 ≤ frameLen bs)
    let bs := bs.take 16380
    if jabber then (((s.bumpI MAC_P_RX_JABBER p).flagI MAC_P_TROUBLE_JABBER p).macBadFcs p).rxEnd p bs false false
    else match v with
      | .good =>
        let s := (s.bumpI MAC_P_RX_FRAMES p).wrI MAC_P_RX_OCTETS p (s.rdI MAC_P_RX_OCTETS p + frameLen bs)
        let s := if hasPreempt p && decide (frags ≠ 0) then s.bumpI MAC_P_RX_ASSY_OK p else s
        let s := if p = 19 then s.onMac (fun m => { m with awaitRx := m.awaitRx ++
            ((s.swc.rx.filter (fun r => r.port == p)).map (fun r => r.firstAt)) }) else s
        if isMacControl bs then (if isPause bs then s else s.bumpI MAC_P_RX_CONTROL p).rxDrop p bs
        else s.rxEnd p bs true false
      | .badFcs => (s.macBadFcs p).rxEnd p bs false false
      | .stomped => (s.macBadFcs p).rxEnd p bs false true
      | .linkLost => s.rxEnd p bs false false
      | .reassembly => (s.macAssyErr p).rxDrop p bs
      | .unknownSmd => ((s.bumpI MAC_P_RX_SMD_ERR p).macAssyErr p).rxDrop p bs
      | .symbolError => ((s.bumpI MAC_P_RX_SYMBOL_ERR p).macBadFcs p).rxEnd p bs false false
      | .collision =>
        if p = 19 ∧ frameLen bs < 64 then (s.bumpI MAC_P_RX_FRAGMENTS p).rxDrop p bs
        else (s.macBadFcs p).rxEnd p bs false false

/-! ## Preemption (R276) -/

/-- An express frame, or a control frame, is eligible on a port (R273, R279). -/
def State.expressReady (s : State) (p : Nat) : Bool :=
  s.mac.ctrl.any (fun c => c.1 == p) ||
  (match s.nextCopyOf p with
   | some x => s.express p x.cls
   | none => false)

/-- The preemptable frame in progress is preempted after `sent` octets of the present fragment, where R276 permits it. The
octets that remain of a frame still arriving are not yet known and are taken as enough (DEDUCED, log entry 14). -/
def State.preempt (s : State) (p sent : Nat) : State :=
  match s.swc.copies.find? (fun c => c.port == p && c.st == 2) with
  | none => s
  | some c =>
    if s.preemptActive p && !s.express p c.cls && s.expressReady p && decide (sent % 8 = 0) &&
       decide (64 * (1 + s.rdI MAC_P_PREEMPT_ADD_FRAG p) ≤ sent + 4) &&
       (!c.complete || decide (c.sentOctets + sent + 64 ≤ frameLen c.bytes)) then
      ((((s.onSwc (fun w => { w with copies := w.copies.map (fun x => if x.id = c.id then
          { x with st := 3, fragments := x.fragments + 1, sentOctets := x.sentOctets + sent } else x) })).bumpI
        MAC_P_TX_PREEMPTIONS p).bumpI MAC_P_TX_FRAGMENTS p).wrI MAC_P_STATUS_SENDING p 0)
    else s

/-! ## Port A (R281-R283) -/

/-- Port A drops the frame in progress after a collision (R281). -/
def State.portADrop (s : State) (c : Copy) (counter : Fld) : State :=
  ((((s.discard c 7).bumpI counter 19).flagI MAC_P_TROUBLE_COLLISION 19).wrI MAC_P_STATUS_SENDING 19 0).onMac
    (fun m => { m with collisions := 0, backoffEnd := none })

/-- A collision on port A after `sent` bits: jam and back-off, or the frame is dropped (R281). The random draw is a free
value (log entry 4). -/
def State.portACollision (s : State) (sent : Nat) : State :=
  match s.swc.copies.find? (fun c => c.port == 19 && c.st == 2) with
  | none => s
  | some c =>
    let s := s.bumpI MAC_P_COLLISIONS 19
    let n := s.mac.collisions + 1
    if 512 < sent then s.portADrop c MAC_P_LATE_COLL
    else if 16 ≤ n then s.portADrop c MAC_P_EXCESS_COLL
    else
      let (v, s) := s.fresh
      let r := v % 2 ^ min n 10
      ((s.onSwc (fun w => { w with copies := w.copies.map (fun x => if x.id = c.id then { x with st := 4 } else x) })).wrI
        MAC_P_STATUS_SENDING 19 0).onMac
          (fun m => { m with collisions := n, carrierAt := s.now + 3200, backoffEnd := some (s.now + 3200 + r * 51200) })

/-- The back-off has run out: port A sends the frame again, once it no longer defers to carrier (R281). -/
def State.portABackoff (s : State) : State :=
  if s.due s.mac.backoffEnd then
    if s.carrierBars 19 then
      match s.swc.copies.find? (fun x => x.port == 19 && x.st == 4) with
      | some x => s.noteDefer x
      | none => s
    else ((s.onSwc (fun w => { w with copies := w.copies.map (fun x =>
        if x.port = 19 ∧ x.st = 4 then { x with st := 2, egressTs := s.taiNs } else x) })).wrI MAC_P_STATUS_SENDING 19 1).onMac
      (fun m => { m with backoffEnd := none })
  else s

/-- The frame interrupt of port A latches the TAI counter as the timestamp of the frame sent or received (R282). -/
def State.portAIntr (s : State) (sent : Bool) : State :=
  if sent then
    match s.mac.awaitTx with
    | none => s
    | some c => (s.onMac (fun m => { m with awaitTx := none })).tsqPush 19 { c with egressTs := s.taiNs } 0 true
  else
    match s.mac.awaitRx with
    | [] => s
    | t :: q =>
      let stamp (c : Copy) : Copy := if c.inPort = 19 ∧ c.firstAt = t then { c with rxTs := s.taiNs } else c
      (s.onMac (fun m => { m with awaitRx := q })).onSwc (fun w => { w with copies := w.copies.map stamp })

/-! ## Wake frames (R285-R287) -/

/-- Whether the wake detector of a port is armed (R285): not while MBIST runs over its memories at start-up. -/
def State.wakeArmed (s : State) (p : Nat) : Bool :=
  hasLine p && s.onI MAC_P_WAKE_CFG_WAKE_EN p && s.clk (portUnit p) && s.onI MAC_P_STATUS_LINK p &&
  (!s.on SWC_CTRL_ENABLE || decide (s.power ≠ 3)) && decide (2 ≤ s.power) && decide (s.sys.boot ≠ 1)

/-- WAKE_DA: its first two octets in DA_HI, the last four in DA_LO. -/
def State.wakeDa (s : State) (p : Nat) : Nat := s.rdI MAC_P_WAKE_CFG_DA_HI p * 2 ^ 32 + s.rdI MAC_P_WAKE_DA_LO p

/-- Whether a frame with a good FCS is a wake frame of a port (R286). -/
def State.isWake (s : State) (p : Nat) (bs : List Byte) : Bool :=
  let o := etypeOff bs
  let dev := slice bs (o + 6) 16
  (decide (beAt bs 0 6 = s.wakeDa p) || (s.onI MAC_P_WAKE_CFG_WAKE_BCAST p && decide (beAt bs 0 6 = 0xFFFFFFFFFFFF))) &&
  decide (beAt bs o 2 = 0x88B6) && decide (beAt bs (o + 2) 4 = 0x4B57414B) && decide (o + 26 ≤ bs.length) &&
  (allZero dev || decide (dev = Config.deviceId))

/-- A wake frame at an armed detector (R287). -/
def State.wakeFrame (s : State) (p : Nat) (bs : List Byte) : State :=
  if s.wakeArmed p && s.isWake p bs then
    let s := s.bumpI MAC_P_RX_WAKE p
    if s.onI MAC_P_WAKE_STATUS_WAKE p then s.flagI MAC_P_WAKE_STATUS_WAKE_OVERRUN p
    else ((((s.flagI MAC_P_WAKE_STATUS_WAKE p).flagI MAC_P_TROUBLE_WAKE p).wrI MAC_P_WAKE_CODE p
      (beAt bs (etypeOff bs + 22) 4)).wrI MAC_P_WAKE_SRC p (beAt bs 8 4)).wrI MAC_P_WAKE_SRC_HI p (beAt bs 6 2)
  else s

/-! ## PORT section (R269) -/

/-- Whether a speed code is permitted for a port's kind (R268); 0 turns a port off. -/
def speedOk (p v : Nat) : Bool :=
  decide (v = 0) || (if p < 16 then decide (v = 1 ∨ v = 2) else if p < 18 then decide (v = 3) else if p = 19 then decide (v = 4)
    else false)

/-- The CHECK of PORT (R269). -/
def State.portOk (s : State) : Bool :=
  (List.range 20).all (fun p =>
    (speedOk p (s.rdI MAC_P_CFG_SPEED p) &&
     decide (64 ≤ s.rdI MAC_P_CFG_MAX_LEN p ∧ s.rdI MAC_P_CFG_MAX_LEN p ≤ 9216) &&
     (decide (p ≠ 19) || decide (s.rdI MAC_P_CFG_MAX_LEN p ≤ 1528)) &&
     decide (s.rdI MAC_P_LINK_CFG_HOLD_MS p ≤ 100) &&
     (hasPreempt p || !s.onI MAC_P_PREEMPT_PREEMPT_EN p) &&
     (hasPause p || (!s.onI MAC_P_PAUSE_RX_PAUSE_EN p && !s.onI MAC_P_PAUSE_TX_PAUSE_EN p)) &&
     (!s.onI MAC_P_PAUSE_TX_PAUSE_EN p || decide (s.rdI MAC_P_PAUSE_THR_XON_CELLS p < s.rdI MAC_P_PAUSE_THR_XOFF_CELLS p))))

end Sys2Proof.Machine
end

