-- ==== Sys2Proof/Machine/PubOps.lean ====
section
/-! DEFINITION. GOOSE publishers: acceptance, frames, retransmission and carry-over (chapter "Time base, timestamps and timed
launch", R313-R318). -/

namespace Sys2Proof.Machine

open Sys2Proof Reg

/-- Entry `i` of a list kept by rising number, or a default. -/
def getNum {α : Type} (d : α) : List (Nat × α) → Nat → α
  | [], _ => d
  | (m, a) :: l, n => if m = n then a else getNum d l n

/-- Replace entry `i` of a list kept by rising number. -/
def putNum {α : Type} : List (Nat × α) → Nat → α → List (Nat × α)
  | [], n, k => [(n, k)]
  | (m, k') :: l, n, k =>
    if m = n then (n, k) :: l else if n < m then (n, k) :: (m, k') :: l else (m, k') :: putNum l n k

/-- The running state of publisher `p`. -/
def State.pubOf (s : State) (p : Nat) : Pub := getNum {} s.pub.pubs p

/-- Replace the running state of publisher `p`. -/
def State.setPub (s : State) (p : Nat) (x : Pub) : State := s.onPub (fun e => { e with pubs := putNum e.pubs p x })

/-- The publisher table entry of publisher `p`. -/
def State.pubEnt (s : State) (p : Nat) : Nat := s.useEnt 0xE01 p

/-! ## Encoding (R313, IEC 61850-8-1) -/

/-- A BER length: short form below 128, long form of one or two octets above. -/
def berLen (n : Nat) : List Byte :=
  if n < 128 then [BitVec.ofNat 8 n] else if n < 256 then [0x81#8, BitVec.ofNat 8 n] else 0x82#8 :: beBytes 2 n

/-- A BER element. -/
def berTlv (tag : Nat) (v : List Byte) : List Byte := BitVec.ofNat 8 tag :: (berLen v.length ++ v)

/-- An unsigned number as the shortest BER INTEGER content of at most five octets. -/
def berUint (v : Nat) : List Byte :=
  beBytes (if v < 2 ^ 7 then 1 else if v < 2 ^ 15 then 2 else if v < 2 ^ 23 then 3 else if v < 2 ^ 31 then 4 else 5) v

/-- The first BER element of a byte string, whole, and the rest. -/
def berFirst (bs : List Byte) : List Byte × List Byte :=
  let l := beAt bs 1 1
  let n := if l < 128 then 2 + l else if l = 0x81 then 3 + beAt bs 2 1 else 4 + beAt bs 2 2
  (bs.take n, bs.drop n)

/-- The t field of an acceptance now: UTC seconds, 24-bit fraction and the TimeQuality octet (R314). -/
def State.pubTime (s : State) : List Byte :=
  let sec : Int := (s.taiNs / 1000000000 : Nat) - signed 16 (s.rd TIM_UTC_OFFSET_OFFSET_S)
  let frac := s.taiNs % 1000000000 * 2 ^ 24 / 1000000000
  let st := s.rd TIM_STATUS_STATE
  let q := 128 * b2n (s.on TIM_STATUS_UTC_VALID) + 64 * b2n (!s.on TIM_STATUS_TIME_VALID) +
    32 * b2n (!(decide (st = 2) || decide (st = 3))) + (if st = 2 then 20 else 7)
  beBytes 4 (unsigned 32 sec) ++ beBytes 3 frac ++ beBytes 1 q

/-- Octets of IDS of an entry, in wire order. -/
def pubIds (e : Nat) : List Byte := leBytes (Ent.PUB_IDS_LEN.of e) (Ent.PUB_IDS.of e)

/-- A GOOSE frame of an entry, without the IEC 62351-6 extension: gocbRef, timeAllowedToLive, the other IDS, t, stNum, sqNum,
simulation, confRev, ndsCom, numDatSetEntries and allData. -/
def State.gooseFrame (s : State) (e : Nat) (x : Pub) (tal sq : Nat) : List Byte :=
  let (ref, ids) := berFirst (pubIds e)
  let body := ref ++ berTlv 0x81 (berUint tal) ++ ids ++ berTlv 0x84 x.t ++ berTlv 0x85 (berUint x.stNum) ++
    berTlv 0x86 (berUint sq) ++ berTlv 0x87 (beBytes 1 (Ent.PUB_SIM.of e)) ++ berTlv 0x88 (berUint (Ent.PUB_CONFREV.of e)) ++
    berTlv 0x89 (beBytes 1 (Ent.PUB_NDSCOM.of e)) ++ berTlv 0x8A (berUint (Ent.PUB_MEMBERS.of e)) ++ berTlv 0xAB x.data
  let pdu := berTlv 0x61 body
  let tag := if Ent.PUB_TAGGED.on e then beBytes 2 0x8100 ++ beBytes 2 (Ent.PUB_PCP.of e * 8192 + Ent.PUB_VID.of e) else []
  beBytes 6 (Ent.PUB_DST_MAC.of e) ++ beBytes 6 s.ownMac ++ tag ++ beBytes 2 0x88B8 ++ beBytes 2 (Ent.PUB_APPID.of e) ++
    beBytes 2 (8 + pdu.length) ++ beBytes 4 0 ++ pdu

/-! ## Retransmission (R315, R316) -/

/-- Interval `k` of a curve in µs: a burst interval for k below STEPS, the heartbeat after. -/
def curveUs (c k : Nat) : Nat :=
  if k < Ent.RETR_STEPS.of c then bits c (96 + 32 * k) 32 else Ent.RETR_HEARTBEAT_US.of c

/-- timeAllowedToLive in ms before an interval of `i` µs. -/
def curveTal (c i : Nat) : Nat := (i * Ent.RETR_TAL_Q.of c + 3999) / 4000

/-- Whether publishers may send (R317). -/
def State.pubMaySend (s : State) : Bool := s.on TIM_CTRL_PUB_EN && s.emits

/-- The next sqNum after one that was sent. -/
def sqAfter (q : Nat) : Nat := if q = 0xFFFFFFFF then 1 else q + 1

/-- A frame of publisher `p` falls due: it is sent where publishers may send, and the schedule moves on (R316, R317). Each due
time follows the one before it, whenever the frame is sent. A frame whose key may not be used is not sent (DESIGN CHOICE, log entry 15). -/
def State.pubSend (s : State) (p : Nat) : State :=
  let e := s.pubEnt p
  let x := s.pubOf p
  let c := s.ent 0xE02 (Ent.PUB_CURVE.of e)
  let i := curveUs c x.step
  let x' : Pub := { x with step := if x.step < Ent.RETR_STEPS.of c then x.step + 1 else 15, due := some (x.due.getD s.now + i * 1000) }
  let s := s.setPub p x'
  if s.pubMaySend = false then s
  else
    let f := s.gooseFrame e x (curveTal c i) x.nextSq
    let auth := Ent.PUB_AUTH.of e
    let slot := Ent.PUB_KEY_SLOT.of e
    let (ok, s) := if auth = 0 then (true, s) else s.keyUse slot
    if ok = false then s
    else
      let f := if auth = 0 then f
        else f ++ Config.authExtension auth ((s.slot slot).keyId.drop 12) (s.slot slot).material f
      let s := (s.setPub p { x' with sqNum := x.nextSq, nextSq := sqAfter x.nextSq }).bump TIM_PUB_FRAMES
      (s.inject f (Ent.PUB_CLASS.of e) true none none).2

/-- Publisher `p` accepts a data set: stNum counts on, sqNum restarts, and frame 0 goes at once (R314, R316). -/
def State.pubAccept (s : State) (p : Nat) (data : List Byte) : State :=
  let x := s.pubOf p
  let s := s.setPub p { x with
    stNum := if x.stNum = 0xFFFFFFFF then 1 else x.stNum + 1, nextSq := 0, sqNum := 0, acceptTai := s.taiNs, t := s.pubTime,
    step := 0, data := data, changed := false, due := none }
  (s.bump TIM_PUB_STATES).pubSend p

/-- A payload of a folio publisher (R314). -/
def State.pubFolio (s : State) (p : Nat) (payload : List Byte) : State :=
  let x := s.pubOf p
  if Ent.PUB_MAX_PAYLOAD.of (s.pubEnt p) < payload.length then (s.bump TIM_PUB_REFUSED).flag TIM_TROUBLE_PUB_REFUSED
  else if x.stNum ≠ 0 ∧ x.data = payload then s
  else s.pubAccept p payload

/-- allData of a CTL publisher: member 2j a bit-string of 2 bits, member 2j + 1 a bit-string of 8 bits (R313). -/
def ctlData (members : Store) (n : Nat) : List Byte :=
  (List.range n).foldl (fun acc i =>
    let v := members.get i 0
    acc ++ berTlv 0x84 (if i % 2 = 0 then beBytes 1 6 ++ beBytes 1 (v * 64) else beBytes 1 0 ++ beBytes 1 v)) []

/-- CTL writes a member of a publisher's data set; before CTL has started there is no acceptance (R314, R317). -/
def State.pubMember (s : State) (p i v : Nat) : State :=
  let x := s.pubOf p
  s.setPub p { x with members := x.members.put i 0 v }

/-- The data set of CTL publisher `p` is taken: accepted if any member differs from the last published value (R314). -/
def State.pubCtlTake (s : State) (p : Nat) : State :=
  let x := s.pubOf p
  let d := ctlData x.members (Ent.PUB_MEMBERS.of (s.pubEnt p))
  if x.stNum = 0 ∨ x.data = d then s else s.pubAccept p d

/-- CTL starts executing: each CTL publisher is accepted with its data set (R317). -/
def State.pubCtlStart (s : State) : State :=
  if s.pub.ctlStarted then s
  else
    let s := s.onPub (fun e => { e with ctlStarted := true })
    (s.used 0xE01).foldl (fun s e =>
      if Ent.PUB_OWNER.of e.2 = 2 ∧ (s.pubOf e.1).stNum = 0 then
        s.pubAccept e.1 (ctlData (s.pubOf e.1).members (Ent.PUB_MEMBERS.of e.2))
      else s) s

/-- The next interval of publisher `p` has elapsed (R316). A CHANGED publisher keeps its data set, a CTL one in the members of the new
entry, and its next frame counts as an acceptance (R318). -/
def State.pubDue (s : State) (p : Nat) : State :=
  let x := s.pubOf p
  if x.stNum = 0 ∨ s.due x.due = false then s
  else if x.changed then
    let e := s.pubEnt p
    s.pubAccept p (if Ent.PUB_OWNER.of e = 2 then ctlData x.members (Ent.PUB_MEMBERS.of e) else x.data)
  else s.pubSend p

/-- ACTIVE is withdrawn, or the module starts: no frame is scheduled, and every publisher starts afresh (R317). -/
def State.pubReset (s : State) : State := { s with pub := {} }

/-- Every publisher's schedule and numbers end; members stay (R317). -/
def State.pubWithdraw (s : State) : State :=
  s.onPub (fun e => { e with
    pubs := e.pubs.map (fun p => (p.1, { members := p.2.members : Pub })), ctlStarted := false })

/-- Publisher state table 0x0E03: STNUM 31:0, SQNUM 63:32, ACCEPT_TAI 127:64, STEP 131:128. -/
def State.pubStateEnt (s : State) (p : Nat) : Nat :=
  let x := s.pubOf p
  x.stNum + x.sqNum * 2 ^ 32 + x.acceptTai * 2 ^ 64 + x.step * 2 ^ 128

/-- Whether two publisher entries belong to the same owner (R318). -/
def pubOwnerEq (a b : Nat) : Bool :=
  decide (Ent.PUB_OWNER.of a = Ent.PUB_OWNER.of b) && (decide (Ent.PUB_OWNER.of a ≠ 1) || decide (Ent.PUB_FOLIO.of a = Ent.PUB_FOLIO.of b))

/-- The flip of a PUBL tip-in, from the old bank to the running one (R318). -/
def State.pubFlip (s : State) (old : Store) : State :=
  let new := s.used 0xE01
  let before := s.pub
  let s := s.onPub (fun e => { e with pubs := [] })
  new.foldl (fun s e =>
    match findStable old (e.2 % 2 ^ 32) with
    | some (i, o) =>
      if pubOwnerEq o e.2 then
        let x := getNum {} before.pubs i
        s.setPub e.1 { x with changed := x.changed || decide (o ≠ e.2) }
      else if Ent.PUB_OWNER.of e.2 = 2 ∧ before.ctlStarted then s.pubAccept e.1 (ctlData [] (Ent.PUB_MEMBERS.of e.2)) else s
    | none => if Ent.PUB_OWNER.of e.2 = 2 ∧ before.ctlStarted then s.pubAccept e.1 (ctlData [] (Ent.PUB_MEMBERS.of e.2)) else s) s

/-! ## CHECK of PUBL (R313, R315) -/

/-- Whether the octets are whole BER elements whose tags are the given ones in order. -/
def berTags : List Nat → List Byte → Bool
  | [], bs => decide (bs = [])
  | t :: ts, bs =>
    let (a, r) := berFirst bs
    (decide (beAt bs 0 1 = t) && decide (2 ≤ a.length) &&
      decide (a.length = (if beAt bs 1 1 < 128 then 2 + beAt bs 1 1 else if beAt bs 1 1 = 0x81 then 3 + beAt bs 2 1 else 4 + beAt bs 2 2)) &&
      berTags ts r)

/-- Whether IDS is well formed. -/
def idsOk (e : Nat) : Bool := berTags [0x80, 0x82] (pubIds e) || berTags [0x80, 0x82, 0x83] (pubIds e)

/-- Whether a curve keeps R315. -/
def curveOk (c : Nat) : Bool :=
  let h := Ent.RETR_HEARTBEAT_US.of c
  decide (1000 ≤ h ∧ h ≤ 60000000) && decide (4 ≤ Ent.RETR_TAL_Q.of c) &&
  (List.range (Ent.RETR_STEPS.of c)).all (fun k =>
    decide (100 ≤ curveUs c k ∧ curveUs c k ≤ h) && (decide (k = 0) || decide (curveUs c (k - 1) ≤ curveUs c k)))

/-- The longest frame that an entry can produce, in octets: the largest TAL, 255 quarters of 60 s, five-octet numbers, the largest payload
(R313, R315). -/
def State.pubLongest (s : State) (e : Nat) : Nat :=
  let x : Pub := { stNum := 0xFFFFFFFF, t := List.replicate 8 0#8,
                   data := if Ent.PUB_OWNER.of e = 2 then ctlData [] (Ent.PUB_MEMBERS.of e) else List.replicate (Ent.PUB_MAX_PAYLOAD.of e) 0#8 }
  let f := s.gooseFrame e x 3825000 0xFFFFFFFF
  frameLen f + (if Ent.PUB_AUTH.of e = 0 then 0 else (Config.authExtension (Ent.PUB_AUTH.of e) (List.replicate 4 0#8) [] f).length)

/-- The ports, beside I0, to which the forwarding tables send an entry's frames. -/
def State.pubPorts (s : State) (e : Nat) : Nat :=
  match s.decide0 18 (s.gooseFrame e {} 0 0) with
  | .drop _ => 0
  | .send _ d _ _ _ _ _ => d

/-- The CHECK of PUBL on a filled publisher table and curve table (R313, R315); `members` are the PUB and PUB_MEMBER of each
control object. -/
def State.publOk (s : State) (pubs curves : Store) (members : List (Nat × Nat)) : Bool :=
  pubs.all (fun e => decide (Ent.PUB_OWNER.of e.2 = 0) ||
    (idsOk e.2 && curveOk (curves.get (Ent.PUB_CURVE.of e.2) 0) && decide (3 ≤ Ent.PUB_IDS_LEN.of e.2 ∧ Ent.PUB_IDS_LEN.of e.2 ≤ 192) && decide (Ent.PUB_OWNER.of e.2 ≠ 3) &&
     (decide (Ent.PUB_OWNER.of e.2 ≠ 1) || decide (1 ≤ Ent.PUB_MAX_PAYLOAD.of e.2 ∧ Ent.PUB_MAX_PAYLOAD.of e.2 ≤ 1472)) &&
     (decide (Ent.PUB_OWNER.of e.2 ≠ 2) || (decide (Ent.PUB_MEMBERS.of e.2 % 2 = 0) && decide (2 ≤ Ent.PUB_MEMBERS.of e.2 ∧ Ent.PUB_MEMBERS.of e.2 ≤ 254))) &&
     (List.range 20).all (fun p => decide (p = 18) || !bitAt (s.pubPorts e.2) p || decide (s.pubLongest e.2 ≤ s.maxLen p)))) &&
  curves.all (fun c => decide (c.2 % 2 ^ 32 = 0) || curveOk c.2) &&
  members.all (fun m => decide (m.2 % 2 = 0) && decide (m.2 < Ent.PUB_MEMBERS.of (pubs.get m.1 0)))

end Sys2Proof.Machine
end

