-- ==== Sys2Proof/Machine/RingOps.lean ====
section
/-! DEFINITION. Folio rings and service rings (chapter "Folios and core pairs", R166-R173). Descriptors that folio software
writes come as operands of the tail write (DESIGN CHOICE, log entry 20). -/

namespace Sys2Proof.Machine

open Sys2Proof Reg

/-- The running state of folio `f`. -/
def State.folio (s : State) (f : Nat) : Fol := getNum {} s.fol.fols f

/-- Replace the running state of folio `f`. -/
def State.setFolio (s : State) (f : Nat) (x : Fol) : State := s.onFol (fun e => { e with fols := putNum e.fols f x })

/-- Change the running state of folio `f`. -/
def State.modFolio (s : State) (f : Nat) (g : Fol → Fol) : State := s.setFolio f (g (s.folio f))

/-- The placement entry of folio `f` (R157). -/
def State.plc (s : State) (f : Nat) : Nat := s.ent 0x701 f

/-! ## Service rings (R172) -/

/-- Service ring `r`. -/
def State.svcRing (s : State) (r : Nat) : Svc := getNum {} s.fol.svc r

/-- Write a record to service ring `r`; `mk` makes it from its record number. A full ring keeps what it holds. -/
def State.svcPush (s : State) (r : Nat) (mk : Nat → Nat) : State :=
  let x := s.svcRing r
  let z : Svc := { x with lost := x.lost + 1 }
  if x.produced - x.consumed = 1023 then
    ((s.onFol (fun e => { e with svc := putNum e.svc r z })).bump FOL_SVC_LOST).flag
      FOL_TROUBLE_SVC_LOST
  else
    let y : Svc := { x with produced := x.produced + 1, slots := x.slots.put (1 + x.produced % 1023) 0 (mk x.produced) }
    s.onFol (fun e => { e with svc := putNum e.svc r y })

/-- The 64 bytes of a slot of a service ring; slot 0 is the header. -/
def State.svcSlot (s : State) (r slot : Nat) : Nat :=
  let x := s.svcRing r
  if slot = 0 then x.produced % 2 ^ 64 + x.consumed % 2 ^ 64 * 2 ^ 64 + x.lost % 2 ^ 32 * 2 ^ 128 else x.slots.get slot 0

/-- Folio 0 stores the CONSUMED field of a service ring's header. -/
def State.svcConsume (s : State) (r n : Nat) : State :=
  s.onFol (fun e => { e with svc := putNum e.svc r { getNum {} e.svc r with consumed := n % 2 ^ 64 } })

/-! ## Receive rings (R167-R169) -/

/-- Whether a window with write access of the folio holds a 64-byte aligned buffer. -/
def State.rxBufOk (s : State) (f a n : Nat) : Option Nat := if a % 64 = 0 then s.window f a n true else none

/-- Raise a RING fault of a folio, once a ring and run (R174); it is taken at the end of the command. -/
def State.ringFault (s : State) (f a : Nat) (rx : Bool) : State :=
  let x := s.folio f
  if (if rx then x.rxFaulted else x.txFaulted) then s
  else (s.setFolio f (if rx then { x with rxFaulted := true } else { x with txFaulted := true })).onFol
    (fun e => { e with ringFaults := e.ringFaults ++ [(f, a)] })

/-- A frame is delivered to a folio's receive ring, or dropped where no free buffer is posted (R169). `ts` is its ingress
timestamp, if it has one. The descriptor goes back with its reserved fields 0 (R168). -/
def State.rxDeliver (s : State) (f : Nat) (bs : List Byte) (inPort cls : Nat) (ts : Option Nat) : State :=
  let x := s.folio f
  let size := if s.rdI FOL_F_RING_CFG_RX_LOG2 f = 0 then 0 else 2 ^ s.rdI FOL_F_RING_CFG_RX_LOG2 f
  let head := s.rdI FOL_F_RX_PTR_HEAD f
  if size = 0 ∨ head = s.rdI FOL_F_RX_PTR_TAIL f ∨ Ent.RXD_OWN.on (x.rx.get head 0) = false then
    (s.bumpI FOL_F_RING_CFG_RX_DROP f).flag FOL_TROUBLE_RX_DROP
  else
    let d := x.rx.get head 0
    let cap := Ent.RXD_BUF_SIZE.of d
    let kept := bs.take cap
    let d := d % 2 ^ 192 - d % 2 ^ 128 + d % 2 ^ 108
    let d := Ent.RXD_OWN.put d 0
    let d := Ent.RXD_IN_PORT.put (Ent.RXD_CLASS.put d cls) inPort
    let d := Ent.RXD_TS_VALID.put (Ent.RXD_RX_TS.put d (ts.getD 0)) (b2n ts.isSome)
    let (d, s) := match s.rxBufOk f (Ent.RXD_BUF_ADDR.of d) cap with
      | some a => (Ent.RXD_BAD_BUF.put (Ent.RXD_TRUNC.put (Ent.RXD_FRAME_LEN.put d kept.length) (b2n (decide (cap < bs.length)))) 0,
                   s.dramWrite a kept)
      | none => (Ent.RXD_BAD_BUF.put (Ent.RXD_TRUNC.put (Ent.RXD_FRAME_LEN.put d 0) 0) 1,
                 s.ringFault f (Ent.RXD_BUF_ADDR.of d) true)
    (s.modFolio f (fun x => { x with rx := x.rx.put head 0 d })).wrI FOL_F_RX_PTR_HEAD f ((head + 1) % size)

/-- Descriptors that a folio wrote from its old TAIL onwards, and the new TAIL. -/
def postDescs (m : Store) (size : Nat) : Nat → List Nat → Store
  | _, [] => m
  | i, d :: ds => postDescs (m.put (i % size) 0 (d % 2 ^ 256)) size (i + 1) ds

/-- RX_PTR.TAIL is written: the folio's free buffers are posted (R167). -/
def State.rxTail (s : State) (f tail : Nat) (ds : List Nat) : State :=
  let size := 2 ^ s.rdI FOL_F_RING_CFG_RX_LOG2 f
  (s.modFolio f (fun x => { x with rx := postDescs x.rx size (s.rdI FOL_F_RX_PTR_TAIL f) ds })).wrI FOL_F_RX_PTR_TAIL f tail

/-! ## Transmit rings (R170, R171) -/

/-- HEAD moves past the descriptors that the module has written back. -/
def State.txAdvance : Nat → State → Nat → State
  | 0, s, _ => s
  | fuel + 1, s, f =>
    let size := 2 ^ s.rdI FOL_F_RING_CFG_TX_LOG2 f
    let h := s.rdI FOL_F_TX_PTR_HEAD f
    if h = s.rdI FOL_F_TX_PTR_TAIL f ∨ Ent.TXD_OWN.on ((s.folio f).tx.get h 0) = true then s
    else txAdvance fuel (s.wrI FOL_F_TX_PTR_HEAD f ((h + 1) % size)) f

/-- Write a transmit descriptor back with OWN = 0. -/
def State.txBack (s : State) (f i : Nat) (sent : Bool) (cause : Nat) : State :=
  let d := (s.folio f).tx.get i 0
  let d := Ent.TXD_CAUSE.put (Ent.TXD_DISCARDED.put (Ent.TXD_SENT.put (Ent.TXD_OWN.put d 0) (b2n sent)) (b2n (!sent))) cause
  (s.modFolio f (fun x => { x with tx := x.tx.put i 0 d })).txAdvance 4096 f

/-- Return descriptors unsent, with a cause. -/
def State.txReturn (s : State) (f : Nat) (is : List Nat) (cause : Nat) : State :=
  is.foldl (fun s i => if Ent.TXD_OWN.on ((s.folio f).tx.get i 0) then s.txBack f i false cause else s) s

/-- Whether LEN suits every egress port that the frame would take: 60 to the largest frame less 4 (R170). -/
def State.txLenOk (s : State) (bs : List Byte) : Bool :=
  decide (60 ≤ bs.length) &&
  (match s.decide0 18 bs with
   | .drop _ => true
   | .send _ dests _ _ _ _ _ => (List.range 20).all (fun p => !bitAt dests p || decide (bs.length + 4 ≤ s.maxLen p)))

/-- One posted descriptor passes to the switch at I0, or is returned with the cause that stops it (R170). `gated` marks a
TX entry of a released cycle (R366). In QUIET only the Supervisor's frames cross I0 (R424). -/
def State.txSend (s : State) (f i : Nat) (gated : Bool) : State :=
  let d := (s.folio f).tx.get i 0
  let a := Ent.TXD_BUF_ADDR.of d
  let n := Ent.TXD_LEN.of d
  if Ent.TXD_OWN.on d = false then s
  else match (if a % 8 = 0 then s.window f a n false else none) with
  | none => (s.ringFault f a false).txBack f i false 4
  | some da =>
    let bs := s.dramBytes da n
    if s.txLenOk bs = false then s.txBack f i false 5
    else if s.on SWC_CTRL_ENABLE = false ∨ s.loaded = false ∨ (s.power ≠ 3 ∧ f ≠ 0) then s.txBack f i false 0
    else
      let ts := if Ent.TXD_TS_REQ.on d then some (i, f) else none
      let launch := if Ent.TXD_TIMED.on d then some (Ent.TXD_LAUNCH_TIME.of d) else none
      (s.inject bs (Ent.TXD_CLASS.of d) gated ts launch).2.txBack f i true 0

/-! ## Frames at I0 -/

/-- A frame has left the egress queue of I0: it goes to the receive rings that the decision named (R169, R243). Control
objects and the time base take theirs in their own rows. -/
def State.i0Deliver (s : State) (c : Copy) : State :=
  (List.range 32).foldl (fun s f => if bitAt c.folios f then s.rxDeliver f c.bytes c.inPort c.cls
    (if c.inPort = 18 then none else some c.rxTs) else s) s

/-- The copies that I0 is sending, once sent. -/
def State.i0Sent (s : State) : List Copy := s.swc.copies.filter (fun x => x.port == 18 && x.st == 2 && x.complete)

end Sys2Proof.Machine
end

