-- ==== Sys2Proof/Machine/CtlOps.lean ====
section
/-! DEFINITION. Control objects: arrival, arbitration, execution, position, results and the interlock answer port (chapter
"Control objects and interlock answers", R214-R238). -/

namespace Sys2Proof.Machine

open Sys2Proof Reg

/-! ## Objects and masters -/

/-- The entry of object `o`. -/
def State.objEnt (s : State) (o : Nat) : Nat := s.useEnt 0x1601 o

/-- Whether an entry is an enabled object. -/
def objOn (e : Nat) : Bool := decide (Ent.OBJ_STABLE_ID.of e ≠ 0) && Ent.OBJ_ENABLE.on e

/-- The running state of object `o`. -/
def State.ctlObj (s : State) (o : Nat) : CtlObj := getNum {} s.ctl.objs o

/-- Replace the running state of object `o`. -/
def State.setObj (s : State) (o : Nat) (x : CtlObj) : State := s.onCtl (fun e => { e with objs := putNum e.objs o x })

/-- The enabled master of a table that serves a source (R215). -/
def masterIn (masters : Store) (src folio : Nat) : Option Nat :=
  (masters.find? (fun e => Ent.MST_ENABLE.on e.2 && decide (Ent.MST_SOURCE.of e.2 = src) &&
    (decide (src ≠ 0) || decide (Ent.MST_FOLIO.of e.2 = folio)))).map (fun e => e.1)

/-- The master of a command. -/
def State.masterOf (s : State) (c : CtlCmd) : Option Nat := masterIn (s.used 0x1602) c.src c.folio

/-- The rank of master `m` on an object: 15 where it may not command it, or is disabled (R215, R219). -/
def State.rankBy (s : State) (m o : Nat) : Nat :=
  if Ent.MST_ENABLE.on (s.useEnt 0x1602 m) then
    bits (Ent.MST_RANKS.of (s.useEnt 0x1602 m)) (4 * Ent.OBJ_RANK_CLASS.of (s.objEnt o)) 4
  else 15

/-- The rank of a command on an object. -/
def State.rankOf (s : State) (c : CtlCmd) (o : Nat) : Nat := ((s.masterOf c).map (fun m => s.rankBy m o)).getD 15

/-- The master number that a command's result shows: its enabled master, or the entry of a disabled one (R228). -/
def State.masterNo (s : State) (c : CtlCmd) : Option Nat :=
  (s.masterOf c).orElse (fun _ => ((s.used 0x1602).find? (fun e => decide (Ent.MST_SOURCE.of e.2 = c.src) &&
    (decide (c.src ≠ 0) || decide (Ent.MST_FOLIO.of e.2 = c.folio)))).map (fun e => e.1))

/-- The command code in an object's safe direction: 1 OPEN, 2 CLOSE. -/
def safeCode (e : Nat) : Nat := 1 + Ent.OBJ_SAFE_DIR.of e

/-- Two commands come from the same master. -/
def CtlCmd.sameMaster (a b : CtlCmd) : Bool := decide (a.src = b.src) && (decide (a.src ≠ 0) || decide (a.folio = b.folio))

/-- Refresh CTL_STATUS. -/
def State.ctlRefresh (s : State) : State :=
  ((s.wrB CTL_STATUS_RUNNING (s.on CTL_CTRL_ENABLE && s.loaded)).wrB CTL_STATUS_EXECUTING s.isActive).wr CTL_STATUS_HELD
    (s.ctl.objs.filter (fun x => x.2.cmd.isSome)).length

/-! ## Results (R227, R228) -/

/-- A result record with its record number. -/
def resRecord (n obj master code dir noPos tag sid latch tai scan : Nat) : Nat :=
  Ent.RES_SEQ.mk' n + Ent.RES_OBJECT.mk' obj + Ent.RES_MASTER.mk' master + Ent.RES_CODE.mk' code + Ent.RES_DIR.mk' dir +
  Ent.RES_NO_POS.mk' noPos + Ent.RES_TAG.mk' tag + Ent.RES_OBJ_ID.mk' sid + Ent.RES_LATCH_TAI.mk' latch +
  Ent.RES_RESULT_TAI.mk' tai + Ent.RES_SCAN_NO.mk' scan

/-- The status registers of the register masters take a result. -/
def State.ctlRegResult (s : State) (src code : Nat) : State :=
  if src = 1 ∨ src = 2 then
    let i := src - 1
    if code = 0x20 then (s.wrI CTL_CMD_STATUS_EXECUTED i 1).wrI CTL_CMD_STATUS_RESULT i code
    else (((s.wrI CTL_CMD_STATUS_BUSY i 0).wrI CTL_CMD_STATUS_EXECUTED i 0).wrI CTL_CMD_STATUS_RESULT i code).flagI
      CTL_CMD_STATUS_DONE i
  else s

/-- Counters and trouble bits of a result. -/
def State.ctlCount (s : State) (code : Nat) : State :=
  if code = 0x20 then s.bump CTL_EXECUTED
  else if code = 1 then s
  else if code = 2 then (s.bump CTL_TRAVEL_FAIL).flag CTL_TROUBLE_TRAVEL_FAIL
  else
    let s := (s.bump CTL_REJECTED).flag CTL_TROUBLE_REJECT
    if code = 0x0B then s.flag CTL_TROUBLE_TIMEOUT else if code = 0x0F then s.flag CTL_TROUBLE_QUEUE_FULL else s

/-- A result for the object of entry `e` is delivered: registers, service ring 2, the event record and the folio's receive ring
(R228); `held` is the master of a command that was held. The master number of a command that has no master is a free value (log
entry 21). -/
def State.ctlResultOf (s : State) (e : Nat) (held : Option Nat) (c : CtlCmd) (latch code scan : Nat) (noPos : Bool) : State :=
  let (m, s) := match held.orElse (fun _ => s.masterNo c) with
    | some m => (m, s)
    | none => (s.fresh.1 % 64, s.fresh.2)
  let s := (s.ctlRegResult c.src code).ctlCount code
  let s := (((s.wr CTL_LAST_RESULT_OBJECT c.obj).wr CTL_LAST_RESULT_MASTER m).wr CTL_LAST_RESULT_CODE code).wr
    CTL_LAST_RESULT_VALID 1
  let s := if c.obj < 1024 ∧ Ent.OBJ_STABLE_ID.of e = Ent.OBJ_STABLE_ID.of (s.objEnt c.obj)
    then s.setObj c.obj { s.ctlObj c.obj with lastCode := code } else s
  let rec_ := resRecord (s.svcRing 2).produced c.obj m code (if c.code < 4 then c.code else 0) (b2n noPos) c.tag (Ent.OBJ_STABLE_ID.of e) latch s.taiNs scan
  let s := s.svcPush 2 (fun _ => rec_)
  let s := if Ent.OBJ_EVT_CLASS.of e = 0 then s else s.eventCtl (Ent.OBJ_EVT_CLASS.of e) s.taiNs (leBytes 64 rec_)
  if c.src = 0 then s.rxDeliver c.folio (List.replicate 12 0#8 ++ beBytes 2 0x88B5 ++ leBytes 64 rec_) 18 7 none else s

/-- A result for an object of the table in force. -/
def State.ctlResult (s : State) (c : CtlCmd) (latch code scan : Nat) (noPos : Bool) : State :=
  s.ctlResultOf (s.objEnt c.obj) none c latch code scan noPos

/-- A result for the command that object `o` held. -/
def State.ctlHeldResult (s : State) (o : Nat) (x : CtlObj) (c : CtlCmd) (code scan : Nat) (noPos : Bool) : State :=
  s.ctlResultOf (s.objEnt o) (some x.master) { c with obj := o } x.latchTai code scan noPos

/-! ## The operate value (R224) -/

/-- Write the operate member of an object's publisher. -/
def State.operate (s : State) (e v : Nat) : State := s.pubMember (Ent.OBJ_PUB.of e) (Ent.OBJ_PUB_MEMBER.of e) v

/-- The operate value of an object returns to idle, and its publisher takes the data set. -/
def State.operateIdle (s : State) (e : Nat) : State := (s.operate e 0).pubCtlTake (Ent.OBJ_PUB.of e)

/-- The command of an object ends with a final result; an operate value that is out returns to idle. -/
def State.ctlEnd (s : State) (o code scan : Nat) (noPos : Bool) : State :=
  let x := s.ctlObj o
  match x.cmd with
  | none => s
  | some c =>
    let s := s.setObj o { x with st := 0, cmd := none, fresh := false, out := none,
                                 fault := if code = 2 then true else if code = 1 then false else x.fault }
    let s := if x.st = 2 ∨ x.out.isSome = true then s.operateIdle (s.objEnt o) else s
    (s.ctlHeldResult o x c code scan noPos).ctlRefresh

/-! ## Arrival (R217, R218, R229) -/

/-- A command arrives. Which final code a command receives while CTL is not enabled is stated nowhere: a free value among the codes of
R227 that are final (log entry 21). -/
def State.ctlArrive (s : State) (c : CtlCmd) : State :=
  let s := s.bump CTL_CMDS
  if s.isActive = false then s.ctlResult c 0 0x0E 0 false
  else if s.on CTL_CTRL_ENABLE = false then s.fresh.2.ctlResult c 0 (1 + s.fresh.1 % 17) 0 false
  else if ¬(1 ≤ c.code ∧ c.code ≤ 3) then s.ctlResult c 0 0x11 0 false
  else if objOn (s.objEnt c.obj) = false then s.ctlResult c 0 0x0D 0 false
  else if c.src = 0 ∧ s.masterOf c = none then s.ctlResult c 0 8 0 false
  else match s.ctl.arrivals.find? (fun b => b.sameMaster c && b.obj == c.obj) with
    | some b => (s.onCtl (fun e => { e with arrivals := e.arrivals.erase b ++ [c] })).ctlResult b 0 5 0 false
    | none =>
      if 256 ≤ s.ctl.arrivals.length then s.ctlResult c 0 0x0F 0 false
      else s.onCtl (fun e => { e with arrivals := e.arrivals ++ [c] })

/-- A GO of a command register: `i` is 0 for CTL_CMD_SUP and 1 for CTL_CMD_CM (R229). -/
def State.ctlCmdWrite (s : State) (who : Agent) (i obj code : Nat) : State :=
  let right := if i = 0 then isSup who else decide (who = .mgmt)
  if right = false then s.flag CTL_TROUBLE_WRONG_AGENT
  else
    let busy := s.onI CTL_CMD_STATUS_BUSY i
    if busy then s.flag CTL_TROUBLE_WRONG_AGENT
    else
      let s := (s.wrI CTL_CMD_OBJECT i obj).wrI CTL_CMD_CODE i code
      let s := (s.wrI CTL_CMD_STATUS_BUSY i 1).wrI CTL_CMD_STATUS_EXECUTED i 0
      s.ctlArrive { src := i + 1, folio := 0, obj := obj, code := code, tag := s.rdI CTL_CMD_TAG i }

/-! ## Arbitration at the SNAPSHOT latch (R218-R221) -/

/-- BLOCK of an object in the output image last received (R222). -/
def State.yBit (s : State) (o b : Nat) : Bool := bitAt (s.ctl.y.get (2 * o + b / 8) 0) (b % 8)

/-- A command becomes the held command of an object at a latch. -/
def State.ctlHold (s : State) (c : CtlCmd) : State :=
  s.setObj c.obj { s.ctlObj c.obj with st := 1, cmd := some c, master := (s.masterOf c).getD 0, latchTai := s.taiNs, latchAt := s.now,
                                       fresh := true }

/-- A CANCEL of the batch, against the commands held before the latch (R218). -/
def State.ctlCancel (s : State) (c : CtlCmd) (scan : Nat) : State :=
  if objOn (s.objEnt c.obj) = false then s.ctlResult c s.taiNs 0x0D scan false
  else
    let x := s.ctlObj c.obj
    match x.cmd with
    | some _ =>
      if x.st = 1 ∧ s.masterOf c = some x.master then (s.ctlEnd c.obj 0x0C scan false).ctlResult c s.taiNs 1 scan false
      else s.ctlResult c s.taiNs 7 scan false
    | none => s.ctlResult c s.taiNs 7 scan false

/-- Whether command `a` goes before `b` on an object: lower rank, then the safe direction, then the lower master (R219). -/
def State.ctlBefore (s : State) (o : Nat) (a b : CtlCmd) : Bool :=
  let ra := s.rankOf a o
  let rb := s.rankOf b o
  let safe := safeCode (s.objEnt o)
  decide (ra < rb) || (decide (ra = rb) &&
    ((decide (a.code = safe) && decide (b.code ≠ safe)) ||
     (decide ((a.code = safe) = (b.code = safe)) && decide ((s.masterOf a).getD 64 < (s.masterOf b).getD 64))))

/-- The winner of the commands that remain. -/
def State.ctlWinner (s : State) (o : Nat) : List CtlCmd → Option CtlCmd
  | [] => none
  | c :: cs =>
    match ctlWinner s o cs with
    | none => some c
    | some w => if s.ctlBefore o w c then some w else some c

/-- The winner meets the command that the object holds (R219). A displaced operate value stays out until the displacing command
executes or ends, OPERATE_MS runs out or the end is reported (R224; DEDUCED, log entry 22). -/
def State.ctlMeet (s : State) (o scan : Nat) (w : CtlCmd) : State :=
  let x := s.ctlObj o
  match x.cmd with
  | none => s.ctlHold w
  | some h =>
    let safe := safeCode (s.objEnt o)
    if w.code = safe ∧ h.code ≠ safe ∧ s.rankOf w o ≤ s.rankBy x.master o then
      let s := s.setObj o { x with st := 0, cmd := none, out := if x.st = 2 then some (h.code, x.execAt) else x.out }
      (s.ctlHeldResult o x h 6 scan false).ctlHold w
    else s.ctlResult w s.taiNs 7 scan false

/-- Arbitration of one object's OPEN and CLOSE commands (R219). -/
def State.ctlArbitrate (s : State) (o scan : Nat) (batch : List CtlCmd) : State :=
  if objOn (s.objEnt o) = false then batch.foldl (fun s c => s.ctlResult c s.taiNs 0x0D scan false) s
  else
    let barred := batch.filter (fun c => decide (s.rankOf c o = 15))
    let rest := batch.filter (fun c => decide (s.rankOf c o ≠ 15))
    let s0 := barred.foldl (fun s c => s.ctlResult c s.taiNs 8 scan false) s
    if s.yBit o 6 then rest.foldl (fun s c => s.ctlResult c s.taiNs 9 scan false) s0
    else match s.ctlWinner o rest with
      | none => s0
      | some w =>
        let s1 := (rest.erase w).foldl (fun s c =>
          s.ctlResult c s.taiNs (if s.rankOf w o < s.rankOf c o then 3 else if c.code ≠ w.code then 4 else 5) scan false) s0
        s1.ctlMeet o scan w

/-- The status bits of an object in X (R221); a position frame of this fabric cycle is not in it yet. -/
def State.xBits (s : State) (x : CtlObj) : Nat :=
  let fresh := decide (x.posAt = s.now)
  let pos := if fresh then x.posWas else x.pos
  let valid := if fresh then x.posWasValid else x.posValid
  let code := match x.cmd with
    | some c => if x.st = 1 then c.code else 0
    | none => 0
  pos % 4 + 4 * b2n valid + 8 * b2n (decide (code = 1)) + 16 * b2n (decide (code = 2)) + 32 * b2n (decide (x.st = 1) && x.fresh) +
  64 * b2n (decide (x.st = 2) || decide (x.st = 3) || x.out.isSome) + 128 * b2n x.fault

/-- The object numbers that a batch names, each once. -/
def batchObjs (b : List CtlCmd) : List Nat := (b.map (fun c => c.obj)).eraseDups

/-- The SNAPSHOT latch: the batch is arbitrated, object by object, CANCELs first (DEDUCED, log entry 22); the answer is the
object status image as a bit mask. A held command counts as new in the first scan to which it is presented (R221). -/
def State.ctlSnapshot (s : State) (scan : Nat) : Nat × State :=
  let batch := s.ctl.arrivals
  let s := s.onCtl (fun e => { e with arrivals := [] })
  let s := (batch.filter (fun c => c.code == 3)).foldl (fun s c => s.ctlCancel c scan) s
  let rest := batch.filter (fun c => !(c.code == 3))
  let s := (batchObjs rest).foldl (fun s o => s.ctlArbitrate o scan (rest.filter (fun c => c.obj == o))) s
  let x := s.ctl.objs.foldl (fun n p => if s.objEnt p.1 ≠ 0 then n + s.xBits p.2 * 2 ^ (8 * p.1) else n) 0
  (x, (s.onCtl (fun e => { e with objs := e.objs.map (fun p => (p.1, { p.2 with fresh := false })) })).ctlRefresh)

/-! ## The output image (R222-R224, R230) -/

/-- The permit bits of an output image. -/
def permits (y : Store) (b : Nat) : Nat :=
  y.foldl (fun n e => if e.1 % 2 = 0 ∧ bitAt e.2 b = true then n + 2 ^ (e.1 / 2) else n) 0

/-- Apply the image received last. -/
def State.ilApply (s : State) : State :=
  match s.ctl.ilNext with
  | none => s
  | some i => (s.onCtl (fun e => { e with il := some i, ilNext := none, ilEdges := 0 })).wr CTL_IL_IMAGE_SCAN_SCAN_LO (i.scanNo % 2 ^ 32)

/-- IL_CLK is absent: no rising edge for 1 µs (R230). -/
def State.ilAbsent (s : State) : Bool := match s.ctl.ilEdge with | some t => decide (t + 1000 ≤ s.now) | none => true

/-- CTL receives an output image: it becomes the interlock image to be applied, at the second rising edge of IL_CLK that follows, or at
once where the clock is absent (R230). -/
def State.ctlReceive (s : State) (y : Store) (scan : Nat) : State :=
  let s := s.onCtl (fun e => { e with y := y, ilNext := some ⟨permits y 0, permits y 1, scan, s.now⟩, ilEdges := 0 })
  if s.ilAbsent then s.ilApply else s

/-- A held command meets the committed output image (R223). In QUIET, or with the gates closed, nothing is executed and the
command stays held (R366, R424). -/
def State.ctlApply (s : State) (o scan : Nat) : State :=
  let x := s.ctlObj o
  match x.cmd with
  | none => s
  | some c =>
    if x.st ≠ 1 then s
    else if s.yBit o 3 then s.ctlEnd o 0x0A scan false
    else if s.yBit o 6 then s.ctlEnd o 9 scan false
    else if s.yBit o 2 = false then s
    else if s.yBit o (c.code - 1) = false then s.ctlEnd o 0x0A scan false
    else if s.emits = false then s
    else
      let s := s.setObj o { x with st := 2, execAt := s.now, out := none }
      (s.operate (s.objEnt o) c.code).ctlHeldResult o x c 0x20 scan false

/-- The automatic command that an object's output bits raise, if any: 1 OPEN, 2 CLOSE (R222). -/
def autoCode (e old new : Nat) : Nat :=
  let ro := bitAt new 4 && !bitAt old 4
  let rc := bitAt new 5 && !bitAt old 5
  if ro && rc then safeCode e else if ro then 1 else if rc then 2 else 0

/-- The end of a COMMIT reaches CTL: the image is received, held commands are decided, USER values and publishers follow,
and automatic commands are formed, also for an index without an object (R217, R222-R224). An object whose ENABLE is 0 accepts no
command, and keeps what it holds (R214, R238); its USER value gives way to that of an enabled object on the same member. -/
def State.ctlCommit (s : State) (y : Store) (scan : Nat) : State :=
  let old := s.ctl.y
  let s := s.ctlReceive y scan
  let objs := (s.used 0x1601).filter (fun e => !objOn e.2) ++ (s.used 0x1601).filter (fun e => objOn e.2)
  let s := objs.foldl (fun s e =>
    (s.ctlApply e.1 scan).pubMember (Ent.OBJ_PUB.of e.2) (Ent.OBJ_PUB_MEMBER.of e.2 + 1) (y.get (2 * e.1 + 1) 0)) s
  let s := ((objs.map (fun e => Ent.OBJ_PUB.of e.2)).eraseDups).foldl State.pubCtlTake s
  ((y.filter (fun b => decide (b.1 % 2 = 0))).foldl (fun s b =>
    let code := autoCode (s.objEnt (b.1 / 2)) (old.get b.1 0) b.2
    if code = 0 then s
    else s.ctlArrive { src := 3, folio := 0, obj := b.1 / 2, code := code, tag := scan % 2 ^ 32 }) s).ctlRefresh

/-! ## Timers, position and abort (R223-R227) -/

/-- WAIT_MS of a held command runs out. -/
def State.ctlWaitTimeout (s : State) (o : Nat) : State :=
  let x := s.ctlObj o
  if x.st = 1 ∧ x.latchAt + Ent.OBJ_WAIT_MS.of (s.objEnt o) * 1000000 ≤ s.now then s.ctlEnd o 0x0B 0 false else s

/-- OPERATE_MS of an executing object runs out: the operate value returns to idle, and an object without position, also one that has
lost it to a tip-in since, is complete (R224, R226). A displaced operate value returns to idle too. -/
def State.ctlOperateTimeout (s : State) (o : Nat) : State :=
  let x := s.ctlObj o
  let e := s.objEnt o
  let ended (t : Nat) : Bool := decide (t + Ent.OBJ_OPERATE_MS.of e * 1000000 ≤ s.now)
  match x.out with
  | some (_, t) => if ended t then (s.setObj o { x with out := none }).operateIdle e else s
  | none =>
    if (x.st = 2 ∨ x.st = 3) ∧ Ent.OBJ_POS_APPID.of e = 0 ∧ ended x.execAt = true then s.ctlEnd o 1 0 true
    else if x.st = 2 ∧ ended x.execAt = true then (s.setObj o { x with st := 3 }).operateIdle e
    else s

/-- TRAVEL_MS of an executing object runs out before the end position (R226). -/
def State.ctlTravelTimeout (s : State) (o : Nat) : State :=
  let x := s.ctlObj o
  let e := s.objEnt o
  if (x.st = 2 ∨ x.st = 3) ∧ Ent.OBJ_POS_APPID.of e ≠ 0 ∧ x.execAt + Ent.OBJ_TRAVEL_MS.of e * 1000000 ≤ s.now then
    s.ctlEnd o 2 0 false
  else s

/-- The timeAllowedToLive of an object's last position frame runs out (R225). -/
def State.ctlTalExpire (s : State) (o : Nat) : State :=
  let x := s.ctlObj o
  if x.posValid ∧ s.due x.talEnd = true then
    (s.setObj o { x with posValid := false, talEnd := none }).flag CTL_TROUBLE_POS_LOST
  else s

/-- BER elements of a byte string, at most `fuel`: tag and content. -/
def berList : Nat → List Byte → List (Nat × List Byte)
  | 0, _ => []
  | fuel + 1, bs =>
    if bs.length < 2 then []
    else
      let (a, r) := berFirst bs
      let l := beAt bs 1 1
      let h := if l < 128 then 2 else if l = 0x81 then 3 else 4
      (beAt bs 0 1, a.drop h) :: berList fuel r

/-- The parts of a GOOSE frame that the position receiver uses: APPID, timeAllowedToLive in ms, simulation, allData. -/
def readGoose (bs : List Byte) : Option (Nat × Nat × Bool × List (Nat × List Byte)) :=
  let o := etypeOff bs
  if beAt bs o 2 ≠ 0x88B8 then none
  else
    let pdu := bs.drop (o + 10)
    match berList 1 pdu with
    | [(0x61, body)] =>
      let fs := berList 32 body
      match fs.find? (fun f => f.1 == 0x81), fs.find? (fun f => f.1 == 0xAB) with
      | some t, some d => some (beAt bs (o + 2) 2, beNat t.2,
          (match fs.find? (fun f => f.1 == 0x87) with | some x => decide (beNat x.2 ≠ 0) | none => false), berList 512 d.2)
      | _, _ => none
    | _ => none

/-- The Dbpos value of a member, if it is a bit-string of 2 bits. -/
def dbpos (m : Option (Nat × List Byte)) : Option Nat :=
  match m with
  | some (0x84, [u, v]) => if u = 6#8 then some (v.toNat / 64) else none
  | _ => none

/-- A position frame reaches one object (R225, R226). -/
def State.ctlPosition (s : State) (o tal : Nat) (data : List (Nat × List Byte)) : State :=
  let x := s.ctlObj o
  let e := s.objEnt o
  let x := { x with posWas := if x.posAt = s.now then x.posWas else x.pos,
                    posWasValid := if x.posAt = s.now then x.posWasValid else x.posValid, posAt := s.now, posTai := s.taiNs }
  match dbpos data[Ent.OBJ_POS_MEMBER.of e]? with
  | none => (s.setObj o { x with posValid := false, talEnd := none }).flag CTL_TROUBLE_POS_LOST
  | some v =>
    let x := { x with pos := v, posValid := true, talEnd := some (s.now + tal * 1000000) }
    let back := x.out.any (fun d => decide (d.1 = v))
    let s := s.setObj o { x with out := if back then none else x.out }
    let s := if back then s.operateIdle e else s
    match x.cmd with
    | some c => if (x.st = 2 ∨ x.st = 3) ∧ v = c.code then s.ctlEnd o 1 0 false else s
    | none => s

/-- The position receiver takes the oldest frame that I0 has given it: only frames that entered on B0 or B1, and simulated
ones only with SIM_MODE (R225). -/
def State.ctlFrame (s : State) : State :=
  match s.ctl.inbox with
  | [] => s
  | (bs, port) :: rest =>
    let s := s.onCtl (fun e => { e with inbox := rest })
    if port ≠ 16 ∧ port ≠ 17 then s
    else match readGoose bs with
      | none => s
      | some (appid, tal, sim, data) =>
        if sim && !s.on CTL_CTRL_SIM_MODE then s
        else (s.used 0x1601).foldl (fun s e =>
          if decide (Ent.OBJ_POS_APPID.of e.2 = appid) && decide (appid ≠ 0) then s.ctlPosition e.1 tal data else s) s

/-- The host aborts an object's command (R227). -/
def State.ctlAbort (s : State) (o : Nat) : State := s.ctlEnd o 0x10 0 false

/-- CTL stops executing: every held or executing command and every waiting one ends STANDBY, and operate values return to
idle (R237, R367). -/
def State.ctlWithdraw (s : State) : State :=
  let s := s.ctl.objs.foldl (fun s p => s.ctlEnd p.1 0x0E 0 false) s
  let waiting := s.ctl.arrivals
  (waiting.foldl (fun s c => s.ctlResult c 0 0x0E 0 false) (s.onCtl (fun e => { e with arrivals := [] }))).ctlRefresh

/-! ## Tip-in (R238) -/

/-- The operate value that an object has out, 0 where it is idle. -/
def CtlObj.outCode (x : CtlObj) : Nat :=
  match x.out with
  | some d => d.1
  | none => if x.st = 2 then (x.cmd.map (fun c => c.code)).getD 0 else 0

/-- One object's running state at a CTLO flip: the state moves with its identity, or ends with it; a held command follows the identity
of its master. `olds` and `mOld` are the tables before the flip. -/
def State.ctlFlipObj (s : State) (olds mOld : Store) (p : Nat × CtlObj) : State :=
  let e := olds.get p.1 0
  let x := p.2
  match findStable (s.used 0x1601) (Ent.OBJ_STABLE_ID.of e) with
  | none =>
    let s := if x.outCode ≠ 0 then s.operateIdle e else s
    match x.cmd with
    | some c => (s.ctlResultOf e (some x.master) c x.latchTai 0x0D 0 false).flag CTL_TROUBLE_NO_OBJECT
    | none => s
  | some (j, n) =>
    let moved := decide (Ent.OBJ_POS_APPID.of e ≠ Ent.OBJ_POS_APPID.of n ∨ Ent.OBJ_POS_MEMBER.of e ≠ Ent.OBJ_POS_MEMBER.of n)
    let x := { x with posValid := x.posValid && !moved, talEnd := if moved then none else x.talEnd,
                      cmd := x.cmd.map (fun (c : CtlCmd) => { c with obj := j }) }
    let m := (findStable (s.used 0x1602) (Ent.MST_STABLE_ID.of (mOld.get x.master 0))).map (fun y => y.1)
    let x := { x with master := m.getD x.master }
    let samePub := decide (Ent.OBJ_PUB.of e = Ent.OBJ_PUB.of n ∧ Ent.OBJ_PUB_MEMBER.of e = Ent.OBJ_PUB_MEMBER.of n)
    let s := s.setObj j x
    let s := if x.outCode ≠ 0 ∧ samePub = false then ((s.operateIdle e).operate n x.outCode).pubCtlTake (Ent.OBJ_PUB.of n) else s
    if x.st = 1 ∧ (m = none ∨ s.rankBy x.master j = 15) then s.ctlEnd j 8 0 false else s

/-- A CTLO flip takes effect: every object's state follows its identity. -/
def State.ctlFlip (s : State) (olds mOld : Store) : State :=
  let before := s.ctl.objs
  (before.foldl (fun (s : State) p => s.ctlFlipObj olds mOld p) (s.onCtl (fun e => { e with objs := [] }))).ctlRefresh

/-! ## The interlock answer port (R230-R232) -/

/-- Whether the applied image is older than MAX_AGE_US; an image that never came has no age and does not serve. -/
def State.ilStale (s : State) : Bool :=
  match s.ctl.il with
  | none => true
  | some i => decide (s.rd CTL_IL_CFG_MAX_AGE_US ≠ 0) && decide (i.commitAt + s.rd CTL_IL_CFG_MAX_AGE_US * 1000 < s.now)

/-- A query has odd parity (R231). -/
def ilParity (q : Nat) (par : Bool) : Bool := decide ((popcount 12 q + b2n par) % 2 = 1)

/-- The answer port: IL_PERMIT, IL_VALID and IL_APAR as a function of the query lines and the applied image, odd parity over the three;
high impedance in any power state but RUN (R231, R232). -/
def State.ilPort (s : State) : Option (Bool × Bool × Bool) :=
  if s.power ≠ 3 then none
  else
    let q := s.ctl.ilQ.1
    let o := q % 1024
    let kind := q / 1024 % 4
    let valid := ilParity q s.ctl.ilQ.2 && decide (kind < 2) && objOn (s.objEnt o) && s.on CTL_CTRL_PORT_EN && s.isActive && !s.ilStale
    let permit := valid && (match s.ctl.il with
      | some i => bitAt (if kind = 0 then i.openMask else i.closeMask) o
      | none => false)
    some (permit, valid, decide ((b2n permit + b2n valid) % 2 = 0))

/-- A rising edge of IL_CLK: the second one after an image was received applies it (R230). -/
def State.ilRise (s : State) : State :=
  let s := (s.wr CTL_STATUS_IL_CLK_PRESENT 1).onCtl (fun e => { e with ilEdge := some s.now, ilEdges := e.ilEdges + 1 })
  let s := if 2 ≤ s.ctl.ilEdges then s.ilApply else s
  s.wrB CTL_STATUS_IL_IMAGE_OK !s.ilStale

/-- A rising edge of IL_CLK with a query of 12 bits and its parity bit on the lines (R231, R232). -/
def State.ilQuery (s : State) (q : Nat) (par : Bool) : State :=
  let s := ((s.bump CTL_IL_QUERIES).onCtl (fun e => { e with ilQ := (q, par) })).ilRise
  let s := if s.power ≠ 3 then s
    else
      let s := if ilParity q par then s else (s.bump CTL_IL_PAR_ERR).flag CTL_TROUBLE_IL_PAR_ERR
      s.flagIf (s.ctl.il.isSome && s.ilStale) CTL_TROUBLE_IL_STALE
  s.onCtl (fun e => { e with ilOut := s.ilPort })

/-- No rising edge of IL_CLK for 1 µs: the clock is taken as absent and the image is applied at once (R230). -/
def State.ilClkLoss (s : State) : State :=
  if s.ilAbsent then
    let s := ((s.wr CTL_STATUS_IL_CLK_PRESENT 0).flagIf (s.on CTL_CTRL_PORT_EN) CTL_TROUBLE_IL_CLK_LOSS).ilApply
    s.wrB CTL_STATUS_IL_IMAGE_OK !s.ilStale
  else s

/-- The applied image ages past MAX_AGE_US (R232). -/
def State.ilAge (s : State) : State :=
  if s.ctl.il.isSome ∧ s.ilStale = true then (s.flag CTL_TROUBLE_IL_STALE).wr CTL_STATUS_IL_IMAGE_OK 0 else s

/-! ## Reading and CHECK -/

/-- Entry `o` of the object state table 0x1603. -/
def State.ostEnt (s : State) (o : Nat) : Nat :=
  let x := s.ctlObj o
  let e := s.objEnt o
  let c : CtlCmd := x.cmd.getD { src := 0, folio := 0, obj := o, code := 0, tag := 0 }
  Ent.OST_STABLE_ID.mk' (Ent.OBJ_STABLE_ID.of e) + Ent.OST_TAG.mk' c.tag + Ent.OST_STATE.mk' x.st + Ent.OST_DIR.mk' c.code +
  Ent.OST_MASTER.mk' (if x.cmd.isSome then x.master else 0) + Ent.OST_FAULT.mk' (b2n x.fault) + Ent.OST_POS.mk' x.pos +
  Ent.OST_POS_VALID.mk' (b2n x.posValid) + Ent.OST_LAST_CODE.mk' x.lastCode + Ent.OST_LATCH_TAI.mk' x.latchTai +
  Ent.OST_POS_TAI.mk' x.posTai

/-- Whether no two entries that satisfy `p` share a key. -/
def noTwins (m : Store) (p : Nat → Bool) (key : Nat → Nat) : Bool :=
  m.all (fun a => !p a.2 || m.all (fun b => decide (a.1 = b.1) || !p b.2 || decide (key a.2 ≠ key b.2)))

/-- The CHECK of CTLO on the entries in use (R44, R216), with the publisher table in force. -/
def ctloOk (objs masters pubs : Store) : Bool :=
  masters.all (fun e => decide (Ent.MST_SOURCE.of e.2 < 4)) &&
  noTwins masters (fun e => Ent.MST_ENABLE.on e && decide (Ent.MST_SOURCE.of e = 0)) (fun e => Ent.MST_FOLIO.of e) &&
  noTwins masters (fun e => Ent.MST_ENABLE.on e && decide (Ent.MST_SOURCE.of e ≠ 0)) (fun e => Ent.MST_SOURCE.of e) &&
  noTwins objs objOn (fun e => Ent.OBJ_PUB.of e * 256 + Ent.OBJ_PUB_MEMBER.of e) &&
  objs.all (fun e => decide (Ent.PUB_OWNER.of (pubs.get (Ent.OBJ_PUB.of e.2) 0) ≠ 1) &&
     (if Ent.OBJ_POS_APPID.of e.2 = 0 then decide (Ent.OBJ_TRAVEL_MS.of e.2 = 0)
      else decide (Ent.OBJ_OPERATE_MS.of e.2 ≤ Ent.OBJ_TRAVEL_MS.of e.2)))

/-- The PUB and PUB_MEMBER of each enabled object. -/
def objMembers (objs : Store) : List (Nat × Nat) :=
  (objs.filter (fun e => objOn e.2)).map (fun e => (Ent.OBJ_PUB.of e.2, Ent.OBJ_PUB_MEMBER.of e.2))

end Sys2Proof.Machine
end

