-- ==== Sys2Proof/Machine/SviOps.lean ====
section
/-! DEFINITION. Sampled-value ingest: matching, parsing, duplicate discard, placement, verdicts, seals, verifier units and the
ring views (chapter "Sampled-value ingest", R64-R95). The Clasp's part in a verdict follows in ClsOps. -/

namespace Sys2Proof.Machine

open Sys2Proof Reg

/-! ## Cadence arithmetic (R25-R28) -/

/-- The cadence cycle whose sampling interval holds a TAI time (R26); 0 with no Binding. -/
def State.cycleAt (s : State) (t : Nat) : Nat :=
  t * s.rd TIM_CADENCE_CFG_FS / (1000000000 * s.rd TIM_CADENCE_CFG_K)

/-- The TAI time at which the sampling interval of a cycle starts. -/
def State.cycleStart (s : State) (n : Nat) : Nat :=
  (n * s.rd TIM_CADENCE_CFG_K * 1000000000 + s.rd TIM_CADENCE_CFG_FS - 1) / s.rd TIM_CADENCE_CFG_FS

/-- The boundary that ends a cycle: the end of its sampling interval plus the cadence offset (R28). -/
def State.boundary (s : State) (n : Nat) : Nat := s.cycleStart (n + 1) + s.rd TIM_CADENCE_OFS_OFFSET_US * 1000

/-- The ring horizon H (R88). -/
def State.horizon (s : State) : Nat := s.cycleAt (s.taiNs + 256000)

/-! ## Streams and rings -/

/-- The stream context of a stream; that of a stream which a tip-in has removed is the one that it had (log entry 48). -/
def State.ctx (s : State) (i : Nat) : Nat := if i < 512 then s.useEnt 0x201 i else s.svi.ghosts.get i 0

/-- Whether a stream context is enabled. -/
def State.ctxOn (s : State) (i : Nat) : Bool := Ent.CTX_ENABLE.on (s.ctx i)

/-- The running state of a stream. -/
def State.stream (s : State) (i : Nat) : SvStream := getNum {} s.svi.streams i

/-- Replace the running state of a stream. -/
def State.setStream (s : State) (i : Nat) (x : SvStream) : State :=
  s.onSvi (fun e => { e with streams := putNum e.streams i x })

/-- Change the running state of a stream. -/
def State.modStream (s : State) (i : Nat) (f : SvStream → SvStream) : State := s.setStream i (f (s.stream i))

/-- The position number of set `c` in TAI second `sec`. -/
def posOf (rate sec c : Nat) : Nat := sec * rate + c

/-- The ring slot of a position: 16 × (M mod 64) + (c mod S_c) (R85). -/
def slotOf (sc n : Nat) : Nat := 16 * (n / sc % 64) + n % sc

/-- The slot record of a stream at a slot number, if it holds one. -/
def SvStream.at_ (x : SvStream) (slot : Nat) : Option SvSlot := (x.ring.find? (fun p => p.1 == slot)).map (fun p => p.2)

/-- The slot record that belongs to a position of a stream. -/
def State.svAt (s : State) (i n : Nat) : Option SvSlot :=
  let sc := Ent.CTX_SETS_PER_CYCLE.of (s.ctx i)
  match (s.stream i).at_ (slotOf sc n) with
  | some x => if x.cycle = n / sc then some x else none
  | none => none

/-- Whether a slot record has been delivered: its verdict is given and no earlier epoch of its stream waits (R92). -/
def State.svDelivered (s : State) (i : Nat) (x : SvSlot) : Bool :=
  decide (x.st ≠ 1) && !(s.svi.pend.any (fun p => p.stream == i && decide (p.epoch ≤ x.epoch)))

/-- Count in a field of a stream's status entry, saturating (R95). -/
def State.statBump (s : State) (i : Nat) (b : Bits) : State :=
  s.modStream i (fun x => { x with stat := b.put x.stat (satNat 32 (b.of x.stat + 1)) })

/-- Set a field of a stream's status entry. -/
def State.statPut (s : State) (i : Nat) (b : Bits) (v : Nat) : State :=
  s.modStream i (fun x => { x with stat := b.put x.stat v })

/-! ## Rejects (R72) -/

/-- A copy is rejected with a code before placement. An EARLY copy is counted in EARLY of the status entry, not in REJECTED:
DESIGN CHOICE, log entry 45. ORPHANED says that a stream's key slot was lost (R82). -/
def State.svReject (s : State) (code : Nat) (stream : Option Nat) : State :=
  let s := (s.wr SVI_LAST_REJECT_CODE code).wr SVI_LAST_REJECT_STREAM (stream.getD 0x1FF)
  let s := match code with
    | 0x01 => s.bump SVI_UNMATCHED
    | 0x0D => (s.bump SVI_KEY_REJECT).flag SVI_TROUBLE_KEY_REJECT
    | 0x0E => (s.bump SVI_KEY_REJECT).flag SVI_TROUBLE_KEY_REJECT
    | 0x0F => (s.bump SVI_EARLY).flag SVI_TROUBLE_EARLY
    | 0x10 => (s.bump SVI_LATE).flag SVI_TROUBLE_LATE
    | 0x11 => (s.bump SVI_OVERRUN).flag SVI_TROUBLE_OVERRUN
    | 0x12 => s
    | 0x13 => (s.bump SVI_KEY_REJECT).flag SVI_TROUBLE_ORPHANED
    | _ => (s.bump SVI_PARSE_REJECT).flag SVI_TROUBLE_PARSE_REJECT
  let s := if code = 0x0C then s.bump SVI_SIM_DROP else s
  match stream with
  | none => s
  | some i => s.statBump i (if code = 0x10 then Ent.STST_LATE else if code = 0x0F then Ent.STST_EARLY else Ent.STST_REJECTED)

/-! ## Parsing (R71, R72) -/

/-- One BER element: tag, content and rest, or the reject code ASN1. -/
def berNext (bs : List Byte) : Nat ⊕ (Nat × List Byte × List Byte) :=
  match bs with
  | t :: l :: r =>
    if t.toNat % 32 = 31 then .inl 0x03
    else if l.toNat < 128 then
      if r.length < l.toNat then .inl 0x03 else .inr (t.toNat, r.take l.toNat, r.drop l.toNat)
    else if l.toNat = 0x81 ∨ l.toNat = 0x82 then
      let k := l.toNat - 0x80
      let n := beAt r 0 k
      if r.length < k + n then .inl 0x03 else .inr (t.toNat, slice r k n, r.drop (k + n))
    else .inl 0x03
  | _ => .inl 0x03

/-- The elements of a byte string, in order, or the reject code. -/
def berAll : Nat → List Byte → Nat ⊕ List (Nat × List Byte)
  | 0, _ => .inr []
  | fuel + 1, bs =>
    if bs = [] then .inr []
    else match berNext bs with
      | .inl e => .inl e
      | .inr (t, c, r) =>
        match berAll fuel r with
        | .inl e => .inl e
        | .inr l => .inr ((t, c) :: l)

/-- The content of the first element with a tag; what follows it need not be well formed. -/
def berFind : Nat → Nat → List Byte → Option (List Byte)
  | 0, _, _ => none
  | fuel + 1, tag, bs =>
    match berNext bs with
    | .inl _ => none
    | .inr (t, c, r) => if t = tag then some c else berFind fuel tag r

/-- The entries of a profile at a level, in order (R71). -/
def State.profile (s : State) (p lvl : Nat) : List Nat :=
  ((List.range 32).map (fun k => s.ent 0x203 (32 * p + k))).filter
    (fun e => decide (Ent.PRS_PRESENCE.of e ≠ 0) && decide (Ent.PRS_LEVEL.of e = lvl))

/-- Match elements against profile entries in order: action and content of each, or the reject code (R72). -/
def matchFields : List Nat → List (Nat × List Byte) → Nat ⊕ List (Nat × List Byte)
  | [], [] => .inr []
  | [], _ :: _ => .inl 0x04
  | e :: es, [] => if Ent.PRS_PRESENCE.of e = 1 then .inl 0x04 else matchFields es []
  | e :: es, (t, c) :: r =>
    if Ent.PRS_TAG.of e = t then
      if Ent.PRS_PRESENCE.of e = 3 then .inl 0x04
      else if Ent.PRS_MAX_LEN.of e < c.length then .inl 0x05
      else
        let a := Ent.PRS_ACTION.of e
        let badLen := (decide (a = 4) && decide (c.length ≠ 2)) || (decide (a = 5) && decide (c.length ≠ 4)) ||
          (decide (a = 6) && decide (c.length ≠ 1))
        if badLen then .inl 0x05
        else if Ent.PRS_CHECK_EN.on e && decide (beNat c ≠ Ent.PRS_CHECK_VALUE.of e) then .inl 0x0B
        else match matchFields es r with
          | .inl x => .inl x
          | .inr l => .inr ((a, c) :: l)
    else if Ent.PRS_PRESENCE.of e = 1 then .inl 0x04
    else matchFields es ((t, c) :: r)

/-- The content of the first field with an action. -/
def fieldOf (fs : List (Nat × List Byte)) (a : Nat) : Option (List Byte) := (fs.find? (fun f => f.1 == a)).map (fun f => f.2)

/-- One set of a copy: smpCnt, smpSynch, confRev, values and qualities. -/
structure SvSet where
  smpCnt : Nat
  smpSynch : Nat
  confRev : Nat
  svId : List Byte
  vals : List Nat
  quals : List Nat
  deriving DecidableEq, Repr

/-- Values and quality words of seqData. -/
def seqData : Nat → List Byte → List Nat × List Nat
  | 0, _ => ([], [])
  | n + 1, bs =>
    let (v, q) := seqData n (bs.drop 8)
    (beAt bs 0 4 :: v, beAt bs 4 4 :: q)

/-- The savPdu of a copy parsed under the profile of context `c`: the sets, or the reject code. -/
def State.svParse (s : State) (c : Nat) (apdu : List Byte) : Nat ⊕ List SvSet :=
  match berNext apdu with
  | .inl e => .inl e
  | .inr (t, body, _) =>
    if t ≠ 0x60 then .inl 0x04
    else match berAll (body.length + 1) body with
      | .inl e => .inl e
      | .inr els =>
        match matchFields (s.profile (Ent.CTX_PROFILE.of c) 0) els with
        | .inl e => .inl e
        | .inr fs =>
          let noasdu := ((fieldOf fs 1).map beNat).getD 0
          match fieldOf fs 2 with
          | none => .inl 0x04
          | some seq =>
            match berAll (seq.length + 1) seq with
            | .inl e => .inl e
            | .inr as =>
              if as.any (fun a => decide (a.1 ≠ 0x30)) then .inl 0x04
              else if noasdu = 0 ∨ 8 < noasdu ∨ noasdu ≠ Ent.CTX_NOASDU.of c + 1 ∨ as.length ≠ noasdu then .inl 0x06
              else as.foldl (fun acc a =>
                match acc with
                | .inl e => .inl e
                | .inr sets =>
                  match berAll (a.2.length + 1) a.2 with
                  | .inl e => .inl e
                  | .inr el =>
                    match matchFields (s.profile (Ent.CTX_PROFILE.of c) 1) el with
                    | .inl e => .inl e
                    | .inr f =>
                      let id := (fieldOf f 3).getD []
                      let cnt := ((fieldOf f 4).map beNat).getD 0
                      let rev := ((fieldOf f 5).map beNat).getD 0
                      let data := (fieldOf f 8).getD []
                      if sets.any (fun x => decide (x.svId ≠ id)) then .inl 0x07
                      else if rev ≠ Ent.CTX_CONFREV.of c then .inl 0x08
                      else if Ent.CTX_RATE.of c ≤ cnt then .inl 0x09
                      else if data.length ≠ 8 * Ent.CTX_CHANNELS.of c then .inl 0x0A
                      else
                        let (v, q) := seqData (Ent.CTX_CHANNELS.of c) data
                        .inr (sets ++ [{ smpCnt := cnt, smpSynch := ((fieldOf f 6).map beNat).getD 0, confRev := rev, svId := id,
                                         vals := v, quals := q }])) (.inr [])

/-- The svID of the first ASDU under the profile of a context, for matching (R67). -/
def State.firstSvId (s : State) (c : Nat) (apdu : List Byte) : Option (List Byte) :=
  let tagOf (lvl a : Nat) : Option Nat :=
    ((s.profile (Ent.CTX_PROFILE.of c) lvl).find? (fun e => Ent.PRS_ACTION.of e == a)).map Ent.PRS_TAG.of
  let find (bs : List Byte) (t : Option Nat) : Option (List Byte) := t.bind (fun t => berFind (bs.length + 1) t bs)
  match berNext apdu with
  | .inl _ => none
  | .inr (_, body, _) => (find body (tagOf 0 2)).bind (fun seq => (find seq (some 0x30)).bind (fun a => find a (tagOf 1 3)))

/-- The offset of the APPID of a sampled-value copy, after a tag and an HSR tag, and how many 802.1Q tags it carries; absent
where it is no such copy. -/
def svOffset (bs : List Byte) : Option (Nat × Nat) :=
  let (ty, o) := innerType bs
  if ty = 0x88BA then some (o, b2n (hasTag bs))
  else if hasTag bs ∧ beAt bs 16 2 = 0x8100 ∧ beAt bs 20 2 = 0x88BA then some (22, 2)
  else none

/-- The subscription entry that a copy matches (R67). -/
def State.svMatch (s : State) (p : Nat) (bs : List Byte) (o : Nat) (apdu : List Byte) : Option Nat :=
  ((s.used 0x202).find? (fun e =>
    decide (Ent.SUB_DST_MAC.of e.2 = beAt bs 0 6) && decide (Ent.SUB_APPID.of e.2 = beAt bs o 2) &&
    bitAt (Ent.SUB_PORT_MASK.of e.2) p &&
    (if Ent.SUB_VID_MATCH.on e.2 then hasTag bs && decide (tagVid bs = Ent.SUB_VID.of e.2) else decide (tagVid bs = 0)) &&
    decide (s.firstSvId (s.ctx (Ent.SUB_CONTEXT.of e.2)) apdu = some (leBytes (Ent.SUB_SVID_LEN.of e.2) (Ent.SUB_SVID.of e.2))))).map
      (fun e => Ent.SUB_CONTEXT.of e.2)

/-- The sequence number of a valid PRP trailer or HSR tag of a copy, and whether it came over LAN B (R73). -/
def svSeq (bs : List Byte) : Option (Nat × Bool) :=
  match hsrSeq bs with
  | some q => some (q, decide (beAt bs (etypeOff bs + 2) 1 / 16 % 2 = 1))
  | none => if prpTrailer bs then some (beAt bs (bs.length - 6) 2, decide (beAt bs (bs.length - 4) 1 / 16 = 0xB)) else none

/-! ## Keys and verifier units (R81-R84) -/

/-- Whether a key type fits an AUTH code (R70). -/
def typeFits (auth typ : Nat) : Bool :=
  (decide (auth = 1 ∨ auth = 2) && decide (typ = 2)) || (decide (auth = 3) && decide (typ = 3))

/-- The state code of a verifier unit: 0 ACTIVE, 1 TESTING, 2 RETIRED, 3 SPARE. -/
def State.unitState (s : State) (u : Nat) : Nat := bits (s.rd SVI_VER_STATUS_UNIT_STATE) (2 * u) 2

/-- The units in service: ACTIVE, and not released by SPARE_SEL to finish what they hold (R84). -/
def State.activeUnits (s : State) : Nat :=
  ((List.range 4).filter (fun u => s.unitState u == 0 && !s.svi.leaving.contains u)).length

/-- The counts of units that SVI_STATUS shows. -/
def State.unitCounts (s : State) : State :=
  let spare := (List.range 4).any (fun u => s.unitState u == 3 || s.svi.leaving.contains u)
  ((s.wr SVI_STATUS_ACTIVE_UNITS s.activeUnits).wrB SVI_STATUS_DEGRADED (decide (s.activeUnits < 3))).wrB SVI_STATUS_NO_SPARE (!spare)

/-- Set the state of a verifier unit, with the counts that follow from it. -/
def State.setUnit (s : State) (u v : Nat) : State :=
  (s.wr SVI_VER_STATUS_UNIT_STATE (setBits (s.rd SVI_VER_STATUS_UNIT_STATE) (2 * u) 2 v)).unitCounts

/-- The spare unit, if any. -/
def State.spareUnit (s : State) : Option Nat := (List.range 4).find? (fun u => s.unitState u == 3)

/-- Jobs of a unit. -/
def State.unitJobs (s : State) (u : Nat) : List SvEpoch := s.svi.pend.filter (fun p => p.unit == some u)

/-- The active unit with the fewest jobs, lowest number first (DESIGN CHOICE, log entry 18). -/
def State.pickUnit (s : State) : Option Nat :=
  (List.range 4).foldl (fun best u =>
    if s.unitState u = 0 ∧ s.svi.leaving.contains u = false then
      match best with
      | none => some u
      | some b => if (s.unitJobs u).length < (s.unitJobs b).length then some u else best
    else best) none

/-- Jobs enter service: each of the four engines of a unit takes one, in epoch order (DEDUCED, log entry 45). -/
def State.svServe (s : State) : State :=
  s.onSvi (fun v => { v with pend := v.pend.map (fun p =>
    if p.started = none ∧ p.unit ≠ none ∧ (v.pend.filter (fun q => q.unit == p.unit && decide (q.epoch < p.epoch))).length < 4
      then { p with started := some s.now } else p) })

/-- A unit has a job that has run longer than 5 µs for each frame-equivalent (R84). -/
def State.unitLate (s : State) (u : Nat) : Bool :=
  (s.unitJobs u).any (fun p => match p.started with
    | some t => decide (t + 5000 * p.fe < s.now)
    | none => false)

/-- Frame-equivalents waiting or in service: a copy with a bad FCS is never sent to a unit (R65). -/
def State.svBacklog (s : State) : Nat := s.svi.pend.foldl (fun n p => if p.fcsOk then n + p.fe else n) 0

/-- Refresh the epoch, frontier, horizon and backlog registers. -/
def State.svRefresh (s : State) : State :=
  let b := satNat 16 s.svBacklog
  ((s.wr SVI_BACKLOG b).wr SVI_BACKLOG_PEAK_BACKLOG (max b (s.rd SVI_BACKLOG_PEAK_BACKLOG))).wr SVI_HORIZON
    (if s.rd TIM_CADENCE_CFG_FS = 0 then 0 else s.horizon)

/-- The confirm frontier F: the highest epoch at or below which every epoch has its verdict (R77). -/
def State.frontier (s : State) : Nat :=
  s.svi.pend.foldl (fun f p => min f (p.epoch - 1)) (s.rd SVI_EPOCH - 1)

/-! ## Placement (R73-R76) -/

/-- The TAI second of set `c` for an ingress time (R86). -/
def svSecond (rate ingress c : Nat) : Nat :=
  ((ingress + 500000000) * rate - c * 1000000000) / (rate * 1000000000)

/-- Enter a sequence number in a stream's discard table of 32 entries (R73). -/
def State.discEnter (s : State) (i seq : Nat) : State :=
  s.modStream i (fun x =>
    let d := x.disc ++ [(seq, s.now)]
    { x with disc := d.drop (d.length - 32) })

/-- Whether cycle `m` of a stream is sealed. -/
def State.svSealed (s : State) (i m : Nat) : Bool :=
  match (s.stream i).sealed with
  | some k => decide (m < k)
  | none => false

/-- What is known of a copy on its way to placement: its FCS, and its tag against the key in force at its placement (R65, R80). -/
structure SvCheck where
  fcsOk : Bool
  macOk : Bool
  /-- TAI of its last bit at the port's boundary, the receive latency removed (R87, R301) -/
  stamp : Nat
  deriving DecidableEq, Repr

/-- The tag of a copy under a key: HMAC-SHA256 cut to 128 or 80 bits, or AES-GMAC cut to 64 bits (R80). -/
def svTag (key : List Byte) (x : SvExt) : List Byte :=
  if x.alg = 1 then (Config.hmac key x.covered).take 16
  else if x.alg = 2 then (Config.hmac key x.covered).take 10
  else (Config.gmac key x.nonce x.covered).take 8

/-- Place a candidate: its sets take their slots and the next epoch (R76). SMPSYNCH holds smpSynch modulo 4, and UNSYNCED compares
the whole octet: DESIGN CHOICE, log entry 45. A copy with a bad FCS goes to no unit (R65). -/
def State.svPlace (s : State) (i : Nat) (sets : List (Nat × SvSet)) (bs : List Byte) (sim : Bool) (key : Option (Nat × Bool)) (fe : Nat)
    (k : SvCheck) : State :=
  let c := s.ctx i
  let sc := Ent.CTX_SETS_PER_CYCLE.of c
  let e := s.rd SVI_EPOCH
  let red := Ent.CTX_REDUNDANCY.of c
  let lanB := decide (red = 1 ∨ red = 2) && ((svSeq bs).map (fun q => q.2)).getD false
  let s := sets.foldl (fun s p =>
    let x := p.2
    let r : SvSlot :=
      { cycle := p.1 / sc, epoch := e, ingress := k.stamp, st := 1, lan := lanB, sim := sim, smpSynch := x.smpSynch % 4,
        unsynced := decide (x.smpSynch < Ent.CTX_MIN_SMPSYNCH.of c), key := (key.map (fun k => k.2)).getD false, smpCnt := x.smpCnt,
        confRev := x.confRev, vals := x.vals, quals := x.quals }
    s.modStream i (fun st => { st with ring := putNum st.ring (slotOf sc p.1) r })) s
  let last := ((sets.getLast?).map (fun p => p.2.smpCnt)).getD 0
  let pe : SvEpoch := { epoch := e, stream := i, slots := sets.map (fun p => slotOf sc p.1), placedAt := s.now, lastBit := s.now, fe := fe,
                        unit := if fe = 0 ∨ k.fcsOk = false then none else s.pickUnit, keySlot := key.map (fun k => k.1),
                        keyGen := (key.map (fun k => (s.slot k.1).gen)).getD 0, fcsOk := k.fcsOk, macOk := k.macOk }
  let s := ((s.onSvi (fun v => { v with pend := v.pend ++ [pe] })).svServe).wr SVI_EPOCH (e + 1)
  let s := ((((s.bump SVI_PLACED).statBump i (if lanB then Ent.STST_PLACED_B else Ent.STST_PLACED_A)).statPut i Ent.STST_LAST_SMPCNT last).statPut
    i Ent.STST_LAST_EPOCH e).statPut i Ent.STST_LAST_INGRESS k.stamp
  (s.flagIf (decide (512 < s.svBacklog)) SVI_TROUBLE_BURST).svRefresh

/-- The key slot with which a copy is verified, and whether it is the next one: `none` where no slot fits (R81). -/
def State.svKey (s : State) (c : Nat) (x : SvExt) : Option (Nat × Bool) :=
  let cur := Ent.CTX_KEY_SLOT_CUR.of c
  let nxt := Ent.CTX_KEY_SLOT_NEXT.of c
  if x.alg ≠ Ent.CTX_AUTH.of c then none
  else if (s.slot cur).keyId.drop 12 = x.keyId ∧ typeFits x.alg (s.slot cur).typ then some (cur, false)
  else if (s.slot nxt).keyId.drop 12 = x.keyId ∧ typeFits x.alg (s.slot nxt).typ then some (nxt, true)
  else none

/-- A matched copy that has parsed: time, discard and placement (R73, R82, R83, R86, R88). EARLY is judged before the discard
decision: DESIGN CHOICE, log entry 45. -/
def State.svCandidate (s : State) (i : Nat) (bs : List Byte) (sim : Bool) (sets : List SvSet) (key : Option (Nat × Bool)) (fe : Nat)
    (k : SvCheck) : State :=
  let c := s.ctx i
  let rate := Ent.CTX_RATE.of c
  let sc := Ent.CTX_SETS_PER_CYCLE.of c
  let at_ := sets.map (fun x => (posOf rate (svSecond rate k.stamp x.smpCnt) x.smpCnt, x))
  let tol := if Ent.CTX_EARLY_TOL.of c = 0 then 20 else Ent.CTX_EARLY_TOL.of c
  let h := s.horizon
  let c0 := s.svi.c0
  let old (m : Nat) : Bool := decide (m + 63 < h) || (match c0 with | some k => decide (m < k) | none => true)
  if at_.any (fun p => decide ((k.stamp + tol * 1000) * rate < p.1 * 1000000000)) then s.svReject 0x0F (some i)
  else
    let red := Ent.CTX_REDUNDANCY.of c
    let seq := (svSeq bs).map (fun q => q.1)
    let dup := match seq with
      | some q => decide (red = 1 ∨ red = 2) && (s.stream i).disc.any (fun d => d.1 == q && decide (s.now < d.2 + 20000000))
      | none => false
    if dup then (s.bump SVI_DUP_PRP).statBump i Ent.STST_DUPLICATES
    else if at_.any (fun p => old (p.1 / sc) || s.svSealed i (p.1 / sc)) then s.svReject 0x10 (some i)
    else if at_.any (fun p => (s.svAt i p.1).isSome) then (s.bump SVI_DUP_SLOT).statBump i Ent.STST_DUPLICATES
    else if 1024 < s.svBacklog + (if k.fcsOk then fe else 0) then s.svReject 0x11 (some i)
    else
      let s := match seq with
        | some q => s.discEnter i q
        | none => s
      s.svPlace i at_ bs sim key fe k

/-- The subscription that a copy matches while a Binding is loaded; without one nothing is subscribed (R67, R72). -/
def State.svStream (s : State) (p : Nat) (bs : List Byte) (o : Nat) (apdu : List Byte) : Option Nat :=
  if s.loaded then s.svMatch p bs o apdu else none

/-- A copy at the ingest tap of P0-P11 (R64-R76); `fcs` says that its FCS is good. Where several causes hold the first in the order
of the stages is given, HEADER before DISABLED: DESIGN CHOICE, log entry 45. -/
def State.svCopy (s : State) (p : Nat) (bs : List Byte) (fcs : Bool) (ext : Option SvExt) : State :=
  match svOffset bs with
  | none => s
  | some (o, tags) =>
    if 12 ≤ p ∨ s.clk 15 = false then s
    else
      let s := s.bump SVI_RX_FRAMES
      let len := beAt bs (o + 2) 2
      let apdu := slice bs (o + 8) (len - 8)
      let stamp := s.taiNs - s.rdI MAC_P_TS_LAT_RX_LAT p / 10
      if tags = 2 ∨ len < 8 ∨ bs.length < o + len then s.svReject 0x02 none
      else if s.on SVI_CTRL_ENABLE = false then s.svReject 0x12 none
      else match s.svStream p bs o apdu with
        | none => s.svReject 0x01 none
        | some i =>
          let c := s.ctx i
          let sim := bitAt (beAt bs (o + 4) 2) 15
          let wantSim := Ent.CTX_SIM_ELIGIBLE.on c && s.svi.simMode
          if s.ctxOn i = false then s.svReject 0x12 (some i)
          else if sim ≠ wantSim then s.svReject 0x0C (some i)
          else match s.svParse c apdu with
            | .inl e => s.svReject e (some i)
            | .inr sets =>
              match ext with
              | none =>
                if Ent.CTX_REQUIRE_AUTH.on c then s.svReject 0x0D (some i) else s.svCandidate i bs sim sets none 0 ⟨fcs, true, stamp⟩
              | some x =>
                match s.svKey c x with
                | none => s.svReject 0x0E (some i)
                | some k =>
                  let s := s.keyExpire k.1
                  if s.usable k.1 = false then ((s.bump KEY_USE_REFUSED).flag KEY_TROUBLE_USE_REFUSED).svReject 0x13 (some i)
                  else s.svCandidate i bs sim sets (some k) ((max 1 x.covered.length + 319) / 320)
                    ⟨fcs, decide (x.tag = svTag (s.slot k.1).material x), stamp⟩

/-! ## Verdicts (R77-R79, R82) -/

/-- The status entry takes a verdict; a stream that a tip-in has put in the place of the owner's does not (R93, R95). -/
def State.svStat (s : State) (p : SvEpoch) (cause : Nat) : State :=
  if (s.stream p.stream).ring.any (fun r => r.2.epoch == p.epoch) = false then s
  else if cause = 0 then
    let s := s.statPut p.stream Ent.STST_LAST_STATE 2
    match p.keySlot with
    | some _ =>
      let next := (s.stream p.stream).ring.any (fun r => r.2.epoch == p.epoch && r.2.key)
      s.statPut p.stream Ent.STST_KEY_IN_USE (b2n next)
    | none => s
  else ((s.statPut p.stream Ent.STST_LAST_STATE 3).statBump p.stream Ent.STST_REFUTED).statPut p.stream Ent.STST_LAST_CAUSE cause

/-- The cause codes of a verdict: 0 confirmed, 1 FCS, 2 MAC, 3 ORPHANED, 4 TIMEOUT (R87). -/
def State.svGive (s : State) (p : SvEpoch) (cause : Nat) : State :=
  let st := if cause = 0 then 2 else 3
  let s := (s.onSvi (fun v => { v with pend := v.pend.filter (fun q => !(q.epoch == p.epoch)) })).svServe
  let s := s.modStream p.stream (fun x => { x with ring := x.ring.map (fun r =>
    if r.2.epoch = p.epoch ∧ r.2.st = 1 then (r.1, { r.2 with st := st, cause := cause }) else r) })
  let s := if cause = 0 then s.bump SVI_CONFIRMED
    else ((((s.bump SVI_REFUTED).flag SVI_TROUBLE_REFUTED).wr SVI_LAST_REFUTE_STREAM (p.stream % 512)).wr SVI_LAST_REFUTE_CAUSE cause).wr
      SVI_LAST_REFUTE_VALID 1 |>.wr SVI_LAST_REFUTE_EPOCH p.epoch
  let s := s.svStat p cause
  let s := s.flagIf (decide (cause = 4)) SVI_TROUBLE_TIMEOUT
  let lat := satNat 16 ((s.now - p.lastBit) / 10)
  ((s.wr SVI_LAT_PEAK_PEAK_LAT (max lat (s.rd SVI_LAT_PEAK_PEAK_LAT))).wr SVI_FRONTIER s.frontier).svRefresh

/-- The pending epoch with a number. -/
def State.svPending (s : State) (e : Nat) : Option SvEpoch := s.svi.pend.find? (fun p => p.epoch == e)

/-- Whether a pending epoch's key has been orphaned since its placement (R82). -/
def State.svKeyLost (s : State) (p : SvEpoch) : Bool :=
  match p.keySlot with
  | none => false
  | some k => !s.usable k || decide ((s.slot k).gen ≠ p.keyGen)

/-! ## Seals (R88) -/

/-- Whether the seal instant of a stream's cycle has come. -/
def State.sealDue (s : State) (i m : Nat) : Bool :=
  let d := Ent.CTX_SEAL_DELAY.of (s.ctx i)
  decide (s.cycleStart (m + 1) + (if d = 0 then s.rd TIM_CADENCE_OFS_OFFSET_US else d) * 1000 ≤ s.tai)

/-- Seal one slot of a cycle that holds no set: MISSING with an epoch of its own, whose verdict is given at once. SMPCNT is the
count of the slot, CHANNELS and CONFREV those of the context: DESIGN CHOICE, log entry 45. -/
def State.sealSlot (s : State) (i m : Nat) (k : Nat) : State :=
  let c := s.ctx i
  let sc := Ent.CTX_SETS_PER_CYCLE.of c
  let n := m * sc + k
  if (s.svAt i n).isSome then s
  else
    let e := s.rd SVI_EPOCH
    let ch := Ent.CTX_CHANNELS.of c
    let r : SvSlot :=
      { cycle := m, epoch := e, ingress := 0, st := 4, smpCnt := n % Ent.CTX_RATE.of c, confRev := Ent.CTX_CONFREV.of c,
        vals := List.replicate ch 0, quals := List.replicate ch 0 }
    let s := s.modStream i (fun st => { st with ring := putNum st.ring (slotOf sc n) r })
    ((((s.wr SVI_EPOCH (e + 1)).bump SVI_MISSING).flag SVI_TROUBLE_MISSING).statBump i Ent.STST_MISSING).statPut i Ent.STST_LAST_STATE 4

/-- The next cycle of a stream is sealed, at its instant (R88). -/
def State.sealCycle (s : State) (i : Nat) : State :=
  match (s.stream i).sealed with
  | none => s
  | some m =>
    let sc := Ent.CTX_SETS_PER_CYCLE.of (s.ctx i)
    let s := (List.range sc).foldl (fun s k => s.sealSlot i m k) s
    let s := s.modStream i (fun x => { x with sealed := some (m + 1) })
    (s.wr SVI_FRONTIER s.frontier).svRefresh

/-- A seal command: the stream's next cycle is sealed if its instant has come. -/
def State.seal (s : State) (i : Nat) : State :=
  match (s.stream i).sealed with
  | some m => if s.ctxOn i && s.sealDue i m then s.sealCycle i else s
  | none => s

/-- The first ingest cycle is fixed: seals of every enabled stream begin with it (R88). -/
def State.ingestStart (s : State) : State :=
  match s.svi.c0 with
  | some _ => s
  | none =>
    let c0 := s.cycleAt s.taiNs + 1
    let s := s.onSvi (fun v => { v with c0 := some c0 })
    (s.used 0x201).foldl (fun s e =>
      if Ent.CTX_ENABLE.on e.2 then s.modStream e.1 (fun x => { x with expired := max x.expired c0, sealed := some c0 }) else s) s

/-- SVI_CTRL.ENABLE is written (R88). -/
def State.sviEnable (s : State) (en : Bool) : State :=
  let s := s.wrB SVI_CTRL_ENABLE en
  let s := if en && s.loaded then s.ingestStart else s
  (s.wrB SVI_STATUS_RUNNING (en && s.loaded)).svRefresh

/-- Register fields of the SVI that follow from a load that reached READY. -/
def State.sviReady (s : State) : State :=
  let s := s.wr SVI_STATUS_STREAMS_ACTIVE ((s.used 0x201).filter (fun e => Ent.CTX_ENABLE.on e.2)).length
  let s := (s.used 0x201).foldl (fun s e => s.statPut e.1 Ent.STST_STABLE_ID (e.2 % 2 ^ 32)) s
  ((s.wr SVI_STATUS_RUNNING (s.rd SVI_CTRL_ENABLE)).onSvi (fun v => { v with lostKeys := [] })).unitCounts.svRefresh

/-! ## Ring views (R85, R87-R91) -/

/-- A slot record in number form, in the provisional or the confirmed view. In the confirmed view a set with no verdict
keeps its other header fields (DEDUCED, log entry 17). -/
def slotWord (x : SvSlot) (confirmed : Bool) : Nat :=
  let pending := confirmed && decide (x.st = 1)
  let zero := pending || decide (x.st = 3 ∨ x.st = 4 ∨ x.st = 8)
  let q (w : Nat) : Nat := if pending then 0 else if zero then setBits w 0 2 1 else w
  let chans := (List.range 16).foldl (fun n c =>
    match x.vals[c]?, x.quals[c]? with
    | some v, some w => n + (if zero then 0 else v % 2 ^ 32) * 2 ^ (64 * c + 256) + q w % 2 ^ 32 * 2 ^ (64 * c + 288)
    | _, _ => n) 0
  Ent.SLOT_EPOCH.mk' (if pending then 0 else x.epoch) + Ent.SLOT_INGRESS.mk' x.ingress +
  Ent.SLOT_STATE.mk' (if pending then 5 else x.st) + Ent.SLOT_CAUSE.mk' x.cause + Ent.SLOT_LAN.mk' (b2n x.lan) +
  Ent.SLOT_SIM.mk' (b2n x.sim) + Ent.SLOT_SMPSYNCH.mk' x.smpSynch + Ent.SLOT_UNSYNCED.mk' (b2n x.unsynced) +
  Ent.SLOT_KEY.mk' (b2n x.key) + Ent.SLOT_SMPCNT.mk' x.smpCnt + Ent.SLOT_CHANNELS.mk' x.vals.length +
  Ent.SLOT_CONFREV.mk' x.confRev + Ent.SLOT_CYCLE_LO.mk' x.cycle + chans

/-- The cycle of the window H - 63 to H that a ring slot stands for. -/
def windowCycle (h slot : Nat) : Nat :=
  let k := slot / 16 % 64
  if k ≤ h % 64 then h - (h % 64 - k) else h - (h % 64 + 64 - k)

/-- What a view of a ring slot reads, and the epoch that the load reports (R85, R88-R90). Every other field of a NOT_YET or EXPIRED
slot reads 0: DESIGN CHOICE, log entry 45. -/
def State.ringView (s : State) (i slot : Nat) (confirmed : Bool) : Nat × Option Nat :=
  let c := s.ctx i
  let m := windowCycle s.horizon slot
  if Ent.CTX_SETS_PER_CYCLE.of c ≤ slot % 16 then (Ent.SLOT_STATE.mk' 7, none)
  else if (match s.svi.c0 with | none => true | some k => decide (m < k)) || decide (m < (s.stream i).expired) then (Ent.SLOT_STATE.mk' 6, none)
  else match (s.stream i).at_ slot with
    | none => (0, none)
    | some x =>
      if x.cycle ≠ m then (0, none)
      else if confirmed ∧ x.st = 1 then (slotWord x true, none)
      else (slotWord x confirmed, some x.epoch)

/-- An uncorrectable error in a ring slot (R91). -/
def State.ringEcc (s : State) (i slot : Nat) : State :=
  let h := s.horizon
  (s.modStream i (fun x => { x with ring := x.ring.map (fun r =>
    if r.1 = slot ∧ r.2.cycle = windowCycle h slot then (r.1, { r.2 with st := 8, cause := 5 }) else r) })).flag SVI_TROUBLE_RING_ECC

/-! ## Verifier units (R84) -/

/-- Reissue a retired unit's jobs to another unit, in epoch order. -/
def State.moveJobs (s : State) (u : Nat) (dest : Option Nat) : State :=
  s.onSvi (fun v => { v with pend := v.pend.map (fun p => if p.unit = some u then { p with unit := dest, started := none } else p),
                             leaving := v.leaving.filter (fun x => !(x == u)) })

/-- Retire a unit for a cause; the spare takes over, or NO_SPARE and DEGRADED are set (R84). -/
def State.retireUnit (s : State) (u cause : Nat) : State :=
  let wasActive := decide (s.unitState u = 0)
  let s := ((s.setUnit u 2).wr SVI_VER_STATUS_LAST_FAIL_UNIT u).wr SVI_VER_STATUS_LAST_FAIL_CAUSE cause
  let s := if wasActive then
      match s.spareUnit with
      | some v => (s.setUnit v 0).moveJobs u (some v)
      | none => (s.moveJobs u none).flag SVI_TROUBLE_NO_SPARE
    else s.moveJobs u none
  let s := (s.onSvi (fun v => { v with pend := v.pend.map (fun p =>
    if p.fe ≠ 0 ∧ p.fcsOk ∧ p.unit = none then { p with unit := s.pickUnit } else p) })).svServe.unitCounts
  (s.flag SVI_TROUBLE_VERIFIER_FAIL).event 5 (leBytes 1 u ++ leBytes 1 cause ++ leBytes 1 (s.rd SVI_STATUS_ACTIVE_UNITS))

/-- A fault of a unit in service or of the spare (R84). -/
def State.unitFault (s : State) (u cause : Nat) : State :=
  if s.unitState u = 0 ∨ s.unitState u = 3 then s.retireUnit u cause else s

/-- A verifier command that is refused. -/
def State.unitRefuse (s : State) : State := s.flag SVI_TROUBLE_CMD_REFUSED

/-- SPARE_SEL names a unit (R84): the spare and an active unit exchange roles. -/
def State.spareSel (s : State) (u : Nat) : State :=
  match s.spareUnit with
  | none => s.unitRefuse
  | some v =>
    if s.unitState u = 3 then s
    else if s.unitState u = 0 ∧ s.svi.leaving.contains u = false then
      let s := (s.wr SVI_VER_CTRL_SPARE_SEL u).setUnit v 0
      if s.unitJobs u = [] then s.setUnit u 3 else (s.onSvi (fun x => { x with leaving := x.leaving ++ [u] })).unitCounts
    else s.unitRefuse

/-- A unit released by SPARE_SEL has finished its jobs. -/
def State.unitIdle (s : State) (u : Nat) : State :=
  if s.svi.leaving.contains u && decide (s.unitJobs u = []) && decide (s.unitState u = 0) then
    (s.onSvi (fun x => { x with leaving := x.leaving.filter (fun y => !(y == u)) })).setUnit u 3
  else s

/-- RETIRE of a unit on host command (R84). -/
def State.unitRetire (s : State) (u : Nat) : State :=
  let after := if s.unitState u = 0 ∧ s.svi.leaving.contains u = false ∧ s.spareUnit = none then s.activeUnits - 1 else s.activeUnits
  if (s.unitState u = 0 ∨ s.unitState u = 3) ∧ 2 ≤ after then s.retireUnit u 5 else s.unitRefuse

/-- RESTORE of a retired unit: its test starts (R84). -/
def State.unitRestore (s : State) (u : Nat) : State :=
  if s.unitState u = 2 then s.setUnit u 1 else s.unitRefuse

/-- The test of a unit ends (R84). -/
def State.unitRestoreDone (s : State) (u : Nat) (pass : Bool) : State :=
  if s.unitState u = 1 then s.setUnit u (if pass then 3 else 2) else s

/-! ## CHECK and carry-over -/

/-- Whether a key slot may serve a stream (R70). -/
def State.svKeyOk (s : State) (auth k : Nat) : Bool :=
  s.usable k && bitAt (s.slot k).usage 2 && typeFits auth (s.slot k).typ

/-- The CHECK of SUBS on filled tables (R67, R70, R97). An enabled context with a reserved AUTH, with CHANNELS outside 1 to 16 or
with SETS_PER_CYCLE 0 fails it as well: DESIGN CHOICE, log entry 45. -/
def State.subsOk (s : State) (ctxs subs : Store) : Bool :=
  let fs := s.rd TIM_CADENCE_CFG_FS
  let k := s.rd TIM_CADENCE_CFG_K
  let live := ctxs.filter (fun e => Ent.CTX_ENABLE.on e.2)
  live.all (fun e =>
    let c := e.2
    let auth := Ent.CTX_AUTH.of c
    let lo := Ent.CTX_SLOT_BASE.of c
    let n := Ent.CTX_CHANNELS.of c
    decide (Ent.CTX_RATE.of c * k = Ent.CTX_SETS_PER_CYCLE.of c * fs) && decide (Ent.CTX_SETS_PER_CYCLE.of c ≤ 16) &&
    decide (1 ≤ Ent.CTX_SETS_PER_CYCLE.of c) && decide (1 ≤ n ∧ n ≤ 16) && decide (lo + n ≤ 4096) && decide (auth ≤ 3) &&
    live.all (fun d => decide (d.1 = e.1) || decide (lo + n ≤ Ent.CTX_SLOT_BASE.of d.2) ||
      decide (Ent.CTX_SLOT_BASE.of d.2 + Ent.CTX_CHANNELS.of d.2 ≤ lo)) &&
    decide (Ent.CTX_SEAL_DELAY.of c ≤ s.rd TIM_CADENCE_OFS_OFFSET_US) &&
    !(Ent.CTX_REQUIRE_AUTH.on c && decide (auth = 0)) &&
    (decide (auth = 0) || (s.svKeyOk auth (Ent.CTX_KEY_SLOT_CUR.of c) && s.svKeyOk auth (Ent.CTX_KEY_SLOT_NEXT.of c))) &&
    subs.any (fun u => decide (Ent.SUB_CONTEXT.of u.2 = e.1))) &&
  subs.all (fun a => subs.all (fun b =>
    decide (a.1 = b.1) || decide (Ent.SUB_DST_MAC.of a.2 ≠ Ent.SUB_DST_MAC.of b.2) ||
    decide (Ent.SUB_APPID.of a.2 ≠ Ent.SUB_APPID.of b.2) || decide (Ent.SUB_VID.of a.2 ≠ Ent.SUB_VID.of b.2) ||
    decide (Ent.SUB_SVID_LEN.of a.2 ≠ Ent.SUB_SVID_LEN.of b.2) || decide (Ent.SUB_SVID.of a.2 ≠ Ent.SUB_SVID.of b.2)))

/-- Where a stream of the old context bank stands after the flip of a SUBS tip-in: at the index of its stable identity (R94), or, once
removed, under a number of its own above every index. -/
def movedStream (old new : Store) (flips i : Nat) : Nat :=
  if 512 ≤ i then i
  else match findStable new (old.get i 0 % 2 ^ 32) with
    | some (j, _) => j
    | none => 512 * flips + i

/-- The flip of a SUBS tip-in at the boundary of cycle `n`, from the old context bank to the running one (R93, R94). A removed stream
keeps what was placed for it, which its instances and its verdicts may still need; nothing is placed there any more. -/
def State.subsFlip (s : State) (old : Store) (n : Nat) : State :=
  let before := s.svi.streams
  let pend := s.svi.pend
  let new := s.used 0x201
  let flips := s.svi.flips + 1
  let move (i : Nat) : Nat := movedStream old new flips i
  let gone := (usedOf old).filter (fun e => decide (512 ≤ move e.1))
  let s := s.onSvi (fun v => { v with
    streams := before.filter (fun p => decide (512 ≤ p.1)) ++ gone.map (fun e => (move e.1, getNum {} before e.1)),
    ghosts := v.ghosts ++ gone.map (fun e => (move e.1, e.2)), flips := flips,
    pend := pend.map (fun p => { p with stream := move p.stream }) })
  let s := new.foldl (fun s e =>
    let fresh : SvStream := { stat := Ent.STST_STABLE_ID.mk' (e.2 % 2 ^ 32), expired := n + 1,
                              sealed := if s.svi.c0 = none then none else some (n + 1) }
    match findStable old (e.2 % 2 ^ 32) with
    | none => s.setStream e.1 fresh
    | some (i, o) =>
      let x : SvStream := getNum {} before i
      if Ent.CTX_RATE.of o ≠ Ent.CTX_RATE.of e.2 ∨ Ent.CTX_CHANNELS.of o ≠ Ent.CTX_CHANNELS.of e.2 then
        s.setStream e.1 { fresh with stat := x.stat % 2 ^ 192, sealed := fresh.sealed.map (fun k => max k (x.sealed.getD 0)) }
      else if Ent.CTX_ENABLE.on o then s.setStream e.1 x
      else s.setStream e.1 { x with sealed := fresh.sealed.map (fun k => max k (x.sealed.getD 0)) }) s
  (s.wr SVI_STATUS_STREAMS_ACTIVE (new.filter (fun e => Ent.CTX_ENABLE.on e.2)).length).svRefresh

end Sys2Proof.Machine
end

