-- ==== Sys2Proof/Machine/FltOps.lean ====
section
/-! DEFINITION. Filter instances, backstop elements and the DT line drivers (chapter "Stream filters and the backstop",
R120-R147, R510, R511). -/

namespace Sys2Proof.Machine

open Sys2Proof Reg

/-! ## Exact logarithms (R136-R138) -/

/-- round(2048 × log2(a / b)), exactly, for positive a and b: the floor of (floor(log2((a / b)^4096)) + 1) / 2. -/
def q11Log2 (a b : Nat) : Int :=
  let x := a ^ 4096
  let y := b ^ 4096
  let f : Int := if y ≤ x then ((x / y).log2 : Int) else -((((y - 1) / x).log2 : Int) + 1)
  (f + 1) / 2

/-- Saturate to the range of Q5.11. -/
def q11Sat (x : Int) : Int := max (-32768) (min 32767 x)

/-- floor of the k-th root of `n`, by the bits of the result from `fuel - 1` down. -/
def irootBits : Nat → Nat → Nat → Nat → Nat
  | 0, _, _, r => r
  | fuel + 1, k, n, r =>
    let r' := r + 2 ^ fuel
    irootBits fuel k n (if r' ^ k ≤ n then r' else r)

/-- 2^(y / 2048) in units of 2^-64, rounded down, for y from 0 to 2047. -/
def exp2Frac (y : Nat) : Nat := irootBits 66 2048 (2 ^ (y + 64 * 2048)) 0

/-- round(2^48 × Δt / t) for an output rate, a TMS and a curve value: 2^48 × 1000 / (f_d × TMS × 2^(Y / 2048)) (R136, R138). -/
def curveStep (fd tms : Nat) (y : Int) : Nat :=
  let e := y / 2048
  let m := exp2Frac (y % 2048).toNat
  let num := 2 ^ 48 * 1000 * 2 ^ 64 * 2 ^ 32
  let den := fd * tms * m * (if 0 ≤ e then 2 ^ (32 + e.toNat) else 2 ^ (32 - (-e).toNat))
  (2 * num + den) / (2 * den)

/-- The 64-bit fixed-point value of 2^(a / b). -/
def pow2Frac (a b : Nat) : Nat := irootBits (a / b + 66) b (2 ^ (a + 64 * b)) 0

/-- Point `p` of a preset curve (R137): X, and Y rounded to Q5.11. Values are formed on 64 fractional bits. -/
def presetPoint (code p : Nat) : Int × Int :=
  let one := 2 ^ 64
  if code < 23 then
    let m := pow2Frac (p + 1) 8
    let m2 := pow2Frac (p + 1) 4
    let m02 := pow2Frac (p + 1) 400
    let y := match code with
      | 16 => q11Log2 (14 * one) (100 * (m02 - one))
      | 17 => q11Log2 (135 * one) (10 * (m - one))
      | 18 => q11Log2 (80 * one) (m2 - one)
      | 19 => q11Log2 (120 * one) (m - one)
      | 20 => q11Log2 (515 * one + 1140 * (m02 - one)) (10000 * (m02 - one))
      | 21 => q11Log2 (19610 * one + 491 * (m2 - one)) (1000 * (m2 - one))
      | _ => q11Log2 (282000 * one + 1217 * (m2 - one)) (10000 * (m2 - one))
    (256 * (p + 1), q11Sat y)
  else
    let inv2 := 2 ^ 128 / pow2Frac (64 - p) 8
    let a := if code = 23 then 485 else if code = 24 then 2160 else 2910
    (128 * ((p : Int) - 64), q11Sat (q11Log2 (a * one) (100 * (one - inv2))))

/-- The points of a curve code in a curve table: a preset, or the points before the first unused one (R136, R137). -/
def curvePoints (m : Store) (code : Nat) : List (Int × Int) :=
  if 16 ≤ code then (List.range 64).map (presetPoint code)
  else ((List.range 64).map (fun p => m.get (64 * code + p) 0)).takeWhile (fun e => decide (Ent.CURV_STABLE_ID.of e ≠ 0)) |>.map
    (fun e => (signed 16 (Ent.CURV_X.of e), signed 16 (Ent.CURV_Y.of e)))

/-- Linear interpolation at an abscissa, rounded to nearest, flat beyond both ends (R136). -/
def curveAt : List (Int × Int) → Int → Int
  | [], _ => 0
  | [p], _ => p.2
  | p :: q :: r, x =>
    if x ≤ p.1 then p.2
    else if x < q.1 then p.2 + (2 * (q.2 - p.2) * (x - p.1) + (q.1 - p.1)) / (2 * (q.1 - p.1))
    else curveAt (q :: r) x

/-- Whether a table curve is admissible: two points at least, X strictly ascending (R136). -/
def curveAdmits (pts : List (Int × Int)) : Bool :=
  decide (2 ≤ pts.length) && (pts.zip pts.tail).all (fun p => decide (p.1.1 < p.2.1))

/-! ## DT lines (R116, R140) -/

/-- Bits of an element mask over all elements. -/
def elemMask (es : List (Nat × Elem)) (f : Elem → Bool) : Nat :=
  es.foldl (fun n e => if f e.2 then n + 2 ^ e.1 else n) 0

/-- Bits of a line mask. -/
def lineMask (f : Nat → Bool) : Nat := (List.range 8).foldl (fun n i => if f i then n + 2 ^ i else n) 0

/-- Whether an element with trip = 1 drives a line. -/
def State.bkstLine (s : State) (n : Nat) : Bool := s.flt.elems.any (fun e => e.2.trip && bitAt (Ent.ELEM_DT_MASK.of e.2.cfg) n)

/-- Whether a folio request for a line is asserted (R116). -/
def State.folioLine (s : State) (n : Nat) : Bool := s.flt.dtReq.any (fun r => r.2.1 == n)

/-- Whether a line's minimum-on timer runs. -/
def State.minOnLine (s : State) (n : Nat) : Bool := decide (s.now < s.flt.minOn.get n 0)

/-- Whether a line may be high at all: enabled, a Binding loaded (R51), power state RUN (R424). -/
def State.lineMay (s : State) (n : Nat) : Bool := bitAt (s.rd FLT_DT_CFG_LINE_EN) n && s.loaded && decide (s.power = 3)

/-- The level that a line takes (R140). -/
def State.lineLevel (s : State) (n : Nat) : Bool := s.lineMay n && (s.bkstLine n || s.folioLine n || s.minOnLine n)

/-- Recompute one line: a rising edge starts its minimum-on timer (R140). -/
def State.dtLine (s : State) (n : Nat) : State :=
  let rise := s.lineLevel n && !bitAt (s.rd FLT_DT_STATE_LINE) n
  let s := if rise && decide (s.rd FLT_DT_CFG_MIN_ON ≠ 0) then
      s.onFlt (fun f => { f with minOn := f.minOn.insert n (s.now + s.rd FLT_DT_CFG_MIN_ON * 1000000) }) else s
  s.wrBit FLT_DT_STATE_LINE 0 n (s.lineLevel n)

/-- Note a time for every bit of a mask that has changed. -/
def latchBits (w old new t : Nat) (m : Store) : Store :=
  if old = new then m
  else (List.range w).foldl (fun m i => if bitAt old i = bitAt new i then m else m.insert i t) m

/-- The TAI of changes of lines, starts and trips is latched at the driver or element (R346). -/
def State.dtLatch (s : State) (lines starts trips : Nat) : State :=
  s.onFlt (fun f => { f with lineAt := latchBits 8 lines (s.rd FLT_DT_STATE_LINE) s.taiNs f.lineAt,
                             startAt := latchBits 64 starts (s.rd FLT_BKST_START) s.taiNs f.startAt,
                             tripAt := latchBits 64 trips (s.rd FLT_BKST_TRIP) s.taiNs f.tripAt })

/-- Recompute every line and the registers that show them. -/
def State.dtUpdate (s : State) : State :=
  let lines := s.rd FLT_DT_STATE_LINE
  let starts := s.rd FLT_BKST_START
  let trips := s.rd FLT_BKST_TRIP
  let s := (List.range 8).foldl State.dtLine s
  let s := (List.range 32).foldl (fun s f => s.wrI CLS_F_DT_REQ f (lineMask (fun n =>
    s.flt.dtReq.any (fun r => r.1 == f && r.2.1 == n)))) s
  let s := (((s.wr FLT_DT_STATE_BKST (lineMask s.bkstLine)).wr FLT_DT_STATE_FOLIO (lineMask s.folioLine)).wr FLT_DT_STATE_MIN_ON_RUN
    (lineMask s.minOnLine)).wr CLS_STATUS_DT_FOLIO (lineMask s.folioLine)
  let s := (s.wr FLT_BKST_START (elemMask s.flt.elems (fun e => e.started))).wr FLT_BKST_TRIP
    (elemMask s.flt.elems (fun e => e.trip))
  s.dtLatch lines starts trips

/-- A minimum-on timer runs out: its line is recomputed. -/
def State.minOnExpire (s : State) (n : Nat) : State :=
  if s.flt.minOn.get n (s.now + 1) ≤ s.now then (s.onFlt (fun f => { f with minOn := f.minOn.erase n })).dtUpdate else s

/-- A folio asserts lines, each until its hold ends, or without limit (R116). A line that the folio already asserts takes the hold of
the later request (DESIGN CHOICE, log entry 46). -/
def State.dtAssert (s : State) (folio mask : Nat) (hold : Option Nat) : State :=
  s.onFlt (fun f => { f with dtReq := f.dtReq.filter (fun r => !(r.1 == folio && bitAt mask r.2.1)) ++
    ((List.range 8).filter (fun n => bitAt mask n)).map (fun n => (folio, n, hold)) }) |>.dtUpdate

/-- A folio releases lines (R116). -/
def State.dtRelease (s : State) (folio mask : Nat) : State :=
  s.onFlt (fun f => { f with dtReq := f.dtReq.filter (fun r => !(r.1 == folio && bitAt mask r.2.1)) }) |>.dtUpdate

/-- A folio is reset or halted: its requests without a hold time are cleared (R116). -/
def State.dtFolioReset (s : State) (folio : Nat) : State :=
  s.onFlt (fun f => { f with dtReq := f.dtReq.filter (fun r => !(r.1 == folio && r.2.2.isNone)) }) |>.dtUpdate

/-- A request's hold time runs out (R116). -/
def State.dtHoldExpire (s : State) (folio n : Nat) : State :=
  s.onFlt (fun f => { f with dtReq := f.dtReq.filter (fun r => !(r.1 == folio && r.2.1 == n && s.due r.2.2)) }) |>.dtUpdate

/-! ## Instances: sources and rates (R120) -/

/-- The running state of an instance, if it runs. -/
def State.inst (s : State) (i : Nat) : Option FInst := (s.flt.insts.find? (fun p => p.1 == i)).map (fun p => p.2)

/-- Replace the running state of an instance. -/
def State.setInst (s : State) (i : Nat) (x : FInst) : State := s.onFlt (fun f => { f with insts := putNum f.insts i x })

/-- The enabled stream context that owns a channel slot. -/
def ownerOf (ctxs : Store) (slot : Nat) : Option (Nat × Nat) :=
  ctxs.find? (fun e => Ent.CTX_ENABLE.on e.2 && decide (Ent.CTX_SLOT_BASE.of e.2 ≤ slot) &&
    decide (slot < Ent.CTX_SLOT_BASE.of e.2 + Ent.CTX_CHANNELS.of e.2))

/-- The context at the root of a source, through at most four instances. -/
def rootOf (insts ctxs : Store) : Nat → Nat → Nat → Option (Nat × Nat)
  | 0, _, _ => none
  | fuel + 1, kind, src =>
    if kind < 2 then ownerOf ctxs src
    else
      let u := insts.get src 0
      rootOf insts ctxs fuel (Ent.INST_SRC_KIND.of u) (Ent.INST_SRC_A.of u)

/-- f_d of an entry of rate f_in: its output rate (R120). -/
def outRate (fin cfg : Nat) : Nat := if Ent.INST_CIC_N.of cfg = 0 then fin else fin / Ent.INST_CIC_R.of cfg

/-- f_in of a source, through at most four instances; 0 where it has none. -/
def srcRate (insts ctxs : Store) : Nat → Nat → Nat → Nat
  | 0, _, _ => 0
  | fuel + 1, kind, src =>
    if kind < 2 then ((ownerOf ctxs src).map (fun e => Ent.CTX_RATE.of e.2)).getD 0
    else
      let u := insts.get src 0
      outRate (srcRate insts ctxs fuel (Ent.INST_SRC_KIND.of u) (Ent.INST_SRC_A.of u)) u

/-- RATE and SETS_PER_CYCLE of the stream at the root of a source, in the running tables. -/
def State.rootRate (s : State) (kind src : Nat) : Nat × Nat :=
  match rootOf (s.used 0x501) (s.used 0x201) 5 kind src with
  | some (_, c) => (Ent.CTX_RATE.of c, Ent.CTX_SETS_PER_CYCLE.of c)
  | none => (1, 1)

/-- A source of a configuration, found in the running tables (R120). -/
def State.srcOf (s : State) (kind src : Nat) : FSrc :=
  if kind < 2 then
    match ownerOf (s.used 0x201) src with
    | some (i, c) => .chan i (src - Ent.CTX_SLOT_BASE.of c) (if kind = 1 then 3 else 1)
    | none => .none
  else .inst src (decide (kind = 3))

/-- The alternate source of a configuration. -/
def State.srcB (s : State) (cfg : Nat) : FSrc :=
  if Ent.INST_ALT_EN.on cfg then s.srcOf (Ent.INST_SRC_KIND.of cfg) (Ent.INST_SRC_B.of cfg) else .none

/-- An instance that starts from an entry of the running tables. -/
def State.newInst (s : State) (cfg coef : Nat) : FInst :=
  let r := s.rootRate (Ent.INST_SRC_KIND.of cfg) (Ent.INST_SRC_A.of cfg)
  { cfg := cfg, coef := coef, srcA := s.srcOf (Ent.INST_SRC_KIND.of cfg) (Ent.INST_SRC_A.of cfg), srcB := s.srcB cfg, rate := r.1, sc := r.2 }

/-- f_d of a running instance: its output rate (R120), through at most four instances. -/
def State.instFd (s : State) : Nat → FInst → Nat
  | 0, _ => 0
  | fuel + 1, x =>
    match x.srcA with
    | .inst u _ => match s.inst u with
      | some y => outRate (s.instFd fuel y) x.cfg
      | none => 0
    | _ => outRate x.rate x.cfg

/-- The differential delay M. -/
def cicM (cfg : Nat) : Nat := if Ent.INST_CIC_M.on cfg then 2 else 1

/-- SETTLE_N of a configuration (R129). -/
def settleN (cfg : Nat) : Nat :=
  let det := Ent.INST_DET.of cfg
  let w := Ent.INST_W_FULL.of cfg
  (if det = 0 then 0 else w) + (if det = 3 then w / 4 else 0) + Ent.INST_CIC_N.of cfg * (if Ent.INST_CIC_N.of cfg = 0 then 0 else cicM cfg) +
    (Ent.INST_FIR_TAPS.of cfg - 1)

/-- What a source gives at a position: nothing yet, no output there, nothing ever again, or an input, with the epoch of its set where
there is one. -/
inductive SrcIn where
  | notYet
  | none
  | gone
  | some (x : Sample) (usable : Bool) (ingress : Nat) (epoch : Option Nat) (stream : Nat)
  deriving DecidableEq, Repr

/-- An input that reads unusable with no set behind it (R122). -/
def deadIn (stream : Nat) : SrcIn := .some ⟨0, true, false, false⟩ false 0 .none (stream % 512)

/-- The value and quality of a channel of a slot record, as the confirmed view reads them (R89). -/
def slotChan (x : SvSlot) (c : Nat) : Int × Nat :=
  if x.st = 2 then (signed 32 (x.vals.getD c 0), x.quals.getD c 0) else (0, setBits (x.quals.getD c 0) 0 2 1)

/-- A channel or sum source at position `pos` of a stream, numbered with `sc` sets a cycle (R92, R122, R123, R128). A stream that a
tip-in has removed or disabled gives what was placed before, and then has ended. -/
def State.chanIn (s : State) (i off n sc pos : Nat) : SrcIn :=
  let m := pos / sc
  if m + 63 < s.horizon ∨ m < (s.stream i).expired then deadIn i
  else match s.svAt i pos with
    | .none => if 512 ≤ i ∨ s.ctxOn i = false then .gone else .notYet
    | .some x =>
      if s.svDelivered i x then
        let cs := (List.range n).map (fun k => slotChan x (off + k))
        let bad := decide (x.st ≠ 2) || cs.any (fun v => decide (v.2 % 4 = 1 ∨ v.2 % 4 = 2))
        let sum := cs.foldl (fun a v => a + v.1) (0 : Int)
        .some ⟨satSigned 32 sum, bad, cs.any (fun v => decide (v.2 % 4 = 3)), decide (satSigned 32 sum ≠ sum)⟩ (!bad) x.ingress (.some x.epoch) (i % 512)
      else .notYet

/-- The output of an instance at a slot of a cycle, if written. -/
def FInst.outAt (x : FInst) (slot cycle : Nat) : Option FOut := x.out.find? (fun o => o.slot == slot && o.cycle == cycle)

/-- How far an instance has consumed in a numbering of positions: its own, or the one that it has left, up to where it left it; `none`
in a numbering that it does not know (R147). -/
def FInst.doneTo (x : FInst) (rate sc : Nat) : Option Nat :=
  if x.rate = rate ∧ x.sc = sc then x.pos
  else match x.turn with
    | some (p, _, r, c) => if r = rate ∧ c = sc then some p else none
    | none => none

/-- A chained source at a position: the fine or the fast output of an instance (R120, R128). An instance that a tip-in has stopped has
ended where it stood. -/
def State.chainIn (s : State) (src : Nat) (fast : Bool) (rate sc pos : Nat) : SrcIn :=
  match s.inst src with
  | .none => .notYet
  | .some u =>
    match u.doneTo rate sc with
    | .none => .notYet
    | .some p =>
      if pos < p then
        match u.outAt (slotOf sc pos) (pos / sc) with
        | .some o =>
          let e := o.entry
          let bad := if fast then Ent.OUT_FAST_INVALID.on e else Ent.OUT_INVALID.on e
          .some ⟨signed 32 (if fast then Ent.OUT_FAST.of e else Ent.OUT_FINE.of e), bad, Ent.OUT_QUESTIONABLE.on e, Ent.OUT_SATURATED.on e⟩
            (!bad) (Ent.OUT_INGRESS.of e) o.epoch (Ent.OUT_STREAM.of e)
        | .none => .none
      else if 2048 ≤ src then .gone else .notYet

/-- What a source of an instance gives at a position. -/
def State.srcIn (s : State) (x : FInst) (src : FSrc) (pos : Nat) : SrcIn :=
  match src with
  | .none => .none
  | .chan i off n => s.chanIn i off n x.sc pos
  | .inst u fast => s.chainIn u fast x.rate x.sc pos

/-! ## The pipeline (R123-R129) -/

/-- Wrap into 64-bit two's complement. -/
def wrap64 (x : Int) : Int := signed 64 (unsigned 64 x)

/-- An age that starts again at a flagged input. -/
def age (flag : Bool) (a : Nat) : Nat := if flag then 0 else min 65536 (a + 1)

/-- The ages of a stage after an input. -/
def ages (x : Sample) (a : Nat × Nat × Nat) : Nat × Nat × Nat := (age x.taint a.1, age x.quest a.2.1, age x.sat a.2.2)

/-- An output of a stage with span `n`. -/
def spanOut (v : Int) (a : Nat × Nat × Nat) (n : Nat) (sat : Bool) : Sample :=
  ⟨v, decide (a.1 < n), decide (a.2.1 < n), decide (a.2.2 < n) || sat⟩

/-- Integrators: each adds the running value of the one before (R123). -/
def integrate : List Int → Int → List Int × Int
  | [], x => ([], x)
  | a :: l, x =>
    let a' := wrap64 (a + x)
    let (l', y) := integrate l a'
    (a' :: l', y)

/-- Combs with delay lines, newest first (R123). -/
def combAll (m : Nat) : List (List Int) → Int → List (List Int) × Int
  | [], x => ([], x)
  | d :: l, x =>
    let y := wrap64 (x - d.getD (m - 1) 0)
    let (l', z) := combAll m l y
    ((x :: d).take m :: l', z)

/-- Rounding of R124: floor((acc + 2^(k - 1)) / 2^k). -/
def shiftRound (acc : Int) (k : Nat) : Int := if k = 0 then acc else (acc + 2 ^ (k - 1)) / 2 ^ k

/-- The CIC stage: the instance after one input, its output if it emits at this SmpCnt, and whether that output saturated. -/
def FInst.cic (x : FInst) (smp : Nat) (i : Sample) : FInst × Option (Sample × Bool) :=
  let n := Ent.INST_CIC_N.of x.cfg
  if n = 0 then (x, some (i, false))
  else
    let r := Ent.INST_CIC_R.of x.cfg
    let m := cicM x.cfg
    let integ := if x.integ.length = n then x.integ else List.replicate n 0
    let combs := if x.combs.length = n then x.combs else List.replicate n []
    let (integ, acc) := integrate integ i.v
    let a := ages i x.cicAge
    let x := { x with integ := integ, cicAge := a }
    if smp % r = r - 1 then
      let (combs, y) := combAll m combs acc
      let y := shiftRound y (Ent.INST_CIC_SHIFT.of x.cfg)
      let clip := decide (satSigned 32 y ≠ y)
      ({ x with combs := combs }, some (spanOut (satSigned 32 y) a (n * (r * m - 1) + 1) clip, clip))
    else ({ x with combs := combs }, none)

/-- Coefficient `j` of an entry, signed Q2.22 (R126). -/
def firCoef (e j : Nat) : Int := signed 24 (bits e (24 * j + 64) 24)

/-- The FIR stage, and whether its output saturated (R125). -/
def FInst.firStep (x : FInst) (i : Sample) : FInst × Sample × Bool :=
  let t := Ent.INST_FIR_TAPS.of x.cfg
  if t = 0 then (x, i, false)
  else
    let h := (i.v :: x.fir).take 32
    let a := ages i x.firAge
    let y := (List.range t).foldl (fun acc j => acc + firCoef x.coef j * h.getD j 0) (0 : Int)
    let y := shiftRound y 22
    let clip := decide (satSigned 32 y ≠ y)
    ({ x with fir := h, firAge := a }, spanOut (satSigned 32 y) a t clip, clip)

/-- The square root rounded to nearest, ties upwards. -/
def sqrtRound (n : Nat) : Nat :=
  let r := irootBits 48 2 n 0
  if r * r + r < n then r + 1 else r

/-- The square root of a mean, rounded to nearest: round(sqrt(a / b)), from 4a / b compared with odd squares. -/
def rootMean (a b : Nat) : Nat :=
  let r := irootBits 48 2 (4 * a / b) 0
  (r + 1) / 2

/-- The mean rounded to nearest, ties upwards. -/
def meanRound (a b : Nat) : Nat := (2 * a + b) / (2 * b)

/-- One path of a detector over the last `w` samples of the detector history, newest first (R127). -/
def detect (det w q : Nat) (h : List Int) : Nat :=
  let xs := h.take w
  match det with
  | 1 => xs.foldl (fun m x => max m (min x.natAbs (2 ^ 31 - 1))) 0
  | 2 => rootMean (xs.foldl (fun a x => a + x.natAbs * x.natAbs) 0) w
  | _ => meanRound ((List.range w).foldl (fun a k =>
      let x := h.getD k 0
      let z := h.getD (k + q) 0
      a + sqrtRound (x.natAbs * x.natAbs + z.natAbs * z.natAbs)) 0) w

/-- Fine and fast values with their flags: the fine sample, then the fast one, and how many of the two saturated (R127, R128). -/
def FInst.detStep (x : FInst) (i : Sample) : FInst × Sample × Sample × Nat :=
  let det := Ent.INST_DET.of x.cfg
  let w := Ent.INST_W_FULL.of x.cfg
  let q := w / 4
  let h := (i.v :: x.det).take (w + q + 1)
  let a := ages i x.detAge
  let x := { x with det := h, detAge := a }
  if det = 0 then (x, i, i, 0)
  else
    let extra := if det = 3 then q else 0
    let f := detect det w q h
    let g := detect det (w / 2) q h
    (x, spanOut (satSigned 32 f) a (w + extra) (decide (2 ^ 31 ≤ f)), spanOut (satSigned 32 g) a (w / 2 + extra) (decide (2 ^ 31 ≤ g)),
      b2n (decide (2 ^ 31 ≤ f)) + b2n (decide (2 ^ 31 ≤ g)))

/-! ## Elements (R138, R139) -/

/-- The number of outputs in T µs: ceil(T × f_d / 10^6). -/
def outputsIn (us fd : Nat) : Nat := (us * fd + 999999) / 1000000

/-- The value that an element takes from an output, and whether it is usable (R139). -/
def elemValue (sel o : Nat) : Int × Bool :=
  let fine := signed 32 (Ent.OUT_FINE.of o)
  let fast := signed 32 (Ent.OUT_FAST.of o)
  let inv := Ent.OUT_INVALID.on o
  let set := Ent.OUT_SETTLING.on o
  let finv := Ent.OUT_FAST_INVALID.on o
  match sel with
  | 0 => (fine, !inv && !set)
  | 1 => (fast, !finv)
  | _ => if (set || inv) && !finv then (fast, true) else (fine, !inv)

/-- An increment of the integrator: exact to within one unit, which way is free (R138, log entry 4). -/
def State.elemStep (s : State) (fd tms : Nat) (y : Int) : Nat × State :=
  let (v, s) := s.fresh
  (curveStep fd tms y + v % 3 - 1, s)

/-- Whether an element is blocked (R142). -/
def State.elemBlocked (s : State) (e : Nat) : Bool := bitAt (s.rd FLT_BKST_BLOCK) e

/-- The evaluation of R138 on one output of rate `fd`. Where the element ceases to be started, its on-count ends too (DEDUCED,
log entry 19). -/
def State.elemEval (s : State) (n : Nat) (e : Elem) (fd o : Nat) : Elem × State :=
  let c := e.cfg
  let mode := Ent.ELEM_MODE.of c
  let hold := Ent.ELEM_LATCH.on c || e.latched
  if s.elemBlocked n || decide (mode = 0) then ({ e with trip := false, latched := false, integ := 0, started := false, on := 0 }, s)
  else
    let (v, usable) := elemValue (Ent.ELEM_VALUE_SEL.of c) o
    if usable = false then
      let fr := e.frozen + 1
      if outputsIn (Ent.ELEM_INV_HOLD.of c * 1000) fd < fr then
        ({ e with frozen := fr, started := false, integ := 0, on := 0, idle := 0, trip := e.trip && hold }, s)
      else ({ e with frozen := fr }, s)
    else
      let e := { e with frozen := 0 }
      let pick := Ent.ELEM_PICKUP.of c
      if (pick : Int) < v ∨ (e.started = true ∧ ((pick * Ent.ELEM_DROPOUT.of c : Nat) : Int) ≤ 256 * v) then
        let e := { e with started := true, on := e.on + 1, idle := 0 }
        let ripe := decide (outputsIn (Ent.ELEM_DELAY.of c) fd ≤ e.on)
        if mode = 1 then ({ e with trip := e.trip || ripe }, s)
        else
          let x := q11Sat (q11Log2 v.toNat pick)
          if ((e.pts.head?).map (fun p => p.1)).getD 0 ≤ x then
            let (d, s) := s.elemStep fd (Ent.ELEM_TMS.of c) (curveAt e.pts x)
            let integ := if 2 ^ 48 ≤ e.integ then 2 ^ 48 else min (2 ^ 48) (e.integ + d)
            ({ e with integ := integ, trip := e.trip || (decide (integ = 2 ^ 48) && ripe) }, s)
          else (e, s)
      else
        let e := { e with started := false, on := 0, idle := e.idle + 1, trip := e.trip && hold }
        match Ent.ELEM_RESET_MODE.of c with
        | 0 => ({ e with integ := 0 }, s)
        | 1 => ({ e with integ := if outputsIn (Ent.ELEM_RESET_TIME.of c) fd ≤ e.idle then 0 else e.integ }, s)
        | _ =>
          let xr := q11Sat (q11Log2 (max v 1).toNat pick)
          let (d, s) := s.elemStep fd (Ent.ELEM_TMS.of c) (curveAt e.rpts xr)
          ({ e with integ := e.integ - d }, s)

/-- A trip that stands under LATCH = 1 is latched: it holds until FLT_BKST_RESET, whatever LATCH a tip-in brings (R135, R145). -/
def Elem.latch (e : Elem) : Elem := { e with latched := e.trip && (e.latched || Ent.ELEM_LATCH.on e.cfg) }

/-- An element takes a waiting configuration: with the same INPUT its state is kept; with another it is cleared, but for a latched
trip (R145). -/
def Elem.take (e : Elem) (n : ENext) : Elem :=
  let e := e.latch
  if Ent.ELEM_INPUT.of n.cfg = Ent.ELEM_INPUT.of e.cfg then { e with cfg := n.cfg, pts := n.pts, rpts := n.rpts, src := n.src }
  else { e with cfg := n.cfg, pts := n.pts, rpts := n.rpts, src := n.src, integ := 0, started := false, on := 0, frozen := 0, idle := 0,
                trip := e.latched }

/-- An element takes its first `k` waiting configurations, in order. -/
def Elem.takeN (e : Elem) (k : Nat) : Elem := { (e.next.take k).foldl Elem.take e with next := e.next.drop k }

/-- An element evaluates an output in its present configuration, and a trip is recorded. -/
def State.elemJudge (s : State) (n : Nat) (e : Elem) (fd o : Nat) : State :=
  let (e', s) := s.elemEval n e fd o
  let rise := e'.trip && !e.trip
  let e' := if rise then { e' with trips := satNat 32 (e'.trips + 1), tripSmp := Ent.OUT_SMPCNT.of o, tripCycle := Ent.OUT_CYCLE_LO.of o } else e'
  let s := s.onFlt (fun f => { f with elems := putNum f.elems n e'.latch })
  if rise then (s.bump FLT_BKST_TRIPS).flag FLT_TROUBLE_BKST_TRIP else s

/-- The element of a number, idle where none runs. -/
def State.elem (s : State) (n : Nat) : Elem := getNum { cfg := 0 } s.flt.elems n

/-- An element meets an output of instance `i`, which still waits for `r` configurations (R147). Every data-path flip gives one waiting
configuration to each instance and element that it keeps, so the element owes the output the configuration with as many left: it
takes its configurations up to that one, and evaluates the output where that one watches the instance. An output of an instance that
the element has left, or does not yet watch, does nothing. -/
def State.elemOutput (s : State) (n i r fd o : Nat) : State :=
  let e := s.elem n
  let q := e.next.length
  let e' := e.takeN (q - r)
  if r ≤ q ∧ e'.src = i then s.elemJudge n e' fd o
  else if r < q ∧ e.src = i then s.onFlt (fun f => { f with elems := putNum f.elems n e' })
  else s

/-- Every element meets the output of an instance, and the DT lines follow. -/
def State.elemsOutput (s : State) (i fd o : Nat) : State :=
  let r := ((s.inst i).map (fun x => x.next.length)).getD 0
  (s.flt.elems.foldl (fun s e => s.elemOutput e.1 i r fd o) s).dtUpdate

/-! ## Consumption (R122, R130, R131, R147) -/

/-- Whether a waiting configuration changes the source of an instance. -/
def FInst.moves (x : FInst) (n : FNext) : Bool :=
  let same (b : Bits) : Bool := decide (b.of x.cfg = b.of n.cfg)
  !(same Ent.INST_SRC_KIND && same Ent.INST_SRC_A && decide (x.srcA = n.srcA))

/-- Put an instance into a new configuration, at its switch point (R143, R147). -/
def FInst.reconfig (x : FInst) (n : FNext) : FInst :=
  let same (b : Bits) : Bool := decide (b.of x.cfg = b.of n.cfg)
  let y := { x with cfg := n.cfg, coef := n.coef, srcA := n.srcA, srcB := n.srcB, since := n.due, gen := (x.gen + 1) % 4 }
  if x.moves n || !(same Ent.INST_CIC_N && same Ent.INST_CIC_M && same Ent.INST_CIC_R &&
       same Ent.INST_CIC_SHIFT && same Ent.INST_FIR_TAPS && same Ent.INST_DET && same Ent.INST_F0 && same Ent.INST_W_FULL) then
    { cfg := n.cfg, coef := n.coef, srcA := n.srcA, srcB := n.srcB, next := x.next, since := n.due, gen := y.gen, pos := x.pos, rate := x.rate,
      sc := x.sc, turn := x.turn, start := x.start, out := x.out, forced := x.forced, steps := x.steps, switches := x.switches,
      lastSmp := x.lastSmp, lastCycle := x.lastCycle }
  else if x.coef = n.coef ∨ Ent.INST_FIR_TAPS.of n.cfg = 0 then y else { y with settle := settleN n.cfg }

/-- The position that an instance consumes next: its own, or the first of its start cycle (R511). -/
def State.instPos (s : State) (x : FInst) : Option Nat :=
  match x.pos with
  | some p => some p
  | none => match x.start with
    | some n => some (n * x.sc)
    | none => s.svi.c0.map (fun n => n * x.sc)

/-- An instance at a position goes on in another numbering, at the first position whose sampling instant is at or after (R147). -/
def FInst.renumber (x : FInst) (pos rate sc : Nat) : FInst :=
  { x with pos := some ((pos * rate + x.rate - 1) / x.rate), rate := rate, sc := sc, turn := some (pos, (pos * rate + x.rate - 1) / x.rate, x.rate, x.sc) }

/-- The numbering of a source now: RATE and SETS_PER_CYCLE of its stream, or the numbering of the instance. -/
def State.srcRateNow (s : State) (src : FSrc) : Option (Nat × Nat) :=
  match src with
  | .none => none
  | .chan i _ _ => some (Ent.CTX_RATE.of (s.ctx i), Ent.CTX_SETS_PER_CYCLE.of (s.ctx i))
  | .inst u _ => (s.inst u).map (fun y => (y.rate, y.sc))

/-- An instance follows its source into another numbering: a stream whose RATE a tip-in has changed from the first cycle of its new
ring on (R93), an instance from where it changed its own. -/
def State.follow (s : State) (x : FInst) (pos : Nat) : FInst :=
  let x := { x with pos := some pos }
  match s.srcRateNow x.srcA with
  | none => x
  | some (r, c) =>
    if r = x.rate ∧ c = x.sc then x
    else match x.srcA with
      | .chan i _ _ => if (s.stream i).expired ≤ pos / x.sc then x.renumber pos r c else x
      | .inst u _ => match (s.inst u).bind (fun y => y.doneTo x.rate x.sc) with
        | some p => if p ≤ pos then x.renumber pos r c else x
        | none => x
      | .none => x

/-- The input that an instance consumes at a position, whether from B, and the instance after source switching (R130);
`none` where it waits. A chained source without an output there gives `some none`: the position is passed over, and counts for
neither source. -/
def State.instPick (s : State) (x : FInst) (pos : Nat) : Option (FInst × SrcIn × Bool × Bool) :=
  let c := x.cfg
  let a := s.srcIn x x.srcA pos
  let b := s.srcIn x x.srcB pos
  let use (y : SrcIn) : Bool := match y with | .some _ u _ _ _ => u | _ => false
  let n := Ent.INST_SWITCH_N.of c
  let auto := Ent.INST_ALT_EN.on c && decide (n ≠ 0) && decide (x.forced = 0)
  let toB : Option (FInst × SrcIn × Bool × Bool) := some ({ x with onB := true, goodA := 0, badA := 0 }, b, true, !x.onB)
  let toA : Option (FInst × SrcIn × Bool × Bool) := some ({ x with onB := false, goodA := 0, badA := 0 }, a, false, x.onB)
  if x.forced = 1 ∨ (x.onB ∧ Ent.INST_ALT_EN.on c = false) then
    match a with
    | .notYet => none
    | .gone => some (x, .gone, false, false)
    | .none => some (x, .none, false, false)
    | _ => toA
  else if x.forced = 2 ∧ Ent.INST_ALT_EN.on c then
    match b with
    | .notYet => none
    | .gone => some (x, .gone, true, false)
    | .none => some (x, .none, false, false)
    | _ => toB
  else if x.onB then
    let good := match a with
      | .none => x.goodA
      | _ => if use a then x.goodA + 1 else 0
    if auto && decide (n ≤ good) && use a then toA
    else match b with
      | .notYet => none
      | .gone => some (x, .gone, true, false)
      | _ => some ({ x with goodA := good }, b, true, false)
  else match a with
    | .notYet => none
    | .gone => some (x, .gone, false, false)
    | .none => some (x, .none, false, false)
    | _ =>
      let bad := if use a then 0 else x.badA + 1
      if auto && decide (n ≤ bad) then
        match b with
        | .notYet => none
        | _ => if use b then toB else some ({ x with badA := bad }, a, false, false)
      else some ({ x with badA := bad }, a, false, false)

/-- Whether a position has neither source usable, of an instance that has two (NO_SOURCE). -/
def State.noSource (s : State) (x : FInst) (pos : Nat) : Bool :=
  let dead (y : SrcIn) : Bool := match y with
    | .some _ u _ _ _ => !u
    | .notYet => false
    | _ => true
  Ent.INST_ALT_EN.on x.cfg && dead (s.srcIn x x.srcA pos) && dead (s.srcIn x x.srcB pos)

/-- Write an output entry into an instance's ring, dropping entries that have left the window. -/
def FInst.write (x : FInst) (o : FOut) : FInst :=
  { x with out := o :: x.out.filter (fun p => !(p.slot == o.slot) && decide (o.cycle ≤ p.cycle + 63)) }

/-- One input has been picked: the pipeline runs, and an output is written where the CIC emits (R123-R132). -/
def State.instFeed (s : State) (i : Nat) (x : FInst) (pos : Nat) (v : Sample) (usable : Bool) (ingress : Nat) (epoch : Option Nat)
    (stream : Nat) (fromB switched : Bool) : State :=
  let c := x.cfg
  let smp := pos % x.rate
  let m := pos / x.sc
  let fed : Sample := if usable then v else { v with v := if Ent.INST_SUBST.on c then x.last else 0, taint := true }
  let x := { x with pos := some (pos + 1), last := if usable then v.v else x.last, switches := satNat 32 (x.switches + b2n switched),
                    settle := if switched then settleN c else x.settle }
  let s := if switched then (s.bump FLT_SWITCHES).flag FLT_TROUBLE_SWITCH else s
  let (x, y) := x.cic smp fed
  match y with
  | none => s.setInst i x
  | some (y, cicClip) =>
    let (x, d, firClip) := x.firStep y
    let old := x.det.getD (Ent.INST_W_FULL.of c - 1) 0
    let step := decide (Ent.INST_STEP_THRESH.of c ≠ 0) && decide (Ent.INST_STEP_THRESH.of c < (d.v - old).natAbs)
    let (x, fine, fast, detClips) := x.detStep d
    let left := if step then settleN c else x.settle
    let late := epoch.any (fun e => decide (e < x.since))
    let clips := b2n cicClip + b2n firClip + detClips
    let o := Ent.OUT_FINE.mk' (unsigned 32 fine.v) + Ent.OUT_FAST.mk' (unsigned 32 fast.v) + Ent.OUT_INGRESS.mk' ingress +
      Ent.OUT_SMPCNT.mk' smp + Ent.OUT_STATE.mk' 1 + Ent.OUT_INVALID.mk' (b2n fine.taint) +
      Ent.OUT_FAST_INVALID.mk' (b2n fast.taint) + Ent.OUT_QUESTIONABLE.mk' (b2n (fine.quest && !fine.taint)) +
      Ent.OUT_SETTLING.mk' (b2n (decide (left ≠ 0))) + Ent.OUT_STEP.mk' (b2n step) + Ent.OUT_SOURCE_B.mk' (b2n fromB) +
      Ent.OUT_SATURATED.mk' (b2n (fine.sat || fast.sat)) + Ent.OUT_CFG_LATE.mk' (b2n late) + Ent.OUT_GEN.mk' x.gen +
      Ent.OUT_STREAM.mk' stream + Ent.OUT_CYCLE_LO.mk' m + Ent.OUT_EPOCH_LO.mk' (epoch.getD 0)
    let x := { x with settle := left - 1, steps := satNat 32 (x.steps + b2n step), lastSmp := smp, lastCycle := m % 2 ^ 32 }
    let s := s.setInst i (x.write ⟨slotOf x.sc pos, m, o, epoch⟩)
    let s := if step then (s.bump FLT_STEPS).flag FLT_TROUBLE_STEP else s
    let s := if clips ≠ 0 then (s.bumpBy FLT_SATURATED clips).flag FLT_TROUBLE_SATURATED else s
    let s := if late then (s.bump FLT_CFG_LATE).flag FLT_TROUBLE_CFG_LATE else s
    s.elemsOutput i (s.instFd 5 x) o

/-- Count an input for FLT_STATUS.LOAD: the share of 48 000 inputs in the ms before the present one. -/
def State.countInput (s : State) : State :=
  let ms := s.now / 1000000
  if ms = s.flt.inputsMs then s.onFlt (fun f => { f with inputs := f.inputs + 1 })
  else (s.wr FLT_STATUS_LOAD (satNat 8 (if ms = s.flt.inputsMs + 1 then s.flt.inputs * 100 / 48000 else 0))).onFlt
    (fun f => { f with inputs := 1, inputsMs := ms })

/-- An instance takes the input at a position, passes a position at which a chained source has no output, or waits. -/
def State.instTake (s : State) (i : Nat) (x : FInst) (pos : Nat) : State :=
  match s.instPick x pos with
  | some (y, .some v u ing e st, b, sw) =>
    ((s.countInput).flagIf (s.noSource x pos) FLT_TROUBLE_NO_SOURCE).instFeed i y pos v u ing e st b sw
  | some (y, .none, _, _) => s.setInst i { y with pos := some (pos + 1) }
  | _ => s.setInst i x

/-- Whether an input is at or after the switch point of a waiting configuration: a set with an epoch that the configuration applies to,
or a source that has ended, whose next set would have had one (R61, R147). -/
def FNext.reached (n : FNext) (y : SrcIn) : Bool :=
  match y with
  | .some _ _ _ (some e) _ => decide (n.due ≤ e)
  | .gone => true
  | _ => false

/-- The waiting configurations whose switch point an input has reached come into force, up to one that changes the source: from there
the instance goes on with its new source (R147). The flag says that the source has changed. -/
def State.instSwitch (s : State) (y : SrcIn) (pos : Nat) : List FNext → FInst → FInst × Bool
  | [], x => (x, false)
  | n :: rest, x =>
    if n.reached y then
      let z := { x.reconfig n with next := rest }
      if x.moves n then
        match s.srcRateNow n.srcA with
        | some (r, c) => (if r = x.rate ∧ c = x.sc then z else z.renumber pos r c, true)
        | none => (z, true)
      else s.instSwitch y pos rest z
    else (x, false)

/-- An instance consumes its next position, if it has been delivered (R122). -/
def State.instConsume (s : State) (i : Nat) : State :=
  match s.inst i with
  | none => s
  | some x =>
    match s.instPos x with
    | none => s
    | some p =>
      let x := s.follow x p
      let pos := x.pos.getD p
      match s.instPick x pos with
      | none => s
      | some (_, y, _, _) =>
        let r := s.instSwitch y pos x.next x
        if r.2 then s.setInst i r.1 else s.instTake i r.1 pos

/-- Filters run from READY, on clock unit INGEST (R428). -/
def State.filterConsume (s : State) (i : Nat) : State := if s.loaded && s.clk 15 then s.instConsume i else s

/-- One consumption of an instance, if a condition comes about in it; else nothing. -/
def State.consumeIf (s : State) (i : Nat) (c : State → State → Bool) : State :=
  if c s (s.filterConsume i) then s.filterConsume i else s

/-- The instance that an element watches. -/
def State.elemInput (s : State) (n : Nat) : Nat := (s.elem n).src

/-- In a consumption, an element of a mode trips. -/
def tripsIn (n mode : Nat) (a b : State) : Bool :=
  !(a.elem n).trip && (b.elem n).trip && decide (Ent.ELEM_MODE.of (b.elem n).cfg = mode)

/-- In a consumption, definite reset clears an element's integrator. -/
def resetsIn (n : Nat) (a b : State) : Bool :=
  decide ((a.elem n).integ ≠ 0) && decide ((b.elem n).integ = 0) && decide ((b.elem n).frozen = 0) &&
  decide (Ent.ELEM_RESET_MODE.of (b.elem n).cfg = 1)

/-- In a consumption, an element has been frozen for longer than INV_HOLD. -/
def thawsIn (n : Nat) (a b : State) : Bool :=
  decide ((a.elem n).frozen < (b.elem n).frozen) &&
  decide (outputsIn (Ent.ELEM_INV_HOLD.of (b.elem n).cfg * 1000) (((b.inst (b.elemInput n)).map (b.instFd 5)).getD 0) < (b.elem n).frozen)

/-- In a consumption, the settling count of an instance runs out. -/
def settlesIn (i : Nat) (a b : State) : Bool :=
  match a.inst i, b.inst i with
  | some x, some y => decide (x.settle ≠ 0) && decide (y.settle = 0)
  | _, _ => false

/-- In a consumption, an instance switches between its sources. -/
def switchesIn (i : Nat) (a b : State) : Bool :=
  match a.inst i, b.inst i with
  | some x, some y => x.onB != y.onB
  | _, _ => false

/-! ## Host commands (R130, R138, R142) -/

/-- Force a source of an instance, or restore automatic switching. -/
def State.switchForce (s : State) (i f : Nat) : State :=
  match s.inst i with
  | none => s
  | some x => s.setInst i { x with forced := f, badA := 0, goodA := 0 }

/-- Release the latched trip of one element. -/
def State.elemRelease (s : State) (n : Nat) : State :=
  s.onFlt (fun f => { f with elems := f.elems.map (fun e =>
    if e.1 = n ∧ (Ent.ELEM_LATCH.on e.2.cfg || e.2.latched) = true then (e.1, { e.2 with trip := false, latched := false }) else e) })

/-- FLT_BKST_RESET with RESET: one element, or all. -/
def State.bkstReset (s : State) (all : Bool) (n : Nat) : State :=
  (if all then (List.range 64).foldl State.elemRelease s else s.elemRelease n).dtUpdate

/-- FLT_BKST_BLOCK is written: floor bits stay 0, and a blocked element is held as if its MODE were 0 (R142). -/
def State.bkstBlock (s : State) (v : Nat) : State :=
  let floor := s.rd FLT_BKST_FLOOR
  let b := (List.range 64).foldl (fun n i => if bitAt v i && !bitAt floor i then n + 2 ^ i else n) 0
  let s := (s.wr FLT_BKST_BLOCK b).flagIf (decide (v % 2 ^ 64 &&& floor ≠ 0)) FLT_TROUBLE_FLOOR_BLOCK
  (s.onFlt (fun f => { f with elems := f.elems.map (fun e =>
    if bitAt b e.1 then (e.1, { e.2 with trip := false, latched := false, integ := 0, started := false, on := 0 }) else e) })).dtUpdate

/-- Whether the first stage of an instance's chain puts out at a SmpCnt (R124). -/
def State.emitsAt (s : State) : Nat → FInst → Nat → Bool
  | 0, _, _ => true
  | fuel + 1, x, smp =>
    if Ent.INST_CIC_N.of x.cfg ≠ 0 then decide (smp % Ent.INST_CIC_R.of x.cfg = Ent.INST_CIC_R.of x.cfg - 1)
    else match x.srcA with
      | .inst u _ => match s.inst u with
        | none => true
        | some y => s.emitsAt fuel y smp
      | _ => true

/-- A read of the filter aperture (R131). -/
def State.filterRead (s : State) (i slot : Nat) : Nat × Bool :=
  match s.inst i with
  | none => (Ent.OUT_STATE.mk' 6, true)
  | some x =>
    let m := windowCycle s.horizon slot
    if x.sc ≤ slot % 16 then (Ent.OUT_STATE.mk' 7, false)
    else match x.outAt slot m with
      | some o => (o.entry, false)
      | none =>
        match s.instPos x with
        | none => (Ent.OUT_STATE.mk' 6, true)
        | some p =>
          let q := m * x.sc + slot % 16
          let first := ((x.start.orElse (fun _ => s.svi.c0)).getD 0) * x.sc
          if q < first then (Ent.OUT_STATE.mk' 6, true)
          else if q < p then (Ent.OUT_STATE.mk' 7, false)
          else if s.emitsAt 5 x (q % x.rate) = false then (Ent.OUT_STATE.mk' 7, false)
          else (0, false)

/-- An uncorrectable error in filter or element state: the instance restarts, or the element resets (R511). -/
def State.stateEcc (s : State) (isElem : Bool) (n : Nat) : State :=
  let s := s.flag FLT_TROUBLE_STATE_ECC
  if isElem then
    let clear (e : Elem) : Elem := { cfg := e.cfg, pts := e.pts, rpts := e.rpts, src := e.src, next := e.next, trips := e.trips,
                                     tripSmp := e.tripSmp, tripCycle := e.tripCycle }
    (s.onFlt (fun f => { f with elems := f.elems.map (fun e => if e.1 = n then (e.1, clear e.2) else e) })).dtUpdate
  else match s.inst n with
    | none => s
    | some x => s.setInst n { cfg := x.cfg, coef := x.coef, srcA := x.srcA, srcB := x.srcB, next := x.next, since := x.since, gen := x.gen, pos := x.pos,
                              rate := x.rate, sc := x.sc, turn := x.turn, start := x.start, out := x.out, forced := x.forced, lastSmp := x.lastSmp, lastCycle := x.lastCycle, steps := x.steps, switches := x.switches }

/-! ## Tables 0x0505 and 0x0506 -/

/-- Instance state entry: STABLE_ID 31:0, SOURCE_B 32, FORCED 34:33, SETTLE_LEFT 47:35, LAST_SMPCNT 63:48, LAST_CYCLE_LO 95:64,
STEPS 127:96, SWITCHES 159:128. -/
def State.instEnt (s : State) (i : Nat) : Nat :=
  match s.inst i with
  | none => 0
  | some x => x.cfg % 2 ^ 32 + b2n x.onB * 2 ^ 32 + x.forced * 2 ^ 33 + x.settle * 2 ^ 35 + x.lastSmp * 2 ^ 48 + x.lastCycle * 2 ^ 64 +
      x.steps * 2 ^ 96 + x.switches * 2 ^ 128

/-- The state code of an element: 0 idle, 1 started, 2 tripped, 3 latched, 4 blocked, 5 frozen. -/
def State.elemCode (s : State) (n : Nat) (e : Elem) : Nat :=
  if s.elemBlocked n then 4 else if e.frozen ≠ 0 then 5 else if e.trip then (if (Ent.ELEM_LATCH.on e.cfg || e.latched) && !e.started then 3 else 2)
  else if e.started then 1 else 0

/-- Element state entry: STABLE_ID 31:0, STATE 34:32, INTEGRATOR 127:64, TRIPS 159:128, TRIP_SMPCNT 175:160, TRIP_CYCLE_LO 223:192. -/
def State.elemEnt (s : State) (n : Nat) : Nat :=
  let e := s.elem n
  e.cfg % 2 ^ 32 + s.elemCode n e * 2 ^ 32 + e.integ * 2 ^ 64 + e.trips * 2 ^ 128 + e.tripSmp * 2 ^ 160 + e.tripCycle * 2 ^ 192

/-! ## Load and carry-over (R143-R147) -/

/-- The coefficient entry of a configuration in a coefficient bank. -/
def coefOf (firs : Store) (cfg : Nat) : Nat := firs.get (Ent.INST_FIR_SET.of cfg) 0

/-- A new element from its entry. -/
def newElem (curves : Store) (cfg : Nat) : Elem :=
  { cfg := cfg, pts := curvePoints curves (Ent.ELEM_CURVE.of cfg), rpts := curvePoints curves (Ent.ELEM_RESET_CURVE.of cfg),
    src := Ent.ELEM_INPUT.of cfg }

/-- Refresh FLT_STATUS. -/
def State.fltStatus (s : State) : State :=
  (s.wrB FLT_STATUS_RUNNING s.loaded).wr FLT_STATUS_ACTIVE (s.flt.insts.filter (fun p => decide (p.1 < 2048))).length

/-- The enabled instances of the running table (R44, R120). -/
def State.instEnts (s : State) : Store := (s.used 0x501).filter (fun e => Ent.INST_ENABLE.on e.2)

/-- A load reaches READY: every enabled instance and element starts. -/
def State.fltReady (s : State) : State :=
  let firs := (s.tab 0x502).active
  let curves := (s.tab 0x503).active
  ((s.onFlt (fun f => { f with
    insts := s.instEnts.map (fun e => (e.1, s.newInst e.2 (coefOf firs e.2))),
    elems := (s.used 0x504).map (fun e => (e.1, newElem curves e.2)) })).fltStatus).dtUpdate

/-- A source in the numbers that a flip gives streams and instances. -/
def FSrc.move (streams insts : Nat → Nat) (x : FSrc) : FSrc :=
  match x with
  | .none => .none
  | .chan i off n => .chan (streams i) off n
  | .inst i fast => .inst (insts i) fast

/-- An instance in the numbers that a flip gives streams and instances. -/
def FInst.move (streams insts : Nat → Nat) (x : FInst) : FInst :=
  { x with srcA := x.srcA.move streams insts, srcB := x.srcB.move streams insts,
           next := x.next.map (fun n => { n with srcA := n.srcA.move streams insts, srcB := n.srcB.move streams insts }) }

/-- Where a flip puts instance `i` of the old table: the entry that now carries its stable identity, else a number of its own
(R57). -/
def State.movedInst (s : State) (oldInst : Store) (flips i : Nat) : Nat :=
  if 2048 ≤ i then i
  else (((findStable oldInst (oldInst.get i 0 % 2 ^ 32)).bind (fun _ => findStable s.instEnts (oldInst.get i 0 % 2 ^ 32))).map
    (fun e => e.1)).getD (2048 * flips + i)

/-- The flip of a data-path tip-in at the boundary of cycle `n`, from the old banks to the running ones; `streams` says where each
stream stands now (R143-R147). Each instance that stays goes on in its old configuration, by the identity of its sources, until
its switch point; one that stops is kept for the instances that still read its outputs (log entry 48). -/
def State.fltFlip (s : State) (oldInst oldElem : Store) (streams : Nat → Nat) (n : Nat) : State :=
  let firs := (s.tab 0x502).active
  let curves := (s.tab 0x503).active
  let before := s.flt
  let flips := before.flips + 1
  let tip := s.rd BND_TIP_EPOCH
  let old (i : Nat) : Option FInst := (before.insts.find? (fun p => p.1 == i)).map (fun p => p.2)
  let move (i : Nat) : Nat := s.movedInst oldInst flips i
  let insts := s.instEnts.map (fun e =>
    match (findStable oldInst (e.2 % 2 ^ 32)).bind (fun o => old o.1) with
    | none => (e.1, { s.newInst e.2 (coefOf firs e.2) with since := tip, start := some (n + 1) })
    | some x =>
      let y := s.newInst e.2 (coefOf firs e.2)
      let x := x.move streams move
      (e.1, { x with next := x.next ++ [⟨tip, y.cfg, y.coef, y.srcA, y.srcB⟩] }))
  let gone := (before.insts.filter (fun p => decide (2048 ≤ move p.1))).map (fun p => (move p.1, p.2.move streams move))
  let elems := (s.used 0x504).map (fun e =>
    let y := newElem curves e.2
    match (findStable oldElem (e.2 % 2 ^ 32)).bind (fun o => (before.elems.find? (fun p => p.1 == o.1)).map (fun p => p.2)) with
    | none => (e.1, y)
    | some x => (e.1, { x with src := move x.src, next := x.next.map (fun k => { k with src := move k.src }) ++ [⟨y.cfg, y.pts, y.rpts, y.src⟩] }))
  let was (i : Nat) : Nat := ((findStable oldElem ((s.used 0x504).get i 0 % 2 ^ 32)).map (fun o => o.1)).getD i
  let times (m : Store) : Store := (List.range 64).foldl (fun t i => t.put i 0 (m.get (was i) 0)) []
  let turn (v : Nat) : Nat := (List.range 64).foldl (fun n i => if bitAt v (was i) then n + 2 ^ i else n) 0
  let s := s.onFlt (fun f => { f with insts := insts ++ gone, elems := elems, flips := flips, startAt := times f.startAt,
                                      tripAt := times f.tripAt })
  let s := (s.wr FLT_BKST_START (turn (s.rd FLT_BKST_START))).wr FLT_BKST_TRIP (turn (s.rd FLT_BKST_TRIP))
  s.fltStatus.dtUpdate

/-- A cadence restart at cycle `n`: every instance restarts there in its newest configuration, and outputs read EXPIRED (R311). -/
def State.fltRestart (s : State) (n : Nat) : State :=
  s.onFlt (fun f => { f with
    insts := (f.insts.filter (fun p => decide (p.1 < 2048))).map (fun p =>
      let x := p.2.next.getLast?
      let y := s.newInst ((x.map (fun k => k.cfg)).getD p.2.cfg) ((x.map (fun k => k.coef)).getD p.2.coef)
      (p.1, { y with since := (x.map (fun k => k.due)).getD p.2.since, gen := (p.2.gen + p.2.next.length) % 4, start := some n, forced := p.2.forced,
                     steps := p.2.steps, switches := p.2.switches })),
    elems := f.elems.map (fun p => (p.1, p.2.takeN p.2.next.length)) })

/-- Whether a source lies at most `fuel` instances deep, through either source of each (R121). -/
def shallow (insts : Store) : Nat → Nat → Nat → Bool
  | 0, kind, _ => decide (kind < 2)
  | fuel + 1, kind, src =>
    decide (kind < 2) ||
      (let u := insts.get src 0
       shallow insts fuel (Ent.INST_SRC_KIND.of u) (Ent.INST_SRC_A.of u) &&
       (!Ent.INST_ALT_EN.on u || shallow insts fuel (Ent.INST_SRC_KIND.of u) (Ent.INST_SRC_B.of u)))

/-- The CHECK of FILT on the entries in use (R44, R121). -/
def filtOk (insts firs ctxs : Store) : Bool :=
  let live := insts.filter (fun e => Ent.INST_ENABLE.on e.2)
  let owned (slot : Nat) : Bool := (ownerOf ctxs slot).isSome
  let depth (k src : Nat) : Bool := shallow insts 3 k src
  live.all (fun e =>
    let c := e.2
    let n := Ent.INST_CIC_N.of c
    let k := Ent.INST_SRC_KIND.of c
    let srcOk (x : Nat) : Bool :=
      if k = 0 then owned x
      else if k = 1 then owned x && decide (ownerOf ctxs x = ownerOf ctxs (x + 1)) && decide (ownerOf ctxs x = ownerOf ctxs (x + 2))
      else decide (x < e.1) && Ent.INST_ENABLE.on (insts.get x 0)
    let fin := srcRate insts ctxs 5 k (Ent.INST_SRC_A.of c)
    let fd := outRate fin c
    let f0 := if Ent.INST_F0.on c then 60 else 50
    let w := Ent.INST_W_FULL.of c
    (decide (n = 0 ∨ n = 3 ∨ n = 4 ∨ n = 5)) &&
    (decide (n = 0) || (decide (2 ≤ Ent.INST_CIC_R.of c ∧ Ent.INST_CIC_R.of c ≤ 64) && decide ((Ent.INST_CIC_R.of c * cicM c) ^ n ≤ 2 ^ 32) &&
      decide (k < 2) && decide (fin % Ent.INST_CIC_R.of c = 0))) &&
    (decide (Ent.INST_FIR_TAPS.of c ≤ 32) && decide (coefOf firs c % 2 ^ 32 ≠ 0)) &&
    ((decide (Ent.INST_DET.of c = 0) && decide (Ent.INST_STEP_THRESH.of c = 0)) ||
      (decide (w * f0 = fd) && decide (w % 2 = 0) && (decide (Ent.INST_DET.of c ≠ 3) || decide (w % 4 = 0)))) &&
    srcOk (Ent.INST_SRC_A.of c) && depth k (Ent.INST_SRC_A.of c) &&
    (!Ent.INST_ALT_EN.on c || (srcOk (Ent.INST_SRC_B.of c) && depth k (Ent.INST_SRC_B.of c) && decide (srcRate insts ctxs 5 k (Ent.INST_SRC_B.of c) = fin)))) &&
  decide (live.foldl (fun t e => t + srcRate insts ctxs 5 (Ent.INST_SRC_KIND.of e.2) (Ent.INST_SRC_A.of e.2)) 0 ≤ 40000000)

/-- Whether a curve code may be named (R510). -/
def curveNamed (curves : Store) (c : Nat) : Bool := decide (c ≤ 25) && (decide (16 ≤ c) || curveAdmits (curvePoints curves c))

/-- The CHECK of BKST and CURV on the elements in use (R44, R136, R510). -/
def bkstOk (elems curves : Store) : Bool :=
  elems.all (fun e =>
    let c := e.2
    let m := Ent.ELEM_MODE.of c
    decide (m ≠ 3) && (decide (m = 0) ||
      (decide (Ent.ELEM_VALUE_SEL.of c ≠ 3) && decide (Ent.ELEM_RESET_MODE.of c ≠ 3) && decide (Ent.ELEM_PICKUP.of c ≠ 0) &&
       decide (Ent.ELEM_DROPOUT.of c ≠ 0) &&
       (decide (m ≠ 2) || curveNamed curves (Ent.ELEM_CURVE.of c)) &&
       (decide (Ent.ELEM_RESET_MODE.of c ≠ 2) || curveNamed curves (Ent.ELEM_RESET_CURVE.of c)) &&
       (decide (Ent.ELEM_TMS.of c ≠ 0) || (decide (m ≠ 2) && decide (Ent.ELEM_RESET_MODE.of c ≠ 2))))))

/-- The floor rule of a BKST tip-in (R146). -/
def State.floorOk (s : State) (new : Store) : Bool :=
  (List.range 64).all (fun i => !bitAt (s.rd FLT_BKST_FLOOR) i ||
    (decide (Ent.ELEM_MODE.of (new.get i 0) ≠ 0) && decide (new.get i 0 % 2 ^ 32 = s.ent 0x504 i % 2 ^ 32)))

end Sys2Proof.Machine
end

