-- ==== Sys2Proof/Machine/ClsOps.lean ====
section
/-! DEFINITION. The Clasp: runs, read sets, squashes, releases, emission, background batches and quires (chapter
"Provisional computing and the Clasp", R96-R119). -/

namespace Sys2Proof.Machine

open Sys2Proof Reg

/-! ## Folios and cycles -/

/-- Whether the placement table enables a folio. -/
def State.folioOn (s : State) (f : Nat) : Bool := Ent.PLC_ENABLE.on (s.plc f)

/-- Whether a folio is a background folio (R117). -/
def State.folioBg (s : State) (f : Nat) : Bool := Ent.PLC_BACKGROUND.on (s.plc f)

/-- The quire slot of a folio, in bytes. -/
def State.quireSlot (s : State) (f : Nat) : Nat := Ent.PLC_QUIRE_UNITS.of (s.plc f) * 4096

/-- A cadence cycle of a folio, if it holds a bank. -/
def Fol.cyc (x : Fol) (n : Nat) : Option Cyc := x.cycs.find? (fun c => c.cycle == n)

/-- The run that a folio is executing. -/
def Fol.running (x : Fol) : Option Cyc := x.cycs.find? (fun c => c.executing)

/-- Whether a cycle is resolved: released or abandoned (R99). -/
def Cyc.resolved (c : Cyc) : Bool := decide (c.st = 3 ∨ c.st = 6)

/-- Change one cycle of a folio. -/
def State.modCyc (s : State) (f n : Nat) (g : Cyc → Cyc) : State :=
  s.modFolio f (fun x => { x with cycs := x.cycs.map (fun c => if c.cycle = n then g c else c) })

/-- CLS_F_STATE, the cadence number and E_MAX of the run in progress, and the counts of CLS_STATUS. A background folio shows its
batch in the older place and the batch being filled in the newer one (DEDUCED, log entry 24). -/
def State.clsShow (s : State) (f : Nat) : State :=
  let x := s.folio f
  let old := match x.cycs with
    | [] => 0
    | c :: _ => c.st
  let new := match x.cycs with
    | _ :: c :: _ => c.st
    | _ => if s.folioBg f && x.openUsed then 1 else 0
  let s := (s.wrI CLS_F_STATE_STATE_OLD f old).wrI CLS_F_STATE_STATE_NEW f new
  let s := match x.running with
    | some c => ((s.wrSatI CLS_F_STATE_RUN f c.run).wrI CLS_F_CYCLE f c.cycle).wrI CLS_F_EMAX f c.emax
    | none => if s.folioBg f then s.wrI CLS_F_EMAX f x.openEmax else s
  let count (p : Cyc → Bool) : Nat := s.fol.fols.foldl (fun n y => n + (y.2.cycs.filter p).length) 0
  (s.wrSat CLS_STATUS_SEALED (count (fun c => c.st == 2))).wrSat CLS_STATUS_SQUASHED (count (fun c => c.st == 4 || c.st == 5))

/-- CLS_LAST_SQUASH. -/
def State.clsLast (s : State) (f cause : Nat) : State :=
  ((s.wr CLS_LAST_SQUASH_FOLIO f).wr CLS_LAST_SQUASH_CAUSE cause).wr CLS_LAST_SQUASH_VALID 1

/-- A notice to a folio: cause, and the stream and epoch of a refutation. -/
def State.clsNotice (s : State) (f cause stream epoch : Nat) : State :=
  let s := ((s.wrI CLS_F_NOTICE_CAUSE f cause).wrI CLS_F_NOTICE_STREAM f stream).flagI CLS_F_NOTICE_PENDING f
  if cause = 1 then s.wrI CLS_F_NOTICE_EPOCH f epoch else s

/-- The body of a CLS_STALL or CLS_ABANDONED record (R325). -/
def clsBody (f : Nat) (c : Cyc) : List Byte := leBytes 8 f ++ leBytes 8 c.cycle ++ leBytes 8 c.emax

/-! ## Read sets (R90, R101) -/

/-- A load of a folio reported an epoch of a stream; `prov` where the slot read PROVISIONAL. The record is kept for every run, one
that is SQUASHED and still executing included (R101). -/
def State.loadReport (s : State) (f stream epoch : Nat) (prov : Bool) : State :=
  if s.folioBg f then
    (s.modFolio f (fun x => { x with openEmax := max x.openEmax epoch, openUsed := true })).clsShow f
  else match (s.folio f).running with
    | none => s
    | some c => (s.modCyc f c.cycle (fun c =>
        { c with emax := max c.emax epoch,
                 streams := if prov && !c.streams.contains stream then c.streams ++ [stream] else c.streams,
                 eminP := if prov then some (match c.eminP with
                   | some e => min e epoch
                   | none => epoch) else c.eminP })).clsShow f

/-! ## Squashes, re-runs and abandonment (R100, R103, R106, R109) -/

/-- RERUN_MAX; 0 acts as 1. -/
def State.rerunMax (s : State) : Nat := s.rdOr CLS_CTRL_RERUN_MAX 1

/-- Whether a cycle is older than the window that ends at the horizon (R109). -/
def State.tooOldCycle (s : State) (n : Nat) : Bool := decide (n + 63 < s.horizon)

/-- A cycle is abandoned (R109). -/
def State.abandonCycle (s : State) (f n : Nat) : State :=
  match (s.folio f).cyc n with
  | none => s
  | some c =>
    let s := s.modCyc f n (fun c => { c with st := 6, executing := false, entries := [], payload := [], quire := [], posted := [] })
    let s := s.txReturn f c.posted 2
    let s := (((s.bump CLS_ABANDONED).flag CLS_TROUBLE_ABANDONED).clsLast f 5).event 7 (clsBody f c)
    (s.clsNotice f 5 0 0).clsShow f

/-- A SQUASHED run has ended: its cycle opens for a re-run, or is abandoned (R100, R109). The cycle waits, still SQUASHED, while
its predecessor's re-run is not sealed (R106). -/
def State.runEnded (s : State) (f n : Nat) : State :=
  match (s.folio f).cyc n with
  | none => s
  | some c =>
    let s := s.txReturn f c.posted 2
    let s := s.modCyc f n (fun c => { c with executing := false, entries := [], payload := [], quire := [], posted := [] })
    if s.rerunMax ≤ c.run ∨ s.tooOldCycle n = true then s.abandonCycle f n
    else
      let wait := match (if n = 0 then none else (s.folio f).cyc (n - 1)) with
        | some p => decide (p.st = 4 ∨ p.st = 5 ∨ (p.st = 1 ∧ (1 < p.run ∨ p.executing = false)))
        | none => false
      if wait then s.clsShow f
      else
        (s.modCyc f n (fun c => { c with st := 1, run := c.run + 1, emax := 0, streams := [], eminP := none })).clsShow f

/-- The re-run of the following cycle is dispatched only now that cycle `n` is sealed or abandoned (R106). -/
def State.kickNext (s : State) (f n : Nat) : State :=
  match (s.folio f).cyc (n + 1) with
  | some c => if c.st = 4 ∧ c.executing = false then s.runEnded f (n + 1) else s
  | none => s

/-- Squash one cycle: causes 1 REFUTE, 2 STALL, 3 CASCADE (R100, R103, R106, R110). -/
def State.squashOne (s : State) (f n cause stream epoch : Nat) : State :=
  match (s.folio f).cyc n with
  | none => s
  | some c =>
    let s := s.txReturn f c.posted 2
    let s := s.modCyc f n (fun c => { c with st := 4, entries := [], payload := [], quire := [], posted := [] })
    let s := if cause = 2 then ((s.bump CLS_SQUASH_STALL).flag CLS_TROUBLE_STALL).event 6 (clsBody f c)
      else (s.bump (if cause = 1 then CLS_SQUASH_REFUTE else CLS_SQUASH_CASCADE)).flag CLS_TROUBLE_SQUASH
    (((s.bumpI CLS_F_STATE_SQUASHES f).clsLast f cause).clsNotice f cause stream epoch).clsShow f

/-- Whether a cycle of a folio is OPEN or SEALED. -/
def State.cycOpen (s : State) (f n : Nat) : Bool := (s.folio f).cycs.any (fun c => c.cycle == n && (c.st == 1 || c.st == 2))

/-- Squash cycles of one folio, given in cycle order, with one cause, and with cause CASCADE the cycle after each that is then still
OPEN or SEALED; runs that execute no more end (R100, R103, R106). -/
def State.squashAll (s : State) (f : Nat) (ns : List Nat) (cause stream epoch : Nat) : State :=
  let idle (s : State) (m : Nat) : Bool := (s.folio f).cycs.any (fun c => c.cycle == m && c.st == 4 && !c.executing)
  let ns := ns.filter (s.cycOpen f)
  let s := ns.foldl (fun s n => s.squashOne f n cause stream epoch) s
  let next := (ns.map (fun n => n + 1)).filter (s.cycOpen f)
  let s := next.foldl (fun s n => s.squashOne f n 3 0 0) s
  (ns ++ next).foldl (fun s n => if idle s n then s.runEnded f n else s) s

/-- Squash one cycle of a folio. -/
def State.squash (s : State) (f n cause stream epoch : Nat) : State := s.squashAll f [n] cause stream epoch

/-- The squash test (R103): the notice's stream is in STREAMS, and its epoch lies between E_MIN_P and E_MAX. -/
def Cyc.refuted (c : Cyc) (epoch stream : Nat) : Bool :=
  c.streams.contains stream && decide (epoch ≤ c.emax) && (match c.eminP with
    | some e => decide (e ≤ epoch)
    | none => false)

/-- A refute notice: every OPEN or SEALED run of every folio that the squash test matches is squashed with cause REFUTE (R103). -/
def State.clsRefute (s : State) (epoch stream : Nat) : State :=
  (List.range 32).foldl (fun s f =>
    s.squashAll f (((s.folio f).cycs.filter (fun c => c.refuted epoch stream)).map (fun c => c.cycle)) 1 stream epoch) s

/-- An epoch gets its verdict; a refute notice reaches the Clasp before the frontier passes it (R77, R78). -/
def State.giveVerdict (s : State) (p : SvEpoch) (cause : Nat) : State :=
  let s := s.svGive p cause
  if cause = 0 then s else s.clsRefute p.epoch p.stream

/-- Cycles that a squash or a loss left unresolved and that have fallen out of the window are abandoned (R109). -/
def State.abandonOld (s : State) : State :=
  (List.range 32).foldl (fun s f =>
    ((s.folio f).cycs.filter (fun c => !c.resolved && !c.executing && (c.st == 4 || c.st == 5 || c.st == 1) &&
      s.tooOldCycle c.cycle)).foldl (fun s c => (s.abandonCycle f c.cycle).kickNext f c.cycle) s) s

/-- A sealed run 50 µs after its SEAL, E_MAX still above F, is squashed with cause STALL (R110). -/
def State.stall (s : State) (f : Nat) : State :=
  if s.folioBg f then s
  else
    let stale (s : State) (c : Cyc) : Bool :=
      c.st == 2 && decide (c.sealedAt + 50000 ≤ s.now) && decide (s.rd CLS_FRONTIER < c.emax)
    ((s.folio f).cycs.filter (stale s)).foldl (fun s c =>
      if ((s.folio f).cyc c.cycle).any (stale s) then s.squash f c.cycle 2 0 0 else s) s

/-! ## SEAL (R112-R114, R117) -/

/-- The transmit descriptors that a TX entry names, by index. -/
def State.txNamed (s : State) (f e : Nat) : List Nat :=
  let size := 2 ^ s.rdI FOL_F_RING_CFG_TX_LOG2 f
  (List.range (Ent.STG_LENGTH.of e)).map (fun i =>
    if Ent.STG_TARGET.of e < size then (Ent.STG_TARGET.of e + i) % size else Ent.STG_TARGET.of e + i)

/-- Whether a staged entry passes the check at SEAL (R113). -/
def State.stageOk (s : State) (f : Nat) (posted : List Nat) (e : Nat) : Bool :=
  let a := Ent.STG_ASSERT.of e
  let r := Ent.STG_RELEASE.of e
  match Ent.STG_KIND.of e with
  | 0 => true
  | 1 => !bitsBeyond a (Ent.PLC_DT_MASK.of (s.plc f)) && !bitsBeyond r (Ent.PLC_DT_MASK.of (s.plc f)) &&
    (List.range 8).all (fun i => !(bitAt a i && bitAt r i))
  | 2 =>
    let p := s.useEnt 0xE01 (Ent.STG_TARGET.of e)
    decide (Ent.STG_TARGET.of e < 256) && decide (Ent.PUB_OWNER.of p = 1) && decide (Ent.PUB_FOLIO.of p = f) &&
    decide (0x4000 + Ent.STG_PAYLOAD_OFF.of e + Ent.STG_LENGTH.of e ≤ 0x10000)
  | 3 => decide (Ent.STG_TARGET.of e ≤ 1023)
  | 4 => true
  | 5 => (s.txNamed f e).all (fun i => posted.contains i)
  | _ => false

/-- The entries that pass, the others counted and reported. -/
def State.stageCheck (s : State) (f : Nat) (posted entries : List Nat) : List Nat × State :=
  let bad := entries.filter (fun e => !s.stageOk f posted e)
  (entries.filter (fun e => s.stageOk f posted e),
   if bad.isEmpty then s else (s.bumpBy CLS_STAGE_ERR bad.length).flag CLS_TROUBLE_STAGE_ERR)

/-- How a SEAL or an ABANDON ended: ignored; a cadence-bound run of the given cycle ended; a batch closed. -/
inductive SealEnd where
  | ignored | run (n : Nat) | batch
  deriving DecidableEq, Repr

/-- A folio writes SEAL with its staged entries, its payload area and its quire contribution (operands, log entry 20). -/
def State.clsSeal (s : State) (f : Nat) (entries : List Nat) (payload quire : List Byte) : SealEnd × State :=
  let err := s.flag CLS_TROUBLE_SEAL_ERR
  let x := s.folio f
  if 256 < entries.length ∨ s.quireSlot f < quire.length then (.ignored, err)
  else if s.folioBg f then
    if x.cycs.any (fun c => c.st == 2) then (.ignored, err)
    else
      let (ok, s) := s.stageCheck f [] entries
      let c : Cyc := { cycle := 0, st := 2, run := 0, emax := x.openEmax, entries := ok, payload := payload, quire := quire, sealedAt := s.now }
      (.batch, (s.modFolio f (fun x => { x with cycs := [c], openEmax := 0, openUsed := false })).clsShow f)
  else match x.running with
    | none => (.ignored, err)
    | some c =>
      if c.st = 1 then
        let (ok, s) := s.stageCheck f c.posted entries
        let s := s.modCyc f c.cycle (fun c =>
          { c with st := 2, executing := false, entries := ok, payload := payload, quire := quire, sealedAt := s.now })
        (.run c.cycle, (s.clsShow f).kickNext f c.cycle)
      else (.run c.cycle, ((s.modCyc f c.cycle (fun c => { c with executing := false })).runEnded f c.cycle).kickNext f c.cycle)

/-- A folio writes ABANDON: it ends a SQUASHED run; ignored in any other state (R100). -/
def State.clsAbandon (s : State) (f : Nat) : SealEnd × State :=
  match (s.folio f).running with
  | none => (.ignored, s)
  | some c =>
    if c.st = 4 then
      (.run c.cycle, ((s.modCyc f c.cycle (fun c => { c with executing := false })).runEnded f c.cycle).kickNext f c.cycle)
    else (.ignored, s)

/-! ## Release and emission (R104, R107, R115, R117) -/

/-- The oldest cycle or batch of a folio that can be released now (R104, R117). -/
def State.releasable (s : State) (f : Nat) : Option Cyc :=
  match (s.folio f).cycs.find? (fun c => !c.resolved) with
  | some c => if c.st = 2 ∧ c.emax ≤ s.rd CLS_FRONTIER then some c else none
  | none => none

/-- The outputs of a released cycle leave, kind by kind and in entry order (R115). A transmit descriptor that two TX entries name is
sent by the first naming alone, since a descriptor with OWN = 0 is not processed (DESIGN CHOICE, log entry 46). -/
def State.emit (s : State) (f : Nat) (c : Cyc) (n : Nat) : State :=
  let kind (k : Nat) : List Nat := c.entries.filter (fun e => Ent.STG_KIND.of e == k)
  let s := (kind 1).foldl (fun s e =>
    let v := Ent.STG_VALUE.of e
    (s.dtAssert f (Ent.STG_ASSERT.of e) (if v = 0 then none else some (s.now + v * 1000))).dtRelease f (Ent.STG_RELEASE.of e)) s
  let s := (kind 2).foldl (fun s e =>
    let area := c.payload ++ List.replicate 0xC000 0#8
    s.pubFolio (Ent.STG_TARGET.of e) (slice area (Ent.STG_PAYLOAD_OFF.of e) (Ent.STG_LENGTH.of e))) s
  let s := (kind 3).foldl (fun s e =>
    s.ctlArrive { src := 0, folio := f, obj := Ent.STG_TARGET.of e, code := Ent.STG_ASSERT.of e, tag := Ent.STG_VALUE.of e }) s
  let s := (kind 5).foldl (fun s e => (s.txNamed f e).foldl (fun s i => s.txSend f i true) s) s
  (kind 4).foldl (fun s e => s.eventFolio (Ent.STG_TARGET.of e % 65536) f n (leBytes 48 (Ent.STG_BODY.of e))) s

/-- A cycle or batch is released: its contribution becomes the checkpoint, and its outputs leave or are discarded (R104, R107,
R114, R115, R117). A batch's events carry the cycle in progress (DEDUCED, log entry 24). -/
def State.release (s : State) (f : Nat) (c : Cyc) : State :=
  let bg := s.folioBg f
  let n := if bg then s.cycle else c.cycle
  let s := s.modFolio f (fun x =>
    let x : Fol := { x with cycs := x.cycs.map (fun d => if d.cycle = c.cycle then { d with st := 3, entries := [], payload := [], posted := [] } else d) }
    if bg && c.quire.isEmpty then x else { x with ckpt := c.quire, ckptCycle := n, ckptValid := true })
  let s := s.bump CLS_RELEASED
  let s := if bg then s else s.wrI CLS_F_RELEASED f c.cycle
  let s := if s.emits then s.emit f c n else (s.bump CLS_EMIT_DISCARD).flag CLS_TROUBLE_EMIT_DISCARD
  (s.txReturn f c.posted 1).clsShow f

/-- The release decision for the lowest folio that has one (R104). -/
def State.releaseNext (s : State) : Option State :=
  (List.range 32).findSome? (fun f => (s.releasable f).map (fun c => s.release f c))

/-- Every release decision of the present fabric cycle (R118). -/
def State.releaseAll : Nat → State → State
  | 0, s => s
  | n + 1, s => match s.releaseNext with
    | some t => releaseAll n t
    | none => s

/-- The frontier reaches the Clasp. -/
def State.clsFrontier (s : State) : State := s.wr CLS_FRONTIER (s.rd SVI_FRONTIER)

/-! ## Losing a pair, resets, restarts (R111, R176, R311) -/

/-- The runs of a folio on a failed pair are LOST; the number of them (R111). A background folio loses its unsealed batch
(R182). -/
def State.loseRuns (s : State) (f : Nat) : Nat × State :=
  if s.folioBg f then (0, (s.modFolio f (fun x => { x with openEmax := 0, openUsed := false })).clsShow f)
  else
    let hit (c : Cyc) : Bool := c.st == 2 || (c.executing && (c.st == 1 || c.st == 4))
    let lost := (s.folio f).cycs.filter hit
    let s := s.modFolio f (fun x => { x with cycs := x.cycs.map (fun c => if hit c then
      { c with st := 5, lostSquashed := c.st == 4, executing := false, entries := [], payload := [], quire := [], posted := [] } else c) })
    let s := lost.foldl (fun s c => s.txReturn f c.posted 2) s
    (lost.length, if lost.isEmpty then s.clsShow f
      else (((s.bumpBy CLS_LOST lost.length).flag CLS_TROUBLE_LOST).clsLast f 4).clsShow f)

/-- The lost cycles of a folio open again, in cycle order, or are abandoned (R100, R111). -/
def State.reopenLost (s : State) (f : Nat) : State :=
  ((s.folio f).cycs.filter (fun c => c.st == 5)).foldl (fun s c =>
    if (c.lostSquashed ∧ s.rerunMax ≤ c.run) ∨ s.tooOldCycle c.cycle = true then (s.abandonCycle f c.cycle).kickNext f c.cycle
    else (s.modCyc f c.cycle (fun c => { c with st := 1, run := if c.lostSquashed then c.run + 1 else c.run, lostSquashed := false,
                                                emax := 0, streams := [], eminP := none })).clsShow f) s

/-- A folio is reset or halted: its unresolved cycles go without notice; a sealed batch stays ("A folio is reset or halted"). -/
def State.clsDiscard (s : State) (f : Nat) : State :=
  let x := s.folio f
  let s := if s.folioBg f then s.modFolio f (fun x => { x with openEmax := 0, openUsed := false })
    else
      let gone := x.cycs.filter (fun c => !c.resolved)
      let s := s.modFolio f (fun x => { x with cycs := x.cycs.filter (fun c => c.resolved) })
      gone.foldl (fun s c => s.txReturn f c.posted 3) s
  (s.dtFolioReset f).clsShow f

/-- The cadence restarts: every unresolved cycle of a cadence-bound folio is abandoned (R311). -/
def State.clsRestart (s : State) : State :=
  (List.range 32).foldl (fun s f => if s.folioBg f then s
    else ((s.folio f).cycs.filter (fun c => !c.resolved)).foldl (fun s c => s.abandonCycle f c.cycle) s) s

/-! ## Dispatch (R99, R100, R107) -/

/-- Whether the Clasp permits the dispatch of a cycle that is not a re-run: enabled, cycle N - 2 resolved (R99). -/
def State.clsMay (s : State) (f n : Nat) : Bool :=
  s.on CLS_CTRL_ENABLE && ((s.folio f).cyc n).isNone &&
  (s.folio f).cycs.all (fun c => c.resolved || decide (n ≤ c.cycle + 1)) &&
  decide (((s.folio f).cycs.filter (fun c => !c.resolved)).length < 2)

/-- Insert a cycle in cycle order. -/
def insertCyc : List Cyc → Cyc → List Cyc
  | [], c => [c]
  | d :: ds, c => if c.cycle < d.cycle then c :: d :: ds else d :: insertCyc ds c

/-- A cycle is dispatched: a new run 1, or the re-run of an open cycle. Older resolved cycles give back their banks. -/
def State.openRun (s : State) (f n : Nat) : State :=
  let s := s.modFolio f (fun x => match x.cyc n with
    | some _ => { x with cycs := x.cycs.map (fun c => if c.cycle = n then { c with executing := true } else c) }
    | none => { x with cycs := insertCyc (x.cycs.filter (fun c => !(c.resolved && decide (c.cycle + 2 ≤ n)))) { cycle := n, executing := true } })
  s.clsShow f

/-- The predecessor window of a cycle: the contribution of the latest sealed or released cycle before it, else the
checkpoint (R107). -/
def State.predecessor (s : State) (f n : Nat) : List Byte :=
  let x := s.folio f
  match (x.cycs.filter (fun c => decide (c.cycle < n) && (c.st == 2 || c.st == 3))).getLast? with
  | some c => c.quire
  | none => x.ckpt

/-! ## Quires (R118, R119) -/

/-- The contributions of quire `n`: folio, SRC_CYCLE and content. -/
def State.contributions (s : State) : List (Nat × Nat × List Byte) :=
  ((List.range 32).filter (fun f => s.folioOn f && decide (s.quireSlot f ≠ 0))).map (fun f =>
    let x := s.folio f
    if x.ckptValid then (f, x.ckptCycle, x.ckpt) else (f, 0, []))

/-- A length padded to a multiple of 64 bytes. -/
def pad64 (n : Nat) : Nat := (n + 63) / 64 * 64

/-- Quire `n` is formed at the boundary that ends cycle `n`: the Clasp's registers, and QUIRE_STALE for a
contribution of an earlier cycle (R119). -/
def State.formQuire (s : State) (n : Nat) : State :=
  let cs := s.contributions
  let s := (s.wr CLS_QUIRE_CYCLE n).wr CLS_QUIRE_LEN (cs.foldl (fun t c => t + pad64 c.2.2.length) 45056)
  s.flagIf (cs.any (fun c => !s.folioBg c.1 && decide (c.2.1 < n) && !c.2.2.isEmpty)) CLS_TROUBLE_QUIRE_STALE

end Sys2Proof.Machine
end

