-- ==== Sys2Proof/Machine/FolOps.lean ====
section
/-! DEFINITION. Folios and core pairs: readiness, dispatch, faults, resets, substitution and migration (chapter "Folios and
core pairs", R148-R185). -/

namespace Sys2Proof.Machine

open Sys2Proof Reg

/-! ## Registers -/

/-- State code of a folio: 0 DISABLED, 1 WAITING, 2 READY, 3 RUNNING, 4 PREEMPTED, 5 RESETTING, 6 HALTED, 7 MOVING (R165). -/
def State.folSt (s : State) (f : Nat) : Nat := s.rdI FOL_F_STATUS_STATE f

/-- Set the state of a folio. -/
def State.setFolSt (s : State) (f v : Nat) : State := s.wrI FOL_F_STATUS_STATE f v

/-- The pair that hosts a folio; 15 for none. -/
def State.folPair (s : State) (f : Nat) : Nat := s.rdI FOL_F_STATUS_PAIR f

/-- State code of a pair: 0 ACTIVE, 1 SPARE, 2 RETIRED, 3 TESTING, 4 MIGRATING, 5 UNUSED. -/
def State.pairSt (s : State) (p : Nat) : Nat := s.rdI FOL_P_STATE p

/-- The folios on a pair. -/
def State.pairFolios (s : State) (p : Nat) : List Nat :=
  (List.range 32).filter (fun f => decide (s.folSt f ≠ 0) && decide (s.folPair f = p))

/-- A list of folio numbers as a mask. -/
def folMask (fs : List Nat) : Nat := fs.foldl (fun n f => n + 2 ^ f) 0

/-- The lowest-numbered pair that is SPARE. -/
def State.nextSpare (s : State) : Option Nat := (List.range 12).find? (fun p => s.pairSt p == 1)

/-- Spares available, as a count. -/
def State.sparesLeft (s : State) : Nat := ((List.range 12).filter (fun p => s.pairSt p == 1)).length

/-! ## Readiness (R161) -/

/-- Whether the commit of a tip-in withholds the dispatch of a cycle: armed or reverting with a target below it (R60). -/
def State.tipHold (s : State) (n : Nat) : Bool :=
  (decide (s.rd BND_TIP_STATUS_STATE = 3) || decide (s.rd BND_TIP_STATUS_STATE = 5)) &&
  decide (((s.bnd.tip.map (fun t => t.target)).getD n) < n)

/-- Whether cadence-bound folios are dispatched in the present role (R363). -/
def State.cadenceRole (s : State) : Bool := s.isActive || s.isPromoting

/-- The cadence-bound run that a folio would take next: whether it is a re-run, and its cycle (R106, R161, R162). -/
def State.nextRun (s : State) (f : Nat) : Option (Bool × Nat) :=
  let x := s.folio f
  if !s.cadenceRole || s.folioBg f || !(decide (s.folSt f = 1) || decide (s.folSt f = 2)) || x.running.isSome then none
  else match x.cycs.find? (fun c => c.st == 1) with
    | some c => if s.tipHold c.cycle || !s.on CLS_CTRL_ENABLE then none else some (true, c.cycle)
    | none =>
      match x.ready with
      | n :: _ => if s.tipHold n || !s.clsMay f n then none else some (false, n)
      | [] => none

/-- A readiness event of a folio for a cycle (R161): counted only while dispatch is enabled and the folio is neither halted nor
being reset (R176). -/
def State.readyEvent (s : State) (f n : Nat) : State :=
  let x := s.folio f
  if x.evented.contains n then s
  else
    let takes := s.on FOL_CTRL_ENABLE && s.on CLS_CTRL_ENABLE && s.loaded &&
      !(decide (s.folSt f = 0 ∨ s.folSt f = 5 ∨ s.folSt f = 6))
    let rdy := if takes then insertSorted x.ready n else x.ready
    s.setFolio f { x with evented := (n :: x.evented).filter (fun m => decide (n < m + 100)), ready := rdy }
where
  insertSorted : List Nat → Nat → List Nat
    | [], n => [n]
    | m :: l, n => if n ≤ m then n :: m :: l else m :: insertSorted l n

/-- Cadence-bound folios that exist. -/
def State.cadenceFolios (s : State) : List Nat := (List.range 32).filter (fun f => s.folioOn f && !s.folioBg f)

/-- The trigger slots of a stream that have left their state make the folios that wait for them ready (R161). -/
def State.folTriggers (s : State) : State :=
  s.cadenceFolios.foldl (fun s f =>
    let i := Ent.PLC_TRIG_STREAM.of (s.plc f)
    if i = 0x1FF then s
    else
      let sc := Ent.CTX_SETS_PER_CYCLE.of (s.ctx i)
      ((s.stream i).ring.filter (fun r => r.1 % 16 + 1 == sc && (Ent.PLC_PROV.on (s.plc f) || r.2.st != 1))).foldl
        (fun s r => s.readyEvent f r.2.cycle) s) s

/-- DEADLINE_US in ns; 0 selects the cadence offset less the budget, floored at 0 (R157). -/
def State.deadlineNs (s : State) (f : Nat) : Nat :=
  let d := Ent.PLC_DEADLINE_US.of (s.plc f)
  1000 * (if d = 0 then s.rd TIM_CADENCE_OFS_OFFSET_US - Ent.PLC_BUDGET_US.of (s.plc f) else d)

/-- The dispatch deadline of a folio has passed for the latest cycle that it has (R161). -/
def State.deadline (s : State) (f : Nat) : State :=
  if s.loaded && s.folioOn f && !s.folioBg f && decide (s.cycleAt (s.tai - s.deadlineNs f) ≠ 0) then
    s.readyEvent f (s.cycleAt (s.tai - s.deadlineNs f) - 1)
  else s

/-- Cycles that a step of the time base skips are never dispatched (R310). -/
def State.folSkip (s : State) (lo hi : Nat) : State :=
  s.cadenceFolios.foldl (fun s f => s.modFolio f (fun x =>
    { x with ready := x.ready.filter (fun n => decide (n < lo) || decide (hi < n)),
             evented := (List.range (hi + 1 - lo)).map (fun k => lo + k) ++ x.evented })) s

/-- FOL_P_CURRENT of a pair. -/
def State.setCurrent (s : State) (p f mode : Nat) : State := (s.wrI FOL_P_CURRENT_FOLIO p f).wrI FOL_P_CURRENT_MODE p mode

/-- A folio stops running on its pair. -/
def State.stopRun (s : State) (f : Nat) : State :=
  let p := s.folPair f
  if p < 12 ∧ s.rdI FOL_P_CURRENT_MODE p ≠ 0 ∧ s.rdI FOL_P_CURRENT_FOLIO p = f then s.setCurrent p 0 0 else s

/-- A cadence restart: readiness is counted afresh, and a folio whose run was abandoned leaves its pair (R109, R311). -/
def State.folRestart (s : State) : State :=
  s.cadenceFolios.foldl (fun s f =>
    let s := s.modFolio f (fun x => { x with ready := [], evented := [] })
    if s.folSt f = 3 then (s.stopRun f).setFolSt f 1 else s) s

/-! ## Shown state -/

/-- WAITING and READY follow from what the folio could run next (R161, R165). -/
def State.showReady (s : State) (f : Nat) : State :=
  if s.folSt f = 1 ∨ s.folSt f = 2 then
    s.setFolSt f (if s.folioBg f then s.folSt f else if (s.nextRun f).isSome then 2 else 1)
  else s

/-- The registers of FOL that follow from the state. -/
def State.folRefresh (s : State) : State :=
  let s := (List.range 32).foldl State.showReady s
  let s := (List.range 12).foldl (fun s p =>
    let fs := s.pairFolios p
    let pend := fs.find? (fun f => s.onI CLS_F_NOTICE_PENDING f)
    let s := s.wrI FOL_P_FOLIOS p (folMask fs)
    (s.wrBI FOL_P_CURRENT_PEND p pend.isSome).wrI FOL_P_CURRENT_PEND_FOLIO p (pend.getD 0)) s
  let s := s.wr FOL_SPARES_AVAILABLE (folMask ((List.range 12).filter (fun p => s.pairSt p == 1)))
  let s := s.wrB FOL_STATUS_RUNNING (s.loaded && s.on FOL_CTRL_ENABLE)
  let s := s.wrB FOL_STATUS_SUBSTITUTING (!s.fol.subs.isEmpty || s.fol.mig.isSome)
  let s := s.wr FOL_STATUS_PAIRS_ACTIVE ((List.range 12).filter (fun p => !(s.pairFolios p).isEmpty)).length
  let s := s.wr FOL_STATUS_SPARES_LEFT s.sparesLeft
  s.wr FOL_STATUS_HALTED ((List.range 32).filter (fun f => s.folSt f == 6)).length

/-! ## Dispatch (R162-R164) -/

/-- The earlier of two cadence-bound choices: re-runs by cycle, then by PRIORITY and folio number (R162). -/
def runBefore (s : State) (a b : Nat × Bool × Nat) : Bool :=
  let pa := Ent.PLC_PRIORITY.of (s.plc a.1)
  let pb := Ent.PLC_PRIORITY.of (s.plc b.1)
  let tail := decide (pa < pb) || (decide (pa = pb) && decide (a.1 < b.1))
  match a.2.1, b.2.1 with
  | true, false => true
  | false, true => false
  | true, true => decide (a.2.2 < b.2.2) || (decide (a.2.2 = b.2.2) && tail)
  | false, false => tail

/-- The best of a list. -/
def bestOf {α : Type} (before : α → α → Bool) : List α → Option α
  | [] => none
  | a :: l => match bestOf before l with
    | some b => some (if before a b then a else b)
    | none => some a

/-- The cadence-bound run that a pair takes next: folio, re-run, cycle. -/
def State.pairRun (s : State) (p : Nat) : Option (Nat × Bool × Nat) :=
  bestOf (runBefore s) ((s.pairFolios p).filterMap (fun f => (s.nextRun f).map (fun r => (f, r))))

/-- The background folio that a pair takes next (R162). -/
def State.pairBg (s : State) (p : Nat) : Option Nat :=
  bestOf (fun a b =>
    let pa := Ent.PLC_PRIORITY.of (s.plc a)
    let pb := Ent.PLC_PRIORITY.of (s.plc b)
    decide (pa < pb) || (decide (pa = pb) && (decide ((s.folio a).turn < (s.folio b).turn) ||
      (decide ((s.folio a).turn = (s.folio b).turn) && decide (a < b)))))
    ((s.pairFolios p).filter (fun f => s.folioBg f && (s.folSt f == 1 || s.folSt f == 2 || s.folSt f == 4)))

/-- An interrupt at the kernel of a folio's pair: for a dispatch (R163, R165), or to reinitialise the guest context (R176). -/
def State.kernelIrq (s : State) (f : Nat) (dispatch : Bool) : State :=
  if s.folPair f < 12 then s.onFol (fun e => { e with irqs := e.irqs ++ [(s.folPair f, f, dispatch)] }) else s

/-- A pair chooses its next run and dispatches it: FOL_P_CURRENT names the folio, and the kernel is interrupted (R162, R163, R165). -/
def State.dispatch (s : State) (p : Nat) : State :=
  let mode := s.rdI FOL_P_CURRENT_MODE p
  if s.pairSt p ≠ 0 ∨ s.on FOL_CTRL_ENABLE = false ∨ s.loaded = false ∨ mode = 1 then s
  else match s.pairRun p with
    | some (f, _, n) =>
      let s := if mode = 2 then s.setFolSt (s.rdI FOL_P_CURRENT_FOLIO p) 4 else s
      let s := (s.setCurrent p f 1).setFolSt f 3
      let s := s.modFolio f (fun x => { x with ready := x.ready.filter (fun m => decide (m ≠ n)), dispatchAt := s.now, runningSince := s.now,
                                               rxFaulted := false, txFaulted := false })
      ((s.openRun f n).kernelIrq f true).folRefresh
    | none =>
      if mode = 2 then s
      else match s.pairBg p with
        | none => s
        | some f =>
          let fresh := decide (s.folSt f ≠ 4)
          let s := (s.setCurrent p f 2).setFolSt f 3
          let s := s.modFolio f (fun x => { x with runningSince := s.now, rxFaulted := x.rxFaulted && !fresh,
                                                   txFaulted := x.txFaulted && !fresh })
          (s.kernelIrq f true).folRefresh

/-- A background folio takes its place behind its equals (R162). -/
def State.newTurn (s : State) (f : Nat) : State :=
  let t := s.fol.nextTurn
  (s.modFolio f (fun x => { x with turn := t })).onFol (fun e => { e with nextTurn := t + 1 })

/-- A folio has ended its run, its batch or its turn: it waits, and its pair is free (R165). -/
def State.runOver (s : State) (f : Nat) : State := ((s.stopRun f).setFolSt f 1).folRefresh

/-- LAST_RUN_US of a run that ended in time (R164). -/
def State.lastRun (s : State) (f : Nat) : State :=
  s.wrSatI FOL_F_BUDGET_LAST_RUN_US f ((s.now - (s.folio f).dispatchAt) / 1000)

/-- What a SEAL or an ABANDON means for the pair (R164, R165). -/
def State.folSealEnd (s : State) (f : Nat) : SealEnd → State
  | .ignored => s
  | .run _ => (s.lastRun f).runOver f
  | .batch => if s.folSt f = 3 then (s.newTurn f).runOver f else s

/-- A background folio yields its pair (R162). -/
def State.yieldPair (s : State) (f : Nat) : State :=
  if s.folioBg f ∧ s.folSt f = 3 then (s.newTurn f).runOver f else s

/-- After 1 ms of continuous running, a background folio gives way to a folio of equal PRIORITY (R162). -/
def State.timeslice (s : State) (p : Nat) : State :=
  let f := s.rdI FOL_P_CURRENT_FOLIO p
  let peer := (s.pairFolios p).any (fun g => decide (g ≠ f) && s.folioBg g && decide (Ent.PLC_PRIORITY.of (s.plc g) = Ent.PLC_PRIORITY.of (s.plc f)) &&
    (s.folSt g == 1 || s.folSt g == 2 || s.folSt g == 4))
  if s.rdI FOL_P_CURRENT_MODE p = 2 ∧ (s.folio f).runningSince + 1000000 ≤ s.now ∧ peer = true then
    (((s.newTurn f).stopRun f).setFolSt f 4).folRefresh
  else s

/-! ## Resets, halts and faults (R174-R177) -/

/-- The watchdog reloads at each reset or move of folio 0 (R450). -/
def State.wdogReload (s : State) : State :=
  match s.sys.wdogEnd with
  | none => s
  | some _ => (s.onSys (fun e => { e with wdogEnd := some (s.now + s.rd SYS_WDOG_CFG_PERIOD_MS * 1000000) })).wr SYS_WDOG_STATUS_LEFT_MS
      (s.rd SYS_WDOG_CFG_PERIOD_MS)

/-- A folio stops and loses what is unresolved (R176). -/
def State.folClear (s : State) (f : Nat) : State :=
  ((s.stopRun f).clsDiscard f).modFolio f (fun x => { x with ready := [] })

/-- The resets of a folio within the last second. -/
def State.recentResets (s : State) (f : Nat) : List Nat := (s.folio f).resets.filter (fun t => decide (s.now < t + 1000000000))

/-- Whether a reset would be the RESET_MAXth within the last second (R177). -/
def State.resetLimit (s : State) (f : Nat) : Bool :=
  let m := Ent.PLC_RESET_MAX.of (s.plc f)
  decide (m ≠ 0) && decide (m ≤ (s.recentResets f).length + 1)

/-- A folio is reset (R176). -/
def State.folReset (s : State) (f : Nat) : State :=
  let s := s.folClear f
  let s := s.modFolio f (fun x => { x with resets := s.now :: s.recentResets f })
  let s := (((s.bump FOL_RESETS).bumpI FOL_F_COUNT_RESETS f).setFolSt f 5).kernelIrq f false
  (if f = 0 then s.wdogReload else s).folRefresh

/-- A folio halts, with its HALT_CAUSE: 1 host, 2 fault action, 3 reset limit, 4 NO_PLACEMENT (R177). -/
def State.folHalt (s : State) (f cause : Nat) : State :=
  ((((s.folClear f).setFolSt f 6).wrI FOL_F_STATUS_HALT_CAUSE f cause).flag FOL_TROUBLE_FOLIO_HALT).folRefresh

/-- A reset that the limit of R177 may turn into a halt. -/
def State.folResetOrHalt (s : State) (f : Nat) : State := if s.resetLimit f then s.folHalt f 3 else s.folReset f

/-- A lockstep mismatch of a pair waits among the commands of this fabric cycle: commands take no time, so what waits belongs to
the same cycle (DEDUCED, log entry 47). -/
def State.mismatchDue (s : State) (p : Nat) : Bool :=
  s.pending.any (fun c => match c with
    | .lockstepMismatch q => decide (q.val = p)
    | _ => false)

/-- A folio fault: the record, the registers and the action (R174, R175). With a mismatch of the folio's pair in the same fabric cycle
it is no fault (R178). -/
def State.folFault (s : State) (f cause addr epc : Nat) : State :=
  if s.folSt f = 0 ∨ s.folSt f = 6 ∨ s.folSt f = 7 ∨ s.mismatchDue (s.folPair f) = true then s
  else
    let run := match (s.folio f).running with
      | some c => (min c.run 15, c.cycle)
      | none => (0, 0)
    let action := if Ent.PLC_FAULT_ACTION.on (s.plc f) then 1 else if s.resetLimit f then 2 else 0
    let s := s.svcPush 0 (fun n => Ent.FLTREC_SEQ.mk' n + Ent.FLTREC_FOLIO.mk' f + Ent.FLTREC_PAIR.mk' (s.folPair f) + Ent.FLTREC_CAUSE.mk' cause +
      Ent.FLTREC_RUN.mk' run.1 + Ent.FLTREC_ACTION.mk' action + Ent.FLTREC_TAI.mk' s.taiNs + Ent.FLTREC_MONO.mk' s.now +
      Ent.FLTREC_CYCLE.mk' run.2 + Ent.FLTREC_ADDR.mk' addr + Ent.FLTREC_EPC.mk' epc)
    let s := ((((s.wrI FOL_F_FAULT_CAUSE f cause).wrI FOL_F_FAULT_RUN f run.1).wrI FOL_F_FAULT_ACTION f action).flagI FOL_F_FAULT_VALID f).wrI
      FOL_F_FAULT_ADDR f addr
    let s := ((s.bump FOL_FAULTS).bumpI FOL_F_COUNT_FAULTS f).flag FOL_TROUBLE_FOLIO_FAULT
    let s := s.flagIf (decide (cause = 4)) FOL_TROUBLE_BUDGET
    if action = 0 then s.folReset f else s.folHalt f (if action = 1 then 2 else 3)

/-- A folio fault of an access whose guest program counter the command does not carry: EPC is the core's, a free value (R175, log
entry 47). -/
def State.folFaultPc (s : State) (f cause addr : Nat) : State :=
  let r := s.fresh
  r.2.folFault f cause addr (r.1 % 2 ^ 64)

/-- RING faults raised by a command are taken at its end (R174). -/
def State.takeRingFaults (s : State) : State :=
  match s.fol.ringFaults with
  | [] => s
  | fs => fs.foldl (fun s r => s.folFaultPc r.1 6 r.2) (s.onFol (fun e => { e with ringFaults := [] }))

/-- A run reaches BUDGET_US (R164). -/
def State.budgetExpire (s : State) (f : Nat) : State :=
  match (s.folio f).running with
  | some _ =>
    if (s.folio f).dispatchAt + Ent.PLC_BUDGET_US.of (s.plc f) * 1000 ≤ s.now then s.folFault f 4 0 0 else s
  | none => s

/-- A host RESET (R176, R177); of a MOVING folio it waits. -/
def State.hostReset (s : State) (f : Nat) : State :=
  let st := s.folSt f
  if st = 0 ∨ st = 6 then s
  else if st = 7 then s.modFolio f (fun x => { x with deferred := max x.deferred 1 })
  else s.folResetOrHalt f

/-- A host HALT (R177); of a MOVING folio it waits. -/
def State.hostHalt (s : State) (f : Nat) : State :=
  let st := s.folSt f
  if st = 0 ∨ st = 6 then s
  else if st = 7 then s.modFolio f (fun x => { x with deferred := 2 })
  else s.folHalt f 1

/-- A write of FOL_F_CTRL.HALT by a host; a HALT of folio 0 that folio 0 writes is ignored (R177). -/
def State.haltCmd (s : State) (who : Agent) (f : Nat) : State := if isSup who && decide (f = 0) then s else s.hostHalt f

/-- The reset steps are complete (R176). -/
def State.resetDone (s : State) (f : Nat) : State := if s.folSt f = 5 then (s.setFolSt f 1).folRefresh else s

/-! ## Notices (R183) -/

/-- A notice on service ring 1, FOL_LAST_SUB, and for moves and lost placements the FOLIO_MOVE record (DEDUCED, log entry 25). -/
def State.folNotice (s : State) (kind from_ to_ folios lost tai at_ cycle : Nat) : State :=
  let mk (n : Nat) : Nat := Ent.MOVREC_SEQ.mk' n + Ent.MOVREC_KIND.mk' kind + Ent.MOVREC_FROM_PAIR.mk' from_ + Ent.MOVREC_TO_PAIR.mk' to_ +
    Ent.MOVREC_SPARES_LEFT.mk' s.sparesLeft + Ent.MOVREC_FOLIOS.mk' folios + Ent.MOVREC_TAI.mk' tai + Ent.MOVREC_CYCLE.mk' cycle +
    Ent.MOVREC_LOST_RUNS.mk' (satNat 8 lost) + Ent.MOVREC_DURATION.mk' (satNat 32 (s.now - at_))
  let rec_ := leBytes 64 (mk 0)
  let s := s.svcPush 1 mk
  let s := (((((s.wr FOL_LAST_SUB_KIND kind).wr FOL_LAST_SUB_FROM_PAIR from_).wr FOL_LAST_SUB_TO_PAIR to_).wrSat FOL_LAST_SUB_LOST_RUNS lost).wr
    FOL_LAST_SUB_VALID 1).wr FOL_LAST_SUB_FOLIOS folios
  if kind ≤ 4 then s.event 8 (slice rec_ 4 36) else s

/-- A notice about something that happens now. -/
def State.folNoticeNow (s : State) (kind pair folios : Nat) : State := s.folNotice kind pair 15 folios 0 s.taiNs s.now s.cycle

/-! ## Substitution and fallback (R178-R182) -/

/-- A folio is MOVING from now on. -/
def State.folMoving (s : State) (f : Nat) : State := (s.stopRun f).setFolSt f 7

/-- A move has ended: the folio waits, or stays halted where it was (R177); its lost cycles open again, and a host command that
waited is carried out. -/
def State.settle (s : State) (f : Nat) : State :=
  let s := s.setFolSt f (if s.rdI FOL_F_STATUS_HALT_CAUSE f ≠ 0 then 6 else 1)
  let s := s.reopenLost f
  let s := if f = 0 then s.wdogReload else s
  let d := (s.folio f).deferred
  let s := s.modFolio f (fun x => { x with deferred := 0 })
  if d = 1 then s.hostReset f else if d = 2 then s.hostHalt f else s

/-- Folios go to a pair, which is ACTIVE from then on; a fallback pair that is migrating goes on migrating. -/
def State.moveTo (s : State) (fs : List Nat) (p : Nat) (spare : Bool) : State :=
  fs.foldl (fun s f => (((s.wrI FOL_F_STATUS_PAIR f p).wrBI FOL_F_STATUS_ON_SPARE f spare).wrBI FOL_F_STATUS_ON_FALLBACK f (!spare)).settle f)
    (if s.pairSt p = 4 then s else s.wrI FOL_P_STATE p 0)

/-- The mask of a job as a list. -/
def maskFolios (m : Nat) : List Nat := (List.range 32).filter (fun f => bitAt m f)

/-- The fallback pair of a folio, where it can serve (R181). -/
def State.fallbackOf (s : State) (f from_ : Nat) : Option Nat :=
  let p := Ent.PLC_FALLBACK_PAIR.of (s.plc f)
  if p < 12 ∧ p ≠ from_ ∧ s.pairSt p ≠ 2 ∧ s.pairSt p ≠ 3 then some p else none

/-- Folios of a retired pair fall back, or halt without placement (R181). -/
def State.fallBack (s : State) (j : SubJob) : State :=
  let fs := maskFolios j.folios
  let stuck := fs.filter (fun f => (s.fallbackOf f j.from_).isNone)
  let s := (List.range 12).foldl (fun s p =>
    let g := fs.filter (fun f => s.fallbackOf f j.from_ == some p)
    if g.isEmpty then s
    else ((((s.moveTo g p false).bump FOL_MOVES).flag FOL_TROUBLE_FALLBACK).folNotice 3 j.from_ p (folMask g) j.lost j.tai j.at_ j.cycle)) s
  if stuck.isEmpty then s
  else
    let s := stuck.foldl (fun s f => ((((s.wrI FOL_F_STATUS_PAIR f 15).wrI FOL_F_STATUS_ON_SPARE f 0).wrI FOL_F_STATUS_ON_FALLBACK f 0).modFolio f (fun x => { x with deferred := 0 })).folHalt f 4) s
    (s.flag FOL_TROUBLE_NO_PLACEMENT).folNotice 4 j.from_ 15 (folMask stuck) j.lost j.tai j.at_ j.cycle

/-- The oldest substitution or fallback completes (R179, R181). -/
def State.subDone (s : State) : State :=
  match s.fol.subs with
  | [] => s
  | j :: rest =>
    let s := s.onFol (fun e => { e with subs := rest })
    (match j.to_ with
     | some p => (((s.moveTo (maskFolios j.folios) p true).bump FOL_MOVES).flag FOL_TROUBLE_SUBSTITUTED).folNotice 1 j.from_ p j.folios j.lost
                   j.tai j.at_ j.cycle
     | none => s.fallBack j).folRefresh

/-- A pair command ends. -/
def State.pairCmdEnd (s : State) (r : Nat) : State :=
  s.finish FOL_PAIR_CMD_STATUS_BUSY FOL_PAIR_CMD_STATUS_DONE FOL_PAIR_CMD_STATUS_RESULT r

/-- A spare is taken for a substitution: it leaves AVAILABLE at once. -/
def State.takeSpare (s : State) : Option Nat × State :=
  match s.nextSpare with
  | some p => (some p, s.wrI FOL_P_STATE p 0)
  | none => (none, s)

/-- A lockstep mismatch: the pair is retired and fenced, its runs are LOST and its folios move (R178, R179, R184). -/
def State.mismatch (s : State) (p : Nat) : State :=
  if s.pairSt p = 2 ∨ s.pairSt p = 3 ∨ 12 ≤ p then s
  else
    let fs := s.pairFolios p
    let s := ((s.bump FOL_MISMATCHES).flag FOL_TROUBLE_MISMATCH).wrI FOL_P_STATE p 2
    let s := match s.fol.mig with
      | some m => if m.from_ = p then (s.onFol (fun e => { e with mig := none })).pairCmdEnd 2 else s
      | none => s
    let again := s.fol.subs.filter (fun j => j.to_ == some p)
    let s := again.foldl (fun s j =>
      let (t, s) := s.takeSpare
      s.onFol (fun e => { e with subs := e.subs.map (fun k => if k.from_ = j.from_ then { k with to_ := t } else k) })) s
    if fs.isEmpty then s.folRefresh
    else
      let (lost, s) := fs.foldl (fun (a : Nat × State) f =>
        let (n, t) := (a.2.folMoving f).loseRuns f
        (a.1 + n, t)) (0, s)
      let (t, s) := s.takeSpare
      let j : SubJob := { from_ := p, to_ := t, folios := folMask fs, lost := lost, tai := s.taiNs, at_ := s.now, cycle := s.cycle }
      (s.onFol (fun e => { e with subs := e.subs ++ [j] })).folRefresh

/-- A pair command is refused, or ends at once (R485). -/
def State.pairAnswer (s : State) (r : Nat) : State := s.answer FOL_PAIR_CMD_STATUS_DONE FOL_PAIR_CMD_STATUS_RESULT r

/-- A host RESUME resets a halted folio, and places it first if it has no pair (R177, R181). Where no spare is left it is refused with
result NO_PAIR, which FOL_PAIR_CMD_STATUS alone can show (DEDUCED, log entry 25). -/
def State.hostResume (s : State) (f : Nat) : State :=
  if s.folSt f ≠ 6 then s
  else
    let go (s : State) : State := (s.wrI FOL_F_STATUS_HALT_CAUSE f 0).folReset f
    if s.folPair f ≠ 15 then go s
    else match s.takeSpare with
      | (some p, s) => go (((s.wrI FOL_F_STATUS_PAIR f p).wrI FOL_F_STATUS_ON_SPARE f 1).wrI FOL_F_STATUS_ON_FALLBACK f 0)
      | (none, s) => s.pairAnswer 1

/-! ## Pair commands (R184, R185) -/

/-- OP = RETIRE. -/
def State.pairRetire (s : State) (p : Nat) : State :=
  if s.on FOL_PAIR_CMD_STATUS_BUSY then s.pairAnswer 4
  else if 12 ≤ p ∨ s.pairSt p ≠ 1 then s.pairAnswer 2
  else ((s.wrI FOL_P_STATE p 2).folRefresh).pairAnswer 0

/-- OP = RESTORE: the self-test of a retired pair starts. -/
def State.pairRestore (s : State) (p : Nat) : State :=
  if s.on FOL_PAIR_CMD_STATUS_BUSY then s.pairAnswer 4
  else if 12 ≤ p ∨ s.pairSt p ≠ 2 then s.pairAnswer 2
  else
    let j : MigJob := { from_ := p, to_ := 15, tai := s.taiNs, at_ := s.now, cycle := s.cycle }
    (((s.wrI FOL_P_STATE p 3).begin FOL_PAIR_CMD_STATUS_BUSY).onFol (fun e => { e with restoring := some j })).folRefresh

/-- The RESTORE test ends. -/
def State.pairRestoreDone (s : State) (pass : Bool) : State :=
  match s.fol.restoring with
  | none => s
  | some j =>
    let s := s.onFol (fun e => { e with restoring := none })
    let s := s.wrI FOL_P_STATE j.from_ (if pass then 1 else 2)
    let s := s.flagIf (!pass) FOL_TROUBLE_RESTORE_FAIL
    ((s.folNotice (if pass then 5 else 6) j.from_ 15 0 0 j.tai j.at_ j.cycle).pairCmdEnd (if pass then 0 else 3)).folRefresh

/-- OP = MIGRATE. -/
def State.migrate (s : State) (p : Nat) : State :=
  if s.on FOL_PAIR_CMD_STATUS_BUSY then s.pairAnswer 4
  else if 12 ≤ p ∨ s.pairSt p ≠ 0 then s.pairAnswer 2
  else if s.nextSpare.isNone then (s.folNoticeNow 7 p 0).pairAnswer 1
  else
    let j : MigJob := { from_ := p, to_ := 15, tai := s.taiNs, at_ := s.now, cycle := s.cycle }
    ((s.begin FOL_PAIR_CMD_STATUS_BUSY).onFol (fun e => { e with mig := some j })).folRefresh

/-- At the next cadence boundary the module stops dispatching on the migrating pair (R184). -/
def State.migrateBoundary (s : State) : State :=
  match s.fol.mig with
  | some m => if m.stopped then s
    else ((s.onFol (fun e => { e with mig := some { m with stopped := true } })).wrI FOL_P_STATE m.from_ 4).folRefresh
  | none => s

/-- The folios of the migrating pair move once no run there is executing (R184). -/
def State.migrateMove (s : State) : State :=
  match s.fol.mig with
  | none => s
  | some m =>
    if m.stopped = false ∨ s.rdI FOL_P_CURRENT_MODE m.from_ = 1 then s
    else
      let s := s.onFol (fun e => { e with mig := none })
      match s.takeSpare with
      | (none, s) => (((s.wrI FOL_P_STATE m.from_ 0).folNotice 7 m.from_ 15 0 0 m.tai m.at_ m.cycle).pairCmdEnd 1).folRefresh
      | (some p, s) =>
        let fs := s.pairFolios m.from_
        let s := fs.foldl (fun s f => if s.folioBg f then ((s.folMoving f).loseRuns f).2 else s.folMoving f) s
        let s := (s.wrI FOL_P_STATE m.from_ 2).moveTo fs p true
        ((((s.bump FOL_MOVES).flag FOL_TROUBLE_SUBSTITUTED).folNotice 2 m.from_ p (folMask fs) 0 m.tai m.at_ m.cycle).pairCmdEnd 0).folRefresh

/-! ## Load (R157-R159, R460) -/

/-- Whether two intervals overlap. -/
def overlap (a n b m : Nat) : Bool := decide (a < b + m) && decide (b < a + n)

/-- The CHECK of PLCE (R97, R108, R159), on the tables and registers filled. -/
def State.plceOk (s : State) : Bool :=
  let on := (List.range 32).filter (fun f => s.folioOn f)
  let wins := (s.tab 0x702).active.filter (fun e => Ent.WIN_ENABLE.on e.2)
  let spares := s.rd FOL_SPARES_DESIGNATED
  let spare (p : Nat) : Bool := bitAt spares p
  let k := s.rd TIM_CADENCE_CFG_K * 1000000000
  let fs := s.rd TIM_CADENCE_CFG_FS
  let gEnd (e : Nat) : Nat := Ent.WIN_GUEST_BASE.of e + Ent.WIN_SIZE.of e
  let dEnd (e : Nat) : Nat := Ent.WIN_DRAM_BASE.of e + Ent.WIN_SIZE.of e
  wins.all (fun w =>
    let e := w.2
    decide (dEnd e ≤ 0x3800) && decide (0x800 ≤ Ent.WIN_GUEST_BASE.of e) && decide (gEnd e ≤ 0x100000) &&
    s.folioOn (Ent.WIN_FOLIO.of e) &&
    !(Ent.PLC_PROV.on (s.plc (Ent.WIN_FOLIO.of e)) && Ent.WIN_SHARED.on e && decide (Ent.WIN_ACCESS.of e % 2 = 1)) &&
    wins.all (fun v => decide (v.1 = w.1) ||
      (!(decide (Ent.WIN_FOLIO.of v.2 = Ent.WIN_FOLIO.of e) &&
          overlap (Ent.WIN_GUEST_BASE.of e) (Ent.WIN_SIZE.of e) (Ent.WIN_GUEST_BASE.of v.2) (Ent.WIN_SIZE.of v.2)) &&
       !(!(Ent.WIN_SHARED.on e && Ent.WIN_SHARED.on v.2) &&
          overlap (Ent.WIN_DRAM_BASE.of e) (Ent.WIN_SIZE.of e) (Ent.WIN_DRAM_BASE.of v.2) (Ent.WIN_SIZE.of v.2))))) &&
  on.all (fun f =>
    let e := s.plc f
    !(Ent.PLC_PROV.on e && (decide (f = 0) || Ent.PLC_BACKGROUND.on e)) &&
    !spare (Ent.PLC_HOME_PAIR.of e) && !spare (Ent.PLC_FALLBACK_PAIR.of e) &&
    decide (Ent.PLC_FALLBACK_PAIR.of e ≠ Ent.PLC_HOME_PAIR.of e)) &&
  decide (on.foldl (fun n f => n + Ent.PLC_L3_UNITS.of (s.plc f)) 0 ≤ 62) &&
  decide (popcount 12 spares = 2) &&
  (List.range 12).all (fun q =>
    decide ((on.foldl (fun n f =>
      if !Ent.PLC_BACKGROUND.on (s.plc f) && (decide (Ent.PLC_HOME_PAIR.of (s.plc f) = q) || decide (Ent.PLC_FALLBACK_PAIR.of (s.plc f) = q))
      then n + Ent.PLC_BUDGET_US.of (s.plc f) else n) 0 * 1000 + 50000) * fs ≤ k)) &&
  decide (125000 * fs ≤ k) &&
  decide (on.foldl (fun n f => n + s.quireSlot f) 45056 ≤ 2097152) &&
  s.folioOn 0

/-- The registers of CLS and FOL that copy a placement entry. -/
def State.copyPlc (s : State) (f : Nat) : State :=
  let e := s.plc f
  let s := (((s.wrI CLS_F_CFG_PROV f (Ent.PLC_PROV.of e)).wrI CLS_F_CFG_BACKGROUND f (Ent.PLC_BACKGROUND.of e)).wrI CLS_F_CFG_DT_MASK f
    (Ent.PLC_DT_MASK.of e)).wrI CLS_F_CFG_QUIRE_UNITS f (Ent.PLC_QUIRE_UNITS.of e)
  let s := (s.wrI FOL_F_RING_CFG_RX_LOG2 f (Ent.PLC_RX_LOG2.of e)).wrI FOL_F_RING_CFG_TX_LOG2 f (Ent.PLC_TX_LOG2.of e)
  let s := (((((s.wrI FOL_F_PLACE_HOME f (Ent.PLC_HOME_PAIR.of e)).wrI FOL_F_PLACE_FALLBACK f (Ent.PLC_FALLBACK_PAIR.of e)).wrI FOL_F_PLACE_PRIORITY f
    (Ent.PLC_PRIORITY.of e)).wrI FOL_F_PLACE_BACKGROUND f (Ent.PLC_BACKGROUND.of e)).wrI FOL_F_PLACE_PROV f (Ent.PLC_PROV.of e)).wrI
    FOL_F_PLACE_L3_UNITS f (Ent.PLC_L3_UNITS.of e)
  ((s.wrI FOL_F_BUDGET_BUDGET_US f (Ent.PLC_BUDGET_US.of e)).wrI FOL_F_TRIGGER_TRIG_STREAM f (Ent.PLC_TRIG_STREAM.of e)).wrI
    FOL_F_TRIGGER_DEADLINE_US f (Ent.PLC_DEADLINE_US.of e)

/-- The placement takes effect at READY: every folio on its home pair, a home pair that start-up retired as if it had failed at that moment
(R157, R460). -/
def State.folReady (s : State) : State :=
  let s := (List.range 32).foldl State.copyPlc s
  let s := s.onFol (fun e => { e with fols := [], subs := [], mig := none, ringFaults := [] })
  let s := (List.range 32).foldl (fun s f =>
    let on := s.folioOn f
    ((((s.setFolSt f (b2n on)).wrI FOL_F_STATUS_PAIR f (if on then Ent.PLC_HOME_PAIR.of (s.plc f) else 15)).wrI FOL_F_STATUS_HALT_CAUSE f 0).wrI
      FOL_F_STATUS_ON_SPARE f 0).wrI FOL_F_STATUS_ON_FALLBACK f 0) s
  let s := (List.range 12).foldl (fun s p =>
    let des := bitAt (s.rd FOL_SPARES_DESIGNATED) p
    let s := (s.wrBI FOL_P_STATE_DESIGNATED p des).setCurrent p 0 0
    if s.pairSt p = 2 ∨ s.pairSt p = 3 then s
    else s.wrI FOL_P_STATE p (if des then 1 else if (s.pairFolios p).isEmpty then 5 else 0)) s
  let s := (List.range 12).foldl (fun s p =>
    let fs := s.pairFolios p
    if s.pairSt p ≠ 2 ∨ fs.isEmpty then s
    else
      let s := fs.foldl State.folMoving s
      let (t, s) := s.takeSpare
      let j : SubJob := { from_ := p, to_ := t, folios := folMask fs, lost := 0, tai := s.taiNs, at_ := s.now, cycle := s.cycle }
      s.onFol (fun e => { e with subs := e.subs ++ [j] })) s
  s.folRefresh

/-- A folio writes TX_PTR.TAIL: its descriptors wait for the release of the run, or pass at once for a background folio
(R114, R171). A descriptor with OWN = 0 is not posted, and HEAD moves past it (R167). Descriptors that a
cadence-bound folio posts outside a run belong to none, and go back unnamed. -/
def State.txTail (s : State) (f tail : Nat) (ds : List Nat) : State :=
  let size := 2 ^ s.rdI FOL_F_RING_CFG_TX_LOG2 f
  let old := s.rdI FOL_F_TX_PTR_TAIL f
  let new := (List.range ((tail + size - old % size) % size)).map (fun i => (old + i) % size)
  let s := (s.modFolio f (fun x => { x with tx := postDescs x.tx size old ds })).wrI FOL_F_TX_PTR_TAIL f tail
  let s := if s.folioBg f then new.foldl (fun s i => if Ent.TXD_OWN.on ((s.folio f).tx.get i 0) then s.txSend f i false else s) s
    else match (s.folio f).running with
      | some c =>
        let own := new.filter (fun i => Ent.TXD_OWN.on ((s.folio f).tx.get i 0))
        s.modCyc f c.cycle (fun c => { c with posted := c.posted ++ own })
      | none => s.txReturn f new 1
  (s.txAdvance 4096 f).takeRingFaults

end Sys2Proof.Machine
end

