-- ==== Sys2Proof/Machine/Operands.lean ====
section
/-! DEFINITION. How a 32-bit register word and the fields that lie in it are made of each other (R10-R16, R19): the one
operand form of a register access. -/

namespace Sys2Proof.Machine

open Sys2Proof Reg

/-- The value of a field after its bits in one register word take those of `v`: `high` says that the word is the upper one
of a pair (R10). -/
def Fld.fromWord (f : Fld) (high : Bool) (old v : Nat) : Nat :=
  if high then old % 2 ^ (32 - f.lo) + v % 2 ^ (f.lo + f.w - 32) * 2 ^ (32 - f.lo)
  else if 32 < f.lo + f.w then setBits old 0 (32 - f.lo) (v / 2 ^ f.lo)
  else bits v f.lo f.w

/-- The bits of a register word that a field of value `x` gives it. -/
def Fld.toWord (f : Fld) (high : Bool) (x : Nat) : Nat :=
  if high then x / 2 ^ (32 - f.lo) % 2 ^ 32 else x * 2 ^ f.lo % 2 ^ 32

/-- A place at which a field holds bits of a register: the field, its instance, its register in a run, and whether it is the
upper word of a pair. -/
abbrev FPlace := Fld × Nat × Nat × Bool

/-- The value of the field at a place. -/
def State.rdAt (s : State) (p : FPlace) : Nat := s.rdK p.1 p.2.1 p.2.2.1

/-- The word `v` is written to the field at a place. -/
def State.wrAt (s : State) (p : FPlace) (v : Nat) : State :=
  s.wrK p.1 p.2.1 p.2.2.1 (Fld.fromWord p.1 p.2.2.2 (s.rdAt p) v)

/-- The bits that a word of all ones gives the field at a place. -/
def placeOnes (p : FPlace) : Nat := Fld.fromWord p.1 p.2.2.2 0 (2 ^ 32 - 1)

/-- The word at an offset as a read returns it: WO fields and reserved bits read 0 (R14, R15). -/
def State.word (s : State) (o : Nat) : Nat :=
  (fieldsAt o).foldl (fun n p => n + if p.1.typ = .wo then 0 else Fld.toWord p.1 p.2.2.2 (s.rdAt p)) 0

end Sys2Proof.Machine
end

