-- ==== Sys2Proof/Machine/BndImg.lean ====
section
/-! DEFINITION. The Binding container: its header, its directory and the bodies of its sections (chapter "The Binding image",
R38-R46). -/

namespace Sys2Proof.Machine

open Sys2Proof Reg

/-! ## Sections (R45, R46) -/

/-- What the section table of R45 says of a tag. -/
structure Sec where
  /-- the four characters, in network order -/
  tag : Nat
  /-- its bit in BND_EP_POLICY.SECTIONS, where it is tip-in capable -/
  tip : Option Nat
  /-- it takes effect at a scan boundary -/
  scan : Bool
  /-- the register fields that it fills -/
  flds : List Fld
  /-- the tables that it fills: identifier, entries, bytes an entry -/
  tabs : List (Nat × Nat × Nat)
  deriving DecidableEq, Repr

/-- Section EPAP. -/
def secEpap : Sec :=
  { tag := 0x45504150, tip := none, scan := false,
    flds := [SYS_WDOG_CFG_PERIOD_MS, SYS_WDOG_CFG_ACTION, BND_EP_POLICY_TIPIN_EN, BND_EP_POLICY_JOURNAL_EN,
      BND_EP_POLICY_SECTIONS, BND_EP_POLICY_TIP_KEY_SLOT, FLT_DT_CFG_LINE_EN, FLT_DT_CFG_MIN_ON,
      FLT_BKST_FLOOR, LCS_TAMPER_POLICY_CLASS, LCS_TAMPER_POLICY_TAMPER_HOLD_MS, LCS_DEBUG_CEILING],
    tabs := [] }

/-- Section KEYP. -/
def secKeyp : Sec :=
  { tag := 0x4B455950, tip := none, scan := false,
    flds := [KEY_POLICY_AON_LOSS_ZEROIZE, KEY_POLICY_ATTEST_EN],
    tabs := [(0x1201, 64, 16)] }

/-- Section TIME. -/
def secTime : Sec :=
  { tag := 0x54494D45, tip := none, scan := false,
    flds := [TIM_CTRL_PPS_FREE, TIM_UTC_OFFSET_OFFSET_S, TIM_UTC_OFFSET_LEAP, TIM_SRC_CFG_LIST,
      TIM_SRC_CFG_QUAL_S, TIM_SRC_CFG_LOSS_S, TIM_SRC_CFG_IRIG_EXT, TIM_SERVO_CFG_LOCK_NS,
      TIM_SERVO_CFG_HOLDOVER_MAX_MIN, TIM_STEP_CFG_STEP_NS, TIM_STEP_CFG_STEP_CONFIRM,
      TIM_CADENCE_CFG_FS, TIM_CADENCE_CFG_K, TIM_CADENCE_OFS_OFFSET_US, TIM_PTP_CFG_DOMAIN,
      TIM_PTP_CFG_LOG_PDELAY, TIM_PTP_CFG_PTP_PORT_MASK, TIM_LAUNCH_CFG_PPS_WIDTH_US,
      TIM_LAUNCH_CFG_HORIZON_MS, TIM_LAUNCH_CFG_LATE_TOL_NS, TIM_SRC_MAC_LO, TIM_SRC_MAC_HI,
      TIM_P_CFG_PDELAY_EN, TIM_P_ASYM],
    tabs := [] }

/-- Section HKAD. -/
def secHkad : Sec :=
  { tag := 0x484B4144, tip := none, scan := false,
    flds := [HKA_SEQ_CFG_MASK, HKA_SEQ_CFG_SWEEP_MS, HKA_TEMP_LIMIT_WARN_DIE, HKA_TEMP_LIMIT_WARN_BOARD,
      HKA_AGE_LIMIT_WARN_PPM, HKA_AGE_LIMIT_PROPOSE_PPM, HKA_ECC_LIMIT_DRAM_24H, HKA_ECC_LIMIT_REPEAT,
      HKA_LIFE_LIMIT_WARN_PCT, HKA_LIFE_LIMIT_PROPOSE_PCT, HKA_LIFE_LIMIT_REMIND_DAYS],
    tabs := [] }

/-- Section PORT. -/
def secPort : Sec :=
  { tag := 0x504F5254, tip := none, scan := false,
    flds := [MAC_P_CFG_SPEED, MAC_P_CFG_AN_EN, MAC_P_CFG_FEC_EN, MAC_P_CFG_MAX_LEN, MAC_P_LINK_CFG_HOLD_MS,
      MAC_P_LINK_CFG_LINK_QUAL_US, MAC_P_PREEMPT_PREEMPT_EN, MAC_P_PREEMPT_VERIFY_DIS,
      MAC_P_PREEMPT_ADD_FRAG, MAC_P_PREEMPT_EXPRESS_MASK, MAC_P_PREEMPT_VERIFY_MS,
      MAC_P_PAUSE_RX_PAUSE_EN, MAC_P_PAUSE_TX_PAUSE_EN, MAC_P_PAUSE_EXEMPT_MASK,
      MAC_P_PAUSE_PAUSE_QUANTA, MAC_P_PAUSE_THR_XOFF_CELLS, MAC_P_PAUSE_THR_XON_CELLS],
    tabs := [] }

/-- Section SWCH. -/
def secSwch : Sec :=
  { tag := 0x53574348, tip := none, scan := false,
    flds := [SWC_CTRL_CT_EN, SWC_CTRL_TC_EN, SWC_CT_CFG_CT_LEAD_NS, SWC_CT_CFG_CT_MIN_CELLS, SWC_TC_CFG_DOMAIN,
      SWC_RED_PAIR_PORT_A, SWC_RED_PAIR_PORT_B, SWC_RED_PAIR_MODE, SWC_RED_PAIR_NET_ID,
      SWC_RED_PAIR_SUP_MS],
    tabs := [(0xA01, 8192, 32), (0xA02, 4096, 16), (0xA03, 20, 16), (0xA04, 8, 16)] }

/-- Section PLCE. -/
def secPlce : Sec :=
  { tag := 0x504C4345, tip := none, scan := false,
    flds := [FOL_SPARES_DESIGNATED],
    tabs := [(0x701, 32, 32), (0x702, 256, 16)] }

/-- Section PARS. -/
def secPars : Sec :=
  { tag := 0x50415253, tip := none, scan := false,
    flds := [],
    tabs := [(0x203, 512, 8)] }

/-- Section SUBS. -/
def secSubs : Sec :=
  { tag := 0x53554253, tip := some 0, scan := false,
    flds := [],
    tabs := [(0x201, 512, 64), (0x202, 512, 64)] }

/-- Section FILT. -/
def secFilt : Sec :=
  { tag := 0x46494C54, tip := some 1, scan := false,
    flds := [],
    tabs := [(0x501, 2048, 32), (0x502, 256, 128)] }

/-- Section CURV. -/
def secCurv : Sec :=
  { tag := 0x43555256, tip := some 2, scan := false,
    flds := [],
    tabs := [(0x503, 1024, 8)] }

/-- Section BKST. -/
def secBkst : Sec :=
  { tag := 0x424B5354, tip := some 3, scan := false,
    flds := [],
    tabs := [(0x504, 64, 32)] }

/-- Section LOGC. -/
def secLogc : Sec :=
  { tag := 0x4C4F4743, tip := some 4, scan := true,
    flds := [LGE_SCAN_CFG_PERIOD_US, LGE_SCAN_CFG_BUDGET_US, LGE_OVERRUN_CFG_OVERRUN_MAX],
    tabs := [(0x901, 65536, 16), (0x902, 24576, 16)] }

/-- Section CTLO. -/
def secCtlo : Sec :=
  { tag := 0x43544C4F, tip := some 5, scan := true,
    flds := [CTL_IL_CFG_MAX_AGE_US],
    tabs := [(0x1601, 1024, 32), (0x1602, 64, 16)] }

/-- Section PUBL. -/
def secPubl : Sec :=
  { tag := 0x5055424C, tip := some 6, scan := false,
    flds := [],
    tabs := [(0xE01, 256, 256), (0xE02, 64, 128)] }

/-- Section TRIG. -/
def secTrig : Sec :=
  { tag := 0x54524947, tip := some 7, scan := false,
    flds := [],
    tabs := [(0x1001, 512, 32)] }

/-- Section GATH. -/
def secGath : Sec :=
  { tag := 0x47415448, tip := some 8, scan := false,
    flds := [],
    tabs := [(0x1002, 16384, 32)] }

/-- Section EVTS. -/
def secEvts : Sec :=
  { tag := 0x45565453, tip := some 9, scan := false,
    flds := [],
    tabs := [(0xF01, 1024, 16)] }

/-- Section TWIN. -/
def secTwin : Sec :=
  { tag := 0x5457494E, tip := none, scan := false,
    flds := [TWN_CFG_TWIN_EN, TWN_CFG_PREFER_POS, TWN_CFG_COLD_PROMOTE, TWN_CFG_SYNC_QUIRES, TWN_CFG_SYNC_AGE,
      TWN_CFG_INIT_WAIT_MS],
    tabs := [] }

/-- The 19 sections in the order in which a load applies them (R49). -/
def sections : List Sec :=
  [secEpap, secKeyp, secTime, secHkad, secPort, secSwch, secPlce, secPars, secSubs, secFilt, secCurv,
   secBkst, secLogc, secCtlo, secPubl, secTrig, secGath, secEvts, secTwin]

/-- The section with a tag. -/
def secOf (tag : Nat) : Option Sec := sections.find? (fun c => c.tag == tag)

/-- FLAGS of a section's directory entry (R38, R40). -/
def Sec.flags (c : Sec) : Nat := b2n c.tip.isSome + 2 * b2n c.scan

/-- The places at offset `o` that a register-fill record of the section writes (R43). -/
def Sec.fills (c : Sec) (o : Nat) : List FPlace :=
  if c.flds.any (fun f => (f.place o).isSome) then (fieldsAt o).filter (fun p => c.flds.contains p.1) else []

/-! ## Header and directory (R38-R41) -/

/-- A directory entry. -/
structure DirEnt where
  tag : Nat
  fmt : Nat
  flags : Nat
  off : Nat
  len : Nat
  digest : List Byte
  /-- its reserved bytes are zero -/
  clean : Bool
  deriving DecidableEq, Repr

/-- Whether `n` bytes at `off` are all zero. -/
def zeroAt (bs : List Byte) (off n : Nat) : Bool := (slice bs off n).all (fun b => decide (b = 0#8))

/-- SECTION_COUNT of a container. -/
def secCount (bs : List Byte) : Nat := beAt bs 0x0E 2

/-- Directory entry `i` of a container. -/
def dirEnt (bs : List Byte) (i : Nat) : DirEnt :=
  let e := 256 + 64 * i
  { tag := beAt bs e 4, fmt := beAt bs (e + 4) 2, flags := beAt bs (e + 6) 2, off := beAt bs (e + 8) 4, len := beAt bs (e + 12) 4,
    digest := slice bs (e + 16) 32, clean := zeroAt bs (e + 48) 16 }

/-- The directory of a container. -/
def dirOf (bs : List Byte) : List DirEnt := (List.range (secCount bs)).map (dirEnt bs)

/-- The signed message: the header and the directory (R41). -/
def signedMessage (bs : List Byte) : List Byte := bs.take (256 + 64 * secCount bs)

/-- SHA-256 of the signed message. -/
def signedDigest (bs : List Byte) : List Byte := Config.sha256 (signedMessage bs)

/-- The signature block. -/
def signatureOf (bs : List Byte) : List Byte := slice bs (beAt bs 0x68 4) (beAt bs 0x6C 4)

/-- IMAGE_VERSION of a container. -/
def imageVersion (bs : List Byte) : Nat := beAt bs 0x10 4

/-- KEY_SLOT of a container. -/
def keySlotOf (bs : List Byte) : Nat := beAt bs 0x28 2

/-- The index of the section with a tag in the directory. -/
def dirIndex (bs : List Byte) (tag : Nat) : Nat := ((dirOf bs).findIdx? (fun d => d.tag == tag)).getD 0

/-- The body of directory entry `i`. -/
def bodyOf (bs : List Byte) (i : Nat) : List Byte := slice bs (dirEnt bs i).off (dirEnt bs i).len

/-- A failing check: its code and the directory index that it names (R54). -/
abbrev Bad := Option (Nat × Nat)

/-- The first failing check of a list of checks in order. -/
def firstBad : List Bad → Bad
  | [] => none
  | some b :: _ => some b
  | none :: l => firstBad l

/-- A check that fails with a code and an index where `c` holds. -/
def badIf (c : Bool) (code idx : Nat) : Bad := if c then some (code, idx) else none

/-- The checks of the directory entries in order: reserved fields, and the place of each body after the end of the last one
(R38, R39). A SECTION_FORMAT other than 1 is answered FORMAT: DESIGN CHOICE, log entry 44. -/
def dirBad (sigOff : Nat) : Nat → Nat → List DirEnt → Bad
  | _, _, [] => none
  | i, prev, d :: ds =>
    if !d.clean || decide (d.fmt ≠ 1) || decide (4 ≤ d.flags) then some (2, i)
    else if d.off % 64 ≠ 0 ∨ d.off < prev ∨ sigOff < d.off + d.len then some (3, i)
    else dirBad sigOff (i + 1) (d.off + d.len) ds

/-- Tags unknown, duplicated or with other FLAGS (R40, R45). -/
def tagBad (ds : List DirEnt) : Nat → List DirEnt → Bad
  | _, [] => none
  | i, d :: l =>
    if (match secOf d.tag with
        | none => true
        | some c => decide (c.flags ≠ d.flags)) || (ds.take i).any (fun e => e.tag == d.tag) then some (9, i)
    else tagBad ds (i + 1) l

/-- A body whose digest is not that of its entry (R38). -/
def digestBad (bs : List Byte) : Nat → List DirEnt → Bad
  | _, [] => none
  | i, d :: l => if Config.sha256 (slice bs d.off d.len) ≠ d.digest then some (7, i) else digestBad bs (i + 1) l

/-- The padding between bodies and before the signature is zero (R39). -/
def paddingOk (bs : List Byte) (sigOff : Nat) : Nat → List DirEnt → Bool
  | prev, [] => zeroAt bs prev (sigOff - prev)
  | prev, d :: l => zeroAt bs prev (d.off - prev) && paddingOk bs sigOff (d.off + d.len) l

/-- The checks of the HEADER phase for a container of a kind (R38-R40, R45, R49, R56). A wrong SECTION_COUNT is answered
SECTION_SET: DESIGN CHOICE, log entry 44. -/
def headerBad (bs : List Byte) (kind : Nat) : Bad :=
  let total := beAt bs 8 4
  let n := secCount bs
  let sigOff := beAt bs 0x68 4
  let dirEnd := 256 + 64 * n
  let dev := slice bs 0x18 16
  let ds := dirOf bs
  firstBad
    [badIf (decide (beAt bs 0 4 ≠ 0x4B424E44)) 1 0,
     badIf (decide (bs.length < 256)) 3 0,
     badIf (decide (beAt bs 4 2 ≠ 1) || decide (beAt bs 6 2 ≠ kind) || decide (beAt bs 0x0C 2 ≠ 256) || !zeroAt bs 0x2A 2 ||
       !zeroAt bs 0x3C 4 || !zeroAt bs 0x70 144 || (decide (kind = 1) && !zeroAt bs 0x40 32)) 2 0,
     badIf (decide (2 ^ 26 < total) || decide (total ≠ bs.length) || decide (sigOff % 64 ≠ 0) ||
       decide (sigOff + beAt bs 0x6C 4 ≠ total) || decide (sigOff < dirEnd)) 3 0,
     badIf (decide (beAt bs 0x14 4 ≠ 0x4816) || (!zeroAt bs 0x18 16 && decide (dev ≠ Config.deviceId.take 16))) 4 0,
     badIf (if kind = 1 then decide (n ≠ 19) else decide (n = 0 ∨ 10 < n)) 9 0,
     dirBad sigOff 0 dirEnd ds,
     tagBad ds 0 ds,
     digestBad bs 0 ds,
     badIf (!paddingOk bs sigOff dirEnd ds) 2 0]

/-! ## Slot colophons (R37) -/

/-- The 64-byte colophon of a slot that holds a container. -/
def colophonOf (bs : List Byte) : List Byte :=
  beBytes 4 0x4B534C43 ++ beBytes 4 (beAt bs 8 4) ++ beBytes 4 (imageVersion bs) ++ beBytes 4 0 ++ signedDigest bs ++
    List.replicate 16 0#8

/-- A colophon with its MAGIC word written. -/
def colophonValid (c : List Byte) : Bool := decide (c.length = 64) && decide (beAt c 0 4 = 0x4B534C43)

/-! ## Section bodies (R41, R43) -/

/-- What a body carries: register words in order, and the tables that its chunks name. -/
structure SecBody where
  regs : List (Nat × Nat) := []
  tabs : List (Nat × Store) := []
  deriving DecidableEq, Repr

/-- Table `id` of a body; a table that no chunk names is empty. -/
def SecBody.tab (b : SecBody) (id : Nat) : Store := ((b.tabs.find? (fun t => t.1 == id)).map (fun t => t.2)).getD []

/-- The records of a register-fill chunk. -/
def fillRecords (data : List Byte) (n : Nat) : List (Nat × Nat) :=
  (List.range n).map (fun k => (beAt data (8 * k) 4, beAt data (8 * k + 4) 4))

/-- Table image entries written over a bank from index `target`: little-endian images (R38), a later write wins (R43). -/
def imageOver (m : Store) (target size n : Nat) (data : List Byte) : Store :=
  (List.range n).foldl (fun m k => m.put (target + k) 0 (leNat (slice data (k * size) size))) m

/-- The chunks of a body, `n` of them: the contents, or the failing code (FORMAT 2, FILL_RANGE 0x0A). TARGET of a
register-fill chunk, and the offset of each of its records, are registers that the section fills (R43). -/
def chunks (c : Sec) : Nat → List Byte → SecBody → Nat ⊕ SecBody
  | 0, rest, b => if rest = [] then .inr b else .inl 2
  | n + 1, rest, b =>
    let kind := beAt rest 0 2
    let tid := beAt rest 2 2
    let target := beAt rest 4 4
    let count := beAt rest 8 4
    let len := beAt rest 12 4
    let data := slice rest 16 len
    let rest' := rest.drop (16 + len)
    if rest.length < 16 + len then .inl 2
    else if kind = 1 then
      if len ≠ 8 * count then .inl 2
      else
        let rs := fillRecords data count
        if (c.fills target).isEmpty || rs.any (fun r => (c.fills r.1).isEmpty) then .inl 0x0A
        else chunks c n rest' { b with regs := b.regs ++ rs }
    else if kind = 2 then
      match c.tabs.find? (fun t => t.1 == tid) with
      | none => .inl 0x0A
      | some (_, entries, size) =>
        if len ≠ count * size then .inl 2
        else if entries < target + count then .inl 0x0A
        else
          let m := imageOver (b.tab tid) target size count data
          chunks c n rest' { b with tabs := (tid, m) :: b.tabs.filter (fun t => t.1 != tid) }
    else .inl 2

/-- The contents of a body, or the code with which it fails. -/
def decodeBody (c : Sec) (body : List Byte) : Nat ⊕ SecBody :=
  if body.length < 16 ∨ beAt body 4 4 ≠ 0 ∨ zeroAt body 8 8 = false then .inl 2 else chunks c (beAt body 0 4) (body.drop 16) {}

end Sys2Proof.Machine
end

