-- ==== Sys2Proof/Machine/LgeOps.lean ====
section
/-! DEFINITION. The logic engine: the scan image, stitches, scans, forces, carry-over and its CHECK (chapter "The logic
engine", R186-R213). -/

namespace Sys2Proof.Machine

open Sys2Proof Reg

/-! ## The scan image (R195) -/

/-- `n` bytes of an image at an offset, as a number. -/
def imgGet (m : Store) : Nat → Nat → Nat
  | _, 0 => 0
  | off, n + 1 => m.get off 0 + 256 * imgGet m (off + 1) n

/-- Write `n` bytes of an image at an offset. -/
def imgPut (m : Store) : Nat → Nat → Nat → Store
  | _, 0, _ => m
  | off, n + 1, v => imgPut (m.put off 0 (v % 256)) (off + 1) n (v / 256)

/-- Bit `i` of a bit array of an image. -/
def imgBit (m : Store) (base i : Nat) : Bool := bitAt (m.get (base + i / 8) 0) (i % 8)

/-- Write bit `i` of a bit array of an image. -/
def imgPutBit (m : Store) (base i : Nat) (b : Bool) : Store :=
  m.put (base + i / 8) 0 (setBits (m.get (base + i / 8) 0) (i % 8) 1 (b2n b))

/-- The bytes of an image below an offset, and from an offset on. -/
def imgKeep (m : Store) (lo n : Nat) : Store := m.filter (fun e => decide (lo ≤ e.1) && decide (e.1 < lo + n))

/-- The output image Y of a scan image, with offsets from 0. -/
def imgY (m : Store) : Store := (imgKeep m 0x300 2048).map (fun e => (e.1 - 0x300, e.2))

/-- An image with its output image replaced. -/
def imgPutY (m : Store) (y : Store) : Store :=
  imgKeep m 0 0x300 ++ y.map (fun e => (e.1 + 0x300, e.2)) ++ imgKeep m 0xB00 0x10000

/-- The 8 bytes of timer `i`, of counter `i`, and the 4 bytes of variable W `i`. -/
def offT (i : Nat) : Nat := 0x2300 + 8 * i
def offC (i : Nat) : Nat := 0x1300 + 8 * i
def offW (i : Nat) : Nat := 0x4300 + 4 * i

/-- Force slot `k` of an image. -/
def imgForce (m : Store) (k : Nat) : Nat := imgGet m (0x8300 + 32 * k) 32

/-- Replace force slot `k`. -/
def imgPutForce (m : Store) (k v : Nat) : Store := imgPut m (0x8300 + 32 * k) 32 v

/-- The slots that hold a force (R206). -/
def imgForces (m : Store) : List (Nat × Nat) :=
  if imgKeep m 0x8300 0x2000 = [] then []
  else ((List.range 256).map (fun k => (k, imgForce m k))).filter (fun f => decide (Ent.FRC_STABLE_ID.of f.2 ≠ 0))

/-- The 45 056 bytes of an image. -/
def imgBytes (m : Store) : List Byte := (List.range 45056).map (fun i => BitVec.ofNat 8 (m.get i 0))

/-- An image read from bytes. -/
def imgRead (bs : List Byte) : Store :=
  ((List.range bs.length).zip bs).filterMap (fun p => if p.2 = 0#8 then none else some (p.1, p.2.toNat))

/-! ## Identities and operands (R193, R200, R207) -/

/-- The identity entry of an element by kind and index. -/
def identOf (ids : Store) (kind i : Nat) : Nat :=
  ((ids.find? (fun e => decide (Ent.IDN_STABLE_ID.of e.2 ≠ 0) && decide (Ent.IDN_KIND.of e.2 = kind) &&
    decide (Ent.IDN_INDEX.of e.2 = i))).map (fun e => e.2)).getD 0

/-- What a scan reads beside its working image. -/
structure LgeEnv where
  ids : Store
  forces : List Nat
  x : Nat
  f : Store
  g : Nat
  delta : Nat

/-- The engine between two stitches (R197). -/
structure LgeRun where
  img : Store
  acc : Bool := false
  stack : List Bool := []
  iacc : Int := 0
  /-- program indices of the EVT requests, in order -/
  evts : List Nat := []
  /-- stitches executed -/
  n : Nat := 0
  pc : Nat := 0
  done : Bool := false

/-- The forced value of a variable, if it is forced. -/
def LgeEnv.forced (v : LgeEnv) (kind i : Nat) : Option Nat :=
  (v.forces.find? (fun e => Ent.FRC_ACTIVE.on e && decide (Ent.FRC_KIND.of e = kind) && decide (Ent.FRC_INDEX.of e = i))).map
    (fun e => Ent.FRC_VALUE.of e)

/-- A counter's COUNT and PRESET. -/
def LgeEnv.count (v : LgeEnv) (m : Store) (i : Nat) : Nat × Nat := (imgGet m (offC i) 4, Ent.IDN_PRESET.of (identOf v.ids 4 i))

/-- The boolean operand of a stitch, before INV. -/
def LgeEnv.boolRaw (v : LgeEnv) (m : Store) (space i : Nat) (imm : Nat) : Bool :=
  match space with
  | 0 => decide (imm ≠ 0)
  | 1 => match v.forced 1 i with
    | some x => decide (x % 2 = 1)
    | none => imgBit m 0xB00 i
  | 2 => bitAt v.x i
  | 3 => imgBit m 0x300 i
  | 5 => bitAt (imgGet m (offT i) 8) 49
  | 6 => decide ((v.count m i).2 ≤ (v.count m i).1)
  | 9 => bitAt v.g i
  | _ => false

/-- The boolean operand of a stitch. -/
def LgeEnv.boolOp (v : LgeEnv) (m : Store) (e : Nat) : Bool :=
  (v.boolRaw m (Ent.STI_SPACE.of e) (Ent.STI_INDEX.of e) (Ent.STI_IMM.of e)) != Ent.STI_INV.on e

/-- The integer operand of a stitch; as an integer C reads COUNT saturated to 2^31 - 1. -/
def LgeEnv.intOp (v : LgeEnv) (m : Store) (e : Nat) : Int :=
  let i := Ent.STI_INDEX.of e
  match Ent.STI_SPACE.of e with
  | 0 => signed 32 (Ent.STI_IMM.of e)
  | 4 => match v.forced 2 i with
    | some x => signed 32 x
    | none => signed 32 (imgGet m (offW i) 4)
  | 6 => (min (v.count m i).1 0x7FFFFFFF : Nat)
  | 8 => signed 32 (v.f.get i 0)
  | _ => 0

/-! ## Elements (R201-R204) -/

/-- A timer's 8 bytes from its parts. -/
def timerWord (el : Nat) (inp q run seen : Bool) : Nat :=
  el + b2n inp * 2 ^ 48 + b2n q * 2 ^ 49 + b2n run * 2 ^ 50 + b2n seen * 2 ^ 51

/-- A TMR stitch evaluates a timer with input `x` (R201, R202): the timer's 8 bytes after it. -/
def timerEval (mode p delta t : Nat) (x : Bool) : Nat :=
  let el := bits t 0 48
  let inp := bitAt t 48
  let q := bitAt t 49
  let run := bitAt t 50
  let seen := bitAt t 51
  let rise := x && (!inp || !seen)
  let on := min p (el + delta)
  match mode with
  | 0 => if x = false ∨ rise = true then timerWord 0 x false run true else timerWord on x (decide (on = p)) run true
  | 1 =>
    if x then timerWord 0 x true run true
    else if inp && seen then timerWord 0 x q run true
    else if q then timerWord on x (decide (on < p)) run true
    else timerWord el x q run true
  | _ =>
    if run then (if on = p then timerWord on x false false true else timerWord on x q true true)
    else if rise then timerWord 0 x true true true
    else timerWord el x q run true

/-- CTU and CTD (R203): a counter's 8 bytes after an evaluation with input `x`; `up` selects CTU. -/
def counterEval (up : Bool) (c : Nat) (x : Bool) : Nat :=
  let last := bitAt c (if up then 32 else 33)
  let seen := bitAt c (if up then 34 else 35)
  let n := bits c 0 32
  let step := x && !last && seen
  let n := if step then (if up then min (n + 1) 0xFFFFFFFF else n - 1) else n
  setBits (setBits (setBits c 0 32 n) (if up then 32 else 33) 1 (b2n x)) (if up then 34 else 35) 1 1

/-! ## Stitches (R197) -/

/-- Saturate to the INT32 range. -/
def sat32 (x : Int) : Int := satSigned 32 x

/-- A comparison opcode 0x28 to 0x2D. -/
def lgeCompare (op : Nat) (a b : Int) : Bool :=
  match op with
  | 0x28 => decide (b < a)
  | 0x29 => decide (b ≤ a)
  | 0x2A => decide (a = b)
  | 0x2B => decide (a ≠ b)
  | 0x2C => decide (a < b)
  | _ => decide (a ≤ b)

/-- The bit array of a boolean destination: V or Y. -/
def boolBase (space : Nat) : Nat := if space = 1 then 0xB00 else 0x300

/-- An edge detector: the input, its new state in the image and the result of RISE or FALL (R204). -/
def edgeEval (m : Store) (i : Nat) (x rising : Bool) : Store × Bool :=
  let last := imgBit m 0x100 (2 * i)
  let seen := imgBit m 0x100 (2 * i + 1)
  (imgPutBit (imgPutBit m 0x100 (2 * i) x) 0x100 (2 * i + 1) true, seen && (if rising then x && !last else !x && last))

/-- The effect of one stitch, before the step to the next. -/
def LgeEnv.stitch (v : LgeEnv) (r : LgeRun) (e : Nat) : LgeRun :=
  let i := Ent.STI_INDEX.of e
  let sp := Ent.STI_SPACE.of e
  let b := v.boolOp r.img e
  let n := v.intOp r.img e
  match Ent.STI_OP.of e with
  | 0x01 => { r with acc := b }
  | 0x02 => { r with acc := r.acc && b }
  | 0x03 => { r with acc := r.acc || b }
  | 0x04 => { r with acc := r.acc != b }
  | 0x05 => { r with stack := r.acc :: r.stack, acc := b }
  | 0x06 => { r with acc := r.stack.headD false && r.acc, stack := r.stack.tail }
  | 0x07 => { r with acc := r.stack.headD false || r.acc, stack := r.stack.tail }
  | 0x08 => { r with acc := !r.acc }
  | 0x10 => { r with img := imgPutBit r.img (boolBase sp) i r.acc }
  | 0x11 => if r.acc then { r with img := imgPutBit r.img (boolBase sp) i true } else r
  | 0x12 => if r.acc then { r with img := imgPutBit r.img (boolBase sp) i false } else r
  | 0x18 =>
    let d := identOf v.ids 3 i
    let t := timerEval (Ent.IDN_TMODE.of d) (Ent.IDN_PRESET.of d * 1000) v.delta (imgGet r.img (offT i) 8) r.acc
    { r with img := imgPut r.img (offT i) 8 t, acc := bitAt t 49 }
  | 0x19 =>
    let c := counterEval true (imgGet r.img (offC i) 8) r.acc
    let m := imgPut r.img (offC i) 8 c
    { r with img := m, acc := decide ((v.count m i).2 ≤ (v.count m i).1) }
  | 0x1A =>
    let c := counterEval false (imgGet r.img (offC i) 8) r.acc
    { r with img := imgPut r.img (offC i) 8 c, acc := decide (bits c 0 32 = 0) }
  | 0x1B => if r.acc then { r with img := imgPut r.img (offC i) 4 0 } else r
  | 0x1C => let (m, q) := edgeEval r.img i r.acc true; { r with img := m, acc := q }
  | 0x1D => let (m, q) := edgeEval r.img i r.acc false; { r with img := m, acc := q }
  | 0x20 => { r with iacc := n }
  | 0x21 => { r with iacc := sat32 (r.iacc + n) }
  | 0x22 => { r with iacc := sat32 (r.iacc - n) }
  | 0x23 => { r with iacc := sat32 (r.iacc * n) }
  | 0x24 => { r with img := imgPut r.img (offW i) 4 (unsigned 32 r.iacc) }
  | 0x25 => if r.acc then { r with iacc := n } else r
  | 0x28 => { r with acc := lgeCompare 0x28 r.iacc n }
  | 0x29 => { r with acc := lgeCompare 0x29 r.iacc n }
  | 0x2A => { r with acc := lgeCompare 0x2A r.iacc n }
  | 0x2B => { r with acc := lgeCompare 0x2B r.iacc n }
  | 0x2C => { r with acc := lgeCompare 0x2C r.iacc n }
  | 0x2D => { r with acc := lgeCompare 0x2D r.iacc n }
  | 0x30 => if r.acc then r else { r with pc := r.pc + i }
  | 0x31 => if r.acc then { r with evts := r.evts ++ [r.pc] } else r
  | 0x3F => { r with done := true }
  | _ => r

/-- EXECUTE: stitches from the present index to END (R197). -/
def LgeEnv.execute (v : LgeEnv) (prog : Store) : Nat → LgeRun → LgeRun
  | 0, r => r
  | fuel + 1, r =>
    if r.done ∨ 65536 ≤ r.pc then r
    else
      let r' := v.stitch { r with n := r.n + 1 } (prog.get r.pc 0)
      execute v prog fuel { r' with pc := r'.pc + 1 }

/-! ## Carry-over (R209-R211) -/

/-- An element's initial state in an image (R209, NEW). -/
def imgInit (m : Store) (e : Nat) : Store :=
  let i := Ent.IDN_INDEX.of e
  match Ent.IDN_KIND.of e with
  | 1 => imgPutBit m 0xB00 i (Ent.IDN_PRESET.of e % 2 = 1)
  | 2 => imgPut m (offW i) 4 (Ent.IDN_PRESET.of e)
  | _ => m

/-- The parts of an image that carry-over rebuilds are emptied: header, Y and forces stay. -/
def imgBare (m : Store) : Store := imgKeep m 0 0x100 ++ imgKeep m 0x300 0x800 ++ imgKeep m 0x8300 0x2000

/-- The image with every element of an identity table at its initial value; forces are kept and Y is 0. -/
def imgFresh (m ids : Store) : Store :=
  (ids.filter (fun e => decide (Ent.IDN_STABLE_ID.of e.2 ≠ 0))).foldl (fun m e => imgInit m e.2)
    (imgKeep m 0 0x100 ++ imgKeep m 0x8300 0x2000)

/-- One element carried from its old index to its new one. -/
def imgCarry (old m : Store) (o n : Nat) : Store :=
  let i := Ent.IDN_INDEX.of o
  let j := Ent.IDN_INDEX.of n
  match Ent.IDN_KIND.of n with
  | 1 => imgPutBit m 0xB00 j (imgBit old 0xB00 i)
  | 2 => imgPut m (offW j) 4 (imgGet old (offW i) 4)
  | 3 => if Ent.IDN_TMODE.of o = Ent.IDN_TMODE.of n then imgPut m (offT j) 8 (imgGet old (offT i) 8) else m
  | 4 => imgPut m (offC j) 8 (imgGet old (offC i) 8)
  | 5 => imgPutBit (imgPutBit m 0x100 (2 * j) (imgBit old 0x100 (2 * i))) 0x100 (2 * j + 1) (imgBit old 0x100 (2 * i + 1))
  | _ => m

/-- The old entry of an identity with the same kind, if there is one. -/
def identSame (olds : Store) (n : Nat) : Option Nat :=
  match findStable olds (Ent.IDN_STABLE_ID.of n) with
  | some (_, o) => if Ent.IDN_KIND.of o = Ent.IDN_KIND.of n then some o else none
  | none => none

/-- The image carried from an old identity table to a new one, and the identities whose forces are released (R209). -/
def carryImage (m olds news : Store) : Store × List Nat :=
  let built := (news.filter (fun e => decide (Ent.IDN_STABLE_ID.of e.2 ≠ 0))).foldl (fun a e =>
    match identSame olds e.2 with
    | some o => imgCarry m a o e.2
    | none => imgInit a e.2) (imgBare m)
  (imgForces m).foldl (fun (a : Store × List Nat) f =>
    match findStable news (Ent.FRC_STABLE_ID.of f.2) with
    | some (_, n) =>
      if Ent.IDN_KIND.of n = Ent.FRC_KIND.of f.2 ∧ (identSame olds n).isSome = true then
        (imgPutForce a.1 f.1 (Ent.FRC_INDEX.put f.2 (Ent.IDN_INDEX.of n)), a.2)
      else (imgPutForce a.1 f.1 0, a.2 ++ [Ent.FRC_STABLE_ID.of f.2])
    | none => (imgPutForce a.1 f.1 0, a.2 ++ [Ent.FRC_STABLE_ID.of f.2])) (built, [])

/-- The output image moved by the identity of the control objects (R210). -/
def moveY (y olds news : Store) : Store :=
  news.foldl (fun a e =>
    match findStable olds (Ent.OBJ_STABLE_ID.of e.2) with
    | some (i, _) => imgPut a (2 * e.1) 2 (imgGet y (2 * i) 2)
    | none => a) []

/-! ## State of the engine -/

/-- The engine may run: a Binding is loaded and ACTIVE or PROMOTING is reported (R363). -/
def State.lgeRole (s : State) : Bool := s.loaded && (s.isActive || s.isPromoting)

/-- The engine is RUNNING: it starts scans. -/
def State.lgeRuns (s : State) : Bool := s.lgeRole && s.on LGE_CTRL_ENABLE && !s.lge.halted

/-- Refresh LGE_STATUS. -/
def State.lgeRefresh (s : State) : State :=
  let st := if s.lge.halted then 3 else if s.loaded && !s.lgeRole then 2
            else if s.lgeRuns || s.lge.scan.isSome then 1 else 0
  (((s.wr LGE_STATUS_STATE st).wr LGE_STATUS_PHASE (if s.lge.scan.isSome then 3 else 0)).wr LGE_STATUS_FORCES
    (imgForces s.lge.committed).length).wrB LGE_STATUS_TIPIN_PENDING (s.lge.tipin || s.lge.flips.any (fun f => f.1))

/-- The committed image's scan number. -/
def State.lgeScanNo (s : State) : Nat := imgGet s.lge.committed 0 8

/-- A LOGC digest in an image's bytes. -/
def imgDigest (m : Store) : List Byte := (List.range 32).map (fun i => BitVec.ofNat 8 (m.get (0x20 + i) 0))

/-- An image with TIP_SEQ and LOGC_DIGEST as in force. -/
def State.imgStamp (s : State) (m : Store) : Store :=
  imgPut (imgPut m 0x18 4 (s.rd BND_TIP_SEQ)) 0x20 32 (leNat (s.lge.digest.take 32))

/-! ## Forces (R206-R208) -/

/-- A force is set or released on the committed image, with its event (R208). -/
def State.forceChange (s : State) (slot entry op id kind value scan : Nat) : State :=
  let s := s.onLge (fun e => { e with committed := imgPutForce e.committed slot entry })
  ((s.event 0x0B (leBytes 4 id ++ leBytes 1 op ++ leBytes 1 kind ++ [0#8, 0#8] ++ leBytes 4 value ++ leBytes 8 scan)).bump
    LGE_FORCE_OPS).flag LGE_TROUBLE_FORCE_CHANGE

/-- A force command is carried out: its result and the state. -/
def State.forceDo (s : State) (c : ForceCmd) (scan : Nat) : Nat × State :=
  let fs := imgForces s.lge.committed
  let held := fs.find? (fun f => decide (Ent.FRC_STABLE_ID.of f.2 = c.id))
  if c.op = 3 then
    (0, fs.foldl (fun s f => s.forceChange f.1 0 2 (Ent.FRC_STABLE_ID.of f.2) (Ent.FRC_KIND.of f.2) (Ent.FRC_VALUE.of f.2) scan) s)
  else match findStable (s.used 0x902) c.id with
    | none => (1, s)
    | some (_, e) =>
      let k := Ent.IDN_KIND.of e
      if k ≠ 1 ∧ k ≠ 2 then (2, s)
      else if c.op = 1 then
        let free := (List.range 256).find? (fun i => !(fs.any (fun f => f.1 == i)))
        match (match held with | some f => some f.1 | none => free) with
        | none => (3, s)
        | some i =>
          let f := Ent.FRC_STABLE_ID.mk' c.id + Ent.FRC_KIND.mk' k + Ent.FRC_ACTIVE.mk' 1 + Ent.FRC_INDEX.mk' (Ent.IDN_INDEX.of e) +
                   Ent.FRC_VALUE.mk' c.value + Ent.FRC_SET_TAI.mk' s.taiNs
          (0, (s.forceChange i f 1 c.id k (c.value % 2 ^ 32) scan).wr LGE_FORCE_STATUS_SLOT i)
      else match held with
        | none => (4, s)
        | some f => (0, s.forceChange f.1 0 2 c.id k (Ent.FRC_VALUE.of f.2) scan)

/-- A GO of LGE_FORCE_CTRL (R208). The engine is RUNNING too while its last scan is in progress after ENABLE was cleared. -/
def State.forceCmd (s : State) (op : Nat) : State :=
  let s := s.wr LGE_FORCE_CTRL_OP op
  let c : ForceCmd := ⟨op, s.rd LGE_FORCE_ID, s.rd LGE_FORCE_VALUE⟩
  if s.on LGE_FORCE_STATUS_BUSY then s.answer LGE_FORCE_STATUS_DONE LGE_FORCE_STATUS_RESULT 6
  else if s.loaded ∧ s.lgeRole = false then s.answer LGE_FORCE_STATUS_DONE LGE_FORCE_STATUS_RESULT 5
  else if s.lgeRuns || s.lge.scan.isSome then (s.begin LGE_FORCE_STATUS_BUSY).onLge (fun e => { e with force := some c })
  else
    let (r, s) := s.forceDo c s.lgeScanNo
    (s.answer LGE_FORCE_STATUS_DONE LGE_FORCE_STATUS_RESULT r).lgeRefresh

/-- The force command that waits is carried out at a SNAPSHOT. -/
def State.forceAtSnapshot (s : State) (scan : Nat) : State :=
  match s.lge.force with
  | none => s
  | some c =>
    let (r, s) := (s.onLge (fun e => { e with force := none })).forceDo c scan
    s.finish LGE_FORCE_STATUS_BUSY LGE_FORCE_STATUS_DONE LGE_FORCE_STATUS_RESULT r

/-! ## Flips at a scan start (R62, R209-R211) -/

/-- The register that a configuration code names. -/
def lgeCfgFld : Nat → Fld
  | 0 => LGE_SCAN_CFG_PERIOD_US
  | 1 => LGE_SCAN_CFG_BUDGET_US
  | 2 => LGE_OVERRUN_CFG_OVERRUN_MAX
  | _ => CTL_IL_CFG_MAX_AGE_US

/-- Exchange the registers that a section fills with the values that it brings. -/
def State.lgeCfgFlip (s : State) (new : List (Nat × Nat)) : State :=
  let old := new.map (fun c => (c.1, s.rd (lgeCfgFld c.1)))
  (new.foldl (fun s c => s.wr (lgeCfgFld c.1) c.2) s).onLge (fun e => { e with cfgShadow := [], cfgRetired := old })

/-- One flip of LOGC, CTLO or both takes effect: the banks change and CARRY builds the new committed image (R209-R211,
R238). `scan` is the number of the first scan after it. -/
def State.lgeFlip (s : State) (logc ctlo revert : Bool) (scan : Nat) : State :=
  let turn (s : State) (t : Nat) : State := if revert then s.revertTab t else s.flipTab t
  let oldIds := (s.used 0x902)
  let oldObjs := (s.used 0x1601)
  let oldMst := (s.used 0x1602)
  let s := s.lgeCfgFlip (if revert then s.lge.cfgRetired else s.lge.cfgShadow)
  let s := if ctlo then
      let s := ((turn s 0x1601 |> (turn · 0x1602)).ctlFlip oldObjs oldMst)
      s.onLge (fun e => { e with committed := imgPutY e.committed (moveY (imgY e.committed) oldObjs (s.used 0x1601)) })
    else s
  let s := if logc then
      let s := (turn s 0x901 |> (turn · 0x902))
      let (m, dropped) := carryImage s.lge.committed oldIds (s.used 0x902)
      let s := s.onLge (fun e => { e with committed := m, tipin := true, digest := if revert then e.digestRetired else e.digestShadow,
                                          digestRetired := e.digest, digestShadow := [], idsRetired := oldIds,
                                          objsRetired := if ctlo then some oldObjs else none })
      let s := s.onLge (fun e => { e with committed := s.imgStamp e.committed })
      dropped.foldl (fun s i => (s.event 0x0C (leBytes 4 i ++ List.replicate 8 0#8 ++ leBytes 8 scan)).flag
        LGE_TROUBLE_FORCE_DROPPED) s
    else s
  s.ctlReceive (imgY s.lge.committed) (imgGet s.lge.committed 0 8)

/-- Every flip that waits takes effect, in order. -/
def State.lgeFlips (s : State) (scan : Nat) : State :=
  let fs := s.lge.flips
  (fs.foldl (fun s f => s.lgeFlip f.1 f.2.1 f.2.2 scan) (s.onLge (fun e => { e with flips := [] })))

/-- A flip is requested at a cadence boundary: it waits for the next scan start; in SHADOW, where no scan starts, it takes
effect at once (DEDUCED, log entry 23). -/
def State.lgeFlipRequest (s : State) (logc ctlo revert : Bool) : State :=
  if logc || ctlo then
    let s := s.onLge (fun e => { e with flips := e.flips ++ [(logc, ctlo, revert)] })
    (if s.loaded && !s.lgeRole then s.lgeFlips s.lgeScanNo else s).lgeRefresh
  else s

/-! ## Scans -/

/-- The latest output of an instance, as an entry. -/
def State.lastOut (s : State) (i : Nat) : Option Nat :=
  match s.inst i with
  | some x => x.out.head?.map (fun o => o.entry)
  | none => none

/-- F and G of SNAPSHOT (R191). -/
def State.lgeF (s : State) : Store :=
  (s.flt.insts.filter (fun p => decide (p.1 < 2048))).filterMap (fun p => (s.lastOut p.1).map (fun o => (p.1, Ent.OUT_FINE.of o)))

def State.lgeG (s : State) : Nat :=
  (s.flt.insts.filter (fun p => decide (p.1 < 2048))).foldl (fun g p => match s.lastOut p.1 with
    | some o => if Ent.OUT_STATE.of o = 1 ∧ Ent.OUT_INVALID.of o = 0 ∧ Ent.OUT_SETTLING.of o = 0 then g + 2 ^ p.1 else g
    | none => g) 0

/-- X from the object status image and the rest of the module (R194). -/
def State.lgeX (s : State) (objs : Nat) : Nat :=
  objs + s.rd FLT_BKST_TRIP * 2 ^ 8192 + s.rd FLT_BKST_START * 2 ^ 8256 + s.rd FLT_DT_STATE_LINE * 2 ^ 8320 +
  (b2n s.isActive + 2 * b2n (decide (s.rd TIM_STATUS_STATE = 2)) + 4 * b2n s.lge.first + 8 * b2n s.lge.tipin +
    16 * b2n s.lge.overrunPrev + 32 * b2n s.lge.promoted) * 2 ^ 8328

/-- A RESTART takes effect at a scan start. -/
def State.lgeRestart (s : State) (scan : Nat) : State :=
  if s.lge.restart then
    ((s.onLge (fun e => { e with committed := imgFresh e.committed (s.used 0x902), restart := false, first := true,
                                 lastStart := none, promotedNext := false })).event 0x0D (leBytes 8 scan)).flag LGE_TROUBLE_RESTARTED
  else s

/-- Δ of a scan that starts now (R190, R213): an abandoned scan leaves what it is measured from. -/
def State.lgeDelta (s : State) : Nat :=
  if s.lge.promotedNext then
    match s.lge.imageAt with
    | some t => imgGet s.lge.committed 0x10 8 + (s.now - t)
    | none => imgGet s.lge.committed 0x10 8
  else match s.lge.lastStart with
    | some t => s.now - t
    | none => 0

/-- A scan starts: CARRY where a flip waits, a RESTART, the waiting force, then SNAPSHOT (R186-R191). The phases before
EXECUTE take no time here (DEDUCED, log entry 23). -/
def State.scanStart (s : State) : State :=
  if s.lgeRuns = false ∨ s.lge.scan.isSome ∨ s.now < s.lge.nextAt then s
  else
    let no := s.lge.scanNo + 1
    let s := (s.onLge (fun e => { e with scanNo := no })).lgeFlips no
    let s := (s.lgeRestart no).forceAtSnapshot no
    let d := s.lgeDelta
    let (objs, s) := s.ctlSnapshot no
    let sc : Scan := { no := no, at_ := s.now, startTai := s.taiNs, delta := d, budget := s.rd LGE_SCAN_CFG_BUDGET_US,
                       period := s.rd LGE_SCAN_CFG_PERIOD_US, x := s.lgeX objs, f := s.lgeF, g := s.lgeG }
    ((s.onLge (fun e => { e with scan := some sc })).lgeRefresh).takeRingFaults

/-- What EXECUTE of a scan computes (R197, R207). -/
def State.scanRun (s : State) (c : Scan) : LgeRun :=
  let env : LgeEnv := { ids := (s.used 0x902), forces := (imgForces s.lge.committed).map (fun f => f.2), x := c.x, f := c.f,
                        g := c.g, delta := c.delta }
  env.execute (s.used 0x901) 65536 { img := s.lge.committed }

/-- The earliest start of the scan after one that ends now (R187). -/
def State.afterScan (s : State) (c : Scan) : Nat := max s.now (c.at_ + c.period * 1000)

/-- COMMIT (R186, R192, R195, R199): EXECUTE takes a ns for each stitch, and COMMIT ends within the budget. -/
def State.scanCommit (s : State) : State :=
  match s.lge.scan with
  | none => s
  | some c =>
    let r := s.scanRun c
    if s.now < c.at_ + r.n ∨ c.at_ + c.budget * 1000 < s.now then s
    else
      let m := imgPut (imgPut (imgPut r.img 0 8 c.no) 8 8 c.startTai) 0x1C 4
        (b2n s.lge.overrunPrev + 2 * b2n (s.on LGE_STATUS_STALLED))
      let m := s.imgStamp m
      let s := s.onLge (fun e => { e with
        prev := e.committed, prevStart := e.lastStart, commitAt := s.now, committed := m, scan := none, lastStart := some c.at_,
        nextAt := s.afterScan c, first := false, tipin := false, overrunPrev := false, promoted := false, promotedNext := false, consec := 0 })
      let s := ((s.wr LGE_STATUS_STALLED 0).wr LGE_LAST_OVERRUN_CONSEC 0).wr LGE_SCAN_NO c.no
      let t := satNat 16 ((s.now - c.at_) / 100)
      let d := satNat 16 (c.delta / 1000)
      let s := ((((s.bump LGE_SCANS).wr LGE_SCAN_TIME_LAST t).wr LGE_SCAN_TIME_PEAK (max t (s.rd LGE_SCAN_TIME_PEAK))).wr
        LGE_SCAN_DELTA_LAST_DELTA d).wr LGE_SCAN_DELTA_MAX_DELTA (max d (s.rd LGE_SCAN_DELTA_MAX_DELTA))
      let s := (r.evts.take 64).foldl (fun s i =>
        let e := s.useEnt 0x901 i
        s.eventLogic (Ent.STI_INDEX.of e) c.startTai (Ent.STI_STABLE_ID.of e) c.no) s
      let s := if 64 < r.evts.length then (s.bumpBy LGE_EVT_DROP (r.evts.length - 64)).flag LGE_TROUBLE_EVT_DROP else s
      ((s.ctlCommit (imgY m) c.no).lgeRefresh).takeRingFaults

/-- A scan is abandoned (R205). STALLED is set, with its event, by the first scan that finds as many abandoned as OVERRUN_MAX now says. -/
def State.scanAbandon (s : State) (c : Scan) (stitch : Nat) : State :=
  let n := s.lge.consec + 1
  let s := s.onLge (fun e => { e with scan := none, consec := n, overrunPrev := true, nextAt := s.afterScan c })
  let s := ((((s.flag LGE_TROUBLE_OVERRUN).bump LGE_OVERRUNS).wr LGE_LAST_OVERRUN_STITCH stitch).wrSat LGE_LAST_OVERRUN_CONSEC n).wr
    LGE_LAST_OVERRUN_VALID 1
  let body := leBytes 8 c.no ++ leBytes 2 stitch ++ leBytes 1 (satNat 8 n)
  let s := s.eventAt 0x09 c.startTai body
  let lim := max 1 (s.rd LGE_OVERRUN_CFG_OVERRUN_MAX)
  (if lim ≤ n ∧ s.on LGE_STATUS_STALLED = false then
    ((s.wr LGE_STATUS_STALLED 1).flag LGE_TROUBLE_STALLED).eventAt 0x0A c.startTai body else s).lgeRefresh

/-- BUDGET_US runs out. -/
def State.scanExpire (s : State) (stitch : Nat) : State :=
  match s.lge.scan with
  | none => s
  | some c => if c.at_ + c.budget * 1000 ≤ s.now then s.scanAbandon c stitch else s

/-- LGE_CTRL.RESTART: it also leaves HALTED, so that the next scan can start at its time (R187). -/
def State.lgeRestartCmd (s : State) : State :=
  (s.onLge (fun e => { e with restart := true, halted := false })).lgeRefresh

/-- An uncorrectable error in the committed image: the scan in progress is abandoned and the engine halts. -/
def State.imageEcc (s : State) (stitch : Nat) : State :=
  if s.loaded = false ∨ s.lge.halted = true then s
  else
    let s := match s.lge.scan with
      | some c => s.scanAbandon c stitch
      | none => s
    (((s.onLge (fun e => { e with halted := true })).flag LGE_TROUBLE_IMAGE_ECC).event 0x0E (leBytes 8 s.lgeScanNo)).lgeRefresh

/-- LGE_CTRL.ENABLE is written. A scan that follows starts no earlier than the last start plus PERIOD_US (R187). -/
def State.lgeEnable (s : State) (en : Bool) : State := (s.wrB LGE_CTRL_ENABLE en).lgeRefresh

/-! ## Load, quires and roles (R196, R212, R213) -/

/-- A load reaches READY: the committed image holds the initial values. -/
def State.lgeReady (s : State) : State :=
  let s := s.onLge (fun e => { e with committed := imgFresh [] (s.used 0x902), scan := none, first := true, tipin := false,
                                      lastStart := none, nextAt := s.now })
  (s.onLge (fun e => { e with committed := s.imgStamp e.committed, prev := s.imgStamp e.committed })).lgeRefresh

/-- At the boundary ending a cycle the committed image becomes the quire image, with AGE_NS; a commit of this very fabric
cycle is not in it (R196). Until a promoted engine has committed, the age is that of the image it took over, run on (R213). -/
def State.lgeQuire (s : State) : State :=
  let fresh := decide (s.lge.commitAt = s.now) && decide (s.lge.commitAt ≠ 0)
  let m := if fresh then s.lge.prev else s.lge.committed
  let st := if fresh then s.lge.prevStart else s.lge.lastStart
  let age := match st, (if s.lge.promotedNext && !fresh then s.lge.imageAt else none) with
    | some t, _ => s.now - t
    | none, some t => imgGet m 0x10 8 + (s.now - t)
    | none, none => 0
  s.onLge (fun e => { e with quire := imgPut m 0x10 8 age })

/-- The fabric time at which the boundary that ended cycle `n` passed here, if it has (R213). -/
def State.boundAt (s : State) (n : Nat) : Option Nat := (s.lge.bounds.find? (fun b => b.1 == n)).map (fun b => b.2)

/-- The boundary that ends cycle `n` passes: its fabric time is noted, also for an image of that cycle that came before it. -/
def State.lgeBound (s : State) (n : Nat) : State :=
  s.onLge (fun e => { e with bounds := (n, s.now) :: e.bounds.take 63,
                             imageAt := if e.image = some n ∧ e.imageAt = none then some s.now else e.imageAt })

/-- The logic image of quire `n` reaches the engine in SHADOW (R212). -/
def State.lgeInstall (s : State) (m : Store) (n : Nat) : State :=
  if s.lgeRole then s
  else if imgDigest m = s.lge.digest.take 32 then
    (s.onLge (fun e => { e with committed := m, image := some n, imageAt := s.boundAt n, first := false })).lgeRefresh
  else if s.lge.digestRetired ≠ [] ∧ imgDigest m = s.lge.digestRetired.take 32 then
    let m := imgPutY m (match s.lge.objsRetired with | none => imgY m | some objs => moveY (imgY m) objs (s.used 0x1601))
    let (m, dropped) := carryImage m s.lge.idsRetired (s.used 0x902)
    let s := s.onLge (fun e => { e with committed := s.imgStamp m, image := some n, imageAt := s.boundAt n, first := false })
    (dropped.foldl (fun s i => (s.event 0x0C (leBytes 4 i ++ List.replicate 8 0#8 ++ leBytes 8 s.lgeScanNo)).flag
      LGE_TROUBLE_FORCE_DROPPED) s).lgeRefresh
  else s.flag LGE_TROUBLE_IMAGE_REFUSED

/-- The engine leaves SHADOW at a promotion (R213). The image that it holds is the committed image, so that BLOCK and the edges of
AUTO_OPEN and AUTO_CLOSE are taken against it (R219, R222). -/
def State.lgePromote (s : State) : State :=
  ((s.onLge (fun e => { e with promoted := true, promotedNext := e.image.isSome, nextAt := s.now })).onCtl
    (fun e => { e with y := imgY s.lge.committed })).lgeRefresh

/-- The engine enters SHADOW at a withdrawal: it runs no scan (R212, R367). A force that waits ends STANDBY. -/
def State.lgeShadow (s : State) : State :=
  let s := s.onLge (fun e => { e with scan := none, image := none, imageAt := none, lastStart := none })
  let s := if s.lge.force.isSome then
      (s.onLge (fun e => { e with force := none })).finish LGE_FORCE_STATUS_BUSY LGE_FORCE_STATUS_DONE LGE_FORCE_STATUS_RESULT 5
    else s
  (s.lgeFlips s.lgeScanNo).lgeRefresh

/-- Row `r` of the image table 0x0904. -/
def State.imgRow (s : State) (r : Nat) : Nat := imgGet s.lge.committed (16 * r) 16

/-! ## CHECK of LOGC (R188, R198, R200) -/

/-- Spaces that an opcode permits, and which of INDEX and IMM it uses beside its operand: code 0 none, 1 boolean operand,
2 boolean destination, 3 one element space, 4 integer operand, 5 W destination, 6 INDEX alone. -/
def opShape : Nat → Option (Nat × List Nat)
  | 0x00 => some (0, []) | 0x01 => some (1, [0, 1, 2, 3, 5, 6, 9]) | 0x02 => some (1, [0, 1, 2, 3, 5, 6, 9])
  | 0x03 => some (1, [0, 1, 2, 3, 5, 6, 9]) | 0x04 => some (1, [0, 1, 2, 3, 5, 6, 9]) | 0x05 => some (1, [0, 1, 2, 3, 5, 6, 9])
  | 0x06 => some (0, []) | 0x07 => some (0, []) | 0x08 => some (0, [])
  | 0x10 => some (2, [1, 3]) | 0x11 => some (2, [1, 3]) | 0x12 => some (2, [1, 3])
  | 0x18 => some (3, [5]) | 0x19 => some (3, [6]) | 0x1A => some (3, [6]) | 0x1B => some (3, [6])
  | 0x1C => some (3, [7]) | 0x1D => some (3, [7])
  | 0x20 => some (4, [0, 4, 6, 8]) | 0x21 => some (4, [0, 4, 6, 8]) | 0x22 => some (4, [0, 4, 6, 8])
  | 0x23 => some (4, [0, 4, 6, 8]) | 0x24 => some (5, [4]) | 0x25 => some (4, [0, 4, 6, 8])
  | 0x28 => some (4, [0, 4, 6, 8]) | 0x29 => some (4, [0, 4, 6, 8]) | 0x2A => some (4, [0, 4, 6, 8])
  | 0x2B => some (4, [0, 4, 6, 8]) | 0x2C => some (4, [0, 4, 6, 8]) | 0x2D => some (4, [0, 4, 6, 8])
  | 0x30 => some (6, []) | 0x31 => some (6, []) | 0x3F => some (0, [])
  | _ => none

/-- Size of a space, and the identity kind that an index of it must name (0 for none). -/
def spaceSize : Nat → Nat × Nat
  | 1 => (16384, 1) | 2 => (8448, 0) | 3 => (16384, 0) | 4 => (4096, 2) | 5 => (1024, 3) | 6 => (512, 4) | 7 => (2048, 5)
  | 8 => (2048, 0) | 9 => (2048, 0) | _ => (0, 0)

/-- Whether a stitch is well formed: the first two points of R198, and a SKIP over no stitch. Reserved bits are fields that no opcode
uses. -/
def stitchOk (ids : Store) (e : Nat) : Bool :=
  let i := Ent.STI_INDEX.of e
  let sp := Ent.STI_SPACE.of e
  match opShape (Ent.STI_OP.of e) with
  | none => false
  | some (c, sps) =>
    decide (bits e 32 32 = 0 ∧ bits e 77 3 = 0) && (decide (c = 1) || !Ent.STI_INV.on e) &&
    (decide (Ent.STI_OP.of e ≠ 0x30) || decide (i ≠ 0)) &&
    (if c = 0 then decide (sp = 0 ∧ i = 0 ∧ Ent.STI_IMM.of e = 0)
     else if c = 6 then decide (sp = 0 ∧ Ent.STI_IMM.of e = 0)
     else sps.contains sp &&
      (if sp = 0 then decide (i = 0)
       else decide (Ent.STI_IMM.of e = 0) && decide (i < (spaceSize sp).1) &&
        (decide ((spaceSize sp).2 = 0) || decide (identOf ids (spaceSize sp).2 i ≠ 0))))

/-- Stack depth after a stitch, if it neither overflows nor pops an empty stack. -/
def stackAfter (op d : Nat) : Option Nat :=
  if op = 5 then (if d < 8 then some (d + 1) else none)
  else if op = 6 ∨ op = 7 then (if 0 < d then some (d - 1) else none)
  else some d

/-- The stack depth before each stitch from `pc` to `last`, with the depth required where a SKIP lands (R198, third and
fourth points); `lands` lists the landing places and depths still ahead. -/
def flowOk (prog : Store) (last : Nat) : Nat → Nat → Nat → List (Nat × Nat) → Bool
  | 0, _, _, _ => false
  | fuel + 1, pc, d, lands =>
    if lands.any (fun l => decide (l.1 = pc) && decide (l.2 ≠ d)) then false
    else if pc = last then true
    else
      let e := prog.get pc 0
      match stackAfter (Ent.STI_OP.of e) d with
      | none => false
      | some d' =>
        if Ent.STI_OP.of e = 0x30 then
          let k := Ent.STI_INDEX.of e
          decide (k ≠ 0) && decide (pc + k < last) && flowOk prog last fuel (pc + 1) d' ((pc + 1 + k, d') :: lands)
        else flowOk prog last fuel (pc + 1) d' lands

/-- Whether at most one stitch of a set of opcodes names each index. -/
def onceOk (prog : Store) (ops : List Nat) : Bool :=
  noTwins prog (fun e => ops.contains (Ent.STI_OP.of e)) (fun e => Ent.STI_INDEX.of e)

/-- Whether an identity entry is well formed (R200). -/
def identOk (e : Nat) : Bool :=
  let k := Ent.IDN_KIND.of e
  let i := Ent.IDN_INDEX.of e
  decide (1 ≤ k ∧ k ≤ 5) &&
  decide (i < (if k = 1 then 16384 else if k = 2 then 4096 else if k = 3 then 1024 else if k = 4 then 512 else 2048)) &&
  (decide (k ≠ 3) || (decide (Ent.IDN_TMODE.of e ≠ 3) && decide (Ent.IDN_PRESET.of e ≠ 0)))

/-- The CHECK of LOGC on a program, an identity table and scan settings in µs; unused entries run as NOP (R44). -/
def logcOk (prog ids : Store) (period budget : Nat) : Bool :=
  let used := prog.filter (fun e => decide (Ent.STI_STABLE_ID.of e.2 ≠ 0))
  let idents := ids.filter (fun e => decide (Ent.IDN_STABLE_ID.of e.2 ≠ 0))
  decide (10 ≤ budget ∧ budget ≤ 65535) && (decide (period = 0) || decide (budget < period)) &&
  idents.all (fun e => identOk e.2) &&
  noTwins idents (fun _ => true) (fun e => Ent.IDN_KIND.of e * 16384 + Ent.IDN_INDEX.of e) &&
  used.all (fun e => stitchOk idents e.2) &&
  onceOk used [0x18] && onceOk used [0x1C, 0x1D] && onceOk used [0x19] && onceOk used [0x1A] &&
  (match used.find? (fun e => decide (Ent.STI_OP.of e.2 = 0x3F)) with
   | none => false
   | some e => flowOk used e.1 (e.1 + 1) 0 0 [])

end Sys2Proof.Machine
end

