-- ==== Sys2Proof/Machine/GthOps.lean ====
section
/-! DEFINITION. The gathering engine: capture, trigger sequencers, drain, the store and the gathering format (chapter
"Gatherings", R338-R361). Readings of the chapter that its words leave open are in log entry 27. -/

namespace Sys2Proof.Machine

open Sys2Proof Reg

/-! ## Configurations (R338, R341) -/

/-- KIND and DEF of an entry of the gathering table. -/
def gKind (e : Nat) : Nat := bits e 32 4
def gDef (e : Nat) : Nat := bits e 36 3

/-- The entries of a kind of a definition, by the ORDER of each. -/
def gPick (tab : Store) (d kind : Nat) (ord : Bits) (n step : Nat) : List Nat :=
  let es := (tab.filter (fun e => decide (gKind e.2 = kind) && decide (gDef e.2 = d))).map (fun e => e.2)
  (List.range n).map (fun i => (es.find? (fun e => decide (ord.of e = i * step))).getD 0)

/-- The source of an analogue channel: 0 a channel slot, 1 FINE and 2 FAST of an instance (R338). -/
def State.gSrc (s : State) (kind src : Nat) : FSrc :=
  if kind = 0 then
    match ownerOf (s.used 0x201) src with
    | some (i, c) => .chan i (src - Ent.CTX_SLOT_BASE.of c) 1
    | none => .none
  else .inst src (decide (kind = 2))

/-- The configurations of the definitions in the running gathering table (R44, R338). -/
def State.gCfgs (s : State) : List GCfg :=
  let tab := s.used 0x1002
  (tab.filter (fun e => decide (gKind e.2 = 1))).map (fun x =>
    let e := x.2
    let c := (s.used 0x201).get (Ent.GATH_REF_STREAM.of e) 0
    let chans := gPick tab (gDef e) 2 Ent.GATH_ORDER (Ent.GATH_ANALOGUE.of e) 1
    { ent := e, chans := chans, groups := gPick tab (gDef e) 3 Ent.GATH_ORDER2 (Ent.GATH_BINARY.of e / 8) 8,
      ref := Ent.GATH_REF_STREAM.of e, rate := Ent.CTX_RATE.of c, sc := Ent.CTX_SETS_PER_CYCLE.of c,
      srcs := chans.map (fun k => s.gSrc (Ent.GATH_SRC_KIND.of k) (Ent.GATH_SRC.of k)) })

/-- A divided by b, rounded up. -/
def ceilDiv (a b : Nat) : Nat := (a + b - 1) / b

/-- P of R341. -/
def posSize (a b : Nat) : Nat := 64 * ceilDiv (16 + 4 * a + 4 * ceilDiv a 16 + 4 * ceilDiv b 32) 64

def GCfg.a (c : GCfg) : Nat := Ent.GATH_ANALOGUE.of c.ent
def GCfg.b (c : GCfg) : Nat := Ent.GATH_BINARY.of c.ent
def GCfg.p (c : GCfg) : Nat := posSize c.a c.b
def GCfg.num (c : GCfg) : Nat := gDef c.ent
def GCfg.line (c : GCfg) : Nat × Nat × Nat := (c.ref, c.rate, c.sc)
def GCfg.head (c : GCfg) : Nat := Ent.GATH_HEAD.of c.ent
def GCfg.tail (c : GCfg) : Nat := Ent.GATH_TAIL.of c.ent
def GCfg.area (c : GCfg) : Nat := Ent.GATH_AREA_MIB.of c.ent * 2 ^ 20
def GCfg.sid (c : GCfg) : Nat := c.ent % 2 ^ 32
def GCfg.on (c : GCfg) : Bool := Ent.GATH_ENABLE.on c.ent

/-- The instant of a stream position, in TAI ns (R86). -/
def instantOf (rate n : Nat) : Nat := n / rate * 1000000000 + n % rate * 1000000000 / rate

/-- The first position of a stream after the present time. -/
def State.nextPos (s : State) (rate : Nat) : Nat := s.taiNs * rate / 1000000000 + 1

/-- The definition at place `d`, and its replacement. -/
def State.gdef (s : State) (d : Nat) : GDef := getNum {} s.gth.defs d
def State.setGdef (s : State) (d : Nat) (x : GDef) : State := s.onGth (fun g => { g with defs := putNum g.defs d x })

/-- The places of the definitions. -/
def State.gPlaces (s : State) : List Nat := s.gth.defs.map (fun x => x.1)

/-- The sequencer at place `q`, and its replacement. -/
def State.gseq (s : State) (q : Nat) : GSeq := getNum {} s.gth.seqs q
def State.setGseq (s : State) (q : Nat) (x : GSeq) : State := s.onGth (fun g => { g with seqs := putNum g.seqs q x })

/-- The number k of a position, counted from the definition's enable (R339). -/
def GDef.num (x : GDef) (n : Nat) : Nat :=
  match x.bases.find? (fun b => decide (b.2 ≤ n)) with
  | some b => b.1 + (n - b.2)
  | none => 0

/-! ## Protected bytes (R352) -/

/-- The first protected byte of an area, counted like `wr`. -/
def State.gProt (s : State) (d : Nat) : Nat :=
  match s.gth.open_.find? (fun g => decide (g.cfg.sid = (s.gdef d).cfg.sid)) with
  | some g => g.off
  | none => (s.gdef d).wr

/-- Free room in an area. -/
def State.gFree (s : State) (d : Nat) : Nat := (s.gdef d).cfg.area - ((s.gdef d).wr - s.gProt d)

/-! ## Registers that show the engine -/

/-- The place whose definition the registers of number `k` show: of two that bear it during a tip-in, the one that stays. -/
def State.gShown (s : State) (k : Nat) : Option Nat :=
  let l := s.gth.defs.filter (fun x => x.2.cfg.on && decide (x.2.cfg.num = k))
  ((l.find? (fun x => x.2.next.isNone)).orElse (fun _ => l.head?)).map (fun x => x.1)

/-- Refresh the registers of definition `k`. -/
def State.gShowDef (s : State) (k : Nat) : State :=
  match s.gShown k with
  | none => (s.wrI GTH_D_STATE k 0).wrI GTH_D_UNDRAINED_UNDRAINED_KIB k 0
  | some d =>
    let x := s.gdef d
    ((((s.wrI GTH_D_STATE k x.st).wrI GTH_D_POS k (x.num x.n - 1)).wrI GTH_D_FILL_FILL_START k (x.num x.fill)).wrI
      GTH_D_UNDRAINED_UNDRAINED_KIB k ((x.wr - s.gProt d) / 1024))

/-- Refresh the registers of sequencer `k`. -/
def State.gShowSeq (s : State) (k : Nat) : State :=
  let x := (((s.gth.seqs.find? (fun e => decide (e.2.num = k))).map (fun e => e.2)).getD {} : GSeq)
  (((s.wrI GTH_S_STATE k x.st).wrBI GTH_S_STATE_TIMER_RUN k x.run).wrI GTH_S_STATE_COUNT k x.count).wrI GTH_S_TIMER_TIMER_LEFT k x.left

/-- Bytes in the NAND store, of its 128 GiB. -/
def State.gUsed (s : State) : Nat := s.gth.stored.foldl (fun n g => n + g.2.length) 0
def State.gRoom (s : State) : Nat := 137438953472 - s.gUsed

/-- The store has less than 64 KiB free, or its index is full (R353). -/
def State.gFull (s : State) : Bool := decide (s.gRoom < 65536) || decide (65536 ≤ s.gth.stored.length)

/-- The next gathering of a channel: the lowest SEQ not fully drained whose definition drains there (R351). -/
def State.gHead (s : State) (host : Bool) : Option Gath :=
  s.gth.open_.find? (fun g => decide (Ent.GATH_DEST.on g.cfg.ent = host))

/-- Refresh the module-wide registers. -/
def State.gShow (s : State) : State :=
  let s := (List.range 16).foldl State.gShowSeq ((List.range 8).foldl State.gShowDef s)
  let nand := (s.gHead false).isSome && !s.gFull && !s.on GTH_STATUS_STORE_SCANNING
  let s := (((s.wrB GTH_STATUS_RUNNING (s.loaded && s.on GTH_CTRL_ENABLE)).wrB GTH_STATUS_STORE_FULL s.gFull).wrB GTH_STATUS_NAND_BUSY
    nand).wrB GTH_STATUS_HOST_BUSY (s.on GTH_CTRL_HOST_EN && (s.gth.host.isSome || (s.gHead true).isSome))
  let s := s.wr GTH_STATUS_CAPTURING (s.gth.defs.filter (fun x => decide (x.2.st = 3))).length
  (s.wr GTH_STORE_OLDEST (((s.gth.stored.head?).map (fun g => g.1)).getD 0)).wr GTH_STORE_FREE_FREE_MIB (s.gRoom / 2 ^ 20)

/-- The GATHERING event (R361). -/
def State.gEvent (s : State) (kind d q cause seq tp positions gaps : Nat) : State :=
  s.event 0x16 (leBytes 1 kind ++ leBytes 1 d ++ leBytes 1 q ++ leBytes 1 cause ++ leBytes 4 0 ++ leBytes 8 seq ++ leBytes 8 tp ++
    leBytes 4 positions ++ leBytes 4 gaps)

/-! ## Values at a position (R339, R341, R342) -/

/-- The latest output of an instance whose sampling instant is at or before that of position `n` (R339). -/
def FInst.outUpTo (x : FInst) (sc n : Nat) : Option (Nat × Nat) :=
  x.out.foldl (fun b o =>
    let p := o.cycle * sc + o.slot % 16
    if n < p then b
    else match b with
      | some (q, _) => if q < p then some (p, o.entry) else b
      | none => some (p, o.entry)) none

/-- A position of a stream whose set is out of the window, or never comes because the stream is disabled or gone. -/
def State.gNoSet (s : State) (i sc n : Nat) : Bool :=
  decide (n / sc + 63 < s.horizon) || decide (n / sc < (s.stream i).expired) ||
    ((s.svAt i n).isNone && (decide (512 ≤ i) || !s.ctxOn i))

/-- Value, validity code and UNSYNCED of an analogue source at a position of a stream with `sc` sets a cycle; `none` while it is not
delivered. -/
def State.gChan (s : State) (src : FSrc) (sc n : Nat) : Option (Int × Nat × Bool) :=
  match src with
  | .none => some (0, 1, false)
  | .chan i off _ =>
    if s.gNoSet i sc n then some (0, 1, false)
    else match s.svAt i n with
      | none => none
      | some x =>
        if s.svDelivered i x then
          let v := slotChan x off
          some (v.1, v.2 % 4, x.unsynced)
        else none
  | .inst i fast =>
    match s.inst i with
    | none => some (0, 1, false)
    | some x =>
      match x.pos with
      | some p =>
        if p ≤ n then none
        else match x.outUpTo x.sc n with
          | none => some (0, 1, false)
          | some (_, o) =>
            let bad := if fast then Ent.OUT_FAST_INVALID.on o else Ent.OUT_INVALID.on o
            let v := signed 32 (if fast then Ent.OUT_FAST.of o else Ent.OUT_FINE.of o)
            some (v, if bad then 1 else if Ent.OUT_QUESTIONABLE.on o || Ent.OUT_SETTLING.on o then 3 else 0, false)
      | none => none

/-- Every analogue channel of a configuration at a position, once all are delivered. -/
def State.gChans (s : State) (sc n : Nat) : List FSrc → Option (List (Int × Nat × Bool))
  | [] => some []
  | e :: es =>
    match s.gChan e sc n, s.gChans sc n es with
    | some v, some vs => some (v :: vs)
    | _, _ => none

/-- A boolean input: 0 V, 1 Y, 2 DT line, 3 backstop trip, 4 backstop start. -/
def State.gBool (s : State) (src i : Nat) : Bool :=
  match src with
  | 0 => imgBit s.lge.committed 0xB00 i
  | 1 => imgBit s.lge.committed 0x300 i
  | 2 => bitAt (s.rd FLT_DT_STATE_LINE) i
  | 3 => bitAt (s.rd FLT_BKST_TRIP) i
  | _ => bitAt (s.rd FLT_BKST_START) i

/-- The binary channels of a configuration as one number, channel j in bit j. -/
def State.gBits (s : State) (c : GCfg) : Nat :=
  (List.range c.b).foldl (fun v j =>
    let code := bits (c.groups.getD (j / 8) 0) (64 + 16 * (j % 8)) 16
    if code ≠ 0xFFFF ∧ s.gBool (code / 16384) (code % 16384) = true then v + 2 ^ j else v) 0

/-- Whether the reference set of a position has been delivered, and its epoch; 2^64 stands for a set that has left the
window or never comes. -/
def State.gRefSet (s : State) (c : GCfg) (n : Nat) : Option Nat :=
  if s.gNoSet c.ref c.sc n then some (2 ^ 64)
  else match s.svAt c.ref n with
    | some x => if s.svDelivered c.ref x then some x.epoch else none
    | none => none

/-- The first position of a configuration's timeline whose reference set has an epoch at or above BND_TIP_EPOCH, or will have
(R360): every set placed before the flip has an earlier one. -/
def State.firstTip (s : State) (c : GCfg) : Nat :=
  let first := max (s.stream c.ref).expired (s.horizon - 63) * c.sc
  (((List.range (64 * c.sc)).map (fun k => first + k)).find? (fun n =>
    match s.svAt c.ref n with
    | some x => decide (s.rd BND_TIP_EPOCH ≤ x.epoch)
    | none => true)).getD (s.nextPos c.rate)

/-- The position record of R341. -/
def gRecord (c : GCfg) (rate n k bin : Nat) (vs : List (Int × Nat × Bool)) : List Byte :=
  let flags := b2n (vs.any (fun v => decide (v.2.1 = 1 ∨ v.2.1 = 2))) + 2 * b2n (vs.any (fun v => decide (v.2.1 = 3))) +
    4 * b2n (vs.any (fun v => v.2.2))
  let val := vs.foldr (fun v a => v.2.1 + 4 * a) 0
  let body := leBytes 8 (instantOf rate n) ++ leBytes 2 (n % rate) ++ leBytes 2 flags ++ leBytes 4 k ++
    vs.flatMap (fun v => leBytes 4 (unsigned 32 v.1)) ++ leBytes (4 * ceilDiv c.a 16) val ++ leBytes (4 * ceilDiv c.b 32) bin
  body ++ List.replicate (c.p - body.length) 0

/-! ## The end of a gathering (R348, R355) -/

/-- Replace the open gathering with a SEQ. -/
def State.modGath (s : State) (seq : Nat) (f : Gath → Gath) : State :=
  s.onGth (fun g => { g with open_ := g.open_.map (fun x => if x.seq = seq then f x else x) })

/-- Positions of a gathering that no record holds (R358). -/
def Gath.gaps (g : Gath) : Nat := g.count - (g.recs.filter (fun r => !r.gap)).length

/-- The gathering in capture of a definition ends with a cause: COMPLETE at its last position, else at the last position
captured. The definition's own state is the caller's. -/
def State.gEnd (s : State) (d cause : Nat) : State :=
  let x := s.gdef d
  match x.cur with
  | none => s
  | some q =>
    match s.gth.open_.find? (fun g => decide (g.seq = q)) with
    | none => s
    | some g =>
      let last := g.tp + g.cfg.tail
      let written := (((x.recs.reverse.find? (fun r => !r.gap)).map (fun r => r.n + 1)).getD x.n)
      let stop := if cause = 0 then last else min last (if cause = 1 then written else x.n)
      let g := { g with ended := true, cause := cause, count := stop - g.first,
                        recs := x.recs.filter (fun r => decide (g.first ≤ r.n) && decide (r.n < stop)),
                        step := g.step || x.steps.any (fun n => decide (g.first < n) && decide (n < stop)) }
      let s := (s.setGdef d { x with cur := none }).modGath q (fun _ => g)
      let s := s.flagIf (decide (cause = 2)) GTH_TROUBLE_SUPPLY_CUT
      s.gEvent 2 g.d g.sqr cause q (instantOf g.rate g.tp) g.count g.gaps

/-- A definition goes to FILLING with a fill start (R348). -/
def State.gFill (s : State) (d n : Nat) : State :=
  let x := s.gdef d
  s.setGdef d { x with st := 1, fill := n }

/-! ## Enable and configuration (R348, R360) -/

/-- Whether a definition that runs is one of a sequencer's targets. -/
def GSeq.aims (q : GSeq) (x : GDef) : Bool := decide (x.st ≠ 0) && bitAt (Ent.SEQ_TARGETS.of (q.rows.get 0 0)) x.cfg.num

/-- The running definition whose positions a sequencer follows: the lowest-numbered of its targets (R345). -/
def State.gTimeline (s : State) (q : GSeq) : Option GDef :=
  if Ent.SEQ_ENABLE.on (q.rows.get 0 0) then
    (s.gth.defs.filter (fun x => q.aims x.2)).foldl (fun b x => match b with
      | none => some x.2
      | some y => if x.2.cfg.num < y.cfg.num then some x.2 else b) none
  else none

/-- The waiting rows of a sequencer take effect: its current state keeps its place by stable identity, or the sequencer
returns to state 0 (R57, R360). -/
def GSeq.apply (q : GSeq) : GSeq :=
  match q.next with
  | none => q
  | some (num, rows, srcs) =>
    let y : GSeq := { q with num := num, rows := rows, srcs := srcs, next := none }
    match findStable rows (q.rows.get q.st 0 % 2 ^ 32) with
    | some (i, _) => { y with st := i }
    | none => { y with st := 0, run := false, left := 0, count := 0 }

/-- A sequencer follows its timeline: it starts at the timeline's next position, stops where none runs, and what has no running
timeline changes at once (R345, R360). -/
def State.gFollow (s : State) (q : GSeq) : GSeq :=
  match s.gTimeline q with
  | some x => if q.n.isSome && decide (q.line = x.cfg.line) then q else { q with n := some x.n, line := x.cfg.line }
  | none =>
    let y : GSeq := { q with n := none }.apply
    match s.gTimeline y with
    | some x => { y with n := some (if q.next.isSome then max x.n (s.firstTip x.cfg) else x.n), line := x.cfg.line }
    | none => y

/-- Every sequencer follows its timeline. -/
def State.gRetime (s : State) : State :=
  s.onGth (fun g => { g with seqs := g.seqs.map (fun q => (q.1, s.gFollow q.2)) })

/-- A definition that is OFF starts at a position, where it is enabled and the engine runs (R348). -/
def State.gStart (s : State) (d n : Nat) : State :=
  let x := s.gdef d
  if x.st = 0 ∧ x.cfg.on = true ∧ s.loaded = true ∧ s.on GTH_CTRL_ENABLE = true ∧ x.cfg.rate ≠ 0 ∧ x.cfg.sc ≠ 0 then
    (s.setGdef d { x with st := 1, n := n, fill := n, gutter := 0, bases := [(0, n)], gap := none, steps := [] }).gRetime
  else s

/-- A waiting configuration takes effect at a position of its definition (R360): SAME never waits; CHANGED lets a gathering
in capture complete; a definition that is gone ends it with cause TIPIN. -/
def State.gApply (s : State) (d : Nat) : State :=
  let x := s.gdef d
  match x.next with
  | none => s
  | some c =>
    if x.cur.isSome ∧ c.sid = x.cfg.sid then s
    else
      let s := s.gEnd d 3
      let x := s.gdef d
      let y : GDef := { x with cfg := c, next := none, gap := none }
      if c.on = true ∧ x.st ≠ 0 ∧ x.cfg.line = c.line then
        (s.setGdef d { y with st := if x.st = 5 ∨ x.st = 6 then x.st else 1, fill := x.n, gutter := 0 }).gRetime
      else
        let s := s.setGdef d (if c.on then { y with st := 0 } else if c.ent = 0 then {} else { cfg := c, wr := x.wr, recs := x.recs })
        (s.gStart d (s.firstTip c)).gRetime

/-- A definition stops: a gathering in capture ends with a cause (R348). -/
def State.gStop (s : State) (d cause : Nat) : State :=
  let s := s.gEnd d cause
  let x := s.gdef d
  ((s.setGdef d { x with st := 0, gap := none }).gApply d).gRetime

/-- GTH_CTRL.ENABLE is written (R348). -/
def State.gthEnable (s : State) (en : Bool) : State :=
  let s := s.wrB GTH_CTRL_ENABLE en
  (s.gPlaces.foldl (fun s d => if en then s.gStart d (s.nextPos (s.gdef d).cfg.rate) else s.gStop d 5) s).gShow

/-- The rows of sequencer `q` in a sequencer table. -/
def seqRows (tab : Store) (q : Nat) : Store :=
  (tab.filter (fun e => decide (e.1 / 32 = q) && decide (e.2 % 2 ^ 32 ≠ 0))).map (fun e => (e.1 % 32, e.2))

/-- Fields of a transition word (R344). -/
def trCond (t : Nat) : Nat := bits t 0 3
def trNext (t : Nat) : Nat := bits t 3 5
def trCmp (t : Nat) : Nat := bits t 12 3
def trKind (t : Nat) : Nat := bits t 15 3
def trIndex (t : Nat) : Nat := bits t 18 14

/-- The number of an input of a transition: its kind and its index. -/
def inNum (t : Nat) : Nat := trKind t * 16384 + trIndex t

/-- The transitions of a sequencer that test an input. -/
def seqTests (rows : Store) : List Nat :=
  rows.flatMap (fun e => [Ent.SEQ_TRANS_A.of e.2, Ent.SEQ_TRANS_B.of e.2].filter (fun t => decide (trCond t = 1)))

/-- The sources of the numeric inputs of a sequencer's rows: kind 0 FINE, 1 FAST, 2 a channel slot (R344). -/
def State.seqSrcs (s : State) (rows : Store) : List (Nat × FSrc) :=
  ((seqTests rows).filter (fun t => decide (trKind t < 3))).map (fun t => (inNum t, s.gSrc ((trKind t + 1) % 3) (trIndex t)))

/-- The configuration in force follows the tables: at a load that reaches READY. -/
def State.gthReady (s : State) : State :=
  let cfgs := s.gCfgs.filter GCfg.on
  let seqs := s.used 0x1001
  let s := s.onGth (fun g => { g with
    defs := cfgs.foldl (fun l c => putNum l c.num { cfg := c }) [],
    seqs := (List.range 16).map (fun q => (q, { num := q, rows := seqRows seqs q, srcs := s.seqSrcs (seqRows seqs q) })) })
  (s.gPlaces.foldl (fun s d => s.gStart d (s.nextPos (s.gdef d).cfg.rate)) s).gShow

/-- The stable identity of a sequencer's current state. -/
def GSeq.sid (q : GSeq) : Nat := q.rows.get q.st 0 % 2 ^ 32

/-- The place of the running sequencer that goes on as number `k` of a new table: the one whose current state stands there now,
else the one that bore the number and whose current state stands nowhere (R57, R360). -/
def State.seqHeir (s : State) (tab : Store) (k : Nat) : Option Nat :=
  let l := s.gth.seqs.filter (fun q => (findStable (seqRows tab k) q.2.sid).isSome)
  (((l.find? (fun q => decide (q.2.num = k))).orElse (fun _ => l.head?)).orElse (fun _ =>
    s.gth.seqs.find? (fun q => decide (q.2.num = k) && (findStable tab q.2.sid).isNone))).map (fun q => q.1)

/-- What a flip brings sequencer number `k` (R360): the sequencer that goes on waits for its position of effect; where none goes on, a
new one starts. -/
def State.seqFlip (s : State) (tab : Store) (heirs : List (Nat × Nat)) (k : Nat) : State :=
  let rows := seqRows tab k
  let srcs := s.seqSrcs rows
  match heirs.find? (fun h => decide (h.2 = k)) with
  | some (i, _) =>
    let x := s.gseq i
    s.setGseq i { x with next := if x.num = k ∧ x.rows = rows ∧ x.srcs = srcs then none else some (k, rows, srcs) }
  | none =>
    if rows = [] then s
    else
      let i := s.gth.seqs.foldl (fun m q => max m (q.1 + 1)) 0
      let y : GSeq := { num := k, next := some (k, rows, srcs) }
      s.setGseq i y

/-- The flip of a tip-in that touches the data path, TRIG or GATH: each definition and sequencer is told what its position of
effect will bring, by stable identity (R57, R360); `streams` and `insts` say where each stream and instance stands now. What has
no running timeline changes at once. -/
def State.gthFlip (s : State) (streams insts : Nat → Nat) : State :=
  let mv (c : GCfg) : GCfg := { c with ref := streams c.ref, srcs := c.srcs.map (fun x => x.move streams insts) }
  let mvs (l : List (Nat × FSrc)) : List (Nat × FSrc) := l.map (fun e => (e.1, e.2.move streams insts))
  let s := s.onGth (fun g => { g with
    defs := g.defs.map (fun x => (x.1, { x.2 with cfg := mv x.2.cfg, next := x.2.next.map mv })),
    seqs := g.seqs.map (fun q => (q.1, { q.2 with srcs := mvs q.2.srcs, line := (streams q.2.line.1, q.2.line.2),
                                                  next := q.2.next.map (fun n => (n.1, n.2.1, mvs n.2.2)) })) })
  let cfgs := s.gCfgs
  let held := s.gth.defs.map (fun x => x.2.cfg.sid)
  let s := s.gPlaces.foldl (fun s d =>
    let x := s.gdef d
    if x.cfg.ent = 0 then s
    else
      let c := (cfgs.find? (fun c => decide (c.sid = x.cfg.sid))).getD {}
      let s := s.setGdef d { x with next := if c = x.cfg then none else some c }
      if x.st = 0 then s.gApply d else s) s
  let tab := s.used 0x1001
  let heirs := (List.range 16).filterMap (fun k => (s.seqHeir tab k).map (fun i => (i, k)))
  let s := s.onGth (fun g => { g with seqs := g.seqs.map (fun q =>
    if heirs.any (fun h => h.1 == q.1) then q else (q.1, { q.2 with next := some (q.2.num, [], []) })) })
  let s := ((List.range 16).foldl (fun s k => s.seqFlip tab heirs k) s).gRetime
  ((cfgs.filter (fun c => c.on && !held.contains c.sid)).foldl (fun s c =>
    let d := ((List.range 64).find? (fun k => decide ((s.gdef k).cfg.ent = 0))).getD 64
    (s.setGdef d { cfg := c }).gStart d (s.firstTip c)) s).gShow

/-! ## Capture (R342, R348, R352) -/

/-- A record joins an area, and records that it overwrites leave it. -/
def State.gWrite (s : State) (d : Nat) (r : GRec) : State :=
  let x := s.gdef d
  let wr := x.wr + r.bytes.length
  let recs := (x.recs ++ [r]).filter (fun q => decide (wr ≤ q.off + x.cfg.area))
  s.setGdef d { x with wr := wr, recs := recs }

/-- A position passes. -/
def State.gPass (s : State) (d : Nat) : State :=
  let x := s.gdef d
  let lo := ((x.recs.head?).map (fun r => r.n)).getD x.n
  s.setGdef d { x with n := x.n + 1, steps := x.steps.filter (fun n => decide (lo < n)) }

/-- Whether a definition's state has followed every position captured so far (R348): no change of state is due. -/
def State.gSettled (s : State) (d : Nat) : Bool :=
  let x := s.gdef d
  !((decide (x.st = 1) && x.gap.isNone && decide (x.fill + x.cfg.head ≤ x.n)) ||
    (decide (x.st = 4) && decide (x.gutter + Ent.GATH_GUTTER.of x.cfg.ent ≤ x.n)) ||
    s.gth.open_.any (fun g => decide (x.cur = some g.seq) && decide (g.tp + g.cfg.tail ≤ x.n)))

/-- Position `n` with its values is captured in a definition that writes (R341, R352). -/
def State.gTake (s : State) (d : Nat) (vs : List (Int × Nat × Bool)) : State :=
  let x := s.gdef d
  let r : GRec := { off := x.wr, n := x.n, bytes := gRecord x.cfg x.cfg.rate x.n (x.num x.n) (s.gBits x.cfg) vs,
                    vals := vs.map (fun v => (v.1, v.2.1)), act := s.isActive, tv := s.on TIM_STATUS_TIME_VALID,
                    utc := s.rd TIM_UTC_OFFSET_OFFSET_S }
  if x.gap.isSome then ((s.bump GTH_GAP_POSITIONS).gPass d)
  else if x.cfg.p ≤ s.gFree d then (s.gWrite d r).gPass d
  else if Ent.GATH_OVERFLOW.on x.cfg.ent then
    (((s.setGdef d { x with gap := some x.n }).flag GTH_TROUBLE_GAP).bump GTH_GAP_POSITIONS).gPass d
  else
    let s := (s.gEnd d 1).bump GTH_OVERFLOWS |>.flag GTH_TROUBLE_OVERFLOW
    let y := s.gdef d
    (s.setGdef d { y with st := 5 }).gPass d

/-- Capture of a definition's next position, once every analogue source and the reference set are delivered (R342). PAUSED
and SUSPENDED let positions pass. -/
def State.gthCapture (s : State) (d : Nat) : State :=
  let x := s.gdef d
  if x.st = 0 ∨ s.gSettled d = false then s
  else match s.gRefSet x.cfg x.n, s.gChans x.cfg.sc x.n x.cfg.srcs with
    | some e, some vs =>
      if x.next.isSome && decide (s.rd BND_TIP_EPOCH ≤ e) && !(x.cur.isSome && decide ((x.next.map GCfg.sid) = some x.cfg.sid)) then
        let s := s.gApply d
        let y := s.gdef d
        if y.st = 0 ∨ y.n ≠ x.n then s.gShow
        else match s.gChans y.cfg.sc y.n y.cfg.srcs with
          | some vs => (if y.st = 5 ∨ y.st = 6 then s.gPass d else s.gTake d vs).gShow
          | none => s.gShow
      else (if x.st = 5 ∨ x.st = 6 then s.gPass d else s.gTake d vs).gShow
    | _, _ => s

/-- HEAD positions have been written since the fill start (R348). -/
def State.headFilled (s : State) (d : Nat) : State :=
  let x := s.gdef d
  if x.st = 1 ∧ x.gap = none ∧ x.fill + x.cfg.head ≤ x.n then (s.setGdef d { x with st := 2 }).gShow else s

/-- A SUSPENDED definition and a PAUSED one go back to FILLING (R348). -/
def State.captureResume (s : State) (d : Nat) : State :=
  let x := s.gdef d
  if x.st = 5 ∧ (x.cfg.head + x.cfg.tail) * x.cfg.p ≤ s.gFree d then (s.gFill d x.n).gShow else s

/-- A gap ends: its record is written, and capture goes on (R348, R352). -/
def State.gapEnd (s : State) (d : Nat) : State :=
  let x := s.gdef d
  match x.gap with
  | none => s
  | some n0 =>
    if 65536 + x.cfg.p ≤ s.gFree d ∧ 1 ≤ x.st ∧ x.st ≤ 4 then
      let rate := x.cfg.rate
      let bs := List.replicate 8 0xFF#8 ++ leBytes 4 (x.n - n0) ++ leBytes 4 (x.num n0) ++ leBytes 8 (instantOf rate n0) ++
        List.replicate 40 0
      let r : GRec := { off := x.wr, n := n0, gap := true, bytes := bs }
      let s := s.setGdef d { x with gap := none }
      let s := s.gWrite d r
      (if x.st = 3 then s else s.gFill d x.n).gShow
    else s

/-- The last position of a gathering is captured (R348, R355): GUTTER or ARMED follows, or the changed configuration. -/
def State.gatheringComplete (s : State) (d : Nat) : State :=
  let x := s.gdef d
  match x.cur with
  | none => s
  | some q =>
    match s.gth.open_.find? (fun g => decide (g.seq = q)) with
    | none => s
    | some g =>
      if x.n < g.tp + g.cfg.tail then s
      else
        let s := s.gEnd d 0
        let y := s.gdef d
        let s := s.setGdef d { y with st := if Ent.GATH_GUTTER.of y.cfg.ent = 0 then 2 else 4, gutter := g.tp + g.cfg.tail }
        (s.gApply d).gShow

/-- GUTTER positions have been captured (R348). -/
def State.gutterEnd (s : State) (d : Nat) : State :=
  let x := s.gdef d
  if x.st = 4 ∧ x.gutter + Ent.GATH_GUTTER.of x.cfg.ent ≤ x.n then (s.setGdef d { x with st := 2 }).gShow else s

/-! ## Sequencers (R344-R347, R349) -/

/-- A comparison of R344. -/
def cmpOk (op : Nat) (a b : Int) : Bool :=
  match op with
  | 0 => decide (b < a)
  | 1 => decide (b ≤ a)
  | 2 => decide (a < b)
  | 3 => decide (a ≤ b)
  | 4 => decide (a = b)
  | 5 => decide (a ≠ b)
  | _ => false

/-- A position of one rate as the last position of another rate at or before its instant. -/
def posAt (n rate rate' : Nat) : Nat := n * rate' / rate

/-- A numeric input at a position of the sequencer's timeline: value, validity and the instant of the output that it is
(R345, R346); `none` while it is not written. -/
def State.gInput (s : State) (q : GSeq) (t n rate : Nat) : Option (Int × Nat × Nat) :=
  let src := ((q.srcs.find? (fun e => decide (e.1 = inNum t))).map (fun e => e.2)).getD .none
  match src with
  | .inst i _ =>
    match s.inst i with
    | none => some (0, 1, instantOf rate n)
    | some x =>
      let m := posAt n rate x.rate
      match s.gChan src x.sc m, x.outUpTo x.sc m with
      | some v, some o => some (v.1, v.2.1, instantOf x.rate o.1)
      | some v, none => some (v.1, v.2.1, instantOf x.rate m)
      | none, _ => none
  | _ => (s.gChan src q.line.2.2 n).map (fun v => (v.1, v.2.1, instantOf rate n))

/-- Whether every numeric input of a sequencer is there for a position. -/
def State.gInputsReady (s : State) (q : GSeq) (n rate : Nat) : Bool :=
  (seqTests q.rows).all (fun t => decide (2 < trKind t) || (s.gInput q t n rate).isSome)

/-- The boolean inputs of a sequencer, with their present values. -/
def State.gSeen (s : State) (q : GSeq) : Store :=
  ((seqTests q.rows).filter (fun t => decide (3 ≤ trKind t))).foldl (fun m t =>
    m.put (inNum t) 0 (b2n (s.gBool (trKind t - 3) (trIndex t)))) []

/-- Whether a transition's condition holds, with the instant of the output that met it (R344). -/
def State.gTest (s : State) (q : GSeq) (t : Nat) (thresh : Int) (n rate : Nat) : Bool × Nat :=
  let here := instantOf rate n
  match trCond t with
  | 1 =>
    let k := trKind t
    let i := trIndex t
    if k < 3 then
      match s.gInput q t n rate with
      | some (v, bad, at_) => (decide (bad ≠ 1 ∧ bad ≠ 2) && cmpOk (trCmp t) v thresh, at_)
      | none => (false, here)
    else
      let v := s.gBool (k - 3) i
      let p := decide (q.prev.get (inNum t) 0 = 1)
      (if trCmp t = 6 then v && !p else if trCmp t = 7 then !v && p else cmpOk (trCmp t) (b2n v) thresh, here)
  | 2 => (q.run && decide (q.left = 0), here)
  | 3 => (decide (Ent.SEQ_COUNT_LIMIT.of (q.rows.get q.st 0) ≤ q.count), here)
  | 4 => (q.force, here)
  | 5 => (true, here)
  | _ => (false, here)

/-- The source instant of a trigger (R346). -/
def State.gSource (s : State) (t n rate met : Nat) : Nat :=
  if trCond t ≠ 1 then instantOf rate n
  else match trKind t with
    | 0 => met
    | 1 => met
    | 2 => instantOf rate n
    | 3 => s.gth.since.get (inNum t) 0
    | 4 => s.gth.since.get (inNum t) 0
    | 5 => s.flt.lineAt.get (trIndex t) 0
    | 6 => s.flt.tripAt.get (trIndex t) 0
    | _ => s.flt.startAt.get (trIndex t) 0

/-- The trigger point: the position at or before `n` nearest to a time, a tie to the earlier (R347). -/
def nearestPos (rate n target : Nat) : Nat :=
  let j := target * rate / 1000000000
  let j := if 2 * (target * rate - j * 1000000000) ≤ 1000000000 then j else j + 1
  min n j

/-- A definition's state at a position that it has captured (R349): the state that the positions up to it give, where it has gone on
since. -/
def GDef.stateAt (x : GDef) (n : Nat) : Nat :=
  if x.st = 2 ∨ x.st = 1 ∨ x.st = 4 then
    if n + 1 < x.fill then 1
    else if n + 1 < x.gutter then 3
    else if n + 1 < x.gutter + Ent.GATH_GUTTER.of x.cfg.ent then 4
    else if n + 1 < x.fill + x.cfg.head then 1
    else x.st
  else x.st

/-- Offer a trigger of sequencer number `q` at position `n` to the definition at a place (R349, R350). -/
def State.gOffer (s : State) (q t skew n rate src tp d : Nat) : State :=
  let x := s.gdef d
  let s := s.bumpI GTH_S_STATS_OFFERED q
  let ignore (s : State) (f : Fld) : State := (s.bump f).flag GTH_TROUBLE_IGNORED
  match x.stateAt n with
  | 0 => s
  | 3 =>
    let s := s.onGth (fun e => { e with open_ := e.open_.map (fun g =>
      if g.cfg.sid = x.cfg.sid ∧ g.eval = n then { g with coincident := true } else g) })
    ignore s GTH_IGN_BUSY
  | 4 => ignore s GTH_IGN_GUTTER
  | 2 =>
    if tp < x.fill + x.cfg.head then ignore s GTH_IGN_HEAD
    else
      let seq := s.rd GTH_NEXT_SEQ
      let first := tp - x.cfg.head
      let off := ((x.recs.find? (fun r => decide (first ≤ r.n))).map (fun r => r.off)).getD x.wr
      let r := x.recs.find? (fun r => decide (r.n = tp) && !r.gap)
      let at_ (f : GRec → Bool) (now : Bool) : Bool := (r.map f).getD now
      let logical := decide (trCond t = 1)
      let g : Gath := {
        seq := seq, d := x.cfg.num, cfg := x.cfg, rate := rate, sqr := q, inKind := if logical then trKind t else 0xFF,
        inIndex := if logical then trIndex t else 0, skew := skew, first := first, tp := tp, eval := n, srcInst := src,
        act := at_ (fun r => r.act) s.isActive, tv := at_ (fun r => r.tv) (s.on TIM_STATUS_TIME_VALID),
        utc := (r.map (fun r => r.utc)).getD (s.rd TIM_UTC_OFFSET_OFFSET_S), tipSeq := s.rd BND_TIP_SEQ,
        binding := (List.range 4).flatMap (fun k => beBytes 4 (s.rdK BND_DIGEST 0 k)), off := off,
        step := x.steps.any (fun m => decide (src * rate / 1000000000 < m)) }
      let s := (s.wr GTH_NEXT_SEQ (seq + 1)).onGth (fun e => { e with open_ := e.open_ ++ [g] })
      let s := (s.setGdef d { x with st := 3, cur := some seq }).wrI GTH_D_SEQ x.cfg.num seq
      ((s.bump GTH_ACCEPTED).bumpI GTH_S_STATS_ACCEPTED q).gEvent 1 x.cfg.num q 0 seq (instantOf rate tp) 0 0
  | _ => ignore s GTH_IGN_HEAD

/-- Whether a sequencer must wait for another that shares a target: one with an earlier position to evaluate, or with the same position
and a lower number, offers its trigger first (R349). -/
def State.gWaits (s : State) (q : GSeq) (n : Nat) : Bool :=
  s.gth.seqs.any (fun e => match e.2.n with
    | some m => decide (e.2.line = q.line) && (decide (m < n) || (decide (m = n) && decide (e.2.num < q.num))) &&
        s.gth.defs.any (fun x => q.aims x.2 && e.2.aims x.2)
    | none => false)

/-- The sequencers that a position lets evaluate: place, position and rate, for each that is due (R345, R349). Every target has captured
the position, and its state has followed. -/
def State.gDue (s : State) : List (Nat × Nat × Nat) :=
  s.gth.seqs.filterMap (fun e =>
    match s.gTimeline e.2, e.2.n with
    | some x, some n =>
      if s.gth.defs.all (fun y => !e.2.aims y.2 || (decide (n < y.2.n) && s.gSettled y.1)) && !s.gWaits e.2 n &&
        s.gInputsReady e.2 n x.cfg.rate then some (e.1, n, x.cfg.rate) else none
    | _, _ => none)

/-- The due sequencer that comes first: the earliest instant, then the lowest number. -/
def firstDue (l : List (Nat × Nat × Nat)) : Option (Nat × Nat × Nat) :=
  l.foldl (fun b e => match b with
    | none => some e
    | some m => if e.2.1 * m.2.2 < m.2.1 * e.2.2 then some e else b) none

/-- One transition is taken or not: `none` where its test fails. -/
def State.gTry (s : State) (i : Nat) (q : GSeq) (isA : Bool) (n rate : Nat) : Option State :=
  let row := q.rows.get q.st 0
  let t := if isA then Ent.SEQ_TRANS_A.of row else Ent.SEQ_TRANS_B.of row
  let thresh := signed 32 (if isA then Ent.SEQ_THRESH_A.of row else Ent.SEQ_THRESH_B.of row)
  let skew := if isA then Ent.SEQ_SKEW_A_US.of row else Ent.SEQ_SKEW_B_US.of row
  let (ok, met) := s.gTest q t thresh n rate
  if ok then
    let q1 : GSeq := { q with st := trNext t, run := q.run && decide (trCond t ≠ 2), count := if bitAt t 8 then 0 else q.count }
    let q2 : GSeq := { q1 with count := if bitAt t 9 then satNat 16 (q1.count + 1) else q1.count }
    let q3 : GSeq := if bitAt t 10 then { q2 with run := true, left := ceilDiv (Ent.SEQ_TIMER_US.of row * rate) 1000000 } else q2
    let s' := s.setGseq i q3
    if bitAt t 11 then
      let src := s.gSource t n rate met
      let tp := nearestPos rate n (src - skew * 1000)
      let s' := s'.wrI GTH_S_LAST_TP q.num (instantOf rate tp)
      some ((s'.gth.defs.filter (fun x => q.aims x.2)).foldl (fun s x => s.gOffer q.num t skew n rate src tp x.1) s')
    else some s'
  else none

/-- The evaluation of a sequencer at a position of its timeline (R345). -/
def State.seqEvalAt (s : State) (i n rate : Nat) : State :=
  let q := s.gseq i
  let q := if q.reset then { q with st := 0, run := false, left := 0, count := 0 } else q
  let q := if q.run && decide (0 < q.left) then { q with left := q.left - 1 } else q
  let s := s.setGseq i q
  let seen := s.gSeen q
  let s := match s.gTry i q true n rate with
    | some s => s
    | none => (s.gTry i q false n rate).getD s
  let q := s.gseq i
  (s.setGseq i { q with n := some (n + 1), force := false, reset := false, prev := seen }).gShow

/-- The next due sequencer at its position (R345): it is evaluated, or a waiting configuration takes effect there (R360). -/
def State.sequencerEval (s : State) : State :=
  match firstDue s.gDue with
  | none => s
  | some (i, n, rate) =>
    let q := s.gseq i
    let epoch := (((s.gTimeline q).bind (fun x => s.gRefSet x.cfg n)).getD (2 ^ 64))
    if q.next.isSome && decide (s.rd BND_TIP_EPOCH ≤ epoch) then ((s.setGseq i q.apply).gRetime).gShow
    else s.seqEvalAt i n rate

/-- The image that first carried the present value of each input bit is noted after the image changes, and the first image
since the bit came into use (R346). -/
def State.gthImage (s : State) (old : Store) : State :=
  let used := s.gth.seqs.flatMap (fun e => (seqTests e.2.rows).filter (fun t => decide (trKind t = 3) || decide (trKind t = 4)))
  let at_ := imgGet s.lge.committed 8 8
  s.onGth (fun g => { g with since := used.foldl (fun m t =>
    let base := if trKind t = 3 then 0xB00 else 0x300
    if imgBit old base (trIndex t) = imgBit s.lge.committed base (trIndex t) ∧ m.any (fun e => e.1 == inNum t) then m
    else m.insert (inNum t) at_) g.since })

/-! ## Time (R310, R311, R348, R360) -/

/-- A time step falls before the next position of every definition. -/
def State.gthStep (s : State) : State :=
  s.onGth (fun g => { g with defs := g.defs.map (fun x => if x.2.st = 0 then x else (x.1, { x.2 with steps := x.2.steps ++ [x.2.n] })) })

/-- A cadence restart ends captures, and positions go on at the new time (R348). -/
def State.gthRestart (s : State) : State :=
  let s := s.gPlaces.foldl (fun s d =>
    let x := s.gdef d
    if x.st = 0 then s
    else
      let s := s.gEnd d 4
      let x := s.gdef d
      let n := s.nextPos x.cfg.rate
      let y : GDef := { x with st := 1, n := n, fill := n, gutter := 0, bases := (x.num x.n, n) :: x.bases, gap := none, recs := [] }
      (s.setGdef d y).gApply d) s
  ((s.onGth (fun g => { g with seqs := g.seqs.map (fun q => (q.1, { q.2 with n := none })) })).gRetime).gShow

/-- VWARN falls: capture stops (R348). -/
def State.gthSuspend (s : State) : State :=
  (s.gPlaces.foldl (fun s d =>
    let st := (s.gdef d).st
    if 1 ≤ st ∧ st ≤ 4 then
      let s := s.gEnd d 2
      let x := s.gdef d
      s.setGdef d { x with st := 6 }
    else s) s).gShow

/-- VWARN rises: capture refills (R348). -/
def State.gthUnsuspend (s : State) : State :=
  (s.gPlaces.foldl (fun s d => if (s.gdef d).st = 6 then s.gFill d (s.gdef d).n else s) s).gShow

/-! ## The gathering format (R355-R358) -/

/-- The header (R357). -/
def Gath.header (g : Gath) : List Byte :=
  let sc := g.rate
  leBytes 4 0x52485447 ++ leBytes 2 1 ++ leBytes 2 256 ++ leBytes 8 g.seq ++ leBytes 4 g.cfg.sid ++ leBytes 1 g.d ++ leBytes 1 g.sqr ++
  leBytes 2 (b2n g.act + 2 * b2n g.tv + 4 * b2n g.step + 8 * b2n g.coincident + 16 * b2n (decide (g.gaps ≠ 0))) ++ leBytes 2 g.rate ++
  leBytes 1 (if Ent.GATH_F0.on g.cfg.ent then 60 else 50) ++ leBytes 1 g.inKind ++ leBytes 2 g.inIndex ++ leBytes 2 g.cfg.a ++
  leBytes 2 g.cfg.b ++ leBytes 2 g.cfg.p ++ leBytes 4 g.cfg.head ++ leBytes 4 g.cfg.tail ++ leBytes 4 g.skew ++
  leBytes 8 (instantOf sc g.first) ++ leBytes 8 (instantOf sc g.tp) ++ leBytes 8 g.srcInst ++ leBytes 8 (instantOf sc g.eval) ++
  leBytes 2 (g.first % sc) ++ leBytes 2 g.utc ++ leBytes 4 g.tipSeq

/-- The channel table (R356), padded to a multiple of 64. -/
def Gath.chanTable (g : Gath) : List Byte :=
  let t := g.cfg.chans.flatMap (fun e => leBytes 4 e ++ leBytes 2 (Ent.GATH_SRC_KIND.of e) ++ leBytes 2 (Ent.GATH_SRC.of e) ++
      leBytes 4 (Ent.GATH_SCALE_A.of e) ++ leBytes 4 (Ent.GATH_OFFSET_B.of e)) ++
    (List.range g.cfg.b).flatMap (fun j => leBytes 4 (bits (g.cfg.groups.getD (j / 8) 0) (64 + 16 * (j % 8)) 16))
  t ++ List.replicate (64 * ceilDiv t.length 64 - t.length) 0

/-- The usable values of channel `i` of a gathering: position and value, in order (R355). -/
def Gath.usable (g : Gath) (i : Nat) : List (Nat × Int) :=
  g.recs.filterMap (fun r =>
    let v := r.vals.getD i (0, 1)
    if r.gap ∨ v.2 = 1 ∨ v.2 = 2 then none else some (r.n - g.first, v.1))

/-- The first extreme of a list of positions and values, by an order. -/
def extreme (better : Int → Int → Bool) (l : List (Nat × Int)) : Option (Nat × Int) :=
  l.foldl (fun b e => match b with
    | none => some e
    | some m => if better e.2 m.2 then some e else b) none

/-- The measurement entry of channel `i` (R355). -/
def Gath.measure (g : Gath) (i : Nat) : List Byte :=
  let u := g.usable i
  let mx := extreme (fun a b => decide (b < a)) u
  let mn := extreme (fun a b => decide (a < b)) u
  let tp := g.tp - g.first
  let w := g.rate / (if Ent.GATH_F0.on g.cfg.ent then 60 else 50)
  let win := u.filter (fun e => decide (tp ≤ e.1) && decide (e.1 < tp + w))
  let sq := win.foldl (fun n e => n + e.2.natAbs * e.2.natAbs) 0
  leBytes 4 (unsigned 32 ((mx.map (fun e => e.2)).getD 0)) ++ leBytes 4 (unsigned 32 ((mn.map (fun e => e.2)).getD 0)) ++
  leBytes 4 ((mx.map (fun e => e.1)).getD 0xFFFFFFFF) ++ leBytes 4 ((mn.map (fun e => e.1)).getD 0xFFFFFFFF) ++
  leBytes 4 (((u.find? (fun e => decide (e.1 = tp))).map (fun e => unsigned 32 e.2)).getD 0x80000000) ++
  leBytes 4 (if win.length = w ∧ w ≠ 0 then rootMean sq w else 0xFFFFFFFF) ++ leBytes 4 (g.count - u.length) ++ leBytes 4 0

/-- The bytes of a gathering that has ended (R356-R358): `cycle` is the cadence number of its trigger point. -/
def Gath.bytes (g : Gath) (cycle : Nat) : List Byte :=
  let tab := g.chanTable
  let head := g.header ++ leBytes 8 cycle ++ leBytes 4 (256 + tab.length) ++ leBytes 4 0 ++ g.binding ++ List.replicate 136 0
  let data := g.recs.flatMap (fun r => r.bytes)
  let meas := (List.range g.cfg.a).flatMap g.measure
  let mo := head.length + tab.length + data.length
  let most := head ++ tab ++ data ++ meas ++ leBytes 8 (mo + meas.length + 64) ++ leBytes 4 g.count ++ leBytes 4 g.gaps ++
    leBytes 4 mo ++ leBytes 1 g.cause ++ [0#8, 0#8, 0#8]
  most ++ Config.sha256 most ++ leBytes 8 g.seq

/-- The cadence number of a gathering's trigger point (R357). -/
def Gath.cycle (g : Gath) : Nat := g.tp / max 1 g.cfg.sc

/-! ## The NAND store (R351, R353, R354) -/

/-- A gathering is fully drained: its area is no longer protected. -/
def State.gDrained (s : State) (seq : Nat) : State := s.onGth (fun g => { g with open_ := g.open_.filter (fun x => decide (x.seq ≠ seq)) })

/-- The NAND channel ends the gathering that it serves, or stalls for want of room (R353, R354). -/
def State.gatheringStored (s : State) : State :=
  match s.gHead false with
  | none => s
  | some g =>
    if g.ended = false ∨ s.on GTH_STATUS_STORE_SCANNING = true then s
    else
      let bs := g.bytes g.cycle
      if s.gFull || decide (s.gRoom < bs.length) then (s.flag GTH_TROUBLE_STORE_FULL).gShow
      else
        let s := (s.gDrained g.seq).onGth (fun e => { e with stored := e.stored ++ [(g.seq, bs)] })
        (s.gEvent 3 g.d g.sqr g.cause g.seq (instantOf g.rate g.tp) g.count g.gaps).gShow

/-- The bytes of a stored gathering. -/
def State.gStored (s : State) (seq : Nat) : Option (List Byte) := (s.gth.stored.find? (fun g => g.1 == seq)).map (fun g => g.2)

/-- The start-up scan of the store index ends (R354). -/
def State.storeScanDone (s : State) : State :=
  if s.on GTH_STATUS_STORE_SCANNING then
    let torn := s.gth.torn
    let s := (s.wr GTH_STATUS_STORE_SCANNING 0).onGth (fun g => { g with torn := [] })
    (torn.foldl (fun s t => ((s.bump GTH_TORN).flag GTH_TROUBLE_TORN).gEvent 4 t.2.1 t.2.2.1 0 t.1 t.2.2.2 0 0) s).gShow
  else s

/-! ## The host ring (R351) -/

/-- The DRAM address of the host ring, where it is well formed and lies in a window of folio 0 with write access. -/
def State.hostRing (s : State) : Option Nat :=
  let base := s.rd GTH_HOST_BASE
  let len := s.rd GTH_HOST_LEN
  if len = 0 ∨ len % 4096 ≠ 0 ∨ base % 64 ≠ 0 then none else s.window 0 base len true

/-- The store command ends: its result waits for the completion (R485). -/
def State.storeCmdEnds (s : State) (r : Nat) : State := s.onGth (fun g => { g with cmdResult := some r })

/-- The next transfer begins, where none is in progress: a copy that waits, else the next ended gathering for the host. -/
def State.hostNext (s : State) : State :=
  match s.gth.host, s.gth.copyWaits with
  | some _, _ => s
  | none, some q =>
    let bs := (s.gStored q).getD []
    s.onGth (fun g => { g with host := some (true, q, bs), copyWaits := none })
  | none, none =>
    match s.gHead true with
    | none => s
    | some g => if g.ended then let bs := g.bytes g.cycle
                                s.onGth (fun e => { e with host := some (false, g.seq, bs) }) else s

/-- One step of the transfer in progress: up to 4 KiB enter the ring where they fit. -/
def State.hostMove (s : State) : Option State :=
  match s.gth.host, s.hostRing with
  | some (copy, q, bs), some base =>
    let len := s.rd GTH_HOST_LEN
    let p := s.rd GTH_HOST_PRODUCED
    let room := (s.rd GTH_HOST_CONSUMED % len + len - p % len - 1) % len
    let chunk := bs.take 4096
    if chunk.length ≤ room then
      let first := chunk.take (len - p % len)
      let s := (s.dramWrite (base + p % len) first).dramWrite base (chunk.drop first.length)
      let s := s.wr GTH_HOST_PRODUCED ((p + chunk.length) % len)
      let rest := bs.drop 4096
      if rest = [] then
        let s := s.onGth (fun g => { g with host := none })
        some (if copy then s.storeCmdEnds 0 else s.gDrained q)
      else some (s.onGth (fun g => { g with host := some (copy, q, rest) }))
    else none
  | _, _ => none

/-- The host channel moves what the ring has room for, and stalls on a full ring (R351). -/
def State.hostDrain : Nat → State → State
  | 0, s => s
  | fuel + 1, s =>
    if s.on GTH_CTRL_HOST_EN = false then s
    else
      let s := s.hostNext
      if s.gth.host.isNone then s
      else match s.hostMove with
        | some s => State.hostDrain fuel s
        | none => s.flag GTH_TROUBLE_HOST_STALL

/-- Let the host channel run as far as it can. -/
def State.hostRun (s : State) : State := (State.hostDrain (4096 + s.gth.open_.length) s).gShow

/-- GTH_CTRL.HOST_EN is written (R351). -/
def State.hostEn (s : State) (en : Bool) : State :=
  if en = true ∧ s.hostRing = none then s.answer GTH_STORE_STATUS_DONE GTH_STORE_STATUS_RESULT 3
  else (s.wrB GTH_CTRL_HOST_EN en).hostRun

/-- GTH_STORE_CMD with OP DELETE_UPTO (R353, R361). -/
def State.deleteUpto (s : State) : State :=
  let arg := s.rd GTH_STORE_ARG
  let gone := s.gth.stored.filter (fun g => decide (g.1 ≤ arg))
  let s := s.begin GTH_STORE_STATUS_BUSY
  match gone.getLast? with
  | none => s.storeCmdEnds 1
  | some g =>
    let s := s.onGth (fun e => { e with stored := e.stored.filter (fun x => decide (arg < x.1)) })
    ((s.storeCmdEnds 0).gEvent 5 0 0 0 g.1 0 0 0).gShow

/-- GTH_STORE_CMD with OP READ_TO_HOST (R353). -/
def State.readToHost (s : State) : State :=
  let arg := s.rd GTH_STORE_ARG
  let s := s.begin GTH_STORE_STATUS_BUSY
  if s.on GTH_CTRL_HOST_EN = false ∨ s.hostRing = none then s.storeCmdEnds 3
  else if (s.gStored arg).isNone then s.storeCmdEnds 1
  else (s.onGth (fun g => { g with copyWaits := some arg })).hostRun

/-- A GO of GTH_STORE_CMD: 1 DELETE_UPTO, 2 READ_TO_HOST; another GO while one is in progress answers BUSY (R485). -/
def State.storeCmd (s : State) (op : Nat) : State :=
  let s := s.wr GTH_STORE_CMD_OP op
  if s.on GTH_STORE_STATUS_BUSY then s.answer GTH_STORE_STATUS_DONE GTH_STORE_STATUS_RESULT 2
  else if op = 1 then s.deleteUpto
  else if op = 2 then s.readToHost
  else s

/-- A store command finishes. -/
def State.storeCmdDone (s : State) : State :=
  match s.gth.cmdResult with
  | none => s
  | some r => (s.onGth (fun g => { g with cmdResult := none })).finish GTH_STORE_STATUS_BUSY GTH_STORE_STATUS_DONE GTH_STORE_STATUS_RESULT r

/-- A read through the NAND window (R353). -/
def State.nandRead (s : State) (uncorrectable : Bool) : State :=
  let off := s.rd GTH_NW_OFFSET
  let done (s : State) (r : Nat) : State := s.answer GTH_NW_STATUS_DONE GTH_NW_STATUS_RESULT r
  match s.gStored (s.rd GTH_NW_SEQ) with
  | none => done s 1
  | some bs =>
    if bs.length ≤ off then done s 2
    else if uncorrectable then (done s 3).flag GTH_TROUBLE_ECC
    else
      let d := slice bs (off / 64 * 64) 64
      done ((List.range 16).foldl (fun s k => s.wrK GTH_NW_DATA 0 k (leAt d (4 * k) 4)) s) 0

/-! ## CHECK of TRIG and GATH (R340, R344) -/

/-- Whether a source of an analogue channel fits a definition (R339). -/
def gSourceOk (ref kind src : Nat) (ctxs insts : Store) : Bool :=
  if kind = 0 then
    match ownerOf ctxs src with
    | some (_, c) => decide (Ent.CTX_RATE.of c = Ent.CTX_RATE.of (ctxs.get ref 0))
    | none => false
  else
    let u := insts.get src 0
    decide (kind < 3) && decide (src < 2048) && Ent.INST_ENABLE.on u &&
      decide ((rootOf insts ctxs 5 (Ent.INST_SRC_KIND.of u) (Ent.INST_SRC_A.of u)).map (fun r => r.1) = some ref)

/-- Whether the code of a binary channel names something (R338). -/
def gCodeOk (c : Nat) : Bool :=
  decide (c = 0xFFFF) || decide (c / 16384 < 2) || (decide (c / 16384 = 2) && decide (c % 16384 < 8)) ||
    (decide (c / 16384 = 3) && decide (c % 16384 < 64))

/-- Whether the ORDER values of a kind cover a range, each exactly once. -/
def gOrders (tab : Store) (d kind : Nat) (ord : Bits) (n step : Nat) : Bool :=
  let os := (tab.filter (fun e => decide (gKind e.2 = kind) && decide (gDef e.2 = d))).map (fun e => ord.of e.2)
  decide (os.length = n) && (List.range n).all (fun i => os.contains (i * step))

/-- Whether one definition is well formed (R338-R340). -/
def gDefOk (tab ctxs insts : Store) (e : Nat) : Bool :=
  let d := gDef e
  let a := Ent.GATH_ANALOGUE.of e
  let b := Ent.GATH_BINARY.of e
  let area := Ent.GATH_AREA_MIB.of e
  let ref := Ent.GATH_REF_STREAM.of e
  let rate := Ent.CTX_RATE.of (ctxs.get ref 0)
  let f0 := if Ent.GATH_F0.on e then 60 else 50
  Ent.CTX_ENABLE.on (ctxs.get ref 0) && decide (rate ≠ 0) && decide (rate % f0 = 0) &&
  decide (16 ≤ area ∧ area ≤ 2048) && decide (Ent.GATH_AREA_BASE.of e + area ≤ 2048) &&
  decide (1 ≤ Ent.GATH_HEAD.of e ∧ Ent.GATH_HEAD.of e ≤ 2 ^ 24) && decide (1 ≤ Ent.GATH_TAIL.of e ∧ Ent.GATH_TAIL.of e ≤ 2 ^ 26) &&
  decide (Ent.GATH_GUTTER.of e ≤ 2 ^ 24) && decide (a ≤ 1024) && decide (b ≤ 4096) && decide (b % 8 = 0) &&
  decide ((Ent.GATH_HEAD.of e + Ent.GATH_TAIL.of e) * posSize a b + 2 ^ 20 ≤ area * 2 ^ 20) &&
  gOrders tab d 2 Ent.GATH_ORDER a 1 && gOrders tab d 3 Ent.GATH_ORDER2 (b / 8) 8 &&
  tab.all (fun x => decide (gKind x.2 ≠ 2) || decide (gDef x.2 ≠ d) ||
    gSourceOk ref (Ent.GATH_SRC_KIND.of x.2) (Ent.GATH_SRC.of x.2) ctxs insts) &&
  tab.all (fun x => decide (gKind x.2 ≠ 3) || decide (gDef x.2 ≠ d) ||
    (List.range 8).all (fun j => gCodeOk (bits x.2 (64 + 16 * j) 16)))

/-- Whether a transition keeps the rules of R344; `ref` is the reference stream of the sequencer. -/
def transOk (rows : Store) (ctxs : Store) (ref t thresh : Nat) : Bool :=
  let k := trKind t
  let i := trIndex t
  decide (trCond t < 6) && decide (rows.get (trNext t) 0 % 2 ^ 32 ≠ 0) &&
  (decide (trCond t ≠ 1) ||
      (if k < 3 then decide (trCmp t < 6) &&
          (if k = 2 then decide ((ownerOf ctxs i).map (fun c => c.1) = some ref) else decide (i < 2048))
       else (decide (trCmp t = 6) || decide (trCmp t = 7) || ((decide (trCmp t = 4) || decide (trCmp t = 5)) && decide (thresh < 2))) &&
          decide (i < (if k < 5 then 16384 else if k = 5 then 8 else 64))))

/-- The CHECK of TRIG and GATH on filled tables (R340). -/
def gthOk (trig gath ctxs insts : Store) : Bool :=
  let all := (gath.filter (fun e => decide (gKind e.2 = 1))).map (fun e => e.2)
  let defs := all.filter Ent.GATH_ENABLE.on
  let rate (e : Nat) : Nat := Ent.CTX_RATE.of (ctxs.get (Ent.GATH_REF_STREAM.of e) 0)
  let used := gath.filter (fun e => decide (e.2 ≠ 0))
  used.all (fun e => decide (1 ≤ gKind e.2 ∧ gKind e.2 ≤ 3)) &&
  all.all (gDefOk gath ctxs insts) &&
  (List.range 8).all (fun d => decide ((defs.filter (fun e => decide (gDef e = d))).length ≤ 1)) &&
  all.all (fun a => all.all (fun b => decide (a % 2 ^ 32 = b % 2 ^ 32) ||
    decide (Ent.GATH_AREA_BASE.of a + Ent.GATH_AREA_MIB.of a ≤ Ent.GATH_AREA_BASE.of b) ||
    decide (Ent.GATH_AREA_BASE.of b + Ent.GATH_AREA_MIB.of b ≤ Ent.GATH_AREA_BASE.of a))) &&
  decide (defs.foldl (fun n e => n + posSize (Ent.GATH_ANALOGUE.of e) (Ent.GATH_BINARY.of e) * rate e) 0 ≤ 400000000) &&
  (List.range 16).all (fun q =>
    let rows := seqRows trig q
    let named := all.filter (fun e => bitAt (Ent.SEQ_TARGETS.of (rows.get 0 0)) (gDef e))
    let ref := ((named.head?).map (fun e => Ent.GATH_REF_STREAM.of e)).getD 512
    named.all (fun e => decide (Ent.GATH_REF_STREAM.of e = ref)) &&
    rows.all (fun e => decide (e.1 = 0) || (decide (Ent.SEQ_TARGETS.of e.2 = 0) && !Ent.SEQ_ENABLE.on e.2)) &&
    rows.all (fun e => transOk rows ctxs ref (Ent.SEQ_TRANS_A.of e.2) (Ent.SEQ_THRESH_A.of e.2) &&
      transOk rows ctxs ref (Ent.SEQ_TRANS_B.of e.2) (Ent.SEQ_THRESH_B.of e.2)))

/-- The further CHECK of a staged GATH section (R360): a definition that keeps its identity keeps its area, and a new area
overlaps none that still holds undrained data. -/
def State.gthStageOk (s : State) (new : Store) : Bool :=
  let old := s.used 0x1002
  let isDef (e : Nat × Nat) : Bool := decide (gKind e.2 = 1) && Ent.GATH_ENABLE.on e.2
  let base (e : Nat) : Nat := Ent.GATH_AREA_BASE.of e
  let size (e : Nat) : Nat := Ent.GATH_AREA_MIB.of e
  ((usedOf new).filter isDef).all (fun e =>
    match findStable (old.filter (fun x => decide (gKind x.2 = 1))) (e.2 % 2 ^ 32) with
    | some (_, o) => decide (base o = base e.2) && decide (size o = size e.2)
    | none => s.gth.open_.all (fun g => decide (base g.cfg.ent + size g.cfg.ent ≤ base e.2) || decide (base e.2 + size e.2 ≤ base g.cfg.ent)))

/-! ## Sequencer commands and resets -/

/-- GTH_S_CTRL.FORCE and RESET wait for the next evaluation (R345). -/
def State.sequencerForce (s : State) (q : Nat) : State :=
  s.onGth (fun g => { g with seqs := g.seqs.map (fun e => if e.2.num = q then (e.1, { e.2 with force := true }) else e) })

def State.sequencerReset (s : State) (q : Nat) : State :=
  s.onGth (fun g => { g with seqs := g.seqs.map (fun e => if e.2.num = q then (e.1, { e.2 with reset := true }) else e) })

/-- What a reset leaves of the engine: the store. A gathering that the NAND channel was draining is torn (R354, R447). -/
def GthS.afterReset (g : GthS) : GthS :=
  let cut := (g.open_.find? (fun x => !Ent.GATH_DEST.on x.cfg.ent)).map (fun x => (x.seq, x.d, x.sqr, instantOf x.rate x.tp))
  { stored := g.stored, torn := g.torn ++ cut.toList }

end Sys2Proof.Machine
end

