-- ==== Sys2Proof/Machine/TwnOps.lean ====
section
/-! DEFINITION. Twin operation: roles, the token lines, the lease, Corusk frames and quires (chapter "Twin operation over
Corusk", R362-R384). Readings of the chapter that its words leave open are in log entry 28. -/

namespace Sys2Proof.Machine

open Sys2Proof Reg

/-! ## Corusk frames (R369) -/

/-- `n` shifts of the reflected CRC-32C register. -/
def crc32cShift : Nat → Nat → Nat
  | 0, c => c
  | n + 1, c => crc32cShift n (if c % 2 = 1 then (c / 2) ^^^ 0x82F63B78 else c / 2)

/-- CRC-32C (Castagnoli) of a byte string. -/
def crc32c (bs : List Byte) : Nat := (bs.foldl (fun c b => crc32cShift 8 (c ^^^ b.toNat)) 0xFFFFFFFF) ^^^ 0xFFFFFFFF

/-- A Corusk frame. -/
def coruskFrame (typ flags seq cycle : Nat) (payload : List Byte) : List Byte :=
  let body := beBytes 1 typ ++ beBytes 1 flags ++ beBytes 2 payload.length ++ beBytes 4 seq ++ beBytes 8 cycle ++ payload
  body ++ beBytes 4 (crc32c body) ++ List.replicate 4 0

/-- The parts of a received frame: its type, SEQ, CYCLE and payload; `none` where it fails its CRC or its length. -/
structure CFrame where
  typ : Nat
  seq : Nat
  cycle : Nat
  payload : List Byte
  deriving DecidableEq, Repr

def parseFrame (bs : List Byte) : Option CFrame :=
  let n := beAt bs 2 2
  if bs.length = 24 + n ∧ n % 8 = 0 ∧ n ≤ 1024 ∧ beAt bs (16 + n) 4 = crc32c (bs.take (16 + n)) then
    some { typ := beAt bs 0 1, seq := beAt bs 4 4, cycle := beAt bs 8 8, payload := slice bs 16 n }
  else none

/-! ## Names -/

/-- BND_TIP_STATUS.STATE. -/
def State.tipSt (s : State) : Nat := s.rd BND_TIP_STATUS_STATE

/-- The digest of the loaded Binding, bytes 0-31 (BND_DIGEST0-7). -/
def State.bindingDigest (s : State) : List Byte := (List.range 8).flatMap (fun k => beBytes 4 (s.rdK BND_DIGEST 0 k))

/-- TIP_DIGEST of a heartbeat: bytes 0-7 of the digest of the tip-in in the engine (R370). -/
def State.tipDigest (s : State) : List Byte :=
  match s.bnd.tip with
  | some t => if s.tipSt = 0 then List.replicate 8 0 else t.digest.take 8
  | none => List.replicate 8 0

/-- TIP_DIGEST of a quire: only of a committed tip-in that is not confirmed (R373). -/
def State.quireDigest (s : State) : List Byte := if s.tipSt = 4 ∨ s.tipSt = 5 then s.tipDigest else List.replicate 8 0

/-- The target boundary of the tip-in in the engine (R59). -/
def State.tipTarget (s : State) : Nat := (s.bnd.tip.map (fun t => t.target)).getD 0

/-- Twin operation runs: a role other than OFF and SOLO. -/
def State.twinOn (s : State) : Bool := decide (2 ≤ s.role)

/-- A heartbeat within the last 25 µs. -/
def State.hbFresh (s : State) : Bool :=
  match s.twn.peer with
  | some b => decide (s.now < b.at_ + 25000)
  | none => false

/-- T of the rules: one cadence-cycle length in ns. -/
def State.syncAge (s : State) : Nat := s.rdOr TWN_CFG_SYNC_AGE 2

/-- Refresh TWN_STATUS. -/
def State.twnShow (s : State) : State :=
  let s := (s.wrB TWN_STATUS_HB_OK s.hbFresh).wr TWN_STATUS_PEER_ROLE ((s.twn.peer.map (fun b => b.role)).getD 15)
  let s := (s.wrB TWN_STATUS_BEAT_OK (decide (s.twn.peerLine = 1))).wrB TWN_STATUS_FORCE_SEEN (decide (s.twn.peerLine = 2))
  (s.wrB TWN_STATUS_IN_SYNC (decide (s.role = 6))).wrB TWN_STATUS_LEASE s.gateOpen

/-! ## Roles (R362-R364, R384) -/

/-- A change of role with its TWIN_ROLE event (R384). -/
def State.twnRole (s : State) (new cause : Nat) : State :=
  let old := s.role
  let cold := decide (new = 4) && s.on TWN_PROMOTION_COLD
  let gap := if new = 3 then (s.now - s.twn.declAt) / 1000 else 0
  let catchup := if new = 3 ∨ new = 4 then s.rd TWN_PROMOTION_CATCHUP else 0
  let peer := (s.twn.peer.map (fun b => b.role)).getD 0xFF
  let s := s.wr TWN_STATUS_ROLE new
  (s.event 0x10 (leBytes 1 new ++ leBytes 1 old ++ leBytes 1 cause ++ leBytes 1 peer ++ leBytes 4 (b2n cold) ++ leBytes 8 s.cycle ++
    leBytes 8 (s.rd TWN_QUIRE_RX) ++ leBytes 4 catchup ++ leBytes 4 gap)).twnShow

/-- CTL and the publishers follow the role: CTL starts executing where it may (R237, R317). -/
def State.ctlFollow (s : State) : State :=
  let s := s.ctlRefresh
  if s.on CTL_STATUS_RUNNING && s.on CTL_STATUS_EXECUTING then s.pubCtlStart else s

/-- A twin-gated frame that has not started to leave is flushed (R367). -/
def State.flushGated (s : State) : State :=
  (s.swc.copies.filter (fun c => c.gated && decide (c.st = 0 ∨ c.st = 1 ∨ c.st = 5))).foldl
    (fun s c => (s.discard c 1).bump TWN_GATED_DROP) s

/-- What a module gives up when it stops acting (R367), once its role no longer is ACTIVE or PROMOTING. -/
def State.stopActing (s : State) : State :=
  let s := (s.onTwn (fun t => { t with drive := false, forceEnd := 0, leaseAt := none, tx := none, relinquish := 0, order := (0, 0),
                                       initClaim := false })).wr TWN_STATUS_LEASE 0
  let s := (s.flushGated.ctlWithdraw).pubWithdraw
  let s := (s.onFlt (fun f => { f with dtReq := f.dtReq.filter (fun r => r.2.2.isSome) })).dtUpdate
  ((s.lgeShadow.ctlFollow).takeRingFaults).folRefresh

/-- A withdrawal into FENCED (R367). -/
def State.withdraw (s : State) (cause : Nat) : State :=
  let s := (s.bump TWN_FENCES).flag TWN_TROUBLE_FENCED
  ((s.twnRole 8 cause).stopActing).twnShow

/-! ## Promotion (R376-R378, R380) -/

/-- The catch-up cycles of a cadence-bound folio at a warm claim (R377): those after its SRC_CYCLE whose boundary has fired. -/
def State.catchUp (s : State) (f : Nat) : List Nat :=
  let x := s.folio f
  if x.ckptValid = false ∨ x.ckptCycle + 63 < s.horizon then []
  else (List.range (s.cycle - (x.ckptCycle + 1))).map (fun k => x.ckptCycle + 1 + k)

/-- The folios take up work at a claim (R377): the catch-up cycles first, and the cycles ready from the one in progress on. -/
def State.claimFolios (s : State) (cold : Bool) : State :=
  s.cadenceFolios.foldl (fun s f =>
    let cs := if cold then [] else s.catchUp f
    let may := !(decide (s.folSt f = 0 ∨ s.folSt f = 5 ∨ s.folSt f = 6))
    s.modFolio f (fun x =>
      { x with ready := if may then cs ++ x.ready.filter (fun n => decide (s.cycle ≤ n)) else [],
               evented := cs ++ x.evented, ckptValid := x.ckptValid && !cold })) s

/-- The module claims: it drives FORCING and enters PROMOTING (R377). -/
def State.claim (s : State) (cold : Bool) (cause : Nat) : State :=
  let n := if cold then 0 else s.cadenceFolios.foldl (fun m f => max m (s.catchUp f).length) 0
  let s := ((s.wr TWN_PROMOTION_CATCHUP (satNat 8 n)).wrB TWN_PROMOTION_COLD cold).wr TWN_PROMOTION_GAP_US 0
  let s := (s.bump TWN_PROMOTIONS).flag TWN_TROUBLE_PROMOTED
  let init := decide (s.role = 2)
  let s := s.onTwn (fun t => { t with drive := true, forceEnd := s.now + 8000, forceSeen := false, readbackBad := false, declAt := s.now,
                                      initClaim := init })
  let s := s.twnRole 4 cause
  (((s.claimFolios cold).lgePromote).folRefresh).twnShow

/-- Every cadence-bound folio has resolved every cycle whose boundary has fired (R377). -/
def State.caughtUp (s : State) : Bool :=
  s.cadenceFolios.all (fun f =>
    (s.folio f).cycs.all (fun c => c.resolved || decide (s.cycle ≤ c.cycle)) && (s.folio f).ready.all (fun n => decide (s.cycle ≤ n)))

/-- PROMOTING ends: the lease is granted (R366, R377). -/
def State.promotionComplete (s : State) : State :=
  if s.role = 4 ∧ s.twn.forceEnd ≤ s.now ∧ s.twn.forceSeen = false ∧ s.caughtUp = true then
    let s := s.wrSat TWN_PROMOTION_GAP_US ((s.now - s.twn.declAt) / 1000)
    let s := (s.onTwn (fun t => { t with leaseAt := some s.now, initClaim := false })).wr TWN_STATUS_LEASE 1
    ((s.twnRole 3 15).ctlFollow).twnShow
  else s

/-- The peer is declared failed (R364, R376). -/
def State.peerFailed (s : State) : State :=
  let silent := match s.twn.lineAt with
    | some t => decide (s.twn.peerLine = 0) || decide (t + 25000 ≤ s.now)
    | none => true
  if s.twinOn = false ∨ s.hbFresh = true ∨ silent = false ∨ s.twn.peerDown = true then s
  else
    let s := (s.flag TWN_TROUBLE_PEER_FAILED).onTwn (fun t => { t with peerDown := true, peerLine := 0 })
    let s := s.twnShow
    match s.role with
    | 6 => if s.power = 3 then s.claim false 7 else cold s
    | 5 => cold s
    | 7 => cold s
    | 8 => cold s
    | _ => s
where
  cold (s : State) : State :=
    if s.on TWN_CFG_COLD_PROMOTE = true ∧ s.power = 3 then s.claim true 7
    else
      let s := s.flag TWN_TROUBLE_NO_PEER
      if s.role = 7 then s else s.twnRole 7 7

/-! ## The peer's line (R365, R376, R380) -/

/-- HOLDING is recognised. -/
def State.peerHolding (s : State) : State :=
  let s := (s.onTwn (fun t => { t with peerLine := 1, lineAt := some s.now, peerDown := false })).twnShow
  if s.role = 2 then (s.onTwn (fun t => { t with accepted := 0 })).twnRole 5 4 else s

/-- FORCING is recognised: an ACTIVE or PROMOTING module withdraws. Where both claim in INIT, the module at PREFER_POS goes
on and the other yields (R380). -/
def State.peerForcing (s : State) : State :=
  let s := (s.onTwn (fun t => { t with peerLine := 2, lineAt := some s.now, peerDown := false })).twnShow
  if s.role = 4 ∧ s.twn.initClaim = true then
    if s.rd TWN_STATUS_POSITION = s.rd TWN_CFG_PREFER_POS then s
    else ((s.onTwn (fun t => { t with accepted := 0 })).twnRole 5 3).stopActing.twnShow
  else if s.role = 3 ∨ s.role = 4 then (s.onTwn (fun t => { t with forceSeen := true })).withdraw 9
  else s

/-- RELEASED is recognised. While heartbeats go on, a standby takes the peer for relinquished, unless they show it ACTIVE or
PROMOTING: then its beat is lost, a token fault (R376). -/
def State.peerReleased (s : State) : State :=
  let was := s.twn.peerLine
  let s := (s.onTwn (fun t => { t with peerLine := 0 })).twnShow
  if was = 0 ∨ s.twinOn = false ∨ s.hbFresh = false then s
  else match s.twn.peer with
    | none => s
    | some b =>
      if b.role = 3 ∨ b.role = 4 then s.flag TWN_TROUBLE_TOKEN_FAULT
      else if s.role = 6 ∧ s.power = 3 then s.claim false 8 else s

/-- Heartbeats are lost while the peer's line stays HOLDING (R364). -/
def State.coruskLost (s : State) : State :=
  if s.twinOn = false ∨ s.hbFresh = true ∨ s.twn.peerLine ≠ 1 then s
  else
    let s := (s.flag TWN_TROUBLE_CORUSK_LOST).twnShow
    if s.role = 5 ∨ s.role = 6 then s.twnRole 7 13 else s

/-- Three readback mismatches in a row (R365). -/
def State.readbackFault (s : State) : State :=
  let s := (s.flag TWN_TROUBLE_TOKEN_FAULT).onTwn (fun t => { t with readbackBad := true })
  if s.role = 3 then s.withdraw 10 else s

/-! ## Lease (R366) -/

/-- A cadence-cycle length has elapsed: the lease is renewed where the conditions hold. -/
def State.leaseRenew (s : State) : State :=
  match s.twn.leaseAt with
  | none => s
  | some t =>
    if s.role = 3 ∧ t + s.cycleNs ≤ s.now ∧ s.now < t + s.cycleNs + 50000 ∧ s.twn.peerLine ≠ 2 ∧ s.twn.readbackBad = false then
      s.onTwn (fun e => { e with leaseAt := some s.now })
    else s

/-- The lease lapses: the gates close, and the module withdraws. -/
def State.leaseLapse (s : State) : State :=
  match s.twn.leaseAt with
  | none => s
  | some t =>
    if s.role = 3 ∧ t + s.cycleNs + 50000 ≤ s.now then
      ((s.wr TWN_STATUS_LEASE 0).flag TWN_TROUBLE_LEASE_LAPSED).withdraw 11
    else s

/-! ## Host commands and start-up (R364, R380, R382) -/

/-- TWN_CTRL.ENABLE is written: OFF leaves for INIT, and Corusk starts with both lanes (log entry 28). Where the peer's line
is HOLDING already, INIT leads to SYNCING at once (R364, R380). -/
def State.twinEnable (s : State) (en : Bool) : State :=
  let s := s.wrB TWN_CTRL_ENABLE en
  if en = true ∧ s.role = 0 ∧ s.loaded = true then
    let init := ((s.onTwn (fun t => { t with initAt := s.now, drive := false, hbAt := none, accepted := 0 })).wr TWN_STATUS_LANES_UP
      3).twnRole 2 1
    if s.twn.peerLine = 1 then init.twnRole 5 4 else init
  else s

/-- A load reaches READY: SOLO or OFF, a change of role like any other (R364). R384 has no cause code for it, so the cause is a free
value (log entry 28). -/
def State.twnReady (s : State) : State :=
  let (c, s) := s.fresh
  ((s.twnRole (if s.on TWN_CFG_TWIN_EN then 0 else 1) (c % 256)).ctlFollow).twnShow

/-- A cold claim out of INIT (R380). -/
def State.initClaim (s : State) : State :=
  let t := s.twn
  let lineSince := max t.initAt (t.lineAt.getD 0)
  let signSince := max lineSince ((t.peer.map (fun b => b.at_)).getD 0)
  let here := decide (s.rd TWN_STATUS_POSITION = s.rd TWN_CFG_PREFER_POS) && decide (lineSince + 1000000 ≤ s.now)
  let alone := decide (signSince + s.rdOr TWN_CFG_INIT_WAIT_MS 100 * 1000000 ≤ s.now)
  if s.role = 2 ∧ s.power = 3 ∧ t.peerLine = 0 ∧ (here || alone) = true then s.claim true 2 else s

/-- TWN_CTRL.RELINQUISH: scheduled, or refused with BAD_STATE, which changes nothing (R382). -/
def State.relinquish (s : State) : State :=
  if s.role = 3 ∧ (s.twn.peer.map (fun b => b.role)) = some 6 then s.onTwn (fun t => { t with relinquish := max 1 t.relinquish }) else s

/-- The last quire has left: the module withdraws (R382). -/
def State.relinquishWithdraw (s : State) : State :=
  if s.role = 3 ∧ s.twn.relinquish = 2 ∧ s.twn.tx = none then s.withdraw 12 else s

/-! ## Heartbeats (R370) -/

/-- The frame that a heartbeat makes now. -/
def State.hbFrame (s : State) : List Byte :=
  let flags := b2n (decide (s.twn.peerLine = 2)) + 2 * b2n (decide (s.twn.peerLine = 1)) + 4 * b2n s.gateOpen
  let armed := if s.tipSt = 3 ∨ s.tipSt = 5 then s.tipTarget else 0
  let (order, target) := if s.role = 3 then (s.twn.order.1, if s.twn.order.1 = 0 then armed else s.twn.order.2) else (0, armed)
  coruskFrame 1 0 s.twn.txSeq s.cycle
    (beBytes 1 s.role ++ beBytes 1 flags ++ beBytes 2 0 ++ beBytes 4 (s.rd BND_TIP_SEQ) ++ beBytes 8 s.taiNs ++
     s.bindingDigest.take 16 ++ beBytes 8 (if s.role = 3 then s.rd TWN_QUIRE_TX else s.rd TWN_QUIRE_RX) ++ beBytes 1 s.tipSt ++
     beBytes 1 order ++ beBytes 1 (s.rd BND_TIP_STATUS_DEFERRALS) ++ beBytes 5 0 ++ beBytes 8 target ++ s.tipDigest)

/-- A heartbeat is sent, every 10 µs. -/
def State.heartbeatTx (s : State) : State :=
  let due := match s.twn.hbAt with
    | some t => decide (t + 10000 ≤ s.now)
    | none => true
  if s.twinOn && due then
    let f := s.hbFrame
    s.onTwn (fun t => { t with hbOut := f, hbAt := some s.now, txSeq := (t.txSeq + 1) % 2 ^ 32 })
  else s

/-- The contents of a heartbeat frame. -/
def beatOf (f : CFrame) (now : Nat) : Beat :=
  let p := f.payload
  { role := beAt p 0 1, flags := beAt p 1 1, tipSeq := beAt p 4 4, tai := beAt p 8 8, binding := slice p 0x10 16, quireRef := beAt p 0x20 8,
    tipState := beAt p 0x28 1, order := beAt p 0x29 1, deferrals := beAt p 0x2A 1, target := beAt p 0x30 8, tipDigest := slice p 0x38 8,
    cycle := f.cycle, at_ := now }

/-- A heartbeat arrives (R364, R370, R376). -/
def State.heartbeatRx (s : State) (bs : List Byte) : State :=
  if s.twinOn = false then s
  else match parseFrame bs with
    | none => s.bump TWN_FRAME_ERR
    | some f =>
      if f.typ ≠ 1 ∨ f.payload.length ≠ 64 then s
      else
        let b := beatOf f s.now
        let s := (s.onTwn (fun t => { t with peer := some b, peerDown := false })).twnShow
        match s.role with
        | 6 => if b.role = 8 ∧ s.twn.peerLine ≠ 1 ∧ s.power = 3 then s.claim false 8 else s
        | 7 => if b.role = 3 then (s.onTwn (fun t => { t with accepted := 0 })).twnRole 5 14 else s
        | 8 => if b.role = 3 ∨ b.role = 4 then (s.onTwn (fun t => { t with accepted := 0 })).twnRole 5 4 else s
        | _ => s

/-! ## Sending quires (R371, R373) -/

/-- The contributions of a quire formed now, the logic image last. -/
def State.quireEnts (s : State) : List QuireEnt :=
  s.contributions.map (fun c => { kind := 1, folio := c.1, src := c.2.1, body := c.2.2 : QuireEnt }) ++
    [{ kind := 2, folio := 0, src := imgGet s.lge.quire 0 8, body := imgBytes s.lge.quire }]

/-- Content padded with zeros to a multiple of 64 bytes. -/
def padded (bs : List Byte) : List Byte := bs ++ List.replicate (pad64 bs.length - bs.length) 0

/-- The pieces of at most 1 024 bytes of a byte string. -/
def pieces : Nat → List Byte → List (List Byte)
  | 0, _ => []
  | fuel + 1, bs => if bs = [] then [] else bs.take 1024 :: pieces fuel (bs.drop 1024)

/-- The frames of a quire, numbered from `seq` (R369, R373). -/
def QuireTx.frames (q : QuireTx) (binding : List Byte) (seq : Nat) : List (List Byte) :=
  let content := q.ents.flatMap (fun e => padded e.body)
  let flags := b2n q.restart
  let desc := binding ++ beBytes 4 q.tipSeq ++ beBytes 4 q.ents.length ++ q.tipDigest ++ beBytes 8 content.length ++ beBytes 8 q.tai ++
    List.replicate 32 0 ++
    q.ents.flatMap (fun e => beBytes 1 e.kind ++ beBytes 1 e.folio ++ beBytes 2 0 ++ beBytes 4 e.body.length ++ beBytes 8 e.src)
  let ps := pieces (content.length / 1024 + 1) content
  let last := beBytes 8 content.length ++ beBytes 4 (crc32c content) ++ beBytes 4 ps.length
  let all := (2, desc) :: ps.map (fun p => (3, p)) ++ [(4, last)]
  (List.range all.length).zip all |>.map (fun x => coruskFrame x.2.1 flags ((seq + x.1) % 2 ^ 32) q.n x.2.2)

/-- Padded length of a quire's content. -/
def QuireTx.len (q : QuireTx) : Nat := q.ents.foldl (fun n e => n + pad64 e.body.length) 0

/-- Quire `n` has left completely (R371). -/
def State.quireTxDone (s : State) : State :=
  match s.twn.tx with
  | none => s
  | some q =>
    let fs := q.frames s.bindingDigest s.twn.txSeq
    let t := satNat 16 ((s.now - q.at_) / 100)
    let s := s.onTwn (fun e => { e with tx := none, quireOut := fs, txSeq := (e.txSeq + fs.length) % 2 ^ 32 })
    ((((s.wr TWN_QUIRE_TX q.n).wrSat TWN_QUIRE_LEN q.len).wr TWN_QUIRE_TIME_LAST t).wr TWN_QUIRE_TIME_PEAK
      (max t (s.rd TWN_QUIRE_TIME_PEAK))).bump TWN_QUIRES_SENT

/-! ## Receiving quires (R374, R375) -/

/-- A received quire. -/
structure QuireRx where
  n : Nat
  binding : List Byte
  tipSeq : Nat
  tipDigest : List Byte
  ents : List QuireEnt
  total : Nat
  deriving DecidableEq, Repr

/-- The contributions of a QUIRE_HEAD, cut out of the content. -/
def cutEnts (head : List Byte) : Nat → Nat → List Byte → List QuireEnt
  | 0, _, _ => []
  | left + 1, i, content =>
    let o := 0x60 + 16 * i
    let n := beAt head (o + 4) 4
    { kind := beAt head o 1, folio := beAt head (o + 1) 1, src := beAt head (o + 8) 8, body := content.take n } ::
      cutEnts head left (i + 1) (content.drop (pad64 n))

/-- The frames of one quire as they arrived, heartbeats between them included: a quire where every frame has a good CRC, the
SEQ numbers follow each other, and QUIRE_END agrees (R374, first point). -/
def parseQuire (frames : List (List Byte)) : Option QuireRx :=
  let fs := frames.filterMap parseFrame
  let seqs := fs.map (fun f => f.seq)
  let inOrder := (seqs.zip (seqs.drop 1)).all (fun p => decide (p.2 = (p.1 + 1) % 2 ^ 32))
  let qs := fs.filter (fun f => decide (f.typ ≠ 1))
  if fs.length ≠ frames.length ∨ inOrder = false then none
  else match qs, qs.getLast? with
    | h :: rest, some e =>
      let data := rest.take (rest.length - 1)
      let content := data.flatMap (fun f => f.payload)
      let total := beAt h.payload 0x30 8
      let count := beAt h.payload 0x24 4
      let ents := cutEnts h.payload count 0 content
      if h.typ = 2 ∧ e.typ = 4 ∧ data.all (fun f => decide (f.typ = 3)) = true ∧ qs.all (fun f => decide (f.cycle = h.cycle)) = true ∧
          h.payload.length = 0x60 + 16 * count ∧ content.length = total ∧ beAt e.payload 0 8 = total ∧
          beAt e.payload 8 4 = crc32c content ∧ beAt e.payload 12 4 = data.length ∧
          ents.foldl (fun n x => n + pad64 x.body.length) 0 = total then
        some { n := h.cycle, binding := slice h.payload 0 32, tipSeq := beAt h.payload 0x20 4, tipDigest := slice h.payload 0x28 8,
               ents := ents, total := total }
      else none
    | _, _ => none

/-- BINDING, TIP_SEQ and TIP_DIGEST of a quire match the standby's configuration (R374). -/
def State.quireConfig (s : State) (q : QuireRx) : Bool :=
  let seq := s.rd BND_TIP_SEQ
  let dig := s.quireDigest
  let zero : List Byte := List.replicate 8 0
  let now := decide (q.tipSeq = seq) && decide (q.tipDigest = dig)
  let before := decide (q.n = s.rd BND_TIP_COMMIT) && decide (q.tipSeq = s.bnd.before.1) && decide (q.tipDigest = s.bnd.before.2)
  let peerConfirmed := decide (q.tipSeq = seq + 1) && decide (q.tipDigest = zero) && (decide (s.tipSt = 4) || decide (s.tipSt = 5)) &&
    decide ((s.bnd.tip.map (fun t => t.seq)) = some (seq + 1))
  let weConfirmed := decide (q.tipSeq + 1 = seq) && decide (s.bnd.confirmed.1 = seq) && decide (q.tipDigest = s.bnd.confirmed.2)
  decide (q.binding = s.bindingDigest) && (now || before || peerConfirmed || weConfirmed)

/-- The contributions match the standby's placement (R374, last point). -/
def State.quireLayout (s : State) (q : QuireRx) : Bool :=
  let fs := (List.range 32).filter (fun f => s.folioOn f && decide (s.quireSlot f ≠ 0))
  decide (q.ents.map (fun e => (e.kind, e.folio)) = fs.map (fun f => (1, f)) ++ [(2, 0)]) &&
  q.ents.all (fun e => if e.kind = 1 then decide (e.body.length ≤ s.quireSlot e.folio) else decide (e.body.length = 45056))

/-- Why a quire is refused: 1 FRAME, 2 LATE, 3 CADENCE, 4 CONFIG, 5 LAYOUT; 0 where it is accepted (R374). -/
def State.quireCause (s : State) (frames : List (List Byte)) : Nat :=
  match parseQuire frames with
  | none => 1
  | some q =>
    if q.n + 2 = s.cycle then 2
    else if q.n + 1 ≠ s.cycle then 3
    else if s.quireConfig q = false then 4
    else if s.quireLayout q = false then 5
    else 0

/-- An accepted quire is installed in one fabric cycle (R375). -/
def State.quireInstall (s : State) (q : QuireRx) : State :=
  let old := s.lge.committed
  let s := q.ents.foldl (fun s e =>
    if e.kind = 1 then
      if s.folioBg e.folio then s.modFolio e.folio (fun x => { x with twinPred := e.body })
      else s.modFolio e.folio (fun x => { x with ckpt := e.body, ckptCycle := e.src, ckptValid := !e.body.isEmpty,
                                                 cycs := x.cycs.filter (fun c => !c.resolved) })
    else s.lgeInstall (imgRead e.body) q.n) s
  s.gthImage old

/-- A standby has received a complete quire: it accepts and installs it, or refuses it (R364, R374, R381). -/
def State.quireRx (s : State) (frames : List (List Byte)) : State :=
  if s.role ≠ 5 ∧ s.role ≠ 6 then s
  else
    let s := s.bumpBy TWN_FRAME_ERR (frames.filter (fun f => (parseFrame f).isNone)).length
    let c := s.quireCause frames
    if c = 0 then
      match parseQuire frames with
      | none => s
      | some q =>
        let s := s.quireInstall q
        let n := s.twn.accepted + 1
        let s := s.onTwn (fun t => { t with accepted := n })
        let s := (((s.bump TWN_QUIRES_ACCEPTED).wr TWN_QUIRE_RX q.n).wrSat TWN_QUIRE_LEN q.total).wr TWN_STATUS_QUIRE_AGE 0
        if s.role = 5 ∧ s.rdOr TWN_CFG_SYNC_QUIRES 8 ≤ n then s.twnRole 6 5 else s
    else
      let s := (((s.bump TWN_QUIRES_REFUSED).wr TWN_LAST_REFUSE_CAUSE c).wr TWN_LAST_REFUSE_VALID 1).flag TWN_TROUBLE_QUIRE_REFUSED
      let s := s.onTwn (fun t => { t with accepted := 0 })
      if s.role = 6 ∧ (c = 3 ∨ c = 4) then (s.flag TWN_TROUBLE_SYNC_LOST).twnRole 5 6 else s

/-! ## Boundaries -/

/-- TWN at the boundary that ends cycle `n`, once quire `n` is formed (R371, R374, R382). The cycle in progress is still `n`;
a quire that is not out yet is abandoned. A cycle without an accepted quire breaks the sequence that SYNCING counts (R364). -/
def State.twnBoundary (s : State) (n : Nat) : State :=
  let s := if s.twn.tx.isSome then (s.flag TWN_TROUBLE_QUIRE_LATE).onTwn (fun t => { t with tx := none }) else s
  let missed := decide (s.rd TWN_STATUS_QUIRE_AGE ≠ 0)
  let s := if s.twinOn then s.wrSat TWN_STATUS_QUIRE_AGE (s.rd TWN_STATUS_QUIRE_AGE + 1) else s
  if s.role = 3 then
    let q : QuireTx := { n := n, at_ := s.now, tai := s.taiNs, restart := s.twn.restart, tipSeq := s.rd BND_TIP_SEQ,
                         tipDigest := s.quireDigest, ents := s.quireEnts }
    s.onTwn (fun t => { t with tx := some q, restart := false, relinquish := if t.relinquish = 0 then 0 else 2 })
  else if s.role = 5 ∧ missed = true then s.onTwn (fun t => { t with accepted := 0 })
  else if s.role = 6 ∧ s.syncAge < s.rd TWN_STATUS_QUIRE_AGE then
    ((s.onTwn (fun t => { t with accepted := 0 })).flag TWN_TROUBLE_SYNC_LOST).twnRole 5 6
  else s

/-- TWN is told of a cadence restart: the next quire carries RESTART (R311). -/
def State.twnRestart (s : State) : State := s.onTwn (fun t => { t with restart := true })

/-! ## Lanes (R368) -/

/-- A lane that loses block lock is dropped. -/
def State.laneDown (s : State) (l : Nat) : State :=
  if bitAt (s.rd TWN_STATUS_LANES_UP) l then
    ((s.wrBit TWN_STATUS_LANES_UP 0 l false).bump TWN_LANE_LOSSES).flag TWN_TROUBLE_LANE_DOWN
  else s

/-- A lane rejoins. -/
def State.laneRejoin (s : State) (l : Nat) : State := if s.twinOn then s.wrBit TWN_STATUS_LANES_UP 0 l true else s

/-! ## CHECK of TWIN (R372) -/

/-- The largest possible quire fits into a cadence cycle: 0.176 µs a frame and 5 µs, against T - 50 µs. -/
def State.twinOk (s : State) : Bool :=
  let fs := (List.range 32).filter (fun f => s.folioOn f && decide (s.quireSlot f ≠ 0))
  let l := fs.foldl (fun n f => n + s.quireSlot f) 45056 + 64 * (fs.length + 1)
  decide (176 * ((l + 1023) / 1024) + 5000 + 50000 ≤ s.cycleNs)

/-- The twin condition of a commit check (R59, R383): waived without twin operation, outside ACTIVE, and while no heartbeat
has come for 25 µs. -/
def State.twinTipOk (s : State) : Bool :=
  if s.role ≠ 3 ∨ s.hbFresh = false then true
  else match s.twn.peer with
    | some b => decide (b.tipState = 3) && decide (b.tipDigest = s.tipDigest) && decide (b.target = s.tipTarget)
    | none => true

end Sys2Proof.Machine
end

