-- ==== Sys2Proof/Machine/BndOps.lean ====
section
/-! DEFINITION. The Binding loader, the Binding store and tip-in (chapter "The Binding image", R35-R63). Readings of the
chapter that its words leave open are in log entry 26. -/

namespace Sys2Proof.Machine

open Sys2Proof Reg

/-! ## The Binding store (R35-R37) -/

/-- A slot of the store: 0 slot A, 1 slot B. -/
def State.bndSlot (s : State) (k : Nat) : BndSlot := if k = 0 then s.bnd.slotA else s.bnd.slotB

/-- The entries of a journal that a load would apply: those before the first torn entry (R36). -/
def BndSlot.whole (x : BndSlot) : List (List Byte × Bool) := x.journal.takeWhile (fun e => e.2)

/-- Replace a slot, and show how many entries the journals hold. -/
def State.setBndSlot (s : State) (k : Nat) (x : BndSlot) : State :=
  let s := s.onBnd (fun b => if k = 0 then { b with slotA := x } else { b with slotB := x })
  (s.wrSat BND_STORE_STATUS_JOURNAL_A s.bnd.slotA.whole.length).wrSat BND_STORE_STATUS_JOURNAL_B s.bnd.slotB.whole.length

/-- The slot from which the running Binding was loaded (R37). -/
def State.activeSlot (s : State) : Option Nat :=
  if s.loaded && decide (s.rd BND_STATUS_SOURCE < 2) then some (s.rd BND_STATUS_SOURCE) else none

/-- DRAM address of the staging window; the reserved boot staging region where BASE is 0 (DESIGN CHOICE, log entry 26). -/
def State.stageAddr (s : State) : Nat := if s.rd BND_STAGE_BASE = 0 then 2 ^ 35 else s.rd BND_STAGE_BASE

/-- The container in the staging window. -/
def State.staged (s : State) : List Byte := s.dramBytes s.stageAddr (s.rd BND_STAGE_LEN)

/-- BND_STAGE_LEN is written: the running offset returns to 0. -/
def State.stageLen (s : State) (v : Nat) : State := (s.wr BND_STAGE_LEN v).onBnd (fun b => { b with stageOff := 0 })

/-- BND_STAGE_WR appends four bytes, the first in bits 31:24; nothing lies beyond the window's 64 MiB. -/
def State.stageWrite (s : State) (v : Nat) : State :=
  if s.bnd.stageOff < 2 ^ 26 then
    (s.dramWrite (s.stageAddr + s.bnd.stageOff) (beBytes 4 v)).onBnd (fun b => { b with stageOff := b.stageOff + 4 })
  else s

/-! ## Signatures (R41, R42) -/

/-- The slot that KEY_SLOT names holds an HSS public key that may verify Bindings and is the one that LMS_I names (R42). -/
def State.bndKeyFits (s : State) (bs : List Byte) : Bool :=
  let k := s.slot (keySlotOf bs)
  decide (k.typ = 1) && bitAt k.usage 0 && decide (k.keyId = slice bs 0x2C 16)

/-- The verifying key may be used now. -/
def State.bndKeyOk (s : State) (bs : List Byte) : Bool := s.bndKeyFits bs && s.usable (keySlotOf bs)

/-- The verification of a container's signature: the code with which it fails, 0 where it holds, and the state with the use
counted (R42, R392, R395). `before` says that the key could be used when the verification began (ORPHANED). -/
def State.bndSignature (s : State) (bs : List Byte) (before : Bool) : Nat × State :=
  if s.bndKeyFits bs = false then (if before then 0x10 else 5, s)
  else match s.keyUse (keySlotOf bs) with
    | (false, s') => (if before && !s'.chain 3 (keySlotOf bs) then 0x10 else 5, s')
    | (true, s') =>
      let pub := (s.slot (keySlotOf bs)).material
      let sig := signatureOf bs
      (if hssPubOk pub && Config.hssLevelsOk pub sig && Config.hssVerify pub (signedMessage bs) sig then 0 else 6, s'.bump KEY_VERIFIES)

/-- The key store has been unsealed, or its unseal has stopped: a signature can be checked (R390). -/
def State.keysReady (s : State) : Bool := decide (2 ≤ s.rd KEY_STATUS_STATE)

/-! ## Full loads (R48-R54) -/

/-- FETCH begins from a source: 0 slot A, 1 slot B, 2 the staging window. -/
def State.bndFetch (s : State) (src : Nat) (fallback : Bool) : State :=
  let img := if src = 2 then s.staged else (s.bndSlot src).image
  let s := s.onBnd (fun b => { b with load := some { src := src, fallback := fallback, bytes := img }, wait := none })
  (((s.wr BND_STATUS_BUSY 1).wr BND_STATUS_PHASE 1).wr BND_FLOOR s.bnd.floor).wr BND_TIP_SEQ 0

/-- Start-up has passed DECIDE (R451). -/
def State.decided (s : State) : Bool := s.sys.decided

/-- A load is started, or waits for DECIDE or for VWARN to be high (R49, R451, R452, R459). -/
def State.bndLoad (s : State) (src : Nat) : State :=
  if s.on BND_STATUS_BUSY || s.loaded || decide (s.rd BND_STATUS_PHASE = 9) || s.on BST_STATUS_SAFE || decide (2 < src) ||
     s.bnd.wait.isSome then s
  else if s.decided && !s.on SYS_SUPPLY_STATUS_VWARN then s.bndFetch src false
  else s.onBnd (fun b => { b with wait := some src })

/-- A load that waits starts, once it may. -/
def State.bndLoadWaiting (s : State) : State :=
  match s.bnd.wait with
  | none => s
  | some src => (s.onBnd (fun b => { b with wait := none })).bndLoad src

/-- A load ends with a failure code: one attempt from the other slot, or FAILED (R48, R51, R54). TAMPER and SUPPLY allow no
second attempt; that ABORT gets none either is a DESIGN CHOICE (log entry 44). -/
def State.bndFail (s : State) (code idx : Nat) : State :=
  match s.bnd.load with
  | none => s
  | some j =>
    let s := (s.wr BND_STATUS_FAIL_CODE code).wr BND_STATUS_FAIL_SECTION idx
    if j.src < 2 ∧ j.fallback = false ∧ s.on BND_BOOT_CFG_FALLBACK_EN ∧ code ≠ 0x0D ∧ code ≠ 0x0E ∧ code ≠ 0x0F then
      (s.flag BND_TROUBLE_FALLBACK_USED).bndFetch (1 - j.src) true
    else
      ((((s.onBnd (fun b => { b with load := none })).wr BND_STATUS_PHASE 9).wr BND_STATUS_BUSY 0).wr BND_STATUS_EP_LOCK 1).flag
        BND_TROUBLE_LOAD_FAIL

/-- The load in progress is replaced. -/
def State.onLoad (s : State) (f : LoadJob → LoadJob) : State := s.onBnd (fun b => { b with load := b.load.map f })

/-- The FETCH and HEADER phases have run (R37, R49). -/
def State.bndFetched (s : State) (readError : Bool) : State :=
  match s.bnd.load with
  | none => s
  | some j =>
    if s.rd BND_STATUS_PHASE ≠ 1 then s
    else if j.src < 2 ∧ colophonValid (s.bndSlot j.src).colophon = false then s.bndFail 0x1B 0
    else if j.src < 2 ∧ readError = true then (s.flag BND_TROUBLE_STORE_ERR).bndFail 0x0C 0
    else match headerBad j.bytes 1 with
      | some (code, idx) => s.bndFail code idx
      | none =>
        if j.src < 2 ∧ (s.bndSlot j.src).colophon ≠ colophonOf j.bytes then s.bndFail 0x1B 0
        else (s.wr BND_STATUS_PHASE 3).onLoad (fun j => { j with keyOk := s.bndKeyOk j.bytes })

/-- The words of a body are written to the fields that its section fills (R43). -/
def State.fillRegs (s : State) (c : Sec) (b : SecBody) : State :=
  b.regs.foldl (fun s r => (c.fills r.1).foldl (fun s p => s.wrAt p r.2) s) s

/-- The tables of a section take the contents of a body, in the running bank: each is replaced whole. -/
def State.fillTabs (s : State) (c : Sec) (b : SecBody) : State :=
  c.tabs.foldl (fun s t => s.onTab t.1 (fun x => { x with active := b.tab t.1 })) s

/-- The cadence that a TIME section leaves where it fills neither register: K of 4 and an offset of 500 µs (R25, R28). -/
def State.timeDefaults (s : State) : State := (s.wr TIM_CADENCE_CFG_K 4).wr TIM_CADENCE_OFS_OFFSET_US 500

/-- A section of a container is applied to the running configuration: the code and index of a failure, or none. -/
def State.applySec (s : State) (bs : List Byte) (c : Sec) : Bad × State :=
  let i := dirIndex bs c.tag
  match decodeBody c (bodyOf bs i) with
  | .inl code => (some (code, i), s)
  | .inr b =>
    let s := ((if c.tag = secTime.tag then s.timeDefaults else s).fillTabs c b).fillRegs c b
    let s := if c.tag = secLogc.tag then s.onLge (fun e => { e with digest := (dirEnt bs i).digest }) else s
    let s := if c.tag = secTime.tag ∧ b.regs.any (fun r => r.1 == TIM_UTC_OFFSET_OFFSET_S.off) then s.wr TIM_STATUS_UTC_VALID 1 else s
    (none, if c.tag = secKeyp.tag then s.keypApply else s)

/-- Sections are applied in order until one fails. -/
def State.applySecs (s : State) (bs : List Byte) : List Sec → Bad × State
  | [] => (none, s)
  | c :: cs => match s.applySec bs c with
    | (some b, s') => (some b, s')
    | (none, s') => s'.applySecs bs cs

/-- The Endpaper is written by the boot code, unless an earlier attempt has locked it (R46-R48). -/
def State.applyEpap (s : State) (bs : List Byte) : Bad × State :=
  let i := dirIndex bs secEpap.tag
  match decodeBody secEpap (bodyOf bs i) with
  | .inl code => (some (code, i), s)
  | .inr b => (none, (if s.on BND_STATUS_EP_LOCK then s else s.fillRegs secEpap b).wr BND_STATUS_EP_LOCK 1)

/-- The journal entries that the load applies. -/
def State.loadJournal (s : State) (j : LoadJob) : List (List Byte × Bool) := if j.src < 2 then (s.bndSlot j.src).journal else []

/-- The SIGNATURE, ENDPAPER and FILL phases run (R41, R42, R46-R49, R52). A load after the unseal has stopped ends with TAMPER
(R452). -/
def State.bndSigned (s : State) : State :=
  match s.bnd.load with
  | none => s
  | some j =>
    if s.rd BND_STATUS_PHASE ≠ 3 ∨ s.keysReady = false then s
    else if s.rd KEY_STATUS_STATE = 3 then s.bndFail 0x0D 0
    else match s.bndSignature j.bytes j.keyOk with
      | (0, s) =>
        if imageVersion j.bytes < s.bnd.floor then s.bndFail 8 0
        else match s.applyEpap j.bytes with
          | (some (code, i), s) => s.bndFail code i
          | (none, s) =>
            let s := { s with tables := tableIds.map (fun i => { id := i }) }
            match s.applySecs j.bytes (sections.drop 1) with
            | (some (code, i), s) => s.bndFail code i
            | (none, s) => s.wr BND_STATUS_PHASE (if s.loadJournal j = [] then 7 else 6)
      | (code, s) => s.bndFail code 0

/-! ## Checks of contents (R49 CHECK, R56) -/

/-- The CHECK of TIME: K in 1 to 16, a station rate that is a multiple of K, and a cadence offset of at most 5 ms (R25, R28). -/
def State.timeOk (s : State) : Bool :=
  let k := s.rd TIM_CADENCE_CFG_K
  let fs := s.rd TIM_CADENCE_CFG_FS
  decide (1 ≤ k ∧ k ≤ 16) && decide (0 < fs) && decide (fs % k = 0) && decide (s.rd TIM_CADENCE_OFS_OFFSET_US ≤ 5000)

/-- The CHECK of EVTS: entries 0 to 63 are unused (R323). -/
def evtsOk (m : Store) : Bool := m.all (fun e => decide (64 ≤ e.1) || decide (e.2 % 2 ^ 32 = 0))

/-- A tip-in keeps the index of every stable identity of EVTS (R323). -/
def evtsKeep (old new : Store) : Bool :=
  new.all (fun e => match findStable old (e.2 % 2 ^ 32) with
    | some (i, _) => decide (i = e.1)
    | none => true)

/-- Within each table of a tip-in-capable section the stable identities are unique (R44); a section that breaks this is
answered CONTENT (DESIGN CHOICE, log entry 44). -/
def stableOk (t : Nat → Store) (c : Sec) : Bool := c.tip.isNone || c.tabs.all (fun x => idsUnique (t x.1))

/-- The checks of contents that the blocks make, in order: the sections that each bears on, the first one to blame first, and its
outcome; `t` gives the tables to check, `period` and `budget` the registers of LOGC. -/
def State.blockChecks (s : State) (t : Nat → Store) (period budget : Nat) : List (List Sec × Bool) :=
  [([secKeyp], keypOk (t 0x1201)), ([secTime], s.timeOk), ([secPort], s.portOk), ([secSwch], s.swchOk s.folioOn),
   ([secPlce], s.plceOk), ([secSubs], s.subsOk (usedOf (t 0x201)) (usedOf (t 0x202))), ([secFilt, secSubs], filtOk (usedOf (t 0x501)) (t 0x502) (usedOf (t 0x201))),
   ([secBkst, secCurv], bkstOk (usedOf (t 0x504)) (t 0x503)), ([secLogc], logcOk (usedOf (t 0x901)) (usedOf (t 0x902)) period budget),
   ([secCtlo, secPubl], ctloOk (usedOf (t 0x1601)) (usedOf (t 0x1602)) (usedOf (t 0xE01))),
   ([secPubl, secCtlo], s.publOk (usedOf (t 0xE01)) (usedOf (t 0xE02)) (objMembers (usedOf (t 0x1601)))),
   ([secGath, secTrig], gthOk (usedOf (t 0x1001)) (usedOf (t 0x1002)) (usedOf (t 0x201)) (usedOf (t 0x501))), ([secEvts], evtsOk (usedOf (t 0xF01))), ([secTwin], s.twinOk)]

/-- The checks of contents in order, with the uniqueness of stable identities (R44). -/
def State.contentChecks (s : State) (t : Nat → Store) (period budget : Nat) : List (List Sec × Bool) :=
  (s.blockChecks t period budget).map (fun c => (c.1, c.2 && c.1.all (stableOk t)))

/-- The section that a load's CHECK blames, if any. -/
def State.loadBad (s : State) : Option Sec :=
  ((s.contentChecks (fun i => (s.tab i).active) (s.rd LGE_SCAN_CFG_PERIOD_US) (s.rd LGE_SCAN_CFG_BUDGET_US)).find?
    (fun c => !c.2)).bind (fun c => c.1.head?)

/-! ## Verifying a tip-in (R56, R57) -/

/-- The sections of a tip-in with their contents. -/
abbrev TipBody := List (Sec × SecBody)

/-- The bodies of a tip-in, or the code with which one fails. -/
def tipBodies (bs : List Byte) : Nat → List DirEnt → Nat ⊕ TipBody
  | _, [] => .inr []
  | i, d :: l =>
    match secOf d.tag with
    | none => .inl 9
    | some c => match decodeBody c (bodyOf bs i) with
      | .inl code => .inl code
      | .inr b => match tipBodies bs (i + 1) l with
        | .inl code => .inl code
        | .inr rest => .inr ((c, b) :: rest)

/-- Table `id` as the tip-in brings it, or the running one. -/
def State.tipTab (s : State) (tb : TipBody) (id : Nat) : Store :=
  match tb.find? (fun x => x.1.tabs.any (fun t => t.1 == id)) with
  | some x => x.2.tab id
  | none => (s.tab id).active

/-- The last word that a tip-in writes to a register. -/
def tipWord (tb : TipBody) (o : Nat) : Option Nat :=
  ((tb.flatMap (fun x => x.2.regs)).reverse.find? (fun r => r.1 == o)).map (fun r => r.2)

/-- The value of a register field of LOGC or CTLO that the tip-in brings, if any. -/
def tipField (tb : TipBody) (f : Fld) : Option Nat := (tipWord tb f.off).map (fun v => bits v f.lo f.w)

/-- The mask of sections in the bit order of BND_EP_POLICY.SECTIONS. -/
def tipMask (tb : TipBody) : Nat := tb.foldl (fun n x => n + 2 ^ (x.1.tip.getD 0)) 0

/-- Whether a tip-in holds a section. -/
def tipHas (tb : TipBody) (c : Sec) : Bool := tb.any (fun x => x.1.tag == c.tag)

/-- The owning blocks reject no contents of the tip-in (R56, R121, R146, R360). -/
def State.tipContentOk (s : State) (tb : TipBody) : Bool :=
  let t := s.tipTab tb
  (s.contentChecks t ((tipField tb LGE_SCAN_CFG_PERIOD_US).getD (s.rd LGE_SCAN_CFG_PERIOD_US))
    ((tipField tb LGE_SCAN_CFG_BUDGET_US).getD (s.rd LGE_SCAN_CFG_BUDGET_US))).all
      (fun c => c.2 || !c.1.any (fun x => tipHas tb x)) &&
  (!tipHas tb secBkst || s.floorOk (t 0x504)) && (!tipHas tb secGath || s.gthStageOk (t 0x1002)) &&
  (!tipHas tb secEvts || evtsKeep (s.used 0xF01) (usedOf (t 0xF01)))

/-- The journal of the active slot has room for a container (R36). -/
def State.journalRoom (s : State) (bs : List Byte) : Bool :=
  match s.activeSlot with
  | none => true
  | some k =>
    let j := (s.bndSlot k).whole
    !s.on BND_EP_POLICY_JOURNAL_EN ||
      (decide (j.length < 16) && decide (j.foldl (fun n e => n + e.1.length) 0 + bs.length ≤ 2 ^ 25))

/-- The checks of a tip-in container against a full Binding with digest `base`: its contents, or the code with which it
fails, and the state with the use of the key counted (R56). `staging` says that it is not a journal entry. -/
def State.verifyTip (s : State) (bs base : List Byte) (keyBefore staging : Bool) : (Nat ⊕ TipBody) × State :=
  if s.on BND_EP_POLICY_TIPIN_EN = false then (.inl 0x17, s)
  else match headerBad bs 2 with
    | some (code, _) => (.inl code, s)
    | none =>
      if (dirOf bs).any (fun d => match (secOf d.tag).bind (fun c => c.tip) with
          | some b => !bitAt (s.rd BND_EP_POLICY_SECTIONS) b
          | none => true) then (.inl 0x13, s)
      else if keySlotOf bs ≠ s.rd BND_EP_POLICY_TIP_KEY_SLOT then (.inl 5, s)
      else match s.bndSignature bs keyBefore with
        | (0, s) =>
          if slice bs 0x40 32 ≠ base then (.inl 0x11, s)
          else if imageVersion bs ≠ s.rd BND_TIP_SEQ + 1 then (.inl 0x12, s)
          else if staging && !s.journalRoom bs then (.inl 0x16, s)
          else match tipBodies bs 0 (dirOf bs) with
            | .inl code => (.inl code, s)
            | .inr tb => if s.tipContentOk tb then (.inr tb, s) else (.inl 0x0B, s)
        | (code, s) => (.inl code, s)

/-- A journal entry is verified and applied, or the journal ends there (R49 JOURNAL, R53). -/
def State.bndJournal (s : State) : State :=
  match s.bnd.load with
  | none => s
  | some j =>
    if s.rd BND_STATUS_PHASE ≠ 6 then s
    else
      let stop (s : State) : State := (s.flag BND_TROUBLE_JOURNAL_TRUNC).wr BND_STATUS_PHASE 7
      match (s.loadJournal j)[j.entry]? with
      | none => s.wr BND_STATUS_PHASE 7
      | some (_, false) => stop s
      | some (bs, true) =>
        match s.verifyTip bs (signedDigest j.bytes) false false with
        | (.inl _, s) => stop s
        | (.inr tb, s) =>
          let s := tb.foldl (fun s x => (s.fillTabs x.1 x.2).fillRegs x.1 x.2) s
          let s := if tipHas tb secLogc then s.onLge (fun e => { e with digest := (dirEnt bs (dirIndex bs secLogc.tag)).digest }) else s
          let s := (s.wr BND_TIP_SEQ (imageVersion bs)).onBnd (fun b => { b with confirmed := (imageVersion bs, (signedDigest bs).take 8) })
          let s := s.onLoad (fun j => { j with entry := j.entry + 1 })
          if j.entry + 1 < (s.loadJournal j).length then s else s.wr BND_STATUS_PHASE 7

/-! ## READY (R49, R50) -/

/-- The time base takes up the cadence: the cycle in progress (R309). -/
def State.cadenceStart (s : State) : State := s.wr TIM_CADENCE (s.cycleAt (s.taiNs - s.rd TIM_CADENCE_OFS_OFFSET_US * 1000))

/-- The supervisor watchdog starts, where the Endpaper gives it a period (R450). -/
def State.wdogStart (s : State) : State :=
  if s.rd SYS_WDOG_CFG_PERIOD_MS = 0 then s
  else (s.onSys (fun e => { e with wdogEnd := some s.now })).wdogReload

/-- The load reaches READY: the version registers are valid, and every block takes up what it was filled with. FAIL_CODE and
FAIL_SECTION keep the failure of a first attempt: DESIGN CHOICE, log entry 44. -/
def State.bndReady (s : State) (j : LoadJob) : State :=
  let s := (((s.wr BND_STATUS_PHASE 8).wr BND_STATUS_BUSY 0).wr BND_STATUS_LOADED 1).wr BND_STATUS_SOURCE j.src
  let dig := signedDigest j.bytes
  let s := (s.wr BND_IMAGE_VER_IMAGE_VERSION (imageVersion j.bytes)).onBnd (fun b => { b with load := none })
  let s := (List.range 8).foldl (fun s k => s.wrK BND_DIGEST 0 k (beAt dig (4 * k) 4)) s
  let s := s.onKey (fun e => { e with lossZeroize := s.on KEY_POLICY_AON_LOSS_ZEROIZE })
  let s := (s.cadenceStart.sviReady).fltReady.folReady
  let old := s.lge.committed
  let s := ((s.lgeReady.gthReady).gthImage old).ctlRefresh
  (s.twnReady.wdogStart.supReady).macReady

/-- The CHECK phase has run (R49): CONTENT, or READY. -/
def State.bndChecked (s : State) : State :=
  match s.bnd.load with
  | none => s
  | some j =>
    if s.rd BND_STATUS_PHASE ≠ 7 then s
    else match s.loadBad with
      | some c => s.bndFail 0x0B (dirIndex j.bytes c.tag)
      | none => s.bndReady j

/-- BND_FLOOR_SET: the floor rises to a value between itself and the loaded IMAGE_VERSION (R52). -/
def State.floorSet (s : State) (v : Nat) : State :=
  if s.bnd.floor ≤ v ∧ v ≤ s.rd BND_IMAGE_VER_IMAGE_VERSION then (s.onBnd (fun b => { b with floor := v })).wr BND_FLOOR v
  else s.flag BND_TROUBLE_FLOOR_REJECT

/-! ## The tip-in engine (R55) -/

/-- The tip-in in the engine is replaced. -/
def State.onTip (s : State) (f : TipJob → TipJob) : State := s.onBnd (fun b => { b with tip := b.tip.map f })

/-- A command that the state does not list: ignored, with FAIL_CODE = BUSY. -/
def State.tipBusy (s : State) : State := s.wr BND_TIP_STATUS_FAIL_CODE 0x14

/-- The shadow banks are cleared. -/
def State.clearShadows (s : State) : State :=
  let s : State := { s with tables := s.tables.map (fun (t : Table) => { t with shadow := [] }) }
  s.onLge (fun e => { e with cfgShadow := [], digestShadow := [] })

/-- The retired banks are released (R55 CONFIRM). -/
def State.releaseRetired (s : State) : State :=
  let s : State := { s with tables := s.tables.map (fun (t : Table) => { t with retired := [] }) }
  s.onLge (fun e => { e with cfgRetired := [], digestRetired := [], idsRetired := [], objsRetired := none })

/-- The engine is empty. -/
def State.tipIdle (s : State) : State :=
  ((s.wr BND_TIP_STATUS_STATE 0).wr BND_TIP_STATUS_SECTIONS 0).onBnd (fun b => { b with tip := none })

/-- A tip-in that is not committed ends with a failure code. -/
def State.tipFail (s : State) (code : Nat) : State :=
  (((s.wr BND_TIP_STATUS_FAIL_CODE code).flag BND_TROUBLE_TIP_FAIL).clearShadows).tipIdle.folRefresh

/-- The TIP_IN event (class 0x0F): kind 1 commit, 2 revert, 3 confirm. -/
def State.tipEvent (s : State) (kind seq cycle : Nat) : State :=
  s.event 0x0F (leBytes 4 kind ++ leBytes 4 seq ++ leBytes 8 cycle)

/-- STAGE: verification of the container in the staging window begins. -/
def State.tipStage (s : State) : State :=
  if s.tipSt ≠ 0 ∨ s.on BND_STATUS_BUSY ∨ s.bnd.store.isSome then s.tipBusy
  else
    let bs := s.staged
    (s.onBnd (fun b => { b with tip := some { bytes := bs, mask := 0, digest := signedDigest bs, seq := imageVersion bs,
                                              keyOk := s.bndKeyOk bs } })).wr BND_TIP_STATUS_STATE 1

/-- The shadow banks take the contents of a tip-in. -/
def State.fillShadows (s : State) (bs : List Byte) (tb : TipBody) : State :=
  let s := tb.foldl (fun s x => x.1.tabs.foldl (fun s t => s.onTab t.1 (fun y => { y with shadow := x.2.tab t.1 })) s) s
  let cfg := ((List.range 4).filterMap (fun k => (tipField tb (lgeCfgFld k)).map (fun v => (k, v))))
  s.onLge (fun e => { e with cfgShadow := cfg, digestShadow := if tipHas tb secLogc then (dirEnt bs (dirIndex bs secLogc.tag)).digest else [] })

/-- The verification of a staged tip-in ends: STAGED, or IDLE with its code. While a scan-boundary flip still waits, the
banks that it needs are not free (log entry 26). -/
def State.tipVerified (s : State) : State :=
  match s.bnd.tip with
  | none => s
  | some t =>
    if s.tipSt ≠ 1 ∨ s.lge.flips ≠ [] ∨ s.keysReady = false then s
    else match s.verifyTip t.bytes s.bindingDigest t.keyOk true with
      | (.inl code, s) => s.tipFail code
      | (.inr tb, s) =>
        let s := (s.fillShadows t.bytes tb).onTip (fun t => { t with mask := tipMask tb })
        (s.wr BND_TIP_STATUS_SECTIONS (tipMask tb)).wr BND_TIP_STATUS_STATE 2

/-- The first boundary at least 100 µs ahead (R59). -/
def State.firstBoundary (s : State) : Nat :=
  ((List.range 64).find? (fun k => decide (s.taiNs + 100000 ≤ s.boundary (s.cycle + k)))).elim s.cycle (fun k => s.cycle + k)

/-- ARM: the target is fixed, or TARGET where it is past or less than 100 µs away (R55, R59). -/
def State.tipArm (s : State) : State :=
  if s.tipSt ≠ 2 then s.tipBusy
  else
    let n := if s.rd BND_TIP_TARGET = 0 then s.firstBoundary else s.rd BND_TIP_TARGET
    if n < s.cycle ∨ s.boundary n < s.taiNs + 100000 then (s.wr BND_TIP_STATUS_FAIL_CODE 0x19).flag BND_TROUBLE_TIP_FAIL
    else (((s.onTip (fun t => { t with target := n, checked := none })).wr BND_TIP_STATUS_DEFERRALS 0).wr BND_TIP_STATUS_STATE 3).folRefresh

/-- CONFIRM takes effect: the sequence number is applied, and the retired banks are released. -/
def State.tipConfirmed (s : State) : State :=
  match s.bnd.tip with
  | none => s
  | some t =>
    let s := (s.wr BND_TIP_SEQ t.seq).onBnd (fun b => { b with confirmed := (t.seq, t.digest.take 8) })
    ((s.releaseRetired).tipEvent 3 t.seq t.commit).tipIdle

/-- CONFIRM: the container is appended to the journal of the active slot, if there is one to append to (R37, R55). -/
def State.tipConfirm (s : State) : State :=
  match s.bnd.tip with
  | none => s.tipBusy
  | some t =>
    if s.tipSt ≠ 4 ∨ s.bnd.store.isSome then s.tipBusy
    else match s.activeSlot with
      | none => s.tipConfirmed
      | some k =>
        if s.on BND_EP_POLICY_JOURNAL_EN = false then s.tipConfirmed
        else
          let x := s.bndSlot k
          let s := s.setBndSlot k { x with journal := x.whole ++ [(t.bytes, false)] }
          s.onBnd (fun b => { b with store := some { op := 3, slot := k, bytes := t.bytes, seq := t.seq } })

/-- The journal entry's colophon is written (R36). -/
def State.journalAppended (s : State) : State :=
  match s.bnd.store with
  | none => s
  | some j =>
    if j.op ≠ 3 then s
    else
      let x := s.bndSlot j.slot
      let s := s.setBndSlot j.slot { x with journal := x.whole ++ [(j.bytes, true)] }
      (s.onBnd (fun b => { b with store := none })).tipConfirmed

/-- A revert is scheduled for the end of the cycle in progress. -/
def State.tipReverting (s : State) : State :=
  (((s.onTip (fun t => { t with target := s.cycle, checked := none })).wr BND_TIP_STATUS_DEFERRALS 0).wr BND_TIP_STATUS_STATE 5).folRefresh

/-- A standby of a twin pair: its tip-in follows the active module's orders (R383). -/
def State.tipFollows (s : State) : Bool := (decide (s.role = 5) || decide (s.role = 6)) && s.hbFresh

/-- REVERT: scheduled; a standby reverts only on the active module's order (R55, R383). -/
def State.tipRevert (s : State) : State :=
  if s.tipSt ≠ 4 ∨ s.bnd.store.isSome ∨ s.role = 5 ∨ s.role = 6 then s.tipBusy
  else
    let s := s.tipReverting
    if s.role = 3 then s.onTwn (fun t => { t with order := (3, s.tipTarget) }) else s

/-- DISCARD of a tip-in that is not committed. -/
def State.tipDiscard (s : State) : State := if s.tipSt = 1 ∨ s.tipSt = 2 ∨ s.tipSt = 3 then s.tipFail 0x0F else s.tipBusy

/-- REVERT_TIMEOUT cadence cycles have passed since the commit without CONFIRM (R55). -/
def State.revertTimeout (s : State) : State :=
  let r := s.rd BND_TIP_CFG_REVERT_TIMEOUT
  if s.tipSt = 4 ∧ r ≠ 0 ∧ s.rd BND_TIP_COMMIT + r + 1 ≤ s.cycle ∧ s.bnd.store = none ∧ s.role ≠ 5 ∧ s.role ≠ 6 then
    let s := s.tipReverting
    if s.role = 3 then s.onTwn (fun t => { t with order := (3, s.tipTarget) }) else s
  else s

/-! ## The commit (R58-R63, R383) -/

/-- Every cycle numbered `n` or lower of every folio that runs cadence cycles has been resolved (R59): those in the Clasp,
those ready and not dispatched, and those whose readiness is still to come. -/
def State.resolvedTo (s : State) (n : Nat) : Bool :=
  !s.cadenceRole ||
  s.cadenceFolios.all (fun f =>
    decide (s.folSt f = 0 ∨ s.folSt f = 5 ∨ s.folSt f = 6) ||
    (let x := s.folio f
     let ahead (m : Nat) : Bool := s.on FOL_CTRL_ENABLE && s.on CLS_CTRL_ENABLE && !x.evented.contains m &&
       decide (s.taiNs < s.cycleStart (m + 1) + s.deadlineNs f)
     x.cycs.all (fun c => c.resolved || decide (n < c.cycle)) && x.ready.all (fun m => decide (n < m)) &&
     (List.range 64).all (fun k => decide (n < k) || !ahead (n - k))))

/-- The commit is deferred to the next boundary (R59). -/
def State.tipDefer (s : State) (n code : Nat) : State :=
  let d := min 15 (s.rd BND_TIP_STATUS_DEFERRALS + 1)
  let s := ((s.wr BND_TIP_STATUS_DEFERRALS d).flag BND_TROUBLE_TIP_DEFERRED).onTip (fun t => { t with target := n + 1, checked := none })
  if s.tipSt = 3 ∧ max 1 (s.rd BND_TIP_CFG_MAX_DEFER) ≤ d then s.tipFail code else s.folRefresh

/-- The check before the target boundary `n` (R59). -/
def State.tipCheck (s : State) (n : Nat) : State :=
  let own := s.resolvedTo n && s.fol.subs.isEmpty && decide (s.lge.flips = [])
  let ok := own && (decide (s.tipSt = 5) || s.twinTipOk)
  let order := if ok then (if s.tipSt = 5 then 3 else 1) else 2
  let s := if s.role = 3 then s.onTwn (fun t => { t with order := (order, n) }) else s
  if ok then s.onTip (fun t => { t with checked := some (n, true) }) else s.tipDefer n (if own then 0x18 else 0x15)

/-- The check comes 20 µs before the target boundary (R59); a standby takes no check of its own (R383). -/
def State.commitCheck (s : State) : State :=
  match s.bnd.tip with
  | none => s
  | some t =>
    if (s.tipSt = 3 ∨ s.tipSt = 5) ∧ s.tipFollows = false ∧ t.checked = none ∧ s.boundary t.target ≤ s.taiNs + 20000 then s.tipCheck t.target
    else s

/-- The flip at boundary `n`: a commit, or a revert (R57, R60-R62). -/
def State.tipFlip (s : State) (t : TipJob) (n : Nat) (revert : Bool) : State :=
  let has (c : Sec) : Bool := bitAt t.mask (c.tip.getD 0)
  let before := (s.rd BND_TIP_SEQ, s.quireDigest)
  let s := s.onBnd (fun b => { b with before := before })
  let s := (s.wr BND_TIP_COMMIT n).wr BND_TIP_EPOCH (s.rd SVI_EPOCH)
  let turn (c : Sec) (s : State) : State :=
    if has c then c.tabs.foldl (fun s x => if revert then s.revertTab x.1 else s.flipTab x.1) s else s
  let ctxs := s.used 0x201
  let insts := s.used 0x501
  let elems := s.used 0x504
  let pubs := s.used 0xE01
  let s := [secSubs, secFilt, secCurv, secBkst, secPubl, secTrig, secGath, secEvts].foldl (fun s c => turn c s) s
  let s := if has secSubs then s.subsFlip ctxs n else s
  let streams (i : Nat) : Nat := if has secSubs then movedStream ctxs (s.used 0x201) s.svi.flips i else i
  let s := if has secSubs || has secFilt || has secCurv || has secBkst then s.fltFlip insts elems streams n else s
  let s := if has secPubl then s.pubFlip pubs else s
  let data := has secSubs || has secFilt || has secCurv || has secBkst
  let moved (i : Nat) : Nat := if data then s.movedInst insts s.flt.flips i else i
  let s := if data || has secTrig || has secGath then s.gthFlip streams moved else s
  let img := s.lge.committed
  let s := (s.lgeFlipRequest (has secLogc) (has secCtlo) revert).gthImage img
  let s := s.tipEvent (if revert then 2 else 1) t.seq n
  if revert then (s.tipIdle.flag BND_TROUBLE_TIP_REVERTED).folRefresh
  else ((s.onTip (fun t => { t with commit := n, checked := none })).wr BND_TIP_STATUS_STATE 4).folRefresh

/-- The boundary ending cycle `n` passes for the tip-in in the engine, after the formation of quire `n` (R60). -/
def State.tipBoundary (s : State) (n : Nat) : State :=
  let s' := match s.bnd.tip with
    | none => s
    | some t =>
      if s.tipFollows then
        let o := (s.twn.peer.map (fun (b : Beat) => (b.order, b.target))).getD (0, 0)
        if s.tipSt = 3 ∧ t.target ≤ n then (if o = (1, n) then s.tipFlip t n false else s.tipDefer n 0x15)
        else if (s.tipSt = 4 ∨ s.tipSt = 5) ∧ o = (3, n) then s.tipFlip t n true
        else s
      else if (s.tipSt = 3 ∨ s.tipSt = 5) ∧ t.target ≤ n then
        let s := if t.checked = some (n, true) then s else s.tipCheck n
        match s.bnd.tip with
        | none => s
        | some t => if t.checked = some (n, true) then s.tipFlip t n (decide (s.tipSt = 5)) else s
      else s
  s'.onTwn (fun t => { t with order := (0, 0) })

/-! ## Store commands (R37, R54) -/

/-- A store command that is refused, or a store operation that fails. -/
def State.storeFail (s : State) (code : Nat) : State := (s.wr BND_STORE_STATUS_FAIL_CODE code).flag BND_TROUBLE_STORE_ERR

/-- PROGRAM (1) or ERASE_JOURNAL (2) on a slot. -/
def State.storeStart (s : State) (op slot : Nat) : State :=
  let s := s.wr BND_STORE_CTRL_TARGET_SLOT slot
  if s.bnd.store.isSome || s.on BND_STATUS_BUSY then s.storeFail 0x14
  else if s.activeSlot = some slot then s.storeFail 0x1A
  else (s.onBnd (fun b => { b with store := some { op := op, slot := slot, bytes := if op = 1 then s.staged else [],
                                                     keyOk := decide (op = 1) && s.bndKeyOk s.staged } })).wr BND_STORE_STATUS_BUSY 1

/-- A store operation ends. -/
def State.storeEnd (s : State) : State := (s.onBnd (fun b => { b with store := none })).wr BND_STORE_STATUS_BUSY 0

/-- A slot that has become the active one, or from which a load runs, since the store command began: the module writes only the
inactive slot (R37), so the operation ends with ACTIVE_SLOT (DESIGN CHOICE, log entry 44). -/
def State.slotTaken (s : State) (k : Nat) : Bool :=
  decide (s.activeSlot = some k) || (match s.bnd.load with | some j => decide (j.src = k) | none => false)

/-- PROGRAM ends: a container that passes the checks of a load up to the signature check is in the slot (R37). -/
def State.storeWritten (s : State) : State :=
  match s.bnd.store with
  | none => s
  | some j =>
    if j.op ≠ 1 ∨ s.keysReady = false then s
    else match headerBad j.bytes 1 with
      | some (code, _) => s.storeEnd.storeFail code
      | none => match s.bndSignature j.bytes j.keyOk with
        | (0, s) =>
          if imageVersion j.bytes < s.bnd.floor then s.storeEnd.storeFail 8
          else if s.slotTaken j.slot then s.storeEnd.storeFail 0x1A
          else ((s.setBndSlot j.slot { image := j.bytes, colophon := colophonOf j.bytes }).storeEnd).flag BND_STORE_STATUS_DONE
        | (code, s) => s.storeEnd.storeFail code

/-- ERASE_JOURNAL ends. -/
def State.journalErased (s : State) : State :=
  match s.bnd.store with
  | none => s
  | some j =>
    if j.op ≠ 2 then s
    else if s.slotTaken j.slot then s.storeEnd.storeFail 0x1A
    else ((s.setBndSlot j.slot { s.bndSlot j.slot with journal := [] }).storeEnd).flag BND_STORE_STATUS_DONE

/-- A container passes the checks of a load from the header check to the signature check (R37): nothing is written where it
does not. -/
def State.storeVerified (s : State) (j : StoreJob) : Bool :=
  s.keysReady && decide (headerBad j.bytes 1 = none) && decide ((s.bndSignature j.bytes j.keyOk).1 = 0) &&
    decide (s.bnd.floor ≤ imageVersion j.bytes)

/-- What a write to the store that is cut short leaves: a slot whose colophon was erased, once its container has been verified;
an erased journal (R37); a torn journal entry is in place already (R36). The active slot is never written. -/
def State.storeCut (s : State) : State :=
  match s.bnd.store with
  | none => s
  | some j =>
    if j.op = 1 then
      if s.storeVerified j && !s.slotTaken j.slot then s.setBndSlot j.slot { s.bndSlot j.slot with colophon := [] } else s
    else if j.op = 2 then (if s.slotTaken j.slot then s else s.setBndSlot j.slot { s.bndSlot j.slot with journal := [] })
    else s

/-- VWARN (0x0E) or a tamper event (0x0D) ends a load, a tip-in that is not committed and a store operation (R54, R55). -/
def State.bndStop (s : State) (code : Nat) : State :=
  let s := s.bndFail code 0
  let s := if s.tipSt = 1 ∨ s.tipSt = 2 ∨ s.tipSt = 3 then s.tipFail code else s
  match s.bnd.store with
  | none => s
  | some j => if j.op = 3 then s.storeCut.onBnd (fun b => { b with store := none }) else (s.storeCut.storeEnd).storeFail code

end Sys2Proof.Machine
end

