-- ==== Sys2Proof/Machine/TimOps.lean ====
section
/-! DEFINITION. The time base: sources, PTP, IRIG-B and PPS, the servo, steps, holdover and the cadence boundary (chapter "Time
base, timestamps and timed launch", R288-R312). What PTP and IRIG-B messages look like comes from their standards (PRESUMED, log
entry 29); readings of the chapter are in log entry 30. -/

namespace Sys2Proof.Machine

open Sys2Proof Reg

/-! ## Steps of the counter (R297, R299, R310-R312) -/

/-- Every cycle of a stream below `n` is sealed at once (R310). -/
def State.sealTo (s : State) (i n : Nat) : State :=
  match (s.stream i).sealed with
  | none => s
  | some m => (List.range (n - m)).foldl (fun s _ => s.sealCycle i) s

/-- Every enabled stream. -/
def State.liveStreams (s : State) : List Nat := ((s.used 0x201).filter (fun e => Ent.CTX_ENABLE.on e.2)).map (fun e => e.1)

/-- Release decisions due now, in every folio. -/
def State.releases (s : State) : State := State.releaseAll 128 s

/-- What the other blocks learn when the ring or the frontier has moved (R78, R161). -/
def State.afterIngest (s : State) : State := (s.clsFrontier.folTriggers).folRefresh

/-- The boundary that ends the cycle in progress passes (R28, R60, R118, R309). -/
def State.cadenceBoundary (s : State) : State :=
  let n := s.cycle
  let s := (s.releases.abandonOld).formQuire n
  let s := ((s.lgeQuire.lgeBound n).twnBoundary n).tipBoundary n
  let s := (s.migrateBoundary).wr TIM_CADENCE (n + 1)
  (s.onSvi (fun v => { v with simMode := s.on SVI_CTRL_SIM_MODE })).folRefresh

/-- Every seal and every deadline whose instant has come fires, in that order (R309). -/
def State.instantsDue (s : State) : State :=
  let s := (s.liveStreams.foldl (fun s i => (List.range 64).foldl (fun s _ => s.seal i) s) s).afterIngest
  s.cadenceFolios.foldl State.deadline s

/-- The boundary of the cycle in progress, once the counter has reached it; the seals and deadlines that fall before it or with it
fire first (R309). -/
def State.cadenceInstant (s : State) : State :=
  if s.loaded && decide (s.boundary s.cycle ≤ s.tai) then s.instantsDue.cadenceBoundary else s

/-- Cycles `n + 1` to `m - 1` are skipped, once the seals, the deadlines and the boundary of cycle `n` have fired at once
(R310). -/
def State.cadenceSkip (s : State) (n m : Nat) : State :=
  let s := (s.liveStreams.foldl (fun s i => s.sealTo i (n + 1)) s).afterIngest
  let s := s.cadenceFolios.foldl (fun s f => s.readyEvent f n) s
  let s := s.cadenceBoundary
  let s := s.liveStreams.foldl (fun s i => s.sealTo i m) s
  let s := (s.folSkip (n + 1) (m - 1)).afterIngest
  (((s.wr TIM_CADENCE m).bumpBy TIM_CADENCE_SKIPPED (m - n - 1)).flag TIM_TROUBLE_CADENCE_SKIP).folRefresh

/-- The cadence restarts at cycle `m` (R311). -/
def State.cadenceRestart (s : State) (m : Nat) : State :=
  let n := s.cycle
  let s := (s.clsRestart).wr TIM_CADENCE m
  let s := s.onSvi (fun v => { v with streams := v.streams.map (fun p =>
    (p.1, { p.2 with ring := [], expired := m, sealed := if v.c0 = none then none else some m })) })
  let s := ((s.fltRestart m).folRestart).gthRestart.twnRestart
  let s := (s.flag TIM_TROUBLE_CADENCE_RESTART).event 0x04 (leBytes 8 n ++ leBytes 8 m)
  s.folRefresh

/-- The counter steps to a new value, with the record and the cadence action (R310, R312); `cause` is 1 servo, 2 host, 3 first
acquisition. A step forward that leaves a held cycle ahead keeps holding it (DEDUCED, log entry 30). -/
def State.timeStep (s : State) (new : Nat) (cause : Nat) : State :=
  let old := s.tai
  let new : Nat := new % 2 ^ 64
  let d : Int := (new : Int) - old
  let n := s.cycle
  let s := { s with tai := new, tim := { s.tim with second := if new % 1000000000 = 0 then none else some (new / 1000000000) } }
  let m := s.cycleAt (new - s.rd TIM_CADENCE_OFS_OFFSET_US * 1000)
  let action := if !s.loaded || decide (m = n) then 0
    else if m < n ∧ -d ≤ (s.cycleNs : Int) then 1
    else if 0 < d ∧ n < m ∧ m - n ≤ 63 then 2
    else 3
  let s := ((s.bump TIM_STEPS).wr TIM_LAST_STEP (unsigned 64 d)).flag TIM_TROUBLE_STEP
  let s := s.event 0x03 (leBytes 8 old ++ leBytes 8 new ++ leBytes 8 (unsigned 64 d) ++ leBytes 1 cause ++ leBytes 1 action)
  let s := s.gthStep
  let s := if action = 2 then s.cadenceSkip n m else if action = 3 then s.cadenceRestart m else s
  s.retestLaunch

/-- A host adjustment: 1 SET, 2 STEP, anything else BAD_OP. It waits for the next period of the time-base clock, and a GO meanwhile is
ignored (R299). -/
def State.timeAdjust (s : State) (op value : Nat) : State :=
  if s.on TIM_ADJ_STATUS_BUSY then s
  else if op ≠ 1 ∧ op ≠ 2 then s.answer TIM_ADJ_STATUS_DONE TIM_ADJ_STATUS_RESULT 2
  else if s.rd TIM_STATUS_SOURCE ≠ 0 then (s.answer TIM_ADJ_STATUS_DONE TIM_ADJ_STATUS_RESULT 1).flag TIM_ADJ_STATUS_ADJ_REFUSED
  else (s.begin TIM_ADJ_STATUS_BUSY).onTim (fun t => { t with adj := some (op, value) })

/-- A host adjustment that waits is applied in its period: a SET loads the counter, a STEP adds to it (R291, R299). -/
def State.timeApply (s : State) : State :=
  match s.tim.adj with
  | none => s
  | some (op, value) =>
    let s := s.onTim (fun t => { t with adj := none })
    let s := if op = 1 then s.wr TIM_STATUS_TIME_VALID 1 else s
    (s.timeStep (if op = 1 then value else unsigned 64 ((s.tai : Int) + signed 64 value)) 2).finish
      TIM_ADJ_STATUS_BUSY TIM_ADJ_STATUS_DONE TIM_ADJ_STATUS_RESULT 0

/-! ## The servo (R292, R297, R298) -/

/-- The largest frequency correction, ±500 ppm in steps of 2^-32 ns per 4 ns (R288). -/
def freqLimit : Nat := 8589934

/-- A frequency correction within the range of R288 is in force from now on. -/
def State.setFreq (s : State) (f : Int) : State :=
  let f := max (-(freqLimit : Int)) (min (freqLimit : Int) f)
  (s.wr TIM_FREQ (unsigned 32 f)).onTim (fun t => { t with freqs := (s.now, f) :: t.freqs.takeWhile (fun x => decide (s.now ≤ x.1 + 60000000000)) ++
    (t.freqs.dropWhile (fun x => decide (s.now ≤ x.1 + 60000000000))).take 1 })

/-- The frequency is steered to the 10 MHz reference: a correction that the reference gives, a free value (R295, log entry 30). -/
def State.slew (s : State) : State :=
  let (v, s) := s.fresh
  s.setFreq ((v % (2 * freqLimit + 1) : Nat) - (freqLimit : Nat))

/-- The same while the reference is qualified. -/
def State.steer10 (s : State) : State := if s.on TIM_STATUS_REF10_OK then s.slew else s

/-- One pass of the proportional-integral loop on an offset; its gains are not stated (R297, log entry 30). -/
def State.piLoop (s : State) (off : Int) : State :=
  let i := s.tim.integ + Config.servoIntegral off
  (s.onTim (fun t => { t with integ := i })).setFreq (Config.servoProportional off + i)

/-- The mean correction of the last 60 s (R298). -/
def State.meanFreq (s : State) : Int :=
  let start := s.now - 60000000000
  let step (a : Int × Nat × Nat) (x : Nat × Int) : Int × Nat × Nat :=
    let from_ := max start x.1
    (a.1 + x.2 * ((a.2.2 - from_ : Nat) : Int), a.2.1 + (a.2.2 - from_), min a.2.2 from_)
  let (sum, total, _) := s.tim.freqs.foldl step (0, 0, s.now)
  if total = 0 then signed 32 (s.rd TIM_FREQ) else divRound sum total

/-- The PPS output is driven (R300). -/
def State.ppsDriven (s : State) : Bool :=
  let st := s.rd TIM_STATUS_STATE
  decide (st = 2) || decide (st = 3) || (decide (st = 0) && s.on TIM_CTRL_PPS_FREE)

/-- TIM_STATUS.STATE changes. A pulse of the PPS output ends where it is no longer driven (R300). -/
def State.timState (s : State) (st : Nat) : State :=
  let s := s.wr TIM_STATUS_STATE st
  s.onTim (fun t => { t with near := 0, far := 0, used := if st = 0 then false else t.used,
                             ppsOut := if s.ppsDriven then t.ppsOut else none })

/-- Entry `i` of TIM_SRC_CFG.LIST. -/
def State.srcAt (s : State) (i : Nat) : Nat := bits (s.rd TIM_SRC_CFG_LIST) (3 * i) 3

/-- Whether list entry `i` is qualified. -/
def State.qualified (s : State) (i : Nat) : Bool := bitAt (s.rd TIM_STATUS_QUALIFIED) i

/-- The highest-priority qualified entry. -/
def State.bestSource (s : State) : Option Nat := (List.range 4).find? (fun i => s.qualified i && decide (s.srcAt i ≠ 0))

/-- One offset measurement of the selected source reaches the servo, in ns (R297, R298). -/
def State.servo (s : State) (off : Int) : State :=
  let s := s.wr TIM_OFFSET_OFFSET_NS (unsigned 32 (satSigned 32 off))
  let size := off.natAbs
  let first := !s.tim.used && !s.on TIM_STATUS_TIME_VALID
  let stepNs := s.rd TIM_STEP_CFG_STEP_NS
  let big := if stepNs ≠ 0 ∧ stepNs ≤ size then s.tim.big + 1 else 0
  let steps := first || decide (stepNs ≠ 0 ∧ stepNs ≤ size ∧ max 1 (s.rd TIM_STEP_CFG_STEP_CONFIRM) ≤ big)
  let lock := s.rd TIM_SERVO_CFG_LOCK_NS
  let near := if size ≤ lock then s.tim.near + 1 else 0
  let far := if 2 * lock < size then s.tim.far + 1 else 0
  let s := s.onTim (fun t => { t with used := true, big := if steps then 0 else big, near := near, far := far })
  let s := s.piLoop off
  let s := if steps then (s.timeStep (unsigned 64 ((s.tai : Int) - off)) (if first then 3 else 1)).onTim (fun t => { t with integ := 0 })
           else s
  if s.rd TIM_STATUS_STATE = 1 ∧ 8 ≤ near then (s.timState 2).wr TIM_STATUS_TIME_VALID 1
  else if s.rd TIM_STATUS_STATE = 2 ∧ 3 ≤ far then s.timState 1
  else s

/-- A valid offset measurement of a source, by its code (R292). -/
def State.measure (s : State) (code : Nat) (off : Int) : State :=
  let sec := s.now / 1000000000
  let old := (s.tim.srcs.find? (fun p => p.1 == code)).map (fun p => p.2)
  let run : TimSrc := match old with
    | some x => if x.last = sec then { x with at_ := s.now } else if x.last + 1 = sec then { x with last := sec, at_ := s.now }
                else { first := sec, last := sec, at_ := s.now }
    | none => { first := sec, last := sec, at_ := s.now }
  let s := s.onTim (fun t => { t with srcs := putNum t.srcs code run })
  let mine := (List.range 4).find? (fun i => s.srcAt i == code && s.qualified i)
  let cur := (List.range 4).find? (fun i => s.srcAt i == s.rd TIM_STATUS_SOURCE && s.qualified i)
  let s := match mine, cur with
    | some a, some b => if a < b then (s.wr TIM_STATUS_SOURCE code).flag TIM_TROUBLE_SOURCE_CHANGE else s
    | _, _ => s
  if s.rd TIM_STATUS_SOURCE = code then s.servo off else s

/-- A source has delivered measurements in QUAL_S consecutive seconds (R292, R295, R298). -/
def State.sourceQualified (s : State) (i : Nat) : State :=
  let code := s.srcAt i
  match (s.tim.srcs.find? (fun p => p.1 == code)).map (fun p => p.2) with
  | none => s
  | some x =>
    if code = 0 ∨ 4 < code ∨ s.qualified i = true ∨ s.loaded = false ∨ x.last - x.first + 1 < max 1 (s.rd TIM_SRC_CFG_QUAL_S) ∨
       x.at_ + max 1 (s.rd TIM_SRC_CFG_LOSS_S) * 1000000000 ≤ s.now ∨ (code = 2 ∧ s.on TIM_STATUS_UTC_VALID = false) ∨
       (3 ≤ code ∧ s.on TIM_STATUS_TIME_VALID = false) then s
    else
      let s := s.wrBit TIM_STATUS_QUALIFIED 0 i true
      if s.rd TIM_STATUS_SOURCE = 0 then ((s.wr TIM_STATUS_SOURCE code).wr TIM_STATUS_HOLDOVER_MIN 0).timState 1 else s

/-- A source has delivered no measurement for LOSS_S seconds (R292, R298). -/
def State.sourceLost (s : State) (i : Nat) : State :=
  let code := s.srcAt i
  let silent := match (s.tim.srcs.find? (fun p => p.1 == code)).map (fun p => p.2) with
    | some x => decide (x.at_ + max 1 (s.rd TIM_SRC_CFG_LOSS_S) * 1000000000 ≤ s.now)
    | none => true
  if s.qualified i = false ∨ silent = false then s
  else
    let s := (s.wrBit TIM_STATUS_QUALIFIED 0 i false).onTim (fun t => { t with srcs := t.srcs.filter (fun p => p.1 != code) })
    if s.rd TIM_STATUS_SOURCE ≠ code then s
    else match s.bestSource with
      | some j => ((s.wr TIM_STATUS_SOURCE (s.srcAt j)).flag TIM_TROUBLE_SOURCE_CHANGE).timState 1
      | none =>
        let s := s.wr TIM_STATUS_SOURCE 0
        if s.rd TIM_STATUS_STATE = 2 then
          let s := ((s.timState 3).flag TIM_TROUBLE_HOLDOVER).onTim (fun t => { t with holdAt := s.now })
          if s.on TIM_STATUS_REF10_OK then s.slew else s.wr TIM_FREQ (unsigned 32 s.meanFreq)
        else (s.timState 0).steer10

/-- HOLDOVER has lasted HOLDOVER_MAX_MIN minutes (R298). -/
def State.holdoverExpire (s : State) : State :=
  if s.rd TIM_STATUS_STATE = 3 ∧ s.tim.holdAt + s.rd TIM_SERVO_CFG_HOLDOVER_MAX_MIN * 60000000000 ≤ s.now then
    ((s.timState 0).flag TIM_TROUBLE_FREERUN).steer10
  else s

/-- The 10 MHz reference qualifies: it steers the frequency in HOLDOVER and FREERUN (R295). -/
def State.ref10 (s : State) (ok : Bool) : State :=
  let s := s.wrB TIM_STATUS_REF10_OK ok
  if ok && (decide (s.rd TIM_STATUS_STATE = 0) || decide (s.rd TIM_STATUS_STATE = 3)) then s.slew else s

/-! ## UTC (R296) -/

/-- TIM_UTC_OFFSET takes new values; UTC_VALID sets. -/
def State.utcSet (s : State) (off leap : Nat) : State :=
  let same := decide (s.rd TIM_UTC_OFFSET_OFFSET_S = off % 65536) && decide (s.rd TIM_UTC_OFFSET_LEAP = leap % 4)
  let s := ((s.wr TIM_UTC_OFFSET_OFFSET_S off).wr TIM_UTC_OFFSET_LEAP leap).wr TIM_STATUS_UTC_VALID 1
  s.flagIf (!same) TIM_TROUBLE_UTC_CHANGE

/-- TAI minus UTC in s. -/
def State.utcOffset (s : State) : Int := signed 16 (s.rd TIM_UTC_OFFSET_OFFSET_S)

/-- The second of UTC in progress. -/
def State.utcSecond (s : State) : Nat := (((s.taiNs / 1000000000 : Nat) : Int) - s.utcOffset).toNat

/-- The end of a UTC day with a pending leap second: the inserted second has passed, or the deleted one is reached. -/
def State.leapSecond (s : State) : State :=
  let t := s.utcSecond % 86400
  let leap := s.rd TIM_UTC_OFFSET_LEAP
  if leap = 1 ∧ t = 1 then s.utcSet (unsigned 16 (s.utcOffset + 1)) 0
  else if leap = 2 ∧ t = 86399 then s.utcSet (unsigned 16 (s.utcOffset - 1)) 0
  else s

/-! ## PTP (R293, R294) -/

/-- The PTP engine's port. -/
def State.ptp (s : State) (p : Nat) : PtpPort := getNum {} s.tim.ports p

/-- Replace it. -/
def State.setPtp (s : State) (p : Nat) (x : PtpPort) : State := s.onTim (fun t => { t with ports := putNum t.ports p x })

/-- Offset of the PTP message in a frame, where its EtherType is that of PTP. -/
def ptpOff (bs : List Byte) : Option Nat := if (innerType bs).1 = 0x88F7 then some (innerType bs).2 else none

/-- The PTP message of a frame. -/
def ptpMsg (bs : List Byte) : List Byte := bs.drop ((ptpOff bs).getD 0)

/-- The type of a PTP message; 15 for none. -/
def ptpType (bs : List Byte) : Nat :=
  match ptpOff bs with
  | some o => if beAt bs (o + 1) 1 % 16 = 2 ∧ o + 34 ≤ bs.length then beAt bs o 1 % 16 else 15
  | none => 15

/-- correctionField in 2^-16 ns. -/
def ptpCorr (m : List Byte) : Int := signed 64 (beAt m 8 8)

/-- A 10-byte timestamp of a message in ns. -/
def ptpTime (m : List Byte) (off : Nat) : Nat := beAt m off 6 * 1000000000 + beAt m (off + 6) 4

/-- Take the oldest message of one of some types out of the inbox. -/
def State.takeMsg (s : State) (types : List Nat) : Option TimMsg × State :=
  match s.tim.inbox.find? (fun m => types.contains (ptpType m.bytes)) with
  | none => (none, s)
  | some m => (some m, s.onTim (fun t => { t with inbox := t.inbox.erase m }))

/-- The module's own port identity on a port: EUI-64 of its address, and the port number. -/
def State.ownPort (s : State) (p : Nat) : List Byte :=
  let a := beBytes 6 s.ownMac
  a.take 3 ++ beBytes 2 0xFFFE ++ a.drop 3 ++ beBytes 2 (p + 1)

/-- A message of the time base with its header. -/
def State.ptpMake (s : State) (p typ seq : Nat) (corr : Int) (control : Nat) (body : List Byte) : List Byte :=
  beBytes 6 0x0180C200000E ++ beBytes 6 s.ownMac ++ beBytes 2 0x88F7 ++ beBytes 1 typ ++ beBytes 1 2 ++ beBytes 2 (34 + body.length) ++
  beBytes 1 (s.rd TIM_PTP_CFG_DOMAIN) ++ beBytes 1 0 ++ beBytes 2 0 ++ beBytes 8 (unsigned 64 corr) ++ beBytes 4 0 ++ s.ownPort p ++
  beBytes 2 seq ++ beBytes 1 control ++ beBytes 1 0x7F ++ body

/-- The time base sends a message on a port, past the forwarding decision; class 7 (DESIGN CHOICE, log entry 30). -/
def State.ptpSend (s : State) (p : Nat) (bs : List Byte) (resid : Nat) : State :=
  if s.rdI SWC_P_STATE p = 0 then s.bump SWC_DOWN_DROP
  else s.admitCopy { s.proto 18 7 with port := p, bytes := bs ++ List.replicate (60 - bs.length) 0#8, inResid := resid, toTim := true }

/-- A Pdelay_Req of the time base has left: its egress SFD is t1. -/
def State.ptpSent (s : State) (p : Nat) : State :=
  (s.swc.copies.filter (fun c => c.port == p && c.st == 2 && c.complete && c.ownPtp)).foldl (fun s c =>
    let x := s.ptp p
    if ptpType c.bytes = 2 ∧ beAt (ptpMsg c.bytes) 30 2 = x.reqSeq then s.setPtp p { x with reqT1 := some c.egressTs } else s) s

/-- Ports that run the slave clock. -/
def State.ptpPort (s : State) (p : Nat) : Bool := decide (p < 18) && bitAt (s.rd TIM_PTP_CFG_PTP_PORT_MASK) p

/-- A foreign master is qualified: two Announces in the last four intervals. -/
def State.masterOk (s : State) (m : Master) : Bool :=
  match m.times with
  | [_, t] => decide (s.now ≤ t + 4 * (2 ^ m.logInt * 1000000000 / 65536))
  | _ => false

/-- The rank of a master among those seen on one port: a lower number is better. -/
def Master.rank (m : Master) : Nat := (m.quality * 2 ^ 16 + m.steps) * 2 ^ 80 + m.ident

/-- The best qualified master of a port whose link is up. -/
def State.portBest (s : State) (p : Nat) : Option Master :=
  if s.onI MAC_P_STATUS_LINK p then
    ((s.ptp p).masters.filter s.masterOk).foldl (fun b m => match b with
      | some x => if m.rank < x.rank then some m else b
      | none => some m) none
  else none

/-- The port that faces the best master, and that master: of ports that face the same grandmaster, the lowest-numbered (R293). -/
def State.ptpBest (s : State) : Option (Nat × Master) :=
  (List.range 18).foldl (fun b p => match s.portBest p with
    | some m => if s.ptpPort p then (match b with
        | some (_, x) => if m.quality < x.quality then some (p, m) else b
        | none => some (p, m)) else b
    | none => b) none

/-- Identity of a master's grandmaster. -/
def Master.gm (m : Master) : Nat := m.quality % 2 ^ 64

/-- The states of the ports follow from the best master (R293). A port without a link is FAULTY (PRESUMED, log entry 29). -/
def State.ptpRefresh (s : State) : State :=
  let best := s.ptpBest
  let s := s.wr TIM_GM_ID ((best.map (fun b => b.2.gm)).getD 0)
  (List.range 18).foldl (fun s p =>
    let st := if !(s.loaded && s.ptpPort p) then 0
      else if s.onI MAC_P_STATUS_LINK p = false then 4
      else match best, s.portBest p with
        | some (q, m), some x => if p = q then 2 else if x.gm = m.gm then 3 else 1
        | _, _ => 1
    s.wrI TIM_P_PTP_STATE p st) s

/-- The mean link delay and asymmetry of a port, in 2^-16 ns. -/
def State.pathDelay (s : State) (p : Nat) : Int := (s.rdI TIM_P_MLD p : Int) + signed 32 (s.rdI TIM_P_ASYM p)

/-- An offset in 2^-16 ns is measured on the SLAVE port, where the port's link delay is known (R294). -/
def State.ptpOffset (s : State) (p t2 t1 : Nat) (corr : Int) : State :=
  if s.onI TIM_P_PTP_STATE_MLD_VALID p then
    (s.bump TIM_SYNC_RX).measure 1 (divRound (((t2 : Int) - t1) * 65536 - corr - s.pathDelay p) 65536)
  else s

/-- A message comes from the selected master, in the module's domain, on the SLAVE port. -/
def State.fromMaster (s : State) (m : TimMsg) : Bool :=
  match s.ptpBest with
  | some (p, x) => decide (m.inPort = p) && decide (beAt (ptpMsg m.bytes) 20 10 = x.ident) &&
      decide (beAt (ptpMsg m.bytes) 4 1 = s.rd TIM_PTP_CFG_DOMAIN)
  | none => false

/-- The oldest Sync is taken: a measurement, or the wait for its Follow_Up (R293, R294). -/
def State.ptpSync (s : State) : State :=
  match s.ptpRefresh.takeMsg [0] with
  | (none, _) => s
  | (some m, s) =>
    let x := ptpMsg m.bytes
    if s.fromMaster m = false then s
    else if bitAt (beAt x 6 1) 1 then
      if s.onI TIM_P_PTP_STATE_MLD_VALID m.inPort = false then s
      else s.setPtp m.inPort { s.ptp m.inPort with syncWait := some (beAt x 30 2, m.rxTs, ptpCorr x, s.now) }
    else s.ptpOffset m.inPort m.rxTs (ptpTime x 34) (ptpCorr x)

/-- The oldest Follow_Up is taken: it completes a two-step Sync of the same sequenceId within 100 ms. -/
def State.ptpFollowUp (s : State) : State :=
  match s.ptpRefresh.takeMsg [8] with
  | (none, _) => s
  | (some m, s) =>
    let x := ptpMsg m.bytes
    match (s.ptp m.inPort).syncWait with
    | none => s
    | some (seq, t2, c, at_) =>
      if s.fromMaster m = false ∨ seq ≠ beAt x 30 2 ∨ at_ + 100000000 < s.now then s
      else (s.setPtp m.inPort { s.ptp m.inPort with syncWait := none }).ptpOffset m.inPort t2 (ptpTime x 34) (c + ptpCorr x)

/-- The oldest Announce is taken: the foreign masters, the port states, the UTC offset (R293, R296). -/
def State.ptpAnnounce (s : State) : State :=
  match s.takeMsg [0xB] with
  | (none, _) => s
  | (some m, s) =>
    let x := ptpMsg m.bytes
    let s := s.bump TIM_ANNOUNCE_RX
    let flags := beAt x 7 1
    if s.ptpPort m.inPort = false ∨ beAt x 4 1 ≠ s.rd TIM_PTP_CFG_DOMAIN ∨ bitAt flags 3 = false ∨ x.length < 64 ∨ 255 ≤ beAt x 61 2 then
      s.ptpRefresh
    else
      let y := s.ptp m.inPort
      let ident := beAt x 20 10
      let times := ((y.masters.find? (fun f => f.ident == ident)).map (fun f => f.times)).getD []
      let f : Master := { ident := ident, quality := beAt x 47 14, steps := beAt x 61 2, times := (s.now :: times).take 2,
                          logInt := (signed 8 (beAt x 33 1) + 16).toNat }
      let s := (s.setPtp m.inPort { y with masters := f :: y.masters.filter (fun g => g.ident != ident) }).ptpRefresh
      if bitAt flags 2 && decide ((s.ptpBest.map (fun b => (b.1, b.2.ident))) = some (m.inPort, ident)) then
        s.utcSet (beAt x 44 2) (if bitAt flags 0 then 1 else if bitAt flags 1 then 2 else 0)
      else s

/-- A Pdelay_Req is sent on a port with PDELAY_EN, every 2^LOG_PDELAY s (R293). -/
def State.pdelayReq (s : State) (p : Nat) : State :=
  let x := s.ptp p
  let every := 2 ^ (signed 4 (s.rd TIM_PTP_CFG_LOG_PDELAY) + 8).toNat * 1000000000 / 256
  let due := match x.reqAt with
    | some t => decide (t + every ≤ s.now)
    | none => true
  if s.loaded && decide (p < 18) && s.onI TIM_P_CFG_PDELAY_EN p && due then
    let seq := (x.reqSeq + 1) % 65536
    let s := s.setPtp p { x with reqSeq := seq, reqT1 := none, reqAt := some s.now, respWait := none }
    s.ptpSend p (s.ptpMake p 2 seq (-(signed 32 (s.rdI TIM_P_ASYM p))) 5 (List.replicate 20 0#8)) s.residNs
  else s

/-- The oldest Pdelay_Req is answered one-step; the turnaround time enters correctionField as the answer leaves (R293). -/
def State.pdelayAnswer (s : State) : State :=
  match s.takeMsg [2] with
  | (none, _) => s
  | (some m, s) =>
    let x := ptpMsg m.bytes
    let p := m.inPort
    if s.onI TIM_P_CFG_PDELAY_EN p = false ∨ 18 ≤ p ∨ beAt x 4 1 ≠ s.rd TIM_PTP_CFG_DOMAIN then s
    else s.ptpSend p (s.ptpMake p 3 (beAt x 30 2) (ptpCorr x) 5 (List.replicate 10 0#8 ++ slice x 20 10)) m.resid

/-- An exchange has completed with a measured delay in 2^-16 ns (R294). -/
def State.pdelayDone (s : State) (p : Nat) (delay : Int) : State :=
  let x := s.ptp p
  let ds := (delay :: x.delays).take 8
  let n := min 8 (x.exchanges + 1)
  let mean := divRound (ds.foldl (fun a b => a + b) 0) ds.length
  let s := s.setPtp p { x with delays := ds, exchanges := n, reqT1 := none, respWait := none }
  (s.wrSatI TIM_P_MLD p mean.toNat).wrBI TIM_P_PTP_STATE_MLD_VALID p (decide (8 ≤ n))

/-- The oldest Pdelay_Resp or Pdelay_Resp_Follow_Up is taken (R294). -/
def State.pdelayResp (s : State) : State :=
  match s.takeMsg [3, 0xA] with
  | (none, _) => s
  | (some m, s) =>
    let p := m.inPort
    let x := ptpMsg m.bytes
    let y := s.ptp p
    let asym := signed 32 (s.rdI TIM_P_ASYM p)
    if s.onI TIM_P_CFG_PDELAY_EN p = false ∨ beAt x 30 2 ≠ y.reqSeq ∨ slice x 44 10 ≠ s.ownPort p then s
    else match y.reqT1 with
      | none => s
      | some t1 =>
        if ptpType m.bytes = 3 then
          if bitAt (beAt x 6 1) 1 then s.setPtp p { y with respWait := some (m.rxTs, ptpTime x 34, ptpCorr x + asym) }
          else s.pdelayDone p (divRound (((m.rxTs : Int) - t1) * 65536 - (ptpCorr x + asym)) 2)
        else match y.respWait with
          | none => s
          | some (t4, t2, c) =>
            s.pdelayDone p (divRound ((((t4 : Int) - t1) - ((ptpTime x 34 : Int) - t2)) * 65536 - c - ptpCorr x) 2)

/-! ## IRIG-B (R295) -/

/-- The number that some index counts of a frame spell, each with its weight; a mark is 0, 1, or 2 for a position identifier. -/
def irigNum (ms : List (Fin 3)) (ws : List (Nat × Nat)) : Nat :=
  ws.foldl (fun n w => n + if ms.getD w.1 0 = 1 then w.2 else 0) 0

/-- Position identifiers stand where they must, and nowhere else. -/
def irigShape (ms : List (Fin 3)) : Bool :=
  decide (ms.length = 100) && (List.range 100).all (fun i => decide (ms.getD i 0 = 2) == (decide (i = 0) || decide (i % 10 = 9)))

/-- Days from 1970-01-01 to the first day of a year. -/
def daysTo (y : Nat) : Nat := 365 * (y - 1970) + ((y - 1) / 4 - (y - 1) / 100 + (y - 1) / 400 - 477)

/-- The year that holds a day counted from 1970-01-01. -/
def yearOf (day : Nat) : Nat := ((List.range 600).find? (fun k => decide (day < daysTo (1971 + k)))).elim 1970 (fun k => 1970 + k)

/-- The UTC second of a frame, counted from 1970; `none` where it does not decode. -/
def State.irigDecode (s : State) (ms : List (Fin 3)) (year : Bool) : Option Nat :=
  let sec := irigNum ms [(1, 1), (2, 2), (3, 4), (4, 8), (6, 10), (7, 20), (8, 40)]
  let min := irigNum ms [(10, 1), (11, 2), (12, 4), (13, 8), (15, 10), (16, 20), (17, 40)]
  let hour := irigNum ms [(20, 1), (21, 2), (22, 4), (23, 8), (25, 10), (26, 20)]
  let day := irigNum ms [(30, 1), (31, 2), (32, 4), (33, 8), (35, 10), (36, 20), (37, 40), (38, 80), (40, 100), (41, 200)]
  let yy := irigNum ms [(50, 1), (51, 2), (52, 4), (53, 8), (55, 10), (56, 20), (57, 40), (58, 80)]
  let y := if year then 2000 + yy else yearOf (s.utcSecond / 86400)
  let parity := (List.range 76).foldl (fun n i => if ms.getD i 0 = 1 then n + 1 else n) 0 % 2
  if irigShape ms && decide (sec ≤ 60 ∧ min ≤ 59 ∧ hour ≤ 23 ∧ 1 ≤ day ∧ day ≤ 366 ∧ (year = false ∨ yy ≤ 99)) &&
     (!s.on TIM_SRC_CFG_IRIG_EXT || (decide (parity = 1) == Config.irigOddParity)) then
    some (((daysTo y + (day - 1)) * 24 + hour) * 3600 + min * 60 + sec)
  else none

/-- A frame of the IRIG-B input has been received, whose on-time point lies `ago` ns back. -/
def State.irigFrame (s : State) (ms : List (Fin 3)) (year : Bool) (ago : Nat) : State :=
  let prev := s.tim.irig
  let t := s.irigDecode ms year
  let s := s.onTim (fun x => { x with irig := t })
  let bad (s : State) : State := (s.bump TIM_IRIG_ERR).flag TIM_TROUBLE_IRIG_ERR
  match t with
  | none => bad s
  | some u =>
    if (match prev with
        | some v => decide (u ≠ v + 1)
        | none => false) then bad s
    else
      let tai : Int := ((u : Int) + s.utcOffset) * 1000000000
      let s := if s.on TIM_SRC_CFG_IRIG_EXT && decide (s.rd TIM_STATUS_SOURCE = 2) then
          s.utcSet (s.rd TIM_UTC_OFFSET_OFFSET_S) (if ms.getD 60 0 = 1 then (if ms.getD 61 0 = 1 then 2 else 1) else 0)
        else s
      s.measure 2 (((s.taiNs - ago : Nat) : Int) - tai)

/-! ## PPS (R295, R300) -/

/-- A rising edge on the front or the backplane PPS input. -/
def State.ppsEdge (s : State) (bp : Bool) : State :=
  let prev := if bp then s.tim.ppsBp else s.tim.ppsFront
  let s := s.onTim (fun t => if bp then { t with ppsBp := some s.now } else { t with ppsFront := some s.now })
  let odd := match prev with
    | some t => decide (1050000000 < s.now - t) || decide (s.now - t < 950000000)
    | none => false
  if odd then (s.bump TIM_PPS_ERR).flag TIM_TROUBLE_PPS_ERR
  else
    let whole := (s.taiNs + 500000000) / 1000000000 * 1000000000
    s.measure (if bp then 4 else 3) ((s.taiNs : Int) - whole)

/-- A whole TAI second starts (R291, R298, R300). -/
def State.wholeSecond (s : State) : State :=
  let sec := s.tai / 1000000000
  if s.tim.second = some sec then s
  else
    let s := s.onTim (fun t =>
      { t with second := some sec, aon := if s.rd TIM_STATUS_STATE = 2 then s.tai else t.aon,
               ppsOut := if s.ppsDriven && decide (s.rd TIM_LAUNCH_CFG_PPS_WIDTH_US ≠ 0)
                         then some (s.now + s.rd TIM_LAUNCH_CFG_PPS_WIDTH_US * 1000) else t.ppsOut })
    let s := if s.rd TIM_STATUS_STATE = 3 then s.wrSat TIM_STATUS_HOLDOVER_MIN ((s.now - s.tim.holdAt) / 60000000000) else s
    s.ptpRefresh

/-- PPS out falls. -/
def State.ppsFall (s : State) : State := if s.due s.tim.ppsOut then s.onTim (fun t => { t with ppsOut := none }) else s

/-- The time floor rises to the TAI second in progress, and never falls (R291). -/
def State.raiseFloor (s : State) : State :=
  if s.rd TIM_STATUS_STATE = 2 then s.onTim (fun t => { t with floor := max t.floor (s.taiNs / 1000000000) }) else s

/-- The hourly update of the floor. -/
def State.floorUpdate (s : State) : State :=
  if s.rd TIM_STATUS_STATE = 2 ∧ s.tim.floorAt + 3600000000000 ≤ s.now then s.raiseFloor.onTim (fun t => { t with floorAt := s.now }) else s

/-! ## Time passes (log entry 1) -/

/-- One period of the time-base clock: both counters advance by 4 ns with the frequency correction, and a host adjustment that waits
is applied (R288, R289, R299). -/
def State.timPeriod (s : State) : State :=
  let f : Int := (s.taiFrac : Int) + signed 32 (s.rd TIM_FREQ) + 4 * 2 ^ 32
  let whole := (f / 2 ^ 32).toNat
  let s := { s with tai := (s.tai + whole) % 2 ^ 64, taiFrac := (f % 2 ^ 32).toNat, resid := s.resid + whole }
  s.timeApply

/-- One fabric nanosecond: a fabric cycle ends and its records enter the queue (R326), every fourth is a period of the time-base clock, and the Spine goes on (R251, R288).
Neither clock moves anything while its unit is gated (R429). -/
def State.tick (s : State) : State :=
  let s := s.evrSettle
  let s := { s with now := s.now + 1, tim := { s.tim with aon := s.tim.aon + 1 }, setNow := [], fol := { s.fol with irqs := [] },
                    sys := { s.sys with supplyIrq := false }, pending := s.mbLater ++ s.pending, mbLater := [] }
  (if s.now % 4 = 0 ∧ s.clk 18 = true then s.timPeriod else s).spineTick

end Sys2Proof.Machine
end

