-- ==== Sys2Proof/Machine/LcsOps.lean ====
section
/-! DEFINITION. Lifecycle, debug sessions, tokens, tamper sensors and the always-on tamper log (chapter "Lifecycle, power,
debug and tamper", R419-R421 and R431-R445). -/

namespace Sys2Proof.Machine

open Sys2Proof Reg

/-- The lifecycle code in force (R419). -/
def State.lifecycle (s : State) : Nat := s.rd LCS_STATUS_LIFECYCLE

/-- The debug code without a token: FULL in MANUFACTURE, else CLOSED (R419). -/
def debugDefault (lc : Nat) : Nat := if lc = 1 then 4 else 0

/-- The debug code in force, shown in both status registers. -/
def State.setDebug (s : State) (code : Nat) : State :=
  (s.wr LCS_DEBUG_STATUS_STATE code).wr LCS_STATUS_DEBUG code

/-- The LIFECYCLE event (class 0x14) of R445. -/
def State.lifecycleEvent (s : State) (kind old new cause issuer counter mask secs : Nat) : State :=
  s.event 0x14 (leBytes 1 kind ++ leBytes 1 old ++ leBytes 1 new ++ leBytes 1 cause ++ leBytes 4 issuer ++
    leBytes 8 counter ++ leBytes 4 mask ++ leBytes 4 secs)

/-! ## Debug sessions (R431-R434) -/

/-- Debug goes to a code, closing what was open: the close causes are 1 expiry, 2 host, 3 reset, 4 power, 5 tamper,
6 lifecycle (R433, R445). -/
def State.debugClose (s : State) (next cause : Nat) : State :=
  let old := s.rd LCS_DEBUG_STATUS_STATE
  let d := s.lcs.session.getD { issuer := 0, counter := 0, mask := 0, secs := 0, ends := 0 }
  let s := (((s.setDebug next).wr LCS_DEBUG_STATUS_VENDOR 0).wr LCS_DEBUG_FOLIOS 0).onLcs (fun l => { l with session := none })
  if next < old then s.lifecycleEvent 3 old next cause d.issuer d.counter d.mask d.secs else s

/-- The session closes: a session that a token opened, not the FULL debug of MANUFACTURE. -/
def State.sessionClose (s : State) (cause : Nat) : State :=
  if s.lcs.session.isSome then s.debugClose (debugDefault s.lifecycle) cause else s

/-- Debug opens by an accepted token, in place of a session in force (R432, R433). -/
def State.debugOpen (s : State) (code : Nat) (d : DbgSession) : State :=
  let old := s.rd LCS_DEBUG_STATUS_STATE
  let s := (((s.setDebug code).wrB LCS_DEBUG_STATUS_VENDOR (decide (d.issuer = 2))).wr LCS_DEBUG_FOLIOS d.mask).onLcs
    (fun l => { l with session := some d })
  (s.flag LCS_TROUBLE_DEBUG_OPENED).lifecycleEvent 2 old code 0 d.issuer d.counter d.mask d.secs

/-- Whole seconds that the session has left (LCS_DEBUG_STATUS.LEFT_S), saturating. -/
def State.sessionLeft (s : State) : Nat :=
  match s.lcs.session with
  | none => 0
  | some d => satNat 16 ((d.ends - s.now + 999999999) / 1000000000)

/-- A debug access beyond the state in force (R431). -/
def State.debugRefused (s : State) : State := (s.bump LCS_DEBUG_ATTEMPTS).flag LCS_TROUBLE_DEBUG_ATTEMPT

/-! ## Tokens (R435, R436) -/

/-- A field of a token, in network byte order. -/
abbrev tokField (bs : List Byte) (off n : Nat) : Nat := beAt bs off n

/-- Step 1 of R436: MAGIC, FORMAT, KIND, ISSUER, reserved fields and SIG_LEN. -/
def tokenFormat (bs : List Byte) : Bool :=
  decide (0xC4 ≤ bs.length) && decide (tokField bs 0 4 = 0x4B444247) && decide (tokField bs 4 2 = 1) &&
  decide (1 ≤ tokField bs 6 1) && decide (tokField bs 6 1 ≤ 3) && decide (1 ≤ tokField bs 7 1) && decide (tokField bs 7 1 ≤ 2) &&
  decide (tokField bs 0x43 1 = 0) && decide (tokField bs 0x4C 52 = 0) && decide (tokField bs 0xBC 4 = 0) &&
  decide (bs.length = 0xC4 + tokField bs 0xC0 4) &&
  (if tokField bs 7 1 = 1 then decide (tokField bs 0x80 60 = 0) else decide (tokField bs 0x40 2 = 0))

/-- Step 2 of R436: the token names this module, and no token names the zero identity (R435). -/
def tokenDevice (bs : List Byte) : Bool :=
  decide (slice bs 8 16 = Config.deviceId.take 16) && decide (tokField bs 8 16 ≠ 0)

/-- The octets of LCS_CHALLENGE0-7. -/
def State.challenge (s : State) : List Byte := (List.range 8).foldl (fun bs k => bs ++ beBytes 4 (s.rdK LCS_CHALLENGE 0 k)) []

/-- LCS_CHALLENGE_CTRL.NEW: a challenge is drawn; its octets are random (R436). -/
def State.challengeNew (s : State) : State :=
  let s := (List.range 8).foldl (fun s k => let (v, s) := s.fresh; State.wrK s LCS_CHALLENGE 0 k v) s
  (s.wr LCS_CHALLENGE_CTRL_LIVE 1).onLcs (fun l => { l with drawnAt := s.now })

/-- The challenge becomes void. -/
def State.challengeVoid (s : State) : State := s.wr LCS_CHALLENGE_CTRL_LIVE 0

/-- LCS_TOKEN_WR appends four bytes; the buffer holds 40 960 (R435). -/
def State.tokenWrite (s : State) (v : Nat) : State :=
  if s.lcs.tokOff < 40960 then
    s.onLcs (fun l => { l with tokBuf := patch (l.tokBuf ++ List.replicate (l.tokOff - l.tokBuf.length) 0#8) l.tokOff (beBytes 4 v),
                               tokOff := l.tokOff + 4 })
  else s

/-- LCS_TOKEN_LEN is written: the LCS_TOKEN_WR offset returns to 0. -/
def State.tokenLen (s : State) (v : Nat) : State := (s.wr LCS_TOKEN_LEN v).onLcs (fun l => { l with tokOff := 0 })

/-- The token in the buffer. -/
def State.tokenBytes (s : State) : List Byte :=
  let n := min 40960 (s.rd LCS_TOKEN_LEN)
  (s.lcs.tokBuf ++ List.replicate (n - s.lcs.tokBuf.length) 0#8).take n

/-- LCS_TOKEN_CTRL.GO: the check starts, or is answered with BUSY (R436, R485). A token that passes steps 1 and 2 is checked
against the challenge, which is void from then on. -/
def State.tokenGo (s : State) : State :=
  if s.on LCS_TOKEN_STATUS_BUSY || s.lcs.burn.isSome then s.answer LCS_TOKEN_STATUS_DONE LCS_TOKEN_STATUS_RESULT 12
  else
    let bs := s.tokenBytes
    let ok := s.on LCS_CHALLENGE_CTRL_LIVE && decide (slice bs 0x20 32 = s.challenge)
    let s := if tokenFormat bs && tokenDevice bs then s.challengeVoid else s
    (s.onLcs (fun l => { l with job := some { bytes := bs, challengeOk := ok } })).begin LCS_TOKEN_STATUS_BUSY

/-- Step 4 of R436: the signer may sign tokens. -/
def State.tokenSigner (s : State) (bs : List Byte) : Bool :=
  if tokField bs 7 1 = 2 then decide (Config.sha256 (slice bs 0x80 60) = Config.vendorAnchor)
  else
    let n := tokField bs 0x40 2
    let k := s.slot n
    s.usable n && decide (k.typ = 1) && decide (k.level = 1) && bitAt k.usage 4

/-- The public key that verifies the token. -/
def State.tokenKey (s : State) (bs : List Byte) : List Byte :=
  if tokField bs 7 1 = 2 then slice bs 0x80 60 else (s.slot (tokField bs 0x40 2)).material

/-- The token counter of an issuer. -/
def tokCounter (issuer : Nat) : Fld := if issuer = 2 then LCS_TOKEN_CTR_VENDOR else LCS_TOKEN_CTR_OWNER

/-- The lifecycle transitions that an issuer's token may name (R420). -/
def transitionOk (from_ dest issuer : Nat) : Bool :=
  match from_, dest with
  | 1, 2 => decide (issuer = 2)
  | 2, 3 => decide (issuer = 1)
  | 3, 2 => decide (issuer = 1)
  | 2, 4 => decide (issuer = 1)
  | 3, 4 => decide (issuer = 1)
  | 2, 5 => decide (issuer = 1)
  | 3, 5 => decide (issuer = 1)
  | 4, 5 => decide (issuer = 2)
  | _, _ => false

/-- The transitions that zeroize class Z first (R420): all but MANUFACTURE to PROVISION and PROVISION to DEPLOYED. -/
def transitionZeroizes (from_ dest : Nat) : Bool := !(decide (from_ = 1 ∧ dest = 2) || decide (from_ = 2 ∧ dest = 3))

/-- The limit of a DEBUG token (R432): the highest code, or none where tokens are refused. -/
def State.debugLimit (s : State) (issuer : Nat) : Option Nat :=
  match s.lifecycle with
  | 2 => some (min 3 (s.rd LCS_DEBUG_CEILING))
  | 3 => some (min 3 (s.rd LCS_DEBUG_CEILING))
  | 4 => if issuer = 2 then some 4 else none
  | _ => none

/-- Step 8 of R436: the power state. -/
def State.tokenPower (s : State) (kind : Nat) : Bool :=
  if kind = 2 then decide (s.power = 2) else if kind = 1 then decide (2 ≤ s.power) else true

/-- Step 9 of R436: KIND, TARGET and issuer permitted; SESSION_S and FOLIO_MASK in range. -/
def State.tokenPermitted (s : State) (bs : List Byte) : Bool :=
  let target := tokField bs 0x42 1
  let secs := tokField bs 0x44 4
  let mask := tokField bs 0x48 4
  match tokField bs 6 1 with
  | 1 => (match s.debugLimit (tokField bs 7 1) with
      | some m => decide (1 ≤ target) && decide (target ≤ m)
      | none => false) && decide (60 ≤ secs) && decide (secs ≤ 86400) && (decide (target = 2) || decide (mask = 0))
  | 2 => transitionOk s.lifecycle target (tokField bs 7 1) && decide (secs = 0) && decide (mask = 0)
  | _ => decide (target = 0) && decide (secs = 0) && decide (mask = 0)

/-- Step 10 of R436: a transition record remains; record 63 serves only DECOMMISSIONED (R421). -/
def State.recordLeft (s : State) (target : Nat) : Bool :=
  decide (2 ≤ s.rd LCS_STATUS_TRANSITIONS_LEFT) || (decide (s.rd LCS_STATUS_TRANSITIONS_LEFT = 1) && decide (target = 5))

/-- Steps 6 to 10 of R436, once the signer has been found usable: the result and the state, with the key use counted where
the token is accepted (a refused token changes no state). -/
def State.tokenSigned (s : State) (bs : List Byte) : Nat × State :=
  let kind := tokField bs 6 1
  let issuer := tokField bs 7 1
  let (ok, used) := if issuer = 2 then (true, s) else s.keyUse (tokField bs 0x40 2)
  if ok = false then (4, used)
  else
    let s := s.bump KEY_VERIFIES
    if Config.hssVerify (s.tokenKey bs) (bs.take 0xC0) (bs.drop 0xC4) = false then (6, s)
    else if tokField bs 0x18 8 ≤ s.rd (tokCounter issuer) then (7, s)
    else if s.tokenPower kind = false then (8, s)
    else if s.tokenPermitted bs = false then (9, s)
    else if kind = 2 ∧ s.recordLeft (tokField bs 0x42 1) = false then (10, s)
    else (0, used.bump KEY_VERIFIES)

/-- The checks of R436 in their order: the result code and the state. -/
def State.tokenCheck (s : State) (j : TokJob) : Nat × State :=
  let bs := j.bytes
  if tokenFormat bs = false then (1, s)
  else if tokenDevice bs = false then (2, s)
  else if j.challengeOk = false then (3, s)
  else if s.tokenSigner bs = false then (4, s)
  else if hssPubOk (s.tokenKey bs) = false ∨ Config.hssLevelsOk (s.tokenKey bs) (bs.drop 0xC4) = false then (5, s)
  else s.tokenSigned bs

/-- The check ends with a result (R436). -/
def State.tokenEnd (s : State) (r : Nat) : State :=
  (s.onLcs (fun l => { l with job := none })).finish LCS_TOKEN_STATUS_BUSY LCS_TOKEN_STATUS_DONE LCS_TOKEN_STATUS_RESULT r

/-- A refused token changes no state, and records a LIFECYCLE event of kind TOKEN_REFUSED. -/
def State.tokenRefuse (s : State) (bs : List Byte) (r : Nat) : State :=
  ((s.tokenEnd r).flag LCS_TROUBLE_TOKEN_REFUSED).lifecycleEvent 4 s.lifecycle s.lifecycle r (tokField bs 7 1)
    (tokField bs 0x18 8) (tokField bs 0x48 4) (tokField bs 0x44 4)

/-- An accepted token raises its issuer's counter and takes effect: debug opens, the burn of a transition record starts, or
the tamper log empties (R421, R432, R443). -/
def State.tokenAccept (s : State) (bs : List Byte) : State :=
  let issuer := tokField bs 7 1
  let counter := tokField bs 0x18 8
  let target := tokField bs 0x42 1
  let s := (s.tokenEnd 0).wr (tokCounter issuer) counter
  match tokField bs 6 1 with
  | 1 => s.debugOpen target { issuer := issuer, counter := counter, mask := tokField bs 0x48 4, secs := tokField bs 0x44 4,
                              ends := s.now + tokField bs 0x44 4 * 1000000000 }
  | 2 => s.onLcs (fun l => { l with burn := some (target, issuer, counter) })
  | _ => (s.onLcs (fun l => { l with log := [] })).lifecycleEvent 5 s.lifecycle s.lifecycle 0 issuer counter 0 0

/-- The token check in progress ends (R436). -/
def State.tokenDone (s : State) : State :=
  match s.lcs.job with
  | none => s
  | some j =>
    match s.tokenCheck j with
    | (0, s') => s'.tokenAccept j.bytes
    | (r, s') => s'.tokenRefuse j.bytes r

/-- ORPHANED is set where a key slot of an enabled stream has ceased to be usable (R82). -/
def State.svKeyWatch (s : State) : State :=
  let slots := ((s.used 0x201).filter (fun e => Ent.CTX_ENABLE.on e.2 && decide (Ent.CTX_AUTH.of e.2 ≠ 0))).flatMap
    (fun e => [Ent.CTX_KEY_SLOT_CUR.of e.2, Ent.CTX_KEY_SLOT_NEXT.of e.2])
  let lost := slots.filter (fun k => !s.usable k)
  let known := s.svi.lostKeys
  (s.onSvi (fun v => { v with lostKeys := lost })).flagIf (s.loaded && lost.any (fun k => !known.contains k)) SVI_TROUBLE_ORPHANED

/-- SV verifications in progress whose key the store no longer holds are refuted with cause ORPHANED (R82, R414). -/
def State.svOrphans (s : State) : State :=
  let s := s.svKeyWatch
  let lost := s.svi.pend.filter (fun p => s.svKeyLost p)
  if lost = [] then s else ((lost.foldl (fun s p => s.giveVerdict p 3) s).flag SVI_TROUBLE_ORPHANED).afterIngest

/-- The transition record is burnt: class Z zeroization where R420 lists it, the new state, and debug closes (R421). -/
def State.burnDone (s : State) : State :=
  match s.lcs.burn with
  | none => s
  | some (target, issuer, counter) =>
    let old := s.lifecycle
    let s := s.onLcs (fun l => { l with burn := none })
    let s := if transitionZeroizes old target then (s.zeroize false).svOrphans else s
    let s := ((s.wr LCS_STATUS_LIFECYCLE target).wr LCS_STATUS_TRANSITIONS_LEFT (s.rd LCS_STATUS_TRANSITIONS_LEFT - 1)).flag
      LCS_TROUBLE_LIFECYCLE_CHANGED
    (s.debugClose (debugDefault target) 6).lifecycleEvent 1 old target 0 issuer counter 0 0

/-! ## Tamper (R437-R444) -/

/-- Whether a sensor is armed in the power state in force (R437); while the module drives TAMPER_N, EXT is masked (R441). -/
def State.armed (s : State) (c : Nat) : Bool :=
  (match c with
   | 0 => true
   | 1 => true
   | 2 => decide (2 ≤ s.power)
   | 3 => decide (1 ≤ s.power)
   | 4 => decide (1 ≤ s.power)
   | 5 => decide (1 ≤ s.power) && !s.on LCS_STATUS_TAMPER_N_DRIVEN
   | _ => false)

/-- The cell of the response matrix: 1 L, 2 N, 3 C, 4 Z (R439). -/
def response (lc debug power : Nat) : Nat :=
  match lc with
  | 1 => 1
  | 2 => if 2 ≤ power ∧ 3 ≤ debug then 4 else 3
  | 3 => if 2 ≤ power ∧ 3 ≤ debug then 4 else 3
  | _ => 2

/-- The class in force: LCS_TAMPER_POLICY in QUIET and RUN, the class taken into retention in STANDBY and OFF (R440). -/
def State.classP (s : State) : Bool := if 2 ≤ s.power then s.on LCS_TAMPER_POLICY_CLASS else s.on LCS_TAMPER_AON_CLASS_AON

/-- The seconds of an entry: bits 31:0 of the always-on counter (R291, R442). -/
def State.aonSeconds (s : State) : Nat := s.tim.aon / 1000000000 % 2 ^ 32

/-- A log entry (R442). -/
def tlogEntry (number sensor lc debug power resp : Nat) (classP reported stopped aborted pending : Bool) (secs : Nat) : Nat :=
  number % 2 ^ 32 + sensor * 2 ^ 32 + lc * 2 ^ 35 + debug * 2 ^ 38 + power * 2 ^ 41 + resp * 2 ^ 43 + b2n classP * 2 ^ 46 +
  b2n reported * 2 ^ 47 + b2n stopped * 2 ^ 48 + b2n aborted * 2 ^ 49 + b2n pending * 2 ^ 50 + secs * 2 ^ 64

/-- The class that an entry's response applied: 0 none, 1 Z, 2 P (R444). -/
def tlogClass (e : Nat) : Nat := if bits e 43 3 < 3 then 0 else if bitAt e 46 then 2 else 1

/-- The TAMPER event (class 0x12) of an entry; `flags` are bits 2 and 3 of FLAGS (R444). -/
def State.tamperEvent (s : State) (e flags : Nat) : State :=
  s.event 0x12 (leBytes 1 (bits e 32 3) ++ leBytes 1 (bits e 35 3) ++ leBytes 1 (bits e 38 3) ++ leBytes 1 (bits e 41 2) ++
    leBytes 1 (bits e 43 3) ++ leBytes 1 (tlogClass e) ++
    leBytes 2 (flags + bits e 48 1 + 2 * bits e 49 1 + 16 * bits e 50 1) ++ leBytes 4 (bits e 0 32) ++ leBytes 4 (bits e 64 32))

/-- An entry joins the log: entries 0-14 hold the first 15, entry 15 the latest after them; LOG_FULL is set when entry 15, then the
sixteenth event, is first overwritten (R443). -/
def State.tlogAdd (s : State) (e : Nat) : State :=
  let n := s.lcs.log.length
  let first := decide (16 ≤ n) && decide (bits (s.lcs.log.getD 15 0) 0 32 = (bits (s.lcs.log.getD 14 0) 0 32 + 1) % 2 ^ 32)
  (s.onLcs (fun l => { l with log := if n < 16 then l.log ++ [e] else l.log.take 15 ++ [e] })).flagIf first LCS_TROUBLE_LOG_FULL

/-- Events of the log that have no TAMPER event yet are recorded in NUMBER order, marked as reported from the log (R443). -/
def State.tlogReport (s : State) : State :=
  if s.power < 2 ∨ s.rd EVR_STATUS_STATE = 0 then s
  else
    let todo := s.lcs.log.filter (fun e => !bitAt e 47)
    let s := todo.foldl (fun s e => s.tamperEvent e 8) s
    s.onLcs (fun l => { l with log := l.log.map (fun e => setBits e 47 1 1) })

/-- Whether the KEY operation in progress is one that a zeroization of the class leaves running (R414). -/
def State.keyOpKept (s : State) (classP : Bool) : Bool :=
  match s.key.job with
  | none => true
  | some j => classP && decide (j.op = 5) && (s.slot j.slot).pc

/-- A zeroizing response in QUIET or RUN: operations in progress are aborted, then the class is zeroized (R414, R440). -/
def State.tamperZeroize (s : State) (classP : Bool) : State :=
  let s := if s.keyOpKept classP then s else (s.keyForce 0x0F).keyComplete
  let s := match s.bnd.store with
    | some j => if j.op = 1 then (s.storeCut.storeEnd).storeFail 0x0D else s
    | none => s
  (s.zeroize classP).svOrphans

/-- What R438 does whatever the cell, beside the log: an unseal stops, a full load ends and a tip-in that is not committed is
discarded. A token check in progress ends with TAMPER, and a transition whose record is not burnt is abandoned ("Where
happenings meet"). -/
def State.tamperStops (s : State) : State :=
  let s := if s.rd KEY_STATUS_STATE = 1 then s.unsealStop else if s.bnd.load.isSome then (s.onKey (fun e => { e with ramLost := true })).wr KEY_STATUS_STATE 3 else s
  let s := s.bndFail 0x0D 0
  let s := if s.tipSt = 1 ∨ s.tipSt = 2 ∨ s.tipSt = 3 then s.tipFail 0x0D else s
  let s := match s.lcs.job with
    | some j => (s.tokenRefuse j.bytes 11).challengeVoid
    | none => s
  s.onLcs (fun l => { l with burn := none })

/-- The response of a cell (R439, R440, R441). -/
def State.tamperRespond (s : State) (resp : Nat) (classP : Bool) : State :=
  let s := if 2 ≤ resp then
      (s.wr LCS_STATUS_TAMPER_N_DRIVEN 1).onLcs (fun l =>
        { l with holdEnd := some (s.now + s.rdOr LCS_TAMPER_POLICY_TAMPER_HOLD_MS 10 * 1000000), releaseAsked := false })
    else s
  if resp < 3 then s
  else
    let s := s.debugClose 0 5
    if 2 ≤ s.power then s.tamperZeroize classP else s.wr KEY_STATUS_PENDING_ZEROIZE 1

/-- Sensor conditions are recognised (R437-R444): each sensor writes its own entry, lower code first, and the response
applies once. `sensors` has a bit for each condition that holds. -/
def State.tamper (s : State) (sensors : Nat) : State :=
  let s := s.wr LCS_STATUS_SENSORS sensors
  let hits := (List.range 6).filter (fun c => bitAt sensors c && s.armed c)
  if hits = [] then s
  else
    let lc := s.lifecycle
    let debug := s.rd LCS_DEBUG_STATUS_STATE
    let power := s.power
    let resp := response lc debug power
    let zero := decide (3 ≤ resp)
    let classP := decide (resp = 3) && s.classP
    let stopped := decide (s.rd KEY_STATUS_STATE = 1)
    let ended := s.bnd.load.isSome || decide (s.tipSt = 1 ∨ s.tipSt = 2 ∨ s.tipSt = 3)
    let live := zero && decide (2 ≤ power)
    let verifying := s.svi.pend.any (fun p => match p.keySlot with
      | some k => decide (k ≠ 0) && !(classP && (s.slot k).pc)
      | none => false)
    let aborted := live && (!s.keyOpKept classP || verifying || ended ||
      (match s.bnd.store with | some j => decide (j.op = 1) | none => false))
    let now := decide (2 ≤ power) && decide (s.rd EVR_STATUS_STATE ≠ 0)
    let secs := s.aonSeconds
    let s := (s.tamperStops.tamperRespond resp classP).flag LCS_TROUBLE_TAMPER
    hits.foldl (fun s c =>
      let s := s.wr LCS_TAMPER_TOTAL (s.rd LCS_TAMPER_TOTAL + 1)
      let e := tlogEntry (s.rd LCS_TAMPER_TOTAL) c lc debug power resp classP now stopped aborted (zero && decide (power < 2)) secs
      let s := s.tlogAdd e
      if now then s.tamperEvent e (4 * b2n ended) else s) s

/-- TAMPER_N is released (R441). -/
def State.tamperRelease (s : State) : State :=
  (s.wr LCS_STATUS_TAMPER_N_DRIVEN 0).onLcs (fun l => { l with holdEnd := none, releaseAsked := false })

/-- LCS_TAMPER_CTRL.RELEASE: at once, or when the hold ends (R441). -/
def State.releaseWrite (s : State) : State :=
  if s.on LCS_STATUS_TAMPER_N_DRIVEN = false then s
  else if s.lcs.holdEnd.isNone || s.due s.lcs.holdEnd then s.tamperRelease
  else s.onLcs (fun l => { l with releaseAsked := true })

/-- TAMPER_HOLD_MS ends (R441). -/
def State.tamperHoldExpire (s : State) : State :=
  if s.due s.lcs.holdEnd then
    (if s.lcs.releaseAsked then s.tamperRelease else s.onLcs (fun l => { l with holdEnd := none }))
  else s

/-- Word `n` of the log entry at LCS_TLOG_INDEX; an index beyond the entries reads 0. -/
def State.tlogWord (s : State) (n : Nat) : Nat := bits (s.lcs.log.getD (s.rd LCS_TLOG_INDEX) 0) (32 * n) 32

end Sys2Proof.Machine
end

