-- ==== Sys2Proof/Machine/HkaOps.lean ====
section
/-! DEFINITION. Housekeeping: the ADC, the wear monitors, the spare inventory and the proposals (chapter "Housekeeping, wear and
spare capacity", R469-R480). -/

namespace Sys2Proof.Machine

open Sys2Proof Reg

/-- Sweeps, conversions and monitors run: ENABLE = 1 and the MGMT unit runs (HKA_STATUS.RUNNING). -/
def State.hkaRuns (s : State) : Bool := s.on HKA_CTRL_ENABLE && s.clk 17

/-- What a reset at `now` keeps of the block: what MRAM holds (R447, R473, R478). -/
def HkaS.afterReset (h : HkaS) (now : Nat) : HkaS :=
  { life := h.lifeMram, lifeMram := h.lifeMram, map := h.map, queued := h.queued, windowAt := now }

/-- What happens once in `ns` may happen now: it has not happened yet, or that time has passed since. -/
def State.each (s : State) (last : Option Nat) (ns : Nat) : Bool :=
  match last with
  | none => true
  | some t => decide (t + ns ≤ s.now)

/-! ## Monitors (R472-R475) -/

/-- KIND of a monitor: 1 ageing, 2 ECC, 3 NAND, 4 thermal life; 0 for a reserved entry. -/
def monKind (m : Nat) : Nat :=
  if m ≤ 17 then 1 else if m ≤ 25 then 2 else if m = 26 then 3 else if m = 27 then 4 else 0

/-- The entry of a monitor without its KIND. -/
def State.mon (s : State) (m : Nat) : Nat := s.hka.mon.get m 0

/-- The monitor table entry 0x1501 as it reads. -/
def State.monEnt (s : State) (m : Nat) : Nat := Ent.MON_KIND.put (s.mon m) (monKind m)

/-- Set a field of a monitor. -/
def State.monPut (s : State) (m : Nat) (b : Bits) (v : Nat) : State :=
  s.onHka (fun h => { h with mon := h.mon.put m 0 (b.put (s.mon m) v) })

/-- The WEAR event (class 0x17) of R480. -/
def State.wearEvent (s : State) (kind mon action prop value level spares : Nat) : State :=
  s.event 0x17 (leBytes 1 kind ++ leBytes 1 mon ++ leBytes 1 action ++ leBytes 1 prop ++ leBytes 4 value ++ leBytes 4 level ++
    leBytes 4 spares)

/-- Proposals in state PROPOSED (HKA_STATUS.OPEN), and the lowest entry that a proposal may take. -/
def State.hkaOpen (s : State) : Nat := ((List.range 16).filter (fun i => decide (Ent.PROP_STATE.of (s.hka.prop.get i 0) = 1))).length
def State.propFree (s : State) : Option Nat :=
  match (List.range 16).find? (fun i => decide (Ent.PROP_STATE.of (s.hka.prop.get i 0) = 0)) with
  | some i => some i
  | none => (List.range 16).find? (fun i => decide (Ent.PROP_STATE.of (s.hka.prop.get i 0) ≠ 1))

/-- HKA_STATUS follows. -/
def State.hkaShow (s : State) : State :=
  (s.wr HKA_STATUS_OPEN s.hkaOpen).wrB HKA_STATUS_SPARING s.hka.rebuild.isSome

/-- Active verifier units. -/
def State.unitsActive (s : State) : Nat := ((List.range 4).filter (fun x => s.unitState x == 0)).length

/-- Spares that remain for an action (R476, R477). -/
def State.sparesFor (s : State) (p : HkaProp) : Nat :=
  match p.action with
  | 1 => s.sparesLeft
  | 2 => s.sparesLeft
  | 3 => ((List.range 4).filter (fun x => s.unitState x == 3)).length
  | 4 => b2n (bitAt (s.rd HKA_SPARES_DRAM_SPARE) p.subject)
  | 5 => 256 - s.sys.repairs.length
  | _ => 0

/-- The action of a proposal has no spare left (R477). -/
def State.actionBarred (s : State) (p : HkaProp) : Bool :=
  match p.action with
  | 1 => decide (s.sparesLeft = 0)
  | 3 => decide (s.unitState p.subject = 0) && s.spareUnit.isNone && decide (s.unitsActive < 3)
  | 4 => decide (s.sparesFor p = 0)
  | 5 => decide (s.sparesFor p = 0)
  | _ => false

/-- A proposal enters an entry of the table. -/
def State.propWrite (s : State) (i : Nat) (p : HkaProp) : State :=
  let v := Ent.MON_VALUE.of (s.mon p.mon)
  let e := Ent.PROP_MONITOR.mk' p.mon + Ent.PROP_ACTION.mk' p.action + Ent.PROP_STATE.mk' 1 + Ent.PROP_SUBJECT.mk' p.subject +
    Ent.PROP_DETAIL.mk' p.detail + Ent.PROP_ADDRESS.mk' p.addr + Ent.PROP_RAISED_S.mk' s.aonSeconds + Ent.PROP_VALUE.mk' v
  let s := s.onHka (fun h => { h with prop := h.prop.put i 0 e })
  let s := (((s.monPut p.mon Ent.MON_PROPOSED 1).monPut p.mon Ent.MON_EXHAUSTED 0).flag HKA_TROUBLE_PROPOSAL).bump HKA_PROPOSED
  (s.wearEvent 2 p.mon p.action i v p.level (s.sparesFor p)).hkaShow

/-- A monitor raises a proposal: it is written, waits for a free entry, or sets EXHAUSTED where its action has no spare left
(R477). A monitor with an open, waiting or dismissed proposal raises none. -/
def State.propose (s : State) (p : HkaProp) : State :=
  if Ent.MON_PROPOSED.on (s.mon p.mon) || s.hka.waiting.any (fun q => q.mon == p.mon) || s.hka.dismissed.any (fun q => q.1.mon == p.mon) then s
  else if s.actionBarred p then
    if Ent.MON_EXHAUSTED.on (s.mon p.mon) then s
    else ((s.monPut p.mon Ent.MON_EXHAUSTED 1).flag HKA_TROUBLE_SPARE_EXHAUSTED).wearEvent 6 p.mon p.action 0xFF
      (Ent.MON_VALUE.of (s.mon p.mon)) p.level 0
  else match s.propFree with
    | some i => s.propWrite i p
    | none => s.onHka (fun h => { h with waiting := h.waiting ++ [p] })

/-- A proposal that waited takes an entry that has become free. -/
def State.proposeWaiting (s : State) : State :=
  match s.hka.waiting, s.propFree with
  | p :: ps, some i => (s.onHka (fun h => { h with waiting := ps })).propWrite i p
  | _, _ => s

/-- Entry `i` leaves PROPOSED: 2 DONE, 3 DISMISSED, 4 OVERTAKEN (R478). -/
def State.propClose (s : State) (i st : Nat) : State :=
  let e := s.hka.prop.get i 0
  let m := Ent.PROP_MONITOR.of e
  let p : HkaProp := { mon := m, action := Ent.PROP_ACTION.of e, subject := Ent.PROP_SUBJECT.of e, detail := 0, addr := 0, level := 0 }
  let s := s.onHka (fun h => { h with prop := h.prop.put i 0 (Ent.PROP_STATE.put e st) })
  let s := s.monPut m Ent.MON_PROPOSED 0
  ((s.wearEvent (if st = 2 then 3 else if st = 3 then 4 else 5) m p.action i (Ent.PROP_VALUE.of e) 0 (s.sparesFor p)).hkaShow).proposeWaiting

/-- The open proposal of a monitor becomes DONE or OVERTAKEN; one that waits or was dismissed is no more. -/
def State.propSettle (s : State) (m st : Nat) : State :=
  let s := s.onHka (fun h => { h with dismissed := h.dismissed.filter (fun d => !(d.1.mon == m)) })
  match (List.range 16).find? (fun i =>
    decide (Ent.PROP_STATE.of (s.hka.prop.get i 0) = 1) && decide (Ent.PROP_MONITOR.of (s.hka.prop.get i 0) = m)) with
  | some i => s.propClose i st
  | none => s.onHka (fun h => { h with waiting := h.waiting.filter (fun p => !(p.mon == m)) })

/-- The monitors whose pair or unit is retired now and was not before: a proposal is DONE where a command retired it, and
OVERTAKEN where an autonomous step did (R478). -/
def State.hkaFollow (s : State) (before : State) (commanded : Bool) : State :=
  let st := if commanded then 2 else 4
  let s := (List.range 12).foldl (fun s p => if before.pairSt p ≠ 2 ∧ s.pairSt p = 2 then s.propSettle p st else s) s
  (List.range 4).foldl (fun s u => if before.unitState u ≠ 2 ∧ s.unitState u = 2 then s.propSettle (12 + u) st else s) s

/-- The proposal that an ageing monitor makes (R477); none for a pair or unit out of service. -/
def State.ageProp (s : State) (m level : Nat) : Option HkaProp :=
  if m ≤ 11 then
    if s.pairSt m = 0 ∨ s.pairSt m = 4 then some { mon := m, action := 1, subject := m, detail := 0, addr := 0, level := level }
    else if s.pairSt m = 1 ∨ s.pairSt m = 3 then some { mon := m, action := 2, subject := m, detail := 0, addr := 0, level := level }
    else none
  else if m ≤ 15 then
    if s.unitState (m - 12) = 2 then none
    else some { mon := m, action := 3, subject := m - 12, detail := 0, addr := 0, level := level }
  else some { mon := m, action := 6, subject := 0, detail := 0, addr := 0, level := level }

/-- Raise what a monitor proposes, if it proposes anything. -/
def State.proposeOpt (s : State) (p : Option HkaProp) : State := match p with | some p => s.propose p | none => s

/-- A monitor takes a value: PEAK, UPDATED_S, and WARN with its trouble bit and a WEAR event when the warning level is first
reached. -/
def State.monTake (s : State) (m v warn : Nat) (trouble : Fld) : State :=
  let v := satNat 32 v
  let s := ((s.monPut m Ent.MON_VALUE v).monPut m Ent.MON_UPDATED_S s.aonSeconds).monPut m Ent.MON_PEAK (max v (Ent.MON_PEAK.of (s.mon m)))
  if v < warn ∨ Ent.MON_WARN.on (s.mon m) = true then s
  else ((s.monPut m Ent.MON_WARN 1).flag trouble).wearEvent 1 m 0 0xFF v warn 0

/-- The hourly ageing measurement, with the NAND's own report in 0.01 % (R472, R474). -/
def State.ageing (s : State) (ppm : List Nat) (nand : Nat) : State :=
  if s.hkaRuns = false ∨ s.each s.hka.agedAt 3600000000000 = false then s
  else
    let s := s.onHka (fun h => { h with agedAt := some s.now })
    let warn := s.rdOr HKA_AGE_LIMIT_WARN_PPM 15000
    let prop := s.rdOr HKA_AGE_LIMIT_PROPOSE_PPM 20000
    let s := (List.range 18).foldl (fun s m =>
      match ppm[m]? with
      | none => s
      | some v =>
        let s := s.monTake m v warn HKA_TROUBLE_AGE_WARN
        if prop ≤ v then s.proposeOpt (s.ageProp m prop) else s) s
    let s := s.monTake 26 nand (s.rdOr HKA_LIFE_LIMIT_WARN_PCT 80 * 100) HKA_TROUBLE_LIFE_WARN
    let p := s.rdOr HKA_LIFE_LIMIT_PROPOSE_PCT 90 * 100
    if p ≤ nand then s.propose { mon := 26, action := 6, subject := 0, detail := 0, addr := 0, level := p } else s

/-- e^x of a rational number, in units of 2^-64: a Taylor sum of x/16 squared four times (R473; the precision is the model's,
DESIGN CHOICE, log entry 33). -/
def expFix (num : Int) (den : Nat) : Int :=
  let one : Int := 2 ^ 64
  let x : Int := num * one / (16 * den : Nat)
  let p := (List.range 24).foldl (fun (p : Int × Int) (k : Nat) =>
    let t := p.2 * x / one / ((k + 1 : Nat) : Int)
    (p.1 + t, t)) (one, one)
  let sq (y : Int) : Int := y * y / one
  sq (sq (sq (sq p.1)))

/-- The weight of a minute at a board temperature in 0.1 °C, in units of 2^-32 equivalent minutes (R473): the exponent is
162470 (2t - 1200) / (6663 (5463 + 2t)). -/
def lifeWeight (t : Int) : Nat :=
  (expFix (162470 * (2 * t - 1200)) (6663 * (5463 + 2 * t).toNat) / 2 ^ 32).toNat

/-- Thermal life accrues once a minute from the last reading of channel 13 (R473). -/
def State.lifeAccrue (s : State) : State :=
  match s.hka.board, s.each s.hka.accruedAt 60000000000 with
  | some t, true =>
    let s := s.onHka (fun h => { h with life := h.life + lifeWeight t, accruedAt := some s.now })
    let v := s.hka.life / 2 ^ 32 * 10000 / 13149000
    let s := s.monTake 27 v (s.rdOr HKA_LIFE_LIMIT_WARN_PCT 80 * 100) HKA_TROUBLE_LIFE_WARN
    let p := s.rdOr HKA_LIFE_LIMIT_PROPOSE_PCT 90 * 100
    if p ≤ v then s.propose { mon := 27, action := 6, subject := 0, detail := 0, addr := 0, level := p } else s
  | _, _ => s

/-- The total is committed to MRAM, every hour (R473). -/
def State.lifeCommit (s : State) : State :=
  if s.each s.hka.committedAt 3600000000000 then
    (s.onHka (fun h => { h with lifeMram := h.life, committedAt := some s.now })).wr HKA_LIFE (s.hka.life / 2 ^ 32)
  else s

/-! ## ECC monitors (R474) -/

/-- One more corrected error at an address: it becomes the most recent of at most 16 for its monitor. -/
def trackEcc (l : List EccAddr) (a : EccAddr) : List EccAddr :=
  let same (x : EccAddr) : Bool := x.mon == a.mon && x.target == a.target && x.inst == a.inst && x.addr == a.addr
  let c := ((l.find? same).map (fun x => x.count)).getD 0
  let mine := (l.filter (fun x => x.mon == a.mon && !same x)).take 15
  { a with count := c + 1 } :: mine ++ l.filter (fun x => !(x.mon == a.mon))

/-- Count one in a list of device counts. -/
def bumpDev : List (Nat × Nat × Nat) → Nat → Nat → List (Nat × Nat × Nat)
  | [], m, d => [(m, d, 1)]
  | (m', d', c) :: l, m, d => if m' = m ∧ d' = d then (m, d, c + 1) :: l else (m', d', c) :: bumpDev l m d

/-- The device of a rank with most corrected errors in the window. -/
def State.worstDevice (s : State) (m : Nat) : Nat :=
  ((s.hka.devs.filter (fun x => x.1 == m)).foldl (fun (b : Nat × Nat) x => if b.2 < x.2.2 then (x.2.1, x.2.2) else b) (0, 0)).1

/-- What an ECC monitor proposes now, if it has reached its level (R477). MRAM takes PROPOSE_PPM, of the two levels that its row
names (DEDUCED, log entry 33). -/
def State.eccProp (s : State) (m : Nat) : Option HkaProp :=
  let v := Ent.MON_VALUE.of (s.mon m)
  if m ≤ 21 then
    let l := s.rdOr HKA_ECC_LIMIT_DRAM_24H 1000
    if l ≤ v then some { mon := m, action := 4, subject := m - 18, detail := s.worstDevice m, addr := 0, level := l } else none
  else if m ≤ 24 then
    let l := s.rdOr HKA_ECC_LIMIT_REPEAT 3
    (s.hka.addrs.find? (fun a => a.mon == m && decide (l ≤ a.count))).map (fun a =>
      { mon := m, action := 5, subject := a.target, detail := a.inst, addr := a.addr, level := l })
  else
    let l := s.rdOr HKA_AGE_LIMIT_PROPOSE_PPM 20000
    if l ≤ v then some { mon := m, action := 6, subject := 0, detail := 0, addr := 0, level := l } else none

/-- An ECC monitor at its proposal level warns and proposes. -/
def State.eccJudge (s : State) (m : Nat) : State :=
  match s.eccProp m with
  | none => s
  | some p => ((s.flagIf (!Ent.MON_WARN.on (s.mon m)) HKA_TROUBLE_ECC_WARN).monPut m Ent.MON_WARN 1).propose p

/-- A corrected error: its monitor (18-25), the target and the instance or DRAM device, and the word address (R474). -/
def State.eccCorrected (s : State) (m target inst addr : Nat) : State :=
  if s.hkaRuns = false ∨ m < 18 ∨ 25 < m then s
  else
    let s := (s.monPut m Ent.MON_VALUE (satNat 32 (Ent.MON_VALUE.of (s.mon m) + 1))).monPut m Ent.MON_UPDATED_S s.aonSeconds
    let s := s.onHka (fun h => { h with addrs := trackEcc h.addrs { mon := m, target := target, inst := inst, addr := addr, count := 0 },
                                        devs := if m ≤ 21 then bumpDev h.devs m inst else h.devs })
    s.eccJudge m

/-- A 24-hour window of the fabric clock ends: the counts are judged, kept as peaks and closed (R474). The warning of a window ends
with it (log entry 33). -/
def State.eccWindow (s : State) : State :=
  if s.now < s.hka.windowAt + 86400000000000 then s
  else
    let s := s.onHka (fun h => { h with windowAt := h.windowAt + 86400000000000 })
    if s.hkaRuns = false then s
    else
      let s := (List.range 8).foldl (fun s k =>
        let m := 18 + k
        let s := s.eccJudge m
        let v := Ent.MON_VALUE.of (s.mon m)
        let s := (s.monPut m Ent.MON_PEAK (max v (Ent.MON_PEAK.of (s.mon m)))).monPut m Ent.MON_VALUE 0
        (s.monPut m Ent.MON_WARN 0).monPut m Ent.MON_UPDATED_S s.aonSeconds) s
      s.onHka (fun h => { h with addrs := [], devs := [] })

/-! ## The ADC (R469-R471, R479) -/

/-- A temperature channel against its warning level: TEMP_WARN and a WEAR event when the level is reached. A temperature is no
monitor, so the event names monitor 0xFF (DESIGN CHOICE, log entry 33). -/
def State.tempCheck (s : State) (c : Nat) (v : Int) : State :=
  let l := if c ≤ 11 then s.rdOr HKA_TEMP_LIMIT_WARN_DIE 1150 else s.rdOr HKA_TEMP_LIMIT_WARN_BOARD 750
  if v < (l : Int) then s.onHka (fun h => { h with hot := h.hot.filter (fun x => !(x == c)) })
  else if s.hka.hot.contains c then s
  else ((s.onHka (fun h => { h with hot := h.hot ++ [c] })).flag HKA_TROUBLE_TEMP_WARN).wearEvent 1 0xFF 0 0xFF (unsigned 32 v) l 0

/-- A conversion of a host request is under way until this fabric time (R470). -/
def State.convBusy (s : State) : Nat :=
  match s.hka.conv with
  | some c => if c.start ≤ s.now then c.start + 1000 else 0
  | none => 0

/-- A sweep burst, SWEEP_MS after the last one began: each channel in MASK is converted, back to back after a host conversion that is
under way, and its result feeds the monitors (R470). `vals` are the readings. -/
def State.sweep (s : State) (vals : List Int) : State :=
  if s.hkaRuns = false ∨ s.each (s.hka.burst.map (fun b => b.1)) (s.rdOr HKA_SEQ_CFG_SWEEP_MS 10 * 1000000) = false then s
  else
    let n := ((List.range 16).filter (bitAt (s.rd HKA_SEQ_CFG_MASK))).length
    let start := max s.now s.convBusy
    let s := s.onHka (fun h => { h with burst := some (start, start + 1000 * n) })
    (List.range 16).foldl (fun s c =>
    match vals[c]? with
    | none => s
    | some v =>
      if bitAt (s.rd HKA_SEQ_CFG_MASK) c = false then s
      else
        let s := if 8 ≤ c ∧ c ≤ 13 then s.tempCheck c v else s
        if c = 13 then s.onHka (fun h => { h with board := some v }) else s) s

/-- When a host request written now starts: an urgent one at the end of the conversion that is running, or in the next fabric cycle
where none is; a normal one when the burst in progress has no channel left (R470). -/
def State.convStart (s : State) (urgent : Bool) : Nat :=
  match s.hka.burst with
  | some (a, b) =>
    if s.hkaRuns = false ∨ b ≤ s.now then s.now + b2n urgent
    else if urgent then a + ceilDiv (s.now - a) 1000 * 1000 else b
  | none => s.now + b2n urgent

/-- HKA_CONV_CTRL.GO: a host request, ignored with REQ_BUSY while one is outstanding or MGMT is gated (R470). -/
def State.convGo (s : State) (channel : Nat) (urgent : Bool) : State :=
  let s := (s.wr HKA_CONV_CTRL_CHANNEL channel).wrB HKA_CONV_CTRL_URGENT urgent
  if s.hka.conv.isSome || !s.clk 17 then s.flag HKA_TROUBLE_REQ_BUSY
  else
    let start := s.convStart urgent
    let s := s.onHka (fun h => { h with
      conv := some { channel := channel, urgent := urgent, goAt := s.now, goTai := s.taiNs, start := start }
      burst := h.burst.map (fun b => if urgent = true ∧ s.now < b.2 then (b.1, b.2 + 1000) else b) })
    s.wr HKA_CONV_STATUS_BUSY 1

/-- A host conversion has finished, 1 µs after its start: `value` in the channel's unit (R471). -/
def State.convResult (s : State) (value : Nat) : State :=
  match s.hka.conv with
  | none => s
  | some c =>
    if s.clk 17 = false ∨ s.now < c.start + 1000 then s
    else
      let s := if s.on HKA_DATA_LO_VALID then (s.flag HKA_TROUBLE_OVERRUN).bump HKA_OVERRUNS else s
      let s := (((s.flag HKA_DATA_LO_VALID).wrB HKA_DATA_LO_URGENT c.urgent).wr HKA_DATA_LO_CHANNEL c.channel).wrSat HKA_DATA_LO_WAIT ((c.start - c.goAt) / 10)
      let s := (s.wr HKA_DATA_HI_VALUE value).wr HKA_DATA_TAI (c.goTai + (c.start - c.goAt))
      ((s.onHka (fun h => { h with conv := none })).wr HKA_CONV_STATUS_BUSY 0).bump HKA_CONVERSIONS

/-! ## Commands (R478) -/

/-- HKA_CMD ends: 0 done, 1 BUSY, 2 EXHAUSTED, 3 BAD_ARG, 4 SUPPLY, 5 GATED. -/
def State.hkaAnswer (s : State) (r : Nat) : State := s.answer HKA_CMD_STATUS_DONE HKA_CMD_STATUS_RESULT r

/-- OP = SPARE_DEVICE: the rebuild starts, or is refused. -/
def State.spareDevice (s : State) (rank device : Nat) : State :=
  let s := ((s.wr HKA_CMD_OP 1).wr HKA_CMD_RANK rank).wr HKA_CMD_DEVICE device
  if s.on HKA_CMD_STATUS_BUSY then s.hkaAnswer 1
  else if s.clk 17 = false then s.hkaAnswer 5
  else if bitAt (s.rd HKA_SPARES_DRAM_SPARE) rank = false then (s.flag HKA_TROUBLE_SPARING_FAIL).hkaAnswer 2
  else ((s.begin HKA_CMD_STATUS_BUSY).onHka (fun h => { h with rebuild := some (rank, device) })).hkaShow

/-- The rebuild has completed: the mapping is committed. -/
def State.rebuildDone (s : State) : State :=
  match s.hka.rebuild with
  | none => s
  | some (r, d) =>
    let s := (s.onHka (fun h => { h with rebuild := none, map := h.map ++ [(r, d)] })).wrBit HKA_SPARES_DRAM_SPARE 0 r false
    ((s.finish HKA_CMD_STATUS_BUSY HKA_CMD_STATUS_DONE HKA_CMD_STATUS_RESULT 0).hkaShow).propSettle (18 + r) 2

/-- VWARN falls before the commit: the change is abandoned with result SUPPLY. -/
def State.rebuildStop (s : State) : State :=
  if s.hka.rebuild.isNone then s
  else (((s.onHka (fun h => { h with rebuild := none })).finish HKA_CMD_STATUS_BUSY HKA_CMD_STATUS_DONE HKA_CMD_STATUS_RESULT 4).flag
    HKA_TROUBLE_SPARING_FAIL).hkaShow

/-- OP = QUEUE_REPAIR of proposal `i`: its address joins the pending repairs, and the proposal is DONE. -/
def State.queueRepair (s : State) (i : Nat) : State :=
  let s := (s.wr HKA_CMD_OP 2).wr HKA_CMD_PROP i
  let e := s.hka.prop.get i 0
  if s.on HKA_CMD_STATUS_BUSY then s.hkaAnswer 1
  else if s.clk 17 = false then s.hkaAnswer 5
  else if Ent.PROP_STATE.of e ≠ 1 ∨ Ent.PROP_ACTION.of e ≠ 5 then s.hkaAnswer 3
  else if 8 ≤ s.hka.queued.length then s.hkaAnswer 2
  else
    let s := s.onHka (fun h => { h with queued := h.queued ++ [(Ent.PROP_SUBJECT.of e, Ent.PROP_DETAIL.of e, Ent.PROP_ADDRESS.of e)] })
    ((s.wr HKA_SPARES_QUEUED s.hka.queued.length).propClose i 2).hkaAnswer 0

/-- OP = DISMISS of proposal `i`. -/
def State.dismiss (s : State) (i : Nat) : State :=
  let s := (s.wr HKA_CMD_OP 3).wr HKA_CMD_PROP i
  let e := s.hka.prop.get i 0
  if s.on HKA_CMD_STATUS_BUSY then s.hkaAnswer 1
  else if s.clk 17 = false then s.hkaAnswer 5
  else if Ent.PROP_STATE.of e ≠ 1 then s.hkaAnswer 3
  else
    let p : HkaProp := { mon := Ent.PROP_MONITOR.of e, action := Ent.PROP_ACTION.of e, subject := Ent.PROP_SUBJECT.of e,
                         detail := Ent.PROP_DETAIL.of e, addr := Ent.PROP_ADDRESS.of e, level := 0 }
    ((s.onHka (fun h => { h with dismissed := h.dismissed ++ [(p, s.now)] })).propClose i 3).hkaAnswer 0

/-- REMIND_DAYS after a dismissal the monitor raises the proposal again; never where it is 0 (R478). -/
def State.remind (s : State) (m : Nat) : State :=
  let days := s.rd HKA_LIFE_LIMIT_REMIND_DAYS
  match s.hka.dismissed.find? (fun d => d.1.mon == m) with
  | none => s
  | some (p, t) =>
    if days = 0 ∨ s.now < t + days * 86400000000000 then s
    else (s.onHka (fun h => { h with dismissed := h.dismissed.filter (fun d => !(d.1.mon == m)) })).proposeOpt
      (if m ≤ 15 then s.ageProp m p.level else some p)

end Sys2Proof.Machine
end

