-- ==== Sys2Proof/Machine/SysOps.lean ====
section
/-! DEFINITION. Power states, clock units, resets, start-up, self-test and supply events (R422-R430 and the chapter "Start-up,
self-test and supply events", R446-R468). -/

namespace Sys2Proof.Machine

open Sys2Proof Reg

/-! ## Resets (R446-R448) -/

/-- The register fields of the always-on domain that a reset other than POWER_ON keeps (R447). -/
def aonFields : List Fld :=
  [SYS_PWR_AON_SLEEP_MODE, SYS_CLK_BOOT, SYS_RST_STATUS_WDOG_EXPIRED, SYS_SUPPLY_STATUS_VWARN_SEEN, SYS_SUPPLY_STATUS_VRESET_SEEN,
   SYS_SUPPLY_STATUS_VSTBY_LOW, SYS_SUPPLY_STATUS_DIPS, SYS_SUPPLY_LAST_DURATION_US, SYS_SUPPLY_MIN_MIN_MV, SYS_TROUBLE_WDOG_EXPIRED,
   SYS_TROUBLE_SUPPLY, BND_BOOT_CFG_AUTOLOAD, BND_BOOT_CFG_SLOT_SEL, BND_BOOT_CFG_FALLBACK_EN, BND_TROUBLE_LOAD_FAIL,
   BND_TROUBLE_FALLBACK_USED, BND_TROUBLE_JOURNAL_TRUNC, TIM_STATUS_TIME_VALID, TIM_TROUBLE_STEP, TIM_TROUBLE_CADENCE_RESTART,
   EVR_TROUBLE_CRITICAL_ONLY, EVR_TROUBLE_FULL, EVR_TROUBLE_CLEAR_RESUMED, GTH_TROUBLE_TORN, TWN_TROUBLE_PEER_FAILED,
   TWN_TROUBLE_PROMOTED, TWN_TROUBLE_FENCED, KEY_STATUS_PENDING_ZEROIZE, KEY_TROUBLE_ZEROIZED, KEY_TROUBLE_UNSEAL_STOPPED,
   LCS_STATUS_TAMPER_N_DRIVEN, LCS_TAMPER_AON_CLASS_AON, LCS_TROUBLE_TAMPER, LCS_TROUBLE_LOG_FULL, LCS_TROUBLE_LIFECYCLE_CHANGED,
   BST_BOOT_CFG_MODE_COLD, BST_BOOT_CFG_MODE_WARM, BST_TROUBLE_BOOT_FAIL, BST_TROUBLE_REPAIR_LOG_FULL, HKA_TROUBLE_LIFE_WARN,
   HKA_TROUBLE_SPARE_EXHAUSTED]

/-- The register fields that show MRAM or OTP contents, which every reset keeps (R447), and the pins whose level they show. -/
def keptFields : List Fld :=
  [SYS_PWR_AON_PWR_EN, SYS_SUPPLY_STATUS_VWARN, SYS_SUPPLY_STATUS_VSTBY_OK, SYS_SUPPLY_MIN_NOW_MV, SYS_MB_ADDR,
   SYS_MB_ADDR_SLOT_ID, EVR_BASE, EVR_NEXT, EVR_LOST, GTH_NEXT_SEQ, KEY_RESET_COUNT, KEY_ATTEST_FRONT, LCS_STATUS_LIFECYCLE,
   LCS_STATUS_TRANSITIONS_LEFT, LCS_TOKEN_CTR_OWNER, LCS_TOKEN_CTR_VENDOR, LCS_TAMPER_TOTAL, BST_REPAIR_USED, HKA_LIFE,
   HKA_SPARES_DRAM_SPARE, HKA_SPARES_QUEUED, TWN_STATUS_POSITION]

/-- Registers after a reset: every field at its reset value but those kept. -/
def State.keepRegs (s : State) (fs : List Fld) (r : Store) : Store := fs.foldl (fun r f => r.put (f.key 0 0) f.rst (s.rd f)) r

/-- The whole seconds of a counter in ns. -/
def wholeSeconds (ns : Nat) : Nat := ns / 1000000000 * 1000000000

/-- What a reset of a kind puts in place of the state (R446-R448): everything at its reset value but what each kind keeps. The
fabric time and the waiting commands are the model's own. -/
def State.cleared (s : State) (kind : Nat) : State :=
  let aon := if kind = 1 then s.tim.floor * 1000000000 else s.tim.aon
  { State.reset with
    now := s.now, tables := s.tables.map (fun t => { id := t.id }), dramGen := s.dramGen + 1, freeCount := s.freeCount, pending := s.pending,
    tai := wholeSeconds aon,
    regs := s.keepRegs (if kind = 1 then [] else aonFields) (s.keepRegs keptFields State.reset.regs),
    evr := { s.evr with queue := [], arrivals := [], newNow := 0 },
    key := { slots := s.key.slots.map (fun p => (p.1, { p.2 with suspended := false })), rewrite := s.key.rewrite, lossZeroize := s.key.lossZeroize,
             ramLost := decide (kind ≠ 5 ∧ kind ≠ 6), aonLost := decide (kind = 1) },
    bnd := { slotA := s.bnd.slotA, slotB := s.bnd.slotB, floor := s.bnd.floor },
    gth := s.gth.afterReset,
    tim := { aon := aon, floor := s.tim.floor, second := some (wholeSeconds aon / 1000000000) }, mac := { qualAt := (List.range 20).map (fun p => (p, s.now)) },
    lcs := if kind = 1 then {} else { log := s.lcs.log, holdEnd := s.lcs.holdEnd, releaseAsked := s.lcs.releaseAsked },
    sys := { repairs := s.sys.repairs, vreset := if kind = 1 then none else s.sys.vreset, dip := if kind ≤ 3 then none else s.sys.dip,
             railsOff := if kind = 3 then some (s.now + 20000000) else none },
    hka := s.hka.afterReset s.now }

/-- The state that a reset of a kind leaves, before the sequence of R451 goes on (R446-R448). -/
def State.resetTo (s : State) (kind : Nat) : State :=
  let s := s.storeCut
  let debug := s.lcs.session
  let code := s.rd LCS_DEBUG_STATUS_STATE
  let t := s.cleared kind
  let t := ((t.wr SYS_RST_STATUS_LAST_KIND kind).wrSat SYS_RST_COUNT (if kind = 1 then 0 else s.rd SYS_RST_COUNT + 1)).wr
    SYS_CLK_REQ (t.rd SYS_CLK_BOOT)
  let t := if kind = 1 then t.wr SYS_SUPPLY_STATUS_VSTBY_OK 1 else t
  let t := (t.setDebug (debugDefault t.lifecycle)).gShow
  match debug with
  | none => t
  | some x => t.lifecycleEvent 3 code (debugDefault t.lifecycle) 3 x.issuer x.counter x.mask x.secs

/-! ## Self-test (R454-R458) -/

/-- The boot mode in force: that of the reset kind, where NONE acts as QUICK once the module is provisioned, but not in RMA
(R446, R455). A mode code 3 acts as FULL (DESIGN CHOICE, log entry 32). -/
def State.bootMode (s : State) : Nat :=
  let m := if s.rd SYS_RST_STATUS_LAST_KIND ≤ 3 then s.rd BST_BOOT_CFG_MODE_COLD else s.rd BST_BOOT_CFG_MODE_WARM
  let lc := s.lifecycle
  if m = 0 ∧ (lc = 2 ∨ lc = 3 ∨ lc = 5) then 1 else m

/-- Whether the mode tests logic. -/
def modeFull (m : Nat) : Bool := decide (2 ≤ m)

/-- Instances of a self-test target (R456); 0 where there is no such target. -/
def bistInstances (t : Nat) : Nat :=
  match t with
  | 0x01 => 64 | 0x02 => 16 | 0x03 => 12 | 0x04 => 4 | 0x05 => 1 | 0x06 => 1 | 0x07 => 1 | 0x08 => 1 | 0x09 => 1
  | 0x0A => 20 | 0x0B => 1 | 0x0C => 1
  | 0x40 => 12 | 0x41 => 4 | 0x42 => 1 | 0x43 => 1 | 0x44 => 1 | 0x45 => 1 | 0x46 => 1
  | _ => 0

/-- An entry of the failure log (R458). -/
def failEntry (target inst kind bit addr repair : Nat) : Nat :=
  target % 256 + inst % 64 * 2 ^ 8 + kind * 2 ^ 14 + bit % 256 * 2 ^ 16 + addr % 2 ^ 24 * 2 ^ 32 + repair % 256 * 2 ^ 56

/-- A finding joins the failure log; beyond the 64th it is counted and sets OVERFLOW (R458). -/
def State.failAdd (s : State) (e : Nat) : State :=
  let n := s.sys.findings.length
  let s := (s.onSys (fun y => { y with findings := y.findings ++ [e] })).bump BST_FAIL_COUNT_FINDINGS
  if n < 64 then s.wr BST_FAIL_COUNT_ENTRIES (n + 1) else (s.wr BST_FAIL_COUNT_OVERFLOW 1).flag BST_TROUBLE_LOG_OVERFLOW

/-- A run of self-test empties the failure log (R458). -/
def State.failClear (s : State) : State :=
  ((((s.onSys (fun y => { y with findings := [] })).wr BST_FAIL_COUNT_ENTRIES 0).wr BST_FAIL_COUNT_OVERFLOW 0).wr
    BST_FAIL_COUNT_FINDINGS 0).wr BST_REPAIR_NEW 0

/-- A memory finding: repaired with a spare of the instance and a free entry of the repair log, or unrepairable (R457). -/
def State.memFinding (s : State) (f : Finding) : State :=
  if bistInstances f.target ≤ f.inst ∨ 0x40 ≤ f.target then s
  else
    let used := s.sys.repairs.length
    let s := s.flagIf (decide (256 ≤ used)) BST_TROUBLE_REPAIR_LOG_FULL
    if f.spare ∧ used < 256 then
      let e := failEntry f.target f.inst 1 f.bit f.addr used
      ((((s.onSys (fun y => { y with repairs := y.repairs ++ [e] })).wr BST_REPAIR_USED (used + 1)).wrSat BST_REPAIR_NEW
        (s.rd BST_REPAIR_NEW + 1)).flag BST_TROUBLE_REPAIRED).failAdd e
    else s.failAdd (failEntry f.target f.inst 2 f.bit f.addr 0xFF)

/-- A logic finding: a signature mismatch (R454, R458). -/
def State.logicFinding (s : State) (f : Finding) : State :=
  if bistInstances f.target ≤ f.inst ∨ f.target < 0x40 then s
  else s.failAdd (failEntry f.target f.inst 3 0xFF 0 0xFF)

/-- The findings that no repair answers. -/
def State.failures (s : State) : List Nat := s.sys.findings.filter (fun e => decide (bits e 14 2 ≠ 1))

/-- The BIST record (class 0x15) of R462, over the findings of the run. -/
def State.bistEvent (s : State) (kind mode reset us : Nat) : State :=
  let first := s.failures.head?
  s.event 0x15 (leBytes 1 kind ++ leBytes 1 mode ++ leBytes 1 reset ++ leBytes 1 (s.rd BST_FAIL_COUNT_ENTRIES) ++
    leBytes 2 (s.rd BST_REPAIR_NEW) ++
    (match first with
     | some e => leBytes 1 (bits e 0 8) ++ leBytes 1 (bits e 8 6)
     | none => leBytes 2 0xFFFF) ++ leBytes 4 us ++
    leBytes 4 (match first with | some e => bits e 32 24 | none => 0))

/-- Self-test has run: start-up waits for DECIDE. -/
def State.tested (s : State) : State := (s.onSys (fun y => { y with boot := 3 })).wr BST_STATUS_PHASE 3

/-- The CLOCKS step: the boot units are requested, every unit runs during self-test, and self-test begins in its mode (R430,
R451, R454). -/
def State.bootClocks (s : State) : State :=
  let mode := s.bootMode
  let s := ((s.wr SYS_CLK_REQ (s.rd SYS_CLK_BOOT)).wr SYS_CLK_RUN 0xFFFF003FFFFF).failClear
  let s := (s.wr BST_STATUS_MODE mode).onSys (fun y => { y with testAt := s.now })
  if mode = 0 then s.tested else (s.onSys (fun y => { y with boot := 1 })).wr BST_STATUS_PHASE 1

/-- A pending repair is applied: with a spare of the instance and a free log entry, or dropped with a WEAR event (R478). -/
def State.queuedRepair (s : State) (q : Nat × Nat × Nat) (spare : Bool) : State :=
  if spare ∧ s.sys.repairs.length < 256 then s.memFinding { target := q.1, inst := q.2.1, bit := 0xFF, addr := q.2.2, spare := true }
  else (s.flag HKA_TROUBLE_SPARE_EXHAUSTED).wearEvent 6 (if q.1 = 1 then 22 else if q.1 = 2 then 23 else 24) 5 0xFF 0 0 0

/-- MBIST ends: its repairs have been made and its failures logged (R457). The repairs that QUEUE_REPAIR recorded are applied;
`spares` says, for each in turn, whether its instance had a spare (R478). -/
def State.mbistDone (s : State) (fs : List Finding) (spares : List Bool) : State :=
  if s.sys.boot ≠ 1 then s
  else
    let s := fs.foldl State.memFinding s
    let s := (s.hka.queued.zip (spares ++ List.replicate 8 false)).foldl (fun s q => s.queuedRepair q.1 q.2) s
    let s := (s.onHka (fun h => { h with queued := [] })).wr HKA_SPARES_QUEUED 0
    if modeFull (s.rd BST_STATUS_MODE) then (s.onSys (fun y => { y with boot := 2 })).wr BST_STATUS_PHASE 2 else s.tested

/-- LBIST ends: the logic signatures have been compared (R454). -/
def State.lbistDone (s : State) (fs : List Finding) : State :=
  if s.sys.boot ≠ 2 then s else (fs.foldl State.logicFinding s).tested

/-- Verifier units that a failed target leaves out. -/
def State.failedUnits (s : State) : List Nat :=
  (List.range 4).filter (fun u => s.failures.any (fun e => (decide (bits e 0 8 = 0x04) || decide (bits e 0 8 = 0x41)) && decide (bits e 8 6 = u)))

/-- Pairs with a failed target. -/
def State.failedPairs (s : State) : List Nat :=
  (List.range 12).filter (fun p => s.failures.any (fun e => (decide (bits e 0 8 = 0x03) || decide (bits e 0 8 = 0x40)) && decide (bits e 8 6 = p)))

/-- An essential target has failed (R456, R459). -/
def State.essentialFailed (s : State) : Bool :=
  s.failures.any (fun e => !(decide (bits e 0 8 = 0x03) || decide (bits e 0 8 = 0x04) || decide (bits e 0 8 = 0x40) || decide (bits e 0 8 = 0x41))) ||
  decide (2 < s.failedUnits.length)

/-- A verifier unit with a failed target reads RETIRED at boot; an active one gives way to the spare (R84, R460). -/
def State.bootRetireUnit (s : State) (u : Nat) : State :=
  let wasActive := decide (s.unitState u = 0)
  let s := s.setUnit u 2
  if wasActive then
    match s.spareUnit with
    | some v => s.setUnit v 0
    | none => s.flag SVI_TROUBLE_NO_SPARE
  else s

/-- A core pair with a failed target reads RETIRED at boot, with a notice of KIND 6 (R460). -/
def State.bootRetirePair (s : State) (p : Nat) : State := (s.wrI FOL_P_STATE p 2).folNoticeNow 6 p 0

/-- DECIDE (R451, R459, R460): the safe state, or the retirement of substitutable targets, the unseal, the scans and, with
AUTOLOAD, the load; and the boot record (R462). -/
def State.bootDecide (s : State) : State :=
  if s.sys.boot ≠ 3 ∨ s.sys.ddr = false then s
  else
    let us := (s.now - s.sys.testAt) / 1000
    let mode := s.rd BST_STATUS_MODE
    let safe := s.essentialFailed
    let units := if safe then [] else s.failedUnits
    let pairs := if safe then [] else s.failedPairs
    let kind := if safe then 4 else if units ≠ [] ∨ pairs ≠ [] then 3 else if s.rd BST_REPAIR_NEW ≠ 0 then 2 else 1
    let s := s.onSys (fun y => { y with boot := 4 })
    let s := ((s.wr BST_STATUS_RESULT kind).wrSat BST_STATUS_DURATION (us / 100)).wr SYS_CLK_RUN (s.rd SYS_CLK_REQ ||| 1)
    let s := (s.bistEvent kind mode (s.rd SYS_RST_STATUS_LAST_KIND) us).wr GTH_STATUS_STORE_SCANNING 1
    if safe then ((s.wr BST_STATUS_SAFE 1).flag BST_TROUBLE_BOOT_FAIL).onBnd (fun b => { b with wait := none })
    else
      let s := pairs.foldl State.bootRetirePair (units.foldl State.bootRetireUnit s)
      let s := (s.flagIf (decide (kind = 3)) BST_TROUBLE_SUBSTITUTED).wr KEY_STATUS_STATE 1
      if s.on BND_BOOT_CFG_AUTOLOAD then (s.onBnd (fun b => { b with wait := none })).bndLoad (s.rd BND_BOOT_CFG_SLOT_SEL)
      else s.bndLoadWaiting

/-! ## Tests on demand (R461) -/

/-- A command of BST_CMD that is refused. -/
def State.bistAnswer (s : State) (r : Nat) : State := s.answer BST_CMD_STATUS_DONE BST_CMD_STATUS_RESULT r

/-- A test on demand begins, or is refused: 2 NO_SPARE, 3 BAD_STATE, 4 LIFECYCLE, 5 BUSY (R455, R461). -/
def State.bistStart (s : State) (target inst : Nat) : State :=
  let s := (s.wr BST_CMD_TARGET target).wr BST_CMD_INSTANCE inst
  let spare := if target = 1 then decide (inst < 12 ∧ s.pairSt inst = 1) && s.loaded else decide (target = 2 ∧ inst < 4) && decide (s.unitState inst = 3)
  if s.on BST_CMD_STATUS_BUSY then s.bistAnswer 5
  else if s.lifecycle = 5 then s.bistAnswer 4
  else if spare = false then s.bistAnswer 3
  else if target = 1 ∧ s.sparesLeft < 2 then s.bistAnswer 2
  else
    let s := (s.begin BST_CMD_STATUS_BUSY).failClear
    let s := s.onSys (fun y => { y with test := some (target, inst, s.now) })
    if target = 1 then (s.wrI FOL_P_STATE inst 3).folRefresh else s.setUnit inst 1

/-- A test on demand ends: 0 pass, 1 fail, 6 ABORTED. -/
def State.bistEnd (s : State) (r : Nat) : State :=
  match s.sys.test with
  | none => s
  | some (target, inst, at_) =>
    let s := (s.onSys (fun y => { y with test := none })).finish BST_CMD_STATUS_BUSY BST_CMD_STATUS_DONE BST_CMD_STATUS_RESULT r
    let s := if target = 1 then s.wrI FOL_P_STATE inst (if r = 1 then 2 else 1) else s.setUnit inst (if r = 1 then 2 else 3)
    let s := if target = 1 ∧ r = 1 then s.folNoticeNow 6 inst 0 else s
    let s := s.flagIf (decide (r = 1)) BST_TROUBLE_DEMAND_FAIL
    (s.bistEvent (if r = 0 then 5 else if r = 1 then 6 else 7) 2 0 ((s.now - at_) / 1000)).folRefresh

/-- The tests of the instance have run, with these findings (R457, R461). A repair that succeeds leaves the instance whole. -/
def State.bistDemandDone (s : State) (fs : List Finding) : State :=
  match s.sys.test with
  | none => s
  | some (target, inst, _) =>
    let s := (fs.filter (fun f => decide (f.inst = inst) &&
      decide (f.target = (if target = 1 then 0x03 else 0x04) ∨ f.target = (if target = 1 then 0x40 else 0x41)))).foldl
        (fun s f => if f.target < 0x40 then s.memFinding f else s.logicFinding f) s
    s.bistEnd (if s.failures = [] then 0 else 1)

/-- A mismatch on an active pair aborts a pair test at once (R461). -/
def State.abortPairTest (s : State) (p : Nat) : State :=
  match s.sys.test with
  | some (1, inst, _) => if p ≠ inst ∧ (s.pairSt p = 0 ∨ s.pairSt p = 4) then s.bistEnd 6 else s
  | _ => s

/-- The retirement of an active verifier unit aborts a unit test (R461). -/
def State.abortUnitTest (s : State) (u : Nat) : State :=
  match s.sys.test with
  | some (2, _, _) => if s.unitState u = 0 then s.bistEnd 6 else s
  | _ => s

/-! ## Clock units (R428-R430) -/

/-- The MAC instance whose line or port a clock unit serves: lanes P0-S3, B0 with B1, and port A. -/
def unitPorts (u : Nat) : List Nat :=
  if 32 ≤ u then [u - 32] else if u = 20 then [16, 17] else if u = 21 then [19] else []

/-- A pair whose state keeps its clock running: ACTIVE, SPARE, TESTING or MIGRATING, once a Binding has placed folios. -/
def State.pairInUse (s : State) (p : Nat) : Bool :=
  s.loaded && (decide (s.pairSt p = 0) || decide (s.pairSt p = 1) || decide (s.pairSt p = 3) || decide (s.pairSt p = 4))

/-- The units that RUN requires (R428). -/
def State.unitForRun (s : State) (u : Nat) : Bool :=
  decide (u = 0 ∨ u = 1 ∨ u = 14 ∨ u = 15 ∨ u = 16 ∨ u = 18) || (decide (u = 19) && s.on TWN_CFG_TWIN_EN) ||
  (decide (2 ≤ u ∧ u ≤ 13) && s.pairInUse (u - 2))

/-- Whether a unit is in use, so that a gate request is refused (R429). -/
def State.unitInUse (s : State) (u : Nat) : Bool :=
  decide (u = 0) ||
  (decide (u = 1) && (s.loaded || (List.range 12).any (fun p => s.clk (2 + p)))) ||
  (decide (2 ≤ u ∧ u ≤ 13) && s.pairInUse (u - 2)) ||
  (decide (s.power = 3) && s.unitForRun u) ||
  (decide (s.power = 3) && (unitPorts u).any (fun i => s.onI MAC_P_CTRL_PORT_EN i))

/-- The request bit of one unit is written: a request stands until the unit runs; a gate takes effect, or is refused. -/
def State.clkWrite (s : State) (u : Nat) (v : Bool) : State :=
  if v then s.wrBit SYS_CLK_REQ 0 u true
  else if bitAt (s.rd SYS_CLK_REQ) u = false then s
  else if s.unitInUse u then
    (((s.wrBit SYS_CLK_REFUSED 0 u true).noteSet (SYS_CLK_REFUSED.key 0 0) (2 ^ u)).flag SYS_PWR_STATUS_CLK_REFUSED).flag SYS_TROUBLE_CLK_REFUSED
  else (s.wrBit SYS_CLK_REQ 0 u false).wrBit SYS_CLK_RUN 0 u false

/-- SYS_CLK_REQ_LO or _HI is written; units 22-31 and 48-63 are reserved (R428, R429). -/
def State.clkReqWrite (s : State) (high : Bool) (v : Nat) : State :=
  if high then (List.range 16).foldl (fun s b => s.clkWrite (32 + b) (bitAt v b)) s
  else (List.range 22).foldl (fun s u => s.clkWrite u (bitAt v u)) s

/-- A requested unit's wake latency has ended (R428). -/
def State.clkRunning (s : State) (u : Nat) : State := if bitAt (s.rd SYS_CLK_REQ) u then s.wrBit SYS_CLK_RUN 0 u true else s

/-! ## Power states (R422-R426) -/

/-- SYS_PWR_CMD ends: 0 done, 1 NOT_LOADED, 2 ROLE, 3 LIFECYCLE, 4 BUSY, 5 CLOCKS, 6 SUPPLY. -/
def State.pwrAnswer (s : State) (r : Nat) : State := s.answer SYS_PWR_STATUS_DONE SYS_PWR_STATUS_RESULT r

/-- A change of power state in QUIET and RUN: the DT lines, CTL and the publishers follow (R424). -/
def State.setPower (s : State) (p : Nat) : State := ((s.wr SYS_PWR_STATUS_STATE p).dtUpdate).ctlFollow

/-- ROLE of R423: an active module with a live peer relinquishes first. -/
def State.roleHeld (s : State) : Bool := decide (s.role = 3 ∨ s.role = 4) && s.hbFresh

/-- BUSY of R423: a lifecycle transition, a store write or a key commit is in progress: an UPDATE or a DELETE (log entry 34). -/
def State.storesBusy (s : State) : Bool :=
  s.lcs.burn.isSome || s.bnd.store.isSome || s.key.job.any (fun j => decide (j.op = 1 ∨ j.op = 5))

/-- SYS_PWR_CMD with TARGET RUN (R423). -/
def State.pwrRun (s : State) : State :=
  let s := s.wr SYS_PWR_CMD_TARGET 3
  if s.on SYS_PWR_STATUS_BUSY then s.pwrAnswer 4
  else if s.power = 3 then s.pwrAnswer 0
  else if s.loaded = false ∨ s.on BST_STATUS_SAFE = true then s.pwrAnswer 1
  else if s.lifecycle = 5 then s.pwrAnswer 3
  else if (List.range 48).any (fun u => s.unitForRun u && !s.clk u) then s.pwrAnswer 5
  else if s.on SYS_SUPPLY_STATUS_VWARN then s.pwrAnswer 6
  else (s.setPower 3).pwrAnswer 0

/-- SYS_PWR_CMD with TARGET QUIET (R423). -/
def State.pwrQuiet (s : State) : State :=
  let s := s.wr SYS_PWR_CMD_TARGET 2
  if s.on SYS_PWR_STATUS_BUSY then s.pwrAnswer 4
  else if s.power = 2 then s.pwrAnswer 0
  else if s.roleHeld then s.pwrAnswer 2
  else (s.setPower 2).pwrAnswer 0

/-- Steps 1 to 3 of R425 begin: debug closes, captures end with cause ABORTED, and the queues drain for up to 50 ms. -/
def State.downStart (s : State) (target : Nat) : State :=
  let s := if s.rd LCS_DEBUG_STATUS_STATE = 0 then s else s.debugClose 0 4
  let writing := if s.on GTH_STATUS_NAND_BUSY then (s.gHead false).map (fun g => g.seq) else none
  let s := (s.gPlaces.foldl (fun s d => s.gStop d 5) s).gShow
  (s.begin SYS_PWR_STATUS_BUSY).onSys (fun y => { y with down := some (target, s.now + 50000000), writing := writing })

/-- SYS_PWR_CMD with TARGET STANDBY (1) or OFF (0), from QUIET (R423, R425). A command that R423 does not list for the state
names no result: it changes nothing and ends with BUSY (DEDUCED, log entry 32). -/
def State.pwrDown (s : State) (target : Nat) : State :=
  let s := s.wr SYS_PWR_CMD_TARGET target
  if s.on SYS_PWR_STATUS_BUSY || decide (s.power ≠ 2) || s.storesBusy then s.pwrAnswer 4 else s.downStart target

/-- What R425 waits for has drained: the event-recorder queue, and the gathering that the NAND channel was writing. -/
def State.drained (s : State) : Bool :=
  s.evrIdle && (match s.sys.writing with
    | none => true
    | some q => s.gth.open_.all (fun g => decide (g.seq ≠ q)))

/-- Steps 4 and 5 of R425: retention is taken and the main rails are switched off. -/
def State.downDone (s : State) : State :=
  match s.sys.down with
  | none => s
  | some (target, limit) =>
    if s.drained || decide (limit ≤ s.now) then
      let s := s.keyCommitCounts
      let s := s.wrB LCS_TAMPER_AON_CLASS_AON (s.on LCS_TAMPER_POLICY_CLASS)
      let s := (s.finish SYS_PWR_STATUS_BUSY SYS_PWR_STATUS_DONE SYS_PWR_STATUS_RESULT 0).wr SYS_CLK_RUN 0
      (s.wr SYS_PWR_STATUS_STATE target).onSys (fun y => { y with down := none, writing := none, boot := 0 })
    else s

/-- PWR_EN has been low for 1 ms (R426). -/
def State.pwrEnLow (s : State) : State :=
  let s := s.wr SYS_PWR_AON_PWR_EN 0
  if s.power < 2 ∨ s.sys.boot = 0 ∨ s.sys.down.isSome then s
  else
    let s := if s.power = 3 then (if s.role = 0 then s.stopActing else s.withdraw 12).setPower 2 else s
    s.downStart (if s.on SYS_PWR_AON_SLEEP_MODE then 0 else 1)

/-- PWR_EN rises: in STANDBY and OFF it starts a POWER_UP start (R423, R446). -/
def State.pwrEnRise (s : State) : State :=
  let s := s.wr SYS_PWR_AON_PWR_EN 1
  if s.power < 2 then s.resetTo 2 else s

/-- The start conditions of R451 hold, after VRESET not before the rails have been off for 20 ms (R466): the rails are sequenced,
CLOCKS follows, and the first start after a SUPPLY reset requests its record. -/
def State.powerUp (s : State) : State :=
  if s.sys.boot ≠ 0 ∨ s.power < 2 ∨ s.on SYS_PWR_AON_PWR_EN = false ∨ s.on SYS_SUPPLY_STATUS_VSTBY_OK = false ∨
     s.rd SYS_RST_STATUS_LAST_KIND = 4 ∨ s.now < s.sys.railsOff.getD 0 then s
  else
    let s := (s.wr SYS_SUPPLY_STATUS_VWARN 0).bootClocks
    match s.sys.vreset with
    | none => s
    | some (p, vin, us, low) =>
      (s.event 0x11 (leBytes 4 (3 + p * 256) ++ leBytes 4 vin ++ leBytes 4 us ++ leBytes 4 low ++
        leBytes 4 (s.rd SYS_SUPPLY_STATUS_DIPS))).onSys (fun y => { y with vreset := none })

/-- RESET_N is released after a PIN reset: the warm start begins at CLOCKS (R451). -/
def State.resetRelease (s : State) : State :=
  if s.sys.boot ≠ 0 ∨ s.power < 2 ∨ s.rd SYS_RST_STATUS_LAST_KIND ≠ 4 then s else s.bootClocks

/-- RESET_N low for 1 µs (R446, R448). With the rails off there is nothing to reset (DEDUCED, log entry 32). -/
def State.pinReset (s : State) : State := if s.power < 2 ∨ s.sys.boot = 0 then s else s.resetTo 4

/-! ## HOST and WATCHDOG resets (R449, R450) -/

/-- SYS_RST_CMD: accepted, or answered with 1 ROLE, 2 BUSY or 3 BAD_KEY (R449). -/
def State.hostResetCmd (s : State) (key : Nat) : State :=
  let answer (s : State) (r : Nat) : State := s.answer SYS_RST_STATUS_DONE SYS_RST_STATUS_RESULT r
  if key ≠ 0x4B52 then answer s 3
  else if s.on SYS_RST_STATUS_BUSY then answer s 2
  else if s.roleHeld then answer s 1
  else if s.storesBusy then answer s 2
  else (s.keyCommitCounts.begin SYS_RST_STATUS_BUSY).onSys (fun y => { y with drain := some (5, s.now + 5000000) })

/-- An accepted HOST or WATCHDOG reset takes effect, once the queue has drained or its 5 ms have passed. -/
def State.resetEffect (s : State) : State :=
  match s.sys.drain with
  | none => s
  | some (kind, limit) => if s.evrIdle = true ∨ limit ≤ s.now then (s.resetTo kind).bootClocks else s

/-- The watchdog reaches 0: ACTION 0 flags, 1 also resets folio 0, 2 and 3 also reset the module (R450). -/
def State.wdogExpire (s : State) : State :=
  if s.due s.sys.wdogEnd = false then s
  else
    let s := ((s.flag SYS_RST_STATUS_WDOG_EXPIRED).flag SYS_TROUBLE_WDOG_EXPIRED).onSys (fun y => { y with wdogEnd := none })
    match s.rd SYS_WDOG_CFG_ACTION with
    | 0 => s
    | 1 => s.wdogStart.hostReset 0
    | _ => (s.keyCommitCounts.onSys (fun y => { y with drain := some (y.drain.getD (6, s.now + 5000000)) })).resetEffect

/-- Time left on the watchdog in ms (SYS_WDOG_STATUS). -/
def State.wdogLeft (s : State) : Nat :=
  match s.sys.wdogEnd with
  | none => 0
  | some e => (e - s.now + 999999) / 1000000

/-! ## Supply (R463-R468) -/

/-- The SUPPLY record (class 0x11) of R468. -/
def State.supplyEvent (s : State) (kind vin us low : Nat) : State :=
  s.event 0x11 (leBytes 4 (kind + s.power * 256) ++ leBytes 4 vin ++ leBytes 4 us ++ leBytes 4 low ++
    leBytes 4 (s.rd SYS_SUPPLY_STATUS_DIPS))

/-- µs since VWARN fell. -/
def State.dipUs (s : State) : Nat := match s.sys.dip with | some (t, _) => (s.now - t) / 1000 | none => 0

/-- The lowest VIN since VWARN fell, with a new sample. -/
def State.dipLow (s : State) (vin : Nat) : Nat := match s.sys.dip with | some (_, m) => min m vin | none => vin

/-- VWARN falls in QUIET or RUN with VIN at `vin` mV (R464). -/
def State.vwarnFall (s : State) (vin : Nat) : State :=
  if s.on SYS_SUPPLY_STATUS_VWARN then s
  else
    let s := ((((s.wr SYS_SUPPLY_STATUS_VWARN 1).flag SYS_SUPPLY_STATUS_VWARN_SEEN).bump SYS_SUPPLY_STATUS_DIPS).wr SYS_SUPPLY_MIN_NOW_MV
      (vin / 50)).flag SYS_TROUBLE_SUPPLY
    let s := (s.onSys (fun y => { y with dip := some (s.now, vin), supplyIrq := true })).supplyEvent 1 vin 0 vin
    let s := (s.bndStop 0x0E).rebuildStop
    let s := match s.key.job with
      | some j => if j.op = 1 ∨ j.op = 3 then (s.keyForce 0x10).keyComplete else s
      | none => s
    (s.keyCommitCounts.gthSuspend).raiseFloor

/-- VWARN rises before VRESET; `low` is the lowest sample of the dip (R463, R465). -/
def State.vwarnRise (s : State) (vin low : Nat) : State :=
  if s.on SYS_SUPPLY_STATUS_VWARN = false then s
  else
    let us := s.dipUs
    let m := s.dipLow (min vin low)
    let s := (((s.wr SYS_SUPPLY_STATUS_VWARN 0).wrSat SYS_SUPPLY_LAST_DURATION_US us).wrSat SYS_SUPPLY_MIN_MIN_MV m).wr SYS_SUPPLY_MIN_NOW_MV (vin / 50)
    let s := (s.onSys (fun y => { y with dip := none })).supplyEvent 2 vin us m
    s.gthUnsuspend.bndLoadWaiting

/-- VRESET acts: a SUPPLY reset, and the rails go off (R466). VWARN always precedes it (R463). -/
def State.vresetAct (s : State) (vin : Nat) : State :=
  if s.on SYS_SUPPLY_STATUS_VWARN = false then s
  else
    let us := s.dipUs
    let m := s.dipLow vin
    let p := s.power
    let s := (((s.wrSat SYS_SUPPLY_LAST_DURATION_US us).wrSat SYS_SUPPLY_MIN_MIN_MV m).flag SYS_SUPPLY_STATUS_VRESET_SEEN).flag SYS_TROUBLE_SUPPLY
    let s := s.onSys (fun y => { y with vreset := some (p, vin, us, m) })
    s.resetTo 3

/-- VSTBY has stayed below 1.7 V (R467). -/
def State.vstbyLow (s : State) (vin : Nat) : State :=
  if s.on SYS_SUPPLY_STATUS_VSTBY_OK = false then s
  else (((s.wr SYS_SUPPLY_STATUS_VSTBY_OK 0).flag SYS_SUPPLY_STATUS_VSTBY_LOW).flag SYS_TROUBLE_SUPPLY).supplyEvent 4 vin 0 (s.dipLow vin)

/-- VSTBY returns (R467). -/
def State.vstbyOk (s : State) (vin : Nat) : State :=
  if s.on SYS_SUPPLY_STATUS_VSTBY_OK then s else (s.wr SYS_SUPPLY_STATUS_VSTBY_OK 1).supplyEvent 5 vin 0 (s.dipLow vin)

end Sys2Proof.Machine
end

