-- ==== Sys2Proof/Machine/Flags.lean ====
section
/-! DEFINITION. What is computed from the state as flags and outputs: the trouble roll-up (R491), the Supervisor trouble
interrupt (R492), the registers whose fields follow other state, the DT drive (R140, R424, R500), the interlock answer and the
status LEDs (R506). -/

namespace Sys2Proof.Machine

open Sys2Proof Reg

/-! ## Trouble roll-up (R491, R492) -/

/-- The trouble registers of the blocks with one instance: bit of SYS_TROUBLE_SUM and offset of the trouble register; the enable
register follows it. -/
def troubleRegs : List (Nat × Nat) :=
  [(0, 0x100), (1, 0x10100), (2, 0x20100), (3, 0x40100), (4, 0x50100), (5, 0x70100), (6, 0x90100), (7, 0xA0100), (9, 0xE0100),
   (10, 0xF0100), (11, 0x100100), (12, 0x110100), (13, 0x120100), (14, 0x130100), (15, 0x140100), (16, 0x150100), (17, 0x160100)]

/-- A trouble register with a bit set that its enable register rolls up. -/
def State.troubled (s : State) (o : Nat) : Bool := decide (s.word o &&& s.word (o + 4) ≠ 0)

/-- SYS_TROUBLE_MAC: the MAC instances in trouble. -/
def State.troubleMac (s : State) : Nat :=
  (List.range 20).foldl (fun n i => n + b2n (s.troubled (0xC00B8 + i * 0x1000)) * 2 ^ i) 0

/-- SYS_TROUBLE_SUM (R491). -/
def State.troubleSum (s : State) : Nat :=
  troubleRegs.foldl (fun n t => n + b2n (s.troubled t.2) * 2 ^ t.1) 0 + b2n (decide (s.troubleMac ≠ 0)) * 2 ^ 8

/-- The Supervisor trouble interrupt: a level at the kernel of the pair that hosts folio 0 (R492). -/
def State.supIrq (s : State) : Bool := decide (s.troubleSum &&& s.rd SYS_TROUBLE_ROUTE_SUP ≠ 0)

/-- The pair at whose kernel it stands, if folio 0 has one. -/
def State.supIrqPair (s : State) : Option Nat := if s.supIrq && decide (s.folPair 0 < 12) then some (s.folPair 0) else none

/-- STATUS.TROUBLE of a management-bus READ response (R489). -/
def State.cmTrouble (s : State) : Bool := decide (s.troubleSum &&& s.rd SYS_TROUBLE_ROUTE_CM ≠ 0)

/-! ## Registers that follow other state -/

/-- SWC_P_STATE.HOLD_LEFT of port `p`: what is left of the hold, in units of 0.1 ms (R271). -/
def State.holdLeft (s : State) (p : Nat) : Nat := (s.swc.holdEnd.get p 0 - s.now + 99999) / 100000

/-- MAC_P_PAUSE_STATUS.RX_LEFT of port `p`: the quanta left on its pause timer, one begun counted whole (R278). -/
def State.pauseLeft (s : State) (p : Nat) : Nat :=
  ((s.mac.pauseEnd.get p 0 - s.now) * 1000 + 64 * s.octetPs p - 1) / (64 * s.octetPs p)

/-- The state with the fields of the register at `o` that follow other state brought up to date. -/
def State.shown (s : State) (o : Nat) : State :=
  match o with
  | 0x10 => s.wr SYS_TROUBLE_SUM s.troubleSum
  | 0x14 => s.wr SYS_TROUBLE_MAC s.troubleMac
  | 0x98 => s.wrSat SYS_WDOG_STATUS_LEFT_MS s.wdogLeft
  | 0x40008 => s.wrB CLS_STATUS_EMIT s.emits
  | 0x160008 => (s.wrB CTL_STATUS_IL_CLK_PRESENT (match s.ctl.ilEdge with | some t => decide (s.now < t + 1000) | none => false)).wrB
      CTL_STATUS_IL_IMAGE_OK (match s.ctl.il with
        | some i => decide (s.rd CTL_IL_CFG_MAX_AGE_US = 0) || decide (s.now ≤ i.commitAt + s.rd CTL_IL_CFG_MAX_AGE_US * 1000)
        | none => false)
  | 0xA0008 => s.wrB SWC_STATUS_RUNNING (s.loaded && s.on SWC_CTRL_ENABLE)
  | 0xE0010 => s.wr TIM_TAI (s.tai % 2 ^ 64)
  | 0xE0014 => s.wr TIM_TAI (s.tai % 2 ^ 64)
  | 0x110008 => s.twnShow
  | 0x120008 => (s.wrB KEY_STATUS_CLASS s.classP).wr KEY_STATUS_VALID_SLOTS
      (s.key.slots.filter (fun p => s.usable p.1)).length |>.wrB KEY_STATUS_LMS_BUSY s.lmsBusy
  | 0x120010 => s.wrK KEY_DEVICE_ID 0 0 (beAt Config.deviceId 0 4)
  | 0x120014 => s.wrK KEY_DEVICE_ID 0 1 (beAt Config.deviceId 4 4)
  | 0x120018 => s.wrK KEY_DEVICE_ID 0 2 (beAt Config.deviceId 8 4)
  | 0x12001C => s.wrK KEY_DEVICE_ID 0 3 (beAt Config.deviceId 12 4)
  | 0x120088 => s.wr KEY_ATTEST_LEFT (1048576 - s.rd KEY_ATTEST_NEXT)
  | 0x13004C => s.wr LCS_DEBUG_STATUS_LEFT_S s.sessionLeft
  | 0x130060 => s.wrK LCS_TLOG_DATA 0 0 (s.tlogWord 0)
  | 0x130064 => s.wrK LCS_TLOG_DATA 0 1 (s.tlogWord 1)
  | 0x130068 => s.wrK LCS_TLOG_DATA 0 2 (s.tlogWord 2)
  | 0x13006C => s.wrK LCS_TLOG_DATA 0 3 (s.tlogWord 3)
  | 0x140020 => s.wrK BST_FAIL_DATA 0 0 (bits ((s.sys.findings.take 64).getD (s.rd BST_FAIL_INDEX) 0) 0 32)
  | 0x140024 => s.wrK BST_FAIL_DATA 0 1 (bits ((s.sys.findings.take 64).getD (s.rd BST_FAIL_INDEX) 0) 32 32)
  | 0x150008 => s.wrB HKA_STATUS_RUNNING s.hkaRuns
  | 0x150014 => s.wrB HKA_CONV_STATUS_STARTED (match s.hka.conv with | some c => decide (c.start ≤ s.now) | none => false)
  | _ =>
    if 0xA1000 ≤ o ∧ o < 0xA1500 ∧ o % 64 = 0 then
      let p := (o - 0xA1000) / 64
      if p = 18 then s.wrI SWC_P_STATE 18 1 else s.wrSatI SWC_P_STATE_HOLD_LEFT p (s.holdLeft p)
    else if 0xC0000 ≤ o ∧ o < 0xD4000 ∧ o % 0x1000 = 0x10 then
      let p := (o - 0xC0000) / 0x1000
      s.wrBI MAC_P_STATUS_PREEMPT_ACTIVE p (hasPreempt p && s.preemptActive p)
    else if 0xC0000 ≤ o ∧ o < 0xD4000 ∧ o % 0x1000 = 0x24 then
      let p := (o - 0xC0000) / 0x1000
      s.wrSatI MAC_P_PAUSE_STATUS_RX_LEFT p (s.pauseLeft p)
    else s

/-- The registers of instance 18 that read 0 and ignore writes: of its MAC all but MAC_P_ID and the counters (R284), of the time base
all ("TIM registers"). -/
def i0Blank (o : Nat) : Bool :=
  (decide (0xD2004 ≤ o ∧ o < 0xD3000) && !decide (0xD2040 ≤ o ∧ o ≤ 0xD20B0)) || decide (0xE1480 ≤ o ∧ o < 0xE14C0)

/-- The word of the register at an offset, with what it shows of other state. -/
def State.shownWord (s : State) (o : Nat) : Nat := if i0Blank o then 0 else (s.shown o).word o

/-! ## Outputs -/

/-- A DT pair: driven low or high, or high impedance in OFF and STANDBY and with the rails off (R422, R424, R448, R500). -/
inductive Drive where
  | low | high | open_
  deriving DecidableEq, Repr

/-- The drive of DT line `n`. During a reset the lines are driven low (R448); without rails they are open. -/
def State.dtDrive (s : State) (n : Nat) : Drive :=
  if s.power < 2 then .open_ else if bitAt (s.rd FLT_DT_STATE_LINE) n then .high else .low

/-- Whether the MAC of a port asserts the SFP+ transmit disable (R270, R496). -/
def State.sfpTxDisable (s : State) (p : Nat) : Bool :=
  !s.onI MAC_P_CTRL_PORT_EN p || decide (s.rdI MAC_P_CFG_SPEED p = 0) || decide (s.mac.cageOff.get p 0 ≠ 0)

/-- The backplane PPS output (R300). -/
def State.ppsHigh (s : State) : Bool := s.ppsDriven && (match s.tim.ppsOut with | some t => decide (s.now < t) | none => false)

/-- TAMPER_N is pulled low by the module (R441). -/
def State.tamperN (s : State) : Bool := s.on LCS_STATUS_TAMPER_N_DRIVEN

/-- The colour of a status LED, and whether it flashes (R506). -/
inductive Led where
  | off | green | amber | red | flashRed | flashAmber | flashGreen
  deriving DecidableEq, Repr

/-- The six status LEDs, from the top: PWR, RUN, TWIN, TRBL, TAMP and LINK (R506). -/
def State.leds (s : State) : List Led :=
  let up := decide (2 ≤ s.power)
  let r := s.role
  let ports := (List.range 20).filter (fun p => decide (p ≠ 18))
  let en := ports.filter (fun p => s.onI MAC_P_CTRL_PORT_EN p)
  [if s.on BST_STATUS_SAFE then .flashRed else if s.on SYS_SUPPLY_STATUS_VWARN then .amber else if up then .green else .off,
   if s.rd BND_STATUS_PHASE = 9 then .flashRed else if s.power = 2 then .amber else if s.power = 3 then .green else .off,
   if up = false then .off else if r = 7 ∨ r = 8 then .red else if r = 4 then .flashAmber else if r = 1 ∨ r = 3 then .green
     else .amber,
   if s.troubleSum ≠ 0 then .red else .off,
   if s.tamperN then .red else if 0 < s.debugCode then .amber else .off,
   if ports.any (fun p => decide (s.rdI SWC_P_STATE p = 2)) then .amber
     else if en ≠ [] ∧ en.all (fun p => s.onI MAC_P_STATUS_LINK p) then .green else .off]

/-- The green link LED of the SFP+ cage of port `p`: lit while LINK = 1, flashing while a frame is being sent or received (R506). -/
def State.cageLed (s : State) (p : Nat) : Led :=
  if s.onI MAC_P_STATUS_LINK p = false then .off
  else if s.onI MAC_P_STATUS_SENDING p || s.swc.rx.any (fun r => r.port == p) then .flashGreen else .green

end Sys2Proof.Machine
end

