-- ==== Sys2Proof/Machine/FabricOps.lean ====
section
/-! DEFINITION. The register fabric: who reaches which register (R2, R155, R156, R431, R490), reads with the low-word latch
(R10, R484), writes by type code (R14-R16), the commands that a register word carries, the table windows, the clears of counters and
peaks, and the frames of the management bus (R486-R490). -/

namespace Sys2Proof.Machine

open Sys2Proof Reg

/-! ## Access -/

/-- The fabric runs: the rails are on and the start-up sequence has reached the CLOCKS step (R451, R486). Nothing but the
always-on domain acts before. -/
def State.fabricUp (s : State) : Bool := decide (2 ≤ s.power) && decide (1 ≤ s.sys.boot)

/-- Act only while the fabric runs. -/
def State.live (s : State) (f : State → State) : State := if s.fabricUp then f s else s

/-- Act only while the fabric and a clock unit run: a block whose unit is gated does nothing (R429). -/
def State.liveU (s : State) (u : Nat) (f : State → State) : State := s.live (fun s => if s.clk u then f s else s)

/-- The core address of a register (R12). -/
def regAddr (o : Nat) : Nat := 0xF0000000 + o

/-- The bits of a register word that are marked host only or that carry a host command (R2, R431): the debug transport never
writes them. -/
def hostMask (o : Nat) : Nat :=
  if o = 0x90004 then 2
  else if 0x71000 ≤ o ∧ o < 0x71800 ∧ o % 64 = 0 then 14
  else if 0x100800 ≤ o ∧ o < 0x100A00 ∧ o % 32 = 0 then 0xFFFFFFFF
  else if ([0x40, 0x50, 0x54, 0x80, 0x94, 0x10004, 0x10018, 0x10050, 0x10078, 0x20030, 0x50020, 0x50024, 0x50038, 0x5003C, 0x70010,
            0x90048, 0x160020, 0x160024, 0x160030, 0x160034, 0x160040, 0xE0068, 0xF0038, 0x100020, 0x110004, 0x120030, 0x130048,
            0x130054, 0x140010, 0x150010, 0x150050] : List Nat).contains o then 0xFFFFFFFF
  else 0

/-- The offset of a trouble register: each block's at 0x100, each MAC's at 0xB8 (R491). -/
def isTrouble (o : Nat) : Bool :=
  troubleRegs.any (fun t => decide (t.2 = o)) || (decide (0xC0000 ≤ o ∧ o < 0xD4000) && decide (o % 0x1000 = 0xB8))

/-- What the management bus may write (R490): the whole space, but only a few registers in DECOMMISSIONED. -/
def State.mbWritable (s : State) (o : Nat) : Bool :=
  decide (s.lifecycle ≠ 5) || decide (o = 0x40) || decide (o = 0x80) || decide (0x130010 ≤ o ∧ o ≤ 0x130040) ||
    decide (0xF0280 ≤ o ∧ o < 0xF0300) || decide (0xF0030 ≤ o ∧ o ≤ 0xF003C) || isTrouble o

/-- An access on the management bus is carried out and counted (SYS_MB_ACCESSES). -/
def State.mbCount (s : State) (who : Agent) : State := if who = .mgmt then s.bump SYS_MB_ACCESSES else s

/-- A management-bus access is denied: it is ignored and sets MB_DENIED (R490). -/
def State.mbDenied (s : State) : State := s.flag SYS_TROUBLE_MB_DENIED

/-- A folio other than folio 0 accesses a register that R155 does not give it: a folio fault with cause REG_ACCESS. -/
def State.regFault (s : State) (f o : Nat) : State := s.folFaultPc f 3 (regAddr o)

/-- Whether an agent may make a write of the register at an offset (R155, R156, R431, R490): the Supervisor always, no other folio
and no kernel, the management bus as far as the lifecycle lets it, and the debug transport in KERNEL and FULL, but nothing that is
marked host only (R2). -/
def State.permits (s : State) (who : Agent) (o : Nat) (host : Bool) : Bool :=
  match who with
  | .folio n => decide (n.val = 0)
  | .kernel _ => false
  | .mgmt => s.mbWritable o
  | .debug => !host && decide (3 ≤ s.debugCode)

/-- The block's LOCKED_WRITE bit (R15), where it has one; MAC's is that of the instance. -/
def State.lockedWrite (s : State) (o : Nat) : State :=
  match Block.ofOffset o with
  | some .sys => s.flag SYS_TROUBLE_LOCKED_WRITE
  | some .bnd => s.flag BND_TROUBLE_LOCKED_WRITE
  | some .flt => s.flag FLT_TROUBLE_LOCKED_WRITE
  | some .swc => s.flag SWC_TROUBLE_LOCKED_WRITE
  | some .mac => s.flagI MAC_P_TROUBLE_LOCKED_WRITE ((o - 0xC0000) / 0x1000)
  | some .lcs => s.flag LCS_TROUBLE_LOCKED_WRITE
  | _ => s

/-- The write of an Endpaper register that the fabric rejects sets LOCKED_WRITE of the block that owns it, whoever makes it (R47). -/
def State.epWrite (s : State) (o : Nat) : State := if (fieldsAt o).any (fun p => decide (p.1.typ = .rwlE)) then s.lockedWrite o else s

/-- An agent behind a fence: a folio that is MOVING, and the kernel of a pair that is RETIRED or under test. Nothing of theirs leaves
the pair (R178). -/
def State.fenced (s : State) (who : Agent) : Bool :=
  match who with
  | .folio n => decide (s.folSt n.val = 7)
  | .kernel p => decide (s.pairSt p.val = 2) || decide (s.pairSt p.val = 3)
  | _ => false

/-- A management-bus access to a register that the Supervisor accesses in the same fabric cycle (R4): commands take no time (log entry
1), so an access of the Supervisor that still waits belongs to this cycle. -/
def State.contends (s : State) (who : Agent) (o : Nat) : Bool :=
  decide (who = .mgmt) && s.pending.any (fun c => decide (c.access = some (.folio 0, o)))

/-- Whether an agent makes a write of the register at an offset now: no fence and no contention holds it, and it may. -/
def State.mayWrite (s : State) (who : Agent) (o : Nat) (host : Bool) : Bool :=
  !s.fenced who && !s.contends who o && s.permits who o host

/-- A register access is refused: a folio fault with cause REG_ACCESS (R155), a denial (R490) or a debug attempt (R431); a kernel's
is not carried out (R156). -/
def State.refuseAccess (s : State) (who : Agent) (o : Nat) : State :=
  match who with
  | .folio n => s.regFault n.val o
  | .kernel _ => s
  | .mgmt => s.mbDenied
  | .debug => s.debugRefused

/-- An access that is not made now: nothing behind a fence, the following fabric cycle for a contending one (R4), else a refusal. -/
def State.turnAway (s : State) (c : Instr) (who : Agent) (o : Nat) : State :=
  if s.fenced who then s
  else if s.contends who o then { s with mbLater := s.mbLater ++ [c] }
  else s.refuseAccess who o

/-- A write of a register by an agent in command `c`: what `f` does, where the agent makes it now. -/
def State.allow (s : State) (c : Instr) (who : Agent) (o : Nat) (host : Bool) (f : State → State) : State :=
  s.live (fun s => if s.mayWrite who o host then f (s.mbCount who) else s.turnAway c who o)

/-- A write of a field that folio `k` itself may write (R155), as well as those who reach every register. -/
def State.admitOwn (s : State) (c : Instr) (who : Agent) (k o : Nat) (f : State → State) : State :=
  match who with
  | .folio n => if n.val = k then s.live (fun s => if s.fenced who then s else f s) else s.allow c who o false f
  | _ => s.allow c who o false f

/-- Any other access to a register in command `c`, in the order of R4 and in front of the fence of R178. -/
def State.inTurn (s : State) (c : Instr) (who : Agent) (o : Nat) (t : State) : State :=
  if s.fabricUp && s.fenced who then s
  else if s.fabricUp && s.contends who o then { s with mbLater := s.mbLater ++ [c] }
  else t

/-- Whether folio `n` may read the register at an offset (R155). -/
def folioReads (n o : Nat) : Bool :=
  decide (n = 0) || decide (0x41000 + 64 * n ≤ o ∧ o < 0x41040 + 64 * n) || decide (0x71000 + 64 * n ≤ o ∧ o < 0x71040 + 64 * n) ||
    decide (o = 0x20018) || decide (o = 0x2001C) || decide (o = 0xE0010) || decide (o = 0xE0014)

/-- Whether the kernel of pair `p` may access the register at an offset: its own per-pair FOL instance (R156). -/
def kernelReaches (p o : Nat) : Bool := decide (0x70800 + 16 * p ≤ o ∧ o < 0x70810 + 16 * p)

/-- Whether the debug transport may read the register at an offset (R431). -/
def State.debugReads (s : State) (o : Nat) : Bool :=
  decide (1 ≤ s.debugCode) || decide (o = 0x130004) || decide (0x120010 ≤ o ∧ o ≤ 0x12001C) || decide (0x130010 ≤ o ∧ o ≤ 0x13002C)

/-! ## Reads -/

/-- The register at an offset is the low word of a 64-bit pair (R10). -/
def lowWord (o : Nat) : Bool := (fieldsAt o).any (fun p => !p.2.2.2 && decide (32 < p.1.lo + p.1.w))

/-- Replace the latch of a requester by several high words (R471). -/
def State.latchMany (s : State) (who : Agent) (xs : List (Nat × Nat)) : State :=
  { s with latches := xs.map (fun x => (who, x.1, x.2)) ++ s.latches.filter (fun l => !decide (l.1 = who)) }

/-- A read of a mapped register by a requester that may make it: the value, and the side effects of R484. -/
def State.busRead (s : State) (who : Agent) (o : Nat) : Nat × State :=
  let v := (s.latched who o).getD (s.shownWord o)
  if o = 0x150018 then (v, s.latchMany who [(0x15001C, s.word 0x15001C), (0x150020, s.word 0x150020), (0x150024, s.word 0x150024)])
  else if o = 0x120054 then s.keyRead
  else if lowWord o then (v, s.latch who (o + 4) (s.shownWord (o + 4)))
  else (v, s)

/-- The data of a read goes to its requester. -/
def answerRead (r : Nat × State) : State := { r.2 with lastRead := r.1 % 2 ^ 32 }

/-- Whether an agent may read the register at an offset. The management bus reads the whole space (R490). -/
def State.mayRead (s : State) (who : Agent) (o : Nat) : Bool :=
  match who with
  | .folio n => folioReads n.val o
  | .kernel p => kernelReaches p.val o
  | .mgmt => true
  | .debug => s.debugReads o

/-- A read of a mapped register by an agent. -/
def State.readReg (s : State) (who : Agent) (o : Nat) : State :=
  s.live (fun s => if s.mayRead who o then let r := s.busRead who o; answerRead (r.1, r.2.mbCount who) else s.refuseAccess who o)

/-- An access to an unmapped offset reads 0 or writes nothing, and sets UNMAPPED, but for a folio, whose access R155 judges, and
the debug transport's and a kernel's, which reach only what R431 and R156 give them (R482). -/
def State.unmapped (s : State) (who : Agent) (o : Nat) (write : Bool) : State :=
  s.live (fun s =>
    let miss (s : State) : State := { s.flag SYS_TROUBLE_UNMAPPED with lastRead := if write then s.lastRead else 0 }
    match who with
    | .folio n => if n.val = 0 then miss s else s.regFault n.val o
    | .kernel _ => s
    | .mgmt => miss s
    | .debug => if (if write then 3 else 1) ≤ s.debugCode then miss s else s.debugRefused)

/-! ## Table windows (R45, R485) -/

/-- The table window of a block: the place of its READ bit, its BUSY, DONE and BAD_ADDR bits, its data words, and how many. -/
structure Window where
  block : Nat
  ctrl : Nat
  id : Fld
  index : Fld
  done : Fld
  bad : Fld
  data : Fld
  words : Nat

/-- The table windows; `block` is bits 15:8 of the identifiers that it accepts. -/
def windows : List Window :=
  [⟨2, 0x20090, SVI_TBL_CTRL_TABLE_ID, SVI_TBL_CTRL_INDEX, SVI_TBL_STATUS_DONE, SVI_TBL_STATUS_BAD_ADDR, SVI_TBL_DATA, 16⟩,
   ⟨5, 0x50060, FLT_TBL_CTRL_TABLE_ID, FLT_TBL_CTRL_INDEX, FLT_TBL_STATUS_DONE, FLT_TBL_STATUS_BAD_ADDR, FLT_TBL_DATA, 32⟩,
   ⟨7, 0x70040, FOL_TBL_CTRL_TABLE_ID, FOL_TBL_CTRL_INDEX, FOL_TBL_STATUS_DONE, FOL_TBL_STATUS_BAD_ADDR, FOL_TBL_DATA, 8⟩,
   ⟨9, 0x90060, LGE_TBL_CTRL_TABLE_ID, LGE_TBL_INDEX, LGE_TBL_STATUS_DONE, LGE_TBL_STATUS_BAD_ADDR, LGE_TBL_DATA, 8⟩,
   ⟨10, 0xA0090, SWC_TBL_CTRL_TABLE_ID, SWC_TBL_CTRL_INDEX, SWC_TBL_STATUS_DONE, SWC_TBL_STATUS_BAD_ADDR, SWC_TBL_DATA, 8⟩,
   ⟨14, 0xE00C0, TIM_TBL_CTRL_TABLE_ID, TIM_TBL_CTRL_INDEX, TIM_TBL_STATUS_DONE, TIM_TBL_STATUS_BAD_ADDR, TIM_TBL_DATA, 64⟩,
   ⟨15, 0xF0040, EVR_TBL_CTRL_TABLE_ID, EVR_TBL_CTRL_INDEX, EVR_TBL_STATUS_DONE, EVR_TBL_STATUS_BAD_ADDR, EVR_TBL_DATA, 4⟩,
   ⟨16, 0x1000D0, GTH_TBL_CTRL_TABLE_ID, GTH_TBL_CTRL_INDEX, GTH_TBL_STATUS_DONE, GTH_TBL_STATUS_BAD_ADDR, GTH_TBL_DATA, 8⟩,
   ⟨18, 0x1200C0, KEY_TBL_CTRL_TABLE_ID, KEY_TBL_CTRL_INDEX, KEY_TBL_STATUS_DONE, KEY_TBL_STATUS_BAD_ADDR, KEY_TBL_DATA, 16⟩,
   ⟨21, 0x150080, HKA_TBL_CTRL_TABLE_ID, HKA_TBL_CTRL_INDEX, HKA_TBL_STATUS_DONE, HKA_TBL_STATUS_BAD_ADDR, HKA_TBL_DATA, 4⟩,
   ⟨22, 0x160080, CTL_TBL_CTRL_TABLE_ID, CTL_TBL_CTRL_INDEX, CTL_TBL_STATUS_DONE, CTL_TBL_STATUS_BAD_ADDR, CTL_TBL_DATA, 8⟩]

/-- The number of entries of a table as its window reads it (R45 and the block chapters); 0 for an identifier with no table. -/
def tableSize (id : Nat) : Nat :=
  match id with
  | 0x201 => 512 | 0x202 => 512 | 0x203 => 512 | 0x204 => 512
  | 0x501 => 2048 | 0x502 => 256 | 0x503 => 1024 | 0x504 => 64 | 0x505 => 2048 | 0x506 => 64
  | 0x701 => 32 | 0x702 => 256
  | 0x901 => 65536 | 0x902 => 24576 | 0x903 => 256 | 0x904 => 2816
  | 0xA01 => 8192 | 0xA02 => 4096 | 0xA03 => 20 | 0xA04 => 8
  | 0xE01 => 256 | 0xE02 => 64 | 0xE03 => 256
  | 0xF01 => 1024
  | 0x1001 => 512 | 0x1002 => 16384
  | 0x1201 => 64 | 0x1202 => 1024
  | 0x1501 => 32 | 0x1502 => 16
  | 0x1601 => 1024 | 0x1602 => 64 | 0x1603 => 1024
  | _ => 0

/-- Entry `i` of a table as its window reads it: the state tables are computed from the state they show. -/
def State.tableEntry (s : State) (id i : Nat) : Nat :=
  match id with
  | 0x204 => (s.stream i).stat
  | 0x505 => s.instEnt i
  | 0x506 => s.elemEnt i
  | 0x903 => imgForce s.lge.committed i
  | 0x904 => s.imgRow i
  | 0xE03 => s.pubStateEnt i
  | 0x1202 => s.slotEntry i
  | 0x1501 => s.monEnt i
  | 0x1502 => s.hka.prop.get i 0
  | 0x1603 => s.ostEnt i
  | _ => s.ent id i

/-- A READ of a table window latches the entry as one snapshot and sets DONE; an identifier of another block or an index out
of range sets BAD_ADDR and latches nothing (R485). -/
def State.windowRead (s : State) (w : Window) : State :=
  let id := s.rd w.id
  let i := s.rd w.index
  if id / 256 = w.block ∧ i < tableSize id then
    let e := s.tableEntry id i
    ((List.range w.words).foldl (fun s k => s.wrK w.data 0 k (bits e (32 * k) 32)) s).flag w.done
  else s.flag w.bad

/-! ## Clears -/

/-- The counters that CLEAR_COUNTERS of a block clears: ranges of offsets. MAC's are in each instance. -/
def counterRange : Block → Option (Nat × Nat)
  | .svi => some (0x20050, 0x20088)
  | .cls => some (0x40020, 0x4003C)
  | .flt => some (0x50040, 0x50054)
  | .fol => some (0x70020, 0x70030)
  | .lge => some (0x90030, 0x9003C)
  | .ctl => some (0x160050, 0x160064)
  | .swc => some (0xA0040, 0xA0084)
  | .mac => some (0xC0040, 0xC00B0)
  | .tim => some (0xE0080, 0xE00A4)
  | .gth => some (0x100050, 0x100068)
  | .twn => some (0x110040, 0x11005C)
  | .key => some (0x120090, 0x1200A8)
  | .hka => some (0x150060, 0x150068)
  | _ => none

/-- A write of CLEAR_COUNTERS clears the block's counters; `i` is the MAC instance. -/
def State.clearCounters (s : State) (b : Block) (i : Nat) : State :=
  match counterRange b with
  | none => s
  | some (lo, hi) =>
    s.clrAllI (b.fields.filter (fun f => decide (lo ≤ f.off ∧ f.off ≤ hi))) (if b = .mac then i else 0)

/-- A write of CLEAR_PEAKS clears the block's peak values. -/
def State.clearPeaks (s : State) (b : Block) : State :=
  match b with
  | .svi => s.clrAll [SVI_BACKLOG_PEAK_BACKLOG, SVI_LAT_PEAK_PEAK_LAT]
  | .lge => s.clrAll [LGE_SCAN_TIME_PEAK, LGE_SCAN_DELTA_MAX_DELTA]
  | .swc => s.clrAll [SWC_BUF_PEAK_PEAK_USED]
  | _ => s

/-! ## Writes -/

/-- Fields whose write has a row of its own: the register word leaves them to the command that it carries. -/
def ownRow : List Fld :=
  [SYS_CLK_REQ, BND_STAGE_LEN, SVI_CTRL_ENABLE, SVI_VER_CTRL_SPARE_SEL, FLT_BKST_BLOCK, FOL_F_RX_PTR_TAIL, FOL_F_TX_PTR_TAIL,
   LGE_CTRL_ENABLE, MAC_P_CTRL_PORT_EN, TIM_UTC_OFFSET_OFFSET_S, TIM_UTC_OFFSET_LEAP, EVR_W_CURSOR, EVR_W_CTRL_AUTO_INC, GTH_CTRL_ENABLE, GTH_CTRL_HOST_EN,
   GTH_HOST_CONSUMED, TWN_CTRL_ENABLE, KEY_OP_LEN, LCS_TOKEN_LEN, CTL_CTRL_ENABLE, CTL_CMD_OBJECT, CTL_CMD_CODE, CTL_CMD_TAG]

/-- Whether an RWL field is locked: an Endpaper register always, since only the boot code writes it (R47); another from READY
on. -/
def State.lockedField (s : State) (f : Fld) : Bool :=
  decide (f.typ = .rwlE) || (decide (f.typ = .rwlB) && s.loaded)

/-- One field of a register word is written by its type code ("Type codes", R14, R15): RW and unlocked RWL take the bits, W1C
clears at a 1 unless the module set the bit in this fabric cycle, RO, WO and locked fields keep their value. Bits 31:22 of
SYS_CLK_BOOT_LO, of units that do not exist, are reserved (R16, R428). -/
def State.writeField (s : State) (p : FPlace) (v : Nat) : State :=
  match p.1.typ with
  | .ro => s
  | .wo => s
  | .rw =>
    if ownRow.contains p.1 then s
    else if p.1 = SYS_CLK_BOOT ∧ p.2.2.2 = false then s.wrAt p (v % 2 ^ 22)
    else s.wrAt p v
  | .w1c =>
    let old := s.rdAt p
    let ones := Fld.fromWord p.1 p.2.2.2 0 v
    let held := ones &&& s.setNow.get (p.1.key p.2.1 p.2.2.1) 0
    s.wrK p.1 p.2.1 p.2.2.1 (old - (old &&& (ones - held)))
  | .rwlE => s
  | .rwlB => if s.loaded then s else s.wrAt p v

/-- Every field of a register word, by type code. A write to a locked field sets LOCKED_WRITE (R15). -/
def State.writeFields (s : State) (o v : Nat) : State :=
  let s := if (fieldsAt o).any (fun p => s.lockedField p.1) then s.lockedWrite o else s
  (fieldsAt o).foldl (fun s p => s.writeField p v) s

/-- A command bit of a word. -/
def State.ifBit (s : State) (v b : Nat) (f : State → State) : State := if bitAt v b then f s else s

/-- SYS commands. -/
def State.cmdSys (s : State) (who : Agent) (o v : Nat) : State :=
  if o = 0x40 then s.ifBit v 31 (fun s =>
    if v % 4 = 3 then s.pwrRun else if v % 4 = 2 then s.pwrQuiet else s.pwrDown (v % 4))
  else if o = 0x50 then s.clkReqWrite false v
  else if o = 0x54 then s.clkReqWrite true v
  else if o = 0x80 then s.ifBit v 31 (fun s => s.hostResetCmd (v % 2 ^ 16))
  else if o = 0x94 then s.ifBit v 0 (fun s => if isSup who then s.wdogReload else s)
  else s

/-- BND commands. -/
def State.cmdBnd (s : State) (o v : Nat) : State :=
  if o = 0x10004 then (s.ifBit v 0 (fun s => s.bndLoad (bits v 2 2))).ifBit v 1
    (fun s => if s.on BND_STATUS_BUSY then s.bndFail 0xF 0 else s)
  else if o = 0x10018 then s.floorSet v
  else if o = 0x10048 then s.stageLen (v % 2 ^ 27)
  else if o = 0x1004C then s.stageWrite v
  else if o = 0x10050 then ((((s.ifBit v 0 State.tipStage).ifBit v 1 State.tipArm).ifBit v 2 State.tipConfirm).ifBit v 3
    State.tipRevert).ifBit v 4 State.tipDiscard
  else if o = 0x10078 then (s.ifBit v 0 (fun s => s.storeStart 1 (bits v 2 1))).ifBit v 1 (fun s => s.storeStart 2 (bits v 2 1))
  else s

/-- SVI commands. -/
def State.cmdSvi (s : State) (o v : Nat) : State :=
  if o = 0x20004 then
    let s := (s.ifBit v 2 (fun s => s.clearPeaks .svi)).ifBit v 3 (fun s => s.clearCounters .svi 0)
    if s.on SVI_CTRL_ENABLE = bitAt v 0 then s else s.sviEnable (bitAt v 0)
  else if o = 0x20030 then
    let s := s.spareSel (v % 4)
    (List.range 4).foldl (fun s u => (s.ifBit v (8 + u) (fun s => s.unitRetire u)).ifBit v (12 + u) (fun s => s.unitRestore u)) s
  else s

/-- FLT commands. -/
def State.cmdFlt (s : State) (o v : Nat) : State :=
  if o = 0x50004 then s.ifBit v 0 (fun s => s.clearCounters .flt 0)
  else if o = 0x50020 then s.bkstBlock (setBits (s.rd FLT_BKST_BLOCK) 0 32 v)
  else if o = 0x50024 then s.bkstBlock (setBits (s.rd FLT_BKST_BLOCK) 32 32 v)
  else if o = 0x50038 then s.ifBit v 31 (fun s => s.bkstReset (bitAt v 8) (v % 64))
  else if o = 0x5003C then s.ifBit v 31 (fun s => s.switchForce (v % 2048) (bits v 12 2))
  else s

/-- A pair command by its code: 1 RETIRE, 2 RESTORE, 3 MIGRATE; a reserved code is refused (log entry 25). -/
def State.pairCmd (s : State) (op p : Nat) : State :=
  if op = 1 then s.pairRetire p else if op = 2 then s.pairRestore p else if op = 3 then s.migrate p else s.pairAnswer 2

/-- A fault declared by the kernel of pair `p` on one of its folios (R174). -/
def State.kernelFault (s : State) (p f code : Nat) : State :=
  if s.folPair f = p ∧ 0x80 ≤ code then s.folFault f code 0 0 else s

/-- FOL commands. -/
def State.cmdFol (s : State) (who : Agent) (o v : Nat) : State :=
  if o = 0x70004 then (s.ifBit v 1 (fun s => s.clearCounters .fol 0)).folRefresh
  else if o = 0x70010 then s.ifBit v 31 (fun s => s.pairCmd (bits v 4 3) (v % 16))
  else if 0x7080C ≤ o ∧ o < 0x708C0 ∧ o % 16 = 12 then
    let p := (o - 0x7080C) / 16
    s.ifBit v 31 (fun s => if (match who with | .kernel q => decide (q.val = p) | _ => false) then s.kernelFault p (v % 32) (bits v 8 8) else s)
  else if 0x71000 ≤ o ∧ o < 0x71800 ∧ o % 64 = 0 then
    let f := (o - 0x71000) / 64
    if isHost who then ((s.ifBit v 1 (fun s => s.hostReset f)).ifBit v 2 (fun s => s.haltCmd who f)).ifBit v 3 (fun s => s.hostResume f) else s
  else s

/-- LGE commands. -/
def State.cmdLge (s : State) (o v : Nat) : State :=
  if o = 0x90004 then
    let s := ((s.ifBit v 1 State.lgeRestartCmd).ifBit v 2 (fun s => s.clearCounters .lge 0)).ifBit v 3 (fun s => s.clearPeaks .lge)
    if s.on LGE_CTRL_ENABLE = bitAt v 0 then s else s.lgeEnable (bitAt v 0)
  else if o = 0x90048 then s.ifBit v 31 (fun s => s.forceCmd (v % 4))
  else s

/-- SWC and MAC commands. -/
def State.cmdPort (s : State) (o v : Nat) : State :=
  if o = 0xA0004 then (s.ifBit v 3 (fun s => s.clearCounters .swc 0)).ifBit v 4 (fun s => s.clearPeaks .swc)
  else if 0xC0000 ≤ o ∧ o % 0x1000 = 0xC then
    let i := (o - 0xC0000) / 0x1000
    let s := if s.onI MAC_P_CTRL_PORT_EN i = bitAt v 0 then s else s.portEn i (bitAt v 0)
    (s.ifBit v 1 (fun s => s.verifyRestart i)).ifBit v 2 (fun s => s.clearCounters .mac i)
  else if 0xC0000 ≤ o ∧ o % 0x1000 = 0x14 ∧ s.loaded = false then s.verifyOver ((o - 0xC0000) / 0x1000)
  else s

/-- TIM commands. -/
def State.cmdTim (s : State) (o v : Nat) : State :=
  if o = 0xE0004 then s.ifBit v 2 (fun s => s.clearCounters .tim 0)
  else if o = 0xE0018 then s.utcSet (v % 65536) (bits v 16 2)
  else if o = 0xE0068 then s.ifBit v 31 (fun s => s.timeAdjust (v % 4) (s.rd TIM_ADJ))
  else if 0xE1000 ≤ o ∧ o < 0xE1500 ∧ o % 64 = 16 then s.ifBit v 0 (fun s => s.tsqPop ((o - 0xE1000) / 64))
  else s

/-- EVR commands. -/
def State.cmdEvr (s : State) (who : Agent) (o v : Nat) : State :=
  if o = 0xF0038 then s.ifBit v 31 State.evrClear
  else if o = 0xF0200 ∨ o = 0xF0280 then
    let w := (o - 0xF0200) / 0x80
    if evrWindowAgent w who then s.wrI EVR_W_CURSOR w (setBits (s.rdI EVR_W_CURSOR w) 0 32 v)
    else s.flag EVR_TROUBLE_WRONG_AGENT
  else if o = 0xF0204 ∨ o = 0xF0284 then s.evrCursorLoad who ((o - 0xF0204) / 0x80) v
  else if o = 0xF0208 ∨ o = 0xF0288 then
    let w := (o - 0xF0208) / 0x80
    let s := if evrWindowAgent w who then s.wrBI EVR_W_CTRL_AUTO_INC w (bitAt v 1) else s
    if bitAt v 0 then s.evrRead who w false else s.flagIf (!evrWindowAgent w who) EVR_TROUBLE_WRONG_AGENT
  else s

/-- GTH commands. -/
def State.cmdGth (s : State) (o v : Nat) : State :=
  if o = 0x100004 then
    let s := s.ifBit v 2 (fun s => s.clearCounters .gth 0)
    let s := if s.on GTH_CTRL_ENABLE = bitAt v 0 then s else s.gthEnable (bitAt v 0)
    if s.on GTH_CTRL_HOST_EN = bitAt v 1 then s else s.hostEn (bitAt v 1)
  else if o = 0x100020 then s.ifBit v 31 (fun s => s.storeCmd (v % 4))
  else if o = 0x100040 then (s.wr GTH_HOST_CONSUMED v).hostRun
  else if o = 0x10007C then s.ifBit v 0 (fun s => s.nandRead false)
  else if 0x100800 ≤ o ∧ o < 0x100A00 ∧ o % 32 = 0 then
    let q := (o - 0x100800) / 32
    (s.ifBit v 0 (fun s => s.sequencerForce q)).ifBit v 1 (fun s => s.sequencerReset q)
  else s

/-- TWN commands. -/
def State.cmdTwn (s : State) (o v : Nat) : State :=
  if o = 0x110004 then
    let s := s.ifBit v 2 (fun s => s.clearCounters .twn 0)
    let s := if s.on TWN_CTRL_ENABLE = bitAt v 0 then s else s.twinEnable (bitAt v 0)
    s.ifBit v 1 State.relinquish
  else s

/-- KEY and LCS commands. -/
def State.cmdKey (s : State) (o v : Nat) : State :=
  if o = 0x120004 then s.ifBit v 0 (fun s => s.clearCounters .key 0)
  else if o = 0x120030 then s.ifBit v 31 (fun s => s.keyStart s.lcs.log.length)
  else if o = 0x120040 then s.keyLen (v % 2 ^ 17)
  else if o = 0x120050 then s.keyWrite v
  else if o = 0x120100 then s.attestLow
  else if o = 0x130030 then s.ifBit v 0 State.challengeNew
  else if o = 0x130034 then s.tokenLen (v % 2 ^ 16)
  else if o = 0x130038 then s.tokenWrite v
  else if o = 0x13003C then s.ifBit v 31 State.tokenGo
  else if o = 0x130048 then s.ifBit v 0 (fun s => s.sessionClose 2)
  else if o = 0x130054 then s.ifBit v 0 State.releaseWrite
  else s

/-- An HKA command with a code that R478 does not name ends with BAD_ARG. -/
def State.hkaCmd (s : State) (v : Nat) : State :=
  if v % 4 = 1 then s.spareDevice (bits v 4 2) (bits v 8 5)
  else if v % 4 = 2 then s.queueRepair (bits v 16 4)
  else if v % 4 = 3 then s.dismiss (bits v 16 4)
  else if s.on HKA_CMD_STATUS_BUSY then s.hkaAnswer 1 else s.hkaAnswer 3

/-- BST, HKA and CTL commands. -/
def State.cmdRest (s : State) (who : Agent) (o v : Nat) : State :=
  if o = 0x140010 then s.ifBit v 31 (fun s =>
    if v % 4 = 1 ∨ v % 4 = 2 then s.bistStart (v % 4) (bits v 4 4) else if s.on BST_CMD_STATUS_BUSY then s.bistAnswer 5 else s.bistAnswer 3)
  else if o = 0x150004 then s.ifBit v 1 (fun s => s.clearCounters .hka 0)
  else if o = 0x150010 then s.ifBit v 31 (fun s => s.convGo (v % 16) (bitAt v 4))
  else if o = 0x150050 then s.ifBit v 31 (fun s => s.hkaCmd v)
  else if o = 0x160004 then (s.ifBit v 3 (fun s => s.clearCounters .ctl 0)).wrB CTL_CTRL_ENABLE (bitAt v 0) |>.ctlFollow
  else if o = 0x160020 ∨ o = 0x160030 then
    let i := (o - 0x160020) / 16
    if bitAt v 31 then s.ctlCmdWrite who i (v % 1024) (bits v 16 8)
    else if (if i = 0 then isSup who else decide (who = .mgmt)) then (s.wrI CTL_CMD_OBJECT i v).wrI CTL_CMD_CODE i (bits v 16 8)
    else s.flag CTL_TROUBLE_WRONG_AGENT
  else if o = 0x160024 ∨ o = 0x160034 then
    let i := (o - 0x160024) / 16
    if (if i = 0 then isSup who else decide (who = .mgmt)) then s.wrI CTL_CMD_TAG i v else s.flag CTL_TROUBLE_WRONG_AGENT
  else if o = 0x160040 then if bitAt v 31 && bitAt v 16 then s.ctlAbort (v % 1024) else s
  else s

/-- The commands that a register word carries. The sealing of a run, YIELD and the ring tails, which need what the folio staged,
are rows of their own only (log entry 20). -/
def State.command (s : State) (who : Agent) (o v : Nat) : State :=
  let s := match windows.find? (fun w => decide (w.ctrl = o)) with
    | some w => s.ifBit v 31 (fun s => s.windowRead w)
    | none => s
  match Block.ofOffset o with
  | some .sys => s.cmdSys who o v
  | some .bnd => s.cmdBnd o v
  | some .svi => s.cmdSvi o v
  | some .cls => if o = 0x40004 then (s.ifBit v 8 (fun s => s.clearCounters .cls 0)).folRefresh else s
  | some .flt => s.cmdFlt o v
  | some .fol => s.cmdFol who o v
  | some .lge => s.cmdLge o v
  | some .swc => s.cmdPort o v
  | some .mac => s.cmdPort o v
  | some .tim => s.cmdTim o v
  | some .evr => s.cmdEvr who o v
  | some .gth => s.cmdGth o v
  | some .twn => s.cmdTwn o v
  | some .key => s.cmdKey o v
  | some .lcs => s.cmdKey o v
  | some .bst => s.cmdRest who o v
  | some .hka => s.cmdRest who o v
  | some .ctl => s.cmdRest who o v
  | none => s

/-- A word is written to a mapped register by a requester that may write it. -/
def State.busWrite (s : State) (who : Agent) (o v : Nat) : State := if i0Blank o then s else (s.writeFields o v).command who o v

/-- A word is written to a mapped register by an agent, where it may make the write (R155, R156, R431, R490). -/
def State.writeReg (s : State) (who : Agent) (o v : Nat) : State :=
  s.live (fun s =>
    match who with
    | .folio n =>
      if n.val = 0 then s.busWrite who o v
      else if o = 0x4100C + 64 * n.val then s.writeFields o v
      else if o = 0x41004 + 64 * n.val ∨ o = 0x71000 + 64 * n.val ∨ o = 0x71014 + 64 * n.val ∨ o = 0x71018 + 64 * n.val then s
      else (s.epWrite o).regFault n.val o
    | .kernel p => if kernelReaches p.val o then s.busWrite who o v else s
    | .mgmt => if s.mbWritable o then (s.mbCount .mgmt).busWrite who o v else (s.epWrite o).mbDenied
    | .debug =>
      if 0x130034 ≤ o ∧ o ≤ 0x13003C then s.busWrite who o v
      else if s.debugCode < 3 then (s.epWrite o).debugRefused
      else if hostMask o = 0 then s.busWrite who o v
      else if hostMask o = 0xFFFFFFFF then s.debugRefused
      else if v &&& hostMask o = 0 then s.busWrite who o v
      else (s.busWrite who o (v - (v &&& hostMask o))).debugRefused)

/-! ## The management bus (R486-R490) -/

/-- The module acknowledges its address (R486): the address byte with the write bit clear. -/
def State.mbMine (s : State) (b : Byte) : Bool := s.fabricUp && decide (b.toNat = 2 * s.rd SYS_MB_ADDR)

/-- The request of a transaction: the command byte and OFFSET, where the frame is whole and passes (R488). -/
def mbRequest (cmd n : Nat) (bs : List Byte) : Option Nat :=
  let o := beAt bs 2 3
  if bs.length = n ∧ beAt bs 1 1 = cmd ∧ o % 4 = 0 ∧ crc8 (bs.take (n - 1)) = beAt bs (n - 1) 1 then some o else none

/-- A transaction refused under R488. -/
def State.mbRefused (s : State) : State := (s.flag SYS_TROUBLE_MB_FRAME).bump SYS_MB_ERRORS

/-- A WRITE that was denied, unmapped or refused: the next READ response reports it (R489). -/
def State.mbWriteBad (s : State) : State := s.onSys (fun y => { y with mbWriteErr := true })

/-- The STATUS byte of a READ response (R489). -/
def State.mbStatus (s : State) (ok unmapped : Bool) : Nat :=
  b2n ok + b2n unmapped * 4 + b2n s.sys.mbWriteErr * 8 + b2n s.cmTrouble * 16 + s.power % 4 * 32

/-- READ (R487; a frame with the command byte of WRITE is none): the access is carried out as the CRC byte is acknowledged, and STATUS, DATA and CRC are returned. -/
def State.mbRead (s : State) (bs : List Byte) : State :=
  match bs.head? with
  | none => s
  | some a =>
    if s.mbMine a = false ∨ beAt bs 1 1 = 2 then s
    else match mbRequest 1 6 bs with
      | none => s.mbRefused
      | some o =>
        let (v, ok, t) : Nat × Bool × State :=
          if mapped o then
            let (v, t) := s.busRead .mgmt o
            (v % 2 ^ 32, true, t.mbCount .mgmt)
          else (0, false, s.flag SYS_TROUBLE_UNMAPPED)
        let body := leBytes 1 (t.mbStatus ok (!ok)) ++ beBytes 4 v
        let reply := body ++ leBytes 1 (crc8 (leBytes 1 (a.toNat + 1) ++ body))
        { t with sys := { t.sys with mbReply := reply, mbWriteErr := false }, lastRead := v }

/-- WRITE (R487; a frame with the command byte of READ is none). -/
def State.mbWrite (s : State) (bs : List Byte) : State :=
  match bs.head? with
  | none => s
  | some a =>
    if s.mbMine a = false ∨ beAt bs 1 1 = 1 then s
    else match mbRequest 2 10 bs with
      | none => s.mbRefused.mbWriteBad
      | some o =>
        if mapped o = false then (s.flag SYS_TROUBLE_UNMAPPED).mbWriteBad
        else if s.mbWritable o then s.writeReg .mgmt o (beAt bs 5 4)
        else (s.epWrite o).mbDenied.mbWriteBad

/-! ## The debug transport (R431) -/

/-- A folio is in FOLIO_MASK of the session, or the state is KERNEL or higher. -/
def State.debugFolio (s : State) (f : Nat) : Bool :=
  decide (3 ≤ s.debugCode) || (decide (s.debugCode = 2) && bitAt (s.rd LCS_DEBUG_FOLIOS) f)

/-- An access on the debug transport (R431). What lies in the cores (traces, halts, steps, contexts, scan chains) changes nothing
that this model holds (R434): such an access is carried out, or refused. -/
def State.debugAccess (s : State) (a : DbgAcc) : State :=
  s.live (fun s =>
    let need (b : Bool) (t : State) : State := if b then t else s.debugRefused
    match a with
    | .readReg o => if mapped o.toNat then s.readReg .debug o.toNat else s.unmapped .debug o.toNat false
    | .writeReg o v => if mapped o.toNat then s.writeReg .debug o.toNat v.toNat else s.unmapped .debug o.toNat true
    | .trace => need (decide (1 ≤ s.debugCode)) s
    | .context f => need (s.debugFolio f.val) s
    | .readMemory f addr n =>
      match s.window f.val addr.toNat n.val false with
      | some d => need (s.debugFolio f.val) { s with lastRead := s.dramGet d n.val }
      | none => s.debugRefused
    | .writeMemory f addr bs =>
      match s.window f.val addr.toNat bs.length true with
      | some d => need (s.debugFolio f.val) (s.dramWrite d bs)
      | none => s.debugRefused
    | .kernel => need (decide (3 ≤ s.debugCode)) s
    | .kernelRead _ addr n =>
      match s.kernelWindow addr.toNat n.val false with
      | some d => need (decide (3 ≤ s.debugCode)) { s with lastRead := s.dramGet d n.val }
      | none => s.debugRefused
    | .kernelWrite _ addr bs =>
      match s.kernelWindow addr.toNat bs.length true with
      | some d => need (decide (3 ≤ s.debugCode)) (s.dramWrite d bs)
      | none => s.debugRefused
    | .scan => need (decide (s.debugCode = 4)) s)

end Sys2Proof.Machine
end

