-- ==== Sys2Proof/Machine/RowOps.lean ====
section
/-! DEFINITION. What single rows of the table do over the operations of their block: writes that only some agents may make, loads
from the apertures, and the ends of runs, verdicts and transmissions. -/

namespace Sys2Proof.Machine

open Sys2Proof Reg

/-! ## Access of single rows -/

/-- A write of one of FOL_F_CTRL's host-only bits for folio `f` (R155, R176, R177). The folio itself reaches its FOL_F_CTRL for
YIELD alone: its write of a host-only bit has no effect. -/
def State.admitFolCtrl (s : State) (c : Instr) (who : Agent) (f : Nat) (act : State → State) : State :=
  match who with
  | .folio n => if n.val = f ∧ f ≠ 0 then s else s.allow c who (0x71000 + 64 * f) true act
  | _ => s.allow c who (0x71000 + 64 * f) true act

/-- Token submission, which the debug transport may do in every debug state (R431). -/
def State.admitToken (s : State) (c : Instr) (who : Agent) (o : Nat) (act : State → State) : State :=
  match who with
  | .debug => s.live act
  | _ => s.allow c who o false act

/-- A byte or halfword store is ignored and sets SIZE, where the agent may write the register at all (R155, R483). -/
def State.narrowStore (s : State) (c : Instr) (who : Agent) (o : Nat) : State :=
  let own (n : Nat) : Bool := decide (o = 0x4100C + 64 * n ∨ o = 0x41004 + 64 * n ∨ o = 0x71000 + 64 * n ∨ o = 0x71014 + 64 * n ∨
    o = 0x71018 + 64 * n)
  match who with
  | .folio n => if own n.val then s.live (fun s => s.flag SYS_TROUBLE_SIZE) else s.allow c who o false (fun s => s.flag SYS_TROUBLE_SIZE)
  | .kernel p => s.live (fun s => if kernelReaches p.val o then s.flag SYS_TROUBLE_SIZE else s)
  | _ => s.allow c who o false (fun s => s.flag SYS_TROUBLE_SIZE)

/-- FOL_P_KFAULT of pair `p`, writable only from that pair's M-mode or HS-mode (R174, R490). -/
def State.kfaultWrite (s : State) (c : Instr) (who : Agent) (p f code : Nat) : State :=
  match who with
  | .kernel q => s.live (fun s => if q.val = p ∧ s.fenced who = false then s.kernelFault p f code else s)
  | _ => s.allow c who (0x7080C + 16 * p) false id

/-- A write of READ to a block's table window (R485). A block without a window has no such field. -/
def State.tableRead (s : State) (c : Instr) (who : Agent) (b : Block) (id i : Nat) : State :=
  match windows.find? (fun w => decide (Block.ofOffset w.ctrl = some b)) with
  | none => s
  | some w => s.allow c who w.ctrl false (fun s => ((s.wr w.id id).wr w.index i).windowRead w)

/-! ## The folio physical map (R153-R155) -/

/-- Whether a staging bank takes the stores of a folio (R153): while a run that uses it is OPEN, or SQUASHED and still executing; of a
background folio except from a SEAL until the release of that batch. -/
def State.bankOpen (s : State) (f b : Nat) : Bool :=
  if s.folioBg f then !(s.folio f).cycs.any (fun c => c.st == 2)
  else (s.folio f).cycs.any (fun c => decide (c.cycle % 2 = b) && (c.st == 1 || (c.st == 4 && c.executing)))

/-- The offsets of `n` bytes at `a` that lie whole in an aperture. -/
def inAperture (a n base size : Nat) : Bool := decide (base ≤ a) && decide (a + n ≤ base + size)

/-- What a folio may do at an address: nothing, loads, or loads and stores (R153). -/
inductive Reach where
  | none | read | write
  deriving DecidableEq, Repr

/-- Whether a reach covers an access; no aperture grants a fetch. -/
def Reach.covers (r : Reach) (acc : MemAcc) : Bool :=
  match r, acc with
  | .none, _ => false
  | .read, .load => true
  | .read, .badLoad => true
  | .write, .load => true
  | .write, .badLoad => true
  | .write, .store => true
  | _, _ => false

/-- The bytes of a folio's ring of 2^`l` descriptors; 0 for none (R153, R157). -/
def ringBytes (l : Nat) : Nat := if l = 0 then 0 else 32 * 2 ^ l

/-- The aperture of R153 that holds `n` bytes at `a`, as what the folio may do there; none outside the apertures. -/
def State.aperture (s : State) (f a n : Nat) : Option Reach :=
  let q := s.quireSlot f
  let bank (b : Nat) : Reach := if s.bankOpen f b then .write else .read
  if inAperture a n 0x10000000 0x10000 then some (bank 0)
  else if inAperture a n 0x10010000 0x10000 then some (bank 1)
  else if inAperture a n 0x11000000 q then some .write
  else if inAperture a n 0x11100000 q ∨ inAperture a n 0x11200000 q then some .read
  else if inAperture a n 0x12000000 (ringBytes (Ent.PLC_RX_LOG2.of (s.plc f))) then some .write
  else if inAperture a n 0x12100000 (ringBytes (Ent.PLC_TX_LOG2.of (s.plc f))) then some .write
  else if f = 0 ∧ inAperture a n 0x18000000 0x200000 = true then
    some (if inAperture (a % 0x10000) n 8 8 then .write else .read)
  else if inAperture a n 0x48000000 0x8000000 ∨ inAperture a n 0x50000000 0x4000000 then some .read
  else none

/-- The registers that folio `n` may write: the fields of R155; folio 0 writes them all. -/
def folioWrites (n o : Nat) : Bool :=
  decide (n = 0 ∨ o = 0x41004 + 64 * n ∨ o = 0x4100C + 64 * n ∨ o = 0x71000 + 64 * n ∨ o = 0x71014 + 64 * n ∨ o = 0x71018 + 64 * n)

/-- Whether the folio's memory windows grant an access (R154, R158). -/
def State.windowGrants (s : State) (f : Nat) (acc : MemAcc) (a n : Nat) : Bool :=
  match acc with
  | .fetch => s.windowExec f a n
  | .store => (s.window f a n true).isSome
  | _ => (s.window f a n false).isSome

/-- The cause of the fault that an access by a folio raises, if it raises one (R153-R155, R174): 1 WINDOW, 2 PROV_VIEW, 3 REG_ACCESS,
and 5 ECC for a permitted load that meets an uncorrectable memory error. -/
def State.accessCause (s : State) (f : Nat) (acc : MemAcc) (a n : Nat) : Option Nat :=
  let judge (ok : Bool) (cause : Nat) : Option Nat :=
    if ok then (if acc = .badLoad then some 5 else none) else some cause
  if inAperture a n 0x40000000 0x8000000 then
    if acc = .load ∨ acc = .badLoad then judge (Ent.PLC_PROV.on (s.plc f)) 2 else some 1
  else if inAperture a n 0xF0000000 0x1000000 then
    match acc with
    | .fetch => some 1
    | .store => judge (folioWrites f (a % 0x1000000)) 3
    | _ => judge (folioReads f (a % 0x1000000)) 3
  else match s.aperture f a n with
    | some r => judge (r.covers acc) 1
    | none => judge (s.windowGrants f acc a n) 1

/-- An access of the folio that runs on its pair is checked at the moment of the access, and a fault is taken (R153, R154, R175). -/
def State.folioAccess (s : State) (f : Nat) (acc : MemAcc) (a n epc : Nat) : State :=
  if s.folSt f ≠ 3 then s
  else match s.accessCause f acc a n with
    | some c => s.folFault f c a epc
    | none => s

/-! ## Ingest and the Clasp -/

/-- The verdict of an epoch (R65, R77, R81): the FCS result, and for a copy with a tag the verifier's, which a key lost since
placement turns into ORPHANED. -/
def State.svVerdict (s : State) (epoch : Nat) : State :=
  match s.svPending epoch with
  | none => s
  | some p =>
    if p.fcsOk = false then (s.giveVerdict p 1).afterIngest
    else if p.keySlot = none then (s.giveVerdict p 0).afterIngest
    else if p.unit = none ∨ s.clk 16 = false then s
    else if s.svKeyLost p then ((s.giveVerdict p 3).flag SVI_TROUBLE_ORPHANED).afterIngest
    else
      let (ok, s) := s.keyUse (p.keySlot.getD 0)
      if ok then (s.giveVerdict p (if p.macOk then 0 else 2)).afterIngest
      else (((s.giveVerdict p 3).flag SVI_TROUBLE_ORPHANED).afterIngest).svOrphans

/-- An epoch without a verdict 60 µs after its placement (R79). -/
def State.epochTimeout (s : State) (epoch : Nat) : State :=
  match s.svPending epoch with
  | none => s
  | some p => if p.placedAt + 60000 ≤ s.now then (s.giveVerdict p 4).afterIngest else s

/-- A load of a ring slot by a folio (R85, R89, R90): the slot in the view, and the report to the Clasp. A load from the provisional
view without the permission is a folio fault (R154). -/
def State.ringLoad (s : State) (f i slot : Nat) (confirmed : Bool) : State :=
  if s.folSt f = 7 then s
  else if !confirmed && !Ent.PLC_PROV.on (s.plc f) then
    s.folFaultPc f 2 (0x40000000 + i * 0x40000 + slot * 0x100)
  else
    let (w, e) := s.ringView i slot confirmed
    let s : State := { s with lastRead := w }
    let s := if Ent.SLOT_STATE.of w = 6 then (s.bump SVI_EXPIRED_READ).flag SVI_TROUBLE_EXPIRED_READ else s
    match e with
    | some e => s.loadReport f i e (decide (Ent.SLOT_STATE.of w = 1))
    | none => s

/-- A load of a filter output by a folio (R131): nothing is reported to the Clasp. -/
def State.filterLoad (s : State) (f i slot : Nat) : State :=
  if s.folSt f = 7 then s else
  let (w, expired) := s.filterRead i slot
  let s : State := { s with lastRead := w }
  if expired then (s.bump FLT_EXPIRED_READ).flag FLT_TROUBLE_EXPIRED_READ else s

/-- A verifier unit fails (R84): a test on demand ends, the unit is retired, and a proposal about it settles. -/
def State.unitDown (s : State) (u cause : Nat) : State := ((s.abortUnitTest u).unitFault u cause).hkaFollow s false

/-- An instance is under a test on demand (R461). -/
def State.underTest (s : State) (target inst : Nat) : Bool := s.sys.test.any (fun t => decide (t.1 = target ∧ t.2.1 = inst))

/-- CLS_F_SEAL.SEAL: the run is sealed, and the folio leaves its pair (R100, R162). -/
def State.sealRun (s : State) (f : Nat) (entries : List Nat) (payload quire : List Byte) : State :=
  let (e, s) := s.clsSeal f entries payload quire
  ((s.folSealEnd f e).folTriggers).folRefresh

/-- CLS_F_SEAL.ABANDON. -/
def State.abandonRun (s : State) (f : Nat) : State :=
  let (e, s) := s.clsAbandon f
  ((s.folSealEnd f e).folTriggers).folRefresh

/-! ## Operand fields of command registers -/

/-- FLT_SWITCH with APPLY: the instance and the force (R130). -/
def State.switchCmd (s : State) (i f : Nat) : State := ((s.wr FLT_SWITCH_INSTANCE i).wr FLT_SWITCH_FORCE f).switchForce i f

/-- OP and PAIR of FOL_PAIR_CMD (R185). -/
def State.pairFields (s : State) (op p : Nat) : State := (s.wr FOL_PAIR_CMD_PAIR p).wr FOL_PAIR_CMD_OP op

/-- OP, SRC and SLOT of KEY_OP_CTRL (R418). -/
def State.keyFields (s : State) (op : Nat) (src : Bool) (slot : Nat) : State :=
  ((s.wr KEY_OP_CTRL_OP op).wrB KEY_OP_CTRL_SRC src).wr KEY_OP_CTRL_SLOT slot

/-- LCS_TOKEN_CTRL.GO on a buffer that holds a token of a kind; one of no known kind is submitted as any (R435, R436). -/
def State.tokenSubmit (s : State) (kind : Nat) : State :=
  let k := beAt s.tokenBytes 6 1
  if k = kind ∨ k = 0 ∨ 3 < k then s.tokenGo else s

/-! ## Transmission -/

/-- A frame that port I0 has sent reaches its folios' rings, CTL and the time base (R167, R225, R289). -/
def State.i0Arrive (s : State) (c : Copy) : State :=
  let s := s.i0Deliver c
  let s := if c.toTim then
      s.onTim (fun t => { t with inbox := t.inbox ++ [{ bytes := c.bytes, inPort := c.inPort, rxTs := c.rxTs, resid := c.inResid }] })
    else s
  if c.toCtl then s.onCtl (fun e => { e with inbox := e.inbox ++ [(c.bytes, c.inPort)] }) else s

/-- The frame that a port is sending has left (R288, R289). -/
def State.txComplete (s : State) (p : Nat) : State :=
  if p = 18 then ((s.i0Sent.foldl State.i0Arrive s).txDone p).takeRingFaults else (s.ptpSent p).txDone p

end Sys2Proof.Machine
end

