-- ==== Sys2Proof/Machine/Bnd.lean ====
section
/-! DEFINITION. Commands and events of the Binding loader: one meaning a row of the table. -/

namespace Sys2Proof.Machine

open Sys2Proof Reg

/-- LOAD (R49): A write of BND_CTRL.LOAD starts a full load from SRC at the FETCH phase. -/
def execLoad (who : Agent) (src : Fin 4) (s : State) : Host.Outcome State Fault Refusal :=
  .next (s.allow (.load who src) who 0x10004 true (fun s => (s.wr BND_CTRL_SRC src.val).bndLoad src.val))

/-- LOAD_FETCH_DONE (R49): When the container has been fetched, the header, directory, digests and slot colophon are checked. -/
def execLoadFetchDone (readError : Bool) (s : State) : Host.Outcome State Fault Refusal :=
  .next (s.liveU 1 (fun s => if s.clk 16 then s.bndFetched readError else s))

/-- LOAD_SIGNATURE_DONE (R49): When the HSS verification completes, the floor is checked, the Endpaper is applied, EP_LOCK sets
and the sections are filled. -/
def execLoadSignatureDone (s : State) : Host.Outcome State Fault Refusal :=
  .next (s.liveU 16 (fun s => s.bndSigned))

/-- LOAD_JOURNAL_ENTRY (R53): Each journal entry is verified and applied as a tip-in, and a failing or torn entry truncates the
journal. -/
def execLoadJournalEntry (s : State) : Host.Outcome State Fault Refusal :=
  .next (s.liveU 16 (fun s => s.bndJournal))

/-- LOAD_CHECK_DONE (R49): When every block has checked its contents, the load reaches READY or fails with CONTENT. -/
def execLoadCheckDone (s : State) : Host.Outcome State Fault Refusal :=
  .next (s.live (fun s => s.bndChecked.ptpRefresh))

/-- LOAD_ABORT (R54): A write of BND_CTRL.ABORT ends a full load in progress with ABORTED. -/
def execLoadAbort (who : Agent) (s : State) : Host.Outcome State Fault Refusal :=
  .next (s.allow (.loadAbort who) who 0x10004 true (fun s => if s.on BND_STATUS_BUSY then s.bndFail 0xF 0 else s))

/-- FLOOR_SET (R52): A write of BND_FLOOR_SET raises the anti-rollback floor, or is refused with FLOOR_REJECT. -/
def execFloorSet (who : Agent) (floor : BitVec 32) (s : State) : Host.Outcome State Fault Refusal :=
  .next (s.allow (.floorSet who floor) who 0x10018 true (fun s => s.floorSet floor.toNat))

/-- STAGE_LEN_WRITE (R56): A write of BND_STAGE_LEN sets the window length and resets the BND_STAGE_WR offset. -/
def execStageLenWrite (who : Agent) (len : BitVec 27) (s : State) : Host.Outcome State Fault Refusal :=
  .next (s.allow (.stageLenWrite who len) who 0x10048 false (fun s => s.stageLen len.toNat))

/-- STAGE_WRITE (R56): A write of BND_STAGE_WR appends four container bytes to the staging window. -/
def execStageWrite (who : Agent) (data : BitVec 32) (s : State) : Host.Outcome State Fault Refusal :=
  .next (s.allow (.stageWrite who data) who 0x1004C false (fun s => s.stageWrite data.toNat))

/-- STAGE (R55): The STAGE command starts verification of the staged tip-in container, or is refused with BUSY. -/
def execStage (who : Agent) (s : State) : Host.Outcome State Fault Refusal :=
  .next (s.allow (.stage who) who 0x10050 true (fun s => s.tipStage))

/-- TIPIN_VERIFIED (R56): When tip-in verification and block checks complete, the shadow banks are filled and the state becomes
STAGED, or IDLE on failure. -/
def execTipinVerified (s : State) : Host.Outcome State Fault Refusal :=
  .next (s.liveU 16 (fun s => s.tipVerified))

/-- ARM (R59): The ARM command fixes the target cadence number, or is refused with TARGET. -/
def execArm (who : Agent) (s : State) : Host.Outcome State Fault Refusal :=
  .next (s.allow (.arm who) who 0x10050 true (fun s => s.tipArm))

/-- CONFIRM (R55): The CONFIRM command returns a committed tip-in to IDLE and starts the journal append. -/
def execConfirm (who : Agent) (s : State) : Host.Outcome State Fault Refusal :=
  .next (s.allow (.confirm who) who 0x10050 true (fun s => s.tipConfirm))

/-- TIPIN_JOURNAL_APPENDED (R36): When the journal append completes, the entry's colophon is written and BND_TIP_SEQ advances.
-/
def execTipinJournalAppended (s : State) : Host.Outcome State Fault Refusal :=
  .next (s.live (fun s => s.journalAppended))

/-- REVERT (R55): The REVERT command schedules a revert of a committed tip-in at the next boundary. -/
def execRevert (who : Agent) (s : State) : Host.Outcome State Fault Refusal :=
  .next (s.allow (.revert who) who 0x10050 true (fun s => s.tipRevert))

/-- DISCARD (R55): The DISCARD command abandons a verifying, staged or armed tip-in and clears the shadow banks. -/
def execDiscard (who : Agent) (s : State) : Host.Outcome State Fault Refusal :=
  .next (s.allow (.discard who) who 0x10050 true (fun s => s.tipDiscard))

/-- TIPIN_COMMIT_CHECK (R59): Twenty microseconds before the target boundary, the four commit conditions are checked, and the
commit is deferred if any fails. -/
def execTipinCommitCheck (s : State) : Host.Outcome State Fault Refusal :=
  .next (s.live (fun s => s.commitCheck))

/-- REVERT_TIMEOUT (R55): When REVERT_TIMEOUT cadence cycles pass after a commit without CONFIRM, a revert is scheduled. -/
def execRevertTimeout (s : State) : Host.Outcome State Fault Refusal :=
  .next (s.live (fun s => s.revertTimeout))

/-- PROGRAM (R37): The PROGRAM command verifies the staged full Binding and starts writing it into TARGET_SLOT. -/
def execProgram (who : Agent) (slot : Bool) (s : State) : Host.Outcome State Fault Refusal :=
  .next (s.allow (.program who slot) who 0x10078 true (fun s => s.storeStart 1 (b2n slot)))

/-- ERASE_JOURNAL (R37): The ERASE_JOURNAL command erases the journal of TARGET_SLOT, or is refused for the active slot. -/
def execEraseJournal (who : Agent) (slot : Bool) (s : State) : Host.Outcome State Fault Refusal :=
  .next (s.allow (.eraseJournal who slot) who 0x10078 true (fun s => s.storeStart 2 (b2n slot)))

/-- STORE_WRITE_DONE (R37): When a slot write completes, the colophon MAGIC has been written last and DONE is set. -/
def execStoreWriteDone (s : State) : Host.Outcome State Fault Refusal :=
  .next (s.live (fun s => s.storeWritten))

/-- JOURNAL_ERASE_DONE (R37): When an ERASE_JOURNAL store operation finishes, BUSY clears, DONE sets and the journal count reads
0. -/
def execJournalEraseDone (s : State) : Host.Outcome State Fault Refusal :=
  .next (s.live (fun s => s.journalErased))

end Sys2Proof.Machine
end

