-- ==== Sys2Proof/Machine/Bst.lean ====
section
/-! DEFINITION. Commands and events of the start-up and self-test: one meaning a row of the table. -/

namespace Sys2Proof.Machine

open Sys2Proof Reg

/-- MBIST_DONE (R457): When MBIST ends, its repairs have been made and its failures logged. -/
def execMbistDone (findings : List Finding) (queued : List Bool) (s : State) : Host.Outcome State Fault Refusal :=
  .next (s.live (fun s => s.mbistDone findings queued))

/-- LBIST_DONE (R454): When LBIST ends, the logic signatures have been compared. -/
def execLbistDone (findings : List Finding) (s : State) : Host.Outcome State Fault Refusal :=
  .next (s.live (fun s => s.lbistDone findings))

/-- DDR_TRAINING_DONE (R451): When DDR training completes, the boot can proceed to DECIDE. -/
def execDdrTrainingDone (s : State) : Host.Outcome State Fault Refusal :=
  .next (s.live (fun s => s.onSys (fun y => { y with ddr := true })))

/-- BOOT_DECIDE (R459): At DECIDE, the module holds in the safe state or retires substitutable targets and starts the unseal and
scans. -/
def execBootDecide (s : State) : Host.Outcome State Fault Refusal :=
  .next (s.live (fun s => s.bootDecide))

/-- BIST_TEST_PAIR (R461): BST_CMD with TARGET pair starts a test on demand of a spare pair, or is refused. -/
def execBistTestPair (who : Agent) (inst : Fin 16) (s : State) : Host.Outcome State Fault Refusal :=
  .next (s.allow (.bistTestPair who inst) who 0x140010 true (fun s => s.bistStart 1 inst.val))

/-- BIST_TEST_UNIT (R461): BST_CMD with TARGET verifier unit starts a test on demand of the spare unit, or is refused. -/
def execBistTestUnit (who : Agent) (inst : Fin 16) (s : State) : Host.Outcome State Fault Refusal :=
  .next (s.allow (.bistTestUnit who inst) who 0x140010 true (fun s => s.bistStart 2 inst.val))

/-- BIST_DEMAND_DONE (R461): When a test on demand ends, the instance returns to SPARE or becomes RETIRED. -/
def execBistDemandDone (findings : List Finding) (s : State) : Host.Outcome State Fault Refusal :=
  .next (s.live (fun s => (s.bistDemandDone findings).hkaFollow s false))

end Sys2Proof.Machine
end

