-- ==== Sys2Proof/Machine/Cls.lean ====
section
/-! DEFINITION. Commands and events of the Clasp: one meaning a row of the table. -/

namespace Sys2Proof.Machine

open Sys2Proof Reg

/-- SEAL_RUN (R100): A write of CLS_F_SEAL.SEAL seals the run or closes a background batch after the staged entries are checked.
-/
def execSealRun (who : Agent) (folio : Fin 32) (entries : List Nat) (payload : List Byte) (quire : List Byte) (s : State)
    : Host.Outcome State Fault Refusal :=
  .next (s.admitOwn (.sealRun who folio entries payload quire) who folio.val (0x41004 + 64 * folio.val) (fun s => s.sealRun folio.val entries payload quire))

/-- ABANDON (R100): A write of CLS_F_SEAL.ABANDON ends a SQUASHED run without entries so that its re-run can be dispatched. -/
def execAbandon (who : Agent) (folio : Fin 32) (s : State) : Host.Outcome State Fault Refusal :=
  .next (s.admitOwn (.abandon who folio) who folio.val (0x41004 + 64 * folio.val) (fun s => s.abandonRun folio.val))

/-- CYCLE_RELEASE (R104): A sealed run whose E_MAX the frontier has reached, with its predecessor resolved, is released and
becomes the checkpoint. -/
def execCycleRelease (s : State) : Host.Outcome State Fault Refusal :=
  .next (s.live (fun s => (s.releaseNext.getD s).takeRingFaults.folTriggers.folRefresh))

/-- STALL_TIMEOUT (R110): A sealed run whose E_MAX is still above F 50 µs after its SEAL is squashed with cause STALL. -/
def execStallTimeout (folio : Fin 32) (s : State) : Host.Outcome State Fault Refusal :=
  .next (s.live (fun s => (s.stall folio.val).folTriggers.folRefresh))

end Sys2Proof.Machine
end

