-- ==== Sys2Proof/Machine/Ctl.lean ====
section
/-! DEFINITION. Commands and events of the control objects and interlock answers: one meaning a row of the table. -/

namespace Sys2Proof.Machine

open Sys2Proof Reg

/-- CTL_OPEN (R217): An OPEN command from a register master enters the arrival buffer for the next batch. -/
def execCtlOpen (who : Agent) (cm : Bool) (object : Fin 1024) (s : State) : Host.Outcome State Fault Refusal :=
  .next (s.allow (.ctlOpen who cm object) who (0x160020 + 16 * b2n cm) true (fun s => s.ctlCmdWrite who (b2n cm) object.val 1))

/-- CTL_CLOSE (R217): A CLOSE command from a register master enters the arrival buffer for the next batch. -/
def execCtlClose (who : Agent) (cm : Bool) (object : Fin 1024) (s : State) : Host.Outcome State Fault Refusal :=
  .next (s.allow (.ctlClose who cm object) who (0x160020 + 16 * b2n cm) true (fun s => s.ctlCmdWrite who (b2n cm) object.val 2))

/-- CTL_CANCEL (R218): A CANCEL command from a register master withdraws the master's own held command at the next latch. -/
def execCtlCancel (who : Agent) (cm : Bool) (object : Fin 1024) (s : State) : Host.Outcome State Fault Refusal :=
  .next (s.allow (.ctlCancel who cm object) who (0x160020 + 16 * b2n cm) true (fun s => s.ctlCmdWrite who (b2n cm) object.val 3))

/-- CTL_WAIT_TIMEOUT (R223): A held command not decided within WAIT_MS ends with TIMEOUT. -/
def execCtlWaitTimeout (object : Fin 1024) (s : State) : Host.Outcome State Fault Refusal :=
  .next (s.live (fun s => (s.ctlWaitTimeout object.val).takeRingFaults))

/-- OPERATE_TIMEOUT (R224): When OPERATE_MS runs out, the operate value returns to idle, completing an object without position.
-/
def execOperateTimeout (object : Fin 1024) (s : State) : Host.Outcome State Fault Refusal :=
  .next (s.live (fun s => (s.ctlOperateTimeout object.val).takeRingFaults))

/-- TRAVEL_TIMEOUT (R226): When TRAVEL_MS runs out before the end position, the object ends TRAVEL_FAIL and FAULT is set. -/
def execTravelTimeout (object : Fin 1024) (s : State) : Host.Outcome State Fault Refusal :=
  .next (s.live (fun s => (s.ctlTravelTimeout object.val).takeRingFaults))

/-- POSITION_FRAME (R225): A backplane position GOOSE frame updates the object's position and may complete an execution. -/
def execPositionFrame (s : State) : Host.Outcome State Fault Refusal :=
  .next (s.live (fun s => s.ctlFrame.takeRingFaults))

/-- POSITION_TAL_EXPIRE (R225): When no position frame arrives within timeAllowedToLive, POS_VALID clears and POS_LOST is set.
-/
def execPositionTalExpire (object : Fin 1024) (s : State) : Host.Outcome State Fault Refusal :=
  .next (s.live (fun s => s.ctlTalExpire object.val))

/-- OBJECT_ABORT (R227): CTL_OBJ_CTRL.GO with ABORT ends the object's command with ABORTED and returns the operate value to
idle. -/
def execObjectAbort (who : Agent) (object : Fin 1024) (s : State) : Host.Outcome State Fault Refusal :=
  .next (s.allow (.objectAbort who object) who 0x160040 true (fun s => ((s.wr CTL_OBJ_CTRL_OBJECT object.val).wr CTL_OBJ_CTRL_ABORT 1).ctlAbort object.val |>.takeRingFaults))

/-- IL_QUERY (R232): A query on the interlock answer port is answered from the applied image. -/
def execIlQuery (object : BitVec 12) (parity : Bool) (s : State) : Host.Outcome State Fault Refusal :=
  .next (s.live (fun s => s.ilQuery object.toNat parity))

/-- IL_IMAGE_APPLY (R230): A received interlock image is applied at the second rising edge of IL_CLK after its receipt. The row is such
an edge, with no query on the lines. -/
def execIlImageApply (s : State) : Host.Outcome State Fault Refusal :=
  .next (s.live (fun s => s.ilRise))

/-- IL_CLK_LOSS (R230): When IL_CLK is absent for 1 µs, the image is applied at once and IL_CLK_LOSS is set. -/
def execIlClkLoss (s : State) : Host.Outcome State Fault Refusal :=
  .next (s.live (fun s => s.ilClkLoss))

/-- IL_STALE (R232): When the applied image ages past MAX_AGE_US, the port answers invalid and IL_STALE is set. -/
def execIlStale (s : State) : Host.Outcome State Fault Refusal :=
  .next (s.live (fun s => s.ilAge))

/-- CTL_ENABLE (R317): A write of CTL_CTRL.ENABLE starts command acceptance, and when CTL first executes, its publishers are
accepted with their initial data sets. -/
def execCtlEnable (who : Agent) (en : Bool) (s : State) : Host.Outcome State Fault Refusal :=
  .next (s.allow (.ctlEnable who en) who 0x160004 false (fun s => (s.wrB CTL_CTRL_ENABLE en).ctlFollow))

end Sys2Proof.Machine
end

