-- ==== Sys2Proof/Machine/Evr.lean ====
section
/-! DEFINITION. Commands and events of the event recorder: one meaning a row of the table. -/

namespace Sys2Proof.Machine

open Sys2Proof Reg

/-- RECORD_COMMIT (R327): The recorder commits the next queued record to MRAM, writing the colophon last. -/
def execRecordCommit (s : State) : Host.Outcome State Fault Refusal :=
  .next (s.live (fun s => s.evrCommit.tlogReport))

/-- EVR_SCAN_DONE (R330): When the start-up binary search ends, NEXT is set and START and the waiting records are numbered. -/
def execEvrScanDone (unreadable : Option Nat) (s : State) : Host.Outcome State Fault Refusal :=
  .next (s.live (fun s => if s.decided then (s.evrScanDone unreadable).tlogReport else s))

/-- CURSOR_LOAD (R333): A write of EVR_W_CURSOR_HI loads the window's 64-bit cursor. -/
def execCursorLoad (who : Agent) (win : Fin 2) (high : BitVec 32) (s : State) : Host.Outcome State Fault Refusal :=
  .next (s.allow (.cursorLoad who win high) who (0xF0204 + 0x80 * win.val) false (fun s => s.evrCursorLoad who win.val high.toNat))

/-- EVR_READ (R334): A write of EVR_W_CTRL.READ latches the record at the cursor with its result. -/
def execEvrRead (who : Agent) (win : Fin 2) (uncorrectable : Bool) (s : State) : Host.Outcome State Fault Refusal :=
  .next (s.allow (.evrRead who win uncorrectable) who (0xF0208 + 0x80 * win.val) false (fun s => s.evrRead who win.val uncorrectable))

/-- EVR_CLEAR (R335): A write of EVR_CLEAR_CTRL.GO starts a clear of the region, or refuses it. -/
def execEvrClear (who : Agent) (s : State) : Host.Outcome State Fault Refusal :=
  .next (s.allow (.evrClear who) who 0xF0038 true (fun s => s.evrClear))

/-- EVR_CLEAR_DONE (R336): When the clear front reaches the end of the region, the clear state is cleared. -/
def execEvrClearDone (s : State) : Host.Outcome State Fault Refusal :=
  .next (s.live (fun s => s.evrClearDone))

end Sys2Proof.Machine
end

