-- ==== Sys2Proof/Machine/Fabric.lean ====
section
/-! DEFINITION. Commands and events of the register fabric and management bus: one meaning a row of the table. -/

namespace Sys2Proof.Machine

open Sys2Proof Reg

/-- REGISTER_WRITE (R15): A write to a register field that has no row of its own is applied by type code, and writes to RO and
locked RWL fields are ignored. -/
def execRegisterWrite (who : Agent) (off : BitVec 24) (narrow : Bool) (value : BitVec 32) (s : State) : Host.Outcome State
    Fault Refusal :=
  .next (s.inTurn (.registerWrite who off narrow value) who off.toNat
    (if mapped off.toNat then
      (if narrow then s.narrowStore (.registerWrite who off narrow value) who off.toNat else s.writeReg who off.toNat value.toNat)
     else s.unmapped who off.toNat true))

/-- UNMAPPED_ACCESS (R482): An access to an unmapped offset reads 0 or ignores the write, and sets UNMAPPED unless R155 applies.
-/
def execUnmappedAccess (who : Agent) (off : BitVec 24) (write : Bool) (s : State) : Host.Outcome State Fault Refusal :=
  .next (if mapped off.toNat || s.fenced who then s else s.unmapped who off.toNat write)

/-- LOW_WORD_READ (R10): A read of the low word of a 64-bit pair latches the high word for that requester. A read of any other mapped
register is judged by the same rules (R155, R156, R431) and latches nothing. -/
def execLowWordRead (who : Agent) (off : BitVec 24) (s : State) : Host.Outcome State Fault Refusal :=
  .next (s.inTurn (.lowWordRead who off) who off.toNat (if mapped off.toNat then s.readReg who off.toNat else s))

/-- HKA_DATA_READ (R471): A read of HKA_DATA_LO latches HKA_DATA_HI and the result's TAI words. -/
def execHkaDataRead (who : Agent) (s : State) : Host.Outcome State Fault Refusal :=
  .next (s.inTurn (.hkaDataRead who) who 0x150018 (s.readReg who 0x150018))

/-- TABLE_READ (R485): A write of READ to a block's table window latches the named entry as one snapshot, or sets BAD_ADDR. -/
def execTableRead (who : Agent) (block : Block) (table : BitVec 16) (index : BitVec 16) (s : State) : Host.Outcome State
    Fault Refusal :=
  .next (s.tableRead (.tableRead who block table index) who block table.toNat index.toNat)

/-- CLEAR_COUNTERS (R485): A write of CLEAR_COUNTERS clears the block's counters. -/
def execClearCounters (who : Agent) (block : Block) (inst : Fin 20) (s : State) : Host.Outcome State Fault Refusal :=
  .next (s.allow (.clearCounters who block inst) who (ctrlOffset block inst.val) false (fun s => s.clearCounters block inst.val))

/-- CLEAR_PEAKS (R485): A write of CLEAR_PEAKS clears the block's peak values. -/
def execClearPeaks (who : Agent) (block : Block) (s : State) : Host.Outcome State Fault Refusal :=
  .next (s.allow (.clearPeaks who block) who (ctrlOffset block 0) false (fun s => s.clearPeaks block))

/-- MB_READ (R487): A management-bus READ transaction is checked and carried out, and STATUS, DATA and CRC are returned. -/
def execMbRead (frame : List Byte) (s : State) : Host.Outcome State Fault Refusal :=
  .next (s.inTurn (.mbRead frame) .mgmt (beAt frame 2 3) (s.mbRead frame))

/-- MB_WRITE (R487): A management-bus WRITE transaction is checked and carried out when its CRC byte is acknowledged. -/
def execMbWrite (frame : List Byte) (s : State) : Host.Outcome State Fault Refusal :=
  .next (s.inTurn (.mbWrite frame) .mgmt (beAt frame 2 3) (s.mbWrite frame))

/-- DEBUG_ACCESS (R431): An access on the debug transport is carried out within the state, or refused with DEBUG_ATTEMPT. -/
def execDebugAccess (access : DbgAcc) (s : State) : Host.Outcome State Fault Refusal :=
  .next (s.debugAccess access)

end Sys2Proof.Machine
end

