-- ==== Sys2Proof/Machine/Flt.lean ====
section
/-! DEFINITION. Commands and events of the stream filters and backstop: one meaning a row of the table. -/

namespace Sys2Proof.Machine

open Sys2Proof Reg

/-- FILTER_CONSUME (R122): A filter instance consumes its next delivered position through the CIC, FIR and detector, and writes
its output. -/
def execFilterConsume (inst : Fin 2048) (s : State) : Host.Outcome State Fault Refusal :=
  .next (s.liveU 15 (fun s => s.filterConsume inst.val))

/-- ELEMENT_DELAY_EXPIRE (R138): When a started element's on-count reaches outputs(DELAY), a definite-time element trips. -/
def execElementDelayExpire (elem : Fin 64) (s : State) : Host.Outcome State Fault Refusal :=
  .next (s.liveU 15 (fun s => s.consumeIf (s.elemInput elem.val) (tripsIn elem.val 1)))

/-- ELEMENT_RESET_TIME_EXPIRE (R138): When RESET_TIME passes without a restart under definite reset, the integrator is cleared.
-/
def execElementResetTimeExpire (elem : Fin 64) (s : State) : Host.Outcome State Fault Refusal :=
  .next (s.liveU 15 (fun s => s.consumeIf (s.elemInput elem.val) (resetsIn elem.val)))

/-- ELEMENT_INTEGRATOR_FULL (R138): When an inverse-time integrator reaches 2^48 with the minimum time met, the element trips.
-/
def execElementIntegratorFull (elem : Fin 64) (s : State) : Host.Outcome State Fault Refusal :=
  .next (s.liveU 15 (fun s => s.consumeIf (s.elemInput elem.val) (tripsIn elem.val 2)))

/-- ELEMENT_FREEZE_EXPIRE (R139): An element frozen for longer than INV_HOLD resets and releases an unlatched trip. -/
def execElementFreezeExpire (elem : Fin 64) (s : State) : Host.Outcome State Fault Refusal :=
  .next (s.liveU 15 (fun s => s.consumeIf (s.elemInput elem.val) (thawsIn elem.val)))

/-- SETTLING_END (R129): After SETTLE_N outputs without a new event, SETTLING clears on the fine path. -/
def execSettlingEnd (inst : Fin 2048) (s : State) : Host.Outcome State Fault Refusal :=
  .next (s.liveU 15 (fun s => s.consumeIf inst.val (settlesIn inst.val)))

/-- SOURCE_SWITCH (R130): After SWITCH_N consecutive positions, an instance switches between sources A and B. -/
def execSourceSwitch (inst : Fin 2048) (s : State) : Host.Outcome State Fault Refusal :=
  .next (s.liveU 15 (fun s => s.consumeIf inst.val (switchesIn inst.val)))

/-- DT_MIN_ON_EXPIRE (R140): When a line's minimum-on timer runs out, the line is recomputed. -/
def execDtMinOnExpire (line : Fin 8) (s : State) : Host.Outcome State Fault Refusal :=
  .next (s.live (fun s => s.minOnExpire line.val))

/-- DT_HOLD_EXPIRE (R116): When a folio DT request's hold time runs out, the request is released. -/
def execDtHoldExpire (folio : Fin 32) (line : Fin 8) (s : State) : Host.Outcome State Fault Refusal :=
  .next (s.live (fun s => s.dtHoldExpire folio.val line.val))

/-- BKST_BLOCK_WRITE (R142): A write of FLT_BKST_BLOCK blocks elements on host command, and a block of a floor element is
refused. -/
def execBkstBlockWrite (who : Agent) (elems : BitVec 64) (s : State) : Host.Outcome State Fault Refusal :=
  .next (s.allow (.bkstBlockWrite who elems) who 0x50020 true (fun s => s.bkstBlock elems.toNat))

/-- BKST_RESET_ELEMENT (R138): A FLT_BKST_RESET write with RESET releases the latched trip of the named element. -/
def execBkstResetElement (who : Agent) (elem : Fin 64) (s : State) : Host.Outcome State Fault Refusal :=
  .next (s.allow (.bkstResetElement who elem) who 0x50038 true (fun s => s.bkstReset false elem.val))

/-- BKST_RESET_ALL (R138): A FLT_BKST_RESET write with ALL and RESET releases every latched trip. -/
def execBkstResetAll (who : Agent) (s : State) : Host.Outcome State Fault Refusal :=
  .next (s.allow (.bkstResetAll who) who 0x50038 true (fun s => s.bkstReset true 0))

/-- SWITCH_FORCE_A (R130): FLT_SWITCH APPLY with FORCE 1 forces the instance onto source A from the next position. -/
def execSwitchForceA (who : Agent) (inst : Fin 2048) (s : State) : Host.Outcome State Fault Refusal :=
  .next (s.allow (.switchForceA who inst) who 0x5003C true (fun s => s.switchCmd inst.val 1))

/-- SWITCH_FORCE_B (R130): FLT_SWITCH APPLY with FORCE 2 forces the instance onto source B from the next position. -/
def execSwitchForceB (who : Agent) (inst : Fin 2048) (s : State) : Host.Outcome State Fault Refusal :=
  .next (s.allow (.switchForceB who inst) who 0x5003C true (fun s => s.switchCmd inst.val 2))

/-- SWITCH_AUTOMATIC (R130): FLT_SWITCH APPLY with FORCE 0 restores automatic switching. -/
def execSwitchAutomatic (who : Agent) (inst : Fin 2048) (s : State) : Host.Outcome State Fault Refusal :=
  .next (s.allow (.switchAutomatic who inst) who 0x5003C true (fun s => s.switchCmd inst.val 0))

/-- FILTER_LOAD (R131): A folio load from the filter aperture returns the output entry, or EXPIRED for an old cycle. -/
def execFilterLoad (folio : Fin 32) (inst : Fin 2048) (slot : Fin 1024) (s : State) : Host.Outcome State Fault Refusal :=
  .next (s.live (fun s => s.filterLoad folio.val inst.val slot.val))

/-- STATE_ECC (R511): An uncorrectable error in filter or element state restarts the instance or resets the element. -/
def execStateEcc (elem : Bool) (index : Fin 2048) (s : State) : Host.Outcome State Fault Refusal :=
  .next (s.liveU 15 (fun s => s.stateEcc elem index.val))

end Sys2Proof.Machine
end

