-- ==== Sys2Proof/Machine/Fol.lean ====
section
/-! DEFINITION. Commands and events of the folios and core pairs: one meaning a row of the table. -/

namespace Sys2Proof.Machine

open Sys2Proof Reg

/-- DISPATCH_DEADLINE (R161): At a folio's dispatch deadline, the folio becomes READY for the cycle. -/
def execDispatchDeadline (folio : Fin 32) (s : State) : Host.Outcome State Fault Refusal :=
  .next (s.live (fun s => s.deadline folio.val))

/-- FOLIO_DISPATCH (R162): A free pair chooses its next run and dispatches the folio, opening the cycle in the Clasp. -/
def execFolioDispatch (pair : Fin 12) (s : State) : Host.Outcome State Fault Refusal :=
  .next (s.liveU (2 + pair.val) (fun s => s.dispatch pair.val))

/-- YIELD (R162): A write of FOL_F_CTRL.YIELD by a background folio gives up the pair. -/
def execYield (who : Agent) (folio : Fin 32) (consumed : List (Nat × Nat)) (s : State) : Host.Outcome State Fault Refusal
    :=
  .next (s.admitOwn (.yield who folio consumed) who folio.val (0x71000 + 64 * folio.val) (fun s => (if folio.val = 0 then consumed.foldl (fun s c => s.svcConsume c.1 c.2) s else s).yieldPair folio.val))

/-- BACKGROUND_TIMESLICE (R162): After 1 ms of continuous running, a background folio gives way to its equal-priority peers. -/
def execBackgroundTimeslice (pair : Fin 12) (s : State) : Host.Outcome State Fault Refusal :=
  .next (s.liveU (2 + pair.val) (fun s => s.timeslice pair.val))

/-- RUN_BUDGET_EXPIRE (R164): A run reaching BUDGET_US is stopped and raises a folio fault with cause BUDGET. -/
def execRunBudgetExpire (folio : Fin 32) (s : State) : Host.Outcome State Fault Refusal :=
  .next (s.live (fun s => s.budgetExpire folio.val))

/-- FOLIO_FAULT (R175): A folio access fault stops the folio, writes a fault record and applies FAULT_ACTION. The access is judged
against the folio's map (R153-R155); one that the map allows faults nothing. -/
def execFolioFault (folio : Fin 32) (acc : MemAcc) (len : Fin 9) (addr : BitVec 64) (epc : BitVec 64) (s : State) :
    Host.Outcome State Fault Refusal :=
  .next (s.live (fun s => s.folioAccess folio.val acc addr.toNat len.val epc.toNat))

/-- KERNEL_FAULT (R174): A write of FOL_P_KFAULT.GO raises a folio fault with a KERNEL cause. -/
def execKernelFault (who : Agent) (pair : Fin 12) (folio : Fin 32) (code : BitVec 8) (s : State) : Host.Outcome State
    Fault Refusal :=
  .next (s.kfaultWrite (.kernelFault who pair folio code) who pair.val folio.val code.toNat)

/-- FOLIO_RESET (R176): A host RESET discards the folio's unresolved cycles and reinitialises it. -/
def execFolioReset (who : Agent) (folio : Fin 32) (s : State) : Host.Outcome State Fault Refusal :=
  .next (s.admitFolCtrl (.folioReset who folio) who folio.val (fun s => s.hostReset folio.val))

/-- FOLIO_RESET_DONE (R176): When the reset steps complete, the folio enters WAITING. -/
def execFolioResetDone (folio : Fin 32) (s : State) : Host.Outcome State Fault Refusal :=
  .next (s.live (fun s => s.resetDone folio.val))

/-- FOLIO_HALT (R177): A host HALT halts the folio until RESUME. -/
def execFolioHalt (who : Agent) (folio : Fin 32) (s : State) : Host.Outcome State Fault Refusal :=
  .next (s.admitFolCtrl (.folioHalt who folio) who folio.val (fun s => s.haltCmd who folio.val))

/-- FOLIO_RESUME (R177): A host RESUME resets a halted folio, placing it first if it has no pair. -/
def execFolioResume (who : Agent) (folio : Fin 32) (s : State) : Host.Outcome State Fault Refusal :=
  .next (s.admitFolCtrl (.folioResume who folio) who folio.val (fun s => s.hostResume folio.val))

/-- RX_TAIL_WRITE (R167): A write of FOL_F_RX_PTR.TAIL posts free receive buffers. -/
def execRxTailWrite (who : Agent) (folio : Fin 32) (tail : BitVec 16) (descs : List Nat) (s : State) : Host.Outcome State
    Fault Refusal :=
  .next (s.admitOwn (.rxTailWrite who folio tail descs) who folio.val (0x71014 + 64 * folio.val) (fun s => s.rxTail folio.val tail.toNat descs))

/-- TX_TAIL_WRITE (R167): A write of FOL_F_TX_PTR.TAIL posts transmit descriptors, held until release or passed at once for a
background folio. -/
def execTxTailWrite (who : Agent) (folio : Fin 32) (tail : BitVec 16) (descs : List Nat) (s : State) : Host.Outcome State
    Fault Refusal :=
  .next (s.admitOwn (.txTailWrite who folio tail descs) who folio.val (0x71018 + 64 * folio.val) (fun s => s.txTail folio.val tail.toNat descs))

/-- LOCKSTEP_MISMATCH (R178): A lockstep mismatch retires and fences the pair, makes its runs LOST and starts substitution. -/
def execLockstepMismatch (pair : Fin 12) (s : State) : Host.Outcome State Fault Refusal :=
  .next (s.liveU (2 + pair.val) (fun s => ((s.abortPairTest pair.val).mismatch pair.val).hkaFollow s false))

/-- SUBSTITUTION_DONE (R179): When substitution or fallback completes, the moved folios are served on the new pair and a notice
is written. -/
def execSubstitutionDone (s : State) : Host.Outcome State Fault Refusal :=
  .next (s.live (fun s => s.subDone))

/-- PAIR_RETIRE (R185): FOL_PAIR_CMD with OP RETIRE retires an unused spare pair. -/
def execPairRetire (who : Agent) (pair : Fin 16) (s : State) : Host.Outcome State Fault Refusal :=
  .next (s.allow (.pairRetire who pair) who 0x70010 true (fun s => ((s.pairFields 1 pair.val).pairRetire pair.val).hkaFollow s true))

/-- PAIR_RESTORE (R185): FOL_PAIR_CMD with OP RESTORE starts the self-test of a retired pair. -/
def execPairRestore (who : Agent) (pair : Fin 16) (s : State) : Host.Outcome State Fault Refusal :=
  .next (s.allow (.pairRestore who pair) who 0x70010 true (fun s => (s.pairFields 2 pair.val).pairRestore pair.val))

/-- PAIR_RESTORE_DONE (R185): When the RESTORE test ends, the pair becomes SPARE or stays RETIRED, with a notice. -/
def execPairRestoreDone (pass : Bool) (s : State) : Host.Outcome State Fault Refusal :=
  .next (s.live (fun s => s.pairRestoreDone pass))

/-- MIGRATE (R184): FOL_PAIR_CMD with OP MIGRATE schedules the planned move of a pair's folios, or is refused with NO_PAIR. -/
def execMigrate (who : Agent) (pair : Fin 16) (s : State) : Host.Outcome State Fault Refusal :=
  .next (s.allow (.migrate who pair) who 0x70010 true (fun s => (s.pairFields 3 pair.val).migrate pair.val))

/-- MIGRATION_MOVE (R184): Once no run is OPEN on the migrating pair, its folios are moved and the pair is retired. -/
def execMigrationMove (s : State) : Host.Outcome State Fault Refusal :=
  .next (s.live (fun s => s.migrateMove.hkaFollow s true))

end Sys2Proof.Machine
end

