-- ==== Sys2Proof/Machine/Gth.lean ====
section
/-! DEFINITION. Commands and events of the gathering engine: one meaning a row of the table. -/

namespace Sys2Proof.Machine

open Sys2Proof Reg

/-- POSITION_CAPTURE (R342): Once every analogue source is delivered for a position, its record is written to the capture ring.
-/
def execPositionCapture (defn : Nat) (s : State) : Host.Outcome State Fault Refusal :=
  .next (s.live (fun s => s.gthCapture defn))

/-- HEAD_FILLED (R348): When HEAD positions have been written since the fill start, the definition becomes ARMED. -/
def execHeadFilled (defn : Nat) (s : State) : Host.Outcome State Fault Refusal :=
  .next (s.live (fun s => s.headFilled defn))

/-- SEQUENCER_EVAL (R345): Once a position is captured and its filter inputs are written, the sequencer is evaluated and may
offer a trigger. -/
def execSequencerEval (s : State) : Host.Outcome State Fault Refusal :=
  .next (s.live (fun s => s.sequencerEval))

/-- GATHERING_COMPLETE (R355): When position j + TAIL − 1 is captured, the measurements and trailer are written. -/
def execGatheringComplete (defn : Nat) (s : State) : Host.Outcome State Fault Refusal :=
  .next (s.live (fun s => s.gatheringComplete defn))

/-- GUTTER_END (R348): When GUTTER positions have been captured, the definition becomes ARMED. -/
def execGutterEnd (defn : Nat) (s : State) : Host.Outcome State Fault Refusal :=
  .next (s.live (fun s => s.gutterEnd defn))

/-- GAP_END (R352): Once 64 KiB plus P bytes are free, a gap record is written and capture resumes. -/
def execGapEnd (defn : Nat) (s : State) : Host.Outcome State Fault Refusal :=
  .next (s.live (fun s => s.gapEnd defn))

/-- CAPTURE_RESUME (R348): A PAUSED definition returns to FILLING once enough room is free. -/
def execCaptureResume (defn : Nat) (s : State) : Host.Outcome State Fault Refusal :=
  .next (s.live (fun s => s.captureResume defn))

/-- GATHERING_STORED (R354): When a drained gathering's trailer colophon is written, the gathering is stored. -/
def execGatheringStored (s : State) : Host.Outcome State Fault Refusal :=
  .next (s.liveU 17 (fun s => s.gatheringStored))

/-- GTH_ENABLE (R348): A write of GTH_CTRL.ENABLE starts or stops capture and the sequencers. -/
def execGthEnable (who : Agent) (en : Bool) (s : State) : Host.Outcome State Fault Refusal :=
  .next (s.allow (.gthEnable who en) who 0x100004 false (fun s => s.gthEnable en))

/-- HOST_EN_WRITE (R351): A write of GTH_CTRL.HOST_EN validates the host ring, or is refused with BAD_BUF. -/
def execHostEnWrite (who : Agent) (en : Bool) (s : State) : Host.Outcome State Fault Refusal :=
  .next (s.allow (.hostEnWrite who en) who 0x100004 false (fun s => s.hostEn en))

/-- HOST_CONSUMED_WRITE (R351): A write of GTH_HOST_CONSUMED by the Supervisor frees room in the host ring and lets a stalled
host channel resume. -/
def execHostConsumedWrite (who : Agent) (consumed : BitVec 32) (s : State) : Host.Outcome State Fault Refusal :=
  .next (s.allow (.hostConsumedWrite who consumed) who 0x100040 false (fun s => (s.wr GTH_HOST_CONSUMED consumed.toNat).hostRun))

/-- DELETE_UPTO (R353): GTH_STORE_CMD with OP DELETE_UPTO deletes stored gatherings up to a sequence number. -/
def execDeleteUpto (who : Agent) (s : State) : Host.Outcome State Fault Refusal :=
  .next (s.allow (.deleteUpto who) who 0x100020 true (fun s => s.storeCmd 1))

/-- READ_TO_HOST (R353): GTH_STORE_CMD with OP READ_TO_HOST copies a stored gathering into the host ring. -/
def execReadToHost (who : Agent) (s : State) : Host.Outcome State Fault Refusal :=
  .next (s.allow (.readToHost who) who 0x100020 true (fun s => s.storeCmd 2))

/-- GTH_STORE_CMD_DONE (R353): When a DELETE_UPTO or READ_TO_HOST store command finishes, RESULT is written and DONE sets. -/
def execGthStoreCmdDone (s : State) : Host.Outcome State Fault Refusal :=
  .next (s.liveU 17 (fun s => s.storeCmdDone))

/-- NAND_WINDOW_READ (R353): A write of GTH_NW_CTRL.READ latches 64 bytes of a stored gathering. -/
def execNandWindowRead (who : Agent) (uncorrectable : Bool) (s : State) : Host.Outcome State Fault Refusal :=
  .next (s.allow (.nandWindowRead who uncorrectable) who 0x10007C false (fun s => s.nandRead uncorrectable))

/-- SEQUENCER_FORCE (R345): A write of GTH_S_CTRL.FORCE is seen by the sequencer's next evaluation. -/
def execSequencerForce (who : Agent) (seq : Fin 16) (s : State) : Host.Outcome State Fault Refusal :=
  .next (s.allow (.sequencerForce who seq) who (0x100800 + 32 * seq.val) true (fun s => s.sequencerForce seq.val))

/-- SEQUENCER_RESET (R345): A write of GTH_S_CTRL.RESET returns the sequencer to state 0 at its next evaluation. -/
def execSequencerReset (who : Agent) (seq : Fin 16) (s : State) : Host.Outcome State Fault Refusal :=
  .next (s.allow (.sequencerReset who seq) who (0x100800 + 32 * seq.val) true (fun s => s.sequencerReset seq.val))

/-- STORE_SCAN_DONE (R354): When the start-up scan of the store index ends, torn gatherings have been reclaimed. -/
def execStoreScanDone (s : State) : Host.Outcome State Fault Refusal :=
  .next (s.liveU 17 (fun s => if s.decided then s.storeScanDone else s))

end Sys2Proof.Machine
end

