-- ==== Sys2Proof/Machine/Hka.lean ====
section
/-! DEFINITION. Commands and events of the housekeeping: one meaning a row of the table. -/

namespace Sys2Proof.Machine

open Sys2Proof Reg

/-- ADC_SWEEP (R470): Every SWEEP_MS, the sequencer converts each channel in MASK and feeds the monitors. -/
def execAdcSweep (values : List Int) (s : State) : Host.Outcome State Fault Refusal :=
  .next (s.live (fun s => s.sweep values))

/-- ADC_CONVERT (R470): HKA_CONV_CTRL.GO with URGENT 0 queues a normal host conversion. -/
def execAdcConvert (who : Agent) (channel : Fin 16) (s : State) : Host.Outcome State Fault Refusal :=
  .next (s.allow (.adcConvert who channel) who 0x150010 true (fun s => s.convGo channel.val false))

/-- ADC_CONVERT_URGENT (R470): HKA_CONV_CTRL.GO with URGENT 1 starts a conversion ahead of the sweep. -/
def execAdcConvertUrgent (who : Agent) (channel : Fin 16) (s : State) : Host.Outcome State Fault Refusal :=
  .next (s.allow (.adcConvertUrgent who channel) who 0x150010 true (fun s => s.convGo channel.val true))

/-- ADC_RESULT (R471): A finished host conversion writes HKA_DATA, replacing an unread result with OVERRUN set. -/
def execAdcResult (value : BitVec 32) (s : State) : Host.Outcome State Fault Refusal :=
  .next (s.liveU 17 (fun s => s.convResult value.toNat))

/-- AGEING_MEASURE (R472): Once an hour, the ageing monitors are measured and may raise proposals. -/
def execAgeingMeasure (ppm : List Nat) (nand : Nat) (s : State) : Host.Outcome State Fault Refusal :=
  .next (s.live (fun s => s.ageing ppm nand))

/-- LIFE_ACCRUE (R473): Once a minute, thermal life accrues from the board temperature. -/
def execLifeAccrue (s : State) : Host.Outcome State Fault Refusal :=
  .next (s.live (fun s => s.lifeAccrue))

/-- LIFE_COMMIT (R473): Once an hour, the thermal-life total is committed to MRAM. -/
def execLifeCommit (s : State) : Host.Outcome State Fault Refusal :=
  .next (s.live (fun s => s.lifeCommit))

/-- ECC_CORRECTED (R474): A corrected memory error is counted in its monitor's window and address list. -/
def execEccCorrected (monitor : Fin 32) (target : Nat) (inst : Nat) (addr : Nat) (s : State) : Host.Outcome State Fault
    Refusal :=
  .next (s.live (fun s => s.eccCorrected monitor.val target inst addr))

/-- ECC_WINDOW_END (R474): At the end of each 24-hour window, the ECC counts are closed and may raise proposals. -/
def execEccWindowEnd (s : State) : Host.Outcome State Fault Refusal :=
  .next (s.live (fun s => s.eccWindow))

/-- SPARE_DEVICE (R478): HKA_CMD with OP SPARE_DEVICE starts rebuilding a DRAM device onto the rank's spare. -/
def execSpareDevice (who : Agent) (rank : Fin 4) (device : Fin 32) (s : State) : Host.Outcome State Fault Refusal :=
  .next (s.allow (.spareDevice who rank device) who 0x150050 true (fun s => s.spareDevice rank.val device.val))

/-- SPARE_REBUILD_DONE (R478): When the rebuild completes, the new mapping is committed to MRAM. -/
def execSpareRebuildDone (s : State) : Host.Outcome State Fault Refusal :=
  .next (s.liveU 17 (fun s => s.rebuildDone))

/-- QUEUE_REPAIR (R478): HKA_CMD with OP QUEUE_REPAIR records the proposal's address for the next MBIST. -/
def execQueueRepair (who : Agent) (prop : Fin 16) (s : State) : Host.Outcome State Fault Refusal :=
  .next (s.allow (.queueRepair who prop) who 0x150050 true (fun s => s.queueRepair prop.val))

/-- DISMISS (R478): HKA_CMD with OP DISMISS sets the proposal DISMISSED. -/
def execDismiss (who : Agent) (prop : Fin 16) (s : State) : Host.Outcome State Fault Refusal :=
  .next (s.allow (.dismiss who prop) who 0x150050 true (fun s => s.dismiss prop.val))

/-- PROPOSAL_REMIND (R478): REMIND_DAYS after a dismissal, the monitor raises the proposal again. -/
def execProposalRemind (monitor : Fin 32) (s : State) : Host.Outcome State Fault Refusal :=
  .next (s.live (fun s => s.remind monitor.val))

end Sys2Proof.Machine
end

