-- ==== Sys2Proof/Machine/Key.lean ====
section
/-! DEFINITION. Commands and events of the key store: one meaning a row of the table. -/

namespace Sys2Proof.Machine

open Sys2Proof Reg

/-- UNSEAL_DONE (R390): When unsealing completes, the key store reads READY. -/
def execUnsealDone (failed : List Nat) (s : State) : Host.Outcome State Fault Refusal :=
  .next (s.live (fun s => if s.decided then s.unseal failed else s))

/-- UPDATE (R403): KEY_OP_CTRL with OP UPDATE checks an update message and commits it, or refuses it. -/
def execUpdate (who : Agent) (src : Bool) (slot : Fin 1024) (s : State) : Host.Outcome State Fault Refusal :=
  .next (s.allow (.update who src slot) who 0x120030 true (fun s => (s.keyFields 1 src slot.val).keyStart s.lcs.log.length))

/-- VERIFY (R418): KEY_OP_CTRL with OP VERIFY checks an HSS signature against the named slot. -/
def execVerify (who : Agent) (src : Bool) (slot : Fin 1024) (s : State) : Host.Outcome State Fault Refusal :=
  .next (s.allow (.verify who src slot) who 0x120030 true (fun s => (s.keyFields 2 src slot.val).keyStart s.lcs.log.length))

/-- ATTEST (R410): KEY_OP_CTRL with OP ATTEST builds and signs an attestation statement. -/
def execAttest (who : Agent) (src : Bool) (slot : Fin 1024) (s : State) : Host.Outcome State Fault Refusal :=
  .next (s.allow (.attest who src slot) who 0x120030 true (fun s => (s.keyFields 3 src slot.val).keyStart s.lcs.log.length))

/-- PUBKEY (R409): KEY_OP_CTRL with OP PUBKEY outputs the attestation public key. -/
def execPubkey (who : Agent) (src : Bool) (slot : Fin 1024) (s : State) : Host.Outcome State Fault Refusal :=
  .next (s.allow (.pubkey who src slot) who 0x120030 true (fun s => (s.keyFields 4 src slot.val).keyStart s.lcs.log.length))

/-- DELETE (R418): KEY_OP_CTRL with OP DELETE returns an unusable slot to EMPTY with GEN + 1. -/
def execDelete (who : Agent) (src : Bool) (slot : Fin 1024) (s : State) : Host.Outcome State Fault Refusal :=
  .next (s.allow (.delete who src slot) who 0x120030 true (fun s => (s.keyFields 5 src slot.val).keyStart s.lcs.log.length))

/-- KEY_OP_COMPLETE (R418): When a KEY operation finishes, its output and RESULT are written and DONE sets. -/
def execKeyOpComplete (s : State) : Host.Outcome State Fault Refusal :=
  .next (s.liveU 16 (fun s => s.keyComplete.svOrphans))

/-- KEY_OP_WRITE (R418): A write of KEY_OP_WR appends four input bytes to the internal buffer. -/
def execKeyOpWrite (who : Agent) (data : BitVec 32) (s : State) : Host.Outcome State Fault Refusal :=
  .next (s.allow (.keyOpWrite who data) who 0x120050 false (fun s => s.keyWrite data.toNat))

/-- KEY_OP_READ (R418): A read of KEY_OP_RD returns the next four output bytes and advances the offset. -/
def execKeyOpRead (who : Agent) (s : State) : Host.Outcome State Fault Refusal :=
  .next (s.inTurn (.keyOpRead who) who 0x120054 (s.readReg who 0x120054))

/-- ZEROIZE_METADATA_DONE (R413): The metadata of the zeroized slots is rewritten ZEROIZED in MRAM. -/
def execZeroizeMetadataDone (s : State) : Host.Outcome State Fault Refusal :=
  .next (s.live (fun s => s.onKey (fun k => { k with rewrite := false })))

end Sys2Proof.Machine
end

