-- ==== Sys2Proof/Machine/Lcs.lean ====
section
/-! DEFINITION. Commands and events of the lifecycle, debug and tamper: one meaning a row of the table. -/

namespace Sys2Proof.Machine

open Sys2Proof Reg

/-- CHALLENGE_NEW (R436): A write of LCS_CHALLENGE_CTRL.NEW draws a fresh challenge. -/
def execChallengeNew (who : Agent) (s : State) : Host.Outcome State Fault Refusal :=
  .next (s.allow (.challengeNew who) who 0x130030 false (fun s => s.challengeNew))

/-- CHALLENGE_EXPIRE (R436): Ten minutes after it was drawn, the challenge becomes void. -/
def execChallengeExpire (s : State) : Host.Outcome State Fault Refusal :=
  .next (s.live (fun s => if s.on LCS_CHALLENGE_CTRL_LIVE && decide (s.lcs.drawnAt + 600000000000 ≤ s.now) then s.challengeVoid else s))

/-- TOKEN_WRITE (R435): A write of LCS_TOKEN_WR appends four token bytes. -/
def execTokenWrite (who : Agent) (data : BitVec 32) (s : State) : Host.Outcome State Fault Refusal :=
  .next (s.admitToken (.tokenWrite who data) who 0x130038 (fun s => s.tokenWrite data.toNat))

/-- TOKEN_DEBUG (R432): A DEBUG token submitted with LCS_TOKEN_CTRL.GO is checked and opens the named debug state. -/
def execTokenDebug (who : Agent) (s : State) : Host.Outcome State Fault Refusal :=
  .next (s.admitToken (.tokenDebug who) who 0x13003C (fun s => s.tokenSubmit 1))

/-- TOKEN_LIFECYCLE (R420): A LIFECYCLE token is checked and starts the permitted transition. -/
def execTokenLifecycle (who : Agent) (s : State) : Host.Outcome State Fault Refusal :=
  .next (s.admitToken (.tokenLifecycle who) who 0x13003C (fun s => s.tokenSubmit 2))

/-- TOKEN_CLEAR_LOG (R443): A CLEAR_LOG token is checked and empties the tamper log. -/
def execTokenClearLog (who : Agent) (s : State) : Host.Outcome State Fault Refusal :=
  .next (s.admitToken (.tokenClearLog who) who 0x13003C (fun s => s.tokenSubmit 3))

/-- TOKEN_CHECK_DONE (R436): When the HSS check of a submitted token ends, RESULT is written, the counter is raised and the
token takes effect or is refused. -/
def execTokenCheckDone (s : State) : Host.Outcome State Fault Refusal :=
  .next (s.liveU 16 (fun s => s.tokenDone))

/-- LIFECYCLE_BURN_DONE (R421): When the OTP transition record is burnt, the new lifecycle takes effect and debug closes. -/
def execLifecycleBurnDone (s : State) : Host.Outcome State Fault Refusal :=
  .next (s.live (fun s => s.burnDone))

/-- DEBUG_CLOSE (R433): A write of LCS_DEBUG_CTRL.CLOSE closes the debug session. -/
def execDebugClose (who : Agent) (s : State) : Host.Outcome State Fault Refusal :=
  .next (s.allow (.debugClose who) who 0x130048 true (fun s => s.sessionClose 2))

/-- SESSION_EXPIRE (R433): When SESSION_S elapses, the debug session closes. -/
def execSessionExpire (s : State) : Host.Outcome State Fault Refusal :=
  .next (s.live (fun s => if s.lcs.session.any (fun x => decide (x.ends ≤ s.now)) then s.sessionClose 1 else s))

/-- TAMPER_EVENT (R439): A recognised sensor condition writes a log entry and takes the response of its matrix cell. -/
def execTamperEvent (sensors : BitVec 6) (s : State) : Host.Outcome State Fault Refusal :=
  .next (s.tamper sensors.toNat)

/-- TAMPER_RELEASE (R441): A write of LCS_TAMPER_CTRL.RELEASE releases TAMPER_N, at once or when the hold ends. -/
def execTamperRelease (who : Agent) (s : State) : Host.Outcome State Fault Refusal :=
  .next (s.allow (.tamperRelease who) who 0x130054 true (fun s => s.releaseWrite))

/-- TAMPER_HOLD_EXPIRE (R441): When TAMPER_HOLD_MS ends, a pending release takes effect. -/
def execTamperHoldExpire (s : State) : Host.Outcome State Fault Refusal :=
  .next (s.tamperHoldExpire)

end Sys2Proof.Machine
end

