-- ==== Sys2Proof/Machine/Lge.lean ====
section
/-! DEFINITION. Commands and events of the logic engine: one meaning a row of the table. -/

namespace Sys2Proof.Machine

open Sys2Proof Reg

/-- SCAN_START (R187): A logic scan starts, runs CARRY if due, and SNAPSHOT latches inputs, forces and arbitrated commands. -/
def execScanStart (s : State) : Host.Outcome State Fault Refusal :=
  .next (s.live (fun s => s.scanStart.gthImage s.lge.committed))

/-- SCAN_COMMIT (R192): At the end of EXECUTE, the working image is committed, and the outputs, events and acknowledgements go
out. -/
def execScanCommit (s : State) : Host.Outcome State Fault Refusal :=
  .next (s.live (fun s => s.scanCommit.gthImage s.lge.committed))

/-- SCAN_BUDGET_EXPIRE (R205): A scan not finished when BUDGET_US runs out is abandoned and its working image discarded. -/
def execScanBudgetExpire (stitch : BitVec 16) (s : State) : Host.Outcome State Fault Refusal :=
  .next (s.live (fun s => (s.scanExpire stitch.toNat).gthImage s.lge.committed))

/-- RESTART (R189): A write of LGE_CTRL.RESTART reinitialises the image at the next scan start. -/
def execRestart (who : Agent) (s : State) : Host.Outcome State Fault Refusal :=
  .next (s.allow (.restart who) who 0x90004 true (fun s => s.lgeRestartCmd.gthImage s.lge.committed))

/-- FORCE_SET (R208): LGE_FORCE_CTRL with OP SET forces a variable at the next snapshot. -/
def execForceSet (who : Agent) (s : State) : Host.Outcome State Fault Refusal :=
  .next (s.allow (.forceSet who) who 0x90048 true (fun s => (s.forceCmd 1).gthImage s.lge.committed))

/-- FORCE_RELEASE (R208): LGE_FORCE_CTRL with OP RELEASE releases a forced variable at the next snapshot. -/
def execForceRelease (who : Agent) (s : State) : Host.Outcome State Fault Refusal :=
  .next (s.allow (.forceRelease who) who 0x90048 true (fun s => (s.forceCmd 2).gthImage s.lge.committed))

/-- FORCE_RELEASE_ALL (R208): LGE_FORCE_CTRL with OP RELEASE_ALL releases every force at the next snapshot. -/
def execForceReleaseAll (who : Agent) (s : State) : Host.Outcome State Fault Refusal :=
  .next (s.allow (.forceReleaseAll who) who 0x90048 true (fun s => (s.forceCmd 3).gthImage s.lge.committed))

/-- IMAGE_ECC (R205): An uncorrectable error in the committed image halts the logic engine. -/
def execImageEcc (stitch : BitVec 16) (s : State) : Host.Outcome State Fault Refusal :=
  .next (s.live (fun s => (s.imageEcc stitch.toNat).gthImage s.lge.committed))

/-- LGE_ENABLE (R186): A write of LGE_CTRL.ENABLE starts scanning, or, when it is cleared, lets the current scan finish and puts
the engine in STOPPED. -/
def execLgeEnable (who : Agent) (en : Bool) (s : State) : Host.Outcome State Fault Refusal :=
  .next (s.allow (.lgeEnable who en) who 0x90004 false (fun s => (s.lgeEnable en).gthImage s.lge.committed))

end Sys2Proof.Machine
end

