-- ==== Sys2Proof/Machine/Mac.lean ====
section
/-! DEFINITION. Commands and events of the port MACs: one meaning a row of the table. -/

namespace Sys2Proof.Machine

open Sys2Proof Reg

/-- LINK_QUALIFIED (R270): After lock has been held for LINK_QUAL_US, the MAC reports the link returned. -/
def execLinkQualified (port : Fin 20) (s : State) : Host.Outcome State Fault Refusal :=
  .next (s.liveU (portUnit port.val) (fun s => s.linkQualified port.val))

/-- PORT_EN_WRITE (R270): A write of MAC_P_CTRL.PORT_EN enables or disables the port and its transmitter. -/
def execPortEnWrite (who : Agent) (port : Fin 20) (en : Bool) (s : State) : Host.Outcome State Fault Refusal :=
  .next (s.allow (.portEnWrite who port en) who (0xC000C + 0x1000 * port.val) false (fun s => s.portEn port.val en))

/-- SFP_OVERCURRENT (R496): A cage drawing over 0.6 A for 50 µs is switched off and SFP_FAULT is set. -/
def execSfpOvercurrent (port : Fin 16) (s : State) : Host.Outcome State Fault Refusal :=
  .next (s.live (fun s => s.sfpOvercurrent port.val))

/-- VERIFY_RESTART (R275): A write of VERIFY_RESTART returns preemption verification to INITIAL. -/
def execVerifyRestart (who : Agent) (port : Fin 20) (s : State) : Host.Outcome State Fault Refusal :=
  .next (s.allow (.verifyRestart who port) who (0xC000C + 0x1000 * port.val) false (fun s => s.verifyRestart port.val))

/-- VERIFY_TIMEOUT (R275): When VERIFY_MS passes without a response, the verify mPacket is resent or verification fails. -/
def execVerifyTimeout (port : Fin 20) (s : State) : Host.Outcome State Fault Refusal :=
  .next (s.liveU (portUnit port.val) (fun s => s.verifyTimeout port.val))

/-- VERIFY_RESPONSE (R275): A respond mPacket received while VERIFYING makes preemption active. -/
def execVerifyResponse (port : Fin 20) (s : State) : Host.Outcome State Fault Refusal :=
  .next (s.liveU (portUnit port.val) (fun s => s.verifyResponse port.val))

/-- VERIFY_RECEIVED (R275): A verify mPacket received is answered with a respond mPacket. -/
def execVerifyReceived (port : Fin 20) (s : State) : Host.Outcome State Fault Refusal :=
  .next (s.liveU (portUnit port.val) (fun s => s.verifyReceived port.val))

/-- PREEMPTION (R276): An eligible express frame preempts the preemptable frame at the first permitted 8-octet boundary. -/
def execPreemption (port : Fin 20) (sent : Nat) (s : State) : Host.Outcome State Fault Refusal :=
  .next (s.liveU (portUnit port.val) (fun s => s.preempt port.val sent))

/-- PAUSE_RECEIVED (R278): A PAUSE frame on a port with RX_PAUSE_EN sets or ends the port's pause timer. -/
def execPauseReceived (port : Fin 20) (quanta : BitVec 16) (s : State) : Host.Outcome State Fault Refusal :=
  .next (s.liveU (portUnit port.val) (fun s => s.pauseReceived port.val quanta.toNat))

/-- PAUSE_EXPIRE (R278): When the pause timer runs out, paused classes may start again. -/
def execPauseExpire (port : Fin 20) (s : State) : Host.Outcome State Fault Refusal :=
  .next (s.liveU (portUnit port.val) (fun s => s.pauseExpire port.val))

/-- PAUSE_XOFF (R279): When a port's ingress cells rise above XOFF_CELLS, it sends a PAUSE with PAUSE_QUANTA. -/
def execPauseXoff (port : Fin 20) (s : State) : Host.Outcome State Fault Refusal :=
  .next (s.liveU (portUnit port.val) (fun s => s.pauseXoff port.val))

/-- PAUSE_REFRESH (R279): Each time half the quanta elapses while above XON_CELLS, the PAUSE is repeated. -/
def execPauseRefresh (port : Fin 20) (s : State) : Host.Outcome State Fault Refusal :=
  .next (s.liveU (portUnit port.val) (fun s => s.pauseRefresh port.val))

/-- PAUSE_XON (R279): When a port's ingress cells fall to XON_CELLS or below, it sends a PAUSE with quanta 0. -/
def execPauseXon (port : Fin 20) (s : State) : Host.Outcome State Fault Refusal :=
  .next (s.liveU (portUnit port.val) (fun s => s.pauseXon port.val))

/-- PORT_A_COLLISION (R281): A port A collision sends a jam and backs off, or drops the frame after 16 collisions or a late
collision. -/
def execPortACollision (sentBits : Nat) (s : State) : Host.Outcome State Fault Refusal :=
  .next (s.liveU 21 (fun s => s.portACollision sentBits))

/-- PORT_A_BACKOFF_EXPIRE (R281): When the back-off runs out, port A retries the frame. -/
def execPortABackoffExpire (s : State) : Host.Outcome State Fault Refusal :=
  .next (s.liveU 21 (fun s => s.portABackoff))

/-- PORT_A_FRAME_INTERRUPT (R282): The port A frame interrupt latches the TAI counter as the frame's timestamp. -/
def execPortAFrameInterrupt (sent : Bool) (s : State) : Host.Outcome State Fault Refusal :=
  .next (s.liveU 21 (fun s => s.portAIntr sent))

/-- WAKE_FRAME (R287): A wake frame at an armed detector captures its request code and source address and sets WAKE. -/
def execWakeFrame (port : Fin 20) (frame : List Byte) (s : State) : Host.Outcome State Fault Refusal :=
  .next (s.liveU (portUnit port.val) (fun s => s.wakeFrame port.val frame))

/-- SFP_FAULT (R270): An SFP+ reporting a transmit fault, or being removed, sets SFP_FAULT and the port's status bits. -/
def execSfpFault (port : Fin 16) (removed : Bool) (s : State) : Host.Outcome State Fault Refusal :=
  .next (s.live (fun s => s.sfpFault port.val removed))

end Sys2Proof.Machine
end

