-- ==== Sys2Proof/Machine/Svi.lean ====
section
/-! DEFINITION. Commands and events of the sampled-value ingest: one meaning a row of the table. -/

namespace Sys2Proof.Machine

open Sys2Proof Reg

/-- SV_COPY_RECEIVED (R64): A copy at the ingest tap is header-checked, matched, parsed, discard-judged and placed with an
epoch. -/
def execSvCopyReceived (port : Fin 20) (frame : List Byte) (fcs : Bool) (ext : Option SvExt) (s : State) :
    Host.Outcome State Fault Refusal :=
  .next (s.liveU 15 (fun s => (s.svCopy port.val frame fcs ext).afterIngest))

/-- SV_VERDICT (R77): A verifier or FCS result gives an epoch its verdict, advances the frontier and delivers sets to the
filters and the gathering engine. -/
def execSvVerdict (epoch : Nat) (s : State) : Host.Outcome State Fault Refusal :=
  .next (s.liveU 15 (fun s => s.svVerdict epoch))

/-- EPOCH_TIMEOUT (R79): An epoch without a verdict 60 µs after placement is refuted with cause TIMEOUT. -/
def execEpochTimeout (epoch : Nat) (s : State) : Host.Outcome State Fault Refusal :=
  .next (s.liveU 15 (fun s => s.epochTimeout epoch))

/-- SEAL (R88): At a cycle's seal instant, its empty slots become MISSING with epochs and are delivered. -/
def execSeal (stream : Fin 512) (s : State) : Host.Outcome State Fault Refusal :=
  .next (s.liveU 15 (fun s => (s.seal stream.val).afterIngest))

/-- SVI_ENABLE (R88): A write of SVI_CTRL.ENABLE starts or stops ingest, and the first 1 after a load fixes the first ingest
cycle. -/
def execSviEnable (who : Agent) (en : Bool) (s : State) : Host.Outcome State Fault Refusal :=
  .next (s.allow (.sviEnable who en) who 0x20004 false (fun s => s.sviEnable en))

/-- RING_LOAD (R90): A folio load from the ring aperture returns the slot in the view and reports the folio, stream and epoch to
the Clasp. -/
def execRingLoad (folio : Fin 32) (stream : Fin 512) (slot : Fin 1024) (confirmed : Bool) (s : State) : Host.Outcome State
    Fault Refusal :=
  .next (s.live (fun s => s.ringLoad folio.val stream.val slot.val confirmed))

/-- RING_ECC_ERROR (R91): An uncorrectable error in a ring slot makes the slot read ERROR with cause ECC and sets RING_ECC. -/
def execRingEccError (stream : Fin 512) (slot : Fin 1024) (s : State) : Host.Outcome State Fault Refusal :=
  .next (s.liveU 15 (fun s => s.ringEcc stream.val slot.val))

/-- VERIFIER_FAULT (R84): A comparison mismatch or key-cache parity error retires a verifier unit and brings in the spare. -/
def execVerifierFault (unit : Fin 4) (parity : Bool) (s : State) : Host.Outcome State Fault Refusal :=
  .next (s.liveU 16 (fun s => s.unitDown unit.val (if parity then 2 else 1)))

/-- VERIFIER_JOB_TIMEOUT (R84): A verifier job that outlasts its limit retires the unit. -/
def execVerifierJobTimeout (unit : Fin 4) (s : State) : Host.Outcome State Fault Refusal :=
  .next (s.liveU 16 (fun s => if s.unitLate unit.val then s.unitDown unit.val 3 else s))

/-- VERIFIER_KAT (R84): Every 1 ms while KAT_EN is set, a known-answer test runs on an idle engine and retires the unit on
failure. -/
def execVerifierKat (unit : Fin 4) (pass : Bool) (s : State) : Host.Outcome State Fault Refusal :=
  .next (s.liveU 16 (fun s => if s.on SVI_VER_CTRL_KAT_EN && !pass then s.unitDown unit.val 4 else s))

/-- SPARE_SEL_WRITE (R84): A write of SVI_VER_CTRL.SPARE_SEL exchanges the roles of an active unit and the spare, or is refused.
-/
def execSpareSelWrite (who : Agent) (unit : Fin 4) (s : State) : Host.Outcome State Fault Refusal :=
  .next (s.allow (.spareSelWrite who unit) who 0x20030 true (fun s => s.spareSel unit.val))

/-- VERIFIER_IDLE_TO_SPARE (R84): A unit released by SPARE_SEL becomes SPARE once its jobs in service have finished. -/
def execVerifierIdleToSpare (unit : Fin 4) (s : State) : Host.Outcome State Fault Refusal :=
  .next (s.live (fun s => s.unitIdle unit.val))

/-- VERIFIER_RETIRE (R84): A write of SVI_VER_CTRL.RETIRE retires a unit on host command, or is refused. -/
def execVerifierRetire (who : Agent) (unit : Fin 4) (s : State) : Host.Outcome State Fault Refusal :=
  .next (s.allow (.verifierRetire who unit) who 0x20030 true (fun s => ((s.abortUnitTest unit.val).unitRetire unit.val).hkaFollow s true))

/-- VERIFIER_RESTORE (R84): A write of SVI_VER_CTRL.RESTORE starts the test of a retired unit, or is refused. -/
def execVerifierRestore (who : Agent) (unit : Fin 4) (s : State) : Host.Outcome State Fault Refusal :=
  .next (s.allow (.verifierRestore who unit) who 0x20030 true (fun s => s.unitRestore unit.val))

/-- VERIFIER_RESTORE_DONE (R84): When the RESTORE test ends, the unit becomes SPARE or stays RETIRED. -/
def execVerifierRestoreDone (unit : Fin 4) (pass : Bool) (s : State) : Host.Outcome State Fault Refusal :=
  .next (s.liveU 16 (fun s => if s.underTest 2 unit.val then s else s.unitRestoreDone unit.val pass))

end Sys2Proof.Machine
end

