-- ==== Sys2Proof/Machine/Swc.lean ====
section
/-! DEFINITION. Commands and events of the switch core: one meaning a row of the table. -/

namespace Sys2Proof.Machine

open Sys2Proof Reg

/-- FRAME_INGRESS (R242): When a frame's first 64 bytes have arrived, the switch takes the forwarding decision and admits the
copies. -/
def execFrameIngress (port : Fin 20) (frame : List Byte) (sfdAgo : Nat) (s : State) : Host.Outcome State Fault Refusal :=
  .next (s.liveU 14 (fun s => s.macIngress port.val frame sfdAgo))

/-- FRAME_RX_END (R260): When a frame's last bit arrives, its FCS is checked, and a stored frame is dropped or a cut-through
copy stomped. -/
def execFrameRxEnd (port : Fin 20) (frame : List Byte) (verdict : RxEnd) (fragments : Nat) (s : State) : Host.Outcome
    State Fault Refusal :=
  .next (s.liveU (portUnit port.val) (fun s => s.macRxEnd port.val frame verdict fragments))

/-- CUT_THROUGH_START (R261): A cut-through copy starts when the resequencer holds N_CT of its cells in order. -/
def execCutThroughStart (port : Fin 20) (s : State) : Host.Outcome State Fault Refusal :=
  .next (s.liveU 14 (fun s => s.cutStart port.val))

/-- EGRESS_START (R273): At a frame boundary, a port drops late frames and starts the next eligible frame. At port A `deferred` says
whether carrier is sensed (R281). -/
def execEgressStart (port : Fin 20) (deferred : Bool) (s : State) : Host.Outcome State Fault Refusal :=
  .next (s.liveU 14 (fun s => (if port.val = 19 then s.carrier deferred else s).egressStart port.val))

/-- TX_COMPLETE (R304): When a copy has been sent or discarded, its transmit-timestamp entry falls due. -/
def execTxComplete (port : Fin 20) (s : State) : Host.Outcome State Fault Refusal :=
  .next (s.liveU 14 (fun s => s.txComplete port.val))

/-- BUFFER_ECC_ERROR (R259): An uncorrectable buffer error discards the frame, or stomps it if it has started. -/
def execBufferEccError (copy : Nat) (correctable : Bool) (s : State) : Host.Outcome State Fault Refusal :=
  .next (s.liveU 14 (fun s => s.bufferEcc copy correctable))

/-- LINK_LOST (R263): A link-loss report puts the port into HOLD, or DOWN with a flush when the window is 0. -/
def execLinkLost (port : Fin 20) (los : Bool) (s : State) : Host.Outcome State Fault Refusal :=
  .next (s.live (fun s => s.macLinkLost port.val los))

/-- LINK_RETURNED (R263): A link-return report puts a HOLD or DOWN port UP. -/
def execLinkReturned (port : Fin 20) (s : State) : Host.Outcome State Fault Refusal :=
  .next (s.live (fun s => s.macLinkReturned port.val))

/-- LINK_HOLD_EXPIRE (R263): When the link-hold window ends, the port becomes DOWN and its queues are flushed. -/
def execLinkHoldExpire (port : Fin 20) (s : State) : Host.Outcome State Fault Refusal :=
  .next (s.liveU 14 (fun s => s.holdExpire port.val))

/-- SUPERVISION_TX (R250): Every SUP_MS, a supervision frame is sent on each port of every enabled redundancy pair. -/
def execSupervisionTx (pair : Fin 6) (s : State) : Host.Outcome State Fault Refusal :=
  .next (s.liveU 14 (fun s => s.supervision pair.val))

end Sys2Proof.Machine
end

