-- ==== Sys2Proof/Machine/Sys.lean ====
section
/-! DEFINITION. Commands and events of the power, clocks, resets and supply: one meaning a row of the table. -/

namespace Sys2Proof.Machine

open Sys2Proof Reg

/-- PWR_RUN (R423): SYS_PWR_CMD with TARGET RUN moves QUIET to RUN, or is refused. -/
def execPwrRun (who : Agent) (s : State) : Host.Outcome State Fault Refusal :=
  .next (s.allow (.pwrRun who) who 0x40 true (fun s => s.pwrRun))

/-- PWR_QUIET (R423): SYS_PWR_CMD with TARGET QUIET moves RUN to QUIET, or is refused with ROLE. -/
def execPwrQuiet (who : Agent) (s : State) : Host.Outcome State Fault Refusal :=
  .next (s.allow (.pwrQuiet who) who 0x40 true (fun s => s.pwrQuiet))

/-- PWR_STANDBY (R425): SYS_PWR_CMD with TARGET STANDBY starts the entry to STANDBY from QUIET. -/
def execPwrStandby (who : Agent) (s : State) : Host.Outcome State Fault Refusal :=
  .next (s.allow (.pwrStandby who) who 0x40 true (fun s => s.pwrDown 1))

/-- PWR_OFF (R425): SYS_PWR_CMD with TARGET OFF starts the entry to OFF from QUIET. -/
def execPwrOff (who : Agent) (s : State) : Host.Outcome State Fault Refusal :=
  .next (s.allow (.pwrOff who) who 0x40 true (fun s => s.pwrDown 0))

/-- POWER_DOWN_DONE (R425): After the drain and retention steps, the main rails are switched off. -/
def execPowerDownDone (s : State) : Host.Outcome State Fault Refusal :=
  .next (s.downDone)

/-- PWR_EN_LOW (R426): PWR_EN held low for 1 ms commands entry to the SLEEP_MODE state. -/
def execPwrEnLow (s : State) : Host.Outcome State Fault Refusal :=
  .next (s.pwrEnLow)

/-- PWR_EN_RISE (R423): PWR_EN rising in STANDBY or OFF starts a POWER_UP start. -/
def execPwrEnRise (s : State) : Host.Outcome State Fault Refusal :=
  .next (s.pwrEnRise)

/-- CLK_REQ_WRITE (R429): A write of SYS_CLK_REQ requests or gates clock units, and gates of in-use units are refused. -/
def execClkReqWrite (who : Agent) (high : Bool) (value : BitVec 32) (s : State) : Host.Outcome State Fault Refusal :=
  .next (s.allow (.clkReqWrite who high value) who (0x50 + 4 * b2n high) true (fun s => s.clkReqWrite high value.toNat))

/-- CLOCK_UNIT_RUNNING (R428): When a requested unit's wake latency ends, its bit sets in SYS_CLK_RUN. -/
def execClockUnitRunning (unit : Fin 48) (s : State) : Host.Outcome State Fault Refusal :=
  .next (s.live (fun s => s.clkRunning unit.val))

/-- POWER_ON_RESET (R446): VSTBY applied without always-on supply causes a POWER_ON reset. -/
def execPowerOnReset (s : State) : Host.Outcome State Fault Refusal :=
  .next (s.resetTo 1)

/-- PIN_RESET (R448): RESET_N low for at least 1 µs causes a PIN reset. -/
def execPinReset (s : State) : Host.Outcome State Fault Refusal :=
  .next (s.pinReset)

/-- HOST_RESET (R449): SYS_RST_CMD with KEY 0x4B52 and GO requests a HOST reset, or is refused. -/
def execHostReset (who : Agent) (key : BitVec 16) (s : State) : Host.Outcome State Fault Refusal :=
  .next (s.allow (.hostReset who key) who 0x80 true (fun s => s.hostResetCmd key.toNat))

/-- HOST_RESET_EFFECT (R449): When the queue has drained or 5 ms have passed, the HOST reset takes effect. -/
def execHostResetEffect (s : State) : Host.Outcome State Fault Refusal :=
  .next (s.live (fun s => s.resetEffect))

/-- WDOG_KICK (R450): A write of SYS_WDOG_KICK by folio 0 reloads the watchdog. -/
def execWdogKick (who : Agent) (s : State) : Host.Outcome State Fault Refusal :=
  .next (s.allow (.wdogKick who) who 0x94 true (fun s => if isSup who then s.wdogReload else s))

/-- WDOG_EXPIRE (R450): At watchdog expiry, ACTION is applied, up to a WATCHDOG reset. -/
def execWdogExpire (s : State) : Host.Outcome State Fault Refusal :=
  .next (s.live (fun s => s.wdogExpire))

/-- RESET_N_RELEASE (R451): The release of RESET_N after a PIN reset starts the warm start at the CLOCKS step. -/
def execResetNRelease (s : State) : Host.Outcome State Fault Refusal :=
  .next (s.resetRelease)

/-- POWER_UP_START (R451): When PWR_EN, VSTBY and VIN meet the start conditions, the rails are sequenced. -/
def execPowerUpStart (s : State) : Host.Outcome State Fault Refusal :=
  .next (s.powerUp)

/-- VWARN_FALL (R464): VWARN falling ends loads and tip-ins in progress, suspends capture and commits the use counts. -/
def execVwarnFall (vin : BitVec 16) (s : State) : Host.Outcome State Fault Refusal :=
  .next (s.live (fun s => s.vwarnFall vin.toNat))

/-- VWARN_RISE (R465): VWARN rising before VRESET records VWARN_RISE and permits RUN and capture again. -/
def execVwarnRise (vin : BitVec 16) (low : BitVec 16) (s : State) : Host.Outcome State Fault Refusal :=
  .next (s.live (fun s => s.vwarnRise vin.toNat low.toNat))

/-- VRESET (R466): VIN below 30 V causes a SUPPLY reset and switches the rails off. -/
def execVreset (vin : BitVec 16) (s : State) : Host.Outcome State Fault Refusal :=
  .next (s.live (fun s => s.vresetAct vin.toNat))

/-- VSTBY_LOW (R467): VSTBY below 1.7 V for 100 µs sets VSTBY_LOW and requests a record. -/
def execVstbyLow (vin : BitVec 16) (s : State) : Host.Outcome State Fault Refusal :=
  .next (s.live (fun s => s.vstbyLow vin.toNat))

/-- VSTBY_OK (R467): The return of VSTBY requests a VSTBY_OK record. -/
def execVstbyOk (vin : BitVec 16) (s : State) : Host.Outcome State Fault Refusal :=
  .next (s.live (fun s => s.vstbyOk vin.toNat))

end Sys2Proof.Machine
end

