-- ==== Sys2Proof/Machine/Tim.lean ====
section
/-! DEFINITION. Commands and events of the time base: one meaning a row of the table. -/

namespace Sys2Proof.Machine

open Sys2Proof Reg

/-- PTP_SYNC (R294): A Sync on the SLAVE port gives an offset measurement to the servo. -/
def execPtpSync (s : State) : Host.Outcome State Fault Refusal :=
  .next (s.liveU 18 (fun s => s.ptpSync))

/-- PTP_FOLLOW_UP (R293): A Follow_Up matching a two-step Sync completes the offset measurement. -/
def execPtpFollowUp (s : State) : Host.Outcome State Fault Refusal :=
  .next (s.liveU 18 (fun s => s.ptpFollowUp))

/-- ANNOUNCE_RX (R296): An Announce updates the best-master selection and the UTC offset. -/
def execAnnounceRx (s : State) : Host.Outcome State Fault Refusal :=
  .next (s.liveU 18 (fun s => s.ptpAnnounce))

/-- PDELAY_REQ_TX (R293): Every 2^LOG_PDELAY s, a Pdelay_Req is sent on each port with PDELAY_EN. -/
def execPdelayReqTx (port : Fin 18) (s : State) : Host.Outcome State Fault Refusal :=
  .next (s.liveU 18 (fun s => s.pdelayReq port.val))

/-- PDELAY_REQ_RX (R293): A received Pdelay_Req is answered one-step with a Pdelay_Resp. -/
def execPdelayReqRx (s : State) : Host.Outcome State Fault Refusal :=
  .next (s.liveU 18 (fun s => s.pdelayAnswer))

/-- PDELAY_RESP_RX (R294): A completed peer-delay exchange updates the port's mean link delay. -/
def execPdelayRespRx (s : State) : Host.Outcome State Fault Refusal :=
  .next (s.liveU 18 (fun s => s.pdelayResp))

/-- IRIG_FRAME (R295): A decoded IRIG-B frame gives an offset measurement, or is rejected and counted. -/
def execIrigFrame (marks : List (Fin 3)) (year : Bool) (ago : Nat) (s : State) : Host.Outcome State Fault Refusal :=
  .next (s.liveU 18 (fun s => s.irigFrame marks year ago))

/-- PPS_EDGE (R295): A rising edge on a PPS input gives a phase measurement, or is ignored and counted. -/
def execPpsEdge (backplane : Bool) (s : State) : Host.Outcome State Fault Refusal :=
  .next (s.liveU 18 (fun s => s.ppsEdge backplane))

/-- SOURCE_QUALIFIED (R292): A source that has delivered measurements in QUAL_S consecutive seconds qualifies, and the servo may
follow it. -/
def execSourceQualified (entry : Fin 4) (s : State) : Host.Outcome State Fault Refusal :=
  .next (s.liveU 18 (fun s => s.sourceQualified entry.val))

/-- SOURCE_LOST (R292): A source without measurements for LOSS_S seconds is lost, and the time base changes source or state. -/
def execSourceLost (entry : Fin 4) (s : State) : Host.Outcome State Fault Refusal :=
  .next (s.liveU 18 (fun s => s.sourceLost entry.val))

/-- HOLDOVER_EXPIRE (R298): After HOLDOVER_MAX_MIN minutes in HOLDOVER, the time base enters FREERUN. -/
def execHoldoverExpire (s : State) : Host.Outcome State Fault Refusal :=
  .next (s.liveU 18 (fun s => s.holdoverExpire))

/-- TIME_SET (R299): TIM_ADJ_CTRL.GO with OP SET loads an absolute time, or is refused while a source is selected. -/
def execTimeSet (who : Agent) (s : State) : Host.Outcome State Fault Refusal :=
  .next (s.allow (.timeSet who) who 0xE0068 true (fun s => (s.wr TIM_ADJ_CTRL_OP 1).timeAdjust 1 (s.rd TIM_ADJ)))

/-- TIME_STEP (R299): TIM_ADJ_CTRL.GO with OP STEP adds a signed amount, or is refused while a source is selected. -/
def execTimeStep (who : Agent) (s : State) : Host.Outcome State Fault Refusal :=
  .next (s.allow (.timeStep who) who 0xE0068 true (fun s => (s.wr TIM_ADJ_CTRL_OP 2).timeAdjust 2 (s.rd TIM_ADJ)))

/-- WHOLE_SECOND (R300): At each whole TAI second, PPS out rises and, while LOCKED, the always-on seconds counter is reloaded.
-/
def execWholeSecond (s : State) : Host.Outcome State Fault Refusal :=
  .next (s.liveU 18 (fun s => s.wholeSecond))

/-- PPS_OUT_FALL (R300): After PPS_WIDTH_US, PPS out falls. -/
def execPpsOutFall (s : State) : Host.Outcome State Fault Refusal :=
  .next (s.liveU 18 (fun s => s.ppsFall))

/-- TIME_FLOOR_UPDATE (R291): Once an hour while LOCKED, the MRAM time floor is raised to the current TAI second. -/
def execTimeFloorUpdate (s : State) : Host.Outcome State Fault Refusal :=
  .next (s.liveU 18 (fun s => s.floorUpdate))

/-- LEAP_SECOND (R296): At the end of a UTC day carrying a pending leap second, TIM_UTC_OFFSET changes. -/
def execLeapSecond (s : State) : Host.Outcome State Fault Refusal :=
  .next (s.liveU 18 (fun s => s.leapSecond))

/-- CADENCE_BOUNDARY (R309): At a cadence boundary, quire N is formed, pending flips apply and the cycle number advances. -/
def execCadenceBoundary (s : State) : Host.Outcome State Fault Refusal :=
  .next (s.liveU 18 (fun s => s.cadenceInstant))

/-- TIMED_LAUNCH (R307): A held timed copy starts so that its SFD crosses the boundary at LAUNCH_TIME. -/
def execTimedLaunch (port : Fin 20) (s : State) : Host.Outcome State Fault Refusal :=
  .next (s.liveU 18 (fun s => s.timedLaunch port.val))

/-- LAUNCH_LATE (R308): A timed copy that can no longer meet its launch time is dropped late with cause 5. -/
def execLaunchLate (port : Fin 20) (s : State) : Host.Outcome State Fault Refusal :=
  .next (s.liveU 18 (fun s => s.launchLateAll port.val))

/-- TSQ_POP (R306): A write of TIM_P_TSQ_CTRL.POP latches the oldest transmit-timestamp entry and removes it. -/
def execTsqPop (who : Agent) (port : Fin 20) (s : State) : Host.Outcome State Fault Refusal :=
  .next (s.allow (.tsqPop who port) who (0xE1010 + 64 * port.val) false (fun s => s.tsqPop port.val))

/-- GOOSE_RETRANSMIT (R316): When a publisher's next interval elapses, the next retransmission frame is sent. -/
def execGooseRetransmit (publisher : Fin 256) (s : State) : Host.Outcome State Fault Refusal :=
  .next (s.liveU 18 (fun s => s.pubDue publisher.val))

/-- REF10_QUALIFIED (R295): The backplane 10 MHz reference qualifies, REF10_OK sets and the servo may steer frequency to it in
HOLDOVER and FREERUN. -/
def execRef10Qualified (s : State) : Host.Outcome State Fault Refusal :=
  .next (s.liveU 18 (fun s => s.ref10 true))

/-- REF10_LOST (R295): The backplane 10 MHz reference is lost, and REF10_OK clears. -/
def execRef10Lost (s : State) : Host.Outcome State Fault Refusal :=
  .next (s.liveU 18 (fun s => s.ref10 false))

end Sys2Proof.Machine
end

