-- ==== Sys2Proof/Machine/Twn.lean ====
section
/-! DEFINITION. Commands and events of the twin operation: one meaning a row of the table. -/

namespace Sys2Proof.Machine

open Sys2Proof Reg

/-- TWIN_ENABLE (R364): A write of TWN_CTRL.ENABLE moves the module from OFF to INIT and starts Corusk. -/
def execTwinEnable (who : Agent) (en : Bool) (s : State) : Host.Outcome State Fault Refusal :=
  .next (s.allow (.twinEnable who en) who 0x110004 true (fun s => s.twinEnable en))

/-- RELINQUISH (R382): A write of TWN_CTRL.RELINQUISH schedules a planned handover, or is refused with BAD_STATE. -/
def execRelinquish (who : Agent) (s : State) : Host.Outcome State Fault Refusal :=
  .next (s.allow (.relinquish who) who 0x110004 true (fun s => s.relinquish))

/-- RELINQUISH_WITHDRAW (R382): Once the QUIRE_END of the last quire has left, the relinquishing module withdraws. -/
def execRelinquishWithdraw (s : State) : Host.Outcome State Fault Refusal :=
  .next (s.live (fun s => s.relinquishWithdraw))

/-- HEARTBEAT_TX (R370): Every 10 µs, a HEARTBEAT frame is sent on Corusk. -/
def execHeartbeatTx (s : State) : Host.Outcome State Fault Refusal :=
  .next (s.liveU 19 (fun s => s.heartbeatTx))

/-- HEARTBEAT_RX (R370): A received heartbeat updates the peer's role, the tip-in orders and the role transitions. -/
def execHeartbeatRx (frame : List Byte) (s : State) : Host.Outcome State Fault Refusal :=
  .next (s.liveU 19 (fun s => s.heartbeatRx frame))

/-- QUIRE_TX_DONE (R371): When quire N has left completely, TWN_QUIRE_TX is updated. -/
def execQuireTxDone (s : State) : Host.Outcome State Fault Refusal :=
  .next (s.liveU 19 (fun s => s.quireTxDone))

/-- QUIRE_RX (R374): A standby receiving a complete quire accepts and installs it, or refuses it. -/
def execQuireRx (frames : List (List Byte)) (s : State) : Host.Outcome State Fault Refusal :=
  .next (s.liveU 19 (fun s => s.quireRx frames))

/-- PEER_HOLDING (R380): Recognition of HOLDING on the peer's line in INIT makes the module SYNCING. -/
def execPeerHolding (s : State) : Host.Outcome State Fault Refusal :=
  .next (s.live (fun s => s.peerHolding))

/-- PEER_FORCING (R367): Recognition of FORCING on the peer's line makes an ACTIVE or PROMOTING module withdraw. -/
def execPeerForcing (s : State) : Host.Outcome State Fault Refusal :=
  .next (s.live (fun s => s.peerForcing))

/-- PEER_RELEASED (R376): The peer's line going RELEASED while heartbeats continue lets a standby declare the peer relinquished
and promote. -/
def execPeerReleased (s : State) : Host.Outcome State Fault Refusal :=
  .next (s.live (fun s => s.peerReleased))

/-- PEER_FAILED (R376): After 25 µs with neither heartbeat nor beat edge, the peer is declared failed and the module may
promote. -/
def execPeerFailed (s : State) : Host.Outcome State Fault Refusal :=
  .next (s.live (fun s => s.peerFailed))

/-- CORUSK_LOST (R364): Heartbeats lost while the peer's line stays HOLDING make the module ISOLATED. -/
def execCoruskLost (s : State) : Host.Outcome State Fault Refusal :=
  .next (s.live (fun s => s.coruskLost))

/-- TOKEN_READBACK_FAULT (R365): Three consecutive readback mismatches on the own line set TOKEN_FAULT and make an active module
withdraw. -/
def execTokenReadbackFault (s : State) : Host.Outcome State Fault Refusal :=
  .next (s.live (fun s => s.readbackFault))

/-- LEASE_RENEW (R366): At each elapse of one cadence-cycle length, TWN renews the lease if the conditions hold. -/
def execLeaseRenew (s : State) : Host.Outcome State Fault Refusal :=
  .next (s.live (fun s => s.leaseRenew))

/-- LEASE_LAPSE (R366): A lease not renewed within one cadence-cycle length plus 50 µs lapses and the gates close. -/
def execLeaseLapse (s : State) : Host.Outcome State Fault Refusal :=
  .next (s.live (fun s => s.leaseLapse))

/-- INIT_CLAIM (R380): In INIT, after 1 ms at PREFER_POS or INIT_WAIT_MS without the peer, the module makes a cold claim. -/
def execInitClaim (s : State) : Host.Outcome State Fault Refusal :=
  .next (s.live (fun s => s.initClaim))

/-- PROMOTION_COMPLETE (R377): Once FORCING has ended and catch-up has resolved, the module enters ACTIVE and is granted the
lease. -/
def execPromotionComplete (s : State) : Host.Outcome State Fault Refusal :=
  .next (s.live (fun s => s.promotionComplete))

/-- CORUSK_LANE_DOWN (R368): A lane losing block lock for 1 µs is dropped, and LANE_DOWN is set. -/
def execCoruskLaneDown (lane : Fin 2) (s : State) : Host.Outcome State Fault Refusal :=
  .next (s.live (fun s => s.laneDown lane.val))

/-- CORUSK_LANE_REJOIN (R368): A lane holding lock for 100 µs rejoins at the next quire boundary. -/
def execCoruskLaneRejoin (lane : Fin 2) (s : State) : Host.Outcome State Fault Refusal :=
  .next (s.liveU 19 (fun s => s.laneRejoin lane.val))

end Sys2Proof.Machine
end

