-- ==== Sys2Proof/Machine/Dispatch.lean ====
section
/-! DEFINITION. The meaning of each command: one arm a constructor, each one direct call. -/

namespace Sys2Proof.Machine

open Sys2Proof

def exec (i : Instr) (s : State) : Host.Outcome State Fault Refusal :=
  match i with
  | .registerWrite who off narrow value => Sys2Proof.Machine.execRegisterWrite who off narrow value s
  | .unmappedAccess who off write => Sys2Proof.Machine.execUnmappedAccess who off write s
  | .lowWordRead who off => Sys2Proof.Machine.execLowWordRead who off s
  | .hkaDataRead who => Sys2Proof.Machine.execHkaDataRead who s
  | .keyOpRead who => Sys2Proof.Machine.execKeyOpRead who s
  | .tableRead who block table index => Sys2Proof.Machine.execTableRead who block table index s
  | .clearCounters who block inst => Sys2Proof.Machine.execClearCounters who block inst s
  | .clearPeaks who block => Sys2Proof.Machine.execClearPeaks who block s
  | .mbRead frame => Sys2Proof.Machine.execMbRead frame s
  | .mbWrite frame => Sys2Proof.Machine.execMbWrite frame s
  | .load who src => Sys2Proof.Machine.execLoad who src s
  | .loadFetchDone readError => Sys2Proof.Machine.execLoadFetchDone readError s
  | .loadAbort who => Sys2Proof.Machine.execLoadAbort who s
  | .floorSet who floor => Sys2Proof.Machine.execFloorSet who floor s
  | .stageLenWrite who len => Sys2Proof.Machine.execStageLenWrite who len s
  | .stageWrite who data => Sys2Proof.Machine.execStageWrite who data s
  | .stage who => Sys2Proof.Machine.execStage who s
  | .arm who => Sys2Proof.Machine.execArm who s
  | .confirm who => Sys2Proof.Machine.execConfirm who s
  | .revert who => Sys2Proof.Machine.execRevert who s
  | .discard who => Sys2Proof.Machine.execDiscard who s
  | .program who slot => Sys2Proof.Machine.execProgram who slot s
  | .eraseJournal who slot => Sys2Proof.Machine.execEraseJournal who slot s
  | .svCopyReceived port frame fcs ext => Sys2Proof.Machine.execSvCopyReceived port frame fcs ext s
  | .svVerdict epoch => Sys2Proof.Machine.execSvVerdict epoch s
  | .epochTimeout epoch => Sys2Proof.Machine.execEpochTimeout epoch s
  | .sealInstant stream => Sys2Proof.Machine.execSeal stream s
  | .sviEnable who en => Sys2Proof.Machine.execSviEnable who en s
  | .ringLoad folio stream slot confirmed => Sys2Proof.Machine.execRingLoad folio stream slot confirmed s
  | .ringEccError stream slot => Sys2Proof.Machine.execRingEccError stream slot s
  | .verifierFault unit parity => Sys2Proof.Machine.execVerifierFault unit parity s
  | .verifierJobTimeout unit => Sys2Proof.Machine.execVerifierJobTimeout unit s
  | .verifierKat unit pass => Sys2Proof.Machine.execVerifierKat unit pass s
  | .spareSelWrite who unit => Sys2Proof.Machine.execSpareSelWrite who unit s
  | .verifierIdleToSpare unit => Sys2Proof.Machine.execVerifierIdleToSpare unit s
  | .verifierRetire who unit => Sys2Proof.Machine.execVerifierRetire who unit s
  | .verifierRestore who unit => Sys2Proof.Machine.execVerifierRestore who unit s
  | .verifierRestoreDone unit pass => Sys2Proof.Machine.execVerifierRestoreDone unit pass s
  | .sealRun who folio entries payload quire => Sys2Proof.Machine.execSealRun who folio entries payload quire s
  | .abandon who folio => Sys2Proof.Machine.execAbandon who folio s
  | .stallTimeout folio => Sys2Proof.Machine.execStallTimeout folio s
  | .filterConsume inst => Sys2Proof.Machine.execFilterConsume inst s
  | .elementDelayExpire elem => Sys2Proof.Machine.execElementDelayExpire elem s
  | .elementResetTimeExpire elem => Sys2Proof.Machine.execElementResetTimeExpire elem s
  | .elementIntegratorFull elem => Sys2Proof.Machine.execElementIntegratorFull elem s
  | .elementFreezeExpire elem => Sys2Proof.Machine.execElementFreezeExpire elem s
  | .settlingEnd inst => Sys2Proof.Machine.execSettlingEnd inst s
  | .sourceSwitch inst => Sys2Proof.Machine.execSourceSwitch inst s
  | .dtMinOnExpire line => Sys2Proof.Machine.execDtMinOnExpire line s
  | .dtHoldExpire folio line => Sys2Proof.Machine.execDtHoldExpire folio line s
  | .bkstBlockWrite who elems => Sys2Proof.Machine.execBkstBlockWrite who elems s
  | .bkstResetElement who elem => Sys2Proof.Machine.execBkstResetElement who elem s
  | .bkstResetAll who => Sys2Proof.Machine.execBkstResetAll who s
  | .switchForceA who inst => Sys2Proof.Machine.execSwitchForceA who inst s
  | .switchForceB who inst => Sys2Proof.Machine.execSwitchForceB who inst s
  | .switchAutomatic who inst => Sys2Proof.Machine.execSwitchAutomatic who inst s
  | .filterLoad folio inst slot => Sys2Proof.Machine.execFilterLoad folio inst slot s
  | .stateEcc elem index => Sys2Proof.Machine.execStateEcc elem index s
  | .dispatchDeadline folio => Sys2Proof.Machine.execDispatchDeadline folio s
  | .folioDispatch pair => Sys2Proof.Machine.execFolioDispatch pair s
  | .yield who folio consumed => Sys2Proof.Machine.execYield who folio consumed s
  | .backgroundTimeslice pair => Sys2Proof.Machine.execBackgroundTimeslice pair s
  | .runBudgetExpire folio => Sys2Proof.Machine.execRunBudgetExpire folio s
  | .folioFault folio acc len addr epc => Sys2Proof.Machine.execFolioFault folio acc len addr epc s
  | .kernelFault who pair folio code => Sys2Proof.Machine.execKernelFault who pair folio code s
  | .folioReset who folio => Sys2Proof.Machine.execFolioReset who folio s
  | .folioResetDone folio => Sys2Proof.Machine.execFolioResetDone folio s
  | .folioHalt who folio => Sys2Proof.Machine.execFolioHalt who folio s
  | .folioResume who folio => Sys2Proof.Machine.execFolioResume who folio s
  | .rxTailWrite who folio tail descs => Sys2Proof.Machine.execRxTailWrite who folio tail descs s
  | .txTailWrite who folio tail descs => Sys2Proof.Machine.execTxTailWrite who folio tail descs s
  | .lockstepMismatch pair => Sys2Proof.Machine.execLockstepMismatch pair s
  | .pairRetire who pair => Sys2Proof.Machine.execPairRetire who pair s
  | .pairRestore who pair => Sys2Proof.Machine.execPairRestore who pair s
  | .pairRestoreDone pass => Sys2Proof.Machine.execPairRestoreDone pass s
  | .migrate who pair => Sys2Proof.Machine.execMigrate who pair s
  | .scanBudgetExpire stitch => Sys2Proof.Machine.execScanBudgetExpire stitch s
  | .restart who => Sys2Proof.Machine.execRestart who s
  | .forceSet who => Sys2Proof.Machine.execForceSet who s
  | .forceRelease who => Sys2Proof.Machine.execForceRelease who s
  | .forceReleaseAll who => Sys2Proof.Machine.execForceReleaseAll who s
  | .imageEcc stitch => Sys2Proof.Machine.execImageEcc stitch s
  | .ctlOpen who cm object => Sys2Proof.Machine.execCtlOpen who cm object s
  | .ctlClose who cm object => Sys2Proof.Machine.execCtlClose who cm object s
  | .ctlCancel who cm object => Sys2Proof.Machine.execCtlCancel who cm object s
  | .ctlWaitTimeout object => Sys2Proof.Machine.execCtlWaitTimeout object s
  | .operateTimeout object => Sys2Proof.Machine.execOperateTimeout object s
  | .travelTimeout object => Sys2Proof.Machine.execTravelTimeout object s
  | .positionTalExpire object => Sys2Proof.Machine.execPositionTalExpire object s
  | .objectAbort who object => Sys2Proof.Machine.execObjectAbort who object s
  | .ilQuery object parity => Sys2Proof.Machine.execIlQuery object parity s
  | .frameIngress port frame sfdAgo => Sys2Proof.Machine.execFrameIngress port frame sfdAgo s
  | .frameRxEnd port frame verdict fragments => Sys2Proof.Machine.execFrameRxEnd port frame verdict fragments s
  | .cutThroughStart port => Sys2Proof.Machine.execCutThroughStart port s
  | .egressStart port deferred => Sys2Proof.Machine.execEgressStart port deferred s
  | .txComplete port => Sys2Proof.Machine.execTxComplete port s
  | .bufferEccError copy correctable => Sys2Proof.Machine.execBufferEccError copy correctable s
  | .linkLost port los => Sys2Proof.Machine.execLinkLost port los s
  | .linkReturned port => Sys2Proof.Machine.execLinkReturned port s
  | .linkHoldExpire port => Sys2Proof.Machine.execLinkHoldExpire port s
  | .supervisionTx pair => Sys2Proof.Machine.execSupervisionTx pair s
  | .linkQualified port => Sys2Proof.Machine.execLinkQualified port s
  | .portEnWrite who port en => Sys2Proof.Machine.execPortEnWrite who port en s
  | .sfpOvercurrent port => Sys2Proof.Machine.execSfpOvercurrent port s
  | .verifyRestart who port => Sys2Proof.Machine.execVerifyRestart who port s
  | .verifyTimeout port => Sys2Proof.Machine.execVerifyTimeout port s
  | .verifyResponse port => Sys2Proof.Machine.execVerifyResponse port s
  | .verifyReceived port => Sys2Proof.Machine.execVerifyReceived port s
  | .preemption port sent => Sys2Proof.Machine.execPreemption port sent s
  | .pauseReceived port quanta => Sys2Proof.Machine.execPauseReceived port quanta s
  | .pauseExpire port => Sys2Proof.Machine.execPauseExpire port s
  | .pauseXoff port => Sys2Proof.Machine.execPauseXoff port s
  | .pauseRefresh port => Sys2Proof.Machine.execPauseRefresh port s
  | .pauseXon port => Sys2Proof.Machine.execPauseXon port s
  | .portACollision sentBits => Sys2Proof.Machine.execPortACollision sentBits s
  | .portAFrameInterrupt sent => Sys2Proof.Machine.execPortAFrameInterrupt sent s
  | .wakeFrame port frame => Sys2Proof.Machine.execWakeFrame port frame s
  | .pdelayReqTx port => Sys2Proof.Machine.execPdelayReqTx port s
  | .irigFrame marks year ago => Sys2Proof.Machine.execIrigFrame marks year ago s
  | .ppsEdge backplane => Sys2Proof.Machine.execPpsEdge backplane s
  | .sourceQualified entry => Sys2Proof.Machine.execSourceQualified entry s
  | .sourceLost entry => Sys2Proof.Machine.execSourceLost entry s
  | .timeSet who => Sys2Proof.Machine.execTimeSet who s
  | .timeStep who => Sys2Proof.Machine.execTimeStep who s
  | .timedLaunch port => Sys2Proof.Machine.execTimedLaunch port s
  | .launchLate port => Sys2Proof.Machine.execLaunchLate port s
  | .tsqPop who port => Sys2Proof.Machine.execTsqPop who port s
  | .gooseRetransmit publisher => Sys2Proof.Machine.execGooseRetransmit publisher s
  | .evrScanDone unreadable => Sys2Proof.Machine.execEvrScanDone unreadable s
  | .cursorLoad who win high => Sys2Proof.Machine.execCursorLoad who win high s
  | .evrRead who win uncorrectable => Sys2Proof.Machine.execEvrRead who win uncorrectable s
  | .evrClear who => Sys2Proof.Machine.execEvrClear who s
  | .positionCapture defn => Sys2Proof.Machine.execPositionCapture defn s
  | .headFilled defn => Sys2Proof.Machine.execHeadFilled defn s
  | .gatheringComplete defn => Sys2Proof.Machine.execGatheringComplete defn s
  | .gutterEnd defn => Sys2Proof.Machine.execGutterEnd defn s
  | .gapEnd defn => Sys2Proof.Machine.execGapEnd defn s
  | .captureResume defn => Sys2Proof.Machine.execCaptureResume defn s
  | .gthEnable who en => Sys2Proof.Machine.execGthEnable who en s
  | .hostEnWrite who en => Sys2Proof.Machine.execHostEnWrite who en s
  | .deleteUpto who => Sys2Proof.Machine.execDeleteUpto who s
  | .readToHost who => Sys2Proof.Machine.execReadToHost who s
  | .nandWindowRead who uncorrectable => Sys2Proof.Machine.execNandWindowRead who uncorrectable s
  | .sequencerForce who seq => Sys2Proof.Machine.execSequencerForce who seq s
  | .sequencerReset who seq => Sys2Proof.Machine.execSequencerReset who seq s
  | .twinEnable who en => Sys2Proof.Machine.execTwinEnable who en s
  | .relinquish who => Sys2Proof.Machine.execRelinquish who s
  | .heartbeatRx frame => Sys2Proof.Machine.execHeartbeatRx frame s
  | .quireRx frames => Sys2Proof.Machine.execQuireRx frames s
  | .coruskLaneDown lane => Sys2Proof.Machine.execCoruskLaneDown lane s
  | .coruskLaneRejoin lane => Sys2Proof.Machine.execCoruskLaneRejoin lane s
  | .unsealDone failed => Sys2Proof.Machine.execUnsealDone failed s
  | .update who src slot => Sys2Proof.Machine.execUpdate who src slot s
  | .verify who src slot => Sys2Proof.Machine.execVerify who src slot s
  | .attest who src slot => Sys2Proof.Machine.execAttest who src slot s
  | .pubkey who src slot => Sys2Proof.Machine.execPubkey who src slot s
  | .delete who src slot => Sys2Proof.Machine.execDelete who src slot s
  | .keyOpWrite who data => Sys2Proof.Machine.execKeyOpWrite who data s
  | .challengeNew who => Sys2Proof.Machine.execChallengeNew who s
  | .tokenWrite who data => Sys2Proof.Machine.execTokenWrite who data s
  | .tokenDebug who => Sys2Proof.Machine.execTokenDebug who s
  | .tokenLifecycle who => Sys2Proof.Machine.execTokenLifecycle who s
  | .tokenClearLog who => Sys2Proof.Machine.execTokenClearLog who s
  | .debugClose who => Sys2Proof.Machine.execDebugClose who s
  | .debugAccess access => Sys2Proof.Machine.execDebugAccess access s
  | .tamperEvent sensors => Sys2Proof.Machine.execTamperEvent sensors s
  | .tamperRelease who => Sys2Proof.Machine.execTamperRelease who s
  | .pwrRun who => Sys2Proof.Machine.execPwrRun who s
  | .pwrQuiet who => Sys2Proof.Machine.execPwrQuiet who s
  | .pwrStandby who => Sys2Proof.Machine.execPwrStandby who s
  | .pwrOff who => Sys2Proof.Machine.execPwrOff who s
  | .clkReqWrite who high value => Sys2Proof.Machine.execClkReqWrite who high value s
  | .clockUnitRunning unit => Sys2Proof.Machine.execClockUnitRunning unit s
  | .hostReset who key => Sys2Proof.Machine.execHostReset who key s
  | .wdogKick who => Sys2Proof.Machine.execWdogKick who s
  | .mbistDone findings queued => Sys2Proof.Machine.execMbistDone findings queued s
  | .lbistDone findings => Sys2Proof.Machine.execLbistDone findings s
  | .bistTestPair who inst => Sys2Proof.Machine.execBistTestPair who inst s
  | .bistTestUnit who inst => Sys2Proof.Machine.execBistTestUnit who inst s
  | .bistDemandDone findings => Sys2Proof.Machine.execBistDemandDone findings s
  | .vwarnFall vin => Sys2Proof.Machine.execVwarnFall vin s
  | .vwarnRise vin low => Sys2Proof.Machine.execVwarnRise vin low s
  | .vreset vin => Sys2Proof.Machine.execVreset vin s
  | .vstbyLow vin => Sys2Proof.Machine.execVstbyLow vin s
  | .vstbyOk vin => Sys2Proof.Machine.execVstbyOk vin s
  | .adcSweep values => Sys2Proof.Machine.execAdcSweep values s
  | .adcConvert who channel => Sys2Proof.Machine.execAdcConvert who channel s
  | .adcConvertUrgent who channel => Sys2Proof.Machine.execAdcConvertUrgent who channel s
  | .adcResult value => Sys2Proof.Machine.execAdcResult value s
  | .ageingMeasure ppm nand => Sys2Proof.Machine.execAgeingMeasure ppm nand s
  | .eccCorrected monitor target inst addr => Sys2Proof.Machine.execEccCorrected monitor target inst addr s
  | .spareDevice who rank device => Sys2Proof.Machine.execSpareDevice who rank device s
  | .queueRepair who prop => Sys2Proof.Machine.execQueueRepair who prop s
  | .dismiss who prop => Sys2Proof.Machine.execDismiss who prop s
  | .proposalRemind monitor => Sys2Proof.Machine.execProposalRemind monitor s
  | .hostConsumedWrite who consumed => Sys2Proof.Machine.execHostConsumedWrite who consumed s
  | .lgeEnable who en => Sys2Proof.Machine.execLgeEnable who en s
  | .ctlEnable who en => Sys2Proof.Machine.execCtlEnable who en s
  | .sfpFault port removed => Sys2Proof.Machine.execSfpFault port removed s
  | .loadSignatureDone => Sys2Proof.Machine.execLoadSignatureDone s
  | .loadJournalEntry => Sys2Proof.Machine.execLoadJournalEntry s
  | .loadCheckDone => Sys2Proof.Machine.execLoadCheckDone s
  | .tipinVerified => Sys2Proof.Machine.execTipinVerified s
  | .tipinJournalAppended => Sys2Proof.Machine.execTipinJournalAppended s
  | .tipinCommitCheck => Sys2Proof.Machine.execTipinCommitCheck s
  | .revertTimeout => Sys2Proof.Machine.execRevertTimeout s
  | .storeWriteDone => Sys2Proof.Machine.execStoreWriteDone s
  | .cycleRelease => Sys2Proof.Machine.execCycleRelease s
  | .substitutionDone => Sys2Proof.Machine.execSubstitutionDone s
  | .migrationMove => Sys2Proof.Machine.execMigrationMove s
  | .scanStart => Sys2Proof.Machine.execScanStart s
  | .scanCommit => Sys2Proof.Machine.execScanCommit s
  | .positionFrame => Sys2Proof.Machine.execPositionFrame s
  | .ilImageApply => Sys2Proof.Machine.execIlImageApply s
  | .ilClkLoss => Sys2Proof.Machine.execIlClkLoss s
  | .ilStale => Sys2Proof.Machine.execIlStale s
  | .portABackoffExpire => Sys2Proof.Machine.execPortABackoffExpire s
  | .ptpSync => Sys2Proof.Machine.execPtpSync s
  | .ptpFollowUp => Sys2Proof.Machine.execPtpFollowUp s
  | .announceRx => Sys2Proof.Machine.execAnnounceRx s
  | .pdelayReqRx => Sys2Proof.Machine.execPdelayReqRx s
  | .pdelayRespRx => Sys2Proof.Machine.execPdelayRespRx s
  | .holdoverExpire => Sys2Proof.Machine.execHoldoverExpire s
  | .wholeSecond => Sys2Proof.Machine.execWholeSecond s
  | .ppsOutFall => Sys2Proof.Machine.execPpsOutFall s
  | .timeFloorUpdate => Sys2Proof.Machine.execTimeFloorUpdate s
  | .leapSecond => Sys2Proof.Machine.execLeapSecond s
  | .cadenceBoundary => Sys2Proof.Machine.execCadenceBoundary s
  | .recordCommit => Sys2Proof.Machine.execRecordCommit s
  | .evrClearDone => Sys2Proof.Machine.execEvrClearDone s
  | .sequencerEval => Sys2Proof.Machine.execSequencerEval s
  | .gatheringStored => Sys2Proof.Machine.execGatheringStored s
  | .storeScanDone => Sys2Proof.Machine.execStoreScanDone s
  | .relinquishWithdraw => Sys2Proof.Machine.execRelinquishWithdraw s
  | .heartbeatTx => Sys2Proof.Machine.execHeartbeatTx s
  | .quireTxDone => Sys2Proof.Machine.execQuireTxDone s
  | .peerHolding => Sys2Proof.Machine.execPeerHolding s
  | .peerForcing => Sys2Proof.Machine.execPeerForcing s
  | .peerReleased => Sys2Proof.Machine.execPeerReleased s
  | .peerFailed => Sys2Proof.Machine.execPeerFailed s
  | .coruskLost => Sys2Proof.Machine.execCoruskLost s
  | .tokenReadbackFault => Sys2Proof.Machine.execTokenReadbackFault s
  | .leaseRenew => Sys2Proof.Machine.execLeaseRenew s
  | .leaseLapse => Sys2Proof.Machine.execLeaseLapse s
  | .initClaim => Sys2Proof.Machine.execInitClaim s
  | .promotionComplete => Sys2Proof.Machine.execPromotionComplete s
  | .keyOpComplete => Sys2Proof.Machine.execKeyOpComplete s
  | .challengeExpire => Sys2Proof.Machine.execChallengeExpire s
  | .lifecycleBurnDone => Sys2Proof.Machine.execLifecycleBurnDone s
  | .sessionExpire => Sys2Proof.Machine.execSessionExpire s
  | .zeroizeMetadataDone => Sys2Proof.Machine.execZeroizeMetadataDone s
  | .tamperHoldExpire => Sys2Proof.Machine.execTamperHoldExpire s
  | .powerDownDone => Sys2Proof.Machine.execPowerDownDone s
  | .pwrEnLow => Sys2Proof.Machine.execPwrEnLow s
  | .pwrEnRise => Sys2Proof.Machine.execPwrEnRise s
  | .powerOnReset => Sys2Proof.Machine.execPowerOnReset s
  | .pinReset => Sys2Proof.Machine.execPinReset s
  | .hostResetEffect => Sys2Proof.Machine.execHostResetEffect s
  | .wdogExpire => Sys2Proof.Machine.execWdogExpire s
  | .powerUpStart => Sys2Proof.Machine.execPowerUpStart s
  | .ddrTrainingDone => Sys2Proof.Machine.execDdrTrainingDone s
  | .bootDecide => Sys2Proof.Machine.execBootDecide s
  | .lifeAccrue => Sys2Proof.Machine.execLifeAccrue s
  | .lifeCommit => Sys2Proof.Machine.execLifeCommit s
  | .eccWindowEnd => Sys2Proof.Machine.execEccWindowEnd s
  | .spareRebuildDone => Sys2Proof.Machine.execSpareRebuildDone s
  | .resetNRelease => Sys2Proof.Machine.execResetNRelease s
  | .tokenCheckDone => Sys2Proof.Machine.execTokenCheckDone s
  | .journalEraseDone => Sys2Proof.Machine.execJournalEraseDone s
  | .gthStoreCmdDone => Sys2Proof.Machine.execGthStoreCmdDone s
  | .ref10Qualified => Sys2Proof.Machine.execRef10Qualified s
  | .ref10Lost => Sys2Proof.Machine.execRef10Lost s

end Sys2Proof.Machine
end

