-- ==== Sys2Proof/Safety.lean ====
section
/-! DEFINITION. What claims call safe: a command that ends in a next state, and a state whose stores are in canonical
form. -/

namespace Sys2Proof.Machine

open Sys2Proof

/-- A command completes in a state: it answers a next state. -/
def Completes (c : Instr) (s : State) : Prop := ∃ t, exec c s = .next t

/-- An agent makes a write of the register at an offset now: the fabric runs, the agent may, and neither the fence of R178 nor the
order of R4 holds it. -/
abbrev State.Admits (s : State) (who : Agent) (o : Nat) (host : Bool) : Prop :=
  s.fabricUp = true ∧ s.mayWrite who o host = true

/-- A folio accesses a register of its own now: the fabric runs, and no fence of R178 holds it. -/
abbrev State.AdmitsOwn (s : State) (n : Fin 32) : Prop := s.fabricUp = true ∧ s.fenced (.folio n) = false

/-- An agent's access of the register at an offset is in turn: neither the fence of R178 nor the order of R4 holds it. -/
abbrev State.InTurn (s : State) (who : Agent) (o : Nat) : Prop := s.fenced who = false ∧ s.contends who o = false

/-- The fabric and a clock unit run. -/
abbrev State.Runs (s : State) (u : Nat) : Prop := s.fabricUp = true ∧ s.clk u = true

/-- A state is well formed: the register store and DRAM are in canonical form, and the tables are those of R45, each once. -/
structure State.Wf (s : State) : Prop where
  regs : s.regs.wf = true
  dram : s.dram.wf = true
  tables : s.tables.map (fun t => t.id) = tableIds

/-- What every command keeps between the state before it and the state after it: the waiting commands, the fabric time, and
well-formedness; no free value is ever taken twice; and neither the anti-rollback floor (R52) nor the time floor (R291) goes
down. -/
structure Keeps (s t : State) : Prop where
  pending : t.pending = s.pending
  now : t.now = s.now
  free : s.freeCount ≤ t.freeCount
  floor : s.bnd.floor ≤ t.bnd.floor
  timeFloor : s.tim.floor ≤ t.tim.floor
  wf : s.Wf → t.Wf

end Sys2Proof.Machine
end

