-- ==== Sys2Proof/Certificates/Slice0/Obligations.lean ====
section
/-! DEFINITION. The statements about the model that the provers are asked to prove. -/

open Sys2Proof Sys2Proof.Machine Sys2Proof.Reg

/-- A step runs the command at the front of the queue, and a step on an empty queue is one tick (R15, R485). For every command
c, queue q and state s, the step of s with c in front of q is exec c on s with the queue q. With an empty queue the step is
the tick of one fabric cycle (the model's choice, log entry 1); in it the management-bus accesses that R4 put off come to
the front of the queue. Every command answers a next state, in every state and with every operand: the spec stops none of
them. The spec has commands act one by one as they arrive; the queue is the model's own. -/
def Obligations.StepRunsFrontCommand : Prop :=
  (∀ (c : Instr) (q : List Instr) (s : State), step (s.withPending (c :: q)) = exec c (s.withPending q)) ∧
  (∀ s : State, s.pending = [] → step s = .next s.tick) ∧
  (∀ s : State, s.tick.now = s.now + 1 ∧ s.tick.pending = s.mbLater ++ s.pending) ∧
  (∀ (c : Instr) (s : State), ∃ t, exec c s = .next t)

/-- Every step keeps the state well formed, drops exactly the front command, and never lowers the anti-rollback floor or the
time floor (R45, R52, R291, R447). For every state s: if the step of s answers t, then t is well formed where s is (the
register store and DRAM in canonical form, the tables exactly those of R45), the commands that wait behind the front one
wait unchanged, and in a step without a command those that R4 put off come forward, no free value is taken twice, and
neither the anti-rollback floor of R52 nor the time floor of R291 is lower in t than in s. Time passes only in a step
without a command, one fabric cycle (the model's choice, log entry 1). -/
def Obligations.EveryStepKeepsTheStateWellFormed : Prop :=
  ∀ s t : State, step s = .next t →
    (s.Wf → t.Wf) ∧ t.pending = (if s.pending = [] then s.mbLater else s.pending.tail) ∧ s.freeCount ≤ t.freeCount ∧ s.bnd.floor ≤ t.bnd.floor ∧
    s.tim.floor ≤ t.tim.floor ∧ t.now = s.now + (if s.pending = [] then 1 else 0)

/-- The state after a power-on reset is well formed, with nothing waiting and no DRAM byte written (R45, R446, R447).
State.reset satisfies the invariant that every step keeps: its register store and DRAM are in canonical form and it has
exactly the tables of R45. No command waits, and DRAM lists no byte. -/
def Obligations.ResetIsWellFormed : Prop :=
  State.reset.Wf ∧ State.reset.pending = [] ∧ State.reset.dram = []

/-- The anti-rollback floor is monotonic: no command lowers it, a Binding below it fails with ROLLBACK, and FLOOR_SET raises it
within its limits (R52). No command lowers the floor that the guardian holds in MRAM. When the verification of a full
Binding completes with a good signature and IMAGE_VERSION below the floor, the load fails with ROLLBACK (code 8). A write of
BND_FLOOR_SET by an agent that may make it takes effect exactly where the value is at least the current floor and no greater
than the IMAGE_VERSION of the loaded Binding; any other value leaves the floor alone and sets FLOOR_REJECT. (The HSS check
is an uninterpreted function, log entry 7, so both of its outcomes are stated.) -/
def Obligations.FloorIsNeverLowered : Prop :=
  (∀ (c : Instr) (s t : State), exec c s = .next t → s.bnd.floor ≤ t.bnd.floor) ∧
  (∀ (s : State) (j : LoadJob), s.Runs 16 → s.bnd.load = some j → s.rd BND_STATUS_PHASE = 3 → s.keysReady = true →
    s.rd KEY_STATUS_STATE ≠ 3 →
    let r := s.bndSignature j.bytes j.keyOk
    (r.1 ≠ 0 → exec .loadSignatureDone s = .next (r.2.bndFail r.1 0)) ∧
    (r.1 = 0 → imageVersion j.bytes < r.2.bnd.floor → exec .loadSignatureDone s = .next (r.2.bndFail 8 0))) ∧
  (∀ (who : Agent) (v : BitVec 32) (s : State), s.Admits who 0x10018 true → s.bnd.floor ≤ v.toNat →
    v.toNat ≤ (s.mbCount who).rd BND_IMAGE_VER_IMAGE_VERSION →
    ∃ t, exec (.floorSet who v) s = .next t ∧ t.bnd.floor = v.toNat) ∧
  (∀ (who : Agent) (v : BitVec 32) (s : State), s.Admits who 0x10018 true →
    ¬(s.bnd.floor ≤ v.toNat ∧ v.toNat ≤ (s.mbCount who).rd BND_IMAGE_VER_IMAGE_VERSION) →
    ∃ t, exec (.floorSet who v) s = .next t ∧ t.bnd.floor = s.bnd.floor ∧ t = (s.mbCount who).flag BND_TROUBLE_FLOOR_REJECT)

/-- A register word is written field by field by type code (R4, R10, R14, R15, R47, R155, R156, R178, R284, R483, R490). Of a
word that the Supervisor, or the management bus where R490 lets it, writes to a mapped register in its turn, each field
takes its bits by its type code: RO and WO fields and locked fields keep their value; an RW field without a row of its own
takes its bits; a W1C field loses the bits that the word has set, but for those that the module set in the same fabric
cycle; an Endpaper field is never written from a bus, and another RWL field only before the first READY. Where a locked
field lies in the word, LOCKED_WRITE of its block is set. Then the commands that the word carries are carried out. The
registers of instance 18 that read 0 take nothing. The kernel of a pair writes its own FOL instance in the same way, and no
other register. Another folio's write of a register that R155 does not give it faults, and sets LOCKED_WRITE where the
register is an Endpaper register. A management-bus write of a register that the Supervisor accesses in the same cycle waits
for the next one. A byte or halfword store is ignored and sets SIZE. -/
def Obligations.RegisterWordsAreWrittenByTypeCode : Prop :=
  (∀ (who : Agent) (o : BitVec 24) (v : BitVec 32) (s : State), (who = .folio 0 ∨ who = .mgmt) → s.Admits who o.toNat false →
    mapped o.toNat = true → i0Blank o.toNat = false →
    exec (.registerWrite who o false v) s = .next (((s.mbCount who).writeFields o.toNat v.toNat).command who o.toNat v.toNat)) ∧
  (∀ (who : Agent) (o : BitVec 24) (v : BitVec 32) (s : State), (who = .folio 0 ∨ who = .mgmt) → s.Admits who o.toNat false →
    mapped o.toNat = true → i0Blank o.toNat = true → exec (.registerWrite who o false v) s = .next (s.mbCount who)) ∧
  (∀ (p : Fin 12) (o : BitVec 24) (v : BitVec 32) (s : State), s.fabricUp = true → s.InTurn (.kernel p) o.toNat → mapped o.toNat = true →
    exec (.registerWrite (.kernel p) o false v) s = .next (if kernelReaches p.val o.toNat then s.busWrite (.kernel p) o.toNat v.toNat else s)) ∧
  (∀ (n : Fin 32) (o : BitVec 24) (v : BitVec 32) (s : State), s.AdmitsOwn n → n ≠ 0 → mapped o.toNat = true →
    ¬(0x41000 + 64 * n.val ≤ o.toNat ∧ o.toNat < 0x41040 + 64 * n.val) → ¬(0x71000 + 64 * n.val ≤ o.toNat ∧ o.toNat < 0x71040 + 64 * n.val) →
    exec (.registerWrite (.folio n) o false v) s = .next ((s.epWrite o.toNat).regFault n.val o.toNat)) ∧
  (∀ (o : BitVec 24) (v : BitVec 32) (s : State), s.fabricUp = true → s.contends .mgmt o.toNat = true →
    exec (.registerWrite .mgmt o false v) s = .next { s with mbLater := s.mbLater ++ [.registerWrite .mgmt o false v] }) ∧
  (∀ (who : Agent) (o : BitVec 24) (v : BitVec 32) (s : State), (who = .folio 0 ∨ who = .mgmt) → s.Admits who o.toNat false →
    mapped o.toNat = true → exec (.registerWrite who o true v) s = .next ((s.mbCount who).flag SYS_TROUBLE_SIZE)) ∧
  (∀ (s : State) (o v : Nat), (fieldsAt o).any (fun p => s.lockedField p.1) = true →
    s.writeFields o v = (fieldsAt o).foldl (fun x p => x.writeField p v) (s.lockedWrite o)) ∧
  (∀ (s : State) (o v : Nat), (fieldsAt o).any (fun p => s.lockedField p.1) = false →
    s.writeFields o v = (fieldsAt o).foldl (fun x p => x.writeField p v) s) ∧
  (∀ (s : State) (p : FPlace) (v : Nat), s.Wf →
    (p.1.typ = .ro → s.writeField p v = s) ∧ (p.1.typ = .wo → s.writeField p v = s) ∧ (p.1.typ = .rwlE → s.writeField p v = s) ∧
    (p.1.typ = .rwlB → s.loaded = true → s.writeField p v = s) ∧
    (p.1.typ = .rwlB → s.loaded = false →
      (s.writeField p v).rdAt p = Fld.fromWord p.1 p.2.2.2 (s.rdAt p) v % 2 ^ p.1.w) ∧
    (p.1.typ = .rw → ownRow.contains p.1 = false → p.1 ≠ SYS_CLK_BOOT →
      (s.writeField p v).rdAt p = Fld.fromWord p.1 p.2.2.2 (s.rdAt p) v % 2 ^ p.1.w) ∧
    (p.1.typ = .w1c →
      let ones := Fld.fromWord p.1 p.2.2.2 0 v
      let held := ones &&& s.setNow.get (p.1.key p.2.1 p.2.2.1) 0
      (s.writeField p v).rdAt p = (s.rdAt p - (s.rdAt p &&& (ones - held))) % 2 ^ p.1.w))

/-- A register word writes no field outside it, and nothing but registers (R10, R13, R15, R493). The fields of a word are the
only ones that its write changes: a field whose place is not among the fields at the written offset, and that is no
LOCKED_WRITE bit of a block, reads after the write what it read before. Everything of the state but the register fields
(DRAM, the tables, every block's state, the waiting commands) is as before. (The commands that a word may carry come after,
as their own rows say.) -/
def Obligations.RegisterWordFrame : Prop :=
  ∀ (s : State) (o v : Nat), s.Wf →
    (∀ (g : Fld) (j l : Nat), (∀ p ∈ fieldsAt o, p.1.key p.2.1 p.2.2.1 ≠ g.key j l) →
      (∀ i, g.key j l ≠ MAC_P_TROUBLE_LOCKED_WRITE.key i 0) →
      (∀ f ∈ [SYS_TROUBLE_LOCKED_WRITE, BND_TROUBLE_LOCKED_WRITE, FLT_TROUBLE_LOCKED_WRITE, SWC_TROUBLE_LOCKED_WRITE,
        LCS_TROUBLE_LOCKED_WRITE], g.key j l ≠ f.key 0 0) →
      (s.writeFields o v).rdK g j l = s.rdK g j l) ∧
    { s.writeFields o v with regs := s.regs } = s

/-- A read of a low word latches the high word for its requester, and a following read of the high word returns it (R4, R10,
R155, R156, R178, R418, R431, R471, R482, R484, R490). A read of a mapped register by a requester that may read it, in its
turn, answers the word as it stands, or what the requester's latch holds for that offset. A read of a low word latches the
high word for that requester alone, so that its next read of the high word returns the latched value; a read of HKA_DATA_LO
latches HKA_DATA_HI and the two TAI words of the result; a read of KEY_OP_RD advances its offset; a read of any other
register has no side effect. A read that the requester may not make is refused. A read or a write of an unmapped offset by
the Supervisor or the management bus sets UNMAPPED, a read returning 0, and so does the debug transport's where R431 lets it
access registers, and is refused where not; a folio other than folio 0 takes the access fault of R155 instead, and a kernel
reaches no such offset (R156). -/
def Obligations.ReadsLatchTheHighWord : Prop :=
  (∀ (who : Agent) (o : BitVec 24) (s : State), s.fabricUp = true → s.InTurn who o.toNat → mapped o.toNat = true → lowWord o.toNat = true →
    o.toNat ≠ 0x150018 → o.toNat ≠ 0x120054 → s.mayRead who o.toNat = true →
    ∃ t, exec (.lowWordRead who o) s = .next t ∧
      t.lastRead = (s.latched who o.toNat).getD (s.shownWord o.toNat) % 2 ^ 32 ∧
      t.latched who (o.toNat + 4) = some (s.shownWord (o.toNat + 4)) ∧
      (∀ other, other ≠ who → ∀ n, t.latched other n = s.latched other n)) ∧
  (∀ (who : Agent) (o : BitVec 24) (s : State), s.fabricUp = true → s.InTurn who o.toNat → mapped o.toNat = true → lowWord o.toNat = false →
    o.toNat ≠ 0x150018 → o.toNat ≠ 0x120054 → s.mayRead who o.toNat = true →
    exec (.lowWordRead who o) s =
      .next { s.mbCount who with lastRead := (s.latched who o.toNat).getD (s.shownWord o.toNat) % 2 ^ 32 }) ∧
  (∀ (who : Agent) (s : State), s.fabricUp = true → s.InTurn who 0x120054 → s.mayRead who 0x120054 = true →
    exec (.lowWordRead who 0x120054) s = .next { s.keyRead.2.mbCount who with lastRead := s.keyRead.1 % 2 ^ 32 }) ∧
  (∀ (who : Agent) (s : State), s.fabricUp = true → s.InTurn who 0x150018 → s.mayRead who 0x150018 = true →
    exec (.lowWordRead who 0x150018) s = exec (.hkaDataRead who) s ∧
    ∃ t, exec (.hkaDataRead who) s = .next t ∧
      t.lastRead = (s.latched who 0x150018).getD (s.shownWord 0x150018) % 2 ^ 32 ∧
      t.latched who 0x15001C = some (s.word 0x15001C) ∧ t.latched who 0x150020 = some (s.word 0x150020) ∧
      t.latched who 0x150024 = some (s.word 0x150024)) ∧
  (∀ (who : Agent) (o : BitVec 24) (s : State), s.fabricUp = true → s.InTurn who o.toNat → mapped o.toNat = true →
    s.mayRead who o.toNat = false → exec (.lowWordRead who o) s = .next (s.refuseAccess who o.toNat)) ∧
  (∀ (who : Agent) (s : State), s.fabricUp = true → s.InTurn who 0x150018 →
    s.mayRead who 0x150018 = false → exec (.hkaDataRead who) s = .next (s.refuseAccess who 0x150018)) ∧
  (∀ (who : Agent) (o : BitVec 24) (write : Bool) (s : State), s.fabricUp = true → s.fenced who = false → mapped o.toNat = false →
    (who = .folio 0 ∨ who = .mgmt ∨ (who = .debug ∧ (if write then 3 else 1) ≤ s.debugCode)) →
    exec (.unmappedAccess who o write) s =
      .next { s.flag SYS_TROUBLE_UNMAPPED with lastRead := if write then s.lastRead else 0 }) ∧
  (∀ (o : BitVec 24) (write : Bool) (s : State), s.fabricUp = true → mapped o.toNat = false → s.debugCode < (if write then 3 else 1) →
    exec (.unmappedAccess .debug o write) s = .next s.debugRefused) ∧
  (∀ (p : Fin 12) (o : BitVec 24) (write : Bool) (s : State), exec (.unmappedAccess (.kernel p) o write) s = .next s) ∧
  (∀ (n : Fin 32) (o : BitVec 24) (write : Bool) (s : State), s.AdmitsOwn n → mapped o.toNat = false → n ≠ 0 →
    exec (.unmappedAccess (.folio n) o write) s = .next (s.regFault n.val o.toNat))

/-- A table window latches the entry named, and CLEAR_COUNTERS and CLEAR_PEAKS clear their block (R45, R485). A READ of a
block's table window by an agent that may make it, with an identifier of a table of that block and an index in its range,
latches the entry in the data words as one snapshot and sets DONE. A write of CLEAR_COUNTERS returns every counter field of
the block to its reset value, and CLEAR_PEAKS the block's peaks, in the way of R485. -/
def Obligations.TableWindowsAndClears : Prop :=
  (∀ (who : Agent) (b : Block) (id i : BitVec 16) (s : State) (w : Window),
    windows.find? (fun w => decide (Block.ofOffset w.ctrl = some b)) = some w → s.Admits who w.ctrl false →
    let u := ((s.mbCount who).wr w.id id.toNat).wr w.index i.toNat
    u.rd w.id / 256 = w.block → u.rd w.index < tableSize (u.rd w.id) →
    exec (.tableRead who b id i) s = .next (((List.range w.words).foldl
      (fun x k => x.wrK w.data 0 k (bits (u.tableEntry (u.rd w.id) (u.rd w.index)) (32 * k) 32)) u).flag w.done)) ∧
  (∀ (who : Agent) (b : Block) (i : Fin 20) (s : State) (lo hi : Nat), s.Admits who (ctrlOffset b i.val) false →
    counterRange b = some (lo, hi) →
    exec (.clearCounters who b i) s = .next ((b.fields.filter (fun f => decide (lo ≤ f.off ∧ f.off ≤ hi))).foldl
      (fun x f => x.wrI f (if b = .mac then i.val else 0) f.rst) (s.mbCount who))) ∧
  (∀ (who : Agent) (b : Block) (s : State), s.Admits who (ctrlOffset b 0) false →
    exec (.clearPeaks who b) s = .next ((match b with
      | .svi => [SVI_BACKLOG_PEAK_BACKLOG, SVI_LAT_PEAK_PEAK_LAT]
      | .lge => [LGE_SCAN_TIME_PEAK, LGE_SCAN_DELTA_MAX_DELTA]
      | .swc => [SWC_BUF_PEAK_PEAK_USED]
      | _ => []).foldl (fun x f => x.wr f f.rst) (s.mbCount who)))

/-- Management-bus transactions: a whole frame with a good CRC is carried out and answered, a bad one does nothing but count
(R4, R486, R487, R488, R489, R490). A READ transaction addressed to the module, whole, at a word-aligned offset of a mapped
register, with a good CRC-8, returns the register's word, and STATUS, DATA and a CRC over the address byte and them go back;
at an unmapped offset it returns 0 with UNMAPPED, and sets UNMAPPED in SYS_TROUBLE. Such a WRITE transaction where R490 lets
the bus write is carried out as a write by the management bus, counted in SYS_MB_ACCESSES; one that R490 denies sets
MB_DENIED, and LOCKED_WRITE where it names an Endpaper register; one at an unmapped offset sets UNMAPPED; each of these two
shows in WRITE_ERR of the next response. A frame that is not whole, not aligned, fails its CRC or has another command byte
sets MB_FRAME and counts in SYS_MB_ERRORS. A frame for another address, or without a byte, changes nothing. A transaction
for a register that the Supervisor accesses in the same fabric cycle waits for the next one. -/
def Obligations.ManagementBusTransactions : Prop :=
  (∀ (a : Byte) (bs : List Byte) (s : State) (o : Nat), s.mbMine a = true → mbRequest 1 6 (a :: bs) = some o →
    s.contends .mgmt o = false →
    exec (.mbRead (a :: bs)) s = .next (if mapped o then
      let v := (s.busRead .mgmt o).1 % 2 ^ 32
      let u := (s.busRead .mgmt o).2.mbCount .mgmt
      let body := leBytes 1 (u.mbStatus true false) ++ beBytes 4 v
      { u with sys := { u.sys with mbReply := body ++ leBytes 1 (crc8 (leBytes 1 (a.toNat + 1) ++ body)), mbWriteErr := false }, lastRead := v }
    else
      let u := s.flag SYS_TROUBLE_UNMAPPED
      let body := leBytes 1 (u.mbStatus false true) ++ beBytes 4 0
      { u with sys := { u.sys with mbReply := body ++ leBytes 1 (crc8 (leBytes 1 (a.toNat + 1) ++ body)), mbWriteErr := false }, lastRead := 0 })) ∧
  (∀ (a : Byte) (bs : List Byte) (s : State) (o : Nat), s.mbMine a = true → mbRequest 2 10 (a :: bs) = some o →
    s.contends .mgmt o = false →
    exec (.mbWrite (a :: bs)) s = .next (if mapped o = false then (s.flag SYS_TROUBLE_UNMAPPED).mbWriteBad
      else if s.mbWritable o then (s.mbCount .mgmt).busWrite .mgmt o (beAt (a :: bs) 5 4)
      else ((s.epWrite o).flag SYS_TROUBLE_MB_DENIED).mbWriteBad)) ∧
  (∀ (a : Byte) (bs : List Byte) (s : State), s.mbMine a = true → s.contends .mgmt (beAt (a :: bs) 2 3) = false →
    (mbRequest 1 6 (a :: bs) = none → beAt (a :: bs) 1 1 ≠ 2 →
      exec (.mbRead (a :: bs)) s = .next ((s.flag SYS_TROUBLE_MB_FRAME).bump SYS_MB_ERRORS)) ∧
    (mbRequest 2 10 (a :: bs) = none → beAt (a :: bs) 1 1 ≠ 1 →
      exec (.mbWrite (a :: bs)) s = .next ((s.flag SYS_TROUBLE_MB_FRAME).bump SYS_MB_ERRORS).mbWriteBad)) ∧
  (∀ (bs : List Byte) (s : State), s.contends .mgmt (beAt bs 2 3) = false → (∀ a, bs.head? = some a → s.mbMine a = false) →
    exec (.mbRead bs) s = .next s ∧ exec (.mbWrite bs) s = .next s) ∧
  (∀ (bs : List Byte) (s : State), s.fabricUp = true → s.contends .mgmt (beAt bs 2 3) = true →
    exec (.mbRead bs) s = .next { s with mbLater := s.mbLater ++ [.mbRead bs] } ∧
    exec (.mbWrite bs) s = .next { s with mbLater := s.mbLater ++ [.mbWrite bs] })

/-- The debug transport reaches what the debug state gives it and nothing else (R431, R432, R434). With debug LOCKED every
access to memory, contexts, traces, kernels and scan chains is refused with DEBUG_ATTEMPT. In FOLIO state a folio's memory
is reached only for folios in FOLIO_MASK. A permitted write of memory stores its bytes at the DRAM address that the folio's
window gives, a permitted read returns the bytes there, and a register that is not host only is written in KERNEL and FULL. -/
def Obligations.DebugAccessesFollowTheDebugState : Prop :=
  (∀ (f : Fin 32) (a : BitVec 64) (bs : List Byte) (s : State) (d : Nat), s.fabricUp = true →
    s.window f.val a.toNat bs.length true = some d → s.debugFolio f.val = true →
    exec (.debugAccess (.writeMemory f a bs)) s = .next (s.dramWrite d bs)) ∧
  (∀ (f : Fin 32) (a : BitVec 64) (n : Fin 9) (s : State) (d : Nat), s.fabricUp = true →
    s.window f.val a.toNat n.val false = some d → s.debugFolio f.val = true →
    exec (.debugAccess (.readMemory f a n)) s = .next { s with lastRead := s.dramGet d n.val }) ∧
  (∀ (o : BitVec 24) (v : BitVec 32) (s : State), s.fabricUp = true → mapped o.toNat = true → ¬(0x130034 ≤ o.toNat ∧ o.toNat ≤ 0x13003C) →
    3 ≤ s.debugCode → hostMask o.toNat = 0 →
    exec (.debugAccess (.writeReg o v)) s = .next (s.busWrite .debug o.toNat v.toNat)) ∧
  (∀ (f : Fin 32) (a : BitVec 64) (bs : List Byte) (s : State), s.fabricUp = true → s.debugFolio f.val = false →
    exec (.debugAccess (.writeMemory f a bs)) s = .next s.debugRefused ∧
    exec (.debugAccess (.context f)) s = .next s.debugRefused) ∧
  (∀ s : State, s.fabricUp = true → s.debugCode = 0 → exec (.debugAccess .trace) s = .next s.debugRefused ∧
    exec (.debugAccess .kernel) s = .next s.debugRefused ∧ exec (.debugAccess .scan) s = .next s.debugRefused ∧
    ∀ f, s.debugFolio f = false)

/-- A sampled-value copy is judged stage by stage, and one that passes every test is placed with the next epoch (R64, R65, R66,
R67, R70, R72, R73, R74, R76, R80, R81, R82). A copy at a process-bus port whose header is whole, on an enabled ingest of a
loaded module, that matches an enabled stream, agrees with it in the simulation bit and parses by the stream's profile
becomes a candidate of that stream where it needs no security extension, or where a key of the stream that can be used fits
its extension; without a fitting key, or with a lost one, it is rejected with AUTH_MISSING (0x0D), KEY (0x0E) or ORPHANED
(0x13). A broken header is HEADER (2), an ingest not enabled is DISABLED (0x12), no match is NOT_SUBSCRIBED (1). A candidate
that is early is rejected with EARLY (0x0F); one that repeats a sequence number of the discard table is a duplicate; one
that is late or of a sealed cycle is rejected with LATE (0x10); one whose slot is taken is a duplicate; and one that finds
the backlog full is rejected with OVERRUN (0x11). Any other enters its sequence number, if it has one, and is placed. The
copy's FCS and the tag that its key gives go with it, for the verdict. (The order of EARLY before the discard decision is
the model's choice, log entry 45.) -/
def Obligations.SvCopyIsJudgedAndPlaced : Prop :=
  (∀ (p : Fin 20) (bs : List Byte) (fcs : Bool) (ext : Option SvExt) (s : State) (o tags : Nat), s.Runs 15 → p.val < 12 →
    svOffset bs = some (o, tags) →
    let u := s.bump SVI_RX_FRAMES
    let len := beAt bs (o + 2) 2
    let apdu := slice bs (o + 8) (len - 8)
    let sim := bitAt (beAt bs (o + 4) 2) 15
    let stamp := u.taiNs - u.rdI MAC_P_TS_LAT_RX_LAT p.val / 10
    ((tags = 2 ∨ len < 8 ∨ bs.length < o + len) → exec (.svCopyReceived p bs fcs ext) s = .next (u.svReject 2 none).afterIngest) ∧
    (tags ≠ 2 → 8 ≤ len → o + len ≤ bs.length →
      (u.on SVI_CTRL_ENABLE = false → exec (.svCopyReceived p bs fcs ext) s = .next (u.svReject 0x12 none).afterIngest) ∧
      (u.on SVI_CTRL_ENABLE = true → (u.loaded = false ∨ u.svMatch p.val bs o apdu = none) →
        exec (.svCopyReceived p bs fcs ext) s = .next (u.svReject 1 none).afterIngest) ∧
      (∀ i, u.on SVI_CTRL_ENABLE = true → u.loaded = true → u.svMatch p.val bs o apdu = some i →
        (u.ctxOn i = false → exec (.svCopyReceived p bs fcs ext) s = .next (u.svReject 0x12 (some i)).afterIngest) ∧
        (u.ctxOn i = true → sim ≠ (Ent.CTX_SIM_ELIGIBLE.on (u.ctx i) && u.svi.simMode) →
          exec (.svCopyReceived p bs fcs ext) s = .next (u.svReject 0x0C (some i)).afterIngest) ∧
        (u.ctxOn i = true → sim = (Ent.CTX_SIM_ELIGIBLE.on (u.ctx i) && u.svi.simMode) →
          (∀ e, u.svParse (u.ctx i) apdu = .inl e → exec (.svCopyReceived p bs fcs ext) s = .next (u.svReject e (some i)).afterIngest) ∧
          (∀ sets, u.svParse (u.ctx i) apdu = .inr sets →
            (ext = none → Ent.CTX_REQUIRE_AUTH.on (u.ctx i) = true →
              exec (.svCopyReceived p bs fcs ext) s = .next (u.svReject 0x0D (some i)).afterIngest) ∧
            (ext = none → Ent.CTX_REQUIRE_AUTH.on (u.ctx i) = false →
              exec (.svCopyReceived p bs fcs ext) s = .next (u.svCandidate i bs sim sets none 0 ⟨fcs, true, stamp⟩).afterIngest) ∧
            (∀ x, ext = some x → u.svKey (u.ctx i) x = none →
              exec (.svCopyReceived p bs fcs ext) s = .next (u.svReject 0x0E (some i)).afterIngest) ∧
            (∀ x k, ext = some x → u.svKey (u.ctx i) x = some k →
              let v := u.keyExpire k.1
              (v.usable k.1 = false → exec (.svCopyReceived p bs fcs ext) s =
                .next (((v.bump KEY_USE_REFUSED).flag KEY_TROUBLE_USE_REFUSED).svReject 0x13 (some i)).afterIngest) ∧
              (v.usable k.1 = true → exec (.svCopyReceived p bs fcs ext) s =
                .next (v.svCandidate i bs sim sets (some k) ((max 1 x.covered.length + 319) / 320)
                  ⟨fcs, decide (x.tag = svTag (v.slot k.1).material x), stamp⟩).afterIngest))))))) ∧
  (∀ (s : State) (i : Nat) (bs : List Byte) (sim : Bool) (sets : List SvSet) (key : Option (Nat × Bool)) (fe : Nat) (k : SvCheck) (c0 : Nat),
    let c := s.ctx i
    let rate := Ent.CTX_RATE.of c
    let sc := Ent.CTX_SETS_PER_CYCLE.of c
    let placed := sets.map (fun x => (posOf rate (svSecond rate k.stamp x.smpCnt) x.smpCnt, x))
    let tol := if Ent.CTX_EARLY_TOL.of c = 0 then 20 else Ent.CTX_EARLY_TOL.of c
    let early := ∃ p ∈ placed, (k.stamp + tol * 1000) * rate < p.1 * 1000000000
    let again := (Ent.CTX_REDUNDANCY.of c = 1 ∨ Ent.CTX_REDUNDANCY.of c = 2) ∧
      ∃ q b, svSeq bs = some (q, b) ∧ ∃ d ∈ (s.stream i).disc, d.1 = q ∧ s.now < d.2 + 20000000
    let late := ∃ p ∈ placed, p.1 / sc + 63 < s.horizon ∨ p.1 / sc < c0 ∨ s.svSealed i (p.1 / sc) = true
    let taken := ∃ p ∈ placed, (s.svAt i p.1).isSome = true
    let full := 1024 < s.svBacklog + (if k.fcsOk then fe else 0)
    s.svi.c0 = some c0 →
    (early → s.svCandidate i bs sim sets key fe k = s.svReject 0x0F (some i)) ∧
    (¬early → again → s.svCandidate i bs sim sets key fe k = (s.bump SVI_DUP_PRP).statBump i Ent.STST_DUPLICATES) ∧
    (¬early → ¬again → late → s.svCandidate i bs sim sets key fe k = s.svReject 0x10 (some i)) ∧
    (¬early → ¬again → ¬late → taken → s.svCandidate i bs sim sets key fe k = (s.bump SVI_DUP_SLOT).statBump i Ent.STST_DUPLICATES) ∧
    (¬early → ¬again → ¬late → ¬taken → full → s.svCandidate i bs sim sets key fe k = s.svReject 0x11 (some i)) ∧
    (¬early → ¬again → ¬late → ¬taken → ¬full → ∀ q b, svSeq bs = some (q, b) →
      s.svCandidate i bs sim sets key fe k = (s.discEnter i q).svPlace i placed bs sim key fe k) ∧
    (¬early → ¬again → ¬late → ¬taken → ¬full → svSeq bs = none →
      s.svCandidate i bs sim sets key fe k = s.svPlace i placed bs sim key fe k))

/-- The verdict of an epoch is what FCS, verifier and key say, or TIMEOUT after 60 µs (R65, R77, R79, R80, R81, R104). A pending
epoch whose copy failed the FCS is refuted with cause FCS (1). Without a tag, a good FCS confirms it. With a tag, the unit
that holds the job, whose use of the key is counted, confirms it where the tag is the one that the key gives, and refutes it
with cause MAC (2) where it is not; a key lost since placement, or whose use is refused, refutes it with cause ORPHANED (3)
and sets ORPHANED. Without a unit, or with the verifier's clock stopped, a job waits. An epoch still pending 60 µs after
placement is refuted with cause TIMEOUT (4); before that the timeout does nothing. Every verdict is followed by the
frontier, the releases and the dispatches that it lets happen. An epoch that is not pending gets no verdict. -/
def Obligations.VerdictsOfEpochs : Prop :=
  (∀ (e : Nat) (s : State) (p : SvEpoch), s.Runs 15 → s.svPending e = some p →
    (p.fcsOk = false → exec (.svVerdict e) s = .next (s.giveVerdict p 1).afterIngest) ∧
    (p.fcsOk = true → p.keySlot = none → exec (.svVerdict e) s = .next (s.giveVerdict p 0).afterIngest) ∧
    (∀ k, p.fcsOk = true → p.keySlot = some k → p.unit ≠ none → s.clk 16 = true → s.svKeyLost p = false →
      let u := (s.keyUse k).2
      ((s.keyUse k).1 = true → exec (.svVerdict e) s = .next (u.giveVerdict p (if p.macOk then 0 else 2)).afterIngest) ∧
      ((s.keyUse k).1 = false → exec (.svVerdict e) s =
        .next (((u.giveVerdict p 3).flag SVI_TROUBLE_ORPHANED).afterIngest).svOrphans)) ∧
    (p.fcsOk = true → p.keySlot ≠ none → p.unit ≠ none → s.clk 16 = true → s.svKeyLost p = true →
      exec (.svVerdict e) s = .next ((s.giveVerdict p 3).flag SVI_TROUBLE_ORPHANED).afterIngest) ∧
    (p.fcsOk = true → p.keySlot ≠ none → (p.unit = none ∨ s.clk 16 = false) → exec (.svVerdict e) s = .next s) ∧
    (p.placedAt + 60000 ≤ s.now → exec (.epochTimeout e) s = .next (s.giveVerdict p 4).afterIngest) ∧
    (s.now < p.placedAt + 60000 → exec (.epochTimeout e) s = .next s)) ∧
  (∀ (e : Nat) (s : State), s.Runs 15 → s.svPending e = none → exec (.svVerdict e) s = .next s ∧ exec (.epochTimeout e) s = .next s)

/-- Sealing, the ingest enable, and loads from the ring (R85, R87, R88, R89, R90, R91, R154). At a cycle's seal instant the
stream's empty slots of that cycle become MISSING and the frontier and the deliveries follow. ENABLE written 1 on a loaded
module starts ingest, the first time fixing the first ingest cycle; written 0 it stops ingest. A folio's load of a ring slot
returns the slot as its view shows it and reports the epoch to the Clasp; a slot of an expired cycle reads EXPIRED, is
counted and sets EXPIRED_READ; a load from the provisional view without the permission is a folio fault, whose guest PC is a
free value. A folio that moves to another pair loads nothing meanwhile. A seal before its instant, or of a stream without a
cycle to seal, does nothing. An uncorrectable error makes the slot read ERROR with cause ECC and sets RING_ECC. -/
def Obligations.IngestControlAndRingLoads : Prop :=
  (∀ (i : Fin 512) (m : Nat) (s : State), s.Runs 15 → (s.stream i.val).sealed = some m → s.ctxOn i.val = true →
    s.sealDue i.val m = true → exec (.sealInstant i) s = .next (s.sealCycle i.val).afterIngest) ∧
  (∀ (who : Agent) (s : State), s.Admits who 0x20004 false →
    let u := s.mbCount who
    ((u.wrB SVI_CTRL_ENABLE true).loaded = true → exec (.sviEnable who true) s =
      .next ((((u.wrB SVI_CTRL_ENABLE true).ingestStart).wrB SVI_STATUS_RUNNING
        (u.wrB SVI_CTRL_ENABLE true).ingestStart.loaded).svRefresh)) ∧
    exec (.sviEnable who false) s = .next (((u.wrB SVI_CTRL_ENABLE false).wrB SVI_STATUS_RUNNING false).svRefresh)) ∧
  (∀ (f : Fin 32) (i : Fin 512) (k : Fin 1024) (c : Bool) (s : State) (w e : Nat), s.fabricUp = true → s.folSt f.val ≠ 7 →
    (c = true ∨ Ent.PLC_PROV.on (s.plc f.val) = true) → s.ringView i.val k.val c = (w, some e) → Ent.SLOT_STATE.of w ≠ 6 →
    exec (.ringLoad f i k c) s = .next (({ s with lastRead := w } : State).loadReport f.val i.val e (decide (Ent.SLOT_STATE.of w = 1)))) ∧
  (∀ (f : Fin 32) (i : Fin 512) (k : Fin 1024) (c : Bool) (s : State) (w : Nat), s.fabricUp = true → s.folSt f.val ≠ 7 →
    (c = true ∨ Ent.PLC_PROV.on (s.plc f.val) = true) → s.ringView i.val k.val c = (w, none) → Ent.SLOT_STATE.of w = 6 →
    exec (.ringLoad f i k c) s =
      .next ((({ s with lastRead := w } : State).bump SVI_EXPIRED_READ).flag SVI_TROUBLE_EXPIRED_READ)) ∧
  (∀ (f : Fin 32) (i : Fin 512) (k : Fin 1024) (s : State), s.fabricUp = true → s.folSt f.val ≠ 7 →
    Ent.PLC_PROV.on (s.plc f.val) = false →
    exec (.ringLoad f i k false) s = .next (s.folFaultPc f.val 2 (0x40000000 + i.val * 0x40000 + k.val * 0x100))) ∧
  (∀ (f : Fin 32) (i : Fin 512) (k : Fin 1024) (c : Bool) (s : State), s.folSt f.val = 7 → exec (.ringLoad f i k c) s = .next s) ∧
  (∀ (i : Fin 512) (s : State), s.Runs 15 → (∀ m, (s.stream i.val).sealed = some m → s.ctxOn i.val = true → s.sealDue i.val m = false) →
    exec (.sealInstant i) s = .next s.afterIngest) ∧
  (∀ (i : Fin 512) (k : Fin 1024) (s : State), s.Runs 15 → exec (.ringEccError i k) s =
    .next ((s.modStream i.val (fun x => { x with ring := x.ring.map (fun r =>
      if r.1 = k.val ∧ r.2.cycle = windowCycle s.horizon k.val then (r.1, { r.2 with st := 8, cause := 5 }) else r) })).flag
        SVI_TROUBLE_RING_ECC))

/-- Verifier units are retired on failure or command, tested on RESTORE, and exchanged with the spare (R84, R461, R478). With no
test on demand in progress, an active or spare verifier unit that shows a mismatch (cause 1), a key-cache parity error (2),
a job over its limit (3) or a failed known-answer test (4) is retired, and proposals about it settle; a passed test changes
nothing. RETIRE retires an active or spare unit while at least two active units remain (cause 5). RESTORE puts a retired
unit under test, and the end of the test makes it SPARE or RETIRED. SPARE_SEL makes the spare active and an active unit
without jobs the spare; a unit that still had jobs becomes the spare once they have finished. Naming the spare changes
nothing; any other unit, or a RETIRE or RESTORE out of turn, is refused with CMD_REFUSED. -/
def Obligations.VerifierUnitsRetireAndReturn : Prop :=
  (∀ (u : Fin 4) (parity : Bool) (s : State), s.Runs 16 → s.sys.test = none → (s.unitState u.val = 0 ∨ s.unitState u.val = 3) →
    exec (.verifierFault u parity) s = .next ((s.retireUnit u.val (if parity then 2 else 1)).hkaFollow s false)) ∧
  (∀ (u : Fin 4) (s : State), s.Runs 16 → s.sys.test = none → (s.unitState u.val = 0 ∨ s.unitState u.val = 3) →
    (∃ p ∈ s.unitJobs u.val, ∃ t, p.started = some t ∧ t + 5000 * p.fe < s.now) →
    exec (.verifierJobTimeout u) s = .next ((s.retireUnit u.val 3).hkaFollow s false)) ∧
  (∀ (u : Fin 4) (s : State), s.Runs 16 → s.sys.test = none → (s.unitState u.val = 0 ∨ s.unitState u.val = 3) →
    s.on SVI_VER_CTRL_KAT_EN = true → exec (.verifierKat u false) s = .next ((s.retireUnit u.val 4).hkaFollow s false)) ∧
  (∀ (u : Fin 4) (s : State), s.Runs 16 → exec (.verifierKat u true) s = .next s) ∧
  (∀ (who : Agent) (u : Fin 4) (s : State), s.Admits who 0x20030 true →
    let x := s.mbCount who
    x.sys.test = none → (x.unitState u.val = 0 ∨ x.unitState u.val = 3) → 3 ≤ x.activeUnits →
    exec (.verifierRetire who u) s = .next ((x.retireUnit u.val 5).hkaFollow x true)) ∧
  (∀ (who : Agent) (u : Fin 4) (s : State), s.Admits who 0x20030 true → (s.mbCount who).unitState u.val = 2 →
    exec (.verifierRestore who u) s = .next ((s.mbCount who).setUnit u.val 1)) ∧
  (∀ (u : Fin 4) (pass : Bool) (s : State), s.Runs 16 → s.underTest 2 u.val = false → s.unitState u.val = 1 →
    exec (.verifierRestoreDone u pass) s = .next (s.setUnit u.val (if pass then 3 else 2))) ∧
  (∀ (who : Agent) (u : Fin 4) (v : Nat) (s : State), s.Admits who 0x20030 true →
    let x := s.mbCount who
    let y := (x.wr SVI_VER_CTRL_SPARE_SEL u.val).setUnit v 0
    x.spareUnit = some v → u.val ≠ v → x.unitState u.val = 0 → x.svi.leaving.contains u.val = false → y.unitJobs u.val = [] →
    exec (.spareSelWrite who u) s = .next (y.setUnit u.val 3)) ∧
  (∀ (who : Agent) (u : Fin 4) (s : State), s.Admits who 0x20030 true →
    let x := s.mbCount who
    (x.unitState u.val = 3 → exec (.spareSelWrite who u) s = .next x) ∧
    (x.spareUnit = none ∨ x.unitState u.val = 1 ∨ x.unitState u.val = 2 ∨ (x.unitState u.val = 0 ∧ x.svi.leaving.contains u.val = true) →
      exec (.spareSelWrite who u) s = .next (x.flag SVI_TROUBLE_CMD_REFUSED)) ∧
    (x.unitState u.val ≠ 2 → exec (.verifierRestore who u) s = .next (x.flag SVI_TROUBLE_CMD_REFUSED)) ∧
    (x.sys.test = none → (x.unitState u.val = 1 ∨ x.unitState u.val = 2 ∨ x.activeUnits < 2) →
      exec (.verifierRetire who u) s = .next ((x.flag SVI_TROUBLE_CMD_REFUSED).hkaFollow x true))) ∧
  (∀ (u : Fin 4) (s : State), s.fabricUp = true → s.svi.leaving.contains u.val = true → s.unitJobs u.val = [] →
    s.unitState u.val = 0 → exec (.verifierIdleToSpare u) s =
      .next ((s.onSvi (fun x => { x with leaving := x.leaving.filter (fun y => !(y == u.val)) })).setUnit u.val 3))

/-- A run is sealed, abandoned, released or stalled as the Clasp decides (R98, R100, R104, R110, R162). A folio's SEAL of its
open run, with at most 256 entries and a checkpoint that fits, checks the staged entries, makes the run SEALED with the
entries that pass, moves on the folio's next run and frees the pair. ABANDON ends a squashed run without entries. The first
folio, in folio order, with a releasable cycle has it released at CYCLE_RELEASE. A sealed run whose E_MAX is still above the
frontier 50 µs after its SEAL is squashed with cause STALL (2). A RING fault that a returned descriptor or a delivered
result raises on the way is taken at the end. -/
def Obligations.RunsSealReleaseAndStall : Prop :=
  (∀ (f : Fin 32) (entries ok : List Nat) (payload quire : List Byte) (s t : State) (c : Cyc), s.AdmitsOwn f →
    entries.length ≤ 256 → quire.length ≤ s.quireSlot f.val → s.folioBg f.val = false → (s.folio f.val).running = some c → c.st = 1 →
    s.stageCheck f.val c.posted entries = (ok, t) →
    exec (.sealRun (.folio f) f entries payload quire) s = .next (((((((t.modCyc f.val c.cycle (fun c =>
      { c with st := 2, executing := false, entries := ok, payload := payload, quire := quire, sealedAt := t.now })).clsShow
        f.val).kickNext f.val c.cycle).lastRun f.val).runOver f.val).folTriggers).folRefresh)) ∧
  (∀ (f : Fin 32) (s : State) (c : Cyc), s.AdmitsOwn f → (s.folio f.val).running = some c → c.st = 4 →
    exec (.abandon (.folio f) f) s = .next (((((((s.modCyc f.val c.cycle (fun c => { c with executing := false })).runEnded f.val
      c.cycle).kickNext f.val c.cycle).lastRun f.val).runOver f.val).folTriggers).folRefresh)) ∧
  (∀ (f : Nat) (s : State) (c : Cyc), s.fabricUp = true → f < 32 → s.releasable f = some c →
    (∀ g, g < f → s.releasable g = none) →
    exec .cycleRelease s = .next ((s.release f c).takeRingFaults.folTriggers.folRefresh)) ∧
  (∀ (f : Fin 32) (s : State) (c : Cyc), s.fabricUp = true → s.folioBg f.val = false →
    (s.folio f.val).cycs.filter (fun c => c.st == 2 && decide (c.sealedAt + 50000 ≤ s.now) && decide (s.rd CLS_FRONTIER < c.emax))
      = [c] → (s.folio f.val).cyc c.cycle = some c →
    exec (.stallTimeout f) s = .next ((s.squash f.val c.cycle 2 0 0).folTriggers.folRefresh))

/-- An instance consumes its next delivered position, settles, and switches its source as commanded or by itself (R122, R123,
R127, R129, R130, R131). With a Binding loaded, an instance whose next position has an input consumes that position through
CIC, FIR and detector, and writes its output; NO_SOURCE is set where neither of its two sources is usable there. A position
at which a chained source has no output passes; one whose input is not there yet waits; where a waiting configuration takes
effect there and changes the source, the instance goes on with its new source first. A position whose consumption ends the
settling of an instance, or switches it between its sources, is consumed by the row of that name in the same way. FLT_SWITCH
with APPLY forces source A (1) or B (2) or restores automatic switching (0) from the next position on. A load from the
filter aperture returns the entry; an expired one is counted and sets EXPIRED_READ; a folio that moves to another pair loads
nothing meanwhile. -/
def Obligations.FiltersConsumeInOrder : Prop :=
  (∀ (i : Fin 2048) (s : State) (x w : FInst) (p : Nat) (r : FInst × SrcIn × Bool × Bool) (moved : Bool),
    s.Runs 15 → s.loaded = true → s.inst i.val = some x → s.instPos x = some p →
    let z := s.follow x p
    let pos := z.pos.getD p
    s.instPick z pos = some r → s.instSwitch r.2.1 pos z.next z = (w, moved) →
    (moved = true → exec (.filterConsume i) s = .next (s.setInst i.val w)) ∧
    (∀ y v u ing e st b sw, moved = false → s.instPick w pos = some (y, .some v u ing e st, b, sw) →
      exec (.filterConsume i) s = .next (((s.countInput).flagIf (s.noSource w pos) FLT_TROUBLE_NO_SOURCE).instFeed i.val y pos v u ing e
        st b sw)) ∧
    (∀ y b sw, moved = false → s.instPick w pos = some (y, .none, b, sw) →
      exec (.filterConsume i) s = .next (s.setInst i.val { y with pos := some (pos + 1) }))) ∧
  (∀ (i : Fin 2048) (s : State), s.Runs 15 →
    (s.loaded = false ∨ s.inst i.val = none ∨ (∃ x p, s.inst i.val = some x ∧ s.instPos x = some p ∧
      s.instPick (s.follow x p) ((s.follow x p).pos.getD p) = none)) →
    exec (.filterConsume i) s = .next s) ∧
  (∀ (i : Fin 2048) (s : State), s.Runs 15 → settlesIn i.val s (s.filterConsume i.val) = true →
    exec (.settlingEnd i) s = .next (s.filterConsume i.val)) ∧
  (∀ (i : Fin 2048) (s : State), s.Runs 15 → switchesIn i.val s (s.filterConsume i.val) = true →
    exec (.sourceSwitch i) s = .next (s.filterConsume i.val)) ∧
  (∀ (i : Fin 2048) (s : State), s.Runs 15 →
    (settlesIn i.val s (s.filterConsume i.val) = false → exec (.settlingEnd i) s = .next s) ∧
    (switchesIn i.val s (s.filterConsume i.val) = false → exec (.sourceSwitch i) s = .next s)) ∧
  (∀ (who : Agent) (i : Fin 2048) (s : State) (x : FInst), s.Admits who 0x5003C true →
    let u (f : Nat) := ((s.mbCount who).wr FLT_SWITCH_INSTANCE i.val).wr FLT_SWITCH_FORCE f
    (u 0).inst i.val = some x →
    exec (.switchForceA who i) s = .next ((u 1).setInst i.val { x with forced := 1, badA := 0, goodA := 0 }) ∧
    exec (.switchForceB who i) s = .next ((u 2).setInst i.val { x with forced := 2, badA := 0, goodA := 0 }) ∧
    exec (.switchAutomatic who i) s = .next ((u 0).setInst i.val { x with forced := 0, badA := 0, goodA := 0 })) ∧
  (∀ (f : Fin 32) (i : Fin 2048) (k : Fin 1024) (s : State) (w : Nat), s.fabricUp = true → s.folSt f.val ≠ 7 → s.filterRead i.val k.val = (w, false) →
    exec (.filterLoad f i k) s = .next { s with lastRead := w }) ∧
  (∀ (f : Fin 32) (i : Fin 2048) (k : Fin 1024) (s : State) (w : Nat), s.fabricUp = true → s.folSt f.val ≠ 7 → s.filterRead i.val k.val = (w, true) →
    exec (.filterLoad f i k) s =
      .next ((({ s with lastRead := w } : State).bump FLT_EXPIRED_READ).flag FLT_TROUBLE_EXPIRED_READ)) ∧
  (∀ (f : Fin 32) (i : Fin 2048) (k : Fin 1024) (s : State), s.folSt f.val = 7 → exec (.filterLoad f i k) s = .next s)

/-- Backstop elements trip, reset, thaw, are blocked and released, and their lines follow (R116, R136, R138, R139, R140, R142,
R511). The consumption of the position at which a definite-time element's on-count reaches its delay, or an inverse-time
element's integrator fills, trips the element; the one at which definite reset runs out clears its integrator; the one at
which an element has been frozen for longer than INV_HOLD resets it. A block blocks exactly the named elements that are no
floor elements, resets them, and sets FLOOR_BLOCK where it named a floor element. RESET releases a latched trip, or all of
them. A line's minimum-on time or a folio's hold running out has the line computed again. An uncorrectable error in an
element's or an instance's state sets STATE_ECC and resets the element or restarts the instance. -/
def Obligations.BackstopElementsTripAndReset : Prop :=
  (∀ (n : Fin 64) (s : State), s.Runs 15 →
    let t := s.filterConsume (s.elemInput n.val)
    (tripsIn n.val 1 s t = true → exec (.elementDelayExpire n) s = .next t ∧ (s.elem n.val).trip = false ∧ (t.elem n.val).trip = true) ∧
    (tripsIn n.val 2 s t = true → exec (.elementIntegratorFull n) s = .next t ∧ (s.elem n.val).trip = false ∧ (t.elem n.val).trip = true) ∧
    (resetsIn n.val s t = true → exec (.elementResetTimeExpire n) s = .next t ∧ (t.elem n.val).integ = 0) ∧
    (thawsIn n.val s t = true → exec (.elementFreezeExpire n) s = .next t) ∧
    (tripsIn n.val 1 s t = false → exec (.elementDelayExpire n) s = .next s) ∧
    (tripsIn n.val 2 s t = false → exec (.elementIntegratorFull n) s = .next s) ∧
    (resetsIn n.val s t = false → exec (.elementResetTimeExpire n) s = .next s) ∧
    (thawsIn n.val s t = false → exec (.elementFreezeExpire n) s = .next s)) ∧
  (∀ (who : Agent) (e : BitVec 64) (s : State), s.Admits who 0x50020 true →
    let u := s.mbCount who
    let b := (List.range 64).foldl (fun n i => if bitAt e.toNat i && !bitAt (u.rd FLT_BKST_FLOOR) i then n + 2 ^ i else n) 0
    exec (.bkstBlockWrite who e) s = .next ((((u.wr FLT_BKST_BLOCK b).flagIf (decide (e.toNat % 2 ^ 64 &&& u.rd FLT_BKST_FLOOR ≠ 0))
      FLT_TROUBLE_FLOOR_BLOCK).onFlt (fun f => { f with elems := f.elems.map (fun x =>
        if bitAt b x.1 then (x.1, { x.2 with trip := false, latched := false, integ := 0, started := false, on := 0 }) else x) })).dtUpdate)) ∧
  (∀ (who : Agent) (n : Fin 64) (s : State), s.Admits who 0x50038 true →
    exec (.bkstResetElement who n) s = .next (((s.mbCount who).elemRelease n.val).dtUpdate) ∧
    exec (.bkstResetAll who) s = .next (((List.range 64).foldl State.elemRelease (s.mbCount who)).dtUpdate)) ∧
  (∀ (n : Fin 8) (s : State), s.fabricUp = true → s.flt.minOn.get n.val (s.now + 1) ≤ s.now →
    exec (.dtMinOnExpire n) s = .next ((s.onFlt (fun f => { f with minOn := f.minOn.erase n.val })).dtUpdate)) ∧
  (∀ (k : Fin 32) (n : Fin 8) (s : State), s.fabricUp = true → exec (.dtHoldExpire k n) s = .next ((s.onFlt (fun f =>
    { f with dtReq := f.dtReq.filter (fun r => !(r.1 == k.val && r.2.1 == n.val && s.due r.2.2)) })).dtUpdate)) ∧
  (∀ (i : Fin 2048) (s : State), s.Runs 15 →
    exec (.stateEcc true i) s = .next (((s.flag FLT_TROUBLE_STATE_ECC).onFlt (fun f => { f with elems := f.elems.map (fun e =>
      if e.1 = i.val then (e.1, {
        cfg := e.2.cfg, pts := e.2.pts, rpts := e.2.rpts, src := e.2.src, next := e.2.next,
        trips := e.2.trips, tripSmp := e.2.tripSmp, tripCycle := e.2.tripCycle }) else e) })).dtUpdate) ∧
    (∀ x, s.inst i.val = some x → exec (.stateEcc false i) s = .next ((s.flag FLT_TROUBLE_STATE_ECC).setInst i.val
      {
        cfg := x.cfg, coef := x.coef, srcA := x.srcA, srcB := x.srcB, next := x.next, since := x.since, gen := x.gen, pos := x.pos,
        rate := x.rate, sc := x.sc, turn := x.turn, start := x.start, out := x.out, forced := x.forced, lastSmp := x.lastSmp,
        lastCycle := x.lastCycle, steps := x.steps, switches := x.switches })))

/-- A definite-time element trips exactly when it has been started for its delay, and only on usable values (R138, R139, R142).
Take an element of MODE 1 that is not blocked. On an output that is usable and above PICKUP it is started, its on-count goes
up by one, and it trips, or stays tripped, exactly where the count has reached the outputs of its DELAY. On an unusable
output within INV_HOLD it keeps its trip, start, count and integrator; beyond it the element resets, and a trip that is not
latched is released. A blocked element, or one of MODE 0, is reset whatever it sees. The evaluation of an element changes no
other part of the state. -/
def Obligations.DefiniteTimeElementRule : Prop :=
  (∀ (s : State) (n fd o : Nat) (e : Elem) (v : Int), s.elemBlocked n = false → Ent.ELEM_MODE.of e.cfg = 1 →
    elemValue (Ent.ELEM_VALUE_SEL.of e.cfg) o = (v, true) → (Ent.ELEM_PICKUP.of e.cfg : Int) < v →
    let r := (s.elemEval n e fd o).1
    r.started = true ∧ r.on = e.on + 1 ∧ r.frozen = 0 ∧ r.integ = e.integ ∧
    (r.trip = true ↔ e.trip = true ∨ outputsIn (Ent.ELEM_DELAY.of e.cfg) fd ≤ e.on + 1) ∧ (s.elemEval n e fd o).2 = s) ∧
  (∀ (s : State) (n fd o : Nat) (e : Elem) (v : Int), s.elemBlocked n = false → Ent.ELEM_MODE.of e.cfg ≠ 0 →
    elemValue (Ent.ELEM_VALUE_SEL.of e.cfg) o = (v, false) → e.frozen + 1 ≤ outputsIn (Ent.ELEM_INV_HOLD.of e.cfg * 1000) fd →
    s.elemEval n e fd o = ({ e with frozen := e.frozen + 1 }, s)) ∧
  (∀ (s : State) (n fd o : Nat) (e : Elem) (v : Int), s.elemBlocked n = false → Ent.ELEM_MODE.of e.cfg ≠ 0 →
    elemValue (Ent.ELEM_VALUE_SEL.of e.cfg) o = (v, false) → outputsIn (Ent.ELEM_INV_HOLD.of e.cfg * 1000) fd < e.frozen + 1 →
    s.elemEval n e fd o =
      ({ e with frozen := e.frozen + 1, started := false, integ := 0, on := 0, idle := 0,
                trip := e.trip && (Ent.ELEM_LATCH.on e.cfg || e.latched) }, s)) ∧
  (∀ (s : State) (n fd o : Nat) (e : Elem), (s.elemBlocked n = true ∨ Ent.ELEM_MODE.of e.cfg = 0) →
    s.elemEval n e fd o = ({ e with trip := false, latched := false, integ := 0, started := false, on := 0 }, s))

/-- Folios become ready at their deadline, are dispatched on a free pair, and give it up (R161, R162, R163, R164, R174). At the
dispatch deadline of a placed cadence-bound folio the folio becomes READY for the cycle past its deadline. A pair in service
with nothing of the cadence on it takes the run that comes first: a background folio on it is suspended, the folio runs, the
cycle opens in the Clasp, and the kernel gets its dispatch interrupt; where no such run waits, the pair takes a background
folio in the same way. A pair that is not in service, or that runs a folio of the cadence, dispatches nothing. YIELD, and 1
ms of continuous running where a peer of equal priority waits, give the pair up. A run that reaches BUDGET_US is a folio
fault with cause BUDGET (4). -/
def Obligations.FoliosAreDispatchedAndPreempted : Prop :=
  (∀ (f : Fin 32) (s : State), s.fabricUp = true → s.loaded = true → s.folioOn f.val = true → s.folioBg f.val = false →
    s.cycleAt (s.tai - s.deadlineNs f.val) ≠ 0 →
    exec (.dispatchDeadline f) s = .next (s.readyEvent f.val (s.cycleAt (s.tai - s.deadlineNs f.val) - 1))) ∧
  (∀ (f : Fin 32) (s : State), (s.loaded = false ∨ s.folioOn f.val = false ∨ s.folioBg f.val = true ∨
    s.cycleAt (s.tai - s.deadlineNs f.val) = 0) → exec (.dispatchDeadline f) s = .next s) ∧
  (∀ (p : Fin 12) (s : State), s.Runs (2 + p.val) → (s.pairSt p.val ≠ 0 ∨ s.on FOL_CTRL_ENABLE = false ∨ s.loaded = false ∨
    s.rdI FOL_P_CURRENT_MODE p.val = 1 ∨ (s.pairRun p.val = none ∧ (s.rdI FOL_P_CURRENT_MODE p.val = 2 ∨ s.pairBg p.val = none))) →
    exec (.folioDispatch p) s = .next s) ∧
  (∀ (p : Fin 12) (s : State) (f : Nat) (again : Bool) (n : Nat), s.Runs (2 + p.val) → s.pairSt p.val = 0 → s.on FOL_CTRL_ENABLE = true →
    s.loaded = true → s.rdI FOL_P_CURRENT_MODE p.val = 0 → s.pairRun p.val = some (f, again, n) →
    exec (.folioDispatch p) s = .next ((((((s.setCurrent p.val f 1).setFolSt f 3).modFolio f (fun x =>
      { x with ready := x.ready.filter (fun m => decide (m ≠ n)), dispatchAt := ((s.setCurrent p.val f 1).setFolSt f 3).now,
               runningSince := ((s.setCurrent p.val f 1).setFolSt f 3).now, rxFaulted := false, txFaulted := false })).openRun f
        n).kernelIrq f true).folRefresh)) ∧
  (∀ (p : Fin 12) (s : State) (f : Nat) (again : Bool) (n : Nat), s.Runs (2 + p.val) → s.pairSt p.val = 0 → s.on FOL_CTRL_ENABLE = true →
    s.loaded = true → s.rdI FOL_P_CURRENT_MODE p.val = 2 → s.pairRun p.val = some (f, again, n) →
    let u := ((s.setFolSt (s.rdI FOL_P_CURRENT_FOLIO p.val) 4).setCurrent p.val f 1).setFolSt f 3
    exec (.folioDispatch p) s = .next ((((u.modFolio f (fun x =>
      { x with ready := x.ready.filter (fun m => decide (m ≠ n)), dispatchAt := u.now, runningSince := u.now,
               rxFaulted := false, txFaulted := false })).openRun f n).kernelIrq f true).folRefresh)) ∧
  (∀ (p : Fin 12) (s : State) (f : Nat), s.Runs (2 + p.val) → s.pairSt p.val = 0 → s.on FOL_CTRL_ENABLE = true →
    s.loaded = true → s.rdI FOL_P_CURRENT_MODE p.val = 0 → s.pairRun p.val = none → s.pairBg p.val = some f →
    let u := (s.setCurrent p.val f 2).setFolSt f 3
    exec (.folioDispatch p) s = .next (((u.modFolio f (fun x =>
      { x with runningSince := u.now, rxFaulted := x.rxFaulted && !decide (s.folSt f ≠ 4),
               txFaulted := x.txFaulted && !decide (s.folSt f ≠ 4) })).kernelIrq f true).folRefresh)) ∧
  (∀ (f : Fin 32) (s : State), s.AdmitsOwn f → s.folioBg f.val = true → s.folSt f.val = 3 → f ≠ 0 →
    exec (.yield (.folio f) f []) s = .next ((s.newTurn f.val).runOver f.val)) ∧
  (∀ (r n : Nat) (s : State), s.AdmitsOwn 0 → (s.svcConsume r n).folioBg 0 = true → (s.svcConsume r n).folSt 0 = 3 →
    exec (.yield (.folio 0) 0 [(r, n)]) s = .next (((s.svcConsume r n).newTurn 0).runOver 0)) ∧
  (∀ (p : Fin 12) (s : State), s.Runs (2 + p.val) →
    let f := s.rdI FOL_P_CURRENT_FOLIO p.val
    s.rdI FOL_P_CURRENT_MODE p.val = 2 → (s.folio f).runningSince + 1000000 ≤ s.now →
    (s.pairFolios p.val).any (fun g => decide (g ≠ f) && s.folioBg g &&
      decide (Ent.PLC_PRIORITY.of (s.plc g) = Ent.PLC_PRIORITY.of (s.plc f)) && (s.folSt g == 1 || s.folSt g == 2 || s.folSt g == 4)) = true →
    exec (.backgroundTimeslice p) s = .next ((((s.newTurn f).stopRun f).setFolSt f 4).folRefresh)) ∧
  (∀ (f : Fin 32) (s : State), s.fabricUp = true → (s.folio f.val).running ≠ none →
    (s.folio f.val).dispatchAt + Ent.PLC_BUDGET_US.of (s.plc f.val) * 1000 ≤ s.now →
    exec (.runBudgetExpire f) s = .next (s.folFault f.val 4 0 0))

/-- A folio fault stops the folio, writes a fault record and applies FAULT_ACTION (R174, R175, R176, R177). An access of a
running folio that its map does not allow (causes 1, 2, 3 and 5), and a write of FOL_P_KFAULT by the kernel of the folio's
pair with a code from 0x80 on, push, for a folio that is placed, not halted and not moving and whose pair has no lockstep
mismatch in the same cycle, a fault record into service ring 0 with the folio, the pair, the cause, the run and cycle, the
action, the time, the address and the EPC, set the folio's fault registers, count the fault and set FOLIO_FAULT. Then the
folio is reset, or halted where FAULT_ACTION says so (halt cause 2) or where it has been reset too often (3). -/
def Obligations.FolioFaultsAreRecorded : Prop :=
  (∀ (f : Fin 32) (acc : MemAcc) (len : Fin 9) (addr epc : BitVec 64) (s : State) (c : Nat), s.fabricUp = true → s.folSt f.val = 3 →
    s.accessCause f.val acc addr.toNat len.val = some c →
    exec (.folioFault f acc len addr epc) s = .next (s.folFault f.val c addr.toNat epc.toNat)) ∧
  (∀ (f : Fin 32) (acc : MemAcc) (len : Fin 9) (addr epc : BitVec 64) (s : State),
    (s.folSt f.val ≠ 3 ∨ s.accessCause f.val acc addr.toNat len.val = none) → exec (.folioFault f acc len addr epc) s = .next s) ∧
  (∀ (p : Fin 12) (f : Fin 32) (code : BitVec 8) (s : State), s.fabricUp = true → s.fenced (.kernel p) = false →
    (s.folPair f.val = p.val → 0x80 ≤ code.toNat →
      exec (.kernelFault (.kernel p) p f code) s = .next (s.folFault f.val code.toNat 0 0)) ∧
    (s.folPair f.val ≠ p.val ∨ code.toNat < 0x80 → exec (.kernelFault (.kernel p) p f code) s = .next s)) ∧
  (∀ (s : State) (f cause addr epc : Nat), s.folSt f ≠ 0 → s.folSt f ≠ 6 → s.folSt f ≠ 7 → s.mismatchDue (s.folPair f) = false →
    let run := match (s.folio f).running with
      | some c => (min c.run 15, c.cycle)
      | none => (0, 0)
    let action := if Ent.PLC_FAULT_ACTION.on (s.plc f) then 1 else if s.resetLimit f then 2 else 0
    let a := s.svcPush 0 (fun n => Ent.FLTREC_SEQ.mk' n + Ent.FLTREC_FOLIO.mk' f + Ent.FLTREC_PAIR.mk' (s.folPair f) +
      Ent.FLTREC_CAUSE.mk' cause + Ent.FLTREC_RUN.mk' run.1 + Ent.FLTREC_ACTION.mk' action + Ent.FLTREC_TAI.mk' s.taiNs +
      Ent.FLTREC_MONO.mk' s.now + Ent.FLTREC_CYCLE.mk' run.2 + Ent.FLTREC_ADDR.mk' addr + Ent.FLTREC_EPC.mk' epc)
    let b := ((((a.wrI FOL_F_FAULT_CAUSE f cause).wrI FOL_F_FAULT_RUN f run.1).wrI FOL_F_FAULT_ACTION f action).flagI FOL_F_FAULT_VALID
      f).wrI FOL_F_FAULT_ADDR f addr
    let t := (((b.bump FOL_FAULTS).bumpI FOL_F_COUNT_FAULTS f).flag FOL_TROUBLE_FOLIO_FAULT).flagIf (decide (cause = 4)) FOL_TROUBLE_BUDGET
    s.folFault f cause addr epc = if action = 0 then t.folReset f else t.folHalt f (if action = 1 then 2 else 3))

/-- Host RESET, HALT and RESUME of a folio, the end of its reset, and its ring tails (R155, R165, R167, R168, R170, R176, R177).
A host RESET of a folio that is placed, not halted and not moving resets it, or halts it where it has been reset too often;
a HALT halts it with cause 1; a RESUME of a halted folio on a pair clears the halt cause and resets it, and of one without a
pair places it on the lowest spare first, or, with none left, is answered NO_PAIR (1). A folio that moves keeps the command
for the end of the move; in any other state the command does nothing, and folio 0's HALT of itself is ignored. When the
reset steps complete the folio becomes WAITING. A folio's write of RX_PTR.TAIL posts its receive descriptors. A write of
TX_PTR.TAIL posts the transmit descriptors that it owns with its open run, to be sent at the release; without a run they are
returned unsent, and a background folio's are sent at once. -/
def Obligations.FoliosAreResetHaltedAndServed : Prop :=
  (∀ (who : Agent) (f : Fin 32) (s : State), s.Admits who (0x71000 + 64 * f.val) true →
    let u := s.mbCount who
    u.folSt f.val ≠ 0 → u.folSt f.val ≠ 6 → u.folSt f.val ≠ 7 →
    exec (.folioReset who f) s = .next (u.folResetOrHalt f.val) ∧
    (¬(who = .folio 0 ∧ f.val = 0) → exec (.folioHalt who f) s = .next (u.folHalt f.val 1))) ∧
  (∀ (who : Agent) (f : Fin 32) (s : State), s.Admits who (0x71000 + 64 * f.val) true →
    let u := s.mbCount who
    (u.folSt f.val = 0 ∨ u.folSt f.val = 6 → exec (.folioReset who f) s = .next u ∧ exec (.folioHalt who f) s = .next u) ∧
    (u.folSt f.val = 7 → exec (.folioReset who f) s = .next (u.modFolio f.val (fun x => { x with deferred := max x.deferred 1 })) ∧
      (¬(who = .folio 0 ∧ f.val = 0) → exec (.folioHalt who f) s = .next (u.modFolio f.val (fun x => { x with deferred := 2 })))) ∧
    (who = .folio 0 → f.val = 0 → exec (.folioHalt who f) s = .next u) ∧
    (u.folSt f.val ≠ 6 → exec (.folioResume who f) s = .next u) ∧
    (u.folSt f.val = 6 → u.folPair f.val = 15 → u.nextSpare = none → exec (.folioResume who f) s = .next (u.pairAnswer 1)) ∧
    (∀ p, u.folSt f.val = 6 → u.folPair f.val = 15 → u.nextSpare = some p → exec (.folioResume who f) s =
      .next ((((((u.wrI FOL_P_STATE p 0).wrI FOL_F_STATUS_PAIR f.val p).wrI FOL_F_STATUS_ON_SPARE f.val 1).wrI FOL_F_STATUS_ON_FALLBACK
        f.val 0).wrI FOL_F_STATUS_HALT_CAUSE f.val 0).folReset f.val))) ∧
  (∀ (who : Agent) (f : Fin 32) (s : State), s.Admits who (0x71000 + 64 * f.val) true →
    let u := s.mbCount who
    u.folSt f.val = 6 → u.folPair f.val ≠ 15 →
    exec (.folioResume who f) s = .next ((u.wrI FOL_F_STATUS_HALT_CAUSE f.val 0).folReset f.val)) ∧
  (∀ (f : Fin 32) (s : State), s.fabricUp = true → s.folSt f.val = 5 →
    exec (.folioResetDone f) s = .next ((s.setFolSt f.val 1).folRefresh)) ∧
  (∀ (f : Fin 32) (s : State), s.folSt f.val ≠ 5 → exec (.folioResetDone f) s = .next s) ∧
  (∀ (f : Fin 32) (tail : BitVec 16) (ds : List Nat) (s : State), s.AdmitsOwn f →
    exec (.rxTailWrite (.folio f) f tail ds) s = .next ((s.modFolio f.val (fun x =>
      { x with rx := postDescs x.rx (2 ^ s.rdI FOL_F_RING_CFG_RX_LOG2 f.val) (s.rdI FOL_F_RX_PTR_TAIL f.val) ds })).wrI
        FOL_F_RX_PTR_TAIL f.val tail.toNat)) ∧
  (∀ (f : Fin 32) (tail : BitVec 16) (ds : List Nat) (s : State), s.AdmitsOwn f →
    let size := 2 ^ s.rdI FOL_F_RING_CFG_TX_LOG2 f.val
    let old := s.rdI FOL_F_TX_PTR_TAIL f.val
    let new := (List.range ((tail.toNat + size - old % size) % size)).map (fun i => (old + i) % size)
    let u := (s.modFolio f.val (fun x => { x with tx := postDescs x.tx size old ds })).wrI FOL_F_TX_PTR_TAIL f.val tail.toNat
    let mine (v : State) (i : Nat) : Bool := Ent.TXD_OWN.on ((v.folio f.val).tx.get i 0)
    (∀ c, u.folioBg f.val = false → (u.folio f.val).running = some c → exec (.txTailWrite (.folio f) f tail ds) s =
      .next (((u.modCyc f.val c.cycle (fun c => { c with posted := c.posted ++ new.filter (mine u) })).txAdvance 4096 f.val).takeRingFaults)) ∧
    (u.folioBg f.val = false → (u.folio f.val).running = none → exec (.txTailWrite (.folio f) f tail ds) s =
      .next (((u.txReturn f.val new 1).txAdvance 4096 f.val).takeRingFaults)) ∧
    (u.folioBg f.val = true → exec (.txTailWrite (.folio f) f tail ds) s =
      .next (((new.foldl (fun v i => if mine v i then v.txSend f.val i false else v) u).txAdvance 4096 f.val).takeRingFaults)))

/-- Core pairs are retired, substituted, restored and migrated (R178, R179, R180, R184, R185, R461, R478). A lockstep mismatch
on a pair without folios retires it and counts the mismatch; one on a pair that is already retired or under test does
nothing. When a substitution onto a spare completes, the moved folios are served there and a notice of kind 1 is written. A
lockstep mismatch on a pair with folios also makes their runs LOST and starts their substitution onto the next spare, if
there is one. RETIRE retires a spare pair, RESTORE puts a retired pair under test, and the end of the test makes it SPARE or
RETIRED, with a notice and an answer. MIGRATE on a pair in service while a spare exists begins a migration, and once the
boundary has passed and no run of the cadence is on the pair, its folios move to the spare, the pair is retired, and a
notice of kind 2 is written. A command while another is in progress is answered BUSY (4), one on a pair in the wrong state
BAD_STATE (2), and MIGRATE without a spare NO_PAIR (1) with a notice of kind 7. -/
def Obligations.CorePairsAreSubstitutedAndMoved : Prop :=
  (∀ (p : Fin 12) (s : State), s.Runs (2 + p.val) → s.sys.test = none → s.pairSt p.val ≠ 2 → s.pairSt p.val ≠ 3 →
    s.pairFolios p.val = [] → s.fol.mig = none → s.fol.subs = [] →
    exec (.lockstepMismatch p) s = .next
      ((((((s.bump FOL_MISMATCHES).flag FOL_TROUBLE_MISMATCH).wrI FOL_P_STATE p.val 2).folRefresh)).hkaFollow s false)) ∧
  (∀ (p : Fin 12) (s : State), s.Runs (2 + p.val) → s.sys.test = none → (s.pairSt p.val = 2 ∨ s.pairSt p.val = 3) →
    exec (.lockstepMismatch p) s = .next (s.hkaFollow s false)) ∧
  (∀ (p : Fin 12) (s t : State) (lost : Nat), s.Runs (2 + p.val) → s.sys.test = none → s.pairSt p.val ≠ 2 → s.pairSt p.val ≠ 3 →
    s.pairFolios p.val ≠ [] → s.fol.mig = none → s.fol.subs = [] →
    let u := ((s.bump FOL_MISMATCHES).flag FOL_TROUBLE_MISMATCH).wrI FOL_P_STATE p.val 2
    (s.pairFolios p.val).foldl (fun (a : Nat × State) f => (a.1 + ((a.2.folMoving f).loseRuns f).1, ((a.2.folMoving f).loseRuns f).2)) (0, u) =
      (lost, t) →
    exec (.lockstepMismatch p) s = .next ((((t.takeSpare.2).onFol (fun e => { e with subs := e.subs ++ [{
      from_ := p.val, to_ := t.takeSpare.1, folios := folMask (s.pairFolios p.val), lost := lost, tai := t.takeSpare.2.taiNs,
      at_ := t.takeSpare.2.now, cycle := t.takeSpare.2.cycle }] })).folRefresh).hkaFollow s false)) ∧
  (∀ (s : State), (s.fol.subs = [] → exec .substitutionDone s = .next s) ∧ (∀ pass, s.fol.restoring = none → exec (.pairRestoreDone pass) s = .next s)) ∧
  (∀ (s : State) (j : SubJob) (rest : List SubJob) (p : Nat), s.fabricUp = true → s.fol.subs = j :: rest → j.to_ = some p →
    exec .substitutionDone s = .next ((((((s.onFol (fun e => { e with subs := rest })).moveTo (maskFolios j.folios) p true).bump
      FOL_MOVES).flag FOL_TROUBLE_SUBSTITUTED).folNotice 1 j.from_ p j.folios j.lost j.tai j.at_ j.cycle).folRefresh)) ∧
  (∀ (who : Agent) (p : Fin 16) (s : State), s.Admits who 0x70010 true → p.val < 12 →
    let u := (s.mbCount who).pairFields 1 p.val
    u.on FOL_PAIR_CMD_STATUS_BUSY = false → u.pairSt p.val = 1 →
    exec (.pairRetire who p) s = .next ((((u.wrI FOL_P_STATE p.val 2).folRefresh).pairAnswer 0).hkaFollow (s.mbCount who) true)) ∧
  (∀ (who : Agent) (p : Fin 16) (s : State), s.Admits who 0x70010 true → p.val < 12 →
    let u := (s.mbCount who).pairFields 2 p.val
    u.on FOL_PAIR_CMD_STATUS_BUSY = false → u.pairSt p.val = 2 →
    exec (.pairRestore who p) s = .next ((((u.wrI FOL_P_STATE p.val 3).begin FOL_PAIR_CMD_STATUS_BUSY).onFol (fun e =>
      { e with restoring := some { from_ := p.val, to_ := 15, tai := u.taiNs, at_ := u.now, cycle := u.cycle } })).folRefresh)) ∧
  (∀ (pass : Bool) (s : State) (j : MigJob), s.fabricUp = true → s.fol.restoring = some j →
    exec (.pairRestoreDone pass) s = .next ((((((s.onFol (fun e => { e with restoring := none })).wrI FOL_P_STATE j.from_
      (if pass then 1 else 2)).flagIf (!pass) FOL_TROUBLE_RESTORE_FAIL).folNotice (if pass then 5 else 6) j.from_ 15 0 0 j.tai j.at_
        j.cycle).pairCmdEnd (if pass then 0 else 3)).folRefresh)) ∧
  (∀ (who : Agent) (p : Fin 16) (s : State), s.Admits who 0x70010 true → p.val < 12 →
    let u := (s.mbCount who).pairFields 3 p.val
    u.on FOL_PAIR_CMD_STATUS_BUSY = false → u.pairSt p.val = 0 → u.nextSpare.isNone = false →
    exec (.migrate who p) s = .next (((u.begin FOL_PAIR_CMD_STATUS_BUSY).onFol (fun e =>
      { e with mig := some { from_ := p.val, to_ := 15, tai := u.taiNs, at_ := u.now, cycle := u.cycle } })).folRefresh)) ∧
  (∀ (who : Agent) (p : Fin 16) (s : State), s.Admits who 0x70010 true →
    let u (k : Nat) := (s.mbCount who).pairFields k p.val
    ((u 1).on FOL_PAIR_CMD_STATUS_BUSY = true → exec (.pairRetire who p) s = .next (((u 1).pairAnswer 4).hkaFollow (s.mbCount who) true)) ∧
    ((u 2).on FOL_PAIR_CMD_STATUS_BUSY = true → exec (.pairRestore who p) s = .next ((u 2).pairAnswer 4)) ∧
    ((u 3).on FOL_PAIR_CMD_STATUS_BUSY = true → exec (.migrate who p) s = .next ((u 3).pairAnswer 4)) ∧
    ((u 1).on FOL_PAIR_CMD_STATUS_BUSY = false → (12 ≤ p.val ∨ (u 1).pairSt p.val ≠ 1) →
      exec (.pairRetire who p) s = .next (((u 1).pairAnswer 2).hkaFollow (s.mbCount who) true)) ∧
    ((u 2).on FOL_PAIR_CMD_STATUS_BUSY = false → (12 ≤ p.val ∨ (u 2).pairSt p.val ≠ 2) →
      exec (.pairRestore who p) s = .next ((u 2).pairAnswer 2)) ∧
    ((u 3).on FOL_PAIR_CMD_STATUS_BUSY = false → (12 ≤ p.val ∨ (u 3).pairSt p.val ≠ 0) →
      exec (.migrate who p) s = .next ((u 3).pairAnswer 2)) ∧
    ((u 3).on FOL_PAIR_CMD_STATUS_BUSY = false → p.val < 12 → (u 3).pairSt p.val = 0 → (u 3).nextSpare.isNone = true →
      exec (.migrate who p) s = .next (((u 3).folNoticeNow 7 p.val 0).pairAnswer 1))) ∧
  (∀ (s : State) (m : MigJob), s.fol.mig = some m → (m.stopped = false ∨ s.rdI FOL_P_CURRENT_MODE m.from_ = 1) → s.fabricUp = true →
    exec .migrationMove s = .next (s.hkaFollow s true)) ∧
  (∀ (s t : State) (m : MigJob) (p : Nat), s.fabricUp = true → s.fol.mig = some m → m.stopped = true →
    s.rdI FOL_P_CURRENT_MODE m.from_ ≠ 1 → (s.onFol (fun e => { e with mig := none })).takeSpare = (some p, t) →
    let fs := t.pairFolios m.from_
    let u := fs.foldl (fun s f => if s.folioBg f then ((s.folMoving f).loseRuns f).2 else s.folMoving f) t
    exec .migrationMove s = .next (((((((u.wrI FOL_P_STATE m.from_ 2).moveTo fs p true).bump FOL_MOVES).flag
      FOL_TROUBLE_SUBSTITUTED).folNotice 2 m.from_ p (folMask fs) 0 m.tai m.at_ m.cycle).pairCmdEnd 0).folRefresh.hkaFollow s true))

/-- Logic scans start, commit their working image, or are abandoned when the budget runs out (R186, R187, R189, R191, R192,
R195, R205). While the engine runs and no scan is in progress, a scan starts at or after its earliest start: flips and a
RESTART are taken first, then the waiting force, then the snapshot. A scan whose EXECUTE has ended within the budget
commits: the working image, with the scan number, start time and status flags, becomes the committed image, STALLED and
CONSEC are cleared, the scan is counted, at most 64 event records are written and the rest counted as dropped, and the
output image reaches CTL. A scan whose budget has run out is abandoned and the working image discarded; with OVERRUN_MAX
abandoned in a row STALLED is set, with its event where it was not set. A start before its time, a commit before EXECUTE has
ended or after the budget, and an expiry before the budget has run out do nothing. A RING fault that a returned descriptor
or a delivered result raises on the way is taken at the end. -/
def Obligations.LogicScansRunAndCommit : Prop :=
  (∀ (s : State), s.fabricUp = true → s.lgeRuns = true → s.lge.scan = none → s.lge.nextAt ≤ s.now →
    let no := s.lge.scanNo + 1
    let a := ((((s.onLge (fun e => { e with scanNo := no })).lgeFlips no).lgeRestart no).forceAtSnapshot no)
    let o := a.ctlSnapshot no
    let sc : Scan := { no := no, at_ := o.2.now, startTai := o.2.taiNs, delta := a.lgeDelta, budget := o.2.rd LGE_SCAN_CFG_BUDGET_US,
                       period := o.2.rd LGE_SCAN_CFG_PERIOD_US, x := o.2.lgeX o.1, f := o.2.lgeF, g := o.2.lgeG }
    exec .scanStart s = .next ((((o.2.onLge (fun e => { e with scan := some sc })).lgeRefresh).takeRingFaults).gthImage
      s.lge.committed)) ∧
  (∀ (s : State) (c : Scan), s.fabricUp = true → s.lge.scan = some c → c.at_ + (s.scanRun c).n ≤ s.now → s.now ≤ c.at_ + c.budget * 1000 →
    let r := s.scanRun c
    let m := s.imgStamp (imgPut (imgPut (imgPut r.img 0 8 c.no) 8 8 c.startTai) 0x1C 4
      (b2n s.lge.overrunPrev + 2 * b2n (s.on LGE_STATUS_STALLED)))
    let a := s.onLge (fun e => { e with
      prev := e.committed, prevStart := e.lastStart, commitAt := s.now, committed := m, scan := none, lastStart := some c.at_,
      nextAt := s.afterScan c, first := false, tipin := false, overrunPrev := false, promoted := false, promotedNext := false, consec := 0 })
    let b := ((a.wr LGE_STATUS_STALLED 0).wr LGE_LAST_OVERRUN_CONSEC 0).wr LGE_SCAN_NO c.no
    let t := satNat 16 ((b.now - c.at_) / 100)
    let d := satNat 16 (c.delta / 1000)
    let v := ((((b.bump LGE_SCANS).wr LGE_SCAN_TIME_LAST t).wr LGE_SCAN_TIME_PEAK (max t (b.rd LGE_SCAN_TIME_PEAK))).wr
      LGE_SCAN_DELTA_LAST_DELTA d).wr LGE_SCAN_DELTA_MAX_DELTA (max d (b.rd LGE_SCAN_DELTA_MAX_DELTA))
    let w := (r.evts.take 64).foldl (fun s i =>
      s.eventLogic (Ent.STI_INDEX.of (s.useEnt 0x901 i)) c.startTai (Ent.STI_STABLE_ID.of (s.useEnt 0x901 i)) c.no) v
    let x := if 64 < r.evts.length then (w.bumpBy LGE_EVT_DROP (r.evts.length - 64)).flag LGE_TROUBLE_EVT_DROP else w
    exec .scanCommit s = .next ((((x.ctlCommit (imgY m) c.no).lgeRefresh).takeRingFaults).gthImage s.lge.committed)) ∧
  (∀ (stitch : BitVec 16) (s : State) (c : Scan), s.fabricUp = true → s.lge.scan = some c → c.at_ + c.budget * 1000 ≤ s.now →
    exec (.scanBudgetExpire stitch) s = .next ((s.scanAbandon c stitch.toNat).gthImage s.lge.committed)) ∧
  (∀ (s : State) (c : Scan) (stitch : Nat),
    let n := s.lge.consec + 1
    let a := s.onLge (fun e => { e with scan := none, consec := n, overrunPrev := true, nextAt := s.afterScan c })
    let b := ((((a.flag LGE_TROUBLE_OVERRUN).bump LGE_OVERRUNS).wr LGE_LAST_OVERRUN_STITCH stitch).wrSat LGE_LAST_OVERRUN_CONSEC n).wr
      LGE_LAST_OVERRUN_VALID 1
    let body := leBytes 8 c.no ++ leBytes 2 stitch ++ leBytes 1 (satNat 8 n)
    let d := b.eventAt 0x09 c.startTai body
    let lim := max 1 (d.rd LGE_OVERRUN_CFG_OVERRUN_MAX)
    s.scanAbandon c stitch = (if lim ≤ n ∧ d.on LGE_STATUS_STALLED = false then
      ((d.wr LGE_STATUS_STALLED 1).flag LGE_TROUBLE_STALLED).eventAt 0x0A c.startTai body else d).lgeRefresh) ∧
  (∀ (s : State), s.fabricUp = true → (s.lgeRuns = false ∨ s.lge.scan ≠ none ∨ s.now < s.lge.nextAt) →
    exec .scanStart s = .next (s.gthImage s.lge.committed)) ∧
  (∀ (s : State), s.fabricUp = true →
    (s.lge.scan = none ∨ (∃ c, s.lge.scan = some c ∧ (s.now < c.at_ + (s.scanRun c).n ∨ c.at_ + c.budget * 1000 < s.now))) →
    exec .scanCommit s = .next (s.gthImage s.lge.committed)) ∧
  (∀ (stitch : BitVec 16) (s : State), s.fabricUp = true →
    (s.lge.scan = none ∨ (∃ c, s.lge.scan = some c ∧ s.now < c.at_ + c.budget * 1000)) →
    exec (.scanBudgetExpire stitch) s = .next (s.gthImage s.lge.committed))

/-- An abandoned scan, and an image error, leave the committed image as it was (R192, R205). Whatever the state, neither the
running out of the scan budget nor an uncorrectable error in the committed image changes one byte of the committed image or
of the image that a quire carries, and after either no scan is in progress that was not so before. -/
def Obligations.AbandonedScansLeaveTheImage : Prop :=
  (∀ (stitch : BitVec 16) (s t : State), exec (.scanBudgetExpire stitch) s = .next t →
    t.lge.committed = s.lge.committed ∧ t.lge.quire = s.lge.quire ∧ (t.lge.scan = s.lge.scan ∨ t.lge.scan = none)) ∧
  (∀ (stitch : BitVec 16) (s t : State), exec (.imageEcc stitch) s = .next t →
    t.lge.committed = s.lge.committed ∧ t.lge.quire = s.lge.quire ∧ (t.lge.scan = s.lge.scan ∨ t.lge.scan = none))

/-- Forces of the logic image are set and released, and the logic engine is enabled, restarted and halted (R186, R189, R205,
R206, R207, R208). A GO of LGE_FORCE_CTRL while the engine runs or a scan is in progress begins the command, which waits for
the next snapshot with the identity and value of its registers; where the engine does not run it is carried out at once and
answered; in SHADOW it ends with result 5, and while another is BUSY with 6. SET writes a force entry of the named boolean
or integer, with value and time, into the slot that already holds it or the lowest free one; RELEASE clears the slot;
RELEASE_ALL clears every one. Each change writes event 0x0B, counts and sets FORCE_CHANGE. At the snapshot the waiting
command ends with its result. A write of LGE_CTRL.ENABLE sets or clears it and lets the scan in progress and the time of the
next one be. RESTART asks for a fresh image at the next scan start and leaves HALTED. An uncorrectable error in the
committed image of a loaded engine that is not halted abandons the scan in progress, halts the engine, sets IMAGE_ECC and
writes event 0x0E. In HALTED no scan starts. -/
def Obligations.ForcesAndLogicEngineControl : Prop :=
  ((∀ (who : Agent) (s : State), s.Admits who 0x90048 true →
     (let u := (s.mbCount who).wr LGE_FORCE_CTRL_OP 1
      u.on LGE_FORCE_STATUS_BUSY = false → (u.loaded = true → u.lgeRole = true) → (u.lgeRuns = true ∨ u.lge.scan ≠ none) →
      exec (.forceSet who) s = .next (((u.begin LGE_FORCE_STATUS_BUSY).onLge (fun e =>
        { e with force := some ⟨1, u.rd LGE_FORCE_ID, u.rd LGE_FORCE_VALUE⟩ })).gthImage (s.mbCount who).lge.committed)) ∧
     (let u := (s.mbCount who).wr LGE_FORCE_CTRL_OP 2
      u.on LGE_FORCE_STATUS_BUSY = false → (u.loaded = true → u.lgeRole = true) → (u.lgeRuns = true ∨ u.lge.scan ≠ none) →
      exec (.forceRelease who) s = .next (((u.begin LGE_FORCE_STATUS_BUSY).onLge (fun e =>
        { e with force := some ⟨2, u.rd LGE_FORCE_ID, u.rd LGE_FORCE_VALUE⟩ })).gthImage (s.mbCount who).lge.committed)) ∧
     (let u := (s.mbCount who).wr LGE_FORCE_CTRL_OP 3
      u.on LGE_FORCE_STATUS_BUSY = false → (u.loaded = true → u.lgeRole = true) → (u.lgeRuns = true ∨ u.lge.scan ≠ none) →
      exec (.forceReleaseAll who) s = .next (((u.begin LGE_FORCE_STATUS_BUSY).onLge (fun e =>
        { e with force := some ⟨3, u.rd LGE_FORCE_ID, u.rd LGE_FORCE_VALUE⟩ })).gthImage (s.mbCount who).lge.committed))) ∧
   (∀ (s : State) (op : Nat),
     let u := s.wr LGE_FORCE_CTRL_OP op
     (u.on LGE_FORCE_STATUS_BUSY = true → s.forceCmd op = u.answer LGE_FORCE_STATUS_DONE LGE_FORCE_STATUS_RESULT 6) ∧
     (u.on LGE_FORCE_STATUS_BUSY = false → u.loaded = true → u.lgeRole = false →
       s.forceCmd op = u.answer LGE_FORCE_STATUS_DONE LGE_FORCE_STATUS_RESULT 5) ∧
     (u.on LGE_FORCE_STATUS_BUSY = false → (u.loaded = true → u.lgeRole = true) → u.lgeRuns = false → u.lge.scan = none →
       let r := u.forceDo ⟨op, u.rd LGE_FORCE_ID, u.rd LGE_FORCE_VALUE⟩ u.lgeScanNo
       s.forceCmd op = (r.2.answer LGE_FORCE_STATUS_DONE LGE_FORCE_STATUS_RESULT r.1).lgeRefresh)) ∧
   (∀ (s : State) (c : ForceCmd) (scan : Nat), s.lge.force = some c →
     let r := (s.onLge (fun e => { e with force := none })).forceDo c scan
     s.forceAtSnapshot scan = r.2.finish LGE_FORCE_STATUS_BUSY LGE_FORCE_STATUS_DONE LGE_FORCE_STATUS_RESULT r.1) ∧
   (∀ (s : State) (id value scan j e i : Nat), findStable (s.used 0x902) id = some (j, e) →
     (Ent.IDN_KIND.of e = 1 ∨ Ent.IDN_KIND.of e = 2) →
     (imgForces s.lge.committed).find? (fun f => decide (Ent.FRC_STABLE_ID.of f.2 = id)) = none →
     (List.range 256).find? (fun i => !((imgForces s.lge.committed).any (fun f => f.1 == i))) = some i →
     s.forceDo ⟨1, id, value⟩ scan = (0, (s.forceChange i (Ent.FRC_STABLE_ID.mk' id + Ent.FRC_KIND.mk' (Ent.IDN_KIND.of e) +
       Ent.FRC_ACTIVE.mk' 1 + Ent.FRC_INDEX.mk' (Ent.IDN_INDEX.of e) + Ent.FRC_VALUE.mk' value + Ent.FRC_SET_TAI.mk' s.taiNs)
         1 id (Ent.IDN_KIND.of e) (value % 2 ^ 32) scan).wr LGE_FORCE_STATUS_SLOT i)) ∧
   (∀ (s : State) (id value scan j e : Nat) (f : Nat × Nat), findStable (s.used 0x902) id = some (j, e) →
     (Ent.IDN_KIND.of e = 1 ∨ Ent.IDN_KIND.of e = 2) →
     (imgForces s.lge.committed).find? (fun f => decide (Ent.FRC_STABLE_ID.of f.2 = id)) = some f →
     s.forceDo ⟨2, id, value⟩ scan = (0, s.forceChange f.1 0 2 id (Ent.IDN_KIND.of e) (Ent.FRC_VALUE.of f.2) scan)) ∧
   (∀ (s : State) (slot entry op id kind value scan : Nat),
     s.forceChange slot entry op id kind value scan =
       ((((s.onLge (fun e => { e with committed := imgPutForce e.committed slot entry })).event 0x0B
         (leBytes 4 id ++ leBytes 1 op ++ leBytes 1 kind ++ [0#8, 0#8] ++ leBytes 4 value ++ leBytes 8 scan)).bump LGE_FORCE_OPS).flag
           LGE_TROUBLE_FORCE_CHANGE))) ∧
  ((∀ (who : Agent) (s : State), s.Admits who 0x90004 false →
     let u := s.mbCount who
     exec (.lgeEnable who true) s = .next (((u.wr LGE_CTRL_ENABLE 1).lgeRefresh).gthImage u.lge.committed) ∧
     exec (.lgeEnable who false) s = .next (((u.wr LGE_CTRL_ENABLE 0).lgeRefresh).gthImage u.lge.committed)) ∧
   (∀ (who : Agent) (s : State), s.Admits who 0x90004 true →
     let u := s.mbCount who
     exec (.restart who) s = .next (((u.onLge (fun e => { e with restart := true, halted := false })).lgeRefresh).gthImage
       u.lge.committed)) ∧
   (∀ (stitch : BitVec 16) (s : State), s.fabricUp = true → (s.loaded = false ∨ s.lge.halted = true) →
     exec (.imageEcc stitch) s = .next (s.gthImage s.lge.committed)) ∧
   (∀ (stitch : BitVec 16) (s : State), s.fabricUp = true → s.loaded = true → s.lge.halted = false → s.lge.scan = none →
     let a := (s.onLge (fun e => { e with halted := true })).flag LGE_TROUBLE_IMAGE_ECC
     exec (.imageEcc stitch) s = .next (((a.event 0x0E (leBytes 8 a.lgeScanNo)).lgeRefresh).gthImage s.lge.committed)) ∧
   (∀ (stitch : BitVec 16) (s : State) (c : Scan), s.fabricUp = true → s.loaded = true → s.lge.halted = false → s.lge.scan = some c →
     let b := s.scanAbandon c stitch.toNat
     exec (.imageEcc stitch) s = .next (((((b.onLge (fun e => { e with halted := true })).flag LGE_TROUBLE_IMAGE_ECC).event 0x0E
       (leBytes 8 b.lgeScanNo)).lgeRefresh).gthImage s.lge.committed)) ∧
   (∀ (s : State), s.fabricUp = true → s.lge.halted = true → exec .scanStart s = .next (s.gthImage s.lge.committed)))

/-- Register commands enter the arrival buffer, and are refused with a result where a check fails (R217, R218, R228, R229). A
command given by the Supervisor through CTL_CMD_SUP, or by the chassis manager through CTL_CMD_CM, while its register is not
busy, is recorded there, sets BUSY, is counted, and where CTL is active and enabled, the object exists, none of the same
master for the object waits and fewer than 256 wait, joins the end of the arrival buffer as OPEN (1), CLOSE (2) or CANCEL
(3). A register used by the other agent, or while it is busy, sets WRONG_AGENT only. A full buffer ends the command with
0x0F, an object that is not enabled with 0x0D, a module that is not active with 0x0E, a code outside the three with 0x11,
and a folio that is no master with 8; a command of the same master that still waits for the object is replaced, and ends
with 5. With CTL_CTRL.ENABLE clear the spec names no code: the command ends with one of the 17 final codes, a free value
(log entry 21). -/
def Obligations.ControlCommandsArrive : Prop :=
  (∀ (who : Agent) (cm : Bool) (o : Fin 1024) (s : State), s.Admits who (0x160020 + 16 * b2n cm) true →
    (if cm then who = .mgmt else isSup who = true) → (s.mbCount who).onI CTL_CMD_STATUS_BUSY (b2n cm) = false →
    let v (code : Nat) := (((((s.mbCount who).wrI CTL_CMD_OBJECT (b2n cm) o.val).wrI CTL_CMD_CODE (b2n cm) code).wrI CTL_CMD_STATUS_BUSY
      (b2n cm) 1).wrI CTL_CMD_STATUS_EXECUTED (b2n cm) 0)
    let cmd (code : Nat) : CtlCmd := { src := b2n cm + 1, folio := 0, obj := o.val, code := code, tag := (v code).rdI CTL_CMD_TAG (b2n cm) }
    let free (code : Nat) : Prop := ((v code).bump CTL_CMDS).isActive = true ∧ ((v code).bump CTL_CMDS).on CTL_CTRL_ENABLE = true ∧
      objOn (((v code).bump CTL_CMDS).objEnt o.val) = true ∧
      (((v code).bump CTL_CMDS).ctl.arrivals.find? (fun b => b.sameMaster (cmd code) && b.obj == o.val)) = none ∧
      ((v code).bump CTL_CMDS).ctl.arrivals.length < 256
    (free 1 → exec (.ctlOpen who cm o) s = .next (((v 1).bump CTL_CMDS).onCtl (fun e => { e with arrivals := e.arrivals ++ [cmd 1] }))) ∧
    (free 2 → exec (.ctlClose who cm o) s = .next (((v 2).bump CTL_CMDS).onCtl (fun e => { e with arrivals := e.arrivals ++ [cmd 2] }))) ∧
    (free 3 → exec (.ctlCancel who cm o) s = .next (((v 3).bump CTL_CMDS).onCtl (fun e => { e with arrivals := e.arrivals ++ [cmd 3] })))) ∧
  (∀ (who : Agent) (cm : Bool) (o : Fin 1024) (s : State), s.Admits who (0x160020 + 16 * b2n cm) true →
    ((if cm then who ≠ .mgmt else isSup who = false) ∨ (s.mbCount who).onI CTL_CMD_STATUS_BUSY (b2n cm) = true) →
    exec (.ctlOpen who cm o) s = .next ((s.mbCount who).flag CTL_TROUBLE_WRONG_AGENT) ∧
    exec (.ctlClose who cm o) s = .next ((s.mbCount who).flag CTL_TROUBLE_WRONG_AGENT) ∧
    exec (.ctlCancel who cm o) s = .next ((s.mbCount who).flag CTL_TROUBLE_WRONG_AGENT)) ∧
  (∀ (s : State) (c : CtlCmd),
    let u := s.bump CTL_CMDS
    (u.isActive = false → s.ctlArrive c = u.ctlResult c 0 0x0E 0 false) ∧
    (u.isActive = true → u.on CTL_CTRL_ENABLE = true → 1 ≤ c.code → c.code ≤ 3 → objOn (u.objEnt c.obj) = false →
      s.ctlArrive c = u.ctlResult c 0 0x0D 0 false) ∧
    (u.isActive = true → u.on CTL_CTRL_ENABLE = false → s.ctlArrive c = u.fresh.2.ctlResult c 0 (1 + u.fresh.1 % 17) 0 false) ∧
    (u.isActive = true → u.on CTL_CTRL_ENABLE = true → ¬(1 ≤ c.code ∧ c.code ≤ 3) → s.ctlArrive c = u.ctlResult c 0 0x11 0 false) ∧
    (u.isActive = true → u.on CTL_CTRL_ENABLE = true → 1 ≤ c.code → c.code ≤ 3 → objOn (u.objEnt c.obj) = true → c.src = 0 →
      u.masterOf c = none → s.ctlArrive c = u.ctlResult c 0 8 0 false) ∧
    (∀ b, u.isActive = true → u.on CTL_CTRL_ENABLE = true → 1 ≤ c.code → c.code ≤ 3 → objOn (u.objEnt c.obj) = true → c.src ≠ 0 →
      u.ctl.arrivals.find? (fun b => b.sameMaster c && b.obj == c.obj) = some b →
      s.ctlArrive c = (u.onCtl (fun e => { e with arrivals := e.arrivals.erase b ++ [c] })).ctlResult b 0 5 0 false) ∧
    (u.isActive = true → u.on CTL_CTRL_ENABLE = true → 1 ≤ c.code → c.code ≤ 3 → objOn (u.objEnt c.obj) = true → c.src ≠ 0 →
      u.ctl.arrivals.find? (fun b => b.sameMaster c && b.obj == c.obj) = none → 256 ≤ u.ctl.arrivals.length →
      s.ctlArrive c = u.ctlResult c 0 0x0F 0 false))

/-- The waiting, operate, travel and position timers and an abort end an object's command (R223, R224, R225, R226, R227, R228).
A held command not decided within WAIT_MS ends with TIMEOUT (0x0B). When OPERATE_MS of an executing object runs out, an
object without position ends with SUCCESS (1) and the mark that it has no position, and one with position returns its
operate value to idle and travels on. An object with position that does not reach its end position within TRAVEL_MS ends
TRAVEL_FAIL (2) and sets FAULT. A position older than its timeAllowedToLive is no longer valid and sets POS_LOST. An abort
ends the object's command with 0x10, and does nothing without one. The operate value of a displaced command returns to idle
when that command's OPERATE_MS runs out. A timer that has not run out does nothing. The end of a command makes the object
idle, returns an operate value that is out, and delivers the result. A RING fault that a returned descriptor or a delivered
result raises on the way is taken at the end. -/
def Obligations.ControlTimersAndAborts : Prop :=
  (∀ (o : Fin 1024) (s : State), s.fabricUp = true →
    ((s.ctlObj o.val).st = 1 → (s.ctlObj o.val).latchAt + Ent.OBJ_WAIT_MS.of (s.objEnt o.val) * 1000000 ≤ s.now →
      exec (.ctlWaitTimeout o) s = .next (s.ctlEnd o.val 0x0B 0 false).takeRingFaults) ∧
    (∀ k t, (s.ctlObj o.val).out = some (k, t) →
      (t + Ent.OBJ_OPERATE_MS.of (s.objEnt o.val) * 1000000 ≤ s.now → exec (.operateTimeout o) s =
        .next ((s.setObj o.val { s.ctlObj o.val with out := none }).operateIdle (s.objEnt o.val)).takeRingFaults) ∧
      (s.now < t + Ent.OBJ_OPERATE_MS.of (s.objEnt o.val) * 1000000 → exec (.operateTimeout o) s = .next s.takeRingFaults)) ∧
    (((s.ctlObj o.val).st ≠ 1 ∨ s.now < (s.ctlObj o.val).latchAt + Ent.OBJ_WAIT_MS.of (s.objEnt o.val) * 1000000) →
      exec (.ctlWaitTimeout o) s = .next s.takeRingFaults) ∧
    ((s.ctlObj o.val).out = none → (((s.ctlObj o.val).st ≠ 2 ∧ (s.ctlObj o.val).st ≠ 3) ∨
      s.now < (s.ctlObj o.val).execAt + Ent.OBJ_OPERATE_MS.of (s.objEnt o.val) * 1000000) →
      exec (.operateTimeout o) s = .next s.takeRingFaults) ∧
    ((((s.ctlObj o.val).st ≠ 2 ∧ (s.ctlObj o.val).st ≠ 3) ∨ Ent.OBJ_POS_APPID.of (s.objEnt o.val) = 0 ∨
      s.now < (s.ctlObj o.val).execAt + Ent.OBJ_TRAVEL_MS.of (s.objEnt o.val) * 1000000) →
      exec (.travelTimeout o) s = .next s.takeRingFaults) ∧
    (((s.ctlObj o.val).posValid = false ∨ s.due (s.ctlObj o.val).talEnd = false) → exec (.positionTalExpire o) s = .next s) ∧
    ((s.ctlObj o.val).out = none → (s.ctlObj o.val).st = 3 → Ent.OBJ_POS_APPID.of (s.objEnt o.val) = 0 →
      (s.ctlObj o.val).execAt + Ent.OBJ_OPERATE_MS.of (s.objEnt o.val) * 1000000 ≤ s.now →
      exec (.operateTimeout o) s = .next (s.ctlEnd o.val 1 0 true).takeRingFaults) ∧
    ((s.ctlObj o.val).out = none → (s.ctlObj o.val).st = 2 →
      (s.ctlObj o.val).execAt + Ent.OBJ_OPERATE_MS.of (s.objEnt o.val) * 1000000 ≤ s.now →
      (Ent.OBJ_POS_APPID.of (s.objEnt o.val) = 0 → exec (.operateTimeout o) s = .next (s.ctlEnd o.val 1 0 true).takeRingFaults) ∧
      (Ent.OBJ_POS_APPID.of (s.objEnt o.val) ≠ 0 →
        exec (.operateTimeout o) s = .next ((s.setObj o.val { s.ctlObj o.val with st := 3 }).operateIdle (s.objEnt o.val)).takeRingFaults)) ∧
    (((s.ctlObj o.val).st = 2 ∨ (s.ctlObj o.val).st = 3) → Ent.OBJ_POS_APPID.of (s.objEnt o.val) ≠ 0 →
      (s.ctlObj o.val).execAt + Ent.OBJ_TRAVEL_MS.of (s.objEnt o.val) * 1000000 ≤ s.now →
      exec (.travelTimeout o) s = .next (s.ctlEnd o.val 2 0 false).takeRingFaults) ∧
    ((s.ctlObj o.val).posValid = true → s.due (s.ctlObj o.val).talEnd = true →
      exec (.positionTalExpire o) s =
        .next ((s.setObj o.val { s.ctlObj o.val with posValid := false, talEnd := none }).flag CTL_TROUBLE_POS_LOST))) ∧
  (∀ (who : Agent) (o : Fin 1024) (s : State), s.Admits who 0x160040 true →
    exec (.objectAbort who o) s =
      .next ((((s.mbCount who).wr CTL_OBJ_CTRL_OBJECT o.val).wr CTL_OBJ_CTRL_ABORT 1).ctlEnd o.val 0x10 0 false).takeRingFaults) ∧
  (∀ (s : State) (o code scan : Nat) (noPos : Bool) (c : CtlCmd), (s.ctlObj o).cmd = some c →
    let x := s.ctlObj o
    let a := s.setObj o { x with st := 0, cmd := none, fresh := false, out := none,
                                 fault := if code = 2 then true else if code = 1 then false else x.fault }
    s.ctlEnd o code scan noPos = (((if x.st = 2 ∨ x.out.isSome = true then a.operateIdle (a.objEnt o) else a).ctlHeldResult o x c code scan
      noPos).ctlRefresh)) ∧
  (∀ (s : State) (o code scan : Nat) (noPos : Bool), (s.ctlObj o).cmd = none → s.ctlEnd o code scan noPos = s)

/-- Position frames move the objects, ENABLE starts and stops CTL, and interlock answers decide a command (R216, R225, R226,
R230, R231, R232, R317). The position receiver takes the oldest frame given to it. A frame that did not enter on B0 or B1,
that is no GOOSE frame, or that is simulated while SIM_MODE is clear changes no object; any other reaches every object that
names its APPID. A position that is a 2-bit string is stored with its validity and the time to live, returns a displaced
operate value that it answers to idle, and one that equals the direction of the executing command completes it with SUCCESS;
any other member clears the validity and sets POS_LOST. A write of CTL_CTRL.ENABLE stores it and brings CTL_STATUS in line.
Every query, and every rising edge of IL_CLK, shows the clock present, and the second edge after the receipt of an image
applies it. In RUN the answer to a query with a correct parity bit and kind 0 or 1 about an enabled object, while the port
is enabled, the module active and the applied image fresh, is valid, with the permit bit of the applied image and an odd
parity bit. A query with wrong parity is counted, sets IL_PAR_ERR and is answered invalid. In any other power state the
outputs are high impedance. Where IL_CLK has been absent for 1 µs a received image is applied at once, which sets
IL_CLK_LOSS where the port is enabled. An image older than MAX_AGE_US sets IL_STALE and clears IL_IMAGE_OK. A RING fault
that a returned descriptor or a delivered result raises on the way is taken at the end. -/
def Obligations.PositionFramesAndInterlockAnswers : Prop :=
  ((∀ (s : State) (bs : List Byte) (rest : List (List Byte × Nat)) (appid tal : Nat) (sim : Bool) (data : List (Nat × List Byte)) (port : Nat),
     s.fabricUp = true → s.ctl.inbox = (bs, port) :: rest → (port = 16 ∨ port = 17) → readGoose bs = some (appid, tal, sim, data) →
     (sim = false ∨ (s.onCtl (fun e => { e with inbox := rest })).on CTL_CTRL_SIM_MODE = true) →
     exec .positionFrame s = .next ((s.used 0x1601).foldl (fun s e =>
       if decide (Ent.OBJ_POS_APPID.of e.2 = appid) && decide (appid ≠ 0) then s.ctlPosition e.1 tal data else s)
         (s.onCtl (fun e => { e with inbox := rest }))).takeRingFaults) ∧
   (∀ (s : State) (bs : List Byte) (rest : List (List Byte × Nat)) (port : Nat),
     s.fabricUp = true → s.ctl.inbox = (bs, port) :: rest → ((port ≠ 16 ∧ port ≠ 17) ∨ readGoose bs = none) →
     exec .positionFrame s = .next (s.onCtl (fun e => { e with inbox := rest })).takeRingFaults) ∧
   (∀ (s : State) (bs : List Byte) (rest : List (List Byte × Nat)) (appid tal : Nat) (data : List (Nat × List Byte)) (port : Nat),
     s.fabricUp = true → s.ctl.inbox = (bs, port) :: rest → readGoose bs = some (appid, tal, true, data) →
     (s.onCtl (fun e => { e with inbox := rest })).on CTL_CTRL_SIM_MODE = false →
     exec .positionFrame s = .next (s.onCtl (fun e => { e with inbox := rest })).takeRingFaults) ∧
   (∀ (s : State), s.fabricUp = true → s.ctl.inbox = [] → exec .positionFrame s = .next s.takeRingFaults) ∧
   (∀ (s : State) (o tal v : Nat) (data : List (Nat × List Byte)) (c : CtlCmd),
     dbpos data[Ent.OBJ_POS_MEMBER.of (s.objEnt o)]? = some v → (s.ctlObj o).cmd = some c →
     let x := s.ctlObj o
     let back := x.out.any (fun d => decide (d.1 = v))
     let y := s.setObj o { x with posWas := if x.posAt = s.now then x.posWas else x.pos,
                                  posWasValid := if x.posAt = s.now then x.posWasValid else x.posValid, posAt := s.now, posTai := s.taiNs,
                                  pos := v, posValid := true, talEnd := some (s.now + tal * 1000000), out := if back then none else x.out }
     let u := if back then y.operateIdle (s.objEnt o) else y
     s.ctlPosition o tal data = if (x.st = 2 ∨ x.st = 3) ∧ v = c.code then u.ctlEnd o 1 0 false else u) ∧
   (∀ (s : State) (o tal : Nat) (data : List (Nat × List Byte)), dbpos data[Ent.OBJ_POS_MEMBER.of (s.objEnt o)]? = none →
     let x := s.ctlObj o
     s.ctlPosition o tal data = (s.setObj o { x with posWas := if x.posAt = s.now then x.posWas else x.pos,
                                                     posWasValid := if x.posAt = s.now then x.posWasValid else x.posValid, posAt := s.now,
                                                     posTai := s.taiNs, posValid := false, talEnd := none }).flag CTL_TROUBLE_POS_LOST) ∧
   (∀ (who : Agent) (en : Bool) (s : State), s.Admits who 0x160004 false →
     exec (.ctlEnable who en) s = .next (((s.mbCount who).wrB CTL_CTRL_ENABLE en).ctlFollow))) ∧
  ((∀ (q : BitVec 12) (par : Bool) (s : State), s.fabricUp = true →
     let u := ((s.bump CTL_IL_QUERIES).onCtl (fun e => { e with ilQ := (q.toNat, par) })).ilRise
     let p := if ilParity q.toNat par then u else (u.bump CTL_IL_PAR_ERR).flag CTL_TROUBLE_IL_PAR_ERR
     let v := p.flagIf (p.ctl.il.isSome && p.ilStale) CTL_TROUBLE_IL_STALE
     (u.power = 3 → exec (.ilQuery q par) s = .next (v.onCtl (fun e => { e with ilOut := v.ilPort }))) ∧
     (u.power ≠ 3 → exec (.ilQuery q par) s = .next (u.onCtl (fun e => { e with ilOut := none })))) ∧
   (∀ (s : State) (i : IlImage), s.ctl.il = some i → s.power = 3 → ilParity s.ctl.ilQ.1 s.ctl.ilQ.2 = true →
     s.ctl.ilQ.1 / 1024 % 4 < 2 → objOn (s.objEnt (s.ctl.ilQ.1 % 1024)) = true → s.on CTL_CTRL_PORT_EN = true → s.isActive = true →
     s.ilStale = false →
     let permit := bitAt (if s.ctl.ilQ.1 / 1024 % 4 = 0 then i.openMask else i.closeMask) (s.ctl.ilQ.1 % 1024)
     s.ilPort = some (permit, true, permit)) ∧
   (∀ (s : State), s.power = 3 → (ilParity s.ctl.ilQ.1 s.ctl.ilQ.2 = false ∨ 2 ≤ s.ctl.ilQ.1 / 1024 % 4 ∨ s.on CTL_CTRL_PORT_EN = false ∨
     s.isActive = false ∨ s.ilStale = true) → s.ilPort = some (false, false, true)) ∧
   (∀ (s : State), s.power ≠ 3 → s.ilPort = none) ∧
   (∀ (s : State), s.fabricUp = true → exec .ilImageApply s = .next s.ilRise) ∧
   (∀ (s : State) (i : IlImage), s.ctl.ilNext = some i → s.ctl.ilEdges = 1 →
     let a := (s.wr CTL_STATUS_IL_CLK_PRESENT 1).onCtl (fun e => { e with ilEdge := some s.now, ilEdges := 2 })
     let b := (a.onCtl (fun e => { e with il := some i, ilNext := none, ilEdges := 0 })).wr CTL_IL_IMAGE_SCAN_SCAN_LO (i.scanNo % 2 ^ 32)
     s.ilRise = b.wrB CTL_STATUS_IL_IMAGE_OK !b.ilStale) ∧
   (∀ (s : State), s.ctl.ilEdges = 0 →
     let a := (s.wr CTL_STATUS_IL_CLK_PRESENT 1).onCtl (fun e => { e with ilEdge := some s.now, ilEdges := 1 })
     s.ilRise = a.wrB CTL_STATUS_IL_IMAGE_OK !a.ilStale) ∧
   (∀ (s : State), s.fabricUp = true →
     let b := ((s.wr CTL_STATUS_IL_CLK_PRESENT 0).flagIf (s.on CTL_CTRL_PORT_EN) CTL_TROUBLE_IL_CLK_LOSS).ilApply
     (s.ctl.ilEdge = none ∨ (∃ t, s.ctl.ilEdge = some t ∧ t + 1000 ≤ s.now) →
       exec .ilClkLoss s = .next (b.wrB CTL_STATUS_IL_IMAGE_OK !b.ilStale)) ∧
     (∀ t, s.ctl.ilEdge = some t → s.now < t + 1000 → exec .ilClkLoss s = .next s)) ∧
   (∀ (s : State), (s.ctl.il.isSome = false ∨ s.ilStale = false) → exec .ilStale s = .next s) ∧
   (∀ (s : State), s.fabricUp = true → s.ctl.il.isSome = true → s.ilStale = true →
     exec .ilStale s = .next ((s.flag CTL_TROUBLE_IL_STALE).wr CTL_STATUS_IL_IMAGE_OK 0)))

/-- A full load fetches its container, may fall back to the other slot once, and can be aborted (R37, R48, R49, R51, R54, R451,
R452). LOAD from slot A, slot B or the staging window, with nothing loaded, no load in progress or failed, no SAFE state and
none waiting, starts FETCH once start-up has passed DECIDE and VWARN is high, and waits otherwise; in any other case it does
nothing but store SRC. When the container has been fetched its slot colophon, readability and header are checked, and the
SIGNATURE phase begins with the record of whether the key is usable. A colophon that is not valid or not the container's
ends the load with 0x1B, a slot that cannot be read with 0x0C and STORE_ERR, a bad header with its code. An ABORT ends a
load in progress with ABORTED, and does nothing where there is none. A load that ends with a code, from a slot, with
FALLBACK_EN, and neither by tamper, power or abort (no second attempt after an abort is the model's choice, log entry 44),
starts FETCH once from the other slot; any other ends FAILED with EP_LOCK. -/
def Obligations.FullLoadsBeginAndAbort : Prop :=
  (∀ (who : Agent) (src : Fin 3) (s : State), s.Admits who 0x10004 true →
    let u := (s.mbCount who).wr BND_CTRL_SRC src.val
    u.on BND_STATUS_BUSY = false → u.loaded = false → u.rd BND_STATUS_PHASE ≠ 9 → u.on BST_STATUS_SAFE = false → u.bnd.wait = none →
    (u.decided = true → u.on SYS_SUPPLY_STATUS_VWARN = false →
      exec (.load who src.castSucc) s = .next ((((((u.onBnd (fun b => { b with
        load := some { src := src.val, fallback := false, bytes := if src.val = 2 then u.staged else (u.bndSlot src.val).image },
        wait := none })).wr BND_STATUS_BUSY 1).wr BND_STATUS_PHASE 1).wr BND_FLOOR u.bnd.floor).wr BND_TIP_SEQ 0))) ∧
    ((u.decided = false ∨ u.on SYS_SUPPLY_STATUS_VWARN = true) →
      exec (.load who src.castSucc) s = .next (u.onBnd (fun b => { b with wait := some src.val })))) ∧
  (∀ (who : Agent) (src : Fin 4) (s : State), s.Admits who 0x10004 true →
    let u := (s.mbCount who).wr BND_CTRL_SRC src.val
    (u.on BND_STATUS_BUSY = true ∨ u.loaded = true ∨ u.rd BND_STATUS_PHASE = 9 ∨ u.on BST_STATUS_SAFE = true ∨ src.val = 3 ∨
      u.bnd.wait.isSome = true) →
    exec (.load who src) s = .next u) ∧
  (∀ (s : State) (j : LoadJob), s.Runs 1 → s.clk 16 = true → s.bnd.load = some j → s.rd BND_STATUS_PHASE = 1 →
    (j.src < 2 → colophonValid (s.bndSlot j.src).colophon = true ∧ (s.bndSlot j.src).colophon = colophonOf j.bytes) →
    headerBad j.bytes 1 = none →
    exec (.loadFetchDone false) s = .next ((s.wr BND_STATUS_PHASE 3).onLoad (fun j => { j with keyOk := s.bndKeyOk j.bytes }))) ∧
  (∀ (s : State) (j : LoadJob), s.Runs 1 → s.clk 16 = true → s.bnd.load = some j → s.rd BND_STATUS_PHASE = 1 →
    (∀ e, j.src < 2 → colophonValid (s.bndSlot j.src).colophon = false → exec (.loadFetchDone e) s = .next (s.bndFail 0x1B 0)) ∧
    (j.src < 2 → colophonValid (s.bndSlot j.src).colophon = true →
      exec (.loadFetchDone true) s = .next ((s.flag BND_TROUBLE_STORE_ERR).bndFail 0x0C 0)) ∧
    (∀ code i, (j.src < 2 → colophonValid (s.bndSlot j.src).colophon = true) → headerBad j.bytes 1 = some (code, i) →
      exec (.loadFetchDone false) s = .next (s.bndFail code i)) ∧
    (j.src < 2 → colophonValid (s.bndSlot j.src).colophon = true → headerBad j.bytes 1 = none →
      (s.bndSlot j.src).colophon ≠ colophonOf j.bytes → exec (.loadFetchDone false) s = .next (s.bndFail 0x1B 0))) ∧
  (∀ (e : Bool) (s : State), s.Runs 1 → s.rd BND_STATUS_PHASE ≠ 1 → exec (.loadFetchDone e) s = .next s) ∧
  (∀ (who : Agent) (s : State), s.Admits who 0x10004 true → (s.mbCount who).on BND_STATUS_BUSY = false →
    exec (.loadAbort who) s = .next (s.mbCount who)) ∧
  (∀ (who : Agent) (s : State) (j : LoadJob), s.Admits who 0x10004 true → (s.mbCount who).on BND_STATUS_BUSY = true →
    (s.mbCount who).bnd.load = some j →
    let u := ((s.mbCount who).wr BND_STATUS_FAIL_CODE 0xF).wr BND_STATUS_FAIL_SECTION 0
    exec (.loadAbort who) s = .next (((((u.onBnd (fun b => { b with load := none })).wr BND_STATUS_PHASE 9).wr BND_STATUS_BUSY 0).wr
      BND_STATUS_EP_LOCK 1).flag BND_TROUBLE_LOAD_FAIL)) ∧
  (∀ (s : State) (j : LoadJob) (code idx : Nat), s.bnd.load = some j →
    let u := (s.wr BND_STATUS_FAIL_CODE code).wr BND_STATUS_FAIL_SECTION idx
    (j.src < 2 → j.fallback = false → u.on BND_BOOT_CFG_FALLBACK_EN = true → code ≠ 0x0D → code ≠ 0x0E → code ≠ 0x0F →
      s.bndFail code idx = (u.flag BND_TROUBLE_FALLBACK_USED).bndFetch (1 - j.src) true) ∧
    ((2 ≤ j.src ∨ j.fallback = true ∨ u.on BND_BOOT_CFG_FALLBACK_EN = false ∨ code = 0x0D ∨ code = 0x0E ∨ code = 0x0F) →
      s.bndFail code idx = ((((u.onBnd (fun b => { b with load := none })).wr BND_STATUS_PHASE 9).wr BND_STATUS_BUSY 0).wr
        BND_STATUS_EP_LOCK 1).flag BND_TROUBLE_LOAD_FAIL))

/-- The signature, Endpaper, fill, journal and check phases of a full load (R41, R42, R46, R47, R49, R52, R53). In the SIGNATURE
phase, with the key store unsealed, a container whose signature fails ends the load with that code. One that holds and is
not below the floor has its Endpaper applied, the tables emptied and every section filled, and goes on to JOURNAL where the
source slot has journal entries and to CHECK otherwise; one below the floor ends with ROLLBACK (8). Each whole journal entry
is verified as a tip-in and applied, and a failing or torn one sets JOURNAL_TRUNC and ends the phase. When the check finds a
section's content bad the load ends CONTENT (0x0B) with the section; otherwise it reaches READY. Once the keys are zeroized
the load ends with TAMPER (0x0D), with none unsealed the signature waits, and in any other phase the three rows change
nothing. -/
def Obligations.FullLoadsVerifyFillAndBecomeReady : Prop :=
  (∀ (s : State) (j : LoadJob), s.Runs 16 → s.bnd.load = some j → s.rd BND_STATUS_PHASE = 3 → s.rd KEY_STATUS_STATE = 2 →
    exec .loadSignatureDone s = .next (
      let r := s.bndSignature j.bytes j.keyOk
      if r.1 ≠ 0 then r.2.bndFail r.1 0
      else if imageVersion j.bytes < r.2.bnd.floor then r.2.bndFail 8 0
      else match r.2.applyEpap j.bytes with
        | (some (code, i), t) => t.bndFail code i
        | (none, t) => match ({ t with tables := tableIds.map (fun i => { id := i }) } : State).applySecs j.bytes (sections.drop 1) with
          | (some (code, i), t) => t.bndFail code i
          | (none, t) => t.wr BND_STATUS_PHASE (if t.loadJournal j = [] then 7 else 6))) ∧
  (∀ (s : State) (j : LoadJob) (bs : List Byte), s.Runs 16 → s.bnd.load = some j → s.rd BND_STATUS_PHASE = 6 →
    (s.loadJournal j)[j.entry]? = some (bs, true) →
    exec .loadJournalEntry s = .next (
      match s.verifyTip bs (signedDigest j.bytes) false false with
      | (.inl _, t) => (t.flag BND_TROUBLE_JOURNAL_TRUNC).wr BND_STATUS_PHASE 7
      | (.inr tb, t) =>
        let a := tb.foldl (fun s x => (s.fillTabs x.1 x.2).fillRegs x.1 x.2) t
        let b := if tipHas tb secLogc then a.onLge (fun e => { e with digest := (dirEnt bs (dirIndex bs secLogc.tag)).digest }) else a
        let c := ((b.wr BND_TIP_SEQ (imageVersion bs)).onBnd (fun x => {
          x with confirmed := (imageVersion bs, (signedDigest bs).take 8) })).onLoad (fun j => { j with entry := j.entry + 1 })
        if j.entry + 1 < (c.loadJournal j).length then c else c.wr BND_STATUS_PHASE 7)) ∧
  (∀ (s : State) (j : LoadJob), s.Runs 16 → s.bnd.load = some j → s.rd BND_STATUS_PHASE = 3 → s.rd KEY_STATUS_STATE = 3 →
    exec .loadSignatureDone s = .next (s.bndFail 0x0D 0)) ∧
  (∀ (s : State), s.Runs 16 → (s.rd BND_STATUS_PHASE ≠ 3 ∨ s.rd KEY_STATUS_STATE < 2) → exec .loadSignatureDone s = .next s) ∧
  (∀ (s : State), s.Runs 16 → s.rd BND_STATUS_PHASE ≠ 6 → exec .loadJournalEntry s = .next s) ∧
  (∀ (s : State), s.fabricUp = true → s.rd BND_STATUS_PHASE ≠ 7 → exec .loadCheckDone s = .next s.ptpRefresh) ∧
  (∀ (s : State) (j : LoadJob), s.Runs 16 → s.bnd.load = some j → s.rd BND_STATUS_PHASE = 6 →
    (s.loadJournal j)[j.entry]? = none → exec .loadJournalEntry s = .next (s.wr BND_STATUS_PHASE 7)) ∧
  (∀ (s : State) (j : LoadJob) (bs : List Byte), s.Runs 16 → s.bnd.load = some j → s.rd BND_STATUS_PHASE = 6 →
    (s.loadJournal j)[j.entry]? = some (bs, false) →
    exec .loadJournalEntry s = .next ((s.flag BND_TROUBLE_JOURNAL_TRUNC).wr BND_STATUS_PHASE 7)) ∧
  (∀ (s : State) (j : LoadJob), s.fabricUp = true → s.bnd.load = some j → s.rd BND_STATUS_PHASE = 7 →
    (s.loadBad = none → exec .loadCheckDone s = .next ((s.bndReady j).ptpRefresh)) ∧
    (∀ c, s.loadBad = some c → exec .loadCheckDone s = .next ((s.bndFail 0x0B (dirIndex j.bytes c.tag)).ptpRefresh)))

/-- BND_STAGE_WR appends four bytes to the staging window and changes nothing else (R56). A write of BND_STAGE_LEN stores the
length and returns the running offset to 0. A write of BND_STAGE_WR within the window's 64 MiB stores its four bytes, the
most significant first, at the window's address plus the running offset, and advances the offset by 4: each of those four
addresses then reads its byte, every other address of the memory reads as before, and the registers, the tables and the rest
of the loader are unchanged. Beyond 64 MiB it changes nothing (the model's choice, log entry 26). -/
def Obligations.StagingWindowTakesBytes : Prop :=
  (∀ (who : Agent) (len : BitVec 27) (s : State), s.Admits who 0x10048 false →
    exec (.stageLenWrite who len) s = .next (((s.mbCount who).wr BND_STAGE_LEN len.toNat).onBnd (fun b => { b with stageOff := 0 }))) ∧
  (∀ (who : Agent) (d : BitVec 32) (s : State), s.Admits who 0x1004C false →
    let u := s.mbCount who
    let a := u.stageAddr + u.bnd.stageOff
    (u.bnd.stageOff < 2 ^ 26 →
      ∃ t, exec (.stageWrite who d) s = .next t ∧ t.bnd = { u.bnd with stageOff := u.bnd.stageOff + 4 } ∧ t.regs = u.regs ∧
        t.tables = u.tables ∧ t.dramGen = u.dramGen ∧ t.dram.read? a = some (BitVec.ofNat 8 (d.toNat / 2 ^ 24)) ∧
        t.dram.read? (a + 1) = some (BitVec.ofNat 8 (d.toNat / 2 ^ 16)) ∧ t.dram.read? (a + 2) = some (BitVec.ofNat 8 (d.toNat / 2 ^ 8)) ∧
        t.dram.read? (a + 3) = some (BitVec.ofNat 8 d.toNat) ∧
        ∀ c, (c < a ∨ a + 3 < c) → t.dram.read? c = u.dram.read? c) ∧
    (2 ^ 26 ≤ u.bnd.stageOff → exec (.stageWrite who d) s = .next u))

/-- STAGE, ARM, CONFIRM, REVERT and DISCARD act in their states, and answer BUSY in any other (R36, R55, R56, R59, R383). STAGE
in IDLE with no load or store operation in progress takes the staged container into VERIFYING. Verification that succeeds
fills the shadow banks and gives STAGED with the section mask; one that fails ends IDLE with its code. ARM of a STAGED
tip-in for a boundary at least 100 µs ahead gives ARMED; for a nearer or past one it leaves STAGED with TARGET (0x19).
CONFIRM of a COMMITTED tip-in begins the journal append where the policy has a journal and a slot is active, and takes
effect at once otherwise. REVERT of a COMMITTED tip-in gives REVERTING for the cycle in progress. DISCARD ends one that is
not committed. In any other state, and where a load or a store operation stands in the way, each sets FAIL_CODE = BUSY
(0x14) and nothing else; REVERT on the active module of a twin pair also orders its standby. The two rows change nothing
where what they end is not in progress. -/
def Obligations.TipInCommandsFollowTheirStates : Prop :=
  (∀ (who : Agent) (s : State), s.Admits who 0x10050 true →
    let u := s.mbCount who
    (u.tipSt = 0 → u.on BND_STATUS_BUSY = false → u.bnd.store = none →
      exec (.stage who) s = .next ((u.onBnd (fun b => { b with tip := some {
        bytes := u.staged, mask := 0, digest := signedDigest u.staged, seq := imageVersion u.staged,
        keyOk := u.bndKeyOk u.staged } })).wr BND_TIP_STATUS_STATE 1)) ∧
    ((u.tipSt ≠ 0 ∨ u.on BND_STATUS_BUSY = true ∨ u.bnd.store.isSome = true) →
      exec (.stage who) s = .next (u.wr BND_TIP_STATUS_FAIL_CODE 0x14)) ∧
    (let n := if u.rd BND_TIP_TARGET = 0 then u.firstBoundary else u.rd BND_TIP_TARGET
     u.tipSt = 2 →
     (u.cycle ≤ n → u.taiNs + 100000 ≤ u.boundary n →
       exec (.arm who) s = .next ((((u.onTip (fun t => { t with target := n, checked := none })).wr BND_TIP_STATUS_DEFERRALS 0).wr
         BND_TIP_STATUS_STATE 3).folRefresh)) ∧
     (n < u.cycle ∨ u.boundary n < u.taiNs + 100000 →
       exec (.arm who) s = .next ((u.wr BND_TIP_STATUS_FAIL_CODE 0x19).flag BND_TROUBLE_TIP_FAIL))) ∧
    (u.tipSt ≠ 2 → exec (.arm who) s = .next (u.wr BND_TIP_STATUS_FAIL_CODE 0x14)) ∧
    (∀ t, u.bnd.tip = some t → u.tipSt = 4 → u.bnd.store = none →
      ((u.activeSlot = none ∨ u.on BND_EP_POLICY_JOURNAL_EN = false) →
        exec (.confirm who) s = .next (((((u.wr BND_TIP_SEQ t.seq).onBnd (fun b => {
          b with confirmed := (t.seq, t.digest.take 8) })).releaseRetired).tipEvent 3 t.seq t.commit).tipIdle)) ∧
      (∀ k, u.activeSlot = some k → u.on BND_EP_POLICY_JOURNAL_EN = true →
        exec (.confirm who) s = .next ((u.setBndSlot k { u.bndSlot k with journal := (u.bndSlot k).whole ++ [(t.bytes, false)] }).onBnd
          (fun b => { b with store := some { op := 3, slot := k, bytes := t.bytes, seq := t.seq } })))) ∧
    ((u.tipSt ≠ 4 ∨ u.bnd.store.isSome = true) → exec (.confirm who) s = .next (u.wr BND_TIP_STATUS_FAIL_CODE 0x14)) ∧
    (u.tipSt = 4 → u.bnd.store = none → u.role = 1 →
      let v := (((u.onTip (fun t => { t with target := u.cycle, checked := none })).wr BND_TIP_STATUS_DEFERRALS 0).wr
        BND_TIP_STATUS_STATE 5).folRefresh
      v.role = 1 → exec (.revert who) s = .next v) ∧
    (u.tipSt = 4 → u.bnd.store = none → u.role = 3 → u.tipReverting.role = 3 →
      exec (.revert who) s = .next (u.tipReverting.onTwn (fun t => { t with order := (3, u.tipReverting.tipTarget) }))) ∧
    ((u.tipSt ≠ 4 ∨ u.bnd.store.isSome = true ∨ u.role = 5 ∨ u.role = 6) → exec (.revert who) s = .next (u.wr BND_TIP_STATUS_FAIL_CODE 0x14)) ∧
    ((u.tipSt = 1 ∨ u.tipSt = 2 ∨ u.tipSt = 3) →
      exec (.discard who) s = .next (((((u.wr BND_TIP_STATUS_FAIL_CODE 0x0F).flag BND_TROUBLE_TIP_FAIL).clearShadows).tipIdle).folRefresh)) ∧
    (¬(u.tipSt = 1 ∨ u.tipSt = 2 ∨ u.tipSt = 3) → exec (.discard who) s = .next (u.wr BND_TIP_STATUS_FAIL_CODE 0x14))) ∧
  (∀ (s : State) (t : TipJob), s.Runs 16 → s.bnd.tip = some t → s.tipSt = 1 → s.lge.flips = [] → s.keysReady = true →
    exec .tipinVerified s = .next (
      match s.verifyTip t.bytes s.bindingDigest t.keyOk true with
      | (.inl code, u) => u.tipFail code
      | (.inr tb, u) => (((u.fillShadows t.bytes tb).onTip (fun t => { t with mask := tipMask tb })).wr BND_TIP_STATUS_SECTIONS
          (tipMask tb)).wr BND_TIP_STATUS_STATE 2)) ∧
  (∀ (s : State) (j : StoreJob), s.fabricUp = true → s.bnd.store = some j → j.op = 3 →
    exec .tipinJournalAppended s = .next (((s.setBndSlot j.slot { s.bndSlot j.slot with
      journal := (s.bndSlot j.slot).whole ++ [(j.bytes, true)] }).onBnd (fun b => { b with store := none })).tipConfirmed)) ∧
  (∀ (s : State), s.Runs 16 → (s.tipSt ≠ 1 ∨ s.lge.flips ≠ [] ∨ s.keysReady = false) → exec .tipinVerified s = .next s) ∧
  (∀ (s : State), s.fabricUp = true → (∀ j, s.bnd.store = some j → j.op ≠ 3) → exec .tipinJournalAppended s = .next s)

/-- The commit check passes or defers an armed tip-in, and an unconfirmed one reverts in time (R55, R58, R59, R383). Twenty
microseconds before its target boundary an armed or reverting tip-in that is not yet checked, on a module that follows no
active twin, is checked: where every cycle up to the target is resolved, no substitution runs, no logic flip waits and (for
a commit) the twin has the same tip-in armed, the target is marked as passed; otherwise the target moves on by one boundary,
a deferral is counted, and a commit that reaches MAX_DEFER deferrals fails with 0x15, or with 0x18 where only the twin's
tip-in was wanting. On the active module of a twin pair the check also orders the standby. Before that time nothing is
checked. When REVERT_TIMEOUT cycles have passed since the commit of a tip-in that is not confirmed, a revert is scheduled
for the cycle in progress; before, and with a timeout of 0, nothing is. -/
def Obligations.TipInCommitCheckAndTimeout : Prop :=
  (∀ (s : State) (t : TipJob), s.fabricUp = true → s.bnd.tip = some t → (s.tipSt = 3 ∨ s.tipSt = 5) → s.tipFollows = false →
    t.checked = none → s.boundary t.target ≤ s.taiNs + 20000 →     let own := s.resolvedTo t.target && s.fol.subs.isEmpty && decide (s.lge.flips = [])
    let ok := own && (decide (s.tipSt = 5) || s.twinTipOk)
    let told (k : Nat) : State := if s.role = 3 then s.onTwn (fun x => { x with order := (k, t.target) }) else s
    (ok = true → exec .tipinCommitCheck s = .next ((told (if s.tipSt = 5 then 3 else 1)).onTip (fun x => {
      x with checked := some (t.target, true) }))) ∧
    (ok = false → exec .tipinCommitCheck s = .next ((told 2).tipDefer t.target (if own then 0x18 else 0x15)))) ∧
  (∀ (s : State) (n code : Nat),
    let d := min 15 (s.rd BND_TIP_STATUS_DEFERRALS + 1)
    let u := ((s.wr BND_TIP_STATUS_DEFERRALS d).flag BND_TROUBLE_TIP_DEFERRED).onTip (fun t => { t with target := n + 1, checked := none })
    s.tipDefer n code = if u.tipSt = 3 ∧ max 1 (u.rd BND_TIP_CFG_MAX_DEFER) ≤ d then u.tipFail code else u.folRefresh) ∧
  (∀ (s : State) (t : TipJob), s.fabricUp = true → s.bnd.tip = some t → s.taiNs + 20000 < s.boundary t.target →
    exec .tipinCommitCheck s = .next s) ∧
  (∀ (s : State), s.fabricUp = true → s.tipSt = 4 → s.rd BND_TIP_CFG_REVERT_TIMEOUT ≠ 0 →
    s.rd BND_TIP_COMMIT + s.rd BND_TIP_CFG_REVERT_TIMEOUT + 1 ≤ s.cycle → s.bnd.store = none → s.role = 1 →
    let v := (((s.onTip (fun t => { t with target := s.cycle, checked := none })).wr BND_TIP_STATUS_DEFERRALS 0).wr
      BND_TIP_STATUS_STATE 5).folRefresh
    v.role = 1 → exec .revertTimeout s = .next v) ∧
  (∀ (s : State), s.fabricUp = true → s.tipSt = 4 → s.rd BND_TIP_CFG_REVERT_TIMEOUT ≠ 0 →
    s.rd BND_TIP_COMMIT + s.rd BND_TIP_CFG_REVERT_TIMEOUT + 1 ≤ s.cycle → s.bnd.store = none → s.role = 3 → s.tipReverting.role = 3 →
    exec .revertTimeout s = .next (s.tipReverting.onTwn (fun t => { t with order := (3, s.tipReverting.tipTarget) }))) ∧
  (∀ (s : State), s.fabricUp = true → (s.tipSt ≠ 4 ∨ s.rd BND_TIP_CFG_REVERT_TIMEOUT = 0 ∨
    s.cycle < s.rd BND_TIP_COMMIT + s.rd BND_TIP_CFG_REVERT_TIMEOUT + 1) → exec .revertTimeout s = .next s)

/-- PROGRAM and ERASE_JOURNAL work on the slot that is not active (R35, R36, R37, R52, R54). PROGRAM and ERASE_JOURNAL of a
slot, with no store operation and no load in progress, begin and set BUSY; on the active slot they are refused with 0x1A and
STORE_ERR, and while another operation or a load is in progress with 0x14. PROGRAM ends with the container and its colophon
in the slot and an empty journal, DONE set, where header, signature and floor hold; otherwise with the code and STORE_ERR,
and the slot as it was. ERASE_JOURNAL ends with an empty journal and DONE. A slot that has become the active one, or that a
load reads, meanwhile is left as it was, and the operation ends with 0x1A (the model's choice, log entry 44). The two rows
change nothing where no such operation is in progress. -/
def Obligations.StoreCommandsWriteSlots : Prop :=
  (∀ (who : Agent) (slot : Bool) (s : State), s.Admits who 0x10078 true →
    let u := (s.mbCount who).wr BND_STORE_CTRL_TARGET_SLOT (b2n slot)
    (u.bnd.store = none → u.on BND_STATUS_BUSY = false → u.activeSlot ≠ some (b2n slot) →
      exec (.program who slot) s = .next ((u.onBnd (fun b => { b with store := some { op := 1, slot := b2n slot, bytes := u.staged, keyOk := u.bndKeyOk u.staged } })).wr
        BND_STORE_STATUS_BUSY 1) ∧
      exec (.eraseJournal who slot) s = .next ((u.onBnd (fun b => { b with store := some { op := 2, slot := b2n slot } })).wr
        BND_STORE_STATUS_BUSY 1)) ∧
    (u.bnd.store = none → u.on BND_STATUS_BUSY = false → u.activeSlot = some (b2n slot) →
      exec (.program who slot) s = .next ((u.wr BND_STORE_STATUS_FAIL_CODE 0x1A).flag BND_TROUBLE_STORE_ERR) ∧
      exec (.eraseJournal who slot) s = .next ((u.wr BND_STORE_STATUS_FAIL_CODE 0x1A).flag BND_TROUBLE_STORE_ERR)) ∧
    ((u.bnd.store.isSome = true ∨ u.on BND_STATUS_BUSY = true) →
      exec (.program who slot) s = .next ((u.wr BND_STORE_STATUS_FAIL_CODE 0x14).flag BND_TROUBLE_STORE_ERR) ∧
      exec (.eraseJournal who slot) s = .next ((u.wr BND_STORE_STATUS_FAIL_CODE 0x14).flag BND_TROUBLE_STORE_ERR))) ∧
  (∀ (s : State) (j : StoreJob), s.fabricUp = true → s.bnd.store = some j → j.op = 1 → s.keysReady = true → headerBad j.bytes 1 = none →
    exec .storeWriteDone s = .next (
      let r := s.bndSignature j.bytes j.keyOk
      if r.1 ≠ 0 then r.2.storeEnd.storeFail r.1
      else if imageVersion j.bytes < r.2.bnd.floor then r.2.storeEnd.storeFail 8
      else if r.2.slotTaken j.slot then r.2.storeEnd.storeFail 0x1A
      else ((r.2.setBndSlot j.slot { image := j.bytes, colophon := colophonOf j.bytes, journal := [] }).storeEnd).flag
        BND_STORE_STATUS_DONE)) ∧
  (∀ (s : State) (j : StoreJob) (code idx : Nat), s.fabricUp = true → s.bnd.store = some j → j.op = 1 → s.keysReady = true →
    headerBad j.bytes 1 = some (code, idx) → exec .storeWriteDone s = .next (s.storeEnd.storeFail code)) ∧
  (∀ (s : State) (j : StoreJob), s.fabricUp = true → s.bnd.store = some j → j.op = 2 →
    (s.slotTaken j.slot = false → exec .journalEraseDone s =
      .next (((s.setBndSlot j.slot { s.bndSlot j.slot with journal := [] }).storeEnd).flag BND_STORE_STATUS_DONE)) ∧
    (s.slotTaken j.slot = true → exec .journalEraseDone s = .next (s.storeEnd.storeFail 0x1A))) ∧
  (∀ (s : State), s.fabricUp = true →
    ((∀ j, s.bnd.store = some j → j.op ≠ 1 ∨ s.keysReady = false) → exec .storeWriteDone s = .next s) ∧
    ((∀ j, s.bnd.store = some j → j.op ≠ 2) → exec .journalEraseDone s = .next s))

/-- The forwarding decision never returns a frame to its port and sends it only to members of its VLAN (R242, R243, R244, R245,
R247). Where the forwarding decision on a frame that entered on a port outside every redundancy pair gives destinations, the
ingress port is not among them, and every destination is a member of the frame's VLAN, which is valid, but for I0 where the
frame is link-local. A frame whose ingress port is no member of its VLAN is dropped by SWC_VLAN_DROP. A link-local frame,
one to a reserved address or a peer-delay message, reaches I0 or nothing. -/
def Obligations.ForwardingNeverTurnsBack : Prop :=
  (∀ (s : State) (p : Fin 20) (bs : List Byte) (vid dests cls folios : Nat) (toCtl toTim ctDis : Bool), s.pairOf p.val = none →
    s.decide0 p.val bs = .send vid dests cls folios toCtl toTim ctDis →
    bitAt dests p.val = false ∧
    (∀ q : Fin 20, (q.val ≠ 18 ∨ ¬ ((0x0180C2000000 ≤ beAt bs 0 6 ∧ beAt bs 0 6 ≤ 0x0180C200000F) ∨ isPeerDelay bs = true)) → bitAt dests q.val = true →
      Ent.VLAN_VALID.on (s.ent 0xA02 vid) = true ∧ bitAt (Ent.VLAN_MEMBER.of (s.ent 0xA02 vid)) q.val = true) ∧
    (((0x0180C2000000 ≤ beAt bs 0 6 ∧ beAt bs 0 6 ≤ 0x0180C200000F) ∨ isPeerDelay bs = true) → ∀ q : Fin 20, q.val ≠ 18 → bitAt dests q.val = false)) ∧
  (∀ (s : State) (p : Fin 20) (bs : List Byte),
    let vid := if tagVid bs = 0 then Ent.PORT_PVID.of (s.ent 0xA03 p.val) else tagVid bs
    (Ent.VLAN_VALID.on (s.ent 0xA02 vid) = false ∨ bitAt (Ent.VLAN_MEMBER.of (s.ent 0xA02 vid)) p.val = false) →
    s.decide0 p.val bs = .drop SWC_VLAN_DROP)

/-- A frame's decision is recorded at its first 64 bytes, and its last bit completes or drops it (R242, R247, R249, R251, R260,
R271, R272, R424). With the switch enabled and a Binding loaded, the first 64 bytes of a frame of at least 64 octets on a
free port take the forwarding decision (on port A carrier is sensed first): one that gives no destination is counted by its
step, and by SWC_HSR_DUP where it fell only to the discard table; one that gives destinations is recorded with them, less
the ports that are DOWN and only I0 outside RUN, with its class and its stamps, from which the time since the SFD and RX_LAT
are taken off, and each permitted output keeps a copy for cut-through. A short frame, a MAC control frame, a busy port, a
switch that is disabled or a module with no Binding takes none. The last bit is counted by the MAC by its verdict and passed
on with it; a jabber is cut at 16384. In the switch a good frame of permitted length puts each stored copy into the buffer,
and a failed FCS is counted where the frame had stored copies, which are not made; a runt that took no decision is counted. -/
def Obligations.FramesEnterAndAreChecked : Prop :=
  (∀ (p : Fin 20) (bs : List Byte) (ago : Nat) (s : State),
    let u := if p.val = 19 then s.carrier true else s
    s.Runs 14 → u.clk 14 = true →
    (u.on SWC_CTRL_ENABLE = true → u.loaded = true → u.swc.rx.any (fun r => r.port == p.val) = false → isMacControl bs = false →
      64 ≤ frameLen bs →
      (∀ f, u.decide0 p.val bs = .drop f → exec (.frameIngress p bs ago) s =
        .next ((u.bumpIf (u.dupAt p.val bs && decide (u.decideWith false p.val bs ≠ .drop f)) SWC_HSR_DUP).bump f)) ∧
      (∀ vid dests cls folios toCtl toTim ctDis, u.decide0 p.val bs = .send vid dests cls folios toCtl toTim ctDis →
        let v := u.bumpIf (u.dupAt p.val bs) SWC_HSR_DUP
        let w := match v.pairOf p.val with
          | some (k, 2) => if u.dupAt p.val bs then v else v.hsrEnter k bs
          | _ => v
        let d := w.dropDown (if w.power ≠ 3 then dests &&& 2 ^ 18 else dests)
        let lat := ago + d.2.rdI MAC_P_TS_LAT_RX_LAT p.val / 10
        let r : RxFrame := {
          port := p.val, firstAt := d.2.now, inResid := d.2.residNs - lat, rxTs := d.2.taiNs - lat, cls := cls,
          dests := d.1, folios := if w.power ≠ 3 then folios % 2 else folios, toCtl := toCtl, toTim := toTim, ctDis := ctDis }
        exec (.frameIngress p bs ago) s = .next ((List.range 18).foldl (fun s o =>
          if bitAt d.1 o && s.mayCut r o then
            s.keepCut r bs (if tagVid bs = 0 then Ent.PORT_PVID.of (u.ent 0xA03 p.val) else tagVid bs) o else s)
          (d.2.onSwc (fun w => { w with rx := w.rx ++ [r] }))))) ∧
    ((u.on SWC_CTRL_ENABLE = false ∨ u.loaded = false ∨ u.swc.rx.any (fun r => r.port == p.val) = true ∨ isMacControl bs = true ∨
      frameLen bs < 64) → exec (.frameIngress p bs ago) s = .next u)) ∧
  (∀ (p : Fin 20) (bs : List Byte) (frags : Nat) (s : State), s.Runs (portUnit p.val) → p.val < 18 →
    let a := s.bumpByI MAC_P_RX_FRAGMENTS p.val frags
    let x := bs.take 16380
    let b := (a.bumpI MAC_P_RX_FRAMES p.val).wrI MAC_P_RX_OCTETS p.val (a.rdI MAC_P_RX_OCTETS p.val + frameLen x)
    let c := if frags = 0 then b else b.bumpI MAC_P_RX_ASSY_OK p.val
    (16384 ≤ frameLen bs → ∀ v, exec (.frameRxEnd p bs v frags) s =
      .next ((((a.bumpI MAC_P_RX_JABBER p.val).flagI MAC_P_TROUBLE_JABBER p.val).macBadFcs p.val).rxEnd p.val x false false)) ∧
    (frameLen bs < 16384 →
      (isMacControl x = false → exec (.frameRxEnd p bs .good frags) s = .next (c.rxEnd p.val x true false)) ∧
      (isMacControl x = true → exec (.frameRxEnd p bs .good frags) s =
        .next ((if isPause x then c else c.bumpI MAC_P_RX_CONTROL p.val).rxDrop p.val x)) ∧
      exec (.frameRxEnd p bs .badFcs frags) s = .next ((a.macBadFcs p.val).rxEnd p.val x false false) ∧
      exec (.frameRxEnd p bs .stomped frags) s = .next ((a.macBadFcs p.val).rxEnd p.val x false true) ∧
      exec (.frameRxEnd p bs .linkLost frags) s = .next (a.rxEnd p.val x false false) ∧
      exec (.frameRxEnd p bs .reassembly frags) s = .next ((a.macAssyErr p.val).rxDrop p.val x) ∧
      exec (.frameRxEnd p bs .unknownSmd frags) s = .next (((a.bumpI MAC_P_RX_SMD_ERR p.val).macAssyErr p.val).rxDrop p.val x) ∧
      exec (.frameRxEnd p bs .symbolError frags) s =
        .next (((a.bumpI MAC_P_RX_SYMBOL_ERR p.val).macBadFcs p.val).rxEnd p.val x false false) ∧
      exec (.frameRxEnd p bs .collision frags) s = .next ((a.macBadFcs p.val).rxEnd p.val x false false))) ∧
  (∀ (bs : List Byte) (frags : Nat) (s : State), s.Runs (portUnit 19) → frameLen bs < 16384 →
    let a := (s.wrI MAC_P_STATUS_CARRIER 19 0).onMac (fun m => { m with carrierAt := s.now })
    exec (.frameRxEnd 19 bs .badFcs frags) s = .next ((a.macBadFcs 19).rxEnd 19 (bs.take 16380) false false) ∧
    (frameLen (bs.take 16380) < 64 →
      exec (.frameRxEnd 19 bs .collision frags) s = .next ((a.bumpI MAC_P_RX_FRAGMENTS 19).rxDrop 19 (bs.take 16380)))) ∧
  (∀ (bs : List Byte) (v : RxEnd) (frags : Nat) (s : State), s.Runs (portUnit 18) → exec (.frameRxEnd 18 bs v frags) s = .next s) ∧
  (∀ (s : State) (p : Nat) (bs : List Byte) (r : RxFrame), s.swc.rx.find? (fun r => r.port == p) = some r → isSupervision bs = false →
    64 ≤ frameLen bs →
    let a := s.onSwc (fun w => { w with rx := w.rx.filter (fun x => !(x.port == p)) })
    let vid := if tagVid bs = 0 then Ent.PORT_PVID.of (a.ent 0xA03 p) else tagVid bs
    frameLen bs ≤ a.maxLen p → (a.swc.copies.filter (fun c => c.inPort == p && !c.complete && c.firstAt == r.firstAt)) = [] →
    s.rxEnd p bs true false = (a.copiesFor bs p vid r.dests {
      a.proto p r.cls with firstAt := r.firstAt, inResid := r.inResid, rxTs := r.rxTs, folios := r.folios, toCtl := r.toCtl, toTim := r.toTim }).foldl
        State.admitCopy a ∧
    s.rxEnd p bs false false = if r.dests ≠ 0 then a.bump SWC_FCS_DROP else a) ∧
  (∀ (s : State) (p : Nat) (bs : List Byte), s.swc.rx.find? (fun r => r.port == p) = none → frameLen bs < 64 →
    s.rxEnd p bs false false = (s.bump SWC_RUNT).flag SWC_TROUBLE_LENGTH)

/-- Copies start at frame boundaries or in cut-through, leave, and are discarded or stomped on buffer errors (R258, R259, R261,
R262, R264, R273, R278, R281, R304, R307). A port that is up and not sending drops what is late at its queue heads and then
starts, in this order and each only where it leaves room for a held timed copy: a respond mPacket that it owes (its place in
the order is the model's choice, log entry 35), a waiting control frame, an express frame, the remainder of a preempted
frame, the head of its highest eligible class; at port A a frame defers to carrier. With nothing eligible it starts nothing,
and a port that is sending or not UP does nothing. A cut-through copy starts once the resequencer has released its N_CT
cells and the output is UP, not paused for it and idle but for it. When a copy has left, its cells are free, the port counts
the frame, its octets and its kind, and its transmit-timestamp entry falls due. An uncorrectable buffer error discards a
waiting copy and stomps one that has started; a correctable one is counted. -/
def Obligations.CopiesStartAndLeave : Prop :=
  (∀ (p : Fin 20) (deferred : Bool) (s : State), s.Runs 14 →
    let v := if p.val = 19 then s.carrier deferred else s
    let u := v.cullPort p.val
    let small := u.launchRoom p.val 64 false
    let rest := u.swc.copies.find? (fun y => y.port == p.val && y.st == 3 && u.launchRoom p.val (frameLen y.bytes - y.sentOctets) true)
    ((v.sending p.val = true ∨ (p.val ≠ 18 ∧ v.rdI SWC_P_STATE p.val ≠ 1)) → exec (.egressStart p deferred) s = .next v) ∧
    (v.sending p.val = false → (p.val = 18 ∨ v.rdI SWC_P_STATE p.val = 1) →
      (u.mac.respond.contains p.val = true → small = true →
        exec (.egressStart p deferred) s = .next (u.onMac (fun m => { m with respond := m.respond.erase p.val }))) ∧
      ((u.mac.respond.contains p.val && small) = false →
        (∀ c, u.mac.ctrl.find? (fun c => c.1 == p.val && small) = some c → exec (.egressStart p deferred) s =
          .next ((u.onMac (fun m => { m with ctrl := m.ctrl.erase c })).bumpI MAC_P_TX_PAUSE p.val)) ∧
        (u.mac.ctrl.find? (fun c => c.1 == p.val && small) = none →
          (∀ r x, rest = some r → u.nextCopyOf p.val = some x →
            exec (.egressStart p deferred) s = .next (if u.express p.val x.cls then u.startNow x else u.resumeRest r)) ∧
          (∀ r, rest = some r → u.nextCopyOf p.val = none → exec (.egressStart p deferred) s = .next (u.resumeRest r)) ∧
          (∀ x, rest = none → u.nextCopyOf p.val = some x →
            exec (.egressStart p deferred) s = .next (if u.carrierBars p.val then u.noteDefer x else u.startNow x)) ∧
          (rest = none → u.nextCopyOf p.val = none → exec (.egressStart p deferred) s = .next u))))) ∧
  (∀ (p : Fin 20) (s : State), s.Runs 14 →
    let due (c : Copy) : Bool := c.port == p.val && c.st == 0 && decide (s.nCt p.val ≤ s.swc.released.get c.id 0) && s.cutMay c
    (∀ c, s.swc.copies.find? due = some c → exec (.cutThroughStart p) s = .next ((s.startNow c).bumpI SWC_P_CT p.val)) ∧
    (s.swc.copies.find? due = none → exec (.cutThroughStart p) s = .next s)) ∧
  (∀ (p : Fin 20) (s : State), s.Runs 14 → p.val ≠ 18 → exec (.txComplete p) s = .next ((s.ptpSent p.val).txDone p.val)) ∧
  (∀ (s : State), s.Runs 14 → exec (.txComplete 18) s = .next (((s.i0Sent.foldl State.i0Arrive s).txDone 18).takeRingFaults)) ∧
  (∀ (p : Nat) (s : State) (c : Copy), p < 18 →
    (s.swc.copies.filter (fun x => x.port == p && x.st == 2 && x.complete)) = [c] → c.fragments = 0 → c.stomped = false →
    let a := s.dropCopy c
    let b := ((a.bumpI MAC_P_TX_FRAMES p).wrI MAC_P_TX_OCTETS p (a.rdI MAC_P_TX_OCTETS p + frameLen c.bytes)).wrI MAC_P_STATUS_SENDING p 0
    s.txDone p = (b.bumpI (if b.preemptable p c.cls then MAC_P_TX_PREEMPTABLE else MAC_P_TX_EXPRESS) p).tsqPush p c 0 false) ∧
  (∀ (id : Nat) (s : State) (c : Copy), s.Runs 14 → s.swc.copies.find? (fun c => c.id == id) = some c →
    exec (.bufferEccError id true) s = .next (s.bump SWC_ECC_CORR) ∧
    (¬(2 ≤ c.st ∧ c.st ≤ 4) → exec (.bufferEccError id false) s = .next (((s.discard c 6).bump SWC_ECC_DROP).flag SWC_TROUBLE_ECC)) ∧
    (2 ≤ c.st → c.st ≤ 4 → c.stomped = true → exec (.bufferEccError id false) s = .next (s.flag SWC_TROUBLE_ECC)) ∧
    (2 ≤ c.st → c.st ≤ 4 → c.stomped = false → exec (.bufferEccError id false) s = .next ((((s.onSwc (fun w => {
      w with copies := w.copies.map (fun x => if x.id = id then { x with stomped := true } else x) })).bump
        SWC_STOMP_ECC).flag SWC_TROUBLE_STOMP).flag SWC_TROUBLE_ECC))) ∧
  (∀ (id : Nat) (e : Bool) (s : State), s.Runs 14 → s.swc.copies.find? (fun c => c.id == id) = none →
    exec (.bufferEccError id e) s = .next s)

/-- A lost link is held, returns, or expires into DOWN with a flush (R250, R263, R264, R265, R270). A link loss, of a port that
still shows its link, aborts what the port was sending and puts an UP port into HOLD with its window started, or into DOWN
with a flush where the window is 0; SFP_LOS is set with it on ports 0 to 15. The return of the link puts the port UP and
ends the window; where the window had run out unseen its flush and its count come first. When the window of a port in HOLD
ends, the port becomes DOWN, the expiry is counted and its queues are flushed; before then nothing happens. A flush discards
every queued copy of the port, counts each in SWC_P_FLUSH, writes the awaited timestamp of port A as flushed, and sets
FLUSH. A supervision frame goes out on both ports of an enabled pair each SUP_MS, tagged for its mode, and none before it is
due. -/
def Obligations.LinksHoldReturnAndExpire : Prop :=
  (∀ (p : Fin 20) (los : Bool) (s : State), s.fabricUp = true → exec (.linkLost p los) s =
    .next (((if los && decide (p.val < 16) then s.wrI MAC_P_STATUS_SFP_LOS p.val 1 else s).onMac (fun m => { m with
      qualAt := m.qualAt.insert p.val s.now, phyFault := m.phyFault || decide (p.val = 19) })).reportLost p.val)) ∧
  (∀ (s : State) (p : Nat), (hasLine p = false ∨ s.onI MAC_P_STATUS_LINK p = false) → s.reportLost p = s) ∧
  (∀ (s : State) (p : Nat), p ≠ 18 → s.rdI SWC_P_STATE p = 1 →
    let a := s.abortPort p
    let ms := a.rdI MAC_P_LINK_CFG_HOLD_MS p
    let b := (((a.wrI SWC_P_STATE p 2).wrI SWC_P_STATE_HOLD_LEFT p (ms * 10)).bumpI SWC_P_HOLDS p).flag SWC_TROUBLE_LINK_HOLD
    s.linkLost p = if ms = 0 then ((a.wrI SWC_P_STATE p 0).flushPort p).portCounts
      else (b.onSwc (fun w => { w with holdEnd := w.holdEnd.insert p (b.now + ms * 1000000) })).portCounts) ∧
  (∀ (p : Fin 20) (s : State), s.fabricUp = true →
    let up (u : State) : State := (((u.wrI SWC_P_STATE p.val 1).wrI SWC_P_STATE_HOLD_LEFT p.val 0).onSwc (fun w => {
      w with holdEnd := w.holdEnd.erase p.val })).portCounts
    let ended := s.rdI SWC_P_STATE p.val = 2 ∧ s.swc.holdEnd.get p.val (s.now + 1) ≤ s.now
    (p.val ≠ 18 → s.onI MAC_P_STATUS_LINK p.val = true → ¬ended → exec (.linkReturned p) s = .next (up s)) ∧
    (p.val ≠ 18 → s.onI MAC_P_STATUS_LINK p.val = true → ended →
      exec (.linkReturned p) s = .next (up ((s.flushPort p.val).bumpI SWC_P_HOLDS_EXPIRIES p.val))) ∧
    ((p.val = 18 ∨ s.onI MAC_P_STATUS_LINK p.val = false) → exec (.linkReturned p) s = .next s)) ∧
  (∀ (p : Fin 20) (s : State), s.Runs 14 →
    (s.rdI SWC_P_STATE p.val = 2 → s.swc.holdEnd.get p.val (s.now + 1) ≤ s.now →
      exec (.linkHoldExpire p) s = .next ((((((s.wrI SWC_P_STATE p.val 0).wrI SWC_P_STATE_HOLD_LEFT p.val 0).onSwc (fun w => {
        w with holdEnd := w.holdEnd.erase p.val })).bumpI SWC_P_HOLDS_EXPIRIES p.val).flushPort p.val).portCounts)) ∧
    (¬(s.rdI SWC_P_STATE p.val = 2 ∧ s.swc.holdEnd.get p.val (s.now + 1) ≤ s.now) → exec (.linkHoldExpire p) s = .next s)) ∧
  (∀ (s : State) (p : Nat),
    let a := (s.swc.copies.filter (fun c => c.port == p && c.st == 1)).foldl (fun s c => (s.discard c 1).bumpI SWC_P_FLUSH p) s
    ((p ≠ 19 ∨ a.mac.awaitTx = none) → s.flushPort p = a.flag SWC_TROUBLE_FLUSH) ∧
    (∀ c, p = 19 → a.mac.awaitTx = some c →
      s.flushPort p = ((a.onMac (fun m => { m with awaitTx := none })).tsqPush 19 c 1 false).flag SWC_TROUBLE_FLUSH)) ∧
  (∀ (k : Fin 6) (s : State), s.Runs 14 →
    let next := s.swc.supDue.get k.val 0 + s.supNs k.val
    let q := s.swc.pairSeq.getD k.val 0
    let sent (a b : List Byte) : State := ((s.injectPort a 7 (s.rdI SWC_RED_PAIR_PORT_A k.val)).injectPort b 7
      (s.rdI SWC_RED_PAIR_PORT_B k.val)).onSwc (fun w => { w with
        pairSeq := w.pairSeq.set k.val ((q + 1) % 65536), supDue := w.supDue.put k.val 0 next })
    (s.loaded = true → s.swc.supDue.get k.val 0 ≤ s.now →
      (s.rdI SWC_RED_PAIR_MODE k.val = 1 → exec (.supervisionTx k) s =
        .next (sent (withPrp (s.supFrame k.val) q false) (withPrp (s.supFrame k.val) q true))) ∧
      (s.rdI SWC_RED_PAIR_MODE k.val = 2 → exec (.supervisionTx k) s =
        .next (sent (withHsr (s.supFrame k.val) q 0) (withHsr (s.supFrame k.val) q 1)))) ∧
    ((s.loaded = false ∨ (s.rdI SWC_RED_PAIR_MODE k.val ≠ 1 ∧ s.rdI SWC_RED_PAIR_MODE k.val ≠ 2) ∨ s.now < s.swc.supDue.get k.val 0) →
      exec (.supervisionTx k) s = .next s))

/-- A PAUSE frame sets or ends the pause timer, and no frame of a paused class starts (R278). On a port with PAUSE support (S0
to S3) and RX_PAUSE_EN = 1 a received PAUSE frame of q quanta, its last bit arriving now, sets the end of the pause to q ×
64 octet times (512 q bit times) from now; q = 0 ends the pause. On another port, or with RX_PAUSE_EN = 0, it is counted as
a control frame and does nothing else. In both cases no copy in the switch is touched, so a frame already started completes.
While the timer of a port runs, neither the next eligible copy of the port, nor a cut-through copy that may start, nor a
timed copy is of a class outside EXEMPT_MASK; a class in EXEMPT_MASK is never paused. -/
def Obligations.PauseFramesStopAndResume : Prop :=
  (∀ (p : Fin 20) (q : BitVec 16) (s : State), s.Runs (portUnit p.val) → 12 ≤ p.val → p.val < 16 → s.onI MAC_P_PAUSE_RX_PAUSE_EN p.val = true →
    let a := ((s.bumpI MAC_P_RX_PAUSE p.val).flagI MAC_P_TROUBLE_PAUSED p.val).pauseStop p.val
    (q.toNat ≠ 0 → exec (.pauseReceived p q) s = .next ((a.wrI MAC_P_PAUSE_STATUS_RX_LEFT p.val q.toNat).onMac (fun m => { m with
      pauseEnd := m.pauseEnd.insert p.val (a.now + q.toNat * 64 * a.octetPs p.val / 1000),
      pauseStart := m.pauseStart.insert p.val a.now }))) ∧
    (q = 0 → exec (.pauseReceived p q) s = .next a) ∧ a.swc = s.swc ∧
    (s.mac.pauseEnd.get p.val 0 ≠ 0 → a.mac.pauseEnd = s.mac.pauseEnd.erase p.val)) ∧
  (∀ (p : Fin 20) (q : BitVec 16) (s : State), s.Runs (portUnit p.val) →
    (¬(12 ≤ p.val ∧ p.val < 16) ∨ s.onI MAC_P_PAUSE_RX_PAUSE_EN p.val = false) →
    exec (.pauseReceived p q) s = .next (if p.val = 18 then s else s.bumpI MAC_P_RX_CONTROL p.val)) ∧
  (∀ (s : State) (p : Nat) (x : Copy), s.nextCopyOf p = some x → s.mac.pauseEnd.get p 0 ≤ s.now ∨
    bitAt (s.rdI MAC_P_PAUSE_EXEMPT_MASK p) x.cls = true) ∧
  (∀ (s : State) (c : Copy), s.cutMay c = true → s.mac.pauseEnd.get c.port 0 ≤ s.now ∨
    bitAt (s.rdI MAC_P_PAUSE_EXEMPT_MASK c.port) c.cls = true) ∧
  (∀ (s : State) (p : Nat), s.now < s.mac.pauseEnd.get p 0 → s.sending p = false →
    (∀ c ∈ s.swc.copies, c.port = p → bitAt (s.rdI MAC_P_PAUSE_EXEMPT_MASK p) c.cls = false) → s.timedLaunch p = s) ∧
  (∀ (s : State) (p c : Nat), bitAt (s.rdI MAC_P_PAUSE_EXEMPT_MASK p) c = true → s.paused p c = false)

/-- Pause timers and XOFF frames, and preemption that is verified and used (R274, R275, R276, R278, R279). When the pause timer
of a port has run out, the pause ends and the time paused is counted. With TX_PAUSE_EN, a port whose ingress cells have
risen above XOFF_CELLS (in units of 16) queues a PAUSE with PAUSE_QUANTA, sets XOFF and its trouble bit, and arms the
repetition after half of the quanta; while the cells stay above XON_CELLS each repetition queues the frame again; when they
have fallen to XON_CELLS or below it queues a PAUSE of 0 and clears XOFF; where these conditions do not hold the four rows
do nothing. VERIFY_RESTART of a port that verifies loses a preempted frame that is not finished, returns the port to INITIAL
and starts verification where the link is up; of one that does not verify it does nothing. When the interval of a verify
mPacket ends, it is sent again, and after the third attempt verification is FAILED (4) with VERIFY_FAIL. A response while
VERIFYING makes it VERIFIED (3). A verify mPacket received with the link up has a respond mPacket wait to be sent. In other
states these do nothing. A preemptable frame is preempted, where preemption is active and an express frame is ready, at a
multiple of 8 octets with at least the minimum fragment sent and, of a frame that is complete, 64 octets left (one still
arriving is taken to have them, log entry 14): it keeps its progress, and the fragment is counted. Otherwise it goes on. -/
def Obligations.PauseTimersAndPreemption : Prop :=
  ((∀ (p : Fin 20) (s : State), s.Runs (portUnit p.val) →
     (s.mac.pauseEnd.get p.val (s.now + 1) ≤ s.now → exec (.pauseExpire p) s = .next (s.pauseStop p.val)) ∧
     (s.now < s.mac.pauseEnd.get p.val (s.now + 1) → exec (.pauseExpire p) s = .next s) ∧
     ((¬(12 ≤ p.val ∧ p.val < 16) ∨ s.onI MAC_P_PAUSE_TX_PAUSE_EN p.val = false ∨ s.onI MAC_P_PAUSE_STATUS_XOFF p.val = true ∨
       s.inCells p.val ≤ 16 * s.rdI MAC_P_PAUSE_THR_XOFF_CELLS p.val) → exec (.pauseXoff p) s = .next s) ∧
     ((s.onI MAC_P_PAUSE_STATUS_XOFF p.val = false ∨ s.inCells p.val ≤ 16 * s.rdI MAC_P_PAUSE_THR_XON_CELLS p.val ∨
       s.now < s.mac.xoffRefresh.get p.val (s.now + 1)) → exec (.pauseRefresh p) s = .next s) ∧
     ((s.onI MAC_P_PAUSE_STATUS_XOFF p.val = false ∨ 16 * s.rdI MAC_P_PAUSE_THR_XON_CELLS p.val < s.inCells p.val) →
       exec (.pauseXon p) s = .next s) ∧
     (12 ≤ p.val → p.val < 16 → s.onI MAC_P_PAUSE_TX_PAUSE_EN p.val = true → s.onI MAC_P_PAUSE_STATUS_XOFF p.val = false →
       16 * s.rdI MAC_P_PAUSE_THR_XOFF_CELLS p.val < s.inCells p.val →
       exec (.pauseXoff p) s = .next ((((s.onMac (fun m => { m with ctrl := m.ctrl ++ [(p.val, s.rdI MAC_P_PAUSE_PAUSE_QUANTA p.val)] })).wrI
         MAC_P_PAUSE_STATUS_XOFF p.val 1).flagI MAC_P_TROUBLE_XOFF p.val).pauseArm p.val)) ∧
     (s.onI MAC_P_PAUSE_STATUS_XOFF p.val = true → 16 * s.rdI MAC_P_PAUSE_THR_XON_CELLS p.val < s.inCells p.val →
       s.mac.xoffRefresh.get p.val (s.now + 1) ≤ s.now →
       exec (.pauseRefresh p) s = .next ((s.onMac (fun m => {
         m with ctrl := m.ctrl ++ [(p.val, s.rdI MAC_P_PAUSE_PAUSE_QUANTA p.val)] })).pauseArm p.val)) ∧
     (s.onI MAC_P_PAUSE_STATUS_XOFF p.val = true → s.inCells p.val ≤ 16 * s.rdI MAC_P_PAUSE_THR_XON_CELLS p.val →
       exec (.pauseXon p) s = .next (((s.onMac (fun m => { m with ctrl := m.ctrl ++ [(p.val, 0)] })).wrI MAC_P_PAUSE_STATUS_XOFF p.val 0).onMac
         (fun m => { m with xoffRefresh := m.xoffRefresh.erase p.val })))) ∧
   (∀ (s : State) (p : Nat), s.pauseArm p = s.onMac (fun m => {
     m with xoffRefresh := m.xoffRefresh.insert p (s.now + s.quantaNs p (s.rdI MAC_P_PAUSE_PAUSE_QUANTA p) / 2) }))) ∧
  ((∀ (who : Agent) (p : Fin 20) (s : State), s.Admits who (0xC000C + 0x1000 * p.val) false → (s.mbCount who).verifies p.val = true →
     exec (.verifyRestart who p) s = .next ((((s.mbCount who).losePreempted p.val).verifyInitial p.val).verifyStart p.val |>.macRefresh p.val)) ∧
   (∀ (who : Agent) (p : Fin 20) (s : State), s.Admits who (0xC000C + 0x1000 * p.val) false → (s.mbCount who).verifies p.val = false →
     exec (.verifyRestart who p) s = .next (s.mbCount who)) ∧
   (∀ (p : Fin 20) (s : State), s.Runs (portUnit p.val) →
     (s.rdI MAC_P_PREEMPT_STATUS_VERIFY p.val = 2 → s.mac.verifyEnd.get p.val (s.now + 1) ≤ s.now →
       (s.rdI MAC_P_PREEMPT_STATUS_ATTEMPTS p.val < 3 → exec (.verifyTimeout p) s = .next (s.verifySend p.val)) ∧
       (3 ≤ s.rdI MAC_P_PREEMPT_STATUS_ATTEMPTS p.val → exec (.verifyTimeout p) s = .next ((((s.wrI MAC_P_PREEMPT_STATUS_VERIFY p.val 4).flagI
         MAC_P_TROUBLE_VERIFY_FAIL p.val).onMac (fun m => { m with verifyEnd := m.verifyEnd.erase p.val })).macRefresh p.val))) ∧
     (s.rdI MAC_P_PREEMPT_STATUS_VERIFY p.val = 2 → exec (.verifyResponse p) s = .next (((s.wrI MAC_P_PREEMPT_STATUS_VERIFY p.val 3).onMac
       (fun m => { m with verifyEnd := m.verifyEnd.erase p.val })).macRefresh p.val)) ∧
     (s.rdI MAC_P_PREEMPT_STATUS_VERIFY p.val ≠ 2 → exec (.verifyResponse p) s = .next s ∧ exec (.verifyTimeout p) s = .next s) ∧
     (s.now < s.mac.verifyEnd.get p.val (s.now + 1) → exec (.verifyTimeout p) s = .next s) ∧
     ((18 ≤ p.val ∨ s.onI MAC_P_STATUS_LINK p.val = false) → exec (.verifyReceived p) s = .next s) ∧
     (p.val < 18 → s.onI MAC_P_STATUS_LINK p.val = true →
       exec (.verifyReceived p) s = .next (s.onMac (fun m => { m with respond := m.respond ++ [p.val] })))) ∧
   (∀ (p : Fin 20) (sent : Nat) (s : State) (c : Copy), s.Runs (portUnit p.val) →
     s.swc.copies.find? (fun c => c.port == p.val && c.st == 2) = some c → s.preemptActive p.val = true → s.express p.val c.cls = false →
     s.expressReady p.val = true → sent % 8 = 0 → 64 * (1 + s.rdI MAC_P_PREEMPT_ADD_FRAG p.val) ≤ sent + 4 →
     (c.complete = true → c.sentOctets + sent + 64 ≤ frameLen c.bytes) →
     let stop (x : Copy) : Copy :=
       if x.id = c.id then { x with st := 3, fragments := x.fragments + 1, sentOctets := x.sentOctets + sent } else x
     exec (.preemption p sent) s = .next ((((s.onSwc (fun w => { w with copies := w.copies.map stop })).bumpI MAC_P_TX_PREEMPTIONS p.val).bumpI
         MAC_P_TX_FRAGMENTS p.val).wrI MAC_P_STATUS_SENDING p.val 0)) ∧
   (∀ (p : Fin 20) (sent : Nat) (s : State), s.Runs (portUnit p.val) →
     (∀ c, s.swc.copies.find? (fun c => c.port == p.val && c.st == 2) = some c → s.preemptActive p.val = false ∨ s.express p.val c.cls = true ∨
       s.expressReady p.val = false ∨ sent % 8 ≠ 0 ∨ sent + 4 < 64 * (1 + s.rdI MAC_P_PREEMPT_ADD_FRAG p.val) ∨
       (c.complete = true ∧ frameLen c.bytes < c.sentOctets + sent + 64)) → exec (.preemption p sent) s = .next s))

/-- Links qualify, cages fault, and the frames of port A and wake frames (R269, R270, R281, R282, R285, R286, R287, R496). Lock
held long enough on an enabled port with a speed, whose cage is on, sets LOCK and LINK, marks a present SFP+ without loss of
signal, and starts preemption verification; otherwise it does nothing. A write of PORT_EN = 0 stores it, notes a cage that
is off after an overcurrent and reports the link lost; PORT_EN = 1 stores it, starts the qualification time, and turns such
a cage on again. A cage overcurrent sets SFP_FAULT, switches the cage off and reports the link lost. A transmit fault sets
its status bit and SFP_FAULT; a removal clears the presence, releases the cage and reports the link lost. A collision on
port A counts, and below the sixteenth, within 512 bits, has the frame back off by the jam time and a number of slots that
the spec leaves open (a free value); a late one or the sixteenth drops it. When the back-off has run out the frame is sent
again, once it need not defer to carrier. The frame interrupt gives the frame sent, or the oldest received, the TAI of now
as its timestamp. With nothing under way these rows do nothing. A wake frame at an armed detector is counted and, where none
is captured yet, sets WAKE and captures its code and source; otherwise it sets WAKE_OVERRUN. Another frame, or a detector
that is not armed, does nothing. -/
def Obligations.LinksCagesPortAAndWakeFrames : Prop :=
  ((∀ (p : Fin 20) (s : State), s.Runs (portUnit p.val) → p.val ≠ 18 → s.onI MAC_P_CTRL_PORT_EN p.val = true → s.rdI MAC_P_CFG_SPEED p.val ≠ 0 →
     s.mac.cageOff.get p.val 0 = 0 → s.qualHeld p.val = true →
     let a := if p.val = 19 then s.onMac (fun m => { m with phyFault := false }) else s
     let b := if p.val < 16 then (a.wrI MAC_P_STATUS_SFP_PRESENT p.val 1).wrI MAC_P_STATUS_SFP_LOS p.val 0 else a
     exec (.linkQualified p) s = .next (((((b.wrI MAC_P_STATUS_LOCK p.val 1).wrI MAC_P_STATUS_LINK p.val 1).verifyInitial p.val).verifyStart
       p.val).macRefresh p.val)) ∧
   (∀ (p : Fin 20) (s : State), s.Runs (portUnit p.val) → (p.val = 18 ∨ s.onI MAC_P_CTRL_PORT_EN p.val = false ∨ s.rdI MAC_P_CFG_SPEED p.val = 0 ∨
     s.mac.cageOff.get p.val 0 ≠ 0 ∨ s.qualHeld p.val = false) → exec (.linkQualified p) s = .next s) ∧
   (∀ (who : Agent) (p : Fin 20) (s : State), s.Admits who (0xC000C + 0x1000 * p.val) false →
     let u := s.mbCount who
     (p.val ≠ 18 →
       (let v := (u.wrI MAC_P_CTRL_PORT_EN p.val 1).onMac (fun m => { m with
          qualAt := m.qualAt.insert p.val (u.wrI MAC_P_CTRL_PORT_EN p.val 1).now,
          cageOff := if u.mac.cageOff.get p.val 0 = 2 then m.cageOff.erase p.val else m.cageOff })
        exec (.portEnWrite who p true) s = .next (if p.val = 19 then v.portAUp else v)) ∧
       (u.mac.cageOff.get p.val 0 = 0 → exec (.portEnWrite who p false) s = .next ((u.wrI MAC_P_CTRL_PORT_EN p.val 0).reportLost p.val)) ∧
       (u.mac.cageOff.get p.val 0 ≠ 0 → exec (.portEnWrite who p false) s = .next (((u.wrI MAC_P_CTRL_PORT_EN p.val 0).onMac (fun m => { m with
          cageOff := m.cageOff.insert p.val 2 })).reportLost p.val))) ∧
     (p.val = 18 → ∀ en, exec (.portEnWrite who p en) s = .next u)) ∧
   (∀ (p : Fin 16) (s : State), s.fabricUp = true →
     let u := s.flagI MAC_P_TROUBLE_SFP_FAULT p.val
     exec (.sfpOvercurrent p) s = .next ((u.onMac (fun m => { m with cageOff := m.cageOff.insert p.val 1 })).macLinkLost p.val true) ∧
     exec (.sfpFault p false) s = .next (u.wrI MAC_P_STATUS_SFP_TX_FAULT p.val 1) ∧
     exec (.sfpFault p true) s = .next ((((u.wrI MAC_P_STATUS_SFP_PRESENT p.val 0).wrI MAC_P_STATUS_SFP_TX_FAULT p.val 0).onMac
       (fun m => { m with cageOff := m.cageOff.erase p.val })).macLinkLost p.val true)) ∧
   (∀ (s : State) (p : Nat), p ≠ 18 → s.onI MAC_P_STATUS_LINK p = true →
     let a := ((((s.wrI MAC_P_STATUS_LINK p 0).wrI MAC_P_STATUS_LOCK p 0).wrI MAC_P_STATUS_SENDING p 0).bumpI MAC_P_LINK_LOSSES p).flagI
       MAC_P_TROUBLE_LINK_LOSS p
     let b := a.onMac (fun m => { m with ctrl := m.ctrl.filter (fun c => !(c.1 == p)), respond := m.respond.filter (fun x => !(x == p)),
                                         collisions := if p = 19 then 0 else m.collisions,
                                         backoffEnd := if p = 19 then none else m.backoffEnd })
     s.reportLost p = ((((b.verifyInitial p).pauseStop p).xoffClear p).linkLost p).macRefresh p)) ∧
  ((∀ (sent : Nat) (s : State) (c : Copy), s.Runs 21 → s.swc.copies.find? (fun c => c.port == 19 && c.st == 2) = some c →
     let u := s.bumpI MAC_P_COLLISIONS 19
     (sent ≤ 512 → u.mac.collisions + 1 < 16 → ∃ r, r < 2 ^ min (u.mac.collisions + 1) 10 ∧
       exec (.portACollision sent) s = .next (((u.fresh.2.onSwc (fun w => {
         w with copies := w.copies.map (fun x => if x.id = c.id then { x with st := 4 } else x) })).wrI MAC_P_STATUS_SENDING 19 0).onMac
           (fun m => { m with collisions := u.mac.collisions + 1, carrierAt := u.fresh.2.now + 3200,
                              backoffEnd := some (u.fresh.2.now + 3200 + r * 51200) }))) ∧
     (512 < sent → exec (.portACollision sent) s = .next (u.portADrop c MAC_P_LATE_COLL)) ∧
     (sent ≤ 512 → 16 ≤ u.mac.collisions + 1 → exec (.portACollision sent) s = .next (u.portADrop c MAC_P_EXCESS_COLL))) ∧
   (∀ (s : State), s.Runs 21 → s.due s.mac.backoffEnd = true →
     let again (x : Copy) : Copy := if x.port = 19 ∧ x.st = 4 then { x with st := 2, egressTs := s.taiNs } else x
     (s.carrierBars 19 = false → exec .portABackoffExpire s = .next (((s.onSwc (fun w => { w with copies := w.copies.map again })).wrI
       MAC_P_STATUS_SENDING 19 1).onMac (fun m => { m with backoffEnd := none }))) ∧
     (∀ x, s.carrierBars 19 = true → s.swc.copies.find? (fun x => x.port == 19 && x.st == 4) = some x →
       exec .portABackoffExpire s = .next (s.noteDefer x)) ∧
     (s.carrierBars 19 = true → s.swc.copies.find? (fun x => x.port == 19 && x.st == 4) = none → exec .portABackoffExpire s = .next s)) ∧
   (∀ (s : State), s.Runs 21 →
     (s.due s.mac.backoffEnd = false → exec .portABackoffExpire s = .next s) ∧
     (s.mac.awaitTx = none → exec (.portAFrameInterrupt true) s = .next s) ∧
     (s.mac.awaitRx = [] → exec (.portAFrameInterrupt false) s = .next s) ∧
     (s.swc.copies.find? (fun c => c.port == 19 && c.st == 2) = none → ∀ n, exec (.portACollision n) s = .next s)) ∧
   (∀ (p : Fin 20) (bs : List Byte) (s : State), s.Runs (portUnit p.val) → (s.wakeArmed p.val && s.isWake p.val bs) = false →
     exec (.wakeFrame p bs) s = .next s) ∧
   (∀ (s : State) (c : Copy), s.Runs 21 → s.mac.awaitTx = some c →
     exec (.portAFrameInterrupt true) s = .next ((s.onMac (fun m => { m with awaitTx := none })).tsqPush 19 { c with egressTs := s.taiNs } 0 true)) ∧
   (∀ (s : State) (t : Nat) (q : List Nat), s.Runs 21 → s.mac.awaitRx = t :: q →
     let stamp (c : Copy) : Copy := if c.inPort = 19 ∧ c.firstAt = t then { c with rxTs := s.taiNs } else c
     exec (.portAFrameInterrupt false) s = .next ((s.onMac (fun m => { m with awaitRx := q })).onSwc (fun w => {
       w with copies := w.copies.map stamp }))) ∧
   (∀ (p : Fin 20) (bs : List Byte) (s : State), s.Runs (portUnit p.val) → s.wakeArmed p.val = true → s.isWake p.val bs = true →
     let u := s.bumpI MAC_P_RX_WAKE p.val
     (u.onI MAC_P_WAKE_STATUS_WAKE p.val = true → exec (.wakeFrame p bs) s = .next (u.flagI MAC_P_WAKE_STATUS_WAKE_OVERRUN p.val)) ∧
     (u.onI MAC_P_WAKE_STATUS_WAKE p.val = false → exec (.wakeFrame p bs) s = .next (((((u.flagI MAC_P_WAKE_STATUS_WAKE p.val).flagI
       MAC_P_TROUBLE_WAKE p.val).wrI MAC_P_WAKE_CODE p.val (beAt bs (etypeOff bs + 22) 4)).wrI MAC_P_WAKE_SRC p.val (beAt bs 8 4)).wrI
         MAC_P_WAKE_SRC_HI p.val (beAt bs 6 2)))))

/-- Time sources qualify and are lost, holdover ends in FREERUN, and the 10 MHz reference comes and goes (R292, R295, R297,
R298). A listed source that has delivered measurements in QUAL_S consecutive seconds, has not fallen silent, and whose kind
may be used, becomes qualified, and is taken as the source, with the state ACQUIRING, where none was; otherwise nothing
happens. A qualified source without measurements for LOSS_S seconds is no longer qualified; where it was the source, the
best source left takes over with SOURCE_CHANGE and ACQUIRING, or with none left the state becomes HOLDOVER from LOCKED, with
the frequency steered to the 10 MHz reference where there is one and to its mean else, and FREERUN from any other. A source
that is not qualified, or not silent, is not lost. HOLDOVER_MAX_MIN in HOLDOVER ends in FREERUN with its trouble bit. The
qualification and the loss of the 10 MHz reference set and clear REF10_OK, and the first steers the frequency in FREERUN and
HOLDOVER. -/
def Obligations.TimeSourcesQualifyAndAreLost : Prop :=
  (∀ (i : Fin 4) (s : State) (x : TimSrc), s.Runs 18 → s.tim.srcs.find? (fun p => p.1 == s.srcAt i.val) = some (s.srcAt i.val, x) →
    (s.srcAt i.val = 1 ∨ s.srcAt i.val = 2 ∧ s.on TIM_STATUS_UTC_VALID = true ∨
      (s.srcAt i.val = 3 ∨ s.srcAt i.val = 4) ∧ s.on TIM_STATUS_TIME_VALID = true) →
    s.qualified i.val = false → s.loaded = true → max 1 (s.rd TIM_SRC_CFG_QUAL_S) ≤ x.last - x.first + 1 →
    s.now < x.at_ + max 1 (s.rd TIM_SRC_CFG_LOSS_S) * 1000000000 →
    let u := s.wrBit TIM_STATUS_QUALIFIED 0 i.val true
    exec (.sourceQualified i) s = .next (if u.rd TIM_STATUS_SOURCE = 0 then
      ((u.wr TIM_STATUS_SOURCE (s.srcAt i.val)).wr TIM_STATUS_HOLDOVER_MIN 0).timState 1 else u)) ∧
  (∀ (i : Fin 4) (s : State), s.Runs 18 → (s.srcAt i.val = 0 ∨ 4 < s.srcAt i.val ∨ s.qualified i.val = true ∨ s.loaded = false ∨
      s.srcAt i.val = 2 ∧ s.on TIM_STATUS_UTC_VALID = false ∨ 3 ≤ s.srcAt i.val ∧ s.on TIM_STATUS_TIME_VALID = false ∨
      (∀ x, s.tim.srcs.find? (fun p => p.1 == s.srcAt i.val) = some x → x.2.last - x.2.first + 1 < max 1 (s.rd TIM_SRC_CFG_QUAL_S) ∨
        x.2.at_ + max 1 (s.rd TIM_SRC_CFG_LOSS_S) * 1000000000 ≤ s.now)) →
    exec (.sourceQualified i) s = .next s) ∧
  (∀ (i : Fin 4) (s : State), s.Runs 18 →
    let silent := (s.tim.srcs.find? (fun p => p.1 == s.srcAt i.val)).all (fun p =>
      decide (p.2.at_ + max 1 (s.rd TIM_SRC_CFG_LOSS_S) * 1000000000 ≤ s.now))
    let u := (s.wrBit TIM_STATUS_QUALIFIED 0 i.val false).onTim (fun t => { t with srcs := t.srcs.filter (fun p => p.1 != s.srcAt i.val) })
    let v := u.wr TIM_STATUS_SOURCE 0
    ((s.qualified i.val = false ∨ silent = false) → exec (.sourceLost i) s = .next s) ∧
    (s.qualified i.val = true → silent = true →
      (u.rd TIM_STATUS_SOURCE ≠ s.srcAt i.val → exec (.sourceLost i) s = .next u) ∧
      (∀ j, u.rd TIM_STATUS_SOURCE = s.srcAt i.val → u.bestSource = some j →
        exec (.sourceLost i) s = .next (((u.wr TIM_STATUS_SOURCE (u.srcAt j)).flag TIM_TROUBLE_SOURCE_CHANGE).timState 1)) ∧
      (u.rd TIM_STATUS_SOURCE = s.srcAt i.val → u.bestSource = none →
        (v.rd TIM_STATUS_STATE ≠ 2 → exec (.sourceLost i) s = .next ((v.timState 0).steer10)) ∧
        (v.rd TIM_STATUS_STATE = 2 →
          let h := ((v.timState 3).flag TIM_TROUBLE_HOLDOVER).onTim (fun t => { t with holdAt := ((v.timState 3).flag TIM_TROUBLE_HOLDOVER).now })
          exec (.sourceLost i) s = .next (if h.on TIM_STATUS_REF10_OK then h.slew else h.wr TIM_FREQ (unsigned 32 h.meanFreq)))))) ∧
  (∀ (s : State), s.Runs 18 →
    (s.rd TIM_STATUS_STATE = 3 → s.tim.holdAt + s.rd TIM_SERVO_CFG_HOLDOVER_MAX_MIN * 60000000000 ≤ s.now →
      exec .holdoverExpire s = .next ((s.timState 0).flag TIM_TROUBLE_FREERUN).steer10) ∧
    ((s.rd TIM_STATUS_STATE ≠ 3 ∨ s.now < s.tim.holdAt + s.rd TIM_SERVO_CFG_HOLDOVER_MAX_MIN * 60000000000) → exec .holdoverExpire s = .next s) ∧
    exec .ref10Lost s = .next (s.wr TIM_STATUS_REF10_OK 0) ∧
    (let u := s.wr TIM_STATUS_REF10_OK 1
     ((u.rd TIM_STATUS_STATE = 0 ∨ u.rd TIM_STATUS_STATE = 3) → exec .ref10Qualified s = .next u.slew) ∧
     (u.rd TIM_STATUS_STATE = 1 ∨ u.rd TIM_STATUS_STATE = 2 → exec .ref10Qualified s = .next u)))

/-- The PTP engine takes Sync, Follow_Up, Announce and peer-delay messages in order (R293, R294, R296). Each PTP row takes the
oldest message of its kind; where none waits it changes nothing. A one-step Sync of the selected master gives an offset
measurement at once, a two-step one, on a port whose mean link delay is valid, waits for its Follow_Up, which completes it
within 100 ms with the same sequenceId. A message that is not the master's, or a Follow_Up that matches no Sync, gives no
measurement. An Announce is counted, and one that is usable enters the foreign masters of its port. A Pdelay_Req is sent on
a port with PDELAY_EN when its interval has passed, one received is answered with the requester's sequence and port, and a
one-step response that matches the request completes the exchange with half of the round trip; a two-step one waits for its
follow-up, which completes it with the requester's times less the responder's. -/
def Obligations.PtpMessagesAreTaken : Prop :=
  (∀ (s u : State) (m : TimMsg), s.Runs 18 → s.ptpRefresh.takeMsg [0] = (some m, u) →
    let x := ptpMsg m.bytes
    (u.fromMaster m = false → exec .ptpSync s = .next u) ∧
    (u.fromMaster m = true → bitAt (beAt x 6 1) 1 = true → u.onI TIM_P_PTP_STATE_MLD_VALID m.inPort = false → exec .ptpSync s = .next u) ∧
    (u.fromMaster m = true → bitAt (beAt x 6 1) 1 = true → u.onI TIM_P_PTP_STATE_MLD_VALID m.inPort = true → exec .ptpSync s = .next (u.setPtp m.inPort { u.ptp m.inPort with
      syncWait := some (beAt x 30 2, m.rxTs, ptpCorr x, u.now) })) ∧
    (u.fromMaster m = true → bitAt (beAt x 6 1) 1 = false →
      exec .ptpSync s = .next (u.ptpOffset m.inPort m.rxTs (ptpTime x 34) (ptpCorr x)))) ∧
  (∀ (s u : State) (m : TimMsg) (seq t2 at_ : Nat) (c : Int), s.Runs 18 → s.ptpRefresh.takeMsg [8] = (some m, u) →
    (u.ptp m.inPort).syncWait = some (seq, t2, c, at_) → u.fromMaster m = true → seq = beAt (ptpMsg m.bytes) 30 2 → u.now ≤ at_ + 100000000 →
    exec .ptpFollowUp s = .next ((u.setPtp m.inPort { u.ptp m.inPort with syncWait := none }).ptpOffset m.inPort t2
      (ptpTime (ptpMsg m.bytes) 34) (c + ptpCorr (ptpMsg m.bytes)))) ∧
  (∀ (s u : State) (m : TimMsg), s.Runs 18 → s.ptpRefresh.takeMsg [8] = (some m, u) →
    (∀ seq t2 c at_, (u.ptp m.inPort).syncWait = some (seq, t2, c, at_) →
      u.fromMaster m = false ∨ seq ≠ beAt (ptpMsg m.bytes) 30 2 ∨ at_ + 100000000 < u.now) → exec .ptpFollowUp s = .next u) ∧
  (∀ (s : State), s.Runs 18 →
    ((s.ptpRefresh.takeMsg [0]).1 = none → exec .ptpSync s = .next s) ∧
    ((s.ptpRefresh.takeMsg [8]).1 = none → exec .ptpFollowUp s = .next s) ∧
    ((s.takeMsg [0xB]).1 = none → exec .announceRx s = .next s) ∧
    ((s.takeMsg [2]).1 = none → exec .pdelayReqRx s = .next s) ∧
    ((s.takeMsg [3, 0xA]).1 = none → exec .pdelayRespRx s = .next s)) ∧
  (∀ (s u : State) (m : TimMsg), s.Runs 18 → s.takeMsg [0xB] = (some m, u) →
    let x := ptpMsg m.bytes
    let v := u.bump TIM_ANNOUNCE_RX
    v.ptpPort m.inPort = true → beAt x 4 1 = v.rd TIM_PTP_CFG_DOMAIN → bitAt (beAt x 7 1) 3 = true → 64 ≤ x.length → beAt x 61 2 < 255 →
    bitAt (beAt x 7 1) 2 = false →
    let y := v.ptp m.inPort
    let f : Master := {
      ident := beAt x 20 10, quality := beAt x 47 14, steps := beAt x 61 2,
      times := (v.now :: ((y.masters.find? (fun f => f.ident == beAt x 20 10)).map (fun f => f.times)).getD []).take 2,
      logInt := (signed 8 (beAt x 33 1) + 16).toNat }
    exec .announceRx s = .next ((v.setPtp m.inPort { y with masters := f :: y.masters.filter (fun g => g.ident != beAt x 20 10) }).ptpRefresh)) ∧
  (∀ (s u : State) (m : TimMsg), s.Runs 18 → s.takeMsg [0xB] = (some m, u) → (u.bump TIM_ANNOUNCE_RX).ptpPort m.inPort = false →
    exec .announceRx s = .next ((u.bump TIM_ANNOUNCE_RX).ptpRefresh)) ∧
  (∀ (p : Fin 18) (s : State), s.Runs 18 → s.loaded = true → s.onI TIM_P_CFG_PDELAY_EN p.val = true → (s.ptp p.val).reqAt = none →
    let seq := ((s.ptp p.val).reqSeq + 1) % 65536
    let u := s.setPtp p.val { s.ptp p.val with reqSeq := seq, reqT1 := none, reqAt := some s.now, respWait := none }
    exec (.pdelayReqTx p) s = .next (u.ptpSend p.val (u.ptpMake p.val 2 seq (-(signed 32 (u.rdI TIM_P_ASYM p.val))) 5
      (List.replicate 20 0#8)) u.residNs)) ∧
  (∀ (p : Fin 18) (s : State), s.Runs 18 → (s.loaded = false ∨ s.onI TIM_P_CFG_PDELAY_EN p.val = false) →
    exec (.pdelayReqTx p) s = .next s) ∧
  (∀ (s u : State) (m : TimMsg), s.Runs 18 → s.takeMsg [2] = (some m, u) →
    (u.onI TIM_P_CFG_PDELAY_EN m.inPort = false ∨ 18 ≤ m.inPort ∨ beAt (ptpMsg m.bytes) 4 1 ≠ u.rd TIM_PTP_CFG_DOMAIN) →
    exec .pdelayReqRx s = .next u) ∧
  (∀ (s u : State) (m : TimMsg), s.Runs 18 → s.takeMsg [2] = (some m, u) → u.onI TIM_P_CFG_PDELAY_EN m.inPort = true → m.inPort < 18 →
    beAt (ptpMsg m.bytes) 4 1 = u.rd TIM_PTP_CFG_DOMAIN →
    exec .pdelayReqRx s = .next (u.ptpSend m.inPort (u.ptpMake m.inPort 3 (beAt (ptpMsg m.bytes) 30 2) (ptpCorr (ptpMsg m.bytes)) 5
      (List.replicate 10 0#8 ++ slice (ptpMsg m.bytes) 20 10)) m.resid)) ∧
  (∀ (s u : State) (m : TimMsg) (t1 : Nat), s.Runs 18 → s.takeMsg [3, 0xA] = (some m, u) → u.onI TIM_P_CFG_PDELAY_EN m.inPort = true →
    beAt (ptpMsg m.bytes) 30 2 = (u.ptp m.inPort).reqSeq → slice (ptpMsg m.bytes) 44 10 = u.ownPort m.inPort →
    (u.ptp m.inPort).reqT1 = some t1 → ptpType m.bytes = 3 → bitAt (beAt (ptpMsg m.bytes) 6 1) 1 = false →
    exec .pdelayRespRx s = .next (u.pdelayDone m.inPort (divRound (((m.rxTs : Int) - t1) * 65536 -
      (ptpCorr (ptpMsg m.bytes) + signed 32 (u.rdI TIM_P_ASYM m.inPort))) 2))) ∧
  (∀ (s u : State) (m : TimMsg) (t1 : Nat), s.Runs 18 → s.takeMsg [3, 0xA] = (some m, u) → u.onI TIM_P_CFG_PDELAY_EN m.inPort = true →
    beAt (ptpMsg m.bytes) 30 2 = (u.ptp m.inPort).reqSeq → slice (ptpMsg m.bytes) 44 10 = u.ownPort m.inPort →
    (u.ptp m.inPort).reqT1 = some t1 →
    (ptpType m.bytes = 3 → bitAt (beAt (ptpMsg m.bytes) 6 1) 1 = true →
      exec .pdelayRespRx s = .next (u.setPtp m.inPort { u.ptp m.inPort with respWait := some (m.rxTs, ptpTime (ptpMsg m.bytes) 34,
        ptpCorr (ptpMsg m.bytes) + signed 32 (u.rdI TIM_P_ASYM m.inPort)) })) ∧
    (∀ t4 t2 c, ptpType m.bytes ≠ 3 → (u.ptp m.inPort).respWait = some (t4, t2, c) →
      exec .pdelayRespRx s = .next (u.pdelayDone m.inPort (divRound ((((t4 : Int) - t1) -
        ((ptpTime (ptpMsg m.bytes) 34 : Int) - t2)) * 65536 - c - ptpCorr (ptpMsg m.bytes)) 2)))) ∧
  (∀ (s u : State) (m : TimMsg), s.Runs 18 → s.takeMsg [3, 0xA] = (some m, u) →
    (u.onI TIM_P_CFG_PDELAY_EN m.inPort = false ∨ beAt (ptpMsg m.bytes) 30 2 ≠ (u.ptp m.inPort).reqSeq ∨
      slice (ptpMsg m.bytes) 44 10 ≠ u.ownPort m.inPort ∨ (u.ptp m.inPort).reqT1 = none) → exec .pdelayRespRx s = .next u)

/-- IRIG-B frames, PPS edges, whole seconds, and the host's time commands (R291, R295, R296, R298, R299, R300, R310, R312). An
IRIG-B frame that decodes and follows the one before it by a second measures the time at its on-time point against its
second in TAI; one that does not decode is counted and sets IRIG_ERR. A PPS edge with no edge before it measures the time
against the nearest whole second; so does one 0.95 s to 1.05 s after it; one at another distance is counted and sets
PPS_ERR. At a new TAI second PPS out rises where it is driven, and the always-on counter is reloaded in LOCKED. PPS out
falls after its width. A pending leap second changes the UTC offset by one at the end of the UTC day. TIM_ADJ_CTRL with OP
SET or STEP while no source is selected sets BUSY and waits, with the value of TIM_ADJ, for the next period of the time-base
clock, where SET sets TIME_VALID and steps the counter to the value, STEP adds its signed value, and RESULT 0 is answered.
While one waits a further GO does nothing. While a source is selected either is refused with RESULT = REFUSED (1) and
ADJ_REFUSED, and the counter is unchanged. A step is counted, recorded in TIM_LAST_STEP and event 0x03, sets STEP, and has
the cadence go on, skip or restart by the size of the step, after which every timed copy is tested again. Each row does
nothing before its instant. -/
def Obligations.IrigPpsSecondsAndAdjustments : Prop :=
  ((∀ (ms : List (Fin 3)) (year : Bool) (ago : Nat) (s : State) (sec : Nat), s.Runs 18 →
     (s.irigDecode ms year = none → exec (.irigFrame ms year ago) s =
       .next (((s.onTim (fun x => { x with irig := none })).bump TIM_IRIG_ERR).flag TIM_TROUBLE_IRIG_ERR)) ∧
     (s.irigDecode ms year = some sec → (s.tim.irig = none ∨ s.tim.irig = some (sec - 1) ∧ sec ≠ 0) → s.on TIM_SRC_CFG_IRIG_EXT = false →
       exec (.irigFrame ms year ago) s = .next ((s.onTim (fun x => { x with irig := some sec })).measure 2
         (((s.taiNs - ago : Nat) : Int) - ((sec : Int) + s.utcOffset) * 1000000000)))) ∧
   (∀ (bp : Bool) (s : State), s.Runs 18 →
     let prev := if bp then s.tim.ppsBp else s.tim.ppsFront
     let u := s.onTim (fun t => if bp then { t with ppsBp := some s.now } else { t with ppsFront := some s.now })
     (prev = none → exec (.ppsEdge bp) s = .next (u.measure (if bp then 4 else 3)
       ((u.taiNs : Int) - ((u.taiNs + 500000000) / 1000000000 * 1000000000 : Nat)))) ∧
     (∀ t, prev = some t → u.now - t ≤ 1050000000 → 950000000 ≤ u.now - t → exec (.ppsEdge bp) s = .next (u.measure (if bp then 4 else 3)
       ((u.taiNs : Int) - ((u.taiNs + 500000000) / 1000000000 * 1000000000 : Nat)))) ∧
     (∀ t, prev = some t → (1050000000 < u.now - t ∨ u.now - t < 950000000) →
       exec (.ppsEdge bp) s = .next ((u.bump TIM_PPS_ERR).flag TIM_TROUBLE_PPS_ERR))) ∧
   (∀ (s : State), s.Runs 18 →
     let sec := s.tai / 1000000000
     let u := s.onTim (fun t => {
       t with second := some sec, aon := if s.rd TIM_STATUS_STATE = 2 then s.tai else t.aon,
              ppsOut := if s.ppsDriven && decide (s.rd TIM_LAUNCH_CFG_PPS_WIDTH_US ≠ 0)
                        then some (s.now + s.rd TIM_LAUNCH_CFG_PPS_WIDTH_US * 1000) else t.ppsOut })
     (s.tim.second ≠ some sec → exec .wholeSecond s = .next ((if u.rd TIM_STATUS_STATE = 3
       then u.wrSat TIM_STATUS_HOLDOVER_MIN ((u.now - u.tim.holdAt) / 60000000000) else u).ptpRefresh)) ∧
     (s.tim.second = some sec → exec .wholeSecond s = .next s) ∧
     (s.due s.tim.ppsOut = false → exec .ppsOutFall s = .next s) ∧
     (s.due s.tim.ppsOut = true → exec .ppsOutFall s = .next (s.onTim (fun t => { t with ppsOut := none }))) ∧
     (s.rd TIM_UTC_OFFSET_LEAP = 1 → s.utcSecond % 86400 = 1 → exec .leapSecond s = .next (s.utcSet (unsigned 16 (s.utcOffset + 1)) 0)) ∧
     (s.rd TIM_UTC_OFFSET_LEAP = 2 → s.utcSecond % 86400 = 86399 → exec .leapSecond s = .next (s.utcSet (unsigned 16 (s.utcOffset - 1)) 0)) ∧
     (¬(s.rd TIM_UTC_OFFSET_LEAP = 1 ∧ s.utcSecond % 86400 = 1) → ¬(s.rd TIM_UTC_OFFSET_LEAP = 2 ∧ s.utcSecond % 86400 = 86399) →
       exec .leapSecond s = .next s))) ∧
  ((∀ (who : Agent) (s : State), s.Admits who 0xE0068 true →
     let u (op : Nat) : State := (s.mbCount who).wr TIM_ADJ_CTRL_OP op
     let value := (s.mbCount who).rd TIM_ADJ
     let wait (op : Nat) : State := ((u op).begin TIM_ADJ_STATUS_BUSY).onTim (fun t => { t with adj := some (op, value) })
     let refused (op : Nat) : State := ((u op).answer TIM_ADJ_STATUS_DONE TIM_ADJ_STATUS_RESULT 1).flag TIM_ADJ_STATUS_ADJ_REFUSED
     ((u 1).on TIM_ADJ_STATUS_BUSY = false → (u 1).rd TIM_STATUS_SOURCE = 0 → exec (.timeSet who) s = .next (wait 1)) ∧
     ((u 1).on TIM_ADJ_STATUS_BUSY = false → (u 1).rd TIM_STATUS_SOURCE ≠ 0 → exec (.timeSet who) s = .next (refused 1)) ∧
     ((u 1).on TIM_ADJ_STATUS_BUSY = true → exec (.timeSet who) s = .next (u 1)) ∧
     ((u 2).on TIM_ADJ_STATUS_BUSY = false → (u 2).rd TIM_STATUS_SOURCE = 0 → exec (.timeStep who) s = .next (wait 2)) ∧
     ((u 2).on TIM_ADJ_STATUS_BUSY = false → (u 2).rd TIM_STATUS_SOURCE ≠ 0 → exec (.timeStep who) s = .next (refused 2)) ∧
     ((u 2).on TIM_ADJ_STATUS_BUSY = true → exec (.timeStep who) s = .next (u 2))) ∧
   (∀ (s : State) (value : Nat),
     let u := s.onTim (fun t => { t with adj := none })
     let ok (x : State) : State := x.finish TIM_ADJ_STATUS_BUSY TIM_ADJ_STATUS_DONE TIM_ADJ_STATUS_RESULT 0
     (s.tim.adj = some (1, value) → s.timeApply = ok ((u.wr TIM_STATUS_TIME_VALID 1).timeStep value 2)) ∧
     (s.tim.adj = some (2, value) → s.timeApply = ok (u.timeStep (unsigned 64 ((u.tai : Int) + signed 64 value)) 2)) ∧
     (s.tim.adj = none → s.timeApply = s)) ∧
   (∀ (s : State) (new cause : Nat),
     let w := new % 2 ^ 64
     let u : State := { s with tai := w, tim := { s.tim with second := if w % 1000000000 = 0 then none else some (w / 1000000000) } }
     let m := u.cycleAt (w - u.rd TIM_CADENCE_OFS_OFFSET_US * 1000)
     let d : Int := (w : Int) - s.tai
     let noted (action : Nat) : State := ((((u.bump TIM_STEPS).wr TIM_LAST_STEP (unsigned 64 d)).flag TIM_TROUBLE_STEP).event 0x03
       (leBytes 8 s.tai ++ leBytes 8 w ++ leBytes 8 (unsigned 64 d) ++ leBytes 1 cause ++ leBytes 1 action)).gthStep
     ((u.loaded = false ∨ m = s.cycle) → s.timeStep new cause = (noted 0).retestLaunch) ∧
     (u.loaded = true → m < s.cycle → -d ≤ (u.cycleNs : Int) → s.timeStep new cause = (noted 1).retestLaunch) ∧
     (u.loaded = true → s.cycle < m → 0 < d → m - s.cycle ≤ 63 → s.timeStep new cause = ((noted 2).cadenceSkip s.cycle m).retestLaunch) ∧
     (u.loaded = true → m ≠ s.cycle → (m < s.cycle → (u.cycleNs : Int) < -d) → (s.cycle < m → 0 < d → 63 < m - s.cycle) →
       s.timeStep new cause = ((noted 3).cadenceRestart m).retestLaunch)))

/-- No step lowers the time floor in MRAM, and the hourly update raises it to the TAI second while LOCKED (R291). Whatever
command is at the front of the queue and whatever the state, a step that answers a next state leaves the time floor at its
value or a higher one. The hourly update in LOCKED, an hour after the last one, raises it to the TAI second in progress
where that is higher, and changes nothing else but the time of the update; sooner, or in any other state of the time base,
it changes nothing. -/
def Obligations.TimeFloorNeverFalls : Prop :=
  (∀ (s t : State), step s = .next t → s.tim.floor ≤ t.tim.floor) ∧
  (∀ (s : State), s.Runs 18 →
    (s.rd TIM_STATUS_STATE = 2 → s.tim.floorAt + 3600000000000 ≤ s.now →
      exec .timeFloorUpdate s = .next (s.onTim (fun t => { t with floor := max t.floor (s.taiNs / 1000000000), floorAt := s.now }))) ∧
    ((s.rd TIM_STATUS_STATE ≠ 2 ∨ s.now < s.tim.floorAt + 3600000000000) → exec .timeFloorUpdate s = .next s))

/-- Cadence boundaries pass, timed copies launch or are dropped late, timestamps are popped, and publishers retransmit (R28,
R118, R306, R307, R308, R309, R316, R366). Once the counter has reached the boundary of the cycle in progress, the row fires
the seals and deadlines that are due and passes the boundary: the quire is formed, pending flips apply and the cycle number
becomes the next; before that time, or with no Binding, it changes nothing. A timed copy at the head of its queue of a line
port that is UP, idle and owes nothing first, whole and not late, whose SFD is due, starts, within 8 ns of its launch time
(a free value, log entry 4) or, where that has passed, as soon as it can; port A and I0 never launch so. Copies that can no
longer meet their launch time are dropped. POP latches the oldest timestamp entry of the port, or clears LATCHED where none
is stored. A publisher with a number whose interval has elapsed sends its next frame, or accepts its changed data set; where
publishers may not send, only its schedule moves on; before, nothing happens. -/
def Obligations.BoundariesLaunchesAndRetransmissions : Prop :=
  (∀ (s : State), s.Runs 18 →
    (s.loaded = true → s.boundary s.cycle ≤ s.tai → exec .cadenceBoundary s = .next s.instantsDue.cadenceBoundary) ∧
    ((s.loaded = false ∨ s.tai < s.boundary s.cycle) → exec .cadenceBoundary s = .next s)) ∧
  (∀ (s : State),
    let a := (((s.releases.abandonOld).formQuire s.cycle).lgeQuire).lgeBound s.cycle
    let b := (((a.twnBoundary s.cycle).tipBoundary s.cycle).migrateBoundary).wr TIM_CADENCE (s.cycle + 1)
    s.cadenceBoundary = (b.onSvi (fun v => { v with simMode := b.on SVI_CTRL_SIM_MODE })).folRefresh) ∧
  (∀ (p : Fin 20) (s : State), s.Runs 18 →
    (∀ c t, p.val < 18 → s.sending p.val = false → s.rdI SWC_P_STATE p.val = 1 → s.mac.respond.contains p.val = false →
      s.mac.ctrl.any (fun c => c.1 == p.val) = false → s.swc.copies.find? (s.mayLaunch p.val) = some c → c.launch = some t →
      (s.taiNs + s.sfdLead p.val ≤ t + 8 → ∃ v, v < 17 ∧ exec (.timedLaunch p) s = .next (s.fresh.2.startCopy c (t + v - 8))) ∧
      (t + 8 < s.fresh.2.taiNs + s.fresh.2.sfdLead p.val →
        exec (.timedLaunch p) s = .next (s.fresh.2.startCopy c (s.fresh.2.taiNs + s.fresh.2.sfdLead p.val)))) ∧
    ((18 ≤ p.val ∨ s.sending p.val = true ∨ s.rdI SWC_P_STATE p.val ≠ 1 ∨ s.mac.respond.contains p.val = true ∨
      s.mac.ctrl.any (fun c => c.1 == p.val) = true ∨ s.swc.copies.find? (s.mayLaunch p.val) = none) → exec (.timedLaunch p) s = .next s)) ∧
  (∀ (p : Fin 20) (s : State) (c : Copy), s.Runs 18 → s.swc.copies = [c] →
    (c.port = p.val → c.st = 1 → s.launchLate c = true → exec (.launchLate p) s = .next (s.dropLate c)) ∧
    ((c.port ≠ p.val ∨ c.st ≠ 1 ∨ s.launchLate c = false) → exec (.launchLate p) s = .next s)) ∧
  (∀ (who : Agent) (p : Fin 20) (s : State), s.Admits who (0xE1010 + 64 * p.val) false →
    let u := s.mbCount who
    (u.tsq.entries.find? (fun e => e.1 == p.val) = none → exec (.tsqPop who p) s = .next (u.wrI TIM_P_TSQ_STATUS_LATCHED p.val 0)) ∧
    (∀ e, u.tsq.entries.find? (fun e => e.1 == p.val) = some e →
      let v := (List.range 4).foldl (fun s k => s.wrK TIM_P_TSQ_DATA p.val k (bits e.2 (32 * k) 32))
        (u.onTsq (fun q => { q with entries := q.entries.erase e }))
      exec (.tsqPop who p) s = .next ((v.wrI TIM_P_TSQ_STATUS_LATCHED p.val 1).wrI TIM_P_TSQ_STATUS_COUNT p.val (v.tsqOf p.val).length))) ∧
  (∀ (p : Fin 256) (s : State), s.Runs 18 →
    let x := s.pubOf p.val
    ((x.stNum = 0 ∨ s.due x.due = false) → exec (.gooseRetransmit p) s = .next s) ∧
    (x.stNum ≠ 0 → s.due x.due = true →
      (x.changed = true → exec (.gooseRetransmit p) s = .next (s.pubAccept p.val
        (if Ent.PUB_OWNER.of (s.pubEnt p.val) = 2 then ctlData x.members (Ent.PUB_MEMBERS.of (s.pubEnt p.val)) else x.data))) ∧
      (x.changed = false →
        let c := s.ent 0xE02 (Ent.PUB_CURVE.of (s.pubEnt p.val))
        let u := s.setPub p.val { x with step := if x.step < Ent.RETR_STEPS.of c then x.step + 1 else 15,
                                         due := some (x.due.getD s.now + curveUs c x.step * 1000) }
        exec (.gooseRetransmit p) s = .next (s.pubSend p.val) ∧ (u.pubMaySend = false → s.pubSend p.val = u))))

/-- Event records are numbered after the scan, committed in order, read through two windows and cleared by the host (R327, R328,
R330, R331, R333, R334, R335, R336). Outside SCANNING the recorder commits the oldest queued record at the end of the
region; while SCANNING, or with an empty queue, it commits nothing. At the end of the start-up scan, NEXT is set, a CLEARED
record still owed and then START are numbered, then the records that waited; an unreadable probed slot is marked, at the end
of the run as an unreadable record, and sets ECC; later, or before start-up has decided, the row changes nothing of the
recorder. Window 0 takes cursor loads and reads from the Supervisor and window 1 from the management bus; another admitted
agent's write sets WRONG_AGENT and nothing else. A read answers NOT_YET while SCANNING or at or above NEXT as it stood when
the fabric cycle began, CLEARED below BASE, ECC with data 0 and the ECC flag, or VALID with the record, after which AUTO_INC
advances the cursor. GO of a clear is refused with BUSY in a clear, with SCANNING (3), and with STALE where UPTO is not NEXT
- 1 or a record waits; else the region is empty, BASE is NEXT, a CLEARED record with the old figures is queued and the front
starts at 0. At the end of the clear, once CLEARED is in the region, it reports DONE with result 0 and CLEARED; before,
nothing. Refreshing STATUS and reporting old tamper entries are the model's shared operations. -/
def Obligations.EventRecordsAreCommittedReadAndCleared : Prop :=
  (∀ (s : State), s.fabricUp = true → s.rd EVR_STATUS_STATE ≠ 0 →
    (∀ (r : EvRec) (q : List EvRec), s.evr.queue = r :: q →
      exec .recordCommit s = .next (((((s.onEvr (fun e => { e with
        region := e.region ++ [(r, false)], queue := q, newNow := e.newNow + 1,
        front := if e.clearing then max e.front (min 1048576 ((s.evr.region.length / 4096 + 1) * 4096)) else e.front })).evrAfterCommit r).evrRefresh).evrFull).tlogReport)) ∧
    (s.evr.queue = [] → exec .recordCommit s = .next s.tlogReport) ∧
    (∀ un : Option Nat, s.decided = true → exec (.evrScanDone un) s = .next s.tlogReport)) ∧
  (∀ (s : State), s.fabricUp = true →
    (s.rd EVR_STATUS_STATE = 0 → exec .recordCommit s = .next s.tlogReport) ∧
    (s.decided = false → ∀ un, exec (.evrScanDone un) s = .next s)) ∧
  (∀ (s : State), s.fabricUp = true → s.decided = true → s.rd EVR_STATUS_STATE = 0 →
    let scanned (x : State) : State :=
      let a := (x.onEvr (fun e => { e with queue := [] })).wr EVR_STATUS_STATE 1
      let b := match a.evr.cleared with | some r => if x.evr.region.length = 0 then a.evrEnter r else a | none => a
      let c := (b.flagIf b.evr.clearing EVR_TROUBLE_CLEAR_RESUMED).wrB EVR_CLEAR_STATUS_BUSY b.evr.clearing
      (((c.evrEnter (b.evrMake 1 0 0 b.taiNs false
        (leBytes 8 x.evr.region.length ++ leBytes 1 (b.rd SYS_RST_STATUS_LAST_KIND) ++ leBytes 1 (b2n b.evr.clearing)))).evrAdmit x.evr.queue).evrRefresh).evrFull.tlogReport
    exec (.evrScanDone none) s = .next (scanned s) ∧
    (∀ i, i < s.evr.region.length → exec (.evrScanDone (some i)) s = .next (scanned
      ((s.onEvr (fun e => { e with region := modAt e.region i (fun p => (p.1, true)) })).flag EVR_TROUBLE_ECC))) ∧
    exec (.evrScanDone (some s.evr.region.length)) s = .next (scanned ((s.onEvr (fun e => { e with region := e.region ++ [({
      stamp := 0, cls := 0, srcKind := 0, srcId := 0, stampCn := false, timeValid := false, active := false, body := [] }, true)] })).flag
        EVR_TROUBLE_ECC))) ∧
  (∀ (who : Agent) (win : Fin 2) (hi : BitVec 32) (s : State), s.Admits who (0xF0204 + 0x80 * win.val) false →
    let u := s.mbCount who
    ((who = .folio 0 ∧ win = 0 ∨ who = .mgmt ∧ win = 1) → exec (.cursorLoad who win hi) s =
      .next (u.wrI EVR_W_CURSOR win.val (u.rdI EVR_W_CURSOR win.val % 2 ^ 32 + hi.toNat * 2 ^ 32))) ∧
    (¬ (who = .folio 0 ∧ win = 0 ∨ who = .mgmt ∧ win = 1) →
      exec (.cursorLoad who win hi) s = .next (u.flag EVR_TROUBLE_WRONG_AGENT))) ∧
  (∀ (who : Agent) (win : Fin 2) (un : Bool) (s : State), s.Admits who (0xF0208 + 0x80 * win.val) false →
    let u := s.mbCount who
    let c := u.rdI EVR_W_CURSOR win.val
    let done := fun (x : State) (r : Nat) => ((x.wrI EVR_W_STATUS_BUSY win.val 0).wrI EVR_W_STATUS_RESULT win.val r).flagI EVR_W_STATUS_DONE win.val
    (¬ (who = .folio 0 ∧ win = 0 ∨ who = .mgmt ∧ win = 1) →
      exec (.evrRead who win un) s = .next (u.flag EVR_TROUBLE_WRONG_AGENT)) ∧
    ((who = .folio 0 ∧ win = 0 ∨ who = .mgmt ∧ win = 1) →
      (u.rd EVR_STATUS_STATE = 0 ∨ u.evrNext ≤ c + u.evr.newNow → exec (.evrRead who win un) s = .next (done u 1)) ∧
      (u.rd EVR_STATUS_STATE ≠ 0 → c + u.evr.newNow < u.evrNext → c < u.evrBase → exec (.evrRead who win un) s = .next (done u 2)) ∧
      (∀ (r : EvRec) (bad : Bool), u.rd EVR_STATUS_STATE ≠ 0 → c + u.evr.newNow < u.evrNext → u.evrBase ≤ c →
        u.evr.region[c - u.evrBase]? = some (r, bad) →
        (bad = true ∨ un = true → exec (.evrRead who win un) s = .next ((done (u.evrLatch win.val 0) 3).flag EVR_TROUBLE_ECC)) ∧
        (bad = false → un = false →
          let v := done (u.evrLatch win.val (r.toNat c)) 0
          exec (.evrRead who win un) s = .next (if v.onI EVR_W_CTRL_AUTO_INC win.val = true then v.wrI EVR_W_CURSOR win.val (c + 1) else v))))) ∧
  (∀ (who : Agent) (s : State), s.Admits who 0xF0038 true →
    let u := s.mbCount who
    (u.evr.clearing = true → exec (.evrClear who) s = .next (u.answer EVR_CLEAR_STATUS_DONE EVR_CLEAR_STATUS_RESULT 2)) ∧
    (u.evr.clearing = false → u.rd EVR_STATUS_STATE = 0 → exec (.evrClear who) s = .next (u.answer EVR_CLEAR_STATUS_DONE EVR_CLEAR_STATUS_RESULT 3)) ∧
    (u.evr.clearing = false → u.rd EVR_STATUS_STATE ≠ 0 → u.rd EVR_CLEAR_UPTO + 1 ≠ u.evrNext ∨ u.evrIdle = false →
      exec (.evrClear who) s = .next (u.answer EVR_CLEAR_STATUS_DONE EVR_CLEAR_STATUS_RESULT 1)) ∧
    (u.evr.clearing = false → u.rd EVR_STATUS_STATE ≠ 0 → u.rd EVR_CLEAR_UPTO + 1 = u.evrNext → u.evrIdle = true →
      let r := u.evrMake 0 0 0 u.taiNs false (leBytes 8 u.evrBase ++ leBytes 8 u.evr.region.length ++ leBytes 4 (u.rd EVR_LOST) ++
        leBytes 4 (u.rd EVR_QUEUE_LOST) ++ leBytes 4 (u.rd EVR_REFUSED))
      exec (.evrClear who) s = .next (((u.onEvr (fun e => { e with
        region := [], queue := [r], clearing := true, front := 0, cleared := some r, firstRefusal := none })).wr EVR_BASE u.evrNext).begin EVR_CLEAR_STATUS_BUSY).evrRefresh)) ∧
  (∀ (s : State), s.fabricUp = true →
    (s.evr.clearing = true → s.evr.region ≠ [] → s.rd EVR_STATUS_STATE ≠ 0 → exec .evrClearDone s = .next ((((s.onEvr (fun e => { e with clearing := false, front := 1048576, cleared := none })).finish
      EVR_CLEAR_STATUS_BUSY EVR_CLEAR_STATUS_DONE EVR_CLEAR_STATUS_RESULT 0).flag EVR_TROUBLE_CLEARED).evrRefresh)) ∧
    ((s.evr.clearing = false ∨ s.evr.region = [] ∨ s.rd EVR_STATUS_STATE = 0) → exec .evrClearDone s = .next s))

/-- Capture writes each position, fills, overflows and pauses, and sequencers evaluate at their position (R339, R341, R342,
R345, R348, R352, R355). With no new configuration waiting, a definition that is not OFF and whose reference set and
analogue sources are delivered captures its next position: PAUSED (5) and SUSPENDED (6) let it pass; a gap in progress
counts it; with room its record of R341 is written; without room an OVERFLOW definition starts a gap with GAP set and the
position counted, and another ends its gathering with cause OVERFLOW (1), counts it, sets OVERFLOW and is PAUSED. An OFF
definition, one with a change of state due, or a position that is not delivered captures nothing. HEAD positions after the
fill start a FILLING definition without a gap is ARMED (2); a GUTTER definition is ARMED after GUTTER positions; PAUSED goes
back to FILLING with room for HEAD + TAIL records; a gap ends with its record with 64 KiB + P free. A gathering in capture
ends with cause COMPLETE when TAIL positions from its trigger point are captured, GUTTER (4) or ARMED follows, and a waiting
configuration applies. ENABLE starts or stops every definition. The due sequencer evaluates transition A, then B where A is
not taken, at its position, and moves to the next; new rows take effect at its first position with an epoch at or above
BND_TIP_EPOCH, and with none due nothing changes. Otherwise each row changes nothing. (Model's readings: log entry 27.) -/
def Obligations.CaptureDefinitionsFollowTheirStates : Prop :=
  (∀ (d : Nat) (s : State), s.fabricUp = true →
    let x := s.gdef d
    (x.st = 0 ∨ s.gSettled d = false ∨ s.gRefSet x.cfg x.n = none ∨ s.gChans x.cfg.sc x.n x.cfg.srcs = none → exec (.positionCapture d) s = .next s) ∧
    (∀ (e : Nat) (vs : List (Int × Nat × Bool)), x.st ≠ 0 → s.gSettled d = true → s.gRefSet x.cfg x.n = some e → s.gChans x.cfg.sc x.n x.cfg.srcs = some vs → x.next = none →
      let r : GRec := { off := x.wr, n := x.n, bytes := gRecord x.cfg x.cfg.rate x.n (x.num x.n) (s.gBits x.cfg) vs,
                        vals := vs.map (fun v => (v.1, v.2.1)), act := s.isActive, tv := s.on TIM_STATUS_TIME_VALID,
                        utc := s.rd TIM_UTC_OFFSET_OFFSET_S }
      (x.st = 5 ∨ x.st = 6 → exec (.positionCapture d) s = .next (s.gPass d).gShow) ∧
      (¬ (x.st = 5 ∨ x.st = 6) → x.gap.isSome = true →
        exec (.positionCapture d) s = .next ((s.bump GTH_GAP_POSITIONS).gPass d).gShow) ∧
      (¬ (x.st = 5 ∨ x.st = 6) → x.gap = none → x.cfg.p ≤ s.gFree d →
        exec (.positionCapture d) s = .next ((s.gWrite d r).gPass d).gShow) ∧
      (¬ (x.st = 5 ∨ x.st = 6) → x.gap = none → s.gFree d < x.cfg.p → Ent.GATH_OVERFLOW.on x.cfg.ent = true →
        exec (.positionCapture d) s = .next ((((s.setGdef d { x with gap := some x.n }).flag GTH_TROUBLE_GAP).bump GTH_GAP_POSITIONS).gPass d).gShow) ∧
      (¬ (x.st = 5 ∨ x.st = 6) → x.gap = none → s.gFree d < x.cfg.p → Ent.GATH_OVERFLOW.on x.cfg.ent = false →
        let u := ((s.gEnd d 1).bump GTH_OVERFLOWS).flag GTH_TROUBLE_OVERFLOW
        exec (.positionCapture d) s = .next ((u.setGdef d { u.gdef d with st := 5 }).gPass d).gShow))) ∧
  (∀ (d : Nat) (s : State), s.fabricUp = true →
    let x := s.gdef d
    (x.st = 1 ∧ x.gap = none ∧ x.fill + x.cfg.head ≤ x.n → exec (.headFilled d) s = .next (s.setGdef d { x with st := 2 }).gShow) ∧
    (¬ (x.st = 1 ∧ x.gap = none ∧ x.fill + x.cfg.head ≤ x.n) → exec (.headFilled d) s = .next s) ∧
    (x.st = 4 ∧ x.gutter + Ent.GATH_GUTTER.of x.cfg.ent ≤ x.n → exec (.gutterEnd d) s = .next (s.setGdef d { x with st := 2 }).gShow) ∧
    (¬ (x.st = 4 ∧ x.gutter + Ent.GATH_GUTTER.of x.cfg.ent ≤ x.n) → exec (.gutterEnd d) s = .next s) ∧
    (x.st = 5 ∧ (x.cfg.head + x.cfg.tail) * x.cfg.p ≤ s.gFree d →
      exec (.captureResume d) s = .next (s.gFill d x.n).gShow) ∧
    (¬ (x.st = 5 ∧ (x.cfg.head + x.cfg.tail) * x.cfg.p ≤ s.gFree d) → exec (.captureResume d) s = .next s) ∧
    (x.gap = none → exec (.gapEnd d) s = .next s) ∧
    (∀ n0 : Nat, x.gap = some n0 →
      (¬ (65536 + x.cfg.p ≤ s.gFree d ∧ 1 ≤ x.st ∧ x.st ≤ 4) → exec (.gapEnd d) s = .next s) ∧
      (65536 + x.cfg.p ≤ s.gFree d ∧ 1 ≤ x.st ∧ x.st ≤ 4 →
        let bs := List.replicate 8 0xFF#8 ++ leBytes 4 (x.n - n0) ++ leBytes 4 (x.num n0) ++ leBytes 8 (instantOf x.cfg.rate n0) ++ List.replicate 40 0
        let u := (s.setGdef d { x with gap := none }).gWrite d { off := x.wr, n := n0, gap := true, bytes := bs }
        exec (.gapEnd d) s = .next (if x.st = 3 then u else u.gFill d x.n).gShow))) ∧
  (∀ (d : Nat) (s : State), s.fabricUp = true →
    let x := s.gdef d
    (x.cur = none → exec (.gatheringComplete d) s = .next s) ∧
    (∀ q : Nat, x.cur = some q → s.gth.open_.find? (fun g => decide (g.seq = q)) = none → exec (.gatheringComplete d) s = .next s) ∧
    (∀ (q : Nat) (g : Gath), x.cur = some q → s.gth.open_.find? (fun g => decide (g.seq = q)) = some g →
      (x.n < g.tp + g.cfg.tail → exec (.gatheringComplete d) s = .next s) ∧
      (g.tp + g.cfg.tail ≤ x.n →
        let u := s.gEnd d 0
        let y := u.gdef d
        exec (.gatheringComplete d) s = .next ((u.setGdef d { y with
          st := if Ent.GATH_GUTTER.of y.cfg.ent = 0 then 2 else 4, gutter := g.tp + g.cfg.tail }).gApply d).gShow))) ∧
  (∀ (who : Agent) (s : State), s.Admits who 0x100004 false →
    let u := s.mbCount who
    exec (.gthEnable who true) s = .next (u.gPlaces.foldl (fun t d => t.gStart d (t.nextPos (t.gdef d).cfg.rate)) (u.wrB GTH_CTRL_ENABLE true)).gShow ∧
    exec (.gthEnable who false) s = .next (u.gPlaces.foldl (fun t d => t.gStop d 5) (u.wrB GTH_CTRL_ENABLE false)).gShow) ∧
  (∀ (s : State), s.fabricUp = true →
    (firstDue s.gDue = none → exec .sequencerEval s = .next s) ∧
    (∀ i n rate : Nat, firstDue s.gDue = some (i, n, rate) →
      let q := s.gseq i
      let epoch := ((s.gTimeline q).bind (fun x => s.gRefSet x.cfg n)).getD (2 ^ 64)
      (q.next.isSome = true ∧ s.rd BND_TIP_EPOCH ≤ epoch → exec .sequencerEval s = .next ((s.setGseq i q.apply).gRetime).gShow) ∧
      (¬ (q.next.isSome = true ∧ s.rd BND_TIP_EPOCH ≤ epoch) →
        let q1 : GSeq := if q.reset = true then { q with st := 0, run := false, left := 0, count := 0 } else q
        let q2 : GSeq := if q1.run = true ∧ 0 < q1.left then { q1 with left := q1.left - 1 } else q1
        let u := s.setGseq i q2
        let v := match u.gTry i q2 true n rate with
          | some t => t
          | none => (u.gTry i q2 false n rate).getD u
        exec .sequencerEval s = .next (v.setGseq i { v.gseq i with
          n := some (n + 1), force := false, reset := false, prev := u.gSeen q2 }).gShow)))

/-- Ended gatherings are stored, read, copied to the host and deleted, and FORCE and RESET wait for an evaluation (R345, R351,
R353, R354, R361, R485). Once the start-up scan is over, the gathering that the NAND channel serves is stored when it has
ended: with room its bytes join the store, it leaves the queue and an event reports it; in a full store, or without room for
it, STORE_FULL is set and it stays; with none that has ended nothing changes. The scan's end counts and reports each torn
gathering. HOST_EN is refused with BAD_BUF (3) for an unusable host ring, else set, and the host channel runs on, as it does
after a write of CONSUMED. A store command during another answers BUSY (2). DELETE_UPTO removes the stored gatherings up to
ARG, with result 0 and an event, or NOT_FOUND (1) where there is none; READ_TO_HOST ends with 3 without a host ring, with 1
for a SEQ not stored, and else starts the copy; the result appears when the command finishes. A NAND window read latches the
64 aligned bytes at the offset with result 0, or answers 1 for a SEQ not stored, 2 beyond the end and 3 with ECC. FORCE and
RESET are kept for the sequencer's next evaluation. -/
def Obligations.GatheringsAreStoredReadAndDeleted : Prop :=
  (∀ (s : State), s.Runs 17 →
    (s.gHead false = none → exec .gatheringStored s = .next s) ∧
    (∀ g : Gath, s.gHead false = some g →
      (g.ended = false ∨ s.on GTH_STATUS_STORE_SCANNING = true → exec .gatheringStored s = .next s) ∧
      (g.ended = true → s.on GTH_STATUS_STORE_SCANNING = false → s.gFull = true ∨ s.gRoom < (g.bytes g.cycle).length →
        exec .gatheringStored s = .next (s.flag GTH_TROUBLE_STORE_FULL).gShow) ∧
      (g.ended = true → s.on GTH_STATUS_STORE_SCANNING = false → s.gFull = false → (g.bytes g.cycle).length ≤ s.gRoom →
        exec .gatheringStored s = .next ((((s.gDrained g.seq).onGth (fun e => { e with stored := e.stored ++ [(g.seq, g.bytes g.cycle)] })).gEvent
          3 g.d g.sqr g.cause g.seq (instantOf g.rate g.tp) g.count g.gaps)).gShow)) ∧
    (s.decided = true → s.on GTH_STATUS_STORE_SCANNING = true →
      exec .storeScanDone s = .next (s.gth.torn.foldl (fun s t => ((s.bump GTH_TORN).flag GTH_TROUBLE_TORN).gEvent 4 t.2.1 t.2.2.1 0 t.1 t.2.2.2 0 0)
        ((s.wr GTH_STATUS_STORE_SCANNING 0).onGth (fun g => { g with torn := [] }))).gShow) ∧
    (s.decided = false ∨ s.on GTH_STATUS_STORE_SCANNING = false → exec .storeScanDone s = .next s) ∧
    (s.gth.cmdResult = none → exec .gthStoreCmdDone s = .next s) ∧
    (∀ r : Nat, s.gth.cmdResult = some r → exec .gthStoreCmdDone s = .next ((s.onGth (fun g => { g with cmdResult := none })).finish
      GTH_STORE_STATUS_BUSY GTH_STORE_STATUS_DONE GTH_STORE_STATUS_RESULT r))) ∧
  (∀ (who : Agent) (en : Bool) (s : State), s.Admits who 0x100004 false →
    let u := s.mbCount who
    (en = true ∧ u.hostRing = none → exec (.hostEnWrite who en) s = .next (u.answer GTH_STORE_STATUS_DONE GTH_STORE_STATUS_RESULT 3)) ∧
    (¬ (en = true ∧ u.hostRing = none) → exec (.hostEnWrite who en) s = .next (u.wrB GTH_CTRL_HOST_EN en).hostRun)) ∧
  (∀ (who : Agent) (v : BitVec 32) (s : State), s.Admits who 0x100040 false →
    exec (.hostConsumedWrite who v) s = .next ((s.mbCount who).wr GTH_HOST_CONSUMED v.toNat).hostRun) ∧
  (∀ (who : Agent) (s : State), s.Admits who 0x100020 true →
    let a := (s.mbCount who).wr GTH_STORE_CMD_OP 1
    let b := (s.mbCount who).wr GTH_STORE_CMD_OP 2
    let gone := a.gth.stored.filter (fun g => decide (g.1 ≤ a.rd GTH_STORE_ARG))
    (a.on GTH_STORE_STATUS_BUSY = true → exec (.deleteUpto who) s = .next (a.answer GTH_STORE_STATUS_DONE GTH_STORE_STATUS_RESULT 2)) ∧
    (a.on GTH_STORE_STATUS_BUSY = false → gone = [] →
      exec (.deleteUpto who) s = .next ((a.begin GTH_STORE_STATUS_BUSY).storeCmdEnds 1)) ∧
    (∀ g : Nat × List Byte, a.on GTH_STORE_STATUS_BUSY = false → gone.getLast? = some g →
      exec (.deleteUpto who) s = .next (((((a.begin GTH_STORE_STATUS_BUSY).onGth (fun e => { e with
        stored := e.stored.filter (fun x => decide (a.rd GTH_STORE_ARG < x.1)) })).storeCmdEnds 0).gEvent 5 0 0 0 g.1 0 0 0).gShow)) ∧
    (b.on GTH_STORE_STATUS_BUSY = true → exec (.readToHost who) s = .next (b.answer GTH_STORE_STATUS_DONE GTH_STORE_STATUS_RESULT 2)) ∧
    (b.on GTH_STORE_STATUS_BUSY = false →
      let c := b.begin GTH_STORE_STATUS_BUSY
      (c.on GTH_CTRL_HOST_EN = false ∨ c.hostRing = none → exec (.readToHost who) s = .next (c.storeCmdEnds 3)) ∧
      (c.on GTH_CTRL_HOST_EN = true → c.hostRing ≠ none → c.gStored (b.rd GTH_STORE_ARG) = none → exec (.readToHost who) s = .next (c.storeCmdEnds 1)) ∧
      (c.on GTH_CTRL_HOST_EN = true → c.hostRing ≠ none → c.gStored (b.rd GTH_STORE_ARG) ≠ none →
        exec (.readToHost who) s = .next (c.onGth (fun g => { g with copyWaits := some (b.rd GTH_STORE_ARG) })).hostRun))) ∧
  (∀ (who : Agent) (un : Bool) (s : State), s.Admits who 0x10007C false →
    let u := s.mbCount who
    let off := u.rd GTH_NW_OFFSET
    (u.gStored (u.rd GTH_NW_SEQ) = none → exec (.nandWindowRead who un) s = .next (u.answer GTH_NW_STATUS_DONE GTH_NW_STATUS_RESULT 1)) ∧
    (∀ bs : List Byte, u.gStored (u.rd GTH_NW_SEQ) = some bs →
      (bs.length ≤ off → exec (.nandWindowRead who un) s = .next (u.answer GTH_NW_STATUS_DONE GTH_NW_STATUS_RESULT 2)) ∧
      (off < bs.length → un = true →
        exec (.nandWindowRead who un) s = .next ((u.answer GTH_NW_STATUS_DONE GTH_NW_STATUS_RESULT 3).flag GTH_TROUBLE_ECC)) ∧
      (off < bs.length → un = false →
        exec (.nandWindowRead who un) s = .next (((List.range 16).foldl (fun t k =>
          t.wrK GTH_NW_DATA 0 k (leAt (slice bs (off / 64 * 64) 64) (4 * k) 4)) u).answer GTH_NW_STATUS_DONE GTH_NW_STATUS_RESULT 0)))) ∧
  (∀ (who : Agent) (q : Fin 16) (s : State), s.Admits who (0x100800 + 32 * q.val) true →
    let u := s.mbCount who
    exec (.sequencerForce who q) s = .next (u.onGth (fun g => { g with seqs := g.seqs.map (fun e =>
      if e.2.num = q.val then (e.1, { e.2 with force := true }) else e) })) ∧
    exec (.sequencerReset who q) s = .next (u.onGth (fun g => { g with seqs := g.seqs.map (fun e =>
      if e.2.num = q.val then (e.1, { e.2 with reset := true }) else e) })))

/-- The twin role follows the peer's line and heartbeats: standby, promotion, withdrawal, isolation (R364, R365, R367, R370,
R376, R380). ENABLE moves a loaded module from OFF to INIT with both lanes up, and on to SYNCING where the peer's line is
HOLDING already; elsewhere it only writes the bit. HOLDING on the peer's line makes a module in INIT SYNCING. FORCING makes
an ACTIVE or PROMOTING module withdraw with cause 9; where both claim in INIT the module at PREFER_POS goes on and the other
becomes SYNCING and stops acting; another role only notes it. A RELEASED line with fresh heartbeats sets TOKEN_FAULT where
they show the peer ACTIVE or PROMOTING, and else lets a STANDBY promote with cause 8. A peer silent on both is declared
failed once: a STANDBY claims warm with cause 7; a SYNCING, ISOLATED or FENCED module claims cold with COLD_PROMOTE; each of
them that may not claim, as outside RUN, sets NO_PEER and is ISOLATED. Heartbeats lost under HOLDING set CORUSK_LOST and
isolate a SYNCING or STANDBY module. A heartbeat is noted: a FENCED peer without HOLDING lets a STANDBY promote, an ACTIVE
one makes an ISOLATED module SYNCING, an ACTIVE or PROMOTING one a FENCED module; a bad frame is counted. Three readback
mismatches set TOKEN_FAULT; an ACTIVE module withdraws with cause 10. Roles: 0 OFF, 2 INIT, 3 ACTIVE, 4 PROMOTING, 5
SYNCING, 6 STANDBY, 7 ISOLATED, 8 FENCED. -/
def Obligations.TwinRolesFollowThePeer : Prop :=
  (∀ (who : Agent) (en : Bool) (s : State), s.Admits who 0x110004 true →
    let u := (s.mbCount who).wrB TWN_CTRL_ENABLE en
    (en = true ∧ u.role = 0 ∧ u.loaded = true → exec (.twinEnable who en) s =
      let v := ((u.onTwn (fun t => { t with initAt := u.now, drive := false, hbAt := none, accepted := 0 })).wr TWN_STATUS_LANES_UP 3).twnRole 2 1
      .next (if u.twn.peerLine = 1 then v.twnRole 5 4 else v)) ∧
    (¬ (en = true ∧ u.role = 0 ∧ u.loaded = true) → exec (.twinEnable who en) s = .next u)) ∧
  (∀ (s : State), s.fabricUp = true →
    let a := (s.onTwn (fun t => { t with peerLine := 1, lineAt := some s.now, peerDown := false })).twnShow
    let b := (s.onTwn (fun t => { t with peerLine := 2, lineAt := some s.now, peerDown := false })).twnShow
    let c := (s.onTwn (fun t => { t with peerLine := 0 })).twnShow
    (a.role = 2 → exec .peerHolding s = .next ((a.onTwn (fun t => { t with accepted := 0 })).twnRole 5 4)) ∧
    (a.role ≠ 2 → exec .peerHolding s = .next a) ∧
    (b.role = 4 → b.twn.initClaim = true → b.rd TWN_STATUS_POSITION = b.rd TWN_CFG_PREFER_POS → exec .peerForcing s = .next b) ∧
    (b.role = 4 → b.twn.initClaim = true → b.rd TWN_STATUS_POSITION ≠ b.rd TWN_CFG_PREFER_POS →
      exec .peerForcing s = .next ((b.onTwn (fun t => { t with accepted := 0 })).twnRole 5 3).stopActing.twnShow) ∧
    (b.role = 3 ∨ b.role = 4 ∧ b.twn.initClaim = false →
      exec .peerForcing s = .next ((b.onTwn (fun t => { t with forceSeen := true })).withdraw 9)) ∧
    (b.role ≠ 3 → b.role ≠ 4 → exec .peerForcing s = .next b) ∧
    (s.twn.peerLine = 0 ∨ c.twinOn = false ∨ c.hbFresh = false → exec .peerReleased s = .next c) ∧
    (∀ p : Beat, s.twn.peerLine ≠ 0 → c.twinOn = true → c.hbFresh = true → c.twn.peer = some p →
      (p.role = 3 ∨ p.role = 4 → exec .peerReleased s = .next (c.flag TWN_TROUBLE_TOKEN_FAULT)) ∧
      (p.role ≠ 3 → p.role ≠ 4 → exec .peerReleased s = .next (if c.role = 6 ∧ c.power = 3 then c.claim false 8 else c)))) ∧
  (∀ (s : State), s.fabricUp = true → s.twinOn = true → s.hbFresh = false → s.twn.peerDown = false →
    (s.twn.lineAt = none ∨ s.twn.peerLine = 0 ∨ ∃ t, s.twn.lineAt = some t ∧ t + 25000 ≤ s.now) →
    let u := ((s.flag TWN_TROUBLE_PEER_FAILED).onTwn (fun t => { t with peerDown := true, peerLine := 0 })).twnShow
    let v := u.flag TWN_TROUBLE_NO_PEER
    (u.role = 6 → u.power = 3 → exec .peerFailed s = .next (u.claim false 7)) ∧
    ((u.role = 5 ∨ u.role = 7 ∨ u.role = 8) → u.on TWN_CFG_COLD_PROMOTE = true ∧ u.power = 3 → exec .peerFailed s = .next (u.claim true 7)) ∧
    (u.role = 6 ∧ u.power ≠ 3 ∨ (u.role = 5 ∨ u.role = 7 ∨ u.role = 8) ∧ ¬ (u.on TWN_CFG_COLD_PROMOTE = true ∧ u.power = 3) →
      exec .peerFailed s = .next (if v.role = 7 then v else v.twnRole 7 7)) ∧
    (u.role < 5 ∨ 8 < u.role → exec .peerFailed s = .next u)) ∧
  (∀ (s : State), s.fabricUp = true →
    (s.twinOn = false ∨ s.hbFresh = true ∨ s.twn.peerDown = true ∨ (s.twn.peerLine ≠ 0 ∧ ∃ t, s.twn.lineAt = some t ∧ s.now < t + 25000) →
      exec .peerFailed s = .next s) ∧
    (s.twinOn = false ∨ s.hbFresh = true ∨ s.twn.peerLine ≠ 1 → exec .coruskLost s = .next s) ∧
    (s.twinOn = true → s.hbFresh = false → s.twn.peerLine = 1 →
      let u := (s.flag TWN_TROUBLE_CORUSK_LOST).twnShow
      exec .coruskLost s = .next (if u.role = 5 ∨ u.role = 6 then u.twnRole 7 13 else u)) ∧
    (let u := (s.flag TWN_TROUBLE_TOKEN_FAULT).onTwn (fun t => { t with readbackBad := true })
     exec .tokenReadbackFault s = .next (if u.role = 3 then u.withdraw 10 else u))) ∧
  (∀ (bs : List Byte) (s : State), s.Runs 19 →
    (s.twinOn = false → exec (.heartbeatRx bs) s = .next s) ∧
    (∀ f : CFrame, s.twinOn = true → parseFrame bs = some f → f.typ ≠ 1 ∨ f.payload.length ≠ 64 → exec (.heartbeatRx bs) s = .next s) ∧
    (s.twinOn = true → parseFrame bs = none → exec (.heartbeatRx bs) s = .next (s.bump TWN_FRAME_ERR)) ∧
    (∀ f : CFrame, s.twinOn = true → parseFrame bs = some f → f.typ = 1 → f.payload.length = 64 →
      let b := beatOf f s.now
      let u := (s.onTwn (fun t => { t with peer := some b, peerDown := false })).twnShow
      let sync := fun (n : Nat) => (u.onTwn (fun t => { t with accepted := 0 })).twnRole 5 n
      (u.role = 6 → exec (.heartbeatRx bs) s = .next (if b.role = 8 ∧ u.twn.peerLine ≠ 1 ∧ u.power = 3 then u.claim false 8 else u)) ∧
      (u.role = 7 → exec (.heartbeatRx bs) s = .next (if b.role = 3 then sync 14 else u)) ∧
      (u.role = 8 → exec (.heartbeatRx bs) s = .next (if b.role = 3 ∨ b.role = 4 then sync 4 else u)) ∧
      (u.role < 6 ∨ 8 < u.role → exec (.heartbeatRx bs) s = .next u)))

/-- Leases, cold claims, promotions, handovers, heartbeats sent, quires and lanes (R364, R366, R368, R370, R371, R374, R375,
R377, R380, R382). With its conditions met, the lease of an ACTIVE module is renewed once a cycle length has passed, and not
otherwise; after a cycle length and 50 us it lapses, the lease bit falls, LEASE_LAPSED is set and the module withdraws with
cause 11. Without a lease neither changes anything. In RUN, a module in INIT with the peer's line released claims cold where
it is at PREFER_POS and 1 ms has passed, or INIT_WAIT_MS without a sign of the peer. A PROMOTING module whose FORCING has
ended without the peer's, and that is caught up, becomes ACTIVE with the lease. RELINQUISH is scheduled by an ACTIVE module
whose peer is STANDBY and changes nothing else; after its last quire has left the module withdraws with cause 12. A due
heartbeat is sent and numbered. A quire that has left shows its number, length and time and is counted. A module that is not
SYNCING or STANDBY takes no quire. There, an accepted one is installed, counted and shown, and after SYNC_QUIRES (or 8) in a
row a SYNCING module is STANDBY; a refused one is counted with its cause and QUIRE_REFUSED, and with CADENCE or CONFIG a
STANDBY goes back to SYNCING with SYNC_LOST. A lane that is up goes down with a count and LANE_DOWN, and rejoins in twin
operation. -/
def Obligations.LeasesQuiresAndHandovers : Prop :=
  (∀ (s : State), s.fabricUp = true →
    (s.twn.leaseAt = none → exec .leaseRenew s = .next s ∧ exec .leaseLapse s = .next s) ∧
    (∀ t : Nat, s.twn.leaseAt = some t → s.role = 3 →
      (t + s.cycleNs ≤ s.now → s.now < t + s.cycleNs + 50000 → s.twn.peerLine ≠ 2 → s.twn.readbackBad = false →
        exec .leaseRenew s = .next (s.onTwn (fun e => { e with leaseAt := some s.now }))) ∧
      (s.now < t + s.cycleNs ∨ t + s.cycleNs + 50000 ≤ s.now ∨ s.twn.peerLine = 2 ∨ s.twn.readbackBad = true → exec .leaseRenew s = .next s) ∧
      (t + s.cycleNs + 50000 ≤ s.now →
        exec .leaseLapse s = .next (((s.wr TWN_STATUS_LEASE 0).flag TWN_TROUBLE_LEASE_LAPSED).withdraw 11)) ∧
      (s.now < t + s.cycleNs + 50000 → exec .leaseLapse s = .next s)) ∧
    (∀ t : Nat, s.twn.leaseAt = some t → s.role ≠ 3 → exec .leaseRenew s = .next s ∧ exec .leaseLapse s = .next s) ∧
    (s.role = 2 → s.power = 3 → s.twn.peerLine = 0 →
      let line := max s.twn.initAt (s.twn.lineAt.getD 0)
      let sign := max line ((s.twn.peer.map (fun b => b.at_)).getD 0)
      ((s.rd TWN_STATUS_POSITION = s.rd TWN_CFG_PREFER_POS ∧ line + 1000000 ≤ s.now) ∨
          sign + s.rdOr TWN_CFG_INIT_WAIT_MS 100 * 1000000 ≤ s.now → exec .initClaim s = .next (s.claim true 2)) ∧
      (s.now < line + 1000000 ∨ s.rd TWN_STATUS_POSITION ≠ s.rd TWN_CFG_PREFER_POS → s.now < sign + s.rdOr TWN_CFG_INIT_WAIT_MS 100 * 1000000 → exec .initClaim s = .next s)) ∧
    (s.role ≠ 2 ∨ s.power ≠ 3 ∨ s.twn.peerLine ≠ 0 → exec .initClaim s = .next s) ∧
    (s.role = 4 → s.twn.forceEnd ≤ s.now → s.twn.forceSeen = false → s.caughtUp = true →
      let u := ((s.wrSat TWN_PROMOTION_GAP_US ((s.now - s.twn.declAt) / 1000)).onTwn (fun t => { t with
        leaseAt := some s.now, initClaim := false })).wr TWN_STATUS_LEASE 1
      exec .promotionComplete s = .next ((u.twnRole 3 15).ctlFollow).twnShow) ∧
    (s.role ≠ 4 ∨ s.now < s.twn.forceEnd ∨ s.twn.forceSeen = true ∨ s.caughtUp = false → exec .promotionComplete s = .next s) ∧
    (s.role = 3 ∧ s.twn.relinquish = 2 ∧ s.twn.tx = none → exec .relinquishWithdraw s = .next (s.withdraw 12)) ∧
    (¬ (s.role = 3 ∧ s.twn.relinquish = 2 ∧ s.twn.tx = none) → exec .relinquishWithdraw s = .next s)) ∧
  (∀ (who : Agent) (s : State), s.Admits who 0x110004 true →
    let u := s.mbCount who
    (u.role = 3 ∧ (u.twn.peer.map (fun b => b.role)) = some 6 →
      exec (.relinquish who) s = .next (u.onTwn (fun t => { t with relinquish := max 1 t.relinquish }))) ∧
    (¬ (u.role = 3 ∧ (u.twn.peer.map (fun b => b.role)) = some 6) → exec (.relinquish who) s = .next u)) ∧
  (∀ (s : State), s.Runs 19 →
    (s.twinOn = true → (s.twn.hbAt = none ∨ ∃ t, s.twn.hbAt = some t ∧ t + 10000 ≤ s.now) →
      exec .heartbeatTx s = .next (s.onTwn (fun t => { t with hbOut := s.hbFrame, hbAt := some s.now, txSeq := (t.txSeq + 1) % 2 ^ 32 }))) ∧
    (s.twinOn = false ∨ (∃ t, s.twn.hbAt = some t ∧ s.now < t + 10000) → exec .heartbeatTx s = .next s) ∧
    (s.twn.tx = none → exec .quireTxDone s = .next s) ∧
    (∀ q : QuireTx, s.twn.tx = some q →
      let fs := q.frames s.bindingDigest s.twn.txSeq
      let t := satNat 16 ((s.now - q.at_) / 100)
      let u := s.onTwn (fun e => { e with tx := none, quireOut := fs, txSeq := (e.txSeq + fs.length) % 2 ^ 32 })
      let v := ((u.wr TWN_QUIRE_TX q.n).wrSat TWN_QUIRE_LEN q.len).wr TWN_QUIRE_TIME_LAST t
      exec .quireTxDone s = .next ((v.wr TWN_QUIRE_TIME_PEAK (max t (s.rd TWN_QUIRE_TIME_PEAK))).bump TWN_QUIRES_SENT)) ∧
    (∀ frames : List (List Byte), s.role ≠ 5 → s.role ≠ 6 → exec (.quireRx frames) s = .next s) ∧
    (∀ frames : List (List Byte), (s.role = 5 ∨ s.role = 6) →
      let u := s.bumpBy TWN_FRAME_ERR (frames.filter (fun f => (parseFrame f).isNone)).length
      let c := u.quireCause frames
      let taken := fun (q : QuireRx) =>
        let a := u.quireInstall q
        let b := a.onTwn (fun t => { t with accepted := a.twn.accepted + 1 })
        let v := (((b.bump TWN_QUIRES_ACCEPTED).wr TWN_QUIRE_RX q.n).wrSat TWN_QUIRE_LEN q.total).wr TWN_STATUS_QUIRE_AGE 0
        if v.role = 5 ∧ v.rdOr TWN_CFG_SYNC_QUIRES 8 ≤ a.twn.accepted + 1 then v.twnRole 6 5 else v
      let refused :=
        let v := ((((u.bump TWN_QUIRES_REFUSED).wr TWN_LAST_REFUSE_CAUSE c).wr TWN_LAST_REFUSE_VALID 1).flag
          TWN_TROUBLE_QUIRE_REFUSED).onTwn (fun t => { t with accepted := 0 })
        if v.role = 6 ∧ (c = 3 ∨ c = 4) then (v.flag TWN_TROUBLE_SYNC_LOST).twnRole 5 6 else v
      exec (.quireRx frames) s = .next (((parseQuire frames).filter (fun _ => decide (c = 0))).elim refused taken))) ∧
  (∀ (l : Fin 2) (s : State), s.fabricUp = true →
    (bitAt (s.rd TWN_STATUS_LANES_UP) l.val = true →
      exec (.coruskLaneDown l) s = .next (((s.wrBit TWN_STATUS_LANES_UP 0 l.val false).bump TWN_LANE_LOSSES).flag TWN_TROUBLE_LANE_DOWN)) ∧
    (bitAt (s.rd TWN_STATUS_LANES_UP) l.val = false → exec (.coruskLaneDown l) s = .next s) ∧
    (s.clk 19 = true → s.twinOn = true → exec (.coruskLaneRejoin l) s = .next (s.wrBit TWN_STATUS_LANES_UP 0 l.val true)) ∧
    (s.twinOn = false ∨ s.clk 19 = false → exec (.coruskLaneRejoin l) s = .next s))

/-- KEY operations start or are refused by their rules, and finish with RESULT, output and DONE (R390, R407, R411, R412, R413,
R414, R418, R484, R485). A write of KEY_OP_CTRL sets OP, SRC and SLOT. With an operation in progress it answers BUSY (0x11)
only. Otherwise a busy Binding answers 0x11, a store that is not READY 0x12, ATTEST without ATTEST_EN 0x13 and ATTEST with
the last index used 0x0E with ATTEST_EXHAUSTED, each without valid output. UPDATE (1) and VERIFY (2) with a readable input,
ATTEST (3) and PUBKEY (4) with a place for their output, and DELETE (5) start: the generations of the usable slots that it
uses and the input bytes are taken, ATTEST takes the next index and builds its statement, and BUSY sets; without such a
buffer they answer BUFFER (0x14). When an operation finishes, it takes its forced result, UNUSABLE (0x0C) where a slot that
it uses has lost its usability or generation, or what it computes; only with result 0 is its output valid and written;
RESULT and DONE are set and the read offset returns to 0. KEY_OP_WR appends four bytes to a buffer that is not full, and
KEY_OP_RD gives the next four. UNSEAL_DONE makes an unsealing store READY, and changes nothing of any other. After
ZEROIZE_METADATA_DONE no metadata rewrite is owed. Epochs of orphaned keys are the model's svOrphans. -/
def Obligations.KeyOperationsRunAndAnswer : Prop :=
  (∀ (who : Agent) (src : Bool) (slot : Fin 1024) (s : State), s.Admits who 0x120030 true →
    let go := fun (k : Nat) => ((((s.mbCount who).wr KEY_OP_CTRL_OP k).wrB KEY_OP_CTRL_SRC src).wr KEY_OP_CTRL_SLOT slot.val).keyStart (s.mbCount who).lcs.log.length
    (exec (.update who src slot) s = .next (go 1) ∧ exec (.verify who src slot) s = .next (go 2) ∧ exec (.attest who src slot) s = .next (go 3) ∧
     exec (.pubkey who src slot) s = .next (go 4) ∧ exec (.delete who src slot) s = .next (go 5)) ∧
    ∀ p ∈ ([(.update who src slot, 1), (.verify who src slot, 2), (.attest who src slot, 3), (.pubkey who src slot, 4),
            (.delete who src slot, 5)] : List (Instr × Nat)),
    let u := (((s.mbCount who).wr KEY_OP_CTRL_OP p.2).wrB KEY_OP_CTRL_SRC src).wr KEY_OP_CTRL_SLOT slot.val
    let refuse := fun (x : State) (r : Nat) => (x.wr KEY_OP_STATUS_OUTPUT_VALID 0).answer KEY_OP_STATUS_DONE KEY_OP_STATUS_RESULT r
    let k := u.rd KEY_OP_CTRL_OP
    let dram := u.rd KEY_OP_CTRL_SRC = 0
    let inA := u.window 0 (u.rd KEY_OP_BASE) (u.rd KEY_OP_LEN) false
    let outA := u.window 0 (u.rd KEY_OP_OUT) (keyOutLen k) true
    (s.Wf → k = p.2 ∧ u.rd KEY_OP_CTRL_SLOT = slot.val) ∧
    (u.on KEY_OP_STATUS_BUSY = true → exec p.1 s = .next (u.answer KEY_OP_STATUS_DONE KEY_OP_STATUS_RESULT 0x11)) ∧
    (u.on KEY_OP_STATUS_BUSY = false →
      (u.on BND_STATUS_BUSY = true → exec p.1 s = .next (refuse u 0x11)) ∧
      (u.on BND_STATUS_BUSY = false →
        (u.rd KEY_STATUS_STATE ≠ 2 → exec p.1 s = .next (refuse u 0x12)) ∧
        (u.rd KEY_STATUS_STATE = 2 →
          (k = 3 → u.on KEY_POLICY_ATTEST_EN = false → exec p.1 s = .next (refuse u 0x13)) ∧
          (k = 3 → u.on KEY_POLICY_ATTEST_EN = true → 1048576 ≤ u.rd KEY_ATTEST_NEXT →
            exec p.1 s = .next ((refuse u 0x0E).flag KEY_TROUBLE_ATTEST_EXHAUSTED)) ∧
          (k ≠ 0 → k ≤ 5 →
            (k = 3 → u.on KEY_POLICY_ATTEST_EN = true ∧ u.rd KEY_ATTEST_NEXT < 1048576) →
            (k = 1 ∨ k = 2 → (dram → inA ≠ none ∧ u.rd KEY_OP_LEN ≤ 65536) ∧ (¬ dram → u.rd KEY_OP_LEN ≤ 49152)) →
            (dram → k = 3 ∨ k = 4 → outA ≠ none) →
            let v := if k = 3 then u.takeIndex.2 else u
            let input := if k = 1 ∨ k = 2 then (if dram then u.dramBytes (inA.getD 0) (u.rd KEY_OP_LEN) else u.key.inBuf.take (u.rd KEY_OP_LEN)) else []
            let job : KeyJob := {
              op := k, slot := u.rd KEY_OP_CTRL_SLOT, uses := (v.keyUses k (u.rd KEY_OP_CTRL_SLOT) input).map (fun n => (n, (v.slot n).gen)),
              input := input, statement := if k = 3 then v.statement u.takeIndex.1 u.lcs.log.length else [],
              index := if k = 3 then u.takeIndex.1 else 0, outAddr := if dram then outA else none, forced := none }
            exec p.1 s = .next (((v.onKey (fun e => { e with job := some job })).begin KEY_OP_STATUS_BUSY).wr KEY_OP_STATUS_OUTPUT_VALID 0)) ∧
          (k ≠ 0 → k ≤ 5 → (k = 3 → u.on KEY_POLICY_ATTEST_EN = true ∧ u.rd KEY_ATTEST_NEXT < 1048576) →
            (k = 1 ∨ k = 2) ∧ (dram ∧ (inA = none ∨ 65536 < u.rd KEY_OP_LEN) ∨ ¬ dram ∧ 49152 < u.rd KEY_OP_LEN) ∨
              (k = 3 ∨ k = 4) ∧ dram ∧ outA = none → exec p.1 s = .next (refuse u 0x14)))))) ∧
  (∀ (s : State), s.Runs 16 →
    (s.key.job = none → exec .keyOpComplete s = .next s.svOrphans) ∧
    (∀ j : KeyJob, s.key.job = some j →
      let a := s.onKey (fun e => { e with job := none })
      let done := fun (x : State) (r : Nat) (out : List Byte) =>
        let y := x.onKey (fun e => { e with outBuf := out, outOff := 0 })
        (((y.wr KEY_OP_OUT_LEN out.length).wrB KEY_OP_STATUS_OUTPUT_VALID (decide (out ≠ []))).finish
          KEY_OP_STATUS_BUSY KEY_OP_STATUS_DONE KEY_OP_STATUS_RESULT r).svOrphans
      let lost := j.uses.any (fun x => !a.usable x.1 || decide ((a.slot x.1).gen ≠ x.2))
      (∀ r : Nat, j.forced = some r → exec .keyOpComplete s = .next (done a r [])) ∧
      (j.forced = none → lost = true → exec .keyOpComplete s = .next (done a 0x0C [])) ∧
      (j.forced = none → lost = false → j.op = 1 →
        exec .keyOpComplete s = .next (done (a.keyUpdate j.input).2 (a.keyUpdate j.input).1 [])) ∧
      (j.forced = none → lost = false → j.op = 2 →
        exec .keyOpComplete s = .next (done (a.keyVerify j.slot j.input).2 (a.keyVerify j.slot j.input).1 [])) ∧
      (j.forced = none → lost = false → j.op = 3 →
        let b := ((a.keyUse 0).2.bump KEY_ATTESTS).keyEvent 9 0 0 0 j.index 0
        let out := j.statement ++ Config.hssSign j.index j.statement
        exec .keyOpComplete s = .next (done ((j.outAddr.map (fun d => b.dramWrite d out)).getD b) 0 out)) ∧
      (j.forced = none → lost = false → j.op = 4 → exec .keyOpComplete s =
        .next (done ((j.outAddr.map (fun d => a.dramWrite d Config.attestPublicKey)).getD a) 0 Config.attestPublicKey)) ∧
      (j.forced = none → lost = false → j.op = 5 →
        exec .keyOpComplete s = .next (done (a.keyDelete j.slot).2 (a.keyDelete j.slot).1 [])))) ∧
  (∀ (who : Agent) (v : BitVec 32) (s : State), s.Admits who 0x120050 false →
    let u := s.mbCount who
    (u.key.inOff < 49152 → exec (.keyOpWrite who v) s = .next (u.onKey (fun e => { e with
      inBuf := patch (e.inBuf ++ List.replicate (e.inOff - e.inBuf.length) 0#8) e.inOff (beBytes 4 v.toNat), inOff := e.inOff + 4 }))) ∧
    (49152 ≤ u.key.inOff → exec (.keyOpWrite who v) s = .next u)) ∧
  (∀ (who : Agent) (s : State), s.fabricUp = true → s.InTurn who 0x120054 → s.mayRead who 0x120054 = true →
    ∃ t, exec (.keyOpRead who) s = .next t ∧ t.lastRead = beNat (slice (s.key.outBuf ++ List.replicate 4 0#8) s.key.outOff 4) % 2 ^ 32 ∧
      t.key = { s.key with outOff := s.key.outOff + 4 }) ∧
  (∀ (failed : List Nat) (s : State), s.fabricUp = true →
    (s.decided = true → s.Wf → s.rd KEY_STATUS_STATE = 1 →
      ∃ t, exec (.unsealDone failed) s = .next t ∧ t.rd KEY_STATUS_STATE = 2) ∧
    (s.decided = false ∨ s.rd KEY_STATUS_STATE ≠ 1 → exec (.unsealDone failed) s = .next s) ∧
    exec .zeroizeMetadataDone s = .next (s.onKey (fun k => { k with rewrite := false })))

/-- Challenges, the token buffer, the checks of a submitted token in their order and what an accepted token does (R420, R421,
R432, R435, R436, R443, R445). A new challenge is drawn and live; after ten minutes it is void, not before. LCS_TOKEN_WR
appends four bytes while the buffer has room. A row of another kind than the token's changes nothing; GO on a token of the
row's kind, or of none, answers BUSY (12) during a check or a burn; else the check starts on the token in the buffer, with
BUSY, and a token of good format for this device voids the challenge. At the end of the check the result is FORMAT (1),
DEVICE (2), CHALLENGE (3), SIGNER (4) or KEY (5) where that check is the first to fail, else what the signature, counter,
power, permission and record checks say; with 0 the token is accepted, else it is refused and changes nothing but what a
refusal records. An accepted token raises its issuer's counter; DEBUG opens its debug state with its session, LIFECYCLE
starts the burn, CLEAR_LOG empties the tamper log with an event. When the record is burnt, class Z is zeroized where the
transition says so, the lifecycle is the target's, a record is used and debug closes with cause 6. Signature verdicts are
external functions of the model. -/
def Obligations.TokensAreCheckedInOrder : Prop :=
  (∀ (who : Agent) (s : State), s.Admits who 0x130030 false →
    let u := (List.range 8).foldl (fun s k => let (v, s) := s.fresh; State.wrK s LCS_CHALLENGE 0 k v) (s.mbCount who)
    exec (.challengeNew who) s = .next ((u.wr LCS_CHALLENGE_CTRL_LIVE 1).onLcs (fun l => { l with drawnAt := u.now }))) ∧
  (∀ (s : State), s.fabricUp = true →
    (s.on LCS_CHALLENGE_CTRL_LIVE = true → s.lcs.drawnAt + 600000000000 ≤ s.now →
      exec .challengeExpire s = .next (s.wr LCS_CHALLENGE_CTRL_LIVE 0)) ∧
    (s.on LCS_CHALLENGE_CTRL_LIVE = false ∨ s.now < s.lcs.drawnAt + 600000000000 → exec .challengeExpire s = .next s)) ∧
  (∀ (who : Agent) (v : BitVec 32) (s : State), s.Admits who 0x130038 false ∨ who = .debug ∧ s.fabricUp = true →
    let u := if who = .debug then s else s.mbCount who
    (u.lcs.tokOff < 40960 → exec (.tokenWrite who v) s = .next (u.onLcs (fun l => { l with
      tokBuf := patch (l.tokBuf ++ List.replicate (l.tokOff - l.tokBuf.length) 0#8) l.tokOff (beBytes 4 v.toNat), tokOff := l.tokOff + 4 }))) ∧
    (40960 ≤ u.lcs.tokOff → exec (.tokenWrite who v) s = .next u)) ∧
  (∀ (who : Agent) (s : State), s.Admits who 0x13003C false ∨ who = .debug ∧ s.fabricUp = true →
    let u := if who = .debug then s else s.mbCount who
    let bs := u.tokenBytes
    let mine := fun (k : Nat) => beAt bs 6 1 = k ∨ beAt bs 6 1 = 0 ∨ 3 < beAt bs 6 1
    (exec (.tokenDebug who) s = .next (if mine 1 then u.tokenGo else u) ∧
     exec (.tokenLifecycle who) s = .next (if mine 2 then u.tokenGo else u) ∧
     exec (.tokenClearLog who) s = .next (if mine 3 then u.tokenGo else u)) ∧
    (u.on LCS_TOKEN_STATUS_BUSY = true ∨ u.lcs.burn.isSome = true →
      u.tokenGo = u.answer LCS_TOKEN_STATUS_DONE LCS_TOKEN_STATUS_RESULT 12) ∧
    (u.on LCS_TOKEN_STATUS_BUSY = false → u.lcs.burn = none →
      let v := if (tokenFormat bs && tokenDevice bs) = true then u.wr LCS_CHALLENGE_CTRL_LIVE 0 else u
      u.tokenGo = (v.onLcs (fun l => { l with job := some {
        bytes := bs, challengeOk := u.on LCS_CHALLENGE_CTRL_LIVE && decide (slice bs 0x20 32 = u.challenge) } })).begin
        LCS_TOKEN_STATUS_BUSY)) ∧
  (∀ (s : State) (j : TokJob), s.Runs 16 → s.lcs.job = some j →
    exec .tokenCheckDone s = .next (if (s.tokenCheck j).1 = 0 then (s.tokenCheck j).2.tokenAccept j.bytes
      else (s.tokenCheck j).2.tokenRefuse j.bytes (s.tokenCheck j).1) ∧
    (tokenFormat j.bytes = false → s.tokenCheck j = (1, s)) ∧
    (tokenFormat j.bytes = true → s.tokenCheck j =
      if tokenDevice j.bytes = false then (2, s)
      else if j.challengeOk = false then (3, s)
      else if s.tokenSigner j.bytes = false then (4, s)
      else if hssPubOk (s.tokenKey j.bytes) = false ∨ Config.hssLevelsOk (s.tokenKey j.bytes) (j.bytes.drop 0xC4) = false then (5, s)
      else s.tokenSigned j.bytes)) ∧
  (∀ (s : State), s.Runs 16 → s.lcs.job = none → exec .tokenCheckDone s = .next s) ∧
  (∀ (s : State) (bs : List Byte),
    let u := (s.tokenEnd 0).wr (tokCounter (tokField bs 7 1)) (tokField bs 0x18 8)
    (tokField bs 6 1 = 1 → s.tokenAccept bs = u.debugOpen (tokField bs 0x42 1) {
      issuer := tokField bs 7 1, counter := tokField bs 0x18 8, mask := tokField bs 0x48 4, secs := tokField bs 0x44 4,
      ends := u.now + tokField bs 0x44 4 * 1000000000 }) ∧
    (tokField bs 6 1 = 2 → s.tokenAccept bs =
      u.onLcs (fun l => { l with burn := some (tokField bs 0x42 1, tokField bs 7 1, tokField bs 0x18 8) })) ∧
    (tokField bs 6 1 = 3 → s.tokenAccept bs = (u.onLcs (fun l => { l with log := [] })).lifecycleEvent 5 u.lifecycle u.lifecycle 0
      (tokField bs 7 1) (tokField bs 0x18 8) 0 0)) ∧
  (∀ (s : State), s.fabricUp = true →
    (s.lcs.burn = none → exec .lifecycleBurnDone s = .next s) ∧
    (∀ target issuer counter : Nat, s.lcs.burn = some (target, issuer, counter) →
      let a := s.onLcs (fun l => { l with burn := none })
      let b := if transitionZeroizes s.lifecycle target = true then (a.zeroize false).svOrphans else a
      let c := ((b.wr LCS_STATUS_LIFECYCLE target).wr LCS_STATUS_TRANSITIONS_LEFT (b.rd LCS_STATUS_TRANSITIONS_LEFT - 1)).flag
        LCS_TROUBLE_LIFECYCLE_CHANGED
      exec .lifecycleBurnDone s = .next ((c.debugClose (if target = 1 then 4 else 0) 6).lifecycleEvent 1 s.lifecycle target 0 issuer counter 0 0)))

/-- Debug sessions close, tamper events are logged and answered by their matrix cell, and TAMPER_N is held and released (R433,
R437, R439, R440, R441, R442, R443, R444). CLOSE closes a session that a token opened, with cause 2, and its expiry closes
it with cause 1, not before; debug returns to the lifecycle's default. A TAMPER_EVENT shows the conditions; where none of
them is of an armed sensor nothing else happens. Otherwise what R438 stops is stopped, the response is that of the matrix (1
LOG in MANUFACTURE; in PROVISION and DEPLOYED 3, or 4 in QUIET and RUN with debug of KERNEL or FULL; else 2), TAMPER is set,
and each armed condition adds one log entry with the next number, lower sensor code first, with a TAMPER event at once in
QUIET and RUN with a running recorder. A response of 2 or more drives TAMPER_N and starts the hold of TAMPER_HOLD_MS (or
10); 3 or more closes debug and zeroizes the class in QUIET and RUN, or leaves PENDING_ZEROIZE. RELEASE releases a driven
TAMPER_N at once after the hold, else when the hold ends; where it is not driven nothing changes. The hold's end without a
release asked only ends the hold. -/
def Obligations.DebugSessionsAndTamperResponses : Prop :=
  (∀ (who : Agent) (s : State), s.Admits who 0x130048 true →
    let u := s.mbCount who
    (u.lcs.session.isSome = true → exec (.debugClose who) s = .next (u.debugClose (if u.lifecycle = 1 then 4 else 0) 2)) ∧
    (u.lcs.session = none → exec (.debugClose who) s = .next u)) ∧
  (∀ (s : State) (d : DbgSession), s.fabricUp = true → s.lcs.session = some d →
    (d.ends ≤ s.now → exec .sessionExpire s = .next (s.debugClose (if s.lifecycle = 1 then 4 else 0) 1)) ∧
    (s.now < d.ends → exec .sessionExpire s = .next s)) ∧
  (∀ (sensors : BitVec 6) (s : State),
    let a := s.wr LCS_STATUS_SENSORS sensors.toNat
    let hits := (List.range 6).filter (fun c => bitAt sensors.toNat c && a.armed c)
    let resp := response a.lifecycle (a.rd LCS_DEBUG_STATUS_STATE) a.power
    let now := decide (2 ≤ a.power) && decide (a.rd EVR_STATUS_STATE ≠ 0)
    let ended := a.bnd.load.isSome || decide (a.tipSt = 1 ∨ a.tipSt = 2 ∨ a.tipSt = 3)
    (hits = [] → exec (.tamperEvent sensors) s = .next a) ∧
    (hits ≠ [] → ∃ aborted : Bool, (resp < 3 ∨ a.power < 2 → aborted = false) ∧
      exec (.tamperEvent sensors) s = .next (hits.foldl (fun t c =>
        let t := t.wr LCS_TAMPER_TOTAL (t.rd LCS_TAMPER_TOTAL + 1)
        let e := tlogEntry (t.rd LCS_TAMPER_TOTAL) c a.lifecycle (a.rd LCS_DEBUG_STATUS_STATE) a.power resp (decide (resp = 3) && a.classP)
          now (decide (a.rd KEY_STATUS_STATE = 1)) aborted (decide (3 ≤ resp) && decide (a.power < 2)) a.aonSeconds
        if now = true then (t.tlogAdd e).tamperEvent e (4 * b2n ended) else t.tlogAdd e)
        ((a.tamperStops.tamperRespond resp (decide (resp = 3) && a.classP)).flag LCS_TROUBLE_TAMPER)))) ∧
  (∀ lc debug power : Nat,
    (lc = 1 → response lc debug power = 1) ∧
    (lc = 2 ∨ lc = 3 → 2 ≤ power ∧ 3 ≤ debug → response lc debug power = 4) ∧
    (lc = 2 ∨ lc = 3 → ¬ (2 ≤ power ∧ 3 ≤ debug) → response lc debug power = 3) ∧
    (lc = 0 ∨ 3 < lc → response lc debug power = 2)) ∧
  (∀ (s : State) (resp : Nat) (classP : Bool),
    let n := (s.wr LCS_STATUS_TAMPER_N_DRIVEN 1).onLcs (fun l => { l with
      holdEnd := some (s.now + s.rdOr LCS_TAMPER_POLICY_TAMPER_HOLD_MS 10 * 1000000), releaseAsked := false })
    (resp < 2 → s.tamperRespond resp classP = s) ∧ (resp = 2 → s.tamperRespond resp classP = n) ∧
    (3 ≤ resp → s.tamperRespond resp classP = (if 2 ≤ (n.debugClose 0 5).power then (n.debugClose 0 5).tamperZeroize classP
      else (n.debugClose 0 5).wr KEY_STATUS_PENDING_ZEROIZE 1))) ∧
  (∀ (who : Agent) (s : State), s.Admits who 0x130054 true →
    let u := s.mbCount who
    let freed := (u.wr LCS_STATUS_TAMPER_N_DRIVEN 0).onLcs (fun l => { l with holdEnd := none, releaseAsked := false })
    (u.on LCS_STATUS_TAMPER_N_DRIVEN = false → exec (.tamperRelease who) s = .next u) ∧
    (u.on LCS_STATUS_TAMPER_N_DRIVEN = true →
      (u.lcs.holdEnd = none → exec (.tamperRelease who) s = .next freed) ∧
      (∀ t : Nat, u.lcs.holdEnd = some t → exec (.tamperRelease who) s =
        .next (if t ≤ u.now then freed else u.onLcs (fun l => { l with releaseAsked := true }))))) ∧
  (∀ (s : State),
    (s.lcs.holdEnd = none → exec .tamperHoldExpire s = .next s) ∧
    (∀ t : Nat, s.lcs.holdEnd = some t →
      (s.now < t → exec .tamperHoldExpire s = .next s) ∧
      (t ≤ s.now → s.lcs.releaseAsked = false → exec .tamperHoldExpire s = .next (s.onLcs (fun l => { l with holdEnd := none }))) ∧
      (t ≤ s.now → s.lcs.releaseAsked = true → exec .tamperHoldExpire s =
        .next ((s.wr LCS_STATUS_TAMPER_N_DRIVEN 0).onLcs (fun l => { l with holdEnd := none, releaseAsked := false })))))

/-- Power commands change the state or are refused by their cause, and clock units are requested, gated and run (R422, R423,
R425, R426, R428, R429, R430). RUN from QUIET answers BUSY (4) with a change in progress, NOT_LOADED (1) without a load or
in the safe state, LIFECYCLE (3) when decommissioned, CLOCKS (5) where a unit that RUN requires does not run, SUPPLY (6)
while VWARN is low, and else enters RUN (3). QUIET from RUN answers ROLE (2) for an active module with a live peer and else
enters QUIET (2); a command for the state in force answers 0. STANDBY and OFF start from QUIET: debug closes, captures end,
BUSY sets and the drain has 50 ms; during another change, from another power state or with a lifecycle burn, a store write,
an UPDATE or a DELETE in progress they answer BUSY. Once drained, or after the limit, the use counts are committed, the
policy class is retained, no clock unit runs and the target state is in force. PWR_EN low shows, and in QUIET and RUN with
no power-down in progress starts one to OFF or STANDBY by SLEEP_MODE; from RUN the module first withdraws. PWR_EN rising in
STANDBY and OFF starts a POWER_UP reset. A clock request is written unit by unit: a request stands, a gate takes effect at
once, and the gate of a unit in use is refused with CLK_REFUSED. A requested unit runs when its latency has ended. -/
def Obligations.PowerCommandsMoveOrAreRefused : Prop :=
  (∀ (who : Agent) (s : State), s.Admits who 0x40 true →
    let u := s.mbCount who
    let ans := fun (x : State) (r : Nat) => x.answer SYS_PWR_STATUS_DONE SYS_PWR_STATUS_RESULT r
    (let a := u.wr SYS_PWR_CMD_TARGET 3
     (a.on SYS_PWR_STATUS_BUSY = true → exec (.pwrRun who) s = .next (ans a 4)) ∧
     (a.on SYS_PWR_STATUS_BUSY = false →
       (a.power = 3 → exec (.pwrRun who) s = .next (ans a 0)) ∧
       (a.power ≠ 3 →
         (a.loaded = false ∨ a.on BST_STATUS_SAFE = true → exec (.pwrRun who) s = .next (ans a 1)) ∧
         (a.loaded = true → a.on BST_STATUS_SAFE = false →
           (a.lifecycle = 5 → exec (.pwrRun who) s = .next (ans a 3)) ∧
           (a.lifecycle ≠ 5 →
             ((∃ x < 48, a.unitForRun x = true ∧ a.clk x = false) → exec (.pwrRun who) s = .next (ans a 5)) ∧
             ((∀ x < 48, a.unitForRun x = true → a.clk x = true) →
               (a.on SYS_SUPPLY_STATUS_VWARN = true → exec (.pwrRun who) s = .next (ans a 6)) ∧
               (a.on SYS_SUPPLY_STATUS_VWARN = false →
                 exec (.pwrRun who) s = .next (ans ((a.wr SYS_PWR_STATUS_STATE 3).dtUpdate).ctlFollow 0)))))))) ∧
    (let a := u.wr SYS_PWR_CMD_TARGET 2
     (a.on SYS_PWR_STATUS_BUSY = true → exec (.pwrQuiet who) s = .next (ans a 4)) ∧
     (a.on SYS_PWR_STATUS_BUSY = false →
       (a.power = 2 → exec (.pwrQuiet who) s = .next (ans a 0)) ∧
       (a.power ≠ 2 → (a.role = 3 ∨ a.role = 4) ∧ a.hbFresh = true → exec (.pwrQuiet who) s = .next (ans a 2)) ∧
       (a.power ≠ 2 → ¬ ((a.role = 3 ∨ a.role = 4) ∧ a.hbFresh = true) →
         exec (.pwrQuiet who) s = .next (ans ((a.wr SYS_PWR_STATUS_STATE 2).dtUpdate).ctlFollow 0)))) ∧
    (let go := fun (k : Nat) => let a := u.wr SYS_PWR_CMD_TARGET k
       if a.on SYS_PWR_STATUS_BUSY = true ∨ a.power ≠ 2 ∨ a.storesBusy = true then ans a 4 else a.downStart k
     exec (.pwrStandby who) s = .next (go 1) ∧ exec (.pwrOff who) s = .next (go 0)) ∧
    (∀ p ∈ ([(.pwrStandby who, 1), (.pwrOff who, 0)] : List (Instr × Nat)),
     let a := u.wr SYS_PWR_CMD_TARGET p.2
     (a.on SYS_PWR_STATUS_BUSY = true ∨ a.power ≠ 2 ∨ a.lcs.burn.isSome = true ∨ a.bnd.store.isSome = true ∨ a.key.job.any (fun j => decide (j.op = 1 ∨ j.op = 5)) = true →
       exec p.1 s = .next (ans a 4)) ∧
     (a.on SYS_PWR_STATUS_BUSY = false → a.power = 2 → a.lcs.burn = none → a.bnd.store = none → a.key.job.any (fun j => decide (j.op = 1 ∨ j.op = 5)) = false →
       exec p.1 s = .next (a.downStart p.2)))) ∧
  (∀ (s : State) (target : Nat),
    let a := if s.rd LCS_DEBUG_STATUS_STATE = 0 then s else s.debugClose 0 4
    let w := if a.on GTH_STATUS_NAND_BUSY = true then (a.gHead false).map (fun g => g.seq) else none
    let b := (a.gPlaces.foldl (fun t d => t.gStop d 5) a).gShow
    s.downStart target = (b.begin SYS_PWR_STATUS_BUSY).onSys (fun y => { y with down := some (target, b.now + 50000000), writing := w }) ∧
    (s.drained = true ↔ s.evrIdle = true ∧ ∀ q : Nat, s.sys.writing = some q → ∀ g ∈ s.gth.open_, g.seq ≠ q)) ∧
  (∀ (s : State),
    (s.sys.down = none → exec .powerDownDone s = .next s) ∧
    (∀ target limit : Nat, s.sys.down = some (target, limit) →
      (s.drained = false → s.now < limit → exec .powerDownDone s = .next s) ∧
      (s.drained = true ∨ limit ≤ s.now →
        let a := s.keyCommitCounts
        let b := a.wrB LCS_TAMPER_AON_CLASS_AON (a.on LCS_TAMPER_POLICY_CLASS)
        let c := (b.finish SYS_PWR_STATUS_BUSY SYS_PWR_STATUS_DONE SYS_PWR_STATUS_RESULT 0).wr SYS_CLK_RUN 0
        exec .powerDownDone s = .next ((c.wr SYS_PWR_STATUS_STATE target).onSys (fun y => { y with down := none, writing := none, boot := 0 })))) ∧
    (let a := s.wr SYS_PWR_AON_PWR_EN 0
     let to_ := fun (x : State) => if x.on SYS_PWR_AON_SLEEP_MODE = true then 0 else 1
     (a.power < 2 ∨ a.sys.boot = 0 ∨ a.sys.down.isSome = true → exec .pwrEnLow s = .next a) ∧
     (a.power = 2 → a.sys.boot ≠ 0 → a.sys.down = none → exec .pwrEnLow s = .next (a.downStart (to_ a))) ∧
     (a.power = 3 → a.sys.boot ≠ 0 → a.sys.down = none →
       let b := (if a.role = 0 then a.stopActing else a.withdraw 12).setPower 2
       exec .pwrEnLow s = .next (b.downStart (to_ b)))) ∧
    (let a := s.wr SYS_PWR_AON_PWR_EN 1
     exec .pwrEnRise s = .next (if a.power < 2 then a.resetTo 2 else a))) ∧
  (∀ (who : Agent) (v : BitVec 32) (s : State),
    (s.Admits who 0x50 true → exec (.clkReqWrite who false v) s =
      .next ((List.range 22).foldl (fun t x => t.clkWrite x (bitAt v.toNat x)) (s.mbCount who))) ∧
    (s.Admits who 0x54 true → exec (.clkReqWrite who true v) s =
      .next ((List.range 16).foldl (fun t b => t.clkWrite (32 + b) (bitAt v.toNat b)) (s.mbCount who)))) ∧
  (∀ (x : Nat) (s : State),
    s.clkWrite x true = s.wrBit SYS_CLK_REQ 0 x true ∧
    (bitAt (s.rd SYS_CLK_REQ) x = false → s.clkWrite x false = s) ∧
    (bitAt (s.rd SYS_CLK_REQ) x = true → s.unitInUse x = true →
      s.clkWrite x false = (((s.wrBit SYS_CLK_REFUSED 0 x true).noteSet (SYS_CLK_REFUSED.key 0 0) (2 ^ x)).flag
        SYS_PWR_STATUS_CLK_REFUSED).flag SYS_TROUBLE_CLK_REFUSED) ∧
    (bitAt (s.rd SYS_CLK_REQ) x = true → s.unitInUse x = false →
      s.clkWrite x false = (s.wrBit SYS_CLK_REQ 0 x false).wrBit SYS_CLK_RUN 0 x false)) ∧
  (∀ (x : Fin 48) (s : State), s.fabricUp = true →
    exec (.clockUnitRunning x) s = .next (if bitAt (s.rd SYS_CLK_REQ) x.val = true then s.wrBit SYS_CLK_RUN 0 x.val true else s))

/-- Resets keep what R447 names, and start-up, HOST resets and the watchdog follow their conditions (R446, R447, R448, R449,
R450, R451, R466). A POWER_ON reset is kind 1 and a PIN reset kind 4; with the rails off or before start-up a PIN reset
changes nothing. What a reset clears leaves DRAM empty, every table cleared, nothing staged or loading; it keeps the two
slots and the floor, the committed records, the stored gatherings, the repairs, every key slot but for its suspension, and
the time floor; but for kind 1 also the tamper log and the always-on counter. SYS_RST_CMD answers BAD_KEY (3), BUSY (2)
during a reset, a lifecycle burn, a store write, an UPDATE or a DELETE, ROLE (1) for an active module with a live peer, and
else commits the use counts and gives the queue 5 ms; then, or once it is empty, the reset takes effect and start-up begins.
A kick by the Supervisor reloads a running watchdog; by another agent it does nothing. At expiry ACTION 0 only flags, 1
restarts the watchdog and resets folio 0, 2 and 3 start a WATCHDOG reset. RESET_N released after a PIN reset begins start-up
at CLOCKS, as POWER_UP_START does after other resets with PWR_EN and VSTBY good and, after VRESET, the rails off for 20 ms,
then with the record of an earlier SUPPLY reset; else neither changes anything. -/
def Obligations.ResetsAndTheWatchdog : Prop :=
  (∀ (s : State), exec .powerOnReset s = .next (s.resetTo 1) ∧
    (s.power < 2 ∨ s.sys.boot = 0 → exec .pinReset s = .next s) ∧
    (2 ≤ s.power → s.sys.boot ≠ 0 → exec .pinReset s = .next (s.resetTo 4))) ∧
  (∀ (s : State) (kind : Nat),
    let t := s.cleared kind
    t.dram = [] ∧ t.pending = s.pending ∧ t.now = s.now ∧ t.bnd.load = none ∧ t.bnd.tip = none ∧ t.bnd.slotA = s.bnd.slotA ∧
    t.bnd.slotB = s.bnd.slotB ∧ t.bnd.floor = s.bnd.floor ∧ t.evr.region = s.evr.region ∧ t.evr.queue = [] ∧
    t.gth.stored = s.gth.stored ∧ t.sys.repairs = s.sys.repairs ∧ t.tim.floor = s.tim.floor ∧
    t.key.slots = s.key.slots.map (fun p => (p.1, { p.2 with suspended := false })) ∧
    (∀ x ∈ t.tables, x.active = [] ∧ x.shadow = []) ∧
    (kind ≠ 1 → t.lcs.log = s.lcs.log ∧ t.tim.aon = s.tim.aon) ∧ (kind = 1 → t.lcs.log = [])) ∧
  (∀ (who : Agent) (key : BitVec 16) (s : State), s.Admits who 0x80 true →
    let u := s.mbCount who
    let ans := fun (r : Nat) => u.answer SYS_RST_STATUS_DONE SYS_RST_STATUS_RESULT r
    (key ≠ 0x4B52#16 → exec (.hostReset who key) s = .next (ans 3)) ∧
    (u.on SYS_RST_STATUS_BUSY = true → exec (.hostReset who 0x4B52#16) s = .next (ans 2)) ∧
    (u.on SYS_RST_STATUS_BUSY = false →
      (u.roleHeld = true → exec (.hostReset who 0x4B52#16) s = .next (ans 1)) ∧
      (u.roleHeld = false → u.storesBusy = true → exec (.hostReset who 0x4B52#16) s = .next (ans 2)) ∧
      (u.roleHeld = false → u.storesBusy = false → exec (.hostReset who 0x4B52#16) s =
        .next ((u.keyCommitCounts.begin SYS_RST_STATUS_BUSY).onSys (fun y => { y with drain := some (5, u.now + 5000000) }))))) ∧
  (∀ (s : State), s.fabricUp = true →
    (s.sys.drain = none → exec .hostResetEffect s = .next s) ∧
    (∀ kind limit : Nat, s.sys.drain = some (kind, limit) →
      (s.evrIdle = true ∨ limit ≤ s.now → exec .hostResetEffect s = .next (s.resetTo kind).bootClocks) ∧
      (s.evrIdle = false → s.now < limit → exec .hostResetEffect s = .next s)) ∧
    (s.sys.wdogEnd = none → exec .wdogExpire s = .next s) ∧
    (∀ t : Nat, s.sys.wdogEnd = some t →
      (s.now < t → exec .wdogExpire s = .next s) ∧
      (t ≤ s.now →
        let a := ((s.flag SYS_RST_STATUS_WDOG_EXPIRED).flag SYS_TROUBLE_WDOG_EXPIRED).onSys (fun y => { y with wdogEnd := none })
        (a.rd SYS_WDOG_CFG_ACTION = 0 → exec .wdogExpire s = .next a) ∧
        (a.rd SYS_WDOG_CFG_ACTION = 1 → exec .wdogExpire s = .next (a.wdogStart.hostReset 0)) ∧
        (2 ≤ a.rd SYS_WDOG_CFG_ACTION → exec .wdogExpire s =
          .next (a.keyCommitCounts.onSys (fun y => { y with drain := some (y.drain.getD (6, a.now + 5000000)) })).resetEffect)))) ∧
  (∀ (who : Agent) (s : State), s.Admits who 0x94 true →
    (who ≠ .folio 0 → exec (.wdogKick who) s = .next (s.mbCount who)) ∧
    (who = .folio 0 → s.sys.wdogEnd = none → exec (.wdogKick who) s = .next s) ∧
    (∀ t : Nat, who = .folio 0 → s.sys.wdogEnd = some t → exec (.wdogKick who) s = .next ((s.onSys (fun e => { e with
      wdogEnd := some (s.now + s.rd SYS_WDOG_CFG_PERIOD_MS * 1000000) })).wr SYS_WDOG_STATUS_LEFT_MS (s.rd SYS_WDOG_CFG_PERIOD_MS)))) ∧
  (∀ (s : State),
    (s.sys.boot ≠ 0 ∨ s.power < 2 ∨ s.rd SYS_RST_STATUS_LAST_KIND ≠ 4 → exec .resetNRelease s = .next s) ∧
    (s.sys.boot = 0 → 2 ≤ s.power → s.rd SYS_RST_STATUS_LAST_KIND = 4 → exec .resetNRelease s = .next s.bootClocks) ∧
    (s.sys.boot ≠ 0 ∨ s.power < 2 ∨ s.on SYS_PWR_AON_PWR_EN = false ∨ s.on SYS_SUPPLY_STATUS_VSTBY_OK = false ∨
      s.rd SYS_RST_STATUS_LAST_KIND = 4 ∨ s.now < s.sys.railsOff.getD 0 → exec .powerUpStart s = .next s) ∧
    (s.sys.boot = 0 → 2 ≤ s.power → s.on SYS_PWR_AON_PWR_EN = true → s.on SYS_SUPPLY_STATUS_VSTBY_OK = true →
      s.rd SYS_RST_STATUS_LAST_KIND ≠ 4 → s.sys.railsOff.getD 0 ≤ s.now →
      let a := (s.wr SYS_SUPPLY_STATUS_VWARN 0).bootClocks
      (a.sys.vreset = none → exec .powerUpStart s = .next a) ∧
      (∀ p vin us low : Nat, a.sys.vreset = some (p, vin, us, low) → exec .powerUpStart s =
        .next ((a.event 0x11 (leBytes 4 (3 + p * 256) ++ leBytes 4 vin ++ leBytes 4 us ++ leBytes 4 low ++
          leBytes 4 (a.rd SYS_SUPPLY_STATUS_DIPS))).onSys (fun y => { y with vreset := none })))))

/-- VWARN falling and rising, VRESET and VSTBY have the effects the spec gives them (R463, R464, R465, R466, R467, R468). VWARN
falling is shown, remembered and counted, its record requested; loads and tip-ins in progress end with SUPPLY, a rebuild is
abandoned, an UPDATE or ATTEST in progress ends with SUPPLY (0x10), the use counts are committed and capture is suspended;
while it is already low nothing changes. Rising before VRESET, it shows the duration and the lowest voltage of the dip, its
record is requested, capture resumes and a waiting load may begin; where it was not low nothing changes. VRESET after VWARN
records the duration, the lowest voltage and what its record needs, and is a SUPPLY reset (kind 3). VSTBY falling and
returning are each shown and recorded once. Which record a dip takes, and the order of the parts, are those of the model's
named operations. -/
def Obligations.SupplyEventsAreActedOn : Prop :=
  (∀ (vin : BitVec 16) (s : State), s.fabricUp = true →
    (s.on SYS_SUPPLY_STATUS_VWARN = true → exec (.vwarnFall vin) s = .next s) ∧
    (s.on SYS_SUPPLY_STATUS_VWARN = false →
      let a := ((((s.wr SYS_SUPPLY_STATUS_VWARN 1).flag SYS_SUPPLY_STATUS_VWARN_SEEN).bump SYS_SUPPLY_STATUS_DIPS).wr
        SYS_SUPPLY_MIN_NOW_MV (vin.toNat / 50)).flag SYS_TROUBLE_SUPPLY
      let b := (a.onSys (fun y => { y with dip := some (a.now, vin.toNat), supplyIrq := true })).supplyEvent 1 vin.toNat 0 vin.toNat
      let c := (b.bndStop 0x0E).rebuildStop
      let d := if c.key.job.any (fun j => decide (j.op = 1 ∨ j.op = 3)) = true then (c.keyForce 0x10).keyComplete else c
      exec (.vwarnFall vin) s = .next (d.keyCommitCounts.gthSuspend).raiseFloor)) ∧
  (∀ (vin low : BitVec 16) (s : State), s.fabricUp = true →
    (s.on SYS_SUPPLY_STATUS_VWARN = false → exec (.vwarnRise vin low) s = .next s) ∧
    (∀ t m : Nat, s.on SYS_SUPPLY_STATUS_VWARN = true → s.sys.dip = some (t, m) →
      let us := (s.now - t) / 1000
      let lowest := min m (min vin.toNat low.toNat)
      let a := (((s.wr SYS_SUPPLY_STATUS_VWARN 0).wrSat SYS_SUPPLY_LAST_DURATION_US us).wrSat SYS_SUPPLY_MIN_MIN_MV lowest).wr
        SYS_SUPPLY_MIN_NOW_MV (vin.toNat / 50)
      exec (.vwarnRise vin low) s = .next
        (((a.onSys (fun y => { y with dip := none })).supplyEvent 2 vin.toNat us lowest).gthUnsuspend.bndLoadWaiting))) ∧
  (∀ (vin : BitVec 16) (s : State), s.fabricUp = true →
    (s.on SYS_SUPPLY_STATUS_VWARN = false → exec (.vreset vin) s = .next s) ∧
    (∀ t m : Nat, s.on SYS_SUPPLY_STATUS_VWARN = true → s.sys.dip = some (t, m) →
      let us := (s.now - t) / 1000
      let a := (((s.wrSat SYS_SUPPLY_LAST_DURATION_US us).wrSat SYS_SUPPLY_MIN_MIN_MV (min m vin.toNat)).flag
        SYS_SUPPLY_STATUS_VRESET_SEEN).flag SYS_TROUBLE_SUPPLY
      exec (.vreset vin) s = .next ((a.onSys (fun y => { y with vreset := some (s.power, vin.toNat, us, min m vin.toNat) })).resetTo 3))) ∧
  (∀ (vin : BitVec 16) (s : State), s.fabricUp = true →
    (s.on SYS_SUPPLY_STATUS_VSTBY_OK = false → exec (.vstbyLow vin) s = .next s) ∧
    (s.on SYS_SUPPLY_STATUS_VSTBY_OK = true →
      let a := ((s.wr SYS_SUPPLY_STATUS_VSTBY_OK 0).flag SYS_SUPPLY_STATUS_VSTBY_LOW).flag SYS_TROUBLE_SUPPLY
      exec (.vstbyLow vin) s = .next (a.supplyEvent 4 vin.toNat 0 (a.dipLow vin.toNat))) ∧
    (s.on SYS_SUPPLY_STATUS_VSTBY_OK = true → exec (.vstbyOk vin) s = .next s) ∧
    (s.on SYS_SUPPLY_STATUS_VSTBY_OK = false →
      exec (.vstbyOk vin) s = .next ((s.wr SYS_SUPPLY_STATUS_VSTBY_OK 1).supplyEvent 5 vin.toNat 0 (s.dipLow vin.toNat))))

/-- Self-test findings are repaired or logged, DECIDE holds or starts the module, and tests on demand run (R451, R454, R456,
R457, R459, R460, R461, R462, R478). At the end of MBIST each finding is taken, then each repair that QUEUE_REPAIR recorded,
and none is queued any more; logic test follows in FULL, DECIDE waits otherwise. At the end of LBIST its findings are logged
and DECIDE waits. Outside its phase neither row changes anything. A memory finding with a spare and a free log entry is
repaired, logged and counted; without, it is logged as unrepairable, with REPAIR_LOG_FULL where the log is full; one of no
instance is none. DECIDE waits for self-test and DDR training; then it records the result and the duration, the store scan
starts, and it holds in the safe state with BOOT_FAIL where an essential target failed, with no load waiting; else it
retires the failed units and pairs, starts the unseal, and with AUTOLOAD loads. A test on demand answers BUSY (5), LIFECYCLE
(4) when decommissioned, BAD_STATE (3) for an instance that is not spare and NO_SPARE (2) for the last spare pair; else it
begins with an empty failure log and the instance TESTING. At its end the findings of the instance are taken; with no
failure left the result is 0 and it is SPARE again, else 1 and it is RETIRED with DEMAND_FAIL, and an open proposal about it
is OVERTAKEN. With no test in progress nothing changes. -/
def Obligations.SelfTestDecidesTheStart : Prop :=
  (∀ (fs : List Finding) (spares : List Bool) (s : State), s.fabricUp = true →
    (s.sys.boot ≠ 1 → exec (.mbistDone fs spares) s = .next s) ∧
    (s.sys.boot = 1 →
      let a := fs.foldl State.memFinding s
      let b := (a.hka.queued.zip (spares ++ List.replicate 8 false)).foldl (fun t q => t.queuedRepair q.1 q.2) a
      let c := (b.onHka (fun h => { h with queued := [] })).wr HKA_SPARES_QUEUED 0
      exec (.mbistDone fs spares) s = .next (if 2 ≤ c.rd BST_STATUS_MODE then (c.onSys (fun y => { y with boot := 2 })).wr BST_STATUS_PHASE 2
        else (c.onSys (fun y => { y with boot := 3 })).wr BST_STATUS_PHASE 3)) ∧
    (s.sys.boot ≠ 2 → exec (.lbistDone fs) s = .next s) ∧
    (s.sys.boot = 2 → exec (.lbistDone fs) s =
      .next (((fs.foldl State.logicFinding s).onSys (fun y => { y with boot := 3 })).wr BST_STATUS_PHASE 3)) ∧
    exec .ddrTrainingDone s = .next (s.onSys (fun y => { y with ddr := true }))) ∧
  (∀ (f : Finding) (s : State),
    (bistInstances f.target ≤ f.inst → s.memFinding f = s ∧ s.logicFinding f = s) ∧
    (f.inst < bistInstances f.target → 0x40 ≤ f.target → s.logicFinding f = s.failAdd (failEntry f.target f.inst 3 0xFF 0 0xFF)) ∧
    (f.inst < bistInstances f.target → f.target < 0x40 → 256 ≤ s.sys.repairs.length →
      s.memFinding f = (s.flag BST_TROUBLE_REPAIR_LOG_FULL).failAdd (failEntry f.target f.inst 2 f.bit f.addr 0xFF))) ∧
  (∀ (f : Finding) (s : State), f.inst < bistInstances f.target → f.target < 0x40 → s.sys.repairs.length < 256 →
    let e := failEntry f.target f.inst 1 f.bit f.addr s.sys.repairs.length
    (f.spare = true → s.memFinding f = ((((s.onSys (fun y => { y with repairs := y.repairs ++ [e] })).wr BST_REPAIR_USED
      (s.sys.repairs.length + 1)).wrSat BST_REPAIR_NEW (s.rd BST_REPAIR_NEW + 1)).flag BST_TROUBLE_REPAIRED).failAdd e) ∧
    (f.spare = false → s.memFinding f = s.failAdd (failEntry f.target f.inst 2 f.bit f.addr 0xFF))) ∧
  (∀ (s : State), s.fabricUp = true →
    (s.sys.boot ≠ 3 ∨ s.sys.ddr = false → exec .bootDecide s = .next s) ∧
    (s.sys.boot = 3 → s.sys.ddr = true →
      let us := (s.now - s.sys.testAt) / 1000
      let begun := fun (kind : Nat) =>
        (((s.onSys (fun y => { y with boot := 4 })).wr BST_STATUS_RESULT kind).wrSat BST_STATUS_DURATION (us / 100)).wr SYS_CLK_RUN
          (s.rd SYS_CLK_REQ ||| 1)
      (s.essentialFailed = true → exec .bootDecide s = .next (((((((begun 4).bistEvent 4 (s.rd BST_STATUS_MODE)
        ((begun 4).rd SYS_RST_STATUS_LAST_KIND) us).wr GTH_STATUS_STORE_SCANNING 1).wr BST_STATUS_SAFE 1).flag BST_TROUBLE_BOOT_FAIL).onBnd (fun b => { b with wait := none })))) ∧
      (s.essentialFailed = false →
        let kind := if s.failedUnits ≠ [] ∨ s.failedPairs ≠ [] then 3 else if s.rd BST_REPAIR_NEW ≠ 0 then 2 else 1
        let a := ((begun kind).bistEvent kind (s.rd BST_STATUS_MODE) ((begun kind).rd SYS_RST_STATUS_LAST_KIND) us).wr GTH_STATUS_STORE_SCANNING 1
        let b := s.failedPairs.foldl State.bootRetirePair (s.failedUnits.foldl State.bootRetireUnit a)
        let c := (b.flagIf (decide (kind = 3)) BST_TROUBLE_SUBSTITUTED).wr KEY_STATUS_STATE 1
        exec .bootDecide s = .next (if c.on BND_BOOT_CFG_AUTOLOAD = true then
          (c.onBnd (fun b => { b with wait := none })).bndLoad (c.rd BND_BOOT_CFG_SLOT_SEL) else c.bndLoadWaiting)))) ∧
  (∀ (who : Agent) (inst : Fin 16) (s : State), s.Admits who 0x140010 true →
    (exec (.bistTestPair who inst) s = .next ((s.mbCount who).bistStart 1 inst.val) ∧
     exec (.bistTestUnit who inst) s = .next ((s.mbCount who).bistStart 2 inst.val)) ∧
    ∀ p ∈ ([(.bistTestPair who inst, 1), (.bistTestUnit who inst, 2)] : List (Instr × Nat)),
    let u := ((s.mbCount who).wr BST_CMD_TARGET p.2).wr BST_CMD_INSTANCE inst.val
    let ans := fun (r : Nat) => u.answer BST_CMD_STATUS_DONE BST_CMD_STATUS_RESULT r
    let spare := if p.2 = 1 then inst.val < 12 ∧ u.pairSt inst.val = 1 ∧ u.loaded = true else inst.val < 4 ∧ u.unitState inst.val = 3
    (u.on BST_CMD_STATUS_BUSY = true → exec p.1 s = .next (ans 5)) ∧
    (u.on BST_CMD_STATUS_BUSY = false →
      (u.lifecycle = 5 → exec p.1 s = .next (ans 4)) ∧
      (u.lifecycle ≠ 5 →
        (¬ spare → exec p.1 s = .next (ans 3)) ∧
        (spare → p.2 = 1 → u.sparesLeft < 2 → exec p.1 s = .next (ans 2)) ∧
        (spare → p.2 = 2 ∨ 2 ≤ u.sparesLeft →
          let v := (u.begin BST_CMD_STATUS_BUSY).failClear
          let w := v.onSys (fun y => { y with test := some (p.2, inst.val, v.now) })
          exec p.1 s = .next (if p.2 = 1 then (w.wrI FOL_P_STATE inst.val 3).folRefresh else w.setUnit inst.val 1))))) ∧
  (∀ (fs : List Finding) (s : State), s.fabricUp = true →
    (s.sys.test = none → exec (.bistDemandDone fs) s = .next s) ∧
    (∀ target inst t0 : Nat, s.sys.test = some (target, inst, t0) →
      let u := (fs.filter (fun f => decide (f.inst = inst) &&
        decide (f.target = (if target = 1 then 0x03 else 0x04) ∨ f.target = (if target = 1 then 0x40 else 0x41)))).foldl
          (fun t f => if f.target < 0x40 then t.memFinding f else t.logicFinding f) s
      exec (.bistDemandDone fs) s = .next ((u.bistEnd (if u.failures = [] then 0 else 1)).hkaFollow s false))) ∧
  (∀ (r : Nat) (s : State) (target inst t0 : Nat), s.sys.test = some (target, inst, t0) →
    let a := (s.onSys (fun y => { y with test := none })).finish BST_CMD_STATUS_BUSY BST_CMD_STATUS_DONE BST_CMD_STATUS_RESULT r
    let b := if target = 1 then a.wrI FOL_P_STATE inst (if r = 1 then 2 else 1) else a.setUnit inst (if r = 1 then 2 else 3)
    let c := if target = 1 ∧ r = 1 then b.folNoticeNow 6 inst 0 else b
    let d := c.flagIf (decide (r = 1)) BST_TROUBLE_DEMAND_FAIL
    s.bistEnd r = (d.bistEvent (if r = 0 then 5 else if r = 1 then 6 else 7) 2 0 ((d.now - t0) / 1000)).folRefresh)

/-- Ageing, thermal life, ECC counts and temperatures feed the monitors, which warn and propose (R470, R472, R473, R474, R477,
R478, R479, R480). While the housekeeping engine runs and SWEEP_MS (or 10) have passed since the last, a sweep begins its
burst, checks each masked channel of 8 to 13 against its temperature limit and keeps the board reading of channel 13; an
hourly measurement gives each monitor 0 to 17 its value and the NAND monitor 26 its report, with a proposal at the proposal
level; a corrected error of monitor 18 to 25 is counted with its address and judged; the end of a 24-hour window judges,
keeps the peak of, and closes each count. Before its time, where the engine does not run, or for another monitor, nothing
else changes. Thermal life accrues once a minute from the last board reading, if any, and is committed whole once an hour. A
monitor's value also updates its peak; at its warning level it warns once. A monitor with an open, waiting or dismissed
proposal raises none; where its action has no spare left it is EXHAUSTED once; else its proposal takes a free entry or
waits. A dismissed monitor proposes again, by its instance's present state, after REMIND_DAYS, never where they are 0. That
a proposal takes the first entry that is free, and then one that is closed, is the model's choice (log entry 33), as is the
precision of the life weight. -/
def Obligations.MonitorsAndProposals : Prop :=
  (∀ (vals : List Int) (s : State), s.fabricUp = true →
    let ms := s.rdOr HKA_SEQ_CFG_SWEEP_MS 10 * 1000000
    let n := ((List.range 16).filter (bitAt (s.rd HKA_SEQ_CFG_MASK))).length
    let a := s.onHka (fun h => { h with burst := some (max s.now s.convBusy, max s.now s.convBusy + 1000 * n) })
    (s.hkaRuns = false ∨ (∃ b, s.hka.burst = some b ∧ s.now < b.1 + ms) → exec (.adcSweep vals) s = .next s) ∧
    (s.hkaRuns = true → (∀ b, s.hka.burst = some b → b.1 + ms ≤ s.now) → exec (.adcSweep vals) s = .next ((List.range 16).foldl (fun t c =>
      match vals[c]? with
      | none => t
      | some v =>
        if bitAt (t.rd HKA_SEQ_CFG_MASK) c = false then t
        else
          let w := if 8 ≤ c ∧ c ≤ 13 then t.tempCheck c v else t
          if c = 13 then w.onHka (fun h => { h with board := some v }) else w) a))) ∧
  (∀ (ppm : List Nat) (nand : Nat) (s : State), s.fabricUp = true →
    (s.hkaRuns = false ∨ (∃ t, s.hka.agedAt = some t ∧ s.now < t + 3600000000000) → exec (.ageingMeasure ppm nand) s = .next s) ∧
    (s.hkaRuns = true → (∀ t, s.hka.agedAt = some t → t + 3600000000000 ≤ s.now) →
      let o := s.onHka (fun h => { h with agedAt := some s.now })
      let a := (List.range 18).foldl (fun t m => match ppm[m]? with
        | none => t
        | some v =>
          let w := t.monTake m v (o.rdOr HKA_AGE_LIMIT_WARN_PPM 15000) HKA_TROUBLE_AGE_WARN
          if o.rdOr HKA_AGE_LIMIT_PROPOSE_PPM 20000 ≤ v then w.proposeOpt (w.ageProp m (o.rdOr HKA_AGE_LIMIT_PROPOSE_PPM 20000)) else w) o
      let b := a.monTake 26 nand (a.rdOr HKA_LIFE_LIMIT_WARN_PCT 80 * 100) HKA_TROUBLE_LIFE_WARN
      let p := b.rdOr HKA_LIFE_LIMIT_PROPOSE_PCT 90 * 100
      exec (.ageingMeasure ppm nand) s = .next (if p ≤ nand then b.propose { mon := 26, action := 6, subject := 0, detail := 0, addr := 0, level := p } else b))) ∧
  (∀ (s : State), s.fabricUp = true →
    (s.hka.board = none ∨ (∃ t, s.hka.accruedAt = some t ∧ s.now < t + 60000000000) → exec .lifeAccrue s = .next s) ∧
    (∀ t : Int, s.hka.board = some t → (∀ u, s.hka.accruedAt = some u → u + 60000000000 ≤ s.now) →
      let a := s.onHka (fun h => { h with life := h.life + lifeWeight t, accruedAt := some s.now })
      let v := a.hka.life / 2 ^ 32 * 10000 / 13149000
      let b := a.monTake 27 v (a.rdOr HKA_LIFE_LIMIT_WARN_PCT 80 * 100) HKA_TROUBLE_LIFE_WARN
      let p := b.rdOr HKA_LIFE_LIMIT_PROPOSE_PCT 90 * 100
      exec .lifeAccrue s = .next (if p ≤ v then b.propose { mon := 27, action := 6, subject := 0, detail := 0, addr := 0, level := p } else b)) ∧
    ((∃ t, s.hka.committedAt = some t ∧ s.now < t + 3600000000000) → exec .lifeCommit s = .next s) ∧
    ((∀ t, s.hka.committedAt = some t → t + 3600000000000 ≤ s.now) → exec .lifeCommit s =
      .next ((s.onHka (fun h => { h with lifeMram := h.life, committedAt := some s.now })).wr HKA_LIFE (s.hka.life / 2 ^ 32)))) ∧
  (∀ (m : Fin 32) (target inst addr : Nat) (s : State), s.fabricUp = true →
    (s.hkaRuns = false ∨ m.val < 18 ∨ 25 < m.val → exec (.eccCorrected m target inst addr) s = .next s) ∧
    (s.hkaRuns = true → 18 ≤ m.val → m.val ≤ 25 →
      let a := (s.monPut m.val Ent.MON_VALUE (satNat 32 (Ent.MON_VALUE.of (s.mon m.val) + 1))).monPut m.val Ent.MON_UPDATED_S s.aonSeconds
      let b := a.onHka (fun h => { h with
        addrs := trackEcc h.addrs { mon := m.val, target := target, inst := inst, addr := addr, count := 0 },
        devs := if m.val ≤ 21 then bumpDev h.devs m.val inst else h.devs })
      exec (.eccCorrected m target inst addr) s = .next (b.eccJudge m.val))) ∧
  (∀ (s : State), s.fabricUp = true →
    let a := s.onHka (fun h => { h with windowAt := h.windowAt + 86400000000000 })
    (s.now < s.hka.windowAt + 86400000000000 → exec .eccWindowEnd s = .next s) ∧
    (s.hka.windowAt + 86400000000000 ≤ s.now → a.hkaRuns = false → exec .eccWindowEnd s = .next a) ∧
    (s.hka.windowAt + 86400000000000 ≤ s.now → a.hkaRuns = true → exec .eccWindowEnd s = .next (((List.range 8).foldl (fun t k =>
      let w := t.eccJudge (18 + k)
      let v := Ent.MON_VALUE.of (w.mon (18 + k))
      let x := (w.monPut (18 + k) Ent.MON_PEAK (max v (Ent.MON_PEAK.of (w.mon (18 + k))))).monPut (18 + k) Ent.MON_VALUE 0
      (x.monPut (18 + k) Ent.MON_WARN 0).monPut (18 + k) Ent.MON_UPDATED_S x.aonSeconds) a).onHka (fun h => { h with addrs := [], devs := [] })))) ∧
  (∀ (m v warn : Nat) (trouble : Fld) (s : State),
    let a := ((s.monPut m Ent.MON_VALUE (satNat 32 v)).monPut m Ent.MON_UPDATED_S s.aonSeconds)
    let b := a.monPut m Ent.MON_PEAK (max (satNat 32 v) (Ent.MON_PEAK.of (s.mon m)))
    (satNat 32 v < warn ∨ Ent.MON_WARN.on (b.mon m) = true → s.monTake m v warn trouble = b) ∧
    (warn ≤ satNat 32 v → Ent.MON_WARN.on (b.mon m) = false →
      s.monTake m v warn trouble = ((b.monPut m Ent.MON_WARN 1).flag trouble).wearEvent 1 m 0 0xFF (satNat 32 v) warn 0)) ∧
  (∀ (p : HkaProp) (s : State),
    let held := Ent.MON_PROPOSED.on (s.mon p.mon) || s.hka.waiting.any (fun q => q.mon == p.mon) || s.hka.dismissed.any (fun q => q.1.mon == p.mon)
    (held = true → s.propose p = s) ∧
    (held = false → s.actionBarred p = true → Ent.MON_EXHAUSTED.on (s.mon p.mon) = true → s.propose p = s) ∧
    (held = false → s.actionBarred p = true → Ent.MON_EXHAUSTED.on (s.mon p.mon) = false →
      s.propose p = ((s.monPut p.mon Ent.MON_EXHAUSTED 1).flag HKA_TROUBLE_SPARE_EXHAUSTED).wearEvent 6 p.mon p.action 0xFF
        (Ent.MON_VALUE.of (s.mon p.mon)) p.level 0) ∧
    (held = false → s.actionBarred p = false → s.propose p =
      ((s.propFree).map (fun i => s.propWrite i p)).getD (s.onHka (fun h => { h with waiting := h.waiting ++ [p] })))) ∧
  (∀ (m : Fin 32) (s : State), s.fabricUp = true →
    (s.hka.dismissed.find? (fun d => d.1.mon == m.val) = none → exec (.proposalRemind m) s = .next s) ∧
    (∀ (p : HkaProp) (t : Nat), s.hka.dismissed.find? (fun d => d.1.mon == m.val) = some (p, t) →
      let days := s.rd HKA_LIFE_LIMIT_REMIND_DAYS
      (days = 0 ∨ s.now < t + days * 86400000000000 → exec (.proposalRemind m) s = .next s) ∧
      (days ≠ 0 → t + days * 86400000000000 ≤ s.now → exec (.proposalRemind m) s =
        .next ((s.onHka (fun h => { h with dismissed := h.dismissed.filter (fun d => !(d.1.mon == m.val)) })).proposeOpt
          (if m.val ≤ 15 then s.ageProp m.val p.level else some p)))))

/-- Host conversions are queued and delivered, and SPARE_DEVICE, QUEUE_REPAIR and DISMISS act or answer their cause (R470, R471,
R478, R479, R480, R485). A conversion is requested with its channel and urgency, with BUSY, or is ignored with REQ_BUSY
while one is outstanding or the engine's unit is gated; an urgent one starts at the end of the conversion of a burst that
runs, another at the burst's end, without a burst at once or in the next cycle. Its result is delivered 1 µs after its start
with VALID, URGENT, CHANNEL, its wait, value and instant, and counted; an unread result is overwritten with OVERRUN,
counted; with none outstanding nothing changes. Each command answers BUSY (1) during another and GATED (5) with the unit
gated. SPARE_DEVICE answers EXHAUSTED (2) with SPARING_FAIL where the rank has no spare, and else begins the rebuild; when
it completes the rank's spare is taken, the mapping kept, the result is 0 and the rank's proposal is DONE. QUEUE_REPAIR
answers BAD_ARG (3) for an entry that is not an open repair proposal and EXHAUSTED with eight queued, and else queues its
address, closes it DONE and answers 0. DISMISS answers BAD_ARG for an entry that is not open, and else closes it DISMISSED
with its time kept and answers 0. Closing an entry, which also lets a waiting proposal in, is the model's propClose. -/
def Obligations.ConversionsAndMaintenanceCommands : Prop :=
  (∀ (who : Agent) (ch : Fin 16) (s : State), s.Admits who 0x150010 true →
    (exec (.adcConvert who ch) s = .next ((s.mbCount who).convGo ch.val false) ∧
     exec (.adcConvertUrgent who ch) s = .next ((s.mbCount who).convGo ch.val true)) ∧
    ∀ p ∈ ([(.adcConvert who ch, false), (.adcConvertUrgent who ch, true)] : List (Instr × Bool)),
    let u := ((s.mbCount who).wr HKA_CONV_CTRL_CHANNEL ch.val).wrB HKA_CONV_CTRL_URGENT p.2
    (u.hka.conv.isSome = true ∨ u.clk 17 = false → exec p.1 s = .next (u.flag HKA_TROUBLE_REQ_BUSY)) ∧
    (u.hka.conv = none → u.clk 17 = true → exec p.1 s = .next ((u.onHka (fun h => { h with
      conv := some { channel := ch.val, urgent := p.2, goAt := u.now, goTai := u.taiNs, start := u.convStart p.2 }
      burst := h.burst.map (fun b => if p.2 = true ∧ u.now < b.2 then (b.1, b.2 + 1000) else b) })).wr HKA_CONV_STATUS_BUSY 1)) ∧
    (u.hka.burst = none → u.convStart p.2 = u.now + b2n p.2) ∧
    (∀ a b : Nat, u.hka.burst = some (a, b) →
      (u.hkaRuns = false ∨ b ≤ u.now → u.convStart p.2 = u.now + b2n p.2) ∧
      (u.hkaRuns = true → u.now < b → p.2 = true → u.convStart p.2 = a + ceilDiv (u.now - a) 1000 * 1000) ∧
      (u.hkaRuns = true → u.now < b → p.2 = false → u.convStart p.2 = b))) ∧
  (∀ (value : BitVec 32) (s : State), s.Runs 17 →
    (s.hka.conv = none → exec (.adcResult value) s = .next s) ∧
    (∀ c : HkaConv, s.hka.conv = some c →
      (s.now < c.start + 1000 → exec (.adcResult value) s = .next s) ∧
      (c.start + 1000 ≤ s.now →
        let a := if s.on HKA_DATA_LO_VALID = true then (s.flag HKA_TROUBLE_OVERRUN).bump HKA_OVERRUNS else s
        let b := (((a.flag HKA_DATA_LO_VALID).wrB HKA_DATA_LO_URGENT c.urgent).wr HKA_DATA_LO_CHANNEL c.channel).wrSat HKA_DATA_LO_WAIT
          ((c.start - c.goAt) / 10)
        let d := (b.wr HKA_DATA_HI_VALUE value.toNat).wr HKA_DATA_TAI (c.goTai + (c.start - c.goAt))
        exec (.adcResult value) s = .next (((d.onHka (fun h => { h with conv := none })).wr HKA_CONV_STATUS_BUSY 0).bump HKA_CONVERSIONS)))) ∧
  (∀ (who : Agent) (rank : Fin 4) (dev : Fin 32) (s : State), s.Admits who 0x150050 true →
    let u := (((s.mbCount who).wr HKA_CMD_OP 1).wr HKA_CMD_RANK rank.val).wr HKA_CMD_DEVICE dev.val
    let ans := fun (x : State) (r : Nat) => x.answer HKA_CMD_STATUS_DONE HKA_CMD_STATUS_RESULT r
    (u.on HKA_CMD_STATUS_BUSY = true → exec (.spareDevice who rank dev) s = .next (ans u 1)) ∧
    (u.on HKA_CMD_STATUS_BUSY = false →
      (u.clk 17 = false → exec (.spareDevice who rank dev) s = .next (ans u 5)) ∧
      (u.clk 17 = true →
        (bitAt (u.rd HKA_SPARES_DRAM_SPARE) rank.val = false →
          exec (.spareDevice who rank dev) s = .next (ans (u.flag HKA_TROUBLE_SPARING_FAIL) 2)) ∧
        (bitAt (u.rd HKA_SPARES_DRAM_SPARE) rank.val = true → exec (.spareDevice who rank dev) s =
          .next ((u.begin HKA_CMD_STATUS_BUSY).onHka (fun h => { h with rebuild := some (rank.val, dev.val) })).hkaShow)))) ∧
  (∀ (s : State), s.Runs 17 →
    (s.hka.rebuild = none → exec .spareRebuildDone s = .next s) ∧
    (∀ r d : Nat, s.hka.rebuild = some (r, d) →
      let a := (s.onHka (fun h => { h with rebuild := none, map := h.map ++ [(r, d)] })).wrBit HKA_SPARES_DRAM_SPARE 0 r false
      exec .spareRebuildDone s =
        .next (((a.finish HKA_CMD_STATUS_BUSY HKA_CMD_STATUS_DONE HKA_CMD_STATUS_RESULT 0).hkaShow).propSettle (18 + r) 2))) ∧
  (∀ (who : Agent) (i : Fin 16) (s : State), s.Admits who 0x150050 true →
    let ans := fun (x : State) (r : Nat) => x.answer HKA_CMD_STATUS_DONE HKA_CMD_STATUS_RESULT r
    (let u := ((s.mbCount who).wr HKA_CMD_OP 2).wr HKA_CMD_PROP i.val
     let e := u.hka.prop.get i.val 0
     (u.on HKA_CMD_STATUS_BUSY = true → exec (.queueRepair who i) s = .next (ans u 1)) ∧
     (u.on HKA_CMD_STATUS_BUSY = false →
       (u.clk 17 = false → exec (.queueRepair who i) s = .next (ans u 5)) ∧
       (u.clk 17 = true →
         (Ent.PROP_STATE.of e ≠ 1 ∨ Ent.PROP_ACTION.of e ≠ 5 → exec (.queueRepair who i) s = .next (ans u 3)) ∧
         (Ent.PROP_STATE.of e = 1 → Ent.PROP_ACTION.of e = 5 → 8 ≤ u.hka.queued.length → exec (.queueRepair who i) s = .next (ans u 2)) ∧
         (Ent.PROP_STATE.of e = 1 → Ent.PROP_ACTION.of e = 5 → u.hka.queued.length < 8 →
           let v := u.onHka (fun h => { h with queued := h.queued ++ [(Ent.PROP_SUBJECT.of e, Ent.PROP_DETAIL.of e, Ent.PROP_ADDRESS.of e)] })
           exec (.queueRepair who i) s = .next (ans ((v.wr HKA_SPARES_QUEUED v.hka.queued.length).propClose i.val 2) 0))))) ∧
    (let u := ((s.mbCount who).wr HKA_CMD_OP 3).wr HKA_CMD_PROP i.val
     let e := u.hka.prop.get i.val 0
     (u.on HKA_CMD_STATUS_BUSY = true → exec (.dismiss who i) s = .next (ans u 1)) ∧
     (u.on HKA_CMD_STATUS_BUSY = false →
       (u.clk 17 = false → exec (.dismiss who i) s = .next (ans u 5)) ∧
       (u.clk 17 = true →
         (Ent.PROP_STATE.of e ≠ 1 → exec (.dismiss who i) s = .next (ans u 3)) ∧
         (Ent.PROP_STATE.of e = 1 →
           let p : HkaProp := {
             mon := Ent.PROP_MONITOR.of e, action := Ent.PROP_ACTION.of e, subject := Ent.PROP_SUBJECT.of e,
             detail := Ent.PROP_DETAIL.of e, addr := Ent.PROP_ADDRESS.of e, level := 0 }
           exec (.dismiss who i) s = .next (ans ((u.onHka (fun h => { h with dismissed := h.dismissed ++ [(p, u.now)] })).propClose i.val 3) 0))))))
end

