-- ==== Sys2Proof/Laws/Store.lean ====
section
/-! SUPPORT. The laws of the sparse store and of memory: a read after a write, and the canonical form. -/

namespace Sys2Proof

/-- A lower bound of the keys may be lowered. -/
theorem Store.risingFrom_mono {m : Store} {a b : Nat} (hab : a ≤ b) (h : m.risingFrom b = true) :
    m.risingFrom a = true := by
  cases m with
  | nil => rfl
  | cons e m =>
    simp [Store.risingFrom] at h ⊢
    exact ⟨by omega, h.2⟩

theorem Store.erase_risingFrom {m : Store} {lo k : Nat} (h : m.risingFrom lo = true) :
    (m.erase k).risingFrom lo = true := by
  induction m generalizing lo with
  | nil => rfl
  | cons e m ih =>
    obtain ⟨k', v⟩ := e
    simp [Store.risingFrom] at h
    simp only [Store.erase]
    split
    · exact Store.risingFrom_mono (by omega) h.2
    · split
      · simp [Store.risingFrom, h]
      · simp [Store.risingFrom, h.1, ih h.2]

theorem Store.insert_risingFrom {m : Store} {lo k v : Nat} (hk : lo ≤ k) (h : m.risingFrom lo = true) :
    (m.insert k v).risingFrom lo = true := by
  induction m generalizing lo with
  | nil => simp [Store.insert, Store.risingFrom, hk]
  | cons e m ih =>
    obtain ⟨k', v'⟩ := e
    simp [Store.risingFrom] at h
    simp only [Store.insert]
    split
    · subst_vars; simp [Store.risingFrom, h]
    · split
      · simp [Store.risingFrom, hk, h.2]; omega
      · simp [Store.risingFrom, h.1, ih (lo := k' + 1) (by omega) h.2]

/-- Writing a key keeps the canonical form. -/
theorem Store.put_wf {m : Store} (k d v : Nat) (h : m.wf = true) : (m.put k d v).wf = true := by
  unfold Store.put Store.wf at *
  split
  · exact Store.erase_risingFrom h
  · exact Store.insert_risingFrom (Nat.zero_le _) h

theorem Store.get_insert_self (m : Store) (k v d : Nat) : (m.insert k v).get k d = v := by
  induction m with
  | nil => simp [Store.insert, Store.get]
  | cons e m ih =>
    obtain ⟨k', v'⟩ := e
    simp only [Store.insert]
    split
    · simp [Store.get]
    · split
      · simp [Store.get]
      · rename_i h1 h2
        simp [Store.get, h1, h2, ih]

theorem Store.get_insert_ne (m : Store) {j k : Nat} (v d : Nat) (h : j ≠ k) : (m.insert k v).get j d = m.get j d := by
  induction m with
  | nil =>
    simp only [Store.insert, Store.get]
    simp [Ne.symm h]
  | cons e m ih =>
    obtain ⟨k', v'⟩ := e
    simp only [Store.insert]
    split
    · subst_vars; simp [Store.get, Ne.symm h]
    · split
      · simp only [Store.get]
        have := Ne.symm h
        split
        · contradiction
        · rename_i h1 h2 h3
          split
          · have h4 : ¬ k' = j := by omega
            have h5 : j < k' := by omega
            simp [h4, h5]
          · rfl
      · simp [Store.get, ih]

/-- A store whose keys start above `k` has nothing at `k`. -/
theorem Store.get_of_risingFrom {m : Store} {lo k : Nat} (d : Nat) (hk : k < lo) (h : m.risingFrom lo = true) : m.get k d = d := by
  cases m with
  | nil => rfl
  | cons e m =>
    obtain ⟨k', v'⟩ := e
    simp [Store.risingFrom] at h
    simp only [Store.get]
    have h1 : ¬ k' = k := by omega
    have h2 : k < k' := by omega
    simp [h1, h2]

theorem Store.get_erase_self {m : Store} {lo : Nat} (k d : Nat) (h : m.risingFrom lo = true) : (m.erase k).get k d = d := by
  induction m generalizing lo with
  | nil => rfl
  | cons e m ih =>
    obtain ⟨k', v'⟩ := e
    simp [Store.risingFrom] at h
    simp only [Store.erase]
    split
    · subst_vars; exact Store.get_of_risingFrom d (Nat.lt_succ_self _) h.2
    · rename_i h1
      split
      · rename_i h2; simp [Store.get, h1, h2]
      · rename_i h2; simp [Store.get, h1, h2, ih h.2]

theorem Store.get_erase_ne {m : Store} {lo j k : Nat} (d : Nat) (hj : j ≠ k) (h : m.risingFrom lo = true) :
    (m.erase k).get j d = m.get j d := by
  induction m generalizing lo with
  | nil => rfl
  | cons e m ih =>
    obtain ⟨k', v'⟩ := e
    simp [Store.risingFrom] at h
    simp only [Store.erase]
    split
    · subst_vars
      simp only [Store.get, Ne.symm hj, if_false]
      split
      · exact Store.get_of_risingFrom d (by omega) h.2
      · rfl
    · split
      · rfl
      · simp [Store.get, ih h.2]

/-- A read of the key just written gives the value. -/
theorem Store.get_put_self {m : Store} (k d v : Nat) (h : m.wf = true) : (m.put k d v).get k d = v := by
  unfold Store.put
  split
  · subst_vars; exact Store.get_erase_self k _ h
  · exact Store.get_insert_self m k v d

/-- A write leaves every other key alone. -/
theorem Store.get_put_ne {m : Store} {j k : Nat} (e d v : Nat) (hj : j ≠ k) (h : m.wf = true) : (m.put k d v).get j e = m.get j e := by
  unfold Store.put
  split
  · exact Store.get_erase_ne e hj h
  · exact Store.get_insert_ne m v e hj

namespace Machine

theorem Memory.write_risingFrom {m : Memory} {lo a : Nat} (b : Byte) (ha : lo ≤ a) (h : m.risingFrom lo = true) :
    (m.write a b).risingFrom lo = true := by
  induction m generalizing lo with
  | nil => simp [Memory.write, Memory.risingFrom, ha]
  | cons e m ih =>
    obtain ⟨k', v'⟩ := e
    simp [Memory.risingFrom] at h
    simp only [Memory.write]
    split
    · subst_vars; simp [Memory.risingFrom, h]
    · split
      · simp [Memory.risingFrom, ha, h.2]; omega
      · simp [Memory.risingFrom, h.1, ih (lo := k' + 1) (by omega) h.2]

/-- Writing a byte keeps the canonical form of a memory. -/
theorem Memory.write_wf {m : Memory} (a : Nat) (b : Byte) (h : m.wf = true) : (m.write a b).wf = true :=
  Memory.write_risingFrom b (Nat.zero_le _) h

/-- Writing bytes keeps the canonical form of a memory. -/
theorem Memory.writeAll_wf {m : Memory} (a : Nat) (bs : List Byte) (h : m.wf = true) : (m.writeAll a bs).wf = true := by
  induction bs generalizing m a with
  | nil => exact h
  | cons b bs ih => exact ih (a + 1) (Memory.write_wf a b h)

/-- A read of the byte just written gives it. -/
theorem Memory.read_write_self (m : Memory) (a : Nat) (b : Byte) : (m.write a b).read? a = some b := by
  induction m with
  | nil => simp [Memory.write, Memory.read?]
  | cons e m ih =>
    obtain ⟨k', v'⟩ := e
    simp only [Memory.write]
    split
    · simp [Memory.read?]
    · split
      · simp [Memory.read?]
      · rename_i h1 h2
        simp [Memory.read?, h1, h2, ih]

/-- A write leaves every other byte alone. -/
theorem Memory.read_write_ne (m : Memory) {a c : Nat} (b : Byte) (h : c ≠ a) : (m.write a b).read? c = m.read? c := by
  induction m with
  | nil => simp [Memory.write, Memory.read?, Ne.symm h]
  | cons e m ih =>
    obtain ⟨k', v'⟩ := e
    simp only [Memory.write]
    split
    · subst_vars; simp [Memory.read?, Ne.symm h]
    · split
      · simp only [Memory.read?]
        split
        · rename_i h3; exact absurd h3.symm h
        · split
          · have h4 : ¬ k' = c := by omega
            have h5 : c < k' := by omega
            simp [h4, h5]
          · rfl
      · simp [Memory.read?, ih]

end Machine

end Sys2Proof
end

