-- ==== Sys2Proof/Laws/State.lean ====
section
/-! SUPPORT. The small lemmas of State: one a field an update, true by rfl, and the laws of register fields. -/

namespace Sys2Proof.Machine

open Sys2Proof

/-! ## Updates of one component -/

@[simp] theorem State.onEvr_now (s : State) (f : EvrS → EvrS) : (s.onEvr f).now = s.now := rfl
@[simp] theorem State.onEvr_tai (s : State) (f : EvrS → EvrS) : (s.onEvr f).tai = s.tai := rfl
@[simp] theorem State.onEvr_taiFrac (s : State) (f : EvrS → EvrS) : (s.onEvr f).taiFrac = s.taiFrac := rfl
@[simp] theorem State.onEvr_resid (s : State) (f : EvrS → EvrS) : (s.onEvr f).resid = s.resid := rfl
@[simp] theorem State.onEvr_regs (s : State) (f : EvrS → EvrS) : (s.onEvr f).regs = s.regs := rfl
@[simp] theorem State.onEvr_tables (s : State) (f : EvrS → EvrS) : (s.onEvr f).tables = s.tables := rfl
@[simp] theorem State.onEvr_dram (s : State) (f : EvrS → EvrS) : (s.onEvr f).dram = s.dram := rfl
@[simp] theorem State.onEvr_dramGen (s : State) (f : EvrS → EvrS) : (s.onEvr f).dramGen = s.dramGen := rfl
@[simp] theorem State.onEvr_latches (s : State) (f : EvrS → EvrS) : (s.onEvr f).latches = s.latches := rfl
@[simp] theorem State.onEvr_mbLater (s : State) (f : EvrS → EvrS) : (s.onEvr f).mbLater = s.mbLater := rfl
@[simp] theorem State.onEvr_setNow (s : State) (f : EvrS → EvrS) : (s.onEvr f).setNow = s.setNow := rfl
@[simp] theorem State.onEvr_lastRead (s : State) (f : EvrS → EvrS) : (s.onEvr f).lastRead = s.lastRead := rfl
@[simp] theorem State.onEvr_freeCount (s : State) (f : EvrS → EvrS) : (s.onEvr f).freeCount = s.freeCount := rfl
@[simp] theorem State.onEvr_evr (s : State) (f : EvrS → EvrS) : (s.onEvr f).evr = f s.evr := rfl
@[simp] theorem State.onEvr_key (s : State) (f : EvrS → EvrS) : (s.onEvr f).key = s.key := rfl
@[simp] theorem State.onEvr_swc (s : State) (f : EvrS → EvrS) : (s.onEvr f).swc = s.swc := rfl
@[simp] theorem State.onEvr_mac (s : State) (f : EvrS → EvrS) : (s.onEvr f).mac = s.mac := rfl
@[simp] theorem State.onEvr_tsq (s : State) (f : EvrS → EvrS) : (s.onEvr f).tsq = s.tsq := rfl
@[simp] theorem State.onEvr_tim (s : State) (f : EvrS → EvrS) : (s.onEvr f).tim = s.tim := rfl
@[simp] theorem State.onEvr_pub (s : State) (f : EvrS → EvrS) : (s.onEvr f).pub = s.pub := rfl
@[simp] theorem State.onEvr_fol (s : State) (f : EvrS → EvrS) : (s.onEvr f).fol = s.fol := rfl
@[simp] theorem State.onEvr_ctl (s : State) (f : EvrS → EvrS) : (s.onEvr f).ctl = s.ctl := rfl
@[simp] theorem State.onEvr_lge (s : State) (f : EvrS → EvrS) : (s.onEvr f).lge = s.lge := rfl
@[simp] theorem State.onEvr_sys (s : State) (f : EvrS → EvrS) : (s.onEvr f).sys = s.sys := rfl
@[simp] theorem State.onEvr_lcs (s : State) (f : EvrS → EvrS) : (s.onEvr f).lcs = s.lcs := rfl
@[simp] theorem State.onEvr_hka (s : State) (f : EvrS → EvrS) : (s.onEvr f).hka = s.hka := rfl
@[simp] theorem State.onEvr_gth (s : State) (f : EvrS → EvrS) : (s.onEvr f).gth = s.gth := rfl
@[simp] theorem State.onEvr_bnd (s : State) (f : EvrS → EvrS) : (s.onEvr f).bnd = s.bnd := rfl
@[simp] theorem State.onEvr_twn (s : State) (f : EvrS → EvrS) : (s.onEvr f).twn = s.twn := rfl
@[simp] theorem State.onEvr_svi (s : State) (f : EvrS → EvrS) : (s.onEvr f).svi = s.svi := rfl
@[simp] theorem State.onEvr_flt (s : State) (f : EvrS → EvrS) : (s.onEvr f).flt = s.flt := rfl
@[simp] theorem State.onEvr_pending (s : State) (f : EvrS → EvrS) : (s.onEvr f).pending = s.pending := rfl

@[simp] theorem State.onKey_now (s : State) (f : KeyS → KeyS) : (s.onKey f).now = s.now := rfl
@[simp] theorem State.onKey_tai (s : State) (f : KeyS → KeyS) : (s.onKey f).tai = s.tai := rfl
@[simp] theorem State.onKey_taiFrac (s : State) (f : KeyS → KeyS) : (s.onKey f).taiFrac = s.taiFrac := rfl
@[simp] theorem State.onKey_resid (s : State) (f : KeyS → KeyS) : (s.onKey f).resid = s.resid := rfl
@[simp] theorem State.onKey_regs (s : State) (f : KeyS → KeyS) : (s.onKey f).regs = s.regs := rfl
@[simp] theorem State.onKey_tables (s : State) (f : KeyS → KeyS) : (s.onKey f).tables = s.tables := rfl
@[simp] theorem State.onKey_dram (s : State) (f : KeyS → KeyS) : (s.onKey f).dram = s.dram := rfl
@[simp] theorem State.onKey_dramGen (s : State) (f : KeyS → KeyS) : (s.onKey f).dramGen = s.dramGen := rfl
@[simp] theorem State.onKey_latches (s : State) (f : KeyS → KeyS) : (s.onKey f).latches = s.latches := rfl
@[simp] theorem State.onKey_mbLater (s : State) (f : KeyS → KeyS) : (s.onKey f).mbLater = s.mbLater := rfl
@[simp] theorem State.onKey_setNow (s : State) (f : KeyS → KeyS) : (s.onKey f).setNow = s.setNow := rfl
@[simp] theorem State.onKey_lastRead (s : State) (f : KeyS → KeyS) : (s.onKey f).lastRead = s.lastRead := rfl
@[simp] theorem State.onKey_freeCount (s : State) (f : KeyS → KeyS) : (s.onKey f).freeCount = s.freeCount := rfl
@[simp] theorem State.onKey_evr (s : State) (f : KeyS → KeyS) : (s.onKey f).evr = s.evr := rfl
@[simp] theorem State.onKey_key (s : State) (f : KeyS → KeyS) : (s.onKey f).key = f s.key := rfl
@[simp] theorem State.onKey_swc (s : State) (f : KeyS → KeyS) : (s.onKey f).swc = s.swc := rfl
@[simp] theorem State.onKey_mac (s : State) (f : KeyS → KeyS) : (s.onKey f).mac = s.mac := rfl
@[simp] theorem State.onKey_tsq (s : State) (f : KeyS → KeyS) : (s.onKey f).tsq = s.tsq := rfl
@[simp] theorem State.onKey_tim (s : State) (f : KeyS → KeyS) : (s.onKey f).tim = s.tim := rfl
@[simp] theorem State.onKey_pub (s : State) (f : KeyS → KeyS) : (s.onKey f).pub = s.pub := rfl
@[simp] theorem State.onKey_fol (s : State) (f : KeyS → KeyS) : (s.onKey f).fol = s.fol := rfl
@[simp] theorem State.onKey_ctl (s : State) (f : KeyS → KeyS) : (s.onKey f).ctl = s.ctl := rfl
@[simp] theorem State.onKey_lge (s : State) (f : KeyS → KeyS) : (s.onKey f).lge = s.lge := rfl
@[simp] theorem State.onKey_sys (s : State) (f : KeyS → KeyS) : (s.onKey f).sys = s.sys := rfl
@[simp] theorem State.onKey_lcs (s : State) (f : KeyS → KeyS) : (s.onKey f).lcs = s.lcs := rfl
@[simp] theorem State.onKey_hka (s : State) (f : KeyS → KeyS) : (s.onKey f).hka = s.hka := rfl
@[simp] theorem State.onKey_gth (s : State) (f : KeyS → KeyS) : (s.onKey f).gth = s.gth := rfl
@[simp] theorem State.onKey_bnd (s : State) (f : KeyS → KeyS) : (s.onKey f).bnd = s.bnd := rfl
@[simp] theorem State.onKey_twn (s : State) (f : KeyS → KeyS) : (s.onKey f).twn = s.twn := rfl
@[simp] theorem State.onKey_svi (s : State) (f : KeyS → KeyS) : (s.onKey f).svi = s.svi := rfl
@[simp] theorem State.onKey_flt (s : State) (f : KeyS → KeyS) : (s.onKey f).flt = s.flt := rfl
@[simp] theorem State.onKey_pending (s : State) (f : KeyS → KeyS) : (s.onKey f).pending = s.pending := rfl

@[simp] theorem State.onSwc_now (s : State) (f : SwcS → SwcS) : (s.onSwc f).now = s.now := rfl
@[simp] theorem State.onSwc_tai (s : State) (f : SwcS → SwcS) : (s.onSwc f).tai = s.tai := rfl
@[simp] theorem State.onSwc_taiFrac (s : State) (f : SwcS → SwcS) : (s.onSwc f).taiFrac = s.taiFrac := rfl
@[simp] theorem State.onSwc_resid (s : State) (f : SwcS → SwcS) : (s.onSwc f).resid = s.resid := rfl
@[simp] theorem State.onSwc_regs (s : State) (f : SwcS → SwcS) : (s.onSwc f).regs = s.regs := rfl
@[simp] theorem State.onSwc_tables (s : State) (f : SwcS → SwcS) : (s.onSwc f).tables = s.tables := rfl
@[simp] theorem State.onSwc_dram (s : State) (f : SwcS → SwcS) : (s.onSwc f).dram = s.dram := rfl
@[simp] theorem State.onSwc_dramGen (s : State) (f : SwcS → SwcS) : (s.onSwc f).dramGen = s.dramGen := rfl
@[simp] theorem State.onSwc_latches (s : State) (f : SwcS → SwcS) : (s.onSwc f).latches = s.latches := rfl
@[simp] theorem State.onSwc_mbLater (s : State) (f : SwcS → SwcS) : (s.onSwc f).mbLater = s.mbLater := rfl
@[simp] theorem State.onSwc_setNow (s : State) (f : SwcS → SwcS) : (s.onSwc f).setNow = s.setNow := rfl
@[simp] theorem State.onSwc_lastRead (s : State) (f : SwcS → SwcS) : (s.onSwc f).lastRead = s.lastRead := rfl
@[simp] theorem State.onSwc_freeCount (s : State) (f : SwcS → SwcS) : (s.onSwc f).freeCount = s.freeCount := rfl
@[simp] theorem State.onSwc_evr (s : State) (f : SwcS → SwcS) : (s.onSwc f).evr = s.evr := rfl
@[simp] theorem State.onSwc_key (s : State) (f : SwcS → SwcS) : (s.onSwc f).key = s.key := rfl
@[simp] theorem State.onSwc_swc (s : State) (f : SwcS → SwcS) : (s.onSwc f).swc = f s.swc := rfl
@[simp] theorem State.onSwc_mac (s : State) (f : SwcS → SwcS) : (s.onSwc f).mac = s.mac := rfl
@[simp] theorem State.onSwc_tsq (s : State) (f : SwcS → SwcS) : (s.onSwc f).tsq = s.tsq := rfl
@[simp] theorem State.onSwc_tim (s : State) (f : SwcS → SwcS) : (s.onSwc f).tim = s.tim := rfl
@[simp] theorem State.onSwc_pub (s : State) (f : SwcS → SwcS) : (s.onSwc f).pub = s.pub := rfl
@[simp] theorem State.onSwc_fol (s : State) (f : SwcS → SwcS) : (s.onSwc f).fol = s.fol := rfl
@[simp] theorem State.onSwc_ctl (s : State) (f : SwcS → SwcS) : (s.onSwc f).ctl = s.ctl := rfl
@[simp] theorem State.onSwc_lge (s : State) (f : SwcS → SwcS) : (s.onSwc f).lge = s.lge := rfl
@[simp] theorem State.onSwc_sys (s : State) (f : SwcS → SwcS) : (s.onSwc f).sys = s.sys := rfl
@[simp] theorem State.onSwc_lcs (s : State) (f : SwcS → SwcS) : (s.onSwc f).lcs = s.lcs := rfl
@[simp] theorem State.onSwc_hka (s : State) (f : SwcS → SwcS) : (s.onSwc f).hka = s.hka := rfl
@[simp] theorem State.onSwc_gth (s : State) (f : SwcS → SwcS) : (s.onSwc f).gth = s.gth := rfl
@[simp] theorem State.onSwc_bnd (s : State) (f : SwcS → SwcS) : (s.onSwc f).bnd = s.bnd := rfl
@[simp] theorem State.onSwc_twn (s : State) (f : SwcS → SwcS) : (s.onSwc f).twn = s.twn := rfl
@[simp] theorem State.onSwc_svi (s : State) (f : SwcS → SwcS) : (s.onSwc f).svi = s.svi := rfl
@[simp] theorem State.onSwc_flt (s : State) (f : SwcS → SwcS) : (s.onSwc f).flt = s.flt := rfl
@[simp] theorem State.onSwc_pending (s : State) (f : SwcS → SwcS) : (s.onSwc f).pending = s.pending := rfl

@[simp] theorem State.onMac_now (s : State) (f : MacS → MacS) : (s.onMac f).now = s.now := rfl
@[simp] theorem State.onMac_tai (s : State) (f : MacS → MacS) : (s.onMac f).tai = s.tai := rfl
@[simp] theorem State.onMac_taiFrac (s : State) (f : MacS → MacS) : (s.onMac f).taiFrac = s.taiFrac := rfl
@[simp] theorem State.onMac_resid (s : State) (f : MacS → MacS) : (s.onMac f).resid = s.resid := rfl
@[simp] theorem State.onMac_regs (s : State) (f : MacS → MacS) : (s.onMac f).regs = s.regs := rfl
@[simp] theorem State.onMac_tables (s : State) (f : MacS → MacS) : (s.onMac f).tables = s.tables := rfl
@[simp] theorem State.onMac_dram (s : State) (f : MacS → MacS) : (s.onMac f).dram = s.dram := rfl
@[simp] theorem State.onMac_dramGen (s : State) (f : MacS → MacS) : (s.onMac f).dramGen = s.dramGen := rfl
@[simp] theorem State.onMac_latches (s : State) (f : MacS → MacS) : (s.onMac f).latches = s.latches := rfl
@[simp] theorem State.onMac_mbLater (s : State) (f : MacS → MacS) : (s.onMac f).mbLater = s.mbLater := rfl
@[simp] theorem State.onMac_setNow (s : State) (f : MacS → MacS) : (s.onMac f).setNow = s.setNow := rfl
@[simp] theorem State.onMac_lastRead (s : State) (f : MacS → MacS) : (s.onMac f).lastRead = s.lastRead := rfl
@[simp] theorem State.onMac_freeCount (s : State) (f : MacS → MacS) : (s.onMac f).freeCount = s.freeCount := rfl
@[simp] theorem State.onMac_evr (s : State) (f : MacS → MacS) : (s.onMac f).evr = s.evr := rfl
@[simp] theorem State.onMac_key (s : State) (f : MacS → MacS) : (s.onMac f).key = s.key := rfl
@[simp] theorem State.onMac_swc (s : State) (f : MacS → MacS) : (s.onMac f).swc = s.swc := rfl
@[simp] theorem State.onMac_mac (s : State) (f : MacS → MacS) : (s.onMac f).mac = f s.mac := rfl
@[simp] theorem State.onMac_tsq (s : State) (f : MacS → MacS) : (s.onMac f).tsq = s.tsq := rfl
@[simp] theorem State.onMac_tim (s : State) (f : MacS → MacS) : (s.onMac f).tim = s.tim := rfl
@[simp] theorem State.onMac_pub (s : State) (f : MacS → MacS) : (s.onMac f).pub = s.pub := rfl
@[simp] theorem State.onMac_fol (s : State) (f : MacS → MacS) : (s.onMac f).fol = s.fol := rfl
@[simp] theorem State.onMac_ctl (s : State) (f : MacS → MacS) : (s.onMac f).ctl = s.ctl := rfl
@[simp] theorem State.onMac_lge (s : State) (f : MacS → MacS) : (s.onMac f).lge = s.lge := rfl
@[simp] theorem State.onMac_sys (s : State) (f : MacS → MacS) : (s.onMac f).sys = s.sys := rfl
@[simp] theorem State.onMac_lcs (s : State) (f : MacS → MacS) : (s.onMac f).lcs = s.lcs := rfl
@[simp] theorem State.onMac_hka (s : State) (f : MacS → MacS) : (s.onMac f).hka = s.hka := rfl
@[simp] theorem State.onMac_gth (s : State) (f : MacS → MacS) : (s.onMac f).gth = s.gth := rfl
@[simp] theorem State.onMac_bnd (s : State) (f : MacS → MacS) : (s.onMac f).bnd = s.bnd := rfl
@[simp] theorem State.onMac_twn (s : State) (f : MacS → MacS) : (s.onMac f).twn = s.twn := rfl
@[simp] theorem State.onMac_svi (s : State) (f : MacS → MacS) : (s.onMac f).svi = s.svi := rfl
@[simp] theorem State.onMac_flt (s : State) (f : MacS → MacS) : (s.onMac f).flt = s.flt := rfl
@[simp] theorem State.onMac_pending (s : State) (f : MacS → MacS) : (s.onMac f).pending = s.pending := rfl

@[simp] theorem State.onTsq_now (s : State) (f : TsqS → TsqS) : (s.onTsq f).now = s.now := rfl
@[simp] theorem State.onTsq_tai (s : State) (f : TsqS → TsqS) : (s.onTsq f).tai = s.tai := rfl
@[simp] theorem State.onTsq_taiFrac (s : State) (f : TsqS → TsqS) : (s.onTsq f).taiFrac = s.taiFrac := rfl
@[simp] theorem State.onTsq_resid (s : State) (f : TsqS → TsqS) : (s.onTsq f).resid = s.resid := rfl
@[simp] theorem State.onTsq_regs (s : State) (f : TsqS → TsqS) : (s.onTsq f).regs = s.regs := rfl
@[simp] theorem State.onTsq_tables (s : State) (f : TsqS → TsqS) : (s.onTsq f).tables = s.tables := rfl
@[simp] theorem State.onTsq_dram (s : State) (f : TsqS → TsqS) : (s.onTsq f).dram = s.dram := rfl
@[simp] theorem State.onTsq_dramGen (s : State) (f : TsqS → TsqS) : (s.onTsq f).dramGen = s.dramGen := rfl
@[simp] theorem State.onTsq_latches (s : State) (f : TsqS → TsqS) : (s.onTsq f).latches = s.latches := rfl
@[simp] theorem State.onTsq_mbLater (s : State) (f : TsqS → TsqS) : (s.onTsq f).mbLater = s.mbLater := rfl
@[simp] theorem State.onTsq_setNow (s : State) (f : TsqS → TsqS) : (s.onTsq f).setNow = s.setNow := rfl
@[simp] theorem State.onTsq_lastRead (s : State) (f : TsqS → TsqS) : (s.onTsq f).lastRead = s.lastRead := rfl
@[simp] theorem State.onTsq_freeCount (s : State) (f : TsqS → TsqS) : (s.onTsq f).freeCount = s.freeCount := rfl
@[simp] theorem State.onTsq_evr (s : State) (f : TsqS → TsqS) : (s.onTsq f).evr = s.evr := rfl
@[simp] theorem State.onTsq_key (s : State) (f : TsqS → TsqS) : (s.onTsq f).key = s.key := rfl
@[simp] theorem State.onTsq_swc (s : State) (f : TsqS → TsqS) : (s.onTsq f).swc = s.swc := rfl
@[simp] theorem State.onTsq_mac (s : State) (f : TsqS → TsqS) : (s.onTsq f).mac = s.mac := rfl
@[simp] theorem State.onTsq_tsq (s : State) (f : TsqS → TsqS) : (s.onTsq f).tsq = f s.tsq := rfl
@[simp] theorem State.onTsq_tim (s : State) (f : TsqS → TsqS) : (s.onTsq f).tim = s.tim := rfl
@[simp] theorem State.onTsq_pub (s : State) (f : TsqS → TsqS) : (s.onTsq f).pub = s.pub := rfl
@[simp] theorem State.onTsq_fol (s : State) (f : TsqS → TsqS) : (s.onTsq f).fol = s.fol := rfl
@[simp] theorem State.onTsq_ctl (s : State) (f : TsqS → TsqS) : (s.onTsq f).ctl = s.ctl := rfl
@[simp] theorem State.onTsq_lge (s : State) (f : TsqS → TsqS) : (s.onTsq f).lge = s.lge := rfl
@[simp] theorem State.onTsq_sys (s : State) (f : TsqS → TsqS) : (s.onTsq f).sys = s.sys := rfl
@[simp] theorem State.onTsq_lcs (s : State) (f : TsqS → TsqS) : (s.onTsq f).lcs = s.lcs := rfl
@[simp] theorem State.onTsq_hka (s : State) (f : TsqS → TsqS) : (s.onTsq f).hka = s.hka := rfl
@[simp] theorem State.onTsq_gth (s : State) (f : TsqS → TsqS) : (s.onTsq f).gth = s.gth := rfl
@[simp] theorem State.onTsq_bnd (s : State) (f : TsqS → TsqS) : (s.onTsq f).bnd = s.bnd := rfl
@[simp] theorem State.onTsq_twn (s : State) (f : TsqS → TsqS) : (s.onTsq f).twn = s.twn := rfl
@[simp] theorem State.onTsq_svi (s : State) (f : TsqS → TsqS) : (s.onTsq f).svi = s.svi := rfl
@[simp] theorem State.onTsq_flt (s : State) (f : TsqS → TsqS) : (s.onTsq f).flt = s.flt := rfl
@[simp] theorem State.onTsq_pending (s : State) (f : TsqS → TsqS) : (s.onTsq f).pending = s.pending := rfl

@[simp] theorem State.onTim_now (s : State) (f : TimS → TimS) : (s.onTim f).now = s.now := rfl
@[simp] theorem State.onTim_tai (s : State) (f : TimS → TimS) : (s.onTim f).tai = s.tai := rfl
@[simp] theorem State.onTim_taiFrac (s : State) (f : TimS → TimS) : (s.onTim f).taiFrac = s.taiFrac := rfl
@[simp] theorem State.onTim_resid (s : State) (f : TimS → TimS) : (s.onTim f).resid = s.resid := rfl
@[simp] theorem State.onTim_regs (s : State) (f : TimS → TimS) : (s.onTim f).regs = s.regs := rfl
@[simp] theorem State.onTim_tables (s : State) (f : TimS → TimS) : (s.onTim f).tables = s.tables := rfl
@[simp] theorem State.onTim_dram (s : State) (f : TimS → TimS) : (s.onTim f).dram = s.dram := rfl
@[simp] theorem State.onTim_dramGen (s : State) (f : TimS → TimS) : (s.onTim f).dramGen = s.dramGen := rfl
@[simp] theorem State.onTim_latches (s : State) (f : TimS → TimS) : (s.onTim f).latches = s.latches := rfl
@[simp] theorem State.onTim_mbLater (s : State) (f : TimS → TimS) : (s.onTim f).mbLater = s.mbLater := rfl
@[simp] theorem State.onTim_setNow (s : State) (f : TimS → TimS) : (s.onTim f).setNow = s.setNow := rfl
@[simp] theorem State.onTim_lastRead (s : State) (f : TimS → TimS) : (s.onTim f).lastRead = s.lastRead := rfl
@[simp] theorem State.onTim_freeCount (s : State) (f : TimS → TimS) : (s.onTim f).freeCount = s.freeCount := rfl
@[simp] theorem State.onTim_evr (s : State) (f : TimS → TimS) : (s.onTim f).evr = s.evr := rfl
@[simp] theorem State.onTim_key (s : State) (f : TimS → TimS) : (s.onTim f).key = s.key := rfl
@[simp] theorem State.onTim_swc (s : State) (f : TimS → TimS) : (s.onTim f).swc = s.swc := rfl
@[simp] theorem State.onTim_mac (s : State) (f : TimS → TimS) : (s.onTim f).mac = s.mac := rfl
@[simp] theorem State.onTim_tsq (s : State) (f : TimS → TimS) : (s.onTim f).tsq = s.tsq := rfl
@[simp] theorem State.onTim_tim (s : State) (f : TimS → TimS) : (s.onTim f).tim = f s.tim := rfl
@[simp] theorem State.onTim_pub (s : State) (f : TimS → TimS) : (s.onTim f).pub = s.pub := rfl
@[simp] theorem State.onTim_fol (s : State) (f : TimS → TimS) : (s.onTim f).fol = s.fol := rfl
@[simp] theorem State.onTim_ctl (s : State) (f : TimS → TimS) : (s.onTim f).ctl = s.ctl := rfl
@[simp] theorem State.onTim_lge (s : State) (f : TimS → TimS) : (s.onTim f).lge = s.lge := rfl
@[simp] theorem State.onTim_sys (s : State) (f : TimS → TimS) : (s.onTim f).sys = s.sys := rfl
@[simp] theorem State.onTim_lcs (s : State) (f : TimS → TimS) : (s.onTim f).lcs = s.lcs := rfl
@[simp] theorem State.onTim_hka (s : State) (f : TimS → TimS) : (s.onTim f).hka = s.hka := rfl
@[simp] theorem State.onTim_gth (s : State) (f : TimS → TimS) : (s.onTim f).gth = s.gth := rfl
@[simp] theorem State.onTim_bnd (s : State) (f : TimS → TimS) : (s.onTim f).bnd = s.bnd := rfl
@[simp] theorem State.onTim_twn (s : State) (f : TimS → TimS) : (s.onTim f).twn = s.twn := rfl
@[simp] theorem State.onTim_svi (s : State) (f : TimS → TimS) : (s.onTim f).svi = s.svi := rfl
@[simp] theorem State.onTim_flt (s : State) (f : TimS → TimS) : (s.onTim f).flt = s.flt := rfl
@[simp] theorem State.onTim_pending (s : State) (f : TimS → TimS) : (s.onTim f).pending = s.pending := rfl

@[simp] theorem State.onSvi_now (s : State) (f : SviS → SviS) : (s.onSvi f).now = s.now := rfl
@[simp] theorem State.onSvi_tai (s : State) (f : SviS → SviS) : (s.onSvi f).tai = s.tai := rfl
@[simp] theorem State.onSvi_taiFrac (s : State) (f : SviS → SviS) : (s.onSvi f).taiFrac = s.taiFrac := rfl
@[simp] theorem State.onSvi_resid (s : State) (f : SviS → SviS) : (s.onSvi f).resid = s.resid := rfl
@[simp] theorem State.onSvi_regs (s : State) (f : SviS → SviS) : (s.onSvi f).regs = s.regs := rfl
@[simp] theorem State.onSvi_tables (s : State) (f : SviS → SviS) : (s.onSvi f).tables = s.tables := rfl
@[simp] theorem State.onSvi_dram (s : State) (f : SviS → SviS) : (s.onSvi f).dram = s.dram := rfl
@[simp] theorem State.onSvi_dramGen (s : State) (f : SviS → SviS) : (s.onSvi f).dramGen = s.dramGen := rfl
@[simp] theorem State.onSvi_latches (s : State) (f : SviS → SviS) : (s.onSvi f).latches = s.latches := rfl
@[simp] theorem State.onSvi_mbLater (s : State) (f : SviS → SviS) : (s.onSvi f).mbLater = s.mbLater := rfl
@[simp] theorem State.onSvi_setNow (s : State) (f : SviS → SviS) : (s.onSvi f).setNow = s.setNow := rfl
@[simp] theorem State.onSvi_lastRead (s : State) (f : SviS → SviS) : (s.onSvi f).lastRead = s.lastRead := rfl
@[simp] theorem State.onSvi_freeCount (s : State) (f : SviS → SviS) : (s.onSvi f).freeCount = s.freeCount := rfl
@[simp] theorem State.onSvi_evr (s : State) (f : SviS → SviS) : (s.onSvi f).evr = s.evr := rfl
@[simp] theorem State.onSvi_key (s : State) (f : SviS → SviS) : (s.onSvi f).key = s.key := rfl
@[simp] theorem State.onSvi_swc (s : State) (f : SviS → SviS) : (s.onSvi f).swc = s.swc := rfl
@[simp] theorem State.onSvi_mac (s : State) (f : SviS → SviS) : (s.onSvi f).mac = s.mac := rfl
@[simp] theorem State.onSvi_tsq (s : State) (f : SviS → SviS) : (s.onSvi f).tsq = s.tsq := rfl
@[simp] theorem State.onSvi_tim (s : State) (f : SviS → SviS) : (s.onSvi f).tim = s.tim := rfl
@[simp] theorem State.onSvi_pub (s : State) (f : SviS → SviS) : (s.onSvi f).pub = s.pub := rfl
@[simp] theorem State.onSvi_fol (s : State) (f : SviS → SviS) : (s.onSvi f).fol = s.fol := rfl
@[simp] theorem State.onSvi_ctl (s : State) (f : SviS → SviS) : (s.onSvi f).ctl = s.ctl := rfl
@[simp] theorem State.onSvi_lge (s : State) (f : SviS → SviS) : (s.onSvi f).lge = s.lge := rfl
@[simp] theorem State.onSvi_sys (s : State) (f : SviS → SviS) : (s.onSvi f).sys = s.sys := rfl
@[simp] theorem State.onSvi_lcs (s : State) (f : SviS → SviS) : (s.onSvi f).lcs = s.lcs := rfl
@[simp] theorem State.onSvi_hka (s : State) (f : SviS → SviS) : (s.onSvi f).hka = s.hka := rfl
@[simp] theorem State.onSvi_gth (s : State) (f : SviS → SviS) : (s.onSvi f).gth = s.gth := rfl
@[simp] theorem State.onSvi_bnd (s : State) (f : SviS → SviS) : (s.onSvi f).bnd = s.bnd := rfl
@[simp] theorem State.onSvi_twn (s : State) (f : SviS → SviS) : (s.onSvi f).twn = s.twn := rfl
@[simp] theorem State.onSvi_svi (s : State) (f : SviS → SviS) : (s.onSvi f).svi = f s.svi := rfl
@[simp] theorem State.onSvi_flt (s : State) (f : SviS → SviS) : (s.onSvi f).flt = s.flt := rfl
@[simp] theorem State.onSvi_pending (s : State) (f : SviS → SviS) : (s.onSvi f).pending = s.pending := rfl

@[simp] theorem State.onFlt_now (s : State) (f : FltS → FltS) : (s.onFlt f).now = s.now := rfl
@[simp] theorem State.onFlt_tai (s : State) (f : FltS → FltS) : (s.onFlt f).tai = s.tai := rfl
@[simp] theorem State.onFlt_taiFrac (s : State) (f : FltS → FltS) : (s.onFlt f).taiFrac = s.taiFrac := rfl
@[simp] theorem State.onFlt_resid (s : State) (f : FltS → FltS) : (s.onFlt f).resid = s.resid := rfl
@[simp] theorem State.onFlt_regs (s : State) (f : FltS → FltS) : (s.onFlt f).regs = s.regs := rfl
@[simp] theorem State.onFlt_tables (s : State) (f : FltS → FltS) : (s.onFlt f).tables = s.tables := rfl
@[simp] theorem State.onFlt_dram (s : State) (f : FltS → FltS) : (s.onFlt f).dram = s.dram := rfl
@[simp] theorem State.onFlt_dramGen (s : State) (f : FltS → FltS) : (s.onFlt f).dramGen = s.dramGen := rfl
@[simp] theorem State.onFlt_latches (s : State) (f : FltS → FltS) : (s.onFlt f).latches = s.latches := rfl
@[simp] theorem State.onFlt_mbLater (s : State) (f : FltS → FltS) : (s.onFlt f).mbLater = s.mbLater := rfl
@[simp] theorem State.onFlt_setNow (s : State) (f : FltS → FltS) : (s.onFlt f).setNow = s.setNow := rfl
@[simp] theorem State.onFlt_lastRead (s : State) (f : FltS → FltS) : (s.onFlt f).lastRead = s.lastRead := rfl
@[simp] theorem State.onFlt_freeCount (s : State) (f : FltS → FltS) : (s.onFlt f).freeCount = s.freeCount := rfl
@[simp] theorem State.onFlt_evr (s : State) (f : FltS → FltS) : (s.onFlt f).evr = s.evr := rfl
@[simp] theorem State.onFlt_key (s : State) (f : FltS → FltS) : (s.onFlt f).key = s.key := rfl
@[simp] theorem State.onFlt_swc (s : State) (f : FltS → FltS) : (s.onFlt f).swc = s.swc := rfl
@[simp] theorem State.onFlt_mac (s : State) (f : FltS → FltS) : (s.onFlt f).mac = s.mac := rfl
@[simp] theorem State.onFlt_tsq (s : State) (f : FltS → FltS) : (s.onFlt f).tsq = s.tsq := rfl
@[simp] theorem State.onFlt_tim (s : State) (f : FltS → FltS) : (s.onFlt f).tim = s.tim := rfl
@[simp] theorem State.onFlt_pub (s : State) (f : FltS → FltS) : (s.onFlt f).pub = s.pub := rfl
@[simp] theorem State.onFlt_fol (s : State) (f : FltS → FltS) : (s.onFlt f).fol = s.fol := rfl
@[simp] theorem State.onFlt_ctl (s : State) (f : FltS → FltS) : (s.onFlt f).ctl = s.ctl := rfl
@[simp] theorem State.onFlt_lge (s : State) (f : FltS → FltS) : (s.onFlt f).lge = s.lge := rfl
@[simp] theorem State.onFlt_sys (s : State) (f : FltS → FltS) : (s.onFlt f).sys = s.sys := rfl
@[simp] theorem State.onFlt_lcs (s : State) (f : FltS → FltS) : (s.onFlt f).lcs = s.lcs := rfl
@[simp] theorem State.onFlt_hka (s : State) (f : FltS → FltS) : (s.onFlt f).hka = s.hka := rfl
@[simp] theorem State.onFlt_gth (s : State) (f : FltS → FltS) : (s.onFlt f).gth = s.gth := rfl
@[simp] theorem State.onFlt_bnd (s : State) (f : FltS → FltS) : (s.onFlt f).bnd = s.bnd := rfl
@[simp] theorem State.onFlt_twn (s : State) (f : FltS → FltS) : (s.onFlt f).twn = s.twn := rfl
@[simp] theorem State.onFlt_svi (s : State) (f : FltS → FltS) : (s.onFlt f).svi = s.svi := rfl
@[simp] theorem State.onFlt_flt (s : State) (f : FltS → FltS) : (s.onFlt f).flt = f s.flt := rfl
@[simp] theorem State.onFlt_pending (s : State) (f : FltS → FltS) : (s.onFlt f).pending = s.pending := rfl

@[simp] theorem State.onPub_now (s : State) (f : PubS → PubS) : (s.onPub f).now = s.now := rfl
@[simp] theorem State.onPub_tai (s : State) (f : PubS → PubS) : (s.onPub f).tai = s.tai := rfl
@[simp] theorem State.onPub_taiFrac (s : State) (f : PubS → PubS) : (s.onPub f).taiFrac = s.taiFrac := rfl
@[simp] theorem State.onPub_resid (s : State) (f : PubS → PubS) : (s.onPub f).resid = s.resid := rfl
@[simp] theorem State.onPub_regs (s : State) (f : PubS → PubS) : (s.onPub f).regs = s.regs := rfl
@[simp] theorem State.onPub_tables (s : State) (f : PubS → PubS) : (s.onPub f).tables = s.tables := rfl
@[simp] theorem State.onPub_dram (s : State) (f : PubS → PubS) : (s.onPub f).dram = s.dram := rfl
@[simp] theorem State.onPub_dramGen (s : State) (f : PubS → PubS) : (s.onPub f).dramGen = s.dramGen := rfl
@[simp] theorem State.onPub_latches (s : State) (f : PubS → PubS) : (s.onPub f).latches = s.latches := rfl
@[simp] theorem State.onPub_mbLater (s : State) (f : PubS → PubS) : (s.onPub f).mbLater = s.mbLater := rfl
@[simp] theorem State.onPub_setNow (s : State) (f : PubS → PubS) : (s.onPub f).setNow = s.setNow := rfl
@[simp] theorem State.onPub_lastRead (s : State) (f : PubS → PubS) : (s.onPub f).lastRead = s.lastRead := rfl
@[simp] theorem State.onPub_freeCount (s : State) (f : PubS → PubS) : (s.onPub f).freeCount = s.freeCount := rfl
@[simp] theorem State.onPub_evr (s : State) (f : PubS → PubS) : (s.onPub f).evr = s.evr := rfl
@[simp] theorem State.onPub_key (s : State) (f : PubS → PubS) : (s.onPub f).key = s.key := rfl
@[simp] theorem State.onPub_swc (s : State) (f : PubS → PubS) : (s.onPub f).swc = s.swc := rfl
@[simp] theorem State.onPub_mac (s : State) (f : PubS → PubS) : (s.onPub f).mac = s.mac := rfl
@[simp] theorem State.onPub_tsq (s : State) (f : PubS → PubS) : (s.onPub f).tsq = s.tsq := rfl
@[simp] theorem State.onPub_tim (s : State) (f : PubS → PubS) : (s.onPub f).tim = s.tim := rfl
@[simp] theorem State.onPub_pub (s : State) (f : PubS → PubS) : (s.onPub f).pub = f s.pub := rfl
@[simp] theorem State.onPub_fol (s : State) (f : PubS → PubS) : (s.onPub f).fol = s.fol := rfl
@[simp] theorem State.onPub_ctl (s : State) (f : PubS → PubS) : (s.onPub f).ctl = s.ctl := rfl
@[simp] theorem State.onPub_lge (s : State) (f : PubS → PubS) : (s.onPub f).lge = s.lge := rfl
@[simp] theorem State.onPub_sys (s : State) (f : PubS → PubS) : (s.onPub f).sys = s.sys := rfl
@[simp] theorem State.onPub_lcs (s : State) (f : PubS → PubS) : (s.onPub f).lcs = s.lcs := rfl
@[simp] theorem State.onPub_hka (s : State) (f : PubS → PubS) : (s.onPub f).hka = s.hka := rfl
@[simp] theorem State.onPub_gth (s : State) (f : PubS → PubS) : (s.onPub f).gth = s.gth := rfl
@[simp] theorem State.onPub_bnd (s : State) (f : PubS → PubS) : (s.onPub f).bnd = s.bnd := rfl
@[simp] theorem State.onPub_twn (s : State) (f : PubS → PubS) : (s.onPub f).twn = s.twn := rfl
@[simp] theorem State.onPub_svi (s : State) (f : PubS → PubS) : (s.onPub f).svi = s.svi := rfl
@[simp] theorem State.onPub_flt (s : State) (f : PubS → PubS) : (s.onPub f).flt = s.flt := rfl
@[simp] theorem State.onPub_pending (s : State) (f : PubS → PubS) : (s.onPub f).pending = s.pending := rfl

@[simp] theorem State.onFol_now (s : State) (f : FolS → FolS) : (s.onFol f).now = s.now := rfl
@[simp] theorem State.onFol_tai (s : State) (f : FolS → FolS) : (s.onFol f).tai = s.tai := rfl
@[simp] theorem State.onFol_taiFrac (s : State) (f : FolS → FolS) : (s.onFol f).taiFrac = s.taiFrac := rfl
@[simp] theorem State.onFol_resid (s : State) (f : FolS → FolS) : (s.onFol f).resid = s.resid := rfl
@[simp] theorem State.onFol_regs (s : State) (f : FolS → FolS) : (s.onFol f).regs = s.regs := rfl
@[simp] theorem State.onFol_tables (s : State) (f : FolS → FolS) : (s.onFol f).tables = s.tables := rfl
@[simp] theorem State.onFol_dram (s : State) (f : FolS → FolS) : (s.onFol f).dram = s.dram := rfl
@[simp] theorem State.onFol_dramGen (s : State) (f : FolS → FolS) : (s.onFol f).dramGen = s.dramGen := rfl
@[simp] theorem State.onFol_latches (s : State) (f : FolS → FolS) : (s.onFol f).latches = s.latches := rfl
@[simp] theorem State.onFol_mbLater (s : State) (f : FolS → FolS) : (s.onFol f).mbLater = s.mbLater := rfl
@[simp] theorem State.onFol_setNow (s : State) (f : FolS → FolS) : (s.onFol f).setNow = s.setNow := rfl
@[simp] theorem State.onFol_lastRead (s : State) (f : FolS → FolS) : (s.onFol f).lastRead = s.lastRead := rfl
@[simp] theorem State.onFol_freeCount (s : State) (f : FolS → FolS) : (s.onFol f).freeCount = s.freeCount := rfl
@[simp] theorem State.onFol_evr (s : State) (f : FolS → FolS) : (s.onFol f).evr = s.evr := rfl
@[simp] theorem State.onFol_key (s : State) (f : FolS → FolS) : (s.onFol f).key = s.key := rfl
@[simp] theorem State.onFol_swc (s : State) (f : FolS → FolS) : (s.onFol f).swc = s.swc := rfl
@[simp] theorem State.onFol_mac (s : State) (f : FolS → FolS) : (s.onFol f).mac = s.mac := rfl
@[simp] theorem State.onFol_tsq (s : State) (f : FolS → FolS) : (s.onFol f).tsq = s.tsq := rfl
@[simp] theorem State.onFol_tim (s : State) (f : FolS → FolS) : (s.onFol f).tim = s.tim := rfl
@[simp] theorem State.onFol_pub (s : State) (f : FolS → FolS) : (s.onFol f).pub = s.pub := rfl
@[simp] theorem State.onFol_fol (s : State) (f : FolS → FolS) : (s.onFol f).fol = f s.fol := rfl
@[simp] theorem State.onFol_ctl (s : State) (f : FolS → FolS) : (s.onFol f).ctl = s.ctl := rfl
@[simp] theorem State.onFol_lge (s : State) (f : FolS → FolS) : (s.onFol f).lge = s.lge := rfl
@[simp] theorem State.onFol_sys (s : State) (f : FolS → FolS) : (s.onFol f).sys = s.sys := rfl
@[simp] theorem State.onFol_lcs (s : State) (f : FolS → FolS) : (s.onFol f).lcs = s.lcs := rfl
@[simp] theorem State.onFol_hka (s : State) (f : FolS → FolS) : (s.onFol f).hka = s.hka := rfl
@[simp] theorem State.onFol_gth (s : State) (f : FolS → FolS) : (s.onFol f).gth = s.gth := rfl
@[simp] theorem State.onFol_bnd (s : State) (f : FolS → FolS) : (s.onFol f).bnd = s.bnd := rfl
@[simp] theorem State.onFol_twn (s : State) (f : FolS → FolS) : (s.onFol f).twn = s.twn := rfl
@[simp] theorem State.onFol_svi (s : State) (f : FolS → FolS) : (s.onFol f).svi = s.svi := rfl
@[simp] theorem State.onFol_flt (s : State) (f : FolS → FolS) : (s.onFol f).flt = s.flt := rfl
@[simp] theorem State.onFol_pending (s : State) (f : FolS → FolS) : (s.onFol f).pending = s.pending := rfl

@[simp] theorem State.onCtl_now (s : State) (f : CtlS → CtlS) : (s.onCtl f).now = s.now := rfl
@[simp] theorem State.onCtl_tai (s : State) (f : CtlS → CtlS) : (s.onCtl f).tai = s.tai := rfl
@[simp] theorem State.onCtl_taiFrac (s : State) (f : CtlS → CtlS) : (s.onCtl f).taiFrac = s.taiFrac := rfl
@[simp] theorem State.onCtl_resid (s : State) (f : CtlS → CtlS) : (s.onCtl f).resid = s.resid := rfl
@[simp] theorem State.onCtl_regs (s : State) (f : CtlS → CtlS) : (s.onCtl f).regs = s.regs := rfl
@[simp] theorem State.onCtl_tables (s : State) (f : CtlS → CtlS) : (s.onCtl f).tables = s.tables := rfl
@[simp] theorem State.onCtl_dram (s : State) (f : CtlS → CtlS) : (s.onCtl f).dram = s.dram := rfl
@[simp] theorem State.onCtl_dramGen (s : State) (f : CtlS → CtlS) : (s.onCtl f).dramGen = s.dramGen := rfl
@[simp] theorem State.onCtl_latches (s : State) (f : CtlS → CtlS) : (s.onCtl f).latches = s.latches := rfl
@[simp] theorem State.onCtl_mbLater (s : State) (f : CtlS → CtlS) : (s.onCtl f).mbLater = s.mbLater := rfl
@[simp] theorem State.onCtl_setNow (s : State) (f : CtlS → CtlS) : (s.onCtl f).setNow = s.setNow := rfl
@[simp] theorem State.onCtl_lastRead (s : State) (f : CtlS → CtlS) : (s.onCtl f).lastRead = s.lastRead := rfl
@[simp] theorem State.onCtl_freeCount (s : State) (f : CtlS → CtlS) : (s.onCtl f).freeCount = s.freeCount := rfl
@[simp] theorem State.onCtl_evr (s : State) (f : CtlS → CtlS) : (s.onCtl f).evr = s.evr := rfl
@[simp] theorem State.onCtl_key (s : State) (f : CtlS → CtlS) : (s.onCtl f).key = s.key := rfl
@[simp] theorem State.onCtl_swc (s : State) (f : CtlS → CtlS) : (s.onCtl f).swc = s.swc := rfl
@[simp] theorem State.onCtl_mac (s : State) (f : CtlS → CtlS) : (s.onCtl f).mac = s.mac := rfl
@[simp] theorem State.onCtl_tsq (s : State) (f : CtlS → CtlS) : (s.onCtl f).tsq = s.tsq := rfl
@[simp] theorem State.onCtl_tim (s : State) (f : CtlS → CtlS) : (s.onCtl f).tim = s.tim := rfl
@[simp] theorem State.onCtl_pub (s : State) (f : CtlS → CtlS) : (s.onCtl f).pub = s.pub := rfl
@[simp] theorem State.onCtl_fol (s : State) (f : CtlS → CtlS) : (s.onCtl f).fol = s.fol := rfl
@[simp] theorem State.onCtl_ctl (s : State) (f : CtlS → CtlS) : (s.onCtl f).ctl = f s.ctl := rfl
@[simp] theorem State.onCtl_lge (s : State) (f : CtlS → CtlS) : (s.onCtl f).lge = s.lge := rfl
@[simp] theorem State.onCtl_sys (s : State) (f : CtlS → CtlS) : (s.onCtl f).sys = s.sys := rfl
@[simp] theorem State.onCtl_lcs (s : State) (f : CtlS → CtlS) : (s.onCtl f).lcs = s.lcs := rfl
@[simp] theorem State.onCtl_hka (s : State) (f : CtlS → CtlS) : (s.onCtl f).hka = s.hka := rfl
@[simp] theorem State.onCtl_gth (s : State) (f : CtlS → CtlS) : (s.onCtl f).gth = s.gth := rfl
@[simp] theorem State.onCtl_bnd (s : State) (f : CtlS → CtlS) : (s.onCtl f).bnd = s.bnd := rfl
@[simp] theorem State.onCtl_twn (s : State) (f : CtlS → CtlS) : (s.onCtl f).twn = s.twn := rfl
@[simp] theorem State.onCtl_svi (s : State) (f : CtlS → CtlS) : (s.onCtl f).svi = s.svi := rfl
@[simp] theorem State.onCtl_flt (s : State) (f : CtlS → CtlS) : (s.onCtl f).flt = s.flt := rfl
@[simp] theorem State.onCtl_pending (s : State) (f : CtlS → CtlS) : (s.onCtl f).pending = s.pending := rfl

@[simp] theorem State.onSys_now (s : State) (f : SysS → SysS) : (s.onSys f).now = s.now := rfl
@[simp] theorem State.onSys_tai (s : State) (f : SysS → SysS) : (s.onSys f).tai = s.tai := rfl
@[simp] theorem State.onSys_taiFrac (s : State) (f : SysS → SysS) : (s.onSys f).taiFrac = s.taiFrac := rfl
@[simp] theorem State.onSys_resid (s : State) (f : SysS → SysS) : (s.onSys f).resid = s.resid := rfl
@[simp] theorem State.onSys_regs (s : State) (f : SysS → SysS) : (s.onSys f).regs = s.regs := rfl
@[simp] theorem State.onSys_tables (s : State) (f : SysS → SysS) : (s.onSys f).tables = s.tables := rfl
@[simp] theorem State.onSys_dram (s : State) (f : SysS → SysS) : (s.onSys f).dram = s.dram := rfl
@[simp] theorem State.onSys_dramGen (s : State) (f : SysS → SysS) : (s.onSys f).dramGen = s.dramGen := rfl
@[simp] theorem State.onSys_latches (s : State) (f : SysS → SysS) : (s.onSys f).latches = s.latches := rfl
@[simp] theorem State.onSys_mbLater (s : State) (f : SysS → SysS) : (s.onSys f).mbLater = s.mbLater := rfl
@[simp] theorem State.onSys_setNow (s : State) (f : SysS → SysS) : (s.onSys f).setNow = s.setNow := rfl
@[simp] theorem State.onSys_lastRead (s : State) (f : SysS → SysS) : (s.onSys f).lastRead = s.lastRead := rfl
@[simp] theorem State.onSys_freeCount (s : State) (f : SysS → SysS) : (s.onSys f).freeCount = s.freeCount := rfl
@[simp] theorem State.onSys_evr (s : State) (f : SysS → SysS) : (s.onSys f).evr = s.evr := rfl
@[simp] theorem State.onSys_key (s : State) (f : SysS → SysS) : (s.onSys f).key = s.key := rfl
@[simp] theorem State.onSys_swc (s : State) (f : SysS → SysS) : (s.onSys f).swc = s.swc := rfl
@[simp] theorem State.onSys_mac (s : State) (f : SysS → SysS) : (s.onSys f).mac = s.mac := rfl
@[simp] theorem State.onSys_tsq (s : State) (f : SysS → SysS) : (s.onSys f).tsq = s.tsq := rfl
@[simp] theorem State.onSys_tim (s : State) (f : SysS → SysS) : (s.onSys f).tim = s.tim := rfl
@[simp] theorem State.onSys_pub (s : State) (f : SysS → SysS) : (s.onSys f).pub = s.pub := rfl
@[simp] theorem State.onSys_fol (s : State) (f : SysS → SysS) : (s.onSys f).fol = s.fol := rfl
@[simp] theorem State.onSys_ctl (s : State) (f : SysS → SysS) : (s.onSys f).ctl = s.ctl := rfl
@[simp] theorem State.onSys_lge (s : State) (f : SysS → SysS) : (s.onSys f).lge = s.lge := rfl
@[simp] theorem State.onSys_sys (s : State) (f : SysS → SysS) : (s.onSys f).sys = f s.sys := rfl
@[simp] theorem State.onSys_lcs (s : State) (f : SysS → SysS) : (s.onSys f).lcs = s.lcs := rfl
@[simp] theorem State.onSys_hka (s : State) (f : SysS → SysS) : (s.onSys f).hka = s.hka := rfl
@[simp] theorem State.onSys_gth (s : State) (f : SysS → SysS) : (s.onSys f).gth = s.gth := rfl
@[simp] theorem State.onSys_bnd (s : State) (f : SysS → SysS) : (s.onSys f).bnd = s.bnd := rfl
@[simp] theorem State.onSys_twn (s : State) (f : SysS → SysS) : (s.onSys f).twn = s.twn := rfl
@[simp] theorem State.onSys_svi (s : State) (f : SysS → SysS) : (s.onSys f).svi = s.svi := rfl
@[simp] theorem State.onSys_flt (s : State) (f : SysS → SysS) : (s.onSys f).flt = s.flt := rfl
@[simp] theorem State.onSys_pending (s : State) (f : SysS → SysS) : (s.onSys f).pending = s.pending := rfl

@[simp] theorem State.onHka_now (s : State) (f : HkaS → HkaS) : (s.onHka f).now = s.now := rfl
@[simp] theorem State.onHka_tai (s : State) (f : HkaS → HkaS) : (s.onHka f).tai = s.tai := rfl
@[simp] theorem State.onHka_taiFrac (s : State) (f : HkaS → HkaS) : (s.onHka f).taiFrac = s.taiFrac := rfl
@[simp] theorem State.onHka_resid (s : State) (f : HkaS → HkaS) : (s.onHka f).resid = s.resid := rfl
@[simp] theorem State.onHka_regs (s : State) (f : HkaS → HkaS) : (s.onHka f).regs = s.regs := rfl
@[simp] theorem State.onHka_tables (s : State) (f : HkaS → HkaS) : (s.onHka f).tables = s.tables := rfl
@[simp] theorem State.onHka_dram (s : State) (f : HkaS → HkaS) : (s.onHka f).dram = s.dram := rfl
@[simp] theorem State.onHka_dramGen (s : State) (f : HkaS → HkaS) : (s.onHka f).dramGen = s.dramGen := rfl
@[simp] theorem State.onHka_latches (s : State) (f : HkaS → HkaS) : (s.onHka f).latches = s.latches := rfl
@[simp] theorem State.onHka_mbLater (s : State) (f : HkaS → HkaS) : (s.onHka f).mbLater = s.mbLater := rfl
@[simp] theorem State.onHka_setNow (s : State) (f : HkaS → HkaS) : (s.onHka f).setNow = s.setNow := rfl
@[simp] theorem State.onHka_lastRead (s : State) (f : HkaS → HkaS) : (s.onHka f).lastRead = s.lastRead := rfl
@[simp] theorem State.onHka_freeCount (s : State) (f : HkaS → HkaS) : (s.onHka f).freeCount = s.freeCount := rfl
@[simp] theorem State.onHka_evr (s : State) (f : HkaS → HkaS) : (s.onHka f).evr = s.evr := rfl
@[simp] theorem State.onHka_key (s : State) (f : HkaS → HkaS) : (s.onHka f).key = s.key := rfl
@[simp] theorem State.onHka_swc (s : State) (f : HkaS → HkaS) : (s.onHka f).swc = s.swc := rfl
@[simp] theorem State.onHka_mac (s : State) (f : HkaS → HkaS) : (s.onHka f).mac = s.mac := rfl
@[simp] theorem State.onHka_tsq (s : State) (f : HkaS → HkaS) : (s.onHka f).tsq = s.tsq := rfl
@[simp] theorem State.onHka_tim (s : State) (f : HkaS → HkaS) : (s.onHka f).tim = s.tim := rfl
@[simp] theorem State.onHka_pub (s : State) (f : HkaS → HkaS) : (s.onHka f).pub = s.pub := rfl
@[simp] theorem State.onHka_fol (s : State) (f : HkaS → HkaS) : (s.onHka f).fol = s.fol := rfl
@[simp] theorem State.onHka_ctl (s : State) (f : HkaS → HkaS) : (s.onHka f).ctl = s.ctl := rfl
@[simp] theorem State.onHka_lge (s : State) (f : HkaS → HkaS) : (s.onHka f).lge = s.lge := rfl
@[simp] theorem State.onHka_sys (s : State) (f : HkaS → HkaS) : (s.onHka f).sys = s.sys := rfl
@[simp] theorem State.onHka_lcs (s : State) (f : HkaS → HkaS) : (s.onHka f).lcs = s.lcs := rfl
@[simp] theorem State.onHka_hka (s : State) (f : HkaS → HkaS) : (s.onHka f).hka = f s.hka := rfl
@[simp] theorem State.onHka_gth (s : State) (f : HkaS → HkaS) : (s.onHka f).gth = s.gth := rfl
@[simp] theorem State.onHka_bnd (s : State) (f : HkaS → HkaS) : (s.onHka f).bnd = s.bnd := rfl
@[simp] theorem State.onHka_twn (s : State) (f : HkaS → HkaS) : (s.onHka f).twn = s.twn := rfl
@[simp] theorem State.onHka_svi (s : State) (f : HkaS → HkaS) : (s.onHka f).svi = s.svi := rfl
@[simp] theorem State.onHka_flt (s : State) (f : HkaS → HkaS) : (s.onHka f).flt = s.flt := rfl
@[simp] theorem State.onHka_pending (s : State) (f : HkaS → HkaS) : (s.onHka f).pending = s.pending := rfl

@[simp] theorem State.onLcs_now (s : State) (f : LcsS → LcsS) : (s.onLcs f).now = s.now := rfl
@[simp] theorem State.onLcs_tai (s : State) (f : LcsS → LcsS) : (s.onLcs f).tai = s.tai := rfl
@[simp] theorem State.onLcs_taiFrac (s : State) (f : LcsS → LcsS) : (s.onLcs f).taiFrac = s.taiFrac := rfl
@[simp] theorem State.onLcs_resid (s : State) (f : LcsS → LcsS) : (s.onLcs f).resid = s.resid := rfl
@[simp] theorem State.onLcs_regs (s : State) (f : LcsS → LcsS) : (s.onLcs f).regs = s.regs := rfl
@[simp] theorem State.onLcs_tables (s : State) (f : LcsS → LcsS) : (s.onLcs f).tables = s.tables := rfl
@[simp] theorem State.onLcs_dram (s : State) (f : LcsS → LcsS) : (s.onLcs f).dram = s.dram := rfl
@[simp] theorem State.onLcs_dramGen (s : State) (f : LcsS → LcsS) : (s.onLcs f).dramGen = s.dramGen := rfl
@[simp] theorem State.onLcs_latches (s : State) (f : LcsS → LcsS) : (s.onLcs f).latches = s.latches := rfl
@[simp] theorem State.onLcs_mbLater (s : State) (f : LcsS → LcsS) : (s.onLcs f).mbLater = s.mbLater := rfl
@[simp] theorem State.onLcs_setNow (s : State) (f : LcsS → LcsS) : (s.onLcs f).setNow = s.setNow := rfl
@[simp] theorem State.onLcs_lastRead (s : State) (f : LcsS → LcsS) : (s.onLcs f).lastRead = s.lastRead := rfl
@[simp] theorem State.onLcs_freeCount (s : State) (f : LcsS → LcsS) : (s.onLcs f).freeCount = s.freeCount := rfl
@[simp] theorem State.onLcs_evr (s : State) (f : LcsS → LcsS) : (s.onLcs f).evr = s.evr := rfl
@[simp] theorem State.onLcs_key (s : State) (f : LcsS → LcsS) : (s.onLcs f).key = s.key := rfl
@[simp] theorem State.onLcs_swc (s : State) (f : LcsS → LcsS) : (s.onLcs f).swc = s.swc := rfl
@[simp] theorem State.onLcs_mac (s : State) (f : LcsS → LcsS) : (s.onLcs f).mac = s.mac := rfl
@[simp] theorem State.onLcs_tsq (s : State) (f : LcsS → LcsS) : (s.onLcs f).tsq = s.tsq := rfl
@[simp] theorem State.onLcs_tim (s : State) (f : LcsS → LcsS) : (s.onLcs f).tim = s.tim := rfl
@[simp] theorem State.onLcs_pub (s : State) (f : LcsS → LcsS) : (s.onLcs f).pub = s.pub := rfl
@[simp] theorem State.onLcs_fol (s : State) (f : LcsS → LcsS) : (s.onLcs f).fol = s.fol := rfl
@[simp] theorem State.onLcs_ctl (s : State) (f : LcsS → LcsS) : (s.onLcs f).ctl = s.ctl := rfl
@[simp] theorem State.onLcs_lge (s : State) (f : LcsS → LcsS) : (s.onLcs f).lge = s.lge := rfl
@[simp] theorem State.onLcs_sys (s : State) (f : LcsS → LcsS) : (s.onLcs f).sys = s.sys := rfl
@[simp] theorem State.onLcs_lcs (s : State) (f : LcsS → LcsS) : (s.onLcs f).lcs = f s.lcs := rfl
@[simp] theorem State.onLcs_hka (s : State) (f : LcsS → LcsS) : (s.onLcs f).hka = s.hka := rfl
@[simp] theorem State.onLcs_gth (s : State) (f : LcsS → LcsS) : (s.onLcs f).gth = s.gth := rfl
@[simp] theorem State.onLcs_bnd (s : State) (f : LcsS → LcsS) : (s.onLcs f).bnd = s.bnd := rfl
@[simp] theorem State.onLcs_twn (s : State) (f : LcsS → LcsS) : (s.onLcs f).twn = s.twn := rfl
@[simp] theorem State.onLcs_svi (s : State) (f : LcsS → LcsS) : (s.onLcs f).svi = s.svi := rfl
@[simp] theorem State.onLcs_flt (s : State) (f : LcsS → LcsS) : (s.onLcs f).flt = s.flt := rfl
@[simp] theorem State.onLcs_pending (s : State) (f : LcsS → LcsS) : (s.onLcs f).pending = s.pending := rfl

@[simp] theorem State.onGth_now (s : State) (f : GthS → GthS) : (s.onGth f).now = s.now := rfl
@[simp] theorem State.onGth_tai (s : State) (f : GthS → GthS) : (s.onGth f).tai = s.tai := rfl
@[simp] theorem State.onGth_taiFrac (s : State) (f : GthS → GthS) : (s.onGth f).taiFrac = s.taiFrac := rfl
@[simp] theorem State.onGth_resid (s : State) (f : GthS → GthS) : (s.onGth f).resid = s.resid := rfl
@[simp] theorem State.onGth_regs (s : State) (f : GthS → GthS) : (s.onGth f).regs = s.regs := rfl
@[simp] theorem State.onGth_tables (s : State) (f : GthS → GthS) : (s.onGth f).tables = s.tables := rfl
@[simp] theorem State.onGth_dram (s : State) (f : GthS → GthS) : (s.onGth f).dram = s.dram := rfl
@[simp] theorem State.onGth_dramGen (s : State) (f : GthS → GthS) : (s.onGth f).dramGen = s.dramGen := rfl
@[simp] theorem State.onGth_latches (s : State) (f : GthS → GthS) : (s.onGth f).latches = s.latches := rfl
@[simp] theorem State.onGth_mbLater (s : State) (f : GthS → GthS) : (s.onGth f).mbLater = s.mbLater := rfl
@[simp] theorem State.onGth_setNow (s : State) (f : GthS → GthS) : (s.onGth f).setNow = s.setNow := rfl
@[simp] theorem State.onGth_lastRead (s : State) (f : GthS → GthS) : (s.onGth f).lastRead = s.lastRead := rfl
@[simp] theorem State.onGth_freeCount (s : State) (f : GthS → GthS) : (s.onGth f).freeCount = s.freeCount := rfl
@[simp] theorem State.onGth_evr (s : State) (f : GthS → GthS) : (s.onGth f).evr = s.evr := rfl
@[simp] theorem State.onGth_key (s : State) (f : GthS → GthS) : (s.onGth f).key = s.key := rfl
@[simp] theorem State.onGth_swc (s : State) (f : GthS → GthS) : (s.onGth f).swc = s.swc := rfl
@[simp] theorem State.onGth_mac (s : State) (f : GthS → GthS) : (s.onGth f).mac = s.mac := rfl
@[simp] theorem State.onGth_tsq (s : State) (f : GthS → GthS) : (s.onGth f).tsq = s.tsq := rfl
@[simp] theorem State.onGth_tim (s : State) (f : GthS → GthS) : (s.onGth f).tim = s.tim := rfl
@[simp] theorem State.onGth_pub (s : State) (f : GthS → GthS) : (s.onGth f).pub = s.pub := rfl
@[simp] theorem State.onGth_fol (s : State) (f : GthS → GthS) : (s.onGth f).fol = s.fol := rfl
@[simp] theorem State.onGth_ctl (s : State) (f : GthS → GthS) : (s.onGth f).ctl = s.ctl := rfl
@[simp] theorem State.onGth_lge (s : State) (f : GthS → GthS) : (s.onGth f).lge = s.lge := rfl
@[simp] theorem State.onGth_sys (s : State) (f : GthS → GthS) : (s.onGth f).sys = s.sys := rfl
@[simp] theorem State.onGth_lcs (s : State) (f : GthS → GthS) : (s.onGth f).lcs = s.lcs := rfl
@[simp] theorem State.onGth_hka (s : State) (f : GthS → GthS) : (s.onGth f).hka = s.hka := rfl
@[simp] theorem State.onGth_gth (s : State) (f : GthS → GthS) : (s.onGth f).gth = f s.gth := rfl
@[simp] theorem State.onGth_bnd (s : State) (f : GthS → GthS) : (s.onGth f).bnd = s.bnd := rfl
@[simp] theorem State.onGth_twn (s : State) (f : GthS → GthS) : (s.onGth f).twn = s.twn := rfl
@[simp] theorem State.onGth_svi (s : State) (f : GthS → GthS) : (s.onGth f).svi = s.svi := rfl
@[simp] theorem State.onGth_flt (s : State) (f : GthS → GthS) : (s.onGth f).flt = s.flt := rfl
@[simp] theorem State.onGth_pending (s : State) (f : GthS → GthS) : (s.onGth f).pending = s.pending := rfl

@[simp] theorem State.onBnd_now (s : State) (f : BndS → BndS) : (s.onBnd f).now = s.now := rfl
@[simp] theorem State.onBnd_tai (s : State) (f : BndS → BndS) : (s.onBnd f).tai = s.tai := rfl
@[simp] theorem State.onBnd_taiFrac (s : State) (f : BndS → BndS) : (s.onBnd f).taiFrac = s.taiFrac := rfl
@[simp] theorem State.onBnd_resid (s : State) (f : BndS → BndS) : (s.onBnd f).resid = s.resid := rfl
@[simp] theorem State.onBnd_regs (s : State) (f : BndS → BndS) : (s.onBnd f).regs = s.regs := rfl
@[simp] theorem State.onBnd_tables (s : State) (f : BndS → BndS) : (s.onBnd f).tables = s.tables := rfl
@[simp] theorem State.onBnd_dram (s : State) (f : BndS → BndS) : (s.onBnd f).dram = s.dram := rfl
@[simp] theorem State.onBnd_dramGen (s : State) (f : BndS → BndS) : (s.onBnd f).dramGen = s.dramGen := rfl
@[simp] theorem State.onBnd_latches (s : State) (f : BndS → BndS) : (s.onBnd f).latches = s.latches := rfl
@[simp] theorem State.onBnd_mbLater (s : State) (f : BndS → BndS) : (s.onBnd f).mbLater = s.mbLater := rfl
@[simp] theorem State.onBnd_setNow (s : State) (f : BndS → BndS) : (s.onBnd f).setNow = s.setNow := rfl
@[simp] theorem State.onBnd_lastRead (s : State) (f : BndS → BndS) : (s.onBnd f).lastRead = s.lastRead := rfl
@[simp] theorem State.onBnd_freeCount (s : State) (f : BndS → BndS) : (s.onBnd f).freeCount = s.freeCount := rfl
@[simp] theorem State.onBnd_evr (s : State) (f : BndS → BndS) : (s.onBnd f).evr = s.evr := rfl
@[simp] theorem State.onBnd_key (s : State) (f : BndS → BndS) : (s.onBnd f).key = s.key := rfl
@[simp] theorem State.onBnd_swc (s : State) (f : BndS → BndS) : (s.onBnd f).swc = s.swc := rfl
@[simp] theorem State.onBnd_mac (s : State) (f : BndS → BndS) : (s.onBnd f).mac = s.mac := rfl
@[simp] theorem State.onBnd_tsq (s : State) (f : BndS → BndS) : (s.onBnd f).tsq = s.tsq := rfl
@[simp] theorem State.onBnd_tim (s : State) (f : BndS → BndS) : (s.onBnd f).tim = s.tim := rfl
@[simp] theorem State.onBnd_pub (s : State) (f : BndS → BndS) : (s.onBnd f).pub = s.pub := rfl
@[simp] theorem State.onBnd_fol (s : State) (f : BndS → BndS) : (s.onBnd f).fol = s.fol := rfl
@[simp] theorem State.onBnd_ctl (s : State) (f : BndS → BndS) : (s.onBnd f).ctl = s.ctl := rfl
@[simp] theorem State.onBnd_lge (s : State) (f : BndS → BndS) : (s.onBnd f).lge = s.lge := rfl
@[simp] theorem State.onBnd_sys (s : State) (f : BndS → BndS) : (s.onBnd f).sys = s.sys := rfl
@[simp] theorem State.onBnd_lcs (s : State) (f : BndS → BndS) : (s.onBnd f).lcs = s.lcs := rfl
@[simp] theorem State.onBnd_hka (s : State) (f : BndS → BndS) : (s.onBnd f).hka = s.hka := rfl
@[simp] theorem State.onBnd_gth (s : State) (f : BndS → BndS) : (s.onBnd f).gth = s.gth := rfl
@[simp] theorem State.onBnd_bnd (s : State) (f : BndS → BndS) : (s.onBnd f).bnd = f s.bnd := rfl
@[simp] theorem State.onBnd_twn (s : State) (f : BndS → BndS) : (s.onBnd f).twn = s.twn := rfl
@[simp] theorem State.onBnd_svi (s : State) (f : BndS → BndS) : (s.onBnd f).svi = s.svi := rfl
@[simp] theorem State.onBnd_flt (s : State) (f : BndS → BndS) : (s.onBnd f).flt = s.flt := rfl
@[simp] theorem State.onBnd_pending (s : State) (f : BndS → BndS) : (s.onBnd f).pending = s.pending := rfl

@[simp] theorem State.onTwn_now (s : State) (f : TwnS → TwnS) : (s.onTwn f).now = s.now := rfl
@[simp] theorem State.onTwn_tai (s : State) (f : TwnS → TwnS) : (s.onTwn f).tai = s.tai := rfl
@[simp] theorem State.onTwn_taiFrac (s : State) (f : TwnS → TwnS) : (s.onTwn f).taiFrac = s.taiFrac := rfl
@[simp] theorem State.onTwn_resid (s : State) (f : TwnS → TwnS) : (s.onTwn f).resid = s.resid := rfl
@[simp] theorem State.onTwn_regs (s : State) (f : TwnS → TwnS) : (s.onTwn f).regs = s.regs := rfl
@[simp] theorem State.onTwn_tables (s : State) (f : TwnS → TwnS) : (s.onTwn f).tables = s.tables := rfl
@[simp] theorem State.onTwn_dram (s : State) (f : TwnS → TwnS) : (s.onTwn f).dram = s.dram := rfl
@[simp] theorem State.onTwn_dramGen (s : State) (f : TwnS → TwnS) : (s.onTwn f).dramGen = s.dramGen := rfl
@[simp] theorem State.onTwn_latches (s : State) (f : TwnS → TwnS) : (s.onTwn f).latches = s.latches := rfl
@[simp] theorem State.onTwn_mbLater (s : State) (f : TwnS → TwnS) : (s.onTwn f).mbLater = s.mbLater := rfl
@[simp] theorem State.onTwn_setNow (s : State) (f : TwnS → TwnS) : (s.onTwn f).setNow = s.setNow := rfl
@[simp] theorem State.onTwn_lastRead (s : State) (f : TwnS → TwnS) : (s.onTwn f).lastRead = s.lastRead := rfl
@[simp] theorem State.onTwn_freeCount (s : State) (f : TwnS → TwnS) : (s.onTwn f).freeCount = s.freeCount := rfl
@[simp] theorem State.onTwn_evr (s : State) (f : TwnS → TwnS) : (s.onTwn f).evr = s.evr := rfl
@[simp] theorem State.onTwn_key (s : State) (f : TwnS → TwnS) : (s.onTwn f).key = s.key := rfl
@[simp] theorem State.onTwn_swc (s : State) (f : TwnS → TwnS) : (s.onTwn f).swc = s.swc := rfl
@[simp] theorem State.onTwn_mac (s : State) (f : TwnS → TwnS) : (s.onTwn f).mac = s.mac := rfl
@[simp] theorem State.onTwn_tsq (s : State) (f : TwnS → TwnS) : (s.onTwn f).tsq = s.tsq := rfl
@[simp] theorem State.onTwn_tim (s : State) (f : TwnS → TwnS) : (s.onTwn f).tim = s.tim := rfl
@[simp] theorem State.onTwn_pub (s : State) (f : TwnS → TwnS) : (s.onTwn f).pub = s.pub := rfl
@[simp] theorem State.onTwn_fol (s : State) (f : TwnS → TwnS) : (s.onTwn f).fol = s.fol := rfl
@[simp] theorem State.onTwn_ctl (s : State) (f : TwnS → TwnS) : (s.onTwn f).ctl = s.ctl := rfl
@[simp] theorem State.onTwn_lge (s : State) (f : TwnS → TwnS) : (s.onTwn f).lge = s.lge := rfl
@[simp] theorem State.onTwn_sys (s : State) (f : TwnS → TwnS) : (s.onTwn f).sys = s.sys := rfl
@[simp] theorem State.onTwn_lcs (s : State) (f : TwnS → TwnS) : (s.onTwn f).lcs = s.lcs := rfl
@[simp] theorem State.onTwn_hka (s : State) (f : TwnS → TwnS) : (s.onTwn f).hka = s.hka := rfl
@[simp] theorem State.onTwn_gth (s : State) (f : TwnS → TwnS) : (s.onTwn f).gth = s.gth := rfl
@[simp] theorem State.onTwn_bnd (s : State) (f : TwnS → TwnS) : (s.onTwn f).bnd = s.bnd := rfl
@[simp] theorem State.onTwn_twn (s : State) (f : TwnS → TwnS) : (s.onTwn f).twn = f s.twn := rfl
@[simp] theorem State.onTwn_svi (s : State) (f : TwnS → TwnS) : (s.onTwn f).svi = s.svi := rfl
@[simp] theorem State.onTwn_flt (s : State) (f : TwnS → TwnS) : (s.onTwn f).flt = s.flt := rfl
@[simp] theorem State.onTwn_pending (s : State) (f : TwnS → TwnS) : (s.onTwn f).pending = s.pending := rfl

@[simp] theorem State.onLge_now (s : State) (f : LgeS → LgeS) : (s.onLge f).now = s.now := rfl
@[simp] theorem State.onLge_tai (s : State) (f : LgeS → LgeS) : (s.onLge f).tai = s.tai := rfl
@[simp] theorem State.onLge_taiFrac (s : State) (f : LgeS → LgeS) : (s.onLge f).taiFrac = s.taiFrac := rfl
@[simp] theorem State.onLge_resid (s : State) (f : LgeS → LgeS) : (s.onLge f).resid = s.resid := rfl
@[simp] theorem State.onLge_regs (s : State) (f : LgeS → LgeS) : (s.onLge f).regs = s.regs := rfl
@[simp] theorem State.onLge_tables (s : State) (f : LgeS → LgeS) : (s.onLge f).tables = s.tables := rfl
@[simp] theorem State.onLge_dram (s : State) (f : LgeS → LgeS) : (s.onLge f).dram = s.dram := rfl
@[simp] theorem State.onLge_dramGen (s : State) (f : LgeS → LgeS) : (s.onLge f).dramGen = s.dramGen := rfl
@[simp] theorem State.onLge_latches (s : State) (f : LgeS → LgeS) : (s.onLge f).latches = s.latches := rfl
@[simp] theorem State.onLge_mbLater (s : State) (f : LgeS → LgeS) : (s.onLge f).mbLater = s.mbLater := rfl
@[simp] theorem State.onLge_setNow (s : State) (f : LgeS → LgeS) : (s.onLge f).setNow = s.setNow := rfl
@[simp] theorem State.onLge_lastRead (s : State) (f : LgeS → LgeS) : (s.onLge f).lastRead = s.lastRead := rfl
@[simp] theorem State.onLge_freeCount (s : State) (f : LgeS → LgeS) : (s.onLge f).freeCount = s.freeCount := rfl
@[simp] theorem State.onLge_evr (s : State) (f : LgeS → LgeS) : (s.onLge f).evr = s.evr := rfl
@[simp] theorem State.onLge_key (s : State) (f : LgeS → LgeS) : (s.onLge f).key = s.key := rfl
@[simp] theorem State.onLge_swc (s : State) (f : LgeS → LgeS) : (s.onLge f).swc = s.swc := rfl
@[simp] theorem State.onLge_mac (s : State) (f : LgeS → LgeS) : (s.onLge f).mac = s.mac := rfl
@[simp] theorem State.onLge_tsq (s : State) (f : LgeS → LgeS) : (s.onLge f).tsq = s.tsq := rfl
@[simp] theorem State.onLge_tim (s : State) (f : LgeS → LgeS) : (s.onLge f).tim = s.tim := rfl
@[simp] theorem State.onLge_pub (s : State) (f : LgeS → LgeS) : (s.onLge f).pub = s.pub := rfl
@[simp] theorem State.onLge_fol (s : State) (f : LgeS → LgeS) : (s.onLge f).fol = s.fol := rfl
@[simp] theorem State.onLge_ctl (s : State) (f : LgeS → LgeS) : (s.onLge f).ctl = s.ctl := rfl
@[simp] theorem State.onLge_lge (s : State) (f : LgeS → LgeS) : (s.onLge f).lge = f s.lge := rfl
@[simp] theorem State.onLge_sys (s : State) (f : LgeS → LgeS) : (s.onLge f).sys = s.sys := rfl
@[simp] theorem State.onLge_lcs (s : State) (f : LgeS → LgeS) : (s.onLge f).lcs = s.lcs := rfl
@[simp] theorem State.onLge_hka (s : State) (f : LgeS → LgeS) : (s.onLge f).hka = s.hka := rfl
@[simp] theorem State.onLge_gth (s : State) (f : LgeS → LgeS) : (s.onLge f).gth = s.gth := rfl
@[simp] theorem State.onLge_bnd (s : State) (f : LgeS → LgeS) : (s.onLge f).bnd = s.bnd := rfl
@[simp] theorem State.onLge_twn (s : State) (f : LgeS → LgeS) : (s.onLge f).twn = s.twn := rfl
@[simp] theorem State.onLge_svi (s : State) (f : LgeS → LgeS) : (s.onLge f).svi = s.svi := rfl
@[simp] theorem State.onLge_flt (s : State) (f : LgeS → LgeS) : (s.onLge f).flt = s.flt := rfl
@[simp] theorem State.onLge_pending (s : State) (f : LgeS → LgeS) : (s.onLge f).pending = s.pending := rfl

/-! ## Register fields -/

@[simp] theorem State.wrK_now (s : State) (f : Fld) (i k v : Nat) : (s.wrK f i k v).now = s.now := rfl
@[simp] theorem State.wrK_tai (s : State) (f : Fld) (i k v : Nat) : (s.wrK f i k v).tai = s.tai := rfl
@[simp] theorem State.wrK_taiFrac (s : State) (f : Fld) (i k v : Nat) : (s.wrK f i k v).taiFrac = s.taiFrac := rfl
@[simp] theorem State.wrK_resid (s : State) (f : Fld) (i k v : Nat) : (s.wrK f i k v).resid = s.resid := rfl
@[simp] theorem State.wrK_regs (s : State) (f : Fld) (i k v : Nat) : (s.wrK f i k v).regs = s.regs.put (f.key i k) f.rst (v % 2 ^ f.w) := rfl
@[simp] theorem State.wrK_tables (s : State) (f : Fld) (i k v : Nat) : (s.wrK f i k v).tables = s.tables := rfl
@[simp] theorem State.wrK_dram (s : State) (f : Fld) (i k v : Nat) : (s.wrK f i k v).dram = s.dram := rfl
@[simp] theorem State.wrK_dramGen (s : State) (f : Fld) (i k v : Nat) : (s.wrK f i k v).dramGen = s.dramGen := rfl
@[simp] theorem State.wrK_latches (s : State) (f : Fld) (i k v : Nat) : (s.wrK f i k v).latches = s.latches := rfl
@[simp] theorem State.wrK_mbLater (s : State) (f : Fld) (i k v : Nat) : (s.wrK f i k v).mbLater = s.mbLater := rfl
@[simp] theorem State.wrK_setNow (s : State) (f : Fld) (i k v : Nat) : (s.wrK f i k v).setNow = s.setNow := rfl
@[simp] theorem State.wrK_lastRead (s : State) (f : Fld) (i k v : Nat) : (s.wrK f i k v).lastRead = s.lastRead := rfl
@[simp] theorem State.wrK_freeCount (s : State) (f : Fld) (i k v : Nat) : (s.wrK f i k v).freeCount = s.freeCount := rfl
@[simp] theorem State.wrK_evr (s : State) (f : Fld) (i k v : Nat) : (s.wrK f i k v).evr = s.evr := rfl
@[simp] theorem State.wrK_key (s : State) (f : Fld) (i k v : Nat) : (s.wrK f i k v).key = s.key := rfl
@[simp] theorem State.wrK_swc (s : State) (f : Fld) (i k v : Nat) : (s.wrK f i k v).swc = s.swc := rfl
@[simp] theorem State.wrK_mac (s : State) (f : Fld) (i k v : Nat) : (s.wrK f i k v).mac = s.mac := rfl
@[simp] theorem State.wrK_tsq (s : State) (f : Fld) (i k v : Nat) : (s.wrK f i k v).tsq = s.tsq := rfl
@[simp] theorem State.wrK_tim (s : State) (f : Fld) (i k v : Nat) : (s.wrK f i k v).tim = s.tim := rfl
@[simp] theorem State.wrK_pub (s : State) (f : Fld) (i k v : Nat) : (s.wrK f i k v).pub = s.pub := rfl
@[simp] theorem State.wrK_fol (s : State) (f : Fld) (i k v : Nat) : (s.wrK f i k v).fol = s.fol := rfl
@[simp] theorem State.wrK_ctl (s : State) (f : Fld) (i k v : Nat) : (s.wrK f i k v).ctl = s.ctl := rfl
@[simp] theorem State.wrK_lge (s : State) (f : Fld) (i k v : Nat) : (s.wrK f i k v).lge = s.lge := rfl
@[simp] theorem State.wrK_sys (s : State) (f : Fld) (i k v : Nat) : (s.wrK f i k v).sys = s.sys := rfl
@[simp] theorem State.wrK_lcs (s : State) (f : Fld) (i k v : Nat) : (s.wrK f i k v).lcs = s.lcs := rfl
@[simp] theorem State.wrK_hka (s : State) (f : Fld) (i k v : Nat) : (s.wrK f i k v).hka = s.hka := rfl
@[simp] theorem State.wrK_gth (s : State) (f : Fld) (i k v : Nat) : (s.wrK f i k v).gth = s.gth := rfl
@[simp] theorem State.wrK_bnd (s : State) (f : Fld) (i k v : Nat) : (s.wrK f i k v).bnd = s.bnd := rfl
@[simp] theorem State.wrK_twn (s : State) (f : Fld) (i k v : Nat) : (s.wrK f i k v).twn = s.twn := rfl
@[simp] theorem State.wrK_svi (s : State) (f : Fld) (i k v : Nat) : (s.wrK f i k v).svi = s.svi := rfl
@[simp] theorem State.wrK_flt (s : State) (f : Fld) (i k v : Nat) : (s.wrK f i k v).flt = s.flt := rfl
@[simp] theorem State.wrK_pending (s : State) (f : Fld) (i k v : Nat) : (s.wrK f i k v).pending = s.pending := rfl

/-! ## A field that exists once -/

@[simp] theorem State.wr_now (s : State) (f : Fld) (v : Nat) : (s.wr f v).now = s.now := rfl
@[simp] theorem State.wr_tai (s : State) (f : Fld) (v : Nat) : (s.wr f v).tai = s.tai := rfl
@[simp] theorem State.wr_taiFrac (s : State) (f : Fld) (v : Nat) : (s.wr f v).taiFrac = s.taiFrac := rfl
@[simp] theorem State.wr_resid (s : State) (f : Fld) (v : Nat) : (s.wr f v).resid = s.resid := rfl
@[simp] theorem State.wr_regs (s : State) (f : Fld) (v : Nat) : (s.wr f v).regs = s.regs.put (f.key 0 0) f.rst (v % 2 ^ f.w) := rfl
@[simp] theorem State.wr_tables (s : State) (f : Fld) (v : Nat) : (s.wr f v).tables = s.tables := rfl
@[simp] theorem State.wr_dram (s : State) (f : Fld) (v : Nat) : (s.wr f v).dram = s.dram := rfl
@[simp] theorem State.wr_dramGen (s : State) (f : Fld) (v : Nat) : (s.wr f v).dramGen = s.dramGen := rfl
@[simp] theorem State.wr_latches (s : State) (f : Fld) (v : Nat) : (s.wr f v).latches = s.latches := rfl
@[simp] theorem State.wr_mbLater (s : State) (f : Fld) (v : Nat) : (s.wr f v).mbLater = s.mbLater := rfl
@[simp] theorem State.wr_setNow (s : State) (f : Fld) (v : Nat) : (s.wr f v).setNow = s.setNow := rfl
@[simp] theorem State.wr_lastRead (s : State) (f : Fld) (v : Nat) : (s.wr f v).lastRead = s.lastRead := rfl
@[simp] theorem State.wr_freeCount (s : State) (f : Fld) (v : Nat) : (s.wr f v).freeCount = s.freeCount := rfl
@[simp] theorem State.wr_evr (s : State) (f : Fld) (v : Nat) : (s.wr f v).evr = s.evr := rfl
@[simp] theorem State.wr_key (s : State) (f : Fld) (v : Nat) : (s.wr f v).key = s.key := rfl
@[simp] theorem State.wr_swc (s : State) (f : Fld) (v : Nat) : (s.wr f v).swc = s.swc := rfl
@[simp] theorem State.wr_mac (s : State) (f : Fld) (v : Nat) : (s.wr f v).mac = s.mac := rfl
@[simp] theorem State.wr_tsq (s : State) (f : Fld) (v : Nat) : (s.wr f v).tsq = s.tsq := rfl
@[simp] theorem State.wr_tim (s : State) (f : Fld) (v : Nat) : (s.wr f v).tim = s.tim := rfl
@[simp] theorem State.wr_pub (s : State) (f : Fld) (v : Nat) : (s.wr f v).pub = s.pub := rfl
@[simp] theorem State.wr_fol (s : State) (f : Fld) (v : Nat) : (s.wr f v).fol = s.fol := rfl
@[simp] theorem State.wr_ctl (s : State) (f : Fld) (v : Nat) : (s.wr f v).ctl = s.ctl := rfl
@[simp] theorem State.wr_lge (s : State) (f : Fld) (v : Nat) : (s.wr f v).lge = s.lge := rfl
@[simp] theorem State.wr_sys (s : State) (f : Fld) (v : Nat) : (s.wr f v).sys = s.sys := rfl
@[simp] theorem State.wr_lcs (s : State) (f : Fld) (v : Nat) : (s.wr f v).lcs = s.lcs := rfl
@[simp] theorem State.wr_hka (s : State) (f : Fld) (v : Nat) : (s.wr f v).hka = s.hka := rfl
@[simp] theorem State.wr_gth (s : State) (f : Fld) (v : Nat) : (s.wr f v).gth = s.gth := rfl
@[simp] theorem State.wr_bnd (s : State) (f : Fld) (v : Nat) : (s.wr f v).bnd = s.bnd := rfl
@[simp] theorem State.wr_twn (s : State) (f : Fld) (v : Nat) : (s.wr f v).twn = s.twn := rfl
@[simp] theorem State.wr_svi (s : State) (f : Fld) (v : Nat) : (s.wr f v).svi = s.svi := rfl
@[simp] theorem State.wr_flt (s : State) (f : Fld) (v : Nat) : (s.wr f v).flt = s.flt := rfl
@[simp] theorem State.wr_pending (s : State) (f : Fld) (v : Nat) : (s.wr f v).pending = s.pending := rfl

/-! ## Sticky bits -/

@[simp] theorem State.flag_now (s : State) (f : Fld) : (s.flag f).now = s.now := rfl
@[simp] theorem State.flag_tai (s : State) (f : Fld) : (s.flag f).tai = s.tai := rfl
@[simp] theorem State.flag_taiFrac (s : State) (f : Fld) : (s.flag f).taiFrac = s.taiFrac := rfl
@[simp] theorem State.flag_resid (s : State) (f : Fld) : (s.flag f).resid = s.resid := rfl
@[simp] theorem State.flag_regs (s : State) (f : Fld) : (s.flag f).regs = s.regs.put (f.key 0 0) f.rst (1 % 2 ^ f.w) := rfl
@[simp] theorem State.flag_tables (s : State) (f : Fld) : (s.flag f).tables = s.tables := rfl
@[simp] theorem State.flag_dram (s : State) (f : Fld) : (s.flag f).dram = s.dram := rfl
@[simp] theorem State.flag_dramGen (s : State) (f : Fld) : (s.flag f).dramGen = s.dramGen := rfl
@[simp] theorem State.flag_latches (s : State) (f : Fld) : (s.flag f).latches = s.latches := rfl
@[simp] theorem State.flag_mbLater (s : State) (f : Fld) : (s.flag f).mbLater = s.mbLater := rfl
@[simp] theorem State.flag_setNow (s : State) (f : Fld) : (s.flag f).setNow = s.setNow.put (f.key 0 0) 0 (s.setNow.get (f.key 0 0) 0 ||| 1) := rfl
@[simp] theorem State.flag_lastRead (s : State) (f : Fld) : (s.flag f).lastRead = s.lastRead := rfl
@[simp] theorem State.flag_freeCount (s : State) (f : Fld) : (s.flag f).freeCount = s.freeCount := rfl
@[simp] theorem State.flag_evr (s : State) (f : Fld) : (s.flag f).evr = s.evr := rfl
@[simp] theorem State.flag_key (s : State) (f : Fld) : (s.flag f).key = s.key := rfl
@[simp] theorem State.flag_swc (s : State) (f : Fld) : (s.flag f).swc = s.swc := rfl
@[simp] theorem State.flag_mac (s : State) (f : Fld) : (s.flag f).mac = s.mac := rfl
@[simp] theorem State.flag_tsq (s : State) (f : Fld) : (s.flag f).tsq = s.tsq := rfl
@[simp] theorem State.flag_tim (s : State) (f : Fld) : (s.flag f).tim = s.tim := rfl
@[simp] theorem State.flag_pub (s : State) (f : Fld) : (s.flag f).pub = s.pub := rfl
@[simp] theorem State.flag_fol (s : State) (f : Fld) : (s.flag f).fol = s.fol := rfl
@[simp] theorem State.flag_ctl (s : State) (f : Fld) : (s.flag f).ctl = s.ctl := rfl
@[simp] theorem State.flag_lge (s : State) (f : Fld) : (s.flag f).lge = s.lge := rfl
@[simp] theorem State.flag_sys (s : State) (f : Fld) : (s.flag f).sys = s.sys := rfl
@[simp] theorem State.flag_lcs (s : State) (f : Fld) : (s.flag f).lcs = s.lcs := rfl
@[simp] theorem State.flag_hka (s : State) (f : Fld) : (s.flag f).hka = s.hka := rfl
@[simp] theorem State.flag_gth (s : State) (f : Fld) : (s.flag f).gth = s.gth := rfl
@[simp] theorem State.flag_bnd (s : State) (f : Fld) : (s.flag f).bnd = s.bnd := rfl
@[simp] theorem State.flag_twn (s : State) (f : Fld) : (s.flag f).twn = s.twn := rfl
@[simp] theorem State.flag_svi (s : State) (f : Fld) : (s.flag f).svi = s.svi := rfl
@[simp] theorem State.flag_flt (s : State) (f : Fld) : (s.flag f).flt = s.flt := rfl
@[simp] theorem State.flag_pending (s : State) (f : Fld) : (s.flag f).pending = s.pending := rfl

/-! ## A field of an instance -/

@[simp] theorem State.wrI_now (s : State) (f : Fld) (i v : Nat) : (s.wrI f i v).now = s.now := rfl
@[simp] theorem State.wrI_tai (s : State) (f : Fld) (i v : Nat) : (s.wrI f i v).tai = s.tai := rfl
@[simp] theorem State.wrI_taiFrac (s : State) (f : Fld) (i v : Nat) : (s.wrI f i v).taiFrac = s.taiFrac := rfl
@[simp] theorem State.wrI_resid (s : State) (f : Fld) (i v : Nat) : (s.wrI f i v).resid = s.resid := rfl
@[simp] theorem State.wrI_tables (s : State) (f : Fld) (i v : Nat) : (s.wrI f i v).tables = s.tables := rfl
@[simp] theorem State.wrI_dram (s : State) (f : Fld) (i v : Nat) : (s.wrI f i v).dram = s.dram := rfl
@[simp] theorem State.wrI_dramGen (s : State) (f : Fld) (i v : Nat) : (s.wrI f i v).dramGen = s.dramGen := rfl
@[simp] theorem State.wrI_latches (s : State) (f : Fld) (i v : Nat) : (s.wrI f i v).latches = s.latches := rfl
@[simp] theorem State.wrI_mbLater (s : State) (f : Fld) (i v : Nat) : (s.wrI f i v).mbLater = s.mbLater := rfl
@[simp] theorem State.wrI_setNow (s : State) (f : Fld) (i v : Nat) : (s.wrI f i v).setNow = s.setNow := rfl
@[simp] theorem State.wrI_lastRead (s : State) (f : Fld) (i v : Nat) : (s.wrI f i v).lastRead = s.lastRead := rfl
@[simp] theorem State.wrI_freeCount (s : State) (f : Fld) (i v : Nat) : (s.wrI f i v).freeCount = s.freeCount := rfl
@[simp] theorem State.wrI_evr (s : State) (f : Fld) (i v : Nat) : (s.wrI f i v).evr = s.evr := rfl
@[simp] theorem State.wrI_key (s : State) (f : Fld) (i v : Nat) : (s.wrI f i v).key = s.key := rfl
@[simp] theorem State.wrI_swc (s : State) (f : Fld) (i v : Nat) : (s.wrI f i v).swc = s.swc := rfl
@[simp] theorem State.wrI_mac (s : State) (f : Fld) (i v : Nat) : (s.wrI f i v).mac = s.mac := rfl
@[simp] theorem State.wrI_tsq (s : State) (f : Fld) (i v : Nat) : (s.wrI f i v).tsq = s.tsq := rfl
@[simp] theorem State.wrI_tim (s : State) (f : Fld) (i v : Nat) : (s.wrI f i v).tim = s.tim := rfl
@[simp] theorem State.wrI_pub (s : State) (f : Fld) (i v : Nat) : (s.wrI f i v).pub = s.pub := rfl
@[simp] theorem State.wrI_fol (s : State) (f : Fld) (i v : Nat) : (s.wrI f i v).fol = s.fol := rfl
@[simp] theorem State.wrI_ctl (s : State) (f : Fld) (i v : Nat) : (s.wrI f i v).ctl = s.ctl := rfl
@[simp] theorem State.wrI_lge (s : State) (f : Fld) (i v : Nat) : (s.wrI f i v).lge = s.lge := rfl
@[simp] theorem State.wrI_sys (s : State) (f : Fld) (i v : Nat) : (s.wrI f i v).sys = s.sys := rfl
@[simp] theorem State.wrI_lcs (s : State) (f : Fld) (i v : Nat) : (s.wrI f i v).lcs = s.lcs := rfl
@[simp] theorem State.wrI_hka (s : State) (f : Fld) (i v : Nat) : (s.wrI f i v).hka = s.hka := rfl
@[simp] theorem State.wrI_gth (s : State) (f : Fld) (i v : Nat) : (s.wrI f i v).gth = s.gth := rfl
@[simp] theorem State.wrI_bnd (s : State) (f : Fld) (i v : Nat) : (s.wrI f i v).bnd = s.bnd := rfl
@[simp] theorem State.wrI_twn (s : State) (f : Fld) (i v : Nat) : (s.wrI f i v).twn = s.twn := rfl
@[simp] theorem State.wrI_svi (s : State) (f : Fld) (i v : Nat) : (s.wrI f i v).svi = s.svi := rfl
@[simp] theorem State.wrI_flt (s : State) (f : Fld) (i v : Nat) : (s.wrI f i v).flt = s.flt := rfl
@[simp] theorem State.wrI_pending (s : State) (f : Fld) (i v : Nat) : (s.wrI f i v).pending = s.pending := rfl

/-! ## A flag field -/

@[simp] theorem State.wrB_now (s : State) (f : Fld) (b : Bool) : (s.wrB f b).now = s.now := rfl
@[simp] theorem State.wrB_tai (s : State) (f : Fld) (b : Bool) : (s.wrB f b).tai = s.tai := rfl
@[simp] theorem State.wrB_taiFrac (s : State) (f : Fld) (b : Bool) : (s.wrB f b).taiFrac = s.taiFrac := rfl
@[simp] theorem State.wrB_resid (s : State) (f : Fld) (b : Bool) : (s.wrB f b).resid = s.resid := rfl
@[simp] theorem State.wrB_tables (s : State) (f : Fld) (b : Bool) : (s.wrB f b).tables = s.tables := rfl
@[simp] theorem State.wrB_dram (s : State) (f : Fld) (b : Bool) : (s.wrB f b).dram = s.dram := rfl
@[simp] theorem State.wrB_dramGen (s : State) (f : Fld) (b : Bool) : (s.wrB f b).dramGen = s.dramGen := rfl
@[simp] theorem State.wrB_latches (s : State) (f : Fld) (b : Bool) : (s.wrB f b).latches = s.latches := rfl
@[simp] theorem State.wrB_mbLater (s : State) (f : Fld) (b : Bool) : (s.wrB f b).mbLater = s.mbLater := rfl
@[simp] theorem State.wrB_setNow (s : State) (f : Fld) (b : Bool) : (s.wrB f b).setNow = s.setNow := rfl
@[simp] theorem State.wrB_lastRead (s : State) (f : Fld) (b : Bool) : (s.wrB f b).lastRead = s.lastRead := rfl
@[simp] theorem State.wrB_freeCount (s : State) (f : Fld) (b : Bool) : (s.wrB f b).freeCount = s.freeCount := rfl
@[simp] theorem State.wrB_evr (s : State) (f : Fld) (b : Bool) : (s.wrB f b).evr = s.evr := rfl
@[simp] theorem State.wrB_key (s : State) (f : Fld) (b : Bool) : (s.wrB f b).key = s.key := rfl
@[simp] theorem State.wrB_swc (s : State) (f : Fld) (b : Bool) : (s.wrB f b).swc = s.swc := rfl
@[simp] theorem State.wrB_mac (s : State) (f : Fld) (b : Bool) : (s.wrB f b).mac = s.mac := rfl
@[simp] theorem State.wrB_tsq (s : State) (f : Fld) (b : Bool) : (s.wrB f b).tsq = s.tsq := rfl
@[simp] theorem State.wrB_tim (s : State) (f : Fld) (b : Bool) : (s.wrB f b).tim = s.tim := rfl
@[simp] theorem State.wrB_pub (s : State) (f : Fld) (b : Bool) : (s.wrB f b).pub = s.pub := rfl
@[simp] theorem State.wrB_fol (s : State) (f : Fld) (b : Bool) : (s.wrB f b).fol = s.fol := rfl
@[simp] theorem State.wrB_ctl (s : State) (f : Fld) (b : Bool) : (s.wrB f b).ctl = s.ctl := rfl
@[simp] theorem State.wrB_lge (s : State) (f : Fld) (b : Bool) : (s.wrB f b).lge = s.lge := rfl
@[simp] theorem State.wrB_sys (s : State) (f : Fld) (b : Bool) : (s.wrB f b).sys = s.sys := rfl
@[simp] theorem State.wrB_lcs (s : State) (f : Fld) (b : Bool) : (s.wrB f b).lcs = s.lcs := rfl
@[simp] theorem State.wrB_hka (s : State) (f : Fld) (b : Bool) : (s.wrB f b).hka = s.hka := rfl
@[simp] theorem State.wrB_gth (s : State) (f : Fld) (b : Bool) : (s.wrB f b).gth = s.gth := rfl
@[simp] theorem State.wrB_bnd (s : State) (f : Fld) (b : Bool) : (s.wrB f b).bnd = s.bnd := rfl
@[simp] theorem State.wrB_twn (s : State) (f : Fld) (b : Bool) : (s.wrB f b).twn = s.twn := rfl
@[simp] theorem State.wrB_svi (s : State) (f : Fld) (b : Bool) : (s.wrB f b).svi = s.svi := rfl
@[simp] theorem State.wrB_flt (s : State) (f : Fld) (b : Bool) : (s.wrB f b).flt = s.flt := rfl
@[simp] theorem State.wrB_pending (s : State) (f : Fld) (b : Bool) : (s.wrB f b).pending = s.pending := rfl

/-! ## A flag field of an instance -/

@[simp] theorem State.wrBI_now (s : State) (f : Fld) (i : Nat) (b : Bool) : (s.wrBI f i b).now = s.now := rfl
@[simp] theorem State.wrBI_tai (s : State) (f : Fld) (i : Nat) (b : Bool) : (s.wrBI f i b).tai = s.tai := rfl
@[simp] theorem State.wrBI_taiFrac (s : State) (f : Fld) (i : Nat) (b : Bool) : (s.wrBI f i b).taiFrac = s.taiFrac := rfl
@[simp] theorem State.wrBI_resid (s : State) (f : Fld) (i : Nat) (b : Bool) : (s.wrBI f i b).resid = s.resid := rfl
@[simp] theorem State.wrBI_tables (s : State) (f : Fld) (i : Nat) (b : Bool) : (s.wrBI f i b).tables = s.tables := rfl
@[simp] theorem State.wrBI_dram (s : State) (f : Fld) (i : Nat) (b : Bool) : (s.wrBI f i b).dram = s.dram := rfl
@[simp] theorem State.wrBI_dramGen (s : State) (f : Fld) (i : Nat) (b : Bool) : (s.wrBI f i b).dramGen = s.dramGen := rfl
@[simp] theorem State.wrBI_latches (s : State) (f : Fld) (i : Nat) (b : Bool) : (s.wrBI f i b).latches = s.latches := rfl
@[simp] theorem State.wrBI_mbLater (s : State) (f : Fld) (i : Nat) (b : Bool) : (s.wrBI f i b).mbLater = s.mbLater := rfl
@[simp] theorem State.wrBI_setNow (s : State) (f : Fld) (i : Nat) (b : Bool) : (s.wrBI f i b).setNow = s.setNow := rfl
@[simp] theorem State.wrBI_lastRead (s : State) (f : Fld) (i : Nat) (b : Bool) : (s.wrBI f i b).lastRead = s.lastRead := rfl
@[simp] theorem State.wrBI_freeCount (s : State) (f : Fld) (i : Nat) (b : Bool) : (s.wrBI f i b).freeCount = s.freeCount := rfl
@[simp] theorem State.wrBI_evr (s : State) (f : Fld) (i : Nat) (b : Bool) : (s.wrBI f i b).evr = s.evr := rfl
@[simp] theorem State.wrBI_key (s : State) (f : Fld) (i : Nat) (b : Bool) : (s.wrBI f i b).key = s.key := rfl
@[simp] theorem State.wrBI_swc (s : State) (f : Fld) (i : Nat) (b : Bool) : (s.wrBI f i b).swc = s.swc := rfl
@[simp] theorem State.wrBI_mac (s : State) (f : Fld) (i : Nat) (b : Bool) : (s.wrBI f i b).mac = s.mac := rfl
@[simp] theorem State.wrBI_tsq (s : State) (f : Fld) (i : Nat) (b : Bool) : (s.wrBI f i b).tsq = s.tsq := rfl
@[simp] theorem State.wrBI_tim (s : State) (f : Fld) (i : Nat) (b : Bool) : (s.wrBI f i b).tim = s.tim := rfl
@[simp] theorem State.wrBI_pub (s : State) (f : Fld) (i : Nat) (b : Bool) : (s.wrBI f i b).pub = s.pub := rfl
@[simp] theorem State.wrBI_fol (s : State) (f : Fld) (i : Nat) (b : Bool) : (s.wrBI f i b).fol = s.fol := rfl
@[simp] theorem State.wrBI_ctl (s : State) (f : Fld) (i : Nat) (b : Bool) : (s.wrBI f i b).ctl = s.ctl := rfl
@[simp] theorem State.wrBI_lge (s : State) (f : Fld) (i : Nat) (b : Bool) : (s.wrBI f i b).lge = s.lge := rfl
@[simp] theorem State.wrBI_sys (s : State) (f : Fld) (i : Nat) (b : Bool) : (s.wrBI f i b).sys = s.sys := rfl
@[simp] theorem State.wrBI_lcs (s : State) (f : Fld) (i : Nat) (b : Bool) : (s.wrBI f i b).lcs = s.lcs := rfl
@[simp] theorem State.wrBI_hka (s : State) (f : Fld) (i : Nat) (b : Bool) : (s.wrBI f i b).hka = s.hka := rfl
@[simp] theorem State.wrBI_gth (s : State) (f : Fld) (i : Nat) (b : Bool) : (s.wrBI f i b).gth = s.gth := rfl
@[simp] theorem State.wrBI_bnd (s : State) (f : Fld) (i : Nat) (b : Bool) : (s.wrBI f i b).bnd = s.bnd := rfl
@[simp] theorem State.wrBI_twn (s : State) (f : Fld) (i : Nat) (b : Bool) : (s.wrBI f i b).twn = s.twn := rfl
@[simp] theorem State.wrBI_svi (s : State) (f : Fld) (i : Nat) (b : Bool) : (s.wrBI f i b).svi = s.svi := rfl
@[simp] theorem State.wrBI_flt (s : State) (f : Fld) (i : Nat) (b : Bool) : (s.wrBI f i b).flt = s.flt := rfl
@[simp] theorem State.wrBI_pending (s : State) (f : Fld) (i : Nat) (b : Bool) : (s.wrBI f i b).pending = s.pending := rfl

/-! ## A sticky bit of an instance -/

@[simp] theorem State.flagI_now (s : State) (f : Fld) (i : Nat) : (s.flagI f i).now = s.now := rfl
@[simp] theorem State.flagI_tai (s : State) (f : Fld) (i : Nat) : (s.flagI f i).tai = s.tai := rfl
@[simp] theorem State.flagI_taiFrac (s : State) (f : Fld) (i : Nat) : (s.flagI f i).taiFrac = s.taiFrac := rfl
@[simp] theorem State.flagI_resid (s : State) (f : Fld) (i : Nat) : (s.flagI f i).resid = s.resid := rfl
@[simp] theorem State.flagI_tables (s : State) (f : Fld) (i : Nat) : (s.flagI f i).tables = s.tables := rfl
@[simp] theorem State.flagI_dram (s : State) (f : Fld) (i : Nat) : (s.flagI f i).dram = s.dram := rfl
@[simp] theorem State.flagI_dramGen (s : State) (f : Fld) (i : Nat) : (s.flagI f i).dramGen = s.dramGen := rfl
@[simp] theorem State.flagI_latches (s : State) (f : Fld) (i : Nat) : (s.flagI f i).latches = s.latches := rfl
@[simp] theorem State.flagI_mbLater (s : State) (f : Fld) (i : Nat) : (s.flagI f i).mbLater = s.mbLater := rfl
@[simp] theorem State.flagI_setNow (s : State) (f : Fld) (i : Nat) : (s.flagI f i).setNow = s.setNow.put (f.key i 0) 0 (s.setNow.get (f.key i 0) 0 ||| 1) := rfl
@[simp] theorem State.flagI_lastRead (s : State) (f : Fld) (i : Nat) : (s.flagI f i).lastRead = s.lastRead := rfl
@[simp] theorem State.flagI_freeCount (s : State) (f : Fld) (i : Nat) : (s.flagI f i).freeCount = s.freeCount := rfl
@[simp] theorem State.flagI_evr (s : State) (f : Fld) (i : Nat) : (s.flagI f i).evr = s.evr := rfl
@[simp] theorem State.flagI_key (s : State) (f : Fld) (i : Nat) : (s.flagI f i).key = s.key := rfl
@[simp] theorem State.flagI_swc (s : State) (f : Fld) (i : Nat) : (s.flagI f i).swc = s.swc := rfl
@[simp] theorem State.flagI_mac (s : State) (f : Fld) (i : Nat) : (s.flagI f i).mac = s.mac := rfl
@[simp] theorem State.flagI_tsq (s : State) (f : Fld) (i : Nat) : (s.flagI f i).tsq = s.tsq := rfl
@[simp] theorem State.flagI_tim (s : State) (f : Fld) (i : Nat) : (s.flagI f i).tim = s.tim := rfl
@[simp] theorem State.flagI_pub (s : State) (f : Fld) (i : Nat) : (s.flagI f i).pub = s.pub := rfl
@[simp] theorem State.flagI_fol (s : State) (f : Fld) (i : Nat) : (s.flagI f i).fol = s.fol := rfl
@[simp] theorem State.flagI_ctl (s : State) (f : Fld) (i : Nat) : (s.flagI f i).ctl = s.ctl := rfl
@[simp] theorem State.flagI_lge (s : State) (f : Fld) (i : Nat) : (s.flagI f i).lge = s.lge := rfl
@[simp] theorem State.flagI_sys (s : State) (f : Fld) (i : Nat) : (s.flagI f i).sys = s.sys := rfl
@[simp] theorem State.flagI_lcs (s : State) (f : Fld) (i : Nat) : (s.flagI f i).lcs = s.lcs := rfl
@[simp] theorem State.flagI_hka (s : State) (f : Fld) (i : Nat) : (s.flagI f i).hka = s.hka := rfl
@[simp] theorem State.flagI_gth (s : State) (f : Fld) (i : Nat) : (s.flagI f i).gth = s.gth := rfl
@[simp] theorem State.flagI_bnd (s : State) (f : Fld) (i : Nat) : (s.flagI f i).bnd = s.bnd := rfl
@[simp] theorem State.flagI_twn (s : State) (f : Fld) (i : Nat) : (s.flagI f i).twn = s.twn := rfl
@[simp] theorem State.flagI_svi (s : State) (f : Fld) (i : Nat) : (s.flagI f i).svi = s.svi := rfl
@[simp] theorem State.flagI_flt (s : State) (f : Fld) (i : Nat) : (s.flagI f i).flt = s.flt := rfl
@[simp] theorem State.flagI_pending (s : State) (f : Fld) (i : Nat) : (s.flagI f i).pending = s.pending := rfl

/-! ## A counter -/

@[simp] theorem State.bump_now (s : State) (f : Fld) : (s.bump f).now = s.now := rfl
@[simp] theorem State.bump_tai (s : State) (f : Fld) : (s.bump f).tai = s.tai := rfl
@[simp] theorem State.bump_taiFrac (s : State) (f : Fld) : (s.bump f).taiFrac = s.taiFrac := rfl
@[simp] theorem State.bump_resid (s : State) (f : Fld) : (s.bump f).resid = s.resid := rfl
@[simp] theorem State.bump_tables (s : State) (f : Fld) : (s.bump f).tables = s.tables := rfl
@[simp] theorem State.bump_dram (s : State) (f : Fld) : (s.bump f).dram = s.dram := rfl
@[simp] theorem State.bump_dramGen (s : State) (f : Fld) : (s.bump f).dramGen = s.dramGen := rfl
@[simp] theorem State.bump_latches (s : State) (f : Fld) : (s.bump f).latches = s.latches := rfl
@[simp] theorem State.bump_mbLater (s : State) (f : Fld) : (s.bump f).mbLater = s.mbLater := rfl
@[simp] theorem State.bump_setNow (s : State) (f : Fld) : (s.bump f).setNow = s.setNow := rfl
@[simp] theorem State.bump_lastRead (s : State) (f : Fld) : (s.bump f).lastRead = s.lastRead := rfl
@[simp] theorem State.bump_freeCount (s : State) (f : Fld) : (s.bump f).freeCount = s.freeCount := rfl
@[simp] theorem State.bump_evr (s : State) (f : Fld) : (s.bump f).evr = s.evr := rfl
@[simp] theorem State.bump_key (s : State) (f : Fld) : (s.bump f).key = s.key := rfl
@[simp] theorem State.bump_swc (s : State) (f : Fld) : (s.bump f).swc = s.swc := rfl
@[simp] theorem State.bump_mac (s : State) (f : Fld) : (s.bump f).mac = s.mac := rfl
@[simp] theorem State.bump_tsq (s : State) (f : Fld) : (s.bump f).tsq = s.tsq := rfl
@[simp] theorem State.bump_tim (s : State) (f : Fld) : (s.bump f).tim = s.tim := rfl
@[simp] theorem State.bump_pub (s : State) (f : Fld) : (s.bump f).pub = s.pub := rfl
@[simp] theorem State.bump_fol (s : State) (f : Fld) : (s.bump f).fol = s.fol := rfl
@[simp] theorem State.bump_ctl (s : State) (f : Fld) : (s.bump f).ctl = s.ctl := rfl
@[simp] theorem State.bump_lge (s : State) (f : Fld) : (s.bump f).lge = s.lge := rfl
@[simp] theorem State.bump_sys (s : State) (f : Fld) : (s.bump f).sys = s.sys := rfl
@[simp] theorem State.bump_lcs (s : State) (f : Fld) : (s.bump f).lcs = s.lcs := rfl
@[simp] theorem State.bump_hka (s : State) (f : Fld) : (s.bump f).hka = s.hka := rfl
@[simp] theorem State.bump_gth (s : State) (f : Fld) : (s.bump f).gth = s.gth := rfl
@[simp] theorem State.bump_bnd (s : State) (f : Fld) : (s.bump f).bnd = s.bnd := rfl
@[simp] theorem State.bump_twn (s : State) (f : Fld) : (s.bump f).twn = s.twn := rfl
@[simp] theorem State.bump_svi (s : State) (f : Fld) : (s.bump f).svi = s.svi := rfl
@[simp] theorem State.bump_flt (s : State) (f : Fld) : (s.bump f).flt = s.flt := rfl
@[simp] theorem State.bump_pending (s : State) (f : Fld) : (s.bump f).pending = s.pending := rfl

/-! ## A counter of an instance -/

@[simp] theorem State.bumpI_now (s : State) (f : Fld) (i : Nat) : (s.bumpI f i).now = s.now := rfl
@[simp] theorem State.bumpI_tai (s : State) (f : Fld) (i : Nat) : (s.bumpI f i).tai = s.tai := rfl
@[simp] theorem State.bumpI_taiFrac (s : State) (f : Fld) (i : Nat) : (s.bumpI f i).taiFrac = s.taiFrac := rfl
@[simp] theorem State.bumpI_resid (s : State) (f : Fld) (i : Nat) : (s.bumpI f i).resid = s.resid := rfl
@[simp] theorem State.bumpI_tables (s : State) (f : Fld) (i : Nat) : (s.bumpI f i).tables = s.tables := rfl
@[simp] theorem State.bumpI_dram (s : State) (f : Fld) (i : Nat) : (s.bumpI f i).dram = s.dram := rfl
@[simp] theorem State.bumpI_dramGen (s : State) (f : Fld) (i : Nat) : (s.bumpI f i).dramGen = s.dramGen := rfl
@[simp] theorem State.bumpI_latches (s : State) (f : Fld) (i : Nat) : (s.bumpI f i).latches = s.latches := rfl
@[simp] theorem State.bumpI_mbLater (s : State) (f : Fld) (i : Nat) : (s.bumpI f i).mbLater = s.mbLater := rfl
@[simp] theorem State.bumpI_setNow (s : State) (f : Fld) (i : Nat) : (s.bumpI f i).setNow = s.setNow := rfl
@[simp] theorem State.bumpI_lastRead (s : State) (f : Fld) (i : Nat) : (s.bumpI f i).lastRead = s.lastRead := rfl
@[simp] theorem State.bumpI_freeCount (s : State) (f : Fld) (i : Nat) : (s.bumpI f i).freeCount = s.freeCount := rfl
@[simp] theorem State.bumpI_evr (s : State) (f : Fld) (i : Nat) : (s.bumpI f i).evr = s.evr := rfl
@[simp] theorem State.bumpI_key (s : State) (f : Fld) (i : Nat) : (s.bumpI f i).key = s.key := rfl
@[simp] theorem State.bumpI_swc (s : State) (f : Fld) (i : Nat) : (s.bumpI f i).swc = s.swc := rfl
@[simp] theorem State.bumpI_mac (s : State) (f : Fld) (i : Nat) : (s.bumpI f i).mac = s.mac := rfl
@[simp] theorem State.bumpI_tsq (s : State) (f : Fld) (i : Nat) : (s.bumpI f i).tsq = s.tsq := rfl
@[simp] theorem State.bumpI_tim (s : State) (f : Fld) (i : Nat) : (s.bumpI f i).tim = s.tim := rfl
@[simp] theorem State.bumpI_pub (s : State) (f : Fld) (i : Nat) : (s.bumpI f i).pub = s.pub := rfl
@[simp] theorem State.bumpI_fol (s : State) (f : Fld) (i : Nat) : (s.bumpI f i).fol = s.fol := rfl
@[simp] theorem State.bumpI_ctl (s : State) (f : Fld) (i : Nat) : (s.bumpI f i).ctl = s.ctl := rfl
@[simp] theorem State.bumpI_lge (s : State) (f : Fld) (i : Nat) : (s.bumpI f i).lge = s.lge := rfl
@[simp] theorem State.bumpI_sys (s : State) (f : Fld) (i : Nat) : (s.bumpI f i).sys = s.sys := rfl
@[simp] theorem State.bumpI_lcs (s : State) (f : Fld) (i : Nat) : (s.bumpI f i).lcs = s.lcs := rfl
@[simp] theorem State.bumpI_hka (s : State) (f : Fld) (i : Nat) : (s.bumpI f i).hka = s.hka := rfl
@[simp] theorem State.bumpI_gth (s : State) (f : Fld) (i : Nat) : (s.bumpI f i).gth = s.gth := rfl
@[simp] theorem State.bumpI_bnd (s : State) (f : Fld) (i : Nat) : (s.bumpI f i).bnd = s.bnd := rfl
@[simp] theorem State.bumpI_twn (s : State) (f : Fld) (i : Nat) : (s.bumpI f i).twn = s.twn := rfl
@[simp] theorem State.bumpI_svi (s : State) (f : Fld) (i : Nat) : (s.bumpI f i).svi = s.svi := rfl
@[simp] theorem State.bumpI_flt (s : State) (f : Fld) (i : Nat) : (s.bumpI f i).flt = s.flt := rfl
@[simp] theorem State.bumpI_pending (s : State) (f : Fld) (i : Nat) : (s.bumpI f i).pending = s.pending := rfl

/-! ## DRAM -/

@[simp] theorem State.dramWrite_now (s : State) (a : Nat) (bs : List Byte) : (s.dramWrite a bs).now = s.now := rfl
@[simp] theorem State.dramWrite_tai (s : State) (a : Nat) (bs : List Byte) : (s.dramWrite a bs).tai = s.tai := rfl
@[simp] theorem State.dramWrite_taiFrac (s : State) (a : Nat) (bs : List Byte) : (s.dramWrite a bs).taiFrac = s.taiFrac := rfl
@[simp] theorem State.dramWrite_resid (s : State) (a : Nat) (bs : List Byte) : (s.dramWrite a bs).resid = s.resid := rfl
@[simp] theorem State.dramWrite_regs (s : State) (a : Nat) (bs : List Byte) : (s.dramWrite a bs).regs = s.regs := rfl
@[simp] theorem State.dramWrite_tables (s : State) (a : Nat) (bs : List Byte) : (s.dramWrite a bs).tables = s.tables := rfl
@[simp] theorem State.dramWrite_dram (s : State) (a : Nat) (bs : List Byte) : (s.dramWrite a bs).dram = s.dram.writeAll a bs := rfl
@[simp] theorem State.dramWrite_dramGen (s : State) (a : Nat) (bs : List Byte) : (s.dramWrite a bs).dramGen = s.dramGen := rfl
@[simp] theorem State.dramWrite_latches (s : State) (a : Nat) (bs : List Byte) : (s.dramWrite a bs).latches = s.latches := rfl
@[simp] theorem State.dramWrite_mbLater (s : State) (a : Nat) (bs : List Byte) : (s.dramWrite a bs).mbLater = s.mbLater := rfl
@[simp] theorem State.dramWrite_setNow (s : State) (a : Nat) (bs : List Byte) : (s.dramWrite a bs).setNow = s.setNow := rfl
@[simp] theorem State.dramWrite_lastRead (s : State) (a : Nat) (bs : List Byte) : (s.dramWrite a bs).lastRead = s.lastRead := rfl
@[simp] theorem State.dramWrite_freeCount (s : State) (a : Nat) (bs : List Byte) : (s.dramWrite a bs).freeCount = s.freeCount := rfl
@[simp] theorem State.dramWrite_evr (s : State) (a : Nat) (bs : List Byte) : (s.dramWrite a bs).evr = s.evr := rfl
@[simp] theorem State.dramWrite_key (s : State) (a : Nat) (bs : List Byte) : (s.dramWrite a bs).key = s.key := rfl
@[simp] theorem State.dramWrite_swc (s : State) (a : Nat) (bs : List Byte) : (s.dramWrite a bs).swc = s.swc := rfl
@[simp] theorem State.dramWrite_mac (s : State) (a : Nat) (bs : List Byte) : (s.dramWrite a bs).mac = s.mac := rfl
@[simp] theorem State.dramWrite_tsq (s : State) (a : Nat) (bs : List Byte) : (s.dramWrite a bs).tsq = s.tsq := rfl
@[simp] theorem State.dramWrite_tim (s : State) (a : Nat) (bs : List Byte) : (s.dramWrite a bs).tim = s.tim := rfl
@[simp] theorem State.dramWrite_pub (s : State) (a : Nat) (bs : List Byte) : (s.dramWrite a bs).pub = s.pub := rfl
@[simp] theorem State.dramWrite_fol (s : State) (a : Nat) (bs : List Byte) : (s.dramWrite a bs).fol = s.fol := rfl
@[simp] theorem State.dramWrite_ctl (s : State) (a : Nat) (bs : List Byte) : (s.dramWrite a bs).ctl = s.ctl := rfl
@[simp] theorem State.dramWrite_lge (s : State) (a : Nat) (bs : List Byte) : (s.dramWrite a bs).lge = s.lge := rfl
@[simp] theorem State.dramWrite_sys (s : State) (a : Nat) (bs : List Byte) : (s.dramWrite a bs).sys = s.sys := rfl
@[simp] theorem State.dramWrite_lcs (s : State) (a : Nat) (bs : List Byte) : (s.dramWrite a bs).lcs = s.lcs := rfl
@[simp] theorem State.dramWrite_hka (s : State) (a : Nat) (bs : List Byte) : (s.dramWrite a bs).hka = s.hka := rfl
@[simp] theorem State.dramWrite_gth (s : State) (a : Nat) (bs : List Byte) : (s.dramWrite a bs).gth = s.gth := rfl
@[simp] theorem State.dramWrite_bnd (s : State) (a : Nat) (bs : List Byte) : (s.dramWrite a bs).bnd = s.bnd := rfl
@[simp] theorem State.dramWrite_twn (s : State) (a : Nat) (bs : List Byte) : (s.dramWrite a bs).twn = s.twn := rfl
@[simp] theorem State.dramWrite_svi (s : State) (a : Nat) (bs : List Byte) : (s.dramWrite a bs).svi = s.svi := rfl
@[simp] theorem State.dramWrite_flt (s : State) (a : Nat) (bs : List Byte) : (s.dramWrite a bs).flt = s.flt := rfl
@[simp] theorem State.dramWrite_pending (s : State) (a : Nat) (bs : List Byte) : (s.dramWrite a bs).pending = s.pending := rfl

/-! ## The queue -/

@[simp] theorem State.withPending_now (s : State) (q : List Instr) : (s.withPending q).now = s.now := rfl
@[simp] theorem State.withPending_tai (s : State) (q : List Instr) : (s.withPending q).tai = s.tai := rfl
@[simp] theorem State.withPending_taiFrac (s : State) (q : List Instr) : (s.withPending q).taiFrac = s.taiFrac := rfl
@[simp] theorem State.withPending_resid (s : State) (q : List Instr) : (s.withPending q).resid = s.resid := rfl
@[simp] theorem State.withPending_regs (s : State) (q : List Instr) : (s.withPending q).regs = s.regs := rfl
@[simp] theorem State.withPending_tables (s : State) (q : List Instr) : (s.withPending q).tables = s.tables := rfl
@[simp] theorem State.withPending_dram (s : State) (q : List Instr) : (s.withPending q).dram = s.dram := rfl
@[simp] theorem State.withPending_dramGen (s : State) (q : List Instr) : (s.withPending q).dramGen = s.dramGen := rfl
@[simp] theorem State.withPending_latches (s : State) (q : List Instr) : (s.withPending q).latches = s.latches := rfl
@[simp] theorem State.withPending_mbLater (s : State) (q : List Instr) : (s.withPending q).mbLater = s.mbLater := rfl
@[simp] theorem State.withPending_setNow (s : State) (q : List Instr) : (s.withPending q).setNow = s.setNow := rfl
@[simp] theorem State.withPending_lastRead (s : State) (q : List Instr) : (s.withPending q).lastRead = s.lastRead := rfl
@[simp] theorem State.withPending_freeCount (s : State) (q : List Instr) : (s.withPending q).freeCount = s.freeCount := rfl
@[simp] theorem State.withPending_evr (s : State) (q : List Instr) : (s.withPending q).evr = s.evr := rfl
@[simp] theorem State.withPending_key (s : State) (q : List Instr) : (s.withPending q).key = s.key := rfl
@[simp] theorem State.withPending_swc (s : State) (q : List Instr) : (s.withPending q).swc = s.swc := rfl
@[simp] theorem State.withPending_mac (s : State) (q : List Instr) : (s.withPending q).mac = s.mac := rfl
@[simp] theorem State.withPending_tsq (s : State) (q : List Instr) : (s.withPending q).tsq = s.tsq := rfl
@[simp] theorem State.withPending_tim (s : State) (q : List Instr) : (s.withPending q).tim = s.tim := rfl
@[simp] theorem State.withPending_pub (s : State) (q : List Instr) : (s.withPending q).pub = s.pub := rfl
@[simp] theorem State.withPending_fol (s : State) (q : List Instr) : (s.withPending q).fol = s.fol := rfl
@[simp] theorem State.withPending_ctl (s : State) (q : List Instr) : (s.withPending q).ctl = s.ctl := rfl
@[simp] theorem State.withPending_lge (s : State) (q : List Instr) : (s.withPending q).lge = s.lge := rfl
@[simp] theorem State.withPending_sys (s : State) (q : List Instr) : (s.withPending q).sys = s.sys := rfl
@[simp] theorem State.withPending_lcs (s : State) (q : List Instr) : (s.withPending q).lcs = s.lcs := rfl
@[simp] theorem State.withPending_hka (s : State) (q : List Instr) : (s.withPending q).hka = s.hka := rfl
@[simp] theorem State.withPending_gth (s : State) (q : List Instr) : (s.withPending q).gth = s.gth := rfl
@[simp] theorem State.withPending_bnd (s : State) (q : List Instr) : (s.withPending q).bnd = s.bnd := rfl
@[simp] theorem State.withPending_twn (s : State) (q : List Instr) : (s.withPending q).twn = s.twn := rfl
@[simp] theorem State.withPending_svi (s : State) (q : List Instr) : (s.withPending q).svi = s.svi := rfl
@[simp] theorem State.withPending_flt (s : State) (q : List Instr) : (s.withPending q).flt = s.flt := rfl
@[simp] theorem State.withPending_pending (s : State) (q : List Instr) : (s.withPending q).pending = q := rfl

/-! ## Reads after writes of register fields -/

/-- A read of the field just written gives the value, cut to the field's width. -/
theorem State.rdK_wrK_self (s : State) (f : Fld) (i k v : Nat) (h : s.regs.wf = true) : (s.wrK f i k v).rdK f i k = v % 2 ^ f.w :=
  Store.get_put_self _ _ _ h

/-- A write of a field leaves the fields at other keys alone. -/
theorem State.rdK_wrK_ne (s : State) {f g : Fld} {i j k l : Nat} (v : Nat) (hk : g.key j l ≠ f.key i k) (h : s.regs.wf = true) :
    (s.wrK f i k v).rdK g j l = s.rdK g j l :=
  Store.get_put_ne _ _ _ hk h

/-- A write of a field keeps the canonical form. -/
theorem State.wrK_regs_wf (s : State) (f : Fld) (i k v : Nat) (h : s.regs.wf = true) : (s.wrK f i k v).regs.wf = true :=
  Store.put_wf _ _ _ h

/-! ## DRAM -/

/-- A byte that a write of one byte stores reads back. -/
theorem State.dramByte_write_self (s : State) (a : Nat) (b : Byte) : (s.dramWrite a [b]).dramByte a = b := by
  simp [State.dramByte, Memory.writeAll, Memory.read_write_self]

/-- Bytes outside those written keep their value. -/
theorem Memory.read_writeAll_ne (m : Memory) (a : Nat) (bs : List Byte) {c : Nat} (h : c < a ∨ a + bs.length ≤ c) :
    (m.writeAll a bs).read? c = m.read? c := by
  induction bs generalizing m a with
  | nil => rfl
  | cons b bs ih =>
    simp only [List.length_cons] at h
    rw [Memory.writeAll, ih _ _ (by omega), Memory.read_write_ne _ _ (by omega)]

/-- DRAM outside the bytes written keeps its value. -/
theorem State.dramByte_write_ne (s : State) (a : Nat) (bs : List Byte) {c : Nat} (h : c < a ∨ a + bs.length ≤ c) :
    (s.dramWrite a bs).dramByte c = s.dramByte c := by
  simp [State.dramByte, Memory.read_writeAll_ne _ _ _ h]

/-! ## The step -/

/-- With a command at the front, a step is that command on the rest of the queue. -/
theorem step_cons (s : State) (c : Instr) (q : List Instr) : step (s.withPending (c :: q)) = exec c (s.withPending q) := rfl

/-- With no command waiting, a step is a tick. -/
theorem step_nil (s : State) (h : s.pending = []) : step s = .next s.tick := by
  unfold step; rw [h]

end Sys2Proof.Machine
end

