-- ==== Sys2Proof/Laws/Keeps.lean ====
section
/-! SUPPORT. The relation `Keeps` between the state before and after a command: how it composes, and which updates have it. The files
beside this one prove it of every operation. -/

namespace Sys2Proof.Machine

open Sys2Proof

theorem Keeps.refl (s : State) : Keeps s s := ⟨rfl, rfl, Nat.le_refl _, Nat.le_refl _, Nat.le_refl _, id⟩

theorem Keeps.trans {r s t : State} (h : Keeps r s) (k : Keeps s t) : Keeps r t :=
  ⟨k.pending.trans h.pending, k.now.trans h.now, Nat.le_trans h.free k.free, Nat.le_trans h.floor k.floor,
    Nat.le_trans h.timeFloor k.timeFloor, fun w => k.wf (h.wf w)⟩

/-- An update of fields that `Keeps` does not speak of. -/
theorem keeps_same {s₀ s t : State} (h : Keeps s₀ s) (h1 : t.pending = s.pending) (h2 : t.now = s.now)
    (h3 : t.freeCount = s.freeCount) (h4 : t.regs = s.regs) (h5 : t.dram = s.dram) (h6 : t.tables = s.tables)
    (h7 : s.bnd.floor ≤ t.bnd.floor) (h8 : s.tim.floor ≤ t.tim.floor) : Keeps s₀ t := by
  refine h.trans ⟨h1, h2, Nat.le_of_eq h3.symm, h7, h8, fun w => ⟨?_, ?_, ?_⟩⟩
  · rw [h4]; exact w.regs
  · rw [h5]; exact w.dram
  · rw [h6]; exact w.tables

/-- Cut: a state named on the way. -/
theorem keeps_cut {s₀ t : State} {G : Prop} (h1 : Keeps s₀ t) (h2 : Keeps s₀ t → G) : G := h2 h1

theorem keeps_cut2 {α : Type} {s₀ : State} {t : α × State} {G : Prop} (h1 : Keeps s₀ t.2) (h2 : Keeps s₀ t.2 → G) : G := h2 h1

theorem keeps_cutF {s₀ : State} {f : State → State} {G : Prop} (h1 : ∀ t, Keeps s₀ t → Keeps s₀ (f t))
    (h2 : (∀ t, Keeps s₀ t → Keeps s₀ (f t)) → G) : G := h2 h1

theorem keeps_cutF2 {α : Type} {s₀ : State} {f : State → α → State} {G : Prop} (h1 : ∀ t x, Keeps s₀ t → Keeps s₀ (f t x))
    (h2 : (∀ t x, Keeps s₀ t → Keeps s₀ (f t x)) → G) : G := h2 h1

theorem keeps_cutF5 {α : Type} {s₀ : State} {f : α → State → State} {G : Prop} (h1 : ∀ a t, Keeps s₀ t → Keeps s₀ (f a t))
    (h2 : (∀ a t, Keeps s₀ t → Keeps s₀ (f a t)) → G) : G := h2 h1

theorem keeps_cutFP {α β γ δ ε : Type} {s₀ : State} {f : State → α → β → γ → δ → ε × State} {G : Prop}
    (h1 : ∀ t a b c d, Keeps s₀ t → Keeps s₀ (f t a b c d).2) (h2 : (∀ t a b c d, Keeps s₀ t → Keeps s₀ (f t a b c d).2) → G) :
    G := h2 h1

theorem keeps_snd {α : Type} {s₀ b : State} {a : α} {p : α × State} (h : p = (a, b)) (k : Keeps s₀ p.2) : Keeps s₀ b := by
  subst h; exact k

theorem keeps_foldl {α : Type} {s₀ s : State} (f : State → α → State) (l : List α)
    (hf : ∀ t x, Keeps s₀ t → Keeps s₀ (f t x)) (h : Keeps s₀ s) : Keeps s₀ (l.foldl f s) := by
  induction l generalizing s with
  | nil => exact h
  | cons x l ih => exact ih (hf s x h)

theorem keeps_foldl_fst {α β : Type} {s₀ : State} {p : State × β} (f : State × β → α → State × β) (l : List α)
    (hf : ∀ t x, Keeps s₀ t.1 → Keeps s₀ (f t x).1) (h : Keeps s₀ p.1) : Keeps s₀ (l.foldl f p).1 := by
  induction l generalizing p with
  | nil => exact h
  | cons x l ih => exact ih (hf p x h)

theorem keeps_foldl_snd {α β : Type} {s₀ : State} {p : β × State} (f : β × State → α → β × State) (l : List α)
    (hf : ∀ t x, Keeps s₀ t.2 → Keeps s₀ (f t x).2) (h : Keeps s₀ p.2) : Keeps s₀ (l.foldl f p).2 := by
  induction l generalizing p with
  | nil => exact h
  | cons x l ih => exact ih (hf p x h)

theorem keeps_getD {s₀ s : State} {o : Option State} (k : ∀ t, o = some t → Keeps s₀ t) (h : Keeps s₀ s) :
    Keeps s₀ (o.getD s) := by
  cases o with
  | none => exact h
  | some t => exact k t rfl

theorem State.wrK_keeps {s₀ s : State} (f : Fld) (i k v : Nat) (h : Keeps s₀ s) : Keeps s₀ (s.wrK f i k v) :=
  h.trans ⟨rfl, rfl, Nat.le_refl _, Nat.le_refl _, Nat.le_refl _, fun w => ⟨Store.put_wf _ _ _ w.regs, w.dram, w.tables⟩⟩

theorem State.dramWrite_keeps {s₀ s : State} (a : Nat) (bs : List Byte) (h : Keeps s₀ s) : Keeps s₀ (s.dramWrite a bs) :=
  h.trans ⟨rfl, rfl, Nat.le_refl _, Nat.le_refl _, Nat.le_refl _, fun w => ⟨w.regs, Memory.writeAll_wf _ _ w.dram, w.tables⟩⟩

theorem map_ids (l : List Table) (f : Table → Table) (hf : ∀ t, (f t).id = t.id) :
    (l.map f).map (fun t => t.id) = l.map (fun t => t.id) := by
  rw [List.map_map]
  exact List.map_congr_left (fun t _ => hf t)

/-- The tables are replaced by tables of the same identifiers. -/
theorem keeps_tables {s₀ s t : State} (h : Keeps s₀ s) (h1 : t.pending = s.pending) (h2 : t.now = s.now)
    (h3 : t.freeCount = s.freeCount) (h4 : t.regs = s.regs) (h5 : t.dram = s.dram)
    (h6 : t.tables.map (fun t => t.id) = s.tables.map (fun t => t.id) ∨ t.tables.map (fun t => t.id) = tableIds)
    (h7 : t.bnd = s.bnd) (h8 : t.tim = s.tim) : Keeps s₀ t := by
  refine h.trans ⟨h1, h2, Nat.le_of_eq h3.symm, by rw [h7], by rw [h8], fun w => ⟨?_, ?_, ?_⟩⟩
  · rw [h4]; exact w.regs
  · rw [h5]; exact w.dram
  · rcases h6 with h6 | h6
    · rw [h6]; exact w.tables
    · exact h6

theorem State.onTab_keeps {s₀ s : State} (id : Nat) (f : Table → Table) (hf : ∀ t, (f t).id = t.id) (h : Keeps s₀ s) :
    Keeps s₀ (s.onTab id f) := by
  refine keeps_tables h rfl rfl rfl rfl rfl (.inl (map_ids _ _ (fun t => ?_))) rfl rfl
  split
  · exact hf t
  · rfl

theorem State.putEnt_keeps {s₀ s : State} (id i v : Nat) (h : Keeps s₀ s) : Keeps s₀ (s.putEnt id i v) :=
  State.onTab_keeps id _ (fun _ => rfl) h

theorem State.flipTab_keeps {s₀ s : State} (id : Nat) (h : Keeps s₀ s) : Keeps s₀ (s.flipTab id) :=
  State.onTab_keeps id _ (fun _ => rfl) h

theorem State.revertTab_keeps {s₀ s : State} (id : Nat) (h : Keeps s₀ s) : Keeps s₀ (s.revertTab id) :=
  State.onTab_keeps id _ (fun _ => rfl) h

theorem State.fresh_keeps {s₀ s : State} (h : Keeps s₀ s) : Keeps s₀ s.fresh.2 :=
  h.trans ⟨rfl, rfl, Nat.le_succ _, Nat.le_refl _, Nat.le_refl _, fun w => ⟨w.regs, w.dram, w.tables⟩⟩

theorem State.onEvr_keeps {s₀ s : State} (f : EvrS → EvrS) (h : Keeps s₀ s) : Keeps s₀ (s.onEvr f) := keeps_same h rfl rfl rfl rfl rfl rfl (Nat.le_refl _) (Nat.le_refl _)

theorem State.onKey_keeps {s₀ s : State} (f : KeyS → KeyS) (h : Keeps s₀ s) : Keeps s₀ (s.onKey f) := keeps_same h rfl rfl rfl rfl rfl rfl (Nat.le_refl _) (Nat.le_refl _)

theorem State.onSwc_keeps {s₀ s : State} (f : SwcS → SwcS) (h : Keeps s₀ s) : Keeps s₀ (s.onSwc f) := keeps_same h rfl rfl rfl rfl rfl rfl (Nat.le_refl _) (Nat.le_refl _)

theorem State.onMac_keeps {s₀ s : State} (f : MacS → MacS) (h : Keeps s₀ s) : Keeps s₀ (s.onMac f) := keeps_same h rfl rfl rfl rfl rfl rfl (Nat.le_refl _) (Nat.le_refl _)

theorem State.onTsq_keeps {s₀ s : State} (f : TsqS → TsqS) (h : Keeps s₀ s) : Keeps s₀ (s.onTsq f) := keeps_same h rfl rfl rfl rfl rfl rfl (Nat.le_refl _) (Nat.le_refl _)

theorem State.onTim_keeps {s₀ s : State} (f : TimS → TimS) (hf : ∀ b, b.floor ≤ (f b).floor) (h : Keeps s₀ s) : Keeps s₀ (s.onTim f) :=
  keeps_same h rfl rfl rfl rfl rfl rfl (Nat.le_refl _) (hf _)

theorem State.onSvi_keeps {s₀ s : State} (f : SviS → SviS) (h : Keeps s₀ s) : Keeps s₀ (s.onSvi f) := keeps_same h rfl rfl rfl rfl rfl rfl (Nat.le_refl _) (Nat.le_refl _)

theorem State.onFlt_keeps {s₀ s : State} (f : FltS → FltS) (h : Keeps s₀ s) : Keeps s₀ (s.onFlt f) := keeps_same h rfl rfl rfl rfl rfl rfl (Nat.le_refl _) (Nat.le_refl _)

theorem State.onPub_keeps {s₀ s : State} (f : PubS → PubS) (h : Keeps s₀ s) : Keeps s₀ (s.onPub f) := keeps_same h rfl rfl rfl rfl rfl rfl (Nat.le_refl _) (Nat.le_refl _)

theorem State.onFol_keeps {s₀ s : State} (f : FolS → FolS) (h : Keeps s₀ s) : Keeps s₀ (s.onFol f) := keeps_same h rfl rfl rfl rfl rfl rfl (Nat.le_refl _) (Nat.le_refl _)

theorem State.onCtl_keeps {s₀ s : State} (f : CtlS → CtlS) (h : Keeps s₀ s) : Keeps s₀ (s.onCtl f) := keeps_same h rfl rfl rfl rfl rfl rfl (Nat.le_refl _) (Nat.le_refl _)

theorem State.onSys_keeps {s₀ s : State} (f : SysS → SysS) (h : Keeps s₀ s) : Keeps s₀ (s.onSys f) := keeps_same h rfl rfl rfl rfl rfl rfl (Nat.le_refl _) (Nat.le_refl _)

theorem State.onHka_keeps {s₀ s : State} (f : HkaS → HkaS) (h : Keeps s₀ s) : Keeps s₀ (s.onHka f) := keeps_same h rfl rfl rfl rfl rfl rfl (Nat.le_refl _) (Nat.le_refl _)

theorem State.onLcs_keeps {s₀ s : State} (f : LcsS → LcsS) (h : Keeps s₀ s) : Keeps s₀ (s.onLcs f) := keeps_same h rfl rfl rfl rfl rfl rfl (Nat.le_refl _) (Nat.le_refl _)

theorem State.onGth_keeps {s₀ s : State} (f : GthS → GthS) (h : Keeps s₀ s) : Keeps s₀ (s.onGth f) := keeps_same h rfl rfl rfl rfl rfl rfl (Nat.le_refl _) (Nat.le_refl _)

theorem State.onBnd_keeps {s₀ s : State} (f : BndS → BndS) (hf : ∀ b, b.floor ≤ (f b).floor) (h : Keeps s₀ s) : Keeps s₀ (s.onBnd f) :=
  keeps_same h rfl rfl rfl rfl rfl rfl (hf _) (Nat.le_refl _)

theorem State.onTwn_keeps {s₀ s : State} (f : TwnS → TwnS) (h : Keeps s₀ s) : Keeps s₀ (s.onTwn f) := keeps_same h rfl rfl rfl rfl rfl rfl (Nat.le_refl _) (Nat.le_refl _)

theorem State.onLge_keeps {s₀ s : State} (f : LgeS → LgeS) (h : Keeps s₀ s) : Keeps s₀ (s.onLge f) := keeps_same h rfl rfl rfl rfl rfl rfl (Nat.le_refl _) (Nat.le_refl _)

/-- A record update of fields that `Keeps` does not speak of. -/
theorem keeps_mk {s₀ s : State} {x1 x2 x3 x7 x11 : Nat} {x8 : List (Agent × Nat × Nat)} {x9 : List Instr} {x10 : Store} {y1 : EvrS}
    {y2 : KeyS} {y3 : SwcS} {y4 : MacS} {y5 : TsqS} {y6 : PubS} {y7 : FolS} {y8 : CtlS} {y9 : LgeS} {z1 : SysS} {z2 : LcsS} {z3 : HkaS}
    {z4 : GthS} {z5 : TwnS} {z6 : SviS} {z7 : FltS} (h : Keeps s₀ s) :
    Keeps s₀ (State.mk s.now x1 x2 x3 s.regs s.tables s.dram x7 x8 x9 x10 x11 s.freeCount y1 y2 y3 y4 y5 s.tim y6 y7 y8 y9 z1 z2 z3 z4
      s.bnd z5 z6 z7 s.pending) :=
  keeps_same h rfl rfl rfl rfl rfl rfl (Nat.le_refl _) (Nat.le_refl _)

end Sys2Proof.Machine
end

