-- ==== Sys2Proof/Laws/KeepsOps.lean ====
section
/-! SUPPORT. The operations of Ops have the relation `Keeps`. -/

namespace Sys2Proof.Machine

open Sys2Proof Reg

set_option linter.unusedTactic false
set_option linter.unreachableTactic false

theorem State.wrI_keeps {s₀ s : State} (f : Fld) (i : Nat) (v : Nat) (h : Keeps s₀ s) : Keeps s₀ (State.wrI s f i v) := by
  unfold State.wrI
  repeat' first
    | with_reducible assumption
    | intro _
    | with_reducible apply State.wrK_keeps
    | dsimp -zeta only

theorem State.wr_keeps {s₀ s : State} (f : Fld) (v : Nat) (h : Keeps s₀ s) : Keeps s₀ (State.wr s f v) := by
  unfold State.wr
  repeat' first
    | with_reducible assumption
    | intro _
    | with_reducible apply State.wrK_keeps
    | dsimp -zeta only

theorem State.wrB_keeps {s₀ s : State} (f : Fld) (b : Bool) (h : Keeps s₀ s) : Keeps s₀ (State.wrB s f b) := by
  unfold State.wrB
  repeat' first
    | with_reducible assumption
    | intro _
    | with_reducible apply State.wr_keeps
    | dsimp -zeta only

theorem State.wrBI_keeps {s₀ s : State} (f : Fld) (i : Nat) (b : Bool) (h : Keeps s₀ s) : Keeps s₀ (State.wrBI s f i b) := by
  unfold State.wrBI
  repeat' first
    | with_reducible assumption
    | intro _
    | with_reducible apply State.wrI_keeps
    | dsimp -zeta only

theorem State.wrSat_keeps {s₀ s : State} (f : Fld) (v : Nat) (h : Keeps s₀ s) : Keeps s₀ (State.wrSat s f v) := by
  unfold State.wrSat
  repeat' first
    | with_reducible assumption
    | intro _
    | with_reducible apply State.wr_keeps
    | dsimp -zeta only

theorem State.wrSatI_keeps {s₀ s : State} (f : Fld) (i : Nat) (v : Nat) (h : Keeps s₀ s) : Keeps s₀ (State.wrSatI s f i v) := by
  unfold State.wrSatI
  repeat' first
    | with_reducible assumption
    | intro _
    | with_reducible apply State.wrI_keeps
    | dsimp -zeta only

theorem State.bump_keeps {s₀ s : State} (f : Fld) (h : Keeps s₀ s) : Keeps s₀ (State.bump s f) := by
  unfold State.bump
  repeat' first
    | with_reducible assumption
    | intro _
    | with_reducible apply State.wrSat_keeps
    | dsimp -zeta only

theorem State.bumpI_keeps {s₀ s : State} (f : Fld) (i : Nat) (h : Keeps s₀ s) : Keeps s₀ (State.bumpI s f i) := by
  unfold State.bumpI
  repeat' first
    | with_reducible assumption
    | intro _
    | with_reducible apply State.wrSatI_keeps
    | dsimp -zeta only

theorem State.bumpBy_keeps {s₀ s : State} (f : Fld) (n : Nat) (h : Keeps s₀ s) : Keeps s₀ (State.bumpBy s f n) := by
  unfold State.bumpBy
  repeat' first
    | with_reducible assumption
    | intro _
    | with_reducible apply State.wrSat_keeps
    | dsimp -zeta only

theorem State.bumpByI_keeps {s₀ s : State} (f : Fld) (i : Nat) (n : Nat) (h : Keeps s₀ s) : Keeps s₀ (State.bumpByI s f i n) := by
  unfold State.bumpByI
  repeat' first
    | with_reducible assumption
    | intro _
    | with_reducible apply State.wrSatI_keeps
    | dsimp -zeta only

theorem State.noteSet_keeps {s₀ s : State} (key : Nat) (m : Nat) (h : Keeps s₀ s) : Keeps s₀ (State.noteSet s key m) := by
  unfold State.noteSet
  repeat' first
    | with_reducible assumption
    | intro _
    | (fail_if_no_progress (with_reducible apply keeps_mk))
    | dsimp -zeta only

theorem State.bumpIf_keeps {s₀ s : State} (c : Bool) (f : Fld) (h : Keeps s₀ s) : Keeps s₀ (State.bumpIf s c f) := by
  unfold State.bumpIf
  repeat' first
    | with_reducible assumption
    | intro _
    | with_reducible apply State.bump_keeps
    | split
    | dsimp -zeta only

theorem State.flag_keeps {s₀ s : State} (f : Fld) (h : Keeps s₀ s) : Keeps s₀ (State.flag s f) := by
  unfold State.flag
  repeat' first
    | with_reducible assumption
    | intro _
    | with_reducible apply State.wr_keeps
    | with_reducible apply State.noteSet_keeps
    | dsimp -zeta only

theorem State.flagI_keeps {s₀ s : State} (f : Fld) (i : Nat) (h : Keeps s₀ s) : Keeps s₀ (State.flagI s f i) := by
  unfold State.flagI
  repeat' first
    | with_reducible assumption
    | intro _
    | with_reducible apply State.wrI_keeps
    | with_reducible apply State.noteSet_keeps
    | dsimp -zeta only

theorem State.flagIf_keeps {s₀ s : State} (c : Bool) (f : Fld) (h : Keeps s₀ s) : Keeps s₀ (State.flagIf s c f) := by
  unfold State.flagIf
  repeat' first
    | with_reducible assumption
    | intro _
    | with_reducible apply State.flag_keeps
    | split
    | dsimp -zeta only

theorem State.clr_keeps {s₀ s : State} (f : Fld) (h : Keeps s₀ s) : Keeps s₀ (State.clr s f) := by
  unfold State.clr
  repeat' first
    | with_reducible assumption
    | intro _
    | with_reducible apply State.wr_keeps
    | dsimp -zeta only

theorem State.clrAllI_keeps {s₀ s : State} (fs : List Fld) (i : Nat) (h : Keeps s₀ s) : Keeps s₀ (State.clrAllI s fs i) := by
  unfold State.clrAllI
  repeat' first
    | with_reducible assumption
    | intro _
    | with_reducible apply State.wrI_keeps
    | with_reducible apply keeps_foldl
    | with_reducible apply keeps_foldl_fst
    | with_reducible apply keeps_foldl_snd
    | dsimp -zeta only

theorem State.clrAll_keeps {s₀ s : State} (fs : List Fld) (h : Keeps s₀ s) : Keeps s₀ (State.clrAll s fs) := by
  unfold State.clrAll
  repeat' first
    | with_reducible assumption
    | intro _
    | with_reducible apply State.clrAllI_keeps
    | dsimp -zeta only

theorem State.wrBit_keeps {s₀ s : State} (f : Fld) (i : Nat) (b : Nat) (v : Bool) (h : Keeps s₀ s) : Keeps s₀ (State.wrBit s f i b v) := by
  unfold State.wrBit
  repeat' first
    | with_reducible assumption
    | intro _
    | with_reducible apply State.wrI_keeps
    | dsimp -zeta only

theorem State.begin_keeps {s₀ s : State} (busy : Fld) (h : Keeps s₀ s) : Keeps s₀ (State.begin s busy) := by
  unfold State.begin
  repeat' first
    | with_reducible assumption
    | intro _
    | with_reducible apply State.wr_keeps
    | dsimp -zeta only

theorem State.finish_keeps {s₀ s : State} (busy : Fld) (done : Fld) (result : Fld) (r : Nat) (h : Keeps s₀ s) : Keeps s₀ (State.finish s busy done result r) := by
  unfold State.finish
  repeat' first
    | with_reducible assumption
    | intro _
    | with_reducible apply State.wr_keeps
    | with_reducible apply State.flag_keeps
    | dsimp -zeta only

theorem State.answer_keeps {s₀ s : State} (done : Fld) (result : Fld) (r : Nat) (h : Keeps s₀ s) : Keeps s₀ (State.answer s done result r) := by
  unfold State.answer
  repeat' first
    | with_reducible assumption
    | intro _
    | with_reducible apply State.wr_keeps
    | with_reducible apply State.flag_keeps
    | dsimp -zeta only

theorem State.dramPut_keeps {s₀ s : State} (a : Nat) (n : Nat) (v : Nat) (h : Keeps s₀ s) : Keeps s₀ (State.dramPut s a n v) := by
  unfold State.dramPut
  repeat' first
    | with_reducible assumption
    | intro _
    | with_reducible apply State.dramWrite_keeps
    | dsimp -zeta only

theorem State.latch_keeps {s₀ s : State} (who : Agent) (o : Nat) (v : Nat) (h : Keeps s₀ s) : Keeps s₀ (State.latch s who o v) := by
  unfold State.latch
  repeat' first
    | with_reducible assumption
    | intro _
    | (fail_if_no_progress (with_reducible apply keeps_mk))
    | dsimp -zeta only

end Sys2Proof.Machine
end

