-- ==== Sys2Proof/Laws/KeepsOperands.lean ====
section
/-! SUPPORT. The operations of Operands have the relation `Keeps`. -/

namespace Sys2Proof.Machine

open Sys2Proof Reg

set_option linter.unusedTactic false
set_option linter.unreachableTactic false

theorem State.wrAt_keeps {s₀ s : State} (p : FPlace) (v : Nat) (h : Keeps s₀ s) : Keeps s₀ (State.wrAt s p v) := by
  unfold State.wrAt
  repeat' first
    | with_reducible assumption
    | intro _
    | with_reducible apply State.wrK_keeps
    | dsimp -zeta only

end Sys2Proof.Machine
end

