-- ==== Sys2Proof/Laws/KeepsEvrOps.lean ====
section
/-! SUPPORT. The operations of EvrOps have the relation `Keeps`. -/

namespace Sys2Proof.Machine

open Sys2Proof Reg

set_option linter.unusedTactic false
set_option linter.unreachableTactic false

theorem State.evrRefresh_keeps {s₀ s : State}  (h : Keeps s₀ s) : Keeps s₀ (State.evrRefresh s) := by
  unfold State.evrRefresh
  repeat' first
    | with_reducible assumption
    | intro _
    | ((fail_if_no_progress extract_lets +onlyGivenNames x); first | (refine keeps_cut (s₀ := s₀) (t := x) ?_ ?_; (on_goal 1 => (try dsimp -zeta only [x])); on_goal 2 => (intro hx; try clear_value x)) | (refine keeps_cut2 (s₀ := s₀) (t := x) ?_ ?_; (on_goal 1 => (try dsimp -zeta only [x])); on_goal 2 => (intro hx; try clear_value x)) | (try clear_value x))
    | with_reducible apply State.wr_keeps
    | with_reducible apply State.wrB_keeps
    | split
    | dsimp -zeta only

theorem State.evrNoRoom_keeps {s₀ s : State} (r : EvRec) (i : Nat) (h : Keeps s₀ s) : Keeps s₀ (State.evrNoRoom s r i) := by
  unfold State.evrNoRoom
  repeat' first
    | with_reducible assumption
    | intro _
    | ((fail_if_no_progress extract_lets +onlyGivenNames x); first | (refine keeps_cut (s₀ := s₀) (t := x) ?_ ?_; (on_goal 1 => (try dsimp -zeta only [x])); on_goal 2 => (intro hx; try clear_value x)) | (refine keeps_cut2 (s₀ := s₀) (t := x) ?_ ?_; (on_goal 1 => (try dsimp -zeta only [x])); on_goal 2 => (intro hx; try clear_value x)) | (try clear_value x))
    | with_reducible apply State.bump_keeps
    | with_reducible apply State.flag_keeps
    | with_reducible apply State.onEvr_keeps
    | split
    | (fail_if_no_progress (with_reducible apply keeps_mk))
    | dsimp -zeta only

theorem State.evrEnter_keeps {s₀ s : State} (r : EvRec) (h : Keeps s₀ s) : Keeps s₀ (State.evrEnter s r) := by
  unfold State.evrEnter
  repeat' first
    | with_reducible assumption
    | intro _
    | ((fail_if_no_progress extract_lets +onlyGivenNames x); first | (refine keeps_cut (s₀ := s₀) (t := x) ?_ ?_; (on_goal 1 => (try dsimp -zeta only [x])); on_goal 2 => (intro hx; try clear_value x)) | (refine keeps_cut2 (s₀ := s₀) (t := x) ?_ ?_; (on_goal 1 => (try dsimp -zeta only [x])); on_goal 2 => (intro hx; try clear_value x)) | (try clear_value x))
    | with_reducible apply State.bump_keeps
    | with_reducible apply State.flag_keeps
    | with_reducible apply State.evrNoRoom_keeps
    | with_reducible apply State.onEvr_keeps
    | with_reducible apply State.evrRefresh_keeps
    | split
    | (fail_if_no_progress (with_reducible apply keeps_mk))
    | dsimp -zeta only

theorem State.evrSettle_keeps {s₀ s : State}  (h : Keeps s₀ s) : Keeps s₀ (State.evrSettle s) := by
  unfold State.evrSettle
  repeat' first
    | with_reducible assumption
    | intro _
    | ((fail_if_no_progress extract_lets +onlyGivenNames x); first | (refine keeps_cut (s₀ := s₀) (t := x) ?_ ?_; (on_goal 1 => (try dsimp -zeta only [x])); on_goal 2 => (intro hx; try clear_value x)) | (refine keeps_cut2 (s₀ := s₀) (t := x) ?_ ?_; (on_goal 1 => (try dsimp -zeta only [x])); on_goal 2 => (intro hx; try clear_value x)) | (try clear_value x))
    | with_reducible apply State.onEvr_keeps
    | with_reducible apply State.evrEnter_keeps
    | with_reducible apply keeps_foldl
    | with_reducible apply keeps_foldl_fst
    | with_reducible apply keeps_foldl_snd
    | (fail_if_no_progress (with_reducible apply keeps_mk))
    | dsimp -zeta only

theorem State.evrArrive_keeps {s₀ s : State} (r : EvRec) (h : Keeps s₀ s) : Keeps s₀ (State.evrArrive s r) := by
  unfold State.evrArrive
  repeat' first
    | with_reducible assumption
    | intro _
    | with_reducible apply State.bump_keeps
    | with_reducible apply State.wr_keeps
    | with_reducible apply State.flag_keeps
    | with_reducible apply State.onEvr_keeps
    | split
    | (fail_if_no_progress (with_reducible apply keeps_mk))
    | dsimp -zeta only

theorem State.event_keeps {s₀ s : State} (cls : Nat) (body : List Byte) (h : Keeps s₀ s) : Keeps s₀ (State.event s cls body) := by
  unfold State.event
  repeat' first
    | with_reducible assumption
    | intro _
    | with_reducible apply State.evrArrive_keeps
    | dsimp -zeta only

theorem State.eventAt_keeps {s₀ s : State} (cls : Nat) (stamp : Nat) (body : List Byte) (h : Keeps s₀ s) : Keeps s₀ (State.eventAt s cls stamp body) := by
  unfold State.eventAt
  repeat' first
    | with_reducible assumption
    | intro _
    | with_reducible apply State.evrArrive_keeps
    | dsimp -zeta only

theorem State.eventFolio_keeps {s₀ s : State} (cls : Nat) (folio : Nat) (cycle : Nat) (body : List Byte) (h : Keeps s₀ s) : Keeps s₀ (State.eventFolio s cls folio cycle body) := by
  unfold State.eventFolio
  repeat' first
    | with_reducible assumption
    | intro _
    | with_reducible apply State.evrArrive_keeps
    | dsimp -zeta only

theorem State.eventLogic_keeps {s₀ s : State} (cls : Nat) (startTai : Nat) (stableId : Nat) (scanNo : Nat) (h : Keeps s₀ s) : Keeps s₀ (State.eventLogic s cls startTai stableId scanNo) := by
  unfold State.eventLogic
  repeat' first
    | with_reducible assumption
    | intro _
    | with_reducible apply State.evrArrive_keeps
    | dsimp -zeta only

theorem State.eventCtl_keeps {s₀ s : State} (cls : Nat) (resultTai : Nat) (result : List Byte) (h : Keeps s₀ s) : Keeps s₀ (State.eventCtl s cls resultTai result) := by
  unfold State.eventCtl
  repeat' first
    | with_reducible assumption
    | intro _
    | with_reducible apply State.evrArrive_keeps
    | dsimp -zeta only

theorem State.evrFull_keeps {s₀ s : State}  (h : Keeps s₀ s) : Keeps s₀ (State.evrFull s) := by
  unfold State.evrFull
  repeat' first
    | with_reducible assumption
    | intro _
    | ((fail_if_no_progress extract_lets +onlyGivenNames x); first | (refine keeps_cut (s₀ := s₀) (t := x) ?_ ?_; (on_goal 1 => (try dsimp -zeta only [x])); on_goal 2 => (intro hx; try clear_value x)) | (refine keeps_cut2 (s₀ := s₀) (t := x) ?_ ?_; (on_goal 1 => (try dsimp -zeta only [x])); on_goal 2 => (intro hx; try clear_value x)) | (try clear_value x))
    | (with_reducible refine keeps_snd (by assumption) ?_)
    | with_reducible apply State.fresh_keeps
    | with_reducible apply State.onEvr_keeps
    | with_reducible apply State.flag_keeps
    | with_reducible apply State.evrRefresh_keeps
    | split
    | (fail_if_no_progress (with_reducible apply keeps_mk))
    | dsimp -zeta only

theorem State.evrAfterCommit_keeps {s₀ s : State} (r : EvRec) (h : Keeps s₀ s) : Keeps s₀ (State.evrAfterCommit s r) := by
  unfold State.evrAfterCommit
  repeat' first
    | with_reducible assumption
    | intro _
    | with_reducible apply State.wr_keeps
    | with_reducible apply State.onEvr_keeps
    | with_reducible apply State.cleared_keeps
    | split
    | (fail_if_no_progress (with_reducible apply keeps_mk))
    | dsimp -zeta only

theorem State.evrCommit_keeps {s₀ s : State}  (h : Keeps s₀ s) : Keeps s₀ (State.evrCommit s) := by
  unfold State.evrCommit
  repeat' first
    | with_reducible assumption
    | intro _
    | ((fail_if_no_progress extract_lets +onlyGivenNames x); first | (refine keeps_cut (s₀ := s₀) (t := x) ?_ ?_; (on_goal 1 => (try dsimp -zeta only [x])); on_goal 2 => (intro hx; try clear_value x)) | (refine keeps_cut2 (s₀ := s₀) (t := x) ?_ ?_; (on_goal 1 => (try dsimp -zeta only [x])); on_goal 2 => (intro hx; try clear_value x)) | (try clear_value x))
    | with_reducible apply State.onEvr_keeps
    | with_reducible apply State.evrAfterCommit_keeps
    | with_reducible apply State.evrRefresh_keeps
    | with_reducible apply State.evrFull_keeps
    | split
    | (fail_if_no_progress (with_reducible apply keeps_mk))
    | dsimp -zeta only

theorem State.evrAdmit_keeps {s₀ s : State} (rs : List EvRec) (h : Keeps s₀ s) : Keeps s₀ (State.evrAdmit s rs) := by
  unfold State.evrAdmit
  repeat' first
    | with_reducible assumption
    | intro _
    | with_reducible apply State.evrEnter_keeps
    | with_reducible apply keeps_foldl
    | with_reducible apply keeps_foldl_fst
    | with_reducible apply keeps_foldl_snd
    | dsimp -zeta only

theorem State.evrScanDone_keeps {s₀ s : State} (unreadable : Option Nat) (h : Keeps s₀ s) : Keeps s₀ (State.evrScanDone s unreadable) := by
  unfold State.evrScanDone
  repeat' first
    | with_reducible assumption
    | intro _
    | ((fail_if_no_progress extract_lets +onlyGivenNames x); first | (refine keeps_cut (s₀ := s₀) (t := x) ?_ ?_; (on_goal 1 => (try dsimp -zeta only [x])); on_goal 2 => (intro hx; try clear_value x)) | (refine keeps_cut2 (s₀ := s₀) (t := x) ?_ ?_; (on_goal 1 => (try dsimp -zeta only [x])); on_goal 2 => (intro hx; try clear_value x)) | (try clear_value x))
    | with_reducible apply State.onEvr_keeps
    | with_reducible apply State.flag_keeps
    | with_reducible apply State.wr_keeps
    | with_reducible apply State.cleared_keeps
    | with_reducible apply State.evrEnter_keeps
    | with_reducible apply State.flagIf_keeps
    | with_reducible apply State.wrB_keeps
    | with_reducible apply State.evrAdmit_keeps
    | with_reducible apply State.evrRefresh_keeps
    | with_reducible apply State.evrFull_keeps
    | split
    | (fail_if_no_progress (with_reducible apply keeps_mk))
    | dsimp -zeta only

theorem State.evrReset_keeps {s₀ s : State}  (h : Keeps s₀ s) : Keeps s₀ (State.evrReset s) := by
  unfold State.evrReset
  repeat' first
    | with_reducible assumption
    | intro _
    | with_reducible apply State.onEvr_keeps
    | with_reducible apply State.wr_keeps
    | (fail_if_no_progress (with_reducible apply keeps_mk))
    | dsimp -zeta only

theorem State.evrClear_keeps {s₀ s : State}  (h : Keeps s₀ s) : Keeps s₀ (State.evrClear s) := by
  unfold State.evrClear
  repeat' first
    | with_reducible assumption
    | intro _
    | ((fail_if_no_progress extract_lets +onlyGivenNames x); first | (refine keeps_cut (s₀ := s₀) (t := x) ?_ ?_; (on_goal 1 => (try dsimp -zeta only [x])); on_goal 2 => (intro hx; try clear_value x)) | (refine keeps_cut2 (s₀ := s₀) (t := x) ?_ ?_; (on_goal 1 => (try dsimp -zeta only [x])); on_goal 2 => (intro hx; try clear_value x)) | (try clear_value x))
    | with_reducible apply State.answer_keeps
    | with_reducible apply State.onEvr_keeps
    | with_reducible apply State.cleared_keeps
    | with_reducible apply State.wr_keeps
    | with_reducible apply State.begin_keeps
    | with_reducible apply State.evrRefresh_keeps
    | split
    | (fail_if_no_progress (with_reducible apply keeps_mk))
    | dsimp -zeta only

theorem State.evrClearDone_keeps {s₀ s : State}  (h : Keeps s₀ s) : Keeps s₀ (State.evrClearDone s) := by
  unfold State.evrClearDone
  repeat' first
    | with_reducible assumption
    | intro _
    | with_reducible apply State.onEvr_keeps
    | with_reducible apply State.cleared_keeps
    | with_reducible apply State.finish_keeps
    | with_reducible apply State.flag_keeps
    | with_reducible apply State.evrRefresh_keeps
    | split
    | (fail_if_no_progress (with_reducible apply keeps_mk))
    | dsimp -zeta only

theorem State.evrCursorLoad_keeps {s₀ s : State} (who : Agent) (w : Nat) (high : Nat) (h : Keeps s₀ s) : Keeps s₀ (State.evrCursorLoad s who w high) := by
  unfold State.evrCursorLoad
  repeat' first
    | with_reducible assumption
    | intro _
    | with_reducible apply State.wrI_keeps
    | with_reducible apply State.flag_keeps
    | split
    | dsimp -zeta only

theorem State.evrLatch_keeps {s₀ s : State} (w : Nat) (v : Nat) (h : Keeps s₀ s) : Keeps s₀ (State.evrLatch s w v) := by
  unfold State.evrLatch
  repeat' first
    | with_reducible assumption
    | intro _
    | with_reducible apply State.wrK_keeps
    | with_reducible apply keeps_foldl
    | with_reducible apply keeps_foldl_fst
    | with_reducible apply keeps_foldl_snd
    | dsimp -zeta only

theorem State.evrRead_keeps {s₀ s : State} (who : Agent) (w : Nat) (ecc : Bool) (h : Keeps s₀ s) : Keeps s₀ (State.evrRead s who w ecc) := by
  unfold State.evrRead
  repeat' first
    | with_reducible assumption
    | intro _
    | ((fail_if_no_progress extract_lets +onlyGivenNames x); first | (refine keeps_cut (s₀ := s₀) (t := x) ?_ ?_; (on_goal 1 => (try dsimp -zeta only [x])); on_goal 2 => (intro hx; try clear_value x)) | (refine keeps_cut2 (s₀ := s₀) (t := x) ?_ ?_; (on_goal 1 => (try dsimp -zeta only [x])); on_goal 2 => (intro hx; try clear_value x)) | (try clear_value x))
    | with_reducible apply State.evrLatch_keeps
    | with_reducible apply State.wrI_keeps
    | with_reducible apply State.flagI_keeps
    | with_reducible apply State.flagIf_keeps
    | with_reducible apply State.flag_keeps
    | split
    | dsimp -zeta only

end Sys2Proof.Machine
end

