-- ==== Sys2Proof/Laws/KeepsKeyOps.lean ====
section
/-! SUPPORT. The operations of KeyOps have the relation `Keeps`. -/

namespace Sys2Proof.Machine

open Sys2Proof Reg

set_option linter.unusedTactic false
set_option linter.unreachableTactic false

theorem State.setSlot_keeps {s₀ s : State} (n : Nat) (k : KeySlot) (h : Keeps s₀ s) : Keeps s₀ (State.setSlot s n k) := by
  unfold State.setSlot
  repeat' first
    | with_reducible assumption
    | intro _
    | with_reducible apply State.onKey_keeps
    | (fail_if_no_progress (with_reducible apply keeps_mk))
    | dsimp -zeta only

theorem State.keyEvent_keeps {s₀ s : State} (kind : Nat) (result : Nat) (slot : Nat) (signer : Nat) (n : Nat) (counter : Nat) (h : Keeps s₀ s) : Keeps s₀ (State.keyEvent s kind result slot signer n counter) := by
  unfold State.keyEvent
  repeat' first
    | with_reducible assumption
    | intro _
    | ((fail_if_no_progress extract_lets +onlyGivenNames x); first | (refine keeps_cut (s₀ := s₀) (t := x) ?_ ?_; (on_goal 1 => (try dsimp -zeta only [x])); on_goal 2 => (intro hx; try clear_value x)) | (refine keeps_cut2 (s₀ := s₀) (t := x) ?_ ?_; (on_goal 1 => (try dsimp -zeta only [x])); on_goal 2 => (intro hx; try clear_value x)) | (try clear_value x))
    | with_reducible apply State.event_keeps
    | dsimp -zeta only

theorem State.keyExpire_keeps {s₀ s : State} (n : Nat) (h : Keeps s₀ s) : Keeps s₀ (State.keyExpire s n) := by
  unfold State.keyExpire
  repeat' first
    | with_reducible assumption
    | intro _
    | ((fail_if_no_progress extract_lets +onlyGivenNames x); first | (refine keeps_cut (s₀ := s₀) (t := x) ?_ ?_; (on_goal 1 => (try dsimp -zeta only [x])); on_goal 2 => (intro hx; try clear_value x)) | (refine keeps_cut2 (s₀ := s₀) (t := x) ?_ ?_; (on_goal 1 => (try dsimp -zeta only [x])); on_goal 2 => (intro hx; try clear_value x)) | (try clear_value x))
    | with_reducible apply State.setSlot_keeps
    | with_reducible apply State.flag_keeps
    | with_reducible apply State.keyEvent_keeps
    | split
    | (fail_if_no_progress (with_reducible apply keeps_mk))
    | dsimp -zeta only

theorem State.keyUse_keeps {s₀ s : State} (n : Nat) (h : Keeps s₀ s) : Keeps s₀ (State.keyUse s n).2 := by
  unfold State.keyUse
  repeat' first
    | with_reducible assumption
    | intro _
    | ((fail_if_no_progress extract_lets +onlyGivenNames x); first | (refine keeps_cut (s₀ := s₀) (t := x) ?_ ?_; (on_goal 1 => (try dsimp -zeta only [x])); on_goal 2 => (intro hx; try clear_value x)) | (refine keeps_cut2 (s₀ := s₀) (t := x) ?_ ?_; (on_goal 1 => (try dsimp -zeta only [x])); on_goal 2 => (intro hx; try clear_value x)) | (try clear_value x))
    | with_reducible apply State.keyExpire_keeps
    | with_reducible apply State.bump_keeps
    | with_reducible apply State.flag_keeps
    | with_reducible apply State.setSlot_keeps
    | with_reducible apply State.keyEvent_keeps
    | split
    | (fail_if_no_progress (with_reducible apply keeps_mk))
    | dsimp -zeta only

theorem State.keyCommitCounts_keeps {s₀ s : State}  (h : Keeps s₀ s) : Keeps s₀ (State.keyCommitCounts s) := by
  unfold State.keyCommitCounts
  repeat' first
    | with_reducible assumption
    | intro _
    | with_reducible apply State.onKey_keeps
    | (fail_if_no_progress (with_reducible apply keeps_mk))
    | dsimp -zeta only

theorem State.keypApply_keeps {s₀ s : State}  (h : Keeps s₀ s) : Keeps s₀ (State.keypApply s) := by
  unfold State.keypApply
  repeat' first
    | with_reducible assumption
    | intro _
    | ((fail_if_no_progress extract_lets +onlyGivenNames x); first | (refine keeps_cut (s₀ := s₀) (t := x) ?_ ?_; (on_goal 1 => (try dsimp -zeta only [x])); on_goal 2 => (intro hx; try clear_value x)) | (refine keeps_cut2 (s₀ := s₀) (t := x) ?_ ?_; (on_goal 1 => (try dsimp -zeta only [x])); on_goal 2 => (intro hx; try clear_value x)) | (try clear_value x))
    | with_reducible apply State.setSlot_keeps
    | with_reducible apply State.flag_keeps
    | with_reducible apply State.keyEvent_keeps
    | with_reducible apply keeps_foldl
    | with_reducible apply keeps_foldl_fst
    | with_reducible apply keeps_foldl_snd
    | split
    | (fail_if_no_progress (with_reducible apply keeps_mk))
    | dsimp -zeta only

theorem State.orphaned_keeps {s₀ s : State} (slot : Nat) (n : Nat) (h : Keeps s₀ s) : Keeps s₀ (State.orphaned s slot n) := by
  unfold State.orphaned
  repeat' first
    | with_reducible assumption
    | intro _
    | ((fail_if_no_progress extract_lets +onlyGivenNames x); first | (refine keeps_cut (s₀ := s₀) (t := x) ?_ ?_; (on_goal 1 => (try dsimp -zeta only [x])); on_goal 2 => (intro hx; try clear_value x)) | (refine keeps_cut2 (s₀ := s₀) (t := x) ?_ ?_; (on_goal 1 => (try dsimp -zeta only [x])); on_goal 2 => (intro hx; try clear_value x)) | (try clear_value x))
    | with_reducible apply State.wr_keeps
    | with_reducible apply State.bump_keeps
    | with_reducible apply State.flag_keeps
    | with_reducible apply State.keyEvent_keeps
    | split
    | dsimp -zeta only

theorem State.updCommit_keeps {s₀ s : State} (u : UpdMsg) (mat : List Byte) (h : Keeps s₀ s) : Keeps s₀ (State.updCommit s u mat) := by
  unfold State.updCommit
  repeat' first
    | with_reducible assumption
    | intro _
    | ((fail_if_no_progress extract_lets +onlyGivenNames x); first | (refine keeps_cut (s₀ := s₀) (t := x) ?_ ?_; (on_goal 1 => (try dsimp -zeta only [x])); on_goal 2 => (intro hx; try clear_value x)) | (refine keeps_cut2 (s₀ := s₀) (t := x) ?_ ?_; (on_goal 1 => (try dsimp -zeta only [x])); on_goal 2 => (intro hx; try clear_value x)) | (try clear_value x))
    | with_reducible apply State.setSlot_keeps
    | with_reducible apply State.bump_keeps
    | with_reducible apply State.keyEvent_keeps
    | with_reducible apply State.orphaned_keeps
    | split
    | (fail_if_no_progress (with_reducible apply keeps_mk))
    | dsimp -zeta only

theorem State.keyUpdate_keeps {s₀ s : State} (m : List Byte) (h : Keeps s₀ s) : Keeps s₀ (State.keyUpdate s m).2 := by
  unfold State.keyUpdate
  repeat' first
    | with_reducible assumption
    | intro _
    | ((fail_if_no_progress extract_lets +onlyGivenNames x); first | (refine keeps_cut (s₀ := s₀) (t := x) ?_ ?_; (on_goal 1 => (try dsimp -zeta only [x])); on_goal 2 => (intro hx; try clear_value x)) | (refine keeps_cut2 (s₀ := s₀) (t := x) ?_ ?_; (on_goal 1 => (try dsimp -zeta only [x])); on_goal 2 => (intro hx; try clear_value x)) | (refine keeps_cutF (s₀ := s₀) (f := x) ?_ ?_; (on_goal 1 => (try dsimp -zeta only [x])); on_goal 2 => (intro hx; try clear_value x)) | (refine keeps_cutF2 (s₀ := s₀) (f := x) ?_ ?_; (on_goal 1 => (try dsimp -zeta only [x])); on_goal 2 => (intro hx; try clear_value x)) | (refine keeps_cutF5 (s₀ := s₀) (f := x) ?_ ?_; (on_goal 1 => (try dsimp -zeta only [x])); on_goal 2 => (intro hx; try clear_value x)) | (refine keeps_cutFP (s₀ := s₀) (f := x) ?_ ?_; (on_goal 1 => (try dsimp -zeta only [x])); on_goal 2 => (intro hx; try clear_value x)) | (try clear_value x))
    | (with_reducible refine keeps_snd (by assumption) ?_)
    | with_reducible apply State.bump_keeps
    | with_reducible apply State.flag_keeps
    | with_reducible apply State.keyEvent_keeps
    | with_reducible apply State.keyExpire_keeps
    | with_reducible apply State.updCommit_keeps
    | with_reducible apply State.keyUse_keeps
    | split
    | dsimp -zeta only
    | with_reducible apply_assumption

theorem State.keyDelete_keeps {s₀ s : State} (n : Nat) (h : Keeps s₀ s) : Keeps s₀ (State.keyDelete s n).2 := by
  unfold State.keyDelete
  repeat' first
    | with_reducible assumption
    | intro _
    | ((fail_if_no_progress extract_lets +onlyGivenNames x); first | (refine keeps_cut (s₀ := s₀) (t := x) ?_ ?_; (on_goal 1 => (try dsimp -zeta only [x])); on_goal 2 => (intro hx; try clear_value x)) | (refine keeps_cut2 (s₀ := s₀) (t := x) ?_ ?_; (on_goal 1 => (try dsimp -zeta only [x])); on_goal 2 => (intro hx; try clear_value x)) | (try clear_value x))
    | with_reducible apply State.setSlot_keeps
    | with_reducible apply State.keyEvent_keeps
    | with_reducible apply State.orphaned_keeps
    | split
    | dsimp -zeta only

theorem State.keyVerify_keeps {s₀ s : State} (n : Nat) (input : List Byte) (h : Keeps s₀ s) : Keeps s₀ (State.keyVerify s n input).2 := by
  unfold State.keyVerify
  repeat' first
    | with_reducible assumption
    | intro _
    | ((fail_if_no_progress extract_lets +onlyGivenNames x); first | (refine keeps_cut (s₀ := s₀) (t := x) ?_ ?_; (on_goal 1 => (try dsimp -zeta only [x])); on_goal 2 => (intro hx; try clear_value x)) | (refine keeps_cut2 (s₀ := s₀) (t := x) ?_ ?_; (on_goal 1 => (try dsimp -zeta only [x])); on_goal 2 => (intro hx; try clear_value x)) | (try clear_value x))
    | (with_reducible refine keeps_snd (by assumption) ?_)
    | with_reducible apply State.keyExpire_keeps
    | with_reducible apply State.bump_keeps
    | with_reducible apply State.flag_keeps
    | with_reducible apply State.keyUse_keeps
    | split
    | dsimp -zeta only

theorem State.attestLow_keeps {s₀ s : State}  (h : Keeps s₀ s) : Keeps s₀ (State.attestLow s) := by
  unfold State.attestLow
  repeat' first
    | with_reducible assumption
    | intro _
    | with_reducible apply State.flagIf_keeps
    | dsimp -zeta only

theorem State.takeIndex_keeps {s₀ s : State}  (h : Keeps s₀ s) : Keeps s₀ (State.takeIndex s).2 := by
  unfold State.takeIndex
  repeat' first
    | with_reducible assumption
    | intro _
    | ((fail_if_no_progress extract_lets +onlyGivenNames x); first | (refine keeps_cut (s₀ := s₀) (t := x) ?_ ?_; (on_goal 1 => (try dsimp -zeta only [x])); on_goal 2 => (intro hx; try clear_value x)) | (refine keeps_cut2 (s₀ := s₀) (t := x) ?_ ?_; (on_goal 1 => (try dsimp -zeta only [x])); on_goal 2 => (intro hx; try clear_value x)) | (try clear_value x))
    | with_reducible apply State.wr_keeps
    | with_reducible apply State.attestLow_keeps
    | split
    | dsimp -zeta only

theorem State.keyStart_keeps {s₀ s : State} (tamperEntries : Nat) (h : Keeps s₀ s) : Keeps s₀ (State.keyStart s tamperEntries) := by
  unfold State.keyStart
  repeat' first
    | with_reducible assumption
    | intro _
    | ((fail_if_no_progress extract_lets +onlyGivenNames x); first | (refine keeps_cut (s₀ := s₀) (t := x) ?_ ?_; (on_goal 1 => (try dsimp -zeta only [x])); on_goal 2 => (intro hx; try clear_value x)) | (refine keeps_cut2 (s₀ := s₀) (t := x) ?_ ?_; (on_goal 1 => (try dsimp -zeta only [x])); on_goal 2 => (intro hx; try clear_value x)) | (refine keeps_cutF (s₀ := s₀) (f := x) ?_ ?_; (on_goal 1 => (try dsimp -zeta only [x])); on_goal 2 => (intro hx; try clear_value x)) | (refine keeps_cutF2 (s₀ := s₀) (f := x) ?_ ?_; (on_goal 1 => (try dsimp -zeta only [x])); on_goal 2 => (intro hx; try clear_value x)) | (refine keeps_cutF5 (s₀ := s₀) (f := x) ?_ ?_; (on_goal 1 => (try dsimp -zeta only [x])); on_goal 2 => (intro hx; try clear_value x)) | (refine keeps_cutFP (s₀ := s₀) (f := x) ?_ ?_; (on_goal 1 => (try dsimp -zeta only [x])); on_goal 2 => (intro hx; try clear_value x)) | (try clear_value x))
    | (with_reducible refine keeps_snd (by assumption) ?_)
    | with_reducible apply State.wr_keeps
    | with_reducible apply State.answer_keeps
    | with_reducible apply State.flag_keeps
    | with_reducible apply State.takeIndex_keeps
    | with_reducible apply State.onKey_keeps
    | with_reducible apply State.begin_keeps
    | with_reducible apply keeps_getD
    | split
    | (fail_if_no_progress (with_reducible apply keeps_mk))
    | dsimp -zeta only
    | with_reducible apply_assumption

theorem State.keyRun_keeps {s₀ s : State} (j : KeyJob) (h : Keeps s₀ s) : Keeps s₀ (State.keyRun s j).2.2 := by
  unfold State.keyRun
  repeat' first
    | with_reducible assumption
    | intro _
    | (with_reducible refine keeps_snd (by assumption) ?_)
    | with_reducible apply State.keyUpdate_keeps
    | with_reducible apply State.keyVerify_keeps
    | with_reducible apply State.keyUse_keeps
    | with_reducible apply State.bump_keeps
    | with_reducible apply State.keyEvent_keeps
    | with_reducible apply State.keyDelete_keeps
    | split
    | dsimp -zeta only

theorem State.keyComplete_keeps {s₀ s : State}  (h : Keeps s₀ s) : Keeps s₀ (State.keyComplete s) := by
  unfold State.keyComplete
  repeat' first
    | with_reducible assumption
    | intro _
    | ((fail_if_no_progress extract_lets +onlyGivenNames x); first | (refine keeps_cut (s₀ := s₀) (t := x) ?_ ?_; (on_goal 1 => (try dsimp -zeta only [x])); on_goal 2 => (intro hx; try clear_value x)) | (refine keeps_cut2 (s₀ := s₀) (t := x) ?_ ?_; (on_goal 1 => (try dsimp -zeta only [x])); on_goal 2 => (intro hx; try clear_value x)) | (try clear_value x))
    | (with_reducible refine keeps_snd (by assumption) ?_)
    | with_reducible apply State.onKey_keeps
    | with_reducible apply State.keyRun_keeps
    | with_reducible apply State.dramWrite_keeps
    | with_reducible apply State.wr_keeps
    | with_reducible apply State.wrB_keeps
    | with_reducible apply State.finish_keeps
    | split
    | (fail_if_no_progress (with_reducible apply keeps_mk))
    | dsimp -zeta only

theorem State.keyForce_keeps {s₀ s : State} (r : Nat) (h : Keeps s₀ s) : Keeps s₀ (State.keyForce s r) := by
  unfold State.keyForce
  repeat' first
    | with_reducible assumption
    | intro _
    | with_reducible apply State.onKey_keeps
    | (fail_if_no_progress (with_reducible apply keeps_mk))
    | dsimp -zeta only

theorem State.keyWrite_keeps {s₀ s : State} (v : Nat) (h : Keeps s₀ s) : Keeps s₀ (State.keyWrite s v) := by
  unfold State.keyWrite
  repeat' first
    | with_reducible assumption
    | intro _
    | with_reducible apply State.onKey_keeps
    | split
    | (fail_if_no_progress (with_reducible apply keeps_mk))
    | dsimp -zeta only

theorem State.keyLen_keeps {s₀ s : State} (v : Nat) (h : Keeps s₀ s) : Keeps s₀ (State.keyLen s v) := by
  unfold State.keyLen
  repeat' first
    | with_reducible assumption
    | intro _
    | with_reducible apply State.wr_keeps
    | with_reducible apply State.onKey_keeps
    | (fail_if_no_progress (with_reducible apply keeps_mk))
    | dsimp -zeta only

theorem State.keyRead_keeps {s₀ s : State}  (h : Keeps s₀ s) : Keeps s₀ (State.keyRead s).2 := by
  unfold State.keyRead
  repeat' first
    | with_reducible assumption
    | intro _
    | with_reducible apply State.onKey_keeps
    | with_reducible apply State.wr_keeps
    | (fail_if_no_progress (with_reducible apply keeps_mk))
    | dsimp -zeta only

theorem State.zeroize_keeps {s₀ s : State} (classP : Bool) (h : Keeps s₀ s) : Keeps s₀ (State.zeroize s classP) := by
  unfold State.zeroize
  repeat' first
    | with_reducible assumption
    | intro _
    | ((fail_if_no_progress extract_lets +onlyGivenNames x); first | (refine keeps_cut (s₀ := s₀) (t := x) ?_ ?_; (on_goal 1 => (try dsimp -zeta only [x])); on_goal 2 => (intro hx; try clear_value x)) | (refine keeps_cut2 (s₀ := s₀) (t := x) ?_ ?_; (on_goal 1 => (try dsimp -zeta only [x])); on_goal 2 => (intro hx; try clear_value x)) | (refine keeps_cutF (s₀ := s₀) (f := x) ?_ ?_; (on_goal 1 => (try dsimp -zeta only [x])); on_goal 2 => (intro hx; try clear_value x)) | (refine keeps_cutF2 (s₀ := s₀) (f := x) ?_ ?_; (on_goal 1 => (try dsimp -zeta only [x])); on_goal 2 => (intro hx; try clear_value x)) | (refine keeps_cutF5 (s₀ := s₀) (f := x) ?_ ?_; (on_goal 1 => (try dsimp -zeta only [x])); on_goal 2 => (intro hx; try clear_value x)) | (refine keeps_cutFP (s₀ := s₀) (f := x) ?_ ?_; (on_goal 1 => (try dsimp -zeta only [x])); on_goal 2 => (intro hx; try clear_value x)) | (try clear_value x))
    | with_reducible apply State.onKey_keeps
    | with_reducible apply State.bump_keeps
    | with_reducible apply State.flag_keeps
    | with_reducible apply State.keyEvent_keeps
    | split
    | (fail_if_no_progress (with_reducible apply keeps_mk))
    | dsimp -zeta only
    | with_reducible apply_assumption

theorem State.unseal_keeps {s₀ s : State} (failed : List Nat) (h : Keeps s₀ s) : Keeps s₀ (State.unseal s failed) := by
  unfold State.unseal
  repeat' first
    | with_reducible assumption
    | intro _
    | ((fail_if_no_progress extract_lets +onlyGivenNames x); first | (refine keeps_cut (s₀ := s₀) (t := x) ?_ ?_; (on_goal 1 => (try dsimp -zeta only [x])); on_goal 2 => (intro hx; try clear_value x)) | (refine keeps_cut2 (s₀ := s₀) (t := x) ?_ ?_; (on_goal 1 => (try dsimp -zeta only [x])); on_goal 2 => (intro hx; try clear_value x)) | (try clear_value x))
    | with_reducible apply State.zeroize_keeps
    | with_reducible apply State.wr_keeps
    | with_reducible apply State.flag_keeps
    | with_reducible apply State.onKey_keeps
    | with_reducible apply State.flagIf_keeps
    | with_reducible apply State.keyExpire_keeps
    | with_reducible apply State.setSlot_keeps
    | with_reducible apply State.keyEvent_keeps
    | with_reducible apply State.attestLow_keeps
    | with_reducible apply keeps_foldl
    | with_reducible apply keeps_foldl_fst
    | with_reducible apply keeps_foldl_snd
    | split
    | (fail_if_no_progress (with_reducible apply keeps_mk))
    | dsimp -zeta only

theorem State.unsealStop_keeps {s₀ s : State}  (h : Keeps s₀ s) : Keeps s₀ (State.unsealStop s) := by
  unfold State.unsealStop
  repeat' first
    | with_reducible assumption
    | intro _
    | with_reducible apply State.onKey_keeps
    | with_reducible apply State.wr_keeps
    | with_reducible apply State.flag_keeps
    | with_reducible apply State.keyEvent_keeps
    | split
    | (fail_if_no_progress (with_reducible apply keeps_mk))
    | dsimp -zeta only

end Sys2Proof.Machine
end

