-- ==== Sys2Proof/Laws/KeepsSwcOps.lean ====
section
/-! SUPPORT. The operations of SwcOps have the relation `Keeps`. -/

namespace Sys2Proof.Machine

open Sys2Proof Reg

set_option linter.unusedTactic false
set_option linter.unreachableTactic false

theorem State.tsqPush_keeps {s₀ s : State} (p : Nat) (c : Copy) (cause : Nat) (intr : Bool) (h : Keeps s₀ s) : Keeps s₀ (State.tsqPush s p c cause intr) := by
  unfold State.tsqPush
  repeat' first
    | with_reducible assumption
    | intro _
    | ((fail_if_no_progress extract_lets +onlyGivenNames x); first | (refine keeps_cut (s₀ := s₀) (t := x) ?_ ?_; (on_goal 1 => (try dsimp -zeta only [x])); on_goal 2 => (intro hx; try clear_value x)) | (refine keeps_cut2 (s₀ := s₀) (t := x) ?_ ?_; (on_goal 1 => (try dsimp -zeta only [x])); on_goal 2 => (intro hx; try clear_value x)) | (try clear_value x))
    | with_reducible apply State.onTsq_keeps
    | with_reducible apply State.bumpI_keeps
    | with_reducible apply State.flag_keeps
    | with_reducible apply State.wrI_keeps
    | split
    | (fail_if_no_progress (with_reducible apply keeps_mk))
    | dsimp -zeta only

theorem State.tsqPop_keeps {s₀ s : State} (p : Nat) (h : Keeps s₀ s) : Keeps s₀ (State.tsqPop s p) := by
  unfold State.tsqPop
  repeat' first
    | with_reducible assumption
    | intro _
    | ((fail_if_no_progress extract_lets +onlyGivenNames x); first | (refine keeps_cut (s₀ := s₀) (t := x) ?_ ?_; (on_goal 1 => (try dsimp -zeta only [x])); on_goal 2 => (intro hx; try clear_value x)) | (refine keeps_cut2 (s₀ := s₀) (t := x) ?_ ?_; (on_goal 1 => (try dsimp -zeta only [x])); on_goal 2 => (intro hx; try clear_value x)) | (try clear_value x))
    | with_reducible apply State.wrI_keeps
    | with_reducible apply State.onTsq_keeps
    | with_reducible apply State.wrK_keeps
    | with_reducible apply keeps_foldl
    | with_reducible apply keeps_foldl_fst
    | with_reducible apply keeps_foldl_snd
    | split
    | (fail_if_no_progress (with_reducible apply keeps_mk))
    | dsimp -zeta only

theorem State.swcRefresh_keeps {s₀ s : State} (p : Nat) (h : Keeps s₀ s) : Keeps s₀ (State.swcRefresh s p) := by
  unfold State.swcRefresh
  repeat' first
    | with_reducible assumption
    | intro _
    | ((fail_if_no_progress extract_lets +onlyGivenNames x); first | (refine keeps_cut (s₀ := s₀) (t := x) ?_ ?_; (on_goal 1 => (try dsimp -zeta only [x])); on_goal 2 => (intro hx; try clear_value x)) | (refine keeps_cut2 (s₀ := s₀) (t := x) ?_ ?_; (on_goal 1 => (try dsimp -zeta only [x])); on_goal 2 => (intro hx; try clear_value x)) | (try clear_value x))
    | with_reducible apply State.wr_keeps
    | with_reducible apply State.wrBI_keeps
    | with_reducible apply State.wrK_keeps
    | with_reducible apply keeps_foldl
    | with_reducible apply keeps_foldl_fst
    | with_reducible apply keeps_foldl_snd
    | dsimp -zeta only

theorem State.dropCopy_keeps {s₀ s : State} (c : Copy) (h : Keeps s₀ s) : Keeps s₀ (State.dropCopy s c) := by
  unfold State.dropCopy
  repeat' first
    | with_reducible assumption
    | intro _
    | with_reducible apply State.onSwc_keeps
    | with_reducible apply State.swcRefresh_keeps
    | (fail_if_no_progress (with_reducible apply keeps_mk))
    | dsimp -zeta only

theorem State.discard_keeps {s₀ s : State} (c : Copy) (cause : Nat) (h : Keeps s₀ s) : Keeps s₀ (State.discard s c cause) := by
  unfold State.discard
  repeat' first
    | with_reducible assumption
    | intro _
    | with_reducible apply State.dropCopy_keeps
    | with_reducible apply State.tsqPush_keeps
    | dsimp -zeta only

theorem State.makeRoom_keeps {s₀ s : State} (fuel n c : Nat) (h : Keeps s₀ s) : Keeps s₀ (State.makeRoom fuel s n c).2 := by
  induction fuel generalizing s with
  | zero => exact h
  | succ fuel ih =>
    unfold State.makeRoom
    split
    · exact h
    · split
      · exact State.flag_keeps _ (State.bump_keeps _ h)
      · exact ih (State.bumpI_keeps _ _ (State.flag_keeps _ (State.bump_keeps _ (State.discard_keeps _ _ h))))

theorem State.hsrEnter_keeps {s₀ s : State} (k : Nat) (bs : List Byte) (h : Keeps s₀ s) : Keeps s₀ (State.hsrEnter s k bs) := by
  unfold State.hsrEnter
  repeat' first
    | with_reducible assumption
    | intro _
    | ((fail_if_no_progress extract_lets +onlyGivenNames x); first | (refine keeps_cut (s₀ := s₀) (t := x) ?_ ?_; (on_goal 1 => (try dsimp -zeta only [x])); on_goal 2 => (intro hx; try clear_value x)) | (refine keeps_cut2 (s₀ := s₀) (t := x) ?_ ?_; (on_goal 1 => (try dsimp -zeta only [x])); on_goal 2 => (intro hx; try clear_value x)) | (try clear_value x))
    | with_reducible apply State.onSwc_keeps
    | split
    | (fail_if_no_progress (with_reducible apply keeps_mk))
    | dsimp -zeta only

theorem State.dropDown_keeps {s₀ s : State} (dests : Nat) (h : Keeps s₀ s) : Keeps s₀ (State.dropDown s dests).2 := by
  unfold State.dropDown
  repeat' first
    | with_reducible assumption
    | intro _
    | with_reducible apply State.bump_keeps
    | with_reducible apply keeps_foldl
    | with_reducible apply keeps_foldl_fst
    | with_reducible apply keeps_foldl_snd
    | split
    | dsimp -zeta only

theorem State.spineEnter_keeps {s₀ s : State} (c : Copy) (h : Keeps s₀ s) : Keeps s₀ (State.spineEnter s c) := by
  unfold State.spineEnter
  repeat' first
    | with_reducible assumption
    | intro _
    | ((fail_if_no_progress extract_lets +onlyGivenNames x); first | (refine keeps_cut (s₀ := s₀) (t := x) ?_ ?_; (on_goal 1 => (try dsimp -zeta only [x])); on_goal 2 => (intro hx; try clear_value x)) | (refine keeps_cut2 (s₀ := s₀) (t := x) ?_ ?_; (on_goal 1 => (try dsimp -zeta only [x])); on_goal 2 => (intro hx; try clear_value x)) | (try clear_value x))
    | with_reducible apply State.onSwc_keeps
    | (fail_if_no_progress (with_reducible apply keeps_mk))
    | dsimp -zeta only

theorem State.enterCells_keeps {s₀ s : State} (c : Copy) (n : Nat) (h : Keeps s₀ s) : Keeps s₀ (State.enterCells s c n) := by
  unfold State.enterCells
  repeat' first
    | with_reducible assumption
    | intro _
    | with_reducible apply State.spineEnter_keeps
    | with_reducible apply State.onSwc_keeps
    | with_reducible apply keeps_foldl
    | with_reducible apply keeps_foldl_fst
    | with_reducible apply keeps_foldl_snd
    | split
    | (fail_if_no_progress (with_reducible apply keeps_mk))
    | dsimp -zeta only

theorem State.arrive_keeps {s₀ s : State} (c : Copy) (h : Keeps s₀ s) : Keeps s₀ (State.arrive s c) := by
  unfold State.arrive
  repeat' first
    | with_reducible assumption
    | intro _
    | ((fail_if_no_progress extract_lets +onlyGivenNames x); first | (refine keeps_cut (s₀ := s₀) (t := x) ?_ ?_; (on_goal 1 => (try dsimp -zeta only [x])); on_goal 2 => (intro hx; try clear_value x)) | (refine keeps_cut2 (s₀ := s₀) (t := x) ?_ ?_; (on_goal 1 => (try dsimp -zeta only [x])); on_goal 2 => (intro hx; try clear_value x)) | (try clear_value x))
    | with_reducible apply State.bump_keeps
    | with_reducible apply State.discard_keeps
    | with_reducible apply State.onSwc_keeps
    | with_reducible apply State.swcRefresh_keeps
    | split
    | (fail_if_no_progress (with_reducible apply keeps_mk))
    | dsimp -zeta only

theorem State.admitCopy_keeps {s₀ s : State} (c : Copy) (h : Keeps s₀ s) : Keeps s₀ (State.admitCopy s c) := by
  unfold State.admitCopy
  repeat' first
    | with_reducible assumption
    | intro _
    | ((fail_if_no_progress extract_lets +onlyGivenNames x); first | (refine keeps_cut (s₀ := s₀) (t := x) ?_ ?_; (on_goal 1 => (try dsimp -zeta only [x])); on_goal 2 => (intro hx; try clear_value x)) | (refine keeps_cut2 (s₀ := s₀) (t := x) ?_ ?_; (on_goal 1 => (try dsimp -zeta only [x])); on_goal 2 => (intro hx; try clear_value x)) | (try clear_value x))
    | (with_reducible refine keeps_snd (by assumption) ?_)
    | with_reducible apply State.bump_keeps
    | with_reducible apply State.tsqPush_keeps
    | with_reducible apply State.flag_keeps
    | with_reducible apply State.makeRoom_keeps
    | with_reducible apply State.onSwc_keeps
    | with_reducible apply State.enterCells_keeps
    | with_reducible apply State.swcRefresh_keeps
    | split
    | (fail_if_no_progress (with_reducible apply keeps_mk))
    | dsimp -zeta only

theorem State.pairAdvance_keeps {s₀ s : State} (dests : Nat) (h : Keeps s₀ s) : Keeps s₀ (State.pairAdvance s dests) := by
  unfold State.pairAdvance
  repeat' first
    | with_reducible assumption
    | intro _
    | ((fail_if_no_progress extract_lets +onlyGivenNames x); first | (refine keeps_cut (s₀ := s₀) (t := x) ?_ ?_; (on_goal 1 => (try dsimp -zeta only [x])); on_goal 2 => (intro hx; try clear_value x)) | (refine keeps_cut2 (s₀ := s₀) (t := x) ?_ ?_; (on_goal 1 => (try dsimp -zeta only [x])); on_goal 2 => (intro hx; try clear_value x)) | (try clear_value x))
    | with_reducible apply State.onSwc_keeps
    | with_reducible apply keeps_getD
    | split
    | (fail_if_no_progress (with_reducible apply keeps_mk))
    | dsimp -zeta only

theorem State.inject_keeps {s₀ s : State} (bs : List Byte) (cls : Nat) (gated : Bool) (ts : Option (Nat × Nat)) (launch : Option Nat) (h : Keeps s₀ s) : Keeps s₀ (State.inject s bs cls gated ts launch).2 := by
  unfold State.inject
  repeat' first
    | with_reducible assumption
    | intro _
    | ((fail_if_no_progress extract_lets +onlyGivenNames x); first | (refine keeps_cut (s₀ := s₀) (t := x) ?_ ?_; (on_goal 1 => (try dsimp -zeta only [x])); on_goal 2 => (intro hx; try clear_value x)) | (refine keeps_cut2 (s₀ := s₀) (t := x) ?_ ?_; (on_goal 1 => (try dsimp -zeta only [x])); on_goal 2 => (intro hx; try clear_value x)) | (try clear_value x))
    | (with_reducible refine keeps_snd (by assumption) ?_)
    | with_reducible apply State.bump_keeps
    | with_reducible apply State.dropDown_keeps
    | with_reducible apply State.admitCopy_keeps
    | with_reducible apply State.pairAdvance_keeps
    | with_reducible apply keeps_foldl
    | with_reducible apply keeps_foldl_fst
    | with_reducible apply keeps_foldl_snd
    | split
    | (fail_if_no_progress (with_reducible apply keeps_mk))
    | dsimp -zeta only

theorem State.injectPort_keeps {s₀ s : State} (bs : List Byte) (cls : Nat) (p : Nat) (h : Keeps s₀ s) : Keeps s₀ (State.injectPort s bs cls p) := by
  unfold State.injectPort
  repeat' first
    | with_reducible assumption
    | intro _
    | with_reducible apply State.bump_keeps
    | with_reducible apply State.admitCopy_keeps
    | split
    | (fail_if_no_progress (with_reducible apply keeps_mk))
    | dsimp -zeta only

theorem State.spineFeed_keeps {s₀ s : State}  (h : Keeps s₀ s) : Keeps s₀ (State.spineFeed s) := by
  unfold State.spineFeed
  repeat' first
    | with_reducible assumption
    | intro _
    | with_reducible apply State.enterCells_keeps
    | with_reducible apply keeps_foldl
    | with_reducible apply keeps_foldl_fst
    | with_reducible apply keeps_foldl_snd
    | dsimp -zeta only

theorem State.spineArrivals_keeps {s₀ s : State}  (h : Keeps s₀ s) : Keeps s₀ (State.spineArrivals s) := by
  unfold State.spineArrivals
  repeat' first
    | with_reducible assumption
    | intro _
    | with_reducible apply State.arrive_keeps
    | with_reducible apply keeps_foldl
    | with_reducible apply keeps_foldl_fst
    | with_reducible apply keeps_foldl_snd
    | dsimp -zeta only

theorem State.spineTick_keeps {s₀ s : State}  (h : Keeps s₀ s) : Keeps s₀ (State.spineTick s) := by
  unfold State.spineTick
  repeat' first
    | with_reducible assumption
    | intro _
    | ((fail_if_no_progress extract_lets +onlyGivenNames x); first | (refine keeps_cut (s₀ := s₀) (t := x) ?_ ?_; (on_goal 1 => (try dsimp -zeta only [x])); on_goal 2 => (intro hx; try clear_value x)) | (refine keeps_cut2 (s₀ := s₀) (t := x) ?_ ?_; (on_goal 1 => (try dsimp -zeta only [x])); on_goal 2 => (intro hx; try clear_value x)) | (try clear_value x))
    | with_reducible apply State.onSwc_keeps
    | with_reducible apply State.spineFeed_keeps
    | with_reducible apply State.spineArrivals_keeps
    | split
    | (fail_if_no_progress (with_reducible apply keeps_mk))
    | dsimp -zeta only

theorem State.keepCut_keeps {s₀ s : State} (r : RxFrame) (bs : List Byte) (vid : Nat) (o : Nat) (h : Keeps s₀ s) : Keeps s₀ (State.keepCut s r bs vid o) := by
  unfold State.keepCut
  repeat' first
    | with_reducible assumption
    | intro _
    | ((fail_if_no_progress extract_lets +onlyGivenNames x); first | (refine keeps_cut (s₀ := s₀) (t := x) ?_ ?_; (on_goal 1 => (try dsimp -zeta only [x])); on_goal 2 => (intro hx; try clear_value x)) | (refine keeps_cut2 (s₀ := s₀) (t := x) ?_ ?_; (on_goal 1 => (try dsimp -zeta only [x])); on_goal 2 => (intro hx; try clear_value x)) | (try clear_value x))
    | with_reducible apply State.onSwc_keeps
    | with_reducible apply State.enterCells_keeps
    | with_reducible apply State.swcRefresh_keeps
    | split
    | (fail_if_no_progress (with_reducible apply keeps_mk))
    | dsimp -zeta only

theorem State.ingress_keeps {s₀ s : State} (p : Nat) (bs : List Byte) (ago : Nat) (h : Keeps s₀ s) : Keeps s₀ (State.ingress s p bs ago) := by
  unfold State.ingress
  repeat' first
    | with_reducible assumption
    | intro _
    | ((fail_if_no_progress extract_lets +onlyGivenNames x); first | (refine keeps_cut (s₀ := s₀) (t := x) ?_ ?_; (on_goal 1 => (try dsimp -zeta only [x])); on_goal 2 => (intro hx; try clear_value x)) | (refine keeps_cut2 (s₀ := s₀) (t := x) ?_ ?_; (on_goal 1 => (try dsimp -zeta only [x])); on_goal 2 => (intro hx; try clear_value x)) | (try clear_value x))
    | (with_reducible refine keeps_snd (by assumption) ?_)
    | with_reducible apply State.bumpIf_keeps
    | with_reducible apply State.bump_keeps
    | with_reducible apply State.hsrEnter_keeps
    | with_reducible apply State.dropDown_keeps
    | with_reducible apply State.onSwc_keeps
    | with_reducible apply State.keepCut_keeps
    | with_reducible apply keeps_foldl
    | with_reducible apply keeps_foldl_fst
    | with_reducible apply keeps_foldl_snd
    | split
    | (fail_if_no_progress (with_reducible apply keeps_mk))
    | dsimp -zeta only

theorem State.storeWhole_keeps {s₀ s : State} (c : Copy) (out : List Byte) (h : Keeps s₀ s) : Keeps s₀ (State.storeWhole s c out) := by
  unfold State.storeWhole
  repeat' first
    | with_reducible assumption
    | intro _
    | ((fail_if_no_progress extract_lets +onlyGivenNames x); first | (refine keeps_cut (s₀ := s₀) (t := x) ?_ ?_; (on_goal 1 => (try dsimp -zeta only [x])); on_goal 2 => (intro hx; try clear_value x)) | (refine keeps_cut2 (s₀ := s₀) (t := x) ?_ ?_; (on_goal 1 => (try dsimp -zeta only [x])); on_goal 2 => (intro hx; try clear_value x)) | (try clear_value x))
    | with_reducible apply State.dropCopy_keeps
    | with_reducible apply State.bump_keeps
    | with_reducible apply State.flag_keeps
    | with_reducible apply State.onSwc_keeps
    | with_reducible apply State.enterCells_keeps
    | with_reducible apply State.swcRefresh_keeps
    | with_reducible apply State.arrive_keeps
    | split
    | (fail_if_no_progress (with_reducible apply keeps_mk))
    | dsimp -zeta only

theorem State.endCut_keeps {s₀ s : State} (r : RxFrame) (bs : List Byte) (vid : Nat) (good : Bool) (c : Copy) (h : Keeps s₀ s) : Keeps s₀ (State.endCut s r bs vid good c) := by
  unfold State.endCut
  repeat' first
    | with_reducible assumption
    | intro _
    | ((fail_if_no_progress extract_lets +onlyGivenNames x); first | (refine keeps_cut (s₀ := s₀) (t := x) ?_ ?_; (on_goal 1 => (try dsimp -zeta only [x])); on_goal 2 => (intro hx; try clear_value x)) | (refine keeps_cut2 (s₀ := s₀) (t := x) ?_ ?_; (on_goal 1 => (try dsimp -zeta only [x])); on_goal 2 => (intro hx; try clear_value x)) | (try clear_value x))
    | with_reducible apply State.storeWhole_keeps
    | with_reducible apply State.dropCopy_keeps
    | with_reducible apply State.bump_keeps
    | with_reducible apply State.flag_keeps
    | with_reducible apply State.enterCells_keeps
    | with_reducible apply State.onSwc_keeps
    | with_reducible apply State.swcRefresh_keeps
    | split
    | (fail_if_no_progress (with_reducible apply keeps_mk))
    | dsimp -zeta only

theorem State.rxEnd_keeps {s₀ s : State} (p : Nat) (bs : List Byte) (good : Bool) (stomped : Bool) (h : Keeps s₀ s) : Keeps s₀ (State.rxEnd s p bs good stomped) := by
  unfold State.rxEnd
  repeat' first
    | with_reducible assumption
    | intro _
    | ((fail_if_no_progress extract_lets +onlyGivenNames x); first | (refine keeps_cut (s₀ := s₀) (t := x) ?_ ?_; (on_goal 1 => (try dsimp -zeta only [x])); on_goal 2 => (intro hx; try clear_value x)) | (refine keeps_cut2 (s₀ := s₀) (t := x) ?_ ?_; (on_goal 1 => (try dsimp -zeta only [x])); on_goal 2 => (intro hx; try clear_value x)) | (try clear_value x))
    | with_reducible apply State.live_keeps
    | with_reducible apply State.bump_keeps
    | with_reducible apply State.flag_keeps
    | with_reducible apply State.onSwc_keeps
    | with_reducible apply State.endCut_keeps
    | with_reducible apply State.admitCopy_keeps
    | with_reducible apply keeps_foldl
    | with_reducible apply keeps_foldl_fst
    | with_reducible apply keeps_foldl_snd
    | split
    | (fail_if_no_progress (with_reducible apply keeps_mk))
    | dsimp -zeta only
    | with_reducible apply_assumption

theorem State.noteOld_keeps {s₀ s : State} (c : Copy) (h : Keeps s₀ s) : Keeps s₀ (State.noteOld s c) := by
  unfold State.noteOld
  repeat' first
    | with_reducible assumption
    | intro _
    | with_reducible apply State.bump_keeps
    | with_reducible apply State.flag_keeps
    | split
    | dsimp -zeta only

theorem State.dropLate_keeps {s₀ s : State} (c : Copy) (h : Keeps s₀ s) : Keeps s₀ (State.dropLate s c) := by
  unfold State.dropLate
  repeat' first
    | with_reducible assumption
    | intro _
    | with_reducible apply State.noteOld_keeps
    | with_reducible apply State.discard_keeps
    | with_reducible apply State.bumpI_keeps
    | with_reducible apply State.bump_keeps
    | with_reducible apply State.flag_keeps
    | dsimp -zeta only

theorem State.dropFar_keeps {s₀ s : State} (c : Copy) (h : Keeps s₀ s) : Keeps s₀ (State.dropFar s c) := by
  unfold State.dropFar
  repeat' first
    | with_reducible assumption
    | intro _
    | with_reducible apply State.discard_keeps
    | with_reducible apply State.bumpI_keeps
    | with_reducible apply State.flag_keeps
    | dsimp -zeta only

theorem State.cullHead_keeps {s₀ s : State} (fuel p c : Nat) (h : Keeps s₀ s) : Keeps s₀ (State.cullHead fuel s p c) := by
  induction fuel generalizing s with
  | zero => exact h
  | succ fuel ih =>
    unfold State.cullHead
    split
    · exact h
    · split
      · exact ih (State.dropLate_keeps _ h)
      · split
        · exact ih (State.dropFar_keeps _ h)
        · split
          · exact ih (State.discard_keeps _ _ (State.noteOld_keeps _ h))
          · exact h

theorem State.retestLaunch_keeps {s₀ s : State}  (h : Keeps s₀ s) : Keeps s₀ (State.retestLaunch s) := by
  unfold State.retestLaunch
  repeat' first
    | with_reducible assumption
    | intro _
    | with_reducible apply State.dropLate_keeps
    | with_reducible apply State.dropFar_keeps
    | with_reducible apply keeps_foldl
    | with_reducible apply keeps_foldl_fst
    | with_reducible apply keeps_foldl_snd
    | split
    | dsimp -zeta only

theorem State.startCopy_keeps {s₀ s : State} (c : Copy) (ts : Nat) (h : Keeps s₀ s) : Keeps s₀ (State.startCopy s c ts) := by
  unfold State.startCopy
  repeat' first
    | with_reducible assumption
    | intro _
    | with_reducible apply State.onSwc_keeps
    | with_reducible apply State.wrI_keeps
    | with_reducible apply State.swcRefresh_keeps
    | split
    | (fail_if_no_progress (with_reducible apply keeps_mk))
    | dsimp -zeta only

theorem State.startNow_keeps {s₀ s : State} (x : Copy) (h : Keeps s₀ s) : Keeps s₀ (State.startNow s x) := by
  unfold State.startNow
  repeat' first
    | with_reducible assumption
    | intro _
    | with_reducible apply State.startCopy_keeps
    | dsimp -zeta only

theorem State.resumeRest_keeps {s₀ s : State} (r : Copy) (h : Keeps s₀ s) : Keeps s₀ (State.resumeRest s r) := by
  unfold State.resumeRest
  repeat' first
    | with_reducible assumption
    | intro _
    | with_reducible apply State.onSwc_keeps
    | with_reducible apply State.wrI_keeps
    | split
    | (fail_if_no_progress (with_reducible apply keeps_mk))
    | dsimp -zeta only

theorem State.noteDefer_keeps {s₀ s : State} (x : Copy) (h : Keeps s₀ s) : Keeps s₀ (State.noteDefer s x) := by
  unfold State.noteDefer
  repeat' first
    | with_reducible assumption
    | intro _
    | with_reducible apply State.bumpI_keeps
    | with_reducible apply State.onMac_keeps
    | split
    | (fail_if_no_progress (with_reducible apply keeps_mk))
    | dsimp -zeta only

theorem State.startNext_keeps {s₀ s : State} (p : Nat) (h : Keeps s₀ s) : Keeps s₀ (State.startNext s p) := by
  unfold State.startNext
  repeat' first
    | with_reducible assumption
    | intro _
    | ((fail_if_no_progress extract_lets +onlyGivenNames x); first | (refine keeps_cut (s₀ := s₀) (t := x) ?_ ?_; (on_goal 1 => (try dsimp -zeta only [x])); on_goal 2 => (intro hx; try clear_value x)) | (refine keeps_cut2 (s₀ := s₀) (t := x) ?_ ?_; (on_goal 1 => (try dsimp -zeta only [x])); on_goal 2 => (intro hx; try clear_value x)) | (try clear_value x))
    | with_reducible apply State.onMac_keeps
    | with_reducible apply State.bumpI_keeps
    | with_reducible apply State.startNow_keeps
    | with_reducible apply State.resumeRest_keeps
    | with_reducible apply State.noteDefer_keeps
    | split
    | (fail_if_no_progress (with_reducible apply keeps_mk))
    | dsimp -zeta only

theorem State.cullPort_keeps {s₀ s : State} (p : Nat) (h : Keeps s₀ s) : Keeps s₀ (State.cullPort s p) := by
  unfold State.cullPort
  repeat' first
    | with_reducible assumption
    | intro _
    | with_reducible apply State.cullHead_keeps
    | with_reducible apply keeps_foldl
    | with_reducible apply keeps_foldl_fst
    | with_reducible apply keeps_foldl_snd
    | dsimp -zeta only

theorem State.egressStart_keeps {s₀ s : State} (p : Nat) (h : Keeps s₀ s) : Keeps s₀ (State.egressStart s p) := by
  unfold State.egressStart
  repeat' first
    | with_reducible assumption
    | intro _
    | with_reducible apply State.cullPort_keeps
    | with_reducible apply State.startNext_keeps
    | split
    | dsimp -zeta only

theorem State.carrier_keeps {s₀ s : State} (on : Bool) (h : Keeps s₀ s) : Keeps s₀ (State.carrier s on) := by
  unfold State.carrier
  repeat' first
    | with_reducible assumption
    | intro _
    | with_reducible apply State.wrI_keeps
    | with_reducible apply State.onMac_keeps
    | split
    | (fail_if_no_progress (with_reducible apply keeps_mk))
    | dsimp -zeta only

theorem State.cutStart_keeps {s₀ s : State} (p : Nat) (h : Keeps s₀ s) : Keeps s₀ (State.cutStart s p) := by
  unfold State.cutStart
  repeat' first
    | with_reducible assumption
    | intro _
    | with_reducible apply State.startNow_keeps
    | with_reducible apply State.bumpI_keeps
    | split
    | dsimp -zeta only

theorem State.timedLaunch_keeps {s₀ s : State} (p : Nat) (h : Keeps s₀ s) : Keeps s₀ (State.timedLaunch s p) := by
  unfold State.timedLaunch
  repeat' first
    | with_reducible assumption
    | intro _
    | ((fail_if_no_progress extract_lets +onlyGivenNames x); first | (refine keeps_cut (s₀ := s₀) (t := x) ?_ ?_; (on_goal 1 => (try dsimp -zeta only [x])); on_goal 2 => (intro hx; try clear_value x)) | (refine keeps_cut2 (s₀ := s₀) (t := x) ?_ ?_; (on_goal 1 => (try dsimp -zeta only [x])); on_goal 2 => (intro hx; try clear_value x)) | (try clear_value x))
    | (with_reducible refine keeps_snd (by assumption) ?_)
    | with_reducible apply State.fresh_keeps
    | with_reducible apply State.startCopy_keeps
    | with_reducible apply keeps_getD
    | split
    | dsimp -zeta only

theorem State.launchLateAll_keeps {s₀ s : State} (p : Nat) (h : Keeps s₀ s) : Keeps s₀ (State.launchLateAll s p) := by
  unfold State.launchLateAll
  repeat' first
    | with_reducible assumption
    | intro _
    | with_reducible apply State.dropLate_keeps
    | with_reducible apply keeps_foldl
    | with_reducible apply keeps_foldl_fst
    | with_reducible apply keeps_foldl_snd
    | split
    | dsimp -zeta only

theorem State.txDone_keeps {s₀ s : State} (p : Nat) (h : Keeps s₀ s) : Keeps s₀ (State.txDone s p) := by
  unfold State.txDone
  repeat' first
    | with_reducible assumption
    | intro _
    | ((fail_if_no_progress extract_lets +onlyGivenNames x); first | (refine keeps_cut (s₀ := s₀) (t := x) ?_ ?_; (on_goal 1 => (try dsimp -zeta only [x])); on_goal 2 => (intro hx; try clear_value x)) | (refine keeps_cut2 (s₀ := s₀) (t := x) ?_ ?_; (on_goal 1 => (try dsimp -zeta only [x])); on_goal 2 => (intro hx; try clear_value x)) | (try clear_value x))
    | with_reducible apply State.dropCopy_keeps
    | with_reducible apply State.bumpI_keeps
    | with_reducible apply State.wrI_keeps
    | with_reducible apply State.tsqPush_keeps
    | with_reducible apply State.onMac_keeps
    | with_reducible apply keeps_foldl
    | with_reducible apply keeps_foldl_fst
    | with_reducible apply keeps_foldl_snd
    | split
    | (fail_if_no_progress (with_reducible apply keeps_mk))
    | dsimp -zeta only

theorem State.bufferEcc_keeps {s₀ s : State} (id : Nat) (correctable : Bool) (h : Keeps s₀ s) : Keeps s₀ (State.bufferEcc s id correctable) := by
  unfold State.bufferEcc
  repeat' first
    | with_reducible assumption
    | intro _
    | with_reducible apply State.bump_keeps
    | with_reducible apply State.flag_keeps
    | with_reducible apply State.onSwc_keeps
    | with_reducible apply State.discard_keeps
    | split
    | (fail_if_no_progress (with_reducible apply keeps_mk))
    | dsimp -zeta only

theorem State.flushPort_keeps {s₀ s : State} (p : Nat) (h : Keeps s₀ s) : Keeps s₀ (State.flushPort s p) := by
  unfold State.flushPort
  repeat' first
    | with_reducible assumption
    | intro _
    | ((fail_if_no_progress extract_lets +onlyGivenNames x); first | (refine keeps_cut (s₀ := s₀) (t := x) ?_ ?_; (on_goal 1 => (try dsimp -zeta only [x])); on_goal 2 => (intro hx; try clear_value x)) | (refine keeps_cut2 (s₀ := s₀) (t := x) ?_ ?_; (on_goal 1 => (try dsimp -zeta only [x])); on_goal 2 => (intro hx; try clear_value x)) | (try clear_value x))
    | with_reducible apply State.discard_keeps
    | with_reducible apply State.bumpI_keeps
    | with_reducible apply State.onMac_keeps
    | with_reducible apply State.tsqPush_keeps
    | with_reducible apply State.flag_keeps
    | with_reducible apply keeps_foldl
    | with_reducible apply keeps_foldl_fst
    | with_reducible apply keeps_foldl_snd
    | split
    | (fail_if_no_progress (with_reducible apply keeps_mk))
    | dsimp -zeta only

theorem State.abortPort_keeps {s₀ s : State} (p : Nat) (h : Keeps s₀ s) : Keeps s₀ (State.abortPort s p) := by
  unfold State.abortPort
  repeat' first
    | with_reducible assumption
    | intro _
    | with_reducible apply State.discard_keeps
    | with_reducible apply State.bumpI_keeps
    | with_reducible apply keeps_foldl
    | with_reducible apply keeps_foldl_fst
    | with_reducible apply keeps_foldl_snd
    | split
    | dsimp -zeta only

theorem State.portCounts_keeps {s₀ s : State}  (h : Keeps s₀ s) : Keeps s₀ (State.portCounts s) := by
  unfold State.portCounts
  repeat' first
    | with_reducible assumption
    | intro _
    | with_reducible apply State.wr_keeps
    | dsimp -zeta only

theorem State.linkLost_keeps {s₀ s : State} (p : Nat) (h : Keeps s₀ s) : Keeps s₀ (State.linkLost s p) := by
  unfold State.linkLost
  repeat' first
    | with_reducible assumption
    | intro _
    | ((fail_if_no_progress extract_lets +onlyGivenNames x); first | (refine keeps_cut (s₀ := s₀) (t := x) ?_ ?_; (on_goal 1 => (try dsimp -zeta only [x])); on_goal 2 => (intro hx; try clear_value x)) | (refine keeps_cut2 (s₀ := s₀) (t := x) ?_ ?_; (on_goal 1 => (try dsimp -zeta only [x])); on_goal 2 => (intro hx; try clear_value x)) | (try clear_value x))
    | with_reducible apply State.abortPort_keeps
    | with_reducible apply State.wrI_keeps
    | with_reducible apply State.flushPort_keeps
    | with_reducible apply State.portCounts_keeps
    | with_reducible apply State.bumpI_keeps
    | with_reducible apply State.flag_keeps
    | with_reducible apply State.onSwc_keeps
    | split
    | (fail_if_no_progress (with_reducible apply keeps_mk))
    | dsimp -zeta only

theorem State.linkReturned_keeps {s₀ s : State} (p : Nat) (h : Keeps s₀ s) : Keeps s₀ (State.linkReturned s p) := by
  unfold State.linkReturned
  repeat' first
    | with_reducible assumption
    | intro _
    | ((fail_if_no_progress extract_lets +onlyGivenNames x); first | (refine keeps_cut (s₀ := s₀) (t := x) ?_ ?_; (on_goal 1 => (try dsimp -zeta only [x])); on_goal 2 => (intro hx; try clear_value x)) | (refine keeps_cut2 (s₀ := s₀) (t := x) ?_ ?_; (on_goal 1 => (try dsimp -zeta only [x])); on_goal 2 => (intro hx; try clear_value x)) | (try clear_value x))
    | with_reducible apply State.flushPort_keeps
    | with_reducible apply State.bumpI_keeps
    | with_reducible apply State.wrI_keeps
    | with_reducible apply State.onSwc_keeps
    | with_reducible apply State.portCounts_keeps
    | split
    | (fail_if_no_progress (with_reducible apply keeps_mk))
    | dsimp -zeta only

theorem State.holdExpire_keeps {s₀ s : State} (p : Nat) (h : Keeps s₀ s) : Keeps s₀ (State.holdExpire s p) := by
  unfold State.holdExpire
  repeat' first
    | with_reducible assumption
    | intro _
    | with_reducible apply State.wrI_keeps
    | with_reducible apply State.onSwc_keeps
    | with_reducible apply State.bumpI_keeps
    | with_reducible apply State.flushPort_keeps
    | with_reducible apply State.portCounts_keeps
    | split
    | (fail_if_no_progress (with_reducible apply keeps_mk))
    | dsimp -zeta only

theorem State.supReady_keeps {s₀ s : State}  (h : Keeps s₀ s) : Keeps s₀ (State.supReady s) := by
  unfold State.supReady
  repeat' first
    | with_reducible assumption
    | intro _
    | with_reducible apply State.onSwc_keeps
    | with_reducible apply keeps_foldl
    | with_reducible apply keeps_foldl_fst
    | with_reducible apply keeps_foldl_snd
    | (fail_if_no_progress (with_reducible apply keeps_mk))
    | dsimp -zeta only

theorem State.supervision_keeps {s₀ s : State} (k : Nat) (h : Keeps s₀ s) : Keeps s₀ (State.supervision s k) := by
  unfold State.supervision
  repeat' first
    | with_reducible assumption
    | intro _
    | ((fail_if_no_progress extract_lets +onlyGivenNames x); first | (refine keeps_cut (s₀ := s₀) (t := x) ?_ ?_; (on_goal 1 => (try dsimp -zeta only [x])); on_goal 2 => (intro hx; try clear_value x)) | (refine keeps_cut2 (s₀ := s₀) (t := x) ?_ ?_; (on_goal 1 => (try dsimp -zeta only [x])); on_goal 2 => (intro hx; try clear_value x)) | (try clear_value x))
    | with_reducible apply State.injectPort_keeps
    | with_reducible apply State.onSwc_keeps
    | with_reducible apply keeps_getD
    | split
    | (fail_if_no_progress (with_reducible apply keeps_mk))
    | dsimp -zeta only

end Sys2Proof.Machine
end

