-- ==== Sys2Proof/Laws/KeepsMacOps.lean ====
section
/-! SUPPORT. The operations of MacOps have the relation `Keeps`. -/

namespace Sys2Proof.Machine

open Sys2Proof Reg

set_option linter.unusedTactic false
set_option linter.unreachableTactic false

theorem State.macRefresh_keeps {s₀ s : State} (p : Nat) (h : Keeps s₀ s) : Keeps s₀ (State.macRefresh s p) := by
  unfold State.macRefresh
  repeat' first
    | with_reducible assumption
    | intro _
    | with_reducible apply State.wrBI_keeps
    | dsimp -zeta only

theorem State.verifySend_keeps {s₀ s : State} (p : Nat) (h : Keeps s₀ s) : Keeps s₀ (State.verifySend s p) := by
  unfold State.verifySend
  repeat' first
    | with_reducible assumption
    | intro _
    | with_reducible apply State.wrI_keeps
    | with_reducible apply State.bumpI_keeps
    | with_reducible apply State.onMac_keeps
    | (fail_if_no_progress (with_reducible apply keeps_mk))
    | dsimp -zeta only

theorem State.verifyInitial_keeps {s₀ s : State} (p : Nat) (h : Keeps s₀ s) : Keeps s₀ (State.verifyInitial s p) := by
  unfold State.verifyInitial
  repeat' first
    | with_reducible assumption
    | intro _
    | with_reducible apply State.wrI_keeps
    | with_reducible apply State.onMac_keeps
    | with_reducible apply State.macRefresh_keeps
    | (fail_if_no_progress (with_reducible apply keeps_mk))
    | dsimp -zeta only

theorem State.verifyStart_keeps {s₀ s : State} (p : Nat) (h : Keeps s₀ s) : Keeps s₀ (State.verifyStart s p) := by
  unfold State.verifyStart
  repeat' first
    | with_reducible assumption
    | intro _
    | with_reducible apply State.verifySend_keeps
    | split
    | dsimp -zeta only

theorem State.losePreempted_keeps {s₀ s : State} (p : Nat) (h : Keeps s₀ s) : Keeps s₀ (State.losePreempted s p) := by
  unfold State.losePreempted
  repeat' first
    | with_reducible assumption
    | intro _
    | with_reducible apply State.discard_keeps
    | with_reducible apply State.bumpI_keeps
    | with_reducible apply keeps_foldl
    | with_reducible apply keeps_foldl_fst
    | with_reducible apply keeps_foldl_snd
    | dsimp -zeta only

theorem State.verifyOver_keeps {s₀ s : State} (p : Nat) (h : Keeps s₀ s) : Keeps s₀ (State.verifyOver s p) := by
  unfold State.verifyOver
  repeat' first
    | with_reducible assumption
    | intro _
    | with_reducible apply State.verifyInitial_keeps
    | with_reducible apply State.verifyStart_keeps
    | with_reducible apply State.macRefresh_keeps
    | dsimp -zeta only

theorem State.verifyRestart_keeps {s₀ s : State} (p : Nat) (h : Keeps s₀ s) : Keeps s₀ (State.verifyRestart s p) := by
  unfold State.verifyRestart
  repeat' first
    | with_reducible assumption
    | intro _
    | with_reducible apply State.losePreempted_keeps
    | with_reducible apply State.verifyOver_keeps
    | split
    | dsimp -zeta only

theorem State.macReady_keeps {s₀ s : State}  (h : Keeps s₀ s) : Keeps s₀ (State.macReady s) := by
  unfold State.macReady
  repeat' first
    | with_reducible assumption
    | intro _
    | with_reducible apply State.verifyOver_keeps
    | with_reducible apply keeps_foldl
    | with_reducible apply keeps_foldl_fst
    | with_reducible apply keeps_foldl_snd
    | dsimp -zeta only

theorem State.verifyTimeout_keeps {s₀ s : State} (p : Nat) (h : Keeps s₀ s) : Keeps s₀ (State.verifyTimeout s p) := by
  unfold State.verifyTimeout
  repeat' first
    | with_reducible assumption
    | intro _
    | with_reducible apply State.verifySend_keeps
    | with_reducible apply State.wrI_keeps
    | with_reducible apply State.flagI_keeps
    | with_reducible apply State.onMac_keeps
    | with_reducible apply State.macRefresh_keeps
    | split
    | (fail_if_no_progress (with_reducible apply keeps_mk))
    | dsimp -zeta only

theorem State.verifyResponse_keeps {s₀ s : State} (p : Nat) (h : Keeps s₀ s) : Keeps s₀ (State.verifyResponse s p) := by
  unfold State.verifyResponse
  repeat' first
    | with_reducible assumption
    | intro _
    | with_reducible apply State.wrI_keeps
    | with_reducible apply State.onMac_keeps
    | with_reducible apply State.macRefresh_keeps
    | split
    | (fail_if_no_progress (with_reducible apply keeps_mk))
    | dsimp -zeta only

theorem State.verifyReceived_keeps {s₀ s : State} (p : Nat) (h : Keeps s₀ s) : Keeps s₀ (State.verifyReceived s p) := by
  unfold State.verifyReceived
  repeat' first
    | with_reducible assumption
    | intro _
    | with_reducible apply State.onMac_keeps
    | split
    | (fail_if_no_progress (with_reducible apply keeps_mk))
    | dsimp -zeta only

theorem State.pauseStop_keeps {s₀ s : State} (p : Nat) (h : Keeps s₀ s) : Keeps s₀ (State.pauseStop s p) := by
  unfold State.pauseStop
  repeat' first
    | with_reducible assumption
    | intro _
    | ((fail_if_no_progress extract_lets +onlyGivenNames x); first | (refine keeps_cut (s₀ := s₀) (t := x) ?_ ?_; (on_goal 1 => (try dsimp -zeta only [x])); on_goal 2 => (intro hx; try clear_value x)) | (refine keeps_cut2 (s₀ := s₀) (t := x) ?_ ?_; (on_goal 1 => (try dsimp -zeta only [x])); on_goal 2 => (intro hx; try clear_value x)) | (try clear_value x))
    | with_reducible apply State.bumpByI_keeps
    | with_reducible apply State.wrI_keeps
    | with_reducible apply State.onMac_keeps
    | split
    | (fail_if_no_progress (with_reducible apply keeps_mk))
    | dsimp -zeta only

theorem State.pauseReceived_keeps {s₀ s : State} (p : Nat) (q : Nat) (h : Keeps s₀ s) : Keeps s₀ (State.pauseReceived s p q) := by
  unfold State.pauseReceived
  repeat' first
    | with_reducible assumption
    | intro _
    | ((fail_if_no_progress extract_lets +onlyGivenNames x); first | (refine keeps_cut (s₀ := s₀) (t := x) ?_ ?_; (on_goal 1 => (try dsimp -zeta only [x])); on_goal 2 => (intro hx; try clear_value x)) | (refine keeps_cut2 (s₀ := s₀) (t := x) ?_ ?_; (on_goal 1 => (try dsimp -zeta only [x])); on_goal 2 => (intro hx; try clear_value x)) | (try clear_value x))
    | with_reducible apply State.bumpI_keeps
    | with_reducible apply State.flagI_keeps
    | with_reducible apply State.pauseStop_keeps
    | with_reducible apply State.wrI_keeps
    | with_reducible apply State.onMac_keeps
    | split
    | (fail_if_no_progress (with_reducible apply keeps_mk))
    | dsimp -zeta only

theorem State.pauseExpire_keeps {s₀ s : State} (p : Nat) (h : Keeps s₀ s) : Keeps s₀ (State.pauseExpire s p) := by
  unfold State.pauseExpire
  repeat' first
    | with_reducible assumption
    | intro _
    | with_reducible apply State.pauseStop_keeps
    | split
    | dsimp -zeta only

theorem State.pauseQueue_keeps {s₀ s : State} (p : Nat) (q : Nat) (h : Keeps s₀ s) : Keeps s₀ (State.pauseQueue s p q) := by
  unfold State.pauseQueue
  repeat' first
    | with_reducible assumption
    | intro _
    | with_reducible apply State.onMac_keeps
    | (fail_if_no_progress (with_reducible apply keeps_mk))
    | dsimp -zeta only

theorem State.pauseArm_keeps {s₀ s : State} (p : Nat) (h : Keeps s₀ s) : Keeps s₀ (State.pauseArm s p) := by
  unfold State.pauseArm
  repeat' first
    | with_reducible assumption
    | intro _
    | with_reducible apply State.onMac_keeps
    | (fail_if_no_progress (with_reducible apply keeps_mk))
    | dsimp -zeta only

theorem State.pauseXoff_keeps {s₀ s : State} (p : Nat) (h : Keeps s₀ s) : Keeps s₀ (State.pauseXoff s p) := by
  unfold State.pauseXoff
  repeat' first
    | with_reducible assumption
    | intro _
    | with_reducible apply State.pauseQueue_keeps
    | with_reducible apply State.wrI_keeps
    | with_reducible apply State.flagI_keeps
    | with_reducible apply State.pauseArm_keeps
    | split
    | dsimp -zeta only

theorem State.pauseRefresh_keeps {s₀ s : State} (p : Nat) (h : Keeps s₀ s) : Keeps s₀ (State.pauseRefresh s p) := by
  unfold State.pauseRefresh
  repeat' first
    | with_reducible assumption
    | intro _
    | with_reducible apply State.pauseQueue_keeps
    | with_reducible apply State.pauseArm_keeps
    | split
    | dsimp -zeta only

theorem State.xoffClear_keeps {s₀ s : State} (p : Nat) (h : Keeps s₀ s) : Keeps s₀ (State.xoffClear s p) := by
  unfold State.xoffClear
  repeat' first
    | with_reducible assumption
    | intro _
    | with_reducible apply State.wrI_keeps
    | with_reducible apply State.onMac_keeps
    | (fail_if_no_progress (with_reducible apply keeps_mk))
    | dsimp -zeta only

theorem State.pauseXon_keeps {s₀ s : State} (p : Nat) (h : Keeps s₀ s) : Keeps s₀ (State.pauseXon s p) := by
  unfold State.pauseXon
  repeat' first
    | with_reducible assumption
    | intro _
    | with_reducible apply State.pauseQueue_keeps
    | with_reducible apply State.xoffClear_keeps
    | split
    | dsimp -zeta only

theorem State.reportLost_keeps {s₀ s : State} (p : Nat) (h : Keeps s₀ s) : Keeps s₀ (State.reportLost s p) := by
  unfold State.reportLost
  repeat' first
    | with_reducible assumption
    | intro _
    | ((fail_if_no_progress extract_lets +onlyGivenNames x); first | (refine keeps_cut (s₀ := s₀) (t := x) ?_ ?_; (on_goal 1 => (try dsimp -zeta only [x])); on_goal 2 => (intro hx; try clear_value x)) | (refine keeps_cut2 (s₀ := s₀) (t := x) ?_ ?_; (on_goal 1 => (try dsimp -zeta only [x])); on_goal 2 => (intro hx; try clear_value x)) | (try clear_value x))
    | with_reducible apply State.wrI_keeps
    | with_reducible apply State.bumpI_keeps
    | with_reducible apply State.flagI_keeps
    | with_reducible apply State.onMac_keeps
    | with_reducible apply State.verifyInitial_keeps
    | with_reducible apply State.pauseStop_keeps
    | with_reducible apply State.xoffClear_keeps
    | with_reducible apply State.linkLost_keeps
    | with_reducible apply State.macRefresh_keeps
    | split
    | (fail_if_no_progress (with_reducible apply keeps_mk))
    | dsimp -zeta only

theorem State.macLinkLost_keeps {s₀ s : State} (p : Nat) (los : Bool) (h : Keeps s₀ s) : Keeps s₀ (State.macLinkLost s p los) := by
  unfold State.macLinkLost
  repeat' first
    | with_reducible assumption
    | intro _
    | with_reducible apply State.wrI_keeps
    | with_reducible apply State.onMac_keeps
    | with_reducible apply State.reportLost_keeps
    | split
    | (fail_if_no_progress (with_reducible apply keeps_mk))
    | dsimp -zeta only

theorem State.linkQualified_keeps {s₀ s : State} (p : Nat) (h : Keeps s₀ s) : Keeps s₀ (State.linkQualified s p) := by
  unfold State.linkQualified
  repeat' first
    | with_reducible assumption
    | intro _
    | ((fail_if_no_progress extract_lets +onlyGivenNames x); first | (refine keeps_cut (s₀ := s₀) (t := x) ?_ ?_; (on_goal 1 => (try dsimp -zeta only [x])); on_goal 2 => (intro hx; try clear_value x)) | (refine keeps_cut2 (s₀ := s₀) (t := x) ?_ ?_; (on_goal 1 => (try dsimp -zeta only [x])); on_goal 2 => (intro hx; try clear_value x)) | (try clear_value x))
    | with_reducible apply State.onMac_keeps
    | with_reducible apply State.wrI_keeps
    | with_reducible apply State.verifyInitial_keeps
    | with_reducible apply State.verifyStart_keeps
    | with_reducible apply State.macRefresh_keeps
    | split
    | (fail_if_no_progress (with_reducible apply keeps_mk))
    | dsimp -zeta only

theorem State.macLinkReturned_keeps {s₀ s : State} (p : Nat) (h : Keeps s₀ s) : Keeps s₀ (State.macLinkReturned s p) := by
  unfold State.macLinkReturned
  repeat' first
    | with_reducible assumption
    | intro _
    | with_reducible apply State.linkReturned_keeps
    | split
    | dsimp -zeta only

theorem State.portAUp_keeps {s₀ s : State}  (h : Keeps s₀ s) : Keeps s₀ (State.portAUp s) := by
  unfold State.portAUp
  repeat' first
    | with_reducible assumption
    | intro _
    | with_reducible apply State.wrI_keeps
    | with_reducible apply State.linkReturned_keeps
    | split
    | dsimp -zeta only

theorem State.portEn_keeps {s₀ s : State} (p : Nat) (en : Bool) (h : Keeps s₀ s) : Keeps s₀ (State.portEn s p en) := by
  unfold State.portEn
  repeat' first
    | with_reducible assumption
    | intro _
    | ((fail_if_no_progress extract_lets +onlyGivenNames x); first | (refine keeps_cut (s₀ := s₀) (t := x) ?_ ?_; (on_goal 1 => (try dsimp -zeta only [x])); on_goal 2 => (intro hx; try clear_value x)) | (refine keeps_cut2 (s₀ := s₀) (t := x) ?_ ?_; (on_goal 1 => (try dsimp -zeta only [x])); on_goal 2 => (intro hx; try clear_value x)) | (try clear_value x))
    | with_reducible apply State.wrBI_keeps
    | with_reducible apply State.onMac_keeps
    | with_reducible apply State.portAUp_keeps
    | with_reducible apply State.reportLost_keeps
    | split
    | (fail_if_no_progress (with_reducible apply keeps_mk))
    | dsimp -zeta only

theorem State.sfpOvercurrent_keeps {s₀ s : State} (p : Nat) (h : Keeps s₀ s) : Keeps s₀ (State.sfpOvercurrent s p) := by
  unfold State.sfpOvercurrent
  repeat' first
    | with_reducible assumption
    | intro _
    | with_reducible apply State.flagI_keeps
    | with_reducible apply State.onMac_keeps
    | with_reducible apply State.macLinkLost_keeps
    | (fail_if_no_progress (with_reducible apply keeps_mk))
    | dsimp -zeta only

theorem State.sfpFault_keeps {s₀ s : State} (p : Nat) (removed : Bool) (h : Keeps s₀ s) : Keeps s₀ (State.sfpFault s p removed) := by
  unfold State.sfpFault
  repeat' first
    | with_reducible assumption
    | intro _
    | ((fail_if_no_progress extract_lets +onlyGivenNames x); first | (refine keeps_cut (s₀ := s₀) (t := x) ?_ ?_; (on_goal 1 => (try dsimp -zeta only [x])); on_goal 2 => (intro hx; try clear_value x)) | (refine keeps_cut2 (s₀ := s₀) (t := x) ?_ ?_; (on_goal 1 => (try dsimp -zeta only [x])); on_goal 2 => (intro hx; try clear_value x)) | (try clear_value x))
    | with_reducible apply State.flagI_keeps
    | with_reducible apply State.wrI_keeps
    | with_reducible apply State.onMac_keeps
    | with_reducible apply State.macLinkLost_keeps
    | split
    | (fail_if_no_progress (with_reducible apply keeps_mk))
    | dsimp -zeta only

theorem State.rxDrop_keeps {s₀ s : State} (p : Nat) (bs : List Byte) (h : Keeps s₀ s) : Keeps s₀ (State.rxDrop s p bs) := by
  unfold State.rxDrop
  repeat' first
    | with_reducible assumption
    | intro _
    | ((fail_if_no_progress extract_lets +onlyGivenNames x); first | (refine keeps_cut (s₀ := s₀) (t := x) ?_ ?_; (on_goal 1 => (try dsimp -zeta only [x])); on_goal 2 => (intro hx; try clear_value x)) | (refine keeps_cut2 (s₀ := s₀) (t := x) ?_ ?_; (on_goal 1 => (try dsimp -zeta only [x])); on_goal 2 => (intro hx; try clear_value x)) | (try clear_value x))
    | with_reducible apply State.onSwc_keeps
    | with_reducible apply State.endCut_keeps
    | with_reducible apply keeps_foldl
    | with_reducible apply keeps_foldl_fst
    | with_reducible apply keeps_foldl_snd
    | split
    | (fail_if_no_progress (with_reducible apply keeps_mk))
    | dsimp -zeta only

theorem State.macBadFcs_keeps {s₀ s : State} (p : Nat) (h : Keeps s₀ s) : Keeps s₀ (State.macBadFcs s p) := by
  unfold State.macBadFcs
  repeat' first
    | with_reducible assumption
    | intro _
    | with_reducible apply State.bumpI_keeps
    | with_reducible apply State.flagI_keeps
    | dsimp -zeta only

theorem State.macAssyErr_keeps {s₀ s : State} (p : Nat) (h : Keeps s₀ s) : Keeps s₀ (State.macAssyErr s p) := by
  unfold State.macAssyErr
  repeat' first
    | with_reducible assumption
    | intro _
    | with_reducible apply State.bumpI_keeps
    | with_reducible apply State.flagI_keeps
    | dsimp -zeta only

theorem State.macIngress_keeps {s₀ s : State} (p : Nat) (bs : List Byte) (ago : Nat) (h : Keeps s₀ s) : Keeps s₀ (State.macIngress s p bs ago) := by
  unfold State.macIngress
  repeat' first
    | with_reducible assumption
    | intro _
    | with_reducible apply State.carrier_keeps
    | with_reducible apply State.ingress_keeps
    | split
    | dsimp -zeta only

theorem State.macRxEnd_keeps {s₀ s : State} (p : Nat) (bs : List Byte) (v : RxEnd) (frags : Nat) (h : Keeps s₀ s) : Keeps s₀ (State.macRxEnd s p bs v frags) := by
  unfold State.macRxEnd
  repeat' first
    | with_reducible assumption
    | intro _
    | ((fail_if_no_progress extract_lets +onlyGivenNames x); first | (refine keeps_cut (s₀ := s₀) (t := x) ?_ ?_; (on_goal 1 => (try dsimp -zeta only [x])); on_goal 2 => (intro hx; try clear_value x)) | (refine keeps_cut2 (s₀ := s₀) (t := x) ?_ ?_; (on_goal 1 => (try dsimp -zeta only [x])); on_goal 2 => (intro hx; try clear_value x)) | (try clear_value x))
    | with_reducible apply State.wrI_keeps
    | with_reducible apply State.onMac_keeps
    | with_reducible apply State.bumpByI_keeps
    | with_reducible apply State.bumpI_keeps
    | with_reducible apply State.flagI_keeps
    | with_reducible apply State.macBadFcs_keeps
    | with_reducible apply State.rxEnd_keeps
    | with_reducible apply State.rxDrop_keeps
    | with_reducible apply State.linkLost_keeps
    | with_reducible apply State.macAssyErr_keeps
    | split
    | (fail_if_no_progress (with_reducible apply keeps_mk))
    | dsimp -zeta only

theorem State.preempt_keeps {s₀ s : State} (p : Nat) (sent : Nat) (h : Keeps s₀ s) : Keeps s₀ (State.preempt s p sent) := by
  unfold State.preempt
  repeat' first
    | with_reducible assumption
    | intro _
    | with_reducible apply State.onSwc_keeps
    | with_reducible apply State.bumpI_keeps
    | with_reducible apply State.wrI_keeps
    | split
    | (fail_if_no_progress (with_reducible apply keeps_mk))
    | dsimp -zeta only

theorem State.portADrop_keeps {s₀ s : State} (c : Copy) (counter : Fld) (h : Keeps s₀ s) : Keeps s₀ (State.portADrop s c counter) := by
  unfold State.portADrop
  repeat' first
    | with_reducible assumption
    | intro _
    | with_reducible apply State.discard_keeps
    | with_reducible apply State.bumpI_keeps
    | with_reducible apply State.flagI_keeps
    | with_reducible apply State.wrI_keeps
    | with_reducible apply State.onMac_keeps
    | (fail_if_no_progress (with_reducible apply keeps_mk))
    | dsimp -zeta only

theorem State.portACollision_keeps {s₀ s : State} (sent : Nat) (h : Keeps s₀ s) : Keeps s₀ (State.portACollision s sent) := by
  unfold State.portACollision
  repeat' first
    | with_reducible assumption
    | intro _
    | ((fail_if_no_progress extract_lets +onlyGivenNames x); first | (refine keeps_cut (s₀ := s₀) (t := x) ?_ ?_; (on_goal 1 => (try dsimp -zeta only [x])); on_goal 2 => (intro hx; try clear_value x)) | (refine keeps_cut2 (s₀ := s₀) (t := x) ?_ ?_; (on_goal 1 => (try dsimp -zeta only [x])); on_goal 2 => (intro hx; try clear_value x)) | (try clear_value x))
    | (with_reducible refine keeps_snd (by assumption) ?_)
    | with_reducible apply State.bumpI_keeps
    | with_reducible apply State.portADrop_keeps
    | with_reducible apply State.fresh_keeps
    | with_reducible apply State.onSwc_keeps
    | with_reducible apply State.wrI_keeps
    | with_reducible apply State.onMac_keeps
    | split
    | (fail_if_no_progress (with_reducible apply keeps_mk))
    | dsimp -zeta only

theorem State.portABackoff_keeps {s₀ s : State}  (h : Keeps s₀ s) : Keeps s₀ (State.portABackoff s) := by
  unfold State.portABackoff
  repeat' first
    | with_reducible assumption
    | intro _
    | with_reducible apply State.noteDefer_keeps
    | with_reducible apply State.onSwc_keeps
    | with_reducible apply State.wrI_keeps
    | with_reducible apply State.onMac_keeps
    | split
    | (fail_if_no_progress (with_reducible apply keeps_mk))
    | dsimp -zeta only

theorem State.portAIntr_keeps {s₀ s : State} (sent : Bool) (h : Keeps s₀ s) : Keeps s₀ (State.portAIntr s sent) := by
  unfold State.portAIntr
  repeat' first
    | with_reducible assumption
    | intro _
    | ((fail_if_no_progress extract_lets +onlyGivenNames x); first | (refine keeps_cut (s₀ := s₀) (t := x) ?_ ?_; (on_goal 1 => (try dsimp -zeta only [x])); on_goal 2 => (intro hx; try clear_value x)) | (refine keeps_cut2 (s₀ := s₀) (t := x) ?_ ?_; (on_goal 1 => (try dsimp -zeta only [x])); on_goal 2 => (intro hx; try clear_value x)) | (refine keeps_cutF (s₀ := s₀) (f := x) ?_ ?_; (on_goal 1 => (try dsimp -zeta only [x])); on_goal 2 => (intro hx; try clear_value x)) | (refine keeps_cutF2 (s₀ := s₀) (f := x) ?_ ?_; (on_goal 1 => (try dsimp -zeta only [x])); on_goal 2 => (intro hx; try clear_value x)) | (refine keeps_cutF5 (s₀ := s₀) (f := x) ?_ ?_; (on_goal 1 => (try dsimp -zeta only [x])); on_goal 2 => (intro hx; try clear_value x)) | (refine keeps_cutFP (s₀ := s₀) (f := x) ?_ ?_; (on_goal 1 => (try dsimp -zeta only [x])); on_goal 2 => (intro hx; try clear_value x)) | (try clear_value x))
    | with_reducible apply State.onMac_keeps
    | with_reducible apply State.tsqPush_keeps
    | with_reducible apply State.onSwc_keeps
    | split
    | (fail_if_no_progress (with_reducible apply keeps_mk))
    | dsimp -zeta only
    | with_reducible apply_assumption

theorem State.wakeFrame_keeps {s₀ s : State} (p : Nat) (bs : List Byte) (h : Keeps s₀ s) : Keeps s₀ (State.wakeFrame s p bs) := by
  unfold State.wakeFrame
  repeat' first
    | with_reducible assumption
    | intro _
    | ((fail_if_no_progress extract_lets +onlyGivenNames x); first | (refine keeps_cut (s₀ := s₀) (t := x) ?_ ?_; (on_goal 1 => (try dsimp -zeta only [x])); on_goal 2 => (intro hx; try clear_value x)) | (refine keeps_cut2 (s₀ := s₀) (t := x) ?_ ?_; (on_goal 1 => (try dsimp -zeta only [x])); on_goal 2 => (intro hx; try clear_value x)) | (try clear_value x))
    | with_reducible apply State.bumpI_keeps
    | with_reducible apply State.flagI_keeps
    | with_reducible apply State.wrI_keeps
    | split
    | dsimp -zeta only

end Sys2Proof.Machine
end

