-- ==== Sys2Proof/Laws/KeepsPubOps.lean ====
section
/-! SUPPORT. The operations of PubOps have the relation `Keeps`. -/

namespace Sys2Proof.Machine

open Sys2Proof Reg

set_option linter.unusedTactic false
set_option linter.unreachableTactic false

theorem State.setPub_keeps {s₀ s : State} (p : Nat) (x : Pub) (h : Keeps s₀ s) : Keeps s₀ (State.setPub s p x) := by
  unfold State.setPub
  repeat' first
    | with_reducible assumption
    | intro _
    | with_reducible apply State.onPub_keeps
    | (fail_if_no_progress (with_reducible apply keeps_mk))
    | dsimp -zeta only

theorem State.pubSend_keeps {s₀ s : State} (p : Nat) (h : Keeps s₀ s) : Keeps s₀ (State.pubSend s p) := by
  unfold State.pubSend
  repeat' first
    | with_reducible assumption
    | intro _
    | ((fail_if_no_progress extract_lets +onlyGivenNames x); first | (refine keeps_cut (s₀ := s₀) (t := x) ?_ ?_; (on_goal 1 => (try dsimp -zeta only [x])); on_goal 2 => (intro hx; try clear_value x)) | (refine keeps_cut2 (s₀ := s₀) (t := x) ?_ ?_; (on_goal 1 => (try dsimp -zeta only [x])); on_goal 2 => (intro hx; try clear_value x)) | (try clear_value x))
    | (with_reducible refine keeps_snd (by assumption) ?_)
    | with_reducible apply State.setPub_keeps
    | with_reducible apply State.keyUse_keeps
    | with_reducible apply State.bump_keeps
    | with_reducible apply State.inject_keeps
    | with_reducible apply keeps_getD
    | split
    | (fail_if_no_progress (with_reducible apply keeps_mk))
    | dsimp -zeta only

theorem State.pubAccept_keeps {s₀ s : State} (p : Nat) (data : List Byte) (h : Keeps s₀ s) : Keeps s₀ (State.pubAccept s p data) := by
  unfold State.pubAccept
  repeat' first
    | with_reducible assumption
    | intro _
    | ((fail_if_no_progress extract_lets +onlyGivenNames x); first | (refine keeps_cut (s₀ := s₀) (t := x) ?_ ?_; (on_goal 1 => (try dsimp -zeta only [x])); on_goal 2 => (intro hx; try clear_value x)) | (refine keeps_cut2 (s₀ := s₀) (t := x) ?_ ?_; (on_goal 1 => (try dsimp -zeta only [x])); on_goal 2 => (intro hx; try clear_value x)) | (try clear_value x))
    | with_reducible apply State.setPub_keeps
    | with_reducible apply State.bump_keeps
    | with_reducible apply State.pubSend_keeps
    | split
    | (fail_if_no_progress (with_reducible apply keeps_mk))
    | dsimp -zeta only

theorem State.pubFolio_keeps {s₀ s : State} (p : Nat) (payload : List Byte) (h : Keeps s₀ s) : Keeps s₀ (State.pubFolio s p payload) := by
  unfold State.pubFolio
  repeat' first
    | with_reducible assumption
    | intro _
    | ((fail_if_no_progress extract_lets +onlyGivenNames x); first | (refine keeps_cut (s₀ := s₀) (t := x) ?_ ?_; (on_goal 1 => (try dsimp -zeta only [x])); on_goal 2 => (intro hx; try clear_value x)) | (refine keeps_cut2 (s₀ := s₀) (t := x) ?_ ?_; (on_goal 1 => (try dsimp -zeta only [x])); on_goal 2 => (intro hx; try clear_value x)) | (try clear_value x))
    | with_reducible apply State.bump_keeps
    | with_reducible apply State.flag_keeps
    | with_reducible apply State.pubAccept_keeps
    | split
    | dsimp -zeta only

theorem State.pubMember_keeps {s₀ s : State} (p : Nat) (i : Nat) (v : Nat) (h : Keeps s₀ s) : Keeps s₀ (State.pubMember s p i v) := by
  unfold State.pubMember
  repeat' first
    | with_reducible assumption
    | intro _
    | ((fail_if_no_progress extract_lets +onlyGivenNames x); first | (refine keeps_cut (s₀ := s₀) (t := x) ?_ ?_; (on_goal 1 => (try dsimp -zeta only [x])); on_goal 2 => (intro hx; try clear_value x)) | (refine keeps_cut2 (s₀ := s₀) (t := x) ?_ ?_; (on_goal 1 => (try dsimp -zeta only [x])); on_goal 2 => (intro hx; try clear_value x)) | (try clear_value x))
    | with_reducible apply State.setPub_keeps
    | (fail_if_no_progress (with_reducible apply keeps_mk))
    | dsimp -zeta only

theorem State.pubCtlTake_keeps {s₀ s : State} (p : Nat) (h : Keeps s₀ s) : Keeps s₀ (State.pubCtlTake s p) := by
  unfold State.pubCtlTake
  repeat' first
    | with_reducible assumption
    | intro _
    | ((fail_if_no_progress extract_lets +onlyGivenNames x); first | (refine keeps_cut (s₀ := s₀) (t := x) ?_ ?_; (on_goal 1 => (try dsimp -zeta only [x])); on_goal 2 => (intro hx; try clear_value x)) | (refine keeps_cut2 (s₀ := s₀) (t := x) ?_ ?_; (on_goal 1 => (try dsimp -zeta only [x])); on_goal 2 => (intro hx; try clear_value x)) | (try clear_value x))
    | with_reducible apply State.pubAccept_keeps
    | split
    | dsimp -zeta only

theorem State.pubCtlStart_keeps {s₀ s : State}  (h : Keeps s₀ s) : Keeps s₀ (State.pubCtlStart s) := by
  unfold State.pubCtlStart
  repeat' first
    | with_reducible assumption
    | intro _
    | ((fail_if_no_progress extract_lets +onlyGivenNames x); first | (refine keeps_cut (s₀ := s₀) (t := x) ?_ ?_; (on_goal 1 => (try dsimp -zeta only [x])); on_goal 2 => (intro hx; try clear_value x)) | (refine keeps_cut2 (s₀ := s₀) (t := x) ?_ ?_; (on_goal 1 => (try dsimp -zeta only [x])); on_goal 2 => (intro hx; try clear_value x)) | (try clear_value x))
    | with_reducible apply State.onPub_keeps
    | with_reducible apply State.pubAccept_keeps
    | with_reducible apply keeps_foldl
    | with_reducible apply keeps_foldl_fst
    | with_reducible apply keeps_foldl_snd
    | split
    | (fail_if_no_progress (with_reducible apply keeps_mk))
    | dsimp -zeta only

theorem State.pubDue_keeps {s₀ s : State} (p : Nat) (h : Keeps s₀ s) : Keeps s₀ (State.pubDue s p) := by
  unfold State.pubDue
  repeat' first
    | with_reducible assumption
    | intro _
    | ((fail_if_no_progress extract_lets +onlyGivenNames x); first | (refine keeps_cut (s₀ := s₀) (t := x) ?_ ?_; (on_goal 1 => (try dsimp -zeta only [x])); on_goal 2 => (intro hx; try clear_value x)) | (refine keeps_cut2 (s₀ := s₀) (t := x) ?_ ?_; (on_goal 1 => (try dsimp -zeta only [x])); on_goal 2 => (intro hx; try clear_value x)) | (try clear_value x))
    | with_reducible apply State.pubAccept_keeps
    | with_reducible apply State.pubSend_keeps
    | split
    | dsimp -zeta only

theorem State.pubReset_keeps {s₀ s : State}  (h : Keeps s₀ s) : Keeps s₀ (State.pubReset s) := by
  unfold State.pubReset
  repeat' first
    | with_reducible assumption
    | intro _
    | (fail_if_no_progress (with_reducible apply keeps_mk))
    | dsimp -zeta only

theorem State.pubWithdraw_keeps {s₀ s : State}  (h : Keeps s₀ s) : Keeps s₀ (State.pubWithdraw s) := by
  unfold State.pubWithdraw
  repeat' first
    | with_reducible assumption
    | intro _
    | with_reducible apply State.onPub_keeps
    | (fail_if_no_progress (with_reducible apply keeps_mk))
    | dsimp -zeta only

theorem State.pubFlip_keeps {s₀ s : State} (old : Store) (h : Keeps s₀ s) : Keeps s₀ (State.pubFlip s old) := by
  unfold State.pubFlip
  repeat' first
    | with_reducible assumption
    | intro _
    | ((fail_if_no_progress extract_lets +onlyGivenNames x); first | (refine keeps_cut (s₀ := s₀) (t := x) ?_ ?_; (on_goal 1 => (try dsimp -zeta only [x])); on_goal 2 => (intro hx; try clear_value x)) | (refine keeps_cut2 (s₀ := s₀) (t := x) ?_ ?_; (on_goal 1 => (try dsimp -zeta only [x])); on_goal 2 => (intro hx; try clear_value x)) | (try clear_value x))
    | with_reducible apply State.onPub_keeps
    | with_reducible apply State.setPub_keeps
    | with_reducible apply State.pubAccept_keeps
    | with_reducible apply keeps_foldl
    | with_reducible apply keeps_foldl_fst
    | with_reducible apply keeps_foldl_snd
    | split
    | (fail_if_no_progress (with_reducible apply keeps_mk))
    | dsimp -zeta only

end Sys2Proof.Machine
end

