-- ==== Sys2Proof/Laws/KeepsSviOps.lean ====
section
/-! SUPPORT. The operations of SviOps have the relation `Keeps`. -/

namespace Sys2Proof.Machine

open Sys2Proof Reg

set_option linter.unusedTactic false
set_option linter.unreachableTactic false

theorem State.setStream_keeps {s₀ s : State} (i : Nat) (x : SvStream) (h : Keeps s₀ s) : Keeps s₀ (State.setStream s i x) := by
  unfold State.setStream
  repeat' first
    | with_reducible assumption
    | intro _
    | with_reducible apply State.onSvi_keeps
    | (fail_if_no_progress (with_reducible apply keeps_mk))
    | dsimp -zeta only

theorem State.modStream_keeps {s₀ s : State} (i : Nat) (f : SvStream → SvStream) (h : Keeps s₀ s) : Keeps s₀ (State.modStream s i f) := by
  unfold State.modStream
  repeat' first
    | with_reducible assumption
    | intro _
    | with_reducible apply State.setStream_keeps
    | dsimp -zeta only

theorem State.statBump_keeps {s₀ s : State} (i : Nat) (b : Bits) (h : Keeps s₀ s) : Keeps s₀ (State.statBump s i b) := by
  unfold State.statBump
  repeat' first
    | with_reducible assumption
    | intro _
    | with_reducible apply State.modStream_keeps
    | (fail_if_no_progress (with_reducible apply keeps_mk))
    | dsimp -zeta only
    | with_reducible apply_assumption

theorem State.statPut_keeps {s₀ s : State} (i : Nat) (b : Bits) (v : Nat) (h : Keeps s₀ s) : Keeps s₀ (State.statPut s i b v) := by
  unfold State.statPut
  repeat' first
    | with_reducible assumption
    | intro _
    | with_reducible apply State.modStream_keeps
    | (fail_if_no_progress (with_reducible apply keeps_mk))
    | dsimp -zeta only
    | with_reducible apply_assumption

theorem State.svReject_keeps {s₀ s : State} (code : Nat) (stream : Option Nat) (h : Keeps s₀ s) : Keeps s₀ (State.svReject s code stream) := by
  unfold State.svReject
  repeat' first
    | with_reducible assumption
    | intro _
    | ((fail_if_no_progress extract_lets +onlyGivenNames x); first | (refine keeps_cut (s₀ := s₀) (t := x) ?_ ?_; (on_goal 1 => (try dsimp -zeta only [x])); on_goal 2 => (intro hx; try clear_value x)) | (refine keeps_cut2 (s₀ := s₀) (t := x) ?_ ?_; (on_goal 1 => (try dsimp -zeta only [x])); on_goal 2 => (intro hx; try clear_value x)) | (try clear_value x))
    | with_reducible apply State.wr_keeps
    | with_reducible apply State.bump_keeps
    | with_reducible apply State.flag_keeps
    | with_reducible apply State.statBump_keeps
    | with_reducible apply keeps_getD
    | split
    | dsimp -zeta only

theorem State.unitCounts_keeps {s₀ s : State}  (h : Keeps s₀ s) : Keeps s₀ (State.unitCounts s) := by
  unfold State.unitCounts
  repeat' first
    | with_reducible assumption
    | intro _
    | ((fail_if_no_progress extract_lets +onlyGivenNames x); first | (refine keeps_cut (s₀ := s₀) (t := x) ?_ ?_; (on_goal 1 => (try dsimp -zeta only [x])); on_goal 2 => (intro hx; try clear_value x)) | (refine keeps_cut2 (s₀ := s₀) (t := x) ?_ ?_; (on_goal 1 => (try dsimp -zeta only [x])); on_goal 2 => (intro hx; try clear_value x)) | (try clear_value x))
    | with_reducible apply State.wr_keeps
    | with_reducible apply State.wrB_keeps
    | dsimp -zeta only

theorem State.setUnit_keeps {s₀ s : State} (u : Nat) (v : Nat) (h : Keeps s₀ s) : Keeps s₀ (State.setUnit s u v) := by
  unfold State.setUnit
  repeat' first
    | with_reducible assumption
    | intro _
    | with_reducible apply State.wr_keeps
    | with_reducible apply State.unitCounts_keeps
    | dsimp -zeta only

theorem State.svServe_keeps {s₀ s : State}  (h : Keeps s₀ s) : Keeps s₀ (State.svServe s) := by
  unfold State.svServe
  repeat' first
    | with_reducible assumption
    | intro _
    | with_reducible apply State.onSvi_keeps
    | split
    | (fail_if_no_progress (with_reducible apply keeps_mk))
    | dsimp -zeta only

theorem State.svRefresh_keeps {s₀ s : State}  (h : Keeps s₀ s) : Keeps s₀ (State.svRefresh s) := by
  unfold State.svRefresh
  repeat' first
    | with_reducible assumption
    | intro _
    | ((fail_if_no_progress extract_lets +onlyGivenNames x); first | (refine keeps_cut (s₀ := s₀) (t := x) ?_ ?_; (on_goal 1 => (try dsimp -zeta only [x])); on_goal 2 => (intro hx; try clear_value x)) | (refine keeps_cut2 (s₀ := s₀) (t := x) ?_ ?_; (on_goal 1 => (try dsimp -zeta only [x])); on_goal 2 => (intro hx; try clear_value x)) | (try clear_value x))
    | with_reducible apply State.wr_keeps
    | split
    | dsimp -zeta only

theorem State.discEnter_keeps {s₀ s : State} (i : Nat) (seq : Nat) (h : Keeps s₀ s) : Keeps s₀ (State.discEnter s i seq) := by
  unfold State.discEnter
  repeat' first
    | with_reducible assumption
    | intro _
    | ((fail_if_no_progress extract_lets +onlyGivenNames x); first | (refine keeps_cut (s₀ := s₀) (t := x) ?_ ?_; (on_goal 1 => (try dsimp -zeta only [x])); on_goal 2 => (intro hx; try clear_value x)) | (refine keeps_cut2 (s₀ := s₀) (t := x) ?_ ?_; (on_goal 1 => (try dsimp -zeta only [x])); on_goal 2 => (intro hx; try clear_value x)) | (try clear_value x))
    | with_reducible apply State.modStream_keeps
    | (fail_if_no_progress (with_reducible apply keeps_mk))
    | dsimp -zeta only
    | with_reducible apply_assumption

theorem State.svPlace_keeps {s₀ s : State} (i : Nat) (sets : List (Nat × SvSet)) (bs : List Byte) (sim : Bool) (key : Option (Nat × Bool)) (fe : Nat) (k : SvCheck) (h : Keeps s₀ s) : Keeps s₀ (State.svPlace s i sets bs sim key fe k) := by
  unfold State.svPlace
  repeat' first
    | with_reducible assumption
    | intro _
    | ((fail_if_no_progress extract_lets +onlyGivenNames x); first | (refine keeps_cut (s₀ := s₀) (t := x) ?_ ?_; (on_goal 1 => (try dsimp -zeta only [x])); on_goal 2 => (intro hx; try clear_value x)) | (refine keeps_cut2 (s₀ := s₀) (t := x) ?_ ?_; (on_goal 1 => (try dsimp -zeta only [x])); on_goal 2 => (intro hx; try clear_value x)) | (try clear_value x))
    | with_reducible apply State.ingress_keeps
    | with_reducible apply State.modStream_keeps
    | with_reducible apply State.onSvi_keeps
    | with_reducible apply State.svServe_keeps
    | with_reducible apply State.wr_keeps
    | with_reducible apply State.bump_keeps
    | with_reducible apply State.statBump_keeps
    | with_reducible apply State.statPut_keeps
    | with_reducible apply State.flagIf_keeps
    | with_reducible apply State.svRefresh_keeps
    | with_reducible apply keeps_foldl
    | with_reducible apply keeps_foldl_fst
    | with_reducible apply keeps_foldl_snd
    | with_reducible apply keeps_getD
    | split
    | (fail_if_no_progress (with_reducible apply keeps_mk))
    | dsimp -zeta only
    | with_reducible apply_assumption

theorem State.svCandidate_keeps {s₀ s : State} (i : Nat) (bs : List Byte) (sim : Bool) (sets : List SvSet) (key : Option (Nat × Bool)) (fe : Nat) (k : SvCheck) (h : Keeps s₀ s) : Keeps s₀ (State.svCandidate s i bs sim sets key fe k) := by
  unfold State.svCandidate
  repeat' first
    | with_reducible assumption
    | intro _
    | ((fail_if_no_progress extract_lets +onlyGivenNames x); first | (refine keeps_cut (s₀ := s₀) (t := x) ?_ ?_; (on_goal 1 => (try dsimp -zeta only [x])); on_goal 2 => (intro hx; try clear_value x)) | (refine keeps_cut2 (s₀ := s₀) (t := x) ?_ ?_; (on_goal 1 => (try dsimp -zeta only [x])); on_goal 2 => (intro hx; try clear_value x)) | (refine keeps_cutF (s₀ := s₀) (f := x) ?_ ?_; (on_goal 1 => (try dsimp -zeta only [x])); on_goal 2 => (intro hx; try clear_value x)) | (refine keeps_cutF2 (s₀ := s₀) (f := x) ?_ ?_; (on_goal 1 => (try dsimp -zeta only [x])); on_goal 2 => (intro hx; try clear_value x)) | (refine keeps_cutF5 (s₀ := s₀) (f := x) ?_ ?_; (on_goal 1 => (try dsimp -zeta only [x])); on_goal 2 => (intro hx; try clear_value x)) | (refine keeps_cutFP (s₀ := s₀) (f := x) ?_ ?_; (on_goal 1 => (try dsimp -zeta only [x])); on_goal 2 => (intro hx; try clear_value x)) | (try clear_value x))
    | with_reducible apply State.svReject_keeps
    | with_reducible apply State.bump_keeps
    | with_reducible apply State.statBump_keeps
    | with_reducible apply State.discEnter_keeps
    | with_reducible apply State.svPlace_keeps
    | split
    | dsimp -zeta only
    | with_reducible apply_assumption

theorem State.svCopy_keeps {s₀ s : State} (p : Nat) (bs : List Byte) (fcs : Bool) (ext : Option SvExt) (h : Keeps s₀ s) : Keeps s₀ (State.svCopy s p bs fcs ext) := by
  unfold State.svCopy
  repeat' first
    | with_reducible assumption
    | intro _
    | ((fail_if_no_progress extract_lets +onlyGivenNames x); first | (refine keeps_cut (s₀ := s₀) (t := x) ?_ ?_; (on_goal 1 => (try dsimp -zeta only [x])); on_goal 2 => (intro hx; try clear_value x)) | (refine keeps_cut2 (s₀ := s₀) (t := x) ?_ ?_; (on_goal 1 => (try dsimp -zeta only [x])); on_goal 2 => (intro hx; try clear_value x)) | (try clear_value x))
    | with_reducible apply State.bump_keeps
    | with_reducible apply State.svReject_keeps
    | with_reducible apply State.svCandidate_keeps
    | with_reducible apply State.keyExpire_keeps
    | with_reducible apply State.flag_keeps
    | split
    | dsimp -zeta only

theorem State.svStat_keeps {s₀ s : State} (p : SvEpoch) (cause : Nat) (h : Keeps s₀ s) : Keeps s₀ (State.svStat s p cause) := by
  unfold State.svStat
  repeat' first
    | with_reducible assumption
    | intro _
    | ((fail_if_no_progress extract_lets +onlyGivenNames x); first | (refine keeps_cut (s₀ := s₀) (t := x) ?_ ?_; (on_goal 1 => (try dsimp -zeta only [x])); on_goal 2 => (intro hx; try clear_value x)) | (refine keeps_cut2 (s₀ := s₀) (t := x) ?_ ?_; (on_goal 1 => (try dsimp -zeta only [x])); on_goal 2 => (intro hx; try clear_value x)) | (try clear_value x))
    | with_reducible apply State.statPut_keeps
    | with_reducible apply State.statBump_keeps
    | split
    | dsimp -zeta only

theorem State.svGive_keeps {s₀ s : State} (p : SvEpoch) (cause : Nat) (h : Keeps s₀ s) : Keeps s₀ (State.svGive s p cause) := by
  unfold State.svGive
  repeat' first
    | with_reducible assumption
    | intro _
    | ((fail_if_no_progress extract_lets +onlyGivenNames x); first | (refine keeps_cut (s₀ := s₀) (t := x) ?_ ?_; (on_goal 1 => (try dsimp -zeta only [x])); on_goal 2 => (intro hx; try clear_value x)) | (refine keeps_cut2 (s₀ := s₀) (t := x) ?_ ?_; (on_goal 1 => (try dsimp -zeta only [x])); on_goal 2 => (intro hx; try clear_value x)) | (try clear_value x))
    | with_reducible apply State.onSvi_keeps
    | with_reducible apply State.svServe_keeps
    | with_reducible apply State.modStream_keeps
    | with_reducible apply State.bump_keeps
    | with_reducible apply State.flag_keeps
    | with_reducible apply State.wr_keeps
    | with_reducible apply State.svStat_keeps
    | with_reducible apply State.flagIf_keeps
    | with_reducible apply State.svRefresh_keeps
    | split
    | (fail_if_no_progress (with_reducible apply keeps_mk))
    | dsimp -zeta only
    | with_reducible apply_assumption

theorem State.sealSlot_keeps {s₀ s : State} (i : Nat) (m : Nat) (k : Nat) (h : Keeps s₀ s) : Keeps s₀ (State.sealSlot s i m k) := by
  unfold State.sealSlot
  repeat' first
    | with_reducible assumption
    | intro _
    | ((fail_if_no_progress extract_lets +onlyGivenNames x); first | (refine keeps_cut (s₀ := s₀) (t := x) ?_ ?_; (on_goal 1 => (try dsimp -zeta only [x])); on_goal 2 => (intro hx; try clear_value x)) | (refine keeps_cut2 (s₀ := s₀) (t := x) ?_ ?_; (on_goal 1 => (try dsimp -zeta only [x])); on_goal 2 => (intro hx; try clear_value x)) | (try clear_value x))
    | with_reducible apply State.ingress_keeps
    | with_reducible apply State.modStream_keeps
    | with_reducible apply State.wr_keeps
    | with_reducible apply State.bump_keeps
    | with_reducible apply State.flag_keeps
    | with_reducible apply State.statBump_keeps
    | with_reducible apply State.statPut_keeps
    | split
    | (fail_if_no_progress (with_reducible apply keeps_mk))
    | dsimp -zeta only
    | with_reducible apply_assumption

theorem State.sealCycle_keeps {s₀ s : State} (i : Nat) (h : Keeps s₀ s) : Keeps s₀ (State.sealCycle s i) := by
  unfold State.sealCycle
  repeat' first
    | with_reducible assumption
    | intro _
    | ((fail_if_no_progress extract_lets +onlyGivenNames x); first | (refine keeps_cut (s₀ := s₀) (t := x) ?_ ?_; (on_goal 1 => (try dsimp -zeta only [x])); on_goal 2 => (intro hx; try clear_value x)) | (refine keeps_cut2 (s₀ := s₀) (t := x) ?_ ?_; (on_goal 1 => (try dsimp -zeta only [x])); on_goal 2 => (intro hx; try clear_value x)) | (try clear_value x))
    | with_reducible apply State.sealSlot_keeps
    | with_reducible apply State.modStream_keeps
    | with_reducible apply State.wr_keeps
    | with_reducible apply State.svRefresh_keeps
    | with_reducible apply keeps_foldl
    | with_reducible apply keeps_foldl_fst
    | with_reducible apply keeps_foldl_snd
    | split
    | (fail_if_no_progress (with_reducible apply keeps_mk))
    | dsimp -zeta only
    | with_reducible apply_assumption

theorem State.seal_keeps {s₀ s : State} (i : Nat) (h : Keeps s₀ s) : Keeps s₀ (State.seal s i) := by
  unfold State.seal
  repeat' first
    | with_reducible assumption
    | intro _
    | with_reducible apply State.sealCycle_keeps
    | split
    | dsimp -zeta only

theorem State.ingestStart_keeps {s₀ s : State}  (h : Keeps s₀ s) : Keeps s₀ (State.ingestStart s) := by
  unfold State.ingestStart
  repeat' first
    | with_reducible assumption
    | intro _
    | ((fail_if_no_progress extract_lets +onlyGivenNames x); first | (refine keeps_cut (s₀ := s₀) (t := x) ?_ ?_; (on_goal 1 => (try dsimp -zeta only [x])); on_goal 2 => (intro hx; try clear_value x)) | (refine keeps_cut2 (s₀ := s₀) (t := x) ?_ ?_; (on_goal 1 => (try dsimp -zeta only [x])); on_goal 2 => (intro hx; try clear_value x)) | (try clear_value x))
    | with_reducible apply State.onSvi_keeps
    | with_reducible apply State.modStream_keeps
    | with_reducible apply keeps_foldl
    | with_reducible apply keeps_foldl_fst
    | with_reducible apply keeps_foldl_snd
    | split
    | (fail_if_no_progress (with_reducible apply keeps_mk))
    | dsimp -zeta only
    | with_reducible apply_assumption

theorem State.sviEnable_keeps {s₀ s : State} (en : Bool) (h : Keeps s₀ s) : Keeps s₀ (State.sviEnable s en) := by
  unfold State.sviEnable
  repeat' first
    | with_reducible assumption
    | intro _
    | ((fail_if_no_progress extract_lets +onlyGivenNames x); first | (refine keeps_cut (s₀ := s₀) (t := x) ?_ ?_; (on_goal 1 => (try dsimp -zeta only [x])); on_goal 2 => (intro hx; try clear_value x)) | (refine keeps_cut2 (s₀ := s₀) (t := x) ?_ ?_; (on_goal 1 => (try dsimp -zeta only [x])); on_goal 2 => (intro hx; try clear_value x)) | (try clear_value x))
    | with_reducible apply State.wrB_keeps
    | with_reducible apply State.ingestStart_keeps
    | with_reducible apply State.svRefresh_keeps
    | split
    | dsimp -zeta only

theorem State.sviReady_keeps {s₀ s : State}  (h : Keeps s₀ s) : Keeps s₀ (State.sviReady s) := by
  unfold State.sviReady
  repeat' first
    | with_reducible assumption
    | intro _
    | ((fail_if_no_progress extract_lets +onlyGivenNames x); first | (refine keeps_cut (s₀ := s₀) (t := x) ?_ ?_; (on_goal 1 => (try dsimp -zeta only [x])); on_goal 2 => (intro hx; try clear_value x)) | (refine keeps_cut2 (s₀ := s₀) (t := x) ?_ ?_; (on_goal 1 => (try dsimp -zeta only [x])); on_goal 2 => (intro hx; try clear_value x)) | (try clear_value x))
    | with_reducible apply State.wr_keeps
    | with_reducible apply State.statPut_keeps
    | with_reducible apply State.onSvi_keeps
    | with_reducible apply State.unitCounts_keeps
    | with_reducible apply State.svRefresh_keeps
    | with_reducible apply keeps_foldl
    | with_reducible apply keeps_foldl_fst
    | with_reducible apply keeps_foldl_snd
    | (fail_if_no_progress (with_reducible apply keeps_mk))
    | dsimp -zeta only

theorem State.ringEcc_keeps {s₀ s : State} (i : Nat) (slot : Nat) (h : Keeps s₀ s) : Keeps s₀ (State.ringEcc s i slot) := by
  unfold State.ringEcc
  repeat' first
    | with_reducible assumption
    | intro _
    | ((fail_if_no_progress extract_lets +onlyGivenNames x); first | (refine keeps_cut (s₀ := s₀) (t := x) ?_ ?_; (on_goal 1 => (try dsimp -zeta only [x])); on_goal 2 => (intro hx; try clear_value x)) | (refine keeps_cut2 (s₀ := s₀) (t := x) ?_ ?_; (on_goal 1 => (try dsimp -zeta only [x])); on_goal 2 => (intro hx; try clear_value x)) | (try clear_value x))
    | with_reducible apply State.modStream_keeps
    | with_reducible apply State.flag_keeps
    | split
    | (fail_if_no_progress (with_reducible apply keeps_mk))
    | dsimp -zeta only
    | with_reducible apply_assumption

theorem State.moveJobs_keeps {s₀ s : State} (u : Nat) (dest : Option Nat) (h : Keeps s₀ s) : Keeps s₀ (State.moveJobs s u dest) := by
  unfold State.moveJobs
  repeat' first
    | with_reducible assumption
    | intro _
    | with_reducible apply State.onSvi_keeps
    | split
    | (fail_if_no_progress (with_reducible apply keeps_mk))
    | dsimp -zeta only

theorem State.retireUnit_keeps {s₀ s : State} (u : Nat) (cause : Nat) (h : Keeps s₀ s) : Keeps s₀ (State.retireUnit s u cause) := by
  unfold State.retireUnit
  repeat' first
    | with_reducible assumption
    | intro _
    | ((fail_if_no_progress extract_lets +onlyGivenNames x); first | (refine keeps_cut (s₀ := s₀) (t := x) ?_ ?_; (on_goal 1 => (try dsimp -zeta only [x])); on_goal 2 => (intro hx; try clear_value x)) | (refine keeps_cut2 (s₀ := s₀) (t := x) ?_ ?_; (on_goal 1 => (try dsimp -zeta only [x])); on_goal 2 => (intro hx; try clear_value x)) | (try clear_value x))
    | with_reducible apply State.setUnit_keeps
    | with_reducible apply State.wr_keeps
    | with_reducible apply State.moveJobs_keeps
    | with_reducible apply State.flag_keeps
    | with_reducible apply State.onSvi_keeps
    | with_reducible apply State.svServe_keeps
    | with_reducible apply State.unitCounts_keeps
    | with_reducible apply State.event_keeps
    | split
    | (fail_if_no_progress (with_reducible apply keeps_mk))
    | dsimp -zeta only

theorem State.unitFault_keeps {s₀ s : State} (u : Nat) (cause : Nat) (h : Keeps s₀ s) : Keeps s₀ (State.unitFault s u cause) := by
  unfold State.unitFault
  repeat' first
    | with_reducible assumption
    | intro _
    | with_reducible apply State.retireUnit_keeps
    | split
    | dsimp -zeta only

theorem State.unitRefuse_keeps {s₀ s : State}  (h : Keeps s₀ s) : Keeps s₀ (State.unitRefuse s) := by
  unfold State.unitRefuse
  repeat' first
    | with_reducible assumption
    | intro _
    | with_reducible apply State.flag_keeps
    | dsimp -zeta only

theorem State.spareSel_keeps {s₀ s : State} (u : Nat) (h : Keeps s₀ s) : Keeps s₀ (State.spareSel s u) := by
  unfold State.spareSel
  repeat' first
    | with_reducible assumption
    | intro _
    | ((fail_if_no_progress extract_lets +onlyGivenNames x); first | (refine keeps_cut (s₀ := s₀) (t := x) ?_ ?_; (on_goal 1 => (try dsimp -zeta only [x])); on_goal 2 => (intro hx; try clear_value x)) | (refine keeps_cut2 (s₀ := s₀) (t := x) ?_ ?_; (on_goal 1 => (try dsimp -zeta only [x])); on_goal 2 => (intro hx; try clear_value x)) | (try clear_value x))
    | with_reducible apply State.unitRefuse_keeps
    | with_reducible apply State.wr_keeps
    | with_reducible apply State.setUnit_keeps
    | with_reducible apply State.onSvi_keeps
    | with_reducible apply State.unitCounts_keeps
    | split
    | (fail_if_no_progress (with_reducible apply keeps_mk))
    | dsimp -zeta only

theorem State.unitIdle_keeps {s₀ s : State} (u : Nat) (h : Keeps s₀ s) : Keeps s₀ (State.unitIdle s u) := by
  unfold State.unitIdle
  repeat' first
    | with_reducible assumption
    | intro _
    | with_reducible apply State.onSvi_keeps
    | with_reducible apply State.setUnit_keeps
    | split
    | (fail_if_no_progress (with_reducible apply keeps_mk))
    | dsimp -zeta only

theorem State.unitRetire_keeps {s₀ s : State} (u : Nat) (h : Keeps s₀ s) : Keeps s₀ (State.unitRetire s u) := by
  unfold State.unitRetire
  repeat' first
    | with_reducible assumption
    | intro _
    | ((fail_if_no_progress extract_lets +onlyGivenNames x); first | (refine keeps_cut (s₀ := s₀) (t := x) ?_ ?_; (on_goal 1 => (try dsimp -zeta only [x])); on_goal 2 => (intro hx; try clear_value x)) | (refine keeps_cut2 (s₀ := s₀) (t := x) ?_ ?_; (on_goal 1 => (try dsimp -zeta only [x])); on_goal 2 => (intro hx; try clear_value x)) | (try clear_value x))
    | with_reducible apply State.retireUnit_keeps
    | with_reducible apply State.unitRefuse_keeps
    | split
    | dsimp -zeta only

theorem State.unitRestore_keeps {s₀ s : State} (u : Nat) (h : Keeps s₀ s) : Keeps s₀ (State.unitRestore s u) := by
  unfold State.unitRestore
  repeat' first
    | with_reducible assumption
    | intro _
    | with_reducible apply State.setUnit_keeps
    | with_reducible apply State.unitRefuse_keeps
    | split
    | dsimp -zeta only

theorem State.unitRestoreDone_keeps {s₀ s : State} (u : Nat) (pass : Bool) (h : Keeps s₀ s) : Keeps s₀ (State.unitRestoreDone s u pass) := by
  unfold State.unitRestoreDone
  repeat' first
    | with_reducible assumption
    | intro _
    | with_reducible apply State.setUnit_keeps
    | split
    | dsimp -zeta only

theorem State.subsFlip_keeps {s₀ s : State} (old : Store) (n : Nat) (h : Keeps s₀ s) : Keeps s₀ (State.subsFlip s old n) := by
  unfold State.subsFlip
  repeat' first
    | with_reducible assumption
    | intro _
    | ((fail_if_no_progress extract_lets +onlyGivenNames x); first | (refine keeps_cut (s₀ := s₀) (t := x) ?_ ?_; (on_goal 1 => (try dsimp -zeta only [x])); on_goal 2 => (intro hx; try clear_value x)) | (refine keeps_cut2 (s₀ := s₀) (t := x) ?_ ?_; (on_goal 1 => (try dsimp -zeta only [x])); on_goal 2 => (intro hx; try clear_value x)) | (refine keeps_cutF (s₀ := s₀) (f := x) ?_ ?_; (on_goal 1 => (try dsimp -zeta only [x])); on_goal 2 => (intro hx; try clear_value x)) | (refine keeps_cutF2 (s₀ := s₀) (f := x) ?_ ?_; (on_goal 1 => (try dsimp -zeta only [x])); on_goal 2 => (intro hx; try clear_value x)) | (refine keeps_cutF5 (s₀ := s₀) (f := x) ?_ ?_; (on_goal 1 => (try dsimp -zeta only [x])); on_goal 2 => (intro hx; try clear_value x)) | (refine keeps_cutFP (s₀ := s₀) (f := x) ?_ ?_; (on_goal 1 => (try dsimp -zeta only [x])); on_goal 2 => (intro hx; try clear_value x)) | (try clear_value x))
    | (with_reducible refine keeps_snd (by assumption) ?_)
    | with_reducible apply State.onSvi_keeps
    | with_reducible apply State.fresh_keeps
    | with_reducible apply State.setStream_keeps
    | with_reducible apply State.wr_keeps
    | with_reducible apply State.svRefresh_keeps
    | with_reducible apply keeps_foldl
    | with_reducible apply keeps_foldl_fst
    | with_reducible apply keeps_foldl_snd
    | with_reducible apply keeps_getD
    | split
    | (fail_if_no_progress (with_reducible apply keeps_mk))
    | dsimp -zeta only
    | with_reducible apply_assumption

end Sys2Proof.Machine
end

