-- ==== Sys2Proof/Laws/KeepsFltOps.lean ====
section
/-! SUPPORT. The operations of FltOps have the relation `Keeps`. -/

namespace Sys2Proof.Machine

open Sys2Proof Reg

set_option linter.unusedTactic false
set_option linter.unreachableTactic false

theorem State.dtLine_keeps {s₀ s : State} (n : Nat) (h : Keeps s₀ s) : Keeps s₀ (State.dtLine s n) := by
  unfold State.dtLine
  repeat' first
    | with_reducible assumption
    | intro _
    | ((fail_if_no_progress extract_lets +onlyGivenNames x); first | (refine keeps_cut (s₀ := s₀) (t := x) ?_ ?_; (on_goal 1 => (try dsimp -zeta only [x])); on_goal 2 => (intro hx; try clear_value x)) | (refine keeps_cut2 (s₀ := s₀) (t := x) ?_ ?_; (on_goal 1 => (try dsimp -zeta only [x])); on_goal 2 => (intro hx; try clear_value x)) | (try clear_value x))
    | with_reducible apply State.onFlt_keeps
    | with_reducible apply State.wrBit_keeps
    | split
    | (fail_if_no_progress (with_reducible apply keeps_mk))
    | dsimp -zeta only

theorem State.dtLatch_keeps {s₀ s : State} (lines : Nat) (starts : Nat) (trips : Nat) (h : Keeps s₀ s) : Keeps s₀ (State.dtLatch s lines starts trips) := by
  unfold State.dtLatch
  repeat' first
    | with_reducible assumption
    | intro _
    | with_reducible apply State.onFlt_keeps
    | (fail_if_no_progress (with_reducible apply keeps_mk))
    | dsimp -zeta only

theorem State.dtUpdate_keeps {s₀ s : State}  (h : Keeps s₀ s) : Keeps s₀ (State.dtUpdate s) := by
  unfold State.dtUpdate
  repeat' first
    | with_reducible assumption
    | intro _
    | ((fail_if_no_progress extract_lets +onlyGivenNames x); first | (refine keeps_cut (s₀ := s₀) (t := x) ?_ ?_; (on_goal 1 => (try dsimp -zeta only [x])); on_goal 2 => (intro hx; try clear_value x)) | (refine keeps_cut2 (s₀ := s₀) (t := x) ?_ ?_; (on_goal 1 => (try dsimp -zeta only [x])); on_goal 2 => (intro hx; try clear_value x)) | (try clear_value x))
    | with_reducible apply State.dtLine_keeps
    | with_reducible apply State.wrI_keeps
    | with_reducible apply State.wr_keeps
    | with_reducible apply State.dtLatch_keeps
    | with_reducible apply keeps_foldl
    | with_reducible apply keeps_foldl_fst
    | with_reducible apply keeps_foldl_snd
    | dsimp -zeta only

theorem State.minOnExpire_keeps {s₀ s : State} (n : Nat) (h : Keeps s₀ s) : Keeps s₀ (State.minOnExpire s n) := by
  unfold State.minOnExpire
  repeat' first
    | with_reducible assumption
    | intro _
    | with_reducible apply State.onFlt_keeps
    | with_reducible apply State.dtUpdate_keeps
    | split
    | (fail_if_no_progress (with_reducible apply keeps_mk))
    | dsimp -zeta only

theorem State.dtAssert_keeps {s₀ s : State} (folio : Nat) (mask : Nat) (hold : Option Nat) (h : Keeps s₀ s) : Keeps s₀ (State.dtAssert s folio mask hold) := by
  unfold State.dtAssert
  repeat' first
    | with_reducible assumption
    | intro _
    | with_reducible apply State.onFlt_keeps
    | with_reducible apply State.dtUpdate_keeps
    | (fail_if_no_progress (with_reducible apply keeps_mk))
    | dsimp -zeta only

theorem State.dtRelease_keeps {s₀ s : State} (folio : Nat) (mask : Nat) (h : Keeps s₀ s) : Keeps s₀ (State.dtRelease s folio mask) := by
  unfold State.dtRelease
  repeat' first
    | with_reducible assumption
    | intro _
    | with_reducible apply State.onFlt_keeps
    | with_reducible apply State.dtUpdate_keeps
    | (fail_if_no_progress (with_reducible apply keeps_mk))
    | dsimp -zeta only

theorem State.dtFolioReset_keeps {s₀ s : State} (folio : Nat) (h : Keeps s₀ s) : Keeps s₀ (State.dtFolioReset s folio) := by
  unfold State.dtFolioReset
  repeat' first
    | with_reducible assumption
    | intro _
    | with_reducible apply State.onFlt_keeps
    | with_reducible apply State.dtUpdate_keeps
    | (fail_if_no_progress (with_reducible apply keeps_mk))
    | dsimp -zeta only

theorem State.dtHoldExpire_keeps {s₀ s : State} (folio : Nat) (n : Nat) (h : Keeps s₀ s) : Keeps s₀ (State.dtHoldExpire s folio n) := by
  unfold State.dtHoldExpire
  repeat' first
    | with_reducible assumption
    | intro _
    | with_reducible apply State.onFlt_keeps
    | with_reducible apply State.dtUpdate_keeps
    | (fail_if_no_progress (with_reducible apply keeps_mk))
    | dsimp -zeta only

theorem State.setInst_keeps {s₀ s : State} (i : Nat) (x : FInst) (h : Keeps s₀ s) : Keeps s₀ (State.setInst s i x) := by
  unfold State.setInst
  repeat' first
    | with_reducible assumption
    | intro _
    | with_reducible apply State.onFlt_keeps
    | (fail_if_no_progress (with_reducible apply keeps_mk))
    | dsimp -zeta only

theorem State.elemStep_keeps {s₀ s : State} (fd : Nat) (tms : Nat) (y : Int) (h : Keeps s₀ s) : Keeps s₀ (State.elemStep s fd tms y).2 := by
  unfold State.elemStep
  repeat' first
    | with_reducible assumption
    | intro _
    | (with_reducible refine keeps_snd (by assumption) ?_)
    | with_reducible apply State.fresh_keeps
    | split
    | dsimp -zeta only

theorem State.elemEval_keeps {s₀ s : State} (n : Nat) (e : Elem) (fd : Nat) (o : Nat) (h : Keeps s₀ s) : Keeps s₀ (State.elemEval s n e fd o).2 := by
  unfold State.elemEval
  repeat' first
    | with_reducible assumption
    | intro _
    | ((fail_if_no_progress extract_lets +onlyGivenNames x); first | (refine keeps_cut (s₀ := s₀) (t := x) ?_ ?_; (on_goal 1 => (try dsimp -zeta only [x])); on_goal 2 => (intro hx; try clear_value x)) | (refine keeps_cut2 (s₀ := s₀) (t := x) ?_ ?_; (on_goal 1 => (try dsimp -zeta only [x])); on_goal 2 => (intro hx; try clear_value x)) | (try clear_value x))
    | (with_reducible refine keeps_snd (by assumption) ?_)
    | with_reducible apply State.elemStep_keeps
    | with_reducible apply keeps_getD
    | split
    | (fail_if_no_progress (with_reducible apply keeps_mk))
    | dsimp -zeta only

theorem State.elemJudge_keeps {s₀ s : State} (n : Nat) (e : Elem) (fd : Nat) (o : Nat) (h : Keeps s₀ s) : Keeps s₀ (State.elemJudge s n e fd o) := by
  unfold State.elemJudge
  repeat' first
    | with_reducible assumption
    | intro _
    | ((fail_if_no_progress extract_lets +onlyGivenNames x); first | (refine keeps_cut (s₀ := s₀) (t := x) ?_ ?_; (on_goal 1 => (try dsimp -zeta only [x])); on_goal 2 => (intro hx; try clear_value x)) | (refine keeps_cut2 (s₀ := s₀) (t := x) ?_ ?_; (on_goal 1 => (try dsimp -zeta only [x])); on_goal 2 => (intro hx; try clear_value x)) | (try clear_value x))
    | (with_reducible refine keeps_snd (by assumption) ?_)
    | with_reducible apply State.elemEval_keeps
    | with_reducible apply State.onFlt_keeps
    | with_reducible apply State.latch_keeps
    | with_reducible apply State.bump_keeps
    | with_reducible apply State.flag_keeps
    | split
    | (fail_if_no_progress (with_reducible apply keeps_mk))
    | dsimp -zeta only

theorem State.elemOutput_keeps {s₀ s : State} (n : Nat) (i : Nat) (r : Nat) (fd : Nat) (o : Nat) (h : Keeps s₀ s) : Keeps s₀ (State.elemOutput s n i r fd o) := by
  unfold State.elemOutput
  repeat' first
    | with_reducible assumption
    | intro _
    | ((fail_if_no_progress extract_lets +onlyGivenNames x); first | (refine keeps_cut (s₀ := s₀) (t := x) ?_ ?_; (on_goal 1 => (try dsimp -zeta only [x])); on_goal 2 => (intro hx; try clear_value x)) | (refine keeps_cut2 (s₀ := s₀) (t := x) ?_ ?_; (on_goal 1 => (try dsimp -zeta only [x])); on_goal 2 => (intro hx; try clear_value x)) | (try clear_value x))
    | with_reducible apply State.elemJudge_keeps
    | with_reducible apply State.onFlt_keeps
    | split
    | (fail_if_no_progress (with_reducible apply keeps_mk))
    | dsimp -zeta only

theorem State.elemsOutput_keeps {s₀ s : State} (i : Nat) (fd : Nat) (o : Nat) (h : Keeps s₀ s) : Keeps s₀ (State.elemsOutput s i fd o) := by
  unfold State.elemsOutput
  repeat' first
    | with_reducible assumption
    | intro _
    | ((fail_if_no_progress extract_lets +onlyGivenNames x); first | (refine keeps_cut (s₀ := s₀) (t := x) ?_ ?_; (on_goal 1 => (try dsimp -zeta only [x])); on_goal 2 => (intro hx; try clear_value x)) | (refine keeps_cut2 (s₀ := s₀) (t := x) ?_ ?_; (on_goal 1 => (try dsimp -zeta only [x])); on_goal 2 => (intro hx; try clear_value x)) | (try clear_value x))
    | with_reducible apply State.elemOutput_keeps
    | with_reducible apply State.dtUpdate_keeps
    | with_reducible apply keeps_foldl
    | with_reducible apply keeps_foldl_fst
    | with_reducible apply keeps_foldl_snd
    | with_reducible apply keeps_getD
    | dsimp -zeta only

theorem State.instFeed_keeps {s₀ s : State} (i : Nat) (x : FInst) (pos : Nat) (v : Sample) (usable : Bool) (ingress : Nat) (epoch : Option Nat) (stream : Nat) (fromB : Bool) (switched : Bool) (h : Keeps s₀ s) : Keeps s₀ (State.instFeed s i x pos v usable ingress epoch stream fromB switched) := by
  unfold State.instFeed
  repeat' first
    | with_reducible assumption
    | intro _
    | ((fail_if_no_progress extract_lets +onlyGivenNames x); first | (refine keeps_cut (s₀ := s₀) (t := x) ?_ ?_; (on_goal 1 => (try dsimp -zeta only [x])); on_goal 2 => (intro hx; try clear_value x)) | (refine keeps_cut2 (s₀ := s₀) (t := x) ?_ ?_; (on_goal 1 => (try dsimp -zeta only [x])); on_goal 2 => (intro hx; try clear_value x)) | (try clear_value x))
    | with_reducible apply State.settle_keeps
    | with_reducible apply State.bump_keeps
    | with_reducible apply State.flag_keeps
    | with_reducible apply State.setInst_keeps
    | with_reducible apply State.ingress_keeps
    | with_reducible apply State.bumpBy_keeps
    | with_reducible apply State.elemsOutput_keeps
    | with_reducible apply keeps_getD
    | split
    | (fail_if_no_progress (with_reducible apply keeps_mk))
    | dsimp -zeta only

theorem State.countInput_keeps {s₀ s : State}  (h : Keeps s₀ s) : Keeps s₀ (State.countInput s) := by
  unfold State.countInput
  repeat' first
    | with_reducible assumption
    | intro _
    | ((fail_if_no_progress extract_lets +onlyGivenNames x); first | (refine keeps_cut (s₀ := s₀) (t := x) ?_ ?_; (on_goal 1 => (try dsimp -zeta only [x])); on_goal 2 => (intro hx; try clear_value x)) | (refine keeps_cut2 (s₀ := s₀) (t := x) ?_ ?_; (on_goal 1 => (try dsimp -zeta only [x])); on_goal 2 => (intro hx; try clear_value x)) | (try clear_value x))
    | with_reducible apply State.onFlt_keeps
    | with_reducible apply State.wr_keeps
    | split
    | (fail_if_no_progress (with_reducible apply keeps_mk))
    | dsimp -zeta only

theorem State.instTake_keeps {s₀ s : State} (i : Nat) (x : FInst) (pos : Nat) (h : Keeps s₀ s) : Keeps s₀ (State.instTake s i x pos) := by
  unfold State.instTake
  repeat' first
    | with_reducible assumption
    | intro _
    | with_reducible apply State.countInput_keeps
    | with_reducible apply State.flagIf_keeps
    | with_reducible apply State.instFeed_keeps
    | with_reducible apply State.setInst_keeps
    | split
    | (fail_if_no_progress (with_reducible apply keeps_mk))
    | dsimp -zeta only

theorem State.instConsume_keeps {s₀ s : State} (i : Nat) (h : Keeps s₀ s) : Keeps s₀ (State.instConsume s i) := by
  unfold State.instConsume
  repeat' first
    | with_reducible assumption
    | intro _
    | ((fail_if_no_progress extract_lets +onlyGivenNames x); first | (refine keeps_cut (s₀ := s₀) (t := x) ?_ ?_; (on_goal 1 => (try dsimp -zeta only [x])); on_goal 2 => (intro hx; try clear_value x)) | (refine keeps_cut2 (s₀ := s₀) (t := x) ?_ ?_; (on_goal 1 => (try dsimp -zeta only [x])); on_goal 2 => (intro hx; try clear_value x)) | (try clear_value x))
    | with_reducible apply State.setInst_keeps
    | with_reducible apply State.instTake_keeps
    | with_reducible apply keeps_getD
    | split
    | dsimp -zeta only

theorem State.filterConsume_keeps {s₀ s : State} (i : Nat) (h : Keeps s₀ s) : Keeps s₀ (State.filterConsume s i) := by
  unfold State.filterConsume
  repeat' first
    | with_reducible assumption
    | intro _
    | with_reducible apply State.instConsume_keeps
    | split
    | dsimp -zeta only

theorem State.consumeIf_keeps {s₀ s : State} (i : Nat) (c : State → State → Bool) (h : Keeps s₀ s) : Keeps s₀ (State.consumeIf s i c) := by
  unfold State.consumeIf
  repeat' first
    | with_reducible assumption
    | intro _
    | with_reducible apply State.filterConsume_keeps
    | split
    | dsimp -zeta only
    | with_reducible apply_assumption

theorem State.switchForce_keeps {s₀ s : State} (i : Nat) (f : Nat) (h : Keeps s₀ s) : Keeps s₀ (State.switchForce s i f) := by
  unfold State.switchForce
  repeat' first
    | with_reducible assumption
    | intro _
    | with_reducible apply State.setInst_keeps
    | split
    | (fail_if_no_progress (with_reducible apply keeps_mk))
    | dsimp -zeta only

theorem State.elemRelease_keeps {s₀ s : State} (n : Nat) (h : Keeps s₀ s) : Keeps s₀ (State.elemRelease s n) := by
  unfold State.elemRelease
  repeat' first
    | with_reducible assumption
    | intro _
    | with_reducible apply State.onFlt_keeps
    | split
    | (fail_if_no_progress (with_reducible apply keeps_mk))
    | dsimp -zeta only

theorem State.bkstReset_keeps {s₀ s : State} (all : Bool) (n : Nat) (h : Keeps s₀ s) : Keeps s₀ (State.bkstReset s all n) := by
  unfold State.bkstReset
  repeat' first
    | with_reducible assumption
    | intro _
    | with_reducible apply State.elemRelease_keeps
    | with_reducible apply State.dtUpdate_keeps
    | with_reducible apply keeps_foldl
    | with_reducible apply keeps_foldl_fst
    | with_reducible apply keeps_foldl_snd
    | split
    | dsimp -zeta only

theorem State.bkstBlock_keeps {s₀ s : State} (v : Nat) (h : Keeps s₀ s) : Keeps s₀ (State.bkstBlock s v) := by
  unfold State.bkstBlock
  repeat' first
    | with_reducible assumption
    | intro _
    | ((fail_if_no_progress extract_lets +onlyGivenNames x); first | (refine keeps_cut (s₀ := s₀) (t := x) ?_ ?_; (on_goal 1 => (try dsimp -zeta only [x])); on_goal 2 => (intro hx; try clear_value x)) | (refine keeps_cut2 (s₀ := s₀) (t := x) ?_ ?_; (on_goal 1 => (try dsimp -zeta only [x])); on_goal 2 => (intro hx; try clear_value x)) | (try clear_value x))
    | with_reducible apply State.wr_keeps
    | with_reducible apply State.flagIf_keeps
    | with_reducible apply State.onFlt_keeps
    | with_reducible apply State.dtUpdate_keeps
    | with_reducible apply keeps_foldl
    | with_reducible apply keeps_foldl_fst
    | with_reducible apply keeps_foldl_snd
    | split
    | (fail_if_no_progress (with_reducible apply keeps_mk))
    | dsimp -zeta only

theorem State.stateEcc_keeps {s₀ s : State} (isElem : Bool) (n : Nat) (h : Keeps s₀ s) : Keeps s₀ (State.stateEcc s isElem n) := by
  unfold State.stateEcc
  repeat' first
    | with_reducible assumption
    | intro _
    | ((fail_if_no_progress extract_lets +onlyGivenNames x); first | (refine keeps_cut (s₀ := s₀) (t := x) ?_ ?_; (on_goal 1 => (try dsimp -zeta only [x])); on_goal 2 => (intro hx; try clear_value x)) | (refine keeps_cut2 (s₀ := s₀) (t := x) ?_ ?_; (on_goal 1 => (try dsimp -zeta only [x])); on_goal 2 => (intro hx; try clear_value x)) | (refine keeps_cutF (s₀ := s₀) (f := x) ?_ ?_; (on_goal 1 => (try dsimp -zeta only [x])); on_goal 2 => (intro hx; try clear_value x)) | (refine keeps_cutF2 (s₀ := s₀) (f := x) ?_ ?_; (on_goal 1 => (try dsimp -zeta only [x])); on_goal 2 => (intro hx; try clear_value x)) | (refine keeps_cutF5 (s₀ := s₀) (f := x) ?_ ?_; (on_goal 1 => (try dsimp -zeta only [x])); on_goal 2 => (intro hx; try clear_value x)) | (refine keeps_cutFP (s₀ := s₀) (f := x) ?_ ?_; (on_goal 1 => (try dsimp -zeta only [x])); on_goal 2 => (intro hx; try clear_value x)) | (try clear_value x))
    | with_reducible apply State.flag_keeps
    | with_reducible apply State.onFlt_keeps
    | with_reducible apply State.dtUpdate_keeps
    | with_reducible apply State.setInst_keeps
    | split
    | (fail_if_no_progress (with_reducible apply keeps_mk))
    | dsimp -zeta only
    | with_reducible apply_assumption

theorem State.fltStatus_keeps {s₀ s : State}  (h : Keeps s₀ s) : Keeps s₀ (State.fltStatus s) := by
  unfold State.fltStatus
  repeat' first
    | with_reducible assumption
    | intro _
    | with_reducible apply State.wrB_keeps
    | with_reducible apply State.wr_keeps
    | dsimp -zeta only

theorem State.fltReady_keeps {s₀ s : State}  (h : Keeps s₀ s) : Keeps s₀ (State.fltReady s) := by
  unfold State.fltReady
  repeat' first
    | with_reducible assumption
    | intro _
    | ((fail_if_no_progress extract_lets +onlyGivenNames x); first | (refine keeps_cut (s₀ := s₀) (t := x) ?_ ?_; (on_goal 1 => (try dsimp -zeta only [x])); on_goal 2 => (intro hx; try clear_value x)) | (refine keeps_cut2 (s₀ := s₀) (t := x) ?_ ?_; (on_goal 1 => (try dsimp -zeta only [x])); on_goal 2 => (intro hx; try clear_value x)) | (try clear_value x))
    | with_reducible apply State.onFlt_keeps
    | with_reducible apply State.fltStatus_keeps
    | with_reducible apply State.dtUpdate_keeps
    | (fail_if_no_progress (with_reducible apply keeps_mk))
    | dsimp -zeta only

theorem State.fltFlip_keeps {s₀ s : State} (oldInst : Store) (oldElem : Store) (streams : Nat → Nat) (n : Nat) (h : Keeps s₀ s) : Keeps s₀ (State.fltFlip s oldInst oldElem streams n) := by
  unfold State.fltFlip
  repeat' first
    | with_reducible assumption
    | intro _
    | ((fail_if_no_progress extract_lets +onlyGivenNames x); first | (refine keeps_cut (s₀ := s₀) (t := x) ?_ ?_; (on_goal 1 => (try dsimp -zeta only [x])); on_goal 2 => (intro hx; try clear_value x)) | (refine keeps_cut2 (s₀ := s₀) (t := x) ?_ ?_; (on_goal 1 => (try dsimp -zeta only [x])); on_goal 2 => (intro hx; try clear_value x)) | (refine keeps_cutF (s₀ := s₀) (f := x) ?_ ?_; (on_goal 1 => (try dsimp -zeta only [x])); on_goal 2 => (intro hx; try clear_value x)) | (refine keeps_cutF2 (s₀ := s₀) (f := x) ?_ ?_; (on_goal 1 => (try dsimp -zeta only [x])); on_goal 2 => (intro hx; try clear_value x)) | (refine keeps_cutF5 (s₀ := s₀) (f := x) ?_ ?_; (on_goal 1 => (try dsimp -zeta only [x])); on_goal 2 => (intro hx; try clear_value x)) | (refine keeps_cutFP (s₀ := s₀) (f := x) ?_ ?_; (on_goal 1 => (try dsimp -zeta only [x])); on_goal 2 => (intro hx; try clear_value x)) | (try clear_value x))
    | with_reducible apply State.onFlt_keeps
    | with_reducible apply State.wr_keeps
    | with_reducible apply State.fltStatus_keeps
    | with_reducible apply State.dtUpdate_keeps
    | with_reducible apply keeps_foldl
    | with_reducible apply keeps_foldl_fst
    | with_reducible apply keeps_foldl_snd
    | with_reducible apply keeps_getD
    | split
    | (fail_if_no_progress (with_reducible apply keeps_mk))
    | dsimp -zeta only
    | with_reducible apply_assumption

theorem State.fltRestart_keeps {s₀ s : State} (n : Nat) (h : Keeps s₀ s) : Keeps s₀ (State.fltRestart s n) := by
  unfold State.fltRestart
  repeat' first
    | with_reducible assumption
    | intro _
    | ((fail_if_no_progress extract_lets +onlyGivenNames x); first | (refine keeps_cut (s₀ := s₀) (t := x) ?_ ?_; (on_goal 1 => (try dsimp -zeta only [x])); on_goal 2 => (intro hx; try clear_value x)) | (refine keeps_cut2 (s₀ := s₀) (t := x) ?_ ?_; (on_goal 1 => (try dsimp -zeta only [x])); on_goal 2 => (intro hx; try clear_value x)) | (try clear_value x))
    | with_reducible apply State.onFlt_keeps
    | with_reducible apply keeps_getD
    | (fail_if_no_progress (with_reducible apply keeps_mk))
    | dsimp -zeta only

end Sys2Proof.Machine
end

