-- ==== Sys2Proof/Laws/KeepsRingOps.lean ====
section
/-! SUPPORT. The operations of RingOps have the relation `Keeps`. -/

namespace Sys2Proof.Machine

open Sys2Proof Reg

set_option linter.unusedTactic false
set_option linter.unreachableTactic false

theorem State.setFolio_keeps {s₀ s : State} (f : Nat) (x : Fol) (h : Keeps s₀ s) : Keeps s₀ (State.setFolio s f x) := by
  unfold State.setFolio
  repeat' first
    | with_reducible assumption
    | intro _
    | with_reducible apply State.onFol_keeps
    | (fail_if_no_progress (with_reducible apply keeps_mk))
    | dsimp -zeta only

theorem State.modFolio_keeps {s₀ s : State} (f : Nat) (g : Fol → Fol) (h : Keeps s₀ s) : Keeps s₀ (State.modFolio s f g) := by
  unfold State.modFolio
  repeat' first
    | with_reducible assumption
    | intro _
    | with_reducible apply State.setFolio_keeps
    | dsimp -zeta only

theorem State.svcPush_keeps {s₀ s : State} (r : Nat) (mk : Nat → Nat) (h : Keeps s₀ s) : Keeps s₀ (State.svcPush s r mk) := by
  unfold State.svcPush
  repeat' first
    | with_reducible assumption
    | intro _
    | ((fail_if_no_progress extract_lets +onlyGivenNames x); first | (refine keeps_cut (s₀ := s₀) (t := x) ?_ ?_; (on_goal 1 => (try dsimp -zeta only [x])); on_goal 2 => (intro hx; try clear_value x)) | (refine keeps_cut2 (s₀ := s₀) (t := x) ?_ ?_; (on_goal 1 => (try dsimp -zeta only [x])); on_goal 2 => (intro hx; try clear_value x)) | (try clear_value x))
    | with_reducible apply State.onFol_keeps
    | with_reducible apply State.bump_keeps
    | with_reducible apply State.flag_keeps
    | split
    | (fail_if_no_progress (with_reducible apply keeps_mk))
    | dsimp -zeta only

theorem State.svcConsume_keeps {s₀ s : State} (r : Nat) (n : Nat) (h : Keeps s₀ s) : Keeps s₀ (State.svcConsume s r n) := by
  unfold State.svcConsume
  repeat' first
    | with_reducible assumption
    | intro _
    | with_reducible apply State.onFol_keeps
    | (fail_if_no_progress (with_reducible apply keeps_mk))
    | dsimp -zeta only

theorem State.ringFault_keeps {s₀ s : State} (f : Nat) (a : Nat) (rx : Bool) (h : Keeps s₀ s) : Keeps s₀ (State.ringFault s f a rx) := by
  unfold State.ringFault
  repeat' first
    | with_reducible assumption
    | intro _
    | ((fail_if_no_progress extract_lets +onlyGivenNames x); first | (refine keeps_cut (s₀ := s₀) (t := x) ?_ ?_; (on_goal 1 => (try dsimp -zeta only [x])); on_goal 2 => (intro hx; try clear_value x)) | (refine keeps_cut2 (s₀ := s₀) (t := x) ?_ ?_; (on_goal 1 => (try dsimp -zeta only [x])); on_goal 2 => (intro hx; try clear_value x)) | (try clear_value x))
    | with_reducible apply State.setFolio_keeps
    | with_reducible apply State.onFol_keeps
    | split
    | (fail_if_no_progress (with_reducible apply keeps_mk))
    | dsimp -zeta only

theorem State.rxDeliver_keeps {s₀ s : State} (f : Nat) (bs : List Byte) (inPort cls : Nat) (ts : Option Nat) (h : Keeps s₀ s) :
    Keeps s₀ (State.rxDeliver s f bs inPort cls ts) := by
  unfold State.rxDeliver
  extract_lets x size head
  split
  · exact State.flag_keeps _ (State.bumpI_keeps _ _ h)
  · split
    rename_i d4 t e
    have ht : Keeps s₀ t := by
      split at e
      · cases e; exact State.dramWrite_keeps _ _ h
      · cases e; exact State.ringFault_keeps _ _ _ h
    exact State.wrI_keeps _ _ _ (State.modFolio_keeps _ _ ht)

theorem State.rxTail_keeps {s₀ s : State} (f : Nat) (tail : Nat) (ds : List Nat) (h : Keeps s₀ s) : Keeps s₀ (State.rxTail s f tail ds) := by
  unfold State.rxTail
  repeat' first
    | with_reducible assumption
    | intro _
    | ((fail_if_no_progress extract_lets +onlyGivenNames x); first | (refine keeps_cut (s₀ := s₀) (t := x) ?_ ?_; (on_goal 1 => (try dsimp -zeta only [x])); on_goal 2 => (intro hx; try clear_value x)) | (refine keeps_cut2 (s₀ := s₀) (t := x) ?_ ?_; (on_goal 1 => (try dsimp -zeta only [x])); on_goal 2 => (intro hx; try clear_value x)) | (try clear_value x))
    | with_reducible apply State.modFolio_keeps
    | with_reducible apply State.wrI_keeps
    | (fail_if_no_progress (with_reducible apply keeps_mk))
    | dsimp -zeta only
    | with_reducible apply_assumption

theorem State.txAdvance_keeps {s₀ s : State} (fuel f : Nat) (h : Keeps s₀ s) : Keeps s₀ (State.txAdvance fuel s f) := by
  induction fuel generalizing s with
  | zero => exact h
  | succ fuel ih =>
    unfold State.txAdvance
    dsimp only
    split
    · exact h
    · exact ih (State.wrI_keeps _ _ _ h)

theorem State.txBack_keeps {s₀ s : State} (f : Nat) (i : Nat) (sent : Bool) (cause : Nat) (h : Keeps s₀ s) : Keeps s₀ (State.txBack s f i sent cause) := by
  unfold State.txBack
  repeat' first
    | with_reducible assumption
    | intro _
    | ((fail_if_no_progress extract_lets +onlyGivenNames x); first | (refine keeps_cut (s₀ := s₀) (t := x) ?_ ?_; (on_goal 1 => (try dsimp -zeta only [x])); on_goal 2 => (intro hx; try clear_value x)) | (refine keeps_cut2 (s₀ := s₀) (t := x) ?_ ?_; (on_goal 1 => (try dsimp -zeta only [x])); on_goal 2 => (intro hx; try clear_value x)) | (try clear_value x))
    | with_reducible apply State.modFolio_keeps
    | with_reducible apply State.txAdvance_keeps
    | (fail_if_no_progress (with_reducible apply keeps_mk))
    | dsimp -zeta only
    | with_reducible apply_assumption

theorem State.txReturn_keeps {s₀ s : State} (f : Nat) (is : List Nat) (cause : Nat) (h : Keeps s₀ s) : Keeps s₀ (State.txReturn s f is cause) := by
  unfold State.txReturn
  repeat' first
    | with_reducible assumption
    | intro _
    | with_reducible apply State.txBack_keeps
    | with_reducible apply keeps_foldl
    | with_reducible apply keeps_foldl_fst
    | with_reducible apply keeps_foldl_snd
    | split
    | dsimp -zeta only

theorem State.txSend_keeps {s₀ s : State} (f : Nat) (i : Nat) (gated : Bool) (h : Keeps s₀ s) : Keeps s₀ (State.txSend s f i gated) := by
  unfold State.txSend
  repeat' first
    | with_reducible assumption
    | intro _
    | ((fail_if_no_progress extract_lets +onlyGivenNames x); first | (refine keeps_cut (s₀ := s₀) (t := x) ?_ ?_; (on_goal 1 => (try dsimp -zeta only [x])); on_goal 2 => (intro hx; try clear_value x)) | (refine keeps_cut2 (s₀ := s₀) (t := x) ?_ ?_; (on_goal 1 => (try dsimp -zeta only [x])); on_goal 2 => (intro hx; try clear_value x)) | (try clear_value x))
    | (with_reducible refine keeps_snd (by assumption) ?_)
    | with_reducible apply State.ringFault_keeps
    | with_reducible apply State.txBack_keeps
    | with_reducible apply State.inject_keeps
    | split
    | dsimp -zeta only

theorem State.i0Deliver_keeps {s₀ s : State} (c : Copy) (h : Keeps s₀ s) : Keeps s₀ (State.i0Deliver s c) := by
  unfold State.i0Deliver
  repeat' first
    | with_reducible assumption
    | intro _
    | with_reducible apply State.rxDeliver_keeps
    | with_reducible apply keeps_foldl
    | with_reducible apply keeps_foldl_fst
    | with_reducible apply keeps_foldl_snd
    | split
    | dsimp -zeta only

end Sys2Proof.Machine
end

