-- ==== Sys2Proof/Laws/KeepsCtlOps.lean ====
section
/-! SUPPORT. The operations of CtlOps have the relation `Keeps`. -/

namespace Sys2Proof.Machine

open Sys2Proof Reg

set_option linter.unusedTactic false
set_option linter.unreachableTactic false

theorem State.setObj_keeps {s₀ s : State} (o : Nat) (x : CtlObj) (h : Keeps s₀ s) : Keeps s₀ (State.setObj s o x) := by
  unfold State.setObj
  repeat' first
    | with_reducible assumption
    | intro _
    | with_reducible apply State.onCtl_keeps
    | (fail_if_no_progress (with_reducible apply keeps_mk))
    | dsimp -zeta only

theorem State.ctlRefresh_keeps {s₀ s : State}  (h : Keeps s₀ s) : Keeps s₀ (State.ctlRefresh s) := by
  unfold State.ctlRefresh
  repeat' first
    | with_reducible assumption
    | intro _
    | with_reducible apply State.wrB_keeps
    | with_reducible apply State.wr_keeps
    | dsimp -zeta only

theorem State.ctlRegResult_keeps {s₀ s : State} (src : Nat) (code : Nat) (h : Keeps s₀ s) : Keeps s₀ (State.ctlRegResult s src code) := by
  unfold State.ctlRegResult
  repeat' first
    | with_reducible assumption
    | intro _
    | ((fail_if_no_progress extract_lets +onlyGivenNames x); first | (refine keeps_cut (s₀ := s₀) (t := x) ?_ ?_; (on_goal 1 => (try dsimp -zeta only [x])); on_goal 2 => (intro hx; try clear_value x)) | (refine keeps_cut2 (s₀ := s₀) (t := x) ?_ ?_; (on_goal 1 => (try dsimp -zeta only [x])); on_goal 2 => (intro hx; try clear_value x)) | (try clear_value x))
    | with_reducible apply State.wrI_keeps
    | with_reducible apply State.flagI_keeps
    | split
    | dsimp -zeta only

theorem State.ctlCount_keeps {s₀ s : State} (code : Nat) (h : Keeps s₀ s) : Keeps s₀ (State.ctlCount s code) := by
  unfold State.ctlCount
  repeat' first
    | with_reducible assumption
    | intro _
    | ((fail_if_no_progress extract_lets +onlyGivenNames x); first | (refine keeps_cut (s₀ := s₀) (t := x) ?_ ?_; (on_goal 1 => (try dsimp -zeta only [x])); on_goal 2 => (intro hx; try clear_value x)) | (refine keeps_cut2 (s₀ := s₀) (t := x) ?_ ?_; (on_goal 1 => (try dsimp -zeta only [x])); on_goal 2 => (intro hx; try clear_value x)) | (try clear_value x))
    | with_reducible apply State.bump_keeps
    | with_reducible apply State.flag_keeps
    | split
    | dsimp -zeta only

theorem State.ctlResultOf_keeps {s₀ s : State} (e : Nat) (held : Option Nat) (c : CtlCmd) (latch : Nat) (code : Nat) (scan : Nat) (noPos : Bool) (h : Keeps s₀ s) : Keeps s₀ (State.ctlResultOf s e held c latch code scan noPos) := by
  unfold State.ctlResultOf
  repeat' first
    | with_reducible assumption
    | intro _
    | ((fail_if_no_progress extract_lets +onlyGivenNames x); first | (refine keeps_cut (s₀ := s₀) (t := x) ?_ ?_; (on_goal 1 => (try dsimp -zeta only [x])); on_goal 2 => (intro hx; try clear_value x)) | (refine keeps_cut2 (s₀ := s₀) (t := x) ?_ ?_; (on_goal 1 => (try dsimp -zeta only [x])); on_goal 2 => (intro hx; try clear_value x)) | (try clear_value x))
    | (with_reducible refine keeps_snd (by assumption) ?_)
    | with_reducible apply State.fresh_keeps
    | with_reducible apply State.ctlRegResult_keeps
    | with_reducible apply State.ctlCount_keeps
    | with_reducible apply State.wr_keeps
    | with_reducible apply State.setObj_keeps
    | with_reducible apply State.latch_keeps
    | with_reducible apply State.svcPush_keeps
    | with_reducible apply State.eventCtl_keeps
    | with_reducible apply State.rxDeliver_keeps
    | split
    | (fail_if_no_progress (with_reducible apply keeps_mk))
    | dsimp -zeta only
    | with_reducible apply_assumption

theorem State.ctlResult_keeps {s₀ s : State} (c : CtlCmd) (latch : Nat) (code : Nat) (scan : Nat) (noPos : Bool) (h : Keeps s₀ s) : Keeps s₀ (State.ctlResult s c latch code scan noPos) := by
  unfold State.ctlResult
  repeat' first
    | with_reducible assumption
    | intro _
    | with_reducible apply State.ctlResultOf_keeps
    | with_reducible apply State.latch_keeps
    | dsimp -zeta only

theorem State.ctlHeldResult_keeps {s₀ s : State} (o : Nat) (x : CtlObj) (c : CtlCmd) (code : Nat) (scan : Nat) (noPos : Bool) (h : Keeps s₀ s) : Keeps s₀ (State.ctlHeldResult s o x c code scan noPos) := by
  unfold State.ctlHeldResult
  repeat' first
    | with_reducible assumption
    | intro _
    | with_reducible apply State.ctlResultOf_keeps
    | (fail_if_no_progress (with_reducible apply keeps_mk))
    | dsimp -zeta only

theorem State.operate_keeps {s₀ s : State} (e : Nat) (v : Nat) (h : Keeps s₀ s) : Keeps s₀ (State.operate s e v) := by
  unfold State.operate
  repeat' first
    | with_reducible assumption
    | intro _
    | with_reducible apply State.pubMember_keeps
    | dsimp -zeta only

theorem State.operateIdle_keeps {s₀ s : State} (e : Nat) (h : Keeps s₀ s) : Keeps s₀ (State.operateIdle s e) := by
  unfold State.operateIdle
  repeat' first
    | with_reducible assumption
    | intro _
    | with_reducible apply State.operate_keeps
    | with_reducible apply State.pubCtlTake_keeps
    | dsimp -zeta only

theorem State.ctlEnd_keeps {s₀ s : State} (o : Nat) (code : Nat) (scan : Nat) (noPos : Bool) (h : Keeps s₀ s) : Keeps s₀ (State.ctlEnd s o code scan noPos) := by
  unfold State.ctlEnd
  repeat' first
    | with_reducible assumption
    | intro _
    | ((fail_if_no_progress extract_lets +onlyGivenNames x); first | (refine keeps_cut (s₀ := s₀) (t := x) ?_ ?_; (on_goal 1 => (try dsimp -zeta only [x])); on_goal 2 => (intro hx; try clear_value x)) | (refine keeps_cut2 (s₀ := s₀) (t := x) ?_ ?_; (on_goal 1 => (try dsimp -zeta only [x])); on_goal 2 => (intro hx; try clear_value x)) | (try clear_value x))
    | (with_reducible refine keeps_snd (by assumption) ?_)
    | with_reducible apply State.setObj_keeps
    | with_reducible apply State.fresh_keeps
    | with_reducible apply State.operateIdle_keeps
    | with_reducible apply State.ctlHeldResult_keeps
    | with_reducible apply State.ctlRefresh_keeps
    | split
    | (fail_if_no_progress (with_reducible apply keeps_mk))
    | dsimp -zeta only

theorem State.ctlArrive_keeps {s₀ s : State} (c : CtlCmd) (h : Keeps s₀ s) : Keeps s₀ (State.ctlArrive s c) := by
  unfold State.ctlArrive
  repeat' first
    | with_reducible assumption
    | intro _
    | ((fail_if_no_progress extract_lets +onlyGivenNames x); first | (refine keeps_cut (s₀ := s₀) (t := x) ?_ ?_; (on_goal 1 => (try dsimp -zeta only [x])); on_goal 2 => (intro hx; try clear_value x)) | (refine keeps_cut2 (s₀ := s₀) (t := x) ?_ ?_; (on_goal 1 => (try dsimp -zeta only [x])); on_goal 2 => (intro hx; try clear_value x)) | (try clear_value x))
    | (with_reducible refine keeps_snd (by assumption) ?_)
    | with_reducible apply State.bump_keeps
    | with_reducible apply State.ctlResult_keeps
    | with_reducible apply State.fresh_keeps
    | with_reducible apply State.onCtl_keeps
    | split
    | (fail_if_no_progress (with_reducible apply keeps_mk))
    | dsimp -zeta only

theorem State.ctlCmdWrite_keeps {s₀ s : State} (who : Agent) (i : Nat) (obj : Nat) (code : Nat) (h : Keeps s₀ s) : Keeps s₀ (State.ctlCmdWrite s who i obj code) := by
  unfold State.ctlCmdWrite
  repeat' first
    | with_reducible assumption
    | intro _
    | ((fail_if_no_progress extract_lets +onlyGivenNames x); first | (refine keeps_cut (s₀ := s₀) (t := x) ?_ ?_; (on_goal 1 => (try dsimp -zeta only [x])); on_goal 2 => (intro hx; try clear_value x)) | (refine keeps_cut2 (s₀ := s₀) (t := x) ?_ ?_; (on_goal 1 => (try dsimp -zeta only [x])); on_goal 2 => (intro hx; try clear_value x)) | (try clear_value x))
    | with_reducible apply State.flag_keeps
    | with_reducible apply State.wrI_keeps
    | with_reducible apply State.ctlArrive_keeps
    | split
    | dsimp -zeta only

theorem State.ctlHold_keeps {s₀ s : State} (c : CtlCmd) (h : Keeps s₀ s) : Keeps s₀ (State.ctlHold s c) := by
  unfold State.ctlHold
  repeat' first
    | with_reducible assumption
    | intro _
    | (with_reducible refine keeps_snd (by assumption) ?_)
    | with_reducible apply State.setObj_keeps
    | with_reducible apply State.fresh_keeps
    | with_reducible apply keeps_getD
    | (fail_if_no_progress (with_reducible apply keeps_mk))
    | dsimp -zeta only

theorem State.ctlCancel_keeps {s₀ s : State} (c : CtlCmd) (scan : Nat) (h : Keeps s₀ s) : Keeps s₀ (State.ctlCancel s c scan) := by
  unfold State.ctlCancel
  repeat' first
    | with_reducible assumption
    | intro _
    | ((fail_if_no_progress extract_lets +onlyGivenNames x); first | (refine keeps_cut (s₀ := s₀) (t := x) ?_ ?_; (on_goal 1 => (try dsimp -zeta only [x])); on_goal 2 => (intro hx; try clear_value x)) | (refine keeps_cut2 (s₀ := s₀) (t := x) ?_ ?_; (on_goal 1 => (try dsimp -zeta only [x])); on_goal 2 => (intro hx; try clear_value x)) | (try clear_value x))
    | with_reducible apply State.ctlResult_keeps
    | with_reducible apply State.ctlEnd_keeps
    | split
    | dsimp -zeta only

theorem State.ctlMeet_keeps {s₀ s : State} (o : Nat) (scan : Nat) (w : CtlCmd) (h : Keeps s₀ s) : Keeps s₀ (State.ctlMeet s o scan w) := by
  unfold State.ctlMeet
  repeat' first
    | with_reducible assumption
    | intro _
    | ((fail_if_no_progress extract_lets +onlyGivenNames x); first | (refine keeps_cut (s₀ := s₀) (t := x) ?_ ?_; (on_goal 1 => (try dsimp -zeta only [x])); on_goal 2 => (intro hx; try clear_value x)) | (refine keeps_cut2 (s₀ := s₀) (t := x) ?_ ?_; (on_goal 1 => (try dsimp -zeta only [x])); on_goal 2 => (intro hx; try clear_value x)) | (try clear_value x))
    | with_reducible apply State.ctlHold_keeps
    | with_reducible apply State.setObj_keeps
    | with_reducible apply State.ctlHeldResult_keeps
    | with_reducible apply State.ctlResult_keeps
    | split
    | (fail_if_no_progress (with_reducible apply keeps_mk))
    | dsimp -zeta only

theorem State.ctlArbitrate_keeps {s₀ s : State} (o : Nat) (scan : Nat) (batch : List CtlCmd) (h : Keeps s₀ s) : Keeps s₀ (State.ctlArbitrate s o scan batch) := by
  unfold State.ctlArbitrate
  repeat' first
    | with_reducible assumption
    | intro _
    | ((fail_if_no_progress extract_lets +onlyGivenNames x); first | (refine keeps_cut (s₀ := s₀) (t := x) ?_ ?_; (on_goal 1 => (try dsimp -zeta only [x])); on_goal 2 => (intro hx; try clear_value x)) | (refine keeps_cut2 (s₀ := s₀) (t := x) ?_ ?_; (on_goal 1 => (try dsimp -zeta only [x])); on_goal 2 => (intro hx; try clear_value x)) | (try clear_value x))
    | with_reducible apply State.ctlResult_keeps
    | with_reducible apply State.ctlMeet_keeps
    | with_reducible apply keeps_foldl
    | with_reducible apply keeps_foldl_fst
    | with_reducible apply keeps_foldl_snd
    | split
    | dsimp -zeta only

theorem State.ctlSnapshot_keeps {s₀ s : State} (scan : Nat) (h : Keeps s₀ s) : Keeps s₀ (State.ctlSnapshot s scan).2 := by
  unfold State.ctlSnapshot
  repeat' first
    | with_reducible assumption
    | intro _
    | ((fail_if_no_progress extract_lets +onlyGivenNames x); first | (refine keeps_cut (s₀ := s₀) (t := x) ?_ ?_; (on_goal 1 => (try dsimp -zeta only [x])); on_goal 2 => (intro hx; try clear_value x)) | (refine keeps_cut2 (s₀ := s₀) (t := x) ?_ ?_; (on_goal 1 => (try dsimp -zeta only [x])); on_goal 2 => (intro hx; try clear_value x)) | (try clear_value x))
    | (with_reducible refine keeps_snd (by assumption) ?_)
    | with_reducible apply State.onCtl_keeps
    | with_reducible apply State.ctlCancel_keeps
    | with_reducible apply State.ctlArbitrate_keeps
    | with_reducible apply State.fresh_keeps
    | with_reducible apply State.ctlRefresh_keeps
    | with_reducible apply keeps_foldl
    | with_reducible apply keeps_foldl_fst
    | with_reducible apply keeps_foldl_snd
    | split
    | (fail_if_no_progress (with_reducible apply keeps_mk))
    | dsimp -zeta only

theorem State.ilApply_keeps {s₀ s : State}  (h : Keeps s₀ s) : Keeps s₀ (State.ilApply s) := by
  unfold State.ilApply
  repeat' first
    | with_reducible assumption
    | intro _
    | with_reducible apply State.onCtl_keeps
    | with_reducible apply State.wr_keeps
    | split
    | (fail_if_no_progress (with_reducible apply keeps_mk))
    | dsimp -zeta only

theorem State.ctlReceive_keeps {s₀ s : State} (y : Store) (scan : Nat) (h : Keeps s₀ s) : Keeps s₀ (State.ctlReceive s y scan) := by
  unfold State.ctlReceive
  repeat' first
    | with_reducible assumption
    | intro _
    | ((fail_if_no_progress extract_lets +onlyGivenNames x); first | (refine keeps_cut (s₀ := s₀) (t := x) ?_ ?_; (on_goal 1 => (try dsimp -zeta only [x])); on_goal 2 => (intro hx; try clear_value x)) | (refine keeps_cut2 (s₀ := s₀) (t := x) ?_ ?_; (on_goal 1 => (try dsimp -zeta only [x])); on_goal 2 => (intro hx; try clear_value x)) | (try clear_value x))
    | with_reducible apply State.onCtl_keeps
    | with_reducible apply State.ilApply_keeps
    | split
    | (fail_if_no_progress (with_reducible apply keeps_mk))
    | dsimp -zeta only

theorem State.ctlApply_keeps {s₀ s : State} (o : Nat) (scan : Nat) (h : Keeps s₀ s) : Keeps s₀ (State.ctlApply s o scan) := by
  unfold State.ctlApply
  repeat' first
    | with_reducible assumption
    | intro _
    | ((fail_if_no_progress extract_lets +onlyGivenNames x); first | (refine keeps_cut (s₀ := s₀) (t := x) ?_ ?_; (on_goal 1 => (try dsimp -zeta only [x])); on_goal 2 => (intro hx; try clear_value x)) | (refine keeps_cut2 (s₀ := s₀) (t := x) ?_ ?_; (on_goal 1 => (try dsimp -zeta only [x])); on_goal 2 => (intro hx; try clear_value x)) | (try clear_value x))
    | with_reducible apply State.ctlEnd_keeps
    | with_reducible apply State.setObj_keeps
    | with_reducible apply State.operate_keeps
    | with_reducible apply State.ctlHeldResult_keeps
    | split
    | (fail_if_no_progress (with_reducible apply keeps_mk))
    | dsimp -zeta only

theorem State.ctlCommit_keeps {s₀ s : State} (y : Store) (scan : Nat) (h : Keeps s₀ s) : Keeps s₀ (State.ctlCommit s y scan) := by
  unfold State.ctlCommit
  repeat' first
    | with_reducible assumption
    | intro _
    | ((fail_if_no_progress extract_lets +onlyGivenNames x); first | (refine keeps_cut (s₀ := s₀) (t := x) ?_ ?_; (on_goal 1 => (try dsimp -zeta only [x])); on_goal 2 => (intro hx; try clear_value x)) | (refine keeps_cut2 (s₀ := s₀) (t := x) ?_ ?_; (on_goal 1 => (try dsimp -zeta only [x])); on_goal 2 => (intro hx; try clear_value x)) | (try clear_value x))
    | with_reducible apply State.ctlReceive_keeps
    | with_reducible apply State.ctlApply_keeps
    | with_reducible apply State.pubMember_keeps
    | with_reducible apply State.pubCtlTake_keeps
    | with_reducible apply State.ctlArrive_keeps
    | with_reducible apply State.ctlRefresh_keeps
    | with_reducible apply keeps_foldl
    | with_reducible apply keeps_foldl_fst
    | with_reducible apply keeps_foldl_snd
    | split
    | dsimp -zeta only

theorem State.ctlWaitTimeout_keeps {s₀ s : State} (o : Nat) (h : Keeps s₀ s) : Keeps s₀ (State.ctlWaitTimeout s o) := by
  unfold State.ctlWaitTimeout
  repeat' first
    | with_reducible assumption
    | intro _
    | ((fail_if_no_progress extract_lets +onlyGivenNames x); first | (refine keeps_cut (s₀ := s₀) (t := x) ?_ ?_; (on_goal 1 => (try dsimp -zeta only [x])); on_goal 2 => (intro hx; try clear_value x)) | (refine keeps_cut2 (s₀ := s₀) (t := x) ?_ ?_; (on_goal 1 => (try dsimp -zeta only [x])); on_goal 2 => (intro hx; try clear_value x)) | (try clear_value x))
    | with_reducible apply State.ctlEnd_keeps
    | split
    | dsimp -zeta only

theorem State.ctlOperateTimeout_keeps {s₀ s : State} (o : Nat) (h : Keeps s₀ s) : Keeps s₀ (State.ctlOperateTimeout s o) := by
  unfold State.ctlOperateTimeout
  repeat' first
    | with_reducible assumption
    | intro _
    | ((fail_if_no_progress extract_lets +onlyGivenNames x); first | (refine keeps_cut (s₀ := s₀) (t := x) ?_ ?_; (on_goal 1 => (try dsimp -zeta only [x])); on_goal 2 => (intro hx; try clear_value x)) | (refine keeps_cut2 (s₀ := s₀) (t := x) ?_ ?_; (on_goal 1 => (try dsimp -zeta only [x])); on_goal 2 => (intro hx; try clear_value x)) | (refine keeps_cutF (s₀ := s₀) (f := x) ?_ ?_; (on_goal 1 => (try dsimp -zeta only [x])); on_goal 2 => (intro hx; try clear_value x)) | (refine keeps_cutF2 (s₀ := s₀) (f := x) ?_ ?_; (on_goal 1 => (try dsimp -zeta only [x])); on_goal 2 => (intro hx; try clear_value x)) | (refine keeps_cutF5 (s₀ := s₀) (f := x) ?_ ?_; (on_goal 1 => (try dsimp -zeta only [x])); on_goal 2 => (intro hx; try clear_value x)) | (refine keeps_cutFP (s₀ := s₀) (f := x) ?_ ?_; (on_goal 1 => (try dsimp -zeta only [x])); on_goal 2 => (intro hx; try clear_value x)) | (try clear_value x))
    | with_reducible apply State.setObj_keeps
    | with_reducible apply State.operateIdle_keeps
    | with_reducible apply State.ctlEnd_keeps
    | split
    | (fail_if_no_progress (with_reducible apply keeps_mk))
    | dsimp -zeta only
    | with_reducible apply_assumption

theorem State.ctlTravelTimeout_keeps {s₀ s : State} (o : Nat) (h : Keeps s₀ s) : Keeps s₀ (State.ctlTravelTimeout s o) := by
  unfold State.ctlTravelTimeout
  repeat' first
    | with_reducible assumption
    | intro _
    | ((fail_if_no_progress extract_lets +onlyGivenNames x); first | (refine keeps_cut (s₀ := s₀) (t := x) ?_ ?_; (on_goal 1 => (try dsimp -zeta only [x])); on_goal 2 => (intro hx; try clear_value x)) | (refine keeps_cut2 (s₀ := s₀) (t := x) ?_ ?_; (on_goal 1 => (try dsimp -zeta only [x])); on_goal 2 => (intro hx; try clear_value x)) | (try clear_value x))
    | with_reducible apply State.ctlEnd_keeps
    | split
    | dsimp -zeta only

theorem State.ctlTalExpire_keeps {s₀ s : State} (o : Nat) (h : Keeps s₀ s) : Keeps s₀ (State.ctlTalExpire s o) := by
  unfold State.ctlTalExpire
  repeat' first
    | with_reducible assumption
    | intro _
    | ((fail_if_no_progress extract_lets +onlyGivenNames x); first | (refine keeps_cut (s₀ := s₀) (t := x) ?_ ?_; (on_goal 1 => (try dsimp -zeta only [x])); on_goal 2 => (intro hx; try clear_value x)) | (refine keeps_cut2 (s₀ := s₀) (t := x) ?_ ?_; (on_goal 1 => (try dsimp -zeta only [x])); on_goal 2 => (intro hx; try clear_value x)) | (try clear_value x))
    | with_reducible apply State.setObj_keeps
    | with_reducible apply State.flag_keeps
    | split
    | (fail_if_no_progress (with_reducible apply keeps_mk))
    | dsimp -zeta only

theorem State.ctlPosition_keeps {s₀ s : State} (o : Nat) (tal : Nat) (data : List (Nat × List Byte)) (h : Keeps s₀ s) : Keeps s₀ (State.ctlPosition s o tal data) := by
  unfold State.ctlPosition
  repeat' first
    | with_reducible assumption
    | intro _
    | ((fail_if_no_progress extract_lets +onlyGivenNames x); first | (refine keeps_cut (s₀ := s₀) (t := x) ?_ ?_; (on_goal 1 => (try dsimp -zeta only [x])); on_goal 2 => (intro hx; try clear_value x)) | (refine keeps_cut2 (s₀ := s₀) (t := x) ?_ ?_; (on_goal 1 => (try dsimp -zeta only [x])); on_goal 2 => (intro hx; try clear_value x)) | (try clear_value x))
    | with_reducible apply State.setObj_keeps
    | with_reducible apply State.flag_keeps
    | with_reducible apply State.operateIdle_keeps
    | with_reducible apply State.ctlEnd_keeps
    | split
    | (fail_if_no_progress (with_reducible apply keeps_mk))
    | dsimp -zeta only

theorem State.ctlFrame_keeps {s₀ s : State}  (h : Keeps s₀ s) : Keeps s₀ (State.ctlFrame s) := by
  unfold State.ctlFrame
  repeat' first
    | with_reducible assumption
    | intro _
    | ((fail_if_no_progress extract_lets +onlyGivenNames x); first | (refine keeps_cut (s₀ := s₀) (t := x) ?_ ?_; (on_goal 1 => (try dsimp -zeta only [x])); on_goal 2 => (intro hx; try clear_value x)) | (refine keeps_cut2 (s₀ := s₀) (t := x) ?_ ?_; (on_goal 1 => (try dsimp -zeta only [x])); on_goal 2 => (intro hx; try clear_value x)) | (try clear_value x))
    | with_reducible apply State.onCtl_keeps
    | with_reducible apply State.ctlPosition_keeps
    | with_reducible apply keeps_foldl
    | with_reducible apply keeps_foldl_fst
    | with_reducible apply keeps_foldl_snd
    | split
    | (fail_if_no_progress (with_reducible apply keeps_mk))
    | dsimp -zeta only

theorem State.ctlAbort_keeps {s₀ s : State} (o : Nat) (h : Keeps s₀ s) : Keeps s₀ (State.ctlAbort s o) := by
  unfold State.ctlAbort
  repeat' first
    | with_reducible assumption
    | intro _
    | with_reducible apply State.ctlEnd_keeps
    | dsimp -zeta only

theorem State.ctlWithdraw_keeps {s₀ s : State}  (h : Keeps s₀ s) : Keeps s₀ (State.ctlWithdraw s) := by
  unfold State.ctlWithdraw
  repeat' first
    | with_reducible assumption
    | intro _
    | ((fail_if_no_progress extract_lets +onlyGivenNames x); first | (refine keeps_cut (s₀ := s₀) (t := x) ?_ ?_; (on_goal 1 => (try dsimp -zeta only [x])); on_goal 2 => (intro hx; try clear_value x)) | (refine keeps_cut2 (s₀ := s₀) (t := x) ?_ ?_; (on_goal 1 => (try dsimp -zeta only [x])); on_goal 2 => (intro hx; try clear_value x)) | (try clear_value x))
    | with_reducible apply State.ctlEnd_keeps
    | with_reducible apply State.ctlResult_keeps
    | with_reducible apply State.onCtl_keeps
    | with_reducible apply State.ctlRefresh_keeps
    | with_reducible apply keeps_foldl
    | with_reducible apply keeps_foldl_fst
    | with_reducible apply keeps_foldl_snd
    | (fail_if_no_progress (with_reducible apply keeps_mk))
    | dsimp -zeta only

theorem State.ctlFlipObj_keeps {s₀ s : State} (olds : Store) (mOld : Store) (p : Nat × CtlObj) (h : Keeps s₀ s) : Keeps s₀ (State.ctlFlipObj s olds mOld p) := by
  unfold State.ctlFlipObj
  repeat' first
    | with_reducible assumption
    | intro _
    | ((fail_if_no_progress extract_lets +onlyGivenNames x); first | (refine keeps_cut (s₀ := s₀) (t := x) ?_ ?_; (on_goal 1 => (try dsimp -zeta only [x])); on_goal 2 => (intro hx; try clear_value x)) | (refine keeps_cut2 (s₀ := s₀) (t := x) ?_ ?_; (on_goal 1 => (try dsimp -zeta only [x])); on_goal 2 => (intro hx; try clear_value x)) | (try clear_value x))
    | with_reducible apply State.operateIdle_keeps
    | with_reducible apply State.ctlResultOf_keeps
    | with_reducible apply State.flag_keeps
    | with_reducible apply State.setObj_keeps
    | with_reducible apply State.operate_keeps
    | with_reducible apply State.pubCtlTake_keeps
    | with_reducible apply State.ctlEnd_keeps
    | with_reducible apply keeps_getD
    | split
    | (fail_if_no_progress (with_reducible apply keeps_mk))
    | dsimp -zeta only

theorem State.ctlFlip_keeps {s₀ s : State} (olds : Store) (mOld : Store) (h : Keeps s₀ s) : Keeps s₀ (State.ctlFlip s olds mOld) := by
  unfold State.ctlFlip
  repeat' first
    | with_reducible assumption
    | intro _
    | ((fail_if_no_progress extract_lets +onlyGivenNames x); first | (refine keeps_cut (s₀ := s₀) (t := x) ?_ ?_; (on_goal 1 => (try dsimp -zeta only [x])); on_goal 2 => (intro hx; try clear_value x)) | (refine keeps_cut2 (s₀ := s₀) (t := x) ?_ ?_; (on_goal 1 => (try dsimp -zeta only [x])); on_goal 2 => (intro hx; try clear_value x)) | (try clear_value x))
    | with_reducible apply State.ctlFlipObj_keeps
    | with_reducible apply State.onCtl_keeps
    | with_reducible apply State.ctlRefresh_keeps
    | with_reducible apply keeps_foldl
    | with_reducible apply keeps_foldl_fst
    | with_reducible apply keeps_foldl_snd
    | (fail_if_no_progress (with_reducible apply keeps_mk))
    | dsimp -zeta only

theorem State.ilRise_keeps {s₀ s : State}  (h : Keeps s₀ s) : Keeps s₀ (State.ilRise s) := by
  unfold State.ilRise
  repeat' first
    | with_reducible assumption
    | intro _
    | ((fail_if_no_progress extract_lets +onlyGivenNames x); first | (refine keeps_cut (s₀ := s₀) (t := x) ?_ ?_; (on_goal 1 => (try dsimp -zeta only [x])); on_goal 2 => (intro hx; try clear_value x)) | (refine keeps_cut2 (s₀ := s₀) (t := x) ?_ ?_; (on_goal 1 => (try dsimp -zeta only [x])); on_goal 2 => (intro hx; try clear_value x)) | (try clear_value x))
    | with_reducible apply State.wr_keeps
    | with_reducible apply State.onCtl_keeps
    | with_reducible apply State.ilApply_keeps
    | with_reducible apply State.wrB_keeps
    | split
    | (fail_if_no_progress (with_reducible apply keeps_mk))
    | dsimp -zeta only

theorem State.ilQuery_keeps {s₀ s : State} (q : Nat) (par : Bool) (h : Keeps s₀ s) : Keeps s₀ (State.ilQuery s q par) := by
  unfold State.ilQuery
  repeat' first
    | with_reducible assumption
    | intro _
    | ((fail_if_no_progress extract_lets +onlyGivenNames x); first | (refine keeps_cut (s₀ := s₀) (t := x) ?_ ?_; (on_goal 1 => (try dsimp -zeta only [x])); on_goal 2 => (intro hx; try clear_value x)) | (refine keeps_cut2 (s₀ := s₀) (t := x) ?_ ?_; (on_goal 1 => (try dsimp -zeta only [x])); on_goal 2 => (intro hx; try clear_value x)) | (try clear_value x))
    | with_reducible apply State.bump_keeps
    | with_reducible apply State.onCtl_keeps
    | with_reducible apply State.ilRise_keeps
    | with_reducible apply State.flag_keeps
    | with_reducible apply State.flagIf_keeps
    | split
    | (fail_if_no_progress (with_reducible apply keeps_mk))
    | dsimp -zeta only

theorem State.ilClkLoss_keeps {s₀ s : State}  (h : Keeps s₀ s) : Keeps s₀ (State.ilClkLoss s) := by
  unfold State.ilClkLoss
  repeat' first
    | with_reducible assumption
    | intro _
    | ((fail_if_no_progress extract_lets +onlyGivenNames x); first | (refine keeps_cut (s₀ := s₀) (t := x) ?_ ?_; (on_goal 1 => (try dsimp -zeta only [x])); on_goal 2 => (intro hx; try clear_value x)) | (refine keeps_cut2 (s₀ := s₀) (t := x) ?_ ?_; (on_goal 1 => (try dsimp -zeta only [x])); on_goal 2 => (intro hx; try clear_value x)) | (try clear_value x))
    | with_reducible apply State.wr_keeps
    | with_reducible apply State.flagIf_keeps
    | with_reducible apply State.ilApply_keeps
    | with_reducible apply State.wrB_keeps
    | split
    | dsimp -zeta only

theorem State.ilAge_keeps {s₀ s : State}  (h : Keeps s₀ s) : Keeps s₀ (State.ilAge s) := by
  unfold State.ilAge
  repeat' first
    | with_reducible assumption
    | intro _
    | with_reducible apply State.flag_keeps
    | with_reducible apply State.wr_keeps
    | split
    | dsimp -zeta only

end Sys2Proof.Machine
end

