-- ==== Sys2Proof/Laws/KeepsClsOps.lean ====
section
/-! SUPPORT. The operations of ClsOps have the relation `Keeps`. -/

namespace Sys2Proof.Machine

open Sys2Proof Reg

set_option linter.unusedTactic false
set_option linter.unreachableTactic false

theorem State.modCyc_keeps {s₀ s : State} (f : Nat) (n : Nat) (g : Cyc → Cyc) (h : Keeps s₀ s) : Keeps s₀ (State.modCyc s f n g) := by
  unfold State.modCyc
  repeat' first
    | with_reducible assumption
    | intro _
    | with_reducible apply State.modFolio_keeps
    | split
    | (fail_if_no_progress (with_reducible apply keeps_mk))
    | dsimp -zeta only
    | with_reducible apply_assumption

theorem State.clsShow_keeps {s₀ s : State} (f : Nat) (h : Keeps s₀ s) : Keeps s₀ (State.clsShow s f) := by
  unfold State.clsShow
  repeat' first
    | with_reducible assumption
    | intro _
    | ((fail_if_no_progress extract_lets +onlyGivenNames x); first | (refine keeps_cut (s₀ := s₀) (t := x) ?_ ?_; (on_goal 1 => (try dsimp -zeta only [x])); on_goal 2 => (intro hx; try clear_value x)) | (refine keeps_cut2 (s₀ := s₀) (t := x) ?_ ?_; (on_goal 1 => (try dsimp -zeta only [x])); on_goal 2 => (intro hx; try clear_value x)) | (refine keeps_cutF (s₀ := s₀) (f := x) ?_ ?_; (on_goal 1 => (try dsimp -zeta only [x])); on_goal 2 => (intro hx; try clear_value x)) | (refine keeps_cutF2 (s₀ := s₀) (f := x) ?_ ?_; (on_goal 1 => (try dsimp -zeta only [x])); on_goal 2 => (intro hx; try clear_value x)) | (refine keeps_cutF5 (s₀ := s₀) (f := x) ?_ ?_; (on_goal 1 => (try dsimp -zeta only [x])); on_goal 2 => (intro hx; try clear_value x)) | (refine keeps_cutFP (s₀ := s₀) (f := x) ?_ ?_; (on_goal 1 => (try dsimp -zeta only [x])); on_goal 2 => (intro hx; try clear_value x)) | (try clear_value x))
    | with_reducible apply State.wrI_keeps
    | with_reducible apply State.wrSatI_keeps
    | with_reducible apply State.wrSat_keeps
    | with_reducible apply keeps_foldl
    | with_reducible apply keeps_foldl_fst
    | with_reducible apply keeps_foldl_snd
    | split
    | dsimp -zeta only
    | with_reducible apply_assumption

theorem State.clsLast_keeps {s₀ s : State} (f : Nat) (cause : Nat) (h : Keeps s₀ s) : Keeps s₀ (State.clsLast s f cause) := by
  unfold State.clsLast
  repeat' first
    | with_reducible assumption
    | intro _
    | with_reducible apply State.wr_keeps
    | dsimp -zeta only

theorem State.clsNotice_keeps {s₀ s : State} (f : Nat) (cause : Nat) (stream : Nat) (epoch : Nat) (h : Keeps s₀ s) : Keeps s₀ (State.clsNotice s f cause stream epoch) := by
  unfold State.clsNotice
  repeat' first
    | with_reducible assumption
    | intro _
    | ((fail_if_no_progress extract_lets +onlyGivenNames x); first | (refine keeps_cut (s₀ := s₀) (t := x) ?_ ?_; (on_goal 1 => (try dsimp -zeta only [x])); on_goal 2 => (intro hx; try clear_value x)) | (refine keeps_cut2 (s₀ := s₀) (t := x) ?_ ?_; (on_goal 1 => (try dsimp -zeta only [x])); on_goal 2 => (intro hx; try clear_value x)) | (try clear_value x))
    | with_reducible apply State.wrI_keeps
    | with_reducible apply State.flagI_keeps
    | split
    | dsimp -zeta only

theorem State.loadReport_keeps {s₀ s : State} (f : Nat) (stream : Nat) (epoch : Nat) (prov : Bool) (h : Keeps s₀ s) : Keeps s₀ (State.loadReport s f stream epoch prov) := by
  unfold State.loadReport
  repeat' first
    | with_reducible assumption
    | intro _
    | with_reducible apply State.modFolio_keeps
    | with_reducible apply State.clsShow_keeps
    | with_reducible apply State.modCyc_keeps
    | split
    | (fail_if_no_progress (with_reducible apply keeps_mk))
    | dsimp -zeta only
    | with_reducible apply_assumption

theorem State.abandonCycle_keeps {s₀ s : State} (f : Nat) (n : Nat) (h : Keeps s₀ s) : Keeps s₀ (State.abandonCycle s f n) := by
  unfold State.abandonCycle
  repeat' first
    | with_reducible assumption
    | intro _
    | ((fail_if_no_progress extract_lets +onlyGivenNames x); first | (refine keeps_cut (s₀ := s₀) (t := x) ?_ ?_; (on_goal 1 => (try dsimp -zeta only [x])); on_goal 2 => (intro hx; try clear_value x)) | (refine keeps_cut2 (s₀ := s₀) (t := x) ?_ ?_; (on_goal 1 => (try dsimp -zeta only [x])); on_goal 2 => (intro hx; try clear_value x)) | (try clear_value x))
    | with_reducible apply State.modCyc_keeps
    | with_reducible apply State.txReturn_keeps
    | with_reducible apply State.bump_keeps
    | with_reducible apply State.flag_keeps
    | with_reducible apply State.clsLast_keeps
    | with_reducible apply State.event_keeps
    | with_reducible apply State.clsNotice_keeps
    | with_reducible apply State.clsShow_keeps
    | split
    | (fail_if_no_progress (with_reducible apply keeps_mk))
    | dsimp -zeta only
    | with_reducible apply_assumption

theorem State.runEnded_keeps {s₀ s : State} (f : Nat) (n : Nat) (h : Keeps s₀ s) : Keeps s₀ (State.runEnded s f n) := by
  unfold State.runEnded
  repeat' first
    | with_reducible assumption
    | intro _
    | ((fail_if_no_progress extract_lets +onlyGivenNames x); first | (refine keeps_cut (s₀ := s₀) (t := x) ?_ ?_; (on_goal 1 => (try dsimp -zeta only [x])); on_goal 2 => (intro hx; try clear_value x)) | (refine keeps_cut2 (s₀ := s₀) (t := x) ?_ ?_; (on_goal 1 => (try dsimp -zeta only [x])); on_goal 2 => (intro hx; try clear_value x)) | (try clear_value x))
    | with_reducible apply State.txReturn_keeps
    | with_reducible apply State.modCyc_keeps
    | with_reducible apply State.abandonCycle_keeps
    | with_reducible apply State.clsShow_keeps
    | split
    | (fail_if_no_progress (with_reducible apply keeps_mk))
    | dsimp -zeta only
    | with_reducible apply_assumption

theorem State.kickNext_keeps {s₀ s : State} (f : Nat) (n : Nat) (h : Keeps s₀ s) : Keeps s₀ (State.kickNext s f n) := by
  unfold State.kickNext
  repeat' first
    | with_reducible assumption
    | intro _
    | with_reducible apply State.runEnded_keeps
    | split
    | dsimp -zeta only

theorem State.squashOne_keeps {s₀ s : State} (f : Nat) (n : Nat) (cause : Nat) (stream : Nat) (epoch : Nat) (h : Keeps s₀ s) : Keeps s₀ (State.squashOne s f n cause stream epoch) := by
  unfold State.squashOne
  repeat' first
    | with_reducible assumption
    | intro _
    | ((fail_if_no_progress extract_lets +onlyGivenNames x); first | (refine keeps_cut (s₀ := s₀) (t := x) ?_ ?_; (on_goal 1 => (try dsimp -zeta only [x])); on_goal 2 => (intro hx; try clear_value x)) | (refine keeps_cut2 (s₀ := s₀) (t := x) ?_ ?_; (on_goal 1 => (try dsimp -zeta only [x])); on_goal 2 => (intro hx; try clear_value x)) | (try clear_value x))
    | with_reducible apply State.txReturn_keeps
    | with_reducible apply State.modCyc_keeps
    | with_reducible apply State.bump_keeps
    | with_reducible apply State.flag_keeps
    | with_reducible apply State.event_keeps
    | with_reducible apply State.bumpI_keeps
    | with_reducible apply State.clsLast_keeps
    | with_reducible apply State.clsNotice_keeps
    | with_reducible apply State.clsShow_keeps
    | split
    | (fail_if_no_progress (with_reducible apply keeps_mk))
    | dsimp -zeta only
    | with_reducible apply_assumption

theorem State.squashAll_keeps {s₀ s : State} (f : Nat) (ns : List Nat) (cause : Nat) (stream : Nat) (epoch : Nat) (h : Keeps s₀ s) : Keeps s₀ (State.squashAll s f ns cause stream epoch) := by
  unfold State.squashAll
  repeat' first
    | with_reducible assumption
    | intro _
    | ((fail_if_no_progress extract_lets +onlyGivenNames x); first | (refine keeps_cut (s₀ := s₀) (t := x) ?_ ?_; (on_goal 1 => (try dsimp -zeta only [x])); on_goal 2 => (intro hx; try clear_value x)) | (refine keeps_cut2 (s₀ := s₀) (t := x) ?_ ?_; (on_goal 1 => (try dsimp -zeta only [x])); on_goal 2 => (intro hx; try clear_value x)) | (refine keeps_cutF (s₀ := s₀) (f := x) ?_ ?_; (on_goal 1 => (try dsimp -zeta only [x])); on_goal 2 => (intro hx; try clear_value x)) | (refine keeps_cutF2 (s₀ := s₀) (f := x) ?_ ?_; (on_goal 1 => (try dsimp -zeta only [x])); on_goal 2 => (intro hx; try clear_value x)) | (refine keeps_cutF5 (s₀ := s₀) (f := x) ?_ ?_; (on_goal 1 => (try dsimp -zeta only [x])); on_goal 2 => (intro hx; try clear_value x)) | (refine keeps_cutFP (s₀ := s₀) (f := x) ?_ ?_; (on_goal 1 => (try dsimp -zeta only [x])); on_goal 2 => (intro hx; try clear_value x)) | (try clear_value x))
    | with_reducible apply State.squashOne_keeps
    | with_reducible apply State.runEnded_keeps
    | with_reducible apply keeps_foldl
    | with_reducible apply keeps_foldl_fst
    | with_reducible apply keeps_foldl_snd
    | split
    | dsimp -zeta only
    | with_reducible apply_assumption

theorem State.squash_keeps {s₀ s : State} (f : Nat) (n : Nat) (cause : Nat) (stream : Nat) (epoch : Nat) (h : Keeps s₀ s) : Keeps s₀ (State.squash s f n cause stream epoch) := by
  unfold State.squash
  repeat' first
    | with_reducible assumption
    | intro _
    | with_reducible apply State.squashAll_keeps
    | dsimp -zeta only

theorem State.clsRefute_keeps {s₀ s : State} (epoch : Nat) (stream : Nat) (h : Keeps s₀ s) : Keeps s₀ (State.clsRefute s epoch stream) := by
  unfold State.clsRefute
  repeat' first
    | with_reducible assumption
    | intro _
    | with_reducible apply State.squashAll_keeps
    | with_reducible apply keeps_foldl
    | with_reducible apply keeps_foldl_fst
    | with_reducible apply keeps_foldl_snd
    | dsimp -zeta only

theorem State.giveVerdict_keeps {s₀ s : State} (p : SvEpoch) (cause : Nat) (h : Keeps s₀ s) : Keeps s₀ (State.giveVerdict s p cause) := by
  unfold State.giveVerdict
  repeat' first
    | with_reducible assumption
    | intro _
    | ((fail_if_no_progress extract_lets +onlyGivenNames x); first | (refine keeps_cut (s₀ := s₀) (t := x) ?_ ?_; (on_goal 1 => (try dsimp -zeta only [x])); on_goal 2 => (intro hx; try clear_value x)) | (refine keeps_cut2 (s₀ := s₀) (t := x) ?_ ?_; (on_goal 1 => (try dsimp -zeta only [x])); on_goal 2 => (intro hx; try clear_value x)) | (try clear_value x))
    | with_reducible apply State.svGive_keeps
    | with_reducible apply State.clsRefute_keeps
    | split
    | dsimp -zeta only

theorem State.abandonOld_keeps {s₀ s : State}  (h : Keeps s₀ s) : Keeps s₀ (State.abandonOld s) := by
  unfold State.abandonOld
  repeat' first
    | with_reducible assumption
    | intro _
    | with_reducible apply State.abandonCycle_keeps
    | with_reducible apply State.kickNext_keeps
    | with_reducible apply keeps_foldl
    | with_reducible apply keeps_foldl_fst
    | with_reducible apply keeps_foldl_snd
    | dsimp -zeta only

theorem State.stall_keeps {s₀ s : State} (f : Nat) (h : Keeps s₀ s) : Keeps s₀ (State.stall s f) := by
  unfold State.stall
  repeat' first
    | with_reducible assumption
    | intro _
    | ((fail_if_no_progress extract_lets +onlyGivenNames x); first | (refine keeps_cut (s₀ := s₀) (t := x) ?_ ?_; (on_goal 1 => (try dsimp -zeta only [x])); on_goal 2 => (intro hx; try clear_value x)) | (refine keeps_cut2 (s₀ := s₀) (t := x) ?_ ?_; (on_goal 1 => (try dsimp -zeta only [x])); on_goal 2 => (intro hx; try clear_value x)) | (refine keeps_cutF (s₀ := s₀) (f := x) ?_ ?_; (on_goal 1 => (try dsimp -zeta only [x])); on_goal 2 => (intro hx; try clear_value x)) | (refine keeps_cutF2 (s₀ := s₀) (f := x) ?_ ?_; (on_goal 1 => (try dsimp -zeta only [x])); on_goal 2 => (intro hx; try clear_value x)) | (refine keeps_cutF5 (s₀ := s₀) (f := x) ?_ ?_; (on_goal 1 => (try dsimp -zeta only [x])); on_goal 2 => (intro hx; try clear_value x)) | (refine keeps_cutFP (s₀ := s₀) (f := x) ?_ ?_; (on_goal 1 => (try dsimp -zeta only [x])); on_goal 2 => (intro hx; try clear_value x)) | (try clear_value x))
    | with_reducible apply State.squash_keeps
    | with_reducible apply keeps_foldl
    | with_reducible apply keeps_foldl_fst
    | with_reducible apply keeps_foldl_snd
    | split
    | dsimp -zeta only
    | with_reducible apply_assumption

theorem State.stageCheck_keeps {s₀ s : State} (f : Nat) (posted : List Nat) (entries : List Nat) (h : Keeps s₀ s) : Keeps s₀ (State.stageCheck s f posted entries).2 := by
  unfold State.stageCheck
  repeat' first
    | with_reducible assumption
    | intro _
    | ((fail_if_no_progress extract_lets +onlyGivenNames x); first | (refine keeps_cut (s₀ := s₀) (t := x) ?_ ?_; (on_goal 1 => (try dsimp -zeta only [x])); on_goal 2 => (intro hx; try clear_value x)) | (refine keeps_cut2 (s₀ := s₀) (t := x) ?_ ?_; (on_goal 1 => (try dsimp -zeta only [x])); on_goal 2 => (intro hx; try clear_value x)) | (try clear_value x))
    | with_reducible apply State.bumpBy_keeps
    | with_reducible apply State.flag_keeps
    | split
    | dsimp -zeta only

theorem State.clsSeal_keeps {s₀ s : State} (f : Nat) (entries : List Nat) (payload : List Byte) (quire : List Byte) (h : Keeps s₀ s) : Keeps s₀ (State.clsSeal s f entries payload quire).2 := by
  unfold State.clsSeal
  repeat' first
    | with_reducible assumption
    | intro _
    | ((fail_if_no_progress extract_lets +onlyGivenNames x); first | (refine keeps_cut (s₀ := s₀) (t := x) ?_ ?_; (on_goal 1 => (try dsimp -zeta only [x])); on_goal 2 => (intro hx; try clear_value x)) | (refine keeps_cut2 (s₀ := s₀) (t := x) ?_ ?_; (on_goal 1 => (try dsimp -zeta only [x])); on_goal 2 => (intro hx; try clear_value x)) | (try clear_value x))
    | (with_reducible refine keeps_snd (by assumption) ?_)
    | with_reducible apply State.flag_keeps
    | with_reducible apply State.stageCheck_keeps
    | with_reducible apply State.modFolio_keeps
    | with_reducible apply State.clsShow_keeps
    | with_reducible apply State.modCyc_keeps
    | with_reducible apply State.kickNext_keeps
    | with_reducible apply State.runEnded_keeps
    | split
    | (fail_if_no_progress (with_reducible apply keeps_mk))
    | dsimp -zeta only
    | with_reducible apply_assumption

theorem State.clsAbandon_keeps {s₀ s : State} (f : Nat) (h : Keeps s₀ s) : Keeps s₀ (State.clsAbandon s f).2 := by
  unfold State.clsAbandon
  repeat' first
    | with_reducible assumption
    | intro _
    | with_reducible apply State.modCyc_keeps
    | with_reducible apply State.runEnded_keeps
    | with_reducible apply State.kickNext_keeps
    | split
    | (fail_if_no_progress (with_reducible apply keeps_mk))
    | dsimp -zeta only
    | with_reducible apply_assumption

theorem State.emit_keeps {s₀ s : State} (f : Nat) (c : Cyc) (n : Nat) (h : Keeps s₀ s) : Keeps s₀ (State.emit s f c n) := by
  unfold State.emit
  repeat' first
    | with_reducible assumption
    | intro _
    | ((fail_if_no_progress extract_lets +onlyGivenNames x); first | (refine keeps_cut (s₀ := s₀) (t := x) ?_ ?_; (on_goal 1 => (try dsimp -zeta only [x])); on_goal 2 => (intro hx; try clear_value x)) | (refine keeps_cut2 (s₀ := s₀) (t := x) ?_ ?_; (on_goal 1 => (try dsimp -zeta only [x])); on_goal 2 => (intro hx; try clear_value x)) | (refine keeps_cutF (s₀ := s₀) (f := x) ?_ ?_; (on_goal 1 => (try dsimp -zeta only [x])); on_goal 2 => (intro hx; try clear_value x)) | (refine keeps_cutF2 (s₀ := s₀) (f := x) ?_ ?_; (on_goal 1 => (try dsimp -zeta only [x])); on_goal 2 => (intro hx; try clear_value x)) | (refine keeps_cutF5 (s₀ := s₀) (f := x) ?_ ?_; (on_goal 1 => (try dsimp -zeta only [x])); on_goal 2 => (intro hx; try clear_value x)) | (refine keeps_cutFP (s₀ := s₀) (f := x) ?_ ?_; (on_goal 1 => (try dsimp -zeta only [x])); on_goal 2 => (intro hx; try clear_value x)) | (try clear_value x))
    | with_reducible apply State.dtAssert_keeps
    | with_reducible apply State.dtRelease_keeps
    | with_reducible apply State.pubFolio_keeps
    | with_reducible apply State.ctlArrive_keeps
    | with_reducible apply State.txSend_keeps
    | with_reducible apply State.eventFolio_keeps
    | with_reducible apply keeps_foldl
    | with_reducible apply keeps_foldl_fst
    | with_reducible apply keeps_foldl_snd
    | split
    | dsimp -zeta only
    | with_reducible apply_assumption

theorem State.release_keeps {s₀ s : State} (f : Nat) (c : Cyc) (h : Keeps s₀ s) : Keeps s₀ (State.release s f c) := by
  unfold State.release
  repeat' first
    | with_reducible assumption
    | intro _
    | ((fail_if_no_progress extract_lets +onlyGivenNames x); first | (refine keeps_cut (s₀ := s₀) (t := x) ?_ ?_; (on_goal 1 => (try dsimp -zeta only [x])); on_goal 2 => (intro hx; try clear_value x)) | (refine keeps_cut2 (s₀ := s₀) (t := x) ?_ ?_; (on_goal 1 => (try dsimp -zeta only [x])); on_goal 2 => (intro hx; try clear_value x)) | (try clear_value x))
    | with_reducible apply State.modFolio_keeps
    | with_reducible apply State.bump_keeps
    | with_reducible apply State.wrI_keeps
    | with_reducible apply State.emit_keeps
    | with_reducible apply State.flag_keeps
    | with_reducible apply State.txReturn_keeps
    | with_reducible apply State.clsShow_keeps
    | split
    | (fail_if_no_progress (with_reducible apply keeps_mk))
    | dsimp -zeta only
    | with_reducible apply_assumption

theorem State.releaseNext_keeps {s₀ s t : State} (h : Keeps s₀ s) (e : State.releaseNext s = some t) : Keeps s₀ t := by
  unfold State.releaseNext at e
  obtain ⟨f, -, e⟩ := List.exists_of_findSome?_eq_some e
  obtain ⟨c, -, rfl⟩ := Option.map_eq_some_iff.mp e
  exact State.release_keeps f c h

theorem State.releaseAll_keeps {s₀ s : State} (n : Nat) (h : Keeps s₀ s) : Keeps s₀ (State.releaseAll n s) := by
  induction n generalizing s with
  | zero => exact h
  | succ n ih =>
    unfold State.releaseAll
    split
    · rename_i t e
      exact ih (State.releaseNext_keeps h e)
    · exact h

theorem State.clsFrontier_keeps {s₀ s : State}  (h : Keeps s₀ s) : Keeps s₀ (State.clsFrontier s) := by
  unfold State.clsFrontier
  repeat' first
    | with_reducible assumption
    | intro _
    | with_reducible apply State.wr_keeps
    | dsimp -zeta only

theorem State.loseRuns_keeps {s₀ s : State} (f : Nat) (h : Keeps s₀ s) : Keeps s₀ (State.loseRuns s f).2 := by
  unfold State.loseRuns
  repeat' first
    | with_reducible assumption
    | intro _
    | ((fail_if_no_progress extract_lets +onlyGivenNames x); first | (refine keeps_cut (s₀ := s₀) (t := x) ?_ ?_; (on_goal 1 => (try dsimp -zeta only [x])); on_goal 2 => (intro hx; try clear_value x)) | (refine keeps_cut2 (s₀ := s₀) (t := x) ?_ ?_; (on_goal 1 => (try dsimp -zeta only [x])); on_goal 2 => (intro hx; try clear_value x)) | (refine keeps_cutF (s₀ := s₀) (f := x) ?_ ?_; (on_goal 1 => (try dsimp -zeta only [x])); on_goal 2 => (intro hx; try clear_value x)) | (refine keeps_cutF2 (s₀ := s₀) (f := x) ?_ ?_; (on_goal 1 => (try dsimp -zeta only [x])); on_goal 2 => (intro hx; try clear_value x)) | (refine keeps_cutF5 (s₀ := s₀) (f := x) ?_ ?_; (on_goal 1 => (try dsimp -zeta only [x])); on_goal 2 => (intro hx; try clear_value x)) | (refine keeps_cutFP (s₀ := s₀) (f := x) ?_ ?_; (on_goal 1 => (try dsimp -zeta only [x])); on_goal 2 => (intro hx; try clear_value x)) | (try clear_value x))
    | with_reducible apply State.modFolio_keeps
    | with_reducible apply State.clsShow_keeps
    | with_reducible apply State.txReturn_keeps
    | with_reducible apply State.bumpBy_keeps
    | with_reducible apply State.flag_keeps
    | with_reducible apply State.clsLast_keeps
    | with_reducible apply keeps_foldl
    | with_reducible apply keeps_foldl_fst
    | with_reducible apply keeps_foldl_snd
    | split
    | (fail_if_no_progress (with_reducible apply keeps_mk))
    | dsimp -zeta only
    | with_reducible apply_assumption

theorem State.reopenLost_keeps {s₀ s : State} (f : Nat) (h : Keeps s₀ s) : Keeps s₀ (State.reopenLost s f) := by
  unfold State.reopenLost
  repeat' first
    | with_reducible assumption
    | intro _
    | with_reducible apply State.abandonCycle_keeps
    | with_reducible apply State.kickNext_keeps
    | with_reducible apply State.modCyc_keeps
    | with_reducible apply State.clsShow_keeps
    | with_reducible apply keeps_foldl
    | with_reducible apply keeps_foldl_fst
    | with_reducible apply keeps_foldl_snd
    | split
    | (fail_if_no_progress (with_reducible apply keeps_mk))
    | dsimp -zeta only
    | with_reducible apply_assumption

theorem State.clsDiscard_keeps {s₀ s : State} (f : Nat) (h : Keeps s₀ s) : Keeps s₀ (State.clsDiscard s f) := by
  unfold State.clsDiscard
  repeat' first
    | with_reducible assumption
    | intro _
    | ((fail_if_no_progress extract_lets +onlyGivenNames x); first | (refine keeps_cut (s₀ := s₀) (t := x) ?_ ?_; (on_goal 1 => (try dsimp -zeta only [x])); on_goal 2 => (intro hx; try clear_value x)) | (refine keeps_cut2 (s₀ := s₀) (t := x) ?_ ?_; (on_goal 1 => (try dsimp -zeta only [x])); on_goal 2 => (intro hx; try clear_value x)) | (try clear_value x))
    | with_reducible apply State.modFolio_keeps
    | with_reducible apply State.txReturn_keeps
    | with_reducible apply State.dtFolioReset_keeps
    | with_reducible apply State.clsShow_keeps
    | with_reducible apply keeps_foldl
    | with_reducible apply keeps_foldl_fst
    | with_reducible apply keeps_foldl_snd
    | split
    | (fail_if_no_progress (with_reducible apply keeps_mk))
    | dsimp -zeta only
    | with_reducible apply_assumption

theorem State.clsRestart_keeps {s₀ s : State}  (h : Keeps s₀ s) : Keeps s₀ (State.clsRestart s) := by
  unfold State.clsRestart
  repeat' first
    | with_reducible assumption
    | intro _
    | with_reducible apply State.abandonCycle_keeps
    | with_reducible apply keeps_foldl
    | with_reducible apply keeps_foldl_fst
    | with_reducible apply keeps_foldl_snd
    | split
    | dsimp -zeta only

theorem State.openRun_keeps {s₀ s : State} (f : Nat) (n : Nat) (h : Keeps s₀ s) : Keeps s₀ (State.openRun s f n) := by
  unfold State.openRun
  repeat' first
    | with_reducible assumption
    | intro _
    | ((fail_if_no_progress extract_lets +onlyGivenNames x); first | (refine keeps_cut (s₀ := s₀) (t := x) ?_ ?_; (on_goal 1 => (try dsimp -zeta only [x])); on_goal 2 => (intro hx; try clear_value x)) | (refine keeps_cut2 (s₀ := s₀) (t := x) ?_ ?_; (on_goal 1 => (try dsimp -zeta only [x])); on_goal 2 => (intro hx; try clear_value x)) | (try clear_value x))
    | with_reducible apply State.modFolio_keeps
    | with_reducible apply State.clsShow_keeps
    | split
    | (fail_if_no_progress (with_reducible apply keeps_mk))
    | dsimp -zeta only
    | with_reducible apply_assumption

theorem State.formQuire_keeps {s₀ s : State} (n : Nat) (h : Keeps s₀ s) : Keeps s₀ (State.formQuire s n) := by
  unfold State.formQuire
  repeat' first
    | with_reducible assumption
    | intro _
    | ((fail_if_no_progress extract_lets +onlyGivenNames x); first | (refine keeps_cut (s₀ := s₀) (t := x) ?_ ?_; (on_goal 1 => (try dsimp -zeta only [x])); on_goal 2 => (intro hx; try clear_value x)) | (refine keeps_cut2 (s₀ := s₀) (t := x) ?_ ?_; (on_goal 1 => (try dsimp -zeta only [x])); on_goal 2 => (intro hx; try clear_value x)) | (try clear_value x))
    | with_reducible apply State.wr_keeps
    | with_reducible apply State.flagIf_keeps
    | with_reducible apply keeps_foldl
    | with_reducible apply keeps_foldl_fst
    | with_reducible apply keeps_foldl_snd
    | dsimp -zeta only

end Sys2Proof.Machine
end

