-- ==== Sys2Proof/Laws/KeepsFolOps.lean ====
section
/-! SUPPORT. The operations of FolOps have the relation `Keeps`. -/

namespace Sys2Proof.Machine

open Sys2Proof Reg

set_option linter.unusedTactic false
set_option linter.unreachableTactic false

theorem State.setFolSt_keeps {s₀ s : State} (f : Nat) (v : Nat) (h : Keeps s₀ s) : Keeps s₀ (State.setFolSt s f v) := by
  unfold State.setFolSt
  repeat' first
    | with_reducible assumption
    | intro _
    | with_reducible apply State.wrI_keeps
    | dsimp -zeta only

theorem State.readyEvent_keeps {s₀ s : State} (f : Nat) (n : Nat) (h : Keeps s₀ s) : Keeps s₀ (State.readyEvent s f n) := by
  unfold State.readyEvent
  repeat' first
    | with_reducible assumption
    | intro _
    | ((fail_if_no_progress extract_lets +onlyGivenNames x); first | (refine keeps_cut (s₀ := s₀) (t := x) ?_ ?_; (on_goal 1 => (try dsimp -zeta only [x])); on_goal 2 => (intro hx; try clear_value x)) | (refine keeps_cut2 (s₀ := s₀) (t := x) ?_ ?_; (on_goal 1 => (try dsimp -zeta only [x])); on_goal 2 => (intro hx; try clear_value x)) | (try clear_value x))
    | with_reducible apply State.setFolio_keeps
    | split
    | (fail_if_no_progress (with_reducible apply keeps_mk))
    | dsimp -zeta only

theorem State.folTriggers_keeps {s₀ s : State}  (h : Keeps s₀ s) : Keeps s₀ (State.folTriggers s) := by
  unfold State.folTriggers
  repeat' first
    | with_reducible assumption
    | intro _
    | ((fail_if_no_progress extract_lets +onlyGivenNames x); first | (refine keeps_cut (s₀ := s₀) (t := x) ?_ ?_; (on_goal 1 => (try dsimp -zeta only [x])); on_goal 2 => (intro hx; try clear_value x)) | (refine keeps_cut2 (s₀ := s₀) (t := x) ?_ ?_; (on_goal 1 => (try dsimp -zeta only [x])); on_goal 2 => (intro hx; try clear_value x)) | (try clear_value x))
    | with_reducible apply State.readyEvent_keeps
    | with_reducible apply keeps_foldl
    | with_reducible apply keeps_foldl_fst
    | with_reducible apply keeps_foldl_snd
    | split
    | dsimp -zeta only

theorem State.deadline_keeps {s₀ s : State} (f : Nat) (h : Keeps s₀ s) : Keeps s₀ (State.deadline s f) := by
  unfold State.deadline
  repeat' first
    | with_reducible assumption
    | intro _
    | with_reducible apply State.readyEvent_keeps
    | split
    | dsimp -zeta only

theorem State.folSkip_keeps {s₀ s : State} (lo : Nat) (hi : Nat) (h : Keeps s₀ s) : Keeps s₀ (State.folSkip s lo hi) := by
  unfold State.folSkip
  repeat' first
    | with_reducible assumption
    | intro _
    | with_reducible apply State.modFolio_keeps
    | with_reducible apply keeps_foldl
    | with_reducible apply keeps_foldl_fst
    | with_reducible apply keeps_foldl_snd
    | (fail_if_no_progress (with_reducible apply keeps_mk))
    | dsimp -zeta only
    | with_reducible apply_assumption

theorem State.setCurrent_keeps {s₀ s : State} (p : Nat) (f : Nat) (mode : Nat) (h : Keeps s₀ s) : Keeps s₀ (State.setCurrent s p f mode) := by
  unfold State.setCurrent
  repeat' first
    | with_reducible assumption
    | intro _
    | with_reducible apply State.wrI_keeps
    | dsimp -zeta only

theorem State.stopRun_keeps {s₀ s : State} (f : Nat) (h : Keeps s₀ s) : Keeps s₀ (State.stopRun s f) := by
  unfold State.stopRun
  repeat' first
    | with_reducible assumption
    | intro _
    | ((fail_if_no_progress extract_lets +onlyGivenNames x); first | (refine keeps_cut (s₀ := s₀) (t := x) ?_ ?_; (on_goal 1 => (try dsimp -zeta only [x])); on_goal 2 => (intro hx; try clear_value x)) | (refine keeps_cut2 (s₀ := s₀) (t := x) ?_ ?_; (on_goal 1 => (try dsimp -zeta only [x])); on_goal 2 => (intro hx; try clear_value x)) | (try clear_value x))
    | with_reducible apply State.setCurrent_keeps
    | split
    | dsimp -zeta only

theorem State.folRestart_keeps {s₀ s : State}  (h : Keeps s₀ s) : Keeps s₀ (State.folRestart s) := by
  unfold State.folRestart
  repeat' first
    | with_reducible assumption
    | intro _
    | ((fail_if_no_progress extract_lets +onlyGivenNames x); first | (refine keeps_cut (s₀ := s₀) (t := x) ?_ ?_; (on_goal 1 => (try dsimp -zeta only [x])); on_goal 2 => (intro hx; try clear_value x)) | (refine keeps_cut2 (s₀ := s₀) (t := x) ?_ ?_; (on_goal 1 => (try dsimp -zeta only [x])); on_goal 2 => (intro hx; try clear_value x)) | (try clear_value x))
    | with_reducible apply State.modFolio_keeps
    | with_reducible apply State.stopRun_keeps
    | with_reducible apply State.setFolSt_keeps
    | with_reducible apply keeps_foldl
    | with_reducible apply keeps_foldl_fst
    | with_reducible apply keeps_foldl_snd
    | split
    | (fail_if_no_progress (with_reducible apply keeps_mk))
    | dsimp -zeta only
    | with_reducible apply_assumption

theorem State.showReady_keeps {s₀ s : State} (f : Nat) (h : Keeps s₀ s) : Keeps s₀ (State.showReady s f) := by
  unfold State.showReady
  repeat' first
    | with_reducible assumption
    | intro _
    | with_reducible apply State.setFolSt_keeps
    | split
    | dsimp -zeta only

theorem State.folRefresh_keeps {s₀ s : State}  (h : Keeps s₀ s) : Keeps s₀ (State.folRefresh s) := by
  unfold State.folRefresh
  repeat' first
    | with_reducible assumption
    | intro _
    | ((fail_if_no_progress extract_lets +onlyGivenNames x); first | (refine keeps_cut (s₀ := s₀) (t := x) ?_ ?_; (on_goal 1 => (try dsimp -zeta only [x])); on_goal 2 => (intro hx; try clear_value x)) | (refine keeps_cut2 (s₀ := s₀) (t := x) ?_ ?_; (on_goal 1 => (try dsimp -zeta only [x])); on_goal 2 => (intro hx; try clear_value x)) | (try clear_value x))
    | with_reducible apply State.showReady_keeps
    | with_reducible apply State.wrI_keeps
    | with_reducible apply State.wrBI_keeps
    | with_reducible apply State.wr_keeps
    | with_reducible apply State.wrB_keeps
    | with_reducible apply keeps_foldl
    | with_reducible apply keeps_foldl_fst
    | with_reducible apply keeps_foldl_snd
    | with_reducible apply keeps_getD
    | dsimp -zeta only

theorem State.kernelIrq_keeps {s₀ s : State} (f : Nat) (dispatch : Bool) (h : Keeps s₀ s) : Keeps s₀ (State.kernelIrq s f dispatch) := by
  unfold State.kernelIrq
  repeat' first
    | with_reducible assumption
    | intro _
    | with_reducible apply State.onFol_keeps
    | with_reducible apply State.dispatch_keeps
    | split
    | (fail_if_no_progress (with_reducible apply keeps_mk))
    | dsimp -zeta only

theorem State.dispatch_keeps {s₀ s : State} (p : Nat) (h : Keeps s₀ s) : Keeps s₀ (State.dispatch s p) := by
  unfold State.dispatch
  repeat' first
    | with_reducible assumption
    | intro _
    | ((fail_if_no_progress extract_lets +onlyGivenNames x); first | (refine keeps_cut (s₀ := s₀) (t := x) ?_ ?_; (on_goal 1 => (try dsimp -zeta only [x])); on_goal 2 => (intro hx; try clear_value x)) | (refine keeps_cut2 (s₀ := s₀) (t := x) ?_ ?_; (on_goal 1 => (try dsimp -zeta only [x])); on_goal 2 => (intro hx; try clear_value x)) | (try clear_value x))
    | (with_reducible refine keeps_snd (by assumption) ?_)
    | with_reducible apply State.setFolSt_keeps
    | with_reducible apply State.setCurrent_keeps
    | with_reducible apply State.modFolio_keeps
    | with_reducible apply State.openRun_keeps
    | with_reducible apply State.kernelIrq_keeps
    | with_reducible apply State.folRefresh_keeps
    | with_reducible apply State.fresh_keeps
    | split
    | (fail_if_no_progress (with_reducible apply keeps_mk))
    | dsimp -zeta only
    | with_reducible apply_assumption

theorem State.newTurn_keeps {s₀ s : State} (f : Nat) (h : Keeps s₀ s) : Keeps s₀ (State.newTurn s f) := by
  unfold State.newTurn
  repeat' first
    | with_reducible assumption
    | intro _
    | ((fail_if_no_progress extract_lets +onlyGivenNames x); first | (refine keeps_cut (s₀ := s₀) (t := x) ?_ ?_; (on_goal 1 => (try dsimp -zeta only [x])); on_goal 2 => (intro hx; try clear_value x)) | (refine keeps_cut2 (s₀ := s₀) (t := x) ?_ ?_; (on_goal 1 => (try dsimp -zeta only [x])); on_goal 2 => (intro hx; try clear_value x)) | (try clear_value x))
    | with_reducible apply State.modFolio_keeps
    | with_reducible apply State.onFol_keeps
    | (fail_if_no_progress (with_reducible apply keeps_mk))
    | dsimp -zeta only
    | with_reducible apply_assumption

theorem State.runOver_keeps {s₀ s : State} (f : Nat) (h : Keeps s₀ s) : Keeps s₀ (State.runOver s f) := by
  unfold State.runOver
  repeat' first
    | with_reducible assumption
    | intro _
    | with_reducible apply State.stopRun_keeps
    | with_reducible apply State.setFolSt_keeps
    | with_reducible apply State.folRefresh_keeps
    | dsimp -zeta only

theorem State.lastRun_keeps {s₀ s : State} (f : Nat) (h : Keeps s₀ s) : Keeps s₀ (State.lastRun s f) := by
  unfold State.lastRun
  repeat' first
    | with_reducible assumption
    | intro _
    | with_reducible apply State.wrSatI_keeps
    | dsimp -zeta only

theorem State.folSealEnd_keeps {s₀ s : State} (f : Nat) (e : SealEnd) (h : Keeps s₀ s) : Keeps s₀ (State.folSealEnd s f e) := by
  cases e with
  | ignored => exact h
  | run _ => exact State.runOver_keeps _ (State.lastRun_keeps _ h)
  | batch =>
    simp only [State.folSealEnd]
    split
    · exact State.runOver_keeps _ (State.newTurn_keeps _ h)
    · exact h

theorem State.yieldPair_keeps {s₀ s : State} (f : Nat) (h : Keeps s₀ s) : Keeps s₀ (State.yieldPair s f) := by
  unfold State.yieldPair
  repeat' first
    | with_reducible assumption
    | intro _
    | with_reducible apply State.newTurn_keeps
    | with_reducible apply State.runOver_keeps
    | split
    | dsimp -zeta only

theorem State.timeslice_keeps {s₀ s : State} (p : Nat) (h : Keeps s₀ s) : Keeps s₀ (State.timeslice s p) := by
  unfold State.timeslice
  repeat' first
    | with_reducible assumption
    | intro _
    | ((fail_if_no_progress extract_lets +onlyGivenNames x); first | (refine keeps_cut (s₀ := s₀) (t := x) ?_ ?_; (on_goal 1 => (try dsimp -zeta only [x])); on_goal 2 => (intro hx; try clear_value x)) | (refine keeps_cut2 (s₀ := s₀) (t := x) ?_ ?_; (on_goal 1 => (try dsimp -zeta only [x])); on_goal 2 => (intro hx; try clear_value x)) | (try clear_value x))
    | with_reducible apply State.newTurn_keeps
    | with_reducible apply State.stopRun_keeps
    | with_reducible apply State.setFolSt_keeps
    | with_reducible apply State.folRefresh_keeps
    | split
    | dsimp -zeta only

theorem State.wdogReload_keeps {s₀ s : State}  (h : Keeps s₀ s) : Keeps s₀ (State.wdogReload s) := by
  unfold State.wdogReload
  repeat' first
    | with_reducible assumption
    | intro _
    | with_reducible apply State.onSys_keeps
    | with_reducible apply State.wr_keeps
    | split
    | (fail_if_no_progress (with_reducible apply keeps_mk))
    | dsimp -zeta only

theorem State.folClear_keeps {s₀ s : State} (f : Nat) (h : Keeps s₀ s) : Keeps s₀ (State.folClear s f) := by
  unfold State.folClear
  repeat' first
    | with_reducible assumption
    | intro _
    | with_reducible apply State.stopRun_keeps
    | with_reducible apply State.clsDiscard_keeps
    | with_reducible apply State.modFolio_keeps
    | (fail_if_no_progress (with_reducible apply keeps_mk))
    | dsimp -zeta only
    | with_reducible apply_assumption

theorem State.folReset_keeps {s₀ s : State} (f : Nat) (h : Keeps s₀ s) : Keeps s₀ (State.folReset s f) := by
  unfold State.folReset
  repeat' first
    | with_reducible assumption
    | intro _
    | ((fail_if_no_progress extract_lets +onlyGivenNames x); first | (refine keeps_cut (s₀ := s₀) (t := x) ?_ ?_; (on_goal 1 => (try dsimp -zeta only [x])); on_goal 2 => (intro hx; try clear_value x)) | (refine keeps_cut2 (s₀ := s₀) (t := x) ?_ ?_; (on_goal 1 => (try dsimp -zeta only [x])); on_goal 2 => (intro hx; try clear_value x)) | (try clear_value x))
    | with_reducible apply State.folClear_keeps
    | with_reducible apply State.modFolio_keeps
    | with_reducible apply State.bump_keeps
    | with_reducible apply State.bumpI_keeps
    | with_reducible apply State.setFolSt_keeps
    | with_reducible apply State.kernelIrq_keeps
    | with_reducible apply State.wdogReload_keeps
    | with_reducible apply State.folRefresh_keeps
    | split
    | (fail_if_no_progress (with_reducible apply keeps_mk))
    | dsimp -zeta only
    | with_reducible apply_assumption

theorem State.folHalt_keeps {s₀ s : State} (f : Nat) (cause : Nat) (h : Keeps s₀ s) : Keeps s₀ (State.folHalt s f cause) := by
  unfold State.folHalt
  repeat' first
    | with_reducible assumption
    | intro _
    | with_reducible apply State.folClear_keeps
    | with_reducible apply State.setFolSt_keeps
    | with_reducible apply State.wrI_keeps
    | with_reducible apply State.flag_keeps
    | with_reducible apply State.folRefresh_keeps
    | dsimp -zeta only

theorem State.folResetOrHalt_keeps {s₀ s : State} (f : Nat) (h : Keeps s₀ s) : Keeps s₀ (State.folResetOrHalt s f) := by
  unfold State.folResetOrHalt
  repeat' first
    | with_reducible assumption
    | intro _
    | with_reducible apply State.folHalt_keeps
    | with_reducible apply State.folReset_keeps
    | split
    | dsimp -zeta only

theorem State.folFault_keeps {s₀ s : State} (f : Nat) (cause : Nat) (addr : Nat) (epc : Nat) (h : Keeps s₀ s) : Keeps s₀ (State.folFault s f cause addr epc) := by
  unfold State.folFault
  repeat' first
    | with_reducible assumption
    | intro _
    | ((fail_if_no_progress extract_lets +onlyGivenNames x); first | (refine keeps_cut (s₀ := s₀) (t := x) ?_ ?_; (on_goal 1 => (try dsimp -zeta only [x])); on_goal 2 => (intro hx; try clear_value x)) | (refine keeps_cut2 (s₀ := s₀) (t := x) ?_ ?_; (on_goal 1 => (try dsimp -zeta only [x])); on_goal 2 => (intro hx; try clear_value x)) | (try clear_value x))
    | with_reducible apply State.svcPush_keeps
    | with_reducible apply State.wrI_keeps
    | with_reducible apply State.flagI_keeps
    | with_reducible apply State.bump_keeps
    | with_reducible apply State.bumpI_keeps
    | with_reducible apply State.flag_keeps
    | with_reducible apply State.flagIf_keeps
    | with_reducible apply State.folReset_keeps
    | with_reducible apply State.folHalt_keeps
    | split
    | dsimp -zeta only
    | with_reducible apply_assumption

theorem State.folFaultPc_keeps {s₀ s : State} (f : Nat) (cause : Nat) (addr : Nat) (h : Keeps s₀ s) : Keeps s₀ (State.folFaultPc s f cause addr) := by
  unfold State.folFaultPc
  repeat' first
    | with_reducible assumption
    | intro _
    | ((fail_if_no_progress extract_lets +onlyGivenNames x); first | (refine keeps_cut (s₀ := s₀) (t := x) ?_ ?_; (on_goal 1 => (try dsimp -zeta only [x])); on_goal 2 => (intro hx; try clear_value x)) | (refine keeps_cut2 (s₀ := s₀) (t := x) ?_ ?_; (on_goal 1 => (try dsimp -zeta only [x])); on_goal 2 => (intro hx; try clear_value x)) | (try clear_value x))
    | (with_reducible refine keeps_snd (by assumption) ?_)
    | with_reducible apply State.fresh_keeps
    | with_reducible apply State.folFault_keeps
    | dsimp -zeta only

theorem State.takeRingFaults_keeps {s₀ s : State}  (h : Keeps s₀ s) : Keeps s₀ (State.takeRingFaults s) := by
  unfold State.takeRingFaults
  repeat' first
    | with_reducible assumption
    | intro _
    | with_reducible apply State.folFaultPc_keeps
    | with_reducible apply State.onFol_keeps
    | with_reducible apply keeps_foldl
    | with_reducible apply keeps_foldl_fst
    | with_reducible apply keeps_foldl_snd
    | split
    | (fail_if_no_progress (with_reducible apply keeps_mk))
    | dsimp -zeta only

theorem State.budgetExpire_keeps {s₀ s : State} (f : Nat) (h : Keeps s₀ s) : Keeps s₀ (State.budgetExpire s f) := by
  unfold State.budgetExpire
  repeat' first
    | with_reducible assumption
    | intro _
    | with_reducible apply State.folFault_keeps
    | split
    | dsimp -zeta only

theorem State.hostReset_keeps {s₀ s : State} (f : Nat) (h : Keeps s₀ s) : Keeps s₀ (State.hostReset s f) := by
  unfold State.hostReset
  repeat' first
    | with_reducible assumption
    | intro _
    | ((fail_if_no_progress extract_lets +onlyGivenNames x); first | (refine keeps_cut (s₀ := s₀) (t := x) ?_ ?_; (on_goal 1 => (try dsimp -zeta only [x])); on_goal 2 => (intro hx; try clear_value x)) | (refine keeps_cut2 (s₀ := s₀) (t := x) ?_ ?_; (on_goal 1 => (try dsimp -zeta only [x])); on_goal 2 => (intro hx; try clear_value x)) | (try clear_value x))
    | with_reducible apply State.modFolio_keeps
    | with_reducible apply State.folResetOrHalt_keeps
    | split
    | (fail_if_no_progress (with_reducible apply keeps_mk))
    | dsimp -zeta only
    | with_reducible apply_assumption

theorem State.hostHalt_keeps {s₀ s : State} (f : Nat) (h : Keeps s₀ s) : Keeps s₀ (State.hostHalt s f) := by
  unfold State.hostHalt
  repeat' first
    | with_reducible assumption
    | intro _
    | ((fail_if_no_progress extract_lets +onlyGivenNames x); first | (refine keeps_cut (s₀ := s₀) (t := x) ?_ ?_; (on_goal 1 => (try dsimp -zeta only [x])); on_goal 2 => (intro hx; try clear_value x)) | (refine keeps_cut2 (s₀ := s₀) (t := x) ?_ ?_; (on_goal 1 => (try dsimp -zeta only [x])); on_goal 2 => (intro hx; try clear_value x)) | (try clear_value x))
    | with_reducible apply State.modFolio_keeps
    | with_reducible apply State.folHalt_keeps
    | split
    | (fail_if_no_progress (with_reducible apply keeps_mk))
    | dsimp -zeta only
    | with_reducible apply_assumption

theorem State.haltCmd_keeps {s₀ s : State} (who : Agent) (f : Nat) (h : Keeps s₀ s) : Keeps s₀ (State.haltCmd s who f) := by
  unfold State.haltCmd
  repeat' first
    | with_reducible assumption
    | intro _
    | with_reducible apply State.hostHalt_keeps
    | split
    | dsimp -zeta only

theorem State.resetDone_keeps {s₀ s : State} (f : Nat) (h : Keeps s₀ s) : Keeps s₀ (State.resetDone s f) := by
  unfold State.resetDone
  repeat' first
    | with_reducible assumption
    | intro _
    | with_reducible apply State.setFolSt_keeps
    | with_reducible apply State.folRefresh_keeps
    | split
    | dsimp -zeta only

theorem State.folNotice_keeps {s₀ s : State} (kind : Nat) (from_ : Nat) (to_ : Nat) (folios : Nat) (lost : Nat) (tai : Nat) (at_ : Nat) (cycle : Nat) (h : Keeps s₀ s) : Keeps s₀ (State.folNotice s kind from_ to_ folios lost tai at_ cycle) := by
  unfold State.folNotice
  repeat' first
    | with_reducible assumption
    | intro _
    | ((fail_if_no_progress extract_lets +onlyGivenNames x); first | (refine keeps_cut (s₀ := s₀) (t := x) ?_ ?_; (on_goal 1 => (try dsimp -zeta only [x])); on_goal 2 => (intro hx; try clear_value x)) | (refine keeps_cut2 (s₀ := s₀) (t := x) ?_ ?_; (on_goal 1 => (try dsimp -zeta only [x])); on_goal 2 => (intro hx; try clear_value x)) | (refine keeps_cutF (s₀ := s₀) (f := x) ?_ ?_; (on_goal 1 => (try dsimp -zeta only [x])); on_goal 2 => (intro hx; try clear_value x)) | (refine keeps_cutF2 (s₀ := s₀) (f := x) ?_ ?_; (on_goal 1 => (try dsimp -zeta only [x])); on_goal 2 => (intro hx; try clear_value x)) | (refine keeps_cutF5 (s₀ := s₀) (f := x) ?_ ?_; (on_goal 1 => (try dsimp -zeta only [x])); on_goal 2 => (intro hx; try clear_value x)) | (refine keeps_cutFP (s₀ := s₀) (f := x) ?_ ?_; (on_goal 1 => (try dsimp -zeta only [x])); on_goal 2 => (intro hx; try clear_value x)) | (try clear_value x))
    | with_reducible apply State.svcPush_keeps
    | with_reducible apply State.wr_keeps
    | with_reducible apply State.wrSat_keeps
    | with_reducible apply State.event_keeps
    | split
    | dsimp -zeta only
    | with_reducible apply_assumption

theorem State.folNoticeNow_keeps {s₀ s : State} (kind : Nat) (pair : Nat) (folios : Nat) (h : Keeps s₀ s) : Keeps s₀ (State.folNoticeNow s kind pair folios) := by
  unfold State.folNoticeNow
  repeat' first
    | with_reducible assumption
    | intro _
    | with_reducible apply State.folNotice_keeps
    | dsimp -zeta only

theorem State.folMoving_keeps {s₀ s : State} (f : Nat) (h : Keeps s₀ s) : Keeps s₀ (State.folMoving s f) := by
  unfold State.folMoving
  repeat' first
    | with_reducible assumption
    | intro _
    | with_reducible apply State.stopRun_keeps
    | with_reducible apply State.setFolSt_keeps
    | dsimp -zeta only

theorem State.settle_keeps {s₀ s : State} (f : Nat) (h : Keeps s₀ s) : Keeps s₀ (State.settle s f) := by
  unfold State.settle
  repeat' first
    | with_reducible assumption
    | intro _
    | ((fail_if_no_progress extract_lets +onlyGivenNames x); first | (refine keeps_cut (s₀ := s₀) (t := x) ?_ ?_; (on_goal 1 => (try dsimp -zeta only [x])); on_goal 2 => (intro hx; try clear_value x)) | (refine keeps_cut2 (s₀ := s₀) (t := x) ?_ ?_; (on_goal 1 => (try dsimp -zeta only [x])); on_goal 2 => (intro hx; try clear_value x)) | (try clear_value x))
    | with_reducible apply State.setFolSt_keeps
    | with_reducible apply State.reopenLost_keeps
    | with_reducible apply State.wdogReload_keeps
    | with_reducible apply State.modFolio_keeps
    | with_reducible apply State.hostReset_keeps
    | with_reducible apply State.hostHalt_keeps
    | split
    | (fail_if_no_progress (with_reducible apply keeps_mk))
    | dsimp -zeta only
    | with_reducible apply_assumption

theorem State.moveTo_keeps {s₀ s : State} (fs : List Nat) (p : Nat) (spare : Bool) (h : Keeps s₀ s) : Keeps s₀ (State.moveTo s fs p spare) := by
  unfold State.moveTo
  repeat' first
    | with_reducible assumption
    | intro _
    | with_reducible apply State.wrI_keeps
    | with_reducible apply State.wrBI_keeps
    | with_reducible apply State.settle_keeps
    | with_reducible apply keeps_foldl
    | with_reducible apply keeps_foldl_fst
    | with_reducible apply keeps_foldl_snd
    | split
    | dsimp -zeta only

theorem State.fallBack_keeps {s₀ s : State} (j : SubJob) (h : Keeps s₀ s) : Keeps s₀ (State.fallBack s j) := by
  unfold State.fallBack
  repeat' first
    | with_reducible assumption
    | intro _
    | ((fail_if_no_progress extract_lets +onlyGivenNames x); first | (refine keeps_cut (s₀ := s₀) (t := x) ?_ ?_; (on_goal 1 => (try dsimp -zeta only [x])); on_goal 2 => (intro hx; try clear_value x)) | (refine keeps_cut2 (s₀ := s₀) (t := x) ?_ ?_; (on_goal 1 => (try dsimp -zeta only [x])); on_goal 2 => (intro hx; try clear_value x)) | (try clear_value x))
    | with_reducible apply State.moveTo_keeps
    | with_reducible apply State.bump_keeps
    | with_reducible apply State.flag_keeps
    | with_reducible apply State.folNotice_keeps
    | with_reducible apply State.wrI_keeps
    | with_reducible apply State.modFolio_keeps
    | with_reducible apply State.folHalt_keeps
    | with_reducible apply keeps_foldl
    | with_reducible apply keeps_foldl_fst
    | with_reducible apply keeps_foldl_snd
    | split
    | (fail_if_no_progress (with_reducible apply keeps_mk))
    | dsimp -zeta only
    | with_reducible apply_assumption

theorem State.subDone_keeps {s₀ s : State}  (h : Keeps s₀ s) : Keeps s₀ (State.subDone s) := by
  unfold State.subDone
  repeat' first
    | with_reducible assumption
    | intro _
    | ((fail_if_no_progress extract_lets +onlyGivenNames x); first | (refine keeps_cut (s₀ := s₀) (t := x) ?_ ?_; (on_goal 1 => (try dsimp -zeta only [x])); on_goal 2 => (intro hx; try clear_value x)) | (refine keeps_cut2 (s₀ := s₀) (t := x) ?_ ?_; (on_goal 1 => (try dsimp -zeta only [x])); on_goal 2 => (intro hx; try clear_value x)) | (try clear_value x))
    | with_reducible apply State.onFol_keeps
    | with_reducible apply State.moveTo_keeps
    | with_reducible apply State.bump_keeps
    | with_reducible apply State.flag_keeps
    | with_reducible apply State.folNotice_keeps
    | with_reducible apply State.fallBack_keeps
    | with_reducible apply State.folRefresh_keeps
    | split
    | (fail_if_no_progress (with_reducible apply keeps_mk))
    | dsimp -zeta only

theorem State.pairCmdEnd_keeps {s₀ s : State} (r : Nat) (h : Keeps s₀ s) : Keeps s₀ (State.pairCmdEnd s r) := by
  unfold State.pairCmdEnd
  repeat' first
    | with_reducible assumption
    | intro _
    | with_reducible apply State.finish_keeps
    | dsimp -zeta only

theorem State.takeSpare_keeps {s₀ s : State}  (h : Keeps s₀ s) : Keeps s₀ (State.takeSpare s).2 := by
  unfold State.takeSpare
  repeat' first
    | with_reducible assumption
    | intro _
    | with_reducible apply State.wrI_keeps
    | split
    | dsimp -zeta only

theorem State.mismatch_keeps {s₀ s : State} (p : Nat) (h : Keeps s₀ s) : Keeps s₀ (State.mismatch s p) := by
  unfold State.mismatch
  repeat' first
    | with_reducible assumption
    | intro _
    | ((fail_if_no_progress extract_lets +onlyGivenNames x); first | (refine keeps_cut (s₀ := s₀) (t := x) ?_ ?_; (on_goal 1 => (try dsimp -zeta only [x])); on_goal 2 => (intro hx; try clear_value x)) | (refine keeps_cut2 (s₀ := s₀) (t := x) ?_ ?_; (on_goal 1 => (try dsimp -zeta only [x])); on_goal 2 => (intro hx; try clear_value x)) | (try clear_value x))
    | (with_reducible refine keeps_snd (by assumption) ?_)
    | with_reducible apply State.bump_keeps
    | with_reducible apply State.flag_keeps
    | with_reducible apply State.wrI_keeps
    | with_reducible apply State.onFol_keeps
    | with_reducible apply State.pairCmdEnd_keeps
    | with_reducible apply State.takeSpare_keeps
    | with_reducible apply State.folRefresh_keeps
    | with_reducible apply State.folMoving_keeps
    | with_reducible apply State.loseRuns_keeps
    | with_reducible apply keeps_foldl
    | with_reducible apply keeps_foldl_fst
    | with_reducible apply keeps_foldl_snd
    | split
    | (fail_if_no_progress (with_reducible apply keeps_mk))
    | dsimp -zeta only

theorem State.pairAnswer_keeps {s₀ s : State} (r : Nat) (h : Keeps s₀ s) : Keeps s₀ (State.pairAnswer s r) := by
  unfold State.pairAnswer
  repeat' first
    | with_reducible assumption
    | intro _
    | with_reducible apply State.answer_keeps
    | dsimp -zeta only

theorem State.hostResume_keeps {s₀ s : State} (f : Nat) (h : Keeps s₀ s) : Keeps s₀ (State.hostResume s f) := by
  unfold State.hostResume
  repeat' first
    | with_reducible assumption
    | intro _
    | ((fail_if_no_progress extract_lets +onlyGivenNames x); first | (refine keeps_cut (s₀ := s₀) (t := x) ?_ ?_; (on_goal 1 => (try dsimp -zeta only [x])); on_goal 2 => (intro hx; try clear_value x)) | (refine keeps_cut2 (s₀ := s₀) (t := x) ?_ ?_; (on_goal 1 => (try dsimp -zeta only [x])); on_goal 2 => (intro hx; try clear_value x)) | (refine keeps_cutF (s₀ := s₀) (f := x) ?_ ?_; (on_goal 1 => (try dsimp -zeta only [x])); on_goal 2 => (intro hx; try clear_value x)) | (refine keeps_cutF2 (s₀ := s₀) (f := x) ?_ ?_; (on_goal 1 => (try dsimp -zeta only [x])); on_goal 2 => (intro hx; try clear_value x)) | (refine keeps_cutF5 (s₀ := s₀) (f := x) ?_ ?_; (on_goal 1 => (try dsimp -zeta only [x])); on_goal 2 => (intro hx; try clear_value x)) | (refine keeps_cutFP (s₀ := s₀) (f := x) ?_ ?_; (on_goal 1 => (try dsimp -zeta only [x])); on_goal 2 => (intro hx; try clear_value x)) | (try clear_value x))
    | (with_reducible refine keeps_snd (by assumption) ?_)
    | with_reducible apply State.wrI_keeps
    | with_reducible apply State.folReset_keeps
    | with_reducible apply State.takeSpare_keeps
    | with_reducible apply State.pairAnswer_keeps
    | split
    | dsimp -zeta only
    | with_reducible apply_assumption

theorem State.pairRetire_keeps {s₀ s : State} (p : Nat) (h : Keeps s₀ s) : Keeps s₀ (State.pairRetire s p) := by
  unfold State.pairRetire
  repeat' first
    | with_reducible assumption
    | intro _
    | with_reducible apply State.pairAnswer_keeps
    | with_reducible apply State.wrI_keeps
    | with_reducible apply State.folRefresh_keeps
    | split
    | dsimp -zeta only

theorem State.pairRestore_keeps {s₀ s : State} (p : Nat) (h : Keeps s₀ s) : Keeps s₀ (State.pairRestore s p) := by
  unfold State.pairRestore
  repeat' first
    | with_reducible assumption
    | intro _
    | ((fail_if_no_progress extract_lets +onlyGivenNames x); first | (refine keeps_cut (s₀ := s₀) (t := x) ?_ ?_; (on_goal 1 => (try dsimp -zeta only [x])); on_goal 2 => (intro hx; try clear_value x)) | (refine keeps_cut2 (s₀ := s₀) (t := x) ?_ ?_; (on_goal 1 => (try dsimp -zeta only [x])); on_goal 2 => (intro hx; try clear_value x)) | (try clear_value x))
    | with_reducible apply State.pairAnswer_keeps
    | with_reducible apply State.wrI_keeps
    | with_reducible apply State.begin_keeps
    | with_reducible apply State.onFol_keeps
    | with_reducible apply State.folRefresh_keeps
    | split
    | (fail_if_no_progress (with_reducible apply keeps_mk))
    | dsimp -zeta only

theorem State.pairRestoreDone_keeps {s₀ s : State} (pass : Bool) (h : Keeps s₀ s) : Keeps s₀ (State.pairRestoreDone s pass) := by
  unfold State.pairRestoreDone
  repeat' first
    | with_reducible assumption
    | intro _
    | ((fail_if_no_progress extract_lets +onlyGivenNames x); first | (refine keeps_cut (s₀ := s₀) (t := x) ?_ ?_; (on_goal 1 => (try dsimp -zeta only [x])); on_goal 2 => (intro hx; try clear_value x)) | (refine keeps_cut2 (s₀ := s₀) (t := x) ?_ ?_; (on_goal 1 => (try dsimp -zeta only [x])); on_goal 2 => (intro hx; try clear_value x)) | (try clear_value x))
    | with_reducible apply State.onFol_keeps
    | with_reducible apply State.wrI_keeps
    | with_reducible apply State.flagIf_keeps
    | with_reducible apply State.folNotice_keeps
    | with_reducible apply State.pairCmdEnd_keeps
    | with_reducible apply State.folRefresh_keeps
    | split
    | (fail_if_no_progress (with_reducible apply keeps_mk))
    | dsimp -zeta only

theorem State.migrate_keeps {s₀ s : State} (p : Nat) (h : Keeps s₀ s) : Keeps s₀ (State.migrate s p) := by
  unfold State.migrate
  repeat' first
    | with_reducible assumption
    | intro _
    | ((fail_if_no_progress extract_lets +onlyGivenNames x); first | (refine keeps_cut (s₀ := s₀) (t := x) ?_ ?_; (on_goal 1 => (try dsimp -zeta only [x])); on_goal 2 => (intro hx; try clear_value x)) | (refine keeps_cut2 (s₀ := s₀) (t := x) ?_ ?_; (on_goal 1 => (try dsimp -zeta only [x])); on_goal 2 => (intro hx; try clear_value x)) | (try clear_value x))
    | with_reducible apply State.pairAnswer_keeps
    | with_reducible apply State.folNoticeNow_keeps
    | with_reducible apply State.begin_keeps
    | with_reducible apply State.onFol_keeps
    | with_reducible apply State.folRefresh_keeps
    | split
    | (fail_if_no_progress (with_reducible apply keeps_mk))
    | dsimp -zeta only

theorem State.migrateBoundary_keeps {s₀ s : State}  (h : Keeps s₀ s) : Keeps s₀ (State.migrateBoundary s) := by
  unfold State.migrateBoundary
  repeat' first
    | with_reducible assumption
    | intro _
    | with_reducible apply State.onFol_keeps
    | with_reducible apply State.wrI_keeps
    | with_reducible apply State.folRefresh_keeps
    | split
    | (fail_if_no_progress (with_reducible apply keeps_mk))
    | dsimp -zeta only

theorem State.migrateMove_keeps {s₀ s : State}  (h : Keeps s₀ s) : Keeps s₀ (State.migrateMove s) := by
  unfold State.migrateMove
  repeat' first
    | with_reducible assumption
    | intro _
    | ((fail_if_no_progress extract_lets +onlyGivenNames x); first | (refine keeps_cut (s₀ := s₀) (t := x) ?_ ?_; (on_goal 1 => (try dsimp -zeta only [x])); on_goal 2 => (intro hx; try clear_value x)) | (refine keeps_cut2 (s₀ := s₀) (t := x) ?_ ?_; (on_goal 1 => (try dsimp -zeta only [x])); on_goal 2 => (intro hx; try clear_value x)) | (try clear_value x))
    | (with_reducible refine keeps_snd (by assumption) ?_)
    | with_reducible apply State.onFol_keeps
    | with_reducible apply State.takeSpare_keeps
    | with_reducible apply State.wrI_keeps
    | with_reducible apply State.folNotice_keeps
    | with_reducible apply State.pairCmdEnd_keeps
    | with_reducible apply State.folRefresh_keeps
    | with_reducible apply State.folMoving_keeps
    | with_reducible apply State.loseRuns_keeps
    | with_reducible apply State.moveTo_keeps
    | with_reducible apply State.bump_keeps
    | with_reducible apply State.flag_keeps
    | with_reducible apply keeps_foldl
    | with_reducible apply keeps_foldl_fst
    | with_reducible apply keeps_foldl_snd
    | split
    | (fail_if_no_progress (with_reducible apply keeps_mk))
    | dsimp -zeta only

theorem State.copyPlc_keeps {s₀ s : State} (f : Nat) (h : Keeps s₀ s) : Keeps s₀ (State.copyPlc s f) := by
  unfold State.copyPlc
  repeat' first
    | with_reducible assumption
    | intro _
    | ((fail_if_no_progress extract_lets +onlyGivenNames x); first | (refine keeps_cut (s₀ := s₀) (t := x) ?_ ?_; (on_goal 1 => (try dsimp -zeta only [x])); on_goal 2 => (intro hx; try clear_value x)) | (refine keeps_cut2 (s₀ := s₀) (t := x) ?_ ?_; (on_goal 1 => (try dsimp -zeta only [x])); on_goal 2 => (intro hx; try clear_value x)) | (try clear_value x))
    | with_reducible apply State.wrI_keeps
    | dsimp -zeta only

theorem State.folReady_keeps {s₀ s : State}  (h : Keeps s₀ s) : Keeps s₀ (State.folReady s) := by
  unfold State.folReady
  repeat' first
    | with_reducible assumption
    | intro _
    | ((fail_if_no_progress extract_lets +onlyGivenNames x); first | (refine keeps_cut (s₀ := s₀) (t := x) ?_ ?_; (on_goal 1 => (try dsimp -zeta only [x])); on_goal 2 => (intro hx; try clear_value x)) | (refine keeps_cut2 (s₀ := s₀) (t := x) ?_ ?_; (on_goal 1 => (try dsimp -zeta only [x])); on_goal 2 => (intro hx; try clear_value x)) | (try clear_value x))
    | (with_reducible refine keeps_snd (by assumption) ?_)
    | with_reducible apply State.copyPlc_keeps
    | with_reducible apply State.onFol_keeps
    | with_reducible apply State.setFolSt_keeps
    | with_reducible apply State.wrI_keeps
    | with_reducible apply State.wrBI_keeps
    | with_reducible apply State.setCurrent_keeps
    | with_reducible apply State.folMoving_keeps
    | with_reducible apply State.takeSpare_keeps
    | with_reducible apply State.folRefresh_keeps
    | with_reducible apply keeps_foldl
    | with_reducible apply keeps_foldl_fst
    | with_reducible apply keeps_foldl_snd
    | split
    | (fail_if_no_progress (with_reducible apply keeps_mk))
    | dsimp -zeta only

theorem State.txTail_keeps {s₀ s : State} (f : Nat) (tail : Nat) (ds : List Nat) (h : Keeps s₀ s) : Keeps s₀ (State.txTail s f tail ds) := by
  unfold State.txTail
  repeat' first
    | with_reducible assumption
    | intro _
    | ((fail_if_no_progress extract_lets +onlyGivenNames x); first | (refine keeps_cut (s₀ := s₀) (t := x) ?_ ?_; (on_goal 1 => (try dsimp -zeta only [x])); on_goal 2 => (intro hx; try clear_value x)) | (refine keeps_cut2 (s₀ := s₀) (t := x) ?_ ?_; (on_goal 1 => (try dsimp -zeta only [x])); on_goal 2 => (intro hx; try clear_value x)) | (try clear_value x))
    | with_reducible apply State.modFolio_keeps
    | with_reducible apply State.wrI_keeps
    | with_reducible apply State.txSend_keeps
    | with_reducible apply State.modCyc_keeps
    | with_reducible apply State.txReturn_keeps
    | with_reducible apply State.txAdvance_keeps
    | with_reducible apply State.takeRingFaults_keeps
    | with_reducible apply keeps_foldl
    | with_reducible apply keeps_foldl_fst
    | with_reducible apply keeps_foldl_snd
    | split
    | (fail_if_no_progress (with_reducible apply keeps_mk))
    | dsimp -zeta only
    | with_reducible apply_assumption

end Sys2Proof.Machine
end

