-- ==== Sys2Proof/Laws/KeepsLgeOps.lean ====
section
/-! SUPPORT. The operations of LgeOps have the relation `Keeps`. -/

namespace Sys2Proof.Machine

open Sys2Proof Reg

set_option linter.unusedTactic false
set_option linter.unreachableTactic false

theorem State.lgeRefresh_keeps {s₀ s : State}  (h : Keeps s₀ s) : Keeps s₀ (State.lgeRefresh s) := by
  unfold State.lgeRefresh
  repeat' first
    | with_reducible assumption
    | intro _
    | ((fail_if_no_progress extract_lets +onlyGivenNames x); first | (refine keeps_cut (s₀ := s₀) (t := x) ?_ ?_; (on_goal 1 => (try dsimp -zeta only [x])); on_goal 2 => (intro hx; try clear_value x)) | (refine keeps_cut2 (s₀ := s₀) (t := x) ?_ ?_; (on_goal 1 => (try dsimp -zeta only [x])); on_goal 2 => (intro hx; try clear_value x)) | (try clear_value x))
    | with_reducible apply State.wr_keeps
    | with_reducible apply State.wrB_keeps
    | split
    | dsimp -zeta only

theorem State.forceChange_keeps {s₀ s : State} (slot : Nat) (entry : Nat) (op : Nat) (id : Nat) (kind : Nat) (value : Nat) (scan : Nat) (h : Keeps s₀ s) : Keeps s₀ (State.forceChange s slot entry op id kind value scan) := by
  unfold State.forceChange
  repeat' first
    | with_reducible assumption
    | intro _
    | ((fail_if_no_progress extract_lets +onlyGivenNames x); first | (refine keeps_cut (s₀ := s₀) (t := x) ?_ ?_; (on_goal 1 => (try dsimp -zeta only [x])); on_goal 2 => (intro hx; try clear_value x)) | (refine keeps_cut2 (s₀ := s₀) (t := x) ?_ ?_; (on_goal 1 => (try dsimp -zeta only [x])); on_goal 2 => (intro hx; try clear_value x)) | (try clear_value x))
    | with_reducible apply State.onLge_keeps
    | with_reducible apply State.event_keeps
    | with_reducible apply State.bump_keeps
    | with_reducible apply State.flag_keeps
    | (fail_if_no_progress (with_reducible apply keeps_mk))
    | dsimp -zeta only

theorem State.forceDo_keeps {s₀ s : State} (c : ForceCmd) (scan : Nat) (h : Keeps s₀ s) : Keeps s₀ (State.forceDo s c scan).2 := by
  unfold State.forceDo
  repeat' first
    | with_reducible assumption
    | intro _
    | ((fail_if_no_progress extract_lets +onlyGivenNames x); first | (refine keeps_cut (s₀ := s₀) (t := x) ?_ ?_; (on_goal 1 => (try dsimp -zeta only [x])); on_goal 2 => (intro hx; try clear_value x)) | (refine keeps_cut2 (s₀ := s₀) (t := x) ?_ ?_; (on_goal 1 => (try dsimp -zeta only [x])); on_goal 2 => (intro hx; try clear_value x)) | (try clear_value x))
    | with_reducible apply State.forceChange_keeps
    | with_reducible apply State.wr_keeps
    | with_reducible apply keeps_foldl
    | with_reducible apply keeps_foldl_fst
    | with_reducible apply keeps_foldl_snd
    | split
    | dsimp -zeta only

theorem State.forceCmd_keeps {s₀ s : State} (op : Nat) (h : Keeps s₀ s) : Keeps s₀ (State.forceCmd s op) := by
  unfold State.forceCmd
  repeat' first
    | with_reducible assumption
    | intro _
    | ((fail_if_no_progress extract_lets +onlyGivenNames x); first | (refine keeps_cut (s₀ := s₀) (t := x) ?_ ?_; (on_goal 1 => (try dsimp -zeta only [x])); on_goal 2 => (intro hx; try clear_value x)) | (refine keeps_cut2 (s₀ := s₀) (t := x) ?_ ?_; (on_goal 1 => (try dsimp -zeta only [x])); on_goal 2 => (intro hx; try clear_value x)) | (try clear_value x))
    | (with_reducible refine keeps_snd (by assumption) ?_)
    | with_reducible apply State.wr_keeps
    | with_reducible apply State.answer_keeps
    | with_reducible apply State.begin_keeps
    | with_reducible apply State.onLge_keeps
    | with_reducible apply State.forceDo_keeps
    | with_reducible apply State.lgeRefresh_keeps
    | split
    | (fail_if_no_progress (with_reducible apply keeps_mk))
    | dsimp -zeta only

theorem State.forceAtSnapshot_keeps {s₀ s : State} (scan : Nat) (h : Keeps s₀ s) : Keeps s₀ (State.forceAtSnapshot s scan) := by
  unfold State.forceAtSnapshot
  repeat' first
    | with_reducible assumption
    | intro _
    | (with_reducible refine keeps_snd (by assumption) ?_)
    | with_reducible apply State.onLge_keeps
    | with_reducible apply State.forceDo_keeps
    | with_reducible apply State.finish_keeps
    | split
    | (fail_if_no_progress (with_reducible apply keeps_mk))
    | dsimp -zeta only

theorem State.lgeCfgFlip_keeps {s₀ s : State} (new : List (Nat × Nat)) (h : Keeps s₀ s) : Keeps s₀ (State.lgeCfgFlip s new) := by
  unfold State.lgeCfgFlip
  repeat' first
    | with_reducible assumption
    | intro _
    | ((fail_if_no_progress extract_lets +onlyGivenNames x); first | (refine keeps_cut (s₀ := s₀) (t := x) ?_ ?_; (on_goal 1 => (try dsimp -zeta only [x])); on_goal 2 => (intro hx; try clear_value x)) | (refine keeps_cut2 (s₀ := s₀) (t := x) ?_ ?_; (on_goal 1 => (try dsimp -zeta only [x])); on_goal 2 => (intro hx; try clear_value x)) | (try clear_value x))
    | with_reducible apply State.wr_keeps
    | with_reducible apply State.onLge_keeps
    | with_reducible apply keeps_foldl
    | with_reducible apply keeps_foldl_fst
    | with_reducible apply keeps_foldl_snd
    | (fail_if_no_progress (with_reducible apply keeps_mk))
    | dsimp -zeta only

theorem State.lgeFlip_keeps {s₀ s : State} (logc : Bool) (ctlo : Bool) (revert : Bool) (scan : Nat) (h : Keeps s₀ s) : Keeps s₀ (State.lgeFlip s logc ctlo revert scan) := by
  unfold State.lgeFlip
  repeat' first
    | with_reducible assumption
    | intro _
    | ((fail_if_no_progress extract_lets +onlyGivenNames x); first | (refine keeps_cut (s₀ := s₀) (t := x) ?_ ?_; (on_goal 1 => (try dsimp -zeta only [x])); on_goal 2 => (intro hx; try clear_value x)) | (refine keeps_cut2 (s₀ := s₀) (t := x) ?_ ?_; (on_goal 1 => (try dsimp -zeta only [x])); on_goal 2 => (intro hx; try clear_value x)) | (refine keeps_cutF (s₀ := s₀) (f := x) ?_ ?_; (on_goal 1 => (try dsimp -zeta only [x])); on_goal 2 => (intro hx; try clear_value x)) | (refine keeps_cutF2 (s₀ := s₀) (f := x) ?_ ?_; (on_goal 1 => (try dsimp -zeta only [x])); on_goal 2 => (intro hx; try clear_value x)) | (refine keeps_cutF5 (s₀ := s₀) (f := x) ?_ ?_; (on_goal 1 => (try dsimp -zeta only [x])); on_goal 2 => (intro hx; try clear_value x)) | (refine keeps_cutFP (s₀ := s₀) (f := x) ?_ ?_; (on_goal 1 => (try dsimp -zeta only [x])); on_goal 2 => (intro hx; try clear_value x)) | (try clear_value x))
    | with_reducible apply State.revertTab_keeps
    | with_reducible apply State.flipTab_keeps
    | with_reducible apply State.lgeCfgFlip_keeps
    | with_reducible apply State.ctlFlip_keeps
    | with_reducible apply State.onLge_keeps
    | with_reducible apply State.event_keeps
    | with_reducible apply State.flag_keeps
    | with_reducible apply State.ctlReceive_keeps
    | with_reducible apply keeps_foldl
    | with_reducible apply keeps_foldl_fst
    | with_reducible apply keeps_foldl_snd
    | split
    | (fail_if_no_progress (with_reducible apply keeps_mk))
    | dsimp -zeta only
    | with_reducible apply_assumption

theorem State.lgeFlips_keeps {s₀ s : State} (scan : Nat) (h : Keeps s₀ s) : Keeps s₀ (State.lgeFlips s scan) := by
  unfold State.lgeFlips
  repeat' first
    | with_reducible assumption
    | intro _
    | ((fail_if_no_progress extract_lets +onlyGivenNames x); first | (refine keeps_cut (s₀ := s₀) (t := x) ?_ ?_; (on_goal 1 => (try dsimp -zeta only [x])); on_goal 2 => (intro hx; try clear_value x)) | (refine keeps_cut2 (s₀ := s₀) (t := x) ?_ ?_; (on_goal 1 => (try dsimp -zeta only [x])); on_goal 2 => (intro hx; try clear_value x)) | (try clear_value x))
    | with_reducible apply State.lgeFlip_keeps
    | with_reducible apply State.onLge_keeps
    | with_reducible apply keeps_foldl
    | with_reducible apply keeps_foldl_fst
    | with_reducible apply keeps_foldl_snd
    | (fail_if_no_progress (with_reducible apply keeps_mk))
    | dsimp -zeta only

theorem State.lgeFlipRequest_keeps {s₀ s : State} (logc : Bool) (ctlo : Bool) (revert : Bool) (h : Keeps s₀ s) : Keeps s₀ (State.lgeFlipRequest s logc ctlo revert) := by
  unfold State.lgeFlipRequest
  repeat' first
    | with_reducible assumption
    | intro _
    | ((fail_if_no_progress extract_lets +onlyGivenNames x); first | (refine keeps_cut (s₀ := s₀) (t := x) ?_ ?_; (on_goal 1 => (try dsimp -zeta only [x])); on_goal 2 => (intro hx; try clear_value x)) | (refine keeps_cut2 (s₀ := s₀) (t := x) ?_ ?_; (on_goal 1 => (try dsimp -zeta only [x])); on_goal 2 => (intro hx; try clear_value x)) | (try clear_value x))
    | with_reducible apply State.onLge_keeps
    | with_reducible apply State.lgeFlips_keeps
    | with_reducible apply State.lgeRefresh_keeps
    | split
    | (fail_if_no_progress (with_reducible apply keeps_mk))
    | dsimp -zeta only

theorem State.lgeRestart_keeps {s₀ s : State} (scan : Nat) (h : Keeps s₀ s) : Keeps s₀ (State.lgeRestart s scan) := by
  unfold State.lgeRestart
  repeat' first
    | with_reducible assumption
    | intro _
    | with_reducible apply State.onLge_keeps
    | with_reducible apply State.event_keeps
    | with_reducible apply State.flag_keeps
    | split
    | (fail_if_no_progress (with_reducible apply keeps_mk))
    | dsimp -zeta only

theorem State.scanStart_keeps {s₀ s : State}  (h : Keeps s₀ s) : Keeps s₀ (State.scanStart s) := by
  unfold State.scanStart
  repeat' first
    | with_reducible assumption
    | intro _
    | ((fail_if_no_progress extract_lets +onlyGivenNames x); first | (refine keeps_cut (s₀ := s₀) (t := x) ?_ ?_; (on_goal 1 => (try dsimp -zeta only [x])); on_goal 2 => (intro hx; try clear_value x)) | (refine keeps_cut2 (s₀ := s₀) (t := x) ?_ ?_; (on_goal 1 => (try dsimp -zeta only [x])); on_goal 2 => (intro hx; try clear_value x)) | (try clear_value x))
    | (with_reducible refine keeps_snd (by assumption) ?_)
    | with_reducible apply State.onLge_keeps
    | with_reducible apply State.lgeFlips_keeps
    | with_reducible apply State.lgeRestart_keeps
    | with_reducible apply State.forceAtSnapshot_keeps
    | with_reducible apply State.ctlSnapshot_keeps
    | with_reducible apply State.lgeRefresh_keeps
    | with_reducible apply State.takeRingFaults_keeps
    | split
    | (fail_if_no_progress (with_reducible apply keeps_mk))
    | dsimp -zeta only

theorem State.scanCommit_keeps {s₀ s : State}  (h : Keeps s₀ s) : Keeps s₀ (State.scanCommit s) := by
  unfold State.scanCommit
  repeat' first
    | with_reducible assumption
    | intro _
    | ((fail_if_no_progress extract_lets +onlyGivenNames x); first | (refine keeps_cut (s₀ := s₀) (t := x) ?_ ?_; (on_goal 1 => (try dsimp -zeta only [x])); on_goal 2 => (intro hx; try clear_value x)) | (refine keeps_cut2 (s₀ := s₀) (t := x) ?_ ?_; (on_goal 1 => (try dsimp -zeta only [x])); on_goal 2 => (intro hx; try clear_value x)) | (try clear_value x))
    | with_reducible apply State.onLge_keeps
    | with_reducible apply State.wr_keeps
    | with_reducible apply State.bump_keeps
    | with_reducible apply State.eventLogic_keeps
    | with_reducible apply State.bumpBy_keeps
    | with_reducible apply State.flag_keeps
    | with_reducible apply State.ctlCommit_keeps
    | with_reducible apply State.lgeRefresh_keeps
    | with_reducible apply State.takeRingFaults_keeps
    | with_reducible apply keeps_foldl
    | with_reducible apply keeps_foldl_fst
    | with_reducible apply keeps_foldl_snd
    | split
    | (fail_if_no_progress (with_reducible apply keeps_mk))
    | dsimp -zeta only

theorem State.scanAbandon_keeps {s₀ s : State} (c : Scan) (stitch : Nat) (h : Keeps s₀ s) : Keeps s₀ (State.scanAbandon s c stitch) := by
  unfold State.scanAbandon
  repeat' first
    | with_reducible assumption
    | intro _
    | ((fail_if_no_progress extract_lets +onlyGivenNames x); first | (refine keeps_cut (s₀ := s₀) (t := x) ?_ ?_; (on_goal 1 => (try dsimp -zeta only [x])); on_goal 2 => (intro hx; try clear_value x)) | (refine keeps_cut2 (s₀ := s₀) (t := x) ?_ ?_; (on_goal 1 => (try dsimp -zeta only [x])); on_goal 2 => (intro hx; try clear_value x)) | (try clear_value x))
    | with_reducible apply State.onLge_keeps
    | with_reducible apply State.flag_keeps
    | with_reducible apply State.bump_keeps
    | with_reducible apply State.wr_keeps
    | with_reducible apply State.wrSat_keeps
    | with_reducible apply State.eventAt_keeps
    | with_reducible apply State.lgeRefresh_keeps
    | split
    | (fail_if_no_progress (with_reducible apply keeps_mk))
    | dsimp -zeta only

theorem State.scanExpire_keeps {s₀ s : State} (stitch : Nat) (h : Keeps s₀ s) : Keeps s₀ (State.scanExpire s stitch) := by
  unfold State.scanExpire
  repeat' first
    | with_reducible assumption
    | intro _
    | with_reducible apply State.scanAbandon_keeps
    | split
    | dsimp -zeta only

theorem State.lgeRestartCmd_keeps {s₀ s : State}  (h : Keeps s₀ s) : Keeps s₀ (State.lgeRestartCmd s) := by
  unfold State.lgeRestartCmd
  repeat' first
    | with_reducible assumption
    | intro _
    | with_reducible apply State.onLge_keeps
    | with_reducible apply State.lgeRefresh_keeps
    | (fail_if_no_progress (with_reducible apply keeps_mk))
    | dsimp -zeta only

theorem State.imageEcc_keeps {s₀ s : State} (stitch : Nat) (h : Keeps s₀ s) : Keeps s₀ (State.imageEcc s stitch) := by
  unfold State.imageEcc
  repeat' first
    | with_reducible assumption
    | intro _
    | ((fail_if_no_progress extract_lets +onlyGivenNames x); first | (refine keeps_cut (s₀ := s₀) (t := x) ?_ ?_; (on_goal 1 => (try dsimp -zeta only [x])); on_goal 2 => (intro hx; try clear_value x)) | (refine keeps_cut2 (s₀ := s₀) (t := x) ?_ ?_; (on_goal 1 => (try dsimp -zeta only [x])); on_goal 2 => (intro hx; try clear_value x)) | (try clear_value x))
    | with_reducible apply State.scanAbandon_keeps
    | with_reducible apply State.onLge_keeps
    | with_reducible apply State.flag_keeps
    | with_reducible apply State.event_keeps
    | with_reducible apply State.lgeRefresh_keeps
    | split
    | (fail_if_no_progress (with_reducible apply keeps_mk))
    | dsimp -zeta only

theorem State.lgeEnable_keeps {s₀ s : State} (en : Bool) (h : Keeps s₀ s) : Keeps s₀ (State.lgeEnable s en) := by
  unfold State.lgeEnable
  repeat' first
    | with_reducible assumption
    | intro _
    | with_reducible apply State.wrB_keeps
    | with_reducible apply State.lgeRefresh_keeps
    | dsimp -zeta only

theorem State.lgeReady_keeps {s₀ s : State}  (h : Keeps s₀ s) : Keeps s₀ (State.lgeReady s) := by
  unfold State.lgeReady
  repeat' first
    | with_reducible assumption
    | intro _
    | ((fail_if_no_progress extract_lets +onlyGivenNames x); first | (refine keeps_cut (s₀ := s₀) (t := x) ?_ ?_; (on_goal 1 => (try dsimp -zeta only [x])); on_goal 2 => (intro hx; try clear_value x)) | (refine keeps_cut2 (s₀ := s₀) (t := x) ?_ ?_; (on_goal 1 => (try dsimp -zeta only [x])); on_goal 2 => (intro hx; try clear_value x)) | (try clear_value x))
    | with_reducible apply State.onLge_keeps
    | with_reducible apply State.lgeRefresh_keeps
    | (fail_if_no_progress (with_reducible apply keeps_mk))
    | dsimp -zeta only

theorem State.lgeQuire_keeps {s₀ s : State}  (h : Keeps s₀ s) : Keeps s₀ (State.lgeQuire s) := by
  unfold State.lgeQuire
  repeat' first
    | with_reducible assumption
    | intro _
    | ((fail_if_no_progress extract_lets +onlyGivenNames x); first | (refine keeps_cut (s₀ := s₀) (t := x) ?_ ?_; (on_goal 1 => (try dsimp -zeta only [x])); on_goal 2 => (intro hx; try clear_value x)) | (refine keeps_cut2 (s₀ := s₀) (t := x) ?_ ?_; (on_goal 1 => (try dsimp -zeta only [x])); on_goal 2 => (intro hx; try clear_value x)) | (try clear_value x))
    | (with_reducible refine keeps_snd (by assumption) ?_)
    | with_reducible apply State.fresh_keeps
    | with_reducible apply State.onLge_keeps
    | split
    | (fail_if_no_progress (with_reducible apply keeps_mk))
    | dsimp -zeta only

theorem State.lgeBound_keeps {s₀ s : State} (n : Nat) (h : Keeps s₀ s) : Keeps s₀ (State.lgeBound s n) := by
  unfold State.lgeBound
  repeat' first
    | with_reducible assumption
    | intro _
    | with_reducible apply State.onLge_keeps
    | split
    | (fail_if_no_progress (with_reducible apply keeps_mk))
    | dsimp -zeta only

theorem State.lgeInstall_keeps {s₀ s : State} (m : Store) (n : Nat) (h : Keeps s₀ s) : Keeps s₀ (State.lgeInstall s m n) := by
  unfold State.lgeInstall
  repeat' first
    | with_reducible assumption
    | intro _
    | ((fail_if_no_progress extract_lets +onlyGivenNames x); first | (refine keeps_cut (s₀ := s₀) (t := x) ?_ ?_; (on_goal 1 => (try dsimp -zeta only [x])); on_goal 2 => (intro hx; try clear_value x)) | (refine keeps_cut2 (s₀ := s₀) (t := x) ?_ ?_; (on_goal 1 => (try dsimp -zeta only [x])); on_goal 2 => (intro hx; try clear_value x)) | (try clear_value x))
    | with_reducible apply State.onLge_keeps
    | with_reducible apply State.lgeRefresh_keeps
    | with_reducible apply State.event_keeps
    | with_reducible apply State.flag_keeps
    | with_reducible apply keeps_foldl
    | with_reducible apply keeps_foldl_fst
    | with_reducible apply keeps_foldl_snd
    | split
    | (fail_if_no_progress (with_reducible apply keeps_mk))
    | dsimp -zeta only

theorem State.lgePromote_keeps {s₀ s : State}  (h : Keeps s₀ s) : Keeps s₀ (State.lgePromote s) := by
  unfold State.lgePromote
  repeat' first
    | with_reducible assumption
    | intro _
    | with_reducible apply State.onLge_keeps
    | with_reducible apply State.onCtl_keeps
    | with_reducible apply State.lgeRefresh_keeps
    | (fail_if_no_progress (with_reducible apply keeps_mk))
    | dsimp -zeta only

theorem State.lgeShadow_keeps {s₀ s : State}  (h : Keeps s₀ s) : Keeps s₀ (State.lgeShadow s) := by
  unfold State.lgeShadow
  repeat' first
    | with_reducible assumption
    | intro _
    | ((fail_if_no_progress extract_lets +onlyGivenNames x); first | (refine keeps_cut (s₀ := s₀) (t := x) ?_ ?_; (on_goal 1 => (try dsimp -zeta only [x])); on_goal 2 => (intro hx; try clear_value x)) | (refine keeps_cut2 (s₀ := s₀) (t := x) ?_ ?_; (on_goal 1 => (try dsimp -zeta only [x])); on_goal 2 => (intro hx; try clear_value x)) | (try clear_value x))
    | with_reducible apply State.onLge_keeps
    | with_reducible apply State.finish_keeps
    | with_reducible apply State.lgeFlips_keeps
    | with_reducible apply State.lgeRefresh_keeps
    | split
    | (fail_if_no_progress (with_reducible apply keeps_mk))
    | dsimp -zeta only

end Sys2Proof.Machine
end

