-- ==== Sys2Proof/Laws/KeepsGthOps.lean ====
section
/-! SUPPORT. The operations of GthOps have the relation `Keeps`. -/

namespace Sys2Proof.Machine

open Sys2Proof Reg

set_option linter.unusedTactic false
set_option linter.unreachableTactic false

theorem State.setGdef_keeps {s₀ s : State} (d : Nat) (x : GDef) (h : Keeps s₀ s) : Keeps s₀ (State.setGdef s d x) := by
  unfold State.setGdef
  repeat' first
    | with_reducible assumption
    | intro _
    | with_reducible apply State.onGth_keeps
    | (fail_if_no_progress (with_reducible apply keeps_mk))
    | dsimp -zeta only

theorem State.setGseq_keeps {s₀ s : State} (q : Nat) (x : GSeq) (h : Keeps s₀ s) : Keeps s₀ (State.setGseq s q x) := by
  unfold State.setGseq
  repeat' first
    | with_reducible assumption
    | intro _
    | with_reducible apply State.onGth_keeps
    | (fail_if_no_progress (with_reducible apply keeps_mk))
    | dsimp -zeta only

theorem State.gShowDef_keeps {s₀ s : State} (k : Nat) (h : Keeps s₀ s) : Keeps s₀ (State.gShowDef s k) := by
  unfold State.gShowDef
  repeat' first
    | with_reducible assumption
    | intro _
    | ((fail_if_no_progress extract_lets +onlyGivenNames x); first | (refine keeps_cut (s₀ := s₀) (t := x) ?_ ?_; (on_goal 1 => (try dsimp -zeta only [x])); on_goal 2 => (intro hx; try clear_value x)) | (refine keeps_cut2 (s₀ := s₀) (t := x) ?_ ?_; (on_goal 1 => (try dsimp -zeta only [x])); on_goal 2 => (intro hx; try clear_value x)) | (try clear_value x))
    | with_reducible apply State.wrI_keeps
    | with_reducible apply State.wr_keeps
    | split
    | dsimp -zeta only

theorem State.gShowSeq_keeps {s₀ s : State} (k : Nat) (h : Keeps s₀ s) : Keeps s₀ (State.gShowSeq s k) := by
  unfold State.gShowSeq
  repeat' first
    | with_reducible assumption
    | intro _
    | ((fail_if_no_progress extract_lets +onlyGivenNames x); first | (refine keeps_cut (s₀ := s₀) (t := x) ?_ ?_; (on_goal 1 => (try dsimp -zeta only [x])); on_goal 2 => (intro hx; try clear_value x)) | (refine keeps_cut2 (s₀ := s₀) (t := x) ?_ ?_; (on_goal 1 => (try dsimp -zeta only [x])); on_goal 2 => (intro hx; try clear_value x)) | (try clear_value x))
    | with_reducible apply State.wrI_keeps
    | with_reducible apply State.wrBI_keeps
    | with_reducible apply keeps_getD
    | dsimp -zeta only

theorem State.gShow_keeps {s₀ s : State}  (h : Keeps s₀ s) : Keeps s₀ (State.gShow s) := by
  unfold State.gShow
  repeat' first
    | with_reducible assumption
    | intro _
    | ((fail_if_no_progress extract_lets +onlyGivenNames x); first | (refine keeps_cut (s₀ := s₀) (t := x) ?_ ?_; (on_goal 1 => (try dsimp -zeta only [x])); on_goal 2 => (intro hx; try clear_value x)) | (refine keeps_cut2 (s₀ := s₀) (t := x) ?_ ?_; (on_goal 1 => (try dsimp -zeta only [x])); on_goal 2 => (intro hx; try clear_value x)) | (try clear_value x))
    | with_reducible apply State.gShowSeq_keeps
    | with_reducible apply State.gShowDef_keeps
    | with_reducible apply State.wrB_keeps
    | with_reducible apply State.wr_keeps
    | with_reducible apply keeps_foldl
    | with_reducible apply keeps_foldl_fst
    | with_reducible apply keeps_foldl_snd
    | with_reducible apply keeps_getD
    | dsimp -zeta only

theorem State.gEvent_keeps {s₀ s : State} (kind : Nat) (d : Nat) (q : Nat) (cause : Nat) (seq : Nat) (tp : Nat) (positions : Nat) (gaps : Nat) (h : Keeps s₀ s) : Keeps s₀ (State.gEvent s kind d q cause seq tp positions gaps) := by
  unfold State.gEvent
  repeat' first
    | with_reducible assumption
    | intro _
    | with_reducible apply State.event_keeps
    | dsimp -zeta only

theorem State.modGath_keeps {s₀ s : State} (seq : Nat) (f : Gath → Gath) (h : Keeps s₀ s) : Keeps s₀ (State.modGath s seq f) := by
  unfold State.modGath
  repeat' first
    | with_reducible assumption
    | intro _
    | with_reducible apply State.onGth_keeps
    | split
    | (fail_if_no_progress (with_reducible apply keeps_mk))
    | dsimp -zeta only

theorem State.gEnd_keeps {s₀ s : State} (d : Nat) (cause : Nat) (h : Keeps s₀ s) : Keeps s₀ (State.gEnd s d cause) := by
  unfold State.gEnd
  repeat' first
    | with_reducible assumption
    | intro _
    | ((fail_if_no_progress extract_lets +onlyGivenNames x); first | (refine keeps_cut (s₀ := s₀) (t := x) ?_ ?_; (on_goal 1 => (try dsimp -zeta only [x])); on_goal 2 => (intro hx; try clear_value x)) | (refine keeps_cut2 (s₀ := s₀) (t := x) ?_ ?_; (on_goal 1 => (try dsimp -zeta only [x])); on_goal 2 => (intro hx; try clear_value x)) | (try clear_value x))
    | with_reducible apply State.setGdef_keeps
    | with_reducible apply State.modGath_keeps
    | with_reducible apply State.flagIf_keeps
    | with_reducible apply State.gEvent_keeps
    | with_reducible apply keeps_getD
    | split
    | (fail_if_no_progress (with_reducible apply keeps_mk))
    | dsimp -zeta only
    | with_reducible apply_assumption

theorem State.gFill_keeps {s₀ s : State} (d : Nat) (n : Nat) (h : Keeps s₀ s) : Keeps s₀ (State.gFill s d n) := by
  unfold State.gFill
  repeat' first
    | with_reducible assumption
    | intro _
    | ((fail_if_no_progress extract_lets +onlyGivenNames x); first | (refine keeps_cut (s₀ := s₀) (t := x) ?_ ?_; (on_goal 1 => (try dsimp -zeta only [x])); on_goal 2 => (intro hx; try clear_value x)) | (refine keeps_cut2 (s₀ := s₀) (t := x) ?_ ?_; (on_goal 1 => (try dsimp -zeta only [x])); on_goal 2 => (intro hx; try clear_value x)) | (try clear_value x))
    | with_reducible apply State.setGdef_keeps
    | (fail_if_no_progress (with_reducible apply keeps_mk))
    | dsimp -zeta only

theorem State.gRetime_keeps {s₀ s : State}  (h : Keeps s₀ s) : Keeps s₀ (State.gRetime s) := by
  unfold State.gRetime
  repeat' first
    | with_reducible assumption
    | intro _
    | with_reducible apply State.onGth_keeps
    | (fail_if_no_progress (with_reducible apply keeps_mk))
    | dsimp -zeta only

theorem State.gStart_keeps {s₀ s : State} (d : Nat) (n : Nat) (h : Keeps s₀ s) : Keeps s₀ (State.gStart s d n) := by
  unfold State.gStart
  repeat' first
    | with_reducible assumption
    | intro _
    | ((fail_if_no_progress extract_lets +onlyGivenNames x); first | (refine keeps_cut (s₀ := s₀) (t := x) ?_ ?_; (on_goal 1 => (try dsimp -zeta only [x])); on_goal 2 => (intro hx; try clear_value x)) | (refine keeps_cut2 (s₀ := s₀) (t := x) ?_ ?_; (on_goal 1 => (try dsimp -zeta only [x])); on_goal 2 => (intro hx; try clear_value x)) | (try clear_value x))
    | with_reducible apply State.setGdef_keeps
    | with_reducible apply State.gRetime_keeps
    | split
    | (fail_if_no_progress (with_reducible apply keeps_mk))
    | dsimp -zeta only

theorem State.gApply_keeps {s₀ s : State} (d : Nat) (h : Keeps s₀ s) : Keeps s₀ (State.gApply s d) := by
  unfold State.gApply
  repeat' first
    | with_reducible assumption
    | intro _
    | ((fail_if_no_progress extract_lets +onlyGivenNames x); first | (refine keeps_cut (s₀ := s₀) (t := x) ?_ ?_; (on_goal 1 => (try dsimp -zeta only [x])); on_goal 2 => (intro hx; try clear_value x)) | (refine keeps_cut2 (s₀ := s₀) (t := x) ?_ ?_; (on_goal 1 => (try dsimp -zeta only [x])); on_goal 2 => (intro hx; try clear_value x)) | (try clear_value x))
    | with_reducible apply State.gEnd_keeps
    | with_reducible apply State.setGdef_keeps
    | with_reducible apply State.gRetime_keeps
    | with_reducible apply State.wr_keeps
    | with_reducible apply State.gStart_keeps
    | split
    | (fail_if_no_progress (with_reducible apply keeps_mk))
    | dsimp -zeta only

theorem State.gStop_keeps {s₀ s : State} (d : Nat) (cause : Nat) (h : Keeps s₀ s) : Keeps s₀ (State.gStop s d cause) := by
  unfold State.gStop
  repeat' first
    | with_reducible assumption
    | intro _
    | ((fail_if_no_progress extract_lets +onlyGivenNames x); first | (refine keeps_cut (s₀ := s₀) (t := x) ?_ ?_; (on_goal 1 => (try dsimp -zeta only [x])); on_goal 2 => (intro hx; try clear_value x)) | (refine keeps_cut2 (s₀ := s₀) (t := x) ?_ ?_; (on_goal 1 => (try dsimp -zeta only [x])); on_goal 2 => (intro hx; try clear_value x)) | (try clear_value x))
    | with_reducible apply State.gEnd_keeps
    | with_reducible apply State.setGdef_keeps
    | with_reducible apply State.gApply_keeps
    | with_reducible apply State.gRetime_keeps
    | (fail_if_no_progress (with_reducible apply keeps_mk))
    | dsimp -zeta only

theorem State.gthEnable_keeps {s₀ s : State} (en : Bool) (h : Keeps s₀ s) : Keeps s₀ (State.gthEnable s en) := by
  unfold State.gthEnable
  repeat' first
    | with_reducible assumption
    | intro _
    | ((fail_if_no_progress extract_lets +onlyGivenNames x); first | (refine keeps_cut (s₀ := s₀) (t := x) ?_ ?_; (on_goal 1 => (try dsimp -zeta only [x])); on_goal 2 => (intro hx; try clear_value x)) | (refine keeps_cut2 (s₀ := s₀) (t := x) ?_ ?_; (on_goal 1 => (try dsimp -zeta only [x])); on_goal 2 => (intro hx; try clear_value x)) | (try clear_value x))
    | with_reducible apply State.wrB_keeps
    | with_reducible apply State.gStart_keeps
    | with_reducible apply State.gStop_keeps
    | with_reducible apply State.gShow_keeps
    | with_reducible apply keeps_foldl
    | with_reducible apply keeps_foldl_fst
    | with_reducible apply keeps_foldl_snd
    | split
    | dsimp -zeta only

theorem State.gthReady_keeps {s₀ s : State}  (h : Keeps s₀ s) : Keeps s₀ (State.gthReady s) := by
  unfold State.gthReady
  repeat' first
    | with_reducible assumption
    | intro _
    | ((fail_if_no_progress extract_lets +onlyGivenNames x); first | (refine keeps_cut (s₀ := s₀) (t := x) ?_ ?_; (on_goal 1 => (try dsimp -zeta only [x])); on_goal 2 => (intro hx; try clear_value x)) | (refine keeps_cut2 (s₀ := s₀) (t := x) ?_ ?_; (on_goal 1 => (try dsimp -zeta only [x])); on_goal 2 => (intro hx; try clear_value x)) | (try clear_value x))
    | with_reducible apply State.onGth_keeps
    | with_reducible apply State.gStart_keeps
    | with_reducible apply State.gShow_keeps
    | with_reducible apply keeps_foldl
    | with_reducible apply keeps_foldl_fst
    | with_reducible apply keeps_foldl_snd
    | (fail_if_no_progress (with_reducible apply keeps_mk))
    | dsimp -zeta only

theorem State.seqFlip_keeps {s₀ s : State} (tab : Store) (heirs : List (Nat × Nat)) (k : Nat) (h : Keeps s₀ s) : Keeps s₀ (State.seqFlip s tab heirs k) := by
  unfold State.seqFlip
  repeat' first
    | with_reducible assumption
    | intro _
    | ((fail_if_no_progress extract_lets +onlyGivenNames x); first | (refine keeps_cut (s₀ := s₀) (t := x) ?_ ?_; (on_goal 1 => (try dsimp -zeta only [x])); on_goal 2 => (intro hx; try clear_value x)) | (refine keeps_cut2 (s₀ := s₀) (t := x) ?_ ?_; (on_goal 1 => (try dsimp -zeta only [x])); on_goal 2 => (intro hx; try clear_value x)) | (try clear_value x))
    | with_reducible apply State.setGseq_keeps
    | with_reducible apply keeps_foldl
    | with_reducible apply keeps_foldl_fst
    | with_reducible apply keeps_foldl_snd
    | split
    | (fail_if_no_progress (with_reducible apply keeps_mk))
    | dsimp -zeta only

theorem State.gthFlip_keeps {s₀ s : State} (streams : Nat → Nat) (insts : Nat → Nat) (h : Keeps s₀ s) : Keeps s₀ (State.gthFlip s streams insts) := by
  unfold State.gthFlip
  repeat' first
    | with_reducible assumption
    | intro _
    | ((fail_if_no_progress extract_lets +onlyGivenNames x); first | (refine keeps_cut (s₀ := s₀) (t := x) ?_ ?_; (on_goal 1 => (try dsimp -zeta only [x])); on_goal 2 => (intro hx; try clear_value x)) | (refine keeps_cut2 (s₀ := s₀) (t := x) ?_ ?_; (on_goal 1 => (try dsimp -zeta only [x])); on_goal 2 => (intro hx; try clear_value x)) | (refine keeps_cutF (s₀ := s₀) (f := x) ?_ ?_; (on_goal 1 => (try dsimp -zeta only [x])); on_goal 2 => (intro hx; try clear_value x)) | (refine keeps_cutF2 (s₀ := s₀) (f := x) ?_ ?_; (on_goal 1 => (try dsimp -zeta only [x])); on_goal 2 => (intro hx; try clear_value x)) | (refine keeps_cutF5 (s₀ := s₀) (f := x) ?_ ?_; (on_goal 1 => (try dsimp -zeta only [x])); on_goal 2 => (intro hx; try clear_value x)) | (refine keeps_cutFP (s₀ := s₀) (f := x) ?_ ?_; (on_goal 1 => (try dsimp -zeta only [x])); on_goal 2 => (intro hx; try clear_value x)) | (try clear_value x))
    | with_reducible apply State.onGth_keeps
    | with_reducible apply State.setGdef_keeps
    | with_reducible apply State.gApply_keeps
    | with_reducible apply State.seqFlip_keeps
    | with_reducible apply State.gRetime_keeps
    | with_reducible apply State.gStart_keeps
    | with_reducible apply State.gShow_keeps
    | with_reducible apply keeps_foldl
    | with_reducible apply keeps_foldl_fst
    | with_reducible apply keeps_foldl_snd
    | with_reducible apply keeps_getD
    | split
    | (fail_if_no_progress (with_reducible apply keeps_mk))
    | dsimp -zeta only
    | with_reducible apply_assumption

theorem State.gWrite_keeps {s₀ s : State} (d : Nat) (r : GRec) (h : Keeps s₀ s) : Keeps s₀ (State.gWrite s d r) := by
  unfold State.gWrite
  repeat' first
    | with_reducible assumption
    | intro _
    | ((fail_if_no_progress extract_lets +onlyGivenNames x); first | (refine keeps_cut (s₀ := s₀) (t := x) ?_ ?_; (on_goal 1 => (try dsimp -zeta only [x])); on_goal 2 => (intro hx; try clear_value x)) | (refine keeps_cut2 (s₀ := s₀) (t := x) ?_ ?_; (on_goal 1 => (try dsimp -zeta only [x])); on_goal 2 => (intro hx; try clear_value x)) | (try clear_value x))
    | with_reducible apply State.wr_keeps
    | with_reducible apply State.setGdef_keeps
    | (fail_if_no_progress (with_reducible apply keeps_mk))
    | dsimp -zeta only

theorem State.gPass_keeps {s₀ s : State} (d : Nat) (h : Keeps s₀ s) : Keeps s₀ (State.gPass s d) := by
  unfold State.gPass
  repeat' first
    | with_reducible assumption
    | intro _
    | ((fail_if_no_progress extract_lets +onlyGivenNames x); first | (refine keeps_cut (s₀ := s₀) (t := x) ?_ ?_; (on_goal 1 => (try dsimp -zeta only [x])); on_goal 2 => (intro hx; try clear_value x)) | (refine keeps_cut2 (s₀ := s₀) (t := x) ?_ ?_; (on_goal 1 => (try dsimp -zeta only [x])); on_goal 2 => (intro hx; try clear_value x)) | (try clear_value x))
    | with_reducible apply State.setGdef_keeps
    | with_reducible apply keeps_getD
    | (fail_if_no_progress (with_reducible apply keeps_mk))
    | dsimp -zeta only

theorem State.gTake_keeps {s₀ s : State} (d : Nat) (vs : List (Int × Nat × Bool)) (h : Keeps s₀ s) : Keeps s₀ (State.gTake s d vs) := by
  unfold State.gTake
  repeat' first
    | with_reducible assumption
    | intro _
    | ((fail_if_no_progress extract_lets +onlyGivenNames x); first | (refine keeps_cut (s₀ := s₀) (t := x) ?_ ?_; (on_goal 1 => (try dsimp -zeta only [x])); on_goal 2 => (intro hx; try clear_value x)) | (refine keeps_cut2 (s₀ := s₀) (t := x) ?_ ?_; (on_goal 1 => (try dsimp -zeta only [x])); on_goal 2 => (intro hx; try clear_value x)) | (try clear_value x))
    | with_reducible apply State.wr_keeps
    | with_reducible apply State.bump_keeps
    | with_reducible apply State.gPass_keeps
    | with_reducible apply State.gWrite_keeps
    | with_reducible apply State.setGdef_keeps
    | with_reducible apply State.flag_keeps
    | with_reducible apply State.gEnd_keeps
    | split
    | (fail_if_no_progress (with_reducible apply keeps_mk))
    | dsimp -zeta only

theorem State.gthCapture_keeps {s₀ s : State} (d : Nat) (h : Keeps s₀ s) : Keeps s₀ (State.gthCapture s d) := by
  unfold State.gthCapture
  repeat' first
    | with_reducible assumption
    | intro _
    | ((fail_if_no_progress extract_lets +onlyGivenNames x); first | (refine keeps_cut (s₀ := s₀) (t := x) ?_ ?_; (on_goal 1 => (try dsimp -zeta only [x])); on_goal 2 => (intro hx; try clear_value x)) | (refine keeps_cut2 (s₀ := s₀) (t := x) ?_ ?_; (on_goal 1 => (try dsimp -zeta only [x])); on_goal 2 => (intro hx; try clear_value x)) | (try clear_value x))
    | with_reducible apply State.gApply_keeps
    | with_reducible apply State.gShow_keeps
    | with_reducible apply State.gPass_keeps
    | with_reducible apply State.gTake_keeps
    | split
    | dsimp -zeta only

theorem State.headFilled_keeps {s₀ s : State} (d : Nat) (h : Keeps s₀ s) : Keeps s₀ (State.headFilled s d) := by
  unfold State.headFilled
  repeat' first
    | with_reducible assumption
    | intro _
    | ((fail_if_no_progress extract_lets +onlyGivenNames x); first | (refine keeps_cut (s₀ := s₀) (t := x) ?_ ?_; (on_goal 1 => (try dsimp -zeta only [x])); on_goal 2 => (intro hx; try clear_value x)) | (refine keeps_cut2 (s₀ := s₀) (t := x) ?_ ?_; (on_goal 1 => (try dsimp -zeta only [x])); on_goal 2 => (intro hx; try clear_value x)) | (try clear_value x))
    | with_reducible apply State.setGdef_keeps
    | with_reducible apply State.gShow_keeps
    | split
    | (fail_if_no_progress (with_reducible apply keeps_mk))
    | dsimp -zeta only

theorem State.captureResume_keeps {s₀ s : State} (d : Nat) (h : Keeps s₀ s) : Keeps s₀ (State.captureResume s d) := by
  unfold State.captureResume
  repeat' first
    | with_reducible assumption
    | intro _
    | ((fail_if_no_progress extract_lets +onlyGivenNames x); first | (refine keeps_cut (s₀ := s₀) (t := x) ?_ ?_; (on_goal 1 => (try dsimp -zeta only [x])); on_goal 2 => (intro hx; try clear_value x)) | (refine keeps_cut2 (s₀ := s₀) (t := x) ?_ ?_; (on_goal 1 => (try dsimp -zeta only [x])); on_goal 2 => (intro hx; try clear_value x)) | (try clear_value x))
    | with_reducible apply State.gFill_keeps
    | with_reducible apply State.gShow_keeps
    | split
    | dsimp -zeta only

theorem State.gapEnd_keeps {s₀ s : State} (d : Nat) (h : Keeps s₀ s) : Keeps s₀ (State.gapEnd s d) := by
  unfold State.gapEnd
  repeat' first
    | with_reducible assumption
    | intro _
    | ((fail_if_no_progress extract_lets +onlyGivenNames x); first | (refine keeps_cut (s₀ := s₀) (t := x) ?_ ?_; (on_goal 1 => (try dsimp -zeta only [x])); on_goal 2 => (intro hx; try clear_value x)) | (refine keeps_cut2 (s₀ := s₀) (t := x) ?_ ?_; (on_goal 1 => (try dsimp -zeta only [x])); on_goal 2 => (intro hx; try clear_value x)) | (try clear_value x))
    | with_reducible apply State.wr_keeps
    | with_reducible apply State.setGdef_keeps
    | with_reducible apply State.gWrite_keeps
    | with_reducible apply State.gFill_keeps
    | with_reducible apply State.gShow_keeps
    | split
    | (fail_if_no_progress (with_reducible apply keeps_mk))
    | dsimp -zeta only

theorem State.gatheringComplete_keeps {s₀ s : State} (d : Nat) (h : Keeps s₀ s) : Keeps s₀ (State.gatheringComplete s d) := by
  unfold State.gatheringComplete
  repeat' first
    | with_reducible assumption
    | intro _
    | ((fail_if_no_progress extract_lets +onlyGivenNames x); first | (refine keeps_cut (s₀ := s₀) (t := x) ?_ ?_; (on_goal 1 => (try dsimp -zeta only [x])); on_goal 2 => (intro hx; try clear_value x)) | (refine keeps_cut2 (s₀ := s₀) (t := x) ?_ ?_; (on_goal 1 => (try dsimp -zeta only [x])); on_goal 2 => (intro hx; try clear_value x)) | (try clear_value x))
    | with_reducible apply State.gEnd_keeps
    | with_reducible apply State.setGdef_keeps
    | with_reducible apply State.gApply_keeps
    | with_reducible apply State.gShow_keeps
    | split
    | (fail_if_no_progress (with_reducible apply keeps_mk))
    | dsimp -zeta only

theorem State.gutterEnd_keeps {s₀ s : State} (d : Nat) (h : Keeps s₀ s) : Keeps s₀ (State.gutterEnd s d) := by
  unfold State.gutterEnd
  repeat' first
    | with_reducible assumption
    | intro _
    | ((fail_if_no_progress extract_lets +onlyGivenNames x); first | (refine keeps_cut (s₀ := s₀) (t := x) ?_ ?_; (on_goal 1 => (try dsimp -zeta only [x])); on_goal 2 => (intro hx; try clear_value x)) | (refine keeps_cut2 (s₀ := s₀) (t := x) ?_ ?_; (on_goal 1 => (try dsimp -zeta only [x])); on_goal 2 => (intro hx; try clear_value x)) | (try clear_value x))
    | with_reducible apply State.setGdef_keeps
    | with_reducible apply State.gShow_keeps
    | split
    | (fail_if_no_progress (with_reducible apply keeps_mk))
    | dsimp -zeta only

theorem State.gOffer_keeps {s₀ s : State} (q : Nat) (t : Nat) (skew : Nat) (n : Nat) (rate : Nat) (src : Nat) (tp : Nat) (d : Nat) (h : Keeps s₀ s) : Keeps s₀ (State.gOffer s q t skew n rate src tp d) := by
  unfold State.gOffer
  repeat' first
    | with_reducible assumption
    | intro _
    | ((fail_if_no_progress extract_lets +onlyGivenNames x); first | (refine keeps_cut (s₀ := s₀) (t := x) ?_ ?_; (on_goal 1 => (try dsimp -zeta only [x])); on_goal 2 => (intro hx; try clear_value x)) | (refine keeps_cut2 (s₀ := s₀) (t := x) ?_ ?_; (on_goal 1 => (try dsimp -zeta only [x])); on_goal 2 => (intro hx; try clear_value x)) | (refine keeps_cutF (s₀ := s₀) (f := x) ?_ ?_; (on_goal 1 => (try dsimp -zeta only [x])); on_goal 2 => (intro hx; try clear_value x)) | (refine keeps_cutF2 (s₀ := s₀) (f := x) ?_ ?_; (on_goal 1 => (try dsimp -zeta only [x])); on_goal 2 => (intro hx; try clear_value x)) | (refine keeps_cutF5 (s₀ := s₀) (f := x) ?_ ?_; (on_goal 1 => (try dsimp -zeta only [x])); on_goal 2 => (intro hx; try clear_value x)) | (refine keeps_cutFP (s₀ := s₀) (f := x) ?_ ?_; (on_goal 1 => (try dsimp -zeta only [x])); on_goal 2 => (intro hx; try clear_value x)) | (try clear_value x))
    | with_reducible apply State.bumpI_keeps
    | with_reducible apply State.bump_keeps
    | with_reducible apply State.flag_keeps
    | with_reducible apply State.onGth_keeps
    | with_reducible apply State.wr_keeps
    | with_reducible apply State.setGdef_keeps
    | with_reducible apply State.wrI_keeps
    | with_reducible apply State.gEvent_keeps
    | with_reducible apply keeps_getD
    | split
    | (fail_if_no_progress (with_reducible apply keeps_mk))
    | dsimp -zeta only
    | with_reducible apply_assumption

theorem State.gTry_keeps {s₀ s t : State} (i : Nat) (q : GSeq) (isA : Bool) (n : Nat) (rate : Nat) (h : Keeps s₀ s) (e : State.gTry s i q isA n rate = some t) : Keeps s₀ t := by
  unfold State.gTry at e
  dsimp only at e
  repeat' first
    | (cases e; done)
    | (split at e)
    | (cases e)
    | with_reducible assumption
    | intro _
    | ((fail_if_no_progress extract_lets +onlyGivenNames x); first | (refine keeps_cut (s₀ := s₀) (t := x) ?_ ?_; (on_goal 1 => (try dsimp -zeta only [x])); on_goal 2 => (intro hx; try clear_value x)) | (refine keeps_cut2 (s₀ := s₀) (t := x) ?_ ?_; (on_goal 1 => (try dsimp -zeta only [x])); on_goal 2 => (intro hx; try clear_value x)) | (try clear_value x))
    | with_reducible apply State.setGseq_keeps
    | with_reducible apply State.wrI_keeps
    | with_reducible apply State.gOffer_keeps
    | with_reducible apply keeps_foldl
    | with_reducible apply keeps_foldl_fst
    | with_reducible apply keeps_foldl_snd
    | split
    | (fail_if_no_progress (with_reducible apply keeps_mk))
    | dsimp -zeta only

theorem State.seqEvalAt_keeps {s₀ s : State} (i : Nat) (n : Nat) (rate : Nat) (h : Keeps s₀ s) : Keeps s₀ (State.seqEvalAt s i n rate) := by
  unfold State.seqEvalAt
  repeat' first
    | with_reducible assumption
    | intro _
    | ((fail_if_no_progress extract_lets +onlyGivenNames x); first | (refine keeps_cut (s₀ := s₀) (t := x) ?_ ?_; (on_goal 1 => (try dsimp -zeta only [x])); on_goal 2 => (intro hx; try clear_value x)) | (refine keeps_cut2 (s₀ := s₀) (t := x) ?_ ?_; (on_goal 1 => (try dsimp -zeta only [x])); on_goal 2 => (intro hx; try clear_value x)) | (try clear_value x))
    | with_reducible apply State.setGseq_keeps
    | (refine State.gTry_keeps (h := ?_) (e := (by assumption)) ..)
    | with_reducible apply State.gShow_keeps
    | with_reducible apply keeps_getD
    | split
    | (fail_if_no_progress (with_reducible apply keeps_mk))
    | dsimp -zeta only

theorem State.sequencerEval_keeps {s₀ s : State}  (h : Keeps s₀ s) : Keeps s₀ (State.sequencerEval s) := by
  unfold State.sequencerEval
  repeat' first
    | with_reducible assumption
    | intro _
    | ((fail_if_no_progress extract_lets +onlyGivenNames x); first | (refine keeps_cut (s₀ := s₀) (t := x) ?_ ?_; (on_goal 1 => (try dsimp -zeta only [x])); on_goal 2 => (intro hx; try clear_value x)) | (refine keeps_cut2 (s₀ := s₀) (t := x) ?_ ?_; (on_goal 1 => (try dsimp -zeta only [x])); on_goal 2 => (intro hx; try clear_value x)) | (try clear_value x))
    | with_reducible apply State.setGseq_keeps
    | with_reducible apply State.gRetime_keeps
    | with_reducible apply State.gShow_keeps
    | with_reducible apply State.seqEvalAt_keeps
    | with_reducible apply keeps_getD
    | split
    | dsimp -zeta only

theorem State.gthImage_keeps {s₀ s : State} (old : Store) (h : Keeps s₀ s) : Keeps s₀ (State.gthImage s old) := by
  unfold State.gthImage
  repeat' first
    | with_reducible assumption
    | intro _
    | ((fail_if_no_progress extract_lets +onlyGivenNames x); first | (refine keeps_cut (s₀ := s₀) (t := x) ?_ ?_; (on_goal 1 => (try dsimp -zeta only [x])); on_goal 2 => (intro hx; try clear_value x)) | (refine keeps_cut2 (s₀ := s₀) (t := x) ?_ ?_; (on_goal 1 => (try dsimp -zeta only [x])); on_goal 2 => (intro hx; try clear_value x)) | (try clear_value x))
    | with_reducible apply State.onGth_keeps
    | with_reducible apply keeps_foldl
    | with_reducible apply keeps_foldl_fst
    | with_reducible apply keeps_foldl_snd
    | split
    | (fail_if_no_progress (with_reducible apply keeps_mk))
    | dsimp -zeta only

theorem State.gthStep_keeps {s₀ s : State}  (h : Keeps s₀ s) : Keeps s₀ (State.gthStep s) := by
  unfold State.gthStep
  repeat' first
    | with_reducible assumption
    | intro _
    | with_reducible apply State.onGth_keeps
    | split
    | (fail_if_no_progress (with_reducible apply keeps_mk))
    | dsimp -zeta only

theorem State.gthRestart_keeps {s₀ s : State}  (h : Keeps s₀ s) : Keeps s₀ (State.gthRestart s) := by
  unfold State.gthRestart
  repeat' first
    | with_reducible assumption
    | intro _
    | ((fail_if_no_progress extract_lets +onlyGivenNames x); first | (refine keeps_cut (s₀ := s₀) (t := x) ?_ ?_; (on_goal 1 => (try dsimp -zeta only [x])); on_goal 2 => (intro hx; try clear_value x)) | (refine keeps_cut2 (s₀ := s₀) (t := x) ?_ ?_; (on_goal 1 => (try dsimp -zeta only [x])); on_goal 2 => (intro hx; try clear_value x)) | (try clear_value x))
    | with_reducible apply State.gEnd_keeps
    | with_reducible apply State.setGdef_keeps
    | with_reducible apply State.gApply_keeps
    | with_reducible apply State.onGth_keeps
    | with_reducible apply State.gRetime_keeps
    | with_reducible apply State.gShow_keeps
    | with_reducible apply keeps_foldl
    | with_reducible apply keeps_foldl_fst
    | with_reducible apply keeps_foldl_snd
    | split
    | (fail_if_no_progress (with_reducible apply keeps_mk))
    | dsimp -zeta only

theorem State.gthSuspend_keeps {s₀ s : State}  (h : Keeps s₀ s) : Keeps s₀ (State.gthSuspend s) := by
  unfold State.gthSuspend
  repeat' first
    | with_reducible assumption
    | intro _
    | ((fail_if_no_progress extract_lets +onlyGivenNames x); first | (refine keeps_cut (s₀ := s₀) (t := x) ?_ ?_; (on_goal 1 => (try dsimp -zeta only [x])); on_goal 2 => (intro hx; try clear_value x)) | (refine keeps_cut2 (s₀ := s₀) (t := x) ?_ ?_; (on_goal 1 => (try dsimp -zeta only [x])); on_goal 2 => (intro hx; try clear_value x)) | (try clear_value x))
    | with_reducible apply State.gEnd_keeps
    | with_reducible apply State.setGdef_keeps
    | with_reducible apply State.gShow_keeps
    | with_reducible apply keeps_foldl
    | with_reducible apply keeps_foldl_fst
    | with_reducible apply keeps_foldl_snd
    | split
    | (fail_if_no_progress (with_reducible apply keeps_mk))
    | dsimp -zeta only

theorem State.gthUnsuspend_keeps {s₀ s : State}  (h : Keeps s₀ s) : Keeps s₀ (State.gthUnsuspend s) := by
  unfold State.gthUnsuspend
  repeat' first
    | with_reducible assumption
    | intro _
    | with_reducible apply State.gFill_keeps
    | with_reducible apply State.gShow_keeps
    | with_reducible apply keeps_foldl
    | with_reducible apply keeps_foldl_fst
    | with_reducible apply keeps_foldl_snd
    | split
    | dsimp -zeta only

theorem State.gDrained_keeps {s₀ s : State} (seq : Nat) (h : Keeps s₀ s) : Keeps s₀ (State.gDrained s seq) := by
  unfold State.gDrained
  repeat' first
    | with_reducible assumption
    | intro _
    | with_reducible apply State.onGth_keeps
    | (fail_if_no_progress (with_reducible apply keeps_mk))
    | dsimp -zeta only

theorem State.gatheringStored_keeps {s₀ s : State}  (h : Keeps s₀ s) : Keeps s₀ (State.gatheringStored s) := by
  unfold State.gatheringStored
  repeat' first
    | with_reducible assumption
    | intro _
    | ((fail_if_no_progress extract_lets +onlyGivenNames x); first | (refine keeps_cut (s₀ := s₀) (t := x) ?_ ?_; (on_goal 1 => (try dsimp -zeta only [x])); on_goal 2 => (intro hx; try clear_value x)) | (refine keeps_cut2 (s₀ := s₀) (t := x) ?_ ?_; (on_goal 1 => (try dsimp -zeta only [x])); on_goal 2 => (intro hx; try clear_value x)) | (try clear_value x))
    | with_reducible apply State.flag_keeps
    | with_reducible apply State.gShow_keeps
    | with_reducible apply State.gDrained_keeps
    | with_reducible apply State.onGth_keeps
    | with_reducible apply State.gEvent_keeps
    | split
    | (fail_if_no_progress (with_reducible apply keeps_mk))
    | dsimp -zeta only

theorem State.storeScanDone_keeps {s₀ s : State}  (h : Keeps s₀ s) : Keeps s₀ (State.storeScanDone s) := by
  unfold State.storeScanDone
  repeat' first
    | with_reducible assumption
    | intro _
    | ((fail_if_no_progress extract_lets +onlyGivenNames x); first | (refine keeps_cut (s₀ := s₀) (t := x) ?_ ?_; (on_goal 1 => (try dsimp -zeta only [x])); on_goal 2 => (intro hx; try clear_value x)) | (refine keeps_cut2 (s₀ := s₀) (t := x) ?_ ?_; (on_goal 1 => (try dsimp -zeta only [x])); on_goal 2 => (intro hx; try clear_value x)) | (try clear_value x))
    | with_reducible apply State.wr_keeps
    | with_reducible apply State.onGth_keeps
    | with_reducible apply State.bump_keeps
    | with_reducible apply State.flag_keeps
    | with_reducible apply State.gEvent_keeps
    | with_reducible apply State.gShow_keeps
    | with_reducible apply keeps_foldl
    | with_reducible apply keeps_foldl_fst
    | with_reducible apply keeps_foldl_snd
    | split
    | (fail_if_no_progress (with_reducible apply keeps_mk))
    | dsimp -zeta only

theorem State.storeCmdEnds_keeps {s₀ s : State} (r : Nat) (h : Keeps s₀ s) : Keeps s₀ (State.storeCmdEnds s r) := by
  unfold State.storeCmdEnds
  repeat' first
    | with_reducible assumption
    | intro _
    | with_reducible apply State.onGth_keeps
    | (fail_if_no_progress (with_reducible apply keeps_mk))
    | dsimp -zeta only

theorem State.hostNext_keeps {s₀ s : State}  (h : Keeps s₀ s) : Keeps s₀ (State.hostNext s) := by
  unfold State.hostNext
  repeat' first
    | with_reducible assumption
    | intro _
    | ((fail_if_no_progress extract_lets +onlyGivenNames x); first | (refine keeps_cut (s₀ := s₀) (t := x) ?_ ?_; (on_goal 1 => (try dsimp -zeta only [x])); on_goal 2 => (intro hx; try clear_value x)) | (refine keeps_cut2 (s₀ := s₀) (t := x) ?_ ?_; (on_goal 1 => (try dsimp -zeta only [x])); on_goal 2 => (intro hx; try clear_value x)) | (try clear_value x))
    | with_reducible apply State.onGth_keeps
    | with_reducible apply keeps_getD
    | split
    | (fail_if_no_progress (with_reducible apply keeps_mk))
    | dsimp -zeta only

theorem State.hostMove_keeps {s₀ s t : State}  (h : Keeps s₀ s) (e : State.hostMove s = some t) : Keeps s₀ t := by
  unfold State.hostMove at e
  dsimp only at e
  repeat' first
    | (cases e; done)
    | (split at e)
    | (cases e)
    | with_reducible assumption
    | intro _
    | ((fail_if_no_progress extract_lets +onlyGivenNames x); first | (refine keeps_cut (s₀ := s₀) (t := x) ?_ ?_; (on_goal 1 => (try dsimp -zeta only [x])); on_goal 2 => (intro hx; try clear_value x)) | (refine keeps_cut2 (s₀ := s₀) (t := x) ?_ ?_; (on_goal 1 => (try dsimp -zeta only [x])); on_goal 2 => (intro hx; try clear_value x)) | (try clear_value x))
    | with_reducible apply State.dramWrite_keeps
    | with_reducible apply State.wr_keeps
    | with_reducible apply State.onGth_keeps
    | with_reducible apply State.storeCmdEnds_keeps
    | with_reducible apply State.gDrained_keeps
    | split
    | (fail_if_no_progress (with_reducible apply keeps_mk))
    | dsimp -zeta only

theorem State.hostDrain_keeps {s₀ s : State} (fuel : Nat) (h : Keeps s₀ s) : Keeps s₀ (State.hostDrain fuel s) := by
  induction fuel generalizing s with
  | zero => exact h
  | succ fuel ih =>
    unfold State.hostDrain
    split
    · exact h
    · extract_lets x
      have hx : Keeps s₀ x := State.hostNext_keeps h
      clear_value x
      split
      · exact hx
      · split
        · rename_i t e
          exact ih (State.hostMove_keeps hx e)
        · exact State.flag_keeps _ hx

theorem State.hostRun_keeps {s₀ s : State}  (h : Keeps s₀ s) : Keeps s₀ (State.hostRun s) := by
  unfold State.hostRun
  repeat' first
    | with_reducible assumption
    | intro _
    | with_reducible apply State.hostDrain_keeps
    | with_reducible apply State.gShow_keeps
    | dsimp -zeta only

theorem State.hostEn_keeps {s₀ s : State} (en : Bool) (h : Keeps s₀ s) : Keeps s₀ (State.hostEn s en) := by
  unfold State.hostEn
  repeat' first
    | with_reducible assumption
    | intro _
    | with_reducible apply State.answer_keeps
    | with_reducible apply State.wrB_keeps
    | with_reducible apply State.hostRun_keeps
    | split
    | dsimp -zeta only

theorem State.deleteUpto_keeps {s₀ s : State}  (h : Keeps s₀ s) : Keeps s₀ (State.deleteUpto s) := by
  unfold State.deleteUpto
  repeat' first
    | with_reducible assumption
    | intro _
    | ((fail_if_no_progress extract_lets +onlyGivenNames x); first | (refine keeps_cut (s₀ := s₀) (t := x) ?_ ?_; (on_goal 1 => (try dsimp -zeta only [x])); on_goal 2 => (intro hx; try clear_value x)) | (refine keeps_cut2 (s₀ := s₀) (t := x) ?_ ?_; (on_goal 1 => (try dsimp -zeta only [x])); on_goal 2 => (intro hx; try clear_value x)) | (try clear_value x))
    | with_reducible apply State.begin_keeps
    | with_reducible apply State.storeCmdEnds_keeps
    | with_reducible apply State.onGth_keeps
    | with_reducible apply State.gEvent_keeps
    | with_reducible apply State.gShow_keeps
    | split
    | (fail_if_no_progress (with_reducible apply keeps_mk))
    | dsimp -zeta only

theorem State.readToHost_keeps {s₀ s : State}  (h : Keeps s₀ s) : Keeps s₀ (State.readToHost s) := by
  unfold State.readToHost
  repeat' first
    | with_reducible assumption
    | intro _
    | ((fail_if_no_progress extract_lets +onlyGivenNames x); first | (refine keeps_cut (s₀ := s₀) (t := x) ?_ ?_; (on_goal 1 => (try dsimp -zeta only [x])); on_goal 2 => (intro hx; try clear_value x)) | (refine keeps_cut2 (s₀ := s₀) (t := x) ?_ ?_; (on_goal 1 => (try dsimp -zeta only [x])); on_goal 2 => (intro hx; try clear_value x)) | (try clear_value x))
    | with_reducible apply State.begin_keeps
    | with_reducible apply State.storeCmdEnds_keeps
    | with_reducible apply State.onGth_keeps
    | with_reducible apply State.hostRun_keeps
    | split
    | (fail_if_no_progress (with_reducible apply keeps_mk))
    | dsimp -zeta only

theorem State.storeCmd_keeps {s₀ s : State} (op : Nat) (h : Keeps s₀ s) : Keeps s₀ (State.storeCmd s op) := by
  unfold State.storeCmd
  repeat' first
    | with_reducible assumption
    | intro _
    | ((fail_if_no_progress extract_lets +onlyGivenNames x); first | (refine keeps_cut (s₀ := s₀) (t := x) ?_ ?_; (on_goal 1 => (try dsimp -zeta only [x])); on_goal 2 => (intro hx; try clear_value x)) | (refine keeps_cut2 (s₀ := s₀) (t := x) ?_ ?_; (on_goal 1 => (try dsimp -zeta only [x])); on_goal 2 => (intro hx; try clear_value x)) | (try clear_value x))
    | with_reducible apply State.wr_keeps
    | with_reducible apply State.answer_keeps
    | with_reducible apply State.deleteUpto_keeps
    | with_reducible apply State.readToHost_keeps
    | split
    | dsimp -zeta only

theorem State.storeCmdDone_keeps {s₀ s : State}  (h : Keeps s₀ s) : Keeps s₀ (State.storeCmdDone s) := by
  unfold State.storeCmdDone
  repeat' first
    | with_reducible assumption
    | intro _
    | with_reducible apply State.onGth_keeps
    | with_reducible apply State.finish_keeps
    | split
    | (fail_if_no_progress (with_reducible apply keeps_mk))
    | dsimp -zeta only

theorem State.nandRead_keeps {s₀ s : State} (uncorrectable : Bool) (h : Keeps s₀ s) : Keeps s₀ (State.nandRead s uncorrectable) := by
  unfold State.nandRead
  repeat' first
    | with_reducible assumption
    | intro _
    | ((fail_if_no_progress extract_lets +onlyGivenNames x); first | (refine keeps_cut (s₀ := s₀) (t := x) ?_ ?_; (on_goal 1 => (try dsimp -zeta only [x])); on_goal 2 => (intro hx; try clear_value x)) | (refine keeps_cut2 (s₀ := s₀) (t := x) ?_ ?_; (on_goal 1 => (try dsimp -zeta only [x])); on_goal 2 => (intro hx; try clear_value x)) | (refine keeps_cutF (s₀ := s₀) (f := x) ?_ ?_; (on_goal 1 => (try dsimp -zeta only [x])); on_goal 2 => (intro hx; try clear_value x)) | (refine keeps_cutF2 (s₀ := s₀) (f := x) ?_ ?_; (on_goal 1 => (try dsimp -zeta only [x])); on_goal 2 => (intro hx; try clear_value x)) | (refine keeps_cutF5 (s₀ := s₀) (f := x) ?_ ?_; (on_goal 1 => (try dsimp -zeta only [x])); on_goal 2 => (intro hx; try clear_value x)) | (refine keeps_cutFP (s₀ := s₀) (f := x) ?_ ?_; (on_goal 1 => (try dsimp -zeta only [x])); on_goal 2 => (intro hx; try clear_value x)) | (try clear_value x))
    | with_reducible apply State.answer_keeps
    | with_reducible apply State.flag_keeps
    | with_reducible apply State.wrK_keeps
    | with_reducible apply keeps_foldl
    | with_reducible apply keeps_foldl_fst
    | with_reducible apply keeps_foldl_snd
    | split
    | dsimp -zeta only
    | with_reducible apply_assumption

theorem State.sequencerForce_keeps {s₀ s : State} (q : Nat) (h : Keeps s₀ s) : Keeps s₀ (State.sequencerForce s q) := by
  unfold State.sequencerForce
  repeat' first
    | with_reducible assumption
    | intro _
    | with_reducible apply State.onGth_keeps
    | split
    | (fail_if_no_progress (with_reducible apply keeps_mk))
    | dsimp -zeta only

theorem State.sequencerReset_keeps {s₀ s : State} (q : Nat) (h : Keeps s₀ s) : Keeps s₀ (State.sequencerReset s q) := by
  unfold State.sequencerReset
  repeat' first
    | with_reducible assumption
    | intro _
    | with_reducible apply State.onGth_keeps
    | split
    | (fail_if_no_progress (with_reducible apply keeps_mk))
    | dsimp -zeta only

end Sys2Proof.Machine
end

