-- ==== Sys2Proof/Laws/KeepsTwnOps.lean ====
section
/-! SUPPORT. The operations of TwnOps have the relation `Keeps`. -/

namespace Sys2Proof.Machine

open Sys2Proof Reg

set_option linter.unusedTactic false
set_option linter.unreachableTactic false

theorem State.twnShow_keeps {s₀ s : State}  (h : Keeps s₀ s) : Keeps s₀ (State.twnShow s) := by
  unfold State.twnShow
  repeat' first
    | with_reducible assumption
    | intro _
    | ((fail_if_no_progress extract_lets +onlyGivenNames x); first | (refine keeps_cut (s₀ := s₀) (t := x) ?_ ?_; (on_goal 1 => (try dsimp -zeta only [x])); on_goal 2 => (intro hx; try clear_value x)) | (refine keeps_cut2 (s₀ := s₀) (t := x) ?_ ?_; (on_goal 1 => (try dsimp -zeta only [x])); on_goal 2 => (intro hx; try clear_value x)) | (try clear_value x))
    | with_reducible apply State.wrB_keeps
    | with_reducible apply State.wr_keeps
    | with_reducible apply keeps_getD
    | dsimp -zeta only

theorem State.twnRole_keeps {s₀ s : State} (new : Nat) (cause : Nat) (h : Keeps s₀ s) : Keeps s₀ (State.twnRole s new cause) := by
  unfold State.twnRole
  repeat' first
    | with_reducible assumption
    | intro _
    | ((fail_if_no_progress extract_lets +onlyGivenNames x); first | (refine keeps_cut (s₀ := s₀) (t := x) ?_ ?_; (on_goal 1 => (try dsimp -zeta only [x])); on_goal 2 => (intro hx; try clear_value x)) | (refine keeps_cut2 (s₀ := s₀) (t := x) ?_ ?_; (on_goal 1 => (try dsimp -zeta only [x])); on_goal 2 => (intro hx; try clear_value x)) | (try clear_value x))
    | with_reducible apply State.wr_keeps
    | with_reducible apply State.event_keeps
    | with_reducible apply State.twnShow_keeps
    | with_reducible apply keeps_getD
    | split
    | dsimp -zeta only

theorem State.ctlFollow_keeps {s₀ s : State}  (h : Keeps s₀ s) : Keeps s₀ (State.ctlFollow s) := by
  unfold State.ctlFollow
  repeat' first
    | with_reducible assumption
    | intro _
    | ((fail_if_no_progress extract_lets +onlyGivenNames x); first | (refine keeps_cut (s₀ := s₀) (t := x) ?_ ?_; (on_goal 1 => (try dsimp -zeta only [x])); on_goal 2 => (intro hx; try clear_value x)) | (refine keeps_cut2 (s₀ := s₀) (t := x) ?_ ?_; (on_goal 1 => (try dsimp -zeta only [x])); on_goal 2 => (intro hx; try clear_value x)) | (try clear_value x))
    | with_reducible apply State.ctlRefresh_keeps
    | with_reducible apply State.pubCtlStart_keeps
    | split
    | dsimp -zeta only

theorem State.flushGated_keeps {s₀ s : State}  (h : Keeps s₀ s) : Keeps s₀ (State.flushGated s) := by
  unfold State.flushGated
  repeat' first
    | with_reducible assumption
    | intro _
    | with_reducible apply State.discard_keeps
    | with_reducible apply State.bump_keeps
    | with_reducible apply keeps_foldl
    | with_reducible apply keeps_foldl_fst
    | with_reducible apply keeps_foldl_snd
    | dsimp -zeta only

theorem State.stopActing_keeps {s₀ s : State}  (h : Keeps s₀ s) : Keeps s₀ (State.stopActing s) := by
  unfold State.stopActing
  repeat' first
    | with_reducible assumption
    | intro _
    | ((fail_if_no_progress extract_lets +onlyGivenNames x); first | (refine keeps_cut (s₀ := s₀) (t := x) ?_ ?_; (on_goal 1 => (try dsimp -zeta only [x])); on_goal 2 => (intro hx; try clear_value x)) | (refine keeps_cut2 (s₀ := s₀) (t := x) ?_ ?_; (on_goal 1 => (try dsimp -zeta only [x])); on_goal 2 => (intro hx; try clear_value x)) | (try clear_value x))
    | with_reducible apply State.onTwn_keeps
    | with_reducible apply State.relinquish_keeps
    | with_reducible apply State.initClaim_keeps
    | with_reducible apply State.wr_keeps
    | with_reducible apply State.flushGated_keeps
    | with_reducible apply State.ctlWithdraw_keeps
    | with_reducible apply State.pubWithdraw_keeps
    | with_reducible apply State.onFlt_keeps
    | with_reducible apply State.dtUpdate_keeps
    | with_reducible apply State.lgeShadow_keeps
    | with_reducible apply State.ctlFollow_keeps
    | with_reducible apply State.takeRingFaults_keeps
    | with_reducible apply State.folRefresh_keeps
    | (fail_if_no_progress (with_reducible apply keeps_mk))
    | dsimp -zeta only

theorem State.withdraw_keeps {s₀ s : State} (cause : Nat) (h : Keeps s₀ s) : Keeps s₀ (State.withdraw s cause) := by
  unfold State.withdraw
  repeat' first
    | with_reducible assumption
    | intro _
    | ((fail_if_no_progress extract_lets +onlyGivenNames x); first | (refine keeps_cut (s₀ := s₀) (t := x) ?_ ?_; (on_goal 1 => (try dsimp -zeta only [x])); on_goal 2 => (intro hx; try clear_value x)) | (refine keeps_cut2 (s₀ := s₀) (t := x) ?_ ?_; (on_goal 1 => (try dsimp -zeta only [x])); on_goal 2 => (intro hx; try clear_value x)) | (try clear_value x))
    | with_reducible apply State.bump_keeps
    | with_reducible apply State.flag_keeps
    | with_reducible apply State.twnRole_keeps
    | with_reducible apply State.stopActing_keeps
    | with_reducible apply State.twnShow_keeps
    | dsimp -zeta only

theorem State.claimFolios_keeps {s₀ s : State} (cold : Bool) (h : Keeps s₀ s) : Keeps s₀ (State.claimFolios s cold) := by
  unfold State.claimFolios
  repeat' first
    | with_reducible assumption
    | intro _
    | ((fail_if_no_progress extract_lets +onlyGivenNames x); first | (refine keeps_cut (s₀ := s₀) (t := x) ?_ ?_; (on_goal 1 => (try dsimp -zeta only [x])); on_goal 2 => (intro hx; try clear_value x)) | (refine keeps_cut2 (s₀ := s₀) (t := x) ?_ ?_; (on_goal 1 => (try dsimp -zeta only [x])); on_goal 2 => (intro hx; try clear_value x)) | (try clear_value x))
    | with_reducible apply State.modFolio_keeps
    | with_reducible apply keeps_foldl
    | with_reducible apply keeps_foldl_fst
    | with_reducible apply keeps_foldl_snd
    | split
    | (fail_if_no_progress (with_reducible apply keeps_mk))
    | dsimp -zeta only
    | with_reducible apply_assumption

theorem State.claim_keeps {s₀ s : State} (cold : Bool) (cause : Nat) (h : Keeps s₀ s) : Keeps s₀ (State.claim s cold cause) := by
  unfold State.claim
  repeat' first
    | with_reducible assumption
    | intro _
    | ((fail_if_no_progress extract_lets +onlyGivenNames x); first | (refine keeps_cut (s₀ := s₀) (t := x) ?_ ?_; (on_goal 1 => (try dsimp -zeta only [x])); on_goal 2 => (intro hx; try clear_value x)) | (refine keeps_cut2 (s₀ := s₀) (t := x) ?_ ?_; (on_goal 1 => (try dsimp -zeta only [x])); on_goal 2 => (intro hx; try clear_value x)) | (try clear_value x))
    | with_reducible apply State.wr_keeps
    | with_reducible apply State.wrB_keeps
    | with_reducible apply State.bump_keeps
    | with_reducible apply State.flag_keeps
    | with_reducible apply State.onTwn_keeps
    | with_reducible apply State.initClaim_keeps
    | with_reducible apply State.twnRole_keeps
    | with_reducible apply State.claimFolios_keeps
    | with_reducible apply State.lgePromote_keeps
    | with_reducible apply State.folRefresh_keeps
    | with_reducible apply State.twnShow_keeps
    | with_reducible apply keeps_foldl
    | with_reducible apply keeps_foldl_fst
    | with_reducible apply keeps_foldl_snd
    | split
    | (fail_if_no_progress (with_reducible apply keeps_mk))
    | dsimp -zeta only

theorem State.promotionComplete_keeps {s₀ s : State}  (h : Keeps s₀ s) : Keeps s₀ (State.promotionComplete s) := by
  unfold State.promotionComplete
  repeat' first
    | with_reducible assumption
    | intro _
    | ((fail_if_no_progress extract_lets +onlyGivenNames x); first | (refine keeps_cut (s₀ := s₀) (t := x) ?_ ?_; (on_goal 1 => (try dsimp -zeta only [x])); on_goal 2 => (intro hx; try clear_value x)) | (refine keeps_cut2 (s₀ := s₀) (t := x) ?_ ?_; (on_goal 1 => (try dsimp -zeta only [x])); on_goal 2 => (intro hx; try clear_value x)) | (try clear_value x))
    | with_reducible apply State.wrSat_keeps
    | with_reducible apply State.onTwn_keeps
    | with_reducible apply State.initClaim_keeps
    | with_reducible apply State.wr_keeps
    | with_reducible apply State.twnRole_keeps
    | with_reducible apply State.ctlFollow_keeps
    | with_reducible apply State.twnShow_keeps
    | split
    | (fail_if_no_progress (with_reducible apply keeps_mk))
    | dsimp -zeta only

theorem peerFailed_cold_keeps {s₀ s : State} (h : Keeps s₀ s) : Keeps s₀ (State.peerFailed.cold s) := by
  unfold State.peerFailed.cold
  dsimp only
  split
  · exact State.claim_keeps _ _ h
  · split
    · exact State.flag_keeps _ h
    · exact State.twnRole_keeps _ _ (State.flag_keeps _ h)

theorem State.peerFailed_keeps {s₀ s : State} (h : Keeps s₀ s) : Keeps s₀ (State.peerFailed s) := by
  unfold State.peerFailed
  extract_lets x y z
  have hz : Keeps s₀ z := State.twnShow_keeps (State.onTwn_keeps _ (State.flag_keeps _ h))
  clear_value z
  split
  · exact h
  · split
    · split
      · exact State.claim_keeps _ _ hz
      · exact peerFailed_cold_keeps hz
    · exact peerFailed_cold_keeps hz
    · exact peerFailed_cold_keeps hz
    · exact peerFailed_cold_keeps hz
    · exact hz

theorem State.peerHolding_keeps {s₀ s : State}  (h : Keeps s₀ s) : Keeps s₀ (State.peerHolding s) := by
  unfold State.peerHolding
  repeat' first
    | with_reducible assumption
    | intro _
    | ((fail_if_no_progress extract_lets +onlyGivenNames x); first | (refine keeps_cut (s₀ := s₀) (t := x) ?_ ?_; (on_goal 1 => (try dsimp -zeta only [x])); on_goal 2 => (intro hx; try clear_value x)) | (refine keeps_cut2 (s₀ := s₀) (t := x) ?_ ?_; (on_goal 1 => (try dsimp -zeta only [x])); on_goal 2 => (intro hx; try clear_value x)) | (try clear_value x))
    | with_reducible apply State.onTwn_keeps
    | with_reducible apply State.twnShow_keeps
    | with_reducible apply State.twnRole_keeps
    | split
    | (fail_if_no_progress (with_reducible apply keeps_mk))
    | dsimp -zeta only

theorem State.peerForcing_keeps {s₀ s : State}  (h : Keeps s₀ s) : Keeps s₀ (State.peerForcing s) := by
  unfold State.peerForcing
  repeat' first
    | with_reducible assumption
    | intro _
    | ((fail_if_no_progress extract_lets +onlyGivenNames x); first | (refine keeps_cut (s₀ := s₀) (t := x) ?_ ?_; (on_goal 1 => (try dsimp -zeta only [x])); on_goal 2 => (intro hx; try clear_value x)) | (refine keeps_cut2 (s₀ := s₀) (t := x) ?_ ?_; (on_goal 1 => (try dsimp -zeta only [x])); on_goal 2 => (intro hx; try clear_value x)) | (try clear_value x))
    | with_reducible apply State.onTwn_keeps
    | with_reducible apply State.twnShow_keeps
    | with_reducible apply State.initClaim_keeps
    | with_reducible apply State.twnRole_keeps
    | with_reducible apply State.stopActing_keeps
    | with_reducible apply State.withdraw_keeps
    | split
    | (fail_if_no_progress (with_reducible apply keeps_mk))
    | dsimp -zeta only

theorem State.peerReleased_keeps {s₀ s : State}  (h : Keeps s₀ s) : Keeps s₀ (State.peerReleased s) := by
  unfold State.peerReleased
  repeat' first
    | with_reducible assumption
    | intro _
    | ((fail_if_no_progress extract_lets +onlyGivenNames x); first | (refine keeps_cut (s₀ := s₀) (t := x) ?_ ?_; (on_goal 1 => (try dsimp -zeta only [x])); on_goal 2 => (intro hx; try clear_value x)) | (refine keeps_cut2 (s₀ := s₀) (t := x) ?_ ?_; (on_goal 1 => (try dsimp -zeta only [x])); on_goal 2 => (intro hx; try clear_value x)) | (try clear_value x))
    | with_reducible apply State.onTwn_keeps
    | with_reducible apply State.twnShow_keeps
    | with_reducible apply State.flag_keeps
    | with_reducible apply State.claim_keeps
    | split
    | (fail_if_no_progress (with_reducible apply keeps_mk))
    | dsimp -zeta only

theorem State.coruskLost_keeps {s₀ s : State}  (h : Keeps s₀ s) : Keeps s₀ (State.coruskLost s) := by
  unfold State.coruskLost
  repeat' first
    | with_reducible assumption
    | intro _
    | ((fail_if_no_progress extract_lets +onlyGivenNames x); first | (refine keeps_cut (s₀ := s₀) (t := x) ?_ ?_; (on_goal 1 => (try dsimp -zeta only [x])); on_goal 2 => (intro hx; try clear_value x)) | (refine keeps_cut2 (s₀ := s₀) (t := x) ?_ ?_; (on_goal 1 => (try dsimp -zeta only [x])); on_goal 2 => (intro hx; try clear_value x)) | (try clear_value x))
    | with_reducible apply State.flag_keeps
    | with_reducible apply State.twnShow_keeps
    | with_reducible apply State.twnRole_keeps
    | split
    | dsimp -zeta only

theorem State.readbackFault_keeps {s₀ s : State}  (h : Keeps s₀ s) : Keeps s₀ (State.readbackFault s) := by
  unfold State.readbackFault
  repeat' first
    | with_reducible assumption
    | intro _
    | ((fail_if_no_progress extract_lets +onlyGivenNames x); first | (refine keeps_cut (s₀ := s₀) (t := x) ?_ ?_; (on_goal 1 => (try dsimp -zeta only [x])); on_goal 2 => (intro hx; try clear_value x)) | (refine keeps_cut2 (s₀ := s₀) (t := x) ?_ ?_; (on_goal 1 => (try dsimp -zeta only [x])); on_goal 2 => (intro hx; try clear_value x)) | (try clear_value x))
    | with_reducible apply State.flag_keeps
    | with_reducible apply State.onTwn_keeps
    | with_reducible apply State.withdraw_keeps
    | split
    | (fail_if_no_progress (with_reducible apply keeps_mk))
    | dsimp -zeta only

theorem State.leaseRenew_keeps {s₀ s : State}  (h : Keeps s₀ s) : Keeps s₀ (State.leaseRenew s) := by
  unfold State.leaseRenew
  repeat' first
    | with_reducible assumption
    | intro _
    | with_reducible apply State.onTwn_keeps
    | split
    | (fail_if_no_progress (with_reducible apply keeps_mk))
    | dsimp -zeta only

theorem State.leaseLapse_keeps {s₀ s : State}  (h : Keeps s₀ s) : Keeps s₀ (State.leaseLapse s) := by
  unfold State.leaseLapse
  repeat' first
    | with_reducible assumption
    | intro _
    | with_reducible apply State.wr_keeps
    | with_reducible apply State.flag_keeps
    | with_reducible apply State.withdraw_keeps
    | split
    | dsimp -zeta only

theorem State.twinEnable_keeps {s₀ s : State} (en : Bool) (h : Keeps s₀ s) : Keeps s₀ (State.twinEnable s en) := by
  unfold State.twinEnable
  repeat' first
    | with_reducible assumption
    | intro _
    | ((fail_if_no_progress extract_lets +onlyGivenNames x); first | (refine keeps_cut (s₀ := s₀) (t := x) ?_ ?_; (on_goal 1 => (try dsimp -zeta only [x])); on_goal 2 => (intro hx; try clear_value x)) | (refine keeps_cut2 (s₀ := s₀) (t := x) ?_ ?_; (on_goal 1 => (try dsimp -zeta only [x])); on_goal 2 => (intro hx; try clear_value x)) | (try clear_value x))
    | with_reducible apply State.wrB_keeps
    | with_reducible apply State.onTwn_keeps
    | with_reducible apply State.wr_keeps
    | with_reducible apply State.twnRole_keeps
    | split
    | (fail_if_no_progress (with_reducible apply keeps_mk))
    | dsimp -zeta only

theorem State.twnReady_keeps {s₀ s : State}  (h : Keeps s₀ s) : Keeps s₀ (State.twnReady s) := by
  unfold State.twnReady
  repeat' first
    | with_reducible assumption
    | intro _
    | (with_reducible refine keeps_snd (by assumption) ?_)
    | with_reducible apply State.fresh_keeps
    | with_reducible apply State.twnRole_keeps
    | with_reducible apply State.ctlFollow_keeps
    | with_reducible apply State.twnShow_keeps
    | split
    | dsimp -zeta only

theorem State.initClaim_keeps {s₀ s : State}  (h : Keeps s₀ s) : Keeps s₀ (State.initClaim s) := by
  unfold State.initClaim
  repeat' first
    | with_reducible assumption
    | intro _
    | ((fail_if_no_progress extract_lets +onlyGivenNames x); first | (refine keeps_cut (s₀ := s₀) (t := x) ?_ ?_; (on_goal 1 => (try dsimp -zeta only [x])); on_goal 2 => (intro hx; try clear_value x)) | (refine keeps_cut2 (s₀ := s₀) (t := x) ?_ ?_; (on_goal 1 => (try dsimp -zeta only [x])); on_goal 2 => (intro hx; try clear_value x)) | (try clear_value x))
    | with_reducible apply State.claim_keeps
    | with_reducible apply keeps_getD
    | split
    | dsimp -zeta only

theorem State.relinquish_keeps {s₀ s : State}  (h : Keeps s₀ s) : Keeps s₀ (State.relinquish s) := by
  unfold State.relinquish
  repeat' first
    | with_reducible assumption
    | intro _
    | with_reducible apply State.onTwn_keeps
    | split
    | (fail_if_no_progress (with_reducible apply keeps_mk))
    | dsimp -zeta only

theorem State.relinquishWithdraw_keeps {s₀ s : State}  (h : Keeps s₀ s) : Keeps s₀ (State.relinquishWithdraw s) := by
  unfold State.relinquishWithdraw
  repeat' first
    | with_reducible assumption
    | intro _
    | with_reducible apply State.relinquish_keeps
    | with_reducible apply State.withdraw_keeps
    | split
    | dsimp -zeta only

theorem State.heartbeatTx_keeps {s₀ s : State}  (h : Keeps s₀ s) : Keeps s₀ (State.heartbeatTx s) := by
  unfold State.heartbeatTx
  repeat' first
    | with_reducible assumption
    | intro _
    | ((fail_if_no_progress extract_lets +onlyGivenNames x); first | (refine keeps_cut (s₀ := s₀) (t := x) ?_ ?_; (on_goal 1 => (try dsimp -zeta only [x])); on_goal 2 => (intro hx; try clear_value x)) | (refine keeps_cut2 (s₀ := s₀) (t := x) ?_ ?_; (on_goal 1 => (try dsimp -zeta only [x])); on_goal 2 => (intro hx; try clear_value x)) | (try clear_value x))
    | with_reducible apply State.onTwn_keeps
    | split
    | (fail_if_no_progress (with_reducible apply keeps_mk))
    | dsimp -zeta only

theorem State.heartbeatRx_keeps {s₀ s : State} (bs : List Byte) (h : Keeps s₀ s) : Keeps s₀ (State.heartbeatRx s bs) := by
  unfold State.heartbeatRx
  repeat' first
    | with_reducible assumption
    | intro _
    | ((fail_if_no_progress extract_lets +onlyGivenNames x); first | (refine keeps_cut (s₀ := s₀) (t := x) ?_ ?_; (on_goal 1 => (try dsimp -zeta only [x])); on_goal 2 => (intro hx; try clear_value x)) | (refine keeps_cut2 (s₀ := s₀) (t := x) ?_ ?_; (on_goal 1 => (try dsimp -zeta only [x])); on_goal 2 => (intro hx; try clear_value x)) | (try clear_value x))
    | with_reducible apply State.bump_keeps
    | with_reducible apply State.onTwn_keeps
    | with_reducible apply State.twnShow_keeps
    | with_reducible apply State.claim_keeps
    | with_reducible apply State.twnRole_keeps
    | split
    | (fail_if_no_progress (with_reducible apply keeps_mk))
    | dsimp -zeta only

theorem State.quireTxDone_keeps {s₀ s : State}  (h : Keeps s₀ s) : Keeps s₀ (State.quireTxDone s) := by
  unfold State.quireTxDone
  repeat' first
    | with_reducible assumption
    | intro _
    | ((fail_if_no_progress extract_lets +onlyGivenNames x); first | (refine keeps_cut (s₀ := s₀) (t := x) ?_ ?_; (on_goal 1 => (try dsimp -zeta only [x])); on_goal 2 => (intro hx; try clear_value x)) | (refine keeps_cut2 (s₀ := s₀) (t := x) ?_ ?_; (on_goal 1 => (try dsimp -zeta only [x])); on_goal 2 => (intro hx; try clear_value x)) | (try clear_value x))
    | with_reducible apply State.onTwn_keeps
    | with_reducible apply State.wr_keeps
    | with_reducible apply State.wrSat_keeps
    | with_reducible apply State.bump_keeps
    | split
    | (fail_if_no_progress (with_reducible apply keeps_mk))
    | dsimp -zeta only

theorem State.quireInstall_keeps {s₀ s : State} (q : QuireRx) (h : Keeps s₀ s) : Keeps s₀ (State.quireInstall s q) := by
  unfold State.quireInstall
  repeat' first
    | with_reducible assumption
    | intro _
    | ((fail_if_no_progress extract_lets +onlyGivenNames x); first | (refine keeps_cut (s₀ := s₀) (t := x) ?_ ?_; (on_goal 1 => (try dsimp -zeta only [x])); on_goal 2 => (intro hx; try clear_value x)) | (refine keeps_cut2 (s₀ := s₀) (t := x) ?_ ?_; (on_goal 1 => (try dsimp -zeta only [x])); on_goal 2 => (intro hx; try clear_value x)) | (try clear_value x))
    | with_reducible apply State.modFolio_keeps
    | with_reducible apply State.lgeInstall_keeps
    | with_reducible apply State.gthImage_keeps
    | with_reducible apply keeps_foldl
    | with_reducible apply keeps_foldl_fst
    | with_reducible apply keeps_foldl_snd
    | split
    | (fail_if_no_progress (with_reducible apply keeps_mk))
    | dsimp -zeta only
    | with_reducible apply_assumption

theorem State.quireRx_keeps {s₀ s : State} (frames : List (List Byte)) (h : Keeps s₀ s) : Keeps s₀ (State.quireRx s frames) := by
  unfold State.quireRx
  repeat' first
    | with_reducible assumption
    | intro _
    | ((fail_if_no_progress extract_lets +onlyGivenNames x); first | (refine keeps_cut (s₀ := s₀) (t := x) ?_ ?_; (on_goal 1 => (try dsimp -zeta only [x])); on_goal 2 => (intro hx; try clear_value x)) | (refine keeps_cut2 (s₀ := s₀) (t := x) ?_ ?_; (on_goal 1 => (try dsimp -zeta only [x])); on_goal 2 => (intro hx; try clear_value x)) | (try clear_value x))
    | with_reducible apply State.bumpBy_keeps
    | with_reducible apply State.quireInstall_keeps
    | with_reducible apply State.onTwn_keeps
    | with_reducible apply State.bump_keeps
    | with_reducible apply State.wr_keeps
    | with_reducible apply State.wrSat_keeps
    | with_reducible apply State.twnRole_keeps
    | with_reducible apply State.flag_keeps
    | split
    | (fail_if_no_progress (with_reducible apply keeps_mk))
    | dsimp -zeta only

theorem State.twnBoundary_keeps {s₀ s : State} (n : Nat) (h : Keeps s₀ s) : Keeps s₀ (State.twnBoundary s n) := by
  unfold State.twnBoundary
  repeat' first
    | with_reducible assumption
    | intro _
    | ((fail_if_no_progress extract_lets +onlyGivenNames x); first | (refine keeps_cut (s₀ := s₀) (t := x) ?_ ?_; (on_goal 1 => (try dsimp -zeta only [x])); on_goal 2 => (intro hx; try clear_value x)) | (refine keeps_cut2 (s₀ := s₀) (t := x) ?_ ?_; (on_goal 1 => (try dsimp -zeta only [x])); on_goal 2 => (intro hx; try clear_value x)) | (try clear_value x))
    | with_reducible apply State.flag_keeps
    | with_reducible apply State.onTwn_keeps
    | with_reducible apply State.wrSat_keeps
    | with_reducible apply State.relinquish_keeps
    | with_reducible apply State.twnRole_keeps
    | split
    | (fail_if_no_progress (with_reducible apply keeps_mk))
    | dsimp -zeta only

theorem State.twnRestart_keeps {s₀ s : State}  (h : Keeps s₀ s) : Keeps s₀ (State.twnRestart s) := by
  unfold State.twnRestart
  repeat' first
    | with_reducible assumption
    | intro _
    | with_reducible apply State.onTwn_keeps
    | (fail_if_no_progress (with_reducible apply keeps_mk))
    | dsimp -zeta only

theorem State.laneDown_keeps {s₀ s : State} (l : Nat) (h : Keeps s₀ s) : Keeps s₀ (State.laneDown s l) := by
  unfold State.laneDown
  repeat' first
    | with_reducible assumption
    | intro _
    | with_reducible apply State.wrBit_keeps
    | with_reducible apply State.bump_keeps
    | with_reducible apply State.flag_keeps
    | split
    | dsimp -zeta only

theorem State.laneRejoin_keeps {s₀ s : State} (l : Nat) (h : Keeps s₀ s) : Keeps s₀ (State.laneRejoin s l) := by
  unfold State.laneRejoin
  repeat' first
    | with_reducible assumption
    | intro _
    | with_reducible apply State.wrBit_keeps
    | split
    | dsimp -zeta only

end Sys2Proof.Machine
end

