-- ==== Sys2Proof/Laws/KeepsBndOps.lean ====
section
/-! SUPPORT. The operations of BndOps have the relation `Keeps`. -/

namespace Sys2Proof.Machine

open Sys2Proof Reg

set_option linter.unusedTactic false
set_option linter.unreachableTactic false

theorem State.setBndSlot_keeps {s₀ s : State} (k : Nat) (x : BndSlot) (h : Keeps s₀ s) : Keeps s₀ (State.setBndSlot s k x) := by
  unfold State.setBndSlot
  repeat' first
    | with_reducible assumption
    | intro _
    | ((fail_if_no_progress extract_lets +onlyGivenNames x); first | (refine keeps_cut (s₀ := s₀) (t := x) ?_ ?_; (on_goal 1 => (try dsimp -zeta only [x])); on_goal 2 => (intro hx; try clear_value x)) | (refine keeps_cut2 (s₀ := s₀) (t := x) ?_ ?_; (on_goal 1 => (try dsimp -zeta only [x])); on_goal 2 => (intro hx; try clear_value x)) | (try clear_value x))
    | with_reducible apply State.onBnd_keeps
    | with_reducible apply State.wrSat_keeps
    | exact Nat.le_refl _
    | split
    | (fail_if_no_progress (with_reducible apply keeps_mk))
    | dsimp -zeta only

theorem State.stageLen_keeps {s₀ s : State} (v : Nat) (h : Keeps s₀ s) : Keeps s₀ (State.stageLen s v) := by
  unfold State.stageLen
  repeat' first
    | with_reducible assumption
    | intro _
    | with_reducible apply State.wr_keeps
    | with_reducible apply State.onBnd_keeps
    | exact Nat.le_refl _
    | (fail_if_no_progress (with_reducible apply keeps_mk))
    | dsimp -zeta only

theorem State.stageWrite_keeps {s₀ s : State} (v : Nat) (h : Keeps s₀ s) : Keeps s₀ (State.stageWrite s v) := by
  unfold State.stageWrite
  repeat' first
    | with_reducible assumption
    | intro _
    | with_reducible apply State.dramWrite_keeps
    | with_reducible apply State.onBnd_keeps
    | exact Nat.le_refl _
    | split
    | (fail_if_no_progress (with_reducible apply keeps_mk))
    | dsimp -zeta only

theorem State.bndSignature_keeps {s₀ s : State} (bs : List Byte) (before : Bool) (h : Keeps s₀ s) : Keeps s₀ (State.bndSignature s bs before).2 := by
  unfold State.bndSignature
  repeat' first
    | with_reducible assumption
    | intro _
    | ((fail_if_no_progress extract_lets +onlyGivenNames x); first | (refine keeps_cut (s₀ := s₀) (t := x) ?_ ?_; (on_goal 1 => (try dsimp -zeta only [x])); on_goal 2 => (intro hx; try clear_value x)) | (refine keeps_cut2 (s₀ := s₀) (t := x) ?_ ?_; (on_goal 1 => (try dsimp -zeta only [x])); on_goal 2 => (intro hx; try clear_value x)) | (try clear_value x))
    | (with_reducible refine keeps_snd (by assumption) ?_)
    | with_reducible apply State.keyUse_keeps
    | with_reducible apply State.bump_keeps
    | split
    | dsimp -zeta only

theorem State.bndFetch_keeps {s₀ s : State} (src : Nat) (fallback : Bool) (h : Keeps s₀ s) : Keeps s₀ (State.bndFetch s src fallback) := by
  unfold State.bndFetch
  repeat' first
    | with_reducible assumption
    | intro _
    | ((fail_if_no_progress extract_lets +onlyGivenNames x); first | (refine keeps_cut (s₀ := s₀) (t := x) ?_ ?_; (on_goal 1 => (try dsimp -zeta only [x])); on_goal 2 => (intro hx; try clear_value x)) | (refine keeps_cut2 (s₀ := s₀) (t := x) ?_ ?_; (on_goal 1 => (try dsimp -zeta only [x])); on_goal 2 => (intro hx; try clear_value x)) | (try clear_value x))
    | with_reducible apply State.onBnd_keeps
    | with_reducible apply State.wr_keeps
    | exact Nat.le_refl _
    | split
    | (fail_if_no_progress (with_reducible apply keeps_mk))
    | dsimp -zeta only

theorem State.bndLoad_keeps {s₀ s : State} (src : Nat) (h : Keeps s₀ s) : Keeps s₀ (State.bndLoad s src) := by
  unfold State.bndLoad
  repeat' first
    | with_reducible assumption
    | intro _
    | with_reducible apply State.bndFetch_keeps
    | with_reducible apply State.onBnd_keeps
    | exact Nat.le_refl _
    | split
    | (fail_if_no_progress (with_reducible apply keeps_mk))
    | dsimp -zeta only

theorem State.bndLoadWaiting_keeps {s₀ s : State}  (h : Keeps s₀ s) : Keeps s₀ (State.bndLoadWaiting s) := by
  unfold State.bndLoadWaiting
  repeat' first
    | with_reducible assumption
    | intro _
    | with_reducible apply State.onBnd_keeps
    | with_reducible apply State.bndLoad_keeps
    | exact Nat.le_refl _
    | split
    | (fail_if_no_progress (with_reducible apply keeps_mk))
    | dsimp -zeta only

theorem State.bndFail_keeps {s₀ s : State} (code : Nat) (idx : Nat) (h : Keeps s₀ s) : Keeps s₀ (State.bndFail s code idx) := by
  unfold State.bndFail
  repeat' first
    | with_reducible assumption
    | intro _
    | ((fail_if_no_progress extract_lets +onlyGivenNames x); first | (refine keeps_cut (s₀ := s₀) (t := x) ?_ ?_; (on_goal 1 => (try dsimp -zeta only [x])); on_goal 2 => (intro hx; try clear_value x)) | (refine keeps_cut2 (s₀ := s₀) (t := x) ?_ ?_; (on_goal 1 => (try dsimp -zeta only [x])); on_goal 2 => (intro hx; try clear_value x)) | (try clear_value x))
    | with_reducible apply State.wr_keeps
    | with_reducible apply State.flag_keeps
    | with_reducible apply State.bndFetch_keeps
    | with_reducible apply State.onBnd_keeps
    | exact Nat.le_refl _
    | split
    | (fail_if_no_progress (with_reducible apply keeps_mk))
    | dsimp -zeta only

theorem State.onLoad_keeps {s₀ s : State} (f : LoadJob → LoadJob) (h : Keeps s₀ s) : Keeps s₀ (State.onLoad s f) := by
  unfold State.onLoad
  repeat' first
    | with_reducible assumption
    | intro _
    | with_reducible apply State.onBnd_keeps
    | exact Nat.le_refl _
    | (fail_if_no_progress (with_reducible apply keeps_mk))
    | dsimp -zeta only

theorem State.bndFetched_keeps {s₀ s : State} (readError : Bool) (h : Keeps s₀ s) : Keeps s₀ (State.bndFetched s readError) := by
  unfold State.bndFetched
  repeat' first
    | with_reducible assumption
    | intro _
    | with_reducible apply State.bndFail_keeps
    | with_reducible apply State.flag_keeps
    | with_reducible apply State.wr_keeps
    | with_reducible apply State.onLoad_keeps
    | split
    | (fail_if_no_progress (with_reducible apply keeps_mk))
    | dsimp -zeta only
    | with_reducible apply_assumption

theorem State.fillRegs_keeps {s₀ s : State} (c : Sec) (b : SecBody) (h : Keeps s₀ s) : Keeps s₀ (State.fillRegs s c b) := by
  unfold State.fillRegs
  repeat' first
    | with_reducible assumption
    | intro _
    | with_reducible apply State.wrAt_keeps
    | with_reducible apply keeps_foldl
    | with_reducible apply keeps_foldl_fst
    | with_reducible apply keeps_foldl_snd
    | dsimp -zeta only

theorem State.fillTabs_keeps {s₀ s : State} (c : Sec) (b : SecBody) (h : Keeps s₀ s) : Keeps s₀ (State.fillTabs s c b) := by
  unfold State.fillTabs
  repeat' first
    | with_reducible assumption
    | intro _
    | with_reducible apply State.onTab_keeps
    | with_reducible apply keeps_foldl
    | with_reducible apply keeps_foldl_fst
    | with_reducible apply keeps_foldl_snd
    | (fail_if_no_progress (with_reducible apply keeps_mk))
    | dsimp -zeta only
    | with_reducible apply_assumption

theorem State.timeDefaults_keeps {s₀ s : State}  (h : Keeps s₀ s) : Keeps s₀ (State.timeDefaults s) := by
  unfold State.timeDefaults
  repeat' first
    | with_reducible assumption
    | intro _
    | with_reducible apply State.wr_keeps
    | dsimp -zeta only

theorem State.applySec_keeps {s₀ s : State} (bs : List Byte) (c : Sec) (h : Keeps s₀ s) : Keeps s₀ (State.applySec s bs c).2 := by
  unfold State.applySec
  repeat' first
    | with_reducible assumption
    | intro _
    | ((fail_if_no_progress extract_lets +onlyGivenNames x); first | (refine keeps_cut (s₀ := s₀) (t := x) ?_ ?_; (on_goal 1 => (try dsimp -zeta only [x])); on_goal 2 => (intro hx; try clear_value x)) | (refine keeps_cut2 (s₀ := s₀) (t := x) ?_ ?_; (on_goal 1 => (try dsimp -zeta only [x])); on_goal 2 => (intro hx; try clear_value x)) | (try clear_value x))
    | with_reducible apply State.timeDefaults_keeps
    | with_reducible apply State.fillTabs_keeps
    | with_reducible apply State.fillRegs_keeps
    | with_reducible apply State.onLge_keeps
    | with_reducible apply State.wr_keeps
    | with_reducible apply State.keypApply_keeps
    | split
    | (fail_if_no_progress (with_reducible apply keeps_mk))
    | dsimp -zeta only

theorem State.applySecs_keeps {s₀ s : State} (bs : List Byte) (l : List Sec) (h : Keeps s₀ s) : Keeps s₀ (State.applySecs s bs l).2 := by
  induction l generalizing s with
  | nil => exact h
  | cons c l ih =>
    unfold State.applySecs
    have hx : Keeps s₀ (s.applySec bs c).2 := State.applySec_keeps bs c h
    split
    · rename_i e
      exact keeps_snd e hx
    · rename_i e
      exact ih (keeps_snd e hx)

theorem State.applyEpap_keeps {s₀ s : State} (bs : List Byte) (h : Keeps s₀ s) : Keeps s₀ (State.applyEpap s bs).2 := by
  unfold State.applyEpap
  repeat' first
    | with_reducible assumption
    | intro _
    | ((fail_if_no_progress extract_lets +onlyGivenNames x); first | (refine keeps_cut (s₀ := s₀) (t := x) ?_ ?_; (on_goal 1 => (try dsimp -zeta only [x])); on_goal 2 => (intro hx; try clear_value x)) | (refine keeps_cut2 (s₀ := s₀) (t := x) ?_ ?_; (on_goal 1 => (try dsimp -zeta only [x])); on_goal 2 => (intro hx; try clear_value x)) | (try clear_value x))
    | with_reducible apply State.fillRegs_keeps
    | with_reducible apply State.wr_keeps
    | split
    | dsimp -zeta only

theorem State.bndSigned_keeps {s₀ s : State} (h : Keeps s₀ s) : Keeps s₀ (State.bndSigned s) := by
  unfold State.bndSigned
  split
  · exact h
  · rename_i j _
    split
    · exact h
    · split
      · exact State.bndFail_keeps _ _ h
      · have h1 : Keeps s₀ (s.bndSignature j.bytes j.keyOk).2 := State.bndSignature_keeps _ _ h
        split
        · rename_i e
          have h2 := keeps_snd e h1
          split
          · exact State.bndFail_keeps _ _ h2
          · rename_i s1 _
            have h3 : Keeps s₀ (s1.applyEpap j.bytes).2 := State.applyEpap_keeps _ h2
            split
            · rename_i e3
              exact State.bndFail_keeps _ _ (keeps_snd e3 h3)
            · rename_i s2 e3
              extract_lets x
              have hx : Keeps s₀ x := keeps_tables (keeps_snd e3 h3) rfl rfl rfl rfl rfl (.inr rfl) rfl rfl
              clear_value x
              have h4 : Keeps s₀ (x.applySecs j.bytes (sections.drop 1)).2 := State.applySecs_keeps _ _ hx
              split
              · rename_i e4
                exact State.bndFail_keeps _ _ (keeps_snd e4 h4)
              · rename_i e4
                exact State.wr_keeps _ _ (keeps_snd e4 h4)
        · rename_i e
          exact State.bndFail_keeps _ _ (keeps_snd e h1)

theorem State.verifyTip_keeps {s₀ s : State} (bs : List Byte) (base : List Byte) (keyBefore : Bool) (staging : Bool) (h : Keeps s₀ s) : Keeps s₀ (State.verifyTip s bs base keyBefore staging).2 := by
  unfold State.verifyTip
  repeat' first
    | with_reducible assumption
    | intro _
    | (with_reducible refine keeps_snd (by assumption) ?_)
    | with_reducible apply State.bndSignature_keeps
    | split
    | dsimp -zeta only

theorem State.bndJournal_keeps {s₀ s : State}  (h : Keeps s₀ s) : Keeps s₀ (State.bndJournal s) := by
  unfold State.bndJournal
  repeat' first
    | with_reducible assumption
    | intro _
    | ((fail_if_no_progress extract_lets +onlyGivenNames x); first | (refine keeps_cut (s₀ := s₀) (t := x) ?_ ?_; (on_goal 1 => (try dsimp -zeta only [x])); on_goal 2 => (intro hx; try clear_value x)) | (refine keeps_cut2 (s₀ := s₀) (t := x) ?_ ?_; (on_goal 1 => (try dsimp -zeta only [x])); on_goal 2 => (intro hx; try clear_value x)) | (refine keeps_cutF (s₀ := s₀) (f := x) ?_ ?_; (on_goal 1 => (try dsimp -zeta only [x])); on_goal 2 => (intro hx; try clear_value x)) | (refine keeps_cutF2 (s₀ := s₀) (f := x) ?_ ?_; (on_goal 1 => (try dsimp -zeta only [x])); on_goal 2 => (intro hx; try clear_value x)) | (refine keeps_cutF5 (s₀ := s₀) (f := x) ?_ ?_; (on_goal 1 => (try dsimp -zeta only [x])); on_goal 2 => (intro hx; try clear_value x)) | (refine keeps_cutFP (s₀ := s₀) (f := x) ?_ ?_; (on_goal 1 => (try dsimp -zeta only [x])); on_goal 2 => (intro hx; try clear_value x)) | (try clear_value x))
    | (with_reducible refine keeps_snd (by assumption) ?_)
    | with_reducible apply State.flag_keeps
    | with_reducible apply State.wr_keeps
    | with_reducible apply State.verifyTip_keeps
    | with_reducible apply State.fillTabs_keeps
    | with_reducible apply State.fillRegs_keeps
    | with_reducible apply State.onLge_keeps
    | with_reducible apply State.onBnd_keeps
    | with_reducible apply State.onLoad_keeps
    | exact Nat.le_refl _
    | with_reducible apply keeps_foldl
    | with_reducible apply keeps_foldl_fst
    | with_reducible apply keeps_foldl_snd
    | split
    | (fail_if_no_progress (with_reducible apply keeps_mk))
    | dsimp -zeta only
    | with_reducible apply_assumption

theorem State.cadenceStart_keeps {s₀ s : State}  (h : Keeps s₀ s) : Keeps s₀ (State.cadenceStart s) := by
  unfold State.cadenceStart
  repeat' first
    | with_reducible assumption
    | intro _
    | with_reducible apply State.wr_keeps
    | dsimp -zeta only

theorem State.wdogStart_keeps {s₀ s : State}  (h : Keeps s₀ s) : Keeps s₀ (State.wdogStart s) := by
  unfold State.wdogStart
  repeat' first
    | with_reducible assumption
    | intro _
    | with_reducible apply State.onSys_keeps
    | with_reducible apply State.wdogReload_keeps
    | split
    | (fail_if_no_progress (with_reducible apply keeps_mk))
    | dsimp -zeta only

theorem State.bndReady_keeps {s₀ s : State} (j : LoadJob) (h : Keeps s₀ s) : Keeps s₀ (State.bndReady s j) := by
  unfold State.bndReady
  repeat' first
    | with_reducible assumption
    | intro _
    | ((fail_if_no_progress extract_lets +onlyGivenNames x); first | (refine keeps_cut (s₀ := s₀) (t := x) ?_ ?_; (on_goal 1 => (try dsimp -zeta only [x])); on_goal 2 => (intro hx; try clear_value x)) | (refine keeps_cut2 (s₀ := s₀) (t := x) ?_ ?_; (on_goal 1 => (try dsimp -zeta only [x])); on_goal 2 => (intro hx; try clear_value x)) | (try clear_value x))
    | with_reducible apply State.wr_keeps
    | with_reducible apply State.onBnd_keeps
    | with_reducible apply State.wrK_keeps
    | with_reducible apply State.onKey_keeps
    | with_reducible apply State.cadenceStart_keeps
    | with_reducible apply State.sviReady_keeps
    | with_reducible apply State.fltReady_keeps
    | with_reducible apply State.folReady_keeps
    | with_reducible apply State.lgeReady_keeps
    | with_reducible apply State.gthReady_keeps
    | with_reducible apply State.gthImage_keeps
    | with_reducible apply State.ctlRefresh_keeps
    | with_reducible apply State.twnReady_keeps
    | with_reducible apply State.wdogStart_keeps
    | with_reducible apply State.supReady_keeps
    | with_reducible apply State.macReady_keeps
    | exact Nat.le_refl _
    | with_reducible apply keeps_foldl
    | with_reducible apply keeps_foldl_fst
    | with_reducible apply keeps_foldl_snd
    | (fail_if_no_progress (with_reducible apply keeps_mk))
    | dsimp -zeta only

theorem State.bndChecked_keeps {s₀ s : State}  (h : Keeps s₀ s) : Keeps s₀ (State.bndChecked s) := by
  unfold State.bndChecked
  repeat' first
    | with_reducible assumption
    | intro _
    | with_reducible apply State.bndFail_keeps
    | with_reducible apply State.bndReady_keeps
    | split
    | dsimp -zeta only

theorem State.floorSet_keeps {s₀ s : State} (v : Nat) (h : Keeps s₀ s) : Keeps s₀ (State.floorSet s v) := by
  unfold State.floorSet
  split
  · rename_i hv
    exact State.wr_keeps _ _ (h.trans ⟨rfl, rfl, Nat.le_refl _, hv.1, Nat.le_refl _, fun w => ⟨w.regs, w.dram, w.tables⟩⟩)
  · exact State.flag_keeps _ h

theorem State.onTip_keeps {s₀ s : State} (f : TipJob → TipJob) (h : Keeps s₀ s) : Keeps s₀ (State.onTip s f) := by
  unfold State.onTip
  repeat' first
    | with_reducible assumption
    | intro _
    | with_reducible apply State.onBnd_keeps
    | exact Nat.le_refl _
    | (fail_if_no_progress (with_reducible apply keeps_mk))
    | dsimp -zeta only

theorem State.tipBusy_keeps {s₀ s : State}  (h : Keeps s₀ s) : Keeps s₀ (State.tipBusy s) := by
  unfold State.tipBusy
  repeat' first
    | with_reducible assumption
    | intro _
    | with_reducible apply State.wr_keeps
    | dsimp -zeta only

theorem State.clearShadows_keeps {s₀ s : State} (h : Keeps s₀ s) : Keeps s₀ (State.clearShadows s) := by
  unfold State.clearShadows
  dsimp only
  refine State.onLge_keeps _ (keeps_tables h ?_ ?_ ?_ ?_ ?_ (.inl ?_) ?_ ?_) <;> try rfl
  exact map_ids _ _ (fun _ => rfl)

theorem State.releaseRetired_keeps {s₀ s : State} (h : Keeps s₀ s) : Keeps s₀ (State.releaseRetired s) := by
  unfold State.releaseRetired
  dsimp only
  refine State.onLge_keeps _ (keeps_tables h ?_ ?_ ?_ ?_ ?_ (.inl ?_) ?_ ?_) <;> try rfl
  exact map_ids _ _ (fun _ => rfl)

theorem State.tipIdle_keeps {s₀ s : State}  (h : Keeps s₀ s) : Keeps s₀ (State.tipIdle s) := by
  unfold State.tipIdle
  repeat' first
    | with_reducible assumption
    | intro _
    | with_reducible apply State.wr_keeps
    | with_reducible apply State.onBnd_keeps
    | exact Nat.le_refl _
    | (fail_if_no_progress (with_reducible apply keeps_mk))
    | dsimp -zeta only

theorem State.tipFail_keeps {s₀ s : State} (code : Nat) (h : Keeps s₀ s) : Keeps s₀ (State.tipFail s code) := by
  unfold State.tipFail
  repeat' first
    | with_reducible assumption
    | intro _
    | with_reducible apply State.wr_keeps
    | with_reducible apply State.flag_keeps
    | with_reducible apply State.clearShadows_keeps
    | with_reducible apply State.tipIdle_keeps
    | with_reducible apply State.folRefresh_keeps
    | dsimp -zeta only

theorem State.tipEvent_keeps {s₀ s : State} (kind : Nat) (seq : Nat) (cycle : Nat) (h : Keeps s₀ s) : Keeps s₀ (State.tipEvent s kind seq cycle) := by
  unfold State.tipEvent
  repeat' first
    | with_reducible assumption
    | intro _
    | with_reducible apply State.event_keeps
    | dsimp -zeta only

theorem State.tipStage_keeps {s₀ s : State}  (h : Keeps s₀ s) : Keeps s₀ (State.tipStage s) := by
  unfold State.tipStage
  repeat' first
    | with_reducible assumption
    | intro _
    | ((fail_if_no_progress extract_lets +onlyGivenNames x); first | (refine keeps_cut (s₀ := s₀) (t := x) ?_ ?_; (on_goal 1 => (try dsimp -zeta only [x])); on_goal 2 => (intro hx; try clear_value x)) | (refine keeps_cut2 (s₀ := s₀) (t := x) ?_ ?_; (on_goal 1 => (try dsimp -zeta only [x])); on_goal 2 => (intro hx; try clear_value x)) | (try clear_value x))
    | with_reducible apply State.tipBusy_keeps
    | with_reducible apply State.onBnd_keeps
    | with_reducible apply State.wr_keeps
    | exact Nat.le_refl _
    | split
    | (fail_if_no_progress (with_reducible apply keeps_mk))
    | dsimp -zeta only

theorem State.fillShadows_keeps {s₀ s : State} (bs : List Byte) (tb : TipBody) (h : Keeps s₀ s) : Keeps s₀ (State.fillShadows s bs tb) := by
  unfold State.fillShadows
  repeat' first
    | with_reducible assumption
    | intro _
    | ((fail_if_no_progress extract_lets +onlyGivenNames x); first | (refine keeps_cut (s₀ := s₀) (t := x) ?_ ?_; (on_goal 1 => (try dsimp -zeta only [x])); on_goal 2 => (intro hx; try clear_value x)) | (refine keeps_cut2 (s₀ := s₀) (t := x) ?_ ?_; (on_goal 1 => (try dsimp -zeta only [x])); on_goal 2 => (intro hx; try clear_value x)) | (try clear_value x))
    | with_reducible apply State.onTab_keeps
    | with_reducible apply State.onLge_keeps
    | with_reducible apply keeps_foldl
    | with_reducible apply keeps_foldl_fst
    | with_reducible apply keeps_foldl_snd
    | split
    | (fail_if_no_progress (with_reducible apply keeps_mk))
    | dsimp -zeta only
    | with_reducible apply_assumption

theorem State.tipVerified_keeps {s₀ s : State}  (h : Keeps s₀ s) : Keeps s₀ (State.tipVerified s) := by
  unfold State.tipVerified
  repeat' first
    | with_reducible assumption
    | intro _
    | ((fail_if_no_progress extract_lets +onlyGivenNames x); first | (refine keeps_cut (s₀ := s₀) (t := x) ?_ ?_; (on_goal 1 => (try dsimp -zeta only [x])); on_goal 2 => (intro hx; try clear_value x)) | (refine keeps_cut2 (s₀ := s₀) (t := x) ?_ ?_; (on_goal 1 => (try dsimp -zeta only [x])); on_goal 2 => (intro hx; try clear_value x)) | (try clear_value x))
    | (with_reducible refine keeps_snd (by assumption) ?_)
    | with_reducible apply State.verifyTip_keeps
    | with_reducible apply State.tipFail_keeps
    | with_reducible apply State.fillShadows_keeps
    | with_reducible apply State.onTip_keeps
    | with_reducible apply State.wr_keeps
    | split
    | (fail_if_no_progress (with_reducible apply keeps_mk))
    | dsimp -zeta only
    | with_reducible apply_assumption

theorem State.tipArm_keeps {s₀ s : State}  (h : Keeps s₀ s) : Keeps s₀ (State.tipArm s) := by
  unfold State.tipArm
  repeat' first
    | with_reducible assumption
    | intro _
    | ((fail_if_no_progress extract_lets +onlyGivenNames x); first | (refine keeps_cut (s₀ := s₀) (t := x) ?_ ?_; (on_goal 1 => (try dsimp -zeta only [x])); on_goal 2 => (intro hx; try clear_value x)) | (refine keeps_cut2 (s₀ := s₀) (t := x) ?_ ?_; (on_goal 1 => (try dsimp -zeta only [x])); on_goal 2 => (intro hx; try clear_value x)) | (try clear_value x))
    | with_reducible apply State.tipBusy_keeps
    | with_reducible apply State.wr_keeps
    | with_reducible apply State.flag_keeps
    | with_reducible apply State.onTip_keeps
    | with_reducible apply State.folRefresh_keeps
    | split
    | (fail_if_no_progress (with_reducible apply keeps_mk))
    | dsimp -zeta only
    | with_reducible apply_assumption

theorem State.tipConfirmed_keeps {s₀ s : State}  (h : Keeps s₀ s) : Keeps s₀ (State.tipConfirmed s) := by
  unfold State.tipConfirmed
  repeat' first
    | with_reducible assumption
    | intro _
    | ((fail_if_no_progress extract_lets +onlyGivenNames x); first | (refine keeps_cut (s₀ := s₀) (t := x) ?_ ?_; (on_goal 1 => (try dsimp -zeta only [x])); on_goal 2 => (intro hx; try clear_value x)) | (refine keeps_cut2 (s₀ := s₀) (t := x) ?_ ?_; (on_goal 1 => (try dsimp -zeta only [x])); on_goal 2 => (intro hx; try clear_value x)) | (try clear_value x))
    | with_reducible apply State.wr_keeps
    | with_reducible apply State.onBnd_keeps
    | with_reducible apply State.releaseRetired_keeps
    | with_reducible apply State.tipEvent_keeps
    | with_reducible apply State.tipIdle_keeps
    | exact Nat.le_refl _
    | split
    | (fail_if_no_progress (with_reducible apply keeps_mk))
    | dsimp -zeta only

theorem State.tipConfirm_keeps {s₀ s : State}  (h : Keeps s₀ s) : Keeps s₀ (State.tipConfirm s) := by
  unfold State.tipConfirm
  repeat' first
    | with_reducible assumption
    | intro _
    | ((fail_if_no_progress extract_lets +onlyGivenNames x); first | (refine keeps_cut (s₀ := s₀) (t := x) ?_ ?_; (on_goal 1 => (try dsimp -zeta only [x])); on_goal 2 => (intro hx; try clear_value x)) | (refine keeps_cut2 (s₀ := s₀) (t := x) ?_ ?_; (on_goal 1 => (try dsimp -zeta only [x])); on_goal 2 => (intro hx; try clear_value x)) | (try clear_value x))
    | with_reducible apply State.tipBusy_keeps
    | with_reducible apply State.tipConfirmed_keeps
    | with_reducible apply State.setBndSlot_keeps
    | with_reducible apply State.onBnd_keeps
    | exact Nat.le_refl _
    | split
    | (fail_if_no_progress (with_reducible apply keeps_mk))
    | dsimp -zeta only

theorem State.journalAppended_keeps {s₀ s : State}  (h : Keeps s₀ s) : Keeps s₀ (State.journalAppended s) := by
  unfold State.journalAppended
  repeat' first
    | with_reducible assumption
    | intro _
    | ((fail_if_no_progress extract_lets +onlyGivenNames x); first | (refine keeps_cut (s₀ := s₀) (t := x) ?_ ?_; (on_goal 1 => (try dsimp -zeta only [x])); on_goal 2 => (intro hx; try clear_value x)) | (refine keeps_cut2 (s₀ := s₀) (t := x) ?_ ?_; (on_goal 1 => (try dsimp -zeta only [x])); on_goal 2 => (intro hx; try clear_value x)) | (try clear_value x))
    | with_reducible apply State.setBndSlot_keeps
    | with_reducible apply State.onBnd_keeps
    | with_reducible apply State.tipConfirmed_keeps
    | exact Nat.le_refl _
    | split
    | (fail_if_no_progress (with_reducible apply keeps_mk))
    | dsimp -zeta only

theorem State.tipReverting_keeps {s₀ s : State}  (h : Keeps s₀ s) : Keeps s₀ (State.tipReverting s) := by
  unfold State.tipReverting
  repeat' first
    | with_reducible assumption
    | intro _
    | with_reducible apply State.onTip_keeps
    | with_reducible apply State.wr_keeps
    | with_reducible apply State.folRefresh_keeps
    | (fail_if_no_progress (with_reducible apply keeps_mk))
    | dsimp -zeta only
    | with_reducible apply_assumption

theorem State.tipRevert_keeps {s₀ s : State}  (h : Keeps s₀ s) : Keeps s₀ (State.tipRevert s) := by
  unfold State.tipRevert
  repeat' first
    | with_reducible assumption
    | intro _
    | ((fail_if_no_progress extract_lets +onlyGivenNames x); first | (refine keeps_cut (s₀ := s₀) (t := x) ?_ ?_; (on_goal 1 => (try dsimp -zeta only [x])); on_goal 2 => (intro hx; try clear_value x)) | (refine keeps_cut2 (s₀ := s₀) (t := x) ?_ ?_; (on_goal 1 => (try dsimp -zeta only [x])); on_goal 2 => (intro hx; try clear_value x)) | (try clear_value x))
    | with_reducible apply State.tipBusy_keeps
    | with_reducible apply State.tipReverting_keeps
    | with_reducible apply State.onTwn_keeps
    | split
    | (fail_if_no_progress (with_reducible apply keeps_mk))
    | dsimp -zeta only

theorem State.tipDiscard_keeps {s₀ s : State}  (h : Keeps s₀ s) : Keeps s₀ (State.tipDiscard s) := by
  unfold State.tipDiscard
  repeat' first
    | with_reducible assumption
    | intro _
    | with_reducible apply State.tipFail_keeps
    | with_reducible apply State.tipBusy_keeps
    | split
    | dsimp -zeta only

theorem State.revertTimeout_keeps {s₀ s : State}  (h : Keeps s₀ s) : Keeps s₀ (State.revertTimeout s) := by
  unfold State.revertTimeout
  repeat' first
    | with_reducible assumption
    | intro _
    | ((fail_if_no_progress extract_lets +onlyGivenNames x); first | (refine keeps_cut (s₀ := s₀) (t := x) ?_ ?_; (on_goal 1 => (try dsimp -zeta only [x])); on_goal 2 => (intro hx; try clear_value x)) | (refine keeps_cut2 (s₀ := s₀) (t := x) ?_ ?_; (on_goal 1 => (try dsimp -zeta only [x])); on_goal 2 => (intro hx; try clear_value x)) | (try clear_value x))
    | with_reducible apply State.tipReverting_keeps
    | with_reducible apply State.onTwn_keeps
    | split
    | (fail_if_no_progress (with_reducible apply keeps_mk))
    | dsimp -zeta only

theorem State.tipDefer_keeps {s₀ s : State} (n : Nat) (code : Nat) (h : Keeps s₀ s) : Keeps s₀ (State.tipDefer s n code) := by
  unfold State.tipDefer
  repeat' first
    | with_reducible assumption
    | intro _
    | ((fail_if_no_progress extract_lets +onlyGivenNames x); first | (refine keeps_cut (s₀ := s₀) (t := x) ?_ ?_; (on_goal 1 => (try dsimp -zeta only [x])); on_goal 2 => (intro hx; try clear_value x)) | (refine keeps_cut2 (s₀ := s₀) (t := x) ?_ ?_; (on_goal 1 => (try dsimp -zeta only [x])); on_goal 2 => (intro hx; try clear_value x)) | (try clear_value x))
    | with_reducible apply State.wr_keeps
    | with_reducible apply State.flag_keeps
    | with_reducible apply State.onTip_keeps
    | with_reducible apply State.tipFail_keeps
    | with_reducible apply State.folRefresh_keeps
    | split
    | (fail_if_no_progress (with_reducible apply keeps_mk))
    | dsimp -zeta only
    | with_reducible apply_assumption

theorem State.tipCheck_keeps {s₀ s : State} (n : Nat) (h : Keeps s₀ s) : Keeps s₀ (State.tipCheck s n) := by
  unfold State.tipCheck
  repeat' first
    | with_reducible assumption
    | intro _
    | ((fail_if_no_progress extract_lets +onlyGivenNames x); first | (refine keeps_cut (s₀ := s₀) (t := x) ?_ ?_; (on_goal 1 => (try dsimp -zeta only [x])); on_goal 2 => (intro hx; try clear_value x)) | (refine keeps_cut2 (s₀ := s₀) (t := x) ?_ ?_; (on_goal 1 => (try dsimp -zeta only [x])); on_goal 2 => (intro hx; try clear_value x)) | (try clear_value x))
    | with_reducible apply State.onTwn_keeps
    | with_reducible apply State.onTip_keeps
    | with_reducible apply State.tipDefer_keeps
    | split
    | (fail_if_no_progress (with_reducible apply keeps_mk))
    | dsimp -zeta only
    | with_reducible apply_assumption

theorem State.commitCheck_keeps {s₀ s : State}  (h : Keeps s₀ s) : Keeps s₀ (State.commitCheck s) := by
  unfold State.commitCheck
  repeat' first
    | with_reducible assumption
    | intro _
    | with_reducible apply State.tipCheck_keeps
    | split
    | dsimp -zeta only

theorem State.tipFlip_keeps {s₀ s : State} (t : TipJob) (n : Nat) (revert : Bool) (h : Keeps s₀ s) : Keeps s₀ (State.tipFlip s t n revert) := by
  unfold State.tipFlip
  repeat' first
    | with_reducible assumption
    | intro _
    | ((fail_if_no_progress extract_lets +onlyGivenNames x); first | (refine keeps_cut (s₀ := s₀) (t := x) ?_ ?_; (on_goal 1 => (try dsimp -zeta only [x])); on_goal 2 => (intro hx; try clear_value x)) | (refine keeps_cut2 (s₀ := s₀) (t := x) ?_ ?_; (on_goal 1 => (try dsimp -zeta only [x])); on_goal 2 => (intro hx; try clear_value x)) | (refine keeps_cutF (s₀ := s₀) (f := x) ?_ ?_; (on_goal 1 => (try dsimp -zeta only [x])); on_goal 2 => (intro hx; try clear_value x)) | (refine keeps_cutF2 (s₀ := s₀) (f := x) ?_ ?_; (on_goal 1 => (try dsimp -zeta only [x])); on_goal 2 => (intro hx; try clear_value x)) | (refine keeps_cutF5 (s₀ := s₀) (f := x) ?_ ?_; (on_goal 1 => (try dsimp -zeta only [x])); on_goal 2 => (intro hx; try clear_value x)) | (refine keeps_cutFP (s₀ := s₀) (f := x) ?_ ?_; (on_goal 1 => (try dsimp -zeta only [x])); on_goal 2 => (intro hx; try clear_value x)) | (try clear_value x))
    | with_reducible apply State.onBnd_keeps
    | with_reducible apply State.wr_keeps
    | with_reducible apply State.revertTab_keeps
    | with_reducible apply State.flipTab_keeps
    | with_reducible apply State.subsFlip_keeps
    | with_reducible apply State.fltFlip_keeps
    | with_reducible apply State.pubFlip_keeps
    | with_reducible apply State.gthFlip_keeps
    | with_reducible apply State.lgeFlipRequest_keeps
    | with_reducible apply State.gthImage_keeps
    | with_reducible apply State.tipEvent_keeps
    | with_reducible apply State.tipIdle_keeps
    | with_reducible apply State.flag_keeps
    | with_reducible apply State.folRefresh_keeps
    | with_reducible apply State.onTip_keeps
    | exact Nat.le_refl _
    | with_reducible apply keeps_foldl
    | with_reducible apply keeps_foldl_fst
    | with_reducible apply keeps_foldl_snd
    | with_reducible apply keeps_getD
    | split
    | (fail_if_no_progress (with_reducible apply keeps_mk))
    | dsimp -zeta only
    | with_reducible apply_assumption

theorem State.tipBoundary_keeps {s₀ s : State} (n : Nat) (h : Keeps s₀ s) : Keeps s₀ (State.tipBoundary s n) := by
  unfold State.tipBoundary
  repeat' first
    | with_reducible assumption
    | intro _
    | ((fail_if_no_progress extract_lets +onlyGivenNames x); first | (refine keeps_cut (s₀ := s₀) (t := x) ?_ ?_; (on_goal 1 => (try dsimp -zeta only [x])); on_goal 2 => (intro hx; try clear_value x)) | (refine keeps_cut2 (s₀ := s₀) (t := x) ?_ ?_; (on_goal 1 => (try dsimp -zeta only [x])); on_goal 2 => (intro hx; try clear_value x)) | (try clear_value x))
    | with_reducible apply State.tipFlip_keeps
    | with_reducible apply State.tipDefer_keeps
    | with_reducible apply State.tipCheck_keeps
    | with_reducible apply State.onTwn_keeps
    | with_reducible apply keeps_getD
    | split
    | (fail_if_no_progress (with_reducible apply keeps_mk))
    | dsimp -zeta only

theorem State.storeFail_keeps {s₀ s : State} (code : Nat) (h : Keeps s₀ s) : Keeps s₀ (State.storeFail s code) := by
  unfold State.storeFail
  repeat' first
    | with_reducible assumption
    | intro _
    | with_reducible apply State.wr_keeps
    | with_reducible apply State.flag_keeps
    | dsimp -zeta only

theorem State.storeStart_keeps {s₀ s : State} (op : Nat) (slot : Nat) (h : Keeps s₀ s) : Keeps s₀ (State.storeStart s op slot) := by
  unfold State.storeStart
  repeat' first
    | with_reducible assumption
    | intro _
    | ((fail_if_no_progress extract_lets +onlyGivenNames x); first | (refine keeps_cut (s₀ := s₀) (t := x) ?_ ?_; (on_goal 1 => (try dsimp -zeta only [x])); on_goal 2 => (intro hx; try clear_value x)) | (refine keeps_cut2 (s₀ := s₀) (t := x) ?_ ?_; (on_goal 1 => (try dsimp -zeta only [x])); on_goal 2 => (intro hx; try clear_value x)) | (try clear_value x))
    | with_reducible apply State.wr_keeps
    | with_reducible apply State.storeFail_keeps
    | with_reducible apply State.onBnd_keeps
    | exact Nat.le_refl _
    | split
    | (fail_if_no_progress (with_reducible apply keeps_mk))
    | dsimp -zeta only

theorem State.storeEnd_keeps {s₀ s : State}  (h : Keeps s₀ s) : Keeps s₀ (State.storeEnd s) := by
  unfold State.storeEnd
  repeat' first
    | with_reducible assumption
    | intro _
    | with_reducible apply State.onBnd_keeps
    | with_reducible apply State.wr_keeps
    | exact Nat.le_refl _
    | (fail_if_no_progress (with_reducible apply keeps_mk))
    | dsimp -zeta only

theorem State.storeWritten_keeps {s₀ s : State}  (h : Keeps s₀ s) : Keeps s₀ (State.storeWritten s) := by
  unfold State.storeWritten
  repeat' first
    | with_reducible assumption
    | intro _
    | (with_reducible refine keeps_snd (by assumption) ?_)
    | with_reducible apply State.storeEnd_keeps
    | with_reducible apply State.storeFail_keeps
    | with_reducible apply State.bndSignature_keeps
    | with_reducible apply State.setBndSlot_keeps
    | with_reducible apply State.flag_keeps
    | split
    | (fail_if_no_progress (with_reducible apply keeps_mk))
    | dsimp -zeta only

theorem State.journalErased_keeps {s₀ s : State}  (h : Keeps s₀ s) : Keeps s₀ (State.journalErased s) := by
  unfold State.journalErased
  repeat' first
    | with_reducible assumption
    | intro _
    | with_reducible apply State.storeEnd_keeps
    | with_reducible apply State.storeFail_keeps
    | with_reducible apply State.setBndSlot_keeps
    | with_reducible apply State.flag_keeps
    | split
    | (fail_if_no_progress (with_reducible apply keeps_mk))
    | dsimp -zeta only

theorem State.storeCut_keeps {s₀ s : State}  (h : Keeps s₀ s) : Keeps s₀ (State.storeCut s) := by
  unfold State.storeCut
  repeat' first
    | with_reducible assumption
    | intro _
    | with_reducible apply State.setBndSlot_keeps
    | split
    | (fail_if_no_progress (with_reducible apply keeps_mk))
    | dsimp -zeta only

theorem State.bndStop_keeps {s₀ s : State} (code : Nat) (h : Keeps s₀ s) : Keeps s₀ (State.bndStop s code) := by
  unfold State.bndStop
  repeat' first
    | with_reducible assumption
    | intro _
    | ((fail_if_no_progress extract_lets +onlyGivenNames x); first | (refine keeps_cut (s₀ := s₀) (t := x) ?_ ?_; (on_goal 1 => (try dsimp -zeta only [x])); on_goal 2 => (intro hx; try clear_value x)) | (refine keeps_cut2 (s₀ := s₀) (t := x) ?_ ?_; (on_goal 1 => (try dsimp -zeta only [x])); on_goal 2 => (intro hx; try clear_value x)) | (try clear_value x))
    | with_reducible apply State.bndFail_keeps
    | with_reducible apply State.tipFail_keeps
    | with_reducible apply State.storeCut_keeps
    | with_reducible apply State.onBnd_keeps
    | with_reducible apply State.storeEnd_keeps
    | with_reducible apply State.storeFail_keeps
    | exact Nat.le_refl _
    | split
    | (fail_if_no_progress (with_reducible apply keeps_mk))
    | dsimp -zeta only

end Sys2Proof.Machine
end

