-- ==== Sys2Proof/Laws/KeepsTimOps.lean ====
section
/-! SUPPORT. The operations of TimOps have the relation `Keeps`. -/

namespace Sys2Proof.Machine

open Sys2Proof Reg

set_option linter.unusedTactic false
set_option linter.unreachableTactic false

theorem State.sealTo_keeps {s₀ s : State} (i : Nat) (n : Nat) (h : Keeps s₀ s) : Keeps s₀ (State.sealTo s i n) := by
  unfold State.sealTo
  repeat' first
    | with_reducible assumption
    | intro _
    | with_reducible apply State.sealCycle_keeps
    | with_reducible apply keeps_foldl
    | with_reducible apply keeps_foldl_fst
    | with_reducible apply keeps_foldl_snd
    | split
    | dsimp -zeta only

theorem State.releases_keeps {s₀ s : State}  (h : Keeps s₀ s) : Keeps s₀ (State.releases s) := by
  unfold State.releases
  repeat' first
    | with_reducible assumption
    | intro _
    | with_reducible apply State.releaseAll_keeps
    | dsimp -zeta only

theorem State.afterIngest_keeps {s₀ s : State}  (h : Keeps s₀ s) : Keeps s₀ (State.afterIngest s) := by
  unfold State.afterIngest
  repeat' first
    | with_reducible assumption
    | intro _
    | with_reducible apply State.clsFrontier_keeps
    | with_reducible apply State.folTriggers_keeps
    | with_reducible apply State.folRefresh_keeps
    | dsimp -zeta only

theorem State.cadenceBoundary_keeps {s₀ s : State}  (h : Keeps s₀ s) : Keeps s₀ (State.cadenceBoundary s) := by
  unfold State.cadenceBoundary
  repeat' first
    | with_reducible assumption
    | intro _
    | ((fail_if_no_progress extract_lets +onlyGivenNames x); first | (refine keeps_cut (s₀ := s₀) (t := x) ?_ ?_; (on_goal 1 => (try dsimp -zeta only [x])); on_goal 2 => (intro hx; try clear_value x)) | (refine keeps_cut2 (s₀ := s₀) (t := x) ?_ ?_; (on_goal 1 => (try dsimp -zeta only [x])); on_goal 2 => (intro hx; try clear_value x)) | (try clear_value x))
    | with_reducible apply State.releases_keeps
    | with_reducible apply State.abandonOld_keeps
    | with_reducible apply State.formQuire_keeps
    | with_reducible apply State.lgeQuire_keeps
    | with_reducible apply State.lgeBound_keeps
    | with_reducible apply State.twnBoundary_keeps
    | with_reducible apply State.tipBoundary_keeps
    | with_reducible apply State.migrateBoundary_keeps
    | with_reducible apply State.wr_keeps
    | with_reducible apply State.onSvi_keeps
    | with_reducible apply State.folRefresh_keeps
    | (fail_if_no_progress (with_reducible apply keeps_mk))
    | dsimp -zeta only

theorem State.instantsDue_keeps {s₀ s : State}  (h : Keeps s₀ s) : Keeps s₀ (State.instantsDue s) := by
  unfold State.instantsDue
  repeat' first
    | with_reducible assumption
    | intro _
    | ((fail_if_no_progress extract_lets +onlyGivenNames x); first | (refine keeps_cut (s₀ := s₀) (t := x) ?_ ?_; (on_goal 1 => (try dsimp -zeta only [x])); on_goal 2 => (intro hx; try clear_value x)) | (refine keeps_cut2 (s₀ := s₀) (t := x) ?_ ?_; (on_goal 1 => (try dsimp -zeta only [x])); on_goal 2 => (intro hx; try clear_value x)) | (try clear_value x))
    | with_reducible apply State.seal_keeps
    | with_reducible apply State.afterIngest_keeps
    | with_reducible apply State.deadline_keeps
    | with_reducible apply keeps_foldl
    | with_reducible apply keeps_foldl_fst
    | with_reducible apply keeps_foldl_snd
    | dsimp -zeta only

theorem State.cadenceInstant_keeps {s₀ s : State}  (h : Keeps s₀ s) : Keeps s₀ (State.cadenceInstant s) := by
  unfold State.cadenceInstant
  repeat' first
    | with_reducible assumption
    | intro _
    | with_reducible apply State.instantsDue_keeps
    | with_reducible apply State.cadenceBoundary_keeps
    | split
    | dsimp -zeta only

theorem State.cadenceSkip_keeps {s₀ s : State} (n : Nat) (m : Nat) (h : Keeps s₀ s) : Keeps s₀ (State.cadenceSkip s n m) := by
  unfold State.cadenceSkip
  repeat' first
    | with_reducible assumption
    | intro _
    | ((fail_if_no_progress extract_lets +onlyGivenNames x); first | (refine keeps_cut (s₀ := s₀) (t := x) ?_ ?_; (on_goal 1 => (try dsimp -zeta only [x])); on_goal 2 => (intro hx; try clear_value x)) | (refine keeps_cut2 (s₀ := s₀) (t := x) ?_ ?_; (on_goal 1 => (try dsimp -zeta only [x])); on_goal 2 => (intro hx; try clear_value x)) | (try clear_value x))
    | with_reducible apply State.sealTo_keeps
    | with_reducible apply State.afterIngest_keeps
    | with_reducible apply State.readyEvent_keeps
    | with_reducible apply State.cadenceBoundary_keeps
    | with_reducible apply State.folSkip_keeps
    | with_reducible apply State.wr_keeps
    | with_reducible apply State.bumpBy_keeps
    | with_reducible apply State.flag_keeps
    | with_reducible apply State.folRefresh_keeps
    | with_reducible apply keeps_foldl
    | with_reducible apply keeps_foldl_fst
    | with_reducible apply keeps_foldl_snd
    | dsimp -zeta only

theorem State.cadenceRestart_keeps {s₀ s : State} (m : Nat) (h : Keeps s₀ s) : Keeps s₀ (State.cadenceRestart s m) := by
  unfold State.cadenceRestart
  repeat' first
    | with_reducible assumption
    | intro _
    | ((fail_if_no_progress extract_lets +onlyGivenNames x); first | (refine keeps_cut (s₀ := s₀) (t := x) ?_ ?_; (on_goal 1 => (try dsimp -zeta only [x])); on_goal 2 => (intro hx; try clear_value x)) | (refine keeps_cut2 (s₀ := s₀) (t := x) ?_ ?_; (on_goal 1 => (try dsimp -zeta only [x])); on_goal 2 => (intro hx; try clear_value x)) | (try clear_value x))
    | with_reducible apply State.clsRestart_keeps
    | with_reducible apply State.wr_keeps
    | with_reducible apply State.onSvi_keeps
    | with_reducible apply State.fltRestart_keeps
    | with_reducible apply State.folRestart_keeps
    | with_reducible apply State.gthRestart_keeps
    | with_reducible apply State.twnRestart_keeps
    | with_reducible apply State.flag_keeps
    | with_reducible apply State.event_keeps
    | with_reducible apply State.folRefresh_keeps
    | split
    | (fail_if_no_progress (with_reducible apply keeps_mk))
    | dsimp -zeta only

theorem State.timeStep_keeps {s₀ s : State} (new : Nat) (cause : Nat) (h : Keeps s₀ s) : Keeps s₀ (State.timeStep s new cause) := by
  unfold State.timeStep
  extract_lets _ _ _ _ _ y m action z z1 z2 z3
  have hy : Keeps s₀ y := keeps_same h rfl rfl rfl rfl rfl rfl (Nat.le_refl _) (Nat.le_refl _)
  have hz : Keeps s₀ z := State.flag_keeps _ (State.wr_keeps _ _ (State.bump_keeps _ hy))
  have h1 : Keeps s₀ z1 := State.event_keeps _ _ hz
  have h2 : Keeps s₀ z2 := State.gthStep_keeps h1
  refine State.retestLaunch_keeps ?_
  clear_value z2
  unfold z3
  split
  · exact State.cadenceSkip_keeps _ _ h2
  · split
    · exact State.cadenceRestart_keeps _ h2
    · exact h2

theorem State.timeAdjust_keeps {s₀ s : State} (op : Nat) (value : Nat) (h : Keeps s₀ s) : Keeps s₀ (State.timeAdjust s op value) := by
  unfold State.timeAdjust
  repeat' first
    | with_reducible assumption
    | intro _
    | with_reducible apply State.answer_keeps
    | with_reducible apply State.flag_keeps
    | with_reducible apply State.begin_keeps
    | with_reducible apply State.onTim_keeps
    | exact Nat.le_refl _
    | split
    | (fail_if_no_progress (with_reducible apply keeps_mk))
    | dsimp -zeta only

theorem State.timeApply_keeps {s₀ s : State}  (h : Keeps s₀ s) : Keeps s₀ (State.timeApply s) := by
  unfold State.timeApply
  repeat' first
    | with_reducible assumption
    | intro _
    | ((fail_if_no_progress extract_lets +onlyGivenNames x); first | (refine keeps_cut (s₀ := s₀) (t := x) ?_ ?_; (on_goal 1 => (try dsimp -zeta only [x])); on_goal 2 => (intro hx; try clear_value x)) | (refine keeps_cut2 (s₀ := s₀) (t := x) ?_ ?_; (on_goal 1 => (try dsimp -zeta only [x])); on_goal 2 => (intro hx; try clear_value x)) | (try clear_value x))
    | with_reducible apply State.onTim_keeps
    | with_reducible apply State.wr_keeps
    | with_reducible apply State.timeStep_keeps
    | with_reducible apply State.finish_keeps
    | exact Nat.le_refl _
    | split
    | (fail_if_no_progress (with_reducible apply keeps_mk))
    | dsimp -zeta only

theorem State.setFreq_keeps {s₀ s : State} (f : Int) (h : Keeps s₀ s) : Keeps s₀ (State.setFreq s f) := by
  unfold State.setFreq
  repeat' first
    | with_reducible assumption
    | intro _
    | ((fail_if_no_progress extract_lets +onlyGivenNames x); first | (refine keeps_cut (s₀ := s₀) (t := x) ?_ ?_; (on_goal 1 => (try dsimp -zeta only [x])); on_goal 2 => (intro hx; try clear_value x)) | (refine keeps_cut2 (s₀ := s₀) (t := x) ?_ ?_; (on_goal 1 => (try dsimp -zeta only [x])); on_goal 2 => (intro hx; try clear_value x)) | (try clear_value x))
    | with_reducible apply State.wr_keeps
    | with_reducible apply State.onTim_keeps
    | exact Nat.le_refl _
    | (fail_if_no_progress (with_reducible apply keeps_mk))
    | dsimp -zeta only

theorem State.slew_keeps {s₀ s : State}  (h : Keeps s₀ s) : Keeps s₀ (State.slew s) := by
  unfold State.slew
  repeat' first
    | with_reducible assumption
    | intro _
    | (with_reducible refine keeps_snd (by assumption) ?_)
    | with_reducible apply State.fresh_keeps
    | with_reducible apply State.setFreq_keeps
    | split
    | dsimp -zeta only

theorem State.steer10_keeps {s₀ s : State}  (h : Keeps s₀ s) : Keeps s₀ (State.steer10 s) := by
  unfold State.steer10
  repeat' first
    | with_reducible assumption
    | intro _
    | with_reducible apply State.slew_keeps
    | split
    | dsimp -zeta only

theorem State.piLoop_keeps {s₀ s : State} (off : Int) (h : Keeps s₀ s) : Keeps s₀ (State.piLoop s off) := by
  unfold State.piLoop
  repeat' first
    | with_reducible assumption
    | intro _
    | ((fail_if_no_progress extract_lets +onlyGivenNames x); first | (refine keeps_cut (s₀ := s₀) (t := x) ?_ ?_; (on_goal 1 => (try dsimp -zeta only [x])); on_goal 2 => (intro hx; try clear_value x)) | (refine keeps_cut2 (s₀ := s₀) (t := x) ?_ ?_; (on_goal 1 => (try dsimp -zeta only [x])); on_goal 2 => (intro hx; try clear_value x)) | (try clear_value x))
    | with_reducible apply State.onTim_keeps
    | with_reducible apply State.setFreq_keeps
    | exact Nat.le_refl _
    | (fail_if_no_progress (with_reducible apply keeps_mk))
    | dsimp -zeta only

theorem State.timState_keeps {s₀ s : State} (st : Nat) (h : Keeps s₀ s) : Keeps s₀ (State.timState s st) := by
  unfold State.timState
  repeat' first
    | with_reducible assumption
    | intro _
    | ((fail_if_no_progress extract_lets +onlyGivenNames x); first | (refine keeps_cut (s₀ := s₀) (t := x) ?_ ?_; (on_goal 1 => (try dsimp -zeta only [x])); on_goal 2 => (intro hx; try clear_value x)) | (refine keeps_cut2 (s₀ := s₀) (t := x) ?_ ?_; (on_goal 1 => (try dsimp -zeta only [x])); on_goal 2 => (intro hx; try clear_value x)) | (try clear_value x))
    | with_reducible apply State.wr_keeps
    | with_reducible apply State.onTim_keeps
    | exact Nat.le_refl _
    | split
    | (fail_if_no_progress (with_reducible apply keeps_mk))
    | dsimp -zeta only

theorem State.servo_keeps {s₀ s : State} (off : Int) (h : Keeps s₀ s) : Keeps s₀ (State.servo s off) := by
  unfold State.servo
  repeat' first
    | with_reducible assumption
    | intro _
    | ((fail_if_no_progress extract_lets +onlyGivenNames x); first | (refine keeps_cut (s₀ := s₀) (t := x) ?_ ?_; (on_goal 1 => (try dsimp -zeta only [x])); on_goal 2 => (intro hx; try clear_value x)) | (refine keeps_cut2 (s₀ := s₀) (t := x) ?_ ?_; (on_goal 1 => (try dsimp -zeta only [x])); on_goal 2 => (intro hx; try clear_value x)) | (try clear_value x))
    | with_reducible apply State.wr_keeps
    | with_reducible apply State.onTim_keeps
    | with_reducible apply State.piLoop_keeps
    | with_reducible apply State.timeStep_keeps
    | with_reducible apply State.timState_keeps
    | exact Nat.le_refl _
    | split
    | (fail_if_no_progress (with_reducible apply keeps_mk))
    | dsimp -zeta only

theorem State.measure_keeps {s₀ s : State} (code : Nat) (off : Int) (h : Keeps s₀ s) : Keeps s₀ (State.measure s code off) := by
  unfold State.measure
  repeat' first
    | with_reducible assumption
    | intro _
    | ((fail_if_no_progress extract_lets +onlyGivenNames x); first | (refine keeps_cut (s₀ := s₀) (t := x) ?_ ?_; (on_goal 1 => (try dsimp -zeta only [x])); on_goal 2 => (intro hx; try clear_value x)) | (refine keeps_cut2 (s₀ := s₀) (t := x) ?_ ?_; (on_goal 1 => (try dsimp -zeta only [x])); on_goal 2 => (intro hx; try clear_value x)) | (try clear_value x))
    | with_reducible apply State.onTim_keeps
    | with_reducible apply State.wr_keeps
    | with_reducible apply State.flag_keeps
    | with_reducible apply State.servo_keeps
    | exact Nat.le_refl _
    | split
    | (fail_if_no_progress (with_reducible apply keeps_mk))
    | dsimp -zeta only

theorem State.sourceQualified_keeps {s₀ s : State} (i : Nat) (h : Keeps s₀ s) : Keeps s₀ (State.sourceQualified s i) := by
  unfold State.sourceQualified
  repeat' first
    | with_reducible assumption
    | intro _
    | ((fail_if_no_progress extract_lets +onlyGivenNames x); first | (refine keeps_cut (s₀ := s₀) (t := x) ?_ ?_; (on_goal 1 => (try dsimp -zeta only [x])); on_goal 2 => (intro hx; try clear_value x)) | (refine keeps_cut2 (s₀ := s₀) (t := x) ?_ ?_; (on_goal 1 => (try dsimp -zeta only [x])); on_goal 2 => (intro hx; try clear_value x)) | (try clear_value x))
    | with_reducible apply State.wrBit_keeps
    | with_reducible apply State.wr_keeps
    | with_reducible apply State.timState_keeps
    | split
    | dsimp -zeta only

theorem State.sourceLost_keeps {s₀ s : State} (i : Nat) (h : Keeps s₀ s) : Keeps s₀ (State.sourceLost s i) := by
  unfold State.sourceLost
  repeat' first
    | with_reducible assumption
    | intro _
    | ((fail_if_no_progress extract_lets +onlyGivenNames x); first | (refine keeps_cut (s₀ := s₀) (t := x) ?_ ?_; (on_goal 1 => (try dsimp -zeta only [x])); on_goal 2 => (intro hx; try clear_value x)) | (refine keeps_cut2 (s₀ := s₀) (t := x) ?_ ?_; (on_goal 1 => (try dsimp -zeta only [x])); on_goal 2 => (intro hx; try clear_value x)) | (try clear_value x))
    | with_reducible apply State.wrBit_keeps
    | with_reducible apply State.onTim_keeps
    | with_reducible apply State.wr_keeps
    | with_reducible apply State.flag_keeps
    | with_reducible apply State.timState_keeps
    | with_reducible apply State.slew_keeps
    | with_reducible apply State.steer10_keeps
    | exact Nat.le_refl _
    | split
    | (fail_if_no_progress (with_reducible apply keeps_mk))
    | dsimp -zeta only

theorem State.holdoverExpire_keeps {s₀ s : State}  (h : Keeps s₀ s) : Keeps s₀ (State.holdoverExpire s) := by
  unfold State.holdoverExpire
  repeat' first
    | with_reducible assumption
    | intro _
    | with_reducible apply State.timState_keeps
    | with_reducible apply State.flag_keeps
    | with_reducible apply State.steer10_keeps
    | split
    | dsimp -zeta only

theorem State.ref10_keeps {s₀ s : State} (ok : Bool) (h : Keeps s₀ s) : Keeps s₀ (State.ref10 s ok) := by
  unfold State.ref10
  repeat' first
    | with_reducible assumption
    | intro _
    | ((fail_if_no_progress extract_lets +onlyGivenNames x); first | (refine keeps_cut (s₀ := s₀) (t := x) ?_ ?_; (on_goal 1 => (try dsimp -zeta only [x])); on_goal 2 => (intro hx; try clear_value x)) | (refine keeps_cut2 (s₀ := s₀) (t := x) ?_ ?_; (on_goal 1 => (try dsimp -zeta only [x])); on_goal 2 => (intro hx; try clear_value x)) | (try clear_value x))
    | with_reducible apply State.wrB_keeps
    | with_reducible apply State.slew_keeps
    | split
    | dsimp -zeta only

theorem State.utcSet_keeps {s₀ s : State} (off : Nat) (leap : Nat) (h : Keeps s₀ s) : Keeps s₀ (State.utcSet s off leap) := by
  unfold State.utcSet
  repeat' first
    | with_reducible assumption
    | intro _
    | ((fail_if_no_progress extract_lets +onlyGivenNames x); first | (refine keeps_cut (s₀ := s₀) (t := x) ?_ ?_; (on_goal 1 => (try dsimp -zeta only [x])); on_goal 2 => (intro hx; try clear_value x)) | (refine keeps_cut2 (s₀ := s₀) (t := x) ?_ ?_; (on_goal 1 => (try dsimp -zeta only [x])); on_goal 2 => (intro hx; try clear_value x)) | (try clear_value x))
    | with_reducible apply State.wr_keeps
    | with_reducible apply State.flagIf_keeps
    | dsimp -zeta only

theorem State.leapSecond_keeps {s₀ s : State}  (h : Keeps s₀ s) : Keeps s₀ (State.leapSecond s) := by
  unfold State.leapSecond
  repeat' first
    | with_reducible assumption
    | intro _
    | ((fail_if_no_progress extract_lets +onlyGivenNames x); first | (refine keeps_cut (s₀ := s₀) (t := x) ?_ ?_; (on_goal 1 => (try dsimp -zeta only [x])); on_goal 2 => (intro hx; try clear_value x)) | (refine keeps_cut2 (s₀ := s₀) (t := x) ?_ ?_; (on_goal 1 => (try dsimp -zeta only [x])); on_goal 2 => (intro hx; try clear_value x)) | (try clear_value x))
    | with_reducible apply State.utcSet_keeps
    | split
    | dsimp -zeta only

theorem State.setPtp_keeps {s₀ s : State} (p : Nat) (x : PtpPort) (h : Keeps s₀ s) : Keeps s₀ (State.setPtp s p x) := by
  unfold State.setPtp
  repeat' first
    | with_reducible assumption
    | intro _
    | with_reducible apply State.onTim_keeps
    | exact Nat.le_refl _
    | (fail_if_no_progress (with_reducible apply keeps_mk))
    | dsimp -zeta only

theorem State.takeMsg_keeps {s₀ s : State} (types : List Nat) (h : Keeps s₀ s) : Keeps s₀ (State.takeMsg s types).2 := by
  unfold State.takeMsg
  repeat' first
    | with_reducible assumption
    | intro _
    | with_reducible apply State.onTim_keeps
    | exact Nat.le_refl _
    | split
    | (fail_if_no_progress (with_reducible apply keeps_mk))
    | dsimp -zeta only

theorem State.ptpSend_keeps {s₀ s : State} (p : Nat) (bs : List Byte) (resid : Nat) (h : Keeps s₀ s) : Keeps s₀ (State.ptpSend s p bs resid) := by
  unfold State.ptpSend
  repeat' first
    | with_reducible assumption
    | intro _
    | with_reducible apply State.bump_keeps
    | with_reducible apply State.admitCopy_keeps
    | split
    | (fail_if_no_progress (with_reducible apply keeps_mk))
    | dsimp -zeta only

theorem State.ptpSent_keeps {s₀ s : State} (p : Nat) (h : Keeps s₀ s) : Keeps s₀ (State.ptpSent s p) := by
  unfold State.ptpSent
  repeat' first
    | with_reducible assumption
    | intro _
    | ((fail_if_no_progress extract_lets +onlyGivenNames x); first | (refine keeps_cut (s₀ := s₀) (t := x) ?_ ?_; (on_goal 1 => (try dsimp -zeta only [x])); on_goal 2 => (intro hx; try clear_value x)) | (refine keeps_cut2 (s₀ := s₀) (t := x) ?_ ?_; (on_goal 1 => (try dsimp -zeta only [x])); on_goal 2 => (intro hx; try clear_value x)) | (try clear_value x))
    | with_reducible apply State.setPtp_keeps
    | with_reducible apply keeps_foldl
    | with_reducible apply keeps_foldl_fst
    | with_reducible apply keeps_foldl_snd
    | split
    | (fail_if_no_progress (with_reducible apply keeps_mk))
    | dsimp -zeta only

theorem State.ptpRefresh_keeps {s₀ s : State}  (h : Keeps s₀ s) : Keeps s₀ (State.ptpRefresh s) := by
  unfold State.ptpRefresh
  repeat' first
    | with_reducible assumption
    | intro _
    | ((fail_if_no_progress extract_lets +onlyGivenNames x); first | (refine keeps_cut (s₀ := s₀) (t := x) ?_ ?_; (on_goal 1 => (try dsimp -zeta only [x])); on_goal 2 => (intro hx; try clear_value x)) | (refine keeps_cut2 (s₀ := s₀) (t := x) ?_ ?_; (on_goal 1 => (try dsimp -zeta only [x])); on_goal 2 => (intro hx; try clear_value x)) | (try clear_value x))
    | with_reducible apply State.wr_keeps
    | with_reducible apply State.wrI_keeps
    | with_reducible apply keeps_foldl
    | with_reducible apply keeps_foldl_fst
    | with_reducible apply keeps_foldl_snd
    | with_reducible apply keeps_getD
    | split
    | dsimp -zeta only

theorem State.ptpOffset_keeps {s₀ s : State} (p : Nat) (t2 : Nat) (t1 : Nat) (corr : Int) (h : Keeps s₀ s) : Keeps s₀ (State.ptpOffset s p t2 t1 corr) := by
  unfold State.ptpOffset
  repeat' first
    | with_reducible assumption
    | intro _
    | with_reducible apply State.bump_keeps
    | with_reducible apply State.measure_keeps
    | split
    | dsimp -zeta only

theorem State.ptpSync_keeps {s₀ s : State}  (h : Keeps s₀ s) : Keeps s₀ (State.ptpSync s) := by
  unfold State.ptpSync
  repeat' first
    | with_reducible assumption
    | intro _
    | ((fail_if_no_progress extract_lets +onlyGivenNames x); first | (refine keeps_cut (s₀ := s₀) (t := x) ?_ ?_; (on_goal 1 => (try dsimp -zeta only [x])); on_goal 2 => (intro hx; try clear_value x)) | (refine keeps_cut2 (s₀ := s₀) (t := x) ?_ ?_; (on_goal 1 => (try dsimp -zeta only [x])); on_goal 2 => (intro hx; try clear_value x)) | (try clear_value x))
    | (with_reducible refine keeps_snd (by assumption) ?_)
    | with_reducible apply State.ptpRefresh_keeps
    | with_reducible apply State.takeMsg_keeps
    | with_reducible apply State.setPtp_keeps
    | with_reducible apply State.ptpOffset_keeps
    | split
    | (fail_if_no_progress (with_reducible apply keeps_mk))
    | dsimp -zeta only

theorem State.ptpFollowUp_keeps {s₀ s : State}  (h : Keeps s₀ s) : Keeps s₀ (State.ptpFollowUp s) := by
  unfold State.ptpFollowUp
  repeat' first
    | with_reducible assumption
    | intro _
    | ((fail_if_no_progress extract_lets +onlyGivenNames x); first | (refine keeps_cut (s₀ := s₀) (t := x) ?_ ?_; (on_goal 1 => (try dsimp -zeta only [x])); on_goal 2 => (intro hx; try clear_value x)) | (refine keeps_cut2 (s₀ := s₀) (t := x) ?_ ?_; (on_goal 1 => (try dsimp -zeta only [x])); on_goal 2 => (intro hx; try clear_value x)) | (try clear_value x))
    | (with_reducible refine keeps_snd (by assumption) ?_)
    | with_reducible apply State.ptpRefresh_keeps
    | with_reducible apply State.takeMsg_keeps
    | with_reducible apply State.setPtp_keeps
    | with_reducible apply State.ptpOffset_keeps
    | split
    | (fail_if_no_progress (with_reducible apply keeps_mk))
    | dsimp -zeta only

theorem State.ptpAnnounce_keeps {s₀ s : State}  (h : Keeps s₀ s) : Keeps s₀ (State.ptpAnnounce s) := by
  unfold State.ptpAnnounce
  repeat' first
    | with_reducible assumption
    | intro _
    | ((fail_if_no_progress extract_lets +onlyGivenNames x); first | (refine keeps_cut (s₀ := s₀) (t := x) ?_ ?_; (on_goal 1 => (try dsimp -zeta only [x])); on_goal 2 => (intro hx; try clear_value x)) | (refine keeps_cut2 (s₀ := s₀) (t := x) ?_ ?_; (on_goal 1 => (try dsimp -zeta only [x])); on_goal 2 => (intro hx; try clear_value x)) | (try clear_value x))
    | (with_reducible refine keeps_snd (by assumption) ?_)
    | with_reducible apply State.takeMsg_keeps
    | with_reducible apply State.bump_keeps
    | with_reducible apply State.ptpRefresh_keeps
    | with_reducible apply State.setPtp_keeps
    | with_reducible apply State.utcSet_keeps
    | with_reducible apply keeps_getD
    | split
    | (fail_if_no_progress (with_reducible apply keeps_mk))
    | dsimp -zeta only

theorem State.pdelayReq_keeps {s₀ s : State} (p : Nat) (h : Keeps s₀ s) : Keeps s₀ (State.pdelayReq s p) := by
  unfold State.pdelayReq
  repeat' first
    | with_reducible assumption
    | intro _
    | ((fail_if_no_progress extract_lets +onlyGivenNames x); first | (refine keeps_cut (s₀ := s₀) (t := x) ?_ ?_; (on_goal 1 => (try dsimp -zeta only [x])); on_goal 2 => (intro hx; try clear_value x)) | (refine keeps_cut2 (s₀ := s₀) (t := x) ?_ ?_; (on_goal 1 => (try dsimp -zeta only [x])); on_goal 2 => (intro hx; try clear_value x)) | (try clear_value x))
    | with_reducible apply State.setPtp_keeps
    | with_reducible apply State.ptpSend_keeps
    | split
    | (fail_if_no_progress (with_reducible apply keeps_mk))
    | dsimp -zeta only

theorem State.pdelayAnswer_keeps {s₀ s : State}  (h : Keeps s₀ s) : Keeps s₀ (State.pdelayAnswer s) := by
  unfold State.pdelayAnswer
  repeat' first
    | with_reducible assumption
    | intro _
    | ((fail_if_no_progress extract_lets +onlyGivenNames x); first | (refine keeps_cut (s₀ := s₀) (t := x) ?_ ?_; (on_goal 1 => (try dsimp -zeta only [x])); on_goal 2 => (intro hx; try clear_value x)) | (refine keeps_cut2 (s₀ := s₀) (t := x) ?_ ?_; (on_goal 1 => (try dsimp -zeta only [x])); on_goal 2 => (intro hx; try clear_value x)) | (try clear_value x))
    | (with_reducible refine keeps_snd (by assumption) ?_)
    | with_reducible apply State.takeMsg_keeps
    | with_reducible apply State.ptpSend_keeps
    | split
    | dsimp -zeta only

theorem State.pdelayDone_keeps {s₀ s : State} (p : Nat) (delay : Int) (h : Keeps s₀ s) : Keeps s₀ (State.pdelayDone s p delay) := by
  unfold State.pdelayDone
  repeat' first
    | with_reducible assumption
    | intro _
    | ((fail_if_no_progress extract_lets +onlyGivenNames x); first | (refine keeps_cut (s₀ := s₀) (t := x) ?_ ?_; (on_goal 1 => (try dsimp -zeta only [x])); on_goal 2 => (intro hx; try clear_value x)) | (refine keeps_cut2 (s₀ := s₀) (t := x) ?_ ?_; (on_goal 1 => (try dsimp -zeta only [x])); on_goal 2 => (intro hx; try clear_value x)) | (try clear_value x))
    | with_reducible apply State.setPtp_keeps
    | with_reducible apply State.wrSatI_keeps
    | with_reducible apply State.wrBI_keeps
    | with_reducible apply keeps_foldl
    | with_reducible apply keeps_foldl_fst
    | with_reducible apply keeps_foldl_snd
    | (fail_if_no_progress (with_reducible apply keeps_mk))
    | dsimp -zeta only

theorem State.pdelayResp_keeps {s₀ s : State}  (h : Keeps s₀ s) : Keeps s₀ (State.pdelayResp s) := by
  unfold State.pdelayResp
  repeat' first
    | with_reducible assumption
    | intro _
    | ((fail_if_no_progress extract_lets +onlyGivenNames x); first | (refine keeps_cut (s₀ := s₀) (t := x) ?_ ?_; (on_goal 1 => (try dsimp -zeta only [x])); on_goal 2 => (intro hx; try clear_value x)) | (refine keeps_cut2 (s₀ := s₀) (t := x) ?_ ?_; (on_goal 1 => (try dsimp -zeta only [x])); on_goal 2 => (intro hx; try clear_value x)) | (try clear_value x))
    | (with_reducible refine keeps_snd (by assumption) ?_)
    | with_reducible apply State.takeMsg_keeps
    | with_reducible apply State.setPtp_keeps
    | with_reducible apply State.pdelayDone_keeps
    | split
    | (fail_if_no_progress (with_reducible apply keeps_mk))
    | dsimp -zeta only

theorem State.irigFrame_keeps {s₀ s : State} (ms : List (Fin 3)) (year : Bool) (ago : Nat) (h : Keeps s₀ s) : Keeps s₀ (State.irigFrame s ms year ago) := by
  unfold State.irigFrame
  repeat' first
    | with_reducible assumption
    | intro _
    | ((fail_if_no_progress extract_lets +onlyGivenNames x); first | (refine keeps_cut (s₀ := s₀) (t := x) ?_ ?_; (on_goal 1 => (try dsimp -zeta only [x])); on_goal 2 => (intro hx; try clear_value x)) | (refine keeps_cut2 (s₀ := s₀) (t := x) ?_ ?_; (on_goal 1 => (try dsimp -zeta only [x])); on_goal 2 => (intro hx; try clear_value x)) | (refine keeps_cutF (s₀ := s₀) (f := x) ?_ ?_; (on_goal 1 => (try dsimp -zeta only [x])); on_goal 2 => (intro hx; try clear_value x)) | (refine keeps_cutF2 (s₀ := s₀) (f := x) ?_ ?_; (on_goal 1 => (try dsimp -zeta only [x])); on_goal 2 => (intro hx; try clear_value x)) | (refine keeps_cutF5 (s₀ := s₀) (f := x) ?_ ?_; (on_goal 1 => (try dsimp -zeta only [x])); on_goal 2 => (intro hx; try clear_value x)) | (refine keeps_cutFP (s₀ := s₀) (f := x) ?_ ?_; (on_goal 1 => (try dsimp -zeta only [x])); on_goal 2 => (intro hx; try clear_value x)) | (try clear_value x))
    | with_reducible apply State.onTim_keeps
    | with_reducible apply State.bump_keeps
    | with_reducible apply State.flag_keeps
    | with_reducible apply State.utcSet_keeps
    | with_reducible apply State.measure_keeps
    | exact Nat.le_refl _
    | with_reducible apply keeps_getD
    | split
    | (fail_if_no_progress (with_reducible apply keeps_mk))
    | dsimp -zeta only
    | with_reducible apply_assumption

theorem State.ppsEdge_keeps {s₀ s : State} (bp : Bool) (h : Keeps s₀ s) : Keeps s₀ (State.ppsEdge s bp) := by
  unfold State.ppsEdge
  repeat' first
    | with_reducible assumption
    | intro _
    | ((fail_if_no_progress extract_lets +onlyGivenNames x); first | (refine keeps_cut (s₀ := s₀) (t := x) ?_ ?_; (on_goal 1 => (try dsimp -zeta only [x])); on_goal 2 => (intro hx; try clear_value x)) | (refine keeps_cut2 (s₀ := s₀) (t := x) ?_ ?_; (on_goal 1 => (try dsimp -zeta only [x])); on_goal 2 => (intro hx; try clear_value x)) | (try clear_value x))
    | with_reducible apply State.onTim_keeps
    | with_reducible apply State.bump_keeps
    | with_reducible apply State.flag_keeps
    | with_reducible apply State.measure_keeps
    | exact Nat.le_refl _
    | split
    | (fail_if_no_progress (with_reducible apply keeps_mk))
    | dsimp -zeta only

theorem State.wholeSecond_keeps {s₀ s : State}  (h : Keeps s₀ s) : Keeps s₀ (State.wholeSecond s) := by
  unfold State.wholeSecond
  repeat' first
    | with_reducible assumption
    | intro _
    | ((fail_if_no_progress extract_lets +onlyGivenNames x); first | (refine keeps_cut (s₀ := s₀) (t := x) ?_ ?_; (on_goal 1 => (try dsimp -zeta only [x])); on_goal 2 => (intro hx; try clear_value x)) | (refine keeps_cut2 (s₀ := s₀) (t := x) ?_ ?_; (on_goal 1 => (try dsimp -zeta only [x])); on_goal 2 => (intro hx; try clear_value x)) | (try clear_value x))
    | with_reducible apply State.onTim_keeps
    | with_reducible apply State.wrSat_keeps
    | with_reducible apply State.ptpRefresh_keeps
    | exact Nat.le_refl _
    | split
    | (fail_if_no_progress (with_reducible apply keeps_mk))
    | dsimp -zeta only

theorem State.ppsFall_keeps {s₀ s : State}  (h : Keeps s₀ s) : Keeps s₀ (State.ppsFall s) := by
  unfold State.ppsFall
  repeat' first
    | with_reducible assumption
    | intro _
    | with_reducible apply State.onTim_keeps
    | exact Nat.le_refl _
    | split
    | (fail_if_no_progress (with_reducible apply keeps_mk))
    | dsimp -zeta only

theorem State.raiseFloor_keeps {s₀ s : State} (h : Keeps s₀ s) : Keeps s₀ (State.raiseFloor s) := by
  unfold State.raiseFloor
  split
  · exact State.onTim_keeps _ (fun _ => Nat.le_max_left _ _) h
  · exact h

theorem State.floorUpdate_keeps {s₀ s : State}  (h : Keeps s₀ s) : Keeps s₀ (State.floorUpdate s) := by
  unfold State.floorUpdate
  repeat' first
    | with_reducible assumption
    | intro _
    | with_reducible apply State.raiseFloor_keeps
    | with_reducible apply State.onTim_keeps
    | exact Nat.le_refl _
    | split
    | (fail_if_no_progress (with_reducible apply keeps_mk))
    | dsimp -zeta only

theorem State.timPeriod_keeps {s₀ s : State}  (h : Keeps s₀ s) : Keeps s₀ (State.timPeriod s) := by
  unfold State.timPeriod
  repeat' first
    | with_reducible assumption
    | intro _
    | ((fail_if_no_progress extract_lets +onlyGivenNames x); first | (refine keeps_cut (s₀ := s₀) (t := x) ?_ ?_; (on_goal 1 => (try dsimp -zeta only [x])); on_goal 2 => (intro hx; try clear_value x)) | (refine keeps_cut2 (s₀ := s₀) (t := x) ?_ ?_; (on_goal 1 => (try dsimp -zeta only [x])); on_goal 2 => (intro hx; try clear_value x)) | (try clear_value x))
    | with_reducible apply State.timeApply_keeps
    | (fail_if_no_progress (with_reducible apply keeps_mk))
    | dsimp -zeta only

-- a tick moves time

end Sys2Proof.Machine
end

