-- ==== Sys2Proof/Laws/KeepsLcsOps.lean ====
section
/-! SUPPORT. The operations of LcsOps have the relation `Keeps`. -/

namespace Sys2Proof.Machine

open Sys2Proof Reg

set_option linter.unusedTactic false
set_option linter.unreachableTactic false

theorem State.setDebug_keeps {s₀ s : State} (code : Nat) (h : Keeps s₀ s) : Keeps s₀ (State.setDebug s code) := by
  unfold State.setDebug
  repeat' first
    | with_reducible assumption
    | intro _
    | with_reducible apply State.wr_keeps
    | dsimp -zeta only

theorem State.lifecycleEvent_keeps {s₀ s : State} (kind : Nat) (old : Nat) (new : Nat) (cause : Nat) (issuer : Nat) (counter : Nat) (mask : Nat) (secs : Nat) (h : Keeps s₀ s) : Keeps s₀ (State.lifecycleEvent s kind old new cause issuer counter mask secs) := by
  unfold State.lifecycleEvent
  repeat' first
    | with_reducible assumption
    | intro _
    | with_reducible apply State.event_keeps
    | dsimp -zeta only

theorem State.debugClose_keeps {s₀ s : State} (next : Nat) (cause : Nat) (h : Keeps s₀ s) : Keeps s₀ (State.debugClose s next cause) := by
  unfold State.debugClose
  repeat' first
    | with_reducible assumption
    | intro _
    | ((fail_if_no_progress extract_lets +onlyGivenNames x); first | (refine keeps_cut (s₀ := s₀) (t := x) ?_ ?_; (on_goal 1 => (try dsimp -zeta only [x])); on_goal 2 => (intro hx; try clear_value x)) | (refine keeps_cut2 (s₀ := s₀) (t := x) ?_ ?_; (on_goal 1 => (try dsimp -zeta only [x])); on_goal 2 => (intro hx; try clear_value x)) | (try clear_value x))
    | with_reducible apply State.setDebug_keeps
    | with_reducible apply State.wr_keeps
    | with_reducible apply State.onLcs_keeps
    | with_reducible apply State.lifecycleEvent_keeps
    | with_reducible apply keeps_getD
    | split
    | (fail_if_no_progress (with_reducible apply keeps_mk))
    | dsimp -zeta only

theorem State.sessionClose_keeps {s₀ s : State} (cause : Nat) (h : Keeps s₀ s) : Keeps s₀ (State.sessionClose s cause) := by
  unfold State.sessionClose
  repeat' first
    | with_reducible assumption
    | intro _
    | with_reducible apply State.debugClose_keeps
    | split
    | dsimp -zeta only

theorem State.debugOpen_keeps {s₀ s : State} (code : Nat) (d : DbgSession) (h : Keeps s₀ s) : Keeps s₀ (State.debugOpen s code d) := by
  unfold State.debugOpen
  repeat' first
    | with_reducible assumption
    | intro _
    | ((fail_if_no_progress extract_lets +onlyGivenNames x); first | (refine keeps_cut (s₀ := s₀) (t := x) ?_ ?_; (on_goal 1 => (try dsimp -zeta only [x])); on_goal 2 => (intro hx; try clear_value x)) | (refine keeps_cut2 (s₀ := s₀) (t := x) ?_ ?_; (on_goal 1 => (try dsimp -zeta only [x])); on_goal 2 => (intro hx; try clear_value x)) | (try clear_value x))
    | with_reducible apply State.setDebug_keeps
    | with_reducible apply State.wrB_keeps
    | with_reducible apply State.wr_keeps
    | with_reducible apply State.onLcs_keeps
    | with_reducible apply State.flag_keeps
    | with_reducible apply State.lifecycleEvent_keeps
    | (fail_if_no_progress (with_reducible apply keeps_mk))
    | dsimp -zeta only

theorem State.debugRefused_keeps {s₀ s : State}  (h : Keeps s₀ s) : Keeps s₀ (State.debugRefused s) := by
  unfold State.debugRefused
  repeat' first
    | with_reducible assumption
    | intro _
    | with_reducible apply State.bump_keeps
    | with_reducible apply State.flag_keeps
    | dsimp -zeta only

theorem State.challengeNew_keeps {s₀ s : State}  (h : Keeps s₀ s) : Keeps s₀ (State.challengeNew s) := by
  unfold State.challengeNew
  repeat' first
    | with_reducible assumption
    | intro _
    | ((fail_if_no_progress extract_lets +onlyGivenNames x); first | (refine keeps_cut (s₀ := s₀) (t := x) ?_ ?_; (on_goal 1 => (try dsimp -zeta only [x])); on_goal 2 => (intro hx; try clear_value x)) | (refine keeps_cut2 (s₀ := s₀) (t := x) ?_ ?_; (on_goal 1 => (try dsimp -zeta only [x])); on_goal 2 => (intro hx; try clear_value x)) | (try clear_value x))
    | (with_reducible refine keeps_snd (by assumption) ?_)
    | with_reducible apply State.fresh_keeps
    | with_reducible apply State.wrK_keeps
    | with_reducible apply State.wr_keeps
    | with_reducible apply State.onLcs_keeps
    | with_reducible apply keeps_foldl
    | with_reducible apply keeps_foldl_fst
    | with_reducible apply keeps_foldl_snd
    | split
    | (fail_if_no_progress (with_reducible apply keeps_mk))
    | dsimp -zeta only

theorem State.challengeVoid_keeps {s₀ s : State}  (h : Keeps s₀ s) : Keeps s₀ (State.challengeVoid s) := by
  unfold State.challengeVoid
  repeat' first
    | with_reducible assumption
    | intro _
    | with_reducible apply State.wr_keeps
    | dsimp -zeta only

theorem State.tokenWrite_keeps {s₀ s : State} (v : Nat) (h : Keeps s₀ s) : Keeps s₀ (State.tokenWrite s v) := by
  unfold State.tokenWrite
  repeat' first
    | with_reducible assumption
    | intro _
    | with_reducible apply State.onLcs_keeps
    | split
    | (fail_if_no_progress (with_reducible apply keeps_mk))
    | dsimp -zeta only

theorem State.tokenLen_keeps {s₀ s : State} (v : Nat) (h : Keeps s₀ s) : Keeps s₀ (State.tokenLen s v) := by
  unfold State.tokenLen
  repeat' first
    | with_reducible assumption
    | intro _
    | with_reducible apply State.wr_keeps
    | with_reducible apply State.onLcs_keeps
    | (fail_if_no_progress (with_reducible apply keeps_mk))
    | dsimp -zeta only

theorem State.tokenGo_keeps {s₀ s : State}  (h : Keeps s₀ s) : Keeps s₀ (State.tokenGo s) := by
  unfold State.tokenGo
  repeat' first
    | with_reducible assumption
    | intro _
    | ((fail_if_no_progress extract_lets +onlyGivenNames x); first | (refine keeps_cut (s₀ := s₀) (t := x) ?_ ?_; (on_goal 1 => (try dsimp -zeta only [x])); on_goal 2 => (intro hx; try clear_value x)) | (refine keeps_cut2 (s₀ := s₀) (t := x) ?_ ?_; (on_goal 1 => (try dsimp -zeta only [x])); on_goal 2 => (intro hx; try clear_value x)) | (try clear_value x))
    | with_reducible apply State.answer_keeps
    | with_reducible apply State.challengeVoid_keeps
    | with_reducible apply State.onLcs_keeps
    | with_reducible apply State.begin_keeps
    | split
    | (fail_if_no_progress (with_reducible apply keeps_mk))
    | dsimp -zeta only

theorem State.tokenSigned_keeps {s₀ s : State} (bs : List Byte) (h : Keeps s₀ s) : Keeps s₀ (State.tokenSigned s bs).2 := by
  unfold State.tokenSigned
  repeat' first
    | with_reducible assumption
    | intro _
    | ((fail_if_no_progress extract_lets +onlyGivenNames x); first | (refine keeps_cut (s₀ := s₀) (t := x) ?_ ?_; (on_goal 1 => (try dsimp -zeta only [x])); on_goal 2 => (intro hx; try clear_value x)) | (refine keeps_cut2 (s₀ := s₀) (t := x) ?_ ?_; (on_goal 1 => (try dsimp -zeta only [x])); on_goal 2 => (intro hx; try clear_value x)) | (try clear_value x))
    | (with_reducible refine keeps_snd (by assumption) ?_)
    | with_reducible apply State.keyUse_keeps
    | with_reducible apply State.bump_keeps
    | split
    | dsimp -zeta only

theorem State.tokenCheck_keeps {s₀ s : State} (j : TokJob) (h : Keeps s₀ s) : Keeps s₀ (State.tokenCheck s j).2 := by
  unfold State.tokenCheck
  repeat' first
    | with_reducible assumption
    | intro _
    | ((fail_if_no_progress extract_lets +onlyGivenNames x); first | (refine keeps_cut (s₀ := s₀) (t := x) ?_ ?_; (on_goal 1 => (try dsimp -zeta only [x])); on_goal 2 => (intro hx; try clear_value x)) | (refine keeps_cut2 (s₀ := s₀) (t := x) ?_ ?_; (on_goal 1 => (try dsimp -zeta only [x])); on_goal 2 => (intro hx; try clear_value x)) | (try clear_value x))
    | (with_reducible refine keeps_snd (by assumption) ?_)
    | with_reducible apply State.tokenSigned_keeps
    | split
    | dsimp -zeta only

theorem State.tokenEnd_keeps {s₀ s : State} (r : Nat) (h : Keeps s₀ s) : Keeps s₀ (State.tokenEnd s r) := by
  unfold State.tokenEnd
  repeat' first
    | with_reducible assumption
    | intro _
    | with_reducible apply State.onLcs_keeps
    | with_reducible apply State.finish_keeps
    | (fail_if_no_progress (with_reducible apply keeps_mk))
    | dsimp -zeta only

theorem State.tokenRefuse_keeps {s₀ s : State} (bs : List Byte) (r : Nat) (h : Keeps s₀ s) : Keeps s₀ (State.tokenRefuse s bs r) := by
  unfold State.tokenRefuse
  repeat' first
    | with_reducible assumption
    | intro _
    | with_reducible apply State.tokenEnd_keeps
    | with_reducible apply State.flag_keeps
    | with_reducible apply State.lifecycleEvent_keeps
    | dsimp -zeta only

theorem State.tokenAccept_keeps {s₀ s : State} (bs : List Byte) (h : Keeps s₀ s) : Keeps s₀ (State.tokenAccept s bs) := by
  unfold State.tokenAccept
  repeat' first
    | with_reducible assumption
    | intro _
    | ((fail_if_no_progress extract_lets +onlyGivenNames x); first | (refine keeps_cut (s₀ := s₀) (t := x) ?_ ?_; (on_goal 1 => (try dsimp -zeta only [x])); on_goal 2 => (intro hx; try clear_value x)) | (refine keeps_cut2 (s₀ := s₀) (t := x) ?_ ?_; (on_goal 1 => (try dsimp -zeta only [x])); on_goal 2 => (intro hx; try clear_value x)) | (try clear_value x))
    | with_reducible apply State.tokenEnd_keeps
    | with_reducible apply State.wr_keeps
    | with_reducible apply State.debugOpen_keeps
    | with_reducible apply State.onLcs_keeps
    | with_reducible apply State.lifecycleEvent_keeps
    | split
    | (fail_if_no_progress (with_reducible apply keeps_mk))
    | dsimp -zeta only

theorem State.tokenDone_keeps {s₀ s : State}  (h : Keeps s₀ s) : Keeps s₀ (State.tokenDone s) := by
  unfold State.tokenDone
  repeat' first
    | with_reducible assumption
    | intro _
    | (with_reducible refine keeps_snd (by assumption) ?_)
    | with_reducible apply State.tokenCheck_keeps
    | with_reducible apply State.tokenAccept_keeps
    | with_reducible apply State.tokenRefuse_keeps
    | split
    | dsimp -zeta only

theorem State.svKeyWatch_keeps {s₀ s : State}  (h : Keeps s₀ s) : Keeps s₀ (State.svKeyWatch s) := by
  unfold State.svKeyWatch
  repeat' first
    | with_reducible assumption
    | intro _
    | ((fail_if_no_progress extract_lets +onlyGivenNames x); first | (refine keeps_cut (s₀ := s₀) (t := x) ?_ ?_; (on_goal 1 => (try dsimp -zeta only [x])); on_goal 2 => (intro hx; try clear_value x)) | (refine keeps_cut2 (s₀ := s₀) (t := x) ?_ ?_; (on_goal 1 => (try dsimp -zeta only [x])); on_goal 2 => (intro hx; try clear_value x)) | (try clear_value x))
    | with_reducible apply State.onSvi_keeps
    | with_reducible apply State.flagIf_keeps
    | (fail_if_no_progress (with_reducible apply keeps_mk))
    | dsimp -zeta only

theorem State.svOrphans_keeps {s₀ s : State}  (h : Keeps s₀ s) : Keeps s₀ (State.svOrphans s) := by
  unfold State.svOrphans
  repeat' first
    | with_reducible assumption
    | intro _
    | ((fail_if_no_progress extract_lets +onlyGivenNames x); first | (refine keeps_cut (s₀ := s₀) (t := x) ?_ ?_; (on_goal 1 => (try dsimp -zeta only [x])); on_goal 2 => (intro hx; try clear_value x)) | (refine keeps_cut2 (s₀ := s₀) (t := x) ?_ ?_; (on_goal 1 => (try dsimp -zeta only [x])); on_goal 2 => (intro hx; try clear_value x)) | (try clear_value x))
    | with_reducible apply State.svKeyWatch_keeps
    | with_reducible apply State.giveVerdict_keeps
    | with_reducible apply State.flag_keeps
    | with_reducible apply State.afterIngest_keeps
    | with_reducible apply keeps_foldl
    | with_reducible apply keeps_foldl_fst
    | with_reducible apply keeps_foldl_snd
    | split
    | dsimp -zeta only

theorem State.burnDone_keeps {s₀ s : State}  (h : Keeps s₀ s) : Keeps s₀ (State.burnDone s) := by
  unfold State.burnDone
  repeat' first
    | with_reducible assumption
    | intro _
    | ((fail_if_no_progress extract_lets +onlyGivenNames x); first | (refine keeps_cut (s₀ := s₀) (t := x) ?_ ?_; (on_goal 1 => (try dsimp -zeta only [x])); on_goal 2 => (intro hx; try clear_value x)) | (refine keeps_cut2 (s₀ := s₀) (t := x) ?_ ?_; (on_goal 1 => (try dsimp -zeta only [x])); on_goal 2 => (intro hx; try clear_value x)) | (try clear_value x))
    | with_reducible apply State.onLcs_keeps
    | with_reducible apply State.zeroize_keeps
    | with_reducible apply State.svOrphans_keeps
    | with_reducible apply State.wr_keeps
    | with_reducible apply State.flag_keeps
    | with_reducible apply State.debugClose_keeps
    | with_reducible apply State.lifecycleEvent_keeps
    | split
    | (fail_if_no_progress (with_reducible apply keeps_mk))
    | dsimp -zeta only

theorem State.tamperEvent_keeps {s₀ s : State} (e : Nat) (flags : Nat) (h : Keeps s₀ s) : Keeps s₀ (State.tamperEvent s e flags) := by
  unfold State.tamperEvent
  repeat' first
    | with_reducible assumption
    | intro _
    | with_reducible apply State.event_keeps
    | dsimp -zeta only

theorem State.tlogAdd_keeps {s₀ s : State} (e : Nat) (h : Keeps s₀ s) : Keeps s₀ (State.tlogAdd s e) := by
  unfold State.tlogAdd
  repeat' first
    | with_reducible assumption
    | intro _
    | ((fail_if_no_progress extract_lets +onlyGivenNames x); first | (refine keeps_cut (s₀ := s₀) (t := x) ?_ ?_; (on_goal 1 => (try dsimp -zeta only [x])); on_goal 2 => (intro hx; try clear_value x)) | (refine keeps_cut2 (s₀ := s₀) (t := x) ?_ ?_; (on_goal 1 => (try dsimp -zeta only [x])); on_goal 2 => (intro hx; try clear_value x)) | (try clear_value x))
    | with_reducible apply State.onLcs_keeps
    | with_reducible apply State.flagIf_keeps
    | with_reducible apply keeps_getD
    | split
    | (fail_if_no_progress (with_reducible apply keeps_mk))
    | dsimp -zeta only

theorem State.tlogReport_keeps {s₀ s : State}  (h : Keeps s₀ s) : Keeps s₀ (State.tlogReport s) := by
  unfold State.tlogReport
  repeat' first
    | with_reducible assumption
    | intro _
    | ((fail_if_no_progress extract_lets +onlyGivenNames x); first | (refine keeps_cut (s₀ := s₀) (t := x) ?_ ?_; (on_goal 1 => (try dsimp -zeta only [x])); on_goal 2 => (intro hx; try clear_value x)) | (refine keeps_cut2 (s₀ := s₀) (t := x) ?_ ?_; (on_goal 1 => (try dsimp -zeta only [x])); on_goal 2 => (intro hx; try clear_value x)) | (try clear_value x))
    | with_reducible apply State.tamperEvent_keeps
    | with_reducible apply State.onLcs_keeps
    | with_reducible apply keeps_foldl
    | with_reducible apply keeps_foldl_fst
    | with_reducible apply keeps_foldl_snd
    | split
    | (fail_if_no_progress (with_reducible apply keeps_mk))
    | dsimp -zeta only

theorem State.tamperZeroize_keeps {s₀ s : State} (classP : Bool) (h : Keeps s₀ s) : Keeps s₀ (State.tamperZeroize s classP) := by
  unfold State.tamperZeroize
  repeat' first
    | with_reducible assumption
    | intro _
    | ((fail_if_no_progress extract_lets +onlyGivenNames x); first | (refine keeps_cut (s₀ := s₀) (t := x) ?_ ?_; (on_goal 1 => (try dsimp -zeta only [x])); on_goal 2 => (intro hx; try clear_value x)) | (refine keeps_cut2 (s₀ := s₀) (t := x) ?_ ?_; (on_goal 1 => (try dsimp -zeta only [x])); on_goal 2 => (intro hx; try clear_value x)) | (try clear_value x))
    | with_reducible apply State.keyForce_keeps
    | with_reducible apply State.keyComplete_keeps
    | with_reducible apply State.storeCut_keeps
    | with_reducible apply State.storeEnd_keeps
    | with_reducible apply State.storeFail_keeps
    | with_reducible apply State.zeroize_keeps
    | with_reducible apply State.svOrphans_keeps
    | split
    | dsimp -zeta only

theorem State.tamperStops_keeps {s₀ s : State}  (h : Keeps s₀ s) : Keeps s₀ (State.tamperStops s) := by
  unfold State.tamperStops
  repeat' first
    | with_reducible assumption
    | intro _
    | ((fail_if_no_progress extract_lets +onlyGivenNames x); first | (refine keeps_cut (s₀ := s₀) (t := x) ?_ ?_; (on_goal 1 => (try dsimp -zeta only [x])); on_goal 2 => (intro hx; try clear_value x)) | (refine keeps_cut2 (s₀ := s₀) (t := x) ?_ ?_; (on_goal 1 => (try dsimp -zeta only [x])); on_goal 2 => (intro hx; try clear_value x)) | (try clear_value x))
    | with_reducible apply State.unsealStop_keeps
    | with_reducible apply State.onKey_keeps
    | with_reducible apply State.wr_keeps
    | with_reducible apply State.bndFail_keeps
    | with_reducible apply State.tipFail_keeps
    | with_reducible apply State.tokenRefuse_keeps
    | with_reducible apply State.challengeVoid_keeps
    | with_reducible apply State.onLcs_keeps
    | split
    | (fail_if_no_progress (with_reducible apply keeps_mk))
    | dsimp -zeta only

theorem State.tamperRespond_keeps {s₀ s : State} (resp : Nat) (classP : Bool) (h : Keeps s₀ s) : Keeps s₀ (State.tamperRespond s resp classP) := by
  unfold State.tamperRespond
  repeat' first
    | with_reducible assumption
    | intro _
    | ((fail_if_no_progress extract_lets +onlyGivenNames x); first | (refine keeps_cut (s₀ := s₀) (t := x) ?_ ?_; (on_goal 1 => (try dsimp -zeta only [x])); on_goal 2 => (intro hx; try clear_value x)) | (refine keeps_cut2 (s₀ := s₀) (t := x) ?_ ?_; (on_goal 1 => (try dsimp -zeta only [x])); on_goal 2 => (intro hx; try clear_value x)) | (try clear_value x))
    | with_reducible apply State.wr_keeps
    | with_reducible apply State.onLcs_keeps
    | with_reducible apply State.debugClose_keeps
    | with_reducible apply State.tamperZeroize_keeps
    | split
    | (fail_if_no_progress (with_reducible apply keeps_mk))
    | dsimp -zeta only

theorem State.tamper_keeps {s₀ s : State} (sensors : Nat) (h : Keeps s₀ s) : Keeps s₀ (State.tamper s sensors) := by
  unfold State.tamper
  repeat' first
    | with_reducible assumption
    | intro _
    | ((fail_if_no_progress extract_lets +onlyGivenNames x); first | (refine keeps_cut (s₀ := s₀) (t := x) ?_ ?_; (on_goal 1 => (try dsimp -zeta only [x])); on_goal 2 => (intro hx; try clear_value x)) | (refine keeps_cut2 (s₀ := s₀) (t := x) ?_ ?_; (on_goal 1 => (try dsimp -zeta only [x])); on_goal 2 => (intro hx; try clear_value x)) | (try clear_value x))
    | with_reducible apply State.wr_keeps
    | with_reducible apply State.live_keeps
    | with_reducible apply State.tamperStops_keeps
    | with_reducible apply State.tamperRespond_keeps
    | with_reducible apply State.flag_keeps
    | with_reducible apply State.tlogAdd_keeps
    | with_reducible apply State.tamperEvent_keeps
    | with_reducible apply keeps_foldl
    | with_reducible apply keeps_foldl_fst
    | with_reducible apply keeps_foldl_snd
    | split
    | dsimp -zeta only
    | with_reducible apply_assumption

theorem State.tamperRelease_keeps {s₀ s : State}  (h : Keeps s₀ s) : Keeps s₀ (State.tamperRelease s) := by
  unfold State.tamperRelease
  repeat' first
    | with_reducible assumption
    | intro _
    | with_reducible apply State.wr_keeps
    | with_reducible apply State.onLcs_keeps
    | (fail_if_no_progress (with_reducible apply keeps_mk))
    | dsimp -zeta only

theorem State.releaseWrite_keeps {s₀ s : State}  (h : Keeps s₀ s) : Keeps s₀ (State.releaseWrite s) := by
  unfold State.releaseWrite
  repeat' first
    | with_reducible assumption
    | intro _
    | with_reducible apply State.tamperRelease_keeps
    | with_reducible apply State.onLcs_keeps
    | split
    | (fail_if_no_progress (with_reducible apply keeps_mk))
    | dsimp -zeta only

theorem State.tamperHoldExpire_keeps {s₀ s : State}  (h : Keeps s₀ s) : Keeps s₀ (State.tamperHoldExpire s) := by
  unfold State.tamperHoldExpire
  repeat' first
    | with_reducible assumption
    | intro _
    | with_reducible apply State.tamperRelease_keeps
    | with_reducible apply State.onLcs_keeps
    | split
    | (fail_if_no_progress (with_reducible apply keeps_mk))
    | dsimp -zeta only

end Sys2Proof.Machine
end

