-- ==== Sys2Proof/Laws/KeepsHkaOps.lean ====
section
/-! SUPPORT. The operations of HkaOps have the relation `Keeps`. -/

namespace Sys2Proof.Machine

open Sys2Proof Reg

set_option linter.unusedTactic false
set_option linter.unreachableTactic false

theorem State.monPut_keeps {s₀ s : State} (m : Nat) (b : Bits) (v : Nat) (h : Keeps s₀ s) : Keeps s₀ (State.monPut s m b v) := by
  unfold State.monPut
  repeat' first
    | with_reducible assumption
    | intro _
    | with_reducible apply State.onHka_keeps
    | (fail_if_no_progress (with_reducible apply keeps_mk))
    | dsimp -zeta only

theorem State.wearEvent_keeps {s₀ s : State} (kind : Nat) (mon : Nat) (action : Nat) (prop : Nat) (value : Nat) (level : Nat) (spares : Nat) (h : Keeps s₀ s) : Keeps s₀ (State.wearEvent s kind mon action prop value level spares) := by
  unfold State.wearEvent
  repeat' first
    | with_reducible assumption
    | intro _
    | with_reducible apply State.event_keeps
    | dsimp -zeta only

theorem State.hkaShow_keeps {s₀ s : State}  (h : Keeps s₀ s) : Keeps s₀ (State.hkaShow s) := by
  unfold State.hkaShow
  repeat' first
    | with_reducible assumption
    | intro _
    | with_reducible apply State.wr_keeps
    | with_reducible apply State.wrB_keeps
    | dsimp -zeta only

theorem State.propWrite_keeps {s₀ s : State} (i : Nat) (p : HkaProp) (h : Keeps s₀ s) : Keeps s₀ (State.propWrite s i p) := by
  unfold State.propWrite
  repeat' first
    | with_reducible assumption
    | intro _
    | ((fail_if_no_progress extract_lets +onlyGivenNames x); first | (refine keeps_cut (s₀ := s₀) (t := x) ?_ ?_; (on_goal 1 => (try dsimp -zeta only [x])); on_goal 2 => (intro hx; try clear_value x)) | (refine keeps_cut2 (s₀ := s₀) (t := x) ?_ ?_; (on_goal 1 => (try dsimp -zeta only [x])); on_goal 2 => (intro hx; try clear_value x)) | (try clear_value x))
    | with_reducible apply State.onHka_keeps
    | with_reducible apply State.monPut_keeps
    | with_reducible apply State.flag_keeps
    | with_reducible apply State.bump_keeps
    | with_reducible apply State.wearEvent_keeps
    | with_reducible apply State.hkaShow_keeps
    | (fail_if_no_progress (with_reducible apply keeps_mk))
    | dsimp -zeta only

theorem State.propose_keeps {s₀ s : State} (p : HkaProp) (h : Keeps s₀ s) : Keeps s₀ (State.propose s p) := by
  unfold State.propose
  repeat' first
    | with_reducible assumption
    | intro _
    | with_reducible apply State.monPut_keeps
    | with_reducible apply State.flag_keeps
    | with_reducible apply State.wearEvent_keeps
    | with_reducible apply State.propWrite_keeps
    | with_reducible apply State.onHka_keeps
    | split
    | (fail_if_no_progress (with_reducible apply keeps_mk))
    | dsimp -zeta only

theorem State.proposeWaiting_keeps {s₀ s : State}  (h : Keeps s₀ s) : Keeps s₀ (State.proposeWaiting s) := by
  unfold State.proposeWaiting
  repeat' first
    | with_reducible assumption
    | intro _
    | with_reducible apply State.onHka_keeps
    | with_reducible apply State.propWrite_keeps
    | split
    | (fail_if_no_progress (with_reducible apply keeps_mk))
    | dsimp -zeta only

theorem State.propClose_keeps {s₀ s : State} (i : Nat) (st : Nat) (h : Keeps s₀ s) : Keeps s₀ (State.propClose s i st) := by
  unfold State.propClose
  repeat' first
    | with_reducible assumption
    | intro _
    | ((fail_if_no_progress extract_lets +onlyGivenNames x); first | (refine keeps_cut (s₀ := s₀) (t := x) ?_ ?_; (on_goal 1 => (try dsimp -zeta only [x])); on_goal 2 => (intro hx; try clear_value x)) | (refine keeps_cut2 (s₀ := s₀) (t := x) ?_ ?_; (on_goal 1 => (try dsimp -zeta only [x])); on_goal 2 => (intro hx; try clear_value x)) | (try clear_value x))
    | with_reducible apply State.onHka_keeps
    | with_reducible apply State.monPut_keeps
    | with_reducible apply State.wearEvent_keeps
    | with_reducible apply State.hkaShow_keeps
    | with_reducible apply State.proposeWaiting_keeps
    | split
    | (fail_if_no_progress (with_reducible apply keeps_mk))
    | dsimp -zeta only

theorem State.propSettle_keeps {s₀ s : State} (m : Nat) (st : Nat) (h : Keeps s₀ s) : Keeps s₀ (State.propSettle s m st) := by
  unfold State.propSettle
  repeat' first
    | with_reducible assumption
    | intro _
    | ((fail_if_no_progress extract_lets +onlyGivenNames x); first | (refine keeps_cut (s₀ := s₀) (t := x) ?_ ?_; (on_goal 1 => (try dsimp -zeta only [x])); on_goal 2 => (intro hx; try clear_value x)) | (refine keeps_cut2 (s₀ := s₀) (t := x) ?_ ?_; (on_goal 1 => (try dsimp -zeta only [x])); on_goal 2 => (intro hx; try clear_value x)) | (try clear_value x))
    | with_reducible apply State.onHka_keeps
    | with_reducible apply State.propClose_keeps
    | split
    | (fail_if_no_progress (with_reducible apply keeps_mk))
    | dsimp -zeta only

theorem State.hkaFollow_keeps {s₀ s : State} (before : State) (commanded : Bool) (h : Keeps s₀ s) : Keeps s₀ (State.hkaFollow s before commanded) := by
  unfold State.hkaFollow
  repeat' first
    | with_reducible assumption
    | intro _
    | ((fail_if_no_progress extract_lets +onlyGivenNames x); first | (refine keeps_cut (s₀ := s₀) (t := x) ?_ ?_; (on_goal 1 => (try dsimp -zeta only [x])); on_goal 2 => (intro hx; try clear_value x)) | (refine keeps_cut2 (s₀ := s₀) (t := x) ?_ ?_; (on_goal 1 => (try dsimp -zeta only [x])); on_goal 2 => (intro hx; try clear_value x)) | (try clear_value x))
    | with_reducible apply State.propSettle_keeps
    | with_reducible apply keeps_foldl
    | with_reducible apply keeps_foldl_fst
    | with_reducible apply keeps_foldl_snd
    | split
    | dsimp -zeta only

theorem State.proposeOpt_keeps {s₀ s : State} (p : Option HkaProp) (h : Keeps s₀ s) : Keeps s₀ (State.proposeOpt s p) := by
  unfold State.proposeOpt
  repeat' first
    | with_reducible assumption
    | intro _
    | with_reducible apply State.propose_keeps
    | split
    | dsimp -zeta only

theorem State.monTake_keeps {s₀ s : State} (m : Nat) (v : Nat) (warn : Nat) (trouble : Fld) (h : Keeps s₀ s) : Keeps s₀ (State.monTake s m v warn trouble) := by
  unfold State.monTake
  repeat' first
    | with_reducible assumption
    | intro _
    | ((fail_if_no_progress extract_lets +onlyGivenNames x); first | (refine keeps_cut (s₀ := s₀) (t := x) ?_ ?_; (on_goal 1 => (try dsimp -zeta only [x])); on_goal 2 => (intro hx; try clear_value x)) | (refine keeps_cut2 (s₀ := s₀) (t := x) ?_ ?_; (on_goal 1 => (try dsimp -zeta only [x])); on_goal 2 => (intro hx; try clear_value x)) | (try clear_value x))
    | with_reducible apply State.monPut_keeps
    | with_reducible apply State.flag_keeps
    | with_reducible apply State.wearEvent_keeps
    | split
    | dsimp -zeta only

theorem State.ageing_keeps {s₀ s : State} (ppm : List Nat) (nand : Nat) (h : Keeps s₀ s) : Keeps s₀ (State.ageing s ppm nand) := by
  unfold State.ageing
  repeat' first
    | with_reducible assumption
    | intro _
    | ((fail_if_no_progress extract_lets +onlyGivenNames x); first | (refine keeps_cut (s₀ := s₀) (t := x) ?_ ?_; (on_goal 1 => (try dsimp -zeta only [x])); on_goal 2 => (intro hx; try clear_value x)) | (refine keeps_cut2 (s₀ := s₀) (t := x) ?_ ?_; (on_goal 1 => (try dsimp -zeta only [x])); on_goal 2 => (intro hx; try clear_value x)) | (try clear_value x))
    | with_reducible apply State.onHka_keeps
    | with_reducible apply State.monTake_keeps
    | with_reducible apply State.proposeOpt_keeps
    | with_reducible apply State.propose_keeps
    | with_reducible apply keeps_foldl
    | with_reducible apply keeps_foldl_fst
    | with_reducible apply keeps_foldl_snd
    | split
    | (fail_if_no_progress (with_reducible apply keeps_mk))
    | dsimp -zeta only

theorem State.lifeAccrue_keeps {s₀ s : State}  (h : Keeps s₀ s) : Keeps s₀ (State.lifeAccrue s) := by
  unfold State.lifeAccrue
  repeat' first
    | with_reducible assumption
    | intro _
    | ((fail_if_no_progress extract_lets +onlyGivenNames x); first | (refine keeps_cut (s₀ := s₀) (t := x) ?_ ?_; (on_goal 1 => (try dsimp -zeta only [x])); on_goal 2 => (intro hx; try clear_value x)) | (refine keeps_cut2 (s₀ := s₀) (t := x) ?_ ?_; (on_goal 1 => (try dsimp -zeta only [x])); on_goal 2 => (intro hx; try clear_value x)) | (try clear_value x))
    | with_reducible apply State.onHka_keeps
    | with_reducible apply State.monTake_keeps
    | with_reducible apply State.propose_keeps
    | split
    | (fail_if_no_progress (with_reducible apply keeps_mk))
    | dsimp -zeta only

theorem State.lifeCommit_keeps {s₀ s : State}  (h : Keeps s₀ s) : Keeps s₀ (State.lifeCommit s) := by
  unfold State.lifeCommit
  repeat' first
    | with_reducible assumption
    | intro _
    | with_reducible apply State.onHka_keeps
    | with_reducible apply State.wr_keeps
    | split
    | (fail_if_no_progress (with_reducible apply keeps_mk))
    | dsimp -zeta only

theorem State.eccJudge_keeps {s₀ s : State} (m : Nat) (h : Keeps s₀ s) : Keeps s₀ (State.eccJudge s m) := by
  unfold State.eccJudge
  repeat' first
    | with_reducible assumption
    | intro _
    | with_reducible apply State.flagIf_keeps
    | with_reducible apply State.monPut_keeps
    | with_reducible apply State.propose_keeps
    | split
    | dsimp -zeta only

theorem State.eccCorrected_keeps {s₀ s : State} (m : Nat) (target : Nat) (inst : Nat) (addr : Nat) (h : Keeps s₀ s) : Keeps s₀ (State.eccCorrected s m target inst addr) := by
  unfold State.eccCorrected
  repeat' first
    | with_reducible assumption
    | intro _
    | ((fail_if_no_progress extract_lets +onlyGivenNames x); first | (refine keeps_cut (s₀ := s₀) (t := x) ?_ ?_; (on_goal 1 => (try dsimp -zeta only [x])); on_goal 2 => (intro hx; try clear_value x)) | (refine keeps_cut2 (s₀ := s₀) (t := x) ?_ ?_; (on_goal 1 => (try dsimp -zeta only [x])); on_goal 2 => (intro hx; try clear_value x)) | (try clear_value x))
    | with_reducible apply State.monPut_keeps
    | with_reducible apply State.onHka_keeps
    | with_reducible apply State.eccJudge_keeps
    | split
    | (fail_if_no_progress (with_reducible apply keeps_mk))
    | dsimp -zeta only

theorem State.eccWindow_keeps {s₀ s : State}  (h : Keeps s₀ s) : Keeps s₀ (State.eccWindow s) := by
  unfold State.eccWindow
  repeat' first
    | with_reducible assumption
    | intro _
    | ((fail_if_no_progress extract_lets +onlyGivenNames x); first | (refine keeps_cut (s₀ := s₀) (t := x) ?_ ?_; (on_goal 1 => (try dsimp -zeta only [x])); on_goal 2 => (intro hx; try clear_value x)) | (refine keeps_cut2 (s₀ := s₀) (t := x) ?_ ?_; (on_goal 1 => (try dsimp -zeta only [x])); on_goal 2 => (intro hx; try clear_value x)) | (try clear_value x))
    | with_reducible apply State.onHka_keeps
    | with_reducible apply State.eccJudge_keeps
    | with_reducible apply State.monPut_keeps
    | with_reducible apply keeps_foldl
    | with_reducible apply keeps_foldl_fst
    | with_reducible apply keeps_foldl_snd
    | split
    | (fail_if_no_progress (with_reducible apply keeps_mk))
    | dsimp -zeta only

theorem State.tempCheck_keeps {s₀ s : State} (c : Nat) (v : Int) (h : Keeps s₀ s) : Keeps s₀ (State.tempCheck s c v) := by
  unfold State.tempCheck
  repeat' first
    | with_reducible assumption
    | intro _
    | ((fail_if_no_progress extract_lets +onlyGivenNames x); first | (refine keeps_cut (s₀ := s₀) (t := x) ?_ ?_; (on_goal 1 => (try dsimp -zeta only [x])); on_goal 2 => (intro hx; try clear_value x)) | (refine keeps_cut2 (s₀ := s₀) (t := x) ?_ ?_; (on_goal 1 => (try dsimp -zeta only [x])); on_goal 2 => (intro hx; try clear_value x)) | (try clear_value x))
    | with_reducible apply State.onHka_keeps
    | with_reducible apply State.flag_keeps
    | with_reducible apply State.wearEvent_keeps
    | split
    | (fail_if_no_progress (with_reducible apply keeps_mk))
    | dsimp -zeta only

theorem State.sweep_keeps {s₀ s : State} (vals : List Int) (h : Keeps s₀ s) : Keeps s₀ (State.sweep s vals) := by
  unfold State.sweep
  repeat' first
    | with_reducible assumption
    | intro _
    | ((fail_if_no_progress extract_lets +onlyGivenNames x); first | (refine keeps_cut (s₀ := s₀) (t := x) ?_ ?_; (on_goal 1 => (try dsimp -zeta only [x])); on_goal 2 => (intro hx; try clear_value x)) | (refine keeps_cut2 (s₀ := s₀) (t := x) ?_ ?_; (on_goal 1 => (try dsimp -zeta only [x])); on_goal 2 => (intro hx; try clear_value x)) | (try clear_value x))
    | with_reducible apply State.onHka_keeps
    | with_reducible apply State.tempCheck_keeps
    | with_reducible apply keeps_foldl
    | with_reducible apply keeps_foldl_fst
    | with_reducible apply keeps_foldl_snd
    | split
    | (fail_if_no_progress (with_reducible apply keeps_mk))
    | dsimp -zeta only

theorem State.convGo_keeps {s₀ s : State} (channel : Nat) (urgent : Bool) (h : Keeps s₀ s) : Keeps s₀ (State.convGo s channel urgent) := by
  unfold State.convGo
  repeat' first
    | with_reducible assumption
    | intro _
    | ((fail_if_no_progress extract_lets +onlyGivenNames x); first | (refine keeps_cut (s₀ := s₀) (t := x) ?_ ?_; (on_goal 1 => (try dsimp -zeta only [x])); on_goal 2 => (intro hx; try clear_value x)) | (refine keeps_cut2 (s₀ := s₀) (t := x) ?_ ?_; (on_goal 1 => (try dsimp -zeta only [x])); on_goal 2 => (intro hx; try clear_value x)) | (try clear_value x))
    | with_reducible apply State.wr_keeps
    | with_reducible apply State.wrB_keeps
    | with_reducible apply State.flag_keeps
    | with_reducible apply State.onHka_keeps
    | split
    | (fail_if_no_progress (with_reducible apply keeps_mk))
    | dsimp -zeta only

theorem State.convResult_keeps {s₀ s : State} (value : Nat) (h : Keeps s₀ s) : Keeps s₀ (State.convResult s value) := by
  unfold State.convResult
  repeat' first
    | with_reducible assumption
    | intro _
    | ((fail_if_no_progress extract_lets +onlyGivenNames x); first | (refine keeps_cut (s₀ := s₀) (t := x) ?_ ?_; (on_goal 1 => (try dsimp -zeta only [x])); on_goal 2 => (intro hx; try clear_value x)) | (refine keeps_cut2 (s₀ := s₀) (t := x) ?_ ?_; (on_goal 1 => (try dsimp -zeta only [x])); on_goal 2 => (intro hx; try clear_value x)) | (try clear_value x))
    | with_reducible apply State.flag_keeps
    | with_reducible apply State.bump_keeps
    | with_reducible apply State.wrB_keeps
    | with_reducible apply State.wr_keeps
    | with_reducible apply State.wrSat_keeps
    | with_reducible apply State.onHka_keeps
    | split
    | (fail_if_no_progress (with_reducible apply keeps_mk))
    | dsimp -zeta only

theorem State.hkaAnswer_keeps {s₀ s : State} (r : Nat) (h : Keeps s₀ s) : Keeps s₀ (State.hkaAnswer s r) := by
  unfold State.hkaAnswer
  repeat' first
    | with_reducible assumption
    | intro _
    | with_reducible apply State.answer_keeps
    | dsimp -zeta only

theorem State.spareDevice_keeps {s₀ s : State} (rank : Nat) (device : Nat) (h : Keeps s₀ s) : Keeps s₀ (State.spareDevice s rank device) := by
  unfold State.spareDevice
  repeat' first
    | with_reducible assumption
    | intro _
    | ((fail_if_no_progress extract_lets +onlyGivenNames x); first | (refine keeps_cut (s₀ := s₀) (t := x) ?_ ?_; (on_goal 1 => (try dsimp -zeta only [x])); on_goal 2 => (intro hx; try clear_value x)) | (refine keeps_cut2 (s₀ := s₀) (t := x) ?_ ?_; (on_goal 1 => (try dsimp -zeta only [x])); on_goal 2 => (intro hx; try clear_value x)) | (try clear_value x))
    | with_reducible apply State.wr_keeps
    | with_reducible apply State.hkaAnswer_keeps
    | with_reducible apply State.flag_keeps
    | with_reducible apply State.begin_keeps
    | with_reducible apply State.onHka_keeps
    | with_reducible apply State.hkaShow_keeps
    | split
    | (fail_if_no_progress (with_reducible apply keeps_mk))
    | dsimp -zeta only

theorem State.rebuildDone_keeps {s₀ s : State}  (h : Keeps s₀ s) : Keeps s₀ (State.rebuildDone s) := by
  unfold State.rebuildDone
  repeat' first
    | with_reducible assumption
    | intro _
    | ((fail_if_no_progress extract_lets +onlyGivenNames x); first | (refine keeps_cut (s₀ := s₀) (t := x) ?_ ?_; (on_goal 1 => (try dsimp -zeta only [x])); on_goal 2 => (intro hx; try clear_value x)) | (refine keeps_cut2 (s₀ := s₀) (t := x) ?_ ?_; (on_goal 1 => (try dsimp -zeta only [x])); on_goal 2 => (intro hx; try clear_value x)) | (try clear_value x))
    | with_reducible apply State.onHka_keeps
    | with_reducible apply State.wrBit_keeps
    | with_reducible apply State.finish_keeps
    | with_reducible apply State.hkaShow_keeps
    | with_reducible apply State.propSettle_keeps
    | split
    | (fail_if_no_progress (with_reducible apply keeps_mk))
    | dsimp -zeta only

theorem State.rebuildStop_keeps {s₀ s : State}  (h : Keeps s₀ s) : Keeps s₀ (State.rebuildStop s) := by
  unfold State.rebuildStop
  repeat' first
    | with_reducible assumption
    | intro _
    | with_reducible apply State.onHka_keeps
    | with_reducible apply State.finish_keeps
    | with_reducible apply State.flag_keeps
    | with_reducible apply State.hkaShow_keeps
    | split
    | (fail_if_no_progress (with_reducible apply keeps_mk))
    | dsimp -zeta only

theorem State.queueRepair_keeps {s₀ s : State} (i : Nat) (h : Keeps s₀ s) : Keeps s₀ (State.queueRepair s i) := by
  unfold State.queueRepair
  repeat' first
    | with_reducible assumption
    | intro _
    | ((fail_if_no_progress extract_lets +onlyGivenNames x); first | (refine keeps_cut (s₀ := s₀) (t := x) ?_ ?_; (on_goal 1 => (try dsimp -zeta only [x])); on_goal 2 => (intro hx; try clear_value x)) | (refine keeps_cut2 (s₀ := s₀) (t := x) ?_ ?_; (on_goal 1 => (try dsimp -zeta only [x])); on_goal 2 => (intro hx; try clear_value x)) | (try clear_value x))
    | with_reducible apply State.wr_keeps
    | with_reducible apply State.hkaAnswer_keeps
    | with_reducible apply State.onHka_keeps
    | with_reducible apply State.propClose_keeps
    | split
    | (fail_if_no_progress (with_reducible apply keeps_mk))
    | dsimp -zeta only

theorem State.dismiss_keeps {s₀ s : State} (i : Nat) (h : Keeps s₀ s) : Keeps s₀ (State.dismiss s i) := by
  unfold State.dismiss
  repeat' first
    | with_reducible assumption
    | intro _
    | ((fail_if_no_progress extract_lets +onlyGivenNames x); first | (refine keeps_cut (s₀ := s₀) (t := x) ?_ ?_; (on_goal 1 => (try dsimp -zeta only [x])); on_goal 2 => (intro hx; try clear_value x)) | (refine keeps_cut2 (s₀ := s₀) (t := x) ?_ ?_; (on_goal 1 => (try dsimp -zeta only [x])); on_goal 2 => (intro hx; try clear_value x)) | (try clear_value x))
    | with_reducible apply State.wr_keeps
    | with_reducible apply State.hkaAnswer_keeps
    | with_reducible apply State.onHka_keeps
    | with_reducible apply State.propClose_keeps
    | split
    | (fail_if_no_progress (with_reducible apply keeps_mk))
    | dsimp -zeta only

theorem State.remind_keeps {s₀ s : State} (m : Nat) (h : Keeps s₀ s) : Keeps s₀ (State.remind s m) := by
  unfold State.remind
  repeat' first
    | with_reducible assumption
    | intro _
    | ((fail_if_no_progress extract_lets +onlyGivenNames x); first | (refine keeps_cut (s₀ := s₀) (t := x) ?_ ?_; (on_goal 1 => (try dsimp -zeta only [x])); on_goal 2 => (intro hx; try clear_value x)) | (refine keeps_cut2 (s₀ := s₀) (t := x) ?_ ?_; (on_goal 1 => (try dsimp -zeta only [x])); on_goal 2 => (intro hx; try clear_value x)) | (try clear_value x))
    | with_reducible apply State.onHka_keeps
    | with_reducible apply State.proposeOpt_keeps
    | split
    | (fail_if_no_progress (with_reducible apply keeps_mk))
    | dsimp -zeta only

end Sys2Proof.Machine
end

