-- ==== Sys2Proof/Laws/KeepsSysOps.lean ====
section
/-! SUPPORT. The operations of SysOps have the relation `Keeps`. -/

namespace Sys2Proof.Machine

open Sys2Proof Reg

set_option linter.unusedTactic false
set_option linter.unreachableTactic false

theorem foldl_put_wf {α : Type} (l : List α) (r : Store) (k d v : α → Nat) (h : r.wf = true) :
    (l.foldl (fun r x => r.put (k x) (d x) (v x)) r).wf = true := by
  induction l generalizing r with
  | nil => exact h
  | cons x l ih => exact ih _ (Store.put_wf _ _ _ h)

/-- The registers after a power-on reset are in canonical form. -/
theorem reset_regs_wf : State.reset.regs.wf = true := by
  unfold State.reset
  dsimp only
  generalize resetFields = l
  exact foldl_put_wf l [] _ _ _ rfl

theorem State.keepRegs_wf (s : State) (fs : List Fld) (r : Store) (h : r.wf = true) : (s.keepRegs fs r).wf = true :=
  foldl_put_wf fs r _ _ _ h

theorem State.cleared_keeps {s₀ s : State} (kind : Nat) (h : Keeps s₀ s) : Keeps s₀ (State.cleared s kind) :=
  h.trans ⟨rfl, rfl, Nat.le_refl _, Nat.le_refl _, Nat.le_refl _, fun w =>
    ⟨State.keepRegs_wf _ _ _ (State.keepRegs_wf _ _ _ reset_regs_wf), rfl, (map_ids s.tables (fun t => { id := t.id }) (fun _ => rfl)).trans w.tables⟩⟩

theorem State.resetTo_keeps {s₀ s : State} (kind : Nat) (h : Keeps s₀ s) : Keeps s₀ (State.resetTo s kind) := by
  unfold State.resetTo
  repeat' first
    | with_reducible assumption
    | intro _
    | ((fail_if_no_progress extract_lets +onlyGivenNames x); first | (refine keeps_cut (s₀ := s₀) (t := x) ?_ ?_; (on_goal 1 => (try dsimp -zeta only [x])); on_goal 2 => (intro hx; try clear_value x)) | (refine keeps_cut2 (s₀ := s₀) (t := x) ?_ ?_; (on_goal 1 => (try dsimp -zeta only [x])); on_goal 2 => (intro hx; try clear_value x)) | (try clear_value x))
    | with_reducible apply State.storeCut_keeps
    | with_reducible apply State.cleared_keeps
    | with_reducible apply State.wr_keeps
    | with_reducible apply State.wrSat_keeps
    | with_reducible apply State.setDebug_keeps
    | with_reducible apply State.gShow_keeps
    | with_reducible apply State.lifecycleEvent_keeps
    | split
    | dsimp -zeta only

theorem State.failAdd_keeps {s₀ s : State} (e : Nat) (h : Keeps s₀ s) : Keeps s₀ (State.failAdd s e) := by
  unfold State.failAdd
  repeat' first
    | with_reducible assumption
    | intro _
    | ((fail_if_no_progress extract_lets +onlyGivenNames x); first | (refine keeps_cut (s₀ := s₀) (t := x) ?_ ?_; (on_goal 1 => (try dsimp -zeta only [x])); on_goal 2 => (intro hx; try clear_value x)) | (refine keeps_cut2 (s₀ := s₀) (t := x) ?_ ?_; (on_goal 1 => (try dsimp -zeta only [x])); on_goal 2 => (intro hx; try clear_value x)) | (try clear_value x))
    | with_reducible apply State.onSys_keeps
    | with_reducible apply State.bump_keeps
    | with_reducible apply State.wr_keeps
    | with_reducible apply State.flag_keeps
    | split
    | (fail_if_no_progress (with_reducible apply keeps_mk))
    | dsimp -zeta only

theorem State.failClear_keeps {s₀ s : State}  (h : Keeps s₀ s) : Keeps s₀ (State.failClear s) := by
  unfold State.failClear
  repeat' first
    | with_reducible assumption
    | intro _
    | with_reducible apply State.onSys_keeps
    | with_reducible apply State.wr_keeps
    | (fail_if_no_progress (with_reducible apply keeps_mk))
    | dsimp -zeta only

theorem State.memFinding_keeps {s₀ s : State} (f : Finding) (h : Keeps s₀ s) : Keeps s₀ (State.memFinding s f) := by
  unfold State.memFinding
  repeat' first
    | with_reducible assumption
    | intro _
    | ((fail_if_no_progress extract_lets +onlyGivenNames x); first | (refine keeps_cut (s₀ := s₀) (t := x) ?_ ?_; (on_goal 1 => (try dsimp -zeta only [x])); on_goal 2 => (intro hx; try clear_value x)) | (refine keeps_cut2 (s₀ := s₀) (t := x) ?_ ?_; (on_goal 1 => (try dsimp -zeta only [x])); on_goal 2 => (intro hx; try clear_value x)) | (try clear_value x))
    | with_reducible apply State.flagIf_keeps
    | with_reducible apply State.onSys_keeps
    | with_reducible apply State.wr_keeps
    | with_reducible apply State.wrSat_keeps
    | with_reducible apply State.flag_keeps
    | with_reducible apply State.failAdd_keeps
    | split
    | (fail_if_no_progress (with_reducible apply keeps_mk))
    | dsimp -zeta only

theorem State.logicFinding_keeps {s₀ s : State} (f : Finding) (h : Keeps s₀ s) : Keeps s₀ (State.logicFinding s f) := by
  unfold State.logicFinding
  repeat' first
    | with_reducible assumption
    | intro _
    | with_reducible apply State.failAdd_keeps
    | split
    | dsimp -zeta only

theorem State.bistEvent_keeps {s₀ s : State} (kind : Nat) (mode : Nat) (reset : Nat) (us : Nat) (h : Keeps s₀ s) : Keeps s₀ (State.bistEvent s kind mode reset us) := by
  unfold State.bistEvent
  repeat' first
    | with_reducible assumption
    | intro _
    | ((fail_if_no_progress extract_lets +onlyGivenNames x); first | (refine keeps_cut (s₀ := s₀) (t := x) ?_ ?_; (on_goal 1 => (try dsimp -zeta only [x])); on_goal 2 => (intro hx; try clear_value x)) | (refine keeps_cut2 (s₀ := s₀) (t := x) ?_ ?_; (on_goal 1 => (try dsimp -zeta only [x])); on_goal 2 => (intro hx; try clear_value x)) | (try clear_value x))
    | with_reducible apply State.event_keeps
    | split
    | dsimp -zeta only

theorem State.tested_keeps {s₀ s : State}  (h : Keeps s₀ s) : Keeps s₀ (State.tested s) := by
  unfold State.tested
  repeat' first
    | with_reducible assumption
    | intro _
    | with_reducible apply State.onSys_keeps
    | with_reducible apply State.wr_keeps
    | (fail_if_no_progress (with_reducible apply keeps_mk))
    | dsimp -zeta only

theorem State.bootClocks_keeps {s₀ s : State}  (h : Keeps s₀ s) : Keeps s₀ (State.bootClocks s) := by
  unfold State.bootClocks
  repeat' first
    | with_reducible assumption
    | intro _
    | ((fail_if_no_progress extract_lets +onlyGivenNames x); first | (refine keeps_cut (s₀ := s₀) (t := x) ?_ ?_; (on_goal 1 => (try dsimp -zeta only [x])); on_goal 2 => (intro hx; try clear_value x)) | (refine keeps_cut2 (s₀ := s₀) (t := x) ?_ ?_; (on_goal 1 => (try dsimp -zeta only [x])); on_goal 2 => (intro hx; try clear_value x)) | (try clear_value x))
    | with_reducible apply State.wr_keeps
    | with_reducible apply State.failClear_keeps
    | with_reducible apply State.onSys_keeps
    | with_reducible apply State.tested_keeps
    | split
    | (fail_if_no_progress (with_reducible apply keeps_mk))
    | dsimp -zeta only

theorem State.queuedRepair_keeps {s₀ s : State} (q : Nat × Nat × Nat) (spare : Bool) (h : Keeps s₀ s) : Keeps s₀ (State.queuedRepair s q spare) := by
  unfold State.queuedRepair
  repeat' first
    | with_reducible assumption
    | intro _
    | with_reducible apply State.memFinding_keeps
    | with_reducible apply State.flag_keeps
    | with_reducible apply State.wearEvent_keeps
    | split
    | dsimp -zeta only

theorem State.mbistDone_keeps {s₀ s : State} (fs : List Finding) (spares : List Bool) (h : Keeps s₀ s) : Keeps s₀ (State.mbistDone s fs spares) := by
  unfold State.mbistDone
  repeat' first
    | with_reducible assumption
    | intro _
    | ((fail_if_no_progress extract_lets +onlyGivenNames x); first | (refine keeps_cut (s₀ := s₀) (t := x) ?_ ?_; (on_goal 1 => (try dsimp -zeta only [x])); on_goal 2 => (intro hx; try clear_value x)) | (refine keeps_cut2 (s₀ := s₀) (t := x) ?_ ?_; (on_goal 1 => (try dsimp -zeta only [x])); on_goal 2 => (intro hx; try clear_value x)) | (try clear_value x))
    | with_reducible apply State.memFinding_keeps
    | with_reducible apply State.queuedRepair_keeps
    | with_reducible apply State.onHka_keeps
    | with_reducible apply State.wr_keeps
    | with_reducible apply State.onSys_keeps
    | with_reducible apply State.tested_keeps
    | with_reducible apply keeps_foldl
    | with_reducible apply keeps_foldl_fst
    | with_reducible apply keeps_foldl_snd
    | split
    | (fail_if_no_progress (with_reducible apply keeps_mk))
    | dsimp -zeta only

theorem State.lbistDone_keeps {s₀ s : State} (fs : List Finding) (h : Keeps s₀ s) : Keeps s₀ (State.lbistDone s fs) := by
  unfold State.lbistDone
  repeat' first
    | with_reducible assumption
    | intro _
    | with_reducible apply State.logicFinding_keeps
    | with_reducible apply State.tested_keeps
    | with_reducible apply keeps_foldl
    | with_reducible apply keeps_foldl_fst
    | with_reducible apply keeps_foldl_snd
    | split
    | dsimp -zeta only

theorem State.bootRetireUnit_keeps {s₀ s : State} (u : Nat) (h : Keeps s₀ s) : Keeps s₀ (State.bootRetireUnit s u) := by
  unfold State.bootRetireUnit
  repeat' first
    | with_reducible assumption
    | intro _
    | ((fail_if_no_progress extract_lets +onlyGivenNames x); first | (refine keeps_cut (s₀ := s₀) (t := x) ?_ ?_; (on_goal 1 => (try dsimp -zeta only [x])); on_goal 2 => (intro hx; try clear_value x)) | (refine keeps_cut2 (s₀ := s₀) (t := x) ?_ ?_; (on_goal 1 => (try dsimp -zeta only [x])); on_goal 2 => (intro hx; try clear_value x)) | (try clear_value x))
    | with_reducible apply State.setUnit_keeps
    | with_reducible apply State.flag_keeps
    | split
    | dsimp -zeta only

theorem State.bootRetirePair_keeps {s₀ s : State} (p : Nat) (h : Keeps s₀ s) : Keeps s₀ (State.bootRetirePair s p) := by
  unfold State.bootRetirePair
  repeat' first
    | with_reducible assumption
    | intro _
    | with_reducible apply State.wrI_keeps
    | with_reducible apply State.folNoticeNow_keeps
    | dsimp -zeta only

theorem State.bootDecide_keeps {s₀ s : State}  (h : Keeps s₀ s) : Keeps s₀ (State.bootDecide s) := by
  unfold State.bootDecide
  repeat' first
    | with_reducible assumption
    | intro _
    | ((fail_if_no_progress extract_lets +onlyGivenNames x); first | (refine keeps_cut (s₀ := s₀) (t := x) ?_ ?_; (on_goal 1 => (try dsimp -zeta only [x])); on_goal 2 => (intro hx; try clear_value x)) | (refine keeps_cut2 (s₀ := s₀) (t := x) ?_ ?_; (on_goal 1 => (try dsimp -zeta only [x])); on_goal 2 => (intro hx; try clear_value x)) | (try clear_value x))
    | with_reducible apply State.onSys_keeps
    | with_reducible apply State.wr_keeps
    | with_reducible apply State.wrSat_keeps
    | with_reducible apply State.bistEvent_keeps
    | with_reducible apply State.flag_keeps
    | with_reducible apply State.onBnd_keeps
    | with_reducible apply State.bootRetirePair_keeps
    | with_reducible apply State.bootRetireUnit_keeps
    | with_reducible apply State.flagIf_keeps
    | with_reducible apply State.bndLoad_keeps
    | with_reducible apply State.bndLoadWaiting_keeps
    | exact Nat.le_refl _
    | with_reducible apply keeps_foldl
    | with_reducible apply keeps_foldl_fst
    | with_reducible apply keeps_foldl_snd
    | split
    | (fail_if_no_progress (with_reducible apply keeps_mk))
    | dsimp -zeta only

theorem State.bistAnswer_keeps {s₀ s : State} (r : Nat) (h : Keeps s₀ s) : Keeps s₀ (State.bistAnswer s r) := by
  unfold State.bistAnswer
  repeat' first
    | with_reducible assumption
    | intro _
    | with_reducible apply State.answer_keeps
    | dsimp -zeta only

theorem State.bistStart_keeps {s₀ s : State} (target : Nat) (inst : Nat) (h : Keeps s₀ s) : Keeps s₀ (State.bistStart s target inst) := by
  unfold State.bistStart
  repeat' first
    | with_reducible assumption
    | intro _
    | ((fail_if_no_progress extract_lets +onlyGivenNames x); first | (refine keeps_cut (s₀ := s₀) (t := x) ?_ ?_; (on_goal 1 => (try dsimp -zeta only [x])); on_goal 2 => (intro hx; try clear_value x)) | (refine keeps_cut2 (s₀ := s₀) (t := x) ?_ ?_; (on_goal 1 => (try dsimp -zeta only [x])); on_goal 2 => (intro hx; try clear_value x)) | (try clear_value x))
    | with_reducible apply State.wr_keeps
    | with_reducible apply State.bistAnswer_keeps
    | with_reducible apply State.begin_keeps
    | with_reducible apply State.failClear_keeps
    | with_reducible apply State.onSys_keeps
    | with_reducible apply State.wrI_keeps
    | with_reducible apply State.folRefresh_keeps
    | with_reducible apply State.setUnit_keeps
    | split
    | (fail_if_no_progress (with_reducible apply keeps_mk))
    | dsimp -zeta only

theorem State.bistEnd_keeps {s₀ s : State} (r : Nat) (h : Keeps s₀ s) : Keeps s₀ (State.bistEnd s r) := by
  unfold State.bistEnd
  repeat' first
    | with_reducible assumption
    | intro _
    | ((fail_if_no_progress extract_lets +onlyGivenNames x); first | (refine keeps_cut (s₀ := s₀) (t := x) ?_ ?_; (on_goal 1 => (try dsimp -zeta only [x])); on_goal 2 => (intro hx; try clear_value x)) | (refine keeps_cut2 (s₀ := s₀) (t := x) ?_ ?_; (on_goal 1 => (try dsimp -zeta only [x])); on_goal 2 => (intro hx; try clear_value x)) | (try clear_value x))
    | with_reducible apply State.onSys_keeps
    | with_reducible apply State.finish_keeps
    | with_reducible apply State.wrI_keeps
    | with_reducible apply State.setUnit_keeps
    | with_reducible apply State.folNoticeNow_keeps
    | with_reducible apply State.flagIf_keeps
    | with_reducible apply State.bistEvent_keeps
    | with_reducible apply State.folRefresh_keeps
    | split
    | (fail_if_no_progress (with_reducible apply keeps_mk))
    | dsimp -zeta only

theorem State.bistDemandDone_keeps {s₀ s : State} (fs : List Finding) (h : Keeps s₀ s) : Keeps s₀ (State.bistDemandDone s fs) := by
  unfold State.bistDemandDone
  repeat' first
    | with_reducible assumption
    | intro _
    | ((fail_if_no_progress extract_lets +onlyGivenNames x); first | (refine keeps_cut (s₀ := s₀) (t := x) ?_ ?_; (on_goal 1 => (try dsimp -zeta only [x])); on_goal 2 => (intro hx; try clear_value x)) | (refine keeps_cut2 (s₀ := s₀) (t := x) ?_ ?_; (on_goal 1 => (try dsimp -zeta only [x])); on_goal 2 => (intro hx; try clear_value x)) | (try clear_value x))
    | with_reducible apply State.memFinding_keeps
    | with_reducible apply State.logicFinding_keeps
    | with_reducible apply State.bistEnd_keeps
    | with_reducible apply keeps_foldl
    | with_reducible apply keeps_foldl_fst
    | with_reducible apply keeps_foldl_snd
    | split
    | dsimp -zeta only

theorem State.abortPairTest_keeps {s₀ s : State} (p : Nat) (h : Keeps s₀ s) : Keeps s₀ (State.abortPairTest s p) := by
  unfold State.abortPairTest
  repeat' first
    | with_reducible assumption
    | intro _
    | with_reducible apply State.bistEnd_keeps
    | split
    | dsimp -zeta only

theorem State.abortUnitTest_keeps {s₀ s : State} (u : Nat) (h : Keeps s₀ s) : Keeps s₀ (State.abortUnitTest s u) := by
  unfold State.abortUnitTest
  repeat' first
    | with_reducible assumption
    | intro _
    | with_reducible apply State.bistEnd_keeps
    | split
    | dsimp -zeta only

theorem State.clkWrite_keeps {s₀ s : State} (u : Nat) (v : Bool) (h : Keeps s₀ s) : Keeps s₀ (State.clkWrite s u v) := by
  unfold State.clkWrite
  repeat' first
    | with_reducible assumption
    | intro _
    | with_reducible apply State.wrBit_keeps
    | with_reducible apply State.noteSet_keeps
    | with_reducible apply State.flag_keeps
    | split
    | dsimp -zeta only

theorem State.clkReqWrite_keeps {s₀ s : State} (high : Bool) (v : Nat) (h : Keeps s₀ s) : Keeps s₀ (State.clkReqWrite s high v) := by
  unfold State.clkReqWrite
  repeat' first
    | with_reducible assumption
    | intro _
    | with_reducible apply State.clkWrite_keeps
    | with_reducible apply keeps_foldl
    | with_reducible apply keeps_foldl_fst
    | with_reducible apply keeps_foldl_snd
    | split
    | dsimp -zeta only

theorem State.clkRunning_keeps {s₀ s : State} (u : Nat) (h : Keeps s₀ s) : Keeps s₀ (State.clkRunning s u) := by
  unfold State.clkRunning
  repeat' first
    | with_reducible assumption
    | intro _
    | with_reducible apply State.wrBit_keeps
    | split
    | dsimp -zeta only

theorem State.pwrAnswer_keeps {s₀ s : State} (r : Nat) (h : Keeps s₀ s) : Keeps s₀ (State.pwrAnswer s r) := by
  unfold State.pwrAnswer
  repeat' first
    | with_reducible assumption
    | intro _
    | with_reducible apply State.answer_keeps
    | dsimp -zeta only

theorem State.setPower_keeps {s₀ s : State} (p : Nat) (h : Keeps s₀ s) : Keeps s₀ (State.setPower s p) := by
  unfold State.setPower
  repeat' first
    | with_reducible assumption
    | intro _
    | with_reducible apply State.wr_keeps
    | with_reducible apply State.dtUpdate_keeps
    | with_reducible apply State.ctlFollow_keeps
    | dsimp -zeta only

theorem State.pwrRun_keeps {s₀ s : State}  (h : Keeps s₀ s) : Keeps s₀ (State.pwrRun s) := by
  unfold State.pwrRun
  repeat' first
    | with_reducible assumption
    | intro _
    | ((fail_if_no_progress extract_lets +onlyGivenNames x); first | (refine keeps_cut (s₀ := s₀) (t := x) ?_ ?_; (on_goal 1 => (try dsimp -zeta only [x])); on_goal 2 => (intro hx; try clear_value x)) | (refine keeps_cut2 (s₀ := s₀) (t := x) ?_ ?_; (on_goal 1 => (try dsimp -zeta only [x])); on_goal 2 => (intro hx; try clear_value x)) | (try clear_value x))
    | with_reducible apply State.wr_keeps
    | with_reducible apply State.pwrAnswer_keeps
    | with_reducible apply State.setPower_keeps
    | split
    | dsimp -zeta only

theorem State.pwrQuiet_keeps {s₀ s : State}  (h : Keeps s₀ s) : Keeps s₀ (State.pwrQuiet s) := by
  unfold State.pwrQuiet
  repeat' first
    | with_reducible assumption
    | intro _
    | ((fail_if_no_progress extract_lets +onlyGivenNames x); first | (refine keeps_cut (s₀ := s₀) (t := x) ?_ ?_; (on_goal 1 => (try dsimp -zeta only [x])); on_goal 2 => (intro hx; try clear_value x)) | (refine keeps_cut2 (s₀ := s₀) (t := x) ?_ ?_; (on_goal 1 => (try dsimp -zeta only [x])); on_goal 2 => (intro hx; try clear_value x)) | (try clear_value x))
    | with_reducible apply State.wr_keeps
    | with_reducible apply State.pwrAnswer_keeps
    | with_reducible apply State.setPower_keeps
    | split
    | dsimp -zeta only

theorem State.downStart_keeps {s₀ s : State} (target : Nat) (h : Keeps s₀ s) : Keeps s₀ (State.downStart s target) := by
  unfold State.downStart
  repeat' first
    | with_reducible assumption
    | intro _
    | ((fail_if_no_progress extract_lets +onlyGivenNames x); first | (refine keeps_cut (s₀ := s₀) (t := x) ?_ ?_; (on_goal 1 => (try dsimp -zeta only [x])); on_goal 2 => (intro hx; try clear_value x)) | (refine keeps_cut2 (s₀ := s₀) (t := x) ?_ ?_; (on_goal 1 => (try dsimp -zeta only [x])); on_goal 2 => (intro hx; try clear_value x)) | (try clear_value x))
    | with_reducible apply State.debugClose_keeps
    | with_reducible apply State.gStop_keeps
    | with_reducible apply State.gShow_keeps
    | with_reducible apply State.begin_keeps
    | with_reducible apply State.onSys_keeps
    | with_reducible apply keeps_foldl
    | with_reducible apply keeps_foldl_fst
    | with_reducible apply keeps_foldl_snd
    | split
    | (fail_if_no_progress (with_reducible apply keeps_mk))
    | dsimp -zeta only

theorem State.pwrDown_keeps {s₀ s : State} (target : Nat) (h : Keeps s₀ s) : Keeps s₀ (State.pwrDown s target) := by
  unfold State.pwrDown
  repeat' first
    | with_reducible assumption
    | intro _
    | ((fail_if_no_progress extract_lets +onlyGivenNames x); first | (refine keeps_cut (s₀ := s₀) (t := x) ?_ ?_; (on_goal 1 => (try dsimp -zeta only [x])); on_goal 2 => (intro hx; try clear_value x)) | (refine keeps_cut2 (s₀ := s₀) (t := x) ?_ ?_; (on_goal 1 => (try dsimp -zeta only [x])); on_goal 2 => (intro hx; try clear_value x)) | (try clear_value x))
    | with_reducible apply State.wr_keeps
    | with_reducible apply State.pwrAnswer_keeps
    | with_reducible apply State.downStart_keeps
    | split
    | dsimp -zeta only

theorem State.downDone_keeps {s₀ s : State}  (h : Keeps s₀ s) : Keeps s₀ (State.downDone s) := by
  unfold State.downDone
  repeat' first
    | with_reducible assumption
    | intro _
    | ((fail_if_no_progress extract_lets +onlyGivenNames x); first | (refine keeps_cut (s₀ := s₀) (t := x) ?_ ?_; (on_goal 1 => (try dsimp -zeta only [x])); on_goal 2 => (intro hx; try clear_value x)) | (refine keeps_cut2 (s₀ := s₀) (t := x) ?_ ?_; (on_goal 1 => (try dsimp -zeta only [x])); on_goal 2 => (intro hx; try clear_value x)) | (try clear_value x))
    | with_reducible apply State.keyCommitCounts_keeps
    | with_reducible apply State.wrB_keeps
    | with_reducible apply State.finish_keeps
    | with_reducible apply State.wr_keeps
    | with_reducible apply State.onSys_keeps
    | split
    | (fail_if_no_progress (with_reducible apply keeps_mk))
    | dsimp -zeta only

theorem State.pwrEnLow_keeps {s₀ s : State}  (h : Keeps s₀ s) : Keeps s₀ (State.pwrEnLow s) := by
  unfold State.pwrEnLow
  repeat' first
    | with_reducible assumption
    | intro _
    | ((fail_if_no_progress extract_lets +onlyGivenNames x); first | (refine keeps_cut (s₀ := s₀) (t := x) ?_ ?_; (on_goal 1 => (try dsimp -zeta only [x])); on_goal 2 => (intro hx; try clear_value x)) | (refine keeps_cut2 (s₀ := s₀) (t := x) ?_ ?_; (on_goal 1 => (try dsimp -zeta only [x])); on_goal 2 => (intro hx; try clear_value x)) | (try clear_value x))
    | with_reducible apply State.wr_keeps
    | with_reducible apply State.stopActing_keeps
    | with_reducible apply State.withdraw_keeps
    | with_reducible apply State.setPower_keeps
    | with_reducible apply State.downStart_keeps
    | split
    | dsimp -zeta only

theorem State.pwrEnRise_keeps {s₀ s : State}  (h : Keeps s₀ s) : Keeps s₀ (State.pwrEnRise s) := by
  unfold State.pwrEnRise
  repeat' first
    | with_reducible assumption
    | intro _
    | ((fail_if_no_progress extract_lets +onlyGivenNames x); first | (refine keeps_cut (s₀ := s₀) (t := x) ?_ ?_; (on_goal 1 => (try dsimp -zeta only [x])); on_goal 2 => (intro hx; try clear_value x)) | (refine keeps_cut2 (s₀ := s₀) (t := x) ?_ ?_; (on_goal 1 => (try dsimp -zeta only [x])); on_goal 2 => (intro hx; try clear_value x)) | (try clear_value x))
    | with_reducible apply State.wr_keeps
    | with_reducible apply State.resetTo_keeps
    | split
    | dsimp -zeta only

theorem State.powerUp_keeps {s₀ s : State}  (h : Keeps s₀ s) : Keeps s₀ (State.powerUp s) := by
  unfold State.powerUp
  repeat' first
    | with_reducible assumption
    | intro _
    | ((fail_if_no_progress extract_lets +onlyGivenNames x); first | (refine keeps_cut (s₀ := s₀) (t := x) ?_ ?_; (on_goal 1 => (try dsimp -zeta only [x])); on_goal 2 => (intro hx; try clear_value x)) | (refine keeps_cut2 (s₀ := s₀) (t := x) ?_ ?_; (on_goal 1 => (try dsimp -zeta only [x])); on_goal 2 => (intro hx; try clear_value x)) | (try clear_value x))
    | with_reducible apply State.wr_keeps
    | with_reducible apply State.bootClocks_keeps
    | with_reducible apply State.event_keeps
    | with_reducible apply State.onSys_keeps
    | with_reducible apply keeps_getD
    | split
    | (fail_if_no_progress (with_reducible apply keeps_mk))
    | dsimp -zeta only

theorem State.resetRelease_keeps {s₀ s : State}  (h : Keeps s₀ s) : Keeps s₀ (State.resetRelease s) := by
  unfold State.resetRelease
  repeat' first
    | with_reducible assumption
    | intro _
    | with_reducible apply State.bootClocks_keeps
    | split
    | dsimp -zeta only

theorem State.pinReset_keeps {s₀ s : State}  (h : Keeps s₀ s) : Keeps s₀ (State.pinReset s) := by
  unfold State.pinReset
  repeat' first
    | with_reducible assumption
    | intro _
    | with_reducible apply State.resetTo_keeps
    | split
    | dsimp -zeta only

theorem State.hostResetCmd_keeps {s₀ s : State} (key : Nat) (h : Keeps s₀ s) : Keeps s₀ (State.hostResetCmd s key) := by
  unfold State.hostResetCmd
  repeat' first
    | with_reducible assumption
    | intro _
    | ((fail_if_no_progress extract_lets +onlyGivenNames x); first | (refine keeps_cut (s₀ := s₀) (t := x) ?_ ?_; (on_goal 1 => (try dsimp -zeta only [x])); on_goal 2 => (intro hx; try clear_value x)) | (refine keeps_cut2 (s₀ := s₀) (t := x) ?_ ?_; (on_goal 1 => (try dsimp -zeta only [x])); on_goal 2 => (intro hx; try clear_value x)) | (refine keeps_cutF (s₀ := s₀) (f := x) ?_ ?_; (on_goal 1 => (try dsimp -zeta only [x])); on_goal 2 => (intro hx; try clear_value x)) | (refine keeps_cutF2 (s₀ := s₀) (f := x) ?_ ?_; (on_goal 1 => (try dsimp -zeta only [x])); on_goal 2 => (intro hx; try clear_value x)) | (refine keeps_cutF5 (s₀ := s₀) (f := x) ?_ ?_; (on_goal 1 => (try dsimp -zeta only [x])); on_goal 2 => (intro hx; try clear_value x)) | (refine keeps_cutFP (s₀ := s₀) (f := x) ?_ ?_; (on_goal 1 => (try dsimp -zeta only [x])); on_goal 2 => (intro hx; try clear_value x)) | (try clear_value x))
    | with_reducible apply State.answer_keeps
    | with_reducible apply State.keyCommitCounts_keeps
    | with_reducible apply State.begin_keeps
    | with_reducible apply State.onSys_keeps
    | split
    | (fail_if_no_progress (with_reducible apply keeps_mk))
    | dsimp -zeta only
    | with_reducible apply_assumption

theorem State.resetEffect_keeps {s₀ s : State}  (h : Keeps s₀ s) : Keeps s₀ (State.resetEffect s) := by
  unfold State.resetEffect
  repeat' first
    | with_reducible assumption
    | intro _
    | with_reducible apply State.resetTo_keeps
    | with_reducible apply State.bootClocks_keeps
    | split
    | dsimp -zeta only

theorem State.wdogExpire_keeps {s₀ s : State}  (h : Keeps s₀ s) : Keeps s₀ (State.wdogExpire s) := by
  unfold State.wdogExpire
  repeat' first
    | with_reducible assumption
    | intro _
    | ((fail_if_no_progress extract_lets +onlyGivenNames x); first | (refine keeps_cut (s₀ := s₀) (t := x) ?_ ?_; (on_goal 1 => (try dsimp -zeta only [x])); on_goal 2 => (intro hx; try clear_value x)) | (refine keeps_cut2 (s₀ := s₀) (t := x) ?_ ?_; (on_goal 1 => (try dsimp -zeta only [x])); on_goal 2 => (intro hx; try clear_value x)) | (try clear_value x))
    | with_reducible apply State.flag_keeps
    | with_reducible apply State.onSys_keeps
    | with_reducible apply State.wdogStart_keeps
    | with_reducible apply State.hostReset_keeps
    | with_reducible apply State.keyCommitCounts_keeps
    | with_reducible apply State.resetEffect_keeps
    | with_reducible apply keeps_getD
    | split
    | (fail_if_no_progress (with_reducible apply keeps_mk))
    | dsimp -zeta only

theorem State.supplyEvent_keeps {s₀ s : State} (kind : Nat) (vin : Nat) (us : Nat) (low : Nat) (h : Keeps s₀ s) : Keeps s₀ (State.supplyEvent s kind vin us low) := by
  unfold State.supplyEvent
  repeat' first
    | with_reducible assumption
    | intro _
    | with_reducible apply State.event_keeps
    | dsimp -zeta only

theorem State.vwarnFall_keeps {s₀ s : State} (vin : Nat) (h : Keeps s₀ s) : Keeps s₀ (State.vwarnFall s vin) := by
  unfold State.vwarnFall
  repeat' first
    | with_reducible assumption
    | intro _
    | ((fail_if_no_progress extract_lets +onlyGivenNames x); first | (refine keeps_cut (s₀ := s₀) (t := x) ?_ ?_; (on_goal 1 => (try dsimp -zeta only [x])); on_goal 2 => (intro hx; try clear_value x)) | (refine keeps_cut2 (s₀ := s₀) (t := x) ?_ ?_; (on_goal 1 => (try dsimp -zeta only [x])); on_goal 2 => (intro hx; try clear_value x)) | (try clear_value x))
    | with_reducible apply State.wr_keeps
    | with_reducible apply State.flag_keeps
    | with_reducible apply State.bump_keeps
    | with_reducible apply State.onSys_keeps
    | with_reducible apply State.supplyEvent_keeps
    | with_reducible apply State.bndStop_keeps
    | with_reducible apply State.rebuildStop_keeps
    | with_reducible apply State.keyForce_keeps
    | with_reducible apply State.keyComplete_keeps
    | with_reducible apply State.keyCommitCounts_keeps
    | with_reducible apply State.gthSuspend_keeps
    | with_reducible apply State.raiseFloor_keeps
    | split
    | (fail_if_no_progress (with_reducible apply keeps_mk))
    | dsimp -zeta only

theorem State.vwarnRise_keeps {s₀ s : State} (vin : Nat) (low : Nat) (h : Keeps s₀ s) : Keeps s₀ (State.vwarnRise s vin low) := by
  unfold State.vwarnRise
  repeat' first
    | with_reducible assumption
    | intro _
    | ((fail_if_no_progress extract_lets +onlyGivenNames x); first | (refine keeps_cut (s₀ := s₀) (t := x) ?_ ?_; (on_goal 1 => (try dsimp -zeta only [x])); on_goal 2 => (intro hx; try clear_value x)) | (refine keeps_cut2 (s₀ := s₀) (t := x) ?_ ?_; (on_goal 1 => (try dsimp -zeta only [x])); on_goal 2 => (intro hx; try clear_value x)) | (try clear_value x))
    | with_reducible apply State.wr_keeps
    | with_reducible apply State.wrSat_keeps
    | with_reducible apply State.onSys_keeps
    | with_reducible apply State.supplyEvent_keeps
    | with_reducible apply State.gthUnsuspend_keeps
    | with_reducible apply State.bndLoadWaiting_keeps
    | split
    | (fail_if_no_progress (with_reducible apply keeps_mk))
    | dsimp -zeta only

theorem State.vresetAct_keeps {s₀ s : State} (vin : Nat) (h : Keeps s₀ s) : Keeps s₀ (State.vresetAct s vin) := by
  unfold State.vresetAct
  repeat' first
    | with_reducible assumption
    | intro _
    | ((fail_if_no_progress extract_lets +onlyGivenNames x); first | (refine keeps_cut (s₀ := s₀) (t := x) ?_ ?_; (on_goal 1 => (try dsimp -zeta only [x])); on_goal 2 => (intro hx; try clear_value x)) | (refine keeps_cut2 (s₀ := s₀) (t := x) ?_ ?_; (on_goal 1 => (try dsimp -zeta only [x])); on_goal 2 => (intro hx; try clear_value x)) | (try clear_value x))
    | with_reducible apply State.wrSat_keeps
    | with_reducible apply State.flag_keeps
    | with_reducible apply State.onSys_keeps
    | with_reducible apply State.resetTo_keeps
    | split
    | (fail_if_no_progress (with_reducible apply keeps_mk))
    | dsimp -zeta only

theorem State.vstbyLow_keeps {s₀ s : State} (vin : Nat) (h : Keeps s₀ s) : Keeps s₀ (State.vstbyLow s vin) := by
  unfold State.vstbyLow
  repeat' first
    | with_reducible assumption
    | intro _
    | with_reducible apply State.wr_keeps
    | with_reducible apply State.flag_keeps
    | with_reducible apply State.supplyEvent_keeps
    | split
    | dsimp -zeta only

theorem State.vstbyOk_keeps {s₀ s : State} (vin : Nat) (h : Keeps s₀ s) : Keeps s₀ (State.vstbyOk s vin) := by
  unfold State.vstbyOk
  repeat' first
    | with_reducible assumption
    | intro _
    | with_reducible apply State.wr_keeps
    | with_reducible apply State.supplyEvent_keeps
    | split
    | dsimp -zeta only

end Sys2Proof.Machine
end

