-- ==== Sys2Proof/Laws/KeepsFlags.lean ====
section
/-! SUPPORT. The operations of Flags have the relation `Keeps`. -/

namespace Sys2Proof.Machine

open Sys2Proof Reg

set_option linter.unusedTactic false
set_option linter.unreachableTactic false

theorem State.shown_keeps {s₀ s : State} (o : Nat) (h : Keeps s₀ s) : Keeps s₀ (State.shown s o) := by
  unfold State.shown
  repeat' first
    | with_reducible assumption
    | intro _
    | ((fail_if_no_progress extract_lets +onlyGivenNames x); first | (refine keeps_cut (s₀ := s₀) (t := x) ?_ ?_; (on_goal 1 => (try dsimp -zeta only [x])); on_goal 2 => (intro hx; try clear_value x)) | (refine keeps_cut2 (s₀ := s₀) (t := x) ?_ ?_; (on_goal 1 => (try dsimp -zeta only [x])); on_goal 2 => (intro hx; try clear_value x)) | (try clear_value x))
    | with_reducible apply State.wr_keeps
    | with_reducible apply State.wrSat_keeps
    | with_reducible apply State.wrB_keeps
    | with_reducible apply State.twnShow_keeps
    | with_reducible apply State.wrK_keeps
    | with_reducible apply State.wrI_keeps
    | with_reducible apply State.wrSatI_keeps
    | with_reducible apply State.wrBI_keeps
    | with_reducible apply keeps_getD
    | split
    | dsimp -zeta only

end Sys2Proof.Machine
end

