-- ==== Sys2Proof/Laws/KeepsFabricOps.lean ====
section
/-! SUPPORT. The operations of FabricOps have the relation `Keeps`. -/

namespace Sys2Proof.Machine

open Sys2Proof Reg

set_option linter.unusedTactic false
set_option linter.unreachableTactic false

theorem State.live_keeps {s₀ s : State} (f : State → State) (hf : ∀ t, Keeps s₀ t → Keeps s₀ (f t)) (h : Keeps s₀ s) : Keeps s₀ (State.live s f) := by
  unfold State.live
  repeat' first
    | with_reducible assumption
    | intro _
    | split
    | dsimp -zeta only
    | with_reducible apply_assumption

theorem State.liveU_keeps {s₀ s : State} (u : Nat) (f : State → State) (hf : ∀ t, Keeps s₀ t → Keeps s₀ (f t)) (h : Keeps s₀ s) : Keeps s₀ (State.liveU s u f) := by
  unfold State.liveU
  repeat' first
    | with_reducible assumption
    | intro _
    | with_reducible apply State.live_keeps
    | split
    | dsimp -zeta only
    | with_reducible apply_assumption

theorem State.mbCount_keeps {s₀ s : State} (who : Agent) (h : Keeps s₀ s) : Keeps s₀ (State.mbCount s who) := by
  unfold State.mbCount
  repeat' first
    | with_reducible assumption
    | intro _
    | with_reducible apply State.bump_keeps
    | split
    | dsimp -zeta only

theorem State.mbDenied_keeps {s₀ s : State}  (h : Keeps s₀ s) : Keeps s₀ (State.mbDenied s) := by
  unfold State.mbDenied
  repeat' first
    | with_reducible assumption
    | intro _
    | with_reducible apply State.flag_keeps
    | dsimp -zeta only

theorem State.regFault_keeps {s₀ s : State} (f : Nat) (o : Nat) (h : Keeps s₀ s) : Keeps s₀ (State.regFault s f o) := by
  unfold State.regFault
  repeat' first
    | with_reducible assumption
    | intro _
    | with_reducible apply State.folFaultPc_keeps
    | dsimp -zeta only

theorem State.lockedWrite_keeps {s₀ s : State} (o : Nat) (h : Keeps s₀ s) : Keeps s₀ (State.lockedWrite s o) := by
  unfold State.lockedWrite
  repeat' first
    | with_reducible assumption
    | intro _
    | with_reducible apply State.flag_keeps
    | with_reducible apply State.flagI_keeps
    | split
    | dsimp -zeta only

theorem State.epWrite_keeps {s₀ s : State} (o : Nat) (h : Keeps s₀ s) : Keeps s₀ (State.epWrite s o) := by
  unfold State.epWrite
  repeat' first
    | with_reducible assumption
    | intro _
    | with_reducible apply State.lockedWrite_keeps
    | split
    | dsimp -zeta only

theorem State.refuseAccess_keeps {s₀ s : State} (who : Agent) (o : Nat) (h : Keeps s₀ s) : Keeps s₀ (State.refuseAccess s who o) := by
  unfold State.refuseAccess
  repeat' first
    | with_reducible assumption
    | intro _
    | with_reducible apply State.regFault_keeps
    | with_reducible apply State.mbDenied_keeps
    | with_reducible apply State.debugRefused_keeps
    | split
    | dsimp -zeta only

theorem State.turnAway_keeps {s₀ s : State} (c : Instr) (who : Agent) (o : Nat) (h : Keeps s₀ s) : Keeps s₀ (State.turnAway s c who o) := by
  unfold State.turnAway
  repeat' first
    | with_reducible assumption
    | intro _
    | with_reducible apply State.refuseAccess_keeps
    | split
    | (fail_if_no_progress (with_reducible apply keeps_mk))
    | dsimp -zeta only

theorem State.allow_keeps {s₀ s : State} (c : Instr) (who : Agent) (o : Nat) (host : Bool) (f : State → State) (hf : ∀ t, Keeps s₀ t → Keeps s₀ (f t)) (h : Keeps s₀ s) : Keeps s₀ (State.allow s c who o host f) := by
  unfold State.allow
  repeat' first
    | with_reducible assumption
    | intro _
    | with_reducible apply State.live_keeps
    | with_reducible apply State.mbCount_keeps
    | with_reducible apply State.turnAway_keeps
    | split
    | dsimp -zeta only
    | with_reducible apply_assumption

theorem State.admitOwn_keeps {s₀ s : State} (c : Instr) (who : Agent) (k : Nat) (o : Nat) (f : State → State) (hf : ∀ t, Keeps s₀ t → Keeps s₀ (f t)) (h : Keeps s₀ s) : Keeps s₀ (State.admitOwn s c who k o f) := by
  unfold State.admitOwn
  repeat' first
    | with_reducible assumption
    | intro _
    | with_reducible apply State.live_keeps
    | with_reducible apply State.allow_keeps
    | split
    | dsimp -zeta only
    | with_reducible apply_assumption

theorem State.inTurn_keeps {s₀ s t : State} (c : Instr) (who : Agent) (o : Nat) (h : Keeps s₀ s) (ht : Keeps s₀ t) : Keeps s₀ (State.inTurn s c who o t) := by
  unfold State.inTurn
  split
  · exact h
  · split
    · exact keeps_mk h
    · exact ht

theorem State.latchMany_keeps {s₀ s : State} (who : Agent) (xs : List (Nat × Nat)) (h : Keeps s₀ s) : Keeps s₀ (State.latchMany s who xs) := by
  unfold State.latchMany
  repeat' first
    | with_reducible assumption
    | intro _
    | (fail_if_no_progress (with_reducible apply keeps_mk))
    | dsimp -zeta only

theorem State.busRead_keeps {s₀ s : State} (who : Agent) (o : Nat) (h : Keeps s₀ s) : Keeps s₀ (State.busRead s who o).2 := by
  unfold State.busRead
  repeat' first
    | with_reducible assumption
    | intro _
    | ((fail_if_no_progress extract_lets +onlyGivenNames x); first | (refine keeps_cut (s₀ := s₀) (t := x) ?_ ?_; (on_goal 1 => (try dsimp -zeta only [x])); on_goal 2 => (intro hx; try clear_value x)) | (refine keeps_cut2 (s₀ := s₀) (t := x) ?_ ?_; (on_goal 1 => (try dsimp -zeta only [x])); on_goal 2 => (intro hx; try clear_value x)) | (try clear_value x))
    | (with_reducible refine keeps_snd (by assumption) ?_)
    | with_reducible apply State.latchMany_keeps
    | with_reducible apply State.keyRead_keeps
    | with_reducible apply State.latch_keeps
    | with_reducible apply keeps_getD
    | split
    | dsimp -zeta only

theorem answerRead_keeps {s₀ : State} (r : Nat × State) (h : Keeps s₀ r.2) : Keeps s₀ (answerRead r) := by
  exact keeps_mk h

theorem State.readReg_keeps {s₀ s : State} (who : Agent) (o : Nat) (h : Keeps s₀ s) : Keeps s₀ (State.readReg s who o) := by
  unfold State.readReg
  repeat' first
    | with_reducible assumption
    | intro _
    | ((fail_if_no_progress extract_lets +onlyGivenNames x); first | (refine keeps_cut (s₀ := s₀) (t := x) ?_ ?_; (on_goal 1 => (try dsimp -zeta only [x])); on_goal 2 => (intro hx; try clear_value x)) | (refine keeps_cut2 (s₀ := s₀) (t := x) ?_ ?_; (on_goal 1 => (try dsimp -zeta only [x])); on_goal 2 => (intro hx; try clear_value x)) | (try clear_value x))
    | (with_reducible refine keeps_snd (by assumption) ?_)
    | with_reducible apply State.live_keeps
    | with_reducible apply State.busRead_keeps
    | with_reducible apply answerRead_keeps
    | with_reducible apply State.mbCount_keeps
    | with_reducible apply State.refuseAccess_keeps
    | split
    | dsimp -zeta only
    | with_reducible apply_assumption

theorem State.unmapped_keeps {s₀ s : State} (who : Agent) (o : Nat) (write : Bool) (h : Keeps s₀ s) : Keeps s₀ (State.unmapped s who o write) := by
  unfold State.unmapped
  repeat' first
    | with_reducible assumption
    | intro _
    | ((fail_if_no_progress extract_lets +onlyGivenNames x); first | (refine keeps_cut (s₀ := s₀) (t := x) ?_ ?_; (on_goal 1 => (try dsimp -zeta only [x])); on_goal 2 => (intro hx; try clear_value x)) | (refine keeps_cut2 (s₀ := s₀) (t := x) ?_ ?_; (on_goal 1 => (try dsimp -zeta only [x])); on_goal 2 => (intro hx; try clear_value x)) | (refine keeps_cutF (s₀ := s₀) (f := x) ?_ ?_; (on_goal 1 => (try dsimp -zeta only [x])); on_goal 2 => (intro hx; try clear_value x)) | (refine keeps_cutF2 (s₀ := s₀) (f := x) ?_ ?_; (on_goal 1 => (try dsimp -zeta only [x])); on_goal 2 => (intro hx; try clear_value x)) | (refine keeps_cutF5 (s₀ := s₀) (f := x) ?_ ?_; (on_goal 1 => (try dsimp -zeta only [x])); on_goal 2 => (intro hx; try clear_value x)) | (refine keeps_cutFP (s₀ := s₀) (f := x) ?_ ?_; (on_goal 1 => (try dsimp -zeta only [x])); on_goal 2 => (intro hx; try clear_value x)) | (try clear_value x))
    | with_reducible apply State.live_keeps
    | with_reducible apply State.flag_keeps
    | with_reducible apply State.regFault_keeps
    | with_reducible apply State.debugRefused_keeps
    | split
    | (fail_if_no_progress (with_reducible apply keeps_mk))
    | dsimp -zeta only
    | with_reducible apply_assumption

theorem State.windowRead_keeps {s₀ s : State} (w : Window) (h : Keeps s₀ s) : Keeps s₀ (State.windowRead s w) := by
  unfold State.windowRead
  repeat' first
    | with_reducible assumption
    | intro _
    | ((fail_if_no_progress extract_lets +onlyGivenNames x); first | (refine keeps_cut (s₀ := s₀) (t := x) ?_ ?_; (on_goal 1 => (try dsimp -zeta only [x])); on_goal 2 => (intro hx; try clear_value x)) | (refine keeps_cut2 (s₀ := s₀) (t := x) ?_ ?_; (on_goal 1 => (try dsimp -zeta only [x])); on_goal 2 => (intro hx; try clear_value x)) | (try clear_value x))
    | with_reducible apply State.wrK_keeps
    | with_reducible apply State.flag_keeps
    | with_reducible apply keeps_foldl
    | with_reducible apply keeps_foldl_fst
    | with_reducible apply keeps_foldl_snd
    | split
    | dsimp -zeta only

theorem State.clearCounters_keeps {s₀ s : State} (b : Block) (i : Nat) (h : Keeps s₀ s) : Keeps s₀ (State.clearCounters s b i) := by
  unfold State.clearCounters
  repeat' first
    | with_reducible assumption
    | intro _
    | with_reducible apply State.clrAllI_keeps
    | split
    | dsimp -zeta only

theorem State.clearPeaks_keeps {s₀ s : State} (b : Block) (h : Keeps s₀ s) : Keeps s₀ (State.clearPeaks s b) := by
  unfold State.clearPeaks
  repeat' first
    | with_reducible assumption
    | intro _
    | with_reducible apply State.clrAll_keeps
    | split
    | dsimp -zeta only

theorem State.writeField_keeps {s₀ s : State} (p : FPlace) (v : Nat) (h : Keeps s₀ s) : Keeps s₀ (State.writeField s p v) := by
  unfold State.writeField
  repeat' first
    | with_reducible assumption
    | intro _
    | ((fail_if_no_progress extract_lets +onlyGivenNames x); first | (refine keeps_cut (s₀ := s₀) (t := x) ?_ ?_; (on_goal 1 => (try dsimp -zeta only [x])); on_goal 2 => (intro hx; try clear_value x)) | (refine keeps_cut2 (s₀ := s₀) (t := x) ?_ ?_; (on_goal 1 => (try dsimp -zeta only [x])); on_goal 2 => (intro hx; try clear_value x)) | (try clear_value x))
    | with_reducible apply State.wrAt_keeps
    | with_reducible apply State.wrK_keeps
    | split
    | dsimp -zeta only

theorem State.writeFields_keeps {s₀ s : State} (o : Nat) (v : Nat) (h : Keeps s₀ s) : Keeps s₀ (State.writeFields s o v) := by
  unfold State.writeFields
  repeat' first
    | with_reducible assumption
    | intro _
    | ((fail_if_no_progress extract_lets +onlyGivenNames x); first | (refine keeps_cut (s₀ := s₀) (t := x) ?_ ?_; (on_goal 1 => (try dsimp -zeta only [x])); on_goal 2 => (intro hx; try clear_value x)) | (refine keeps_cut2 (s₀ := s₀) (t := x) ?_ ?_; (on_goal 1 => (try dsimp -zeta only [x])); on_goal 2 => (intro hx; try clear_value x)) | (try clear_value x))
    | with_reducible apply State.lockedWrite_keeps
    | with_reducible apply State.writeField_keeps
    | with_reducible apply keeps_foldl
    | with_reducible apply keeps_foldl_fst
    | with_reducible apply keeps_foldl_snd
    | split
    | dsimp -zeta only

theorem State.ifBit_keeps {s₀ s : State} (v : Nat) (b : Nat) (f : State → State) (hf : ∀ t, Keeps s₀ t → Keeps s₀ (f t)) (h : Keeps s₀ s) : Keeps s₀ (State.ifBit s v b f) := by
  unfold State.ifBit
  repeat' first
    | with_reducible assumption
    | intro _
    | split
    | dsimp -zeta only
    | with_reducible apply_assumption

theorem State.cmdSys_keeps {s₀ s : State} (who : Agent) (o : Nat) (v : Nat) (h : Keeps s₀ s) : Keeps s₀ (State.cmdSys s who o v) := by
  unfold State.cmdSys
  repeat' first
    | with_reducible assumption
    | intro _
    | with_reducible apply State.ifBit_keeps
    | with_reducible apply State.pwrRun_keeps
    | with_reducible apply State.pwrQuiet_keeps
    | with_reducible apply State.pwrDown_keeps
    | with_reducible apply State.clkReqWrite_keeps
    | with_reducible apply State.hostResetCmd_keeps
    | with_reducible apply State.wdogReload_keeps
    | split
    | dsimp -zeta only
    | with_reducible apply_assumption

theorem State.cmdBnd_keeps {s₀ s : State} (o : Nat) (v : Nat) (h : Keeps s₀ s) : Keeps s₀ (State.cmdBnd s o v) := by
  unfold State.cmdBnd
  repeat' first
    | with_reducible assumption
    | intro _
    | with_reducible apply State.ifBit_keeps
    | with_reducible apply State.bndLoad_keeps
    | with_reducible apply State.bndFail_keeps
    | with_reducible apply State.floorSet_keeps
    | with_reducible apply State.stageLen_keeps
    | with_reducible apply State.stageWrite_keeps
    | with_reducible apply State.tipStage_keeps
    | with_reducible apply State.tipArm_keeps
    | with_reducible apply State.tipConfirm_keeps
    | with_reducible apply State.tipRevert_keeps
    | with_reducible apply State.tipDiscard_keeps
    | with_reducible apply State.storeStart_keeps
    | split
    | dsimp -zeta only
    | with_reducible apply_assumption

theorem State.cmdSvi_keeps {s₀ s : State} (o : Nat) (v : Nat) (h : Keeps s₀ s) : Keeps s₀ (State.cmdSvi s o v) := by
  unfold State.cmdSvi
  repeat' first
    | with_reducible assumption
    | intro _
    | ((fail_if_no_progress extract_lets +onlyGivenNames x); first | (refine keeps_cut (s₀ := s₀) (t := x) ?_ ?_; (on_goal 1 => (try dsimp -zeta only [x])); on_goal 2 => (intro hx; try clear_value x)) | (refine keeps_cut2 (s₀ := s₀) (t := x) ?_ ?_; (on_goal 1 => (try dsimp -zeta only [x])); on_goal 2 => (intro hx; try clear_value x)) | (try clear_value x))
    | with_reducible apply State.ifBit_keeps
    | with_reducible apply State.clearPeaks_keeps
    | with_reducible apply State.clearCounters_keeps
    | with_reducible apply State.sviEnable_keeps
    | with_reducible apply State.spareSel_keeps
    | with_reducible apply State.unitRetire_keeps
    | with_reducible apply State.unitRestore_keeps
    | with_reducible apply keeps_foldl
    | with_reducible apply keeps_foldl_fst
    | with_reducible apply keeps_foldl_snd
    | split
    | dsimp -zeta only
    | with_reducible apply_assumption

theorem State.cmdFlt_keeps {s₀ s : State} (o : Nat) (v : Nat) (h : Keeps s₀ s) : Keeps s₀ (State.cmdFlt s o v) := by
  unfold State.cmdFlt
  repeat' first
    | with_reducible assumption
    | intro _
    | with_reducible apply State.ifBit_keeps
    | with_reducible apply State.clearCounters_keeps
    | with_reducible apply State.bkstBlock_keeps
    | with_reducible apply State.bkstReset_keeps
    | with_reducible apply State.switchForce_keeps
    | split
    | dsimp -zeta only
    | with_reducible apply_assumption

theorem State.pairCmd_keeps {s₀ s : State} (op : Nat) (p : Nat) (h : Keeps s₀ s) : Keeps s₀ (State.pairCmd s op p) := by
  unfold State.pairCmd
  repeat' first
    | with_reducible assumption
    | intro _
    | with_reducible apply State.pairRetire_keeps
    | with_reducible apply State.pairRestore_keeps
    | with_reducible apply State.migrate_keeps
    | with_reducible apply State.pairAnswer_keeps
    | split
    | dsimp -zeta only

theorem State.kernelFault_keeps {s₀ s : State} (p : Nat) (f : Nat) (code : Nat) (h : Keeps s₀ s) : Keeps s₀ (State.kernelFault s p f code) := by
  unfold State.kernelFault
  repeat' first
    | with_reducible assumption
    | intro _
    | with_reducible apply State.folFault_keeps
    | split
    | dsimp -zeta only

theorem State.cmdFol_keeps {s₀ s : State} (who : Agent) (o : Nat) (v : Nat) (h : Keeps s₀ s) : Keeps s₀ (State.cmdFol s who o v) := by
  unfold State.cmdFol
  repeat' first
    | with_reducible assumption
    | intro _
    | ((fail_if_no_progress extract_lets +onlyGivenNames x); first | (refine keeps_cut (s₀ := s₀) (t := x) ?_ ?_; (on_goal 1 => (try dsimp -zeta only [x])); on_goal 2 => (intro hx; try clear_value x)) | (refine keeps_cut2 (s₀ := s₀) (t := x) ?_ ?_; (on_goal 1 => (try dsimp -zeta only [x])); on_goal 2 => (intro hx; try clear_value x)) | (try clear_value x))
    | with_reducible apply State.ifBit_keeps
    | with_reducible apply State.clearCounters_keeps
    | with_reducible apply State.folRefresh_keeps
    | with_reducible apply State.pairCmd_keeps
    | with_reducible apply State.kernelFault_keeps
    | with_reducible apply State.hostReset_keeps
    | with_reducible apply State.haltCmd_keeps
    | with_reducible apply State.hostResume_keeps
    | split
    | dsimp -zeta only
    | with_reducible apply_assumption

theorem State.cmdLge_keeps {s₀ s : State} (o : Nat) (v : Nat) (h : Keeps s₀ s) : Keeps s₀ (State.cmdLge s o v) := by
  unfold State.cmdLge
  repeat' first
    | with_reducible assumption
    | intro _
    | ((fail_if_no_progress extract_lets +onlyGivenNames x); first | (refine keeps_cut (s₀ := s₀) (t := x) ?_ ?_; (on_goal 1 => (try dsimp -zeta only [x])); on_goal 2 => (intro hx; try clear_value x)) | (refine keeps_cut2 (s₀ := s₀) (t := x) ?_ ?_; (on_goal 1 => (try dsimp -zeta only [x])); on_goal 2 => (intro hx; try clear_value x)) | (try clear_value x))
    | with_reducible apply State.ifBit_keeps
    | with_reducible apply State.lgeRestartCmd_keeps
    | with_reducible apply State.clearCounters_keeps
    | with_reducible apply State.clearPeaks_keeps
    | with_reducible apply State.lgeEnable_keeps
    | with_reducible apply State.forceCmd_keeps
    | split
    | dsimp -zeta only
    | with_reducible apply_assumption

theorem State.cmdPort_keeps {s₀ s : State} (o : Nat) (v : Nat) (h : Keeps s₀ s) : Keeps s₀ (State.cmdPort s o v) := by
  unfold State.cmdPort
  repeat' first
    | with_reducible assumption
    | intro _
    | ((fail_if_no_progress extract_lets +onlyGivenNames x); first | (refine keeps_cut (s₀ := s₀) (t := x) ?_ ?_; (on_goal 1 => (try dsimp -zeta only [x])); on_goal 2 => (intro hx; try clear_value x)) | (refine keeps_cut2 (s₀ := s₀) (t := x) ?_ ?_; (on_goal 1 => (try dsimp -zeta only [x])); on_goal 2 => (intro hx; try clear_value x)) | (try clear_value x))
    | with_reducible apply State.ifBit_keeps
    | with_reducible apply State.clearCounters_keeps
    | with_reducible apply State.clearPeaks_keeps
    | with_reducible apply State.portEn_keeps
    | with_reducible apply State.verifyRestart_keeps
    | with_reducible apply State.verifyOver_keeps
    | split
    | dsimp -zeta only
    | with_reducible apply_assumption

theorem State.cmdTim_keeps {s₀ s : State} (o : Nat) (v : Nat) (h : Keeps s₀ s) : Keeps s₀ (State.cmdTim s o v) := by
  unfold State.cmdTim
  repeat' first
    | with_reducible assumption
    | intro _
    | with_reducible apply State.ifBit_keeps
    | with_reducible apply State.clearCounters_keeps
    | with_reducible apply State.utcSet_keeps
    | with_reducible apply State.timeAdjust_keeps
    | with_reducible apply State.tsqPop_keeps
    | split
    | dsimp -zeta only
    | with_reducible apply_assumption

theorem State.cmdEvr_keeps {s₀ s : State} (who : Agent) (o : Nat) (v : Nat) (h : Keeps s₀ s) : Keeps s₀ (State.cmdEvr s who o v) := by
  unfold State.cmdEvr
  repeat' first
    | with_reducible assumption
    | intro _
    | ((fail_if_no_progress extract_lets +onlyGivenNames x); first | (refine keeps_cut (s₀ := s₀) (t := x) ?_ ?_; (on_goal 1 => (try dsimp -zeta only [x])); on_goal 2 => (intro hx; try clear_value x)) | (refine keeps_cut2 (s₀ := s₀) (t := x) ?_ ?_; (on_goal 1 => (try dsimp -zeta only [x])); on_goal 2 => (intro hx; try clear_value x)) | (try clear_value x))
    | with_reducible apply State.ifBit_keeps
    | with_reducible apply State.evrClear_keeps
    | with_reducible apply State.wrI_keeps
    | with_reducible apply State.flag_keeps
    | with_reducible apply State.evrCursorLoad_keeps
    | with_reducible apply State.wrBI_keeps
    | with_reducible apply State.evrRead_keeps
    | with_reducible apply State.flagIf_keeps
    | split
    | dsimp -zeta only
    | with_reducible apply_assumption

theorem State.cmdGth_keeps {s₀ s : State} (o : Nat) (v : Nat) (h : Keeps s₀ s) : Keeps s₀ (State.cmdGth s o v) := by
  unfold State.cmdGth
  repeat' first
    | with_reducible assumption
    | intro _
    | ((fail_if_no_progress extract_lets +onlyGivenNames x); first | (refine keeps_cut (s₀ := s₀) (t := x) ?_ ?_; (on_goal 1 => (try dsimp -zeta only [x])); on_goal 2 => (intro hx; try clear_value x)) | (refine keeps_cut2 (s₀ := s₀) (t := x) ?_ ?_; (on_goal 1 => (try dsimp -zeta only [x])); on_goal 2 => (intro hx; try clear_value x)) | (try clear_value x))
    | with_reducible apply State.ifBit_keeps
    | with_reducible apply State.clearCounters_keeps
    | with_reducible apply State.gthEnable_keeps
    | with_reducible apply State.hostEn_keeps
    | with_reducible apply State.storeCmd_keeps
    | with_reducible apply State.wr_keeps
    | with_reducible apply State.hostRun_keeps
    | with_reducible apply State.nandRead_keeps
    | with_reducible apply State.sequencerForce_keeps
    | with_reducible apply State.sequencerReset_keeps
    | split
    | dsimp -zeta only
    | with_reducible apply_assumption

theorem State.cmdTwn_keeps {s₀ s : State} (o : Nat) (v : Nat) (h : Keeps s₀ s) : Keeps s₀ (State.cmdTwn s o v) := by
  unfold State.cmdTwn
  repeat' first
    | with_reducible assumption
    | intro _
    | ((fail_if_no_progress extract_lets +onlyGivenNames x); first | (refine keeps_cut (s₀ := s₀) (t := x) ?_ ?_; (on_goal 1 => (try dsimp -zeta only [x])); on_goal 2 => (intro hx; try clear_value x)) | (refine keeps_cut2 (s₀ := s₀) (t := x) ?_ ?_; (on_goal 1 => (try dsimp -zeta only [x])); on_goal 2 => (intro hx; try clear_value x)) | (try clear_value x))
    | with_reducible apply State.ifBit_keeps
    | with_reducible apply State.clearCounters_keeps
    | with_reducible apply State.twinEnable_keeps
    | with_reducible apply State.relinquish_keeps
    | split
    | dsimp -zeta only
    | with_reducible apply_assumption

theorem State.cmdKey_keeps {s₀ s : State} (o : Nat) (v : Nat) (h : Keeps s₀ s) : Keeps s₀ (State.cmdKey s o v) := by
  unfold State.cmdKey
  repeat' first
    | with_reducible assumption
    | intro _
    | with_reducible apply State.ifBit_keeps
    | with_reducible apply State.clearCounters_keeps
    | with_reducible apply State.keyStart_keeps
    | with_reducible apply State.keyLen_keeps
    | with_reducible apply State.keyWrite_keeps
    | with_reducible apply State.attestLow_keeps
    | with_reducible apply State.challengeNew_keeps
    | with_reducible apply State.tokenLen_keeps
    | with_reducible apply State.tokenWrite_keeps
    | with_reducible apply State.tokenGo_keeps
    | with_reducible apply State.sessionClose_keeps
    | with_reducible apply State.releaseWrite_keeps
    | split
    | dsimp -zeta only
    | with_reducible apply_assumption

theorem State.hkaCmd_keeps {s₀ s : State} (v : Nat) (h : Keeps s₀ s) : Keeps s₀ (State.hkaCmd s v) := by
  unfold State.hkaCmd
  repeat' first
    | with_reducible assumption
    | intro _
    | with_reducible apply State.spareDevice_keeps
    | with_reducible apply State.queueRepair_keeps
    | with_reducible apply State.dismiss_keeps
    | with_reducible apply State.hkaAnswer_keeps
    | split
    | dsimp -zeta only

theorem State.cmdRest_keeps {s₀ s : State} (who : Agent) (o : Nat) (v : Nat) (h : Keeps s₀ s) : Keeps s₀ (State.cmdRest s who o v) := by
  unfold State.cmdRest
  repeat' first
    | with_reducible assumption
    | intro _
    | ((fail_if_no_progress extract_lets +onlyGivenNames x); first | (refine keeps_cut (s₀ := s₀) (t := x) ?_ ?_; (on_goal 1 => (try dsimp -zeta only [x])); on_goal 2 => (intro hx; try clear_value x)) | (refine keeps_cut2 (s₀ := s₀) (t := x) ?_ ?_; (on_goal 1 => (try dsimp -zeta only [x])); on_goal 2 => (intro hx; try clear_value x)) | (try clear_value x))
    | with_reducible apply State.ifBit_keeps
    | with_reducible apply State.bistStart_keeps
    | with_reducible apply State.bistAnswer_keeps
    | with_reducible apply State.clearCounters_keeps
    | with_reducible apply State.convGo_keeps
    | with_reducible apply State.hkaCmd_keeps
    | with_reducible apply State.wrB_keeps
    | with_reducible apply State.ctlFollow_keeps
    | with_reducible apply State.ctlCmdWrite_keeps
    | with_reducible apply State.wrI_keeps
    | with_reducible apply State.flag_keeps
    | with_reducible apply State.ctlAbort_keeps
    | split
    | dsimp -zeta only
    | with_reducible apply_assumption

theorem State.command_keeps {s₀ s : State} (who : Agent) (o : Nat) (v : Nat) (h : Keeps s₀ s) : Keeps s₀ (State.command s who o v) := by
  unfold State.command
  repeat' first
    | with_reducible assumption
    | intro _
    | ((fail_if_no_progress extract_lets +onlyGivenNames x); first | (refine keeps_cut (s₀ := s₀) (t := x) ?_ ?_; (on_goal 1 => (try dsimp -zeta only [x])); on_goal 2 => (intro hx; try clear_value x)) | (refine keeps_cut2 (s₀ := s₀) (t := x) ?_ ?_; (on_goal 1 => (try dsimp -zeta only [x])); on_goal 2 => (intro hx; try clear_value x)) | (try clear_value x))
    | with_reducible apply State.ifBit_keeps
    | with_reducible apply State.windowRead_keeps
    | with_reducible apply State.cmdSys_keeps
    | with_reducible apply State.cmdBnd_keeps
    | with_reducible apply State.cmdSvi_keeps
    | with_reducible apply State.clearCounters_keeps
    | with_reducible apply State.folRefresh_keeps
    | with_reducible apply State.cmdFlt_keeps
    | with_reducible apply State.cmdFol_keeps
    | with_reducible apply State.cmdLge_keeps
    | with_reducible apply State.cmdPort_keeps
    | with_reducible apply State.cmdTim_keeps
    | with_reducible apply State.cmdEvr_keeps
    | with_reducible apply State.cmdGth_keeps
    | with_reducible apply State.cmdTwn_keeps
    | with_reducible apply State.cmdKey_keeps
    | with_reducible apply State.cmdRest_keeps
    | split
    | dsimp -zeta only
    | with_reducible apply_assumption

theorem State.busWrite_keeps {s₀ s : State} (who : Agent) (o : Nat) (v : Nat) (h : Keeps s₀ s) : Keeps s₀ (State.busWrite s who o v) := by
  unfold State.busWrite
  repeat' first
    | with_reducible assumption
    | intro _
    | with_reducible apply State.writeFields_keeps
    | with_reducible apply State.command_keeps
    | split
    | dsimp -zeta only

theorem State.writeReg_keeps {s₀ s : State} (who : Agent) (o : Nat) (v : Nat) (h : Keeps s₀ s) : Keeps s₀ (State.writeReg s who o v) := by
  unfold State.writeReg
  repeat' first
    | with_reducible assumption
    | intro _
    | with_reducible apply State.live_keeps
    | with_reducible apply State.busWrite_keeps
    | with_reducible apply State.writeFields_keeps
    | with_reducible apply State.epWrite_keeps
    | with_reducible apply State.regFault_keeps
    | with_reducible apply State.mbCount_keeps
    | with_reducible apply State.mbDenied_keeps
    | with_reducible apply State.debugRefused_keeps
    | split
    | dsimp -zeta only
    | with_reducible apply_assumption

theorem State.mbRefused_keeps {s₀ s : State}  (h : Keeps s₀ s) : Keeps s₀ (State.mbRefused s) := by
  unfold State.mbRefused
  repeat' first
    | with_reducible assumption
    | intro _
    | with_reducible apply State.flag_keeps
    | with_reducible apply State.bump_keeps
    | dsimp -zeta only

theorem State.mbWriteBad_keeps {s₀ s : State}  (h : Keeps s₀ s) : Keeps s₀ (State.mbWriteBad s) := by
  unfold State.mbWriteBad
  repeat' first
    | with_reducible assumption
    | intro _
    | with_reducible apply State.onSys_keeps
    | (fail_if_no_progress (with_reducible apply keeps_mk))
    | dsimp -zeta only

theorem State.mbRead_keeps {s₀ s : State} (bs : List Byte) (h : Keeps s₀ s) : Keeps s₀ (State.mbRead s bs) := by
  unfold State.mbRead
  split
  · exact h
  · rename_i a _
    split
    · exact h
    · split
      · exact State.mbRefused_keeps h
      · rename_i o _
        split
        rename_i v ok t e
        have hb : Keeps s₀ (s.busRead .mgmt o).2 := State.busRead_keeps _ _ h
        have ht : Keeps s₀ t := by
          split at e
          · split at e
            rename_i e1
            cases e
            exact State.mbCount_keeps _ (keeps_snd e1 hb)
          · cases e
            exact State.flag_keeps _ h
        exact keeps_same ht rfl rfl rfl rfl rfl rfl (Nat.le_refl _) (Nat.le_refl _)

theorem State.mbWrite_keeps {s₀ s : State} (bs : List Byte) (h : Keeps s₀ s) : Keeps s₀ (State.mbWrite s bs) := by
  unfold State.mbWrite
  repeat' first
    | with_reducible assumption
    | intro _
    | with_reducible apply State.mbRefused_keeps
    | with_reducible apply State.mbWriteBad_keeps
    | with_reducible apply State.flag_keeps
    | with_reducible apply State.writeReg_keeps
    | with_reducible apply State.epWrite_keeps
    | with_reducible apply State.mbDenied_keeps
    | split
    | dsimp -zeta only

theorem State.debugAccess_keeps {s₀ s : State} (a : DbgAcc) (h : Keeps s₀ s) : Keeps s₀ (State.debugAccess s a) := by
  unfold State.debugAccess
  repeat' first
    | with_reducible assumption
    | intro _
    | ((fail_if_no_progress extract_lets +onlyGivenNames x); first | (refine keeps_cut (s₀ := s₀) (t := x) ?_ ?_; (on_goal 1 => (try dsimp -zeta only [x])); on_goal 2 => (intro hx; try clear_value x)) | (refine keeps_cut2 (s₀ := s₀) (t := x) ?_ ?_; (on_goal 1 => (try dsimp -zeta only [x])); on_goal 2 => (intro hx; try clear_value x)) | (refine keeps_cutF (s₀ := s₀) (f := x) ?_ ?_; (on_goal 1 => (try dsimp -zeta only [x])); on_goal 2 => (intro hx; try clear_value x)) | (refine keeps_cutF2 (s₀ := s₀) (f := x) ?_ ?_; (on_goal 1 => (try dsimp -zeta only [x])); on_goal 2 => (intro hx; try clear_value x)) | (refine keeps_cutF5 (s₀ := s₀) (f := x) ?_ ?_; (on_goal 1 => (try dsimp -zeta only [x])); on_goal 2 => (intro hx; try clear_value x)) | (refine keeps_cutFP (s₀ := s₀) (f := x) ?_ ?_; (on_goal 1 => (try dsimp -zeta only [x])); on_goal 2 => (intro hx; try clear_value x)) | (try clear_value x))
    | with_reducible apply State.live_keeps
    | with_reducible apply State.debugRefused_keeps
    | with_reducible apply State.readReg_keeps
    | with_reducible apply State.unmapped_keeps
    | with_reducible apply State.writeReg_keeps
    | with_reducible apply State.dramWrite_keeps
    | split
    | (fail_if_no_progress (with_reducible apply keeps_mk))
    | dsimp -zeta only
    | with_reducible apply_assumption

end Sys2Proof.Machine
end

