-- ==== Sys2Proof/Laws/KeepsRowOps.lean ====
section
/-! SUPPORT. The operations of RowOps have the relation `Keeps`. -/

namespace Sys2Proof.Machine

open Sys2Proof Reg

set_option linter.unusedTactic false
set_option linter.unreachableTactic false

theorem State.admitFolCtrl_keeps {s₀ s : State} (c : Instr) (who : Agent) (f : Nat) (act : State → State) (hact : ∀ t, Keeps s₀ t → Keeps s₀ (act t)) (h : Keeps s₀ s) : Keeps s₀ (State.admitFolCtrl s c who f act) := by
  unfold State.admitFolCtrl
  repeat' first
    | with_reducible assumption
    | intro _
    | with_reducible apply State.allow_keeps
    | split
    | dsimp -zeta only
    | with_reducible apply_assumption

theorem State.admitToken_keeps {s₀ s : State} (c : Instr) (who : Agent) (o : Nat) (act : State → State) (hact : ∀ t, Keeps s₀ t → Keeps s₀ (act t)) (h : Keeps s₀ s) : Keeps s₀ (State.admitToken s c who o act) := by
  unfold State.admitToken
  repeat' first
    | with_reducible assumption
    | intro _
    | with_reducible apply State.live_keeps
    | with_reducible apply State.allow_keeps
    | split
    | dsimp -zeta only
    | with_reducible apply_assumption

theorem State.narrowStore_keeps {s₀ s : State} (c : Instr) (who : Agent) (o : Nat) (h : Keeps s₀ s) : Keeps s₀ (State.narrowStore s c who o) := by
  unfold State.narrowStore
  repeat' first
    | with_reducible assumption
    | intro _
    | ((fail_if_no_progress extract_lets +onlyGivenNames x); first | (refine keeps_cut (s₀ := s₀) (t := x) ?_ ?_; (on_goal 1 => (try dsimp -zeta only [x])); on_goal 2 => (intro hx; try clear_value x)) | (refine keeps_cut2 (s₀ := s₀) (t := x) ?_ ?_; (on_goal 1 => (try dsimp -zeta only [x])); on_goal 2 => (intro hx; try clear_value x)) | (refine keeps_cutF (s₀ := s₀) (f := x) ?_ ?_; (on_goal 1 => (try dsimp -zeta only [x])); on_goal 2 => (intro hx; try clear_value x)) | (refine keeps_cutF2 (s₀ := s₀) (f := x) ?_ ?_; (on_goal 1 => (try dsimp -zeta only [x])); on_goal 2 => (intro hx; try clear_value x)) | (refine keeps_cutF5 (s₀ := s₀) (f := x) ?_ ?_; (on_goal 1 => (try dsimp -zeta only [x])); on_goal 2 => (intro hx; try clear_value x)) | (refine keeps_cutFP (s₀ := s₀) (f := x) ?_ ?_; (on_goal 1 => (try dsimp -zeta only [x])); on_goal 2 => (intro hx; try clear_value x)) | (try clear_value x))
    | with_reducible apply State.live_keeps
    | with_reducible apply State.flag_keeps
    | with_reducible apply State.allow_keeps
    | split
    | dsimp -zeta only
    | with_reducible apply_assumption

theorem State.kfaultWrite_keeps {s₀ s : State} (c : Instr) (who : Agent) (p : Nat) (f : Nat) (code : Nat) (h : Keeps s₀ s) : Keeps s₀ (State.kfaultWrite s c who p f code) := by
  unfold State.kfaultWrite
  repeat' first
    | with_reducible assumption
    | intro _
    | with_reducible apply State.live_keeps
    | with_reducible apply State.kernelFault_keeps
    | with_reducible apply State.allow_keeps
    | split
    | dsimp -zeta only
    | with_reducible apply_assumption

theorem State.tableRead_keeps {s₀ s : State} (c : Instr) (who : Agent) (b : Block) (id : Nat) (i : Nat) (h : Keeps s₀ s) : Keeps s₀ (State.tableRead s c who b id i) := by
  unfold State.tableRead
  repeat' first
    | with_reducible assumption
    | intro _
    | with_reducible apply State.allow_keeps
    | with_reducible apply State.wr_keeps
    | with_reducible apply State.windowRead_keeps
    | split
    | dsimp -zeta only
    | with_reducible apply_assumption

theorem State.folioAccess_keeps {s₀ s : State} (f : Nat) (acc : MemAcc) (a : Nat) (n : Nat) (epc : Nat) (h : Keeps s₀ s) : Keeps s₀ (State.folioAccess s f acc a n epc) := by
  unfold State.folioAccess
  repeat' first
    | with_reducible assumption
    | intro _
    | with_reducible apply State.folFault_keeps
    | split
    | dsimp -zeta only

theorem State.svVerdict_keeps {s₀ s : State} (epoch : Nat) (h : Keeps s₀ s) : Keeps s₀ (State.svVerdict s epoch) := by
  unfold State.svVerdict
  repeat' first
    | with_reducible assumption
    | intro _
    | (with_reducible refine keeps_snd (by assumption) ?_)
    | with_reducible apply State.giveVerdict_keeps
    | with_reducible apply State.afterIngest_keeps
    | with_reducible apply State.flag_keeps
    | with_reducible apply State.keyUse_keeps
    | with_reducible apply State.svOrphans_keeps
    | with_reducible apply keeps_getD
    | split
    | dsimp -zeta only

theorem State.epochTimeout_keeps {s₀ s : State} (epoch : Nat) (h : Keeps s₀ s) : Keeps s₀ (State.epochTimeout s epoch) := by
  unfold State.epochTimeout
  repeat' first
    | with_reducible assumption
    | intro _
    | with_reducible apply State.giveVerdict_keeps
    | with_reducible apply State.afterIngest_keeps
    | split
    | dsimp -zeta only

theorem State.ringLoad_keeps {s₀ s : State} (f : Nat) (i : Nat) (slot : Nat) (confirmed : Bool) (h : Keeps s₀ s) : Keeps s₀ (State.ringLoad s f i slot confirmed) := by
  unfold State.ringLoad
  repeat' first
    | with_reducible assumption
    | intro _
    | ((fail_if_no_progress extract_lets +onlyGivenNames x); first | (refine keeps_cut (s₀ := s₀) (t := x) ?_ ?_; (on_goal 1 => (try dsimp -zeta only [x])); on_goal 2 => (intro hx; try clear_value x)) | (refine keeps_cut2 (s₀ := s₀) (t := x) ?_ ?_; (on_goal 1 => (try dsimp -zeta only [x])); on_goal 2 => (intro hx; try clear_value x)) | (try clear_value x))
    | with_reducible apply State.folFaultPc_keeps
    | with_reducible apply State.bump_keeps
    | with_reducible apply State.flag_keeps
    | with_reducible apply State.loadReport_keeps
    | split
    | (fail_if_no_progress (with_reducible apply keeps_mk))
    | dsimp -zeta only

theorem State.filterLoad_keeps {s₀ s : State} (f : Nat) (i : Nat) (slot : Nat) (h : Keeps s₀ s) : Keeps s₀ (State.filterLoad s f i slot) := by
  unfold State.filterLoad
  repeat' first
    | with_reducible assumption
    | intro _
    | ((fail_if_no_progress extract_lets +onlyGivenNames x); first | (refine keeps_cut (s₀ := s₀) (t := x) ?_ ?_; (on_goal 1 => (try dsimp -zeta only [x])); on_goal 2 => (intro hx; try clear_value x)) | (refine keeps_cut2 (s₀ := s₀) (t := x) ?_ ?_; (on_goal 1 => (try dsimp -zeta only [x])); on_goal 2 => (intro hx; try clear_value x)) | (try clear_value x))
    | with_reducible apply State.bump_keeps
    | with_reducible apply State.flag_keeps
    | split
    | (fail_if_no_progress (with_reducible apply keeps_mk))
    | dsimp -zeta only

theorem State.unitDown_keeps {s₀ s : State} (u : Nat) (cause : Nat) (h : Keeps s₀ s) : Keeps s₀ (State.unitDown s u cause) := by
  unfold State.unitDown
  repeat' first
    | with_reducible assumption
    | intro _
    | with_reducible apply State.abortUnitTest_keeps
    | with_reducible apply State.unitFault_keeps
    | with_reducible apply State.hkaFollow_keeps
    | dsimp -zeta only

theorem State.sealRun_keeps {s₀ s : State} (f : Nat) (entries : List Nat) (payload : List Byte) (quire : List Byte) (h : Keeps s₀ s) : Keeps s₀ (State.sealRun s f entries payload quire) := by
  unfold State.sealRun
  repeat' first
    | with_reducible assumption
    | intro _
    | (with_reducible refine keeps_snd (by assumption) ?_)
    | with_reducible apply State.clsSeal_keeps
    | with_reducible apply State.folSealEnd_keeps
    | with_reducible apply State.folTriggers_keeps
    | with_reducible apply State.folRefresh_keeps
    | split
    | dsimp -zeta only

theorem State.abandonRun_keeps {s₀ s : State} (f : Nat) (h : Keeps s₀ s) : Keeps s₀ (State.abandonRun s f) := by
  unfold State.abandonRun
  repeat' first
    | with_reducible assumption
    | intro _
    | (with_reducible refine keeps_snd (by assumption) ?_)
    | with_reducible apply State.clsAbandon_keeps
    | with_reducible apply State.folSealEnd_keeps
    | with_reducible apply State.folTriggers_keeps
    | with_reducible apply State.folRefresh_keeps
    | split
    | dsimp -zeta only

theorem State.switchCmd_keeps {s₀ s : State} (i : Nat) (f : Nat) (h : Keeps s₀ s) : Keeps s₀ (State.switchCmd s i f) := by
  unfold State.switchCmd
  repeat' first
    | with_reducible assumption
    | intro _
    | with_reducible apply State.wr_keeps
    | with_reducible apply State.switchForce_keeps
    | dsimp -zeta only

theorem State.pairFields_keeps {s₀ s : State} (op : Nat) (p : Nat) (h : Keeps s₀ s) : Keeps s₀ (State.pairFields s op p) := by
  unfold State.pairFields
  repeat' first
    | with_reducible assumption
    | intro _
    | with_reducible apply State.wr_keeps
    | dsimp -zeta only

theorem State.keyFields_keeps {s₀ s : State} (op : Nat) (src : Bool) (slot : Nat) (h : Keeps s₀ s) : Keeps s₀ (State.keyFields s op src slot) := by
  unfold State.keyFields
  repeat' first
    | with_reducible assumption
    | intro _
    | with_reducible apply State.wr_keeps
    | with_reducible apply State.wrB_keeps
    | dsimp -zeta only

theorem State.tokenSubmit_keeps {s₀ s : State} (kind : Nat) (h : Keeps s₀ s) : Keeps s₀ (State.tokenSubmit s kind) := by
  unfold State.tokenSubmit
  repeat' first
    | with_reducible assumption
    | intro _
    | ((fail_if_no_progress extract_lets +onlyGivenNames x); first | (refine keeps_cut (s₀ := s₀) (t := x) ?_ ?_; (on_goal 1 => (try dsimp -zeta only [x])); on_goal 2 => (intro hx; try clear_value x)) | (refine keeps_cut2 (s₀ := s₀) (t := x) ?_ ?_; (on_goal 1 => (try dsimp -zeta only [x])); on_goal 2 => (intro hx; try clear_value x)) | (try clear_value x))
    | with_reducible apply State.tokenGo_keeps
    | split
    | dsimp -zeta only

theorem State.i0Arrive_keeps {s₀ s : State} (c : Copy) (h : Keeps s₀ s) : Keeps s₀ (State.i0Arrive s c) := by
  unfold State.i0Arrive
  repeat' first
    | with_reducible assumption
    | intro _
    | ((fail_if_no_progress extract_lets +onlyGivenNames x); first | (refine keeps_cut (s₀ := s₀) (t := x) ?_ ?_; (on_goal 1 => (try dsimp -zeta only [x])); on_goal 2 => (intro hx; try clear_value x)) | (refine keeps_cut2 (s₀ := s₀) (t := x) ?_ ?_; (on_goal 1 => (try dsimp -zeta only [x])); on_goal 2 => (intro hx; try clear_value x)) | (try clear_value x))
    | with_reducible apply State.i0Deliver_keeps
    | with_reducible apply State.onTim_keeps
    | with_reducible apply State.onCtl_keeps
    | exact Nat.le_refl _
    | split
    | (fail_if_no_progress (with_reducible apply keeps_mk))
    | dsimp -zeta only

theorem State.txComplete_keeps {s₀ s : State} (p : Nat) (h : Keeps s₀ s) : Keeps s₀ (State.txComplete s p) := by
  unfold State.txComplete
  repeat' first
    | with_reducible assumption
    | intro _
    | with_reducible apply State.i0Arrive_keeps
    | with_reducible apply State.txDone_keeps
    | with_reducible apply State.takeRingFaults_keeps
    | with_reducible apply State.ptpSent_keeps
    | with_reducible apply keeps_foldl
    | with_reducible apply keeps_foldl_fst
    | with_reducible apply keeps_foldl_snd
    | split
    | dsimp -zeta only

end Sys2Proof.Machine
end

