-- ==== Sys2Proof/Laws/KeepsRows.lean ====
section
/-! SUPPORT. Every command has the relation `Keeps`: one lemma a row of the table. -/

namespace Sys2Proof.Machine

open Sys2Proof Reg

set_option linter.unusedTactic false
set_option linter.unreachableTactic false

theorem execRegisterWrite_keeps (who : Agent) (off : BitVec 24) (narrow : Bool) (value : BitVec 32) {s t : State} (e : execRegisterWrite who off narrow value s = .next t) : Keeps s t := by
  cases e
  have h := Keeps.refl s
  repeat' first
    | with_reducible assumption
    | intro _
    | with_reducible apply State.inTurn_keeps
    | with_reducible apply State.narrowStore_keeps
    | with_reducible apply State.writeReg_keeps
    | with_reducible apply State.unmapped_keeps
    | split
    | dsimp -zeta only

theorem execUnmappedAccess_keeps (who : Agent) (off : BitVec 24) (write : Bool) {s t : State} (e : execUnmappedAccess who off write s = .next t) : Keeps s t := by
  cases e
  have h := Keeps.refl s
  repeat' first
    | with_reducible assumption
    | intro _
    | with_reducible apply State.unmapped_keeps
    | split
    | dsimp -zeta only

theorem execLowWordRead_keeps (who : Agent) (off : BitVec 24) {s t : State} (e : execLowWordRead who off s = .next t) : Keeps s t := by
  cases e
  have h := Keeps.refl s
  repeat' first
    | with_reducible assumption
    | intro _
    | with_reducible apply State.inTurn_keeps
    | with_reducible apply State.readReg_keeps
    | split
    | dsimp -zeta only

theorem execHkaDataRead_keeps (who : Agent) {s t : State} (e : execHkaDataRead who s = .next t) : Keeps s t := by
  cases e
  have h := Keeps.refl s
  repeat' first
    | with_reducible assumption
    | intro _
    | with_reducible apply State.inTurn_keeps
    | with_reducible apply State.readReg_keeps
    | dsimp -zeta only

theorem execTableRead_keeps (who : Agent) (block : Block) (table : BitVec 16) (index : BitVec 16) {s t : State} (e : execTableRead who block table index s = .next t) : Keeps s t := by
  cases e
  have h := Keeps.refl s
  repeat' first
    | with_reducible assumption
    | intro _
    | with_reducible apply State.tableRead_keeps
    | dsimp -zeta only

theorem execClearCounters_keeps (who : Agent) (block : Block) (inst : Fin 20) {s t : State} (e : execClearCounters who block inst s = .next t) : Keeps s t := by
  cases e
  have h := Keeps.refl s
  repeat' first
    | with_reducible assumption
    | intro _
    | with_reducible apply State.allow_keeps
    | with_reducible apply State.clearCounters_keeps
    | dsimp -zeta only

theorem execClearPeaks_keeps (who : Agent) (block : Block) {s t : State} (e : execClearPeaks who block s = .next t) : Keeps s t := by
  cases e
  have h := Keeps.refl s
  repeat' first
    | with_reducible assumption
    | intro _
    | with_reducible apply State.allow_keeps
    | with_reducible apply State.clearPeaks_keeps
    | dsimp -zeta only

theorem execMbRead_keeps (frame : List Byte) {s t : State} (e : execMbRead frame s = .next t) : Keeps s t := by
  cases e
  have h := Keeps.refl s
  repeat' first
    | with_reducible assumption
    | intro _
    | with_reducible apply State.inTurn_keeps
    | with_reducible apply State.mbRead_keeps
    | dsimp -zeta only

theorem execMbWrite_keeps (frame : List Byte) {s t : State} (e : execMbWrite frame s = .next t) : Keeps s t := by
  cases e
  have h := Keeps.refl s
  repeat' first
    | with_reducible assumption
    | intro _
    | with_reducible apply State.inTurn_keeps
    | with_reducible apply State.mbWrite_keeps
    | dsimp -zeta only

theorem execDebugAccess_keeps (access : DbgAcc) {s t : State} (e : execDebugAccess access s = .next t) : Keeps s t := by
  cases e
  have h := Keeps.refl s
  repeat' first
    | with_reducible assumption
    | intro _
    | with_reducible apply State.debugAccess_keeps
    | dsimp -zeta only

theorem execLoad_keeps (who : Agent) (src : Fin 4) {s t : State} (e : execLoad who src s = .next t) : Keeps s t := by
  cases e
  have h := Keeps.refl s
  repeat' first
    | with_reducible assumption
    | intro _
    | with_reducible apply State.allow_keeps
    | with_reducible apply State.wr_keeps
    | with_reducible apply State.bndLoad_keeps
    | dsimp -zeta only

theorem execLoadFetchDone_keeps (readError : Bool) {s t : State} (e : execLoadFetchDone readError s = .next t) : Keeps s t := by
  cases e
  have h := Keeps.refl s
  repeat' first
    | with_reducible assumption
    | intro _
    | with_reducible apply State.liveU_keeps
    | with_reducible apply State.bndFetched_keeps
    | split
    | dsimp -zeta only

theorem execLoadSignatureDone_keeps  {s t : State} (e : execLoadSignatureDone s = .next t) : Keeps s t := by
  cases e
  have h := Keeps.refl s
  repeat' first
    | with_reducible assumption
    | intro _
    | with_reducible apply State.liveU_keeps
    | with_reducible apply State.bndSigned_keeps
    | dsimp -zeta only

theorem execLoadJournalEntry_keeps  {s t : State} (e : execLoadJournalEntry s = .next t) : Keeps s t := by
  cases e
  have h := Keeps.refl s
  repeat' first
    | with_reducible assumption
    | intro _
    | with_reducible apply State.liveU_keeps
    | with_reducible apply State.bndJournal_keeps
    | dsimp -zeta only

theorem execLoadCheckDone_keeps  {s t : State} (e : execLoadCheckDone s = .next t) : Keeps s t := by
  cases e
  have h := Keeps.refl s
  repeat' first
    | with_reducible assumption
    | intro _
    | with_reducible apply State.live_keeps
    | with_reducible apply State.bndChecked_keeps
    | with_reducible apply State.ptpRefresh_keeps
    | dsimp -zeta only

theorem execLoadAbort_keeps (who : Agent) {s t : State} (e : execLoadAbort who s = .next t) : Keeps s t := by
  cases e
  have h := Keeps.refl s
  repeat' first
    | with_reducible assumption
    | intro _
    | with_reducible apply State.allow_keeps
    | with_reducible apply State.bndFail_keeps
    | split
    | dsimp -zeta only

theorem execFloorSet_keeps (who : Agent) (floor : BitVec 32) {s t : State} (e : execFloorSet who floor s = .next t) : Keeps s t := by
  cases e
  have h := Keeps.refl s
  repeat' first
    | with_reducible assumption
    | intro _
    | with_reducible apply State.allow_keeps
    | with_reducible apply State.floorSet_keeps
    | dsimp -zeta only

theorem execStageLenWrite_keeps (who : Agent) (len : BitVec 27) {s t : State} (e : execStageLenWrite who len s = .next t) : Keeps s t := by
  cases e
  have h := Keeps.refl s
  repeat' first
    | with_reducible assumption
    | intro _
    | with_reducible apply State.allow_keeps
    | with_reducible apply State.stageLen_keeps
    | dsimp -zeta only

theorem execStageWrite_keeps (who : Agent) (data : BitVec 32) {s t : State} (e : execStageWrite who data s = .next t) : Keeps s t := by
  cases e
  have h := Keeps.refl s
  repeat' first
    | with_reducible assumption
    | intro _
    | with_reducible apply State.allow_keeps
    | with_reducible apply State.stageWrite_keeps
    | dsimp -zeta only

theorem execStage_keeps (who : Agent) {s t : State} (e : execStage who s = .next t) : Keeps s t := by
  cases e
  have h := Keeps.refl s
  repeat' first
    | with_reducible assumption
    | intro _
    | with_reducible apply State.allow_keeps
    | with_reducible apply State.tipStage_keeps
    | dsimp -zeta only

theorem execTipinVerified_keeps  {s t : State} (e : execTipinVerified s = .next t) : Keeps s t := by
  cases e
  have h := Keeps.refl s
  repeat' first
    | with_reducible assumption
    | intro _
    | with_reducible apply State.liveU_keeps
    | with_reducible apply State.tipVerified_keeps
    | dsimp -zeta only

theorem execArm_keeps (who : Agent) {s t : State} (e : execArm who s = .next t) : Keeps s t := by
  cases e
  have h := Keeps.refl s
  repeat' first
    | with_reducible assumption
    | intro _
    | with_reducible apply State.allow_keeps
    | with_reducible apply State.tipArm_keeps
    | dsimp -zeta only

theorem execConfirm_keeps (who : Agent) {s t : State} (e : execConfirm who s = .next t) : Keeps s t := by
  cases e
  have h := Keeps.refl s
  repeat' first
    | with_reducible assumption
    | intro _
    | with_reducible apply State.allow_keeps
    | with_reducible apply State.tipConfirm_keeps
    | dsimp -zeta only

theorem execTipinJournalAppended_keeps  {s t : State} (e : execTipinJournalAppended s = .next t) : Keeps s t := by
  cases e
  have h := Keeps.refl s
  repeat' first
    | with_reducible assumption
    | intro _
    | with_reducible apply State.live_keeps
    | with_reducible apply State.journalAppended_keeps
    | dsimp -zeta only

theorem execRevert_keeps (who : Agent) {s t : State} (e : execRevert who s = .next t) : Keeps s t := by
  cases e
  have h := Keeps.refl s
  repeat' first
    | with_reducible assumption
    | intro _
    | with_reducible apply State.allow_keeps
    | with_reducible apply State.tipRevert_keeps
    | dsimp -zeta only

theorem execDiscard_keeps (who : Agent) {s t : State} (e : execDiscard who s = .next t) : Keeps s t := by
  cases e
  have h := Keeps.refl s
  repeat' first
    | with_reducible assumption
    | intro _
    | with_reducible apply State.allow_keeps
    | with_reducible apply State.discard_keeps
    | with_reducible apply State.tipDiscard_keeps
    | dsimp -zeta only

theorem execTipinCommitCheck_keeps  {s t : State} (e : execTipinCommitCheck s = .next t) : Keeps s t := by
  cases e
  have h := Keeps.refl s
  repeat' first
    | with_reducible assumption
    | intro _
    | with_reducible apply State.live_keeps
    | with_reducible apply State.commitCheck_keeps
    | dsimp -zeta only

theorem execRevertTimeout_keeps  {s t : State} (e : execRevertTimeout s = .next t) : Keeps s t := by
  cases e
  have h := Keeps.refl s
  repeat' first
    | with_reducible assumption
    | intro _
    | with_reducible apply State.live_keeps
    | with_reducible apply State.revertTimeout_keeps
    | dsimp -zeta only

theorem execProgram_keeps (who : Agent) (slot : Bool) {s t : State} (e : execProgram who slot s = .next t) : Keeps s t := by
  cases e
  have h := Keeps.refl s
  repeat' first
    | with_reducible assumption
    | intro _
    | with_reducible apply State.allow_keeps
    | with_reducible apply State.storeStart_keeps
    | dsimp -zeta only

theorem execEraseJournal_keeps (who : Agent) (slot : Bool) {s t : State} (e : execEraseJournal who slot s = .next t) : Keeps s t := by
  cases e
  have h := Keeps.refl s
  repeat' first
    | with_reducible assumption
    | intro _
    | with_reducible apply State.allow_keeps
    | with_reducible apply State.storeStart_keeps
    | dsimp -zeta only

theorem execStoreWriteDone_keeps  {s t : State} (e : execStoreWriteDone s = .next t) : Keeps s t := by
  cases e
  have h := Keeps.refl s
  repeat' first
    | with_reducible assumption
    | intro _
    | with_reducible apply State.live_keeps
    | with_reducible apply State.storeWritten_keeps
    | dsimp -zeta only

theorem execJournalEraseDone_keeps  {s t : State} (e : execJournalEraseDone s = .next t) : Keeps s t := by
  cases e
  have h := Keeps.refl s
  repeat' first
    | with_reducible assumption
    | intro _
    | with_reducible apply State.live_keeps
    | with_reducible apply State.journalErased_keeps
    | dsimp -zeta only

theorem execSvCopyReceived_keeps (port : Fin 20) (frame : List Byte) (fcs : Bool) (ext : Option SvExt) {s t : State} (e : execSvCopyReceived port frame fcs ext s = .next t) : Keeps s t := by
  cases e
  have h := Keeps.refl s
  repeat' first
    | with_reducible assumption
    | intro _
    | with_reducible apply State.liveU_keeps
    | with_reducible apply State.svCopy_keeps
    | with_reducible apply State.afterIngest_keeps
    | dsimp -zeta only

theorem execSvVerdict_keeps (epoch : Nat) {s t : State} (e : execSvVerdict epoch s = .next t) : Keeps s t := by
  cases e
  have h := Keeps.refl s
  repeat' first
    | with_reducible assumption
    | intro _
    | with_reducible apply State.liveU_keeps
    | with_reducible apply State.svVerdict_keeps
    | dsimp -zeta only

theorem execEpochTimeout_keeps (epoch : Nat) {s t : State} (e : execEpochTimeout epoch s = .next t) : Keeps s t := by
  cases e
  have h := Keeps.refl s
  repeat' first
    | with_reducible assumption
    | intro _
    | with_reducible apply State.liveU_keeps
    | with_reducible apply State.epochTimeout_keeps
    | dsimp -zeta only

theorem execSeal_keeps (stream : Fin 512) {s t : State} (e : execSeal stream s = .next t) : Keeps s t := by
  cases e
  have h := Keeps.refl s
  repeat' first
    | with_reducible assumption
    | intro _
    | with_reducible apply State.liveU_keeps
    | with_reducible apply State.seal_keeps
    | with_reducible apply State.afterIngest_keeps
    | dsimp -zeta only

theorem execSviEnable_keeps (who : Agent) (en : Bool) {s t : State} (e : execSviEnable who en s = .next t) : Keeps s t := by
  cases e
  have h := Keeps.refl s
  repeat' first
    | with_reducible assumption
    | intro _
    | with_reducible apply State.allow_keeps
    | with_reducible apply State.sviEnable_keeps
    | dsimp -zeta only

theorem execRingLoad_keeps (folio : Fin 32) (stream : Fin 512) (slot : Fin 1024) (confirmed : Bool) {s t : State} (e : execRingLoad folio stream slot confirmed s = .next t) : Keeps s t := by
  cases e
  have h := Keeps.refl s
  repeat' first
    | with_reducible assumption
    | intro _
    | with_reducible apply State.live_keeps
    | with_reducible apply State.ringLoad_keeps
    | dsimp -zeta only

theorem execRingEccError_keeps (stream : Fin 512) (slot : Fin 1024) {s t : State} (e : execRingEccError stream slot s = .next t) : Keeps s t := by
  cases e
  have h := Keeps.refl s
  repeat' first
    | with_reducible assumption
    | intro _
    | with_reducible apply State.liveU_keeps
    | with_reducible apply State.ringEcc_keeps
    | dsimp -zeta only

theorem execVerifierFault_keeps (unit : Fin 4) (parity : Bool) {s t : State} (e : execVerifierFault unit parity s = .next t) : Keeps s t := by
  cases e
  have h := Keeps.refl s
  repeat' first
    | with_reducible assumption
    | intro _
    | with_reducible apply State.liveU_keeps
    | with_reducible apply State.unitDown_keeps
    | split
    | dsimp -zeta only

theorem execVerifierJobTimeout_keeps (unit : Fin 4) {s t : State} (e : execVerifierJobTimeout unit s = .next t) : Keeps s t := by
  cases e
  have h := Keeps.refl s
  repeat' first
    | with_reducible assumption
    | intro _
    | with_reducible apply State.liveU_keeps
    | with_reducible apply State.unitDown_keeps
    | split
    | dsimp -zeta only

theorem execVerifierKat_keeps (unit : Fin 4) (pass : Bool) {s t : State} (e : execVerifierKat unit pass s = .next t) : Keeps s t := by
  cases e
  have h := Keeps.refl s
  repeat' first
    | with_reducible assumption
    | intro _
    | with_reducible apply State.liveU_keeps
    | with_reducible apply State.unitDown_keeps
    | split
    | dsimp -zeta only

theorem execSpareSelWrite_keeps (who : Agent) (unit : Fin 4) {s t : State} (e : execSpareSelWrite who unit s = .next t) : Keeps s t := by
  cases e
  have h := Keeps.refl s
  repeat' first
    | with_reducible assumption
    | intro _
    | with_reducible apply State.allow_keeps
    | with_reducible apply State.spareSel_keeps
    | dsimp -zeta only

theorem execVerifierIdleToSpare_keeps (unit : Fin 4) {s t : State} (e : execVerifierIdleToSpare unit s = .next t) : Keeps s t := by
  cases e
  have h := Keeps.refl s
  repeat' first
    | with_reducible assumption
    | intro _
    | with_reducible apply State.live_keeps
    | with_reducible apply State.unitIdle_keeps
    | dsimp -zeta only

theorem execVerifierRetire_keeps (who : Agent) (unit : Fin 4) {s t : State} (e : execVerifierRetire who unit s = .next t) : Keeps s t := by
  cases e
  have h := Keeps.refl s
  repeat' first
    | with_reducible assumption
    | intro _
    | with_reducible apply State.allow_keeps
    | with_reducible apply State.abortUnitTest_keeps
    | with_reducible apply State.unitRetire_keeps
    | with_reducible apply State.hkaFollow_keeps
    | dsimp -zeta only

theorem execVerifierRestore_keeps (who : Agent) (unit : Fin 4) {s t : State} (e : execVerifierRestore who unit s = .next t) : Keeps s t := by
  cases e
  have h := Keeps.refl s
  repeat' first
    | with_reducible assumption
    | intro _
    | with_reducible apply State.allow_keeps
    | with_reducible apply State.unitRestore_keeps
    | dsimp -zeta only

theorem execVerifierRestoreDone_keeps (unit : Fin 4) (pass : Bool) {s t : State} (e : execVerifierRestoreDone unit pass s = .next t) : Keeps s t := by
  cases e
  have h := Keeps.refl s
  repeat' first
    | with_reducible assumption
    | intro _
    | with_reducible apply State.liveU_keeps
    | with_reducible apply State.unitRestoreDone_keeps
    | split
    | dsimp -zeta only

theorem execSealRun_keeps (who : Agent) (folio : Fin 32) (entries : List Nat) (payload : List Byte) (quire : List Byte) {s t : State} (e : execSealRun who folio entries payload quire s = .next t) : Keeps s t := by
  cases e
  have h := Keeps.refl s
  repeat' first
    | with_reducible assumption
    | intro _
    | with_reducible apply State.admitOwn_keeps
    | with_reducible apply State.sealRun_keeps
    | dsimp -zeta only

theorem execAbandon_keeps (who : Agent) (folio : Fin 32) {s t : State} (e : execAbandon who folio s = .next t) : Keeps s t := by
  cases e
  have h := Keeps.refl s
  repeat' first
    | with_reducible assumption
    | intro _
    | with_reducible apply State.admitOwn_keeps
    | with_reducible apply State.abandonRun_keeps
    | dsimp -zeta only

theorem execCycleRelease_keeps  {s t : State} (e : execCycleRelease s = .next t) : Keeps s t := by
  cases e
  have h := Keeps.refl s
  repeat' first
    | with_reducible assumption
    | intro _
    | with_reducible apply State.live_keeps
    | (refine State.releaseNext_keeps (h := ?_) (e := (by assumption)) ..)
    | with_reducible apply State.takeRingFaults_keeps
    | with_reducible apply State.folTriggers_keeps
    | with_reducible apply State.folRefresh_keeps
    | with_reducible apply keeps_getD
    | dsimp -zeta only

theorem execStallTimeout_keeps (folio : Fin 32) {s t : State} (e : execStallTimeout folio s = .next t) : Keeps s t := by
  cases e
  have h := Keeps.refl s
  repeat' first
    | with_reducible assumption
    | intro _
    | with_reducible apply State.live_keeps
    | with_reducible apply State.stall_keeps
    | with_reducible apply State.folTriggers_keeps
    | with_reducible apply State.folRefresh_keeps
    | dsimp -zeta only

theorem execFilterConsume_keeps (inst : Fin 2048) {s t : State} (e : execFilterConsume inst s = .next t) : Keeps s t := by
  cases e
  have h := Keeps.refl s
  repeat' first
    | with_reducible assumption
    | intro _
    | with_reducible apply State.liveU_keeps
    | with_reducible apply State.filterConsume_keeps
    | dsimp -zeta only

theorem execElementDelayExpire_keeps (elem : Fin 64) {s t : State} (e : execElementDelayExpire elem s = .next t) : Keeps s t := by
  cases e
  have h := Keeps.refl s
  repeat' first
    | with_reducible assumption
    | intro _
    | with_reducible apply State.liveU_keeps
    | with_reducible apply State.consumeIf_keeps
    | dsimp -zeta only

theorem execElementResetTimeExpire_keeps (elem : Fin 64) {s t : State} (e : execElementResetTimeExpire elem s = .next t) : Keeps s t := by
  cases e
  have h := Keeps.refl s
  repeat' first
    | with_reducible assumption
    | intro _
    | with_reducible apply State.liveU_keeps
    | with_reducible apply State.consumeIf_keeps
    | dsimp -zeta only

theorem execElementIntegratorFull_keeps (elem : Fin 64) {s t : State} (e : execElementIntegratorFull elem s = .next t) : Keeps s t := by
  cases e
  have h := Keeps.refl s
  repeat' first
    | with_reducible assumption
    | intro _
    | with_reducible apply State.liveU_keeps
    | with_reducible apply State.consumeIf_keeps
    | dsimp -zeta only

theorem execElementFreezeExpire_keeps (elem : Fin 64) {s t : State} (e : execElementFreezeExpire elem s = .next t) : Keeps s t := by
  cases e
  have h := Keeps.refl s
  repeat' first
    | with_reducible assumption
    | intro _
    | with_reducible apply State.liveU_keeps
    | with_reducible apply State.consumeIf_keeps
    | dsimp -zeta only

theorem execSettlingEnd_keeps (inst : Fin 2048) {s t : State} (e : execSettlingEnd inst s = .next t) : Keeps s t := by
  cases e
  have h := Keeps.refl s
  repeat' first
    | with_reducible assumption
    | intro _
    | with_reducible apply State.liveU_keeps
    | with_reducible apply State.consumeIf_keeps
    | dsimp -zeta only

theorem execSourceSwitch_keeps (inst : Fin 2048) {s t : State} (e : execSourceSwitch inst s = .next t) : Keeps s t := by
  cases e
  have h := Keeps.refl s
  repeat' first
    | with_reducible assumption
    | intro _
    | with_reducible apply State.liveU_keeps
    | with_reducible apply State.consumeIf_keeps
    | dsimp -zeta only

theorem execDtMinOnExpire_keeps (line : Fin 8) {s t : State} (e : execDtMinOnExpire line s = .next t) : Keeps s t := by
  cases e
  have h := Keeps.refl s
  repeat' first
    | with_reducible assumption
    | intro _
    | with_reducible apply State.live_keeps
    | with_reducible apply State.minOnExpire_keeps
    | dsimp -zeta only

theorem execDtHoldExpire_keeps (folio : Fin 32) (line : Fin 8) {s t : State} (e : execDtHoldExpire folio line s = .next t) : Keeps s t := by
  cases e
  have h := Keeps.refl s
  repeat' first
    | with_reducible assumption
    | intro _
    | with_reducible apply State.live_keeps
    | with_reducible apply State.dtHoldExpire_keeps
    | dsimp -zeta only

theorem execBkstBlockWrite_keeps (who : Agent) (elems : BitVec 64) {s t : State} (e : execBkstBlockWrite who elems s = .next t) : Keeps s t := by
  cases e
  have h := Keeps.refl s
  repeat' first
    | with_reducible assumption
    | intro _
    | with_reducible apply State.allow_keeps
    | with_reducible apply State.bkstBlock_keeps
    | dsimp -zeta only

theorem execBkstResetElement_keeps (who : Agent) (elem : Fin 64) {s t : State} (e : execBkstResetElement who elem s = .next t) : Keeps s t := by
  cases e
  have h := Keeps.refl s
  repeat' first
    | with_reducible assumption
    | intro _
    | with_reducible apply State.allow_keeps
    | with_reducible apply State.bkstReset_keeps
    | dsimp -zeta only

theorem execBkstResetAll_keeps (who : Agent) {s t : State} (e : execBkstResetAll who s = .next t) : Keeps s t := by
  cases e
  have h := Keeps.refl s
  repeat' first
    | with_reducible assumption
    | intro _
    | with_reducible apply State.allow_keeps
    | with_reducible apply State.bkstReset_keeps
    | dsimp -zeta only

theorem execSwitchForceA_keeps (who : Agent) (inst : Fin 2048) {s t : State} (e : execSwitchForceA who inst s = .next t) : Keeps s t := by
  cases e
  have h := Keeps.refl s
  repeat' first
    | with_reducible assumption
    | intro _
    | with_reducible apply State.allow_keeps
    | with_reducible apply State.switchCmd_keeps
    | dsimp -zeta only

theorem execSwitchForceB_keeps (who : Agent) (inst : Fin 2048) {s t : State} (e : execSwitchForceB who inst s = .next t) : Keeps s t := by
  cases e
  have h := Keeps.refl s
  repeat' first
    | with_reducible assumption
    | intro _
    | with_reducible apply State.allow_keeps
    | with_reducible apply State.switchCmd_keeps
    | dsimp -zeta only

theorem execSwitchAutomatic_keeps (who : Agent) (inst : Fin 2048) {s t : State} (e : execSwitchAutomatic who inst s = .next t) : Keeps s t := by
  cases e
  have h := Keeps.refl s
  repeat' first
    | with_reducible assumption
    | intro _
    | with_reducible apply State.allow_keeps
    | with_reducible apply State.switchCmd_keeps
    | dsimp -zeta only

theorem execFilterLoad_keeps (folio : Fin 32) (inst : Fin 2048) (slot : Fin 1024) {s t : State} (e : execFilterLoad folio inst slot s = .next t) : Keeps s t := by
  cases e
  have h := Keeps.refl s
  repeat' first
    | with_reducible assumption
    | intro _
    | with_reducible apply State.live_keeps
    | with_reducible apply State.filterLoad_keeps
    | dsimp -zeta only

theorem execStateEcc_keeps (elem : Bool) (index : Fin 2048) {s t : State} (e : execStateEcc elem index s = .next t) : Keeps s t := by
  cases e
  have h := Keeps.refl s
  repeat' first
    | with_reducible assumption
    | intro _
    | with_reducible apply State.liveU_keeps
    | with_reducible apply State.stateEcc_keeps
    | dsimp -zeta only

theorem execDispatchDeadline_keeps (folio : Fin 32) {s t : State} (e : execDispatchDeadline folio s = .next t) : Keeps s t := by
  cases e
  have h := Keeps.refl s
  repeat' first
    | with_reducible assumption
    | intro _
    | with_reducible apply State.live_keeps
    | with_reducible apply State.deadline_keeps
    | dsimp -zeta only

theorem execFolioDispatch_keeps (pair : Fin 12) {s t : State} (e : execFolioDispatch pair s = .next t) : Keeps s t := by
  cases e
  have h := Keeps.refl s
  repeat' first
    | with_reducible assumption
    | intro _
    | with_reducible apply State.liveU_keeps
    | with_reducible apply State.dispatch_keeps
    | dsimp -zeta only

theorem execYield_keeps (who : Agent) (folio : Fin 32) (consumed : List (Nat × Nat)) {s t : State} (e : execYield who folio consumed s = .next t) : Keeps s t := by
  cases e
  have h := Keeps.refl s
  repeat' first
    | with_reducible assumption
    | intro _
    | with_reducible apply State.admitOwn_keeps
    | with_reducible apply State.svcConsume_keeps
    | with_reducible apply State.yieldPair_keeps
    | with_reducible apply keeps_foldl
    | with_reducible apply keeps_foldl_fst
    | with_reducible apply keeps_foldl_snd
    | split
    | dsimp -zeta only

theorem execBackgroundTimeslice_keeps (pair : Fin 12) {s t : State} (e : execBackgroundTimeslice pair s = .next t) : Keeps s t := by
  cases e
  have h := Keeps.refl s
  repeat' first
    | with_reducible assumption
    | intro _
    | with_reducible apply State.liveU_keeps
    | with_reducible apply State.timeslice_keeps
    | dsimp -zeta only

theorem execRunBudgetExpire_keeps (folio : Fin 32) {s t : State} (e : execRunBudgetExpire folio s = .next t) : Keeps s t := by
  cases e
  have h := Keeps.refl s
  repeat' first
    | with_reducible assumption
    | intro _
    | with_reducible apply State.live_keeps
    | with_reducible apply State.budgetExpire_keeps
    | dsimp -zeta only

theorem execFolioFault_keeps (folio : Fin 32) (acc : MemAcc) (len : Fin 9) (addr : BitVec 64) (epc : BitVec 64) {s t : State} (e : execFolioFault folio acc len addr epc s = .next t) : Keeps s t := by
  cases e
  have h := Keeps.refl s
  repeat' first
    | with_reducible assumption
    | intro _
    | with_reducible apply State.live_keeps
    | with_reducible apply State.folioAccess_keeps
    | dsimp -zeta only

theorem execKernelFault_keeps (who : Agent) (pair : Fin 12) (folio : Fin 32) (code : BitVec 8) {s t : State} (e : execKernelFault who pair folio code s = .next t) : Keeps s t := by
  cases e
  have h := Keeps.refl s
  repeat' first
    | with_reducible assumption
    | intro _
    | with_reducible apply State.kfaultWrite_keeps
    | with_reducible apply State.kernelFault_keeps
    | dsimp -zeta only

theorem execFolioReset_keeps (who : Agent) (folio : Fin 32) {s t : State} (e : execFolioReset who folio s = .next t) : Keeps s t := by
  cases e
  have h := Keeps.refl s
  repeat' first
    | with_reducible assumption
    | intro _
    | with_reducible apply State.admitFolCtrl_keeps
    | with_reducible apply State.hostReset_keeps
    | dsimp -zeta only

theorem execFolioResetDone_keeps (folio : Fin 32) {s t : State} (e : execFolioResetDone folio s = .next t) : Keeps s t := by
  cases e
  have h := Keeps.refl s
  repeat' first
    | with_reducible assumption
    | intro _
    | with_reducible apply State.live_keeps
    | with_reducible apply State.resetDone_keeps
    | dsimp -zeta only

theorem execFolioHalt_keeps (who : Agent) (folio : Fin 32) {s t : State} (e : execFolioHalt who folio s = .next t) : Keeps s t := by
  cases e
  have h := Keeps.refl s
  repeat' first
    | with_reducible assumption
    | intro _
    | with_reducible apply State.admitFolCtrl_keeps
    | with_reducible apply State.haltCmd_keeps
    | dsimp -zeta only

theorem execFolioResume_keeps (who : Agent) (folio : Fin 32) {s t : State} (e : execFolioResume who folio s = .next t) : Keeps s t := by
  cases e
  have h := Keeps.refl s
  repeat' first
    | with_reducible assumption
    | intro _
    | with_reducible apply State.admitFolCtrl_keeps
    | with_reducible apply State.hostResume_keeps
    | dsimp -zeta only

theorem execRxTailWrite_keeps (who : Agent) (folio : Fin 32) (tail : BitVec 16) (descs : List Nat) {s t : State} (e : execRxTailWrite who folio tail descs s = .next t) : Keeps s t := by
  cases e
  have h := Keeps.refl s
  repeat' first
    | with_reducible assumption
    | intro _
    | with_reducible apply State.admitOwn_keeps
    | with_reducible apply State.rxTail_keeps
    | dsimp -zeta only

theorem execTxTailWrite_keeps (who : Agent) (folio : Fin 32) (tail : BitVec 16) (descs : List Nat) {s t : State} (e : execTxTailWrite who folio tail descs s = .next t) : Keeps s t := by
  cases e
  have h := Keeps.refl s
  repeat' first
    | with_reducible assumption
    | intro _
    | with_reducible apply State.admitOwn_keeps
    | with_reducible apply State.txTail_keeps
    | dsimp -zeta only

theorem execLockstepMismatch_keeps (pair : Fin 12) {s t : State} (e : execLockstepMismatch pair s = .next t) : Keeps s t := by
  cases e
  have h := Keeps.refl s
  repeat' first
    | with_reducible assumption
    | intro _
    | with_reducible apply State.liveU_keeps
    | with_reducible apply State.abortPairTest_keeps
    | with_reducible apply State.mismatch_keeps
    | with_reducible apply State.hkaFollow_keeps
    | dsimp -zeta only

theorem execSubstitutionDone_keeps  {s t : State} (e : execSubstitutionDone s = .next t) : Keeps s t := by
  cases e
  have h := Keeps.refl s
  repeat' first
    | with_reducible assumption
    | intro _
    | with_reducible apply State.live_keeps
    | with_reducible apply State.subDone_keeps
    | dsimp -zeta only

theorem execPairRetire_keeps (who : Agent) (pair : Fin 16) {s t : State} (e : execPairRetire who pair s = .next t) : Keeps s t := by
  cases e
  have h := Keeps.refl s
  repeat' first
    | with_reducible assumption
    | intro _
    | with_reducible apply State.allow_keeps
    | with_reducible apply State.pairRetire_keeps
    | with_reducible apply State.pairFields_keeps
    | with_reducible apply State.hkaFollow_keeps
    | dsimp -zeta only

theorem execPairRestore_keeps (who : Agent) (pair : Fin 16) {s t : State} (e : execPairRestore who pair s = .next t) : Keeps s t := by
  cases e
  have h := Keeps.refl s
  repeat' first
    | with_reducible assumption
    | intro _
    | with_reducible apply State.allow_keeps
    | with_reducible apply State.pairRestore_keeps
    | with_reducible apply State.pairFields_keeps
    | dsimp -zeta only

theorem execPairRestoreDone_keeps (pass : Bool) {s t : State} (e : execPairRestoreDone pass s = .next t) : Keeps s t := by
  cases e
  have h := Keeps.refl s
  repeat' first
    | with_reducible assumption
    | intro _
    | with_reducible apply State.live_keeps
    | with_reducible apply State.pairRestoreDone_keeps
    | dsimp -zeta only

theorem execMigrate_keeps (who : Agent) (pair : Fin 16) {s t : State} (e : execMigrate who pair s = .next t) : Keeps s t := by
  cases e
  have h := Keeps.refl s
  repeat' first
    | with_reducible assumption
    | intro _
    | with_reducible apply State.allow_keeps
    | with_reducible apply State.migrate_keeps
    | with_reducible apply State.pairFields_keeps
    | dsimp -zeta only

theorem execMigrationMove_keeps  {s t : State} (e : execMigrationMove s = .next t) : Keeps s t := by
  cases e
  have h := Keeps.refl s
  repeat' first
    | with_reducible assumption
    | intro _
    | with_reducible apply State.live_keeps
    | with_reducible apply State.migrateMove_keeps
    | with_reducible apply State.hkaFollow_keeps
    | dsimp -zeta only

theorem execScanStart_keeps  {s t : State} (e : execScanStart s = .next t) : Keeps s t := by
  cases e
  have h := Keeps.refl s
  repeat' first
    | with_reducible assumption
    | intro _
    | with_reducible apply State.live_keeps
    | with_reducible apply State.scanStart_keeps
    | with_reducible apply State.gthImage_keeps
    | dsimp -zeta only

theorem execScanCommit_keeps  {s t : State} (e : execScanCommit s = .next t) : Keeps s t := by
  cases e
  have h := Keeps.refl s
  repeat' first
    | with_reducible assumption
    | intro _
    | with_reducible apply State.live_keeps
    | with_reducible apply State.scanCommit_keeps
    | with_reducible apply State.gthImage_keeps
    | dsimp -zeta only

theorem execScanBudgetExpire_keeps (stitch : BitVec 16) {s t : State} (e : execScanBudgetExpire stitch s = .next t) : Keeps s t := by
  cases e
  have h := Keeps.refl s
  repeat' first
    | with_reducible assumption
    | intro _
    | with_reducible apply State.live_keeps
    | with_reducible apply State.scanExpire_keeps
    | with_reducible apply State.gthImage_keeps
    | dsimp -zeta only

theorem execRestart_keeps (who : Agent) {s t : State} (e : execRestart who s = .next t) : Keeps s t := by
  cases e
  have h := Keeps.refl s
  repeat' first
    | with_reducible assumption
    | intro _
    | with_reducible apply State.allow_keeps
    | with_reducible apply State.lgeRestartCmd_keeps
    | with_reducible apply State.gthImage_keeps
    | dsimp -zeta only

theorem execForceSet_keeps (who : Agent) {s t : State} (e : execForceSet who s = .next t) : Keeps s t := by
  cases e
  have h := Keeps.refl s
  repeat' first
    | with_reducible assumption
    | intro _
    | with_reducible apply State.allow_keeps
    | with_reducible apply State.forceCmd_keeps
    | with_reducible apply State.gthImage_keeps
    | dsimp -zeta only

theorem execForceRelease_keeps (who : Agent) {s t : State} (e : execForceRelease who s = .next t) : Keeps s t := by
  cases e
  have h := Keeps.refl s
  repeat' first
    | with_reducible assumption
    | intro _
    | with_reducible apply State.allow_keeps
    | with_reducible apply State.forceCmd_keeps
    | with_reducible apply State.gthImage_keeps
    | dsimp -zeta only

theorem execForceReleaseAll_keeps (who : Agent) {s t : State} (e : execForceReleaseAll who s = .next t) : Keeps s t := by
  cases e
  have h := Keeps.refl s
  repeat' first
    | with_reducible assumption
    | intro _
    | with_reducible apply State.allow_keeps
    | with_reducible apply State.forceCmd_keeps
    | with_reducible apply State.gthImage_keeps
    | dsimp -zeta only

theorem execImageEcc_keeps (stitch : BitVec 16) {s t : State} (e : execImageEcc stitch s = .next t) : Keeps s t := by
  cases e
  have h := Keeps.refl s
  repeat' first
    | with_reducible assumption
    | intro _
    | with_reducible apply State.live_keeps
    | with_reducible apply State.imageEcc_keeps
    | with_reducible apply State.gthImage_keeps
    | dsimp -zeta only

theorem execLgeEnable_keeps (who : Agent) (en : Bool) {s t : State} (e : execLgeEnable who en s = .next t) : Keeps s t := by
  cases e
  have h := Keeps.refl s
  repeat' first
    | with_reducible assumption
    | intro _
    | with_reducible apply State.allow_keeps
    | with_reducible apply State.lgeEnable_keeps
    | with_reducible apply State.gthImage_keeps
    | dsimp -zeta only

theorem execCtlOpen_keeps (who : Agent) (cm : Bool) (object : Fin 1024) {s t : State} (e : execCtlOpen who cm object s = .next t) : Keeps s t := by
  cases e
  have h := Keeps.refl s
  repeat' first
    | with_reducible assumption
    | intro _
    | with_reducible apply State.allow_keeps
    | with_reducible apply State.ctlCmdWrite_keeps
    | dsimp -zeta only

theorem execCtlClose_keeps (who : Agent) (cm : Bool) (object : Fin 1024) {s t : State} (e : execCtlClose who cm object s = .next t) : Keeps s t := by
  cases e
  have h := Keeps.refl s
  repeat' first
    | with_reducible assumption
    | intro _
    | with_reducible apply State.allow_keeps
    | with_reducible apply State.ctlCmdWrite_keeps
    | dsimp -zeta only

theorem execCtlCancel_keeps (who : Agent) (cm : Bool) (object : Fin 1024) {s t : State} (e : execCtlCancel who cm object s = .next t) : Keeps s t := by
  cases e
  have h := Keeps.refl s
  repeat' first
    | with_reducible assumption
    | intro _
    | with_reducible apply State.allow_keeps
    | with_reducible apply State.ctlCancel_keeps
    | with_reducible apply State.ctlCmdWrite_keeps
    | dsimp -zeta only

theorem execCtlWaitTimeout_keeps (object : Fin 1024) {s t : State} (e : execCtlWaitTimeout object s = .next t) : Keeps s t := by
  cases e
  have h := Keeps.refl s
  repeat' first
    | with_reducible assumption
    | intro _
    | with_reducible apply State.live_keeps
    | with_reducible apply State.ctlWaitTimeout_keeps
    | with_reducible apply State.takeRingFaults_keeps
    | dsimp -zeta only

theorem execOperateTimeout_keeps (object : Fin 1024) {s t : State} (e : execOperateTimeout object s = .next t) : Keeps s t := by
  cases e
  have h := Keeps.refl s
  repeat' first
    | with_reducible assumption
    | intro _
    | with_reducible apply State.live_keeps
    | with_reducible apply State.ctlOperateTimeout_keeps
    | with_reducible apply State.takeRingFaults_keeps
    | dsimp -zeta only

theorem execTravelTimeout_keeps (object : Fin 1024) {s t : State} (e : execTravelTimeout object s = .next t) : Keeps s t := by
  cases e
  have h := Keeps.refl s
  repeat' first
    | with_reducible assumption
    | intro _
    | with_reducible apply State.live_keeps
    | with_reducible apply State.ctlTravelTimeout_keeps
    | with_reducible apply State.takeRingFaults_keeps
    | dsimp -zeta only

theorem execPositionFrame_keeps  {s t : State} (e : execPositionFrame s = .next t) : Keeps s t := by
  cases e
  have h := Keeps.refl s
  repeat' first
    | with_reducible assumption
    | intro _
    | with_reducible apply State.live_keeps
    | with_reducible apply State.ctlFrame_keeps
    | with_reducible apply State.takeRingFaults_keeps
    | dsimp -zeta only

theorem execPositionTalExpire_keeps (object : Fin 1024) {s t : State} (e : execPositionTalExpire object s = .next t) : Keeps s t := by
  cases e
  have h := Keeps.refl s
  repeat' first
    | with_reducible assumption
    | intro _
    | with_reducible apply State.live_keeps
    | with_reducible apply State.ctlTalExpire_keeps
    | dsimp -zeta only

theorem execObjectAbort_keeps (who : Agent) (object : Fin 1024) {s t : State} (e : execObjectAbort who object s = .next t) : Keeps s t := by
  cases e
  have h := Keeps.refl s
  repeat' first
    | with_reducible assumption
    | intro _
    | with_reducible apply State.allow_keeps
    | with_reducible apply State.wr_keeps
    | with_reducible apply State.ctlAbort_keeps
    | with_reducible apply State.takeRingFaults_keeps
    | dsimp -zeta only

theorem execIlQuery_keeps (object : BitVec 12) (parity : Bool) {s t : State} (e : execIlQuery object parity s = .next t) : Keeps s t := by
  cases e
  have h := Keeps.refl s
  repeat' first
    | with_reducible assumption
    | intro _
    | with_reducible apply State.live_keeps
    | with_reducible apply State.ilQuery_keeps
    | dsimp -zeta only

theorem execIlImageApply_keeps  {s t : State} (e : execIlImageApply s = .next t) : Keeps s t := by
  cases e
  have h := Keeps.refl s
  repeat' first
    | with_reducible assumption
    | intro _
    | with_reducible apply State.live_keeps
    | with_reducible apply State.ilRise_keeps
    | dsimp -zeta only

theorem execIlClkLoss_keeps  {s t : State} (e : execIlClkLoss s = .next t) : Keeps s t := by
  cases e
  have h := Keeps.refl s
  repeat' first
    | with_reducible assumption
    | intro _
    | with_reducible apply State.live_keeps
    | with_reducible apply State.ilClkLoss_keeps
    | dsimp -zeta only

theorem execIlStale_keeps  {s t : State} (e : execIlStale s = .next t) : Keeps s t := by
  cases e
  have h := Keeps.refl s
  repeat' first
    | with_reducible assumption
    | intro _
    | with_reducible apply State.live_keeps
    | with_reducible apply State.ilAge_keeps
    | dsimp -zeta only

theorem execCtlEnable_keeps (who : Agent) (en : Bool) {s t : State} (e : execCtlEnable who en s = .next t) : Keeps s t := by
  cases e
  have h := Keeps.refl s
  repeat' first
    | with_reducible assumption
    | intro _
    | with_reducible apply State.allow_keeps
    | with_reducible apply State.wrB_keeps
    | with_reducible apply State.ctlFollow_keeps
    | dsimp -zeta only

theorem execFrameIngress_keeps (port : Fin 20) (frame : List Byte) (sfdAgo : Nat) {s t : State} (e : execFrameIngress port frame sfdAgo s = .next t) : Keeps s t := by
  cases e
  have h := Keeps.refl s
  repeat' first
    | with_reducible assumption
    | intro _
    | with_reducible apply State.liveU_keeps
    | with_reducible apply State.macIngress_keeps
    | dsimp -zeta only

theorem execFrameRxEnd_keeps (port : Fin 20) (frame : List Byte) (verdict : RxEnd) (fragments : Nat) {s t : State} (e : execFrameRxEnd port frame verdict fragments s = .next t) : Keeps s t := by
  cases e
  have h := Keeps.refl s
  repeat' first
    | with_reducible assumption
    | intro _
    | with_reducible apply State.liveU_keeps
    | with_reducible apply State.macRxEnd_keeps
    | dsimp -zeta only

theorem execCutThroughStart_keeps (port : Fin 20) {s t : State} (e : execCutThroughStart port s = .next t) : Keeps s t := by
  cases e
  have h := Keeps.refl s
  repeat' first
    | with_reducible assumption
    | intro _
    | with_reducible apply State.liveU_keeps
    | with_reducible apply State.cutStart_keeps
    | dsimp -zeta only

theorem execEgressStart_keeps (port : Fin 20) (deferred : Bool) {s t : State} (e : execEgressStart port deferred s = .next t) : Keeps s t := by
  cases e
  have h := Keeps.refl s
  repeat' first
    | with_reducible assumption
    | intro _
    | with_reducible apply State.liveU_keeps
    | with_reducible apply State.carrier_keeps
    | with_reducible apply State.egressStart_keeps
    | split
    | dsimp -zeta only

theorem execTxComplete_keeps (port : Fin 20) {s t : State} (e : execTxComplete port s = .next t) : Keeps s t := by
  cases e
  have h := Keeps.refl s
  repeat' first
    | with_reducible assumption
    | intro _
    | with_reducible apply State.liveU_keeps
    | with_reducible apply State.txComplete_keeps
    | dsimp -zeta only

theorem execBufferEccError_keeps (copy : Nat) (correctable : Bool) {s t : State} (e : execBufferEccError copy correctable s = .next t) : Keeps s t := by
  cases e
  have h := Keeps.refl s
  repeat' first
    | with_reducible assumption
    | intro _
    | with_reducible apply State.liveU_keeps
    | with_reducible apply State.bufferEcc_keeps
    | dsimp -zeta only

theorem execLinkLost_keeps (port : Fin 20) (los : Bool) {s t : State} (e : execLinkLost port los s = .next t) : Keeps s t := by
  cases e
  have h := Keeps.refl s
  repeat' first
    | with_reducible assumption
    | intro _
    | with_reducible apply State.live_keeps
    | with_reducible apply State.macLinkLost_keeps
    | dsimp -zeta only

theorem execLinkReturned_keeps (port : Fin 20) {s t : State} (e : execLinkReturned port s = .next t) : Keeps s t := by
  cases e
  have h := Keeps.refl s
  repeat' first
    | with_reducible assumption
    | intro _
    | with_reducible apply State.live_keeps
    | with_reducible apply State.macLinkReturned_keeps
    | dsimp -zeta only

theorem execLinkHoldExpire_keeps (port : Fin 20) {s t : State} (e : execLinkHoldExpire port s = .next t) : Keeps s t := by
  cases e
  have h := Keeps.refl s
  repeat' first
    | with_reducible assumption
    | intro _
    | with_reducible apply State.liveU_keeps
    | with_reducible apply State.holdExpire_keeps
    | dsimp -zeta only

theorem execSupervisionTx_keeps (pair : Fin 6) {s t : State} (e : execSupervisionTx pair s = .next t) : Keeps s t := by
  cases e
  have h := Keeps.refl s
  repeat' first
    | with_reducible assumption
    | intro _
    | with_reducible apply State.liveU_keeps
    | with_reducible apply State.supervision_keeps
    | dsimp -zeta only

theorem execLinkQualified_keeps (port : Fin 20) {s t : State} (e : execLinkQualified port s = .next t) : Keeps s t := by
  cases e
  have h := Keeps.refl s
  repeat' first
    | with_reducible assumption
    | intro _
    | with_reducible apply State.liveU_keeps
    | with_reducible apply State.linkQualified_keeps
    | dsimp -zeta only

theorem execPortEnWrite_keeps (who : Agent) (port : Fin 20) (en : Bool) {s t : State} (e : execPortEnWrite who port en s = .next t) : Keeps s t := by
  cases e
  have h := Keeps.refl s
  repeat' first
    | with_reducible assumption
    | intro _
    | with_reducible apply State.allow_keeps
    | with_reducible apply State.portEn_keeps
    | dsimp -zeta only

theorem execSfpOvercurrent_keeps (port : Fin 16) {s t : State} (e : execSfpOvercurrent port s = .next t) : Keeps s t := by
  cases e
  have h := Keeps.refl s
  repeat' first
    | with_reducible assumption
    | intro _
    | with_reducible apply State.live_keeps
    | with_reducible apply State.sfpOvercurrent_keeps
    | dsimp -zeta only

theorem execVerifyRestart_keeps (who : Agent) (port : Fin 20) {s t : State} (e : execVerifyRestart who port s = .next t) : Keeps s t := by
  cases e
  have h := Keeps.refl s
  repeat' first
    | with_reducible assumption
    | intro _
    | with_reducible apply State.allow_keeps
    | with_reducible apply State.verifyRestart_keeps
    | dsimp -zeta only

theorem execVerifyTimeout_keeps (port : Fin 20) {s t : State} (e : execVerifyTimeout port s = .next t) : Keeps s t := by
  cases e
  have h := Keeps.refl s
  repeat' first
    | with_reducible assumption
    | intro _
    | with_reducible apply State.liveU_keeps
    | with_reducible apply State.verifyTimeout_keeps
    | dsimp -zeta only

theorem execVerifyResponse_keeps (port : Fin 20) {s t : State} (e : execVerifyResponse port s = .next t) : Keeps s t := by
  cases e
  have h := Keeps.refl s
  repeat' first
    | with_reducible assumption
    | intro _
    | with_reducible apply State.liveU_keeps
    | with_reducible apply State.verifyResponse_keeps
    | dsimp -zeta only

theorem execVerifyReceived_keeps (port : Fin 20) {s t : State} (e : execVerifyReceived port s = .next t) : Keeps s t := by
  cases e
  have h := Keeps.refl s
  repeat' first
    | with_reducible assumption
    | intro _
    | with_reducible apply State.liveU_keeps
    | with_reducible apply State.verifyReceived_keeps
    | dsimp -zeta only

theorem execPreemption_keeps (port : Fin 20) (sent : Nat) {s t : State} (e : execPreemption port sent s = .next t) : Keeps s t := by
  cases e
  have h := Keeps.refl s
  repeat' first
    | with_reducible assumption
    | intro _
    | with_reducible apply State.liveU_keeps
    | with_reducible apply State.preempt_keeps
    | dsimp -zeta only

theorem execPauseReceived_keeps (port : Fin 20) (quanta : BitVec 16) {s t : State} (e : execPauseReceived port quanta s = .next t) : Keeps s t := by
  cases e
  have h := Keeps.refl s
  repeat' first
    | with_reducible assumption
    | intro _
    | with_reducible apply State.liveU_keeps
    | with_reducible apply State.pauseReceived_keeps
    | dsimp -zeta only

theorem execPauseExpire_keeps (port : Fin 20) {s t : State} (e : execPauseExpire port s = .next t) : Keeps s t := by
  cases e
  have h := Keeps.refl s
  repeat' first
    | with_reducible assumption
    | intro _
    | with_reducible apply State.liveU_keeps
    | with_reducible apply State.pauseExpire_keeps
    | dsimp -zeta only

theorem execPauseXoff_keeps (port : Fin 20) {s t : State} (e : execPauseXoff port s = .next t) : Keeps s t := by
  cases e
  have h := Keeps.refl s
  repeat' first
    | with_reducible assumption
    | intro _
    | with_reducible apply State.liveU_keeps
    | with_reducible apply State.pauseXoff_keeps
    | dsimp -zeta only

theorem execPauseRefresh_keeps (port : Fin 20) {s t : State} (e : execPauseRefresh port s = .next t) : Keeps s t := by
  cases e
  have h := Keeps.refl s
  repeat' first
    | with_reducible assumption
    | intro _
    | with_reducible apply State.liveU_keeps
    | with_reducible apply State.pauseRefresh_keeps
    | dsimp -zeta only

theorem execPauseXon_keeps (port : Fin 20) {s t : State} (e : execPauseXon port s = .next t) : Keeps s t := by
  cases e
  have h := Keeps.refl s
  repeat' first
    | with_reducible assumption
    | intro _
    | with_reducible apply State.liveU_keeps
    | with_reducible apply State.pauseXon_keeps
    | dsimp -zeta only

theorem execPortACollision_keeps (sentBits : Nat) {s t : State} (e : execPortACollision sentBits s = .next t) : Keeps s t := by
  cases e
  have h := Keeps.refl s
  repeat' first
    | with_reducible assumption
    | intro _
    | with_reducible apply State.liveU_keeps
    | with_reducible apply State.portACollision_keeps
    | dsimp -zeta only

theorem execPortABackoffExpire_keeps  {s t : State} (e : execPortABackoffExpire s = .next t) : Keeps s t := by
  cases e
  have h := Keeps.refl s
  repeat' first
    | with_reducible assumption
    | intro _
    | with_reducible apply State.liveU_keeps
    | with_reducible apply State.portABackoff_keeps
    | dsimp -zeta only

theorem execPortAFrameInterrupt_keeps (sent : Bool) {s t : State} (e : execPortAFrameInterrupt sent s = .next t) : Keeps s t := by
  cases e
  have h := Keeps.refl s
  repeat' first
    | with_reducible assumption
    | intro _
    | with_reducible apply State.liveU_keeps
    | with_reducible apply State.portAIntr_keeps
    | dsimp -zeta only

theorem execWakeFrame_keeps (port : Fin 20) (frame : List Byte) {s t : State} (e : execWakeFrame port frame s = .next t) : Keeps s t := by
  cases e
  have h := Keeps.refl s
  repeat' first
    | with_reducible assumption
    | intro _
    | with_reducible apply State.liveU_keeps
    | with_reducible apply State.wakeFrame_keeps
    | dsimp -zeta only

theorem execSfpFault_keeps (port : Fin 16) (removed : Bool) {s t : State} (e : execSfpFault port removed s = .next t) : Keeps s t := by
  cases e
  have h := Keeps.refl s
  repeat' first
    | with_reducible assumption
    | intro _
    | with_reducible apply State.live_keeps
    | with_reducible apply State.sfpFault_keeps
    | dsimp -zeta only

theorem execPtpSync_keeps  {s t : State} (e : execPtpSync s = .next t) : Keeps s t := by
  cases e
  have h := Keeps.refl s
  repeat' first
    | with_reducible assumption
    | intro _
    | with_reducible apply State.liveU_keeps
    | with_reducible apply State.ptpSync_keeps
    | dsimp -zeta only

theorem execPtpFollowUp_keeps  {s t : State} (e : execPtpFollowUp s = .next t) : Keeps s t := by
  cases e
  have h := Keeps.refl s
  repeat' first
    | with_reducible assumption
    | intro _
    | with_reducible apply State.liveU_keeps
    | with_reducible apply State.ptpFollowUp_keeps
    | dsimp -zeta only

theorem execAnnounceRx_keeps  {s t : State} (e : execAnnounceRx s = .next t) : Keeps s t := by
  cases e
  have h := Keeps.refl s
  repeat' first
    | with_reducible assumption
    | intro _
    | with_reducible apply State.liveU_keeps
    | with_reducible apply State.ptpAnnounce_keeps
    | dsimp -zeta only

theorem execPdelayReqTx_keeps (port : Fin 18) {s t : State} (e : execPdelayReqTx port s = .next t) : Keeps s t := by
  cases e
  have h := Keeps.refl s
  repeat' first
    | with_reducible assumption
    | intro _
    | with_reducible apply State.liveU_keeps
    | with_reducible apply State.pdelayReq_keeps
    | dsimp -zeta only

theorem execPdelayReqRx_keeps  {s t : State} (e : execPdelayReqRx s = .next t) : Keeps s t := by
  cases e
  have h := Keeps.refl s
  repeat' first
    | with_reducible assumption
    | intro _
    | with_reducible apply State.liveU_keeps
    | with_reducible apply State.pdelayAnswer_keeps
    | dsimp -zeta only

theorem execPdelayRespRx_keeps  {s t : State} (e : execPdelayRespRx s = .next t) : Keeps s t := by
  cases e
  have h := Keeps.refl s
  repeat' first
    | with_reducible assumption
    | intro _
    | with_reducible apply State.liveU_keeps
    | with_reducible apply State.pdelayResp_keeps
    | dsimp -zeta only

theorem execIrigFrame_keeps (marks : List (Fin 3)) (year : Bool) (ago : Nat) {s t : State} (e : execIrigFrame marks year ago s = .next t) : Keeps s t := by
  cases e
  have h := Keeps.refl s
  repeat' first
    | with_reducible assumption
    | intro _
    | with_reducible apply State.liveU_keeps
    | with_reducible apply State.irigFrame_keeps
    | dsimp -zeta only

theorem execPpsEdge_keeps (backplane : Bool) {s t : State} (e : execPpsEdge backplane s = .next t) : Keeps s t := by
  cases e
  have h := Keeps.refl s
  repeat' first
    | with_reducible assumption
    | intro _
    | with_reducible apply State.liveU_keeps
    | with_reducible apply State.ppsEdge_keeps
    | dsimp -zeta only

theorem execSourceQualified_keeps (entry : Fin 4) {s t : State} (e : execSourceQualified entry s = .next t) : Keeps s t := by
  cases e
  have h := Keeps.refl s
  repeat' first
    | with_reducible assumption
    | intro _
    | with_reducible apply State.liveU_keeps
    | with_reducible apply State.sourceQualified_keeps
    | dsimp -zeta only

theorem execSourceLost_keeps (entry : Fin 4) {s t : State} (e : execSourceLost entry s = .next t) : Keeps s t := by
  cases e
  have h := Keeps.refl s
  repeat' first
    | with_reducible assumption
    | intro _
    | with_reducible apply State.liveU_keeps
    | with_reducible apply State.sourceLost_keeps
    | dsimp -zeta only

theorem execHoldoverExpire_keeps  {s t : State} (e : execHoldoverExpire s = .next t) : Keeps s t := by
  cases e
  have h := Keeps.refl s
  repeat' first
    | with_reducible assumption
    | intro _
    | with_reducible apply State.liveU_keeps
    | with_reducible apply State.holdoverExpire_keeps
    | dsimp -zeta only

theorem execTimeSet_keeps (who : Agent) {s t : State} (e : execTimeSet who s = .next t) : Keeps s t := by
  cases e
  have h := Keeps.refl s
  repeat' first
    | with_reducible assumption
    | intro _
    | with_reducible apply State.allow_keeps
    | with_reducible apply State.wr_keeps
    | with_reducible apply State.timeAdjust_keeps
    | dsimp -zeta only

theorem execTimeStep_keeps (who : Agent) {s t : State} (e : execTimeStep who s = .next t) : Keeps s t := by
  cases e
  have h := Keeps.refl s
  repeat' first
    | with_reducible assumption
    | intro _
    | with_reducible apply State.allow_keeps
    | with_reducible apply State.timeStep_keeps
    | with_reducible apply State.wr_keeps
    | with_reducible apply State.timeAdjust_keeps
    | dsimp -zeta only

theorem execWholeSecond_keeps  {s t : State} (e : execWholeSecond s = .next t) : Keeps s t := by
  cases e
  have h := Keeps.refl s
  repeat' first
    | with_reducible assumption
    | intro _
    | with_reducible apply State.liveU_keeps
    | with_reducible apply State.wholeSecond_keeps
    | dsimp -zeta only

theorem execPpsOutFall_keeps  {s t : State} (e : execPpsOutFall s = .next t) : Keeps s t := by
  cases e
  have h := Keeps.refl s
  repeat' first
    | with_reducible assumption
    | intro _
    | with_reducible apply State.liveU_keeps
    | with_reducible apply State.ppsFall_keeps
    | dsimp -zeta only

theorem execTimeFloorUpdate_keeps  {s t : State} (e : execTimeFloorUpdate s = .next t) : Keeps s t := by
  cases e
  have h := Keeps.refl s
  repeat' first
    | with_reducible assumption
    | intro _
    | with_reducible apply State.liveU_keeps
    | with_reducible apply State.floorUpdate_keeps
    | dsimp -zeta only

theorem execLeapSecond_keeps  {s t : State} (e : execLeapSecond s = .next t) : Keeps s t := by
  cases e
  have h := Keeps.refl s
  repeat' first
    | with_reducible assumption
    | intro _
    | with_reducible apply State.liveU_keeps
    | with_reducible apply State.leapSecond_keeps
    | dsimp -zeta only

theorem execCadenceBoundary_keeps  {s t : State} (e : execCadenceBoundary s = .next t) : Keeps s t := by
  cases e
  have h := Keeps.refl s
  repeat' first
    | with_reducible assumption
    | intro _
    | with_reducible apply State.liveU_keeps
    | with_reducible apply State.cadenceInstant_keeps
    | dsimp -zeta only

theorem execTimedLaunch_keeps (port : Fin 20) {s t : State} (e : execTimedLaunch port s = .next t) : Keeps s t := by
  cases e
  have h := Keeps.refl s
  repeat' first
    | with_reducible assumption
    | intro _
    | with_reducible apply State.liveU_keeps
    | with_reducible apply State.timedLaunch_keeps
    | dsimp -zeta only

theorem execLaunchLate_keeps (port : Fin 20) {s t : State} (e : execLaunchLate port s = .next t) : Keeps s t := by
  cases e
  have h := Keeps.refl s
  repeat' first
    | with_reducible assumption
    | intro _
    | with_reducible apply State.liveU_keeps
    | with_reducible apply State.launchLateAll_keeps
    | dsimp -zeta only

theorem execTsqPop_keeps (who : Agent) (port : Fin 20) {s t : State} (e : execTsqPop who port s = .next t) : Keeps s t := by
  cases e
  have h := Keeps.refl s
  repeat' first
    | with_reducible assumption
    | intro _
    | with_reducible apply State.allow_keeps
    | with_reducible apply State.tsqPop_keeps
    | dsimp -zeta only

theorem execGooseRetransmit_keeps (publisher : Fin 256) {s t : State} (e : execGooseRetransmit publisher s = .next t) : Keeps s t := by
  cases e
  have h := Keeps.refl s
  repeat' first
    | with_reducible assumption
    | intro _
    | with_reducible apply State.liveU_keeps
    | with_reducible apply State.pubDue_keeps
    | dsimp -zeta only

theorem execRef10Qualified_keeps  {s t : State} (e : execRef10Qualified s = .next t) : Keeps s t := by
  cases e
  have h := Keeps.refl s
  repeat' first
    | with_reducible assumption
    | intro _
    | with_reducible apply State.liveU_keeps
    | with_reducible apply State.ref10_keeps
    | dsimp -zeta only

theorem execRef10Lost_keeps  {s t : State} (e : execRef10Lost s = .next t) : Keeps s t := by
  cases e
  have h := Keeps.refl s
  repeat' first
    | with_reducible assumption
    | intro _
    | with_reducible apply State.liveU_keeps
    | with_reducible apply State.ref10_keeps
    | dsimp -zeta only

theorem execRecordCommit_keeps  {s t : State} (e : execRecordCommit s = .next t) : Keeps s t := by
  cases e
  have h := Keeps.refl s
  repeat' first
    | with_reducible assumption
    | intro _
    | with_reducible apply State.live_keeps
    | with_reducible apply State.evrCommit_keeps
    | with_reducible apply State.tlogReport_keeps
    | dsimp -zeta only

theorem execEvrScanDone_keeps (unreadable : Option Nat) {s t : State} (e : execEvrScanDone unreadable s = .next t) : Keeps s t := by
  cases e
  have h := Keeps.refl s
  repeat' first
    | with_reducible assumption
    | intro _
    | with_reducible apply State.live_keeps
    | with_reducible apply State.evrScanDone_keeps
    | with_reducible apply State.tlogReport_keeps
    | split
    | dsimp -zeta only

theorem execCursorLoad_keeps (who : Agent) (win : Fin 2) (high : BitVec 32) {s t : State} (e : execCursorLoad who win high s = .next t) : Keeps s t := by
  cases e
  have h := Keeps.refl s
  repeat' first
    | with_reducible assumption
    | intro _
    | with_reducible apply State.allow_keeps
    | with_reducible apply State.evrCursorLoad_keeps
    | dsimp -zeta only

theorem execEvrRead_keeps (who : Agent) (win : Fin 2) (uncorrectable : Bool) {s t : State} (e : execEvrRead who win uncorrectable s = .next t) : Keeps s t := by
  cases e
  have h := Keeps.refl s
  repeat' first
    | with_reducible assumption
    | intro _
    | with_reducible apply State.allow_keeps
    | with_reducible apply State.evrRead_keeps
    | dsimp -zeta only

theorem execEvrClear_keeps (who : Agent) {s t : State} (e : execEvrClear who s = .next t) : Keeps s t := by
  cases e
  have h := Keeps.refl s
  repeat' first
    | with_reducible assumption
    | intro _
    | with_reducible apply State.allow_keeps
    | with_reducible apply State.evrClear_keeps
    | dsimp -zeta only

theorem execEvrClearDone_keeps  {s t : State} (e : execEvrClearDone s = .next t) : Keeps s t := by
  cases e
  have h := Keeps.refl s
  repeat' first
    | with_reducible assumption
    | intro _
    | with_reducible apply State.live_keeps
    | with_reducible apply State.evrClearDone_keeps
    | dsimp -zeta only

theorem execPositionCapture_keeps (defn : Nat) {s t : State} (e : execPositionCapture defn s = .next t) : Keeps s t := by
  cases e
  have h := Keeps.refl s
  repeat' first
    | with_reducible assumption
    | intro _
    | with_reducible apply State.live_keeps
    | with_reducible apply State.gthCapture_keeps
    | dsimp -zeta only

theorem execHeadFilled_keeps (defn : Nat) {s t : State} (e : execHeadFilled defn s = .next t) : Keeps s t := by
  cases e
  have h := Keeps.refl s
  repeat' first
    | with_reducible assumption
    | intro _
    | with_reducible apply State.live_keeps
    | with_reducible apply State.headFilled_keeps
    | dsimp -zeta only

theorem execSequencerEval_keeps  {s t : State} (e : execSequencerEval s = .next t) : Keeps s t := by
  cases e
  have h := Keeps.refl s
  repeat' first
    | with_reducible assumption
    | intro _
    | with_reducible apply State.live_keeps
    | with_reducible apply State.sequencerEval_keeps
    | dsimp -zeta only

theorem execGatheringComplete_keeps (defn : Nat) {s t : State} (e : execGatheringComplete defn s = .next t) : Keeps s t := by
  cases e
  have h := Keeps.refl s
  repeat' first
    | with_reducible assumption
    | intro _
    | with_reducible apply State.live_keeps
    | with_reducible apply State.gatheringComplete_keeps
    | dsimp -zeta only

theorem execGutterEnd_keeps (defn : Nat) {s t : State} (e : execGutterEnd defn s = .next t) : Keeps s t := by
  cases e
  have h := Keeps.refl s
  repeat' first
    | with_reducible assumption
    | intro _
    | with_reducible apply State.live_keeps
    | with_reducible apply State.gutterEnd_keeps
    | dsimp -zeta only

theorem execGapEnd_keeps (defn : Nat) {s t : State} (e : execGapEnd defn s = .next t) : Keeps s t := by
  cases e
  have h := Keeps.refl s
  repeat' first
    | with_reducible assumption
    | intro _
    | with_reducible apply State.live_keeps
    | with_reducible apply State.gapEnd_keeps
    | dsimp -zeta only

theorem execCaptureResume_keeps (defn : Nat) {s t : State} (e : execCaptureResume defn s = .next t) : Keeps s t := by
  cases e
  have h := Keeps.refl s
  repeat' first
    | with_reducible assumption
    | intro _
    | with_reducible apply State.live_keeps
    | with_reducible apply State.captureResume_keeps
    | dsimp -zeta only

theorem execGatheringStored_keeps  {s t : State} (e : execGatheringStored s = .next t) : Keeps s t := by
  cases e
  have h := Keeps.refl s
  repeat' first
    | with_reducible assumption
    | intro _
    | with_reducible apply State.liveU_keeps
    | with_reducible apply State.gatheringStored_keeps
    | dsimp -zeta only

theorem execGthEnable_keeps (who : Agent) (en : Bool) {s t : State} (e : execGthEnable who en s = .next t) : Keeps s t := by
  cases e
  have h := Keeps.refl s
  repeat' first
    | with_reducible assumption
    | intro _
    | with_reducible apply State.allow_keeps
    | with_reducible apply State.gthEnable_keeps
    | dsimp -zeta only

theorem execHostEnWrite_keeps (who : Agent) (en : Bool) {s t : State} (e : execHostEnWrite who en s = .next t) : Keeps s t := by
  cases e
  have h := Keeps.refl s
  repeat' first
    | with_reducible assumption
    | intro _
    | with_reducible apply State.allow_keeps
    | with_reducible apply State.hostEn_keeps
    | dsimp -zeta only

theorem execHostConsumedWrite_keeps (who : Agent) (consumed : BitVec 32) {s t : State} (e : execHostConsumedWrite who consumed s = .next t) : Keeps s t := by
  cases e
  have h := Keeps.refl s
  repeat' first
    | with_reducible assumption
    | intro _
    | with_reducible apply State.allow_keeps
    | with_reducible apply State.wr_keeps
    | with_reducible apply State.hostRun_keeps
    | dsimp -zeta only

theorem execDeleteUpto_keeps (who : Agent) {s t : State} (e : execDeleteUpto who s = .next t) : Keeps s t := by
  cases e
  have h := Keeps.refl s
  repeat' first
    | with_reducible assumption
    | intro _
    | with_reducible apply State.allow_keeps
    | with_reducible apply State.deleteUpto_keeps
    | with_reducible apply State.storeCmd_keeps
    | dsimp -zeta only

theorem execReadToHost_keeps (who : Agent) {s t : State} (e : execReadToHost who s = .next t) : Keeps s t := by
  cases e
  have h := Keeps.refl s
  repeat' first
    | with_reducible assumption
    | intro _
    | with_reducible apply State.allow_keeps
    | with_reducible apply State.readToHost_keeps
    | with_reducible apply State.storeCmd_keeps
    | dsimp -zeta only

theorem execGthStoreCmdDone_keeps  {s t : State} (e : execGthStoreCmdDone s = .next t) : Keeps s t := by
  cases e
  have h := Keeps.refl s
  repeat' first
    | with_reducible assumption
    | intro _
    | with_reducible apply State.liveU_keeps
    | with_reducible apply State.storeCmdDone_keeps
    | dsimp -zeta only

theorem execNandWindowRead_keeps (who : Agent) (uncorrectable : Bool) {s t : State} (e : execNandWindowRead who uncorrectable s = .next t) : Keeps s t := by
  cases e
  have h := Keeps.refl s
  repeat' first
    | with_reducible assumption
    | intro _
    | with_reducible apply State.allow_keeps
    | with_reducible apply State.nandRead_keeps
    | dsimp -zeta only

theorem execSequencerForce_keeps (who : Agent) (seq : Fin 16) {s t : State} (e : execSequencerForce who seq s = .next t) : Keeps s t := by
  cases e
  have h := Keeps.refl s
  repeat' first
    | with_reducible assumption
    | intro _
    | with_reducible apply State.allow_keeps
    | with_reducible apply State.sequencerForce_keeps
    | dsimp -zeta only

theorem execSequencerReset_keeps (who : Agent) (seq : Fin 16) {s t : State} (e : execSequencerReset who seq s = .next t) : Keeps s t := by
  cases e
  have h := Keeps.refl s
  repeat' first
    | with_reducible assumption
    | intro _
    | with_reducible apply State.allow_keeps
    | with_reducible apply State.sequencerReset_keeps
    | dsimp -zeta only

theorem execStoreScanDone_keeps  {s t : State} (e : execStoreScanDone s = .next t) : Keeps s t := by
  cases e
  have h := Keeps.refl s
  repeat' first
    | with_reducible assumption
    | intro _
    | with_reducible apply State.liveU_keeps
    | with_reducible apply State.storeScanDone_keeps
    | split
    | dsimp -zeta only

theorem execTwinEnable_keeps (who : Agent) (en : Bool) {s t : State} (e : execTwinEnable who en s = .next t) : Keeps s t := by
  cases e
  have h := Keeps.refl s
  repeat' first
    | with_reducible assumption
    | intro _
    | with_reducible apply State.allow_keeps
    | with_reducible apply State.twinEnable_keeps
    | dsimp -zeta only

theorem execRelinquish_keeps (who : Agent) {s t : State} (e : execRelinquish who s = .next t) : Keeps s t := by
  cases e
  have h := Keeps.refl s
  repeat' first
    | with_reducible assumption
    | intro _
    | with_reducible apply State.allow_keeps
    | with_reducible apply State.relinquish_keeps
    | dsimp -zeta only

theorem execRelinquishWithdraw_keeps  {s t : State} (e : execRelinquishWithdraw s = .next t) : Keeps s t := by
  cases e
  have h := Keeps.refl s
  repeat' first
    | with_reducible assumption
    | intro _
    | with_reducible apply State.live_keeps
    | with_reducible apply State.relinquishWithdraw_keeps
    | dsimp -zeta only

theorem execHeartbeatTx_keeps  {s t : State} (e : execHeartbeatTx s = .next t) : Keeps s t := by
  cases e
  have h := Keeps.refl s
  repeat' first
    | with_reducible assumption
    | intro _
    | with_reducible apply State.liveU_keeps
    | with_reducible apply State.heartbeatTx_keeps
    | dsimp -zeta only

theorem execHeartbeatRx_keeps (frame : List Byte) {s t : State} (e : execHeartbeatRx frame s = .next t) : Keeps s t := by
  cases e
  have h := Keeps.refl s
  repeat' first
    | with_reducible assumption
    | intro _
    | with_reducible apply State.liveU_keeps
    | with_reducible apply State.heartbeatRx_keeps
    | dsimp -zeta only

theorem execQuireTxDone_keeps  {s t : State} (e : execQuireTxDone s = .next t) : Keeps s t := by
  cases e
  have h := Keeps.refl s
  repeat' first
    | with_reducible assumption
    | intro _
    | with_reducible apply State.liveU_keeps
    | with_reducible apply State.quireTxDone_keeps
    | dsimp -zeta only

theorem execQuireRx_keeps (frames : List (List Byte)) {s t : State} (e : execQuireRx frames s = .next t) : Keeps s t := by
  cases e
  have h := Keeps.refl s
  repeat' first
    | with_reducible assumption
    | intro _
    | with_reducible apply State.liveU_keeps
    | with_reducible apply State.quireRx_keeps
    | dsimp -zeta only

theorem execPeerHolding_keeps  {s t : State} (e : execPeerHolding s = .next t) : Keeps s t := by
  cases e
  have h := Keeps.refl s
  repeat' first
    | with_reducible assumption
    | intro _
    | with_reducible apply State.live_keeps
    | with_reducible apply State.peerHolding_keeps
    | dsimp -zeta only

theorem execPeerForcing_keeps  {s t : State} (e : execPeerForcing s = .next t) : Keeps s t := by
  cases e
  have h := Keeps.refl s
  repeat' first
    | with_reducible assumption
    | intro _
    | with_reducible apply State.live_keeps
    | with_reducible apply State.peerForcing_keeps
    | dsimp -zeta only

theorem execPeerReleased_keeps  {s t : State} (e : execPeerReleased s = .next t) : Keeps s t := by
  cases e
  have h := Keeps.refl s
  repeat' first
    | with_reducible assumption
    | intro _
    | with_reducible apply State.live_keeps
    | with_reducible apply State.peerReleased_keeps
    | dsimp -zeta only

theorem execPeerFailed_keeps  {s t : State} (e : execPeerFailed s = .next t) : Keeps s t := by
  cases e
  have h := Keeps.refl s
  repeat' first
    | with_reducible assumption
    | intro _
    | with_reducible apply State.live_keeps
    | with_reducible apply State.peerFailed_keeps
    | dsimp -zeta only

theorem execCoruskLost_keeps  {s t : State} (e : execCoruskLost s = .next t) : Keeps s t := by
  cases e
  have h := Keeps.refl s
  repeat' first
    | with_reducible assumption
    | intro _
    | with_reducible apply State.live_keeps
    | with_reducible apply State.coruskLost_keeps
    | dsimp -zeta only

theorem execTokenReadbackFault_keeps  {s t : State} (e : execTokenReadbackFault s = .next t) : Keeps s t := by
  cases e
  have h := Keeps.refl s
  repeat' first
    | with_reducible assumption
    | intro _
    | with_reducible apply State.live_keeps
    | with_reducible apply State.readbackFault_keeps
    | dsimp -zeta only

theorem execLeaseRenew_keeps  {s t : State} (e : execLeaseRenew s = .next t) : Keeps s t := by
  cases e
  have h := Keeps.refl s
  repeat' first
    | with_reducible assumption
    | intro _
    | with_reducible apply State.live_keeps
    | with_reducible apply State.leaseRenew_keeps
    | dsimp -zeta only

theorem execLeaseLapse_keeps  {s t : State} (e : execLeaseLapse s = .next t) : Keeps s t := by
  cases e
  have h := Keeps.refl s
  repeat' first
    | with_reducible assumption
    | intro _
    | with_reducible apply State.live_keeps
    | with_reducible apply State.leaseLapse_keeps
    | dsimp -zeta only

theorem execInitClaim_keeps  {s t : State} (e : execInitClaim s = .next t) : Keeps s t := by
  cases e
  have h := Keeps.refl s
  repeat' first
    | with_reducible assumption
    | intro _
    | with_reducible apply State.live_keeps
    | with_reducible apply State.initClaim_keeps
    | dsimp -zeta only

theorem execPromotionComplete_keeps  {s t : State} (e : execPromotionComplete s = .next t) : Keeps s t := by
  cases e
  have h := Keeps.refl s
  repeat' first
    | with_reducible assumption
    | intro _
    | with_reducible apply State.live_keeps
    | with_reducible apply State.promotionComplete_keeps
    | dsimp -zeta only

theorem execCoruskLaneDown_keeps (lane : Fin 2) {s t : State} (e : execCoruskLaneDown lane s = .next t) : Keeps s t := by
  cases e
  have h := Keeps.refl s
  repeat' first
    | with_reducible assumption
    | intro _
    | with_reducible apply State.live_keeps
    | with_reducible apply State.laneDown_keeps
    | dsimp -zeta only

theorem execCoruskLaneRejoin_keeps (lane : Fin 2) {s t : State} (e : execCoruskLaneRejoin lane s = .next t) : Keeps s t := by
  cases e
  have h := Keeps.refl s
  repeat' first
    | with_reducible assumption
    | intro _
    | with_reducible apply State.liveU_keeps
    | with_reducible apply State.laneRejoin_keeps
    | dsimp -zeta only

theorem execUnsealDone_keeps (failed : List Nat) {s t : State} (e : execUnsealDone failed s = .next t) : Keeps s t := by
  cases e
  have h := Keeps.refl s
  repeat' first
    | with_reducible assumption
    | intro _
    | with_reducible apply State.live_keeps
    | with_reducible apply State.unseal_keeps
    | split
    | dsimp -zeta only

theorem execUpdate_keeps (who : Agent) (src : Bool) (slot : Fin 1024) {s t : State} (e : execUpdate who src slot s = .next t) : Keeps s t := by
  cases e
  have h := Keeps.refl s
  repeat' first
    | with_reducible assumption
    | intro _
    | with_reducible apply State.allow_keeps
    | with_reducible apply State.keyFields_keeps
    | with_reducible apply State.keyStart_keeps
    | dsimp -zeta only

theorem execVerify_keeps (who : Agent) (src : Bool) (slot : Fin 1024) {s t : State} (e : execVerify who src slot s = .next t) : Keeps s t := by
  cases e
  have h := Keeps.refl s
  repeat' first
    | with_reducible assumption
    | intro _
    | with_reducible apply State.allow_keeps
    | with_reducible apply State.keyFields_keeps
    | with_reducible apply State.keyStart_keeps
    | dsimp -zeta only

theorem execAttest_keeps (who : Agent) (src : Bool) (slot : Fin 1024) {s t : State} (e : execAttest who src slot s = .next t) : Keeps s t := by
  cases e
  have h := Keeps.refl s
  repeat' first
    | with_reducible assumption
    | intro _
    | with_reducible apply State.allow_keeps
    | with_reducible apply State.keyFields_keeps
    | with_reducible apply State.keyStart_keeps
    | dsimp -zeta only

theorem execPubkey_keeps (who : Agent) (src : Bool) (slot : Fin 1024) {s t : State} (e : execPubkey who src slot s = .next t) : Keeps s t := by
  cases e
  have h := Keeps.refl s
  repeat' first
    | with_reducible assumption
    | intro _
    | with_reducible apply State.allow_keeps
    | with_reducible apply State.keyFields_keeps
    | with_reducible apply State.keyStart_keeps
    | dsimp -zeta only

theorem execDelete_keeps (who : Agent) (src : Bool) (slot : Fin 1024) {s t : State} (e : execDelete who src slot s = .next t) : Keeps s t := by
  cases e
  have h := Keeps.refl s
  repeat' first
    | with_reducible assumption
    | intro _
    | with_reducible apply State.allow_keeps
    | with_reducible apply State.keyFields_keeps
    | with_reducible apply State.keyStart_keeps
    | dsimp -zeta only

theorem execKeyOpComplete_keeps  {s t : State} (e : execKeyOpComplete s = .next t) : Keeps s t := by
  cases e
  have h := Keeps.refl s
  repeat' first
    | with_reducible assumption
    | intro _
    | with_reducible apply State.liveU_keeps
    | with_reducible apply State.keyComplete_keeps
    | with_reducible apply State.svOrphans_keeps
    | dsimp -zeta only

theorem execKeyOpWrite_keeps (who : Agent) (data : BitVec 32) {s t : State} (e : execKeyOpWrite who data s = .next t) : Keeps s t := by
  cases e
  have h := Keeps.refl s
  repeat' first
    | with_reducible assumption
    | intro _
    | with_reducible apply State.allow_keeps
    | with_reducible apply State.keyWrite_keeps
    | dsimp -zeta only

theorem execKeyOpRead_keeps (who : Agent) {s t : State} (e : execKeyOpRead who s = .next t) : Keeps s t := by
  cases e
  have h := Keeps.refl s
  repeat' first
    | with_reducible assumption
    | intro _
    | with_reducible apply State.inTurn_keeps
    | with_reducible apply State.readReg_keeps
    | dsimp -zeta only

theorem execZeroizeMetadataDone_keeps  {s t : State} (e : execZeroizeMetadataDone s = .next t) : Keeps s t := by
  cases e
  have h := Keeps.refl s
  repeat' first
    | with_reducible assumption
    | intro _
    | with_reducible apply State.live_keeps
    | with_reducible apply State.onKey_keeps
    | (fail_if_no_progress (with_reducible apply keeps_mk))
    | dsimp -zeta only

theorem execChallengeNew_keeps (who : Agent) {s t : State} (e : execChallengeNew who s = .next t) : Keeps s t := by
  cases e
  have h := Keeps.refl s
  repeat' first
    | with_reducible assumption
    | intro _
    | with_reducible apply State.allow_keeps
    | with_reducible apply State.challengeNew_keeps
    | dsimp -zeta only

theorem execChallengeExpire_keeps  {s t : State} (e : execChallengeExpire s = .next t) : Keeps s t := by
  cases e
  have h := Keeps.refl s
  repeat' first
    | with_reducible assumption
    | intro _
    | with_reducible apply State.live_keeps
    | with_reducible apply State.challengeVoid_keeps
    | split
    | dsimp -zeta only

theorem execTokenWrite_keeps (who : Agent) (data : BitVec 32) {s t : State} (e : execTokenWrite who data s = .next t) : Keeps s t := by
  cases e
  have h := Keeps.refl s
  repeat' first
    | with_reducible assumption
    | intro _
    | with_reducible apply State.admitToken_keeps
    | with_reducible apply State.tokenWrite_keeps
    | dsimp -zeta only

theorem execTokenDebug_keeps (who : Agent) {s t : State} (e : execTokenDebug who s = .next t) : Keeps s t := by
  cases e
  have h := Keeps.refl s
  repeat' first
    | with_reducible assumption
    | intro _
    | with_reducible apply State.admitToken_keeps
    | with_reducible apply State.tokenSubmit_keeps
    | dsimp -zeta only

theorem execTokenLifecycle_keeps (who : Agent) {s t : State} (e : execTokenLifecycle who s = .next t) : Keeps s t := by
  cases e
  have h := Keeps.refl s
  repeat' first
    | with_reducible assumption
    | intro _
    | with_reducible apply State.admitToken_keeps
    | with_reducible apply State.tokenSubmit_keeps
    | dsimp -zeta only

theorem execTokenClearLog_keeps (who : Agent) {s t : State} (e : execTokenClearLog who s = .next t) : Keeps s t := by
  cases e
  have h := Keeps.refl s
  repeat' first
    | with_reducible assumption
    | intro _
    | with_reducible apply State.admitToken_keeps
    | with_reducible apply State.tokenSubmit_keeps
    | dsimp -zeta only

theorem execTokenCheckDone_keeps  {s t : State} (e : execTokenCheckDone s = .next t) : Keeps s t := by
  cases e
  have h := Keeps.refl s
  repeat' first
    | with_reducible assumption
    | intro _
    | with_reducible apply State.liveU_keeps
    | with_reducible apply State.tokenDone_keeps
    | dsimp -zeta only

theorem execLifecycleBurnDone_keeps  {s t : State} (e : execLifecycleBurnDone s = .next t) : Keeps s t := by
  cases e
  have h := Keeps.refl s
  repeat' first
    | with_reducible assumption
    | intro _
    | with_reducible apply State.live_keeps
    | with_reducible apply State.burnDone_keeps
    | dsimp -zeta only

theorem execDebugClose_keeps (who : Agent) {s t : State} (e : execDebugClose who s = .next t) : Keeps s t := by
  cases e
  have h := Keeps.refl s
  repeat' first
    | with_reducible assumption
    | intro _
    | with_reducible apply State.allow_keeps
    | with_reducible apply State.debugClose_keeps
    | with_reducible apply State.sessionClose_keeps
    | dsimp -zeta only

theorem execSessionExpire_keeps  {s t : State} (e : execSessionExpire s = .next t) : Keeps s t := by
  cases e
  have h := Keeps.refl s
  repeat' first
    | with_reducible assumption
    | intro _
    | with_reducible apply State.live_keeps
    | with_reducible apply State.sessionClose_keeps
    | split
    | dsimp -zeta only

theorem execTamperEvent_keeps (sensors : BitVec 6) {s t : State} (e : execTamperEvent sensors s = .next t) : Keeps s t := by
  cases e
  have h := Keeps.refl s
  repeat' first
    | with_reducible assumption
    | intro _
    | with_reducible apply State.tamper_keeps
    | dsimp -zeta only

theorem execTamperRelease_keeps (who : Agent) {s t : State} (e : execTamperRelease who s = .next t) : Keeps s t := by
  cases e
  have h := Keeps.refl s
  repeat' first
    | with_reducible assumption
    | intro _
    | with_reducible apply State.allow_keeps
    | with_reducible apply State.tamperRelease_keeps
    | with_reducible apply State.releaseWrite_keeps
    | dsimp -zeta only

theorem execTamperHoldExpire_keeps  {s t : State} (e : execTamperHoldExpire s = .next t) : Keeps s t := by
  cases e
  have h := Keeps.refl s
  repeat' first
    | with_reducible assumption
    | intro _
    | with_reducible apply State.tamperHoldExpire_keeps
    | dsimp -zeta only

theorem execPwrRun_keeps (who : Agent) {s t : State} (e : execPwrRun who s = .next t) : Keeps s t := by
  cases e
  have h := Keeps.refl s
  repeat' first
    | with_reducible assumption
    | intro _
    | with_reducible apply State.allow_keeps
    | with_reducible apply State.pwrRun_keeps
    | dsimp -zeta only

theorem execPwrQuiet_keeps (who : Agent) {s t : State} (e : execPwrQuiet who s = .next t) : Keeps s t := by
  cases e
  have h := Keeps.refl s
  repeat' first
    | with_reducible assumption
    | intro _
    | with_reducible apply State.allow_keeps
    | with_reducible apply State.pwrQuiet_keeps
    | dsimp -zeta only

theorem execPwrStandby_keeps (who : Agent) {s t : State} (e : execPwrStandby who s = .next t) : Keeps s t := by
  cases e
  have h := Keeps.refl s
  repeat' first
    | with_reducible assumption
    | intro _
    | with_reducible apply State.allow_keeps
    | with_reducible apply State.pwrDown_keeps
    | dsimp -zeta only

theorem execPwrOff_keeps (who : Agent) {s t : State} (e : execPwrOff who s = .next t) : Keeps s t := by
  cases e
  have h := Keeps.refl s
  repeat' first
    | with_reducible assumption
    | intro _
    | with_reducible apply State.allow_keeps
    | with_reducible apply State.pwrDown_keeps
    | dsimp -zeta only

theorem execPowerDownDone_keeps  {s t : State} (e : execPowerDownDone s = .next t) : Keeps s t := by
  cases e
  have h := Keeps.refl s
  repeat' first
    | with_reducible assumption
    | intro _
    | with_reducible apply State.downDone_keeps
    | dsimp -zeta only

theorem execPwrEnLow_keeps  {s t : State} (e : execPwrEnLow s = .next t) : Keeps s t := by
  cases e
  have h := Keeps.refl s
  repeat' first
    | with_reducible assumption
    | intro _
    | with_reducible apply State.pwrEnLow_keeps
    | dsimp -zeta only

theorem execPwrEnRise_keeps  {s t : State} (e : execPwrEnRise s = .next t) : Keeps s t := by
  cases e
  have h := Keeps.refl s
  repeat' first
    | with_reducible assumption
    | intro _
    | with_reducible apply State.pwrEnRise_keeps
    | dsimp -zeta only

theorem execClkReqWrite_keeps (who : Agent) (high : Bool) (value : BitVec 32) {s t : State} (e : execClkReqWrite who high value s = .next t) : Keeps s t := by
  cases e
  have h := Keeps.refl s
  repeat' first
    | with_reducible assumption
    | intro _
    | with_reducible apply State.allow_keeps
    | with_reducible apply State.clkReqWrite_keeps
    | dsimp -zeta only

theorem execClockUnitRunning_keeps (unit : Fin 48) {s t : State} (e : execClockUnitRunning unit s = .next t) : Keeps s t := by
  cases e
  have h := Keeps.refl s
  repeat' first
    | with_reducible assumption
    | intro _
    | with_reducible apply State.live_keeps
    | with_reducible apply State.clkRunning_keeps
    | dsimp -zeta only

theorem execPowerOnReset_keeps  {s t : State} (e : execPowerOnReset s = .next t) : Keeps s t := by
  cases e
  have h := Keeps.refl s
  repeat' first
    | with_reducible assumption
    | intro _
    | with_reducible apply State.resetTo_keeps
    | dsimp -zeta only

theorem execPinReset_keeps  {s t : State} (e : execPinReset s = .next t) : Keeps s t := by
  cases e
  have h := Keeps.refl s
  repeat' first
    | with_reducible assumption
    | intro _
    | with_reducible apply State.pinReset_keeps
    | dsimp -zeta only

theorem execHostReset_keeps (who : Agent) (key : BitVec 16) {s t : State} (e : execHostReset who key s = .next t) : Keeps s t := by
  cases e
  have h := Keeps.refl s
  repeat' first
    | with_reducible assumption
    | intro _
    | with_reducible apply State.allow_keeps
    | with_reducible apply State.hostReset_keeps
    | with_reducible apply State.hostResetCmd_keeps
    | dsimp -zeta only

theorem execHostResetEffect_keeps  {s t : State} (e : execHostResetEffect s = .next t) : Keeps s t := by
  cases e
  have h := Keeps.refl s
  repeat' first
    | with_reducible assumption
    | intro _
    | with_reducible apply State.live_keeps
    | with_reducible apply State.resetEffect_keeps
    | dsimp -zeta only

theorem execWdogKick_keeps (who : Agent) {s t : State} (e : execWdogKick who s = .next t) : Keeps s t := by
  cases e
  have h := Keeps.refl s
  repeat' first
    | with_reducible assumption
    | intro _
    | with_reducible apply State.allow_keeps
    | with_reducible apply State.wdogReload_keeps
    | split
    | dsimp -zeta only

theorem execWdogExpire_keeps  {s t : State} (e : execWdogExpire s = .next t) : Keeps s t := by
  cases e
  have h := Keeps.refl s
  repeat' first
    | with_reducible assumption
    | intro _
    | with_reducible apply State.live_keeps
    | with_reducible apply State.wdogExpire_keeps
    | dsimp -zeta only

theorem execResetNRelease_keeps  {s t : State} (e : execResetNRelease s = .next t) : Keeps s t := by
  cases e
  have h := Keeps.refl s
  repeat' first
    | with_reducible assumption
    | intro _
    | with_reducible apply State.resetRelease_keeps
    | dsimp -zeta only

theorem execPowerUpStart_keeps  {s t : State} (e : execPowerUpStart s = .next t) : Keeps s t := by
  cases e
  have h := Keeps.refl s
  repeat' first
    | with_reducible assumption
    | intro _
    | with_reducible apply State.powerUp_keeps
    | dsimp -zeta only

theorem execVwarnFall_keeps (vin : BitVec 16) {s t : State} (e : execVwarnFall vin s = .next t) : Keeps s t := by
  cases e
  have h := Keeps.refl s
  repeat' first
    | with_reducible assumption
    | intro _
    | with_reducible apply State.live_keeps
    | with_reducible apply State.vwarnFall_keeps
    | dsimp -zeta only

theorem execVwarnRise_keeps (vin : BitVec 16) (low : BitVec 16) {s t : State} (e : execVwarnRise vin low s = .next t) : Keeps s t := by
  cases e
  have h := Keeps.refl s
  repeat' first
    | with_reducible assumption
    | intro _
    | with_reducible apply State.live_keeps
    | with_reducible apply State.vwarnRise_keeps
    | dsimp -zeta only

theorem execVreset_keeps (vin : BitVec 16) {s t : State} (e : execVreset vin s = .next t) : Keeps s t := by
  cases e
  have h := Keeps.refl s
  repeat' first
    | with_reducible assumption
    | intro _
    | with_reducible apply State.live_keeps
    | with_reducible apply State.vresetAct_keeps
    | dsimp -zeta only

theorem execVstbyLow_keeps (vin : BitVec 16) {s t : State} (e : execVstbyLow vin s = .next t) : Keeps s t := by
  cases e
  have h := Keeps.refl s
  repeat' first
    | with_reducible assumption
    | intro _
    | with_reducible apply State.live_keeps
    | with_reducible apply State.vstbyLow_keeps
    | dsimp -zeta only

theorem execVstbyOk_keeps (vin : BitVec 16) {s t : State} (e : execVstbyOk vin s = .next t) : Keeps s t := by
  cases e
  have h := Keeps.refl s
  repeat' first
    | with_reducible assumption
    | intro _
    | with_reducible apply State.live_keeps
    | with_reducible apply State.vstbyOk_keeps
    | dsimp -zeta only

theorem execMbistDone_keeps (findings : List Finding) (queued : List Bool) {s t : State} (e : execMbistDone findings queued s = .next t) : Keeps s t := by
  cases e
  have h := Keeps.refl s
  repeat' first
    | with_reducible assumption
    | intro _
    | with_reducible apply State.live_keeps
    | with_reducible apply State.mbistDone_keeps
    | dsimp -zeta only

theorem execLbistDone_keeps (findings : List Finding) {s t : State} (e : execLbistDone findings s = .next t) : Keeps s t := by
  cases e
  have h := Keeps.refl s
  repeat' first
    | with_reducible assumption
    | intro _
    | with_reducible apply State.live_keeps
    | with_reducible apply State.lbistDone_keeps
    | dsimp -zeta only

theorem execDdrTrainingDone_keeps  {s t : State} (e : execDdrTrainingDone s = .next t) : Keeps s t := by
  cases e
  have h := Keeps.refl s
  repeat' first
    | with_reducible assumption
    | intro _
    | with_reducible apply State.live_keeps
    | with_reducible apply State.onSys_keeps
    | (fail_if_no_progress (with_reducible apply keeps_mk))
    | dsimp -zeta only

theorem execBootDecide_keeps  {s t : State} (e : execBootDecide s = .next t) : Keeps s t := by
  cases e
  have h := Keeps.refl s
  repeat' first
    | with_reducible assumption
    | intro _
    | with_reducible apply State.live_keeps
    | with_reducible apply State.bootDecide_keeps
    | dsimp -zeta only

theorem execBistTestPair_keeps (who : Agent) (inst : Fin 16) {s t : State} (e : execBistTestPair who inst s = .next t) : Keeps s t := by
  cases e
  have h := Keeps.refl s
  repeat' first
    | with_reducible assumption
    | intro _
    | with_reducible apply State.allow_keeps
    | with_reducible apply State.bistStart_keeps
    | dsimp -zeta only

theorem execBistTestUnit_keeps (who : Agent) (inst : Fin 16) {s t : State} (e : execBistTestUnit who inst s = .next t) : Keeps s t := by
  cases e
  have h := Keeps.refl s
  repeat' first
    | with_reducible assumption
    | intro _
    | with_reducible apply State.allow_keeps
    | with_reducible apply State.bistStart_keeps
    | dsimp -zeta only

theorem execBistDemandDone_keeps (findings : List Finding) {s t : State} (e : execBistDemandDone findings s = .next t) : Keeps s t := by
  cases e
  have h := Keeps.refl s
  repeat' first
    | with_reducible assumption
    | intro _
    | with_reducible apply State.live_keeps
    | with_reducible apply State.bistDemandDone_keeps
    | with_reducible apply State.hkaFollow_keeps
    | dsimp -zeta only

theorem execAdcSweep_keeps (values : List Int) {s t : State} (e : execAdcSweep values s = .next t) : Keeps s t := by
  cases e
  have h := Keeps.refl s
  repeat' first
    | with_reducible assumption
    | intro _
    | with_reducible apply State.live_keeps
    | with_reducible apply State.sweep_keeps
    | dsimp -zeta only

theorem execAdcConvert_keeps (who : Agent) (channel : Fin 16) {s t : State} (e : execAdcConvert who channel s = .next t) : Keeps s t := by
  cases e
  have h := Keeps.refl s
  repeat' first
    | with_reducible assumption
    | intro _
    | with_reducible apply State.allow_keeps
    | with_reducible apply State.convGo_keeps
    | dsimp -zeta only

theorem execAdcConvertUrgent_keeps (who : Agent) (channel : Fin 16) {s t : State} (e : execAdcConvertUrgent who channel s = .next t) : Keeps s t := by
  cases e
  have h := Keeps.refl s
  repeat' first
    | with_reducible assumption
    | intro _
    | with_reducible apply State.allow_keeps
    | with_reducible apply State.convGo_keeps
    | dsimp -zeta only

theorem execAdcResult_keeps (value : BitVec 32) {s t : State} (e : execAdcResult value s = .next t) : Keeps s t := by
  cases e
  have h := Keeps.refl s
  repeat' first
    | with_reducible assumption
    | intro _
    | with_reducible apply State.liveU_keeps
    | with_reducible apply State.convResult_keeps
    | dsimp -zeta only

theorem execAgeingMeasure_keeps (ppm : List Nat) (nand : Nat) {s t : State} (e : execAgeingMeasure ppm nand s = .next t) : Keeps s t := by
  cases e
  have h := Keeps.refl s
  repeat' first
    | with_reducible assumption
    | intro _
    | with_reducible apply State.live_keeps
    | with_reducible apply State.ageing_keeps
    | dsimp -zeta only

theorem execLifeAccrue_keeps  {s t : State} (e : execLifeAccrue s = .next t) : Keeps s t := by
  cases e
  have h := Keeps.refl s
  repeat' first
    | with_reducible assumption
    | intro _
    | with_reducible apply State.live_keeps
    | with_reducible apply State.lifeAccrue_keeps
    | dsimp -zeta only

theorem execLifeCommit_keeps  {s t : State} (e : execLifeCommit s = .next t) : Keeps s t := by
  cases e
  have h := Keeps.refl s
  repeat' first
    | with_reducible assumption
    | intro _
    | with_reducible apply State.live_keeps
    | with_reducible apply State.lifeCommit_keeps
    | dsimp -zeta only

theorem execEccCorrected_keeps (monitor : Fin 32) (target : Nat) (inst : Nat) (addr : Nat) {s t : State} (e : execEccCorrected monitor target inst addr s = .next t) : Keeps s t := by
  cases e
  have h := Keeps.refl s
  repeat' first
    | with_reducible assumption
    | intro _
    | with_reducible apply State.live_keeps
    | with_reducible apply State.eccCorrected_keeps
    | dsimp -zeta only

theorem execEccWindowEnd_keeps  {s t : State} (e : execEccWindowEnd s = .next t) : Keeps s t := by
  cases e
  have h := Keeps.refl s
  repeat' first
    | with_reducible assumption
    | intro _
    | with_reducible apply State.live_keeps
    | with_reducible apply State.eccWindow_keeps
    | dsimp -zeta only

theorem execSpareDevice_keeps (who : Agent) (rank : Fin 4) (device : Fin 32) {s t : State} (e : execSpareDevice who rank device s = .next t) : Keeps s t := by
  cases e
  have h := Keeps.refl s
  repeat' first
    | with_reducible assumption
    | intro _
    | with_reducible apply State.allow_keeps
    | with_reducible apply State.spareDevice_keeps
    | dsimp -zeta only

theorem execSpareRebuildDone_keeps  {s t : State} (e : execSpareRebuildDone s = .next t) : Keeps s t := by
  cases e
  have h := Keeps.refl s
  repeat' first
    | with_reducible assumption
    | intro _
    | with_reducible apply State.liveU_keeps
    | with_reducible apply State.rebuildDone_keeps
    | dsimp -zeta only

theorem execQueueRepair_keeps (who : Agent) (prop : Fin 16) {s t : State} (e : execQueueRepair who prop s = .next t) : Keeps s t := by
  cases e
  have h := Keeps.refl s
  repeat' first
    | with_reducible assumption
    | intro _
    | with_reducible apply State.allow_keeps
    | with_reducible apply State.queueRepair_keeps
    | dsimp -zeta only

theorem execDismiss_keeps (who : Agent) (prop : Fin 16) {s t : State} (e : execDismiss who prop s = .next t) : Keeps s t := by
  cases e
  have h := Keeps.refl s
  repeat' first
    | with_reducible assumption
    | intro _
    | with_reducible apply State.allow_keeps
    | with_reducible apply State.dismiss_keeps
    | dsimp -zeta only

theorem execProposalRemind_keeps (monitor : Fin 32) {s t : State} (e : execProposalRemind monitor s = .next t) : Keeps s t := by
  cases e
  have h := Keeps.refl s
  repeat' first
    | with_reducible assumption
    | intro _
    | with_reducible apply State.live_keeps
    | with_reducible apply State.remind_keeps
    | dsimp -zeta only

end Sys2Proof.Machine
end

