-- ==== Sys2Proof/WellFormed.lean ====
section
/-! DEFINITION. Which commands are well formed: the limits of an operand that its type does not say. A command outside them
names nothing that can reach the module; its meaning is total all the same. -/

namespace Sys2Proof

/-- The longest frame on a line before a MAC cuts it off (R277). -/
def maxFrame : Nat := 65535

/-- A frame is no longer than a MAC lets through (R277). -/
def frameOk (frame : List Byte) : Bool := decide (frame.length ≤ maxFrame)

/-- A finding names a target of the self-test, a bit and a word address of a failure-log entry (R457). -/
def Finding.ok (f : Finding) : Bool :=
  decide (f.target < 256) && decide (f.inst < 64) && decide (f.bit < 256) && decide (f.addr < 2 ^ 32)

/-- An entry of a staging bank is 64 bytes (R112). -/
def stagingOk (es : List Nat) : Bool := es.all (fun e => decide (e < 2 ^ 512))

/-- The payload of a run fits the 48 KiB of the staging bank (04, "Staging"). -/
def payloadOk (bs : List Byte) : Bool := decide (bs.length ≤ 49152)

/-- The quire slots hold 2 MiB at most (R372). -/
def quireOk (bs : List Byte) : Bool := decide (bs.length ≤ 2097152)

/-- A ring descriptor is 32 bytes (R168, R170). -/
def descOk (ds : List Nat) : Bool := ds.all (fun d => decide (d < 2 ^ 256))

/-- An access adds no more descriptors than a 16-bit tail spans (R168). -/
def descCountOk (ds : List Nat) : Bool := decide (ds.length ≤ 65536)

/-- A reading of the ADC fits its register (R471). -/
def readingOk (v : Int) : Bool := decide (-2147483648 ≤ v) && decide (v < 2147483648)

/-- The command is well formed. -/
def WellFormed (i : Instr) : Bool :=
  match i with
  | .frameIngress _ frame _ => frameOk frame
  | .frameRxEnd _ frame _ _ => frameOk frame
  | .svCopyReceived _ frame _ _ => frameOk frame
  | .wakeFrame _ frame => frameOk frame
  | .heartbeatRx frame => frameOk frame
  | .quireRx frames => frames.all frameOk
  | .sealRun _ _ entries payload quire =>
    decide (entries.length < 512) && stagingOk entries && payloadOk payload && quireOk quire
  | .rxTailWrite _ _ _ descs => descOk descs && descCountOk descs
  | .txTailWrite _ _ _ descs => descOk descs && descCountOk descs
  | .yield _ _ consumed => consumed.all (fun c => decide (c.2 < 2 ^ 32))
  | .mbistDone findings _ => findings.all Finding.ok
  | .lbistDone findings => findings.all Finding.ok
  | .bistDemandDone findings => findings.all Finding.ok
  | .adcSweep values => decide (values.length = 16) && values.all readingOk
  | .ageingMeasure ppm nand => decide (ppm.length = 18) && decide (nand < 2 ^ 32)
  | .unsealDone failed => failed.all (fun n => decide (n < 1024))
  | .kernelFault _ _ _ code => decide (128 ≤ code.toNat)
  | .folioFault _ _ len addr _ => ([1, 2, 4, 8] : List Nat).contains len.val && decide (addr.toNat % len.val = 0)
  | .registerWrite .. | .unmappedAccess .. | .lowWordRead .. | .hkaDataRead .. | .keyOpRead .. | .tableRead ..
  | .clearCounters .. | .clearPeaks .. | .mbRead .. | .mbWrite .. | .load .. | .loadFetchDone .. | .loadAbort ..
  | .floorSet .. | .stageLenWrite .. | .stageWrite .. | .stage .. | .arm .. | .confirm .. | .revert .. | .discard ..
  | .program .. | .eraseJournal .. | .svVerdict .. | .epochTimeout .. | .sealInstant .. | .sviEnable .. | .ringLoad ..
  | .ringEccError .. | .verifierFault .. | .verifierJobTimeout .. | .verifierKat .. | .spareSelWrite ..
  | .verifierIdleToSpare .. | .verifierRetire .. | .verifierRestore .. | .verifierRestoreDone .. | .abandon ..
  | .stallTimeout .. | .filterConsume .. | .elementDelayExpire .. | .elementResetTimeExpire ..
  | .elementIntegratorFull .. | .elementFreezeExpire .. | .settlingEnd .. | .sourceSwitch .. | .dtMinOnExpire ..
  | .dtHoldExpire .. | .bkstBlockWrite .. | .bkstResetElement .. | .bkstResetAll .. | .switchForceA ..
  | .switchForceB .. | .switchAutomatic .. | .filterLoad .. | .stateEcc .. | .dispatchDeadline .. | .folioDispatch ..
  | .backgroundTimeslice .. | .runBudgetExpire .. | .folioReset .. | .folioResetDone .. | .folioHalt ..
  | .folioResume .. | .lockstepMismatch .. | .pairRetire .. | .pairRestore .. | .pairRestoreDone .. | .migrate ..
  | .scanBudgetExpire .. | .restart .. | .forceSet .. | .forceRelease .. | .forceReleaseAll .. | .imageEcc ..
  | .ctlOpen .. | .ctlClose .. | .ctlCancel .. | .ctlWaitTimeout .. | .operateTimeout .. | .travelTimeout ..
  | .positionTalExpire .. | .objectAbort .. | .ilQuery .. | .cutThroughStart .. | .egressStart .. | .txComplete ..
  | .bufferEccError .. | .linkLost .. | .linkReturned .. | .linkHoldExpire .. | .supervisionTx .. | .linkQualified ..
  | .portEnWrite .. | .sfpOvercurrent .. | .verifyRestart .. | .verifyTimeout .. | .verifyResponse ..
  | .verifyReceived .. | .preemption .. | .pauseReceived .. | .pauseExpire .. | .pauseXoff .. | .pauseRefresh ..
  | .pauseXon .. | .portACollision .. | .portAFrameInterrupt .. | .pdelayReqTx .. | .irigFrame .. | .ppsEdge ..
  | .sourceQualified .. | .sourceLost .. | .timeSet .. | .timeStep .. | .timedLaunch .. | .launchLate .. | .tsqPop ..
  | .gooseRetransmit .. | .evrScanDone .. | .cursorLoad .. | .evrRead .. | .evrClear .. | .positionCapture ..
  | .headFilled .. | .gatheringComplete .. | .gutterEnd .. | .gapEnd .. | .captureResume .. | .gthEnable ..
  | .hostEnWrite .. | .deleteUpto .. | .readToHost .. | .nandWindowRead .. | .sequencerForce .. | .sequencerReset ..
  | .twinEnable .. | .relinquish .. | .coruskLaneDown .. | .coruskLaneRejoin .. | .update .. | .verify .. | .attest ..
  | .pubkey .. | .delete .. | .keyOpWrite .. | .challengeNew .. | .tokenWrite .. | .tokenDebug .. | .tokenLifecycle ..
  | .tokenClearLog .. | .debugClose .. | .debugAccess .. | .tamperEvent .. | .tamperRelease .. | .pwrRun ..
  | .pwrQuiet .. | .pwrStandby .. | .pwrOff .. | .clkReqWrite .. | .clockUnitRunning .. | .hostReset .. | .wdogKick ..
  | .bistTestPair .. | .bistTestUnit .. | .vwarnFall .. | .vwarnRise .. | .vreset .. | .vstbyLow .. | .vstbyOk ..
  | .adcConvert .. | .adcConvertUrgent .. | .adcResult .. | .eccCorrected .. | .spareDevice .. | .queueRepair ..
  | .dismiss .. | .proposalRemind .. | .hostConsumedWrite .. | .lgeEnable .. | .ctlEnable .. | .sfpFault ..
  | .loadSignatureDone | .loadJournalEntry | .loadCheckDone | .tipinVerified | .tipinJournalAppended
  | .tipinCommitCheck | .revertTimeout | .storeWriteDone | .cycleRelease | .substitutionDone | .migrationMove
  | .scanStart | .scanCommit | .positionFrame | .ilImageApply | .ilClkLoss | .ilStale | .portABackoffExpire | .ptpSync
  | .ptpFollowUp | .announceRx | .pdelayReqRx | .pdelayRespRx | .holdoverExpire | .wholeSecond | .ppsOutFall
  | .timeFloorUpdate | .leapSecond | .cadenceBoundary | .recordCommit | .evrClearDone | .sequencerEval
  | .gatheringStored | .storeScanDone | .relinquishWithdraw | .heartbeatTx | .quireTxDone | .peerHolding | .peerForcing
  | .peerReleased | .peerFailed | .coruskLost | .tokenReadbackFault | .leaseRenew | .leaseLapse | .initClaim
  | .promotionComplete | .keyOpComplete | .challengeExpire | .lifecycleBurnDone | .sessionExpire | .zeroizeMetadataDone
  | .tamperHoldExpire | .powerDownDone | .pwrEnLow | .pwrEnRise | .powerOnReset | .pinReset | .hostResetEffect
  | .wdogExpire | .powerUpStart | .ddrTrainingDone | .bootDecide | .lifeAccrue | .lifeCommit | .eccWindowEnd
  | .spareRebuildDone | .resetNRelease | .tokenCheckDone | .journalEraseDone | .gthStoreCmdDone | .ref10Qualified
  | .ref10Lost => true

end Sys2Proof
end

