-- ==== Sys2Proof/Tests/Slice0.lean ====
section
/-! SUPPORT. The model's own tests: well-formedness, worked examples of the spec, and states that meet the hypotheses of the
statements. -/

namespace Sys2Proof.Tests

set_option Elab.async false

open Sys2Proof Sys2Proof.Machine Sys2Proof.Reg

/-! ## Small states -/

/-- The rails up, the power state RUN and the start-up sequence over; nothing loaded. -/
def up : State := (State.reset.wr SYS_PWR_STATUS_STATE 3).onSys (fun y => { y with boot := 5 })

/-- Some time later. -/
def later (s : State) (ns : Nat) : State := { s with now := s.now + ns, tai := s.tai + ns, resid := s.resid + ns }

/-- The Supervisor. -/
def sup : Agent := .folio 0

/-- A byte of a number. -/
def b8 (n : Nat) : Byte := BitVec.ofNat 8 n

/-- A BER element with a short length. -/
def tlv (t : Nat) (bs : List Byte) : List Byte := b8 t :: b8 bs.length :: bs

/-- A pending epoch of stream 40. -/
def epoch1 : SvEpoch :=
  { epoch := 1, stream := 40, slots := [], placedAt := 0, lastBit := 0, fe := 0, unit := none, keySlot := none, keyGen := 0 }

/-- The machine with a folio's run. -/
def withRun (s : State) (f : Nat) (c : Cyc) : State := s.modFolio f (fun x => { x with cycs := [c] })

/-! ## An ingest with one stream -/

/-- A parser-profile entry. -/
def prs (tag lvl act maxl : Nat) : Nat :=
  Ent.PRS_TAG.mk' tag + Ent.PRS_LEVEL.mk' lvl + Ent.PRS_PRESENCE.mk' 1 + Ent.PRS_ACTION.mk' act + Ent.PRS_MAX_LEN.mk' maxl

/-- A loaded module at 4800 sets a second, four sets a cycle, with stream 40 enabled, one channel. -/
def svUp : State :=
  let s := ((((up.wr TIM_CADENCE_CFG_FS 4800).wr TIM_CADENCE_CFG_K 4).wr TIM_CADENCE_OFS_OFFSET_US 500).wr BND_STATUS_LOADED 1).wr
    SVI_STATUS_RUNNING 1
  let s := s.wr SVI_CTRL_ENABLE 1
  let s := [prs 0x80 0 1 4, prs 0xA2 0 2 60000, prs 0x80 1 3 64, prs 0x82 1 4 4, prs 0x83 1 5 4, prs 0x85 1 6 4,
    prs 0x87 1 8 1000].zipIdx.foldl (fun s e => s.putEnt 0x203 e.2 e.1) s
  let s := s.putEnt 0x201 40 (Ent.CTX_STABLE_ID.mk' 100 + Ent.CTX_ENABLE.mk' 1 + Ent.CTX_CHANNELS.mk' 1 + Ent.CTX_RATE.mk' 4800 +
    Ent.CTX_SETS_PER_CYCLE.mk' 4 + Ent.CTX_CONFREV.mk' 1 + Ent.CTX_EARLY_TOL.mk' 100)
  let s := s.putEnt 0x202 40 (Ent.SUB_STABLE_ID.mk' 200 + Ent.SUB_APPID.mk' 0x4000 + Ent.SUB_DST_MAC.mk' 0x010CCD040001 +
    Ent.SUB_PORT_MASK.mk' 0xFFF + Ent.SUB_CONTEXT.mk' 40 + Ent.SUB_SVID_LEN.mk' 4 + Ent.SUB_SVID.mk' 0x3130554D)
  let s : State := { s with tai := 5000000 }
  (s.wr TIM_CADENCE (s.cycleAt s.taiNs)).onSvi (fun v => { v with c0 := some 0 })

/-- A copy of stream 40 with one sample set. -/
def svFrame (cnt : Nat) : List Byte :=
  let asdu := tlv 0x30 (tlv 0x80 [0x4D, 0x55, 0x30, 0x31] ++ tlv 0x82 (beBytes 2 cnt) ++ tlv 0x83 (beBytes 4 1) ++ tlv 0x85 [2] ++
    tlv 0x87 (beBytes 4 5 ++ beBytes 4 0))
  let apdu := tlv 0x60 (tlv 0x80 [1] ++ tlv 0xA2 asdu)
  beBytes 6 0x010CCD040001 ++ beBytes 6 0x0A0000000001 ++ beBytes 2 0x88BA ++ beBytes 2 0x4000 ++ beBytes 2 (8 + apdu.length) ++
    [0, 0, 0, 0] ++ apdu

/-- The machine with a pending epoch. -/
def pendUp (p : SvEpoch) : State := up.onSvi (fun v => { v with pend := [p] })

/-- An epoch with a verifier's job. -/
def epochTag : SvEpoch := { epoch1 with fe := 1, unit := some 0, keySlot := some 3 }

/-- The job's key is VALID under the root. -/
def keyedUp : State :=
  ((pendUp epochTag).wr KEY_STATUS_STATE 2).onKey (fun k => { k with slots := k.slots ++ [(3, { state := 1, parentGen := 1, level := 1 })] })

/-- The same, with a key at its use limit. -/
def spentUp : State :=
  ((pendUp epochTag).wr KEY_STATUS_STATE 2).onKey
    (fun k => { k with slots := k.slots ++ [(3, { state := 1, parentGen := 1, level := 1, useLimit := 4, useCount := 4 })] })

/-- A loaded module in debug state KERNEL, with one window of folio 3. -/
def dbgUp : State :=
  (up.wr LCS_DEBUG_STATUS_STATE 3).putEnt 0x702 0 (Ent.WIN_ENABLE.mk' 1 + Ent.WIN_FOLIO.mk' 3 + Ent.WIN_DRAM_BASE.mk' 1 +
    Ent.WIN_SIZE.mk' 1 + Ent.WIN_ACCESS.mk' 1)


/-! ## A filter instance and a backstop element -/

/-- Instance 5 takes channel slot 0 (stream 40) as it is, from position 22 on. -/
def fltInst (cfg : Nat) : FInst :=
  { cfg := Ent.INST_STABLE_ID.mk' 1 + Ent.INST_ENABLE.mk' 1 + cfg, coef := 0, srcA := .chan 40 0 1, pos := some 22, rate := 4800, sc := 4 }

/-- Its next position holds a confirmed sample of 1000. -/
def fltUp (cfg : Nat) (x : FInst → FInst) (slot : SvSlot → SvSlot) : State :=
  let s := (svUp.putEnt 0x501 5 (fltInst cfg).cfg).modStream 40 (fun st =>
    { st with ring := [(slotOf 4 22, slot { cycle := 5, epoch := 1, ingress := 1, st := 2, vals := [1000], quals := [0] })] })
  s.setInst 5 (x (fltInst cfg))

/-- Element 7 watches instance 5 above a pickup of 100. -/
def elemUp (cfg : Nat) (e : Elem → Elem) (slot : SvSlot → SvSlot) : State :=
  (fltUp 0 id slot).onFlt (fun f => { f with elems :=
    [(7, e { src := 5, cfg := Ent.ELEM_STABLE_ID.mk' 1 + Ent.ELEM_INPUT.mk' 5 + Ent.ELEM_PICKUP.mk' 100 + Ent.ELEM_DT_MASK.mk' 1 + cfg })] })


/-! ## Two folios on a pair -/

/-- Pair 0 in service and pair 1 spare; folio 3 of the cadence and background folios 4 and 5 placed on pair 0. -/
def folUp (st3 st4 mode cur : Nat) : State :=
  let plc := Ent.PLC_ENABLE.mk' 1 + Ent.PLC_BUDGET_US.mk' 100 + Ent.PLC_DEADLINE_US.mk' 500
  let s : State := [(3, plc), (4, plc + Ent.PLC_BACKGROUND.mk' 1), (5, plc + Ent.PLC_BACKGROUND.mk' 1)].foldl
    (fun s e => s.putEnt 0x701 e.1 e.2) svUp
  let s : State := [(3, st3), (4, st4), (5, 1)].foldl (fun s e => s.wrI FOL_F_STATUS_STATE e.1 e.2) s
  let s := (((s.wr FOL_CTRL_ENABLE 1).wr CLS_CTRL_ENABLE 1).wrI FOL_P_STATE 1 1).wrI FOL_P_STATE 2 2
  (s.wrI FOL_P_CURRENT_MODE 0 mode).wrI FOL_P_CURRENT_FOLIO 0 cur

/-- A cycle of folio 3 to be run. -/
def dueUp (mode : Nat) : State := ((folUp 2 4 mode 4).wr TWN_STATUS_ROLE 1).modFolio 3 (fun x => { x with ready := [7] })

/-- A run in execution. -/
def runUp : State := withRun (later (folUp 3 1 1 3) 200000) 3 { cycle := 7, executing := true }

/-! ## A logic engine with one scan -/

/-- The engine runs in SOLO with a budget in µs; its program is one END. -/
def lgeUp (budget : Nat) : State :=
  (((svUp.wr TWN_STATUS_ROLE 1).wr LGE_CTRL_ENABLE 1).wr LGE_SCAN_CFG_BUDGET_US budget).putEnt 0x901 0
    (Ent.STI_STABLE_ID.mk' 1 + Ent.STI_OP.mk' 0x3F)

/-- A scan that started at reset's time. -/
def scan1 : Scan := { no := 1, at_ := 0, startTai := 0, delta := 0, budget := 200, period := 0, x := 0, f := [], g := 0 }

/-- The engine in that scan. -/
def inScan (budget : Nat) : State := (lgeUp budget).onLge (fun e => { e with scan := some scan1, scanNo := 1 })


/-! ## One control object -/

/-- Object 9 in a state with a command, if it has one, of the Supervisor; its position comes with APPID 0x100. -/
def ctlUp (st : Nat) (code : Option Nat) : State :=
  let s := ((svUp.wr TWN_STATUS_ROLE 1).wr CTL_CTRL_ENABLE 1).putEnt 0x1601 9
    (Ent.OBJ_STABLE_ID.mk' 1 + Ent.OBJ_ENABLE.mk' 1 + Ent.OBJ_POS_APPID.mk' 0x100)
  s.setObj 9 { st := st, cmd := code.map (fun c => { src := 1, folio := 0, obj := 9, code := c, tag := 0 }) }

/-- A GOOSE frame with APPID 0x100 and one 2-bit position: open. -/
def posFrame : List Byte :=
  let pdu := tlv 0x61 (tlv 0x81 [100] ++ tlv 0xAB (tlv 0x84 [6, 0x40]))
  beBytes 6 0x010CCD010001 ++ beBytes 6 0x0A0000000001 ++ beBytes 2 0x88B8 ++ beBytes 2 0x100 ++ beBytes 2 (8 + pdu.length) ++
    [0, 0, 0, 0] ++ pdu

/-- The answer port is enabled; object 9 may be opened. -/
def ilUp (power : Nat) : State :=
  (((ctlUp 0 none).wr SYS_PWR_STATUS_STATE power).wr CTL_CTRL_PORT_EN 1).onCtl (fun e => { e with il := some ⟨512, 0, 1, 0⟩ })


/-! ## Loads and tip-ins -/

/-- Start-up has passed DECIDE. -/
def decidedUp : State := up.onSys (fun y => { y with boot := 5 })

/-- A load in a phase, from a source. -/
def loadUp (phase src : Nat) : State :=
  ((decidedUp.onBnd (fun b => { b with load := some { src := src, fallback := false } })).wr BND_STATUS_BUSY 1).wr BND_STATUS_PHASE phase

/-- A tip-in with no section, for boundary 5. -/
def tip1 : TipJob := { bytes := [], mask := 0, digest := [], seq := 1, keyOk := false, target := 5 }

/-- A SOLO module loaded from slot A whose tip-in engine is in a state; it is in cycle 5. -/
def tipUp (st : Nat) : State :=
  ((svUp.wr TWN_STATUS_ROLE 1).wr BND_TIP_STATUS_STATE st).onBnd (fun b => { b with tip := if st = 0 then none else some tip1 })


/-! ## A switch with two ports in VLAN 5 -/

/-- The switch runs; ports 0 and 1 are up and members of VLAN 5, which floods to both. -/
def swcUp : State :=
  let s := (((svUp.wr SWC_CTRL_ENABLE 1).wrI SWC_P_STATE 0 1).wrI SWC_P_STATE 1 1).wrI MAC_P_CFG_MAX_LEN 0 1522
  let s := (s.wrI MAC_P_CFG_MAX_LEN 1 1522).putEnt 0xA02 5 (Ent.VLAN_VALID.mk' 1 + Ent.VLAN_MEMBER.mk' 3 + Ent.VLAN_FLOOD.mk' 3)
  (s.putEnt 0xA03 0 (Ent.PORT_PVID.mk' 5)).putEnt 0xA03 1 (Ent.PORT_PVID.mk' 5)

/-- A frame of 64 octets. -/
def swcFrame : List Byte :=
  beBytes 6 0x010CCD010001 ++ beBytes 6 0x0A0000000001 ++ beBytes 2 0x0800 ++ List.replicate 46 0#8

/-- Its reception on port 0 has begun. -/
def rxUp : State := swcUp.onSwc (fun w => { w with rx := [{
  port := 0, firstAt := 0, inResid := 0, rxTs := 0, cls := 0, dests := 2, folios := 0, toCtl := false, toTim := false, ctDis := false }] })

/-- Copy 7 of the frame for a port, in a state of its way. -/
def copy1 (p st : Nat) : Copy :=
  { id := 7, port := p, cls := 0, inPort := 0, bytes := swcFrame, firstAt := 0, inResid := 0, rxTs := 0, cells := 1, st := st,
    complete := true, stomped := false, ts := none, launch := none, gated := false, egressTs := 0, fragments := 0,
    sentOctets := 0, folios := 0, toCtl := false, toTim := false }

/-- The switch holds that copy. -/
def copyUp (p st : Nat) : State := swcUp.onSwc (fun w => { w with copies := [copy1 p st], nextCopy := 8 })


/-- Port 12 with one cell of a frame that entered there; XOFF as given. -/
def pauseUp (xoff : Nat) : State :=
  let s := (((swcUp.wrI MAC_P_PAUSE_TX_PAUSE_EN 12 1).wrI MAC_P_PAUSE_STATUS_XOFF 12 xoff).wrI MAC_P_PAUSE_THR_XOFF_CELLS 12 0).wrI
    MAC_P_PAUSE_THR_XON_CELLS 12 0
  (s.onSwc (fun w => { w with copies := [{ copy1 1 1 with inPort := 12 }] })).onMac (fun m => { m with xoffRefresh := [(12, 0)] })

/-- Copy 7 with 200 octets, leaving port 1. -/
def bigCopy : Copy := { copy1 1 2 with bytes := swcFrame ++ List.replicate 140 0#8 }

/-- Port 1 with preemption enabled, in a verification state with some attempts; class 1 is express. -/
def preUp (st att : Nat) : State :=
  let s := ((swcUp.wrI MAC_P_PREEMPT_PREEMPT_EN 1 1).wrI MAC_P_PREEMPT_STATUS_VERIFY 1 st).wrI MAC_P_PREEMPT_STATUS_ATTEMPTS 1 att
  let s := (s.wrI MAC_P_STATUS_LINK 1 1).wrI MAC_P_PREEMPT_EXPRESS_MASK 1 2
  (s.onSwc (fun w => { w with copies := [bigCopy, { copy1 1 1 with id := 8, cls := 1 }] })).onMac (fun m => { m with verifyEnd := [(1, 0)] })

/-- Port 1 with an armed wake detector in QUIET. -/
def wakeUp : State :=
  ((swcUp.wrI MAC_P_WAKE_CFG_WAKE_EN 1 1).wrI MAC_P_STATUS_LINK 1 1).wr SYS_PWR_STATUS_STATE 2

/-- A wake frame for every device. -/
def wakeBytes : List Byte :=
  List.replicate 6 0#8 ++ beBytes 6 0x0A0000000001 ++ beBytes 2 0x88B6 ++ beBytes 4 0x4B57414B ++ List.replicate 16 0#8 ++ beBytes 4 7


/-! ## The time base -/

/-- A loaded module at reset's time, with its time base running freely. -/
def timUp : State := { svUp with tai := 0 }

/-- The frame of 2000-01-01 00:00:00 UTC: position identifiers, day 1. -/
def irigMarks : List (Fin 3) :=
  (List.range 100).map (fun i => if i = 0 ∨ i % 10 = 9 then 2 else if i = 30 then 1 else 0)

/-- A PTP frame of a type with flags in its first flag octet, of 64 octets of message; its requester is port 1 of an all-zero address. -/
def msg (typ flag : Nat) : List Byte :=
  beBytes 6 0x0180C200000E ++ beBytes 6 0x0A0000000001 ++ beBytes 2 0x88F7 ++ [b8 typ, 2, 0, 64, 0, 0, b8 flag, 0] ++ List.replicate 12 0#8 ++
    beBytes 10 0x77 ++ List.replicate 14 0#8 ++ [0, 0, 0, 0xFF, 0xFE, 0, 0, 0, 0, 1] ++ List.replicate 10 0#8

/-- It came in on port 0. -/
def ptpIn (bs : List Byte) : TimMsg := { bytes := bs, inPort := 0, rxTs := 9, resid := 9 }

/-- The time base holds messages; the master with identity 0x77 is qualified on port 0, or none is. -/
def ptpUp (ms : List (List Byte)) (master : Bool) : State :=
  let x : PtpPort := { syncWait := some (0, 0, 0, 0),
                       masters := if master then [{ ident := 0x77, quality := 0, steps := 0, times := [0, 0], logInt := 16 }] else [] }
  (((timUp.wr TIM_PTP_CFG_PTP_PORT_MASK 1).wrI MAC_P_STATUS_LINK 0 1).setPtp 0 (if master then x else {})).onTim (fun t => { t with inbox := ms.map ptpIn })



/-! ## The event recorder -/

/-- A record. -/
def rec1 : EvRec :=
  { stamp := 0, cls := 5, srcKind := 0, srcId := 0, stampCn := false, timeValid := false, active := false, body := [] }

/-- A ready recorder with one committed record, and others waiting. -/
def evrUp (q : List EvRec) : State :=
  ((((up.wr EVR_STATUS_STATE 1).wr EVR_NEXT 2).wr EVR_CLEAR_UPTO 1).wrI EVR_W_CURSOR 0 1).onEvr (fun e => { e with region := [(rec1, false)], queue := q })


/-! ## The gathering engine -/

/-- A machine whose definition 0 is in a state, with nothing to sample at its position 0; `ovf` and `area` are its OVERFLOW and
its area in MiB. -/
def gthUp (st ovf area : Nat) (gap : Option Nat) : State :=
  (up.modStream 0 (fun x => { x with expired := 1 })).setGdef 0
    { cfg := { ent := Ent.GATH_OVERFLOW.mk' ovf + Ent.GATH_AREA_MIB.mk' area + Ent.GATH_HEAD.mk' 1 }, st := st, gap := gap }

/-- An ended gathering with no positions. -/
def gath1 : Gath :=
  { seq := 1, d := 0, cfg := {}, rate := 4800, sqr := 0, inKind := 0xFF, inIndex := 0, skew := 0, first := 0, tp := 0, eval := 0,
    srcInst := 0, act := false, tv := false, utc := 0, tipSeq := 0, binding := [], ended := true, off := 0 }

/-- The gathering engine after its start-up scan, with a gathering in capture or ended, and stored ones. -/
def gthOpen (g : List Gath) (st : List (Nat × List Byte)) : State :=
  ((up.wr GTH_STATUS_STORE_SCANNING 0).onGth (fun x => { x with open_ := g, stored := st })).setGdef 0 { cur := some 1 }

/-- A well-formed host ring in a window of folio 0. -/
def ringUp (st : List (Nat × List Byte)) : State :=
  (((gthOpen [] st).wr GTH_HOST_LEN 4096).wr GTH_CTRL_HOST_EN 1).putEnt 0x702 0
    (Ent.WIN_ENABLE.mk' 1 + Ent.WIN_SIZE.mk' 1 + Ent.WIN_ACCESS.mk' 3)

/-- Sequencer 0 is due at position 0. -/
def seqUp : State :=
  (up.setGdef 0 { cfg := { rate := 4800, sc := 1, ent := Ent.GATH_HEAD.mk' 5 }, st := 1, n := 1 }).setGseq 0
    { rows := [(0, 1 + Ent.SEQ_ENABLE.mk' 1 + Ent.SEQ_TARGETS.mk' 1)], n := some 0 }

/-- Position 0 of definition 0 is delivered, and nothing new waits. -/
def delivers (s : State) : Bool :=
  decide (s.fabricUp = true ∧ (s.gdef 0).st ≠ 0 ∧ s.gRefSet (s.gdef 0).cfg (s.gdef 0).n = some (2 ^ 64) ∧
    s.gChans (s.gdef 0).cfg.sc (s.gdef 0).n (s.gdef 0).cfg.srcs = some [] ∧ s.gSettled 0 = true ∧ (s.gdef 0).next = none)


/-! ## Twin operation -/

/-- A loaded twin in a role, with the peer's line, its last heartbeat and its lease. -/
def twnUp (role line : Nat) (peer : Option Beat) (lease : Option Nat) : State :=
  (((up.wr BND_STATUS_LOADED 1).wr SYS_CLK_RUN (2 ^ 48 - 1)).wr TWN_STATUS_ROLE role).onTwn (fun t => { t with peerLine := line, peer := peer, leaseAt := lease })

/-- A heartbeat of a peer in a role. -/
def beat1 (role : Nat) : Beat := beatOf { typ := 1, seq := 0, cycle := 0, payload := beBytes 1 role ++ List.replicate 63 0#8 } 0

/-- The frame of that heartbeat. -/
def beatFrame (role : Nat) : List Byte := coruskFrame 1 0 0 0 (beBytes 1 role ++ List.replicate 63 0#8)


/-! ## The key store -/

/-- A READY key store. -/
def keyUp : State := up.wr KEY_STATUS_STATE 2

/-- The machine at a write of KEY_OP_CTRL with OP and SRC. -/
def keyGo (s : State) (op : Nat) (src : Bool) : State := (((s.mbCount sup).wr KEY_OP_CTRL_OP op).wrB KEY_OP_CTRL_SRC src).wr KEY_OP_CTRL_SLOT 7

/-- The conditions under which an operation starts. -/
def keyStarts (u : State) : Bool :=
  let k := u.rd KEY_OP_CTRL_OP
  decide (u.on KEY_OP_STATUS_BUSY = false ∧ u.on BND_STATUS_BUSY = false ∧ u.rd KEY_STATUS_STATE = 2 ∧ k ≠ 0 ∧ k ≤ 5 ∧
    (k = 3 → u.on KEY_POLICY_ATTEST_EN = true ∧ u.rd KEY_ATTEST_NEXT < 1048576) ∧
    (k = 1 ∨ k = 2 → (u.rd KEY_OP_CTRL_SRC = 0 → u.window 0 (u.rd KEY_OP_BASE) (u.rd KEY_OP_LEN) false ≠ none ∧ u.rd KEY_OP_LEN ≤ 65536) ∧
      (¬ u.rd KEY_OP_CTRL_SRC = 0 → u.rd KEY_OP_LEN ≤ 49152)) ∧
    (u.rd KEY_OP_CTRL_SRC = 0 → k = 3 ∨ k = 4 → u.window 0 (u.rd KEY_OP_OUT) (keyOutLen k) true ≠ none))

/-- An operation in progress. -/
def keyJob (op : Nat) (forced : Option Nat) : State :=
  let j : KeyJob :=
    { op := op, slot := 7, uses := [], input := [], statement := [], index := 0, outAddr := none, forced := forced }
  keyUp.onKey (fun e => { e with job := some j })


/-! ## Lifecycle, tokens and tamper -/

/-- A token of a kind in good format, for the zero device. -/
def tok1 (kind : Nat) : List Byte :=
  beBytes 4 0x4B444247 ++ beBytes 2 1 ++ [b8 kind, 1#8] ++ List.replicate 188 0#8

/-- The token unit with a token in its buffer, and a check in progress. -/
def tokUp (kind : Nat) (busy : Nat) : State :=
  ((up.wr LCS_TOKEN_LEN 196).wr LCS_TOKEN_STATUS_BUSY busy).onLcs (fun l => { l with
    tokBuf := tok1 kind, job := some { bytes := tok1 kind, challengeOk := false } })

/-- A machine that drives TAMPER_N until a time. -/
def tampUp (t : Option Nat) (asked : Bool) : State :=
  (up.wr LCS_STATUS_TAMPER_N_DRIVEN 1).onLcs (fun l => { l with holdEnd := t, releaseAsked := asked })

/-- A debug session. -/
def ses1 : DbgSession := { issuer := 1, counter := 1, mask := 0, secs := 60, ends := 60000000000 }


/-! ## Power, resets and supply -/

/-- QUIET, loaded, with every clock unit running. -/
def quietUp : State := ((up.wr SYS_PWR_STATUS_STATE 2).wr BND_STATUS_LOADED 1).wr SYS_CLK_RUN (2 ^ 48 - 1)

/-- RUN, loaded, active, with a live peer. -/
def heldUp : State := twnUp 3 1 (some (beat1 6)) none

/-- Before start-up, after a reset of a kind, with PWR_EN and VSTBY good. -/
def coldUp (kind : Nat) (rec : Option (Nat × Nat × Nat × Nat)) : State :=
  ((((State.reset.wr SYS_PWR_STATUS_STATE 2).wr SYS_RST_STATUS_LAST_KIND kind).wr SYS_PWR_AON_PWR_EN 1).wr SYS_SUPPLY_STATUS_VSTBY_OK 1).onSys
    (fun y => { y with vreset := rec })

/-- In a dip. -/
def dipUp : State := (up.wr SYS_SUPPLY_STATUS_VWARN 1).onSys (fun y => { y with dip := some (0, 40000) })


/-! ## Self-test and housekeeping -/

/-- Start-up in a phase, with findings that are logged. -/
def bootUp (phase : Nat) (es : List Nat) : State := up.onSys (fun y => { y with boot := phase, ddr := true, findings := es })

/-- A memory finding of a core pair. -/
def find1 (spare : Bool) : Finding := { target := 3, inst := 2, bit := 0, addr := 0, spare := spare }

/-- Two spare pairs, or as many as asked, once a Binding is loaded; unit 0 is spare. -/
def spareUp (n : Nat) : State :=
  (((List.range 12).foldl (fun s p => s.wrI FOL_P_STATE p (if p < n then 1 else 0)) up).wr BND_STATUS_LOADED 1).wr SVI_VER_STATUS_UNIT_STATE 3

/-- Housekeeping runs. -/
def hkaUp : State := (up.wr HKA_CTRL_ENABLE 1).wr SYS_CLK_RUN (2 ^ 48 - 1)

/-- An open proposal in entry 0. -/
def propUp (action queued : Nat) : State := hkaUp.onHka (fun h => { h with
  prop := h.prop.put 0 0 (Ent.PROP_STATE.mk' 1 + Ent.PROP_ACTION.mk' action), queued := List.replicate queued (0, 0, 0) })

/-- A proposal of monitor 20. -/
def prop1 : HkaProp := { mon := 20, action := 4, subject := 2, detail := 0, addr := 0, level := 1 }

/-! ## Well-formedness: one command for each check that it refuses, and one that passes -/

/-- A frame one byte longer than a MAC lets through (R277). -/
@[irreducible] def tooLong : List Byte := List.replicate 65536 0#8

theorem tooLong_refused : frameOk tooLong = false := by
  unfold frameOk tooLong
  rw [List.length_replicate]
  rfl

/-- A payload one byte longer than the staging payload (R112). -/
@[irreducible] def heavyPayload : List Byte := List.replicate 49153 0#8

theorem heavyPayload_refused : payloadOk heavyPayload = false := by
  unfold payloadOk heavyPayload
  rw [List.length_replicate]
  rfl

/-- A quire contribution beyond every quire slot. -/
@[irreducible] def heavyQuire : List Byte := List.replicate 2097153 0#8

theorem heavyQuire_refused : quireOk heavyQuire = false := by
  unfold quireOk heavyQuire
  rw [List.length_replicate]
  rfl

/-- One descriptor more than a tail spans. -/
@[irreducible] def manyDescs : List Nat := List.replicate 65537 0

theorem manyDescs_refused : descCountOk manyDescs = false := by
  unfold descCountOk manyDescs
  rw [List.length_replicate]
  rfl

theorem test_wf_passes : WellFormed (.kernelFault sup 0 0 0x80) = true := by decide
theorem test_wf_ingress_too_long : WellFormed (.frameIngress 0 tooLong 0) = false := tooLong_refused
theorem test_wf_rxEnd_too_long : WellFormed (.frameRxEnd 0 tooLong .good 1) = false := tooLong_refused
theorem test_wf_copy_too_long : WellFormed (.svCopyReceived 0 tooLong true none) = false := tooLong_refused
theorem test_wf_wake_too_long : WellFormed (.wakeFrame 0 tooLong) = false := tooLong_refused
theorem test_wf_heartbeat_too_long : WellFormed (.heartbeatRx tooLong) = false := tooLong_refused
theorem test_wf_quire_too_long : WellFormed (.quireRx [tooLong]) = false := by
  show (frameOk tooLong && true) = false
  rw [tooLong_refused]
  rfl
theorem test_wf_seal_entry_width : WellFormed (.sealRun sup 1 [2 ^ 512] [] []) = false := by decide +kernel
theorem test_wf_seal_entry_count : WellFormed (.sealRun sup 1 (List.replicate 512 0) [] []) = false := by
  decide +kernel
theorem test_wf_seal_payload : WellFormed (.sealRun sup 1 [] heavyPayload []) = false := by
  show (true && true && payloadOk heavyPayload && true) = false
  rw [heavyPayload_refused]
  rfl
theorem test_wf_seal_quire : WellFormed (.sealRun sup 1 [] [] heavyQuire) = false := by
  show (true && true && true && quireOk heavyQuire) = false
  rw [heavyQuire_refused]
  rfl
theorem test_wf_rx_descriptor : WellFormed (.rxTailWrite sup 1 0 [2 ^ 256]) = false := by decide +kernel
theorem test_wf_tx_descriptor : WellFormed (.txTailWrite sup 1 0 [2 ^ 256]) = false := by decide +kernel
theorem test_wf_rx_count : WellFormed (.rxTailWrite sup 1 0 manyDescs) = false := by
  show (manyDescs.all _ && descCountOk manyDescs) = false
  rw [manyDescs_refused, Bool.and_false]
theorem test_wf_tx_count : WellFormed (.txTailWrite sup 1 0 manyDescs) = false := by
  show (manyDescs.all _ && descCountOk manyDescs) = false
  rw [manyDescs_refused, Bool.and_false]
theorem test_wf_yield_index : WellFormed (.yield sup 1 [(0, 2 ^ 32)]) = false := by decide +kernel
theorem test_wf_mbist : WellFormed (.mbistDone [⟨256, 0, 0, 0, false⟩] []) = false := by decide
theorem test_wf_lbist : WellFormed (.lbistDone [⟨0, 64, 0, 0, false⟩]) = false := by decide
theorem test_wf_demand_bit : WellFormed (.bistDemandDone [⟨0, 0, 256, 0, false⟩]) = false := by decide
theorem test_wf_demand_addr : WellFormed (.bistDemandDone [⟨0, 0, 0, 2 ^ 32, false⟩]) = false := by decide
theorem test_wf_adc_count : WellFormed (.adcSweep [1, 2]) = false := by decide
theorem test_wf_adc_range : WellFormed (.adcSweep (List.replicate 16 2147483648)) = false := by decide
theorem test_wf_ageing_count : WellFormed (.ageingMeasure [] 0) = false := by decide
theorem test_wf_ageing_nand : WellFormed (.ageingMeasure (List.replicate 18 0) (2 ^ 32)) = false := by decide
theorem test_wf_unseal : WellFormed (.unsealDone [1024]) = false := by decide
theorem test_wf_kernel_code : WellFormed (.kernelFault sup 0 0 0x7F) = false := by decide
theorem test_wf_fault_len : WellFormed (.folioFault 1 .load 3 0 0) = false := by decide
theorem test_wf_fault_aligned : WellFormed (.folioFault 1 .load 4 2 0) = false := by decide

/-! ## Commands that no word spells -/

theorem test_no_word (n w : Nat) : decodeTableWord n w = none := rfl
theorem test_fetch_leaves (s : State) (n w : Nat) : s.withFetchWord n w = s := rfl

/-! ## Worked examples of the spec -/

/-- 19, "the chassis manager finds a stomped frame": the check byte of the command. -/
theorem test_mb_command_crc : crc8 [0x8A, 0x01, 0x00, 0x00, 0x10] = 0x2C := by decide

/-- 19, the same example: the check byte of the reply. -/
theorem test_mb_reply_crc : crc8 [0x8B, 0x51, 0x00, 0x00, 0x00, 0x80] = 0xC9 := by decide +kernel

/-- 00, "finding a per-instance register": offset 0x40 of MAC instance 3 is 0x0C_3040. -/
theorem test_mac_instance3 : MAC_P_RX_FRAMES.key 3 0 = 0x0C3040 * 32 := by decide

/-- 03, "locating a set": 4 800 sets/s, SmpCnt 3 203 in second 1 700 000 000, 4 sets a cycle. -/
theorem test_locate_cycle : posOf 4800 1700000000 3203 / 4 = 2040000000800 := by decide +kernel

/-- 03, the same example: the slot. -/
theorem test_locate_slot : slotOf 4 (posOf 4800 1700000000 3203) = 515 := by decide +kernel

/-! ## The hypotheses of the statements can be met -/

/-- The hypotheses of `Obligations.StepRunsFrontCommand` can be met. -/
theorem test_witness_StepRunsFrontCommand :
    State.reset.pending = [] := by rfl

/-- The hypotheses of `Obligations.EveryStepKeepsTheStateWellFormed` can be met. -/
theorem test_witness_EveryStepKeepsTheStateWellFormed :
    step State.reset = .next State.reset.tick := by rfl

/-- The hypotheses of `Obligations.ResetIsWellFormed` can be met. -/
theorem test_witness_ResetIsWellFormed :
    State.reset.dram = [] := by rfl

/-- The hypotheses of `Obligations.FloorIsNeverLowered` can be met. -/
theorem test_witness_FloorIsNeverLowered :
    (up.Admits sup 0x10018 true ∧ up.bnd.floor ≤ 0 ∧ 0 ≤ (up.mbCount sup).rd BND_IMAGE_VER_IMAGE_VERSION) ∧
    (up.Admits .mgmt 0x10018 true ∧ ¬(up.bnd.floor ≤ 1 ∧ 1 ≤ (up.mbCount .mgmt).rd BND_IMAGE_VER_IMAGE_VERSION)) := by
  decide +kernel

/-- A load whose signature is good but whose version is below the floor. -/
def oldLoad : State :=
  ((up.wr BND_STATUS_PHASE 3).wr KEY_STATUS_STATE 2).onBnd (fun b =>
    { b with floor := 7, load := some { bytes := [], src := 0, fallback := false, keyOk := true } })

theorem test_witness_oldLoad : oldLoad.Runs 16 ∧ oldLoad.rd BND_STATUS_PHASE = 3 ∧ oldLoad.keysReady = true ∧
    oldLoad.rd KEY_STATUS_STATE ≠ 3 := by decide +kernel

/-- The hypotheses of `Obligations.RegisterWordsAreWrittenByTypeCode` can be met. -/
theorem test_witness_RegisterWordsAreWrittenByTypeCode :
    (up.Admits sup 0x18 false ∧ up.Admits .mgmt 0x18 false ∧ mapped 0x18 = true ∧ i0Blank 0x18 = false ∧ mapped 0xD200C = true ∧ i0Blank 0xD200C = true) ∧
    (up.InTurn (.kernel 3) 0x7083C ∧ mapped 0x7083C = true ∧ kernelReaches 3 0x7083C = true ∧ up.AdmitsOwn 5) ∧
    ((up.withPending [.lowWordRead (.folio 0) 0x18]).contends .mgmt 0x18 = true) ∧ up.regs.wf = true ∧ up.loaded = false ∧ svUp.loaded = true ∧
    (fieldsAt 0x10).any (fun p => decide (p.1.typ = .ro)) = true ∧ (fieldsAt 0x40).any (fun p => decide (p.1.typ = .wo)) = true ∧
    (fieldsAt 0x90).any (fun p => decide (p.1.typ = .rwlE)) = true ∧ (fieldsAt 0xA0020).any (fun p => decide (p.1.typ = .rwlB)) = true ∧
    (fieldsAt 0x18).any (fun p => decide (p.1.typ = .rw) && !ownRow.contains p.1) = true ∧
    (fieldsAt 0x100).any (fun p => decide (p.1.typ = .w1c)) = true := by
  refine ⟨by decide +kernel, by decide +kernel, by decide +kernel, by decide +kernel, by decide +kernel, by decide +kernel,
    by decide +kernel, by decide +kernel, by decide +kernel, by decide +kernel, by decide +kernel, by decide +kernel⟩

/-- The hypotheses of `Obligations.RegisterWordFrame` can be met. -/
theorem test_witness_RegisterWordFrame :
    up.regs.wf = true ∧ (∀ p ∈ fieldsAt 0x18, p.1.key p.2.1 p.2.2.1 ≠ SYS_MB_ADDR.key 0 0) := by decide +kernel

/-- The hypotheses of `Obligations.ReadsLatchTheHighWord` can be met. -/
theorem test_witness_ReadsLatchTheHighWord :
    (up.fabricUp = true ∧ up.InTurn sup 0xE0010 ∧ mapped 0xE0010 = true ∧ lowWord 0xE0010 = true ∧ up.mayRead sup 0xE0010 = true ∧
     up.mayRead (.folio 5) 0xE0010 = true ∧ up.InTurn .mgmt 0x150018 ∧ up.mayRead .mgmt 0x150018 = true) ∧
    (mapped 0x18 = true ∧ lowWord 0x18 = false ∧ up.mayRead sup 0x18 = true ∧ up.mayRead sup 0x120054 = true ∧ up.InTurn sup 0x120054 ∧
     up.mayRead (.folio 5) 0x18 = false ∧ up.InTurn (.folio 5) 0x18 ∧ up.mayRead (.folio 5) 0x150018 = false) ∧
    (mapped 0x2C = false ∧ mapped 0xFFFFFF = false ∧ up.fenced sup = false ∧ up.fenced .mgmt = false ∧ 3 ≤ dbgUp.debugCode ∧ up.debugCode < 1 ∧
     up.AdmitsOwn 5) := by
  refine ⟨by decide +kernel, by decide +kernel, by decide +kernel⟩

/-- The hypotheses of `Obligations.TableWindowsAndClears` can be met. -/
theorem test_witness_TableWindowsAndClears :
    (windows.find? (fun w => decide (Block.ofOffset w.ctrl = some .svi))).isSome = true ∧ up.Admits sup 0x20090 false ∧
    ((up.mbCount sup).wr SVI_TBL_CTRL_TABLE_ID 0x204).rd SVI_TBL_CTRL_TABLE_ID / 256 = 2 ∧ 511 < tableSize 0x204 ∧
    up.Admits sup (ctrlOffset .svi 0) false ∧ counterRange .svi = some (0x20050, 0x20088) ∧ up.Admits .mgmt (ctrlOffset .mac 19) false ∧
    (counterRange .mac).isSome = true ∧ up.Admits sup (ctrlOffset .lge 0) false := by decide +kernel

/-- The hypotheses of `Obligations.ManagementBusTransactions` can be met. -/
theorem test_witness_ManagementBusTransactions :
    up.mbMine 0x80 = true ∧ mbRequest 1 6 [0x80, 0x01, 0x00, 0x00, 0x10, b8 (crc8 [0x80, 0x01, 0x00, 0x00, 0x10])] = some 0x10 ∧
    up.contends .mgmt 0x10 = false ∧ mapped 0x10 = true ∧
    mbRequest 2 10 [0x80, 0x02, 0, 0, 0x18, 0, 0, 0, 1, b8 (crc8 [0x80, 0x02, 0, 0, 0x18, 0, 0, 0, 1])] = some 0x18 ∧
    up.contends .mgmt 0x18 = false ∧ mbRequest 1 6 [0x80, 0x01, 0, 0, 0x10, 0] = none ∧ mbRequest 2 10 [0x80, 0x02, 0, 0, 0x10, 0] = none ∧
    up.mbMine 0x82 = false ∧ (up.withPending [.lowWordRead (.folio 0) 0x10]).contends .mgmt 0x10 = true := by
  decide +kernel

/-- The hypotheses of `Obligations.DebugAccessesFollowTheDebugState` can be met. -/
theorem test_witness_DebugAccessesFollowTheDebugState :
    dbgUp.fabricUp = true ∧ dbgUp.window 3 0 4 true = some 0x200000 ∧ dbgUp.debugFolio 3 = true ∧ dbgUp.window 3 0 4 false = some 0x200000 ∧
    mapped 0x18 = true ∧ 3 ≤ dbgUp.debugCode ∧ hostMask 0x18 = 0 ∧ up.fabricUp = true ∧ up.debugFolio 3 = false ∧ up.debugCode = 0 := by
  decide +kernel

/-- The hypotheses of `Obligations.SvCopyIsJudgedAndPlaced` can be met. -/
theorem test_witness_SvCopyIsJudgedAndPlaced :
    svUp.Runs 15 ∧ svOffset (svFrame 22) = some (14, 0) ∧ (svOffset (svFrame 22 |>.take 20)).isSome = true ∧
    (let u := svUp.bump SVI_RX_FRAMES
     let apdu := slice (svFrame 22) 22 (beAt (svFrame 22) 16 2 - 8)
     8 ≤ beAt (svFrame 22) 16 2 ∧ 14 + beAt (svFrame 22) 16 2 ≤ (svFrame 22).length ∧ u.on SVI_CTRL_ENABLE = true ∧ u.loaded = true ∧
     u.svMatch 2 (svFrame 22) 14 apdu = some 40 ∧ u.ctxOn 40 = true ∧
     bitAt (beAt (svFrame 22) 18 2) 15 = (Ent.CTX_SIM_ELIGIBLE.on (u.ctx 40) && u.svi.simMode) ∧
     (u.svParse (u.ctx 40) apdu).isRight = true ∧ Ent.CTX_REQUIRE_AUTH.on (u.ctx 40) = false ∧ u.svi.c0 = some 0 ∧
     Ent.CTX_REDUNDANCY.of (u.ctx 40) = 0 ∧ u.svBacklog + 0 ≤ 1024 ∧ svSeq (svFrame 22) = none ∧
     (let q := posOf 4800 (svSecond 4800 u.taiNs 22) 22
      q * 1000000000 ≤ (u.taiNs + 100 * 1000) * 4800 ∧ u.horizon ≤ q / 4 + 63 ∧ u.svSealed 40 (q / 4) = false ∧
        u.svAt 40 q = none)) := by decide +kernel

/-- An extension under the key that stream 40 has in force. -/
def ext1 : SvExt := { alg := 1, keyId := List.replicate 4 0#8, covered := [], nonce := [], tag := [] }

theorem test_witness_svKey : (let c := Ent.CTX_AUTH.mk' 1 + Ent.CTX_KEY_SLOT_CUR.mk' 3
    let s := up.onKey (fun k => { k with slots := k.slots ++ [(3, { state := 1, typ := 2, keyId := List.replicate 16 0#8 })] })
    s.svKey c ext1 = some (3, false) ∧ s.svKey c { ext1 with alg := 2 } = none) := by decide +kernel

/-- The hypotheses of `Obligations.VerdictsOfEpochs` can be met. -/
theorem test_witness_VerdictsOfEpochs :
    (pendUp epoch1).Runs 15 ∧ (pendUp epoch1).svPending 1 = some epoch1 ∧ epoch1.keySlot = none ∧ epoch1.fcsOk = true ∧
    keyedUp.Runs 15 ∧ keyedUp.svPending 1 = some epochTag ∧ epochTag.keySlot = some 3 ∧ (keyedUp.keyUse 3).1 = true ∧
    (spentUp.svKeyLost epochTag = false ∧ spentUp.svPending 1 = some epochTag ∧ (spentUp.keyUse 3).1 = false) ∧ epochTag.unit ≠ none ∧ keyedUp.clk 16 = true ∧
    keyedUp.svKeyLost epochTag = false ∧ (pendUp epochTag).svKeyLost epochTag = true ∧ up.svPending 1 = none ∧
    epoch1.placedAt + 60000 ≤ (later (pendUp epoch1) 60000).now ∧ (pendUp epoch1).now < epoch1.placedAt + 60000 := by decide +kernel

/-- The hypotheses of `Obligations.IngestControlAndRingLoads` can be met. -/
theorem test_witness_IngestControlAndRingLoads :
    (let s := svUp.modStream 40 (fun x => { x with sealed := some 0 })
     s.Runs 15 ∧ (s.stream 40).sealed = some 0 ∧ s.ctxOn 40 = true ∧ s.sealDue 40 0 = true) ∧
    up.Admits sup 0x20004 false ∧ (svUp.mbCount sup).loaded = true ∧
    (let s := svUp.modStream 40 (fun x => { x with ring := [(0, { cycle := 0, epoch := 9, ingress := 1, st := 2 })] })
     (s.ringView 40 0 true).2 = some 9 ∧ Ent.SLOT_STATE.of (s.ringView 40 0 true).1 ≠ 6) ∧
    (up.ringView 40 0 true).2 = none ∧ Ent.SLOT_STATE.of (up.ringView 40 0 true).1 = 7 ∧
    (let s := svUp.onSvi (fun v => { v with c0 := none })
     (s.ringView 40 0 true).2 = none ∧ Ent.SLOT_STATE.of (s.ringView 40 0 true).1 = 6) ∧
    Ent.PLC_PROV.on (up.plc 3) = false := by decide +kernel

/-- The hypotheses of `Obligations.VerifierUnitsRetireAndReturn` can be met. -/
theorem test_witness_VerifierUnitsRetireAndReturn :
    up.Runs 16 ∧ up.sys.test = none ∧ up.unitState 0 = 0 ∧ up.unitState 3 = 3 ∧
    (let p := { epochTag with started := some 0 }
     let s := later (pendUp p) 5001
     s.unitJobs 0 = [p] ∧ p.started = some 0 ∧ 0 + 5000 * p.fe < s.now) ∧
    (up.wr SVI_VER_CTRL_KAT_EN 1).on SVI_VER_CTRL_KAT_EN = true ∧ up.Admits sup 0x20030 true ∧
    3 ≤ (up.mbCount sup).activeUnits ∧ (up.setUnit 1 2).unitState 1 = 2 ∧
    up.underTest 2 1 = false ∧ (up.setUnit 1 1).unitState 1 = 1 ∧ up.spareUnit = some 3 ∧
    (((up.mbCount sup).wr SVI_VER_CTRL_SPARE_SEL 0).setUnit 3 0).unitJobs 0 = [] ∧ up.svi.leaving.contains 0 = false ∧
    ((up.onSvi (fun v => { v with leaving := [0] })).svi.leaving.contains 0) = true := by decide +kernel

/-- The hypotheses of `Obligations.RunsSealReleaseAndStall` can be met. -/
theorem test_witness_RunsSealReleaseAndStall :
    (let c : Cyc := { cycle := 0 }
     let s := withRun up 3 { c with executing := true }
     s.folioBg 3 = false ∧ (s.folio 3).running = some { c with executing := true } ∧ (s.stageCheck 3 [] []).1 = [] ∧
       0 ≤ s.quireSlot 3) ∧
    (let s := withRun up 3 { cycle := 0, st := 4, executing := true }
     ((s.folio 3).running.map (fun c => c.st)) = some 4) ∧
    (let s := withRun up 0 { cycle := 0, st := 2 }
     (s.releasable 0).isSome = true) ∧
    (let s := later (withRun up 3 { cycle := 0, st := 2, emax := 9 }) 50000
     (((s.folio 3).cycs.filter (fun c => c.st == 2 && decide (c.sealedAt + 50000 ≤ s.now) && decide (s.rd CLS_FRONTIER < c.emax))).length = 1) ∧
       (s.folio 3).cyc 0 = (s.folio 3).cycs.head?) := by
  decide +kernel

/-- The hypotheses of `Obligations.FiltersConsumeInOrder` can be met. -/
theorem test_witness_FiltersConsumeInOrder :
    (let s := fltUp 0 id id
     let x := fltInst 0
     s.Runs 15 ∧ s.loaded = true ∧ s.inst 5 = some x ∧ s.instPos x = some 22 ∧ x.next = [] ∧ s.follow x 22 = x ∧
       s.instSwitch .none 22 [] x = (x, false) ∧ s.instPick x 22 = some (x, .some ⟨1000, false, false, false⟩ true 1 (some 1) 40, false, false)) ∧
    (let s := fltUp 0 (fun x => { x with next := [⟨0, x.cfg, 0, .chan 41 0 1, .none⟩] }) id
     let x := { fltInst 0 with next := [⟨0, (fltInst 0).cfg, 0, .chan 41 0 1, .none⟩] }
     s.inst 5 = some x ∧ s.follow x 22 = x ∧ (s.instPick x 22).map (fun r => (s.instSwitch r.2.1 22 x.next x).2) = some true) ∧
    (let s := fltUp 0 id (fun r => { r with st := 1 })
     let x := fltInst 0
     s.Runs 15 ∧ s.inst 5 = some x ∧ s.instPos x = some 22 ∧ s.follow x 22 = x ∧ s.instPick x 22 = none) ∧ up.loaded = false ∧
    (let s := fltUp 0 (fun x => { x with srcA := .none }) id
     let x := { fltInst 0 with srcA := .none }
     s.inst 5 = some x ∧ s.instPos x = some 22 ∧ s.follow x 22 = x ∧ s.instPick x 22 = some (x, .none, false, false)) ∧
    settlesIn 5 (fltUp 0 id id) ((fltUp 0 id id).filterConsume 5) = false ∧
    switchesIn 5 (fltUp 0 id id) ((fltUp 0 id id).filterConsume 5) = false ∧ up.folSt 3 ≠ 7 ∧ (up.wrI FOL_F_STATUS_STATE 3 7).folSt 3 = 7 ∧
    settlesIn 5 (fltUp 0 (fun x => { x with settle := 1 }) id) ((fltUp 0 (fun x => { x with settle := 1 }) id).filterConsume 5) = true ∧
    (let s := fltUp (Ent.INST_ALT_EN.mk' 1) (fun x => { x with forced := 2, srcB := .chan 40 0 1 }) id
     switchesIn 5 s (s.filterConsume 5) = true) ∧
    (fltUp 0 id id).Admits sup 0x5003C true ∧
    (((((fltUp 0 id id).mbCount sup).wr FLT_SWITCH_INSTANCE 5).wr FLT_SWITCH_FORCE 0).inst 5).isSome = true ∧
    ((fltUp 0 id id).filterRead 5 (slotOf 4 22)).2 = false ∧ (up.filterRead 5 0).2 = true := by decide +kernel

/-- The hypotheses of `Obligations.BackstopElementsTripAndReset` can be met. -/
theorem test_witness_BackstopElementsTripAndReset :
    (let s := elemUp (Ent.ELEM_MODE.mk' 1) id id
     s.Runs 15 ∧ tripsIn 7 1 s (s.filterConsume (s.elemInput 7)) = true) ∧
    (let s := elemUp (Ent.ELEM_MODE.mk' 2) (fun e => { e with integ := 2 ^ 48, pts := [(0, 0), (1000, 0)] }) id
     tripsIn 7 2 s (s.filterConsume (s.elemInput 7)) = true) ∧
    (let s := elemUp (Ent.ELEM_MODE.mk' 2 + Ent.ELEM_RESET_MODE.mk' 1) (fun e => { e with integ := 5 }) (fun r => { r with vals := [0] })
     resetsIn 7 s (s.filterConsume (s.elemInput 7)) = true) ∧
    (let s := elemUp (Ent.ELEM_MODE.mk' 1) id (fun r => { r with st := 3 })
     thawsIn 7 s (s.filterConsume (s.elemInput 7)) = true) ∧
    (let s := elemUp 0 id id
     let t := s.filterConsume (s.elemInput 7)
     tripsIn 7 1 s t = false ∧ tripsIn 7 2 s t = false ∧ resetsIn 7 s t = false ∧ thawsIn 7 s t = false) ∧
    up.Admits sup 0x50020 true ∧ up.Admits .mgmt 0x50038 true ∧
    (let s := later (up.onFlt (fun f => { f with minOn := [(3, 100)] })) 100
     s.fabricUp = true ∧ s.flt.minOn.get 3 (s.now + 1) ≤ s.now) ∧
    ((fltUp 0 id id).inst 5).isSome = true := by decide +kernel

/-- The hypotheses of `Obligations.DefiniteTimeElementRule` can be met. -/
theorem test_witness_DefiniteTimeElementRule :
    up.elemBlocked 7 = false ∧ Ent.ELEM_MODE.of (Ent.ELEM_MODE.mk' 1) = 1 ∧ elemValue 0 (Ent.OUT_FINE.mk' 1000) = (1000, true) ∧
    (Ent.ELEM_PICKUP.of (Ent.ELEM_PICKUP.mk' 999) : Int) < 1000 ∧ elemValue 0 (Ent.OUT_FINE.mk' 5 + Ent.OUT_INVALID.mk' 1) = (5, false) ∧
    0 + 1 ≤ outputsIn (Ent.ELEM_INV_HOLD.of (Ent.ELEM_INV_HOLD.mk' 1) * 1000) 4800 ∧ outputsIn (Ent.ELEM_INV_HOLD.of 0 * 1000) 4800 < 0 + 1 ∧ (up.wr FLT_BKST_BLOCK 128).elemBlocked 7 = true := by
  decide +kernel

/-- The hypotheses of `Obligations.FoliosAreDispatchedAndPreempted` can be met. -/
theorem test_witness_FoliosAreDispatchedAndPreempted :
    (let s := folUp 1 1 0 0
     s.fabricUp = true ∧ s.loaded = true ∧ s.folioOn 3 = true ∧ s.folioBg 3 = false ∧ s.cycleAt (s.tai - s.deadlineNs 3) ≠ 0) ∧
    up.loaded = false ∧ up.Runs (2 + 5) ∧
    (let s := dueUp 0
     s.Runs 2 ∧ s.pairSt 0 = 0 ∧ s.on FOL_CTRL_ENABLE = true ∧ s.loaded = true ∧ s.rdI FOL_P_CURRENT_MODE 0 = 0 ∧
       s.pairRun 0 = some (3, false, 7)) ∧
    (let s := dueUp 2
     s.Runs 2 ∧ s.pairSt 0 = 0 ∧ s.rdI FOL_P_CURRENT_MODE 0 = 2 ∧ s.pairRun 0 = some (3, false, 7)) ∧
    (let s := folUp 1 1 0 0
     s.pairRun 0 = none ∧ s.pairBg 0 = some 4) ∧
    (let s := folUp 1 3 2 4
     s.folioBg 4 = true ∧ s.folSt 4 = 3) ∧
    (let s := (up.putEnt 0x701 0 (Ent.PLC_BACKGROUND.mk' 1)).wrI FOL_F_STATUS_STATE 0 3
     s.fabricUp = true ∧ (s.svcConsume 1 5).folioBg 0 = true ∧ (s.svcConsume 1 5).folSt 0 = 3) ∧
    (let s := later (folUp 1 3 2 4) 1000000
     s.rdI FOL_P_CURRENT_MODE 0 = 2 ∧ (s.folio 4).runningSince + 1000000 ≤ s.now ∧
       (s.pairFolios 0).any (fun g => decide (g ≠ 4) && s.folioBg g &&
         decide (Ent.PLC_PRIORITY.of (s.plc g) = Ent.PLC_PRIORITY.of (s.plc 4)) &&
           (s.folSt g == 1 || s.folSt g == 2 || s.folSt g == 4)) = true) ∧
    (runUp.fabricUp = true ∧ (runUp.folio 3).running ≠ none ∧
      (runUp.folio 3).dispatchAt + Ent.PLC_BUDGET_US.of (runUp.plc 3) * 1000 ≤ runUp.now) := by decide +kernel

/-- The hypotheses of `Obligations.FolioFaultsAreRecorded` can be met. -/
theorem test_witness_FolioFaultsAreRecorded :
    (runUp.fabricUp = true ∧ runUp.folPair 3 = 0 ∧ 0x80 ≤ (0x80#8).toNat ∧ runUp.folSt 3 ≠ 0 ∧ runUp.folSt 3 ≠ 6 ∧ runUp.folSt 3 ≠ 7) ∧
    runUp.folSt 3 = 3 ∧ runUp.accessCause 3 .store 0x40000000 8 = some 1 ∧ runUp.accessCause 3 .load 0xF0041000 4 = some 3 ∧
    runUp.accessCause 3 .load 0xF00410C0 4 = none ∧ runUp.fenced (.kernel 0) = false ∧ runUp.mismatchDue 0 = false ∧
    Ent.PLC_FAULT_ACTION.on (runUp.plc 3) = false ∧ runUp.resetLimit 3 = false ∧
    (let s := runUp.putEnt 0x701 3 (Ent.PLC_FAULT_ACTION.mk' 1)
     Ent.PLC_FAULT_ACTION.on (s.plc 3) = true ∧ s.folSt 3 = 3) ∧
    (let s := runUp.putEnt 0x701 3 (Ent.PLC_RESET_MAX.mk' 1)
     s.resetLimit 3 = true ∧ s.folSt 3 = 3) := by decide +kernel

/-- The hypotheses of `Obligations.FoliosAreResetHaltedAndServed` can be met. -/
theorem test_witness_FoliosAreResetHaltedAndServed :
    runUp.Admits sup (0x71000 + 64 * 3) true ∧
    ((runUp.mbCount sup).folSt 3 ≠ 0 ∧ (runUp.mbCount sup).folSt 3 ≠ 6 ∧ (runUp.mbCount sup).folSt 3 ≠ 7) ∧
    ¬(sup = Agent.folio 0 ∧ (3 : Fin 32).val = 0) ∧
    (let s := folUp 6 1 0 0
     s.Admits sup (0x71000 + 64 * 3) true ∧ (s.mbCount sup).folSt 3 = 6 ∧ (s.mbCount sup).folPair 3 ≠ 15 ∧
     (let t := s.wrI FOL_F_STATUS_PAIR 3 15
      (t.mbCount sup).folPair 3 = 15 ∧ (t.mbCount sup).nextSpare = some 1 ∧ ((t.wrI FOL_P_STATE 1 2).wrI FOL_P_STATE 2 2).nextSpare = none)) ∧
    (folUp 7 1 0 0).folSt 3 = 7 ∧ (folUp 5 1 0 0).folSt 3 = 5 ∧ (folUp 5 1 0 0).folSt 4 ≠ 5 ∧
    (let s := runUp.wrI FOL_F_RING_CFG_TX_LOG2 3 4
     s.AdmitsOwn 3 ∧ s.folioBg 3 = false ∧ s.folioBg 4 = true ∧ ((folUp 1 1 0 0).folio 3).running = none ∧
     (let u := (s.modFolio 3 (fun x => { x with tx := postDescs x.tx 16 0 [1] })).wrI FOL_F_TX_PTR_TAIL 3 1
      u.folioBg 3 = false ∧ (u.folio 3).running = some { cycle := 7, executing := true })) := by decide +kernel

/-- The hypotheses of `Obligations.CorePairsAreSubstitutedAndMoved` can be met. -/
theorem test_witness_CorePairsAreSubstitutedAndMoved :
    (let s := folUp 0 0 0 0
     s.Runs (2 + 1) ∧ s.sys.test = none ∧ s.pairSt 1 ≠ 2 ∧ s.pairSt 1 ≠ 3 ∧ s.pairFolios 1 = [] ∧ s.fol.mig = none ∧ s.fol.subs = [] ∧
       s.pairSt 2 = 2 ∧ s.pairFolios 0 ≠ [] ∧ s.pairSt 0 = 0) ∧ up.fol.subs = [] ∧ up.fol.restoring = none ∧
    (let s := up.onFol (fun e => { e with subs := [{ from_ := 0, to_ := some 1, folios := 8, lost := 0, tai := 0, at_ := 0, cycle := 7 }] })
     s.fabricUp = true ∧ s.fol.subs ≠ [] ∧ (s.fol.subs.map (fun j => j.to_)) = [some 1]) ∧
    (let s := folUp 1 1 0 0
     s.Admits sup 0x70010 true ∧ ((s.mbCount sup).pairFields 1 1).on FOL_PAIR_CMD_STATUS_BUSY = false ∧
       ((s.mbCount sup).pairFields 1 1).pairSt 1 = 1 ∧
       ((s.mbCount sup).pairFields 2 2).on FOL_PAIR_CMD_STATUS_BUSY = false ∧ ((s.mbCount sup).pairFields 2 2).pairSt 2 = 2 ∧
       ((s.mbCount sup).pairFields 3 0).on FOL_PAIR_CMD_STATUS_BUSY = false ∧ ((s.mbCount sup).pairFields 3 0).pairSt 0 = 0 ∧
       ((s.mbCount sup).pairFields 3 0).nextSpare.isNone = false ∧
       ((s.mbCount sup).pairFields 1 0).pairSt 0 ≠ 1 ∧ ((s.mbCount sup).pairFields 3 1).pairSt 1 ≠ 0) ∧
    (let s := (folUp 1 1 0 0).wr FOL_PAIR_CMD_STATUS_BUSY 1
     ((s.mbCount sup).pairFields 1 1).on FOL_PAIR_CMD_STATUS_BUSY = true) ∧
    (let s := (folUp 1 1 0 0).wrI FOL_P_STATE 1 2
     ((s.mbCount sup).pairFields 3 0).nextSpare.isNone = true) ∧
    (let s := up.onFol (fun e => { e with restoring := some { from_ := 2, to_ := 15, tai := 0, at_ := 0, cycle := 7 } })
     s.fabricUp = true ∧ s.fol.restoring = some { from_ := 2, to_ := 15, tai := 0, at_ := 0, cycle := 7 }) ∧
    (let m : MigJob := { from_ := 0, to_ := 15, stopped := true, tai := 0, at_ := 0, cycle := 7 }
     let s := (folUp 1 1 0 0).onFol (fun e => { e with mig := some m })
     s.fabricUp = true ∧ s.fol.mig = some m ∧ m.stopped = true ∧ s.rdI FOL_P_CURRENT_MODE m.from_ ≠ 1 ∧
       (s.onFol (fun e => { e with mig := none })).takeSpare.1 = some 1) := by decide +kernel

/-- The hypotheses of `Obligations.LogicScansRunAndCommit` can be met. -/
theorem test_witness_LogicScansRunAndCommit :
    (let s := lgeUp 200
     s.fabricUp = true ∧ s.lgeRuns = true ∧ s.lge.scan = none ∧ s.lge.nextAt ≤ s.now) ∧
    (let s := later (inScan 200) 5000
     s.fabricUp = true ∧ s.lge.scan = some scan1 ∧ scan1.at_ + (s.scanRun scan1).n ≤ s.now ∧ s.now ≤ scan1.at_ + scan1.budget * 1000) ∧
    (let s := later (inScan 200) 200000
     s.fabricUp = true ∧ s.lge.scan = some scan1 ∧ scan1.at_ + scan1.budget * 1000 ≤ s.now) ∧
    up.fabricUp = true ∧ up.lgeRuns = false ∧ up.lge.scan = none ∧
    (let s := inScan 200
     s.now < scan1.at_ + (s.scanRun scan1).n ∧ s.now < scan1.at_ + scan1.budget * 1000) := by decide +kernel

/-- The hypotheses of `Obligations.AbandonedScansLeaveTheImage` can be met. -/
theorem test_witness_AbandonedScansLeaveTheImage :
    ((later (inScan 200) 200000).fabricUp = true ∧ (later (inScan 200) 200000).lge.scan = some scan1 ∧
      (match exec (.scanBudgetExpire 7) (later (inScan 200) 200000) with | .next _ => true | _ => false) = true) := by decide +kernel

/-- The hypotheses of `Obligations.ForcesAndLogicEngineControl` can be met. -/
theorem test_witness_ForcesAndLogicEngineControl :
    ((let s := lgeUp 200
      s.Admits sup 0x90048 true ∧
      (let u := (s.mbCount sup).wr LGE_FORCE_CTRL_OP 1
       u.on LGE_FORCE_STATUS_BUSY = false ∧ u.lgeRole = true ∧ u.lgeRuns = true) ∧
      (let u := (s.mbCount sup).wr LGE_FORCE_CTRL_OP 2
       u.on LGE_FORCE_STATUS_BUSY = false ∧ u.lgeRole = true ∧ u.lgeRuns = true) ∧
      (let u := (s.mbCount sup).wr LGE_FORCE_CTRL_OP 3
       u.on LGE_FORCE_STATUS_BUSY = false ∧ u.lgeRole = true ∧ u.lgeRuns = true)) ∧
     (let s := (lgeUp 200).wr LGE_FORCE_STATUS_BUSY 1
      (s.wr LGE_FORCE_CTRL_OP 1).on LGE_FORCE_STATUS_BUSY = true) ∧
     (let s := ((lgeUp 200).wr TWN_STATUS_ROLE 2).wr LGE_FORCE_CTRL_OP 1
      s.on LGE_FORCE_STATUS_BUSY = false ∧ s.loaded = true ∧ s.lgeRole = false) ∧
     (let s := ((lgeUp 200).wr LGE_CTRL_ENABLE 0).wr LGE_FORCE_CTRL_OP 1
      s.on LGE_FORCE_STATUS_BUSY = false ∧ s.lgeRole = true ∧ s.lgeRuns = false ∧ s.lge.scan = none) ∧
     ((lgeUp 200).onLge (fun e => { e with force := some ⟨1, 77, 1⟩ })).lge.force = some ⟨1, 77, 1⟩ ∧
     (let s := (lgeUp 200).putEnt 0x902 3 (Ent.IDN_STABLE_ID.mk' 77 + Ent.IDN_KIND.mk' 1 + Ent.IDN_INDEX.mk' 9)
      (findStable (s.used 0x902) 77).map (fun x => (x.1, Ent.IDN_KIND.of x.2)) = some (3, 1) ∧
        (imgForces s.lge.committed).find? (fun f => decide (Ent.FRC_STABLE_ID.of f.2 = 77)) = none ∧
        (List.range 256).find? (fun i => !((imgForces s.lge.committed).any (fun f => f.1 == i))) = some 0 ∧
        (let t := s.forceChange 0 (Ent.FRC_STABLE_ID.mk' 77 + Ent.FRC_KIND.mk' 1 + Ent.FRC_ACTIVE.mk' 1 + Ent.FRC_INDEX.mk' 9) 1 77 1 1 5
         ((imgForces t.lge.committed).find? (fun f => decide (Ent.FRC_STABLE_ID.of f.2 = 77))).isSome = true))) ∧
    ((let s := (lgeUp 200).wr LGE_CTRL_ENABLE 0
      s.Admits .mgmt 0x90004 false) ∧ up.loaded = false ∧ (inScan 200).lge.scan ≠ none ∧
     (lgeUp 200).Admits sup 0x90004 true ∧
     ((lgeUp 200).fabricUp = true ∧ (lgeUp 200).loaded = true ∧ (lgeUp 200).lge.halted = false ∧ (lgeUp 200).lge.scan = none) ∧
     ((inScan 200).fabricUp = true ∧ (inScan 200).loaded = true ∧ (inScan 200).lge.halted = false ∧ (inScan 200).lge.scan = some scan1) ∧
     (let s := (lgeUp 200).onLge (fun e => { e with halted := true })
      s.fabricUp = true ∧ s.lge.halted = true)) :=
  ⟨by decide +kernel, by decide +kernel⟩

/-- The hypotheses of `Obligations.ControlCommandsArrive` can be met. -/
theorem test_witness_ControlCommandsArrive :
    (let s := ctlUp 0 none
     s.Admits sup 0x160020 true ∧ isSup sup = true ∧ (s.mbCount sup).onI CTL_CMD_STATUS_BUSY 0 = false ∧
     (let v := (((((s.mbCount sup).wrI CTL_CMD_OBJECT 0 9).wrI CTL_CMD_CODE 0 1).wrI CTL_CMD_STATUS_BUSY 0 1).wrI
        CTL_CMD_STATUS_EXECUTED 0 0).bump CTL_CMDS
      v.isActive = true ∧ v.on CTL_CTRL_ENABLE = true ∧ objOn (v.objEnt 9) = true ∧
        (v.ctl.arrivals.find? (fun b => b.sameMaster { src := 1, folio := 0, obj := 9, code := 1, tag := 0 } && b.obj == 9)) = none ∧
        v.ctl.arrivals.length < 256)) ∧
    (let s := ctlUp 0 none
     s.Admits .mgmt (0x160020 + 16 * b2n true) true ∧ s.Admits sup (0x160020 + 16 * b2n true) true ∧ sup ≠ .mgmt) ∧
    ((up.bump CTL_CMDS).wr TWN_STATUS_ROLE 2).isActive = false ∧
    objOn (((ctlUp 0 none).bump CTL_CMDS).objEnt 10) = false ∧
    (((ctlUp 0 none).wr CTL_CTRL_ENABLE 0).bump CTL_CMDS).on CTL_CTRL_ENABLE = false ∧
    ((ctlUp 0 none).bump CTL_CMDS).masterOf { src := 0, folio := 7, obj := 9, code := 1, tag := 0 } = none ∧
    (let b : CtlCmd := { src := 1, folio := 0, obj := 9, code := 2, tag := 0 }
     (((ctlUp 0 none).onCtl (fun e => { e with arrivals := [b] })).bump CTL_CMDS).ctl.arrivals.find? (fun b =>
       b.sameMaster { src := 1, folio := 0, obj := 9, code := 1, tag := 0 } && b.obj == 9) = some b) ∧
    (let s := (ctlUp 0 none).onCtl (fun e => { e with arrivals := List.replicate 256 { src := 3, folio := 0, obj := 9, code := 1, tag := 0 } })
     256 ≤ (s.bump CTL_CMDS).ctl.arrivals.length ∧ (s.bump CTL_CMDS).ctl.arrivals.find? (fun b =>
       b.sameMaster { src := 1, folio := 0, obj := 9, code := 1, tag := 0 } && b.obj == 9) = none) := by decide +kernel

/-- The hypotheses of `Obligations.ControlTimersAndAborts` can be met. -/
theorem test_witness_ControlTimersAndAborts :
    (let s := later (ctlUp 1 (some 1)) 1000000000
     s.fabricUp = true ∧ (s.ctlObj 9).st = 1 ∧ (s.ctlObj 9).latchAt + Ent.OBJ_WAIT_MS.of (s.objEnt 9) * 1000000 ≤ s.now ∧
       (s.ctlObj 9).cmd.isSome = true) ∧
    (let s := later (ctlUp 2 (some 1)) 1000000000
     (s.ctlObj 9).out = none ∧ (s.ctlObj 9).st = 2 ∧ (s.ctlObj 9).execAt + Ent.OBJ_OPERATE_MS.of (s.objEnt 9) * 1000000 ≤ s.now ∧
       Ent.OBJ_POS_APPID.of (s.objEnt 9) ≠ 0 ∧ (s.ctlObj 9).execAt + Ent.OBJ_TRAVEL_MS.of (s.objEnt 9) * 1000000 ≤ s.now) ∧
    (let s := later ((ctlUp 2 (some 1)).putEnt 0x1601 9 (Ent.OBJ_STABLE_ID.mk' 1 + Ent.OBJ_ENABLE.mk' 1)) 1000000000
     (s.ctlObj 9).st = 2 ∧ Ent.OBJ_POS_APPID.of (s.objEnt 9) = 0) ∧
    (let s := later ((ctlUp 3 (some 1)).putEnt 0x1601 9 (Ent.OBJ_STABLE_ID.mk' 1 + Ent.OBJ_ENABLE.mk' 1)) 1000000000
     (s.ctlObj 9).out = none ∧ (s.ctlObj 9).st = 3 ∧ Ent.OBJ_POS_APPID.of (s.objEnt 9) = 0 ∧
       (s.ctlObj 9).execAt + Ent.OBJ_OPERATE_MS.of (s.objEnt 9) * 1000000 ≤ s.now) ∧
    (let s := (ctlUp 0 none).setObj 9 { out := some (1, 0) }
     (s.ctlObj 9).out = some (1, 0) ∧ (s.ctlObj 9).st ≠ 1 ∧ (s.ctlObj 9).posValid = false) ∧
    (let s := (ctlUp 0 none).setObj 9 { posValid := true, talEnd := some 0 }
     (s.ctlObj 9).posValid = true ∧ s.due (s.ctlObj 9).talEnd = true) ∧
    (ctlUp 1 (some 1)).Admits .mgmt 0x160040 true ∧ ((ctlUp 0 none).ctlObj 9).cmd = none := by decide +kernel

/-- The hypotheses of `Obligations.PositionFramesAndInterlockAnswers` can be met. -/
theorem test_witness_PositionFramesAndInterlockAnswers :
    ((let s := (ctlUp 2 (some 1)).onCtl (fun e => { e with inbox := [(posFrame, 16)] })
      s.fabricUp = true ∧ (s.ctl.inbox = [(posFrame, 16)]) ∧ (readGoose posFrame).isSome = true ∧
      (readGoose posFrame).map (fun r => r.2.2.1) = some false ∧
      (match readGoose posFrame with | some r => dbpos r.2.2.2[0]? | none => none) = some 1) ∧
     readGoose [] = none ∧ up.ctl.inbox = [] ∧ (ctlUp 0 none).on CTL_CTRL_SIM_MODE = false ∧ dbpos none = none ∧ ((ctlUp 2 (some 1)).ctlObj 9).cmd.isSome = true ∧
     (ctlUp 0 none).Admits sup 0x160004 false) ∧
    ((let s := (ilUp 3).onCtl (fun e => { e with ilQ := (9, true) })
      s.fabricUp = true ∧ s.power = 3 ∧ s.ctl.il = some ⟨512, 0, 1, 0⟩ ∧ s.ilStale = false ∧ ilParity 9 true = true ∧
        objOn (s.objEnt 9) = true ∧ s.on CTL_CTRL_PORT_EN = true ∧ s.isActive = true ∧
        (((s.bump CTL_IL_QUERIES).onCtl (fun e => { e with ilQ := (9, true) })).ilRise).power = 3) ∧
     ilParity 9 false = false ∧ (ilUp 2).power ≠ 3 ∧
     ((((ilUp 2).bump CTL_IL_QUERIES).onCtl (fun e => { e with ilQ := (9, true) })).ilRise).power ≠ 3 ∧
     (let s := (ilUp 3).onCtl (fun e => { e with ilNext := some ⟨512, 0, 2, 0⟩, ilEdges := 1 })
      s.ctl.ilNext = some ⟨512, 0, 2, 0⟩ ∧ s.ctl.ilEdges = 1) ∧ (ilUp 3).ctl.ilEdges = 0 ∧ (ilUp 3).ctl.ilEdge = none ∧
     (let s := (ilUp 3).onCtl (fun e => { e with ilEdge := some 0 })
      s.ctl.ilEdge = some 0 ∧ s.now < 0 + 1000) ∧
     (let s := later ((ilUp 3).onCtl (fun e => { e with ilEdge := some 0 })) 1000
      s.ctl.ilEdge = some 0 ∧ 0 + 1000 ≤ s.now) ∧
     (let s := later ((ilUp 3).wr CTL_IL_CFG_MAX_AGE_US 1) 2000
      s.ctl.il.isSome = true ∧ s.ilStale = true)) :=
  ⟨by decide +kernel, by decide +kernel⟩

/-- The hypotheses of `Obligations.FullLoadsBeginAndAbort` can be met. -/
theorem test_witness_FullLoadsBeginAndAbort :
    (let s := decidedUp
     s.Admits sup 0x10004 true ∧
     (let u := (s.mbCount sup).wr BND_CTRL_SRC 0
      u.on BND_STATUS_BUSY = false ∧ u.loaded = false ∧ u.rd BND_STATUS_PHASE ≠ 9 ∧ u.on BST_STATUS_SAFE = false ∧ u.bnd.wait = none ∧
        u.decided = true ∧ u.on SYS_SUPPLY_STATUS_VWARN = false)) ∧
    (let s := ((up.onSys (fun y => { y with boot := 3 })).mbCount sup).wr BND_CTRL_SRC 0
     s.on BND_STATUS_BUSY = false ∧ s.loaded = false ∧ s.bnd.wait = none ∧ s.decided = false) ∧
    ((loadUp 1 2).Admits sup 0x10004 true ∧ (((loadUp 1 2).mbCount sup).wr BND_CTRL_SRC 0).on BND_STATUS_BUSY = true) ∧
    ((loadUp 1 0).Runs 1 ∧ (loadUp 1 0).rd BND_STATUS_PHASE = 1 ∧ colophonValid ((loadUp 1 0).bndSlot 0).colophon = false) ∧
    ((loadUp 3 0).Runs 1 ∧ (loadUp 3 0).rd BND_STATUS_PHASE ≠ 1 ∧ (headerBad [] 1).isSome = true) ∧
    (decidedUp.Admits sup 0x10004 true ∧ (decidedUp.mbCount sup).on BND_STATUS_BUSY = false) ∧
    (let s := loadUp 1 2
     s.Runs 1 ∧ s.clk 16 = true ∧ s.bnd.load.isSome = true ∧ s.rd BND_STATUS_PHASE = 1) ∧
    colophonValid [] = false ∧
    ((loadUp 3 2).Admits sup 0x10004 true ∧ ((loadUp 3 2).mbCount sup).on BND_STATUS_BUSY = true ∧
      ((loadUp 3 2).mbCount sup).bnd.load.isSome = true) ∧
    (let u := (((loadUp 3 0).wr BND_BOOT_CFG_FALLBACK_EN 1).wr BND_STATUS_FAIL_CODE 6).wr BND_STATUS_FAIL_SECTION 0
     u.on BND_BOOT_CFG_FALLBACK_EN = true) := by decide +kernel

/-- The hypotheses of `Obligations.FullLoadsVerifyFillAndBecomeReady` can be met. -/
theorem test_witness_FullLoadsVerifyFillAndBecomeReady :
    (let s := (loadUp 3 2).wr KEY_STATUS_STATE 2
     s.Runs 16 ∧ s.bnd.load.isSome = true ∧ s.rd BND_STATUS_PHASE = 3 ∧ s.rd KEY_STATUS_STATE = 2) ∧
    (let s := (loadUp 6 0).onBnd (fun b => { b with slotA := { journal := [([1], true)] } })
     s.rd BND_STATUS_PHASE = 6 ∧ (s.bnd.load.map (fun j => (s.loadJournal j)[j.entry]?)) = some (some ([1], true))) ∧
    (let s := (loadUp 6 0).onBnd (fun b => { b with slotA := { journal := [([1], false)] } })
     s.rd BND_STATUS_PHASE = 6 ∧ (s.bnd.load.map (fun j => (s.loadJournal j)[j.entry]?)) = some (some ([1], false))) ∧
    (let s := (((loadUp 7 2).wr TIM_CADENCE_CFG_FS 4800).wr TIM_CADENCE_CFG_K 4).wr LGE_SCAN_CFG_BUDGET_US 100
     s.fabricUp = true ∧ s.rd BND_STATUS_PHASE = 7 ∧ s.loadBad.isSome = true) ∧
    (let s := (loadUp 3 2).wr KEY_STATUS_STATE 3
     s.Runs 16 ∧ s.bnd.load.isSome = true ∧ s.rd BND_STATUS_PHASE = 3 ∧ s.rd KEY_STATUS_STATE = 3) ∧
    (let s := loadUp 6 2
     s.Runs 16 ∧ s.rd BND_STATUS_PHASE ≠ 3 ∧ s.rd BND_STATUS_PHASE ≠ 7 ∧ (s.bnd.load.map (fun j => (s.loadJournal j)[j.entry]?)) = some none) ∧
    ((loadUp 3 2).rd BND_STATUS_PHASE ≠ 6) := by decide +kernel

/-- The hypotheses of `Obligations.StagingWindowTakesBytes` can be met. -/
theorem test_witness_StagingWindowTakesBytes :
    (up.Admits sup 0x10048 false ∧ up.Admits .mgmt 0x1004C false ∧ (up.mbCount .mgmt).bnd.stageOff < 2 ^ 26) ∧
    (let s := up.onBnd (fun b => { b with stageOff := 2 ^ 26 })
     s.Admits sup 0x1004C false ∧ 2 ^ 26 ≤ (s.mbCount sup).bnd.stageOff) := by decide +kernel

/-- The hypotheses of `Obligations.TipInCommandsFollowTheirStates` can be met. -/
theorem test_witness_TipInCommandsFollowTheirStates :
    (let u := (tipUp 0).mbCount sup
     (tipUp 0).Admits sup 0x10050 true ∧ u.tipSt = 0 ∧ u.on BND_STATUS_BUSY = false ∧ u.bnd.store = none) ∧
    (let u := (tipUp 2).mbCount sup
     u.tipSt = 2 ∧ u.tipSt ≠ 0 ∧ u.rd BND_TIP_TARGET = 0 ∧ u.cycle ≤ u.firstBoundary ∧ u.taiNs + 100000 ≤ u.boundary u.firstBoundary) ∧
    (let u := ((tipUp 2).wr BND_TIP_TARGET 1).mbCount sup
     u.tipSt = 2 ∧ 1 < u.cycle) ∧
    (let u := (tipUp 4).mbCount sup
     u.bnd.tip = some tip1 ∧ u.tipSt = 4 ∧ u.bnd.store = none ∧ u.activeSlot = some 0 ∧ u.on BND_EP_POLICY_JOURNAL_EN = false ∧
       u.role = 1 ∧ ((((u.onTip (fun t => { t with target := u.cycle, checked := none })).wr BND_TIP_STATUS_DEFERRALS 0).wr
        BND_TIP_STATUS_STATE 5).folRefresh).role = 1) ∧
    (let u := ((tipUp 4).wr BND_EP_POLICY_JOURNAL_EN 1).mbCount sup
     u.activeSlot = some 0 ∧ u.on BND_EP_POLICY_JOURNAL_EN = true) ∧
    (let s := (tipUp 1).wr KEY_STATUS_STATE 2
     s.Runs 16 ∧ s.bnd.tip = some tip1 ∧ s.tipSt = 1 ∧ s.lge.flips = [] ∧ s.keysReady = true) ∧
    ((tipUp 4).onBnd (fun b => { b with store := some { op := 3, slot := 0 } })).bnd.store = some { op := 3, slot := 0 } ∧
    (let u := ((tipUp 4).wr TWN_STATUS_ROLE 3).mbCount sup
     u.tipSt = 4 ∧ u.bnd.store = none ∧ u.role = 3 ∧ u.tipReverting.role = 3) ∧
    ((tipUp 0).Runs 16 ∧ (tipUp 0).tipSt ≠ 1 ∧ (tipUp 0).fabricUp = true ∧ (tipUp 0).bnd.store = none) := by decide +kernel

/-- The hypotheses of `Obligations.TipInCommitCheckAndTimeout` can be met. -/
theorem test_witness_TipInCommitCheckAndTimeout :
    (let s := later (tipUp 3) 1000000
     s.fabricUp = true ∧ s.bnd.tip = some tip1 ∧ s.tipSt = 3 ∧ s.tipFollows = false ∧ tip1.checked = none ∧
       s.boundary tip1.target ≤ s.taiNs + 20000 ∧
       (s.resolvedTo tip1.target && s.fol.subs.isEmpty && decide (s.lge.flips = []) && (decide (s.tipSt = 5) || s.twinTipOk)) = true) ∧
    (let s := later ((tipUp 3).onLge (fun e => { e with flips := [(true, false, false)] })) 1000000
     (s.resolvedTo tip1.target && s.fol.subs.isEmpty && decide (s.lge.flips = []) && (decide (s.tipSt = 5) || s.twinTipOk)) = false) ∧
    (let s := (tipUp 3).onTip (fun t => { t with target := 100 })
     s.taiNs + 20000 < s.boundary 100) ∧
    (let s := (tipUp 4).wr BND_TIP_CFG_REVERT_TIMEOUT 1
     s.tipSt = 4 ∧ s.rd BND_TIP_CFG_REVERT_TIMEOUT ≠ 0 ∧ s.rd BND_TIP_COMMIT + s.rd BND_TIP_CFG_REVERT_TIMEOUT + 1 ≤ s.cycle ∧
       s.bnd.store = none ∧ s.role = 1) ∧
    (let s := ((tipUp 4).wr BND_TIP_CFG_REVERT_TIMEOUT 1).wr TWN_STATUS_ROLE 3
     s.rd BND_TIP_COMMIT + s.rd BND_TIP_CFG_REVERT_TIMEOUT + 1 ≤ s.cycle ∧ s.bnd.store = none ∧ s.role = 3 ∧ s.tipReverting.role = 3) ∧
    ((tipUp 3).tipSt ≠ 4 ∧ (tipUp 3).fabricUp = true) := by decide +kernel

/-- The hypotheses of `Obligations.StoreCommandsWriteSlots` can be met. -/
theorem test_witness_StoreCommandsWriteSlots :
    (let u := ((tipUp 0).mbCount sup).wr BND_STORE_CTRL_TARGET_SLOT 1
     (tipUp 0).Admits sup 0x10078 true ∧ u.bnd.store = none ∧ u.on BND_STATUS_BUSY = false ∧ u.activeSlot ≠ some 1) ∧
    (let u := ((tipUp 0).mbCount sup).wr BND_STORE_CTRL_TARGET_SLOT 0
     u.bnd.store = none ∧ u.on BND_STATUS_BUSY = false ∧ u.activeSlot = some 0) ∧
    (let s := ((tipUp 0).onBnd (fun b => { b with store := some { op := 1, slot := 1, bytes := [] } })).wr KEY_STATUS_STATE 2
     s.fabricUp = true ∧ s.bnd.store = some { op := 1, slot := 1, bytes := [] } ∧ s.keysReady = true ∧ (headerBad [] 1).isSome = true) ∧
    (let s := (tipUp 0).onBnd (fun b => { b with store := some { op := 2, slot := 1 } })
     s.bnd.store = some { op := 2, slot := 1 } ∧ s.slotTaken 1 = false ∧ s.slotTaken 0 = true ∧ s.fabricUp = true ∧ s.keysReady = false) := by decide +kernel

/-- The hypotheses of `Obligations.ForwardingNeverTurnsBack` can be met. -/
theorem test_witness_ForwardingNeverTurnsBack :
    (swcUp.pairOf 0 = none ∧
      swcUp.decide0 0 swcFrame = .send 5 2 0 0 false false false ∧ bitAt 2 1 = true) ∧
    (swcUp.pairOf 0 = none ∧ swcUp.decide0 0 (beBytes 6 0x0180C2000001 ++ swcFrame.drop 6) = .drop SWC_NO_DEST) ∧
    (let s := swcUp.putEnt 0xA02 5 (Ent.VLAN_VALID.mk' 1 + Ent.VLAN_MEMBER.mk' 2 + Ent.VLAN_FLOOD.mk' 3)
     bitAt (Ent.VLAN_MEMBER.of (s.ent 0xA02 5)) 0 = false ∧ Ent.PORT_PVID.of (s.ent 0xA03 0) = 5 ∧ tagVid swcFrame = 0) := by decide +kernel

/-- The hypotheses of `Obligations.FramesEnterAndAreChecked` can be met. -/
theorem test_witness_FramesEnterAndAreChecked :
    (let s := { swcUp with swc := { swcUp.swc with rx := [] } }
     s.Runs 14 ∧ s.on SWC_CTRL_ENABLE = true ∧ s.loaded = true ∧ s.swc.rx.any (fun r => r.port == 0) = false ∧ s.clk 14 = true ∧
       isMacControl swcFrame = false ∧ 64 ≤ frameLen swcFrame ∧
       s.decide0 0 swcFrame = .send 5 2 0 0 false false false ∧
       s.decide0 0 (beBytes 6 0x0180C2000001 ++ swcFrame.drop 6) = .drop SWC_NO_DEST) ∧
    (rxUp.Runs 14 ∧ rxUp.swc.rx.any (fun r => r.port == 0) = true) ∧
    (swcUp.Runs (portUnit 0) ∧ frameLen swcFrame < 16384 ∧ isMacControl (swcFrame.take 16380) = false) ∧
    (isMacControl (beBytes 12 0 ++ beBytes 2 0x8808) = true ∧ swcUp.Runs (portUnit 19) ∧ swcUp.Runs (portUnit 18) ∧ frameLen [] < 64) ∧
    (let s := rxUp
     (s.swc.rx.find? (fun r => r.port == 0)).isSome = true ∧ isSupervision swcFrame = false ∧ frameLen swcFrame ≤ s.maxLen 0 ∧
       s.swc.copies = [] ∧ swcUp.swc.rx.find? (fun r => r.port == 0) = none) := by decide +kernel

/-- The hypotheses of `Obligations.CopiesStartAndLeave` can be met. -/
theorem test_witness_CopiesStartAndLeave :
    (let s := copyUp 1 1
     s.Runs 14 ∧ s.sending 1 = false ∧ s.rdI SWC_P_STATE 1 = 1 ∧ (copyUp 1 2).sending 1 = true ∧
     (let u := s.cullPort 1
      u.mac.respond.contains 1 = false ∧ u.mac.ctrl.find? (fun c => c.1 == 1 && u.launchRoom 1 64 false) = none ∧
      u.swc.copies.find? (fun y => y.port == 1 && y.st == 3 && u.launchRoom 1 (frameLen y.bytes - y.sentOctets) true) = none ∧
      u.nextCopyOf 1 = some (copy1 1 1) ∧ (swcUp.cullPort 1).nextCopyOf 1 = none)) ∧
    (let u := (copyUp 1 3).cullPort 1
     u.swc.copies.find? (fun y => y.port == 1 && y.st == 3 && u.launchRoom 1 (frameLen y.bytes - y.sentOctets) true) = some (copy1 1 3) ∧
       u.nextCopyOf 1 = none) ∧
    (let u := (((copyUp 1 3).wrI MAC_P_PREEMPT_EXPRESS_MASK 1 255).onSwc (fun w => {
        w with copies := w.copies ++ [{ copy1 1 1 with id := 9 }] })).cullPort 1
     u.swc.copies.find? (fun y => y.port == 1 && y.st == 3 && u.launchRoom 1 (frameLen y.bytes - y.sentOctets) true) = some (copy1 1 3) ∧
       (u.nextCopyOf 1).isSome = true) ∧
    (let u := (swcUp.onMac (fun m => { m with ctrl := [(1, 0)] })).cullPort 1
     u.mac.ctrl.find? (fun c => c.1 == 1 && u.launchRoom 1 64 false) = some (1, 0)) ∧
    (let s := (copyUp 1 0).onSwc (fun w => { w with released := [(7, 100)] })
     s.Runs 14 ∧ s.swc.copies.find? (fun c => c.port == 1 && c.st == 0 && decide (s.nCt 1 ≤ s.swc.released.get c.id 0) && s.cutMay c) = some (copy1 1 0) ∧
       swcUp.swc.copies.find? (fun c => c.port == 1) = none) ∧
    (let s := copyUp 1 2
     (s.swc.copies.filter (fun x => x.port == 1 && x.st == 2 && x.complete)) = [copy1 1 2] ∧ (copy1 1 2).fragments = 0 ∧
       (copy1 1 2).stomped = false ∧ s.swc.copies.find? (fun c => c.id == 7) = some (copy1 1 2)) ∧
    ((copyUp 1 1).swc.copies.find? (fun c => c.id == 7) = some (copy1 1 1) ∧ swcUp.swc.copies.find? (fun c => c.id == 7) = none) ∧
    (let s := (copyUp 1 1).onMac (fun m => { m with respond := [1] })
     s.Runs 14 ∧ (s.cullPort 1).mac.respond.contains 1 = true ∧ (s.cullPort 1).launchRoom 1 64 false = true) := by
      decide +kernel

/-- The hypotheses of `Obligations.LinksHoldReturnAndExpire` can be met. -/
theorem test_witness_LinksHoldReturnAndExpire :
    swcUp.fabricUp = true ∧ (swcUp.rdI SWC_P_STATE 1 = 1) ∧
    (let s := swcUp.wrI MAC_P_STATUS_LINK 1 1
     s.onI MAC_P_STATUS_LINK 1 = true ∧ s.rdI SWC_P_STATE 1 ≠ 2 ∧ swcUp.onI MAC_P_STATUS_LINK 0 = false ∧ hasLine 18 = false) ∧
    (let s := later ((swcUp.wrI SWC_P_STATE 1 2).onSwc (fun w => { w with holdEnd := [(1, 5)] })) 5
     s.Runs 14 ∧ s.rdI SWC_P_STATE 1 = 2 ∧ s.swc.holdEnd.get 1 (s.now + 1) ≤ s.now ∧ s.mac.awaitTx = none ∧
       (s.wrI MAC_P_STATUS_LINK 1 1).onI MAC_P_STATUS_LINK 1 = true) ∧
    ((swcUp.onMac (fun m => { m with awaitTx := some (copy1 19 2) })).mac.awaitTx = some (copy1 19 2)) ∧
    (let s := swcUp.wrI SWC_RED_PAIR_MODE 0 1
     s.Runs 14 ∧ s.loaded = true ∧ s.rdI SWC_RED_PAIR_MODE 0 = 1 ∧ s.swc.supDue.get 0 0 ≤ s.now ∧ swcUp.rdI SWC_RED_PAIR_MODE 0 = 0 ∧
       (swcUp.wrI SWC_RED_PAIR_MODE 0 2).rdI SWC_RED_PAIR_MODE 0 = 2) := by decide +kernel

/-- The hypotheses of `Obligations.PauseFramesStopAndResume` can be met. -/
theorem test_witness_PauseFramesStopAndResume :
    (let s := swcUp.wrI MAC_P_PAUSE_RX_PAUSE_EN 12 1
     s.Runs (portUnit 12) ∧ s.onI MAC_P_PAUSE_RX_PAUSE_EN 12 = true ∧
       (s.onMac (fun m => { m with pauseEnd := [(12, 9)] })).mac.pauseEnd.get 12 0 ≠ 0) ∧
    (let s := copyUp 1 1
     s.nextCopyOf 1 = some (copy1 1 1)) ∧
    (copyUp 1 0).cutMay (copy1 1 0) = true ∧
    (let s := (copyUp 12 1).onMac (fun m => { m with pauseEnd := [(12, 9)] })
     s.now < s.mac.pauseEnd.get 12 0 ∧ s.sending 12 = false ∧ bitAt (s.rdI MAC_P_PAUSE_EXEMPT_MASK 12) 0 = false) ∧
    bitAt ((swcUp.wrI MAC_P_PAUSE_EXEMPT_MASK 12 1).rdI MAC_P_PAUSE_EXEMPT_MASK 12) 0 = true := by decide +kernel

/-- The hypotheses of `Obligations.PauseTimersAndPreemption` can be met. -/
theorem test_witness_PauseTimersAndPreemption :
    ((let s := later (swcUp.onMac (fun m => { m with pauseEnd := [(12, 9)] })) 9
      s.Runs (portUnit 12) ∧ s.mac.pauseEnd.get 12 (s.now + 1) ≤ s.now) ∧
     (let s := pauseUp 0
      s.Runs (portUnit 12) ∧ s.onI MAC_P_PAUSE_TX_PAUSE_EN 12 = true ∧ s.onI MAC_P_PAUSE_STATUS_XOFF 12 = false ∧
        16 * s.rdI MAC_P_PAUSE_THR_XOFF_CELLS 12 < s.inCells 12) ∧
     (let s := pauseUp 1
      s.onI MAC_P_PAUSE_STATUS_XOFF 12 = true ∧ 16 * s.rdI MAC_P_PAUSE_THR_XON_CELLS 12 < s.inCells 12 ∧
        s.mac.xoffRefresh.get 12 (s.now + 1) ≤ s.now) ∧
     (let s := (pauseUp 1).onSwc (fun w => { w with copies := [] })
      s.onI MAC_P_PAUSE_STATUS_XOFF 12 = true ∧ s.inCells 12 ≤ 16 * s.rdI MAC_P_PAUSE_THR_XON_CELLS 12)) ∧
    ((let s := preUp 2 1
      s.Admits sup 0xC100C false ∧ (s.mbCount sup).verifies 1 = true ∧ s.Runs (portUnit 1) ∧
        s.rdI MAC_P_PREEMPT_STATUS_VERIFY 1 = 2 ∧ s.mac.verifyEnd.get 1 (s.now + 1) ≤ s.now ∧
        s.rdI MAC_P_PREEMPT_STATUS_ATTEMPTS 1 < 3 ∧ s.onI MAC_P_STATUS_LINK 1 = true) ∧
     3 ≤ (preUp 2 3).rdI MAC_P_PREEMPT_STATUS_ATTEMPTS 1 ∧
     ((preUp 3 0).rdI MAC_P_PREEMPT_STATUS_VERIFY 1 ≠ 2 ∧ (swcUp.mbCount sup).verifies 0 = false ∧ swcUp.onI MAC_P_STATUS_LINK 0 = false ∧
       swcUp.swc.copies = []) ∧
     (let s := swcUp.onMac (fun m => { m with verifyEnd := [(1, 9)], pauseEnd := [(1, 9)] })
      s.now < s.mac.verifyEnd.get 1 (s.now + 1) ∧ s.now < s.mac.pauseEnd.get 1 (s.now + 1) ∧ s.onI MAC_P_PAUSE_STATUS_XOFF 1 = false) ∧
     (let s := preUp 3 0
      s.swc.copies.find? (fun c => c.port == 1 && c.st == 2) = some bigCopy ∧ s.preemptActive 1 = true ∧ s.express 1 0 = false ∧
        s.expressReady 1 = true ∧ 64 * (1 + s.rdI MAC_P_PREEMPT_ADD_FRAG 1) ≤ 64 + 4 ∧ bigCopy.complete = true ∧
        bigCopy.sentOctets + 64 + 64 ≤ frameLen bigCopy.bytes)) :=
  ⟨by decide +kernel, by decide +kernel⟩

/-- The hypotheses of `Obligations.LinksCagesPortAAndWakeFrames` can be met. -/
theorem test_witness_LinksCagesPortAAndWakeFrames :
    ((let s := (swcUp.wrI MAC_P_CTRL_PORT_EN 1 1).wrI MAC_P_CFG_SPEED 1 1
      s.Runs (portUnit 1) ∧ s.onI MAC_P_CTRL_PORT_EN 1 = true ∧ s.rdI MAC_P_CFG_SPEED 1 ≠ 0 ∧ s.mac.cageOff.get 1 0 = 0 ∧
        (later s 1000000).qualHeld 1 = true ∧ (later s 1000000).Runs (portUnit 1) ∧ s.Admits sup 0xC100C false ∧ (s.mbCount sup).mac.cageOff.get 1 0 = 0 ∧ (swcUp.wrI MAC_P_CTRL_PORT_EN 0 0).onI MAC_P_CTRL_PORT_EN 0 = false ∧
        ((s.onMac (fun m => { m with cageOff := [(1, 1)] })).mbCount sup).mac.cageOff.get 1 0 ≠ 0 ∧ s.Admits sup (0xC000C + 0x1000 * 18) false) ∧
     (swcUp.wrI MAC_P_STATUS_LINK 1 1).onI MAC_P_STATUS_LINK 1 = true) ∧
    ((let s := copyUp 19 2
      s.Runs 21 ∧ s.swc.copies.find? (fun c => c.port == 19 && c.st == 2) = some (copy1 19 2) ∧
        (s.bumpI MAC_P_COLLISIONS 19).mac.collisions + 1 < 16) ∧
     (let s := (copyUp 19 2).onMac (fun m => { m with collisions := 15 })
      16 ≤ (s.bumpI MAC_P_COLLISIONS 19).mac.collisions + 1) ∧
     (let s := (copyUp 19 4).onMac (fun m => { m with backoffEnd := some 0, awaitTx := some (copy1 19 2), awaitRx := [3] })
      s.Runs 21 ∧ s.due s.mac.backoffEnd = true ∧ s.mac.awaitTx = some (copy1 19 2) ∧ s.mac.awaitRx = [3] ∧
        (later s 9600).carrierBars 19 = false ∧ (later s 9600).due s.mac.backoffEnd = true ∧
        (s.wrI MAC_P_STATUS_CARRIER 19 1).carrierBars 19 = true ∧ s.swc.copies.find? (fun x => x.port == 19 && x.st == 4) = some (copy1 19 4)) ∧
     (swcUp.due swcUp.mac.backoffEnd = false ∧ swcUp.mac.awaitTx = none ∧ swcUp.mac.awaitRx = [] ∧ swcUp.swc.copies = [] ∧
        (swcUp.wakeArmed 1 && swcUp.isWake 1 []) = false) ∧
     (let s := wakeUp
      s.Runs (portUnit 1) ∧ s.wakeArmed 1 = true ∧ s.isWake 1 wakeBytes = true ∧
        (s.bumpI MAC_P_RX_WAKE 1).onI MAC_P_WAKE_STATUS_WAKE 1 = false ∧
        ((s.wrI MAC_P_WAKE_STATUS_WAKE 1 1).bumpI MAC_P_RX_WAKE 1).onI MAC_P_WAKE_STATUS_WAKE 1 = true)) :=
  ⟨by decide +kernel, by decide +kernel⟩

/-- The hypotheses of `Obligations.TimeSourcesQualifyAndAreLost` can be met. -/
theorem test_witness_TimeSourcesQualifyAndAreLost :
    (let s := later ((timUp.wr TIM_SRC_CFG_LIST 1).onTim (fun t => { t with srcs := [(1, { first := 0, last := 20, at_ := 0 })] })) 1
     s.Runs 18 ∧ s.tim.srcs.find? (fun p => p.1 == s.srcAt 0) = some (s.srcAt 0, { first := 0, last := 20, at_ := 0 }) ∧ s.srcAt 0 = 1 ∧
       s.qualified 0 = false ∧ s.loaded = true ∧ max 1 (s.rd TIM_SRC_CFG_QUAL_S) ≤ 20 - 0 + 1 ∧
       s.now < 0 + max 1 (s.rd TIM_SRC_CFG_LOSS_S) * 1000000000) ∧
    (let s := (timUp.wr TIM_SRC_CFG_LIST 1).wr TIM_STATUS_QUALIFIED 1
     s.qualified 0 = true ∧ s.tim.srcs.find? (fun p => p.1 == s.srcAt 0) = none ∧
     (let u := (s.wrBit TIM_STATUS_QUALIFIED 0 0 false).onTim (fun t => { t with srcs := t.srcs.filter (fun p => p.1 != s.srcAt 0) })
      u.rd TIM_STATUS_SOURCE ≠ s.srcAt 0)) ∧
    (let lost (st : Nat) (q : Nat) : State := ((((timUp.wr TIM_SRC_CFG_LIST 9).wr TIM_STATUS_QUALIFIED q).wr TIM_STATUS_SOURCE 1).wr TIM_STATUS_STATE st).wrBit
       TIM_STATUS_QUALIFIED 0 0 false
     (lost 2 3).rd TIM_STATUS_SOURCE = 1 ∧ (lost 2 3).bestSource = some 1 ∧ (lost 2 1).bestSource = none ∧
       ((lost 2 1).wr TIM_STATUS_SOURCE 0).rd TIM_STATUS_STATE = 2 ∧ ((lost 1 1).wr TIM_STATUS_SOURCE 0).rd TIM_STATUS_STATE ≠ 2) ∧
    timUp.srcAt 0 = 0 ∧ timUp.qualified 0 = false ∧
    (let s := later (timUp.wr TIM_STATUS_STATE 3) 100000000000000
     s.rd TIM_STATUS_STATE = 3 ∧ s.tim.holdAt + s.rd TIM_SERVO_CFG_HOLDOVER_MAX_MIN * 60000000000 ≤ s.now) ∧
    timUp.rd TIM_STATUS_STATE = 0 ∧ ((timUp.wr TIM_STATUS_STATE 2).wr TIM_STATUS_REF10_OK 1).rd TIM_STATUS_STATE = 2 := by decide +kernel

/-- The hypotheses of `Obligations.PtpMessagesAreTaken` can be met. -/
theorem test_witness_PtpMessagesAreTaken :
    ((let s := ptpUp [msg 0 0] true
     s.Runs 18 ∧ s.ptpRefresh.takeMsg [0] ≠ (none, s.ptpRefresh) ∧
       (s.ptpRefresh.takeMsg [0]).1.map (s.ptpRefresh.takeMsg [0]).2.fromMaster = some true) ∧
    (let s := ptpUp [msg 0 2] true
     (s.ptpRefresh.takeMsg [0]).1.map (fun m => bitAt (beAt (ptpMsg m.bytes) 6 1) 1) = some true ∧
       (s.ptpRefresh.takeMsg [0]).2.onI TIM_P_PTP_STATE_MLD_VALID 0 = false ∧
       ((s.wrI TIM_P_PTP_STATE_MLD_VALID 0 1).ptpRefresh.takeMsg [0]).2.onI TIM_P_PTP_STATE_MLD_VALID 0 = true) ∧
    (let s := ptpUp [] true
     (s.ptpRefresh.takeMsg [0]).1 = none ∧ (s.ptpRefresh.takeMsg [8]).1 = none ∧ (s.takeMsg [0xB]).1 = none ∧ (s.takeMsg [2]).1 = none ∧
       (s.takeMsg [3, 0xA]).1 = none ∧ timUp.onI TIM_P_CFG_PDELAY_EN 0 = false) ∧
    (let s := ptpUp [msg 0 0] false
     (s.ptpRefresh.takeMsg [0]).1.map (s.ptpRefresh.takeMsg [0]).2.fromMaster = some false) ∧
    (let s := ptpUp [msg 8 0] true
     let u := (s.ptpRefresh.takeMsg [8]).2
     (s.ptpRefresh.takeMsg [8]).1 = some (ptpIn (msg 8 0)) ∧ (u.ptp 0).syncWait = some (0, 0, 0, 0) ∧
       u.fromMaster (ptpIn (msg 8 0)) = true ∧ 0 = beAt (ptpMsg (msg 8 0)) 30 2 ∧ u.now ≤ 0 + 100000000) ∧
    (let s := (ptpUp [msg 0xB 0] false).wr TIM_PTP_CFG_PTP_PORT_MASK 0
     (s.takeMsg [0xB]).1 = some (ptpIn (msg 0xB 0)) ∧ ((s.takeMsg [0xB]).2.bump TIM_ANNOUNCE_RX).ptpPort 0 = false) ∧
    (let bs := patch (msg 0xB 0) 21 [8#8]
     let s := ptpUp [bs] false
     let v := (s.takeMsg [0xB]).2.bump TIM_ANNOUNCE_RX
     (s.takeMsg [0xB]).1 = some (ptpIn bs) ∧ v.ptpPort 0 = true ∧ beAt (ptpMsg bs) 4 1 = v.rd TIM_PTP_CFG_DOMAIN ∧
       bitAt (beAt (ptpMsg bs) 7 1) 3 = true ∧ 64 ≤ (ptpMsg bs).length ∧ beAt (ptpMsg bs) 61 2 < 255 ∧ bitAt (beAt (ptpMsg bs) 7 1) 2 = false) ∧
    (let s := ptpUp [msg 8 0] false
     (s.ptpRefresh.takeMsg [8]).1 = some (ptpIn (msg 8 0)) ∧ ((s.ptpRefresh.takeMsg [8]).2.ptp 0).syncWait = none) ∧
    (let s := ptpUp [msg 2 0, msg 3 0] false
     (s.takeMsg [2]).2.onI TIM_P_CFG_PDELAY_EN 0 = false ∧ (s.takeMsg [3, 0xA]).2.onI TIM_P_CFG_PDELAY_EN 0 = false) ∧
    (bitAt (beAt (ptpMsg (msg 3 2)) 6 1) 1 = true ∧ ptpType (msg 3 2) = 3 ∧ ptpType (msg 0xA 0) ≠ 3 ∧
      beAt (ptpMsg (msg 0xA 0)) 30 2 = 0 ∧ slice (ptpMsg (msg 0xA 0)) 44 10 = timUp.ownPort 0)) ∧
    ((let s := (ptpUp [msg 2 0] false).wrI TIM_P_CFG_PDELAY_EN 0 1
     s.loaded = true ∧ s.onI TIM_P_CFG_PDELAY_EN 0 = true ∧ (s.ptp 0).reqAt = none ∧ (s.takeMsg [2]).1 = some (ptpIn (msg 2 0)) ∧
       beAt (ptpMsg (msg 2 0)) 4 1 = (s.takeMsg [2]).2.rd TIM_PTP_CFG_DOMAIN) ∧
    (let s := ((ptpUp [msg 3 0] false).wrI TIM_P_CFG_PDELAY_EN 0 1).setPtp 0 { reqT1 := some 1 }
     let u := (s.takeMsg [3, 0xA]).2
     (s.takeMsg [3, 0xA]).1 = some (ptpIn (msg 3 0)) ∧ beAt (ptpMsg (msg 3 0)) 30 2 = (u.ptp 0).reqSeq ∧
       slice (ptpMsg (msg 3 0)) 44 10 = u.ownPort 0 ∧ (u.ptp 0).reqT1 = some 1 ∧ ptpType (msg 3 0) = 3 ∧
       bitAt (beAt (ptpMsg (msg 3 0)) 6 1) 1 = false)) :=
  ⟨by decide +kernel, by decide +kernel⟩

/-- The hypotheses of `Obligations.IrigPpsSecondsAndAdjustments` can be met. -/
theorem test_witness_IrigPpsSecondsAndAdjustments :
    (timUp.Runs 18 ∧ timUp.irigDecode [] false = none ∧ timUp.tim.irig = none ∧ timUp.on TIM_SRC_CFG_IRIG_EXT = false ∧
     timUp.irigDecode irigMarks true = some 946684800 ∧
     (timUp.tim.ppsBp = none ∧ timUp.tim.ppsFront = none) ∧
     (let s := later (timUp.onTim (fun t => { t with ppsBp := some 0 })) 5
      s.tim.ppsBp = some 0 ∧ s.now - 0 < 950000000) ∧
     (let s := later (timUp.onTim (fun t => { t with ppsBp := some 0 })) 1000000000
      s.tim.ppsBp = some 0 ∧ s.now - 0 ≤ 1050000000 ∧ 950000000 ≤ s.now - 0) ∧
     (later timUp 1000000000).tim.second ≠ some ((later timUp 1000000000).tai / 1000000000) ∧
     timUp.tim.second = some (timUp.tai / 1000000000) ∧ timUp.due timUp.tim.ppsOut = false ∧
     (timUp.onTim (fun t => { t with ppsOut := some 0 })).due (some 0) = true ∧
     (let s := (later timUp 1000000000).wr TIM_UTC_OFFSET_LEAP 1
      s.rd TIM_UTC_OFFSET_LEAP = 1 ∧ s.utcSecond % 86400 = 1) ∧
     (let s := (later timUp 86399000000000).wr TIM_UTC_OFFSET_LEAP 2
      s.rd TIM_UTC_OFFSET_LEAP = 2 ∧ s.utcSecond % 86400 = 86399) ∧ timUp.rd TIM_UTC_OFFSET_LEAP = 0) ∧
    ((timUp.Admits sup 0xE0068 true ∧ ((timUp.mbCount sup).wr TIM_ADJ_CTRL_OP 1).rd TIM_STATUS_SOURCE = 0 ∧
       ((timUp.mbCount sup).wr TIM_ADJ_CTRL_OP 1).on TIM_ADJ_STATUS_BUSY = false ∧ ((timUp.mbCount sup).wr TIM_ADJ_CTRL_OP 2).on TIM_ADJ_STATUS_BUSY = false ∧
       ((timUp.mbCount sup).wr TIM_ADJ_CTRL_OP 2).rd TIM_STATUS_SOURCE = 0) ∧
     (let s := timUp.wr TIM_STATUS_SOURCE 1
      ((s.mbCount sup).wr TIM_ADJ_CTRL_OP 1).rd TIM_STATUS_SOURCE ≠ 0 ∧ ((s.mbCount sup).wr TIM_ADJ_CTRL_OP 2).rd TIM_STATUS_SOURCE ≠ 0) ∧
     (let s := (timUp.wr TIM_ADJ_STATUS_BUSY 1).onTim (fun t => { t with adj := some (1, 5) })
      ((s.mbCount sup).wr TIM_ADJ_CTRL_OP 1).on TIM_ADJ_STATUS_BUSY = true ∧ ((s.mbCount sup).wr TIM_ADJ_CTRL_OP 2).on TIM_ADJ_STATUS_BUSY = true ∧
        s.tim.adj = some (1, 5) ∧ timUp.tim.adj = none) ∧
     ({ up with tai := 7 % 2 ^ 64 } : State).loaded = false ∧
     (let m (w : Nat) : Nat := ({ timUp with tai := w } : State).cycleAt (w - timUp.rd TIM_CADENCE_OFS_OFFSET_US * 1000)
      timUp.loaded = true ∧ timUp.cycle = 6 ∧ m 0 < 6 ∧ m 5000000 < 6 ∧ 5500000 - 5000000 ≤ timUp.cycleNs ∧ timUp.cycleNs < 5500000 - 0 ∧
        6 < m 50000000 ∧ m 50000000 - 6 ≤ 63 ∧ 63 < m 5000000000 - 6)) :=
  ⟨by decide +kernel, by decide +kernel⟩

/-- The hypotheses of `Obligations.TimeFloorNeverFalls` can be met. -/
theorem test_witness_TimeFloorNeverFalls :
    (let s := (later timUp 3600000000000).wr TIM_STATUS_STATE 2
     s.Runs 18 ∧ s.rd TIM_STATUS_STATE = 2 ∧ s.tim.floorAt + 3600000000000 ≤ s.now) ∧ timUp.rd TIM_STATUS_STATE ≠ 2 ∧
    (match step timUp with | .next _ => true | _ => false) = true := by decide +kernel

/-- The hypotheses of `Obligations.BoundariesLaunchesAndRetransmissions` can be met. -/
theorem test_witness_BoundariesLaunchesAndRetransmissions :
    (let s := later timUp 10000000
     s.Runs 18 ∧ s.loaded = true ∧ s.boundary s.cycle ≤ s.tai) ∧ timUp.tai < timUp.boundary timUp.cycle ∧
    (let c := { copy1 1 1 with launch := some 5000 }
     let s := (swcUp.wr TIM_LAUNCH_CFG_LATE_TOL_NS 1000).onSwc (fun w => { w with copies := [c] })
     let soon : State := { s with tai := 4990 }
     let far : State := { s with tai := 0 }
     let past : State := { s with tai := 5020 }
     s.Runs 18 ∧ s.sending 1 = false ∧ s.rdI SWC_P_STATE 1 = 1 ∧ s.mac.respond.contains 1 = false ∧ s.mac.ctrl.any (fun c => c.1 == 1) = false ∧
       soon.swc.copies.find? (soon.mayLaunch 1) = some c ∧ soon.taiNs + soon.sfdLead 1 ≤ 5000 + 8 ∧
       far.swc.copies.find? (far.mayLaunch 1) = none ∧
       past.swc.copies.find? (past.mayLaunch 1) = some c ∧ 5000 + 8 < past.taiNs + past.sfdLead 1 ∧
       far.launchLate c = false ∧ ({ s with tai := 1000000000 } : State).launchLate c = true) ∧
    (swcUp.Admits sup (0xE1010 + 64 * 1) false ∧ (swcUp.mbCount sup).tsq.entries.find? (fun e => e.1 == 1) = none) ∧
    ((swcUp.onTsq (fun q => { q with entries := [(1, 5)] })).mbCount sup).tsq.entries.find? (fun e => e.1 == 1) = some (1, 5) ∧
    (let s := timUp.setPub 3 { stNum := 1, due := some 0 }
     (s.pubOf 3).stNum ≠ 0 ∧ s.due (s.pubOf 3).due = true ∧ (s.pubOf 3).changed = false ∧ s.pubMaySend = false) ∧
    ((timUp.setPub 3 { stNum := 1, changed := true }).pubOf 3).changed = true := by decide +kernel

/-- The hypotheses of `Obligations.EventRecordsAreCommittedReadAndCleared` can be met. -/
theorem test_witness_EventRecordsAreCommittedReadAndCleared :
    ((let s := evrUp [rec1]
     s.fabricUp = true ∧ s.rd EVR_STATUS_STATE ≠ 0 ∧ s.evr.queue = rec1 :: [] ∧ s.decided = true) ∧
    (evrUp []).evr.queue = [] ∧
    (up.fabricUp = true ∧ up.decided = true ∧ up.rd EVR_STATUS_STATE = 0) ∧
    up.Admits sup (0xF0204 + 0x80 * 0) false ∧
    up.Admits .mgmt (0xF0204 + 0x80 * 1) false ∧
    up.Admits sup (0xF0204 + 0x80 * 1) false ∧
    up.Admits sup (0xF0208 + 0x80 * 0) false ∧
    up.Admits sup (0xF0208 + 0x80 * 1) false ∧
    (let u := (evrUp []).mbCount sup
     (evrUp []).Admits sup (0xF0208 + 0x80 * 0) false ∧ u.rd EVR_STATUS_STATE ≠ 0 ∧ u.rdI EVR_W_CURSOR 0 + u.evr.newNow < u.evrNext ∧ u.evrBase ≤ u.rdI EVR_W_CURSOR 0 ∧
       u.evr.region[u.rdI EVR_W_CURSOR 0 - u.evrBase]? = some (rec1, false)) ∧
    (let u := ((evrUp []).wrI EVR_W_CURSOR 0 2)
     u.Admits sup (0xF0208 + 0x80 * 0) false ∧ u.rd EVR_STATUS_STATE ≠ 0 ∧ u.evrNext ≤ u.rdI EVR_W_CURSOR 0 + u.evr.newNow) ∧
    (let u := (evrUp []).wrI EVR_W_CURSOR 0 0
     u.Admits sup (0xF0208 + 0x80 * 0) false ∧ u.rd EVR_STATUS_STATE ≠ 0 ∧ u.rdI EVR_W_CURSOR 0 + u.evr.newNow < u.evrNext ∧ u.rdI EVR_W_CURSOR 0 < u.evrBase)) ∧
    ((let s := evrUp []
     s.Admits sup 0xF0038 true ∧ s.evr.clearing = false ∧ s.rd EVR_STATUS_STATE ≠ 0 ∧ s.rd EVR_CLEAR_UPTO + 1 = s.evrNext ∧ s.evrIdle = true) ∧
    (let s := evrUp [rec1]
     s.Admits sup 0xF0038 true ∧ s.evr.clearing = false ∧ s.rd EVR_STATUS_STATE ≠ 0 ∧ s.evrIdle = false) ∧
    (up.evr.clearing = false ∧ up.Admits sup 0xF0038 true ∧ up.rd EVR_STATUS_STATE = 0) ∧
    (let s := (evrUp []).onEvr (fun e => { e with clearing := true })
     s.Admits sup 0xF0038 true ∧ s.evr.clearing = true ∧ s.fabricUp = true ∧ s.evr.region ≠ [] ∧ s.rd EVR_STATUS_STATE ≠ 0) ∧
    (let s := ((evrUp []).wr EVR_STATUS_STATE 0).onSys (fun y => { y with boot := 5 })
     s.fabricUp = true ∧ s.decided = true ∧ s.rd EVR_STATUS_STATE = 0 ∧ 0 < s.evr.region.length ∧
       (s.onSys (fun y => { y with boot := 3 })).decided = false ∧ (s.onSys (fun y => { y with boot := 3 })).fabricUp = true)) :=
  ⟨by decide +kernel, by decide +kernel⟩

/-- The hypotheses of `Obligations.CaptureDefinitionsFollowTheirStates` can be met. -/
theorem test_witness_CaptureDefinitionsFollowTheirStates :
    ((delivers (gthUp 5 0 1 none) = true ∧ ((gthUp 5 0 1 none).gdef 0).st = 5) ∧
     (delivers (gthUp 1 0 1 (some 0)) = true ∧ ((gthUp 1 0 1 (some 0)).gdef 0).gap.isSome = true) ∧
     (delivers (gthUp 1 0 1 none) = true ∧ ((gthUp 1 0 1 none).gdef 0).cfg.p ≤ (gthUp 1 0 1 none).gFree 0) ∧
     (delivers (gthUp 1 1 0 none) = true ∧ (gthUp 1 1 0 none).gFree 0 < ((gthUp 1 1 0 none).gdef 0).cfg.p ∧
       Ent.GATH_OVERFLOW.on ((gthUp 1 1 0 none).gdef 0).cfg.ent = true) ∧
     (delivers (gthUp 1 0 0 none) = true ∧ (gthUp 1 0 0 none).gFree 0 < ((gthUp 1 0 0 none).gdef 0).cfg.p ∧
       Ent.GATH_OVERFLOW.on ((gthUp 1 0 0 none).gdef 0).cfg.ent = false)) ∧
    (((up.gdef 0).st = 0 ∧ up.fabricUp = true) ∧
     (let x := { (gthUp 1 0 1 none).gdef 0 with n := 1 }
      x.st = 1 ∧ x.gap = none ∧ x.fill + x.cfg.head ≤ x.n) ∧
     (let x := (gthUp 4 0 1 none).gdef 0
      x.st = 4 ∧ x.gutter + Ent.GATH_GUTTER.of x.cfg.ent ≤ x.n) ∧
     (let s := gthUp 5 0 1 none
      let x := s.gdef 0
      x.st = 5 ∧ (x.cfg.head + x.cfg.tail) * x.cfg.p ≤ s.gFree 0) ∧
     (let s := gthUp 1 0 1 (some 0)
      (s.gdef 0).gap = some 0 ∧ 65536 + (s.gdef 0).cfg.p ≤ s.gFree 0 ∧ (s.gdef 0).st = 1) ∧
     (let s := gthUp 1 0 0 (some 0)
      (s.gdef 0).gap = some 0 ∧ s.gFree 0 < 65536 + (s.gdef 0).cfg.p) ∧
     (let s := gthOpen [gath1] []
      s.fabricUp = true ∧ (s.gdef 0).cur = some 1 ∧ s.gth.open_.find? (fun g => decide (g.seq = 1)) = some gath1 ∧
       gath1.tp + gath1.cfg.tail ≤ (s.gdef 0).n) ∧
     (let s := gthOpen [{ gath1 with tp := 5 }] []
      s.gth.open_.find? (fun g => decide (g.seq = 1)) = some { gath1 with tp := 5 } ∧ (s.gdef 0).n < 5) ∧
    up.Admits sup 0x100004 false ∧
    firstDue up.gDue = none ∧
     (firstDue seqUp.gDue = some (0, 0, 4800) ∧ (seqUp.gseq 0).next = none ∧ seqUp.fabricUp = true) ∧
     (let s := seqUp.setGseq 0 { seqUp.gseq 0 with next := some (0, [], []), reset := true, run := true, left := 2 }
      firstDue s.gDue = some (0, 0, 4800) ∧ (s.gseq 0).next.isSome = true ∧
        s.rd BND_TIP_EPOCH ≤ ((s.gTimeline (s.gseq 0)).bind (fun x => s.gRefSet x.cfg 0)).getD (2 ^ 64))) :=
  ⟨by decide +kernel, by decide +kernel⟩

/-- The hypotheses of `Obligations.GatheringsAreStoredReadAndDeleted` can be met. -/
theorem test_witness_GatheringsAreStoredReadAndDeleted :
    ((up.Runs 17 ∧ up.gHead false = none) ∧
     (let s := gthOpen [gath1] []
      s.Runs 17 ∧ s.gHead false = some gath1 ∧ gath1.ended = true ∧ s.on GTH_STATUS_STORE_SCANNING = false ∧ s.gFull = false) ∧
     (let s := gthOpen [{ gath1 with ended := false }] []
      s.Runs 17 ∧ s.gHead false = some { gath1 with ended := false }) ∧
     (let s := up.wr GTH_STATUS_STORE_SCANNING 1
      s.Runs 17 ∧ s.decided = true ∧ s.on GTH_STATUS_STORE_SCANNING = true ∧ s.gth.cmdResult = none) ∧
     (let s := up.onGth (fun g => { g with cmdResult := some 1 })
      s.Runs 17 ∧ s.gth.cmdResult = some 1) ∧
     (up.Admits sup 0x100004 false ∧ (up.mbCount sup).hostRing = none) ∧
     (up.Admits sup 0x100040 false ∧ (ringUp []).Admits sup 0x100004 false ∧ ((ringUp []).mbCount sup).hostRing ≠ none)) ∧
    ((let s := ringUp [(0, [1#8])]
      let a := (s.mbCount sup).wr GTH_STORE_CMD_OP 1
      let c := ((s.mbCount sup).wr GTH_STORE_CMD_OP 2).begin GTH_STORE_STATUS_BUSY
      s.Admits sup 0x100020 true ∧ a.on GTH_STORE_STATUS_BUSY = false ∧
        (a.gth.stored.filter (fun g => decide (g.1 ≤ a.rd GTH_STORE_ARG))).getLast? = some (0, [1#8]) ∧
        c.on GTH_CTRL_HOST_EN = true ∧ c.hostRing ≠ none ∧ c.gStored 0 ≠ none ∧ c.rd GTH_STORE_ARG = 0) ∧
     (let c := (((ringUp []).mbCount sup).wr GTH_STORE_CMD_OP 2).begin GTH_STORE_STATUS_BUSY
      (ringUp []).Admits sup 0x100020 true ∧ c.on GTH_CTRL_HOST_EN = true ∧ c.hostRing ≠ none ∧ c.gStored 0 = none ∧
        (((ringUp []).mbCount sup).wr GTH_STORE_CMD_OP 1).gth.stored = []) ∧
     (let b := (up.mbCount sup).wr GTH_STORE_CMD_OP 2
      up.Admits sup 0x100020 true ∧ b.on GTH_STORE_STATUS_BUSY = false ∧ (b.begin GTH_STORE_STATUS_BUSY).on GTH_CTRL_HOST_EN = false) ∧
     (let s := up.wr GTH_STORE_STATUS_BUSY 1
      s.Admits sup 0x100020 true ∧ ((s.mbCount sup).wr GTH_STORE_CMD_OP 1).on GTH_STORE_STATUS_BUSY = true ∧
        ((s.mbCount sup).wr GTH_STORE_CMD_OP 2).on GTH_STORE_STATUS_BUSY = true) ∧
     (up.Admits sup 0x10007C false ∧ up.gStored (up.rd GTH_NW_SEQ) = none) ∧
     (let s := gthOpen [] [(0, [])]
      s.Admits sup 0x10007C false ∧ s.gStored (s.rd GTH_NW_SEQ) = some [] ∧ ([] : List Byte).length ≤ s.rd GTH_NW_OFFSET) ∧
     (let s := gthOpen [] [(0, [1#8])]
      s.Admits sup 0x10007C false ∧ s.gStored (s.rd GTH_NW_SEQ) = some [1#8] ∧ s.rd GTH_NW_OFFSET < [1#8].length) ∧
     up.Admits sup (0x100800 + 32 * 15) true) :=
  ⟨by decide +kernel, by decide +kernel⟩

/-- The hypotheses of `Obligations.TwinRolesFollowThePeer` can be met. -/
theorem test_witness_TwinRolesFollowThePeer :
    ((up.Admits sup 0x110004 true ∧
      (let u := ((twnUp 0 0 none none).mbCount sup).wrB TWN_CTRL_ENABLE true
       (twnUp 0 0 none none).Admits sup 0x110004 true ∧ u.role = 0 ∧ u.loaded = true)) ∧
     up.fabricUp = true ∧
     ((twnUp 2 0 none none).onTwn (fun t => { t with peerLine := 1, lineAt := some 0, peerDown := false })).twnShow.role = 2 ∧
     (let b := ((twnUp 4 0 none none).onTwn (fun t => { t with peerLine := 2, lineAt := some 0, peerDown := false, initClaim := true })).twnShow
      b.role = 4 ∧ b.twn.initClaim = true ∧ b.rd TWN_STATUS_POSITION = b.rd TWN_CFG_PREFER_POS) ∧
     (let b := (((twnUp 4 0 none none).wr TWN_CFG_PREFER_POS 1).onTwn
        (fun t => { t with peerLine := 2, lineAt := some 0, peerDown := false, initClaim := true })).twnShow
      b.role = 4 ∧ b.twn.initClaim = true ∧ b.rd TWN_STATUS_POSITION ≠ b.rd TWN_CFG_PREFER_POS) ∧
     ((twnUp 3 0 none none).onTwn (fun t => { t with peerLine := 2, lineAt := some 0, peerDown := false })).twnShow.role = 3 ∧
     (let s := twnUp 6 1 (some (beat1 8)) none
      let c := (s.onTwn (fun t => { t with peerLine := 0 })).twnShow
      s.twn.peerLine ≠ 0 ∧ c.twinOn = true ∧ c.hbFresh = true ∧ c.twn.peer = some (beat1 8) ∧ (beat1 8).role = 8 ∧ c.role = 6) ∧
     (let s := twnUp 6 1 (some (beat1 3)) none
      let c := (s.onTwn (fun t => { t with peerLine := 0 })).twnShow
      s.twn.peerLine ≠ 0 ∧ c.twinOn = true ∧ c.hbFresh = true ∧ c.twn.peer = some (beat1 3) ∧ (beat1 3).role = 3)) ∧
    ([(6, 0), (7, 1), (5, 0), (2, 0)].all (fun x =>
       let s := (twnUp x.1 0 none none).wr TWN_CFG_COLD_PROMOTE x.2
       let u := ((s.flag TWN_TROUBLE_PEER_FAILED).onTwn (fun t => { t with peerDown := true, peerLine := 0 })).twnShow
       decide (s.fabricUp = true ∧ s.twinOn = true ∧ s.hbFresh = false ∧ s.twn.peerDown = false ∧ s.twn.lineAt = none ∧
         u.role = x.1 ∧ u.rd TWN_CFG_COLD_PROMOTE = x.2 ∧ u.power = 3 ∧ (u.wr SYS_PWR_STATUS_STATE 2).power ≠ 3)) = true ∧
     up.twinOn = false ∧
     (let s := twnUp 6 1 none none
      s.twinOn = true ∧ s.hbFresh = false ∧ s.twn.peerLine = 1) ∧
     ((twnUp 0 0 none none).Runs 19 ∧ (twnUp 0 0 none none).twinOn = false) ∧
     (let s := twnUp 6 1 none none
      s.Runs 19 ∧ s.twinOn = true ∧ parseFrame [] = none ∧ (parseFrame (coruskFrame 2 0 0 0 [])).map (fun f => f.typ) = some 2) ∧
     [(6, 8), (7, 3), (8, 4), (3, 6)].all (fun x =>
       let s := twnUp x.1 1 none none
       let u := (s.onTwn (fun t => { t with peer := some (beat1 x.2), peerDown := false })).twnShow
       decide (s.Runs 19 ∧ s.twinOn = true ∧ u.role = x.1 ∧ (parseFrame (beatFrame x.2)).map (fun f => (f.typ, f.payload.length)) = some (1, 64))) = true) :=
  ⟨by decide +kernel, by decide +kernel⟩

/-- The hypotheses of `Obligations.LeasesQuiresAndHandovers` can be met. -/
theorem test_witness_LeasesQuiresAndHandovers :
    ((up.fabricUp = true ∧ up.twn.leaseAt = none ∧ up.role ≠ 2 ∧ up.role ≠ 4) ∧
     (let s := later ((twnUp 3 1 none (some 0)).wr TIM_CADENCE_CFG_FS 4800 |>.wr TIM_CADENCE_CFG_K 4) 840000
      s.fabricUp = true ∧ s.twn.leaseAt = some 0 ∧ s.role = 3 ∧ 0 + s.cycleNs ≤ s.now ∧ s.now < 0 + s.cycleNs + 50000 ∧ s.twn.peerLine ≠ 2 ∧
        s.twn.readbackBad = false) ∧
     (let s := (twnUp 3 1 none (some 0)).wr TIM_CADENCE_CFG_FS 4800 |>.wr TIM_CADENCE_CFG_K 4
      s.twn.leaseAt = some 0 ∧ s.role = 3 ∧ s.now < 0 + s.cycleNs) ∧
     (let s := later (twnUp 3 1 none (some 0)) 900000
      s.twn.leaseAt = some 0 ∧ s.role = 3 ∧ 0 + s.cycleNs + 50000 ≤ s.now) ∧
     (let s := later (twnUp 2 0 none none) 2000000
      s.fabricUp = true ∧ s.role = 2 ∧ s.power = 3 ∧ s.twn.peerLine = 0 ∧ s.rd TWN_STATUS_POSITION = s.rd TWN_CFG_PREFER_POS ∧
        max s.twn.initAt (s.twn.lineAt.getD 0) + 1000000 ≤ s.now) ∧
     (let s := twnUp 2 0 none none
      s.role = 2 ∧ s.twn.peerLine = 0 ∧ s.now < max s.twn.initAt (s.twn.lineAt.getD 0) + 1000000 ∧
        s.now < max (max s.twn.initAt (s.twn.lineAt.getD 0)) ((s.twn.peer.map (fun b => b.at_)).getD 0) +
          s.rdOr TWN_CFG_INIT_WAIT_MS 100 * 1000000) ∧
     (let s := twnUp 4 0 none none
      s.role = 4 ∧ s.twn.forceEnd ≤ s.now ∧ s.twn.forceSeen = false ∧ s.caughtUp = true) ∧
     (let s := (twnUp 3 1 none none).onTwn (fun t => { t with relinquish := 2 })
      s.fabricUp = true ∧ s.role = 3 ∧ s.twn.relinquish = 2 ∧ s.twn.tx = none)) ∧
    ((up.Admits sup 0x110004 true ∧ (up.mbCount sup).role ≠ 3) ∧
     (let s := twnUp 3 1 (some (beat1 6)) none
      s.Admits sup 0x110004 true ∧ (s.mbCount sup).role = 3 ∧ ((s.mbCount sup).twn.peer.map (fun b => b.role)) = some 6) ∧
     (let s := twnUp 3 1 none none
      s.Runs 19 ∧ s.twinOn = true ∧ s.twn.hbAt = none ∧ s.twn.tx = none ∧ s.role ≠ 5 ∧ s.role ≠ 6) ∧
     ((twnUp 0 0 none none).Runs 19 ∧ (twnUp 0 0 none none).twinOn = false) ∧
     (let s := (twnUp 3 1 none none).onTwn (fun t => { t with
        tx := some { n := 0, at_ := 0, tai := 0, restart := false, tipSeq := 0, tipDigest := [], ents := [] } })
      s.Runs 19 ∧ s.twn.tx.isSome = true) ∧
     ((twnUp 6 1 none none).Runs 19 ∧ (twnUp 6 1 none none).role = 6) ∧
     (let s := up.wr TWN_STATUS_LANES_UP 3
      s.fabricUp = true ∧ bitAt (s.rd TWN_STATUS_LANES_UP) 1 = true) ∧
     bitAt (up.rd TWN_STATUS_LANES_UP) 0 = false ∧
     (let s := twnUp 6 1 none none
      s.fabricUp = true ∧ s.clk 19 = true ∧ s.twinOn = true)) :=
  ⟨by decide +kernel, by decide +kernel⟩

/-- The hypotheses of `Obligations.KeyOperationsRunAndAnswer` can be met. -/
theorem test_witness_KeyOperationsRunAndAnswer :
    (up.Admits sup 0x120030 true ∧ (keyGo (up.wr KEY_OP_STATUS_BUSY 1) 1 true).on KEY_OP_STATUS_BUSY = true ∧
     ((keyGo (up.wr BND_STATUS_BUSY 1) 1 true).on KEY_OP_STATUS_BUSY = false ∧ (keyGo (up.wr BND_STATUS_BUSY 1) 1 true).on BND_STATUS_BUSY = true) ∧
     (keyGo up 1 true).rd KEY_STATUS_STATE ≠ 2 ∧
     ((keyGo keyUp 3 true).rd KEY_STATUS_STATE = 2 ∧ (keyGo (keyUp.wr KEY_POLICY_ATTEST_EN 0) 3 true).on KEY_POLICY_ATTEST_EN = false) ∧
     (let u := keyGo ((keyUp.wr KEY_POLICY_ATTEST_EN 1).wr KEY_ATTEST_NEXT 1048576) 3 true
      u.rd KEY_OP_CTRL_OP = 3 ∧ u.on KEY_POLICY_ATTEST_EN = true ∧ 1048576 ≤ u.rd KEY_ATTEST_NEXT)) ∧
    ((let s := (keyUp.wr KEY_POLICY_ATTEST_EN 1).putEnt 0x702 0 (Ent.WIN_ENABLE.mk' 1 + Ent.WIN_SIZE.mk' 1 + Ent.WIN_ACCESS.mk' 3)
      s.Admits sup 0x120030 true ∧
        [1, 2, 3, 4, 5].all (fun k => keyStarts (keyGo s k true) && keyStarts (keyGo s k false)) = true) ∧
     (keyUp.Runs 16 ∧ keyUp.key.job = none) ∧
     [1, 2, 3, 4, 5].all (fun k => (keyJob k none).key.job.any (fun j => decide (j.op = k ∧ j.forced = none))) = true ∧
     (keyJob 1 (some 5)).key.job.any (fun j => decide (j.forced = some 5)) = true ∧
     up.Admits .mgmt 0x120050 false ∧ (up.fabricUp = true ∧ up.mayRead .mgmt 0x120054 = true) ∧
     (up.decided = true ∧ (up.wr KEY_STATUS_STATE 1).rd KEY_STATUS_STATE = 1) ∧ keyUp.rd KEY_STATUS_STATE ≠ 1 ∧ up.InTurn .mgmt 0x120054 ∧
     (let s := up.onKey (fun e => { e with inOff := 49152 })
      s.Admits .mgmt 0x120050 false ∧ 49152 ≤ s.key.inOff) ∧ up.key.inOff < 49152 ∧
     (let u := keyGo keyUp 1 false
      u.rd KEY_STATUS_STATE = 2 ∧ u.window 0 (u.rd KEY_OP_BASE) (u.rd KEY_OP_LEN) false = none) ∧
     (let s := (keyJob 2 none).onKey (fun e => { e with job := e.job.map (fun j => { j with uses := [(7, 1)] }) })
      s.key.job.any (fun j => j.uses.any (fun x => !s.usable x.1 || decide ((s.slot x.1).gen ≠ x.2))) = true)) :=
  ⟨by decide +kernel, by decide +kernel⟩

/-- The hypotheses of `Obligations.TokensAreCheckedInOrder` can be met. -/
theorem test_witness_TokensAreCheckedInOrder :
    (up.Admits sup 0x130030 false ∧
     (let s := later (up.wr LCS_CHALLENGE_CTRL_LIVE 1) 600000000000
      s.fabricUp = true ∧ s.on LCS_CHALLENGE_CTRL_LIVE = true ∧ s.lcs.drawnAt + 600000000000 ≤ s.now) ∧
     up.on LCS_CHALLENGE_CTRL_LIVE = false ∧
     (up.Admits sup 0x130038 false ∧ up.lcs.tokOff < 40960) ∧
     40960 ≤ (up.onLcs (fun l => { l with tokOff := 40960 })).lcs.tokOff ∧
     up.Admits sup 0x13003C false) ∧
    ([1, 2, 3].all (fun k => decide (beAt (tokUp k 0).tokenBytes 6 1 = k ∧ (tokUp k 0).on LCS_TOKEN_STATUS_BUSY = false ∧
       (tokUp k 0).lcs.burn = none ∧ (tokUp k 1).on LCS_TOKEN_STATUS_BUSY = true)) = true ∧
     ((tokUp 1 1).Runs 16 ∧ (tokUp 1 1).lcs.job = some { bytes := tok1 1, challengeOk := false } ∧ tokenFormat (tok1 1) = true ∧
       tokenFormat [] = false) ∧
     (up.Runs 16 ∧ up.lcs.job = none ∧ up.lcs.burn = none) ∧
     (tokField (tok1 1) 6 1 = 1 ∧ tokField (tok1 2) 6 1 = 2 ∧ tokField (tok1 3) 6 1 = 3) ∧
     (up.onLcs (fun l => { l with burn := some (3, 1, 1) })).lcs.burn = some (3, 1, 1)) :=
  ⟨by decide +kernel, by decide +kernel⟩

/-- The hypotheses of `Obligations.DebugSessionsAndTamperResponses` can be met. -/
theorem test_witness_DebugSessionsAndTamperResponses :
    ((up.Admits sup 0x130048 true ∧ up.lcs.session = none) ∧
     (let s := later (up.onLcs (fun l => { l with session := some ses1 })) 60000000000
      s.Admits sup 0x130048 true ∧ s.fabricUp = true ∧ s.lcs.session = some ses1 ∧ ses1.ends ≤ s.now) ∧
     (up.onLcs (fun l => { l with session := some ses1 })).now < ses1.ends ∧
     ((List.range 6).filter (fun c => bitAt 0 c && (up.wr LCS_STATUS_SENSORS 0).armed c)) = [] ∧
     ((List.range 6).filter (fun c => bitAt 63 c && (up.wr LCS_STATUS_SENSORS 63).armed c)) ≠ []) ∧
    ((up.Admits sup 0x130054 true ∧ up.on LCS_STATUS_TAMPER_N_DRIVEN = false) ∧
     ((tampUp none false).Admits sup 0x130054 true ∧ (tampUp none false).on LCS_STATUS_TAMPER_N_DRIVEN = true ∧
       (tampUp none false).lcs.holdEnd = none) ∧
     ((tampUp (some 0) false).on LCS_STATUS_TAMPER_N_DRIVEN = true ∧ (tampUp (some 0) false).lcs.holdEnd = some 0 ∧
       (tampUp (some 0) false).lcs.releaseAsked = false ∧ (tampUp (some 0) true).lcs.releaseAsked = true ∧ 0 ≤ (tampUp (some 0) true).now ∧
       (tampUp (some 5) true).now < 5)) :=
  ⟨by decide +kernel, by decide +kernel⟩

/-- The hypotheses of `Obligations.PowerCommandsMoveOrAreRefused` can be met. -/
theorem test_witness_PowerCommandsMoveOrAreRefused :
    (([quietUp, up, heldUp].all (fun s => decide (s.Admits sup 0x40 true)) = true ∧
      ((up.wr SYS_PWR_STATUS_BUSY 1).wr SYS_PWR_CMD_TARGET 3).on SYS_PWR_STATUS_BUSY = true ∧
      (up.wr SYS_PWR_CMD_TARGET 3).power = 3 ∧
      (let a := (up.wr SYS_PWR_STATUS_STATE 2).wr SYS_PWR_CMD_TARGET 3
       a.on SYS_PWR_STATUS_BUSY = false ∧ a.power ≠ 3 ∧ a.loaded = false) ∧
      ((quietUp.wr LCS_STATUS_LIFECYCLE 5).wr SYS_PWR_CMD_TARGET 3).lifecycle = 5 ∧
      (let a := (quietUp.wr SYS_CLK_RUN 0).wr SYS_PWR_CMD_TARGET 3
       a.lifecycle ≠ 5 ∧ a.unitForRun 14 = true ∧ a.clk 14 = false)) ∧
     (let a := quietUp.wr SYS_PWR_CMD_TARGET 3
      a.on SYS_PWR_STATUS_BUSY = false ∧ a.power ≠ 3 ∧ a.loaded = true ∧ a.on BST_STATUS_SAFE = false ∧ a.lifecycle ≠ 5 ∧
        (∀ x < 48, a.unitForRun x = true → a.clk x = true) ∧ a.on SYS_SUPPLY_STATUS_VWARN = false) ∧
     ((quietUp.wr SYS_SUPPLY_STATUS_VWARN 1).wr SYS_PWR_CMD_TARGET 3).on SYS_SUPPLY_STATUS_VWARN = true) ∧
    (((let a := up.wr SYS_PWR_CMD_TARGET 2
       a.on SYS_PWR_STATUS_BUSY = false ∧ a.power ≠ 2 ∧ ¬ ((a.role = 3 ∨ a.role = 4) ∧ a.hbFresh = true)) ∧
      (quietUp.wr SYS_PWR_CMD_TARGET 2).power = 2 ∧
      (let a := heldUp.wr SYS_PWR_CMD_TARGET 2
       a.power ≠ 2 ∧ (a.role = 3 ∨ a.role = 4) ∧ a.hbFresh = true) ∧
      (let a := quietUp.wr SYS_PWR_CMD_TARGET 1
       a.on SYS_PWR_STATUS_BUSY = false ∧ a.power = 2 ∧ a.lcs.burn = none ∧ a.bnd.store = none ∧ a.key.job.any (fun j => decide (j.op = 1 ∨ j.op = 5)) = false)) ∧
     (up.sys.down = none ∧ (up.onSys (fun y => { y with down := some (1, 0) })).sys.down = some (1, 0) ∧
       (up.onSys (fun y => { y with down := some (1, 5) })).now < 5 ∧ (evrUp [rec1]).drained = false ∧ up.drained = true ∧
       (up.wr SYS_PWR_AON_PWR_EN 0).power = 3 ∧ up.sys.boot ≠ 0 ∧ (quietUp.wr SYS_PWR_AON_PWR_EN 0).power = 2 ∧ quietUp.sys.down = none ∧
       State.reset.sys.boot = 0) ∧
     (up.Admits sup 0x50 true ∧ up.Admits sup 0x54 true) ∧
     (let s := quietUp.wr SYS_CLK_REQ (2 ^ 48 - 1)
      bitAt (s.rd SYS_CLK_REQ) 0 = true ∧ s.unitInUse 0 = true ∧ s.unitInUse 40 = false ∧ bitAt ((s.wr SYS_CLK_REQ 0).rd SYS_CLK_REQ) 3 = false) ∧
     up.fabricUp = true) :=
  ⟨by decide +kernel, by decide +kernel⟩

/-- The hypotheses of `Obligations.ResetsAndTheWatchdog` can be met. -/
theorem test_witness_ResetsAndTheWatchdog :
    ((State.reset.sys.boot = 0 ∧ 2 ≤ up.power ∧ up.sys.boot ≠ 0) ∧
     (up.Admits sup 0x80 true ∧ (0#16) ≠ 0x4B52#16 ∧ up.on SYS_RST_STATUS_BUSY = false ∧ (up.mbCount sup).roleHeld = false ∧
       (up.mbCount sup).storesBusy = false) ∧
     (up.wr SYS_RST_STATUS_BUSY 1).on SYS_RST_STATUS_BUSY = true ∧
     (heldUp.Admits sup 0x80 true ∧ heldUp.roleHeld = true) ∧
     (up.onKey (fun e => { e with job := some { op := 1, slot := 0, uses := [], input := [], statement := [], index := 0, outAddr := none, forced := none } })).storesBusy = true ∧
     (up.fabricUp = true ∧ up.sys.drain = none ∧ up.sys.wdogEnd = none) ∧
     ((up.onSys (fun y => { y with drain := some (5, 0) })).sys.drain = some (5, 0) ∧ up.evrIdle = true) ∧
     (let s := (evrUp [rec1]).onSys (fun y => { y with drain := some (5, 7) })
      s.sys.drain = some (5, 7) ∧ s.evrIdle = false ∧ s.now < 7)) ∧
    ([0, 1, 2].all (fun k => let s := (up.wr SYS_WDOG_CFG_ACTION k).onSys (fun y => { y with wdogEnd := some 0 })
       decide (s.fabricUp = true ∧ s.sys.wdogEnd = some 0 ∧ 0 ≤ s.now ∧
         (((s.flag SYS_RST_STATUS_WDOG_EXPIRED).flag SYS_TROUBLE_WDOG_EXPIRED).onSys (fun y => { y with wdogEnd := none })).rd SYS_WDOG_CFG_ACTION = k)) = true ∧
     (up.onSys (fun y => { y with wdogEnd := some 5 })).now < 5 ∧
     (up.Admits sup 0x94 true ∧ up.Admits .mgmt 0x94 true) ∧
     (let s := coldUp 4 none
      s.sys.boot = 0 ∧ 2 ≤ s.power ∧ s.rd SYS_RST_STATUS_LAST_KIND = 4) ∧
     (up.sys.boot ≠ 0) ∧
     (let s := coldUp 2 none
      s.sys.boot = 0 ∧ 2 ≤ s.power ∧ s.on SYS_PWR_AON_PWR_EN = true ∧ s.on SYS_SUPPLY_STATUS_VSTBY_OK = true ∧
        s.rd SYS_RST_STATUS_LAST_KIND ≠ 4 ∧ s.sys.railsOff.getD 0 ≤ s.now ∧ s.now < (s.onSys (fun y => { y with railsOff := some 20 })).sys.railsOff.getD 0 ∧ (s.wr SYS_SUPPLY_STATUS_VWARN 0).bootClocks.sys.vreset = none) ∧
     ((coldUp 3 (some (3, 1, 2, 4))).wr SYS_SUPPLY_STATUS_VWARN 0).bootClocks.sys.vreset = some (3, 1, 2, 4)) :=
  ⟨by decide +kernel, by decide +kernel⟩

/-- The hypotheses of `Obligations.SupplyEventsAreActedOn` can be met. -/
theorem test_witness_SupplyEventsAreActedOn :
    (up.fabricUp = true ∧ up.on SYS_SUPPLY_STATUS_VWARN = false) ∧
    (dipUp.fabricUp = true ∧ dipUp.on SYS_SUPPLY_STATUS_VWARN = true ∧ dipUp.sys.dip = some (0, 40000)) ∧
    (up.wr SYS_SUPPLY_STATUS_VSTBY_OK 1).on SYS_SUPPLY_STATUS_VSTBY_OK = true ∧
    (up.wr SYS_SUPPLY_STATUS_VSTBY_OK 0).on SYS_SUPPLY_STATUS_VSTBY_OK = false := by decide +kernel

/-- The hypotheses of `Obligations.SelfTestDecidesTheStart` can be met. -/
theorem test_witness_SelfTestDecidesTheStart :
    ((up.fabricUp = true ∧ up.sys.boot ≠ 1 ∧ up.sys.boot ≠ 2 ∧ up.sys.boot ≠ 3 ∧ (bootUp 1 []).sys.boot = 1 ∧ (bootUp 2 []).sys.boot = 2 ∧
       (bootUp 1 []).fabricUp = true) ∧
     ((find1 true).inst < bistInstances (find1 true).target ∧ (find1 true).target < 0x40 ∧ up.sys.repairs.length < 256 ∧ (find1 true).spare = true ∧
       (find1 false).inst < bistInstances (find1 false).target ∧ (find1 false).target < 0x40 ∧ (find1 false).spare = false ∧
       256 ≤ (up.onSys (fun y => { y with repairs := List.replicate 256 0 })).sys.repairs.length ∧
       bistInstances 0x50 ≤ 0 ∧ 0 < bistInstances 0x40) ∧
     ((bootUp 3 []).fabricUp = true ∧ (bootUp 3 []).sys.boot = 3 ∧ (bootUp 3 []).sys.ddr = true ∧ (bootUp 3 []).essentialFailed = false ∧
       (bootUp 3 [failEntry 1 0 2 0 0 0]).sys.boot = 3 ∧ (bootUp 3 [failEntry 1 0 2 0 0 0]).essentialFailed = true)) ∧
    ((let s := spareUp 2
      let u := fun (t i : Nat) => ((s.mbCount sup).wr BST_CMD_TARGET t).wr BST_CMD_INSTANCE i
      s.Admits sup 0x140010 true ∧ (u 1 0).on BST_CMD_STATUS_BUSY = false ∧ (u 1 0).lifecycle ≠ 5 ∧ (u 1 0).pairSt 0 = 1 ∧ (u 1 0).loaded = true ∧
        2 ≤ (u 1 0).sparesLeft ∧ (u 2 0).unitState 0 = 3 ∧ (u 1 5).pairSt 5 ≠ 1) ∧
     (let u := ((((spareUp 1).mbCount sup).wr BST_CMD_TARGET 1).wr BST_CMD_INSTANCE 0)
      (spareUp 1).Admits sup 0x140010 true ∧ u.pairSt 0 = 1 ∧ u.loaded = true ∧ u.sparesLeft < 2) ∧
     (up.wr BST_CMD_STATUS_BUSY 1).on BST_CMD_STATUS_BUSY = true ∧ (up.wr LCS_STATUS_LIFECYCLE 5).lifecycle = 5 ∧
     (up.fabricUp = true ∧ up.sys.test = none) ∧
     ((up.onSys (fun y => { y with test := some (1, 2, 0) })).sys.test = some (1, 2, 0) ∧ (up.onSys (fun y => { y with test := some (1, 2, 0) })).fabricUp = true)) :=
  ⟨by decide +kernel, by decide +kernel⟩

/-- The hypotheses of `Obligations.MonitorsAndProposals` can be met. -/
theorem test_witness_MonitorsAndProposals :
    ((up.fabricUp = true ∧ up.hka.board = none ∧ (up.wr HKA_CTRL_ENABLE 0).hkaRuns = false ∧ hkaUp.fabricUp = true ∧ hkaUp.hkaRuns = true ∧ hkaUp.hka.burst = none ∧ hkaUp.hka.agedAt = none ∧ hkaUp.hka.accruedAt = none ∧
       hkaUp.hka.committedAt = none ∧ hkaUp.now < hkaUp.hka.windowAt + 86400000000000) ∧
     (let s := later (hkaUp.onHka (fun h => { h with burst := some (0, 7), agedAt := some 0, accruedAt := some 0, committedAt := some 0 })) 9
      s.now < 0 + s.rdOr HKA_SEQ_CFG_SWEEP_MS 10 * 1000000 ∧ s.now < 0 + 60000000000 ∧ s.hka.burst = some (0, 7)) ∧
     (let s := later hkaUp 86400000000000
      s.hka.windowAt + 86400000000000 ≤ s.now ∧ (s.onHka (fun h => { h with windowAt := h.windowAt + 86400000000000 })).hkaRuns = true) ∧
     (up.onHka (fun h => { h with board := some 250 })).hka.board = some 250 ∧
     (satNat 32 0 < 1 ∧ 0 ≤ satNat 32 0 ∧ Ent.MON_WARN.on ((((up.monPut 0 Ent.MON_VALUE 0).monPut 0 Ent.MON_UPDATED_S up.aonSeconds).monPut 0 Ent.MON_PEAK
        (max 0 (Ent.MON_PEAK.of (up.mon 0)))).mon 0) = false)) ∧
    ((let held := fun (s : State) => Ent.MON_PROPOSED.on (s.mon 20) || s.hka.waiting.any (fun q => q.mon == 20) || s.hka.dismissed.any (fun q => q.1.mon == 20)
      held (up.monPut 20 Ent.MON_PROPOSED 1) = true ∧ held up = false ∧ (up.wr HKA_SPARES_DRAM_SPARE 15).actionBarred prop1 = false ∧
        held (up.wr HKA_SPARES_DRAM_SPARE 15) = false ∧ (up.wr HKA_SPARES_DRAM_SPARE 0).actionBarred prop1 = true ∧ held (up.wr HKA_SPARES_DRAM_SPARE 0) = false ∧
        Ent.MON_EXHAUSTED.on (up.mon 20) = false ∧ Ent.MON_EXHAUSTED.on ((up.monPut 20 Ent.MON_EXHAUSTED 1).mon 20) = true) ∧
     up.hka.dismissed.find? (fun d => d.1.mon == 20) = none ∧
     (let s := later ((up.onHka (fun h => { h with dismissed := [(prop1, 0)] })).wr HKA_LIFE_LIMIT_REMIND_DAYS 1) 86400000000000
      s.fabricUp = true ∧ s.hka.dismissed.find? (fun d => d.1.mon == 20) = some (prop1, 0) ∧ s.rd HKA_LIFE_LIMIT_REMIND_DAYS ≠ 0 ∧
        0 + s.rd HKA_LIFE_LIMIT_REMIND_DAYS * 86400000000000 ≤ s.now) ∧
     (up.wr HKA_LIFE_LIMIT_REMIND_DAYS 0).rd HKA_LIFE_LIMIT_REMIND_DAYS = 0) :=
  ⟨by decide +kernel, by decide +kernel⟩

/-- The hypotheses of `Obligations.ConversionsAndMaintenanceCommands` can be met. -/
theorem test_witness_ConversionsAndMaintenanceCommands :
    ((hkaUp.Admits sup 0x150010 true ∧ (((hkaUp.mbCount sup).wr HKA_CONV_CTRL_CHANNEL 3).wrB HKA_CONV_CTRL_URGENT true).hka.conv = none ∧
       (((hkaUp.mbCount sup).wr HKA_CONV_CTRL_CHANNEL 3).wrB HKA_CONV_CTRL_URGENT true).clk 17 = true) ∧
     (((up.wr SYS_CLK_RUN 0).mbCount sup).wr HKA_CONV_CTRL_CHANNEL 3).clk 17 = false ∧
     (hkaUp.Runs 17 ∧ hkaUp.hka.conv = none ∧ hkaUp.hka.rebuild = none) ∧
     (let c : HkaConv := { channel := 3, urgent := true, goAt := 0, goTai := 0, start := 1 }
      let s := hkaUp.onHka (fun h => { h with conv := some c, rebuild := some (1, 2) })
      s.Runs 17 ∧ s.hka.conv = some c ∧ s.hka.rebuild = some (1, 2) ∧ s.now < c.start + 1000 ∧ c.start + 1000 ≤ (later s 1001).now ∧
        (later s 1001).hka.conv = some c ∧ (later s 1001).Runs 17)) ∧
    ((hkaUp.Admits sup 0x150050 true ∧ hkaUp.on HKA_CMD_STATUS_BUSY = false ∧ hkaUp.clk 17 = true ∧
       bitAt ((hkaUp.wr HKA_SPARES_DRAM_SPARE 15).rd HKA_SPARES_DRAM_SPARE) 3 = true ∧ bitAt ((hkaUp.wr HKA_SPARES_DRAM_SPARE 0).rd HKA_SPARES_DRAM_SPARE) 3 = false) ∧
     (up.wr HKA_CMD_STATUS_BUSY 1).on HKA_CMD_STATUS_BUSY = true ∧ (up.wr SYS_CLK_RUN 0).clk 17 = false ∧
     (let e := (propUp 5 0).hka.prop.get 0 0
      (propUp 5 0).Admits sup 0x150050 true ∧ Ent.PROP_STATE.of e = 1 ∧ Ent.PROP_ACTION.of e = 5 ∧ (propUp 5 0).hka.queued.length < 8 ∧
        (propUp 5 0).clk 17 = true ∧ (propUp 5 0).on HKA_CMD_STATUS_BUSY = false) ∧
     8 ≤ (propUp 5 8).hka.queued.length ∧ Ent.PROP_ACTION.of ((propUp 1 0).hka.prop.get 0 0) ≠ 5 ∧ Ent.PROP_STATE.of (hkaUp.hka.prop.get 0 0) ≠ 1) :=
  ⟨by decide +kernel, by decide +kernel⟩

end Sys2Proof.Tests
end

section
/-! PROOFS. The step and the tick, and register writes: who writes which register, and what a field takes by its type code (R4, R14,
R15, R47, R155, R156, R483, R485, R490). -/

namespace Sys2Proof.Machine

open Sys2Proof Reg

/-! ## The step and the tick (R15, R485, log entry 1) -/

/-- Every arm of `exec` is one meaning, and every meaning answers a next state. -/
theorem exec_completes (c : Instr) (s : State) : Completes c s := by
  cases c <;> exact ⟨_, rfl⟩

@[simp] theorem State.evrRefresh_mbLater (s : State) : s.evrRefresh.mbLater = s.mbLater := by
  unfold State.evrRefresh
  dsimp only
  split <;> rfl

@[simp] theorem State.evrNoRoom_mbLater (s : State) (r : EvRec) (i : Nat) : (s.evrNoRoom r i).mbLater = s.mbLater := by
  unfold State.evrNoRoom
  dsimp only
  split
  · rfl
  · split <;> rfl

@[simp] theorem State.evrEnter_mbLater (s : State) (r : EvRec) : (s.evrEnter r).mbLater = s.mbLater := by
  unfold State.evrEnter
  dsimp only
  split
  · rfl
  · split <;> simp

/-- The records that enter the queue as a cycle ends put off no access. -/
theorem State.evrSettle_mbLater (s : State) : s.evrSettle.mbLater = s.mbLater := by
  suffices h : ∀ (rs : List (Nat × EvRec)) (u : State), (rs.foldl (fun s x => s.evrEnter x.2) u).mbLater = u.mbLater from
    h s.evr.arrivals _
  intro rs
  induction rs with
  | nil => exact fun _ => rfl
  | cons x rs ih => exact fun u => (ih _).trans (u.evrEnter_mbLater x.2)

/-- A tick up to the end of the fabric cycle, before the time base and the Spine go on: the first two lines of `State.tick`. -/
def State.endCycle (s : State) : State :=
  let s := s.evrSettle
  { s with now := s.now + 1, tim := { s.tim with aon := s.tim.aon + 1 }, setNow := [], fol := { s.fol with irqs := [] },
           sys := { s.sys with supplyIrq := false }, pending := s.mbLater ++ s.pending, mbLater := [] }

/-- What the time base and the Spine do in a tick touches neither the fabric time nor the queue. -/
theorem State.endCycle_keeps_tick (s : State) : Keeps s.endCycle s.tick := by
  change Keeps s.endCycle (if s.endCycle.now % 4 = 0 ∧ s.endCycle.clk 18 = true then s.endCycle.timPeriod else s.endCycle).spineTick
  apply State.spineTick_keeps
  split
  · exact State.timPeriod_keeps (Keeps.refl _)
  · exact Keeps.refl _

theorem State.tick_now (s : State) : s.tick.now = s.now + 1 := by
  rw [s.endCycle_keeps_tick.now]
  exact congrArg (· + 1) (State.evrSettle_keeps (Keeps.refl s)).now

theorem State.tick_pending (s : State) : s.tick.pending = s.mbLater ++ s.pending := by
  rw [s.endCycle_keeps_tick.pending]
  exact congrArg₂ (· ++ ·) s.evrSettle_mbLater (State.evrSettle_keeps (Keeps.refl s)).pending

/-- Settles O1: the step is `exec` by definition, the tick by what it keeps after the end of the cycle. -/
theorem stepRunsFrontCommand : Obligations.StepRunsFrontCommand :=
  ⟨fun c q s => step_cons s c q, step_nil, fun s => ⟨s.tick_now, s.tick_pending⟩, exec_completes⟩

/-! ## Access (R4, R155, R178, R490) -/

@[simp] theorem State.fenced_mgmt (s : State) : s.fenced .mgmt = false := rfl

@[simp] theorem State.fenced_debug (s : State) : s.fenced .debug = false := rfl

@[simp] theorem State.contends_folio (s : State) (n : Fin 32) (o : Nat) : s.contends (.folio n) o = false := rfl

@[simp] theorem State.mbCount_folio (s : State) (n : Fin 32) : s.mbCount (.folio n) = s := rfl

@[simp] theorem State.mbCount_latches (s : State) (who : Agent) : (s.mbCount who).latches = s.latches := by
  unfold State.mbCount
  split <;> rfl

/-- While the fabric runs, what is live acts. -/
theorem State.live_of_up {s : State} (h : s.fabricUp = true) (f : State → State) : s.live f = f s := if_pos h

/-- An access in its turn is made now. -/
theorem State.inTurn_of {s : State} {who : Agent} {o : Nat} (h : s.InTurn who o) (c : Instr) (t : State) : s.inTurn c who o t = t := by
  simp [State.inTurn, h.1, h.2]

/-- An access of the management bus that contends with the Supervisor's waits for the next fabric cycle (R4). -/
theorem State.inTurn_contends {s : State} {o : Nat} (hup : s.fabricUp = true) (h : s.contends .mgmt o = true) (c : Instr) (t : State) :
    s.inTurn c .mgmt o t = { s with mbLater := s.mbLater ++ [c] } := by
  simp [State.inTurn, hup, h]

/-- A write that an agent makes now is in its turn. -/
theorem State.Admits.inTurn {s : State} {who : Agent} {o : Nat} {host : Bool} (h : s.Admits who o host) : s.InTurn who o := by
  obtain ⟨-, hw⟩ := h
  simp only [State.mayWrite, Bool.and_eq_true, Bool.not_eq_true'] at hw
  exact hw.1

/-- The management bus makes a write now only where R490 lets it. -/
theorem State.Admits.mbWritable {s : State} {o : Nat} {host : Bool} (h : s.Admits .mgmt o host) : s.mbWritable o = true := by
  obtain ⟨-, hw⟩ := h
  simp only [State.mayWrite, Bool.and_eq_true] at hw
  exact hw.2

/-- A write that the agent makes now is carried out, and counted where it came on the management bus. -/
theorem State.allow_of {s : State} {who : Agent} {o : Nat} {host : Bool} (h : s.Admits who o host) (c : Instr) (f : State → State) :
    s.allow c who o host f = f (s.mbCount who) := by
  rw [State.allow, State.live_of_up h.1, if_pos h.2]

/-! ## Register writes: which agent writes which register (R155, R156, R483, R490) -/

/-- A word store to a mapped register in its turn is judged by `State.writeReg`. -/
theorem exec_registerWrite_word {who : Agent} {o : BitVec 24} {s : State} (h : s.InTurn who o.toNat) (hm : mapped o.toNat = true)
    (v : BitVec 32) : exec (.registerWrite who o false v) s = .next (s.writeReg who o.toNat v.toNat) := by
  change Host.Outcome.next _ = _
  rw [State.inTurn_of h, if_pos hm]
  rfl

/-- A byte or halfword store to a mapped register in its turn is judged by `State.narrowStore`. -/
theorem exec_registerWrite_narrow {who : Agent} {o : BitVec 24} {s : State} (h : s.InTurn who o.toNat) (hm : mapped o.toNat = true)
    (v : BitVec 32) :
    exec (.registerWrite who o true v) s = .next (s.narrowStore (.registerWrite who o true v) who o.toNat) := by
  change Host.Outcome.next _ = _
  rw [State.inTurn_of h, if_pos hm]
  rfl

/-- The management bus writes what R490 lets it, and the write is counted. -/
theorem State.writeReg_mgmt {s : State} (hup : s.fabricUp = true) {o : Nat} (hw : s.mbWritable o = true) (v : Nat) :
    s.writeReg .mgmt o v = (s.mbCount .mgmt).busWrite .mgmt o v := by
  rw [State.writeReg, State.live_of_up hup]
  exact if_pos hw

/-- The two commanding agents write every register that they may write. -/
theorem State.writeReg_host {s : State} {who : Agent} {o : Nat} (hwho : who = .folio 0 ∨ who = .mgmt) (h : s.Admits who o false) (v : Nat) :
    s.writeReg who o v = (s.mbCount who).busWrite who o v := by
  obtain rfl | rfl := hwho
  · exact State.live_of_up h.1 _
  · exact State.writeReg_mgmt h.1 h.mbWritable v

/-- A kernel writes its own per-pair FOL registers and nothing else. -/
theorem State.writeReg_kernel {s : State} (hup : s.fabricUp = true) (p : Fin 12) (o v : Nat) :
    s.writeReg (.kernel p) o v = if kernelReaches p.val o then s.busWrite (.kernel p) o v else s :=
  State.live_of_up hup _

/-- Another folio's write outside its own CLS and FOL registers faults. -/
theorem State.writeReg_folio_foreign {s : State} (hup : s.fabricUp = true) {n : Fin 32} (hn : n ≠ 0) {o : Nat}
    (hcls : ¬(0x41000 + 64 * n.val ≤ o ∧ o < 0x41040 + 64 * n.val)) (hfol : ¬(0x71000 + 64 * n.val ≤ o ∧ o < 0x71040 + 64 * n.val))
    (v : Nat) : s.writeReg (.folio n) o v = (s.epWrite o).regFault n.val o := by
  have hn0 : n.val ≠ 0 := fun h => hn (Fin.ext h)
  rw [State.writeReg, State.live_of_up hup]
  dsimp only
  rw [if_neg hn0, if_neg (by omega), if_neg (by omega)]

/-- A byte or halfword store of a commanding agent sets SIZE and does nothing else. -/
theorem State.narrowStore_host {s : State} {who : Agent} {o : Nat} (hwho : who = .folio 0 ∨ who = .mgmt) (h : s.Admits who o false)
    (c : Instr) : s.narrowStore c who o = (s.mbCount who).flag SYS_TROUBLE_SIZE := by
  obtain rfl | rfl := hwho
  · simp only [State.narrowStore]
    split
    · exact State.live_of_up h.1 _
    · exact State.allow_of h c _
  · exact State.allow_of h c (fun s => s.flag SYS_TROUBLE_SIZE)

/-! ## Register writes: one field by its type code (R14, R15) -/

section TypeCodes

variable (s : State) (p : FPlace) (v : Nat)

theorem State.writeField_ro (h : p.1.typ = .ro) : s.writeField p v = s := by
  simp [State.writeField, h]

theorem State.writeField_wo (h : p.1.typ = .wo) : s.writeField p v = s := by
  simp [State.writeField, h]

theorem State.writeField_rwlE (h : p.1.typ = .rwlE) : s.writeField p v = s := by
  simp [State.writeField, h]

theorem State.writeField_rwlB (h : p.1.typ = .rwlB) : s.writeField p v = if s.loaded then s else s.wrAt p v := by
  simp [State.writeField, h]

theorem State.writeField_rw (h : p.1.typ = .rw) (hown : ownRow.contains p.1 = false) (hboot : p.1 ≠ SYS_CLK_BOOT) :
    s.writeField p v = s.wrAt p v := by
  simp only [State.writeField, h, hown, hboot, false_and, if_false, Bool.false_eq_true]

theorem State.writeField_w1c (h : p.1.typ = .w1c) :
    s.writeField p v = s.wrK p.1 p.2.1 p.2.2.1 (s.rdAt p - (s.rdAt p &&& (Fld.fromWord p.1 p.2.2.2 0 v -
      (Fld.fromWord p.1 p.2.2.2 0 v &&& s.setNow.get (p.1.key p.2.1 p.2.2.1) 0)))) := by
  simp only [State.writeField, h]

/-- A field that takes a word holds the bits of the word that lie in it. -/
theorem State.rdAt_wrAt (h : s.Wf) : (s.wrAt p v).rdAt p = Fld.fromWord p.1 p.2.2.2 (s.rdAt p) v % 2 ^ p.1.w :=
  s.rdK_wrK_self _ _ _ _ h.regs

end TypeCodes

/-- Where a locked field lies in the word, LOCKED_WRITE comes before the fields are written. -/
theorem State.writeFields_eq (s : State) (o v : Nat) :
    s.writeFields o v = (fieldsAt o).foldl (fun x p => x.writeField p v)
      (if (fieldsAt o).any (fun p => s.lockedField p.1) then s.lockedWrite o else s) := rfl

/-- A register of port I0 that reads 0 takes nothing (R284); any other takes the fields, then its commands. -/
theorem State.busWrite_eq (s : State) (who : Agent) (o v : Nat) :
    s.busWrite who o v = if i0Blank o then s else (s.writeFields o v).command who o v := rfl

/-- Settles O5: who may write is decided by `State.writeReg`, and what a field takes by its type code in `State.writeField`. -/
theorem registerWordsAreWrittenByTypeCode : Obligations.RegisterWordsAreWrittenByTypeCode := by
  unfold Obligations.RegisterWordsAreWrittenByTypeCode
  refine ⟨?word, ?blank, ?kernel, ?foreign, ?contending, ?narrow, ?locked, ?unlocked, ?field⟩
  case word =>
    intro who o v s hwho h hm hb
    rw [exec_registerWrite_word h.inTurn hm, State.writeReg_host hwho h, State.busWrite_eq, if_neg (by simp [hb])]
  case blank =>
    intro who o v s hwho h hm hb
    rw [exec_registerWrite_word h.inTurn hm, State.writeReg_host hwho h, State.busWrite_eq, if_pos hb]
  case kernel =>
    intro p o v s hup h hm
    rw [exec_registerWrite_word h hm, State.writeReg_kernel hup]
  case foreign =>
    intro n o v s h hn hm hcls hfol
    rw [exec_registerWrite_word ⟨h.2, rfl⟩ hm, State.writeReg_folio_foreign h.1 hn hcls hfol]
  case contending =>
    intro o v s hup h
    exact congrArg Host.Outcome.next (State.inTurn_contends hup h _ _)
  case narrow =>
    intro who o v s hwho h hm
    rw [exec_registerWrite_narrow h.inTurn hm, State.narrowStore_host hwho h]
  case locked =>
    intro s o v h
    rw [State.writeFields_eq, if_pos h]
  case unlocked =>
    intro s o v h
    rw [State.writeFields_eq, if_neg (by simp [h])]
  case field =>
    intro s p v hwf
    refine ⟨s.writeField_ro p v, s.writeField_wo p v, s.writeField_rwlE p v, fun h hl => ?_, fun h hl => ?_, fun h hown hboot => ?_,
      fun h => ?_⟩
    · rw [s.writeField_rwlB p v h, if_pos hl]
    · rw [s.writeField_rwlB p v h, if_neg (by simp [hl]), s.rdAt_wrAt p v hwf]
    · rw [s.writeField_rw p v h hown hboot, s.rdAt_wrAt p v hwf]
    · rw [s.writeField_w1c p v h]
      exact s.rdK_wrK_self _ _ _ _ hwf.regs

/-! ## Register writes: the frame (R14, R15) -/

/-- A field of a word is written without a note of the W1C bits set in this fabric cycle. -/
@[simp] theorem State.writeField_setNow (s : State) (p : FPlace) (v : Nat) : (s.writeField p v).setNow = s.setNow := by
  cases h : p.1.typ with
  | ro => rw [s.writeField_ro p v h]
  | wo => rw [s.writeField_wo p v h]
  | rwlE => rw [s.writeField_rwlE p v h]
  | rwlB => rw [s.writeField_rwlB p v h]; split <;> rfl
  | w1c => rw [s.writeField_w1c p v h]; rfl
  | rw => simp only [State.writeField, h]; split <;> [rfl; split <;> rfl]

theorem State.foldl_writeField_setNow (ps : List FPlace) (s : State) (v : Nat) :
    (ps.foldl (fun x p => x.writeField p v) s).setNow = s.setNow := by
  induction ps generalizing s with
  | nil => rfl
  | cons p ps ih => exact (ih _).trans (s.writeField_setNow p v)

/-- A word with a locked field leaves the note that its block's LOCKED_WRITE bit was set in this fabric cycle. -/
theorem State.writeFields_setNow_of_locked {s : State} {o : Nat} (h : (fieldsAt o).any (fun p => s.lockedField p.1) = true) (v : Nat) :
    (s.writeFields o v).setNow = (s.lockedWrite o).setNow := by
  rw [State.writeFields_eq, if_pos h, State.foldl_writeField_setNow]

/-- A state that differs from another in its register fields alone notes the same W1C bits. -/
theorem State.setNow_of_regs_frame {s t : State} (h : { t with regs := s.regs } = s) : t.setNow = s.setNow :=
  (congrArg State.setNow h :)

theorem reset_wf : State.reset.Wf := ⟨reset_regs_wf, rfl, rfl⟩

/-- Refutes O6: after reset a word written to SYS_WDOG_CFG (0x90), an Endpaper register, sets SYS_TROUBLE.LOCKED_WRITE, and with it
the note of the W1C bits set in this fabric cycle (R14), which is state outside the register fields. -/
theorem not_registerWordFrame : ¬ Obligations.RegisterWordFrame := by
  intro h
  obtain ⟨-, hframe⟩ := h State.reset 0x90 0 reset_wf
  have hsame : (State.reset.writeFields 0x90 0).setNow = State.reset.setNow := State.setNow_of_regs_frame hframe
  have hlocked : (fieldsAt 0x90).any (fun p => State.reset.lockedField p.1) = true := rfl
  rw [State.writeFields_setNow_of_locked hlocked] at hsame
  exact absurd hsame (by decide)

end Sys2Proof.Machine
end

section
/-! PROOFS. Reads with the low-word latch and the transactions of the management bus (R10, R482, R484, R486-R490). -/

namespace Sys2Proof.Machine

open Sys2Proof Reg

/-! ## The latch (R10, R471, R484) -/

/-- What a requester's latch holds depends on the latches alone. -/
theorem State.latched_congr {s t : State} (h : t.latches = s.latches) (who : Agent) (o : Nat) : t.latched who o = s.latched who o := by
  simp only [State.latched, h]

@[simp] theorem State.latched_mbCount (s : State) (a who : Agent) (o : Nat) : (s.mbCount a).latched who o = s.latched who o :=
  State.latched_congr (s.mbCount_latches a) who o

@[simp] theorem latched_answerRead (r : Nat × State) (who : Agent) (o : Nat) : (answerRead r).latched who o = r.2.latched who o := rfl

/-- The high word just latched is what the requester's latch holds. -/
@[simp] theorem State.latched_latch_self (s : State) (who : Agent) (o v : Nat) : (s.latch who o v).latched who o = some v := by
  simp [State.latched, State.latch]

/-- A latch of one requester leaves every other requester's alone. -/
theorem State.latched_latch_other (s : State) {who other : Agent} (h : other ≠ who) (o v n : Nat) :
    (s.latch who o v).latched other n = s.latched other n := by
  have hkept : (fun l : Agent × Nat × Nat => decide ((!decide (l.1 = who)) = true ∧ (decide (l.1 = other) && l.2.1 == n) = true)) =
      fun l => decide (l.1 = other) && l.2.1 == n := by
    funext l
    by_cases hl : l.1 = other
    · simp [hl, h, beq_eq_decide]
    · simp [hl]
  unfold State.latched State.latch
  rw [List.find?_cons_of_neg (by simp [Ne.symm h]), List.find?_filter, hkept]

/-- After several high words are latched, the requester's latch holds for an offset what the list names first for it. -/
theorem State.latched_latchMany (s : State) (who : Agent) (xs ys : List (Nat × Nat)) (o v : Nat) (h : ∀ x ∈ xs, x.1 ≠ o) :
    (s.latchMany who (xs ++ (o, v) :: ys)).latched who o = some v := by
  induction xs with
  | nil => simp [State.latched, State.latchMany]
  | cons x xs ih =>
    have hx : x.1 ≠ o := h x (List.mem_cons_self ..)
    have hxs := ih fun y hy => h y (List.mem_cons_of_mem _ hy)
    simpa [State.latched, State.latchMany, hx] using hxs

/-! ## Reads of mapped registers (R155, R156, R431, R484) -/

/-- A read of a low word answers, and latches the high word. -/
theorem State.busRead_lowWord {s : State} {o : Nat} (who : Agent) (hh : o ≠ 0x150018) (hk : o ≠ 0x120054) (h : lowWord o = true) :
    s.busRead who o = ((s.latched who o).getD (s.shownWord o), s.latch who (o + 4) (s.shownWord (o + 4))) := by
  simp [State.busRead, hh, hk, h]

/-- A read of any other register has no side effect. -/
theorem State.busRead_plain {s : State} {o : Nat} (who : Agent) (hh : o ≠ 0x150018) (hk : o ≠ 0x120054) (h : lowWord o = false) :
    s.busRead who o = ((s.latched who o).getD (s.shownWord o), s) := by
  simp [State.busRead, hh, hk, h]

/-- A read of KEY_OP_RD is a read of the key operation's output. -/
theorem State.busRead_keyOpRd (s : State) (who : Agent) : s.busRead who 0x120054 = s.keyRead := rfl

/-- A read of HKA_DATA_LO latches HKA_DATA_HI and the two TAI words. -/
theorem State.busRead_hkaData (s : State) (who : Agent) : s.busRead who 0x150018 = ((s.latched who 0x150018).getD (s.shownWord 0x150018),
    s.latchMany who [(0x15001C, s.word 0x15001C), (0x150020, s.word 0x150020), (0x150024, s.word 0x150024)]) := rfl

/-- A read that the requester may make answers it, and counts where it came on the management bus. -/
theorem State.readReg_permitted {s : State} {who : Agent} {o : Nat} (hup : s.fabricUp = true) (h : s.mayRead who o = true) :
    s.readReg who o = answerRead ((s.busRead who o).1, (s.busRead who o).2.mbCount who) := by
  rw [State.readReg, State.live_of_up hup]
  exact if_pos h

/-- A read that the requester may not make is refused. -/
theorem State.readReg_refused {s : State} {who : Agent} {o : Nat} (hup : s.fabricUp = true) (h : s.mayRead who o = false) :
    s.readReg who o = s.refuseAccess who o := by
  rw [State.readReg, State.live_of_up hup]
  exact if_neg (by simp [h])

/-- A read of a mapped register in its turn is judged by `State.readReg`. -/
theorem exec_lowWordRead_of {who : Agent} {o : BitVec 24} {s : State} (h : s.InTurn who o.toNat) (hm : mapped o.toNat = true) :
    exec (.lowWordRead who o) s = .next (s.readReg who o.toNat) := by
  change Host.Outcome.next _ = _
  rw [State.inTurn_of h, if_pos hm]

/-- HKA_DATA_READ in its turn is the read of HKA_DATA_LO. -/
theorem exec_hkaDataRead_of {who : Agent} {s : State} (h : s.InTurn who 0x150018) :
    exec (.hkaDataRead who) s = .next (s.readReg who 0x150018) :=
  congrArg Host.Outcome.next (State.inTurn_of h _ _)

theorem mapped_keyOpRd : mapped 0x120054 = true := by decide

theorem mapped_hkaDataLo : mapped 0x150018 = true := by decide

/-! ## Unmapped offsets (R482) -/

/-- An access to an unmapped offset by an agent that no fence holds is judged by `State.unmapped`. -/
theorem exec_unmappedAccess_of {who : Agent} {o : BitVec 24} {s : State} (hf : s.fenced who = false) (hm : mapped o.toNat = false)
    (write : Bool) : exec (.unmappedAccess who o write) s = .next (s.unmapped who o.toNat write) := by
  change Host.Outcome.next _ = _
  rw [if_neg (by simp [hm, hf])]

/-- The agents that reach the register space set UNMAPPED, and read 0. -/
theorem State.unmapped_reaching {s : State} (hup : s.fabricUp = true) {who : Agent} {write : Bool}
    (hwho : who = .folio 0 ∨ who = .mgmt ∨ (who = .debug ∧ (if write then 3 else 1) ≤ s.debugCode)) (o : Nat) :
    s.unmapped who o write = { s.flag SYS_TROUBLE_UNMAPPED with lastRead := if write then s.lastRead else 0 } := by
  rw [State.unmapped, State.live_of_up hup]
  obtain rfl | rfl | ⟨rfl, hcode⟩ := hwho
  · rfl
  · rfl
  · exact if_pos hcode

/-- The debug transport is refused below the level that R431 asks for. -/
theorem State.unmapped_debug_refused {s : State} (hup : s.fabricUp = true) {write : Bool} (h : s.debugCode < (if write then 3 else 1))
    (o : Nat) : s.unmapped .debug o write = s.debugRefused := by
  rw [State.unmapped, State.live_of_up hup]
  exact if_neg (Nat.not_le.mpr h)

/-- A kernel reaches no unmapped offset. -/
theorem State.unmapped_kernel (s : State) (p : Fin 12) (o : Nat) (write : Bool) : s.unmapped (.kernel p) o write = s :=
  ite_self s

/-- A folio other than the Supervisor takes the access fault of R155. -/
theorem State.unmapped_folio {s : State} (hup : s.fabricUp = true) {n : Fin 32} (hn : n ≠ 0) (o : Nat) (write : Bool) :
    s.unmapped (.folio n) o write = s.regFault n.val o := by
  rw [State.unmapped, State.live_of_up hup]
  exact if_neg fun h => hn (Fin.ext h)

/-- Settles O7: each clause is one case of `State.busRead`, of who may read, or of `State.unmapped`. -/
theorem readsLatchTheHighWord : Obligations.ReadsLatchTheHighWord := by
  unfold Obligations.ReadsLatchTheHighWord
  refine ⟨?low, ?plain, ?keyOp, ?hka, ?refused, ?hkaRefused, ?unmapped, ?debugRefused, ?kernel, ?folio⟩
  case low =>
    intro who o s hup h hm hlow hh hk hr
    refine ⟨_, exec_lowWordRead_of h hm, ?_⟩
    rw [State.readReg_permitted hup hr, State.busRead_lowWord who hh hk hlow]
    refine ⟨rfl, by simp, fun other hne n => ?_⟩
    simp [State.latched_latch_other s hne]
  case plain =>
    intro who o s hup h hm hlow hh hk hr
    rw [exec_lowWordRead_of h hm, State.readReg_permitted hup hr, State.busRead_plain who hh hk hlow]
    rfl
  case keyOp =>
    intro who s hup h hr
    rw [exec_lowWordRead_of (o := 0x120054) h mapped_keyOpRd]
    exact congrArg Host.Outcome.next (State.readReg_permitted hup hr)
  case hka =>
    intro who s hup h hr
    refine ⟨(exec_lowWordRead_of (o := 0x150018) h mapped_hkaDataLo).trans (exec_hkaDataRead_of h).symm, _, exec_hkaDataRead_of h, ?_⟩
    rw [State.readReg_permitted hup hr, State.busRead_hkaData]
    simp only [latched_answerRead, State.latched_mbCount]
    exact ⟨rfl, State.latched_latchMany s who [] _ _ _ (by simp), State.latched_latchMany s who [(0x15001C, _)] _ _ _ (by simp),
      State.latched_latchMany s who [(0x15001C, _), (0x150020, _)] _ _ _ (by simp)⟩
  case refused =>
    intro who o s hup h hm hr
    rw [exec_lowWordRead_of h hm, State.readReg_refused hup hr]
  case hkaRefused =>
    intro who s hup h hr
    rw [exec_hkaDataRead_of h, State.readReg_refused hup hr]
  case unmapped =>
    intro who o write s hup hf hm hwho
    rw [exec_unmappedAccess_of hf hm, State.unmapped_reaching hup hwho]
  case debugRefused =>
    intro o write s hup hm hcode
    rw [exec_unmappedAccess_of s.fenced_debug hm, State.unmapped_debug_refused hup hcode]
  case kernel =>
    intro p o write s
    refine congrArg Host.Outcome.next ?_
    rw [State.unmapped_kernel, ite_self]
  case folio =>
    intro n o write s h hm hn
    rw [exec_unmappedAccess_of h.2 hm, State.unmapped_folio h.1 hn]

/-! ## Management-bus transactions (R486-R490) -/

/-- A frame that passes names its offset and carries its command byte. -/
theorem mbRequest_eq_some {cmd n o : Nat} {bs : List Byte} (h : mbRequest cmd n bs = some o) : beAt bs 2 3 = o ∧ beAt bs 1 1 = cmd := by
  unfold mbRequest at h
  dsimp only at h
  split at h
  · rename_i hframe
    obtain ⟨-, hcmd, -, -⟩ := hframe
    exact ⟨Option.some.inj h, hcmd⟩
  · cases h

/-- The module answers its address only while the fabric runs. -/
theorem State.fabricUp_of_mbMine {s : State} {a : Byte} (h : s.mbMine a = true) : s.fabricUp = true := by
  simp only [State.mbMine, Bool.and_eq_true] at h
  exact h.1

/-- The response to a READ from address byte `a` (R489): STATUS, DATA and the CRC over the address byte with the read bit and them. -/
def State.mbReply (u : State) (a : Byte) (ok : Bool) (v : Nat) : State :=
  let body := leBytes 1 (u.mbStatus ok (!ok)) ++ beBytes 4 v
  { u with sys := { u.sys with mbReply := body ++ leBytes 1 (crc8 (leBytes 1 (a.toNat + 1) ++ body)), mbWriteErr := false }, lastRead := v }

section Transactions

variable {s : State} {bs : List Byte}

/-- A transaction for a register that the Supervisor does not access in this cycle is carried out now. -/
theorem exec_mbRead_inTurn (h : s.contends .mgmt (beAt bs 2 3) = false) : exec (.mbRead bs) s = .next (s.mbRead bs) :=
  congrArg Host.Outcome.next (State.inTurn_of ⟨s.fenced_mgmt, h⟩ _ _)

theorem exec_mbWrite_inTurn (h : s.contends .mgmt (beAt bs 2 3) = false) : exec (.mbWrite bs) s = .next (s.mbWrite bs) :=
  congrArg Host.Outcome.next (State.inTurn_of ⟨s.fenced_mgmt, h⟩ _ _)

/-- A frame for another address, or without a byte, is none of the module's. -/
theorem State.mbRead_foreign (h : ∀ a, bs.head? = some a → s.mbMine a = false) : s.mbRead bs = s := by
  unfold State.mbRead
  split
  · rfl
  · next a ha => exact if_pos (.inl (h a ha))

theorem State.mbWrite_foreign (h : ∀ a, bs.head? = some a → s.mbMine a = false) : s.mbWrite bs = s := by
  unfold State.mbWrite
  split
  · rfl
  · next a ha => exact if_pos (.inl (h a ha))

variable {a : Byte} (hmine : s.mbMine a = true)
include hmine

/-- A frame that fails a check is refused, but for one with the command byte of WRITE. -/
theorem State.mbRead_bad (h : mbRequest 1 6 (a :: bs) = none) (hcmd : beAt (a :: bs) 1 1 ≠ 2) : s.mbRead (a :: bs) = s.mbRefused := by
  simp [State.mbRead, hmine, hcmd, h]

/-- A frame that fails a check is refused and reported, but for one with the command byte of READ. -/
theorem State.mbWrite_bad (h : mbRequest 2 10 (a :: bs) = none) (hcmd : beAt (a :: bs) 1 1 ≠ 1) :
    s.mbWrite (a :: bs) = s.mbRefused.mbWriteBad := by
  simp [State.mbWrite, hmine, hcmd, h]

/-- A good READ of a mapped register answers its word. -/
theorem State.mbRead_mapped {o : Nat} (h : mbRequest 1 6 (a :: bs) = some o) (hm : mapped o = true) :
    s.mbRead (a :: bs) = ((s.busRead .mgmt o).2.mbCount .mgmt).mbReply a true ((s.busRead .mgmt o).1 % 2 ^ 32) := by
  have hcmd := (mbRequest_eq_some h).2
  simp [State.mbRead, State.mbReply, hmine, hcmd, h, hm]

/-- A good READ of an unmapped offset answers 0 with UNMAPPED. -/
theorem State.mbRead_unmapped {o : Nat} (h : mbRequest 1 6 (a :: bs) = some o) (hm : mapped o = false) :
    s.mbRead (a :: bs) = (s.flag SYS_TROUBLE_UNMAPPED).mbReply a false 0 := by
  have hcmd := (mbRequest_eq_some h).2
  simp [State.mbRead, State.mbReply, hmine, hcmd, h, hm]

/-- A good WRITE is a write by the management bus where R490 lets it, and else is reported. -/
theorem State.mbWrite_good {o : Nat} (h : mbRequest 2 10 (a :: bs) = some o) :
    s.mbWrite (a :: bs) = if mapped o = false then (s.flag SYS_TROUBLE_UNMAPPED).mbWriteBad
      else if s.mbWritable o then (s.mbCount .mgmt).busWrite .mgmt o (beAt (a :: bs) 5 4)
      else ((s.epWrite o).flag SYS_TROUBLE_MB_DENIED).mbWriteBad := by
  have hcmd := (mbRequest_eq_some h).2
  by_cases hw : s.mbWritable o = true
  · simp [State.mbWrite, hmine, hcmd, h, hw, State.writeReg_mgmt (State.fabricUp_of_mbMine hmine) hw]
  · simp [State.mbWrite, hmine, hcmd, h, hw, State.mbDenied]

end Transactions

/-- Settles O9: each clause is one outcome of a frame's checks. -/
theorem managementBusTransactions : Obligations.ManagementBusTransactions := by
  unfold Obligations.ManagementBusTransactions
  refine ⟨?read, ?write, ?bad, ?foreign, ?contending⟩
  case read =>
    intro a bs s o hmine h hturn
    rw [exec_mbRead_inTurn ((mbRequest_eq_some h).1 ▸ hturn)]
    cases hm : mapped o with
    | true => rw [State.mbRead_mapped hmine h hm]; rfl
    | false => rw [State.mbRead_unmapped hmine h hm]; rfl
  case write =>
    intro a bs s o hmine h hturn
    rw [exec_mbWrite_inTurn ((mbRequest_eq_some h).1 ▸ hturn), State.mbWrite_good hmine h]
  case bad =>
    intro a bs s hmine hturn
    refine ⟨fun h hcmd => ?_, fun h hcmd => ?_⟩
    · rw [exec_mbRead_inTurn hturn, State.mbRead_bad hmine h hcmd]
      rfl
    · rw [exec_mbWrite_inTurn hturn, State.mbWrite_bad hmine h hcmd]
      rfl
  case foreign =>
    intro bs s hturn h
    rw [exec_mbRead_inTurn hturn, exec_mbWrite_inTurn hturn, State.mbRead_foreign h, State.mbWrite_foreign h]
    exact ⟨rfl, rfl⟩
  case contending =>
    intro bs s hup h
    exact ⟨congrArg Host.Outcome.next (State.inTurn_contends hup h _ _), congrArg Host.Outcome.next (State.inTurn_contends hup h _ _)⟩

end Sys2Proof.Machine
end

section
/-! PROOFS. Cadence boundaries, timed launches, the timestamp queues and the retransmission of publishers (R28, R118, R306-R309,
R316, R366). -/

namespace Sys2Proof.Machine

open Sys2Proof Reg

/-! ## Blocks behind a clock unit (R429, R451) -/

/-- While the fabric and the unit run, what is behind the unit acts. -/
theorem State.liveU_of_runs {s : State} {u : Nat} (h : s.Runs u) (f : State → State) : s.liveU u f = f s := by
  rw [State.liveU, State.live_of_up h.1, if_pos h.2]

theorem exec_cadenceBoundary_of {s : State} (h : s.Runs 18) : exec .cadenceBoundary s = .next s.cadenceInstant :=
  congrArg Host.Outcome.next (State.liveU_of_runs h _)

theorem exec_timedLaunch_of {s : State} (h : s.Runs 18) (p : Fin 20) : exec (.timedLaunch p) s = .next (s.timedLaunch p.val) :=
  congrArg Host.Outcome.next (State.liveU_of_runs h _)

theorem exec_launchLate_of {s : State} (h : s.Runs 18) (p : Fin 20) : exec (.launchLate p) s = .next (s.launchLateAll p.val) :=
  congrArg Host.Outcome.next (State.liveU_of_runs h _)

theorem exec_gooseRetransmit_of {s : State} (h : s.Runs 18) (p : Fin 256) : exec (.gooseRetransmit p) s = .next (s.pubDue p.val) :=
  congrArg Host.Outcome.next (State.liveU_of_runs h _)

theorem exec_tsqPop_of {s : State} {who : Agent} {p : Fin 20} (h : s.Admits who (0xE1010 + 64 * p.val) false) :
    exec (.tsqPop who p) s = .next ((s.mbCount who).tsqPop p.val) :=
  congrArg Host.Outcome.next (State.allow_of h _ _)

/-! ## The boundary of the cycle in progress (R28, R309) -/

theorem State.cadenceInstant_reached {s : State} (hl : s.loaded = true) (hb : s.boundary s.cycle ≤ s.tai) :
    s.cadenceInstant = s.instantsDue.cadenceBoundary :=
  if_pos (by simp [hl, hb])

theorem State.cadenceInstant_not_reached {s : State} (h : s.loaded = false ∨ s.tai < s.boundary s.cycle) : s.cadenceInstant = s := by
  refine if_neg fun hdue => ?_
  rw [Bool.and_eq_true, decide_eq_true_eq] at hdue
  obtain ⟨hl, hb⟩ := hdue
  rcases h with hu | hlt
  · exact Bool.false_ne_true (hu.symm.trans hl)
  · exact absurd hb (Nat.not_le_of_lt hlt)

/-! ## Timed launches (R307, R308) -/

@[simp] theorem State.fresh_taiNs (s : State) : s.fresh.2.taiNs = s.taiNs := rfl

@[simp] theorem State.fresh_sfdLead (s : State) (p : Nat) : s.fresh.2.sfdLead p = s.sfdLead p := rfl

/-- Port A and I0, and a port that is sending, not UP, or owes a respond mPacket or a control frame, launch nothing. -/
def State.LaunchBarred (s : State) (p : Nat) : Prop :=
  18 ≤ p ∨ s.sending p = true ∨ s.rdI SWC_P_STATE p ≠ 1 ∨ s.mac.respond.contains p = true ∨ s.mac.ctrl.any (fun c => c.1 == p) = true

theorem State.not_launchBarred {s : State} {p : Nat} (hline : p < 18) (hidle : s.sending p = false) (hup : s.rdI SWC_P_STATE p = 1)
    (hrespond : s.mac.respond.contains p = false) (hctrl : s.mac.ctrl.any (fun c => c.1 == p) = false) : ¬ s.LaunchBarred p := by
  simp only [State.LaunchBarred, hidle, hup, hrespond, hctrl, Bool.false_eq_true, ne_eq, not_true_eq_false, or_false]
  exact Nat.not_le_of_lt hline

theorem State.timedLaunch_barred {s : State} {p : Nat} (h : s.LaunchBarred p) : s.timedLaunch p = s := if_pos h

theorem State.timedLaunch_none {s : State} {p : Nat} (h : s.swc.copies.find? (s.mayLaunch p) = none) : s.timedLaunch p = s := by
  unfold State.timedLaunch
  split
  · rfl
  · rw [h]

section Launch

variable {s : State} {p t : Nat} {c : Copy} (hfree : ¬ s.LaunchBarred p) (hc : s.swc.copies.find? (s.mayLaunch p) = some c)
  (ht : c.launch = some t)
include hfree hc ht

/-- The SFD of a launched copy crosses at the launch time up to the free deviation, or at once where that has passed (log entry 4). -/
theorem State.timedLaunch_of_mayLaunch :
    s.timedLaunch p = s.fresh.2.startCopy c
      (if t + 8 < s.taiNs + s.sfdLead p then s.taiNs + s.sfdLead p else t + s.fresh.1 % 17 - 8) := by
  rw [State.timedLaunch, if_neg (show ¬ (18 ≤ p ∨ _) from hfree), hc]
  simp only [ht, Option.getD_some, State.fresh_taiNs, State.fresh_sfdLead]

theorem State.timedLaunch_on_time (h : s.taiNs + s.sfdLead p ≤ t + 8) :
    s.timedLaunch p = s.fresh.2.startCopy c (t + s.fresh.1 % 17 - 8) := by
  rw [State.timedLaunch_of_mayLaunch hfree hc ht, if_neg (Nat.not_lt_of_le h)]

theorem State.timedLaunch_passed (h : t + 8 < s.taiNs + s.sfdLead p) :
    s.timedLaunch p = s.fresh.2.startCopy c (s.taiNs + s.sfdLead p) := by
  rw [State.timedLaunch_of_mayLaunch hfree hc ht, if_pos h]

end Launch

theorem State.launchLateAll_single {s : State} {c : Copy} (h : s.swc.copies = [c]) (p : Nat) :
    s.launchLateAll p = if c.port = p ∧ c.st = 1 ∧ s.launchLate c = true then s.dropLate c else s := by
  rw [State.launchLateAll, h]
  rfl

/-! ## The timestamp queues (R306) -/

/-- Entry `e` leaves the queue for the data words of port `p`. -/
def State.tsqTake (s : State) (p : Nat) (e : Nat × Nat) : State :=
  (List.range 4).foldl (fun s k => s.wrK TIM_P_TSQ_DATA p k (bits e.2 (32 * k) 32))
    (s.onTsq (fun q => { q with entries := q.entries.erase e }))

theorem State.tsqPop_empty {s : State} {p : Nat} (h : s.tsq.entries.find? (fun e => e.1 == p) = none) :
    s.tsqPop p = s.wrI TIM_P_TSQ_STATUS_LATCHED p 0 := by
  rw [State.tsqPop, h]

theorem State.tsqPop_stored {s : State} {p : Nat} {e : Nat × Nat} (h : s.tsq.entries.find? (fun e => e.1 == p) = some e) :
    s.tsqPop p = ((s.tsqTake p e).wrI TIM_P_TSQ_STATUS_LATCHED p 1).wrI TIM_P_TSQ_STATUS_COUNT p ((s.tsqTake p e).tsqOf p).length := by
  rw [State.tsqPop, h]
  rfl

/-! ## Retransmission (R316, R317) -/

/-- The schedule of publisher `p` moves on by the interval that begins now. -/
def State.pubAdvance (s : State) (p : Nat) : State :=
  let x := s.pubOf p
  let c := s.ent 0xE02 (Ent.PUB_CURVE.of (s.pubEnt p))
  s.setPub p { x with step := if x.step < Ent.RETR_STEPS.of c then x.step + 1 else 15,
                      due := some (x.due.getD s.now + curveUs c x.step * 1000) }

theorem State.pubSend_withheld {s : State} {p : Nat} (h : (s.pubAdvance p).pubMaySend = false) : s.pubSend p = s.pubAdvance p :=
  if_pos h

theorem State.pubDue_idle {s : State} {p : Nat} (h : (s.pubOf p).stNum = 0 ∨ s.due (s.pubOf p).due = false) : s.pubDue p = s :=
  if_pos h

theorem State.pubDue_elapsed {s : State} {p : Nat} (hnum : (s.pubOf p).stNum ≠ 0) (hdue : s.due (s.pubOf p).due = true) :
    s.pubDue p = if (s.pubOf p).changed then
        s.pubAccept p (if Ent.PUB_OWNER.of (s.pubEnt p) = 2 then ctlData (s.pubOf p).members (Ent.PUB_MEMBERS.of (s.pubEnt p))
          else (s.pubOf p).data)
      else s.pubSend p :=
  if_neg (by simp [hnum, hdue])

/-- Settles O46: each clause is one case of the operation behind its row; what passes at a boundary is `State.cadenceBoundary` itself. -/
theorem boundariesLaunchesAndRetransmissions : Obligations.BoundariesLaunchesAndRetransmissions := by
  unfold Obligations.BoundariesLaunchesAndRetransmissions
  refine ⟨?boundary, fun s => rfl, ?launch, ?late, ?pop, ?publish⟩
  case boundary =>
    intro s hs
    rw [exec_cadenceBoundary_of hs]
    exact ⟨fun hl hb => congrArg _ (State.cadenceInstant_reached hl hb), fun h => congrArg _ (State.cadenceInstant_not_reached h)⟩
  case launch =>
    intro p s hs
    rw [exec_timedLaunch_of hs]
    refine ⟨fun c t hline hidle hup hrespond hctrl hc ht => ?_, fun h => congrArg _ ?_⟩
    · have hfree := State.not_launchBarred hline hidle hup hrespond hctrl
      refine ⟨fun h => ⟨s.fresh.1 % 17, Nat.mod_lt _ (by decide), ?_⟩, fun h => ?_⟩
      · rw [State.timedLaunch_on_time hfree hc ht h]
      · rw [State.fresh_taiNs, State.fresh_sfdLead] at h ⊢
        rw [State.timedLaunch_passed hfree hc ht h]
    · have hbarred : s.LaunchBarred p.val ∨ s.swc.copies.find? (s.mayLaunch p.val) = none := by
        simpa only [State.LaunchBarred, or_assoc] using h
      exact hbarred.elim State.timedLaunch_barred State.timedLaunch_none
  case late =>
    intro p s c hs hcopies
    rw [exec_launchLate_of hs, State.launchLateAll_single hcopies]
    refine ⟨fun hport hheld hlate => congrArg _ (if_pos ⟨hport, hheld, hlate⟩), fun h => congrArg _ (if_neg ?_)⟩
    rintro ⟨hport, hheld, hlate⟩
    simp [hport, hheld, hlate] at h
  case pop =>
    intro who p s h
    rw [exec_tsqPop_of h]
    exact ⟨fun hnone => congrArg _ (State.tsqPop_empty hnone), fun e he => congrArg _ (State.tsqPop_stored he)⟩
  case publish =>
    intro p s hs
    rw [exec_gooseRetransmit_of hs]
    refine ⟨fun h => congrArg _ (State.pubDue_idle h), fun hnum hdue => ?_⟩
    rw [State.pubDue_elapsed hnum hdue]
    exact ⟨fun hchanged => congrArg _ (if_pos hchanged),
      fun hsame => ⟨congrArg _ (if_neg (by simp [hsame])), State.pubSend_withheld⟩⟩

end Sys2Proof.Machine
end

section
/-! PROOFS. What every step keeps: well-formed stores, the queue, the anti-rollback floor and the time floor (R45, R52, R291, R446,
R447). -/

namespace Sys2Proof.Machine

open Sys2Proof Reg

/-! ## The state after a reset (R446, R447) -/

/-- Settles O3: the reset state lists the tables of R45, no command and no DRAM byte, and its register store is in canonical form. -/
theorem resetIsWellFormed : Obligations.ResetIsWellFormed := ⟨reset_wf, rfl, rfl⟩

/-! ## Every command -/

/-- Every command has the relation `Keeps`: each arm of `exec` is one row, and each row has it. -/
theorem exec_keeps {c : Instr} {s t : State} (e : exec c s = .next t) : Keeps s t :=
  match c with
  | .registerWrite .. => execRegisterWrite_keeps _ _ _ _ e
  | .unmappedAccess .. => execUnmappedAccess_keeps _ _ _ e
  | .lowWordRead .. => execLowWordRead_keeps _ _ e
  | .hkaDataRead .. => execHkaDataRead_keeps _ e
  | .keyOpRead .. => execKeyOpRead_keeps _ e
  | .tableRead .. => execTableRead_keeps _ _ _ _ e
  | .clearCounters .. => execClearCounters_keeps _ _ _ e
  | .clearPeaks .. => execClearPeaks_keeps _ _ e
  | .mbRead .. => execMbRead_keeps _ e
  | .mbWrite .. => execMbWrite_keeps _ e
  | .load .. => execLoad_keeps _ _ e
  | .loadFetchDone .. => execLoadFetchDone_keeps _ e
  | .loadAbort .. => execLoadAbort_keeps _ e
  | .floorSet .. => execFloorSet_keeps _ _ e
  | .stageLenWrite .. => execStageLenWrite_keeps _ _ e
  | .stageWrite .. => execStageWrite_keeps _ _ e
  | .stage .. => execStage_keeps _ e
  | .arm .. => execArm_keeps _ e
  | .confirm .. => execConfirm_keeps _ e
  | .revert .. => execRevert_keeps _ e
  | .discard .. => execDiscard_keeps _ e
  | .program .. => execProgram_keeps _ _ e
  | .eraseJournal .. => execEraseJournal_keeps _ _ e
  | .svCopyReceived .. => execSvCopyReceived_keeps _ _ _ _ e
  | .svVerdict .. => execSvVerdict_keeps _ e
  | .epochTimeout .. => execEpochTimeout_keeps _ e
  | .sealInstant .. => execSeal_keeps _ e
  | .sviEnable .. => execSviEnable_keeps _ _ e
  | .ringLoad .. => execRingLoad_keeps _ _ _ _ e
  | .ringEccError .. => execRingEccError_keeps _ _ e
  | .verifierFault .. => execVerifierFault_keeps _ _ e
  | .verifierJobTimeout .. => execVerifierJobTimeout_keeps _ e
  | .verifierKat .. => execVerifierKat_keeps _ _ e
  | .spareSelWrite .. => execSpareSelWrite_keeps _ _ e
  | .verifierIdleToSpare .. => execVerifierIdleToSpare_keeps _ e
  | .verifierRetire .. => execVerifierRetire_keeps _ _ e
  | .verifierRestore .. => execVerifierRestore_keeps _ _ e
  | .verifierRestoreDone .. => execVerifierRestoreDone_keeps _ _ e
  | .sealRun .. => execSealRun_keeps _ _ _ _ _ e
  | .abandon .. => execAbandon_keeps _ _ e
  | .stallTimeout .. => execStallTimeout_keeps _ e
  | .filterConsume .. => execFilterConsume_keeps _ e
  | .elementDelayExpire .. => execElementDelayExpire_keeps _ e
  | .elementResetTimeExpire .. => execElementResetTimeExpire_keeps _ e
  | .elementIntegratorFull .. => execElementIntegratorFull_keeps _ e
  | .elementFreezeExpire .. => execElementFreezeExpire_keeps _ e
  | .settlingEnd .. => execSettlingEnd_keeps _ e
  | .sourceSwitch .. => execSourceSwitch_keeps _ e
  | .dtMinOnExpire .. => execDtMinOnExpire_keeps _ e
  | .dtHoldExpire .. => execDtHoldExpire_keeps _ _ e
  | .bkstBlockWrite .. => execBkstBlockWrite_keeps _ _ e
  | .bkstResetElement .. => execBkstResetElement_keeps _ _ e
  | .bkstResetAll .. => execBkstResetAll_keeps _ e
  | .switchForceA .. => execSwitchForceA_keeps _ _ e
  | .switchForceB .. => execSwitchForceB_keeps _ _ e
  | .switchAutomatic .. => execSwitchAutomatic_keeps _ _ e
  | .filterLoad .. => execFilterLoad_keeps _ _ _ e
  | .stateEcc .. => execStateEcc_keeps _ _ e
  | .dispatchDeadline .. => execDispatchDeadline_keeps _ e
  | .folioDispatch .. => execFolioDispatch_keeps _ e
  | .yield .. => execYield_keeps _ _ _ e
  | .backgroundTimeslice .. => execBackgroundTimeslice_keeps _ e
  | .runBudgetExpire .. => execRunBudgetExpire_keeps _ e
  | .folioFault .. => execFolioFault_keeps _ _ _ _ _ e
  | .kernelFault .. => execKernelFault_keeps _ _ _ _ e
  | .folioReset .. => execFolioReset_keeps _ _ e
  | .folioResetDone .. => execFolioResetDone_keeps _ e
  | .folioHalt .. => execFolioHalt_keeps _ _ e
  | .folioResume .. => execFolioResume_keeps _ _ e
  | .rxTailWrite .. => execRxTailWrite_keeps _ _ _ _ e
  | .txTailWrite .. => execTxTailWrite_keeps _ _ _ _ e
  | .lockstepMismatch .. => execLockstepMismatch_keeps _ e
  | .pairRetire .. => execPairRetire_keeps _ _ e
  | .pairRestore .. => execPairRestore_keeps _ _ e
  | .pairRestoreDone .. => execPairRestoreDone_keeps _ e
  | .migrate .. => execMigrate_keeps _ _ e
  | .scanBudgetExpire .. => execScanBudgetExpire_keeps _ e
  | .restart .. => execRestart_keeps _ e
  | .forceSet .. => execForceSet_keeps _ e
  | .forceRelease .. => execForceRelease_keeps _ e
  | .forceReleaseAll .. => execForceReleaseAll_keeps _ e
  | .imageEcc .. => execImageEcc_keeps _ e
  | .ctlOpen .. => execCtlOpen_keeps _ _ _ e
  | .ctlClose .. => execCtlClose_keeps _ _ _ e
  | .ctlCancel .. => execCtlCancel_keeps _ _ _ e
  | .ctlWaitTimeout .. => execCtlWaitTimeout_keeps _ e
  | .operateTimeout .. => execOperateTimeout_keeps _ e
  | .travelTimeout .. => execTravelTimeout_keeps _ e
  | .positionTalExpire .. => execPositionTalExpire_keeps _ e
  | .objectAbort .. => execObjectAbort_keeps _ _ e
  | .ilQuery .. => execIlQuery_keeps _ _ e
  | .frameIngress .. => execFrameIngress_keeps _ _ _ e
  | .frameRxEnd .. => execFrameRxEnd_keeps _ _ _ _ e
  | .cutThroughStart .. => execCutThroughStart_keeps _ e
  | .egressStart .. => execEgressStart_keeps _ _ e
  | .txComplete .. => execTxComplete_keeps _ e
  | .bufferEccError .. => execBufferEccError_keeps _ _ e
  | .linkLost .. => execLinkLost_keeps _ _ e
  | .linkReturned .. => execLinkReturned_keeps _ e
  | .linkHoldExpire .. => execLinkHoldExpire_keeps _ e
  | .supervisionTx .. => execSupervisionTx_keeps _ e
  | .linkQualified .. => execLinkQualified_keeps _ e
  | .portEnWrite .. => execPortEnWrite_keeps _ _ _ e
  | .sfpOvercurrent .. => execSfpOvercurrent_keeps _ e
  | .verifyRestart .. => execVerifyRestart_keeps _ _ e
  | .verifyTimeout .. => execVerifyTimeout_keeps _ e
  | .verifyResponse .. => execVerifyResponse_keeps _ e
  | .verifyReceived .. => execVerifyReceived_keeps _ e
  | .preemption .. => execPreemption_keeps _ _ e
  | .pauseReceived .. => execPauseReceived_keeps _ _ e
  | .pauseExpire .. => execPauseExpire_keeps _ e
  | .pauseXoff .. => execPauseXoff_keeps _ e
  | .pauseRefresh .. => execPauseRefresh_keeps _ e
  | .pauseXon .. => execPauseXon_keeps _ e
  | .portACollision .. => execPortACollision_keeps _ e
  | .portAFrameInterrupt .. => execPortAFrameInterrupt_keeps _ e
  | .wakeFrame .. => execWakeFrame_keeps _ _ e
  | .pdelayReqTx .. => execPdelayReqTx_keeps _ e
  | .irigFrame .. => execIrigFrame_keeps _ _ _ e
  | .ppsEdge .. => execPpsEdge_keeps _ e
  | .sourceQualified .. => execSourceQualified_keeps _ e
  | .sourceLost .. => execSourceLost_keeps _ e
  | .timeSet .. => execTimeSet_keeps _ e
  | .timeStep .. => execTimeStep_keeps _ e
  | .timedLaunch .. => execTimedLaunch_keeps _ e
  | .launchLate .. => execLaunchLate_keeps _ e
  | .tsqPop .. => execTsqPop_keeps _ _ e
  | .gooseRetransmit .. => execGooseRetransmit_keeps _ e
  | .evrScanDone .. => execEvrScanDone_keeps _ e
  | .cursorLoad .. => execCursorLoad_keeps _ _ _ e
  | .evrRead .. => execEvrRead_keeps _ _ _ e
  | .evrClear .. => execEvrClear_keeps _ e
  | .positionCapture .. => execPositionCapture_keeps _ e
  | .headFilled .. => execHeadFilled_keeps _ e
  | .gatheringComplete .. => execGatheringComplete_keeps _ e
  | .gutterEnd .. => execGutterEnd_keeps _ e
  | .gapEnd .. => execGapEnd_keeps _ e
  | .captureResume .. => execCaptureResume_keeps _ e
  | .gthEnable .. => execGthEnable_keeps _ _ e
  | .hostEnWrite .. => execHostEnWrite_keeps _ _ e
  | .deleteUpto .. => execDeleteUpto_keeps _ e
  | .readToHost .. => execReadToHost_keeps _ e
  | .nandWindowRead .. => execNandWindowRead_keeps _ _ e
  | .sequencerForce .. => execSequencerForce_keeps _ _ e
  | .sequencerReset .. => execSequencerReset_keeps _ _ e
  | .twinEnable .. => execTwinEnable_keeps _ _ e
  | .relinquish .. => execRelinquish_keeps _ e
  | .heartbeatRx .. => execHeartbeatRx_keeps _ e
  | .quireRx .. => execQuireRx_keeps _ e
  | .coruskLaneDown .. => execCoruskLaneDown_keeps _ e
  | .coruskLaneRejoin .. => execCoruskLaneRejoin_keeps _ e
  | .unsealDone .. => execUnsealDone_keeps _ e
  | .update .. => execUpdate_keeps _ _ _ e
  | .verify .. => execVerify_keeps _ _ _ e
  | .attest .. => execAttest_keeps _ _ _ e
  | .pubkey .. => execPubkey_keeps _ _ _ e
  | .delete .. => execDelete_keeps _ _ _ e
  | .keyOpWrite .. => execKeyOpWrite_keeps _ _ e
  | .challengeNew .. => execChallengeNew_keeps _ e
  | .tokenWrite .. => execTokenWrite_keeps _ _ e
  | .tokenDebug .. => execTokenDebug_keeps _ e
  | .tokenLifecycle .. => execTokenLifecycle_keeps _ e
  | .tokenClearLog .. => execTokenClearLog_keeps _ e
  | .debugClose .. => execDebugClose_keeps _ e
  | .debugAccess .. => execDebugAccess_keeps _ e
  | .tamperEvent .. => execTamperEvent_keeps _ e
  | .tamperRelease .. => execTamperRelease_keeps _ e
  | .pwrRun .. => execPwrRun_keeps _ e
  | .pwrQuiet .. => execPwrQuiet_keeps _ e
  | .pwrStandby .. => execPwrStandby_keeps _ e
  | .pwrOff .. => execPwrOff_keeps _ e
  | .clkReqWrite .. => execClkReqWrite_keeps _ _ _ e
  | .clockUnitRunning .. => execClockUnitRunning_keeps _ e
  | .hostReset .. => execHostReset_keeps _ _ e
  | .wdogKick .. => execWdogKick_keeps _ e
  | .mbistDone .. => execMbistDone_keeps _ _ e
  | .lbistDone .. => execLbistDone_keeps _ e
  | .bistTestPair .. => execBistTestPair_keeps _ _ e
  | .bistTestUnit .. => execBistTestUnit_keeps _ _ e
  | .bistDemandDone .. => execBistDemandDone_keeps _ e
  | .vwarnFall .. => execVwarnFall_keeps _ e
  | .vwarnRise .. => execVwarnRise_keeps _ _ e
  | .vreset .. => execVreset_keeps _ e
  | .vstbyLow .. => execVstbyLow_keeps _ e
  | .vstbyOk .. => execVstbyOk_keeps _ e
  | .adcSweep .. => execAdcSweep_keeps _ e
  | .adcConvert .. => execAdcConvert_keeps _ _ e
  | .adcConvertUrgent .. => execAdcConvertUrgent_keeps _ _ e
  | .adcResult .. => execAdcResult_keeps _ e
  | .ageingMeasure .. => execAgeingMeasure_keeps _ _ e
  | .eccCorrected .. => execEccCorrected_keeps _ _ _ _ e
  | .spareDevice .. => execSpareDevice_keeps _ _ _ e
  | .queueRepair .. => execQueueRepair_keeps _ _ e
  | .dismiss .. => execDismiss_keeps _ _ e
  | .proposalRemind .. => execProposalRemind_keeps _ e
  | .hostConsumedWrite .. => execHostConsumedWrite_keeps _ _ e
  | .lgeEnable .. => execLgeEnable_keeps _ _ e
  | .ctlEnable .. => execCtlEnable_keeps _ _ e
  | .sfpFault .. => execSfpFault_keeps _ _ e
  | .loadSignatureDone => execLoadSignatureDone_keeps e
  | .loadJournalEntry => execLoadJournalEntry_keeps e
  | .loadCheckDone => execLoadCheckDone_keeps e
  | .tipinVerified => execTipinVerified_keeps e
  | .tipinJournalAppended => execTipinJournalAppended_keeps e
  | .tipinCommitCheck => execTipinCommitCheck_keeps e
  | .revertTimeout => execRevertTimeout_keeps e
  | .storeWriteDone => execStoreWriteDone_keeps e
  | .cycleRelease => execCycleRelease_keeps e
  | .substitutionDone => execSubstitutionDone_keeps e
  | .migrationMove => execMigrationMove_keeps e
  | .scanStart => execScanStart_keeps e
  | .scanCommit => execScanCommit_keeps e
  | .positionFrame => execPositionFrame_keeps e
  | .ilImageApply => execIlImageApply_keeps e
  | .ilClkLoss => execIlClkLoss_keeps e
  | .ilStale => execIlStale_keeps e
  | .portABackoffExpire => execPortABackoffExpire_keeps e
  | .ptpSync => execPtpSync_keeps e
  | .ptpFollowUp => execPtpFollowUp_keeps e
  | .announceRx => execAnnounceRx_keeps e
  | .pdelayReqRx => execPdelayReqRx_keeps e
  | .pdelayRespRx => execPdelayRespRx_keeps e
  | .holdoverExpire => execHoldoverExpire_keeps e
  | .wholeSecond => execWholeSecond_keeps e
  | .ppsOutFall => execPpsOutFall_keeps e
  | .timeFloorUpdate => execTimeFloorUpdate_keeps e
  | .leapSecond => execLeapSecond_keeps e
  | .cadenceBoundary => execCadenceBoundary_keeps e
  | .recordCommit => execRecordCommit_keeps e
  | .evrClearDone => execEvrClearDone_keeps e
  | .sequencerEval => execSequencerEval_keeps e
  | .gatheringStored => execGatheringStored_keeps e
  | .storeScanDone => execStoreScanDone_keeps e
  | .relinquishWithdraw => execRelinquishWithdraw_keeps e
  | .heartbeatTx => execHeartbeatTx_keeps e
  | .quireTxDone => execQuireTxDone_keeps e
  | .peerHolding => execPeerHolding_keeps e
  | .peerForcing => execPeerForcing_keeps e
  | .peerReleased => execPeerReleased_keeps e
  | .peerFailed => execPeerFailed_keeps e
  | .coruskLost => execCoruskLost_keeps e
  | .tokenReadbackFault => execTokenReadbackFault_keeps e
  | .leaseRenew => execLeaseRenew_keeps e
  | .leaseLapse => execLeaseLapse_keeps e
  | .initClaim => execInitClaim_keeps e
  | .promotionComplete => execPromotionComplete_keeps e
  | .keyOpComplete => execKeyOpComplete_keeps e
  | .challengeExpire => execChallengeExpire_keeps e
  | .lifecycleBurnDone => execLifecycleBurnDone_keeps e
  | .sessionExpire => execSessionExpire_keeps e
  | .zeroizeMetadataDone => execZeroizeMetadataDone_keeps e
  | .tamperHoldExpire => execTamperHoldExpire_keeps e
  | .powerDownDone => execPowerDownDone_keeps e
  | .pwrEnLow => execPwrEnLow_keeps e
  | .pwrEnRise => execPwrEnRise_keeps e
  | .powerOnReset => execPowerOnReset_keeps e
  | .pinReset => execPinReset_keeps e
  | .hostResetEffect => execHostResetEffect_keeps e
  | .wdogExpire => execWdogExpire_keeps e
  | .powerUpStart => execPowerUpStart_keeps e
  | .ddrTrainingDone => execDdrTrainingDone_keeps e
  | .bootDecide => execBootDecide_keeps e
  | .lifeAccrue => execLifeAccrue_keeps e
  | .lifeCommit => execLifeCommit_keeps e
  | .eccWindowEnd => execEccWindowEnd_keeps e
  | .spareRebuildDone => execSpareRebuildDone_keeps e
  | .resetNRelease => execResetNRelease_keeps e
  | .tokenCheckDone => execTokenCheckDone_keeps e
  | .journalEraseDone => execJournalEraseDone_keeps e
  | .gthStoreCmdDone => execGthStoreCmdDone_keeps e
  | .ref10Qualified => execRef10Qualified_keeps e
  | .ref10Lost => execRef10Lost_keeps e

/-! ## Every step -/

/-- The end of a fabric cycle leaves the stores and the floors as its event records leave them. -/
theorem State.endCycle_wf {s : State} (h : s.Wf) : s.endCycle.Wf :=
  let ⟨regs, dram, tables⟩ := (State.evrSettle_keeps (Keeps.refl s)).wf h
  ⟨regs, dram, tables⟩

/-- A tick keeps a state well formed. -/
theorem State.tick_wf {s : State} (h : s.Wf) : s.tick.Wf := s.endCycle_keeps_tick.wf (State.endCycle_wf h)

/-- A tick takes no free value back. -/
theorem State.freeCount_le_tick (s : State) : s.freeCount ≤ s.tick.freeCount :=
  (State.evrSettle_keeps (Keeps.refl s)).free.trans s.endCycle_keeps_tick.free

/-- A tick does not lower the anti-rollback floor. -/
theorem State.bndFloor_le_tick (s : State) : s.bnd.floor ≤ s.tick.bnd.floor :=
  (State.evrSettle_keeps (Keeps.refl s)).floor.trans s.endCycle_keeps_tick.floor

/-- A tick does not lower the time floor. -/
theorem State.timFloor_le_tick (s : State) : s.tim.floor ≤ s.tick.tim.floor :=
  (State.evrSettle_keeps (Keeps.refl s)).timeFloor.trans s.endCycle_keeps_tick.timeFloor

/-- Settles O2: a step with a command waiting has the relation `Keeps` to the state with the rest of the queue, and a step without one
is a tick. -/
theorem everyStepKeepsTheStateWellFormed : Obligations.EveryStepKeepsTheStateWellFormed := by
  intro s t e
  cases hq : s.pending with
  | nil =>
    rw [step_nil s hq] at e
    cases e
    refine ⟨State.tick_wf, ?_, s.freeCount_le_tick, s.bndFloor_le_tick, s.timFloor_le_tick, s.tick_now⟩
    rw [s.tick_pending, hq, List.append_nil, if_pos rfl]
  | cons c q =>
    have hs : s = s.withPending (c :: q) := by rw [State.withPending, ← hq]
    rw [hs, step_cons] at e
    obtain ⟨hpending, hnow, hfree, hfloor, htime, hwf⟩ := exec_keeps e
    exact ⟨fun ⟨regs, dram, tables⟩ => hwf ⟨regs, dram, tables⟩, hpending, hfree, hfloor, htime, hnow⟩

end Sys2Proof.Machine
end

section
/-! PROOFS. Full loads, the anti-rollback floor and the staging window (R37, R41, R42, R46-R56, R451, R452). -/

namespace Sys2Proof.Machine

open Sys2Proof Reg

/-! ## The rows of the loader (R49) -/

@[simp] theorem State.mbCount_bnd (s : State) (who : Agent) : (s.mbCount who).bnd = s.bnd := by
  unfold State.mbCount
  split <;> rfl

section Rows

variable {who : Agent} {s : State}

theorem exec_load_of (h : s.Admits who 0x10004 true) (src : Fin 4) :
    exec (.load who src) s = .next (((s.mbCount who).wr BND_CTRL_SRC src.val).bndLoad src.val) :=
  congrArg Host.Outcome.next (State.allow_of h _ _)

theorem exec_loadAbort_of (h : s.Admits who 0x10004 true) :
    exec (.loadAbort who) s =
      .next (if (s.mbCount who).on BND_STATUS_BUSY then (s.mbCount who).bndFail 0xF 0 else s.mbCount who) :=
  congrArg Host.Outcome.next (State.allow_of h _ _)

theorem exec_floorSet_of (h : s.Admits who 0x10018 true) (v : BitVec 32) :
    exec (.floorSet who v) s = .next ((s.mbCount who).floorSet v.toNat) :=
  congrArg Host.Outcome.next (State.allow_of h _ _)

theorem exec_stageLenWrite_of (h : s.Admits who 0x10048 false) (len : BitVec 27) :
    exec (.stageLenWrite who len) s = .next ((s.mbCount who).stageLen len.toNat) :=
  congrArg Host.Outcome.next (State.allow_of h _ _)

theorem exec_stageWrite_of (h : s.Admits who 0x1004C false) (d : BitVec 32) :
    exec (.stageWrite who d) s = .next ((s.mbCount who).stageWrite d.toNat) :=
  congrArg Host.Outcome.next (State.allow_of h _ _)

theorem exec_loadFetchDone_of (h : s.Runs 1) (e : Bool) :
    exec (.loadFetchDone e) s = .next (if s.clk 16 then s.bndFetched e else s) :=
  congrArg Host.Outcome.next (State.liveU_of_runs h _)

theorem exec_loadSignatureDone_of (h : s.Runs 16) : exec .loadSignatureDone s = .next s.bndSigned :=
  congrArg Host.Outcome.next (State.liveU_of_runs h _)

theorem exec_loadJournalEntry_of (h : s.Runs 16) : exec .loadJournalEntry s = .next s.bndJournal :=
  congrArg Host.Outcome.next (State.liveU_of_runs h _)

theorem exec_loadCheckDone_of (h : s.fabricUp = true) : exec .loadCheckDone s = .next s.bndChecked.ptpRefresh :=
  congrArg Host.Outcome.next (State.live_of_up h _)

end Rows

/-! ## The SIGNATURE, ENDPAPER and FILL phases (R41, R46-R49, R52) -/

/-- The configuration of a container whose signature holds: its Endpaper applied, the tables emptied and its sections filled, and the
phase that follows; or the failure of the first section that does not decode. -/
def State.bndFill (s : State) (j : LoadJob) : State :=
  match s.applyEpap j.bytes with
  | (some (code, i), t) => t.bndFail code i
  | (none, t) => match ({ t with tables := tableIds.map (fun i => { id := i }) } : State).applySecs j.bytes (sections.drop 1) with
    | (some (code, i), t) => t.bndFail code i
    | (none, t) => t.wr BND_STATUS_PHASE (if t.loadJournal j = [] then 7 else 6)

section Signature

variable {s : State} {j : LoadJob}

/-- Outside the SIGNATURE phase, and while the keys are not unsealed, nothing is verified. -/
theorem State.bndSigned_idle (h : s.rd BND_STATUS_PHASE ≠ 3 ∨ s.keysReady = false) : s.bndSigned = s := by
  unfold State.bndSigned
  split
  · rfl
  · rw [if_pos h]

/-- Once the keys are zeroized the load ends with TAMPER (R452). -/
theorem State.bndSigned_zeroized (hload : s.bnd.load = some j) (hphase : s.rd BND_STATUS_PHASE = 3) (hkey : s.rd KEY_STATUS_STATE = 3) :
    s.bndSigned = s.bndFail 0x0D 0 := by
  simp [State.bndSigned, hload, hphase, State.keysReady, hkey]

/-- With a usable key store, the verification of the signature decides the SIGNATURE phase. -/
theorem State.bndSigned_eq (hload : s.bnd.load = some j) (hphase : s.rd BND_STATUS_PHASE = 3) (hready : s.keysReady = true)
    (hkey : s.rd KEY_STATUS_STATE ≠ 3) :
    s.bndSigned =
      if (s.bndSignature j.bytes j.keyOk).1 ≠ 0 then
        (s.bndSignature j.bytes j.keyOk).2.bndFail (s.bndSignature j.bytes j.keyOk).1 0
      else if imageVersion j.bytes < (s.bndSignature j.bytes j.keyOk).2.bnd.floor then
        (s.bndSignature j.bytes j.keyOk).2.bndFail 8 0
      else (s.bndSignature j.bytes j.keyOk).2.bndFill j := by
  simp only [State.bndSigned, hload, hphase, hready, hkey, ne_eq, not_true, Bool.true_eq_false, or_self, if_false]
  obtain ⟨code, t⟩ := s.bndSignature j.bytes j.keyOk
  cases code with
  | zero => rfl
  | succ code => rfl

end Signature

/-! ## The anti-rollback floor (R52) -/

/-- FLOOR_SET takes a value between the floor and the loaded IMAGE_VERSION. -/
theorem State.floorSet_accepted {s : State} {v : Nat} (h : s.bnd.floor ≤ v ∧ v ≤ s.rd BND_IMAGE_VER_IMAGE_VERSION) :
    (s.floorSet v).bnd.floor = v := by
  rw [State.floorSet, if_pos h]
  rfl

/-- FLOOR_SET of any other value only sets FLOOR_REJECT. -/
theorem State.floorSet_rejected {s : State} {v : Nat} (h : ¬(s.bnd.floor ≤ v ∧ v ≤ s.rd BND_IMAGE_VER_IMAGE_VERSION)) :
    s.floorSet v = s.flag BND_TROUBLE_FLOOR_REJECT :=
  if_neg h

/-- Settles O4: no command lowers the floor by what every command keeps; the two outcomes of a verification, and the two of FLOOR_SET,
are cases of `State.bndSigned` and `State.floorSet`. -/
theorem floorIsNeverLowered : Obligations.FloorIsNeverLowered := by
  unfold Obligations.FloorIsNeverLowered
  refine ⟨fun c s t e => (exec_keeps e).floor, ?rollback, ?accepted, ?rejected⟩
  case rollback =>
    intro s j hs hload hphase hready hkey
    rw [exec_loadSignatureDone_of hs, State.bndSigned_eq hload hphase hready hkey]
    exact ⟨fun hbad => congrArg _ (if_pos hbad), fun hgood hbelow => congrArg _ ((if_neg (not_not.mpr hgood)).trans (if_pos hbelow))⟩
  case accepted =>
    intro who v s h hfloor hversion
    exact ⟨_, exec_floorSet_of h v, State.floorSet_accepted ⟨by rwa [State.mbCount_bnd], hversion⟩⟩
  case rejected =>
    intro who v s h hout
    have hr := State.floorSet_rejected (s := s.mbCount who) (v := v.toNat) (by rwa [State.mbCount_bnd])
    exact ⟨_, exec_floorSet_of h v, by rw [hr, State.flag_bnd, State.mbCount_bnd], hr⟩

/-! ## The staging window (R56) -/

/-- Reading one of the bytes just written gives it. -/
theorem Memory.read_writeAll_of_lt (m : Memory) (a : Nat) (bs : List Byte) {k : Nat} (h : k < bs.length) :
    (m.writeAll a bs).read? (a + k) = some bs[k] := by
  induction bs generalizing m a k with
  | nil => exact absurd h (Nat.not_lt_zero _)
  | cons b bs ih =>
    cases k with
    | zero => exact (Memory.read_writeAll_ne _ (a + 1) bs (.inl (Nat.lt_succ_self a))).trans (Memory.read_write_self m a b)
    | succ k =>
      rw [Memory.writeAll, ← Nat.add_assoc, Nat.add_right_comm]
      exact ih _ _ (Nat.lt_of_succ_lt_succ h)

/-- A register word as four bytes, the most significant first. -/
theorem beBytes_four (v : Nat) :
    beBytes 4 v = [BitVec.ofNat 8 (v / 2 ^ 24), BitVec.ofNat 8 (v / 2 ^ 16), BitVec.ofNat 8 (v / 2 ^ 8), BitVec.ofNat 8 v] := by
  simp [beBytes, leBytes, Nat.div_div_eq_div_mul]

theorem State.stageWrite_within {s : State} (h : s.bnd.stageOff < 2 ^ 26) (v : Nat) :
    s.stageWrite v = (s.dramWrite (s.stageAddr + s.bnd.stageOff) (beBytes 4 v)).onBnd (fun b => { b with stageOff := b.stageOff + 4 }) :=
  if_pos h

/-- Settles O31: within the window BND_STAGE_WR is one write of four bytes and one of the running offset. -/
theorem stagingWindowTakesBytes : Obligations.StagingWindowTakesBytes := by
  unfold Obligations.StagingWindowTakesBytes
  refine ⟨fun who len s h => exec_stageLenWrite_of h len, fun who d s h => ?_⟩
  rw [exec_stageWrite_of h]
  generalize s.mbCount who = u
  refine ⟨fun hin => ⟨_, rfl, ?_⟩, fun hout => congrArg _ (if_neg (Nat.not_lt.mpr hout))⟩
  rw [State.stageWrite_within hin]
  simp only [State.onBnd_dram, State.dramWrite_dram, beBytes_four]
  exact ⟨rfl, rfl, rfl, rfl, Memory.read_writeAll_of_lt _ _ _ (k := 0) (by simp), Memory.read_writeAll_of_lt _ _ _ (k := 1) (by simp),
    Memory.read_writeAll_of_lt _ _ _ (k := 2) (by simp), Memory.read_writeAll_of_lt _ _ _ (k := 3) (by simp),
    fun c hc => Memory.read_writeAll_ne _ _ _ (hc.imp_right Nat.succ_le_of_lt)⟩

/-! ## The start and the end of a load (R48, R49, R51, R54) -/

section Load

variable {s : State} {j : LoadJob} {src code idx : Nat}

/-- What keeps a LOAD from starting or waiting (R49). -/
def State.LoadBarred (s : State) (src : Nat) : Prop :=
  s.on BND_STATUS_BUSY = true ∨ s.loaded = true ∨ s.rd BND_STATUS_PHASE = 9 ∨ s.on BST_STATUS_SAFE = true ∨ 2 < src ∨
    s.bnd.wait.isSome = true

theorem State.bndLoad_barred (h : s.LoadBarred src) : s.bndLoad src = s :=
  if_pos (by simpa [State.LoadBarred, or_assoc] using h)

theorem State.bndLoad_eq (h : ¬s.LoadBarred src) :
    s.bndLoad src = if s.decided && !s.on SYS_SUPPLY_STATUS_VWARN then s.bndFetch src false
      else s.onBnd (fun b => { b with wait := some src }) :=
  if_neg (by simpa [State.LoadBarred, or_assoc] using h)

/-- A load with a second attempt left goes on from the other slot (R51). -/
theorem State.bndFail_fallback (hload : s.bnd.load = some j)
    (h : j.src < 2 ∧ j.fallback = false ∧ ((s.wr BND_STATUS_FAIL_CODE code).wr BND_STATUS_FAIL_SECTION idx).on BND_BOOT_CFG_FALLBACK_EN ∧
      code ≠ 0x0D ∧ code ≠ 0x0E ∧ code ≠ 0x0F) :
    s.bndFail code idx = ((((s.wr BND_STATUS_FAIL_CODE code).wr BND_STATUS_FAIL_SECTION idx).flag BND_TROUBLE_FALLBACK_USED).bndFetch
      (1 - j.src) true) := by
  simp only [State.bndFail, hload]
  exact if_pos h

/-- Any other load ends FAILED with EP_LOCK (R48). -/
theorem State.bndFail_failed (hload : s.bnd.load = some j)
    (h : ¬(j.src < 2 ∧ j.fallback = false ∧ ((s.wr BND_STATUS_FAIL_CODE code).wr BND_STATUS_FAIL_SECTION idx).on BND_BOOT_CFG_FALLBACK_EN ∧
      code ≠ 0x0D ∧ code ≠ 0x0E ∧ code ≠ 0x0F)) :
    s.bndFail code idx = ((((((s.wr BND_STATUS_FAIL_CODE code).wr BND_STATUS_FAIL_SECTION idx).onBnd (fun b => { b with load := none })).wr
      BND_STATUS_PHASE 9).wr BND_STATUS_BUSY 0).wr BND_STATUS_EP_LOCK 1).flag BND_TROUBLE_LOAD_FAIL := by
  simp only [State.bndFail, hload]
  exact if_neg h

/-! ## The FETCH and HEADER phases (R37, R49) -/

theorem State.bndFetched_idle (h : s.rd BND_STATUS_PHASE ≠ 1) (e : Bool) : s.bndFetched e = s := by
  unfold State.bndFetched
  split
  · rfl
  · rw [if_pos h]

theorem State.bndFetched_torn (hload : s.bnd.load = some j) (hphase : s.rd BND_STATUS_PHASE = 1)
    (h : j.src < 2 ∧ colophonValid (s.bndSlot j.src).colophon = false) (e : Bool) : s.bndFetched e = s.bndFail 0x1B 0 := by
  simp [State.bndFetched, hload, hphase, h]

theorem State.bndFetched_unreadable (hload : s.bnd.load = some j) (hphase : s.rd BND_STATUS_PHASE = 1) (hsrc : j.src < 2)
    (hcol : colophonValid (s.bndSlot j.src).colophon = true) :
    s.bndFetched true = (s.flag BND_TROUBLE_STORE_ERR).bndFail 0x0C 0 := by
  simp [State.bndFetched, hload, hphase, hsrc, hcol]

theorem State.bndFetched_badHeader (hload : s.bnd.load = some j) (hphase : s.rd BND_STATUS_PHASE = 1)
    (hcol : j.src < 2 → colophonValid (s.bndSlot j.src).colophon = true) (h : headerBad j.bytes 1 = some (code, idx)) :
    s.bndFetched false = s.bndFail code idx := by
  have hvalid : ¬(j.src < 2 ∧ colophonValid (s.bndSlot j.src).colophon = false) := by simpa using hcol
  simp only [State.bndFetched, hload, hphase, h, hvalid, ne_eq, not_true, Bool.false_eq_true, and_false, if_false]

/-- A good header goes on to the SIGNATURE phase, unless the slot's colophon is that of another container. -/
theorem State.bndFetched_goodHeader (hload : s.bnd.load = some j) (hphase : s.rd BND_STATUS_PHASE = 1)
    (hcol : j.src < 2 → colophonValid (s.bndSlot j.src).colophon = true) (h : headerBad j.bytes 1 = none) :
    s.bndFetched false = if j.src < 2 ∧ (s.bndSlot j.src).colophon ≠ colophonOf j.bytes then s.bndFail 0x1B 0
      else (s.wr BND_STATUS_PHASE 3).onLoad (fun j => { j with keyOk := s.bndKeyOk j.bytes }) := by
  have hvalid : ¬(j.src < 2 ∧ colophonValid (s.bndSlot j.src).colophon = false) := by simpa using hcol
  simp only [State.bndFetched, hload, hphase, h, hvalid, ne_eq, not_true, Bool.false_eq_true, and_false, if_false]

end Load

/-- Settles O29: LOAD, ABORT and the end of FETCH are the cases of `State.bndLoad`, `State.bndFail` and `State.bndFetched`. -/
theorem fullLoadsBeginAndAbort : Obligations.FullLoadsBeginAndAbort := by
  unfold Obligations.FullLoadsBeginAndAbort
  refine ⟨?begins, ?barred, ?fetched, ?refused, ?otherPhase, ?abortIdle, ?abort, ?ends⟩
  case begins =>
    intro who src s h u hbusy hloaded hphase hsafe hwait
    have hfree : ¬u.LoadBarred src.val := by simp [State.LoadBarred, hbusy, hloaded, hphase, hsafe, hwait, Nat.le_of_lt_succ src.isLt]
    rw [exec_load_of h]
    refine ⟨fun hdecided hvwarn => congrArg _ ?_, fun hlater => congrArg _ ?_⟩
    · exact (State.bndLoad_eq hfree).trans (if_pos (by simp [hdecided, hvwarn]))
    · refine (State.bndLoad_eq hfree).trans (if_neg fun hnow => ?_)
      simp only [Bool.and_eq_true, Bool.not_eq_true'] at hnow
      simp [hnow] at hlater
  case barred =>
    intro who src s h u hbar
    rw [exec_load_of h]
    refine congrArg _ (State.bndLoad_barred ?_)
    simpa only [State.LoadBarred, show 2 < src.val ↔ src.val = 3 by omega] using hbar
  case fetched =>
    intro s j hs hclk hload hphase hcol hheader
    rw [exec_loadFetchDone_of hs, if_pos hclk, State.bndFetched_goodHeader hload hphase (fun hsrc => (hcol hsrc).1) hheader,
      if_neg fun hother => hother.2 (hcol hother.1).2]
  case refused =>
    intro s j hs hclk hload hphase
    simp only [exec_loadFetchDone_of hs, if_pos hclk]
    refine ⟨fun e hsrc hbad => ?_, fun hsrc hcol => ?_, fun code i hcol hheader => ?_, fun hsrc hcol hheader hother => ?_⟩
    · rw [State.bndFetched_torn hload hphase ⟨hsrc, hbad⟩]
    · rw [State.bndFetched_unreadable hload hphase hsrc hcol]
    · rw [State.bndFetched_badHeader hload hphase hcol hheader]
    · rw [State.bndFetched_goodHeader hload hphase (fun _ => hcol) hheader, if_pos ⟨hsrc, hother⟩]
  case otherPhase =>
    intro e s hs hphase
    rw [exec_loadFetchDone_of hs, State.bndFetched_idle hphase, ite_self]
  case abortIdle =>
    intro who s h hbusy
    rw [exec_loadAbort_of h, if_neg (by simp [hbusy])]
  case abort =>
    intro who s j h hbusy hload
    rw [exec_loadAbort_of h, if_pos hbusy]
    exact congrArg _ (State.bndFail_failed hload fun hretry => hretry.2.2.2.2.2 rfl)
  case ends =>
    intro s j code idx hload
    refine ⟨fun hsrc hfirst hen hcode₁ hcode₂ hcode₃ => State.bndFail_fallback hload ⟨hsrc, hfirst, hen, hcode₁, hcode₂, hcode₃⟩,
      fun hlast => State.bndFail_failed hload ?_⟩
    rintro ⟨hsrc, hfirst, hen, hcode₁, hcode₂, hcode₃⟩
    simp [Nat.not_le.mpr hsrc, hfirst, hen, hcode₁, hcode₂, hcode₃] at hlast

/-! ## The JOURNAL and CHECK phases (R49, R53) -/

/-- A verified journal entry takes effect: its sections are filled, and its number and digest are the confirmed ones; after the last
entry the CHECK phase begins. -/
def State.journalApply (s : State) (j : LoadJob) (bs : List Byte) (tb : TipBody) : State :=
  let a := tb.foldl (fun s x => (s.fillTabs x.1 x.2).fillRegs x.1 x.2) s
  let b := if tipHas tb secLogc then a.onLge (fun e => { e with digest := (dirEnt bs (dirIndex bs secLogc.tag)).digest }) else a
  let c := ((b.wr BND_TIP_SEQ (imageVersion bs)).onBnd (fun x => {
    x with confirmed := (imageVersion bs, (signedDigest bs).take 8) })).onLoad (fun j => { j with entry := j.entry + 1 })
  if j.entry + 1 < (c.loadJournal j).length then c else c.wr BND_STATUS_PHASE 7

section Journal

variable {s t : State} {j : LoadJob} {bs : List Byte}

theorem State.bndJournal_idle (h : s.rd BND_STATUS_PHASE ≠ 6) : s.bndJournal = s := by
  unfold State.bndJournal
  split
  · rfl
  · rw [if_pos h]

theorem State.bndJournal_end (hload : s.bnd.load = some j) (hphase : s.rd BND_STATUS_PHASE = 6)
    (h : (s.loadJournal j)[j.entry]? = none) : s.bndJournal = s.wr BND_STATUS_PHASE 7 := by
  simp [State.bndJournal, hload, hphase, h]

theorem State.bndJournal_torn (hload : s.bnd.load = some j) (hphase : s.rd BND_STATUS_PHASE = 6)
    (h : (s.loadJournal j)[j.entry]? = some (bs, false)) :
    s.bndJournal = (s.flag BND_TROUBLE_JOURNAL_TRUNC).wr BND_STATUS_PHASE 7 := by
  simp [State.bndJournal, hload, hphase, h]

theorem State.bndJournal_refused {code : Nat} (hload : s.bnd.load = some j) (hphase : s.rd BND_STATUS_PHASE = 6)
    (h : (s.loadJournal j)[j.entry]? = some (bs, true)) (hv : s.verifyTip bs (signedDigest j.bytes) false false = (.inl code, t)) :
    s.bndJournal = (t.flag BND_TROUBLE_JOURNAL_TRUNC).wr BND_STATUS_PHASE 7 := by
  simp [State.bndJournal, hload, hphase, h, hv]

theorem State.bndJournal_applied {tb : TipBody} (hload : s.bnd.load = some j) (hphase : s.rd BND_STATUS_PHASE = 6)
    (h : (s.loadJournal j)[j.entry]? = some (bs, true)) (hv : s.verifyTip bs (signedDigest j.bytes) false false = (.inr tb, t)) :
    s.bndJournal = t.journalApply j bs tb := by
  simp only [State.bndJournal, hload, hphase, h, hv, ne_eq, not_true, if_false]
  rfl

theorem State.bndChecked_idle (h : s.rd BND_STATUS_PHASE ≠ 7) : s.bndChecked = s := by
  unfold State.bndChecked
  split
  · rfl
  · rw [if_pos h]

theorem State.bndChecked_good (hload : s.bnd.load = some j) (hphase : s.rd BND_STATUS_PHASE = 7) (h : s.loadBad = none) :
    s.bndChecked = s.bndReady j := by
  simp [State.bndChecked, hload, hphase, h]

theorem State.bndChecked_bad {c : Sec} (hload : s.bnd.load = some j) (hphase : s.rd BND_STATUS_PHASE = 7) (h : s.loadBad = some c) :
    s.bndChecked = s.bndFail 0x0B (dirIndex j.bytes c.tag) := by
  simp [State.bndChecked, hload, hphase, h]

end Journal

/-- Settles O30: each clause is one case of the three phases `State.bndSigned`, `State.bndJournal` and `State.bndChecked`. -/
theorem fullLoadsVerifyFillAndBecomeReady : Obligations.FullLoadsVerifyFillAndBecomeReady := by
  unfold Obligations.FullLoadsVerifyFillAndBecomeReady
  refine ⟨?signed, ?journal, ?zeroized, ?waits, ?noJournal, ?noCheck, ?journalEnd, ?torn, ?checked⟩
  case signed =>
    intro s j hs hload hphase hkey
    rw [exec_loadSignatureDone_of hs, State.bndSigned_eq hload hphase (by simp [State.keysReady, hkey]) (by simp [hkey])]
    rfl
  case journal =>
    intro s j bs hs hload hphase hentry
    rw [exec_loadJournalEntry_of hs]
    rcases hv : s.verifyTip bs (signedDigest j.bytes) false false with ⟨code | tb, t⟩
    · exact congrArg _ (State.bndJournal_refused hload hphase hentry hv)
    · exact congrArg _ (State.bndJournal_applied hload hphase hentry hv)
  case zeroized =>
    intro s j hs hload hphase hkey
    rw [exec_loadSignatureDone_of hs, State.bndSigned_zeroized hload hphase hkey]
  case waits =>
    intro s hs hwait
    rw [exec_loadSignatureDone_of hs, State.bndSigned_idle (hwait.imp_right fun hkey => by simp [State.keysReady, hkey])]
  case noJournal =>
    intro s hs hphase
    rw [exec_loadJournalEntry_of hs, State.bndJournal_idle hphase]
  case noCheck =>
    intro s hup hphase
    rw [exec_loadCheckDone_of hup, State.bndChecked_idle hphase]
  case journalEnd =>
    intro s j hs hload hphase hentry
    rw [exec_loadJournalEntry_of hs, State.bndJournal_end hload hphase hentry]
  case torn =>
    intro s j bs hs hload hphase hentry
    rw [exec_loadJournalEntry_of hs, State.bndJournal_torn hload hphase hentry]
  case checked =>
    intro s j hup hload hphase
    rw [exec_loadCheckDone_of hup]
    exact ⟨fun hgood => by rw [State.bndChecked_good hload hphase hgood], fun c hbad => by rw [State.bndChecked_bad hload hphase hbad]⟩

end Sys2Proof.Machine
end

section
/-! PROOFS. The tip-in engine and the store commands (R35-R37, R52, R54-R60, R383). -/

namespace Sys2Proof.Machine

open Sys2Proof Reg

/-! ## The rows of the tip-in engine and of the store (R36, R37, R55) -/

section Rows

variable {who : Agent} {s : State}

theorem exec_stage_of (h : s.Admits who 0x10050 true) : exec (.stage who) s = .next (s.mbCount who).tipStage :=
  congrArg Host.Outcome.next (State.allow_of h _ _)

theorem exec_arm_of (h : s.Admits who 0x10050 true) : exec (.arm who) s = .next (s.mbCount who).tipArm :=
  congrArg Host.Outcome.next (State.allow_of h _ _)

theorem exec_confirm_of (h : s.Admits who 0x10050 true) : exec (.confirm who) s = .next (s.mbCount who).tipConfirm :=
  congrArg Host.Outcome.next (State.allow_of h _ _)

theorem exec_revert_of (h : s.Admits who 0x10050 true) : exec (.revert who) s = .next (s.mbCount who).tipRevert :=
  congrArg Host.Outcome.next (State.allow_of h _ _)

theorem exec_discard_of (h : s.Admits who 0x10050 true) : exec (.discard who) s = .next (s.mbCount who).tipDiscard :=
  congrArg Host.Outcome.next (State.allow_of h _ _)

theorem exec_program_of (h : s.Admits who 0x10078 true) (slot : Bool) :
    exec (.program who slot) s = .next ((s.mbCount who).storeStart 1 (b2n slot)) :=
  congrArg Host.Outcome.next (State.allow_of h _ _)

theorem exec_eraseJournal_of (h : s.Admits who 0x10078 true) (slot : Bool) :
    exec (.eraseJournal who slot) s = .next ((s.mbCount who).storeStart 2 (b2n slot)) :=
  congrArg Host.Outcome.next (State.allow_of h _ _)

theorem exec_tipinVerified_of (h : s.Runs 16) : exec .tipinVerified s = .next s.tipVerified :=
  congrArg Host.Outcome.next (State.liveU_of_runs h _)

theorem exec_tipinJournalAppended_of (h : s.fabricUp = true) : exec .tipinJournalAppended s = .next s.journalAppended :=
  congrArg Host.Outcome.next (State.live_of_up h _)

theorem exec_tipinCommitCheck_of (h : s.fabricUp = true) : exec .tipinCommitCheck s = .next s.commitCheck :=
  congrArg Host.Outcome.next (State.live_of_up h _)

theorem exec_revertTimeout_of (h : s.fabricUp = true) : exec .revertTimeout s = .next s.revertTimeout :=
  congrArg Host.Outcome.next (State.live_of_up h _)

theorem exec_storeWriteDone_of (h : s.fabricUp = true) : exec .storeWriteDone s = .next s.storeWritten :=
  congrArg Host.Outcome.next (State.live_of_up h _)

theorem exec_journalEraseDone_of (h : s.fabricUp = true) : exec .journalEraseDone s = .next s.journalErased :=
  congrArg Host.Outcome.next (State.live_of_up h _)

end Rows

/-! ## Commands of the tip-in engine (R55, R59) -/

section TipIn

variable {s u : State} {t : TipJob}

theorem State.tipStage_idle (hst : s.tipSt = 0) (hload : s.on BND_STATUS_BUSY = false) (hstore : s.bnd.store = none) :
    s.tipStage = (s.onBnd (fun b => { b with tip := some {
      bytes := s.staged, mask := 0, digest := signedDigest s.staged, seq := imageVersion s.staged, keyOk := s.bndKeyOk s.staged } })).wr
      BND_TIP_STATUS_STATE 1 :=
  if_neg (by simp [hst, hload, hstore])

theorem State.tipStage_busy (h : s.tipSt ≠ 0 ∨ s.on BND_STATUS_BUSY = true ∨ s.bnd.store.isSome = true) : s.tipStage = s.tipBusy :=
  if_pos h

/-- The boundary for which a tip-in is armed: the one that BND_TIP_TARGET names, or the first that can be met (R59). -/
def State.armTarget (s : State) : Nat := if s.rd BND_TIP_TARGET = 0 then s.firstBoundary else s.rd BND_TIP_TARGET

theorem State.tipArm_staged (hst : s.tipSt = 2) :
    s.tipArm = if s.armTarget < s.cycle ∨ s.boundary s.armTarget < s.taiNs + 100000 then
        (s.wr BND_TIP_STATUS_FAIL_CODE 0x19).flag BND_TROUBLE_TIP_FAIL
      else (((s.onTip (fun t => { t with target := s.armTarget, checked := none })).wr BND_TIP_STATUS_DEFERRALS 0).wr
        BND_TIP_STATUS_STATE 3).folRefresh :=
  if_neg (not_not.mpr hst)

theorem State.tipArm_busy (h : s.tipSt ≠ 2) : s.tipArm = s.tipBusy := if_pos h

theorem State.tipConfirmed_eq (htip : s.bnd.tip = some t) :
    s.tipConfirmed = ((((s.wr BND_TIP_SEQ t.seq).onBnd (fun b => { b with confirmed := (t.seq, t.digest.take 8) })).releaseRetired).tipEvent
      3 t.seq t.commit).tipIdle := by
  simp only [State.tipConfirmed, htip]

/-- CONFIRM without a journal to append to takes effect at once. -/
theorem State.tipConfirm_unlogged (htip : s.bnd.tip = some t) (hst : s.tipSt = 4) (hstore : s.bnd.store = none)
    (h : s.activeSlot = none ∨ s.on BND_EP_POLICY_JOURNAL_EN = false) : s.tipConfirm = s.tipConfirmed := by
  simp only [State.tipConfirm, htip, hst, hstore, ne_eq, not_true, Option.isSome_none, Bool.false_eq_true, or_self, if_false]
  split
  · rfl
  · next hslot => exact if_pos (h.resolve_left (by simp [hslot]))

/-- CONFIRM with a journal begins the append to that of the active slot. -/
theorem State.tipConfirm_logged {k : Nat} (htip : s.bnd.tip = some t) (hst : s.tipSt = 4) (hstore : s.bnd.store = none)
    (hslot : s.activeSlot = some k) (hen : s.on BND_EP_POLICY_JOURNAL_EN = true) :
    s.tipConfirm = (s.setBndSlot k { s.bndSlot k with journal := (s.bndSlot k).whole ++ [(t.bytes, false)] }).onBnd
      (fun b => { b with store := some { op := 3, slot := k, bytes := t.bytes, seq := t.seq } }) := by
  simp [State.tipConfirm, htip, hst, hstore, hslot, hen]

theorem State.tipConfirm_busy (h : s.tipSt ≠ 4 ∨ s.bnd.store.isSome = true) : s.tipConfirm = s.tipBusy := by
  unfold State.tipConfirm
  split
  · rfl
  · rw [if_pos h]

/-- A revert is scheduled; on the active module of a twin pair the standby is told (R383). -/
def State.revertAndTell (s : State) : State :=
  if s.tipReverting.role = 3 then s.tipReverting.onTwn (fun t => { t with order := (3, s.tipReverting.tipTarget) }) else s.tipReverting

theorem State.revertAndTell_active (h : s.tipReverting.role = 3) :
    s.revertAndTell = s.tipReverting.onTwn (fun t => { t with order := (3, s.tipReverting.tipTarget) }) := if_pos h

theorem State.revertAndTell_solo (h : s.tipReverting.role = 1) : s.revertAndTell = s.tipReverting := if_neg (by simp [h])

theorem State.tipRevert_committed (hst : s.tipSt = 4) (hstore : s.bnd.store = none) (hrole : s.role = 1 ∨ s.role = 3) :
    s.tipRevert = s.revertAndTell :=
  if_neg (by rcases hrole with hrole | hrole <;> simp [hst, hstore, hrole])

theorem State.tipRevert_busy (h : s.tipSt ≠ 4 ∨ s.bnd.store.isSome = true ∨ s.role = 5 ∨ s.role = 6) : s.tipRevert = s.tipBusy := if_pos h

theorem State.tipDiscard_open (h : s.tipSt = 1 ∨ s.tipSt = 2 ∨ s.tipSt = 3) : s.tipDiscard = s.tipFail 0x0F := if_pos h

theorem State.tipDiscard_busy (h : ¬(s.tipSt = 1 ∨ s.tipSt = 2 ∨ s.tipSt = 3)) : s.tipDiscard = s.tipBusy := if_neg h

/-! ## The ends of a verification and of a journal append (R36, R56) -/

theorem State.tipVerified_idle (h : s.tipSt ≠ 1 ∨ s.lge.flips ≠ [] ∨ s.keysReady = false) : s.tipVerified = s := by
  unfold State.tipVerified
  split
  · rfl
  · rw [if_pos h]

theorem State.tipVerified_refused {code : Nat} (htip : s.bnd.tip = some t) (hst : s.tipSt = 1) (hflips : s.lge.flips = [])
    (hready : s.keysReady = true) (hv : s.verifyTip t.bytes s.bindingDigest t.keyOk true = (.inl code, u)) :
    s.tipVerified = u.tipFail code := by
  simp [State.tipVerified, htip, hst, hflips, hready, hv]

theorem State.tipVerified_staged {tb : TipBody} (htip : s.bnd.tip = some t) (hst : s.tipSt = 1) (hflips : s.lge.flips = [])
    (hready : s.keysReady = true) (hv : s.verifyTip t.bytes s.bindingDigest t.keyOk true = (.inr tb, u)) :
    s.tipVerified = (((u.fillShadows t.bytes tb).onTip (fun t => { t with mask := tipMask tb })).wr BND_TIP_STATUS_SECTIONS
      (tipMask tb)).wr BND_TIP_STATUS_STATE 2 := by
  simp [State.tipVerified, htip, hst, hflips, hready, hv]

theorem State.journalAppended_idle (h : ∀ j, s.bnd.store = some j → j.op ≠ 3) : s.journalAppended = s := by
  unfold State.journalAppended
  split
  · rfl
  · next j hj => rw [if_pos (h j hj)]

theorem State.journalAppended_eq {j : StoreJob} (hj : s.bnd.store = some j) (hop : j.op = 3) :
    s.journalAppended = ((s.setBndSlot j.slot { s.bndSlot j.slot with
      journal := (s.bndSlot j.slot).whole ++ [(j.bytes, true)] }).onBnd (fun b => { b with store := none })).tipConfirmed := by
  simp [State.journalAppended, hj, hop]

end TipIn

/-- Settles O32: each command and each row is taken apart into the states in which it acts and those in which it is BUSY or idle. -/
theorem tipInCommandsFollowTheirStates : Obligations.TipInCommandsFollowTheirStates := by
  unfold Obligations.TipInCommandsFollowTheirStates
  refine ⟨?commands, ?verified, ?appended, ?notVerifying, ?notAppending⟩
  case commands =>
    intro who s h
    simp only [exec_stage_of h, exec_arm_of h, exec_confirm_of h, exec_revert_of h, exec_discard_of h, Host.Outcome.next.injEq]
    generalize s.mbCount who = u
    refine ⟨State.tipStage_idle, State.tipStage_busy, fun hst => ⟨fun hcycle hlead => ?_, fun hlate => ?_⟩, State.tipArm_busy,
      fun t htip hst hstore => ⟨fun hunlogged => ?_, fun k => State.tipConfirm_logged htip hst hstore⟩, State.tipConfirm_busy,
      fun hst hstore hrole hsolo => ?_, fun hst hstore hrole hactive => ?_, State.tipRevert_busy, State.tipDiscard_open,
      State.tipDiscard_busy⟩
    · exact (State.tipArm_staged hst).trans (if_neg (not_or.mpr ⟨Nat.not_lt.mpr hcycle, Nat.not_lt.mpr hlead⟩))
    · exact (State.tipArm_staged hst).trans (if_pos hlate)
    · rw [State.tipConfirm_unlogged htip hst hstore hunlogged, State.tipConfirmed_eq htip]
    · exact (State.tipRevert_committed hst hstore (.inl hrole)).trans (State.revertAndTell_solo hsolo)
    · exact (State.tipRevert_committed hst hstore (.inr hrole)).trans (State.revertAndTell_active hactive)
  case verified =>
    intro s t hs htip hst hflips hready
    rw [exec_tipinVerified_of hs]
    rcases hv : s.verifyTip t.bytes s.bindingDigest t.keyOk true with ⟨code | tb, u⟩
    · exact congrArg _ (State.tipVerified_refused htip hst hflips hready hv)
    · exact congrArg _ (State.tipVerified_staged htip hst hflips hready hv)
  case appended =>
    intro s j hup hj hop
    rw [exec_tipinJournalAppended_of hup, State.journalAppended_eq hj hop]
  case notVerifying =>
    intro s hs h
    rw [exec_tipinVerified_of hs, State.tipVerified_idle h]
  case notAppending =>
    intro s hup h
    rw [exec_tipinJournalAppended_of hup, State.journalAppended_idle h]

/-! ## The commit check and the revert timeout (R55, R59, R383) -/

section CommitCheck

variable {s : State} {t : TipJob}

/-- The check of an armed or reverting tip-in is due 20 µs before its target boundary. -/
theorem State.commitCheck_due (htip : s.bnd.tip = some t) (hst : s.tipSt = 3 ∨ s.tipSt = 5) (hfollows : s.tipFollows = false)
    (hchecked : t.checked = none) (hdue : s.boundary t.target ≤ s.taiNs + 20000) : s.commitCheck = s.tipCheck t.target := by
  simp only [State.commitCheck, htip]
  exact if_pos ⟨hst, hfollows, hchecked, hdue⟩

theorem State.commitCheck_early (htip : s.bnd.tip = some t) (h : s.taiNs + 20000 < s.boundary t.target) : s.commitCheck = s := by
  simp only [State.commitCheck, htip]
  exact if_neg fun hdue => Nat.not_le.mpr h hdue.2.2.2

/-- The conditions that the module checks by itself: every cycle up to `n` is resolved, no substitution runs and no logic flip waits. -/
def State.ownReady (s : State) (n : Nat) : Bool := s.resolvedTo n && s.fol.subs.isEmpty && decide (s.lge.flips = [])

/-- The conditions of the check for boundary `n`; a revert needs no agreement of the twin. -/
def State.checkPasses (s : State) (n : Nat) : Bool := s.ownReady n && (decide (s.tipSt = 5) || s.twinTipOk)

/-- The order that the active module of a twin pair gives its standby. -/
def State.tellTwin (s : State) (order n : Nat) : State :=
  if s.role = 3 then s.onTwn (fun x => { x with order := (order, n) }) else s

theorem State.tipCheck_eq (s : State) (n : Nat) :
    s.tipCheck n =
      let told := s.tellTwin (if s.checkPasses n then (if s.tipSt = 5 then 3 else 1) else 2) n
      if s.checkPasses n then told.onTip (fun x => { x with checked := some (n, true) })
      else told.tipDefer n (if s.ownReady n then 0x18 else 0x15) := rfl

theorem State.tipCheck_passed {n : Nat} (h : s.checkPasses n = true) :
    s.tipCheck n = (s.tellTwin (if s.tipSt = 5 then 3 else 1) n).onTip (fun x => { x with checked := some (n, true) }) := by
  simp only [State.tipCheck_eq, h, if_true]

theorem State.tipCheck_deferred {n : Nat} (h : s.checkPasses n = false) :
    s.tipCheck n = (s.tellTwin 2 n).tipDefer n (if s.ownReady n then 0x18 else 0x15) := by
  simp only [State.tipCheck_eq, h, Bool.false_eq_true, if_false]

/-- A committed tip-in that is not confirmed has been in effect for REVERT_TIMEOUT cycles (R55). -/
def State.revertDue (s : State) : Prop :=
  s.tipSt = 4 ∧ s.rd BND_TIP_CFG_REVERT_TIMEOUT ≠ 0 ∧ s.rd BND_TIP_COMMIT + s.rd BND_TIP_CFG_REVERT_TIMEOUT + 1 ≤ s.cycle

theorem State.revertTimeout_due (hdue : s.revertDue) (hstore : s.bnd.store = none) (hrole : s.role = 1 ∨ s.role = 3) :
    s.revertTimeout = s.revertAndTell :=
  if_pos ⟨hdue.1, hdue.2.1, hdue.2.2, hstore, by omega, by omega⟩

theorem State.revertTimeout_early (h : ¬s.revertDue) : s.revertTimeout = s :=
  if_neg fun ⟨hst, hen, hcycle, _⟩ => h ⟨hst, hen, hcycle⟩

end CommitCheck

/-- Settles O33: the check is `State.tipCheck` when it is due, and the timeout schedules the same revert as the command REVERT. -/
theorem tipInCommitCheckAndTimeout : Obligations.TipInCommitCheckAndTimeout := by
  unfold Obligations.TipInCommitCheckAndTimeout
  refine ⟨?check, fun s n code => rfl, ?early, ?solo, ?active, ?notDue⟩
  case check =>
    intro s t hup htip hst hfollows hchecked hdue own ok told
    rw [exec_tipinCommitCheck_of hup, State.commitCheck_due htip hst hfollows hchecked hdue]
    exact ⟨fun hok => congrArg _ (State.tipCheck_passed hok), fun hok => congrArg _ (State.tipCheck_deferred hok)⟩
  case early =>
    intro s t hup htip h
    rw [exec_tipinCommitCheck_of hup, State.commitCheck_early htip h]
  case solo =>
    intro s hup hst hen hcycle hstore hrole v hsolo
    rw [exec_revertTimeout_of hup, State.revertTimeout_due ⟨hst, hen, hcycle⟩ hstore (.inl hrole)]
    exact congrArg _ (State.revertAndTell_solo hsolo)
  case active =>
    intro s hup hst hen hcycle hstore hrole hactive
    rw [exec_revertTimeout_of hup, State.revertTimeout_due ⟨hst, hen, hcycle⟩ hstore (.inr hrole), State.revertAndTell_active hactive]
  case notDue =>
    intro s hup h
    rw [exec_revertTimeout_of hup, State.revertTimeout_early]
    rintro ⟨hst, hen, hcycle⟩
    exact h.elim (absurd hst) fun h => h.elim hen (Nat.not_lt.mpr hcycle)

/-! ## Store operations (R37, R54) -/

section StoreOps

variable {s : State} {op slot : Nat} {j : StoreJob}

theorem State.storeStart_begins (hstore : s.bnd.store = none) (hload : (s.wr BND_STORE_CTRL_TARGET_SLOT slot).on BND_STATUS_BUSY = false)
    (hslot : (s.wr BND_STORE_CTRL_TARGET_SLOT slot).activeSlot ≠ some slot) :
    s.storeStart op slot = ((s.wr BND_STORE_CTRL_TARGET_SLOT slot).onBnd (fun b => { b with store := some {
      op := op, slot := slot, bytes := if op = 1 then (s.wr BND_STORE_CTRL_TARGET_SLOT slot).staged else [],
      keyOk := decide (op = 1) && (s.wr BND_STORE_CTRL_TARGET_SLOT slot).bndKeyOk (s.wr BND_STORE_CTRL_TARGET_SLOT slot).staged } })).wr
      BND_STORE_STATUS_BUSY 1 :=
  (if_neg (by simp [hstore, hload])).trans (if_neg hslot)

theorem State.storeStart_active (hstore : s.bnd.store = none) (hload : (s.wr BND_STORE_CTRL_TARGET_SLOT slot).on BND_STATUS_BUSY = false)
    (hslot : (s.wr BND_STORE_CTRL_TARGET_SLOT slot).activeSlot = some slot) :
    s.storeStart op slot = (s.wr BND_STORE_CTRL_TARGET_SLOT slot).storeFail 0x1A :=
  (if_neg (by simp [hstore, hload])).trans (if_pos hslot)

theorem State.storeStart_busy (h : s.bnd.store.isSome = true ∨ (s.wr BND_STORE_CTRL_TARGET_SLOT slot).on BND_STATUS_BUSY = true) :
    s.storeStart op slot = (s.wr BND_STORE_CTRL_TARGET_SLOT slot).storeFail 0x14 :=
  if_pos (by simpa using h)

theorem State.storeWritten_idle (h : ∀ j, s.bnd.store = some j → j.op ≠ 1 ∨ s.keysReady = false) : s.storeWritten = s := by
  unfold State.storeWritten
  split
  · rfl
  · next j hj => rw [if_pos (h j hj)]

theorem State.storeWritten_badHeader {code idx : Nat} (hj : s.bnd.store = some j) (hop : j.op = 1) (hready : s.keysReady = true)
    (h : headerBad j.bytes 1 = some (code, idx)) : s.storeWritten = s.storeEnd.storeFail code := by
  simp [State.storeWritten, hj, hop, hready, h]

/-- With a good header the signature, the floor and the slot decide in turn. -/
theorem State.storeWritten_goodHeader (hj : s.bnd.store = some j) (hop : j.op = 1) (hready : s.keysReady = true)
    (h : headerBad j.bytes 1 = none) :
    s.storeWritten =
      (let r := s.bndSignature j.bytes j.keyOk
      if r.1 ≠ 0 then r.2.storeEnd.storeFail r.1
      else if imageVersion j.bytes < r.2.bnd.floor then r.2.storeEnd.storeFail 8
      else if r.2.slotTaken j.slot then r.2.storeEnd.storeFail 0x1A
      else ((r.2.setBndSlot j.slot { image := j.bytes, colophon := colophonOf j.bytes, journal := [] }).storeEnd).flag
        BND_STORE_STATUS_DONE) := by
  simp only [State.storeWritten, hj, hop, hready, h, ne_eq, not_true, Bool.true_eq_false, or_self, if_false]
  obtain ⟨code, t⟩ := s.bndSignature j.bytes j.keyOk
  cases code with
  | zero => rfl
  | succ code => rfl

theorem State.journalErased_idle (h : ∀ j, s.bnd.store = some j → j.op ≠ 2) : s.journalErased = s := by
  unfold State.journalErased
  split
  · rfl
  · next j hj => rw [if_pos (h j hj)]

theorem State.journalErased_eq (hj : s.bnd.store = some j) (hop : j.op = 2) :
    s.journalErased = if s.slotTaken j.slot then s.storeEnd.storeFail 0x1A
      else ((s.setBndSlot j.slot { s.bndSlot j.slot with journal := [] }).storeEnd).flag BND_STORE_STATUS_DONE := by
  simp [State.journalErased, hj, hop]

end StoreOps

/-- Settles O34: both commands are `State.storeStart`, and each row ends the operation that it belongs to. -/
theorem storeCommandsWriteSlots : Obligations.StoreCommandsWriteSlots := by
  unfold Obligations.StoreCommandsWriteSlots
  refine ⟨?commands, ?written, ?badHeader, ?erased, ?idle⟩
  case commands =>
    intro who slot s h
    simp only [exec_program_of h, exec_eraseJournal_of h, Host.Outcome.next.injEq, State.wr_bnd]
    generalize s.mbCount who = u
    exact ⟨fun hstore hload hslot => ⟨State.storeStart_begins hstore hload hslot, State.storeStart_begins hstore hload hslot⟩,
      fun hstore hload hslot => ⟨State.storeStart_active hstore hload hslot, State.storeStart_active hstore hload hslot⟩,
      fun hbusy => ⟨State.storeStart_busy hbusy, State.storeStart_busy hbusy⟩⟩
  case written =>
    intro s j hup hj hop hready hheader
    rw [exec_storeWriteDone_of hup, State.storeWritten_goodHeader hj hop hready hheader]
  case badHeader =>
    intro s j code idx hup hj hop hready hheader
    rw [exec_storeWriteDone_of hup, State.storeWritten_badHeader hj hop hready hheader]
  case erased =>
    intro s j hup hj hop
    rw [exec_journalEraseDone_of hup, State.journalErased_eq hj hop]
    exact ⟨fun hfree => by rw [if_neg (by simp [hfree])], fun htaken => by rw [if_pos htaken]⟩
  case idle =>
    intro s hup
    exact ⟨fun h => by rw [exec_storeWriteDone_of hup, State.storeWritten_idle h],
      fun h => by rw [exec_journalEraseDone_of hup, State.journalErased_idle h]⟩

end Sys2Proof.Machine
end

section
/-! PROOFS. The table windows and the clears of counters and peaks (R45, R485). -/

namespace Sys2Proof.Machine

open Sys2Proof Reg

/-- A READ of the table window of a block, in the agent's turn. -/
theorem exec_tableRead_of {who : Agent} {b : Block} {s : State} {w : Window}
    (hw : windows.find? (fun w => decide (Block.ofOffset w.ctrl = some b)) = some w) (h : s.Admits who w.ctrl false) (id i : BitVec 16) :
    exec (.tableRead who b id i) s = .next ((((s.mbCount who).wr w.id id.toNat).wr w.index i.toNat).windowRead w) := by
  change Host.Outcome.next (s.tableRead _ who b id.toNat i.toNat) = _
  simp only [State.tableRead, hw, State.allow_of h]

theorem exec_clearCounters_of {who : Agent} {b : Block} {i : Fin 20} {s : State} (h : s.Admits who (ctrlOffset b i.val) false) :
    exec (.clearCounters who b i) s = .next ((s.mbCount who).clearCounters b i.val) :=
  congrArg Host.Outcome.next (State.allow_of h _ _)

theorem exec_clearPeaks_of {who : Agent} {b : Block} {s : State} (h : s.Admits who (ctrlOffset b 0) false) :
    exec (.clearPeaks who b) s = .next ((s.mbCount who).clearPeaks b) :=
  congrArg Host.Outcome.next (State.allow_of h _ _)

/-- A window whose identifier and index name an entry of its block latches that entry. -/
theorem State.windowRead_latches {s : State} {w : Window} (hblock : s.rd w.id / 256 = w.block) (hindex : s.rd w.index < tableSize (s.rd w.id)) :
    s.windowRead w = ((List.range w.words).foldl
      (fun x k => x.wrK w.data 0 k (bits (s.tableEntry (s.rd w.id) (s.rd w.index)) (32 * k) 32)) s).flag w.done :=
  if_pos ⟨hblock, hindex⟩

theorem State.clearCounters_eq (s : State) {b : Block} {lo hi : Nat} (h : counterRange b = some (lo, hi)) (i : Nat) :
    s.clearCounters b i =
      s.clrAllI (b.fields.filter (fun f => decide (lo ≤ f.off ∧ f.off ≤ hi))) (if b = .mac then i else 0) := by
  simp only [State.clearCounters, h]

/-- The peaks that CLEAR_PEAKS of a block clears; a block without peaks has none. -/
def blockPeaks : Block → List Fld
  | .svi => [SVI_BACKLOG_PEAK_BACKLOG, SVI_LAT_PEAK_PEAK_LAT]
  | .lge => [LGE_SCAN_TIME_PEAK, LGE_SCAN_DELTA_MAX_DELTA]
  | .swc => [SWC_BUF_PEAK_PEAK_USED]
  | _ => []

theorem State.clearPeaks_eq (s : State) (b : Block) : s.clearPeaks b = s.clrAll (blockPeaks b) := by
  cases b <;> rfl

/-- Settles O8: the window latches the entry that its operands name, and each clear writes the reset value to the fields of its list. -/
theorem tableWindowsAndClears : Obligations.TableWindowsAndClears := by
  unfold Obligations.TableWindowsAndClears
  refine ⟨?window, ?counters, ?peaks⟩
  case window =>
    intro who b id i s w hw h u hblock hindex
    rw [exec_tableRead_of hw h]
    exact congrArg _ (State.windowRead_latches hblock hindex)
  case counters =>
    intro who b i s lo hi h hrange
    rw [exec_clearCounters_of h, State.clearCounters_eq _ hrange]
    rfl
  case peaks =>
    intro who b s h
    rw [exec_clearPeaks_of h, State.clearPeaks_eq]
    cases b <;> rfl

end Sys2Proof.Machine
end

section
/-! PROOFS. A sampled-value copy at the ingest tap: its stages up to a candidate, and the tests of the candidate (R64-R76, R80-R82,
R88, log entry 45). -/

namespace Sys2Proof.Machine

open Sys2Proof Reg

/-! ## The stages of a copy (R64-R72, R80-R82) -/

theorem exec_svCopyReceived_of {s : State} (h : s.Runs 15) (p : Fin 20) (bs : List Byte) (fcs : Bool) (ext : Option SvExt) :
    exec (.svCopyReceived p bs fcs ext) s = .next (s.svCopy p.val bs fcs ext).afterIngest :=
  congrArg Host.Outcome.next (State.liveU_of_runs h _)

/-- The last stage before candidacy: the security extension of a copy that has parsed, against what its stream needs (R70, R81, R82). -/
def State.svSecured (s : State) (i : Nat) (bs : List Byte) (sim : Bool) (sets : List SvSet) (fcs : Bool) (stamp : Nat) :
    Option SvExt → State
  | none =>
    if Ent.CTX_REQUIRE_AUTH.on (s.ctx i) then s.svReject 0x0D (some i) else s.svCandidate i bs sim sets none 0 ⟨fcs, true, stamp⟩
  | some x =>
    match s.svKey (s.ctx i) x with
    | none => s.svReject 0x0E (some i)
    | some k =>
      let v := s.keyExpire k.1
      if v.usable k.1 = false then ((v.bump KEY_USE_REFUSED).flag KEY_TROUBLE_USE_REFUSED).svReject 0x13 (some i)
      else v.svCandidate i bs sim sets (some k) ((max 1 x.covered.length + 319) / 320)
        ⟨fcs, decide (x.tag = svTag (v.slot k.1).material x), stamp⟩

/-- The stages of a copy that matches stream `i`: the stream is enabled, the simulation bit agrees, and the savPdu parses (R66, R71). -/
def State.svMatched (s : State) (i : Nat) (bs : List Byte) (sim : Bool) (apdu : List Byte) (fcs : Bool) (stamp : Nat)
    (ext : Option SvExt) : State :=
  if s.ctxOn i = false then s.svReject 0x12 (some i)
  else if sim ≠ (Ent.CTX_SIM_ELIGIBLE.on (s.ctx i) && s.svi.simMode) then s.svReject 0x0C (some i)
  else match s.svParse (s.ctx i) apdu with
    | .inl e => s.svReject e (some i)
    | .inr sets => s.svSecured i bs sim sets fcs stamp ext

/-- The stages of a copy that has been counted: its header, of length `len`, the ingest, and the stream that it matches (R64-R67). -/
def State.svCounted (s : State) (p : Nat) (bs : List Byte) (fcs : Bool) (ext : Option SvExt) (o tags : Nat) : State :=
  let len := beAt bs (o + 2) 2
  let apdu := slice bs (o + 8) (len - 8)
  if tags = 2 ∨ len < 8 ∨ bs.length < o + len then s.svReject 0x02 none
  else if s.on SVI_CTRL_ENABLE = false then s.svReject 0x12 none
  else match s.svStream p bs o apdu with
    | none => s.svReject 0x01 none
    | some i => s.svMatched i bs (bitAt (beAt bs (o + 4) 2) 15) apdu fcs (s.taiNs - s.rdI MAC_P_TS_LAT_RX_LAT p / 10) ext

/-- A copy at a process-bus port is counted, and then goes through the stages. -/
theorem State.svCopy_eq {s : State} {p : Nat} {bs : List Byte} {o tags : Nat} (hport : p < 12) (hclk : s.clk 15 = true)
    (hoffset : svOffset bs = some (o, tags)) (fcs : Bool) (ext : Option SvExt) :
    s.svCopy p bs fcs ext = (s.bump SVI_RX_FRAMES).svCounted p bs fcs ext o tags := by
  rw [State.svCopy, hoffset]
  exact if_neg (by simp [hclk, hport])

section Stages

variable {s : State} {p i o tags stamp : Nat} {bs apdu : List Byte} {sim fcs : Bool} {sets : List SvSet} {ext : Option SvExt}

/-- The header of a copy is whole: one tag at most, and a length that holds the header and lies within the frame (R64). -/
def SvHeaderWhole (bs : List Byte) (o tags : Nat) : Prop := tags ≠ 2 ∧ 8 ≤ beAt bs (o + 2) 2 ∧ o + beAt bs (o + 2) 2 ≤ bs.length

/-- Without a Binding, or without an entry that matches, a copy has no stream (R67, R72). -/
theorem State.svStream_none (h : s.loaded = false ∨ s.svMatch p bs o apdu = none) : s.svStream p bs o apdu = none := by
  rw [State.svStream]
  obtain hloaded | hmatch := h
  · exact if_neg (by simp [hloaded])
  · rw [hmatch, ite_self]

theorem State.svStream_match (hloaded : s.loaded = true) (hmatch : s.svMatch p bs o apdu = some i) :
    s.svStream p bs o apdu = some i :=
  (if_pos hloaded).trans hmatch

theorem State.svCounted_broken (h : tags = 2 ∨ beAt bs (o + 2) 2 < 8 ∨ bs.length < o + beAt bs (o + 2) 2) :
    s.svCounted p bs fcs ext o tags = s.svReject 0x02 none :=
  if_pos h

theorem State.svCounted_disabled (h : SvHeaderWhole bs o tags) (hen : s.on SVI_CTRL_ENABLE = false) :
    s.svCounted p bs fcs ext o tags = s.svReject 0x12 none :=
  (if_neg (by unfold SvHeaderWhole at h; omega)).trans (if_pos hen)

/-- A copy with a whole header on an enabled ingest goes to the stream that it matches. -/
theorem State.svCounted_enabled (h : SvHeaderWhole bs o tags) (hen : s.on SVI_CTRL_ENABLE = true) {m : Option Nat}
    (hm : s.svStream p bs o (slice bs (o + 8) (beAt bs (o + 2) 2 - 8)) = m) :
    s.svCounted p bs fcs ext o tags = m.elim (s.svReject 0x01 none) (fun i =>
      s.svMatched i bs (bitAt (beAt bs (o + 4) 2) 15) (slice bs (o + 8) (beAt bs (o + 2) 2 - 8)) fcs
        (s.taiNs - s.rdI MAC_P_TS_LAT_RX_LAT p / 10) ext) := by
  subst hm
  refine (if_neg (by unfold SvHeaderWhole at h; omega)).trans ((if_neg (by simp [hen])).trans ?_)
  cases s.svStream p bs o (slice bs (o + 8) (beAt bs (o + 2) 2 - 8)) <;> rfl

theorem State.svMatched_disabled (h : s.ctxOn i = false) : s.svMatched i bs sim apdu fcs stamp ext = s.svReject 0x12 (some i) :=
  if_pos h

theorem State.svMatched_simulation (h : s.ctxOn i = true) (hsim : sim ≠ (Ent.CTX_SIM_ELIGIBLE.on (s.ctx i) && s.svi.simMode)) :
    s.svMatched i bs sim apdu fcs stamp ext = s.svReject 0x0C (some i) :=
  (if_neg (by simp [h])).trans (if_pos hsim)

theorem State.svMatched_unparsed (h : s.ctxOn i = true) (hsim : sim = (Ent.CTX_SIM_ELIGIBLE.on (s.ctx i) && s.svi.simMode)) {e : Nat}
    (hparse : s.svParse (s.ctx i) apdu = .inl e) : s.svMatched i bs sim apdu fcs stamp ext = s.svReject e (some i) := by
  simp only [State.svMatched, h, hparse, ← hsim, Bool.true_eq_false, ne_eq, not_true, if_false]

theorem State.svMatched_parsed (h : s.ctxOn i = true) (hsim : sim = (Ent.CTX_SIM_ELIGIBLE.on (s.ctx i) && s.svi.simMode))
    (hparse : s.svParse (s.ctx i) apdu = .inr sets) :
    s.svMatched i bs sim apdu fcs stamp ext = s.svSecured i bs sim sets fcs stamp ext := by
  simp only [State.svMatched, h, hparse, ← hsim, Bool.true_eq_false, ne_eq, not_true, if_false]

variable {x : SvExt} {k : Nat × Bool}

theorem State.svSecured_missing (h : Ent.CTX_REQUIRE_AUTH.on (s.ctx i) = true) :
    s.svSecured i bs sim sets fcs stamp none = s.svReject 0x0D (some i) :=
  if_pos h

theorem State.svSecured_plain (h : Ent.CTX_REQUIRE_AUTH.on (s.ctx i) = false) :
    s.svSecured i bs sim sets fcs stamp none = s.svCandidate i bs sim sets none 0 ⟨fcs, true, stamp⟩ :=
  if_neg (by simp [h])

theorem State.svSecured_unfit (h : s.svKey (s.ctx i) x = none) :
    s.svSecured i bs sim sets fcs stamp (some x) = s.svReject 0x0E (some i) := by
  rw [State.svSecured, h]

/-- A key that fits is used if it is still usable once its limits have been looked at (R81, R82). -/
theorem State.svSecured_fit (h : s.svKey (s.ctx i) x = some k) :
    s.svSecured i bs sim sets fcs stamp (some x) =
      if (s.keyExpire k.1).usable k.1 = false then
        (((s.keyExpire k.1).bump KEY_USE_REFUSED).flag KEY_TROUBLE_USE_REFUSED).svReject 0x13 (some i)
      else (s.keyExpire k.1).svCandidate i bs sim sets (some k) ((max 1 x.covered.length + 319) / 320)
        ⟨fcs, decide (x.tag = svTag ((s.keyExpire k.1).slot k.1).material x), stamp⟩ := by
  rw [State.svSecured, h]

end Stages

/-! ## The tests of a candidate (R73, R74, R76, R88) -/

/-- The sets of a candidate with their position numbers, by the copy's stamp (R86). -/
def State.svPositions (s : State) (i : Nat) (sets : List SvSet) (k : SvCheck) : List (Nat × SvSet) :=
  sets.map (fun x => (posOf (Ent.CTX_RATE.of (s.ctx i)) (svSecond (Ent.CTX_RATE.of (s.ctx i)) k.stamp x.smpCnt) x.smpCnt, x))

/-- A set lies further ahead of the copy's stamp than the stream tolerates (R83). -/
def State.svEarly (s : State) (i : Nat) (sets : List SvSet) (k : SvCheck) : Bool :=
  let tol := if Ent.CTX_EARLY_TOL.of (s.ctx i) = 0 then 20 else Ent.CTX_EARLY_TOL.of (s.ctx i)
  (s.svPositions i sets k).any (fun p => decide ((k.stamp + tol * 1000) * Ent.CTX_RATE.of (s.ctx i) < p.1 * 1000000000))

/-- A redundant stream has taken a copy with the same sequence number within the last 20 ms (R73). -/
def State.svRepeats (s : State) (i : Nat) (bs : List Byte) : Bool :=
  match (svSeq bs).map (fun q => q.1) with
  | some q => decide (Ent.CTX_REDUNDANCY.of (s.ctx i) = 1 ∨ Ent.CTX_REDUNDANCY.of (s.ctx i) = 2) &&
      (s.stream i).disc.any (fun d => d.1 == q && decide (s.now < d.2 + 20000000))
  | none => false

/-- A set belongs to a cycle that has left the window, that is before ingest began, or that is sealed (R88). -/
def State.svLate (s : State) (i : Nat) (sets : List SvSet) (k : SvCheck) : Bool :=
  (s.svPositions i sets k).any (fun p =>
    let m := p.1 / Ent.CTX_SETS_PER_CYCLE.of (s.ctx i)
    decide (m + 63 < s.horizon) || (match s.svi.c0 with | some c => decide (m < c) | none => true) || s.svSealed i m)

/-- The slot of a set is taken (R74). -/
def State.svTaken (s : State) (i : Nat) (sets : List SvSet) (k : SvCheck) : Bool :=
  (s.svPositions i sets k).any (fun p => (s.svAt i p.1).isSome)

/-- The sequence number of a copy that is placed enters the discard table of its stream, if the copy has one (R73). -/
def State.svEnter (s : State) (i : Nat) (bs : List Byte) : State :=
  match (svSeq bs).map (fun q => q.1) with
  | some q => s.discEnter i q
  | none => s

/-- The tests of a candidate, in their order (log entry 45). -/
theorem State.svCandidate_eq (s : State) (i : Nat) (bs : List Byte) (sim : Bool) (sets : List SvSet) (key : Option (Nat × Bool)) (fe : Nat)
    (k : SvCheck) :
    s.svCandidate i bs sim sets key fe k =
      if s.svEarly i sets k then s.svReject 0x0F (some i)
      else if s.svRepeats i bs then (s.bump SVI_DUP_PRP).statBump i Ent.STST_DUPLICATES
      else if s.svLate i sets k then s.svReject 0x10 (some i)
      else if s.svTaken i sets k then (s.bump SVI_DUP_SLOT).statBump i Ent.STST_DUPLICATES
      else if 1024 < s.svBacklog + (if k.fcsOk then fe else 0) then s.svReject 0x11 (some i)
      else (s.svEnter i bs).svPlace i (s.svPositions i sets k) bs sim key fe k := rfl

section Candidate

variable {s : State} {i : Nat} {sets : List SvSet} {k : SvCheck} {bs : List Byte}

theorem State.svEarly_iff : s.svEarly i sets k = true ↔
    ∃ p ∈ s.svPositions i sets k,
      (k.stamp + (if Ent.CTX_EARLY_TOL.of (s.ctx i) = 0 then 20 else Ent.CTX_EARLY_TOL.of (s.ctx i)) * 1000) * Ent.CTX_RATE.of (s.ctx i) <
        p.1 * 1000000000 := by
  simp only [State.svEarly, List.any_eq_true, decide_eq_true_eq]

theorem State.svRepeats_iff : s.svRepeats i bs = true ↔
    (Ent.CTX_REDUNDANCY.of (s.ctx i) = 1 ∨ Ent.CTX_REDUNDANCY.of (s.ctx i) = 2) ∧
      ∃ q b, svSeq bs = some (q, b) ∧ ∃ d ∈ (s.stream i).disc, d.1 = q ∧ s.now < d.2 + 20000000 := by
  unfold State.svRepeats
  rcases svSeq bs with _ | ⟨q, b⟩ <;> simp

theorem State.svLate_iff {c : Nat} (hc : s.svi.c0 = some c) : s.svLate i sets k = true ↔
    ∃ p ∈ s.svPositions i sets k, p.1 / Ent.CTX_SETS_PER_CYCLE.of (s.ctx i) + 63 < s.horizon ∨
      p.1 / Ent.CTX_SETS_PER_CYCLE.of (s.ctx i) < c ∨ s.svSealed i (p.1 / Ent.CTX_SETS_PER_CYCLE.of (s.ctx i)) = true := by
  simp only [State.svLate, hc, List.any_eq_true, Bool.or_eq_true, decide_eq_true_eq, or_assoc]

theorem State.svTaken_iff : s.svTaken i sets k = true ↔ ∃ p ∈ s.svPositions i sets k, (s.svAt i p.1).isSome = true :=
  List.any_eq_true

theorem State.svEnter_seq {q : Nat} {b : Bool} (h : svSeq bs = some (q, b)) : s.svEnter i bs = s.discEnter i q := by
  simp only [State.svEnter, h, Option.map_some]

theorem State.svEnter_noSeq (h : svSeq bs = none) : s.svEnter i bs = s := by
  simp only [State.svEnter, h, Option.map_none]

end Candidate

/-- Settles O11: the stages of a copy are those of `State.svCounted`, `State.svMatched` and `State.svSecured`, and the tests of a
candidate those of `State.svCandidate_eq`. -/
theorem svCopyIsJudgedAndPlaced : Obligations.SvCopyIsJudgedAndPlaced := by
  unfold Obligations.SvCopyIsJudgedAndPlaced
  refine ⟨?stages, ?candidate⟩
  case stages =>
    intro p bs fcs ext s o tags h hport hoffset u len apdu sim stamp
    have hcopy : exec (.svCopyReceived p bs fcs ext) s = .next (u.svCounted p.val bs fcs ext o tags).afterIngest := by
      rw [exec_svCopyReceived_of h, State.svCopy_eq hport h.2 hoffset]
    rw [hcopy]
    refine ⟨fun hbroken => by rw [State.svCounted_broken hbroken], fun htags hmin hlen => ?_⟩
    have hwhole : SvHeaderWhole bs o tags := ⟨htags, hmin, hlen⟩
    refine ⟨fun hen => by rw [State.svCounted_disabled hwhole hen], fun hen hnone => ?_, fun i hen hloaded hmatch => ?_⟩
    · rw [State.svCounted_enabled hwhole hen (State.svStream_none hnone)]
      rfl
    have hmatched : u.svCounted p.val bs fcs ext o tags = u.svMatched i bs sim apdu fcs stamp ext :=
      State.svCounted_enabled hwhole hen (State.svStream_match hloaded hmatch)
    rw [hmatched]
    refine ⟨fun hoff => by rw [State.svMatched_disabled hoff], fun hon hsim => by rw [State.svMatched_simulation hon hsim],
      fun hon hsim => ⟨fun e hparse => by rw [State.svMatched_unparsed hon hsim hparse], fun sets hparse => ?_⟩⟩
    rw [State.svMatched_parsed hon hsim hparse]
    refine ⟨fun hext hauth => ?_, fun hext hauth => ?_, fun x hext hkey => ?_, fun x k hext hkey => ?_⟩ <;> subst hext
    · rw [State.svSecured_missing hauth]
    · rw [State.svSecured_plain hauth]
    · rw [State.svSecured_unfit hkey]
    · rw [State.svSecured_fit hkey]
      exact ⟨fun hlost => by rw [if_pos hlost], fun husable => by rw [if_neg (by simp [husable])]⟩
  case candidate =>
    intro s i bs sim sets key fe k c0 c rate sc placed tol early again late taken full hc0
    rw [State.svCandidate_eq]
    have hearly : early ↔ s.svEarly i sets k = true := State.svEarly_iff.symm
    have hagain : again ↔ s.svRepeats i bs = true := State.svRepeats_iff.symm
    have hlate : late ↔ s.svLate i sets k = true := (State.svLate_iff hc0).symm
    have htaken : taken ↔ s.svTaken i sets k = true := State.svTaken_iff.symm
    have hplaced : s.svPositions i sets k = placed := rfl
    simp only [hearly, hagain, hlate, htaken, ← hplaced]
    refine ⟨fun he => if_pos he, fun he ha => ?_, fun he ha hl => ?_, fun he ha hl ht => ?_, fun he ha hl ht hf => ?_,
      fun he ha hl ht hf q b hseq => ?_, fun he ha hl ht hf hseq => ?_⟩
    · rw [if_neg he, if_pos ha]
    · rw [if_neg he, if_neg ha, if_pos hl]
    · rw [if_neg he, if_neg ha, if_neg hl, if_pos ht]
    · rw [if_neg he, if_neg ha, if_neg hl, if_neg ht, if_pos hf]
    · rw [if_neg he, if_neg ha, if_neg hl, if_neg ht, if_neg hf, State.svEnter_seq hseq]
    · rw [if_neg he, if_neg ha, if_neg hl, if_neg ht, if_neg hf, State.svEnter_noSeq hseq]

end Sys2Proof.Machine
end

section
/-! PROOFS. Verdicts and timeouts of epochs, seals, the ingest enable, and loads from the ring (R65, R77-R81, R85-R91, R154). -/

namespace Sys2Proof.Machine

open Sys2Proof Reg

/-! ## The rows of the ingest (R77, R79, R88, R90, R91) -/

section Rows

variable {s : State} {who : Agent}

theorem exec_svVerdict_of (h : s.Runs 15) (e : Nat) : exec (.svVerdict e) s = .next (s.svVerdict e) :=
  congrArg Host.Outcome.next (State.liveU_of_runs h _)

theorem exec_epochTimeout_of (h : s.Runs 15) (e : Nat) : exec (.epochTimeout e) s = .next (s.epochTimeout e) :=
  congrArg Host.Outcome.next (State.liveU_of_runs h _)

theorem exec_sealInstant_of (h : s.Runs 15) (i : Fin 512) : exec (.sealInstant i) s = .next (s.seal i.val).afterIngest :=
  congrArg Host.Outcome.next (State.liveU_of_runs h _)

theorem exec_sviEnable_of (h : s.Admits who 0x20004 false) (en : Bool) :
    exec (.sviEnable who en) s = .next ((s.mbCount who).sviEnable en) :=
  congrArg Host.Outcome.next (State.allow_of h _ _)

theorem exec_ringLoad_of (h : s.fabricUp = true) (f : Fin 32) (i : Fin 512) (k : Fin 1024) (c : Bool) :
    exec (.ringLoad f i k c) s = .next (s.ringLoad f.val i.val k.val c) :=
  congrArg Host.Outcome.next (State.live_of_up h _)

theorem exec_ringEccError_of (h : s.Runs 15) (i : Fin 512) (k : Fin 1024) :
    exec (.ringEccError i k) s = .next (s.ringEcc i.val k.val) :=
  congrArg Host.Outcome.next (State.liveU_of_runs h _)

/-- What leaves a state alone leaves it alone whether or not the fabric runs. -/
theorem State.live_of_fixed {f : State → State} (h : f s = s) : s.live f = s := by
  rw [State.live, h, ite_self]

end Rows

/-! ## Verdicts (R65, R77, R79-R82) -/

section Verdicts

variable {s : State} {e k : Nat} {p : SvEpoch}

theorem State.svVerdict_notPending (h : s.svPending e = none) : s.svVerdict e = s := by
  rw [State.svVerdict, h]

theorem State.svVerdict_badFcs (h : s.svPending e = some p) (hfcs : p.fcsOk = false) :
    s.svVerdict e = (s.giveVerdict p 1).afterIngest := by
  rw [State.svVerdict, h]
  exact if_pos hfcs

theorem State.svVerdict_untagged (h : s.svPending e = some p) (hfcs : p.fcsOk = true) (hkey : p.keySlot = none) :
    s.svVerdict e = (s.giveVerdict p 0).afterIngest := by
  rw [State.svVerdict, h]
  exact (if_neg (by simp [hfcs])).trans (if_pos hkey)

theorem State.svVerdict_waits (h : s.svPending e = some p) (hfcs : p.fcsOk = true) (hkey : p.keySlot ≠ none)
    (hunit : p.unit = none ∨ s.clk 16 = false) : s.svVerdict e = s := by
  rw [State.svVerdict, h]
  exact (if_neg (by simp [hfcs])).trans ((if_neg hkey).trans (if_pos hunit))

theorem State.svVerdict_keyLost (h : s.svPending e = some p) (hfcs : p.fcsOk = true) (hkey : p.keySlot ≠ none) (hunit : p.unit ≠ none)
    (hclk : s.clk 16 = true) (hlost : s.svKeyLost p = true) :
    s.svVerdict e = ((s.giveVerdict p 3).flag SVI_TROUBLE_ORPHANED).afterIngest := by
  simp only [State.svVerdict, h, hfcs, hkey, hunit, hclk, hlost, Bool.true_eq_false, or_self, if_false, if_true]

/-- With the job on a unit and its key in force, the use of the key that the verdict counts decides (R80, R81, R104). -/
theorem State.svVerdict_keyUse (h : s.svPending e = some p) (hfcs : p.fcsOk = true) (hkey : p.keySlot = some k) (hunit : p.unit ≠ none)
    (hclk : s.clk 16 = true) (hheld : s.svKeyLost p = false) :
    s.svVerdict e =
      if (s.keyUse k).1 then ((s.keyUse k).2.giveVerdict p (if p.macOk then 0 else 2)).afterIngest
      else ((((s.keyUse k).2.giveVerdict p 3).flag SVI_TROUBLE_ORPHANED).afterIngest).svOrphans := by
  simp only [State.svVerdict, h, hfcs, hkey, hunit, hclk, hheld, Bool.true_eq_false, Bool.false_eq_true, reduceCtorEq, or_self, if_false,
    Option.getD_some]

theorem State.epochTimeout_notPending (h : s.svPending e = none) : s.epochTimeout e = s := by
  rw [State.epochTimeout, h]

theorem State.epochTimeout_pending (h : s.svPending e = some p) :
    s.epochTimeout e = if p.placedAt + 60000 ≤ s.now then (s.giveVerdict p 4).afterIngest else s := by
  rw [State.epochTimeout, h]

end Verdicts

/-- Settles O12: each clause is one case of `State.svVerdict` or of `State.epochTimeout`. -/
theorem verdictsOfEpochs : Obligations.VerdictsOfEpochs := by
  unfold Obligations.VerdictsOfEpochs
  refine ⟨fun e s p hs hp => ?pending, fun e s hs hp => ?notPending⟩
  case pending =>
    rw [exec_svVerdict_of hs, exec_epochTimeout_of hs, State.epochTimeout_pending hp]
    refine ⟨fun hfcs => ?_, fun hfcs hkey => ?_, fun k hfcs hkey hunit hclk hheld => ?_, fun hfcs hkey hunit hclk hlost => ?_,
      fun hfcs hkey hunit => ?_, fun hdue => ?_, fun hearly => ?_⟩
    · rw [State.svVerdict_badFcs hp hfcs]
    · rw [State.svVerdict_untagged hp hfcs hkey]
    · rw [State.svVerdict_keyUse hp hfcs hkey hunit hclk hheld]
      exact ⟨fun hused => congrArg _ (if_pos hused), fun hrefused => congrArg _ (if_neg (by simp [hrefused]))⟩
    · rw [State.svVerdict_keyLost hp hfcs hkey hunit hclk hlost]
    · rw [State.svVerdict_waits hp hfcs hkey hunit]
    · rw [if_pos hdue]
    · rw [if_neg (Nat.not_le.mpr hearly)]
  case notPending =>
    rw [exec_svVerdict_of hs, exec_epochTimeout_of hs, State.svVerdict_notPending hp, State.epochTimeout_notPending hp]
    exact ⟨rfl, rfl⟩

/-! ## Seals and the ingest enable (R88) -/

section Seals

variable {s : State} {i : Nat}

theorem State.seal_due {m : Nat} (h : (s.stream i).sealed = some m) (hon : s.ctxOn i = true) (hdue : s.sealDue i m = true) :
    s.seal i = s.sealCycle i := by
  simp only [State.seal, h, hon, hdue, Bool.and_self, if_true]

theorem State.seal_idle (h : ∀ m, (s.stream i).sealed = some m → s.ctxOn i = true → s.sealDue i m = false) : s.seal i = s := by
  unfold State.seal
  split
  case h_1 m hm => exact if_neg (by simpa using h m hm)
  case h_2 => rfl

theorem State.sviEnable_start (h : (s.wrB SVI_CTRL_ENABLE true).loaded = true) :
    s.sviEnable true = (((s.wrB SVI_CTRL_ENABLE true).ingestStart).wrB SVI_STATUS_RUNNING
      (s.wrB SVI_CTRL_ENABLE true).ingestStart.loaded).svRefresh := by
  simp only [State.sviEnable, h, Bool.and_self, Bool.true_and, if_true]

theorem State.sviEnable_stop (s : State) :
    s.sviEnable false = ((s.wrB SVI_CTRL_ENABLE false).wrB SVI_STATUS_RUNNING false).svRefresh := rfl

end Seals

/-! ## Loads from the ring (R85, R89, R90, R154) -/

section RingLoads

variable {s : State} {f i k w : Nat} {c : Bool}

theorem State.ringLoad_moving (h : s.folSt f = 7) : s.ringLoad f i k c = s :=
  if_pos h

/-- A load from the provisional view takes its permission (R154). -/
theorem State.ringLoad_fault (h : s.folSt f ≠ 7) (hprov : Ent.PLC_PROV.on (s.plc f) = false) :
    s.ringLoad f i k false = s.folFaultPc f 2 (0x40000000 + i * 0x40000 + k * 0x100) :=
  (if_neg h).trans (if_pos (by simp [hprov]))

/-- What a load that is made leaves behind besides its report: the word, and the count of a load that read EXPIRED (R89). -/
def State.ringTake (s : State) (w : Nat) : State :=
  let s : State := { s with lastRead := w }
  if Ent.SLOT_STATE.of w = 6 then (s.bump SVI_EXPIRED_READ).flag SVI_TROUBLE_EXPIRED_READ else s

/-- A load that is made takes the word of its view, and reports its epoch if it has one (R90). -/
theorem State.ringLoad_made (h : s.folSt f ≠ 7) (hview : c = true ∨ Ent.PLC_PROV.on (s.plc f) = true) {e : Option Nat}
    (hw : s.ringView i k c = (w, e)) :
    s.ringLoad f i k c = e.elim (s.ringTake w) (fun e => (s.ringTake w).loadReport f i e (decide (Ent.SLOT_STATE.of w = 1))) := by
  have hmay : (!c && !Ent.PLC_PROV.on (s.plc f)) = false := by
    obtain hc | hp := hview
    · simp [hc]
    · simp [hp]
  simp only [State.ringLoad, hmay, hw, if_neg h, Bool.false_eq_true, if_false]
  cases e <;> rfl

end RingLoads

/-- Settles O13: each clause is one case of `State.seal`, of `State.sviEnable` or of `State.ringLoad`. -/
theorem ingestControlAndRingLoads : Obligations.IngestControlAndRingLoads := by
  unfold Obligations.IngestControlAndRingLoads
  refine ⟨?sealDue, ?enable, ?load, ?expired, ?fault, ?moving, ?sealIdle, ?ecc⟩
  case sealDue =>
    intro i m s hs hm hon hdue
    rw [exec_sealInstant_of hs, State.seal_due hm hon hdue]
  case enable =>
    intro who s h u
    simp only [exec_sviEnable_of h]
    exact ⟨fun hloaded => congrArg _ (State.sviEnable_start hloaded), congrArg _ u.sviEnable_stop⟩
  case load =>
    intro f i k c s w e hup hmoving hview hw hstate
    rw [exec_ringLoad_of hup, State.ringLoad_made hmoving hview hw, State.ringTake, if_neg hstate]
    rfl
  case expired =>
    intro f i k c s w hup hmoving hview hw hstate
    rw [exec_ringLoad_of hup, State.ringLoad_made hmoving hview hw, State.ringTake, if_pos hstate]
    rfl
  case fault =>
    intro f i k s hup hmoving hprov
    rw [exec_ringLoad_of hup, State.ringLoad_fault hmoving hprov]
  case moving =>
    intro f i k c s hmoving
    exact congrArg Host.Outcome.next (State.live_of_fixed (State.ringLoad_moving hmoving))
  case sealIdle =>
    intro i s hs hidle
    rw [exec_sealInstant_of hs, State.seal_idle hidle]
  case ecc =>
    intro i k s hs
    exact exec_ringEccError_of hs i k

end Sys2Proof.Machine
end

section
/-! PROOFS. The verifier units: retirement, restoration and the exchange with the spare (R84, R461, R478). -/

namespace Sys2Proof.Machine

open Sys2Proof Reg

/-! ## The rows of the verifier units (R84) -/

section Rows

variable {s : State} {who : Agent}

theorem exec_verifierFault_of (h : s.Runs 16) (u : Fin 4) (parity : Bool) :
    exec (.verifierFault u parity) s = .next (s.unitDown u.val (if parity then 2 else 1)) :=
  congrArg Host.Outcome.next (State.liveU_of_runs h _)

theorem exec_verifierJobTimeout_of (h : s.Runs 16) (u : Fin 4) :
    exec (.verifierJobTimeout u) s = .next (if s.unitLate u.val then s.unitDown u.val 3 else s) :=
  congrArg Host.Outcome.next (State.liveU_of_runs h _)

theorem exec_verifierKat_of (h : s.Runs 16) (u : Fin 4) (pass : Bool) :
    exec (.verifierKat u pass) s = .next (if s.on SVI_VER_CTRL_KAT_EN && !pass then s.unitDown u.val 4 else s) :=
  congrArg Host.Outcome.next (State.liveU_of_runs h _)

theorem exec_verifierRetire_of (h : s.Admits who 0x20030 true) (u : Fin 4) :
    exec (.verifierRetire who u) s =
      .next ((((s.mbCount who).abortUnitTest u.val).unitRetire u.val).hkaFollow (s.mbCount who) true) :=
  congrArg Host.Outcome.next (State.allow_of h _ _)

theorem exec_verifierRestore_of (h : s.Admits who 0x20030 true) (u : Fin 4) :
    exec (.verifierRestore who u) s = .next ((s.mbCount who).unitRestore u.val) :=
  congrArg Host.Outcome.next (State.allow_of h _ _)

theorem exec_verifierRestoreDone_of (h : s.Runs 16) (u : Fin 4) (pass : Bool) :
    exec (.verifierRestoreDone u pass) s = .next (if s.underTest 2 u.val then s else s.unitRestoreDone u.val pass) :=
  congrArg Host.Outcome.next (State.liveU_of_runs h _)

theorem exec_spareSelWrite_of (h : s.Admits who 0x20030 true) (u : Fin 4) :
    exec (.spareSelWrite who u) s = .next ((s.mbCount who).spareSel u.val) :=
  congrArg Host.Outcome.next (State.allow_of h _ _)

theorem exec_verifierIdleToSpare_of (h : s.fabricUp = true) (u : Fin 4) :
    exec (.verifierIdleToSpare u) s = .next (s.unitIdle u.val) :=
  congrArg Host.Outcome.next (State.live_of_up h _)

end Rows

/-! ## Retirement (R84, R461, R478) -/

section Units

variable {s : State} {u v : Nat}

/-- With no test on demand there is none to abort. -/
theorem State.abortUnitTest_of_noTest (h : s.sys.test = none) (u : Nat) : s.abortUnitTest u = s := by
  rw [State.abortUnitTest, h]

/-- A unit in service, or the spare, that fails is retired, and proposals about it settle. -/
theorem State.unitDown_retires (htest : s.sys.test = none) (h : s.unitState u = 0 ∨ s.unitState u = 3) (cause : Nat) :
    s.unitDown u cause = (s.retireUnit u cause).hkaFollow s false := by
  rw [State.unitDown, State.abortUnitTest_of_noTest htest, State.unitFault, if_pos h]

theorem State.unitLate_iff : s.unitLate u = true ↔ ∃ p ∈ s.unitJobs u, ∃ t, p.started = some t ∧ t + 5000 * p.fe < s.now := by
  rw [State.unitLate, List.any_eq_true]
  refine exists_congr fun p => and_congr_right fun _ => ?_
  cases p.started <;> simp

/-- The units that stay in service if unit `u` is retired: one fewer where it serves and no spare takes over. -/
def State.unitsAfter (s : State) (u : Nat) : Nat :=
  if s.unitState u = 0 ∧ s.svi.leaving.contains u = false ∧ s.spareUnit = none then s.activeUnits - 1 else s.activeUnits

/-- A retirement costs at most one unit in service. -/
theorem State.unitsAfter_bounds (s : State) (u : Nat) : s.activeUnits - 1 ≤ s.unitsAfter u ∧ s.unitsAfter u ≤ s.activeUnits := by
  unfold State.unitsAfter
  split <;> omega

theorem State.unitRetire_eq (s : State) (u : Nat) :
    s.unitRetire u = if (s.unitState u = 0 ∨ s.unitState u = 3) ∧ 2 ≤ s.unitsAfter u then s.retireUnit u 5 else s.unitRefuse := rfl

theorem State.unitRetire_retires (h : s.unitState u = 0 ∨ s.unitState u = 3) (hunits : 3 ≤ s.activeUnits) :
    s.unitRetire u = s.retireUnit u 5 := by
  obtain ⟨hleft, -⟩ := s.unitsAfter_bounds u
  rw [State.unitRetire_eq, if_pos ⟨h, by omega⟩]

theorem State.unitRetire_refused (h : s.unitState u = 1 ∨ s.unitState u = 2 ∨ s.activeUnits < 2) : s.unitRetire u = s.unitRefuse := by
  obtain ⟨-, hleft⟩ := s.unitsAfter_bounds u
  rw [State.unitRetire_eq, if_neg (by omega)]

/-! ## Restoration and the spare (R84) -/

theorem State.unitRestore_tests (h : s.unitState u = 2) : s.unitRestore u = s.setUnit u 1 :=
  if_pos h

theorem State.unitRestore_refused (h : s.unitState u ≠ 2) : s.unitRestore u = s.unitRefuse :=
  if_neg h

theorem State.unitRestoreDone_ends (h : s.unitState u = 1) (pass : Bool) :
    s.unitRestoreDone u pass = s.setUnit u (if pass then 3 else 2) :=
  if_pos h

/-- A unit in state SPARE is found as the spare. -/
theorem State.spareUnit_ne_none (hu : u < 4) (h : s.unitState u = 3) : s.spareUnit ≠ none := by
  intro hnone
  rw [State.spareUnit, List.find?_eq_none] at hnone
  exact hnone u (List.mem_range.mpr hu) (by simp [h])

/-- Naming the spare changes nothing. -/
theorem State.spareSel_spare (hu : u < 4) (h : s.unitState u = 3) : s.spareSel u = s := by
  obtain ⟨v, hv⟩ := Option.ne_none_iff_exists'.mp (State.spareUnit_ne_none hu h)
  rw [State.spareSel, hv]
  exact if_pos h

theorem State.spareSel_exchanges (hv : s.spareUnit = some v) (h : s.unitState u = 0) (hstays : s.svi.leaving.contains u = false)
    (hidle : ((s.wr SVI_VER_CTRL_SPARE_SEL u).setUnit v 0).unitJobs u = []) :
    s.spareSel u = ((s.wr SVI_VER_CTRL_SPARE_SEL u).setUnit v 0).setUnit u 3 := by
  rw [State.spareSel, hv]
  exact (if_neg (by omega)).trans ((if_pos ⟨h, hstays⟩).trans (if_pos hidle))

/-- There is no spare, or the unit is under test, retired or about to become the spare. -/
theorem State.spareSel_refused (h : s.spareUnit = none ∨ s.unitState u = 1 ∨ s.unitState u = 2 ∨
    (s.unitState u = 0 ∧ s.svi.leaving.contains u = true)) : s.spareSel u = s.unitRefuse := by
  cases hv : s.spareUnit with
  | none => rw [State.spareSel, hv]
  | some v =>
    rw [hv] at h
    have hnotSpare : s.unitState u ≠ 3 := by
      rintro h3
      simp [h3] at h
    have hnotActive : ¬(s.unitState u = 0 ∧ s.svi.leaving.contains u = false) := by
      rintro ⟨h0, hstays⟩
      rw [h0, hstays] at h
      simp at h
    rw [State.spareSel, hv]
    exact (if_neg hnotSpare).trans (if_neg hnotActive)

theorem State.unitIdle_becomesSpare (hleaves : s.svi.leaving.contains u = true) (hidle : s.unitJobs u = []) (h : s.unitState u = 0) :
    s.unitIdle u = (s.onSvi (fun x => { x with leaving := x.leaving.filter (fun y => !(y == u)) })).setUnit u 3 :=
  if_pos (by simp only [hleaves, hidle, h, decide_true, Bool.and_self])

end Units

/-- Settles O14: each clause is one case of the operation behind its row. -/
theorem verifierUnitsRetireAndReturn : Obligations.VerifierUnitsRetireAndReturn := by
  unfold Obligations.VerifierUnitsRetireAndReturn
  refine ⟨?fault, ?jobTimeout, ?katFailed, ?katPassed, ?retire, ?restore, ?restoreDone, ?exchange, ?refused, ?idle⟩
  case fault =>
    intro u parity s hs htest hstate
    rw [exec_verifierFault_of hs, State.unitDown_retires htest hstate]
  case jobTimeout =>
    intro u s hs htest hstate hlate
    rw [exec_verifierJobTimeout_of hs, if_pos (State.unitLate_iff.mpr hlate), State.unitDown_retires htest hstate]
  case katFailed =>
    intro u s hs htest hstate hen
    rw [exec_verifierKat_of hs, if_pos (by simp [hen]), State.unitDown_retires htest hstate]
  case katPassed =>
    intro u s hs
    rw [exec_verifierKat_of hs, if_neg (by simp)]
  case retire =>
    intro who u s h x htest hstate hunits
    rw [exec_verifierRetire_of h, State.abortUnitTest_of_noTest htest, State.unitRetire_retires hstate hunits]
  case restore =>
    intro who u s h hstate
    rw [exec_verifierRestore_of h, State.unitRestore_tests hstate]
  case restoreDone =>
    intro u pass s hs htest hstate
    rw [exec_verifierRestoreDone_of hs, if_neg (by simp [htest]), State.unitRestoreDone_ends hstate]
  case exchange =>
    intro who u v s h x y hv _ hstate hstays hidle
    rw [exec_spareSelWrite_of h, State.spareSel_exchanges hv hstate hstays hidle]
  case refused =>
    intro who u s h x
    refine ⟨fun hspare => ?_, fun hout => ?_, fun hstate => ?_, fun htest hout => ?_⟩
    · rw [exec_spareSelWrite_of h, State.spareSel_spare u.isLt hspare]
    · rw [exec_spareSelWrite_of h, State.spareSel_refused hout]
      rfl
    · rw [exec_verifierRestore_of h, State.unitRestore_refused hstate]
      rfl
    · rw [exec_verifierRetire_of h, State.abortUnitTest_of_noTest htest, State.unitRetire_refused hout]
      rfl
  case idle =>
    intro u s hup hleaves hidle hstate
    rw [exec_verifierIdleToSpare_of hup, State.unitIdle_becomesSpare hleaves hidle hstate]

end Sys2Proof.Machine
end

section
/-! PROOFS. The Clasp: sealing, abandoning, releasing and stalling runs (R98, R100, R104, R110, R162). -/

namespace Sys2Proof.Machine

open Sys2Proof Reg

/-! ## The rows of the Clasp (R100, R104, R110, R155) -/

section Rows

variable {s : State}

/-- A folio writes a register of its own now, and the write is carried out. -/
theorem State.admitOwn_of {f : Fin 32} (h : s.AdmitsOwn f) (c : Instr) (o : Nat) (g : State → State) :
    s.admitOwn c (.folio f) f.val o g = g s := by
  obtain ⟨hup, hfence⟩ := h
  rw [State.admitOwn, if_pos rfl, State.live_of_up hup, hfence]
  rfl

theorem exec_sealRun_of {f : Fin 32} (h : s.AdmitsOwn f) (entries : List Nat) (payload quire : List Byte) :
    exec (.sealRun (.folio f) f entries payload quire) s = .next (s.sealRun f.val entries payload quire) :=
  congrArg Host.Outcome.next (State.admitOwn_of h _ _ _)

theorem exec_abandon_of {f : Fin 32} (h : s.AdmitsOwn f) : exec (.abandon (.folio f) f) s = .next (s.abandonRun f.val) :=
  congrArg Host.Outcome.next (State.admitOwn_of h _ _ _)

theorem exec_cycleRelease_of (h : s.fabricUp = true) :
    exec .cycleRelease s = .next ((s.releaseNext.getD s).takeRingFaults.folTriggers.folRefresh) :=
  congrArg Host.Outcome.next (State.live_of_up h _)

theorem exec_stallTimeout_of (h : s.fabricUp = true) (f : Fin 32) :
    exec (.stallTimeout f) s = .next ((s.stall f.val).folTriggers.folRefresh) :=
  congrArg Host.Outcome.next (State.live_of_up h _)

end Rows

/-! ## SEAL and ABANDON (R98, R100, R162) -/

section Ends

variable {s t : State} {f : Nat} {c : Cyc}

/-- A SEAL of an open run seals it with the entries that pass the check, and moves on the run of the next cycle. -/
theorem State.clsSeal_open {entries ok : List Nat} {payload quire : List Byte} (hcount : entries.length ≤ 256)
    (hquire : quire.length ≤ s.quireSlot f) (hbg : s.folioBg f = false) (hrun : (s.folio f).running = some c) (hopen : c.st = 1)
    (hcheck : s.stageCheck f c.posted entries = (ok, t)) :
    s.clsSeal f entries payload quire = (.run c.cycle, ((t.modCyc f c.cycle (fun c =>
      { c with st := 2, executing := false, entries := ok, payload := payload, quire := quire, sealedAt := t.now })).clsShow
        f).kickNext f c.cycle) := by
  have hfits : ¬(256 < entries.length ∨ s.quireSlot f < quire.length) := by omega
  simp only [State.clsSeal, hfits, hbg, hrun, hopen, hcheck, Bool.false_eq_true, if_false, if_true]

/-- An ABANDON of a squashed run ends it, and moves on the run of the next cycle. -/
theorem State.clsAbandon_squashed (hrun : (s.folio f).running = some c) (hsquashed : c.st = 4) :
    s.clsAbandon f = (.run c.cycle, ((s.modCyc f c.cycle (fun c => { c with executing := false })).runEnded f c.cycle).kickNext f
      c.cycle) := by
  rw [State.clsAbandon, hrun]
  exact if_pos hsquashed

/-- A SEAL that ends a run frees the folio's pair. -/
theorem State.sealRun_ends {entries : List Nat} {payload quire : List Byte} {n : Nat}
    (h : s.clsSeal f entries payload quire = (.run n, t)) :
    s.sealRun f entries payload quire = (((t.lastRun f).runOver f).folTriggers).folRefresh := by
  rw [State.sealRun, h]
  rfl

/-- An ABANDON that ends a run frees the folio's pair. -/
theorem State.abandonRun_ends {n : Nat} (h : s.clsAbandon f = (.run n, t)) :
    s.abandonRun f = (((t.lastRun f).runOver f).folTriggers).folRefresh := by
  rw [State.abandonRun, h]
  rfl

end Ends

/-! ## Releases and stalls (R104, R110) -/

section Releases

variable {s : State} {f : Nat} {c : Cyc}

/-- The release decision falls on the first folio, in folio order, that has a releasable cycle. -/
theorem State.releaseNext_first (hf : f < 32) (hc : s.releasable f = some c) (hfirst : ∀ g, g < f → s.releasable g = none) :
    s.releaseNext = some (s.release f c) := by
  rw [State.releaseNext, List.findSome?_eq_some_iff]
  refine ⟨List.range f, f, List.range' (f + 1) (31 - f), ?split, ?here, ?before⟩
  case split =>
    have hlen : 32 = f + (31 - f + 1) := by omega
    rw [hlen, List.range_add, ← List.range'_succ, List.range'_eq_map_range]
  case here => rw [hc, Option.map_some]
  case before =>
    intro g hg
    rw [hfirst g (List.mem_range.mp hg), Option.map_none]

/-- A sealed run whose E_MAX is above the frontier 50 µs after its SEAL (R110). -/
def State.stalled (s : State) (c : Cyc) : Bool :=
  c.st == 2 && decide (c.sealedAt + 50000 ≤ s.now) && decide (s.rd CLS_FRONTIER < c.emax)

/-- The stall test of a cadence-bound folio goes through its stalled runs, and squashes each that is then still stalled. -/
theorem State.stall_eq (hbg : s.folioBg f = false) :
    s.stall f = ((s.folio f).cycs.filter s.stalled).foldl
      (fun s c => if ((s.folio f).cyc c.cycle).any s.stalled then s.squash f c.cycle 2 0 0 else s) s := by
  rw [State.stall, hbg]
  rfl

/-- A folio's only stalled run is squashed with cause STALL. -/
theorem State.stall_one (hbg : s.folioBg f = false) (hone : (s.folio f).cycs.filter s.stalled = [c])
    (hcyc : (s.folio f).cyc c.cycle = some c) : s.stall f = s.squash f c.cycle 2 0 0 := by
  have hstalled : s.stalled c = true := (List.mem_filter.mp (hone ▸ List.mem_singleton_self c)).2
  rw [State.stall_eq hbg, hone, List.foldl_cons, List.foldl_nil, hcyc]
  exact if_pos hstalled

end Releases

/-- Settles O15: each clause is one case of the Clasp's operation behind its row. -/
theorem runsSealReleaseAndStall : Obligations.RunsSealReleaseAndStall := by
  unfold Obligations.RunsSealReleaseAndStall
  refine ⟨?sealing, ?abandon, ?release, ?stall⟩
  case sealing =>
    intro f entries ok payload quire s t c hs hcount hquire hbg hrun hopen hcheck
    rw [exec_sealRun_of hs, State.sealRun_ends (State.clsSeal_open hcount hquire hbg hrun hopen hcheck)]
  case abandon =>
    intro f s c hs hrun hsquashed
    rw [exec_abandon_of hs, State.abandonRun_ends (State.clsAbandon_squashed hrun hsquashed)]
  case release =>
    intro f s c hup hf hc hfirst
    rw [exec_cycleRelease_of hup, State.releaseNext_first hf hc hfirst, Option.getD_some]
  case stall =>
    intro f s c hup hbg hone hcyc
    rw [exec_stallTimeout_of hup, State.stall_one hbg hone hcyc]

end Sys2Proof.Machine
end

section
/-! PROOFS. The backstop: what a consumption does to an element, block and release, the DT lines, and state ECC errors (R116, R136,
R138-R140, R142, R511). -/

namespace Sys2Proof.Machine

open Sys2Proof Reg

/-! ## The rows of the backstop (R116, R138-R140, R142, R511) -/

section Rows

variable {s : State} {who : Agent}

theorem exec_elementDelayExpire_of (h : s.Runs 15) (n : Fin 64) :
    exec (.elementDelayExpire n) s = .next (s.consumeIf (s.elemInput n.val) (tripsIn n.val 1)) :=
  congrArg Host.Outcome.next (State.liveU_of_runs h _)

theorem exec_elementIntegratorFull_of (h : s.Runs 15) (n : Fin 64) :
    exec (.elementIntegratorFull n) s = .next (s.consumeIf (s.elemInput n.val) (tripsIn n.val 2)) :=
  congrArg Host.Outcome.next (State.liveU_of_runs h _)

theorem exec_elementResetTimeExpire_of (h : s.Runs 15) (n : Fin 64) :
    exec (.elementResetTimeExpire n) s = .next (s.consumeIf (s.elemInput n.val) (resetsIn n.val)) :=
  congrArg Host.Outcome.next (State.liveU_of_runs h _)

theorem exec_elementFreezeExpire_of (h : s.Runs 15) (n : Fin 64) :
    exec (.elementFreezeExpire n) s = .next (s.consumeIf (s.elemInput n.val) (thawsIn n.val)) :=
  congrArg Host.Outcome.next (State.liveU_of_runs h _)

theorem exec_bkstBlockWrite_of (h : s.Admits who 0x50020 true) (e : BitVec 64) :
    exec (.bkstBlockWrite who e) s = .next ((s.mbCount who).bkstBlock e.toNat) :=
  congrArg Host.Outcome.next (State.allow_of h _ _)

theorem exec_bkstResetElement_of (h : s.Admits who 0x50038 true) (n : Fin 64) :
    exec (.bkstResetElement who n) s = .next ((s.mbCount who).bkstReset false n.val) :=
  congrArg Host.Outcome.next (State.allow_of h _ _)

theorem exec_bkstResetAll_of (h : s.Admits who 0x50038 true) :
    exec (.bkstResetAll who) s = .next ((s.mbCount who).bkstReset true 0) :=
  congrArg Host.Outcome.next (State.allow_of h _ _)

theorem exec_dtMinOnExpire_of (h : s.fabricUp = true) (n : Fin 8) : exec (.dtMinOnExpire n) s = .next (s.minOnExpire n.val) :=
  congrArg Host.Outcome.next (State.live_of_up h _)

theorem exec_dtHoldExpire_of (h : s.fabricUp = true) (k : Fin 32) (n : Fin 8) :
    exec (.dtHoldExpire k n) s = .next (s.dtHoldExpire k.val n.val) :=
  congrArg Host.Outcome.next (State.live_of_up h _)

theorem exec_stateEcc_of (h : s.Runs 15) (e : Bool) (i : Fin 2048) : exec (.stateEcc e i) s = .next (s.stateEcc e i.val) :=
  congrArg Host.Outcome.next (State.liveU_of_runs h _)

end Rows

/-! ## What comes about in a consumption (R136, R138, R139) -/

section Consumption

variable {s : State} {i : Nat} {c : State → State → Bool}

theorem State.consumeIf_met (h : c s (s.filterConsume i) = true) : s.consumeIf i c = s.filterConsume i :=
  if_pos h

theorem State.consumeIf_not_met (h : c s (s.filterConsume i) = false) : s.consumeIf i c = s :=
  if_neg (by simp [h])

variable {a b : State} {n : Nat}

/-- An element that trips had not tripped before, and has then. -/
theorem trip_of_tripsIn {mode : Nat} (h : tripsIn n mode a b = true) : (a.elem n).trip = false ∧ (b.elem n).trip = true := by
  simp only [tripsIn, Bool.and_eq_true, Bool.not_eq_true'] at h
  exact h.1

/-- Definite reset leaves the integrator clear. -/
theorem integ_of_resetsIn (h : resetsIn n a b = true) : (b.elem n).integ = 0 := by
  simp only [resetsIn, Bool.and_eq_true, decide_eq_true_eq] at h
  obtain ⟨⟨⟨-, hclear⟩, -⟩, -⟩ := h
  exact hclear

end Consumption

/-! ## Minimum-on time and state errors (R140, R511) -/

section Expiry

variable {s : State} {n : Nat}

theorem State.minOnExpire_due (h : s.flt.minOn.get n (s.now + 1) ≤ s.now) :
    s.minOnExpire n = (s.onFlt (fun f => { f with minOn := f.minOn.erase n })).dtUpdate :=
  if_pos h

@[simp] theorem State.inst_flag (s : State) (f : Fld) (i : Nat) : (s.flag f).inst i = s.inst i := rfl

/-- A filter whose state is in error restarts: it keeps its configuration, its place, its output and its counts. -/
theorem State.stateEcc_inst {x : FInst} (h : s.inst n = some x) :
    s.stateEcc false n = (s.flag FLT_TROUBLE_STATE_ECC).setInst n
      { cfg := x.cfg, coef := x.coef, srcA := x.srcA, srcB := x.srcB, next := x.next, since := x.since, gen := x.gen, pos := x.pos,
        rate := x.rate, sc := x.sc, turn := x.turn, start := x.start, out := x.out, forced := x.forced, lastSmp := x.lastSmp,
        lastCycle := x.lastCycle, steps := x.steps, switches := x.switches } := by
  simp only [State.stateEcc, State.inst_flag, h, Bool.false_eq_true, if_false]

end Expiry

/-- Settles O17: the rows of an element are a consumption in which its condition comes about, the others one operation each. -/
theorem backstopElementsTripAndReset : Obligations.BackstopElementsTripAndReset := by
  unfold Obligations.BackstopElementsTripAndReset
  refine ⟨?consumption, ?block, ?release, ?minOn, ?hold, ?ecc⟩
  case consumption =>
    intro n s hs t
    rw [exec_elementDelayExpire_of hs, exec_elementIntegratorFull_of hs, exec_elementResetTimeExpire_of hs,
      exec_elementFreezeExpire_of hs]
    refine ⟨?_, ?_, ?_, ?_, ?_, ?_, ?_, ?_⟩ <;> intro h
    · exact ⟨congrArg _ (State.consumeIf_met h), trip_of_tripsIn h⟩
    · exact ⟨congrArg _ (State.consumeIf_met h), trip_of_tripsIn h⟩
    · exact ⟨congrArg _ (State.consumeIf_met h), integ_of_resetsIn h⟩
    · exact congrArg _ (State.consumeIf_met h)
    · exact congrArg _ (State.consumeIf_not_met h)
    · exact congrArg _ (State.consumeIf_not_met h)
    · exact congrArg _ (State.consumeIf_not_met h)
    · exact congrArg _ (State.consumeIf_not_met h)
  case block =>
    intro who e s h u b
    exact exec_bkstBlockWrite_of h e
  case release =>
    intro who n s h
    exact ⟨exec_bkstResetElement_of h n, exec_bkstResetAll_of h⟩
  case minOn =>
    intro n s hup hdue
    rw [exec_dtMinOnExpire_of hup, State.minOnExpire_due hdue]
  case hold =>
    intro k n s hup
    exact exec_dtHoldExpire_of hup k n
  case ecc =>
    intro i s hs
    refine ⟨exec_stateEcc_of hs true i, fun x hx => ?_⟩
    rw [exec_stateEcc_of hs, State.stateEcc_inst hx]

end Sys2Proof.Machine
end

section
/-! PROOFS. The stream filters: what an instance consumes, how it settles and switches, and loads from its aperture (R122,
R129-R131, R147). -/

namespace Sys2Proof.Machine

open Sys2Proof Reg

/-! ## The rows of the stream filters (R122, R129-R131) -/

section Rows

variable {s : State} {who : Agent}

theorem exec_filterConsume_of (h : s.Runs 15) (i : Fin 2048) : exec (.filterConsume i) s = .next (s.filterConsume i.val) :=
  congrArg Host.Outcome.next (State.liveU_of_runs h _)

theorem exec_settlingEnd_of (h : s.Runs 15) (i : Fin 2048) :
    exec (.settlingEnd i) s = .next (s.consumeIf i.val (settlesIn i.val)) :=
  congrArg Host.Outcome.next (State.liveU_of_runs h _)

theorem exec_sourceSwitch_of (h : s.Runs 15) (i : Fin 2048) :
    exec (.sourceSwitch i) s = .next (s.consumeIf i.val (switchesIn i.val)) :=
  congrArg Host.Outcome.next (State.liveU_of_runs h _)

theorem exec_switchForceA_of (h : s.Admits who 0x5003C true) (i : Fin 2048) :
    exec (.switchForceA who i) s = .next ((s.mbCount who).switchCmd i.val 1) :=
  congrArg Host.Outcome.next (State.allow_of h _ _)

theorem exec_switchForceB_of (h : s.Admits who 0x5003C true) (i : Fin 2048) :
    exec (.switchForceB who i) s = .next ((s.mbCount who).switchCmd i.val 2) :=
  congrArg Host.Outcome.next (State.allow_of h _ _)

theorem exec_switchAutomatic_of (h : s.Admits who 0x5003C true) (i : Fin 2048) :
    exec (.switchAutomatic who i) s = .next ((s.mbCount who).switchCmd i.val 0) :=
  congrArg Host.Outcome.next (State.allow_of h _ _)

theorem exec_filterLoad_of (h : s.fabricUp = true) (f : Fin 32) (i : Fin 2048) (k : Fin 1024) :
    exec (.filterLoad f i k) s = .next (s.filterLoad f.val i.val k.val) :=
  congrArg Host.Outcome.next (State.live_of_up h _)

end Rows

/-! ## The consumption of a position (R122, R130, R147) -/

section Positions

variable {s : State} {i p : Nat} {x : FInst}

theorem State.filterConsume_loaded (hclk : s.clk 15 = true) (h : s.loaded = true) : s.filterConsume i = s.instConsume i :=
  if_pos (by simp [hclk, h])

theorem State.filterConsume_unloaded (h : s.loaded = false) : s.filterConsume i = s :=
  if_neg (by simp [h])

theorem State.instConsume_absent (h : s.inst i = none) : s.instConsume i = s := by
  simp only [State.instConsume, h]

/-- An instance whose next input is not there yet waits. -/
theorem State.instConsume_waits (hx : s.inst i = some x) (hp : s.instPos x = some p)
    (hpick : s.instPick (s.follow x p) ((s.follow x p).pos.getD p) = none) : s.instConsume i = s := by
  simp only [State.instConsume, hx, hp, hpick]

/-- An input that is there first lets the waiting configurations of its position take effect. -/
theorem State.instConsume_picked {w : FInst} {r : FInst × SrcIn × Bool × Bool} {moved : Bool} (hx : s.inst i = some x)
    (hp : s.instPos x = some p) (hpick : s.instPick (s.follow x p) ((s.follow x p).pos.getD p) = some r)
    (hsw : s.instSwitch r.2.1 ((s.follow x p).pos.getD p) (s.follow x p).next (s.follow x p) = (w, moved)) :
    s.instConsume i = if moved then s.setInst i w else s.instTake i w ((s.follow x p).pos.getD p) := by
  simp only [State.instConsume, hx, hp, hpick, hsw]

variable {y : FInst} {b sw : Bool}

theorem State.instTake_feeds {v : Sample} {u : Bool} {ing st : Nat} {e : Option Nat}
    (h : s.instPick x p = some (y, .some v u ing e st, b, sw)) :
    s.instTake i x p =
      ((s.countInput).flagIf (s.noSource x p) FLT_TROUBLE_NO_SOURCE).instFeed i y p v u ing e st b sw := by
  simp only [State.instTake, h]

/-- A position at which a chained source has no output is passed over. -/
theorem State.instTake_passes (h : s.instPick x p = some (y, .none, b, sw)) :
    s.instTake i x p = s.setInst i { y with pos := some (p + 1) } := by
  simp only [State.instTake, h]

end Positions

/-! ## Forced sources and loads (R130, R131) -/

section Commands

variable {s : State} {i : Nat}

@[simp] theorem State.inst_wr (s : State) (f : Fld) (v i : Nat) : (s.wr f v).inst i = s.inst i := rfl

/-- FLT_SWITCH with APPLY names the source of an instance, and both counts of its source switching begin anew. -/
theorem State.switchCmd_of {x : FInst} (h : s.inst i = some x) (f : Nat) :
    s.switchCmd i f = ((s.wr FLT_SWITCH_INSTANCE i).wr FLT_SWITCH_FORCE f).setInst i { x with forced := f, badA := 0, goodA := 0 } := by
  simp only [State.switchCmd, State.switchForce, State.inst_wr, h]

variable {f k : Nat}

theorem State.filterLoad_moving (h : s.folSt f = 7) : s.filterLoad f i k = s :=
  if_pos h

/-- A load that is made takes the entry, and is counted where the entry has expired. -/
theorem State.filterLoad_made {w : Nat} {expired : Bool} (h : s.folSt f ≠ 7) (hw : s.filterRead i k = (w, expired)) :
    s.filterLoad f i k = if expired then (({ s with lastRead := w } : State).bump FLT_EXPIRED_READ).flag FLT_TROUBLE_EXPIRED_READ
      else { s with lastRead := w } := by
  simp only [State.filterLoad, if_neg h, hw]

end Commands

/-- Settles O16: each clause is one case of `State.instConsume`, of `State.switchCmd` or of `State.filterLoad`. -/
theorem filtersConsumeInOrder : Obligations.FiltersConsumeInOrder := by
  unfold Obligations.FiltersConsumeInOrder
  refine ⟨?picked, ?idle, ?settles, ?switches, ?neither, ?force, ?load, ?expired, ?moving⟩
  case picked =>
    intro i s x w p r moved hs hloaded hx hp z pos hpick hsw
    rw [exec_filterConsume_of hs, State.filterConsume_loaded hs.2 hloaded, State.instConsume_picked hx hp hpick hsw]
    refine ⟨fun hmoved => ?_, fun y v u ing e st b sw hstays hfeed => ?_, fun y b sw hstays hpass => ?_⟩
    · rw [if_pos hmoved]
    · rw [if_neg (by simp [hstays]), State.instTake_feeds hfeed]
    · rw [if_neg (by simp [hstays]), State.instTake_passes hpass]
  case idle =>
    intro i s hs hidle
    rw [exec_filterConsume_of hs]
    cases hloaded : s.loaded with
    | false => rw [State.filterConsume_unloaded hloaded]
    | true =>
      rw [State.filterConsume_loaded hs.2 hloaded]
      obtain hunloaded | habsent | ⟨x, p, hx, hp, hpick⟩ := hidle
      · simp [hloaded] at hunloaded
      · rw [State.instConsume_absent habsent]
      · rw [State.instConsume_waits hx hp hpick]
  case settles =>
    intro i s hs h
    rw [exec_settlingEnd_of hs, State.consumeIf_met h]
  case switches =>
    intro i s hs h
    rw [exec_sourceSwitch_of hs, State.consumeIf_met h]
  case neither =>
    intro i s hs
    rw [exec_settlingEnd_of hs, exec_sourceSwitch_of hs]
    exact ⟨fun h => congrArg _ (State.consumeIf_not_met h), fun h => congrArg _ (State.consumeIf_not_met h)⟩
  case force =>
    intro who i s x h u hx
    have hinst : (s.mbCount who).inst i.val = some x := hx
    rw [exec_switchForceA_of h, exec_switchForceB_of h, exec_switchAutomatic_of h]
    simp only [State.switchCmd_of hinst]
    exact ⟨rfl, rfl, rfl⟩
  case load =>
    intro f i k s w hup hstays hw
    rw [exec_filterLoad_of hup, State.filterLoad_made hstays hw, if_neg Bool.false_ne_true]
  case expired =>
    intro f i k s w hup hstays hw
    rw [exec_filterLoad_of hup, State.filterLoad_made hstays hw, if_pos rfl]
  case moving =>
    intro f i k s hmoving
    exact congrArg Host.Outcome.next (State.live_of_fixed (State.filterLoad_moving hmoving))

end Sys2Proof.Machine
end

section
/-! PROOFS. The evaluation of an element on one output: off, frozen, thawed, started (R138, R139, R142). -/

namespace Sys2Proof.Machine

open Sys2Proof Reg

/-! ## The cases of an evaluation (R138, R139, R142) -/

section Evaluation

variable {s : State} {n fd o : Nat} {e : Elem} {v : Int}

/-- An element that is blocked, or has MODE 0, is reset whatever it sees (R142). -/
theorem State.elemEval_off (h : s.elemBlocked n = true ∨ Ent.ELEM_MODE.of e.cfg = 0) :
    s.elemEval n e fd o = ({ e with trip := false, latched := false, integ := 0, started := false, on := 0 }, s) :=
  if_pos (by simpa using h)

/-- An unusable output within INV_HOLD freezes an element (R139). -/
theorem State.elemEval_frozen (hb : s.elemBlocked n = false) (hmode : Ent.ELEM_MODE.of e.cfg ≠ 0)
    (hv : elemValue (Ent.ELEM_VALUE_SEL.of e.cfg) o = (v, false))
    (hhold : e.frozen + 1 ≤ outputsIn (Ent.ELEM_INV_HOLD.of e.cfg * 1000) fd) :
    s.elemEval n e fd o = ({ e with frozen := e.frozen + 1 }, s) := by
  simp only [State.elemEval, hb, hmode, decide_false, Bool.or_self, hv, if_neg (Nat.not_lt.mpr hhold), Bool.false_eq_true, if_false,
    if_true]

/-- Beyond INV_HOLD an unusable output resets an element, and its trip holds only where it is latched (R139). -/
theorem State.elemEval_thawed (hb : s.elemBlocked n = false) (hmode : Ent.ELEM_MODE.of e.cfg ≠ 0)
    (hv : elemValue (Ent.ELEM_VALUE_SEL.of e.cfg) o = (v, false))
    (hover : outputsIn (Ent.ELEM_INV_HOLD.of e.cfg * 1000) fd < e.frozen + 1) :
    s.elemEval n e fd o = ({ e with frozen := e.frozen + 1, started := false, integ := 0, on := 0, idle := 0,
                                    trip := e.trip && (Ent.ELEM_LATCH.on e.cfg || e.latched) }, s) := by
  simp only [State.elemEval, hb, hmode, decide_false, Bool.or_self, hv, if_pos hover, Bool.false_eq_true, if_false, if_true]

/-- Above PICKUP a definite-time element counts the output, and trips where its count has reached DELAY (R138). -/
theorem State.elemEval_definite_started (hb : s.elemBlocked n = false) (hmode : Ent.ELEM_MODE.of e.cfg = 1)
    (hv : elemValue (Ent.ELEM_VALUE_SEL.of e.cfg) o = (v, true)) (hpick : (Ent.ELEM_PICKUP.of e.cfg : Int) < v) :
    s.elemEval n e fd o = ({ e with frozen := 0, started := true, on := e.on + 1, idle := 0,
                                    trip := e.trip || decide (outputsIn (Ent.ELEM_DELAY.of e.cfg) fd ≤ e.on + 1) }, s) := by
  simp only [State.elemEval, hb, hmode, Nat.one_ne_zero, decide_false, Bool.or_self, hv, hpick, true_or, Bool.false_eq_true,
    Bool.true_eq_false, if_false, if_true]

end Evaluation

/-- Settles O18: each clause is one case of `State.elemEval`. -/
theorem definiteTimeElementRule : Obligations.DefiniteTimeElementRule := by
  unfold Obligations.DefiniteTimeElementRule
  refine ⟨?started, ?frozen, ?thawed, ?off⟩
  case started =>
    intro s n fd o e v hb hmode hv hpick r
    have hr := State.elemEval_definite_started (fd := fd) hb hmode hv hpick
    simp only [r, hr, Bool.or_eq_true, decide_eq_true_eq, and_self]
  case frozen =>
    intro s n fd o e v hb hmode hv hhold
    exact State.elemEval_frozen hb hmode hv hhold
  case thawed =>
    intro s n fd o e v hb hmode hv hover
    exact State.elemEval_thawed hb hmode hv hover
  case off =>
    intro s n fd o e h
    exact State.elemEval_off h

end Sys2Proof.Machine
end

section
/-! PROOFS. Folios become ready, are dispatched on their pair and give it up (R161-R164). -/

namespace Sys2Proof.Machine

open Sys2Proof Reg

/-! ## The rows of dispatch (R155, R161, R162, R164) -/

section Rows

variable {s : State}

theorem exec_dispatchDeadline_of (h : s.fabricUp = true) (f : Fin 32) : exec (.dispatchDeadline f) s = .next (s.deadline f.val) :=
  congrArg Host.Outcome.next (State.live_of_up h _)

theorem exec_folioDispatch_of {p : Fin 12} (h : s.Runs (2 + p.val)) : exec (.folioDispatch p) s = .next (s.dispatch p.val) :=
  congrArg Host.Outcome.next (State.liveU_of_runs h _)

theorem exec_yield_of {f : Fin 32} (h : s.AdmitsOwn f) (hf : f ≠ 0) (consumed : List (Nat × Nat)) :
    exec (.yield (.folio f) f consumed) s = .next (s.yieldPair f.val) := by
  have hval : f.val ≠ 0 := Fin.val_ne_of_ne hf
  refine congrArg Host.Outcome.next ((State.admitOwn_of h _ _ _).trans ?_)
  rw [if_neg hval]

/-- Folio 0 stores what it has consumed of the service rings before it yields (R172). -/
theorem exec_yield_zero_of (h : s.AdmitsOwn 0) (consumed : List (Nat × Nat)) :
    exec (.yield (.folio 0) 0 consumed) s = .next ((consumed.foldl (fun s c => s.svcConsume c.1 c.2) s).yieldPair 0) :=
  congrArg Host.Outcome.next (State.admitOwn_of h _ _ _)

theorem exec_backgroundTimeslice_of {p : Fin 12} (h : s.Runs (2 + p.val)) :
    exec (.backgroundTimeslice p) s = .next (s.timeslice p.val) :=
  congrArg Host.Outcome.next (State.liveU_of_runs h _)

theorem exec_runBudgetExpire_of (h : s.fabricUp = true) (f : Fin 32) : exec (.runBudgetExpire f) s = .next (s.budgetExpire f.val) :=
  congrArg Host.Outcome.next (State.live_of_up h _)

end Rows

/-! ## Readiness at the deadline (R161) -/

section Deadline

variable {s : State} {f : Nat}

theorem State.deadline_passed (hload : s.loaded = true) (hon : s.folioOn f = true) (hbg : s.folioBg f = false)
    (hcyc : s.cycleAt (s.tai - s.deadlineNs f) ≠ 0) : s.deadline f = s.readyEvent f (s.cycleAt (s.tai - s.deadlineNs f) - 1) :=
  if_pos (by simp [hload, hon, hbg, hcyc])

theorem State.deadline_idle (h : s.loaded = false ∨ s.folioOn f = false ∨ s.folioBg f = true ∨
    s.cycleAt (s.tai - s.deadlineNs f) = 0) : s.deadline f = s :=
  if_neg (by rcases h with h | h | h | h <;> simp [h])

end Deadline

/-! ## Dispatch (R162, R163, R165) -/

/-- Pair `p` starts the run of folio `f` for cycle `n`: the cycle opens in the Clasp and the kernel is interrupted. -/
def State.startRun (s : State) (p f n : Nat) : State :=
  let u := (s.setCurrent p f 1).setFolSt f 3
  (((u.modFolio f (fun x => { x with ready := x.ready.filter (fun m => decide (m ≠ n)), dispatchAt := u.now, runningSince := u.now,
                                     rxFaulted := false, txFaulted := false })).openRun f n).kernelIrq f true).folRefresh

/-- Pair `p` lets background folio `f` run; one that was suspended keeps the marks of its RING faults. -/
def State.startBg (s : State) (p f : Nat) : State :=
  let u := (s.setCurrent p f 2).setFolSt f 3
  ((u.modFolio f (fun x => { x with runningSince := u.now, rxFaulted := x.rxFaulted && !decide (s.folSt f ≠ 4),
                                    txFaulted := x.txFaulted && !decide (s.folSt f ≠ 4) })).kernelIrq f true).folRefresh

/-- What keeps a pair from dispatching whatever waits for it: it is not in service, dispatch is off, no Binding is loaded, or a folio
of the cadence runs on it. -/
def State.DispatchBarred (s : State) (p : Nat) : Prop :=
  s.pairSt p ≠ 0 ∨ s.on FOL_CTRL_ENABLE = false ∨ s.loaded = false ∨ s.rdI FOL_P_CURRENT_MODE p = 1

theorem State.dispatch_barred {s : State} {p : Nat} (h : s.DispatchBarred p) : s.dispatch p = s := if_pos h

theorem State.not_dispatchBarred {s : State} {p : Nat} (hst : s.pairSt p = 0) (hen : s.on FOL_CTRL_ENABLE = true)
    (hload : s.loaded = true) (hmode : s.rdI FOL_P_CURRENT_MODE p ≠ 1) : ¬s.DispatchBarred p := by
  simp [State.DispatchBarred, hst, hen, hload, hmode]

section Dispatch

variable {s : State} {p f n : Nat} {again : Bool}

/-- A run of the cadence is dispatched on a pair that is free. -/
theorem State.dispatch_free (h : ¬s.DispatchBarred p) (hmode : s.rdI FOL_P_CURRENT_MODE p = 0) (hrun : s.pairRun p = some (f, again, n)) :
    s.dispatch p = s.startRun p f n := by
  refine (if_neg h).trans ?_
  rw [hrun, hmode]
  rfl

/-- A run of the cadence suspends the background folio of its pair. -/
theorem State.dispatch_over_background (h : ¬s.DispatchBarred p) (hmode : s.rdI FOL_P_CURRENT_MODE p = 2)
    (hrun : s.pairRun p = some (f, again, n)) : s.dispatch p = (s.setFolSt (s.rdI FOL_P_CURRENT_FOLIO p) 4).startRun p f n := by
  refine (if_neg h).trans ?_
  rw [hrun, hmode]
  rfl

/-- Where no run of the cadence waits, a free pair takes a background folio. -/
theorem State.dispatch_background (h : ¬s.DispatchBarred p) (hmode : s.rdI FOL_P_CURRENT_MODE p = 0) (hrun : s.pairRun p = none)
    (hbg : s.pairBg p = some f) : s.dispatch p = s.startBg p f := by
  refine (if_neg h).trans ?_
  rw [hrun, hmode, hbg]
  rfl

/-- Nothing waits for the pair beside what runs on it. -/
theorem State.dispatch_nothing_waits (hrun : s.pairRun p = none) (h : s.rdI FOL_P_CURRENT_MODE p = 2 ∨ s.pairBg p = none) :
    s.dispatch p = s := by
  by_cases hbar : s.DispatchBarred p
  · exact State.dispatch_barred hbar
  · refine (if_neg hbar).trans ?_
    rw [hrun]
    rcases h with hmode | hbg
    · exact if_pos hmode
    · rw [hbg]
      exact ite_self s

end Dispatch

/-! ## Giving the pair up (R162, R164) -/

section Yields

variable {s : State} {p f : Nat}

theorem State.yieldPair_running (hbg : s.folioBg f = true) (hst : s.folSt f = 3) : s.yieldPair f = (s.newTurn f).runOver f :=
  if_pos ⟨hbg, hst⟩

theorem State.budgetExpire_reached (hrun : (s.folio f).running ≠ none)
    (h : (s.folio f).dispatchAt + Ent.PLC_BUDGET_US.of (s.plc f) * 1000 ≤ s.now) : s.budgetExpire f = s.folFault f 4 0 0 := by
  obtain ⟨c, hc⟩ := Option.ne_none_iff_exists'.mp hrun
  rw [State.budgetExpire, hc]
  exact if_pos h

end Yields

/-- Settles O19: each clause is one case of `State.deadline`, of `State.dispatch`, or of the operation that gives the pair up. -/
theorem foliosAreDispatchedAndPreempted : Obligations.FoliosAreDispatchedAndPreempted := by
  unfold Obligations.FoliosAreDispatchedAndPreempted
  refine ⟨?deadline, ?noDeadline, ?nothing, ?free, ?overBackground, ?background, ?yield, ?yieldZero, ?timeslice, ?budget⟩
  case deadline =>
    intro f s hup hload hon hbg hcyc
    rw [exec_dispatchDeadline_of hup, State.deadline_passed hload hon hbg hcyc]
  case noDeadline =>
    intro f s h
    exact congrArg Host.Outcome.next (State.live_of_fixed (State.deadline_idle h))
  case nothing =>
    intro p s hs h
    rw [exec_folioDispatch_of hs]
    obtain hbar | ⟨hrun, hbg⟩ : s.DispatchBarred p.val ∨ (s.pairRun p.val = none ∧
        (s.rdI FOL_P_CURRENT_MODE p.val = 2 ∨ s.pairBg p.val = none)) := by
      simpa only [State.DispatchBarred, or_assoc] using h
    · rw [State.dispatch_barred hbar]
    · rw [State.dispatch_nothing_waits hrun hbg]
  case free =>
    intro p s f again n hs hst hen hload hmode hrun
    rw [exec_folioDispatch_of hs, State.dispatch_free (State.not_dispatchBarred hst hen hload (by omega)) hmode hrun]
    rfl
  case overBackground =>
    intro p s f again n hs hst hen hload hmode hrun u
    rw [exec_folioDispatch_of hs, State.dispatch_over_background (State.not_dispatchBarred hst hen hload (by omega)) hmode hrun]
    rfl
  case background =>
    intro p s f hs hst hen hload hmode hrun hbg u
    rw [exec_folioDispatch_of hs, State.dispatch_background (State.not_dispatchBarred hst hen hload (by omega)) hmode hrun hbg]
    rfl
  case yield =>
    intro f s hs hbg hst hf
    rw [exec_yield_of hs hf, State.yieldPair_running hbg hst]
  case yieldZero =>
    intro r n s hs hbg hst
    rw [exec_yield_zero_of hs, List.foldl_cons, List.foldl_nil, State.yieldPair_running hbg hst]
  case timeslice =>
    intro p s hs f hmode hsince hpeer
    rw [exec_backgroundTimeslice_of hs]
    exact congrArg Host.Outcome.next (if_pos ⟨hmode, hsince, hpeer⟩)
  case budget =>
    intro f s hup hrun h
    rw [exec_runBudgetExpire_of hup, State.budgetExpire_reached hrun h]

end Sys2Proof.Machine
end

section
/-! PROOFS. Folio faults: what raises one, its record and its action (R174, R175, R177). -/

namespace Sys2Proof.Machine

open Sys2Proof Reg

section Rows

variable {s : State}

theorem exec_folioFault_of (h : s.fabricUp = true) (f : Fin 32) (acc : MemAcc) (len : Fin 9) (addr epc : BitVec 64) :
    exec (.folioFault f acc len addr epc) s = .next (s.folioAccess f.val acc addr.toNat len.val epc.toNat) :=
  congrArg Host.Outcome.next (State.live_of_up h _)

/-- A pair's own kernel writes FOL_P_KFAULT. -/
theorem exec_kernelFault_of {p : Fin 12} (hup : s.fabricUp = true) (hfence : s.fenced (.kernel p) = false) (f : Fin 32) (code : BitVec 8) :
    exec (.kernelFault (.kernel p) p f code) s = .next (s.kernelFault p.val f.val code.toNat) :=
  congrArg Host.Outcome.next ((State.live_of_up hup _).trans (if_pos ⟨rfl, hfence⟩))

end Rows

section Faults

variable {s : State} {f a n epc : Nat} {acc : MemAcc}

theorem State.folioAccess_faults {c : Nat} (hst : s.folSt f = 3) (h : s.accessCause f acc a n = some c) :
    s.folioAccess f acc a n epc = s.folFault f c a epc := by
  rw [State.folioAccess, if_neg (not_not_intro hst), h]

theorem State.folioAccess_allowed (h : s.folSt f ≠ 3 ∨ s.accessCause f acc a n = none) : s.folioAccess f acc a n epc = s := by
  rcases h with hst | hcause
  · exact if_pos hst
  · rw [State.folioAccess, hcause]
    exact ite_self s

theorem State.kernelFault_declared {p code : Nat} (hp : s.folPair f = p) (hcode : 0x80 ≤ code) :
    s.kernelFault p f code = s.folFault f code 0 0 :=
  if_pos ⟨hp, hcode⟩

theorem State.kernelFault_ignored {p code : Nat} (h : s.folPair f ≠ p ∨ code < 0x80) : s.kernelFault p f code = s :=
  if_neg (by omega)

end Faults

/-- Settles O20: an access and a kernel's write are judged before `State.folFault`, which is one case for a folio in service. -/
theorem folioFaultsAreRecorded : Obligations.FolioFaultsAreRecorded := by
  unfold Obligations.FolioFaultsAreRecorded
  refine ⟨?access, ?allowed, ?kernel, ?record⟩
  case access =>
    intro f acc len addr epc s c hup hst hcause
    rw [exec_folioFault_of hup, State.folioAccess_faults hst hcause]
  case allowed =>
    intro f acc len addr epc s h
    exact congrArg Host.Outcome.next (State.live_of_fixed (State.folioAccess_allowed h))
  case kernel =>
    intro p f code s hup hfence
    rw [exec_kernelFault_of hup hfence]
    refine ⟨fun hp hcode => ?_, fun h => ?_⟩
    · rw [State.kernelFault_declared hp hcode]
    · rw [State.kernelFault_ignored h]
  case record =>
    intro s f cause addr epc hplaced hrunning hstays hmatch
    exact if_neg (by simp only [hplaced, hrunning, hstays, hmatch, or_self, Bool.false_eq_true, not_false_eq_true])

end Sys2Proof.Machine
end

section
/-! PROOFS. Host commands on a folio, the end of its reset, and its ring tails (R155, R165, R167, R170, R176, R177). -/

namespace Sys2Proof.Machine

open Sys2Proof Reg

/-! ## The rows of a folio's control register and of its rings -/

/-- No folio but the Supervisor's makes a write of a register that is not its own (R155). -/
theorem State.Admits.folio_eq_zero {s : State} {n : Fin 32} {o : Nat} {host : Bool} (h : s.Admits (.folio n) o host) : n.val = 0 := by
  obtain ⟨-, hw⟩ := h
  simp only [State.mayWrite, State.permits, Bool.and_eq_true, decide_eq_true_eq] at hw
  exact hw.2

section Rows

variable {s : State} {who : Agent} {f : Fin 32}

theorem State.admitFolCtrl_of {f : Nat} (h : s.Admits who (0x71000 + 64 * f) true) (c : Instr) (act : State → State) :
    s.admitFolCtrl c who f act = act (s.mbCount who) := by
  cases who with
  | folio n =>
    have hn := h.folio_eq_zero
    exact (if_neg (by omega)).trans (State.allow_of h c act)
  | kernel p => exact State.allow_of h c act
  | mgmt => exact State.allow_of h c act
  | debug => exact State.allow_of h c act

theorem exec_folioReset_of (h : s.Admits who (0x71000 + 64 * f.val) true) :
    exec (.folioReset who f) s = .next ((s.mbCount who).hostReset f.val) :=
  congrArg Host.Outcome.next (State.admitFolCtrl_of h _ _)

theorem exec_folioHalt_of (h : s.Admits who (0x71000 + 64 * f.val) true) :
    exec (.folioHalt who f) s = .next ((s.mbCount who).haltCmd who f.val) :=
  congrArg Host.Outcome.next (State.admitFolCtrl_of h _ _)

theorem exec_folioResume_of (h : s.Admits who (0x71000 + 64 * f.val) true) :
    exec (.folioResume who f) s = .next ((s.mbCount who).hostResume f.val) :=
  congrArg Host.Outcome.next (State.admitFolCtrl_of h _ _)

theorem exec_folioResetDone_of (h : s.fabricUp = true) (f : Fin 32) : exec (.folioResetDone f) s = .next (s.resetDone f.val) :=
  congrArg Host.Outcome.next (State.live_of_up h _)

theorem exec_rxTailWrite_of (h : s.AdmitsOwn f) (tail : BitVec 16) (ds : List Nat) :
    exec (.rxTailWrite (.folio f) f tail ds) s = .next (s.rxTail f.val tail.toNat ds) :=
  congrArg Host.Outcome.next (State.admitOwn_of h _ _ _)

theorem exec_txTailWrite_of (h : s.AdmitsOwn f) (tail : BitVec 16) (ds : List Nat) :
    exec (.txTailWrite (.folio f) f tail ds) s = .next (s.txTail f.val tail.toNat ds) :=
  congrArg Host.Outcome.next (State.admitOwn_of h _ _ _)

end Rows

/-! ## RESET, HALT and RESUME (R176, R177) -/

section Commands

variable {s : State} {who : Agent} {f : Nat}

/-- A folio that is not placed or is halted takes no RESET. -/
theorem State.hostReset_out (h : s.folSt f = 0 ∨ s.folSt f = 6) : s.hostReset f = s := if_pos h

theorem State.hostReset_moving (h : s.folSt f = 7) : s.hostReset f = s.modFolio f (fun x => { x with deferred := max x.deferred 1 }) :=
  (if_neg (by omega)).trans (if_pos h)

theorem State.hostReset_serving (hplaced : s.folSt f ≠ 0) (hrunning : s.folSt f ≠ 6) (hstays : s.folSt f ≠ 7) :
    s.hostReset f = s.folResetOrHalt f :=
  (if_neg (by omega)).trans (if_neg hstays)

/-- A folio that is not placed or is halted takes no HALT. -/
theorem State.hostHalt_out (h : s.folSt f = 0 ∨ s.folSt f = 6) : s.hostHalt f = s := if_pos h

theorem State.hostHalt_moving (h : s.folSt f = 7) : s.hostHalt f = s.modFolio f (fun x => { x with deferred := 2 }) :=
  (if_neg (by omega)).trans (if_pos h)

theorem State.hostHalt_serving (hplaced : s.folSt f ≠ 0) (hrunning : s.folSt f ≠ 6) (hstays : s.folSt f ≠ 7) :
    s.hostHalt f = s.folHalt f 1 :=
  (if_neg (by omega)).trans (if_neg hstays)

theorem isSup_iff : isSup who = true ↔ who = .folio 0 := by
  cases who with
  | folio n =>
    exact decide_eq_true_iff.trans ⟨fun h => congrArg Agent.folio (Fin.ext h), fun h => congrArg Fin.val (Agent.folio.inj h)⟩
  | kernel p => simp [isSup]
  | mgmt => simp [isSup]
  | debug => simp [isSup]

/-- The Supervisor's HALT of itself is ignored. -/
theorem State.haltCmd_self (hwho : who = .folio 0) (hf : f = 0) : s.haltCmd who f = s :=
  if_pos (by simp [isSup_iff.mpr hwho, hf])

theorem State.haltCmd_other (h : ¬(who = .folio 0 ∧ f = 0)) : s.haltCmd who f = s.hostHalt f :=
  if_neg (by simpa [isSup_iff] using h)

/-- A HALT does nothing to a folio that is not placed or is halted, whoever writes it. -/
theorem State.haltCmd_out (h : s.folSt f = 0 ∨ s.folSt f = 6) : s.haltCmd who f = s := by
  rw [State.haltCmd, State.hostHalt_out h, ite_self]

theorem State.hostResume_notHalted (h : s.folSt f ≠ 6) : s.hostResume f = s := if_pos h

theorem State.hostResume_placed (hst : s.folSt f = 6) (hpair : s.folPair f ≠ 15) :
    s.hostResume f = (s.wrI FOL_F_STATUS_HALT_CAUSE f 0).folReset f :=
  (if_neg (not_not_intro hst)).trans (if_pos hpair)

theorem State.takeSpare_none (h : s.nextSpare = none) : s.takeSpare = (none, s) := by
  rw [State.takeSpare, h]

theorem State.takeSpare_some {p : Nat} (h : s.nextSpare = some p) : s.takeSpare = (some p, s.wrI FOL_P_STATE p 0) := by
  rw [State.takeSpare, h]

/-- A halted folio without a pair stays halted where no spare is left (R181). -/
theorem State.hostResume_noSpare (hst : s.folSt f = 6) (hpair : s.folPair f = 15) (hspare : s.nextSpare = none) :
    s.hostResume f = s.pairAnswer 1 := by
  refine ((if_neg (not_not_intro hst)).trans (if_neg (not_not_intro hpair))).trans ?_
  rw [State.takeSpare_none hspare]

/-- A halted folio without a pair is placed on the lowest spare (R181). -/
theorem State.hostResume_onSpare {p : Nat} (hst : s.folSt f = 6) (hpair : s.folPair f = 15) (hspare : s.nextSpare = some p) :
    s.hostResume f = (((((s.wrI FOL_P_STATE p 0).wrI FOL_F_STATUS_PAIR f p).wrI FOL_F_STATUS_ON_SPARE f 1).wrI FOL_F_STATUS_ON_FALLBACK
      f 0).wrI FOL_F_STATUS_HALT_CAUSE f 0).folReset f := by
  refine ((if_neg (not_not_intro hst)).trans (if_neg (not_not_intro hpair))).trans ?_
  rw [State.takeSpare_some hspare]

end Commands

/-! ## The transmit tail (R114, R167) -/

/-- The descriptors of a TX_PTR.TAIL write lie in the ring, and TAIL is the new one. -/
def State.txPosted (s : State) (f tail : Nat) (ds : List Nat) : State :=
  (s.modFolio f (fun x => { x with tx := postDescs x.tx (2 ^ s.rdI FOL_F_RING_CFG_TX_LOG2 f) (s.rdI FOL_F_TX_PTR_TAIL f) ds })).wrI
    FOL_F_TX_PTR_TAIL f tail

/-- The places between the old TAIL and the new one. -/
def State.txNew (s : State) (f tail : Nat) : List Nat :=
  let size := 2 ^ s.rdI FOL_F_RING_CFG_TX_LOG2 f
  let old := s.rdI FOL_F_TX_PTR_TAIL f
  (List.range ((tail + size - old % size) % size)).map (fun i => (old + i) % size)

/-- Whether the folio's software gave a transmit descriptor to the module. -/
def State.txOwned (s : State) (f i : Nat) : Bool := Ent.TXD_OWN.on ((s.folio f).tx.get i 0)

/-- What becomes of newly posted descriptors. -/
def State.txTake (s : State) (f : Nat) (new : List Nat) : State :=
  if s.folioBg f then new.foldl (fun s i => if s.txOwned f i then s.txSend f i false else s) s
  else match (s.folio f).running with
    | some c => s.modCyc f c.cycle (fun c => { c with posted := c.posted ++ new.filter (s.txOwned f) })
    | none => s.txReturn f new 1

section Transmit

variable {s : State} {f : Nat}

theorem State.txTail_eq (s : State) (f tail : Nat) (ds : List Nat) :
    s.txTail f tail ds = (((s.txPosted f tail ds).txTake f (s.txNew f tail)).txAdvance 4096 f).takeRingFaults := rfl

theorem State.txTake_background (hbg : s.folioBg f = true) (new : List Nat) :
    s.txTake f new = new.foldl (fun s i => if s.txOwned f i then s.txSend f i false else s) s :=
  if_pos hbg

theorem State.txTake_run {c : Cyc} (hbg : s.folioBg f = false) (hrun : (s.folio f).running = some c) (new : List Nat) :
    s.txTake f new = s.modCyc f c.cycle (fun c => { c with posted := c.posted ++ new.filter (s.txOwned f) }) := by
  rw [State.txTake, hbg, hrun]
  rfl

theorem State.txTake_noRun (hbg : s.folioBg f = false) (hrun : (s.folio f).running = none) (new : List Nat) :
    s.txTake f new = s.txReturn f new 1 := by
  rw [State.txTake, hbg, hrun]
  rfl

end Transmit

/-- Settles O21: each clause is one case of a host command, of `State.resetDone`, or of what a tail write posts. -/
theorem foliosAreResetHaltedAndServed : Obligations.FoliosAreResetHaltedAndServed := by
  unfold Obligations.FoliosAreResetHaltedAndServed
  refine ⟨?serving, ?otherStates, ?resume, ?resetDone, ?notResetting, ?receive, ?transmit⟩
  case serving =>
    intro who f s h u hplaced hrunning hstays
    rw [exec_folioReset_of h, exec_folioHalt_of h]
    refine ⟨?_, fun hother => ?_⟩
    · rw [State.hostReset_serving hplaced hrunning hstays]
    · rw [State.haltCmd_other hother, State.hostHalt_serving hplaced hrunning hstays]
  case otherStates =>
    intro who f s h u
    rw [exec_folioReset_of h, exec_folioHalt_of h, exec_folioResume_of h]
    refine ⟨fun hout => ⟨?_, ?_⟩, fun hmoves => ⟨?_, fun hother => ?_⟩, fun hwho hf => ?_, fun hst => ?_, fun hst hpair hspare => ?_,
      fun p hst hpair hspare => ?_⟩
    · rw [State.hostReset_out hout]
    · rw [State.haltCmd_out hout]
    · rw [State.hostReset_moving hmoves]
    · rw [State.haltCmd_other hother, State.hostHalt_moving hmoves]
    · rw [State.haltCmd_self hwho hf]
    · rw [State.hostResume_notHalted hst]
    · rw [State.hostResume_noSpare hst hpair hspare]
    · rw [State.hostResume_onSpare hst hpair hspare]
  case resume =>
    intro who f s h u hst hpair
    rw [exec_folioResume_of h, State.hostResume_placed hst hpair]
  case resetDone =>
    intro f s hup hst
    rw [exec_folioResetDone_of hup, State.resetDone, if_pos hst]
  case notResetting =>
    intro f s hst
    exact congrArg Host.Outcome.next (State.live_of_fixed (if_neg hst))
  case receive =>
    intro f tail ds s hs
    exact exec_rxTailWrite_of hs tail ds
  case transmit =>
    intro f tail ds s hs size old new u mine
    rw [exec_txTailWrite_of hs, State.txTail_eq]
    refine ⟨fun c hbg hrun => ?_, fun hbg hrun => ?_, fun hbg => ?_⟩
    · rw [State.txTake_run (s := s.txPosted f.val tail.toNat ds) hbg hrun]
      rfl
    · rw [State.txTake_noRun (s := s.txPosted f.val tail.toNat ds) hbg hrun]
      rfl
    · rw [State.txTake_background (s := s.txPosted f.val tail.toNat ds) hbg]
      rfl

end Sys2Proof.Machine
end

section
/-! PROOFS. Core pairs: mismatches and substitution, and the pair commands (R178, R179, R184, R185). -/

namespace Sys2Proof.Machine

open Sys2Proof Reg

/-! ## The rows of the core pairs (R178, R179, R184, R185) -/

section Rows

variable {s : State} {who : Agent}

theorem exec_lockstepMismatch_of {p : Fin 12} (h : s.Runs (2 + p.val)) :
    exec (.lockstepMismatch p) s = .next (((s.abortPairTest p.val).mismatch p.val).hkaFollow s false) :=
  congrArg Host.Outcome.next (State.liveU_of_runs h _)

theorem exec_substitutionDone_of (h : s.fabricUp = true) : exec .substitutionDone s = .next s.subDone :=
  congrArg Host.Outcome.next (State.live_of_up h _)

theorem exec_pairRetire_of (h : s.Admits who 0x70010 true) (p : Fin 16) :
    exec (.pairRetire who p) s =
      .next ((((s.mbCount who).pairFields 1 p.val).pairRetire p.val).hkaFollow (s.mbCount who) true) :=
  congrArg Host.Outcome.next (State.allow_of h _ _)

theorem exec_pairRestore_of (h : s.Admits who 0x70010 true) (p : Fin 16) :
    exec (.pairRestore who p) s = .next (((s.mbCount who).pairFields 2 p.val).pairRestore p.val) :=
  congrArg Host.Outcome.next (State.allow_of h _ _)

theorem exec_pairRestoreDone_of (h : s.fabricUp = true) (pass : Bool) :
    exec (.pairRestoreDone pass) s = .next (s.pairRestoreDone pass) :=
  congrArg Host.Outcome.next (State.live_of_up h _)

theorem exec_migrate_of (h : s.Admits who 0x70010 true) (p : Fin 16) :
    exec (.migrate who p) s = .next (((s.mbCount who).pairFields 3 p.val).migrate p.val) :=
  congrArg Host.Outcome.next (State.allow_of h _ _)

theorem exec_migrationMove_of (h : s.fabricUp = true) : exec .migrationMove s = .next (s.migrateMove.hkaFollow s true) :=
  congrArg Host.Outcome.next (State.live_of_up h _)

end Rows

/-! ## Lockstep mismatches (R178, R179) -/

/-- A pair is retired for a lockstep mismatch, and the mismatch counted. -/
def State.mismatchRetired (s : State) (p : Nat) : State :=
  ((s.bump FOL_MISMATCHES).flag FOL_TROUBLE_MISMATCH).wrI FOL_P_STATE p 2

/-- A folio of a failed pair is MOVING and its runs LOST; `a` carries the runs lost so far. -/
def loseFolio (a : Nat × State) (f : Nat) : Nat × State :=
  (a.1 + ((a.2.folMoving f).loseRuns f).1, ((a.2.folMoving f).loseRuns f).2)

/-- The folios `fs` leave the failed pair `p`, and their substitution begins onto the next spare, if there is one. -/
def State.startSubstitution (s : State) (p : Nat) (fs : List Nat) : State :=
  let lost := fs.foldl loseFolio (0, s)
  let spare := lost.2.takeSpare
  (spare.2.onFol (fun e => { e with subs := e.subs ++ [{
    from_ := p, to_ := spare.1, folios := folMask fs, lost := lost.1, tai := spare.2.taiNs, at_ := spare.2.now,
    cycle := spare.2.cycle }] })).folRefresh

section Mismatch

variable {s : State} {p : Nat}

/-- With no test on demand there is none to abort. -/
theorem State.abortPairTest_of_noTest (h : s.sys.test = none) (p : Nat) : s.abortPairTest p = s := by
  rw [State.abortPairTest, h]

/-- A pair that is RETIRED or TESTING is out of service already. -/
theorem State.mismatch_outOfService (h : s.pairSt p = 2 ∨ s.pairSt p = 3) : s.mismatch p = s :=
  if_pos (by omega)

theorem State.mismatchRetired_fol (s : State) (p : Nat) : (s.mismatchRetired p).fol = s.fol := rfl

/-- While no migration and no substitution is in progress, a mismatch concerns the folios of its own pair alone. -/
theorem State.mismatch_eq (hp : p < 12) (hret : s.pairSt p ≠ 2) (htest : s.pairSt p ≠ 3) (hmig : s.fol.mig = none)
    (hsubs : s.fol.subs = []) : s.mismatch p =
      if (s.pairFolios p).isEmpty then (s.mismatchRetired p).folRefresh else (s.mismatchRetired p).startSubstitution p (s.pairFolios p) := by
  have hin : ¬(s.pairSt p = 2 ∨ s.pairSt p = 3 ∨ 12 ≤ p) := by omega
  simp only [State.mismatch, if_neg hin, ← State.mismatchRetired.eq_1, State.mismatchRetired_fol, hmig, hsubs, List.filter_nil,
    List.foldl_nil]
  rfl

/-- A pair without folios is retired, and nothing moves. -/
theorem State.mismatch_noFolios (hp : p < 12) (hret : s.pairSt p ≠ 2) (htest : s.pairSt p ≠ 3) (hmig : s.fol.mig = none)
    (hsubs : s.fol.subs = []) (hfs : s.pairFolios p = []) : s.mismatch p = (s.mismatchRetired p).folRefresh := by
  rw [State.mismatch_eq hp hret htest hmig hsubs, hfs]
  rfl

/-- The folios of a pair lose their runs and move to the next spare, if there is one. -/
theorem State.mismatch_folios (hp : p < 12) (hret : s.pairSt p ≠ 2) (htest : s.pairSt p ≠ 3) (hmig : s.fol.mig = none)
    (hsubs : s.fol.subs = []) (hfs : s.pairFolios p ≠ []) :
    s.mismatch p = (s.mismatchRetired p).startSubstitution p (s.pairFolios p) := by
  rw [State.mismatch_eq hp hret htest hmig hsubs, if_neg (by simpa using hfs)]

theorem State.startSubstitution_of {t : State} {fs : List Nat} {lost : Nat} (h : fs.foldl loseFolio (0, s) = (lost, t)) :
    s.startSubstitution p fs = ((t.takeSpare.2).onFol (fun e => { e with subs := e.subs ++ [{
      from_ := p, to_ := t.takeSpare.1, folios := folMask fs, lost := lost, tai := t.takeSpare.2.taiNs,
      at_ := t.takeSpare.2.now, cycle := t.takeSpare.2.cycle }] })).folRefresh := by
  rw [State.startSubstitution, h]

theorem State.subDone_none (h : s.fol.subs = []) : s.subDone = s := by
  rw [State.subDone, h]

theorem State.subDone_onSpare {j : SubJob} {rest : List SubJob} (h : s.fol.subs = j :: rest) (hto : j.to_ = some p) :
    s.subDone = ((((((s.onFol (fun e => { e with subs := rest })).moveTo (maskFolios j.folios) p true).bump FOL_MOVES).flag
      FOL_TROUBLE_SUBSTITUTED).folNotice 1 j.from_ p j.folios j.lost j.tai j.at_ j.cycle).folRefresh) := by
  simp only [State.subDone, h, hto]

end Mismatch

/-! ## Pair commands (R184, R185) -/

/-- A pair command does `t` on a pair in state `st`, unless another is in progress. -/
def State.pairGate (s : State) (p st : Nat) (t : State) : State :=
  if s.on FOL_PAIR_CMD_STATUS_BUSY then s.pairAnswer 4
  else if 12 ≤ p ∨ s.pairSt p ≠ st then s.pairAnswer 2
  else t

section Commands

variable {s t : State} {p st : Nat}

theorem State.pairGate_busy (h : s.on FOL_PAIR_CMD_STATUS_BUSY = true) : s.pairGate p st t = s.pairAnswer 4 := if_pos h

theorem State.pairGate_badState (hidle : s.on FOL_PAIR_CMD_STATUS_BUSY = false) (h : 12 ≤ p ∨ s.pairSt p ≠ st) :
    s.pairGate p st t = s.pairAnswer 2 := by
  rw [State.pairGate, hidle, if_neg Bool.false_ne_true, if_pos h]

theorem State.pairGate_taken (hidle : s.on FOL_PAIR_CMD_STATUS_BUSY = false) (hp : p < 12) (hst : s.pairSt p = st) :
    s.pairGate p st t = t := by
  rw [State.pairGate, hidle, if_neg Bool.false_ne_true, if_neg (by omega)]

theorem State.pairRetire_eq (s : State) (p : Nat) :
    s.pairRetire p = s.pairGate p 1 (((s.wrI FOL_P_STATE p 2).folRefresh).pairAnswer 0) := rfl

theorem State.pairRestore_eq (s : State) (p : Nat) :
    s.pairRestore p = s.pairGate p 2 (((s.wrI FOL_P_STATE p 3).begin FOL_PAIR_CMD_STATUS_BUSY).onFol (fun e =>
      { e with restoring := some { from_ := p, to_ := 15, tai := s.taiNs, at_ := s.now, cycle := s.cycle } })).folRefresh := rfl

theorem State.migrate_eq (s : State) (p : Nat) :
    s.migrate p = s.pairGate p 0 (if s.nextSpare.isNone then (s.folNoticeNow 7 p 0).pairAnswer 1
      else ((s.begin FOL_PAIR_CMD_STATUS_BUSY).onFol (fun e =>
        { e with mig := some { from_ := p, to_ := 15, tai := s.taiNs, at_ := s.now, cycle := s.cycle } })).folRefresh) := rfl

theorem State.pairRestoreDone_idle (h : s.fol.restoring = none) (pass : Bool) : s.pairRestoreDone pass = s := by
  rw [State.pairRestoreDone, h]

theorem State.pairRestoreDone_ends {j : MigJob} (h : s.fol.restoring = some j) (pass : Bool) :
    s.pairRestoreDone pass = ((((((s.onFol (fun e => { e with restoring := none })).wrI FOL_P_STATE j.from_ (if pass then 1 else 2)).flagIf
      (!pass) FOL_TROUBLE_RESTORE_FAIL).folNotice (if pass then 5 else 6) j.from_ 15 0 0 j.tai j.at_ j.cycle).pairCmdEnd
        (if pass then 0 else 3)).folRefresh) := by
  simp only [State.pairRestoreDone, h]

end Commands

/-! ## The move of a migration (R184) -/

/-- A folio leaves the migrating pair: a background folio loses its unsealed batch (R182). -/
def State.leavePair (s : State) (f : Nat) : State :=
  if s.folioBg f then ((s.folMoving f).loseRuns f).2 else s.folMoving f

section Migration

variable {s t : State} {m : MigJob} {p : Nat}

/-- The boundary has not passed, or a run of the cadence is still on the pair. -/
theorem State.migrateMove_waits (hmig : s.fol.mig = some m) (h : m.stopped = false ∨ s.rdI FOL_P_CURRENT_MODE m.from_ = 1) :
    s.migrateMove = s := by
  simp only [State.migrateMove, hmig, if_pos h]

theorem State.migrateMove_onSpare (hmig : s.fol.mig = some m) (hstop : m.stopped = true) (hidle : s.rdI FOL_P_CURRENT_MODE m.from_ ≠ 1)
    (hspare : (s.onFol (fun e => { e with mig := none })).takeSpare = (some p, t)) :
    s.migrateMove = ((((((((t.pairFolios m.from_).foldl State.leavePair t).wrI FOL_P_STATE m.from_ 2).moveTo (t.pairFolios m.from_) p
      true).bump FOL_MOVES).flag FOL_TROUBLE_SUBSTITUTED).folNotice 2 m.from_ p (folMask (t.pairFolios m.from_)) 0 m.tai m.at_
        m.cycle).pairCmdEnd 0).folRefresh := by
  have hgo : ¬(m.stopped = false ∨ s.rdI FOL_P_CURRENT_MODE m.from_ = 1) := by simp [hstop, hidle]
  simp only [State.migrateMove, hmig, if_neg hgo, hspare]
  rfl

end Migration

/-- Settles O22: each clause is one case of `State.mismatch`, of `State.subDone`, of a pair command, or of `State.migrateMove`. -/
theorem corePairsAreSubstitutedAndMoved : Obligations.CorePairsAreSubstitutedAndMoved := by
  unfold Obligations.CorePairsAreSubstitutedAndMoved
  refine ⟨?noFolios, ?outOfService, ?folios, ?idle, ?substituted, ?retire, ?restore, ?restoreDone, ?migrate, ?refused, ?waits, ?move⟩
  case noFolios =>
    intro p s hs hdemand hret htest hfs hmig hsubs
    rw [exec_lockstepMismatch_of hs, State.abortPairTest_of_noTest hdemand, State.mismatch_noFolios p.isLt hret htest hmig hsubs hfs]
    rfl
  case outOfService =>
    intro p s hs hdemand h
    rw [exec_lockstepMismatch_of hs, State.abortPairTest_of_noTest hdemand, State.mismatch_outOfService h]
  case folios =>
    intro p s t lost hs hdemand hret htest hfs hmig hsubs u hlost
    rw [exec_lockstepMismatch_of hs, State.abortPairTest_of_noTest hdemand,
      State.mismatch_folios p.isLt hret htest hmig hsubs hfs, State.startSubstitution_of (s := s.mismatchRetired p.val) hlost]
  case idle =>
    intro s
    refine ⟨fun hsubs => ?_, fun pass hrest => ?_⟩
    · exact congrArg Host.Outcome.next (State.live_of_fixed (State.subDone_none hsubs))
    · exact congrArg Host.Outcome.next (State.live_of_fixed (State.pairRestoreDone_idle hrest pass))
  case substituted =>
    intro s j rest p hup hsubs hto
    rw [exec_substitutionDone_of hup, State.subDone_onSpare hsubs hto]
  case retire =>
    intro who p s h hp u hidle hst
    rw [exec_pairRetire_of h, State.pairRetire_eq, State.pairGate_taken hidle hp hst]
  case restore =>
    intro who p s h hp u hidle hst
    rw [exec_pairRestore_of h, State.pairRestore_eq, State.pairGate_taken hidle hp hst]
  case restoreDone =>
    intro pass s j hup hrest
    rw [exec_pairRestoreDone_of hup, State.pairRestoreDone_ends hrest]
  case migrate =>
    intro who p s h hp u hidle hst hspare
    rw [exec_migrate_of h, State.migrate_eq, State.pairGate_taken hidle hp hst, hspare, if_neg Bool.false_ne_true]
  case refused =>
    intro who p s h u
    rw [exec_pairRetire_of h, exec_pairRestore_of h, exec_migrate_of h, State.pairRetire_eq, State.pairRestore_eq, State.migrate_eq]
    refine ⟨fun hbusy => ?_, fun hbusy => ?_, fun hbusy => ?_, fun hidle hst => ?_, fun hidle hst => ?_, fun hidle hst => ?_,
      fun hidle hp hst hspare => ?_⟩
    · rw [State.pairGate_busy hbusy]
    · rw [State.pairGate_busy hbusy]
    · rw [State.pairGate_busy hbusy]
    · rw [State.pairGate_badState hidle hst]
    · rw [State.pairGate_badState hidle hst]
    · rw [State.pairGate_badState hidle hst]
    · rw [State.pairGate_taken hidle hp hst, hspare, if_pos rfl]
  case waits =>
    intro s m hmig h hup
    rw [exec_migrationMove_of hup, State.migrateMove_waits hmig h]
  case move =>
    intro s t m p hup hmig hstop hidle hspare fs u
    rw [exec_migrationMove_of hup, State.migrateMove_onSpare hmig hstop hidle hspare]
    rfl

end Sys2Proof.Machine
end

section
/-! PROOFS. Scans of the logic engine: start, commit, abandonment, and what an abandonment leaves (R186-R192, R195, R205). -/

namespace Sys2Proof.Machine

open Sys2Proof Reg

/-! ## The rows of the scans (R187, R192, R205) -/

section Rows

variable {s : State}

theorem exec_scanStart_of (h : s.fabricUp = true) : exec .scanStart s = .next (s.scanStart.gthImage s.lge.committed) :=
  congrArg Host.Outcome.next (State.live_of_up h _)

theorem exec_scanCommit_of (h : s.fabricUp = true) : exec .scanCommit s = .next (s.scanCommit.gthImage s.lge.committed) :=
  congrArg Host.Outcome.next (State.live_of_up h _)

theorem exec_scanBudgetExpire_of (h : s.fabricUp = true) (stitch : BitVec 16) :
    exec (.scanBudgetExpire stitch) s = .next ((s.scanExpire stitch.toNat).gthImage s.lge.committed) :=
  congrArg Host.Outcome.next (State.live_of_up h _)

end Rows

/-! ## The start of a scan (R186-R191) -/

/-- The state at the SNAPSHOT of scan `no`: the flips, a RESTART and the waiting force have been taken. -/
def State.atSnapshot (s : State) (no : Nat) : State :=
  (((s.onLge (fun e => { e with scanNo := no })).lgeFlips no).lgeRestart no).forceAtSnapshot no

/-- The scan that SNAPSHOT latches in state `s`, with the objects' status image `objs`. -/
def State.snapshotScan (s : State) (no delta objs : Nat) : Scan :=
  { no := no, at_ := s.now, startTai := s.taiNs, delta := delta, budget := s.rd LGE_SCAN_CFG_BUDGET_US,
    period := s.rd LGE_SCAN_CFG_PERIOD_US, x := s.lgeX objs, f := s.lgeF, g := s.lgeG }

/-- Scan `no` opens: what comes before it, SNAPSHOT, and the RING faults raised on the way. -/
def State.openScan (s : State) (no : Nat) : State :=
  let snap := (s.atSnapshot no).ctlSnapshot no
  let sc := snap.2.snapshotScan no (s.atSnapshot no).lgeDelta snap.1
  ((snap.2.onLge (fun e => { e with scan := some sc })).lgeRefresh).takeRingFaults

/-! ## COMMIT (R186, R192, R195, R199) -/

/-- The image that scan `c` commits: its working image with the scan number, start time, status flags and stamp. -/
def State.commitImage (s : State) (c : Scan) : Store :=
  s.imgStamp (imgPut (imgPut (imgPut (s.scanRun c).img 0 8 c.no) 8 8 c.startTai) 0x1C 4
    (b2n s.lge.overrunPrev + 2 * b2n (s.on LGE_STATUS_STALLED)))

/-- Scan `c` ends with its image committed; no overrun is in force any more. -/
def State.imageCommitted (s : State) (c : Scan) : State :=
  let a := s.onLge (fun e => { e with
    prev := e.committed, prevStart := e.lastStart, commitAt := s.now, committed := s.commitImage c, scan := none,
    lastStart := some c.at_, nextAt := s.afterScan c, first := false, tipin := false, overrunPrev := false, promoted := false,
    promotedNext := false, consec := 0 })
  ((a.wr LGE_STATUS_STALLED 0).wr LGE_LAST_OVERRUN_CONSEC 0).wr LGE_SCAN_NO c.no

/-- Scan `c` is counted, and its times are shown. -/
def State.scanCounted (s : State) (c : Scan) : State :=
  let t := satNat 16 ((s.now - c.at_) / 100)
  let d := satNat 16 (c.delta / 1000)
  ((((s.bump LGE_SCANS).wr LGE_SCAN_TIME_LAST t).wr LGE_SCAN_TIME_PEAK (max t (s.rd LGE_SCAN_TIME_PEAK))).wr
    LGE_SCAN_DELTA_LAST_DELTA d).wr LGE_SCAN_DELTA_MAX_DELTA (max d (s.rd LGE_SCAN_DELTA_MAX_DELTA))

/-- The EVT requests `evts` of scan `c` become records, 64 at most; the rest is counted as dropped. -/
def State.scanEvents (s : State) (c : Scan) (evts : List Nat) : State :=
  let w := (evts.take 64).foldl (fun s i =>
    s.eventLogic (Ent.STI_INDEX.of (s.useEnt 0x901 i)) c.startTai (Ent.STI_STABLE_ID.of (s.useEnt 0x901 i)) c.no) s
  if 64 < evts.length then (w.bumpBy LGE_EVT_DROP (evts.length - 64)).flag LGE_TROUBLE_EVT_DROP else w

/-- COMMIT of scan `c`: image, counters and records, then the outputs, and the RING faults raised on the way. -/
def State.commitScan (s : State) (c : Scan) : State :=
  let recorded := ((s.imageCommitted c).scanCounted c).scanEvents c (s.scanRun c).evts
  ((recorded.ctlCommit (imgY (s.commitImage c)) c.no).lgeRefresh).takeRingFaults

section Scans

variable {s : State} {c : Scan} {stitch : Nat}

theorem State.scanStart_opens (hruns : s.lgeRuns = true) (hscan : s.lge.scan = none) (hat : s.lge.nextAt ≤ s.now) :
    s.scanStart = s.openScan (s.lge.scanNo + 1) :=
  if_neg (by simp [hruns, hscan, hat])

theorem State.scanStart_not_due (h : s.lgeRuns = false ∨ s.lge.scan ≠ none ∨ s.now < s.lge.nextAt) : s.scanStart = s :=
  if_pos (by rwa [Option.isSome_iff_ne_none])

theorem State.scanCommit_within (hscan : s.lge.scan = some c) (hend : c.at_ + (s.scanRun c).n ≤ s.now)
    (hbudget : s.now ≤ c.at_ + c.budget * 1000) : s.scanCommit = s.commitScan c := by
  rw [State.scanCommit, hscan]
  exact if_neg (by omega)

theorem State.scanCommit_noScan (hscan : s.lge.scan = none) : s.scanCommit = s := by
  rw [State.scanCommit, hscan]

theorem State.scanCommit_outside (hscan : s.lge.scan = some c)
    (h : s.now < c.at_ + (s.scanRun c).n ∨ c.at_ + c.budget * 1000 < s.now) : s.scanCommit = s := by
  rw [State.scanCommit, hscan]
  exact if_pos h

/-! ## The budget runs out (R205) -/

theorem State.scanExpire_noScan (hscan : s.lge.scan = none) : s.scanExpire stitch = s := by
  rw [State.scanExpire, hscan]

theorem State.scanExpire_abandons (hscan : s.lge.scan = some c) (h : c.at_ + c.budget * 1000 ≤ s.now) :
    s.scanExpire stitch = s.scanAbandon c stitch := by
  rw [State.scanExpire, hscan]
  exact if_pos h

theorem State.scanExpire_early (hscan : s.lge.scan = some c) (h : s.now < c.at_ + c.budget * 1000) : s.scanExpire stitch = s := by
  rw [State.scanExpire, hscan]
  exact if_neg (Nat.not_le.mpr h)

end Scans

/-- Settles O23: each clause is one case of `State.scanStart`, of `State.scanCommit` or of `State.scanExpire`; the rule of an abandonment
is `State.scanAbandon` itself. -/
theorem logicScansRunAndCommit : Obligations.LogicScansRunAndCommit := by
  unfold Obligations.LogicScansRunAndCommit
  refine ⟨?start, ?commit, ?expire, ?abandon, ?noStart, ?noCommit, ?noExpire⟩
  case start =>
    intro s hup hruns hscan hat no a o sc
    rw [exec_scanStart_of hup, State.scanStart_opens hruns hscan hat]
    rfl
  case commit =>
    intro s c hup hscan hend hbudget r m a b t d v w x
    rw [exec_scanCommit_of hup, State.scanCommit_within hscan hend hbudget]
    rfl
  case expire =>
    intro stitch s c hup hscan h
    rw [exec_scanBudgetExpire_of hup, State.scanExpire_abandons hscan h]
  case abandon =>
    exact fun _ _ _ => rfl
  case noStart =>
    intro s hup h
    rw [exec_scanStart_of hup, State.scanStart_not_due h]
  case noCommit =>
    intro s hup h
    rw [exec_scanCommit_of hup]
    obtain hscan | ⟨c, hscan, h⟩ := h
    · rw [State.scanCommit_noScan hscan]
    · rw [State.scanCommit_outside hscan h]
  case noExpire =>
    intro stitch s hup h
    rw [exec_scanBudgetExpire_of hup]
    obtain hscan | ⟨c, hscan, h⟩ := h
    · rw [State.scanExpire_noScan hscan]
    · rw [State.scanExpire_early hscan h]

/-! ## What reaches the logic engine's state (R192, R205) -/

@[simp] theorem State.wrSat_lge (s : State) (f : Fld) (v : Nat) : (s.wrSat f v).lge = s.lge := rfl

@[simp] theorem State.evrArrive_lge (s : State) (r : EvRec) : (s.evrArrive r).lge = s.lge := by
  rw [State.evrArrive]
  split
  · simp only [State.flag_lge, State.wr_lge, State.bump_lge]
  · rfl

@[simp] theorem State.event_lge (s : State) (cls : Nat) (body : List Byte) : (s.event cls body).lge = s.lge := s.evrArrive_lge _

@[simp] theorem State.eventAt_lge (s : State) (cls stamp : Nat) (body : List Byte) : (s.eventAt cls stamp body).lge = s.lge :=
  s.evrArrive_lge _

@[simp] theorem State.lgeRefresh_lge (s : State) : s.lgeRefresh.lge = s.lge := rfl

/-- An abandonment ends the scan and counts it; of the engine's state only the next start and OVERRUN_PREV change beside. -/
theorem State.scanAbandon_lge (s : State) (c : Scan) (stitch : Nat) : (s.scanAbandon c stitch).lge =
    { s.lge with scan := none, consec := s.lge.consec + 1, overrunPrev := true, nextAt := s.afterScan c } := by
  rw [State.scanAbandon]
  dsimp only
  split <;> simp

/-- `t` holds the committed image and the quire's image of `s`, and no scan that `s` has not in progress. -/
def State.KeepsImage (s t : State) : Prop :=
  t.lge.committed = s.lge.committed ∧ t.lge.quire = s.lge.quire ∧ (t.lge.scan = s.lge.scan ∨ t.lge.scan = none)

section KeepsImage

variable {s t : State}

theorem State.KeepsImage.refl (s : State) : s.KeepsImage s := ⟨rfl, rfl, .inl rfl⟩

theorem State.KeepsImage.gthImage (h : s.KeepsImage t) (old : Store) : s.KeepsImage (t.gthImage old) := h

/-- Before the fabric is up a row does nothing. -/
theorem State.KeepsImage.live {f : State → State} (h : s.KeepsImage (f s)) : s.KeepsImage (s.live f) := by
  rw [State.live]
  split
  · exact h
  · exact .refl s

theorem State.scanAbandon_keepsImage (s : State) (c : Scan) (stitch : Nat) : s.KeepsImage (s.scanAbandon c stitch) := by
  rw [State.KeepsImage, State.scanAbandon_lge]
  exact ⟨rfl, rfl, .inr rfl⟩

theorem State.scanExpire_keepsImage (s : State) (stitch : Nat) : s.KeepsImage (s.scanExpire stitch) := by
  rw [State.scanExpire]
  split
  · exact .refl s
  next c _ =>
    split
    · exact s.scanAbandon_keepsImage c stitch
    · exact .refl s

/-- The engine halts on an error of the image: HALTED is not part of the image. -/
def State.imageHalt (s : State) : State :=
  (((s.onLge (fun e => { e with halted := true })).flag LGE_TROUBLE_IMAGE_ECC).event 0x0E (leBytes 8 s.lgeScanNo)).lgeRefresh

theorem State.KeepsImage.imageHalt (h : s.KeepsImage t) : s.KeepsImage t.imageHalt := by
  have hlge : t.imageHalt.lge = { t.lge with halted := true } := by simp [State.imageHalt]
  rw [State.KeepsImage, hlge]
  exact h

/-- An error of the image halts the engine, once the scan in progress is abandoned (R205). -/
theorem State.imageEcc_eq (s : State) (stitch : Nat) : s.imageEcc stitch =
    if s.loaded = false ∨ s.lge.halted = true then s
    else (s.lge.scan.elim s (fun c => s.scanAbandon c stitch)).imageHalt := by
  rw [State.imageEcc]
  cases s.lge.scan <;> rfl

theorem State.imageEcc_keepsImage (s : State) (stitch : Nat) : s.KeepsImage (s.imageEcc stitch) := by
  rw [State.imageEcc_eq]
  split
  · exact .refl s
  · refine State.KeepsImage.imageHalt ?_
    cases s.lge.scan with
    | none => exact .refl s
    | some c => exact s.scanAbandon_keepsImage c stitch

end KeepsImage

/-- Settles O24: an abandonment ends the scan alone, an error of the image halts the engine beside, and neither writes the image. -/
theorem abandonedScansLeaveTheImage : Obligations.AbandonedScansLeaveTheImage := by
  unfold Obligations.AbandonedScansLeaveTheImage
  refine ⟨?expire, ?ecc⟩
  case expire =>
    intro stitch s t h
    obtain rfl := Host.Outcome.next.inj h
    exact State.KeepsImage.live ((s.scanExpire_keepsImage _).gthImage _)
  case ecc =>
    intro stitch s t h
    obtain rfl := Host.Outcome.next.inj h
    exact State.KeepsImage.live ((s.imageEcc_keepsImage _).gthImage _)

end Sys2Proof.Machine
end

section
/-! PROOFS. Commands of control objects arrive through the command registers (R217, R218, R228, R229). -/

namespace Sys2Proof.Machine

open Sys2Proof Reg

/-! ## The rows of the command registers (R217, R229) -/

section Rows

variable {s : State} {who : Agent} {cm : Bool}

theorem exec_ctlOpen_of (h : s.Admits who (0x160020 + 16 * b2n cm) true) (o : Fin 1024) :
    exec (.ctlOpen who cm o) s = .next ((s.mbCount who).ctlCmdWrite who (b2n cm) o.val 1) :=
  congrArg Host.Outcome.next (State.allow_of h _ _)

theorem exec_ctlClose_of (h : s.Admits who (0x160020 + 16 * b2n cm) true) (o : Fin 1024) :
    exec (.ctlClose who cm o) s = .next ((s.mbCount who).ctlCmdWrite who (b2n cm) o.val 2) :=
  congrArg Host.Outcome.next (State.allow_of h _ _)

theorem exec_ctlCancel_of (h : s.Admits who (0x160020 + 16 * b2n cm) true) (o : Fin 1024) :
    exec (.ctlCancel who cm o) s = .next ((s.mbCount who).ctlCmdWrite who (b2n cm) o.val 3) :=
  congrArg Host.Outcome.next (State.allow_of h _ _)

end Rows

/-! ## The checks at arrival (R217, R218, R228) -/

/-- Every check at arrival lets command `c` pass in `u`, the state that has counted it. -/
def State.CtlPasses (u : State) (c : CtlCmd) : Prop :=
  u.isActive = true ∧ u.on CTL_CTRL_ENABLE = true ∧ (1 ≤ c.code ∧ c.code ≤ 3) ∧ objOn (u.objEnt c.obj) = true ∧
    ¬(c.src = 0 ∧ u.masterOf c = none)

/-- The command of the same master that still waits for the object of `c` (R218). -/
def State.ctlWaiting (u : State) (c : CtlCmd) : Option CtlCmd := u.ctl.arrivals.find? (fun b => b.sameMaster c && b.obj == c.obj)

section Arrive

variable {s : State} {c : CtlCmd}

theorem State.ctlArrive_inactive (hact : (s.bump CTL_CMDS).isActive = false) :
    s.ctlArrive c = (s.bump CTL_CMDS).ctlResult c 0 0x0E 0 false :=
  if_pos hact

theorem State.ctlArrive_disabled (hact : (s.bump CTL_CMDS).isActive = true) (hen : (s.bump CTL_CMDS).on CTL_CTRL_ENABLE = false) :
    s.ctlArrive c = (s.bump CTL_CMDS).fresh.2.ctlResult c 0 (1 + (s.bump CTL_CMDS).fresh.1 % 17) 0 false :=
  (if_neg (Bool.not_eq_false _ ▸ hact)).trans (if_pos hen)

theorem State.ctlArrive_badCode (hact : (s.bump CTL_CMDS).isActive = true) (hen : (s.bump CTL_CMDS).on CTL_CTRL_ENABLE = true)
    (hcode : ¬(1 ≤ c.code ∧ c.code ≤ 3)) : s.ctlArrive c = (s.bump CTL_CMDS).ctlResult c 0 0x11 0 false := by
  simp only [State.ctlArrive, hact, hen, hcode, Bool.true_eq_false, not_false_eq_true, if_true, if_false]

theorem State.ctlArrive_noObject (hact : (s.bump CTL_CMDS).isActive = true) (hen : (s.bump CTL_CMDS).on CTL_CTRL_ENABLE = true)
    (hcode : 1 ≤ c.code ∧ c.code ≤ 3) (hobj : objOn ((s.bump CTL_CMDS).objEnt c.obj) = false) :
    s.ctlArrive c = (s.bump CTL_CMDS).ctlResult c 0 0x0D 0 false := by
  simp only [State.ctlArrive, hact, hen, hcode, hobj, Bool.true_eq_false, and_self, not_true_eq_false, if_true, if_false]

theorem State.ctlArrive_noMaster (hact : (s.bump CTL_CMDS).isActive = true) (hen : (s.bump CTL_CMDS).on CTL_CTRL_ENABLE = true)
    (hcode : 1 ≤ c.code ∧ c.code ≤ 3) (hobj : objOn ((s.bump CTL_CMDS).objEnt c.obj) = true)
    (hmaster : c.src = 0 ∧ (s.bump CTL_CMDS).masterOf c = none) : s.ctlArrive c = (s.bump CTL_CMDS).ctlResult c 0 8 0 false := by
  simp only [State.ctlArrive, hact, hen, hcode, hobj, hmaster, Bool.true_eq_false, and_self, not_true_eq_false, if_true, if_false]

theorem State.ctlArrive_replaces {b : CtlCmd} (hpass : (s.bump CTL_CMDS).CtlPasses c) (hwait : (s.bump CTL_CMDS).ctlWaiting c = some b) :
    s.ctlArrive c = ((s.bump CTL_CMDS).onCtl (fun e => { e with arrivals := e.arrivals.erase b ++ [c] })).ctlResult b 0 5 0 false := by
  obtain ⟨hact, hen, hcode, hobj, hmaster⟩ := hpass
  rw [State.ctlWaiting] at hwait
  simp only [State.ctlArrive, hact, hen, hcode, hobj, hmaster, hwait, Bool.true_eq_false, and_self, not_true_eq_false, if_false]

/-- Where nothing is replaced, the buffer takes the command as long as it has room. -/
theorem State.ctlArrive_unmatched (hpass : (s.bump CTL_CMDS).CtlPasses c) (hwait : (s.bump CTL_CMDS).ctlWaiting c = none) :
    s.ctlArrive c = if 256 ≤ (s.bump CTL_CMDS).ctl.arrivals.length then (s.bump CTL_CMDS).ctlResult c 0 0x0F 0 false
      else (s.bump CTL_CMDS).onCtl (fun e => { e with arrivals := e.arrivals ++ [c] }) := by
  obtain ⟨hact, hen, hcode, hobj, hmaster⟩ := hpass
  rw [State.ctlWaiting] at hwait
  simp only [State.ctlArrive, hact, hen, hcode, hobj, hmaster, hwait, Bool.true_eq_false, and_self, not_true_eq_false, if_false]

theorem State.ctlArrive_full (hpass : (s.bump CTL_CMDS).CtlPasses c) (hwait : (s.bump CTL_CMDS).ctlWaiting c = none)
    (hfull : 256 ≤ (s.bump CTL_CMDS).ctl.arrivals.length) : s.ctlArrive c = (s.bump CTL_CMDS).ctlResult c 0 0x0F 0 false :=
  (State.ctlArrive_unmatched hpass hwait).trans (if_pos hfull)

theorem State.ctlArrive_joins (hpass : (s.bump CTL_CMDS).CtlPasses c) (hwait : (s.bump CTL_CMDS).ctlWaiting c = none)
    (hroom : (s.bump CTL_CMDS).ctl.arrivals.length < 256) :
    s.ctlArrive c = (s.bump CTL_CMDS).onCtl (fun e => { e with arrivals := e.arrivals ++ [c] }) :=
  (State.ctlArrive_unmatched hpass hwait).trans (if_neg (Nat.not_le.mpr hroom))

end Arrive

/-! ## GO of a command register (R229) -/

/-- Command register `i` records a command and is busy with it. -/
def State.ctlRecord (s : State) (i obj code : Nat) : State :=
  (((s.wrI CTL_CMD_OBJECT i obj).wrI CTL_CMD_CODE i code).wrI CTL_CMD_STATUS_BUSY i 1).wrI CTL_CMD_STATUS_EXECUTED i 0

/-- The command that register `i` sends on from state `v`. -/
def State.ctlRegCmd (v : State) (i obj code : Nat) : CtlCmd :=
  { src := i + 1, folio := 0, obj := obj, code := code, tag := v.rdI CTL_CMD_TAG i }

section Go

variable {s : State} {who : Agent} {cm : Bool} {obj code : Nat}

theorem State.ctlCmdWrite_wrongAgent (h : if cm then who ≠ .mgmt else isSup who = false) :
    s.ctlCmdWrite who (b2n cm) obj code = s.flag CTL_TROUBLE_WRONG_AGENT := by
  cases cm with
  | true => exact if_pos (decide_eq_false h)
  | false => exact if_pos h

theorem State.ctlCmdWrite_busy (h : s.onI CTL_CMD_STATUS_BUSY (b2n cm) = true) :
    s.ctlCmdWrite who (b2n cm) obj code = s.flag CTL_TROUBLE_WRONG_AGENT := by
  simp only [State.ctlCmdWrite, h, if_true, ite_self]

theorem State.ctlCmdWrite_taken (hright : if cm then who = .mgmt else isSup who = true)
    (hidle : s.onI CTL_CMD_STATUS_BUSY (b2n cm) = false) :
    s.ctlCmdWrite who (b2n cm) obj code =
      (s.ctlRecord (b2n cm) obj code).ctlArrive ((s.ctlRecord (b2n cm) obj code).ctlRegCmd (b2n cm) obj code) := by
  have hagent : (if b2n cm = 0 then isSup who else decide (who = .mgmt)) = true := by
    cases cm with
    | true => exact decide_eq_true hright
    | false => exact hright
  simp only [State.ctlCmdWrite, hagent, hidle, Bool.true_eq_false, Bool.false_eq_true, if_false]
  rfl

/-- The source of a register is never a folio, so no master is looked for. -/
theorem State.ctlRegCmd_passes {u v : State} {i : Nat} (hcode : 1 ≤ code ∧ code ≤ 3) (hact : u.isActive = true)
    (hen : u.on CTL_CTRL_ENABLE = true) (hobj : objOn (u.objEnt obj) = true) : u.CtlPasses (v.ctlRegCmd i obj code) :=
  ⟨hact, hen, hcode, hobj, fun h => Nat.succ_ne_zero i h.1⟩

end Go

/-- Settles O26: the register records the command and hands it to `State.ctlArrive`, each outcome of which is one clause. -/
theorem controlCommandsArrive : Obligations.ControlCommandsArrive := by
  unfold Obligations.ControlCommandsArrive
  refine ⟨?joins, ?refused, ?arrival⟩
  case joins =>
    intro who cm o s h hright hidle v cmd free
    have joins (code : Nat) (hcode : 1 ≤ code ∧ code ≤ 3) (hfree : free code) :
        (s.mbCount who).ctlCmdWrite who (b2n cm) o.val code =
          ((v code).bump CTL_CMDS).onCtl (fun e => { e with arrivals := e.arrivals ++ [cmd code] }) := by
      obtain ⟨hact, hen, hobj, hwait, hroom⟩ := hfree
      rw [State.ctlCmdWrite_taken hright hidle]
      exact State.ctlArrive_joins (State.ctlRegCmd_passes hcode hact hen hobj) hwait hroom
    refine ⟨fun hopen => ?_, fun hclose => ?_, fun hcancel => ?_⟩
    · rw [exec_ctlOpen_of h, joins 1 (by decide) hopen]
    · rw [exec_ctlClose_of h, joins 2 (by decide) hclose]
    · rw [exec_ctlCancel_of h, joins 3 (by decide) hcancel]
  case refused =>
    intro who cm o s h hbad
    have refused (code : Nat) :
        (s.mbCount who).ctlCmdWrite who (b2n cm) o.val code = (s.mbCount who).flag CTL_TROUBLE_WRONG_AGENT :=
      hbad.elim State.ctlCmdWrite_wrongAgent State.ctlCmdWrite_busy
    rw [exec_ctlOpen_of h, exec_ctlClose_of h, exec_ctlCancel_of h, refused 1, refused 2, refused 3]
    exact ⟨rfl, rfl, rfl⟩
  case arrival =>
    intro s c u
    refine ⟨State.ctlArrive_inactive, ?noObject, State.ctlArrive_disabled, State.ctlArrive_badCode, ?noMaster, ?replaces, ?full⟩
    case noObject =>
      intro hact hen hlow hhigh hobj
      exact State.ctlArrive_noObject hact hen ⟨hlow, hhigh⟩ hobj
    case noMaster =>
      intro hact hen hlow hhigh hobj hsrc hmaster
      exact State.ctlArrive_noMaster hact hen ⟨hlow, hhigh⟩ hobj ⟨hsrc, hmaster⟩
    case replaces =>
      intro b hact hen hlow hhigh hobj hsrc hwait
      exact State.ctlArrive_replaces ⟨hact, hen, ⟨hlow, hhigh⟩, hobj, fun h => hsrc h.1⟩ hwait
    case full =>
      intro hact hen hlow hhigh hobj hsrc hwait hfull
      exact State.ctlArrive_full ⟨hact, hen, ⟨hlow, hhigh⟩, hobj, fun h => hsrc h.1⟩ hwait hfull

end Sys2Proof.Machine
end

section
/-! PROOFS. The timers of a control object, its abort and the end of its command (R223-R228). -/

namespace Sys2Proof.Machine

open Sys2Proof Reg

/-! ## The rows of the timers and of the abort (R223-R227) -/

section Rows

variable {s : State}

theorem exec_ctlWaitTimeout_of (h : s.fabricUp = true) (o : Fin 1024) :
    exec (.ctlWaitTimeout o) s = .next (s.ctlWaitTimeout o.val).takeRingFaults :=
  congrArg Host.Outcome.next (State.live_of_up h _)

theorem exec_operateTimeout_of (h : s.fabricUp = true) (o : Fin 1024) :
    exec (.operateTimeout o) s = .next (s.ctlOperateTimeout o.val).takeRingFaults :=
  congrArg Host.Outcome.next (State.live_of_up h _)

theorem exec_travelTimeout_of (h : s.fabricUp = true) (o : Fin 1024) :
    exec (.travelTimeout o) s = .next (s.ctlTravelTimeout o.val).takeRingFaults :=
  congrArg Host.Outcome.next (State.live_of_up h _)

theorem exec_positionTalExpire_of (h : s.fabricUp = true) (o : Fin 1024) :
    exec (.positionTalExpire o) s = .next (s.ctlTalExpire o.val) :=
  congrArg Host.Outcome.next (State.live_of_up h _)

theorem exec_objectAbort_of {who : Agent} (h : s.Admits who 0x160040 true) (o : Fin 1024) :
    exec (.objectAbort who o) s =
      .next ((((s.mbCount who).wr CTL_OBJ_CTRL_OBJECT o.val).wr CTL_OBJ_CTRL_ABORT 1).ctlAbort o.val).takeRingFaults :=
  congrArg Host.Outcome.next (State.allow_of h _ _)

end Rows

/-! ## The end of a command (R224, R227, R228) -/

/-- Object `o` is idle after its command has ended with `code`; FAULT follows the code (R226). -/
def State.ctlReleased (s : State) (o code : Nat) : State :=
  s.setObj o { s.ctlObj o with st := 0, cmd := none, fresh := false, out := none,
                               fault := if code = 2 then true else if code = 1 then false else (s.ctlObj o).fault }

section Timers

variable {s : State} {o code scan : Nat} {noPos : Bool}

theorem State.ctlEnd_none (h : (s.ctlObj o).cmd = none) : s.ctlEnd o code scan noPos = s := by
  simp only [State.ctlEnd, h]

theorem State.ctlEnd_some {c : CtlCmd} (h : (s.ctlObj o).cmd = some c) :
    s.ctlEnd o code scan noPos = ((if (s.ctlObj o).st = 2 ∨ (s.ctlObj o).out.isSome = true
      then (s.ctlReleased o code).operateIdle ((s.ctlReleased o code).objEnt o)
      else s.ctlReleased o code).ctlHeldResult o (s.ctlObj o) c code scan noPos).ctlRefresh := by
  simp only [State.ctlEnd, h, State.ctlReleased]

/-! ## WAIT_MS (R223) -/

theorem State.ctlWaitTimeout_over (hst : (s.ctlObj o).st = 1)
    (hend : (s.ctlObj o).latchAt + Ent.OBJ_WAIT_MS.of (s.objEnt o) * 1000000 ≤ s.now) :
    s.ctlWaitTimeout o = s.ctlEnd o 0x0B 0 false :=
  if_pos ⟨hst, hend⟩

theorem State.ctlWaitTimeout_not_due
    (h : (s.ctlObj o).st ≠ 1 ∨ s.now < (s.ctlObj o).latchAt + Ent.OBJ_WAIT_MS.of (s.objEnt o) * 1000000) : s.ctlWaitTimeout o = s :=
  if_neg (by omega)

/-! ## OPERATE_MS (R224, R226) -/

/-- The operate value of a displaced command goes when that command's OPERATE_MS is over. -/
theorem State.ctlOperateTimeout_displaced {k t : Nat} (hout : (s.ctlObj o).out = some (k, t)) :
    s.ctlOperateTimeout o = if t + Ent.OBJ_OPERATE_MS.of (s.objEnt o) * 1000000 ≤ s.now
      then (s.setObj o { s.ctlObj o with out := none }).operateIdle (s.objEnt o) else s := by
  simp only [State.ctlOperateTimeout, hout, decide_eq_true_eq]

/-- With no displaced value out, OPERATE_MS of the executing command counts. -/
theorem State.ctlOperateTimeout_own (hout : (s.ctlObj o).out = none) :
    s.ctlOperateTimeout o =
      if ((s.ctlObj o).st = 2 ∨ (s.ctlObj o).st = 3) ∧ Ent.OBJ_POS_APPID.of (s.objEnt o) = 0 ∧
        (s.ctlObj o).execAt + Ent.OBJ_OPERATE_MS.of (s.objEnt o) * 1000000 ≤ s.now then s.ctlEnd o 1 0 true
      else if (s.ctlObj o).st = 2 ∧ (s.ctlObj o).execAt + Ent.OBJ_OPERATE_MS.of (s.objEnt o) * 1000000 ≤ s.now then
        (s.setObj o { s.ctlObj o with st := 3 }).operateIdle (s.objEnt o)
      else s := by
  simp only [State.ctlOperateTimeout, hout, decide_eq_true_eq]

theorem State.ctlOperateTimeout_noPosition (hout : (s.ctlObj o).out = none) (hst : (s.ctlObj o).st = 2 ∨ (s.ctlObj o).st = 3)
    (hpos : Ent.OBJ_POS_APPID.of (s.objEnt o) = 0)
    (hend : (s.ctlObj o).execAt + Ent.OBJ_OPERATE_MS.of (s.objEnt o) * 1000000 ≤ s.now) :
    s.ctlOperateTimeout o = s.ctlEnd o 1 0 true := by
  rw [State.ctlOperateTimeout_own hout, if_pos ⟨hst, hpos, hend⟩]

theorem State.ctlOperateTimeout_travels (hout : (s.ctlObj o).out = none) (hst : (s.ctlObj o).st = 2)
    (hpos : Ent.OBJ_POS_APPID.of (s.objEnt o) ≠ 0)
    (hend : (s.ctlObj o).execAt + Ent.OBJ_OPERATE_MS.of (s.objEnt o) * 1000000 ≤ s.now) :
    s.ctlOperateTimeout o = (s.setObj o { s.ctlObj o with st := 3 }).operateIdle (s.objEnt o) := by
  rw [State.ctlOperateTimeout_own hout, if_neg (fun h => hpos h.2.1), if_pos ⟨hst, hend⟩]

theorem State.ctlOperateTimeout_not_due (hout : (s.ctlObj o).out = none)
    (h : ((s.ctlObj o).st ≠ 2 ∧ (s.ctlObj o).st ≠ 3) ∨
      s.now < (s.ctlObj o).execAt + Ent.OBJ_OPERATE_MS.of (s.objEnt o) * 1000000) : s.ctlOperateTimeout o = s := by
  rw [State.ctlOperateTimeout_own hout, if_neg (by omega), if_neg (by omega)]

/-! ## TRAVEL_MS and the time to live of a position (R225, R226) -/

theorem State.ctlTravelTimeout_over (hst : (s.ctlObj o).st = 2 ∨ (s.ctlObj o).st = 3)
    (hpos : Ent.OBJ_POS_APPID.of (s.objEnt o) ≠ 0)
    (hend : (s.ctlObj o).execAt + Ent.OBJ_TRAVEL_MS.of (s.objEnt o) * 1000000 ≤ s.now) :
    s.ctlTravelTimeout o = s.ctlEnd o 2 0 false :=
  if_pos ⟨hst, hpos, hend⟩

theorem State.ctlTravelTimeout_not_due
    (h : ((s.ctlObj o).st ≠ 2 ∧ (s.ctlObj o).st ≠ 3) ∨ Ent.OBJ_POS_APPID.of (s.objEnt o) = 0 ∨
      s.now < (s.ctlObj o).execAt + Ent.OBJ_TRAVEL_MS.of (s.objEnt o) * 1000000) : s.ctlTravelTimeout o = s :=
  if_neg (by omega)

theorem State.ctlTalExpire_lost (hvalid : (s.ctlObj o).posValid = true) (hdue : s.due (s.ctlObj o).talEnd = true) :
    s.ctlTalExpire o = (s.setObj o { s.ctlObj o with posValid := false, talEnd := none }).flag CTL_TROUBLE_POS_LOST :=
  if_pos ⟨hvalid, hdue⟩

theorem State.ctlTalExpire_kept (h : (s.ctlObj o).posValid = false ∨ s.due (s.ctlObj o).talEnd = false) : s.ctlTalExpire o = s :=
  if_neg (by rcases h with h | h <;> simp [h])

end Timers

/-- Settles O27: a timer that is over ends the command by `State.ctlEnd` or moves the object on, and one that is not over does nothing. -/
theorem controlTimersAndAborts : Obligations.ControlTimersAndAborts := by
  unfold Obligations.ControlTimersAndAborts
  refine ⟨?timers, ?abort, ?ends, ?noCommand⟩
  case timers =>
    intro o s hup
    rw [exec_ctlWaitTimeout_of hup, exec_operateTimeout_of hup, exec_travelTimeout_of hup, exec_positionTalExpire_of hup]
    refine ⟨?wait, ?displaced, ?waitNotDue, ?operateNotDue, ?travelNotDue, ?talKept, ?travelComplete, ?operate, ?travel, ?tal⟩
    case wait =>
      intro hst hend
      rw [State.ctlWaitTimeout_over hst hend]
    case displaced =>
      intro k t hout
      rw [State.ctlOperateTimeout_displaced hout]
      refine ⟨fun hend => ?_, fun hearly => ?_⟩
      · rw [if_pos hend]
      · rw [if_neg (Nat.not_le.mpr hearly)]
    case waitNotDue =>
      intro h
      rw [State.ctlWaitTimeout_not_due h]
    case operateNotDue =>
      intro hout h
      rw [State.ctlOperateTimeout_not_due hout h]
    case travelNotDue =>
      intro h
      rw [State.ctlTravelTimeout_not_due h]
    case talKept =>
      intro h
      rw [State.ctlTalExpire_kept h]
    case travelComplete =>
      intro hout hst hpos hend
      rw [State.ctlOperateTimeout_noPosition hout (.inr hst) hpos hend]
    case operate =>
      intro hout hst hend
      refine ⟨fun hpos => ?_, fun hpos => ?_⟩
      · rw [State.ctlOperateTimeout_noPosition hout (.inl hst) hpos hend]
      · rw [State.ctlOperateTimeout_travels hout hst hpos hend]
    case travel =>
      intro hst hpos hend
      rw [State.ctlTravelTimeout_over hst hpos hend]
    case tal =>
      intro hvalid hdue
      rw [State.ctlTalExpire_lost hvalid hdue]
  case abort =>
    intro who o s h
    exact exec_objectAbort_of h o
  case ends =>
    intro s o code scan noPos c hcmd
    exact State.ctlEnd_some hcmd
  case noCommand =>
    intro s o code scan noPos hcmd
    exact State.ctlEnd_none hcmd

end Sys2Proof.Machine
end

section
/-! PROOFS. Position frames, ENABLE, and the interlock answer port (R216, R225, R226, R230-R232). -/

namespace Sys2Proof.Machine

open Sys2Proof Reg

/-! ## The rows of the position receiver, of ENABLE and of the answer port (R216, R225, R230-R232) -/

section Rows

variable {s : State}

theorem exec_positionFrame_of (h : s.fabricUp = true) : exec .positionFrame s = .next s.ctlFrame.takeRingFaults :=
  congrArg Host.Outcome.next (State.live_of_up h _)

theorem exec_ctlEnable_of {who : Agent} (h : s.Admits who 0x160004 false) (en : Bool) :
    exec (.ctlEnable who en) s = .next (((s.mbCount who).wrB CTL_CTRL_ENABLE en).ctlFollow) :=
  congrArg Host.Outcome.next (State.allow_of h _ _)

theorem exec_ilQuery_of (h : s.fabricUp = true) (q : BitVec 12) (par : Bool) :
    exec (.ilQuery q par) s = .next (s.ilQuery q.toNat par) :=
  congrArg Host.Outcome.next (State.live_of_up h _)

theorem exec_ilImageApply_of (h : s.fabricUp = true) : exec .ilImageApply s = .next s.ilRise :=
  congrArg Host.Outcome.next (State.live_of_up h _)

theorem exec_ilClkLoss_of (h : s.fabricUp = true) : exec .ilClkLoss s = .next s.ilClkLoss :=
  congrArg Host.Outcome.next (State.live_of_up h _)

theorem exec_ilStale_of (h : s.fabricUp = true) : exec .ilStale s = .next s.ilAge :=
  congrArg Host.Outcome.next (State.live_of_up h _)

end Rows

/-! ## Position frames (R225, R226) -/

/-- The position receiver has taken a frame, and `rest` remains. -/
def State.ctlFrameTaken (s : State) (rest : List (List Byte × Nat)) : State := s.onCtl (fun e => { e with inbox := rest })

/-- A position frame for `appid` reaches every object that names it. -/
def State.ctlPositions (s : State) (appid tal : Nat) (data : List (Nat × List Byte)) : State :=
  (s.used 0x1601).foldl (fun s e =>
    if decide (Ent.OBJ_POS_APPID.of e.2 = appid) && decide (appid ≠ 0) then s.ctlPosition e.1 tal data else s) s

section Frames

variable {s : State} {bs : List Byte} {port appid tal : Nat} {sim : Bool} {data : List (Nat × List Byte)} {rest : List (List Byte × Nat)}

theorem State.ctlFrame_none (h : s.ctl.inbox = []) : s.ctlFrame = s := by
  rw [State.ctlFrame, h]

theorem State.ctlFrame_unread (h : s.ctl.inbox = (bs, port) :: rest) (hbad : (port ≠ 16 ∧ port ≠ 17) ∨ readGoose bs = none) :
    s.ctlFrame = s.ctlFrameTaken rest := by
  rw [State.ctlFrame, h]
  rcases hbad with hport | hgoose
  · exact if_pos hport
  · simp only [hgoose, ite_self]
    rfl

/-- A GOOSE frame moves the objects unless its port is not B0 or B1 or its simulation is not wanted. -/
theorem State.ctlFrame_goose (h : s.ctl.inbox = (bs, port) :: rest) (hgoose : readGoose bs = some (appid, tal, sim, data)) :
    s.ctlFrame = if port ≠ 16 ∧ port ≠ 17 then s.ctlFrameTaken rest
      else if (sim && !(s.ctlFrameTaken rest).on CTL_CTRL_SIM_MODE) = true then s.ctlFrameTaken rest
      else (s.ctlFrameTaken rest).ctlPositions appid tal data := by
  rw [State.ctlFrame, h]
  simp only [hgoose]
  rfl

theorem State.ctlFrame_simulated (h : s.ctl.inbox = (bs, port) :: rest) (hgoose : readGoose bs = some (appid, tal, true, data))
    (hmode : (s.ctlFrameTaken rest).on CTL_CTRL_SIM_MODE = false) : s.ctlFrame = s.ctlFrameTaken rest := by
  rw [State.ctlFrame_goose h hgoose, hmode]
  exact ite_self _

theorem State.ctlFrame_reaches (h : s.ctl.inbox = (bs, port) :: rest) (hport : port = 16 ∨ port = 17)
    (hgoose : readGoose bs = some (appid, tal, sim, data)) (hsim : sim = false ∨ (s.ctlFrameTaken rest).on CTL_CTRL_SIM_MODE = true) :
    s.ctlFrame = (s.ctlFrameTaken rest).ctlPositions appid tal data := by
  have hwanted : ¬((sim && !(s.ctlFrameTaken rest).on CTL_CTRL_SIM_MODE) = true) := by
    rcases hsim with hsim | hmode
    · simp [hsim]
    · simp [hmode]
  rw [State.ctlFrame_goose h hgoose, if_neg (by omega), if_neg hwanted]

end Frames

/-- Object `x` at the arrival of a position frame: the position before it is kept for a SNAPSHOT of the same fabric cycle. -/
def State.ctlSeen (s : State) (x : CtlObj) : CtlObj :=
  { x with posWas := if x.posAt = s.now then x.posWas else x.pos,
           posWasValid := if x.posAt = s.now then x.posWasValid else x.posValid, posAt := s.now, posTai := s.taiNs }

/-- Position `v` of object `o` is stored with its time to live; a displaced operate value that it answers returns to idle (R224, R225). -/
def State.ctlMoved (s : State) (o tal v : Nat) : State :=
  let back := (s.ctlObj o).out.any (fun d => decide (d.1 = v))
  let y := s.setObj o { s.ctlSeen (s.ctlObj o) with pos := v, posValid := true, talEnd := some (s.now + tal * 1000000),
                                                    out := if back then none else (s.ctlObj o).out }
  if back then y.operateIdle (s.objEnt o) else y

section Position

variable {s : State} {o tal v : Nat} {data : List (Nat × List Byte)}

theorem State.ctlPosition_lost (h : dbpos data[Ent.OBJ_POS_MEMBER.of (s.objEnt o)]? = none) :
    s.ctlPosition o tal data =
      (s.setObj o { s.ctlSeen (s.ctlObj o) with posValid := false, talEnd := none }).flag CTL_TROUBLE_POS_LOST := by
  simp only [State.ctlPosition, h]
  rfl

theorem State.ctlPosition_moved {c : CtlCmd} (h : dbpos data[Ent.OBJ_POS_MEMBER.of (s.objEnt o)]? = some v)
    (hcmd : (s.ctlObj o).cmd = some c) :
    s.ctlPosition o tal data = if ((s.ctlObj o).st = 2 ∨ (s.ctlObj o).st = 3) ∧ v = c.code
      then (s.ctlMoved o tal v).ctlEnd o 1 0 false else s.ctlMoved o tal v := by
  simp only [State.ctlPosition, State.ctlMoved, State.ctlSeen, h, hcmd]

end Position

/-! ## The answer port (R231, R232) -/

/-- Whether the answer to the query on the lines is valid. -/
def State.ilValid (s : State) : Bool :=
  ilParity s.ctl.ilQ.1 s.ctl.ilQ.2 && decide (s.ctl.ilQ.1 / 1024 % 4 < 2) && objOn (s.objEnt (s.ctl.ilQ.1 % 1024)) &&
    s.on CTL_CTRL_PORT_EN && s.isActive && !s.ilStale

/-- The permit bit that image `i` holds for query `q`. -/
def IlImage.permit (i : IlImage) (q : Nat) : Bool := bitAt (if q / 1024 % 4 = 0 then i.openMask else i.closeMask) (q % 1024)

section Port

variable {s : State} {i : IlImage}

theorem State.ilPort_off (h : s.power ≠ 3) : s.ilPort = none := if_pos h

/-- A valid answer shows the image's permit bit; with IL_VALID set, odd parity over the three lines copies it. -/
theorem State.ilPort_valid (hpower : s.power = 3) (hil : s.ctl.il = some i) (hvalid : s.ilValid = true) :
    s.ilPort = some (i.permit s.ctl.ilQ.1, true, i.permit s.ctl.ilQ.1) := by
  rw [State.ilValid] at hvalid
  simp only [State.ilPort, hpower, hil, hvalid, ne_eq, not_true_eq_false, if_false, Bool.true_and]
  change some (i.permit s.ctl.ilQ.1, true, decide ((b2n (i.permit s.ctl.ilQ.1) + b2n true) % 2 = 0)) = _
  cases i.permit s.ctl.ilQ.1 <;> rfl

theorem State.ilPort_invalid (hpower : s.power = 3) (hvalid : s.ilValid = false) : s.ilPort = some (false, false, true) := by
  rw [State.ilValid] at hvalid
  simp only [State.ilPort, hpower, hvalid, ne_eq, not_true_eq_false, if_false, Bool.false_and]
  rfl

/-! ## Edges of IL_CLK and the age of the image (R230, R232) -/

/-- A rising edge of IL_CLK is seen: edge number `n` since the image was received. -/
def State.ilEdgeSeen (s : State) (n : Nat) : State :=
  (s.wr CTL_STATUS_IL_CLK_PRESENT 1).onCtl (fun e => { e with ilEdge := some s.now, ilEdges := n })

theorem State.ilApply_some (h : s.ctl.ilNext = some i) :
    s.ilApply = (s.onCtl (fun e => { e with il := some i, ilNext := none, ilEdges := 0 })).wr CTL_IL_IMAGE_SCAN_SCAN_LO
      (i.scanNo % 2 ^ 32) := by
  rw [State.ilApply, h]

theorem State.ilRise_eq (s : State) :
    let a := s.ilEdgeSeen (s.ctl.ilEdges + 1)
    let b := if 2 ≤ s.ctl.ilEdges + 1 then a.ilApply else a
    s.ilRise = b.wrB CTL_STATUS_IL_IMAGE_OK !b.ilStale := rfl

theorem State.ilRise_first (h : s.ctl.ilEdges = 0) :
    s.ilRise = (s.ilEdgeSeen 1).wrB CTL_STATUS_IL_IMAGE_OK !(s.ilEdgeSeen 1).ilStale := by
  rw [State.ilRise_eq, h]
  rfl

theorem State.ilRise_second (h : s.ctl.ilEdges = 1) :
    s.ilRise = (s.ilEdgeSeen 2).ilApply.wrB CTL_STATUS_IL_IMAGE_OK !(s.ilEdgeSeen 2).ilApply.ilStale := by
  rw [State.ilRise_eq, h]
  rfl

theorem State.ilAbsent_iff : s.ilAbsent = true ↔ s.ctl.ilEdge = none ∨ ∃ t, s.ctl.ilEdge = some t ∧ t + 1000 ≤ s.now := by
  rw [State.ilAbsent]
  cases s.ctl.ilEdge <;> simp

theorem State.ilAbsent_of_recent {t : Nat} (hedge : s.ctl.ilEdge = some t) (h : s.now < t + 1000) : s.ilAbsent = false := by
  rw [State.ilAbsent, hedge]
  exact decide_eq_false (Nat.not_le.mpr h)

theorem State.ilClkLoss_absent (h : s.ilAbsent = true) :
    let b := ((s.wr CTL_STATUS_IL_CLK_PRESENT 0).flagIf (s.on CTL_CTRL_PORT_EN) CTL_TROUBLE_IL_CLK_LOSS).ilApply
    s.ilClkLoss = b.wrB CTL_STATUS_IL_IMAGE_OK !b.ilStale :=
  if_pos h

theorem State.ilClkLoss_present (h : s.ilAbsent = false) : s.ilClkLoss = s := if_neg (Bool.eq_false_iff.mp h)

theorem State.ilAge_stale (hil : s.ctl.il.isSome = true) (hstale : s.ilStale = true) :
    s.ilAge = (s.flag CTL_TROUBLE_IL_STALE).wr CTL_STATUS_IL_IMAGE_OK 0 :=
  if_pos ⟨hil, hstale⟩

theorem State.ilAge_fresh (h : s.ctl.il.isSome = false ∨ s.ilStale = false) : s.ilAge = s :=
  if_neg (by rcases h with h | h <;> simp [h])

end Port

/-! ## Queries (R231, R232) -/

/-- A query is on the lines, at a rising edge of IL_CLK. -/
def State.ilAsked (s : State) (q : Nat) (par : Bool) : State := ((s.bump CTL_IL_QUERIES).onCtl (fun e => { e with ilQ := (q, par) })).ilRise

/-- A query in RUN sets IL_PAR_ERR where its parity is wrong and IL_STALE where the image is too old. -/
def State.ilJudged (u : State) (q : Nat) (par : Bool) : State :=
  let p := if ilParity q par then u else (u.bump CTL_IL_PAR_ERR).flag CTL_TROUBLE_IL_PAR_ERR
  p.flagIf (p.ctl.il.isSome && p.ilStale) CTL_TROUBLE_IL_STALE

section Query

variable {s : State} {q : Nat} {par : Bool}

theorem State.ilQuery_eq (s : State) (q : Nat) (par : Bool) :
    let u := if (s.ilAsked q par).power ≠ 3 then s.ilAsked q par else (s.ilAsked q par).ilJudged q par
    s.ilQuery q par = u.onCtl (fun e => { e with ilOut := u.ilPort }) :=
  rfl

theorem State.ilQuery_run (h : (s.ilAsked q par).power = 3) :
    let v := (s.ilAsked q par).ilJudged q par
    s.ilQuery q par = v.onCtl (fun e => { e with ilOut := v.ilPort }) := by
  rw [State.ilQuery_eq, if_neg (not_not_intro h)]

theorem State.ilQuery_off (h : (s.ilAsked q par).power ≠ 3) :
    s.ilQuery q par = (s.ilAsked q par).onCtl (fun e => { e with ilOut := none }) := by
  rw [State.ilQuery_eq, if_pos h, State.ilPort_off h]

end Query

/-- Settles O28: a position frame, an edge of IL_CLK, a query and the age of the image are each one operation, whose cases are the
clauses. -/
theorem positionFramesAndInterlockAnswers : Obligations.PositionFramesAndInterlockAnswers := by
  unfold Obligations.PositionFramesAndInterlockAnswers
  refine ⟨⟨?reaches, ?unread, ?simulated, ?noFrame, ?moved, ?lost, ?enable⟩,
    ⟨?query, ?valid, ?invalid, ?off, ?edge, ?second, ?first, ?clkLoss, ?fresh, ?stale⟩⟩
  case reaches =>
    intro s bs rest appid tal sim data port hup hinbox hport hgoose hsim
    rw [exec_positionFrame_of hup, State.ctlFrame_reaches hinbox hport hgoose hsim]
    rfl
  case unread =>
    intro s bs rest port hup hinbox hbad
    rw [exec_positionFrame_of hup, State.ctlFrame_unread hinbox hbad]
    rfl
  case simulated =>
    intro s bs rest appid tal data port hup hinbox hgoose hmode
    rw [exec_positionFrame_of hup, State.ctlFrame_simulated hinbox hgoose hmode]
    rfl
  case noFrame =>
    intro s hup hinbox
    rw [exec_positionFrame_of hup, State.ctlFrame_none hinbox]
  case moved =>
    intro s o tal v data c hpos hcmd x back y u
    exact State.ctlPosition_moved hpos hcmd
  case lost =>
    intro s o tal data hpos x
    exact State.ctlPosition_lost hpos
  case enable =>
    intro who en s h
    exact exec_ctlEnable_of h en
  case query =>
    intro q par s hup u p v
    rw [exec_ilQuery_of hup]
    refine ⟨fun hrun => ?_, fun hoff => ?_⟩
    · exact congrArg Host.Outcome.next (State.ilQuery_run hrun)
    · exact congrArg Host.Outcome.next (State.ilQuery_off hoff)
  case valid =>
    intro s i hil hpower hpar hkind hobj hport hact hstale permit
    exact State.ilPort_valid hpower hil (by simp [State.ilValid, hpar, hkind, hobj, hport, hact, hstale])
  case invalid =>
    intro s hpower h
    refine State.ilPort_invalid hpower ?_
    rcases h with hpar | hkind | hport | hact | hstale
    · simp [State.ilValid, hpar]
    · simp [State.ilValid, Nat.not_lt.mpr hkind]
    · simp [State.ilValid, hport]
    · simp [State.ilValid, hact]
    · simp [State.ilValid, hstale]
  case off =>
    intro s hpower
    exact State.ilPort_off hpower
  case edge =>
    intro s hup
    exact exec_ilImageApply_of hup
  case second =>
    intro s i hnext hedges a b
    have happly : (s.ilEdgeSeen 2).ilApply = b := State.ilApply_some hnext
    rw [State.ilRise_second hedges, happly]
  case first =>
    intro s hedges a
    exact State.ilRise_first hedges
  case clkLoss =>
    intro s hup b
    rw [exec_ilClkLoss_of hup]
    refine ⟨fun habsent => ?_, fun t hedge hrecent => ?_⟩
    · rw [State.ilClkLoss_absent (State.ilAbsent_iff.mpr habsent)]
    · rw [State.ilClkLoss_present (State.ilAbsent_of_recent hedge hrecent)]
  case fresh =>
    intro s h
    exact congrArg Host.Outcome.next (State.live_of_fixed (State.ilAge_fresh h))
  case stale =>
    intro s hup hil hstale
    rw [exec_ilStale_of hup, State.ilAge_stale hil hstale]

end Sys2Proof.Machine
end

section
/-! PROOFS. The forwarding decision: its VLAN, its destinations, and what it never does (R242-R247). -/

namespace Sys2Proof.Machine

open Sys2Proof Reg

/-! ## Masks of ports -/

theorem bitAt_eq_testBit (v i : Nat) : bitAt v i = v.testBit i := by
  rw [Nat.testBit_eq_decide_div_mod_eq]
  rfl

@[simp] theorem bitAt_zero (i : Nat) : bitAt 0 i = false := by
  rw [bitAt_eq_testBit, Nat.zero_testBit]

@[simp] theorem bitAt_and (v w i : Nat) : bitAt (v &&& w) i = (bitAt v i && bitAt w i) := by
  simp only [bitAt_eq_testBit, Nat.testBit_and]

@[simp] theorem bitAt_two_pow (m i : Nat) : bitAt (2 ^ m) i = decide (m = i) := by
  rw [bitAt_eq_testBit, Nat.testBit_two_pow]

/-- A mask without bit `p` is what lies above the bit and what lies below it. -/
theorem maskOff_eq (m p : Nat) : maskOff m p = 2 ^ (p + 1) * (m / 2 ^ (p + 1)) + m % 2 ^ p := by
  have hhigh := Nat.div_add_mod m (2 ^ (p + 1))
  have hlow : m % 2 ^ (p + 1) = m % 2 ^ p + 2 ^ p * (m / 2 ^ p % 2) := Nat.mod_pow_succ
  have hbit : bits m p 1 * 2 ^ p = 2 ^ p * (m / 2 ^ p % 2) := Nat.mul_comm _ _
  rw [maskOff, setBits, hbit]
  omega

/-- Taking port `p` off a mask leaves every other port. -/
@[simp] theorem bitAt_maskOff (m p q : Nat) : bitAt (maskOff m p) q = (bitAt m q && decide (q ≠ p)) := by
  have hlow : m % 2 ^ p < 2 ^ (p + 1) :=
    (Nat.mod_lt _ (Nat.two_pow_pos p)).trans (Nat.pow_lt_pow_right (by decide) (Nat.lt_succ_self p))
  rw [bitAt_eq_testBit, bitAt_eq_testBit, maskOff_eq, Nat.testBit_two_pow_mul_add _ hlow]
  split
  case isTrue h =>
    rw [Nat.testBit_mod_two_pow, Bool.and_comm]
    congr 1
    simp only [decide_eq_decide]
    omega
  case isFalse h =>
    have hne : q ≠ p := by omega
    rw [Nat.testBit_div_two_pow, Nat.sub_add_cancel (Nat.not_lt.mp h), decide_eq_true hne, Bool.and_true]

/-! ## The VLAN and the destinations of the tables (R242-R247) -/

/-- The VID of a frame that entered on port `p`: that of its tag, or the port's own. -/
def State.frameVid (s : State) (p : Nat) (bs : List Byte) : Nat :=
  if tagVid bs = 0 then Ent.PORT_PVID.of (s.ent 0xA03 p) else tagVid bs

/-- The members of a VLAN; one that is not valid has none. -/
def State.vlanMembers (s : State) (vid : Nat) : Nat :=
  if Ent.VLAN_VALID.on (s.ent 0xA02 vid) then Ent.VLAN_MEMBER.of (s.ent 0xA02 vid) else 0

/-- Whether a frame is link-local: to a reserved address, or a peer-delay message. -/
def linkLocal (bs : List Byte) : Bool :=
  decide (0x0180C2000000 ≤ beAt bs 0 6 ∧ beAt bs 0 6 ≤ 0x0180C200000F) || isPeerDelay bs

/-- The destinations that the forwarding table, or the flooding of the VLAN, gives a frame before its ingress port is taken off. -/
def State.tableDests (s : State) (p : Nat) (bs : List Byte) : Nat :=
  match s.lookupFwd (beAt bs 0 6) (s.frameVid p bs) with
  | some e =>
    if Ent.FWD_DROP.on e then 0
    else if linkLocal bs then (if bitAt (Ent.FWD_PORT_MASK.of e) 18 then 2 ^ 18 else 0)
    else Ent.FWD_PORT_MASK.of e &&& s.vlanMembers (s.frameVid p bs)
  | none => if linkLocal bs then 0 else Ent.VLAN_FLOOD.of (s.ent 0xA02 (s.frameVid p bs)) &&& s.vlanMembers (s.frameVid p bs)

/-- The class of a frame that entered on port `p`: the forwarding entry's, that of its PCP, or the port's default. -/
def State.frameClass (s : State) (p : Nat) (bs : List Byte) : Nat :=
  let own := if hasTag bs then bits (Ent.PORT_PCP_MAP.of (s.ent 0xA03 p)) (3 * tagPcp bs) 3
    else Ent.PORT_DEFAULT_CLASS.of (s.ent 0xA03 p)
  match s.lookupFwd (beAt bs 0 6) (s.frameVid p bs) with
  | some e => if Ent.FWD_CLASS_SET.of e < 8 then Ent.FWD_CLASS_SET.of e else own
  | none => own

/-- The decision to send a frame that entered on port `p` to `dests`. -/
def State.sendTo (s : State) (p : Nat) (bs : List Byte) (dests : Nat) : Decision :=
  match s.lookupFwd (beAt bs 0 6) (s.frameVid p bs) with
  | some e => .send (s.frameVid p bs) dests (s.frameClass p bs) (Ent.FWD_FOLIO_MASK.of e) (Ent.FWD_TO_CTL.on e) (Ent.FWD_TO_TIM.on e)
      (Ent.FWD_CT_DIS.on e)
  | none => .send (s.frameVid p bs) dests (s.frameClass p bs) (Ent.VLAN_FLOOD_FOLIOS.of (s.ent 0xA02 (s.frameVid p bs))) false false
      false

/-- The ingress port does not accept the frame as it is tagged. -/
abbrev State.TagRefused (s : State) (p : Nat) (bs : List Byte) : Prop :=
  (Ent.PORT_ACCEPT.of (s.ent 0xA03 p) = 1 ∧ decide (tagVid bs = 0) = true) ∨
    (Ent.PORT_ACCEPT.of (s.ent 0xA03 p) = 2 ∧ decide (tagVid bs = 0) = false)

section Decision

variable {s : State} {p : Nat} {bs : List Byte} {dup : Bool}

theorem linkLocal_iff :
    linkLocal bs = true ↔ (0x0180C2000000 ≤ beAt bs 0 6 ∧ beAt bs 0 6 ≤ 0x0180C200000F) ∨ isPeerDelay bs = true := by
  rw [linkLocal, Bool.or_eq_true, decide_eq_true_eq]

theorem State.vlanMembers_iff {vid q : Nat} : bitAt (s.vlanMembers vid) q = true ↔
    Ent.VLAN_VALID.on (s.ent 0xA02 vid) = true ∧ bitAt (Ent.VLAN_MEMBER.of (s.ent 0xA02 vid)) q = true := by
  unfold State.vlanMembers
  split <;> simp [*]

/-- A frame that is not link-local goes to members of its VLAN alone. -/
theorem State.tableDests_members (h : linkLocal bs = false) {q : Nat} (hq : bitAt (s.tableDests p bs) q = true) :
    bitAt (s.vlanMembers (s.frameVid p bs)) q = true := by
  unfold State.tableDests at hq
  simp only [h, Bool.false_eq_true, if_false] at hq
  split at hq
  case h_1 e _ =>
    split_ifs at hq
    · simp at hq
    · rw [bitAt_and, Bool.and_eq_true] at hq
      exact hq.2
  case h_2 =>
    rw [bitAt_and, Bool.and_eq_true] at hq
    exact hq.2

/-- A link-local frame goes to no port but I0. -/
theorem State.tableDests_linkLocal (h : linkLocal bs = true) {q : Nat} (hq : q ≠ 18) : bitAt (s.tableDests p bs) q = false := by
  have hi0 : bitAt (2 ^ 18) q = false := (bitAt_two_pow 18 q).trans (decide_eq_false (Ne.symm hq))
  unfold State.tableDests
  simp only [h, if_true]
  split
  case h_1 e _ => split_ifs <;> simp only [hi0, bitAt_zero]
  case h_2 => exact bitAt_zero q

theorem State.decideWith_notMember (h : bitAt (s.vlanMembers (s.frameVid p bs)) p = false) :
    s.decideWith dup p bs = .drop SWC_VLAN_DROP := by
  by_cases htag : s.TagRefused p bs
  · exact if_pos htag
  · exact (if_neg htag).trans (if_pos h)

/-- The steps of the decision for a port outside every redundancy pair. -/
theorem State.decideWith_unpaired (hpair : s.pairOf p = none) :
    s.decideWith dup p bs =
      if s.TagRefused p bs then .drop SWC_VLAN_DROP
      else if bitAt (s.vlanMembers (s.frameVid p bs)) p = false then .drop SWC_VLAN_DROP
      else if maskOff (s.tableDests p bs) p = 0 then .drop SWC_NO_DEST
      else s.sendTo p bs (maskOff (s.tableDests p bs) p) := by
  rw [State.decideWith, hpair]
  rfl

theorem State.sendTo_inv {vid d dests cls folios : Nat} {toCtl toTim ctDis : Bool}
    (h : s.sendTo p bs d = .send vid dests cls folios toCtl toTim ctDis) : vid = s.frameVid p bs ∧ dests = d := by
  unfold State.sendTo at h
  split at h <;>
  · injection h with hvid hdests
    exact ⟨hvid.symm, hdests.symm⟩

/-- A frame from outside every redundancy pair that is sent goes, in its VLAN, where the tables say, but for the port it came from. -/
theorem State.decide0_send {vid dests cls folios : Nat} {toCtl toTim ctDis : Bool} (hpair : s.pairOf p = none)
    (h : s.decide0 p bs = .send vid dests cls folios toCtl toTim ctDis) :
    vid = s.frameVid p bs ∧ dests = maskOff (s.tableDests p bs) p := by
  rw [State.decide0, State.decideWith_unpaired hpair] at h
  split_ifs at h
  exact State.sendTo_inv h

end Decision

/-- Settles O35: the destinations of the tables, less the ingress port; the tables give members of the VLAN, or I0 alone. -/
theorem forwardingNeverTurnsBack : Obligations.ForwardingNeverTurnsBack := by
  unfold Obligations.ForwardingNeverTurnsBack
  refine ⟨?send, ?drop⟩
  case send =>
    intro s p bs vid dests cls folios toCtl toTim ctDis hpair hsend
    obtain ⟨rfl, rfl⟩ := State.decide0_send hpair hsend
    rw [← linkLocal_iff]
    refine ⟨by simp, fun q hq hdest => ?_, fun hlocal q hq => ?_⟩
    · rw [bitAt_maskOff, Bool.and_eq_true] at hdest
      obtain ⟨hdest, -⟩ := hdest
      cases hlocal : linkLocal bs with
      | false => exact State.vlanMembers_iff.mp (State.tableDests_members hlocal hdest)
      | true =>
        have hline : q.val ≠ 18 := hq.resolve_right (not_not_intro hlocal)
        exact absurd hdest (by simp [State.tableDests_linkLocal hlocal hline])
    · simp [State.tableDests_linkLocal hlocal hq]
  case drop =>
    intro s p bs vid h
    refine State.decideWith_notMember ?_
    rw [Bool.eq_false_iff, ne_eq, State.vlanMembers_iff]
    rintro ⟨hvalid, hmember⟩
    rcases h with h | h
    · exact Bool.false_ne_true (h.symm.trans hvalid)
    · exact Bool.false_ne_true (h.symm.trans hmember)

end Sys2Proof.Machine
end

section
/-! PROOFS. Frames enter the switch at their first 64 bytes, and their last bit is judged by the MAC and by the switch (R242, R247,
R249, R251, R260, R271, R272, R277, R281, R424). -/

namespace Sys2Proof.Machine

open Sys2Proof Reg

/-! ## The rows of reception (R242, R260) -/

theorem exec_frameIngress_of {s : State} (h : s.Runs 14) (p : Fin 20) (bs : List Byte) (ago : Nat) :
    exec (.frameIngress p bs ago) s = .next ((if p.val = 19 then s.carrier true else s).ingress p.val bs ago) :=
  congrArg Host.Outcome.next (State.liveU_of_runs h _)

theorem exec_frameRxEnd_of {s : State} {p : Fin 20} (h : s.Runs (portUnit p.val)) (bs : List Byte) (v : RxEnd) (frags : Nat) :
    exec (.frameRxEnd p bs v frags) s = .next (s.macRxEnd p.val bs v frags) :=
  congrArg Host.Outcome.next (State.liveU_of_runs h _)

/-! ## The first 64 bytes (R242, R249, R260, R272, R424) -/

/-- The switch takes a decision on a frame at port `p`: it is on, loaded and clocked, the port receives no other frame, and the frame
is the switch's own and of at least 64 octets. -/
structure State.TakesFrame (s : State) (p : Nat) (bs : List Byte) : Prop where
  enabled : s.on SWC_CTRL_ENABLE = true
  loaded : s.loaded = true
  clocked : s.clk 14 = true
  free : s.swc.rx.any (fun r => r.port == p) = false
  own : isMacControl bs = false
  long : 64 ≤ frameLen bs

/-- A frame with destinations is seen at the HSR pair of its port: a duplicate is counted, another enters the discard table. -/
def State.hsrSeen (s : State) (p : Nat) (bs : List Byte) : State :=
  let v := s.bumpIf (s.dupAt p bs) SWC_HSR_DUP
  match v.pairOf p with
  | some (k, 2) => if s.dupAt p bs then v else v.hsrEnter k bs
  | _ => v

/-- The destinations that the state of the module and of the ports leaves: I0 alone outside RUN, and no port that is DOWN. -/
def State.openDests (s : State) (dests : Nat) : Nat × State := s.dropDown (if s.power ≠ 3 then dests &&& 2 ^ 18 else dests)

/-- What is recorded of a frame in reception; its stamps are taken back by the time since the SFD and by RX_LAT. -/
def State.rxRecord (s : State) (p ago cls dests folios : Nat) (toCtl toTim ctDis : Bool) : RxFrame :=
  let lat := ago + s.rdI MAC_P_TS_LAT_RX_LAT p / 10
  { port := p, firstAt := s.now, inResid := s.residNs - lat, rxTs := s.taiNs - lat, cls := cls, dests := dests, folios := folios,
    toCtl := toCtl, toTim := toTim, ctDis := ctDis }

/-- A frame is in reception, and each permitted output keeps a copy for cut-through. -/
def State.receive (s : State) (r : RxFrame) (bs : List Byte) (vid : Nat) : State :=
  (List.range 18).foldl (fun s o => if bitAt r.dests o && s.mayCut r o then s.keepCut r bs vid o else s)
    (s.onSwc (fun w => { w with rx := w.rx ++ [r] }))

section Ingress

variable {s : State} {p : Nat} {bs : List Byte}

theorem State.ingress_drop (h : s.TakesFrame p bs) {f : Fld} (hdrop : s.decide0 p bs = .drop f) (ago : Nat) :
    s.ingress p bs ago = (s.bumpIf (s.dupAt p bs && decide (s.decideWith false p bs ≠ .drop f)) SWC_HSR_DUP).bump f := by
  rw [State.ingress, if_neg (by simp [h.enabled, h.loaded, h.clocked, h.free]), if_neg (by simp [h.own, h.long]), hdrop]

theorem State.ingress_send (h : s.TakesFrame p bs) {vid dests cls folios : Nat} {toCtl toTim ctDis : Bool}
    (hsend : s.decide0 p bs = .send vid dests cls folios toCtl toTim ctDis) (ago : Nat) :
    let w := s.hsrSeen p bs
    let d := w.openDests dests
    s.ingress p bs ago = d.2.receive
      (d.2.rxRecord p ago cls d.1 (if w.power ≠ 3 then folios % 2 else folios) toCtl toTim ctDis) bs (s.frameVid p bs) := by
  rw [State.ingress, if_neg (by simp [h.enabled, h.loaded, h.clocked, h.free]), if_neg (by simp [h.own, h.long]), hsend]
  simp only [decide_eq_true_eq]
  rfl

theorem State.ingress_none (h : s.on SWC_CTRL_ENABLE = false ∨ s.loaded = false ∨ s.swc.rx.any (fun r => r.port == p) = true ∨
    isMacControl bs = true ∨ frameLen bs < 64) (ago : Nat) : s.ingress p bs ago = s := by
  by_cases hoff : s.on SWC_CTRL_ENABLE = false ∨ s.loaded = false ∨ s.clk 14 = false ∨ s.swc.rx.any (fun r => r.port == p) = true
  · exact if_pos hoff
  · refine (if_neg hoff).trans (if_pos ?_)
    simp only [not_or] at hoff
    obtain ⟨hon, hloaded, -, hfree⟩ := hoff
    exact (h.resolve_left hon).resolve_left hloaded |>.resolve_left hfree

end Ingress

/-! ## The last bit at the MAC (R271, R277, R281) -/

/-- A good frame in `frags` fragments is counted: the frame, its octets, and its assembly. -/
def State.rxGood (s : State) (p : Nat) (x : List Byte) (frags : Nat) : State :=
  let b := (s.bumpI MAC_P_RX_FRAMES p).wrI MAC_P_RX_OCTETS p (s.rdI MAC_P_RX_OCTETS p + frameLen x)
  if frags = 0 then b else b.bumpI MAC_P_RX_ASSY_OK p

/-- A frame `x` on a port with fragments is counted by its verdict and passed on with it. -/
def State.rxVerdict (s : State) (p : Nat) (x : List Byte) (frags : Nat) : RxEnd → State
  | .good =>
    if isMacControl x then
      (if isPause x then s.rxGood p x frags else (s.rxGood p x frags).bumpI MAC_P_RX_CONTROL p).rxDrop p x
    else (s.rxGood p x frags).rxEnd p x true false
  | .badFcs => (s.macBadFcs p).rxEnd p x false false
  | .stomped => (s.macBadFcs p).rxEnd p x false true
  | .linkLost => s.rxEnd p x false false
  | .reassembly => (s.macAssyErr p).rxDrop p x
  | .unknownSmd => ((s.bumpI MAC_P_RX_SMD_ERR p).macAssyErr p).rxDrop p x
  | .symbolError => ((s.bumpI MAC_P_RX_SYMBOL_ERR p).macBadFcs p).rxEnd p x false false
  | .collision => (s.macBadFcs p).rxEnd p x false false

section Mac

variable {s : State} {p : Nat} {bs : List Byte} {frags : Nat}

theorem State.macRxEnd_i0 (v : RxEnd) : s.macRxEnd 18 bs v frags = s := if_pos rfl

theorem State.macRxEnd_jabber (hp : p < 18) (h : 16384 ≤ frameLen bs) (v : RxEnd) :
    s.macRxEnd p bs v frags = ((((s.bumpByI MAC_P_RX_FRAGMENTS p frags).bumpI MAC_P_RX_JABBER p).flagI MAC_P_TROUBLE_JABBER p).macBadFcs
      p).rxEnd p (bs.take 16380) false false := by
  rw [State.macRxEnd, if_neg (by omega)]
  simp only [if_neg (show ¬p = 19 by omega), hasPreempt, hp, h, decide_true, if_true]

theorem State.macRxEnd_line (hp : p < 18) (h : frameLen bs < 16384) (v : RxEnd) :
    s.macRxEnd p bs v frags = (s.bumpByI MAC_P_RX_FRAGMENTS p frags).rxVerdict p (bs.take 16380) frags v := by
  have hshort : ¬16384 ≤ frameLen bs := by omega
  have hline : ¬p = 19 := by omega
  rw [State.macRxEnd, if_neg (by omega)]
  simp only [hline, hasPreempt, hp, hshort, decide_true, decide_false, if_true, if_false, Bool.true_and, false_and, Bool.false_eq_true]
  cases v with
  | good => by_cases hf : frags = 0 <;> simp [State.rxVerdict, State.rxGood, hf]
  | _ => rfl

/-- The last bit at port A: its carrier ends. -/
def State.carrierEnds (s : State) : State := (s.wrI MAC_P_STATUS_CARRIER 19 0).onMac (fun m => { m with carrierAt := s.now })

theorem State.macRxEnd_portA_badFcs (h : frameLen bs < 16384) :
    s.macRxEnd 19 bs .badFcs frags = (s.carrierEnds.macBadFcs 19).rxEnd 19 (bs.take 16380) false false := by
  have hshort : ¬16384 ≤ frameLen bs := by omega
  simp only [State.macRxEnd, hshort, decide_false]
  rfl

theorem State.macRxEnd_portA_fragment (h : frameLen bs < 16384) (hfrag : frameLen (bs.take 16380) < 64) :
    s.macRxEnd 19 bs .collision frags = (s.carrierEnds.bumpI MAC_P_RX_FRAGMENTS 19).rxDrop 19 (bs.take 16380) := by
  have hshort : ¬16384 ≤ frameLen bs := by omega
  simp only [State.macRxEnd, hshort, decide_false, hfrag]
  rfl

end Mac

/-! ## The last bit in the switch (R240, R251, R260) -/

/-- The reception on port `p` is over. -/
def State.rxOver (s : State) (p : Nat) : State := s.onSwc (fun w => { w with rx := w.rx.filter (fun x => !(x.port == p)) })

/-- The copies of a received frame that are stored, from what was recorded of it. -/
def State.rxCopies (s : State) (p : Nat) (bs : List Byte) (r : RxFrame) : List Copy :=
  s.copiesFor bs p (s.frameVid p bs) r.dests { s.proto p r.cls with
    firstAt := r.firstAt, inResid := r.inResid, rxTs := r.rxTs, folios := r.folios, toCtl := r.toCtl, toTim := r.toTim }

section Switch

variable {s : State} {p : Nat} {bs : List Byte} {r : RxFrame} (hrx : s.swc.rx.find? (fun r => r.port == p) = some r)
  (hmin : 64 ≤ frameLen bs) (hmax : frameLen bs ≤ (s.rxOver p).maxLen p)
  (hcut : (s.rxOver p).swc.copies.filter (fun c => c.inPort == p && !c.complete && c.firstAt == r.firstAt) = [])
include hrx hmin hmax hcut

theorem State.rxEnd_good (hsup : isSupervision bs = false) :
    s.rxEnd p bs true false = ((s.rxOver p).rxCopies p bs r).foldl State.admitCopy (s.rxOver p) := by
  have hrunt : ¬frameLen bs < 64 := by omega
  have hlong : ¬(s.rxOver p).maxLen p < frameLen bs := by omega
  simp only [State.rxOver] at hlong hcut
  simp only [State.rxEnd, hsup, Bool.and_false, Bool.false_eq_true, if_false, hrx, hrunt, hlong, hcut, decide_false, Bool.false_and,
    Bool.not_true, List.foldl_nil, Bool.not_false, Bool.and_true, if_true]
  rfl

theorem State.rxEnd_bad : s.rxEnd p bs false false = if r.dests ≠ 0 then (s.rxOver p).bump SWC_FCS_DROP else s.rxOver p := by
  have hrunt : ¬frameLen bs < 64 := by omega
  have hlong : ¬(s.rxOver p).maxLen p < frameLen bs := by omega
  simp only [State.rxOver] at hlong hcut
  simp only [State.rxEnd, Bool.and_false, Bool.false_and, Bool.false_eq_true, if_false, hrx, hrunt, hlong, hcut, decide_false,
    List.any_nil, Bool.or_false, Bool.not_false, Bool.true_and, decide_eq_true_eq, List.foldl_nil]
  rfl

end Switch

theorem State.rxEnd_runt {s : State} {p : Nat} {bs : List Byte} (hrx : s.swc.rx.find? (fun r => r.port == p) = none)
    (hrunt : frameLen bs < 64) : s.rxEnd p bs false false = (s.bump SWC_RUNT).flag SWC_TROUBLE_LENGTH := by
  simp only [State.rxEnd, Bool.and_false, Bool.false_and, Bool.false_eq_true, if_false, hrx, hrunt, if_true]

/-- Settles O36: the decision of the first 64 bytes is `State.ingress`, the count of the last bit `State.macRxEnd`, and what the
switch makes of it `State.rxEnd`; the clauses are their cases. -/
theorem framesEnterAndAreChecked : Obligations.FramesEnterAndAreChecked := by
  unfold Obligations.FramesEnterAndAreChecked
  refine ⟨?ingress, ?line, ?portA, ?i0, ?known, ?runt⟩
  case ingress =>
    intro p bs ago s u hruns hclk
    rw [exec_frameIngress_of hruns]
    refine ⟨fun hon hloaded hfree hown hlong => ?_, fun hnone => congrArg _ (State.ingress_none hnone ago)⟩
    have htakes : u.TakesFrame p.val bs := ⟨hon, hloaded, hclk, hfree, hown, hlong⟩
    exact ⟨fun f hdrop => congrArg _ (State.ingress_drop htakes hdrop ago),
      fun vid dests cls folios toCtl toTim ctDis hsend => congrArg _ (State.ingress_send htakes hsend ago)⟩
  case line =>
    intro p bs frags s hruns hp a x b c
    simp only [exec_frameRxEnd_of hruns]
    refine ⟨fun hjabber v => congrArg _ (State.macRxEnd_jabber hp hjabber v), fun hshort => ?_⟩
    simp only [State.macRxEnd_line hp hshort]
    exact ⟨fun hdata => congrArg _ (if_neg (by simp [x, hdata])), fun hctrl => congrArg _ (if_pos hctrl), rfl, rfl, rfl, rfl, rfl,
      rfl, rfl⟩
  case portA =>
    intro bs frags s hruns hshort a
    simp only [exec_frameRxEnd_of (p := 19) hruns]
    exact ⟨congrArg _ (State.macRxEnd_portA_badFcs hshort), fun hfrag => congrArg _ (State.macRxEnd_portA_fragment hshort hfrag)⟩
  case i0 =>
    intro bs v frags s hruns
    rw [exec_frameRxEnd_of (p := 18) hruns]
    exact congrArg _ (State.macRxEnd_i0 v)
  case known =>
    intro s p bs r hrx hsup hmin a vid hmax hcut
    exact ⟨State.rxEnd_good hrx hmin hmax hcut hsup, State.rxEnd_bad hrx hmin hmax hcut⟩
  case runt =>
    intro s p bs hrx hrunt
    exact State.rxEnd_runt hrx hrunt

end Sys2Proof.Machine
end

section
/-! PROOFS. Copies start at frame boundaries and in cut-through, leave, and meet buffer errors (R258, R259, R261, R262, R264, R273,
R278, R281, R304, R307). -/

namespace Sys2Proof.Machine

open Sys2Proof Reg

/-! ## The rows of egress (R259, R261, R273, R304) -/

section Rows

variable {s : State} (h : s.Runs 14)
include h

theorem exec_egressStart_of (p : Fin 20) (deferred : Bool) :
    exec (.egressStart p deferred) s = .next ((if p.val = 19 then s.carrier deferred else s).egressStart p.val) :=
  congrArg Host.Outcome.next (State.liveU_of_runs h _)

theorem exec_cutThroughStart_of (p : Fin 20) : exec (.cutThroughStart p) s = .next (s.cutStart p.val) :=
  congrArg Host.Outcome.next (State.liveU_of_runs h _)

theorem exec_txComplete_of (p : Fin 20) : exec (.txComplete p) s = .next (s.txComplete p.val) :=
  congrArg Host.Outcome.next (State.liveU_of_runs h _)

theorem exec_bufferEccError_of (id : Nat) (e : Bool) : exec (.bufferEccError id e) s = .next (s.bufferEcc id e) :=
  congrArg Host.Outcome.next (State.liveU_of_runs h _)

end Rows

/-! ## Frame boundaries (R258, R273, R281, R307) -/

/-- The port has room for a respond mPacket or a control frame before a held timed copy. -/
def State.smallRoom (s : State) (p : Nat) : Bool := s.launchRoom p 64 false

/-- The control frame that a port may send now. -/
def State.controlNow (s : State) (p : Nat) : Option (Nat × Nat) := s.mac.ctrl.find? (fun c => c.1 == p && s.smallRoom p)

/-- The preempted frame of a port whose remainder may go on now. -/
def State.restNow (s : State) (p : Nat) : Option Copy :=
  s.swc.copies.find? (fun y => y.port == p && y.st == 3 && s.launchRoom p (frameLen y.bytes - y.sentOctets) true)

/-- The port starts the next frame or the remainder: an express frame goes before the remainder, and the remainder before any other;
a frame that carrier bars is deferred. -/
def State.startFrame (s : State) (p : Nat) : (rest next : Option Copy) → State
  | some r, some x => if s.express p x.cls then s.startNow x else s.resumeRest r
  | some r, none => s.resumeRest r
  | none, some x => if s.carrierBars p then s.noteDefer x else s.startNow x
  | none, none => s

section Boundary

variable {s : State} {p : Nat}

theorem State.egressStart_barred (h : s.sending p = true ∨ (p ≠ 18 ∧ s.rdI SWC_P_STATE p ≠ 1)) : s.egressStart p = s := if_pos h

theorem State.egressStart_free (hidle : s.sending p = false) (hup : p = 18 ∨ s.rdI SWC_P_STATE p = 1) :
    s.egressStart p = (s.cullPort p).startNext p := by
  refine if_neg ?_
  rw [hidle]
  rintro (h | ⟨hport, hstate⟩)
  · exact Bool.false_ne_true h
  · exact hup.elim hport hstate

theorem State.startNext_respond (howed : s.mac.respond.contains p = true) (hroom : s.smallRoom p = true) :
    s.startNext p = s.onMac (fun m => { m with respond := m.respond.erase p }) :=
  if_pos (Bool.and_eq_true_iff.mpr ⟨howed, hroom⟩)

variable (hrespond : (s.mac.respond.contains p && s.smallRoom p) = false)
include hrespond

theorem State.startNext_control {c : Nat × Nat} (hctrl : s.controlNow p = some c) :
    s.startNext p = (s.onMac (fun m => { m with ctrl := m.ctrl.erase c })).bumpI MAC_P_TX_PAUSE p := by
  simp only [State.controlNow, State.smallRoom] at hrespond hctrl
  simp only [State.startNext, hrespond, hctrl, Bool.false_eq_true, if_false]

/-- With no respond mPacket and no control frame to send, the port starts a frame. -/
theorem State.startNext_frame (hctrl : s.controlNow p = none) {rest next : Option Copy} (hrest : s.restNow p = rest)
    (hnext : s.nextCopyOf p = next) : s.startNext p = s.startFrame p rest next := by
  subst hrest hnext
  simp only [State.controlNow, State.smallRoom] at hrespond hctrl
  simp only [State.startNext, hrespond, hctrl, Bool.false_eq_true, if_false]
  rfl

end Boundary

/-! ## Cut-through starts (R260, R261) -/

/-- A copy kept for cut-through on port `p` is due: its resequencer has released its first cells, and the output is open to it. -/
def State.cutDue (s : State) (p : Nat) (c : Copy) : Bool :=
  c.port == p && c.st == 0 && decide (s.nCt p ≤ s.swc.released.get c.id 0) && s.cutMay c

theorem State.cutStart_due {s : State} {p : Nat} {c : Copy} (h : s.swc.copies.find? (s.cutDue p) = some c) :
    s.cutStart p = (s.startNow c).bumpI SWC_P_CT p := by
  unfold State.cutDue at h
  rw [State.cutStart, h]

theorem State.cutStart_none {s : State} {p : Nat} (h : s.swc.copies.find? (s.cutDue p) = none) : s.cutStart p = s := by
  unfold State.cutDue at h
  rw [State.cutStart, h]

/-! ## Completion (R264, R282, R304) -/

theorem State.txComplete_line {s : State} {p : Nat} (h : p ≠ 18) : s.txComplete p = (s.ptpSent p).txDone p := if_neg h

/-- What is sent at I0 reaches its receivers before its cells are free. -/
theorem State.txComplete_i0 (s : State) : s.txComplete 18 = ((s.i0Sent.foldl State.i0Arrive s).txDone 18).takeRingFaults := if_pos rfl

/-- The one whole copy on the line of a port that was neither preempted nor stomped is gone, counted by its kind, and its timestamp falls
due. -/
theorem State.txDone_whole {s : State} {p : Nat} {c : Copy} (hp : p < 18)
    (hsent : s.swc.copies.filter (fun x => x.port == p && x.st == 2 && x.complete) = [c]) (hwhole : c.fragments = 0)
    (hclean : c.stomped = false) :
    let a := s.dropCopy c
    let b := ((a.bumpI MAC_P_TX_FRAMES p).wrI MAC_P_TX_OCTETS p (a.rdI MAC_P_TX_OCTETS p + frameLen c.bytes)).wrI MAC_P_STATUS_SENDING p 0
    s.txDone p = (b.bumpI (if b.preemptable p c.cls then MAC_P_TX_PREEMPTABLE else MAC_P_TX_EXPRESS) p).tsqPush p c 0 false := by
  rw [State.txDone, hsent]
  simp only [List.foldl_cons, List.foldl_nil, hp, hwhole, hclean, if_true, Bool.false_eq_true, if_false]

/-! ## Buffer errors (R259, R262) -/

section BufferErrors

variable {s : State} {id : Nat}

theorem State.bufferEcc_none (h : s.swc.copies.find? (fun c => c.id == id) = none) (e : Bool) : s.bufferEcc id e = s := by
  rw [State.bufferEcc, h]

variable {c : Copy} (hc : s.swc.copies.find? (fun c => c.id == id) = some c)
include hc

theorem State.bufferEcc_correctable : s.bufferEcc id true = s.bump SWC_ECC_CORR := by
  rw [State.bufferEcc, hc]
  rfl

theorem State.bufferEcc_waiting (h : ¬(2 ≤ c.st ∧ c.st ≤ 4)) :
    s.bufferEcc id false = ((s.discard c 6).bump SWC_ECC_DROP).flag SWC_TROUBLE_ECC := by
  rw [State.bufferEcc, hc]
  exact if_neg h

theorem State.bufferEcc_started (h : 2 ≤ c.st ∧ c.st ≤ 4) :
    s.bufferEcc id false = if c.stomped then s.flag SWC_TROUBLE_ECC
      else (((s.onSwc (fun w => { w with copies := w.copies.map (fun x => if x.id = id then { x with stomped := true } else x) })).bump
        SWC_STOMP_ECC).flag SWC_TROUBLE_STOMP).flag SWC_TROUBLE_ECC := by
  rw [State.bufferEcc, hc]
  exact if_pos h

end BufferErrors

/-- Settles O37: a frame boundary, a cut-through start, a completion and a buffer error are each one operation, whose cases are the
clauses. -/
theorem copiesStartAndLeave : Obligations.CopiesStartAndLeave := by
  unfold Obligations.CopiesStartAndLeave
  refine ⟨?boundary, ?cut, ?line, ?i0, ?whole, ?error, ?unknown⟩
  case boundary =>
    intro p deferred s hruns v u small rest
    rw [exec_egressStart_of hruns]
    refine ⟨fun hbarred => congrArg _ (State.egressStart_barred hbarred), fun hidle hup => ?_⟩
    have hstart : v.egressStart p.val = u.startNext p.val := State.egressStart_free hidle hup
    rw [hstart]
    refine ⟨fun howed hroom => congrArg _ (State.startNext_respond howed hroom), fun hrespond => ?_⟩
    refine ⟨fun c hctrl => congrArg _ (State.startNext_control hrespond hctrl), fun hctrl => ?_⟩
    refine ⟨fun r x hrest hnext => ?_, fun r hrest hnext => ?_, fun x hrest hnext => ?_, fun hrest hnext => ?_⟩
    all_goals exact congrArg _ (State.startNext_frame hrespond hctrl hrest hnext :)
  case cut =>
    intro p s hruns due
    rw [exec_cutThroughStart_of hruns]
    exact ⟨fun c hc => congrArg _ (State.cutStart_due hc), fun hnone => congrArg _ (State.cutStart_none hnone)⟩
  case line =>
    intro p s hruns hp
    rw [exec_txComplete_of hruns, State.txComplete_line hp]
  case i0 =>
    intro s hruns
    rw [exec_txComplete_of hruns]
    exact congrArg _ s.txComplete_i0
  case whole =>
    intro p s c hp hsent hwhole hclean
    exact State.txDone_whole hp hsent hwhole hclean
  case error =>
    intro id s c hruns hc
    simp only [exec_bufferEccError_of hruns]
    refine ⟨congrArg _ (State.bufferEcc_correctable hc), fun hwaits => congrArg _ (State.bufferEcc_waiting hc hwaits),
      fun hlow hhigh hstomped => ?_, fun hlow hhigh hclean => ?_⟩
    · rw [State.bufferEcc_started hc ⟨hlow, hhigh⟩, if_pos hstomped]
    · rw [State.bufferEcc_started hc ⟨hlow, hhigh⟩, if_neg (Bool.eq_false_iff.mp hclean)]
  case unknown =>
    intro id e s hruns hnone
    rw [exec_bufferEccError_of hruns, State.bufferEcc_none hnone]

end Sys2Proof.Machine
end

section
/-! PROOFS. Links are lost, held, returned and expire; queues are flushed; supervision frames go out (R250, R263-R265, R270). -/

namespace Sys2Proof.Machine

open Sys2Proof Reg

/-! ## The rows of the links and of supervision (R250, R263) -/

section Rows

variable {s : State}

theorem exec_linkLost_of (h : s.fabricUp = true) (p : Fin 20) (los : Bool) :
    exec (.linkLost p los) s = .next (s.macLinkLost p.val los) :=
  congrArg Host.Outcome.next (State.live_of_up h _)

theorem exec_linkReturned_of (h : s.fabricUp = true) (p : Fin 20) : exec (.linkReturned p) s = .next (s.macLinkReturned p.val) :=
  congrArg Host.Outcome.next (State.live_of_up h _)

theorem exec_linkHoldExpire_of (h : s.Runs 14) (p : Fin 20) : exec (.linkHoldExpire p) s = .next (s.holdExpire p.val) :=
  congrArg Host.Outcome.next (State.liveU_of_runs h _)

theorem exec_supervisionTx_of (h : s.Runs 14) (k : Fin 6) : exec (.supervisionTx k) s = .next (s.supervision k.val) :=
  congrArg Host.Outcome.next (State.liveU_of_runs h _)

end Rows

/-! ## Loss of a link (R263, R264, R270) -/

/-- A port enters HOLD, with a window of `ms` milliseconds to show. -/
def State.holdEntered (s : State) (p ms : Nat) : State :=
  (((s.wrI SWC_P_STATE p 2).wrI SWC_P_STATE_HOLD_LEFT p (ms * 10)).bumpI SWC_P_HOLDS p).flag SWC_TROUBLE_LINK_HOLD

theorem State.holdEntered_now (s : State) (p ms : Nat) : (s.holdEntered p ms).now = s.now := rfl

/-- The link-hold window of a port starts. -/
def State.holdStart (s : State) (p ms : Nat) : State :=
  let b := s.holdEntered p ms
  b.onSwc (fun w => { w with holdEnd := w.holdEnd.insert p (b.now + ms * 1000000) })

section Lost

variable {s : State} {p : Nat}

theorem State.reportLost_down (h : hasLine p = false ∨ s.onI MAC_P_STATUS_LINK p = false) : s.reportLost p = s :=
  if_neg (by rcases h with h | h <;> simp [h])

/-- The loss of the link of an UP port aborts what it sends, and then holds it or, with no window, brings it down. -/
theorem State.linkLost_up (hp : p ≠ 18) (h : s.rdI SWC_P_STATE p = 1) :
    let a := s.abortPort p
    let ms := a.rdI MAC_P_LINK_CFG_HOLD_MS p
    s.linkLost p = if ms = 0 then ((a.wrI SWC_P_STATE p 0).flushPort p).portCounts else (a.holdStart p ms).portCounts := by
  simp only [State.holdStart, State.holdEntered_now]
  exact (if_neg hp).trans (if_pos h)

end Lost

/-! ## Return and expiry (R263) -/

/-- The link-hold window of a port in HOLD has run out. -/
abbrev State.HoldEnded (s : State) (p : Nat) : Prop := s.rdI SWC_P_STATE p = 2 ∧ s.swc.holdEnd.get p (s.now + 1) ≤ s.now

/-- A port enters state `st`, and its window is over. -/
def State.holdOver (s : State) (p st : Nat) : State :=
  ((s.wrI SWC_P_STATE p st).wrI SWC_P_STATE_HOLD_LEFT p 0).onSwc (fun w => { w with holdEnd := w.holdEnd.erase p })

section Hold

variable {s : State} {p : Nat}

theorem State.macLinkReturned_none (h : p = 18 ∨ s.onI MAC_P_STATUS_LINK p = false) : s.macLinkReturned p = s := by
  unfold State.macLinkReturned
  split
  case isTrue hlink =>
    obtain rfl | hdown := h
    · exact if_pos rfl
    · exact absurd (hdown.symm.trans hlink) Bool.false_ne_true
  case isFalse => rfl

/-- The return of a link puts its port UP; a window that had run out unseen is flushed and counted first. -/
theorem State.macLinkReturned_up (hp : p ≠ 18) (hlink : s.onI MAC_P_STATUS_LINK p = true) :
    s.macLinkReturned p =
      ((if s.HoldEnded p then (s.flushPort p).bumpI SWC_P_HOLDS_EXPIRIES p else s).holdOver p 1).portCounts :=
  (if_pos hlink).trans (if_neg hp)

theorem State.holdExpire_ended (h : s.HoldEnded p) :
    s.holdExpire p = (((s.holdOver p 0).bumpI SWC_P_HOLDS_EXPIRIES p).flushPort p).portCounts :=
  if_pos h

theorem State.holdExpire_early (h : ¬s.HoldEnded p) : s.holdExpire p = s := if_neg h

end Hold

/-! ## The flush (R265) -/

/-- The queued copies of a port are discarded and counted. -/
def State.flushQueues (s : State) (p : Nat) : State :=
  (s.swc.copies.filter (fun c => c.port == p && c.st == 1)).foldl (fun s c => (s.discard c 1).bumpI SWC_P_FLUSH p) s

/-- The timestamp that port A awaits is written as flushed. -/
def State.flushAwaited (s : State) (p : Nat) : State :=
  match s.mac.awaitTx with
  | some c => if p = 19 then (s.onMac (fun m => { m with awaitTx := none })).tsqPush 19 c 1 false else s
  | none => s

theorem State.flushPort_eq (s : State) (p : Nat) : s.flushPort p = ((s.flushQueues p).flushAwaited p).flag SWC_TROUBLE_FLUSH := rfl

theorem State.flushAwaited_none {s : State} {p : Nat} (h : p ≠ 19 ∨ s.mac.awaitTx = none) : s.flushAwaited p = s := by
  unfold State.flushAwaited
  split
  case h_1 c hc =>
    obtain hp | hnone := h
    · exact if_neg hp
    · rw [hnone] at hc
      cases hc
  case h_2 => rfl

theorem State.flushAwaited_portA {s : State} {c : Copy} (h : s.mac.awaitTx = some c) :
    s.flushAwaited 19 = (s.onMac (fun m => { m with awaitTx := none })).tsqPush 19 c 1 false := by
  rw [State.flushAwaited, h]
  rfl

/-! ## Supervision (R250) -/

/-- The supervision frame of pair `k`, tagged as `a` on the one port and as `b` on the other, goes out, and the next falls due. -/
def State.supSend (s : State) (k : Nat) (a b : List Byte) : State :=
  ((s.injectPort a 7 (s.rdI SWC_RED_PAIR_PORT_A k)).injectPort b 7 (s.rdI SWC_RED_PAIR_PORT_B k)).onSwc (fun w => { w with
    pairSeq := w.pairSeq.set k ((s.swc.pairSeq.getD k 0 + 1) % 65536), supDue := w.supDue.put k 0 (s.swc.supDue.get k 0 + s.supNs k) })

section Supervision

variable {s : State} {k : Nat}

theorem State.supervision_none (h : s.loaded = false ∨ (s.rdI SWC_RED_PAIR_MODE k ≠ 1 ∧ s.rdI SWC_RED_PAIR_MODE k ≠ 2) ∨
    s.now < s.swc.supDue.get k 0) : s.supervision k = s := by
  refine if_neg ?_
  rintro ⟨hloaded, hmode, hdue⟩
  rcases h with h | ⟨hprp, hhsr⟩ | h
  · exact Bool.false_ne_true (h.symm.trans hloaded)
  · exact hmode.elim hprp hhsr
  · omega

variable (hloaded : s.loaded = true) (hdue : s.swc.supDue.get k 0 ≤ s.now)
include hloaded hdue

theorem State.supervision_prp (hmode : s.rdI SWC_RED_PAIR_MODE k = 1) :
    s.supervision k = s.supSend k (withPrp (s.supFrame k) (s.swc.pairSeq.getD k 0) false)
      (withPrp (s.supFrame k) (s.swc.pairSeq.getD k 0) true) := by
  rw [State.supervision, if_pos ⟨hloaded, .inl hmode, hdue⟩]
  simp only [hmode]
  rfl

theorem State.supervision_hsr (hmode : s.rdI SWC_RED_PAIR_MODE k = 2) :
    s.supervision k = s.supSend k (withHsr (s.supFrame k) (s.swc.pairSeq.getD k 0) 0)
      (withHsr (s.supFrame k) (s.swc.pairSeq.getD k 0) 1) := by
  rw [State.supervision, if_pos ⟨hloaded, .inr hmode, hdue⟩]
  simp only [hmode]
  rfl

end Supervision

/-- Settles O38: a loss, a return, an expiry, a flush and a supervision frame are each one operation, whose cases are the clauses. -/
theorem linksHoldReturnAndExpire : Obligations.LinksHoldReturnAndExpire := by
  unfold Obligations.LinksHoldReturnAndExpire
  refine ⟨?lost, ?down, ?held, ?returned, ?expired, ?flushed, ?supervised⟩
  case lost =>
    intro p los s hup
    exact exec_linkLost_of hup p los
  case down =>
    intro s p h
    exact State.reportLost_down h
  case held =>
    intro s p hp hstate
    exact State.linkLost_up hp hstate
  case returned =>
    intro p s hfab up ended
    rw [exec_linkReturned_of hfab]
    refine ⟨fun hp hlink hopen => ?_, fun hp hlink hended => ?_, fun hnone => congrArg _ (State.macLinkReturned_none hnone)⟩
    · rw [State.macLinkReturned_up hp hlink, if_neg hopen]
      rfl
    · rw [State.macLinkReturned_up hp hlink, if_pos hended]
      rfl
  case expired =>
    intro p s hruns
    rw [exec_linkHoldExpire_of hruns]
    exact ⟨fun hstate hdue => congrArg _ (State.holdExpire_ended ⟨hstate, hdue⟩),
      fun hearly => congrArg _ (State.holdExpire_early hearly)⟩
  case flushed =>
    intro s p a
    rw [State.flushPort_eq]
    refine ⟨fun h => congrArg (State.flag · SWC_TROUBLE_FLUSH) (State.flushAwaited_none h), ?_⟩
    rintro c rfl hawait
    exact congrArg (State.flag · SWC_TROUBLE_FLUSH) (State.flushAwaited_portA hawait)
  case supervised =>
    intro k s hruns next q sent
    rw [exec_supervisionTx_of hruns]
    refine ⟨fun hloaded hdue => ⟨fun hprp => ?_, fun hhsr => ?_⟩, fun hnone => congrArg _ (State.supervision_none hnone)⟩
    · exact congrArg _ (State.supervision_prp hloaded hdue hprp)
    · exact congrArg _ (State.supervision_hsr hloaded hdue hhsr)

end Sys2Proof.Machine
end

section
/-! PROOFS. Received PAUSE frames set and end the pause timer, and while it runs no frame of a paused class starts (R260, R268, R273,
R278, R280, R307). -/

namespace Sys2Proof.Machine

open Sys2Proof Reg

/-! ## What the MAC of a port has (R268, R284) -/

@[simp] theorem hasLine_iff {p : Nat} : hasLine p = true ↔ p ≠ 18 := decide_eq_true_iff

@[simp] theorem hasPreempt_iff {p : Nat} : hasPreempt p = true ↔ p < 18 := decide_eq_true_iff

@[simp] theorem hasPause_iff {p : Nat} : hasPause p = true ↔ 12 ≤ p ∧ p < 16 := by simp [hasPause]

/-! ## The pause timer (R278, R280) -/

theorem exec_pauseReceived_of {s : State} {p : Fin 20} (h : s.Runs (portUnit p.val)) (q : BitVec 16) :
    exec (.pauseReceived p q) s = .next (s.pauseReceived p.val q.toNat) :=
  congrArg Host.Outcome.next (State.liveU_of_runs h _)

/-- A PAUSE frame that a port acts on is counted and shown, and ends the pause before it. -/
def State.pauseHeard (s : State) (p : Nat) : State := ((s.bumpI MAC_P_RX_PAUSE p).flagI MAC_P_TROUBLE_PAUSED p).pauseStop p

/-- The pause timer of a port starts with `q` quanta. -/
def State.pauseBegin (s : State) (p q : Nat) : State :=
  (s.wrI MAC_P_PAUSE_STATUS_RX_LEFT p q).onMac (fun m => { m with
    pauseEnd := m.pauseEnd.insert p (s.now + s.quantaNs p q), pauseStart := m.pauseStart.insert p s.now })

section Timer

variable {s : State} {p q : Nat}

@[simp] theorem State.pauseStop_swc (s : State) (p : Nat) : (s.pauseStop p).swc = s.swc := by
  unfold State.pauseStop
  split
  · rfl
  · dsimp only
    split <;> rfl

theorem State.pauseStop_pauseEnd (h : s.mac.pauseEnd.get p 0 ≠ 0) : (s.pauseStop p).mac.pauseEnd = s.mac.pauseEnd.erase p := by
  rw [State.pauseStop, if_neg h]
  dsimp only
  split <;> rfl

theorem State.pauseHeard_pauseEnd (h : s.mac.pauseEnd.get p 0 ≠ 0) : (s.pauseHeard p).mac.pauseEnd = s.mac.pauseEnd.erase p :=
  State.pauseStop_pauseEnd (s := (s.bumpI MAC_P_RX_PAUSE p).flagI MAC_P_TROUBLE_PAUSED p) h

theorem State.pauseReceived_acts (hport : 12 ≤ p ∧ p < 16) (hen : s.onI MAC_P_PAUSE_RX_PAUSE_EN p = true) :
    s.pauseReceived p q = if q = 0 then s.pauseHeard p else (s.pauseHeard p).pauseBegin p q :=
  if_pos (Bool.and_eq_true_iff.mpr ⟨hasPause_iff.mpr hport, hen⟩)

/-- A port that does not act on PAUSE counts it as a control frame; I0 has no line to receive one. -/
theorem State.pauseReceived_control (h : ¬(12 ≤ p ∧ p < 16) ∨ s.onI MAC_P_PAUSE_RX_PAUSE_EN p = false) :
    s.pauseReceived p q = if p = 18 then s else s.bumpI MAC_P_RX_CONTROL p := by
  have hoff : ¬(hasPause p && s.onI MAC_P_PAUSE_RX_PAUSE_EN p) = true := by
    rcases h with h | h <;> simp [h]
  rw [State.pauseReceived, if_neg hoff]
  simp only [hasLine_iff, ne_eq, ite_not]

end Timer

/-! ## What may not start while a class is paused (R278) -/

section Paused

variable {s : State} {p : Nat} {c : Copy}

theorem State.paused_eq_false_iff {k : Nat} :
    s.paused p k = false ↔ s.mac.pauseEnd.get p 0 ≤ s.now ∨ bitAt (s.rdI MAC_P_PAUSE_EXEMPT_MASK p) k = true := by
  simp [State.paused, imp_iff_not_or]

theorem State.eligible_of_nextCopyOf (h : s.nextCopyOf p = some c) : s.eligible p c = true := List.find?_some (p := s.eligible p) h

theorem State.not_paused_of_eligible (h : s.eligible p c = true) : s.paused p c.cls = false := by
  simp only [State.eligible, Bool.and_eq_true, Bool.not_eq_true'] at h
  obtain ⟨⟨⟨⟨⟨-, hpaused⟩, -⟩, -⟩, -⟩, -⟩ := h
  exact hpaused

theorem State.not_paused_of_cutMay (h : s.cutMay c = true) : s.paused c.port c.cls = false := by
  simp only [State.cutMay, Bool.and_eq_true, Bool.not_eq_true'] at h
  exact h.2

theorem State.not_paused_of_mayLaunch (h : s.mayLaunch p c = true) : c.port = p ∧ s.paused p c.cls = false := by
  simp only [State.mayLaunch, Bool.and_eq_true, Bool.not_eq_true', beq_iff_eq] at h
  obtain ⟨⟨⟨⟨⟨⟨hport, -⟩, -⟩, -⟩, hpaused⟩, -⟩, -⟩ := h
  exact ⟨hport, hpaused⟩

/-- While every copy of a port is of a paused class, none is launched. -/
theorem State.timedLaunch_paused (h : ∀ c ∈ s.swc.copies, c.port = p → s.paused p c.cls = true) : s.timedLaunch p = s := by
  refine State.timedLaunch_none (List.find?_eq_none.mpr fun c hc hmay => ?_)
  obtain ⟨hport, hfree⟩ := State.not_paused_of_mayLaunch hmay
  exact Bool.false_ne_true (hfree.symm.trans (h c hc hport))

end Paused

/-- Settles O39: a received PAUSE is `State.pauseReceived`, and each way for a copy to start asks `State.paused`. -/
theorem pauseFramesStopAndResume : Obligations.PauseFramesStopAndResume := by
  unfold Obligations.PauseFramesStopAndResume
  refine ⟨?acts, ?control, ?next, ?cut, ?timed, ?exempt⟩
  case acts =>
    intro p q s hruns hlow hhigh hen a
    simp only [exec_pauseReceived_of hruns, State.pauseReceived_acts ⟨hlow, hhigh⟩ hen]
    refine ⟨fun hq => congrArg _ (if_neg hq), ?_, State.pauseStop_swc _ _, State.pauseHeard_pauseEnd⟩
    rintro rfl
    rfl
  case control =>
    intro p q s hruns h
    rw [exec_pauseReceived_of hruns, State.pauseReceived_control h]
  case next =>
    intro s p x hnext
    exact State.paused_eq_false_iff.mp (State.not_paused_of_eligible (State.eligible_of_nextCopyOf hnext))
  case cut =>
    intro s c hcut
    exact State.paused_eq_false_iff.mp (State.not_paused_of_cutMay hcut)
  case timed =>
    intro s p hpaused _ hmask
    refine State.timedLaunch_paused fun c hc hport => ?_
    simp [State.paused, hpaused, hmask c hc hport]
  case exempt =>
    intro s p c hexempt
    exact State.paused_eq_false_iff.mpr (.inr hexempt)

end Sys2Proof.Machine
end

section
/-! PROOFS. Pause timers that run out and XOFF frames, and preemption that is verified and used (R274-R276, R278, R279). -/

namespace Sys2Proof.Machine

open Sys2Proof Reg

/-! ## The rows of PAUSE and preemption (R275, R276, R278, R279) -/

theorem exec_verifyRestart_of {who : Agent} {p : Fin 20} {s : State} (h : s.Admits who (0xC000C + 0x1000 * p.val) false) :
    exec (.verifyRestart who p) s = .next ((s.mbCount who).verifyRestart p.val) :=
  congrArg Host.Outcome.next (State.allow_of h _ _)

section Rows

variable {p : Fin 20} {s : State} (h : s.Runs (portUnit p.val))
include h

theorem exec_pauseExpire_of : exec (.pauseExpire p) s = .next (s.pauseExpire p.val) :=
  congrArg Host.Outcome.next (State.liveU_of_runs h _)

theorem exec_pauseXoff_of : exec (.pauseXoff p) s = .next (s.pauseXoff p.val) :=
  congrArg Host.Outcome.next (State.liveU_of_runs h _)

theorem exec_pauseRefresh_of : exec (.pauseRefresh p) s = .next (s.pauseRefresh p.val) :=
  congrArg Host.Outcome.next (State.liveU_of_runs h _)

theorem exec_pauseXon_of : exec (.pauseXon p) s = .next (s.pauseXon p.val) :=
  congrArg Host.Outcome.next (State.liveU_of_runs h _)

theorem exec_verifyTimeout_of : exec (.verifyTimeout p) s = .next (s.verifyTimeout p.val) :=
  congrArg Host.Outcome.next (State.liveU_of_runs h _)

theorem exec_verifyResponse_of : exec (.verifyResponse p) s = .next (s.verifyResponse p.val) :=
  congrArg Host.Outcome.next (State.liveU_of_runs h _)

theorem exec_verifyReceived_of : exec (.verifyReceived p) s = .next (s.verifyReceived p.val) :=
  congrArg Host.Outcome.next (State.liveU_of_runs h _)

theorem exec_preemption_of (sent : Nat) : exec (.preemption p sent) s = .next (s.preempt p.val sent) :=
  congrArg Host.Outcome.next (State.liveU_of_runs h _)

end Rows

/-! ## The pause timer runs out, and XOFF (R278, R279) -/

section Xoff

variable {s : State} {p : Nat}

theorem State.pauseExpire_due (h : s.mac.pauseEnd.get p (s.now + 1) ≤ s.now) : s.pauseExpire p = s.pauseStop p := if_pos h

theorem State.pauseExpire_early (h : s.now < s.mac.pauseEnd.get p (s.now + 1)) : s.pauseExpire p = s := if_neg (Nat.not_le_of_lt h)

theorem State.pauseXoff_rises (hport : 12 ≤ p ∧ p < 16) (hen : s.onI MAC_P_PAUSE_TX_PAUSE_EN p = true)
    (hopen : s.onI MAC_P_PAUSE_STATUS_XOFF p = false) (hcells : 16 * s.rdI MAC_P_PAUSE_THR_XOFF_CELLS p < s.inCells p) :
    s.pauseXoff p = (((s.pauseQueue p (s.rdI MAC_P_PAUSE_PAUSE_QUANTA p)).wrI MAC_P_PAUSE_STATUS_XOFF p 1).flagI
      MAC_P_TROUBLE_XOFF p).pauseArm p :=
  if_pos (by simp [hport, hen, hopen, hcells])

theorem State.pauseXoff_none (h : ¬(12 ≤ p ∧ p < 16) ∨ s.onI MAC_P_PAUSE_TX_PAUSE_EN p = false ∨
    s.onI MAC_P_PAUSE_STATUS_XOFF p = true ∨ s.inCells p ≤ 16 * s.rdI MAC_P_PAUSE_THR_XOFF_CELLS p) : s.pauseXoff p = s := by
  refine if_neg ?_
  rcases h with hport | hen | hxoff | hcells
  · simp [hport]
  · simp [hen]
  · simp [hxoff]
  · simp [hcells]

theorem State.pauseRefresh_repeats (hxoff : s.onI MAC_P_PAUSE_STATUS_XOFF p = true)
    (hcells : 16 * s.rdI MAC_P_PAUSE_THR_XON_CELLS p < s.inCells p) (hdue : s.mac.xoffRefresh.get p (s.now + 1) ≤ s.now) :
    s.pauseRefresh p = (s.pauseQueue p (s.rdI MAC_P_PAUSE_PAUSE_QUANTA p)).pauseArm p :=
  if_pos (by simp [hxoff, hcells, hdue])

theorem State.pauseRefresh_none (h : s.onI MAC_P_PAUSE_STATUS_XOFF p = false ∨
    s.inCells p ≤ 16 * s.rdI MAC_P_PAUSE_THR_XON_CELLS p ∨ s.now < s.mac.xoffRefresh.get p (s.now + 1)) : s.pauseRefresh p = s := by
  refine if_neg ?_
  rcases h with hopen | hcells | hearly
  · simp [hopen]
  · simp [hcells]
  · simp [hearly]

theorem State.pauseXon_falls (hxoff : s.onI MAC_P_PAUSE_STATUS_XOFF p = true)
    (hcells : s.inCells p ≤ 16 * s.rdI MAC_P_PAUSE_THR_XON_CELLS p) : s.pauseXon p = (s.pauseQueue p 0).xoffClear p :=
  if_pos (by simp [hxoff, hcells])

theorem State.pauseXon_none (h : s.onI MAC_P_PAUSE_STATUS_XOFF p = false ∨ 16 * s.rdI MAC_P_PAUSE_THR_XON_CELLS p < s.inCells p) :
    s.pauseXon p = s := by
  refine if_neg ?_
  rcases h with hopen | hcells
  · simp [hopen]
  · simp [hcells]

end Xoff

/-! ## Verification (R275) -/

/-- Verification of a port fails. -/
def State.verifyFails (s : State) (p : Nat) : State :=
  (((s.wrI MAC_P_PREEMPT_STATUS_VERIFY p 4).flagI MAC_P_TROUBLE_VERIFY_FAIL p).onMac
    (fun m => { m with verifyEnd := m.verifyEnd.erase p })).macRefresh p

section Verification

variable {s : State} {p : Nat}

theorem State.verifyRestart_verifies (h : s.verifies p = true) : s.verifyRestart p = (s.losePreempted p).verifyOver p := if_pos h

theorem State.verifyRestart_none (h : s.verifies p = false) : s.verifyRestart p = s := if_neg (Bool.eq_false_iff.mp h)

theorem State.verifyTimeout_due (hst : s.rdI MAC_P_PREEMPT_STATUS_VERIFY p = 2) (hdue : s.mac.verifyEnd.get p (s.now + 1) ≤ s.now) :
    s.verifyTimeout p = if s.rdI MAC_P_PREEMPT_STATUS_ATTEMPTS p < 3 then s.verifySend p else s.verifyFails p :=
  if_pos ⟨hst, hdue⟩

theorem State.verifyTimeout_none (h : s.rdI MAC_P_PREEMPT_STATUS_VERIFY p ≠ 2 ∨ s.now < s.mac.verifyEnd.get p (s.now + 1)) :
    s.verifyTimeout p = s :=
  if_neg fun ⟨hst, hdue⟩ => h.elim (· hst) (Nat.not_lt_of_le hdue)

theorem State.verifyResponse_verifying (h : s.rdI MAC_P_PREEMPT_STATUS_VERIFY p = 2) :
    s.verifyResponse p = ((s.wrI MAC_P_PREEMPT_STATUS_VERIFY p 3).onMac
      (fun m => { m with verifyEnd := m.verifyEnd.erase p })).macRefresh p :=
  if_pos h

theorem State.verifyResponse_none (h : s.rdI MAC_P_PREEMPT_STATUS_VERIFY p ≠ 2) : s.verifyResponse p = s := if_neg h

theorem State.verifyReceived_up (hport : p < 18) (hlink : s.onI MAC_P_STATUS_LINK p = true) :
    s.verifyReceived p = s.onMac (fun m => { m with respond := m.respond ++ [p] }) :=
  if_pos (Bool.and_eq_true_iff.mpr ⟨hasPreempt_iff.mpr hport, hlink⟩)

theorem State.verifyReceived_none (h : 18 ≤ p ∨ s.onI MAC_P_STATUS_LINK p = false) : s.verifyReceived p = s := by
  refine if_neg ?_
  rcases h with hport | hdown
  · simp [hport]
  · simp [hdown]

end Verification

/-! ## Preemption (R276) -/

/-- R276 lets copy `c` on the line of port `p` be preempted after `sent` octets of its present fragment; of a copy that is still
arriving the octets to come are taken as enough (log entry 14). -/
structure State.MayPreempt (s : State) (p sent : Nat) (c : Copy) : Prop where
  active : s.preemptActive p = true
  preemptable : s.express p c.cls = false
  ready : s.expressReady p = true
  aligned : sent % 8 = 0
  fragment : 64 * (1 + s.rdI MAC_P_PREEMPT_ADD_FRAG p) ≤ sent + 4
  rest : c.complete = true → c.sentOctets + sent + 64 ≤ frameLen c.bytes

/-- Copy `c` is taken off the line of port `p` after `sent` octets of its present fragment, which is counted. -/
def State.preemptCopy (s : State) (p sent : Nat) (c : Copy) : State :=
  (((s.onSwc (fun w => { w with copies := w.copies.map (fun x =>
      if x.id = c.id then { x with st := 3, fragments := x.fragments + 1, sentOctets := x.sentOctets + sent } else x) })).bumpI
    MAC_P_TX_PREEMPTIONS p).bumpI MAC_P_TX_FRAGMENTS p).wrI MAC_P_STATUS_SENDING p 0

section Preemption

variable {s : State} {p sent : Nat} {c : Copy}

theorem State.mayPreempt_iff : s.MayPreempt p sent c ↔
    (s.preemptActive p && !s.express p c.cls && s.expressReady p && decide (sent % 8 = 0) &&
      decide (64 * (1 + s.rdI MAC_P_PREEMPT_ADD_FRAG p) ≤ sent + 4) &&
      (!c.complete || decide (c.sentOctets + sent + 64 ≤ frameLen c.bytes))) = true := by
  have hrest : (c.complete = true → c.sentOctets + sent + 64 ≤ frameLen c.bytes) ↔
      c.complete = false ∨ c.sentOctets + sent + 64 ≤ frameLen c.bytes := by
    rw [imp_iff_not_or, Bool.not_eq_true]
  simp only [Bool.and_eq_true, Bool.or_eq_true, Bool.not_eq_true', decide_eq_true_eq, ← hrest, and_assoc]
  exact ⟨fun ⟨hact, hpre, hready, haligned, hfrag, hrest⟩ => ⟨hact, hpre, hready, haligned, hfrag, hrest⟩,
    fun ⟨hact, hpre, hready, haligned, hfrag, hrest⟩ => ⟨hact, hpre, hready, haligned, hfrag, hrest⟩⟩

theorem State.preempt_stops (hc : s.swc.copies.find? (fun c => c.port == p && c.st == 2) = some c) (h : s.MayPreempt p sent c) :
    s.preempt p sent = s.preemptCopy p sent c := by
  rw [State.preempt, hc]
  exact if_pos (State.mayPreempt_iff.mp h)

theorem State.preempt_goes_on
    (h : ∀ c, s.swc.copies.find? (fun c => c.port == p && c.st == 2) = some c → ¬s.MayPreempt p sent c) : s.preempt p sent = s := by
  rw [State.preempt]
  split
  · rfl
  next c hc => exact if_neg fun hmay => h c hc (State.mayPreempt_iff.mpr hmay)

end Preemption

/-- Settles O40: a row of PAUSE, of verification or of preemption is one guarded operation, which the clauses take on either side of
its guard. -/
theorem pauseTimersAndPreemption : Obligations.PauseTimersAndPreemption := by
  unfold Obligations.PauseTimersAndPreemption
  refine ⟨⟨?pause, fun s p => rfl⟩, ?restart, ?unverified, ?verify, ?preempted, ?goesOn⟩
  case pause =>
    intro p s hruns
    rw [exec_pauseExpire_of hruns, exec_pauseXoff_of hruns, exec_pauseRefresh_of hruns, exec_pauseXon_of hruns]
    exact ⟨fun hdue => congrArg _ (State.pauseExpire_due hdue),
      fun hearly => congrArg _ (State.pauseExpire_early hearly),
      fun hnone => congrArg _ (State.pauseXoff_none hnone),
      fun hnone => congrArg _ (State.pauseRefresh_none hnone),
      fun hnone => congrArg _ (State.pauseXon_none hnone),
      fun hlow hhigh hen hopen hcells => congrArg _ (State.pauseXoff_rises ⟨hlow, hhigh⟩ hen hopen hcells),
      fun hxoff hcells hdue => congrArg _ (State.pauseRefresh_repeats hxoff hcells hdue),
      fun hxoff hcells => congrArg _ (State.pauseXon_falls hxoff hcells)⟩
  case restart =>
    intro who p s hadmits hverifies
    rw [exec_verifyRestart_of hadmits]
    exact congrArg _ (State.verifyRestart_verifies hverifies)
  case unverified =>
    intro who p s hadmits hverifies
    rw [exec_verifyRestart_of hadmits, State.verifyRestart_none hverifies]
  case verify =>
    intro p s hruns
    rw [exec_verifyTimeout_of hruns, exec_verifyResponse_of hruns, exec_verifyReceived_of hruns]
    refine ⟨fun hst hdue => ?_, fun hst => congrArg _ (State.verifyResponse_verifying hst),
      fun hst => ⟨congrArg _ (State.verifyResponse_none hst), congrArg _ (State.verifyTimeout_none (.inl hst))⟩,
      fun hearly => congrArg _ (State.verifyTimeout_none (.inr hearly)),
      fun hnone => congrArg _ (State.verifyReceived_none hnone),
      fun hport hlink => congrArg _ (State.verifyReceived_up hport hlink)⟩
    rw [State.verifyTimeout_due hst hdue]
    exact ⟨fun hagain => congrArg _ (if_pos hagain), fun hlast => congrArg _ (if_neg (Nat.not_lt_of_le hlast))⟩
  case preempted =>
    intro p sent s c hruns hc hact hpre hready haligned hfrag hrest stop
    rw [exec_preemption_of hruns]
    exact congrArg _ (State.preempt_stops hc ⟨hact, hpre, hready, haligned, hfrag, hrest⟩)
  case goesOn =>
    intro p sent s hruns hbars
    rw [exec_preemption_of hruns]
    refine congrArg _ (State.preempt_goes_on fun c hc hmay => ?_)
    rcases hbars c hc with hact | hexpress | hready | haligned | hfrag | ⟨hcomplete, hrest⟩
    · exact Bool.false_ne_true (hact.symm.trans hmay.active)
    · exact Bool.false_ne_true (hmay.preemptable.symm.trans hexpress)
    · exact Bool.false_ne_true (hready.symm.trans hmay.ready)
    · exact haligned hmay.aligned
    · exact Nat.not_le_of_lt hfrag hmay.fragment
    · exact Nat.not_le_of_lt hrest (hmay.rest hcomplete)

end Sys2Proof.Machine
end

section
/-! PROOFS. Links that qualify and cages that fault, the frames of port A, and wake frames (R270, R275, R281, R282, R285-R287, R496). -/

namespace Sys2Proof.Machine

open Sys2Proof Reg

/-! ## The rows of links, cages, port A and wake frames (R270, R281, R282, R287, R496) -/

theorem exec_portEnWrite_of {who : Agent} {p : Fin 20} {s : State} (h : s.Admits who (0xC000C + 0x1000 * p.val) false) (en : Bool) :
    exec (.portEnWrite who p en) s = .next ((s.mbCount who).portEn p.val en) :=
  congrArg Host.Outcome.next (State.allow_of h _ _)

theorem exec_sfpOvercurrent_of {s : State} (h : s.fabricUp = true) (p : Fin 16) :
    exec (.sfpOvercurrent p) s = .next (s.sfpOvercurrent p.val) :=
  congrArg Host.Outcome.next (State.live_of_up h _)

theorem exec_sfpFault_of {s : State} (h : s.fabricUp = true) (p : Fin 16) (removed : Bool) :
    exec (.sfpFault p removed) s = .next (s.sfpFault p.val removed) :=
  congrArg Host.Outcome.next (State.live_of_up h _)

theorem exec_linkQualified_of {p : Fin 20} {s : State} (h : s.Runs (portUnit p.val)) :
    exec (.linkQualified p) s = .next (s.linkQualified p.val) :=
  congrArg Host.Outcome.next (State.liveU_of_runs h _)

theorem exec_wakeFrame_of {p : Fin 20} {s : State} (h : s.Runs (portUnit p.val)) (bs : List Byte) :
    exec (.wakeFrame p bs) s = .next (s.wakeFrame p.val bs) :=
  congrArg Host.Outcome.next (State.liveU_of_runs h _)

section PortARows

variable {s : State} (h : s.Runs 21)
include h

theorem exec_portACollision_of (sent : Nat) : exec (.portACollision sent) s = .next (s.portACollision sent) :=
  congrArg Host.Outcome.next (State.liveU_of_runs h _)

theorem exec_portABackoffExpire_of : exec .portABackoffExpire s = .next s.portABackoff :=
  congrArg Host.Outcome.next (State.liveU_of_runs h _)

theorem exec_portAFrameInterrupt_of (sent : Bool) : exec (.portAFrameInterrupt sent) s = .next (s.portAIntr sent) :=
  congrArg Host.Outcome.next (State.liveU_of_runs h _)

end PortARows

/-! ## Qualification, enable and loss of a link (R270, R496) -/

/-- Lock at port A ends the fault of its PHY. -/
def State.phyFaultOver (s : State) (p : Nat) : State := if p = 19 then s.onMac (fun m => { m with phyFault := false }) else s

/-- Lock shows an SFP+ to be there, without loss of signal. -/
def State.sfpSeen (s : State) (p : Nat) : State :=
  if p < 16 then (s.wrI MAC_P_STATUS_SFP_PRESENT p 1).wrI MAC_P_STATUS_SFP_LOS p 0 else s

/-- The link of a port is up for its MAC, and verification starts. -/
def State.macLinkUp (s : State) (p : Nat) : State :=
  ((((s.wrI MAC_P_STATUS_LOCK p 1).wrI MAC_P_STATUS_LINK p 1).verifyInitial p).verifyStart p).macRefresh p

/-- A write of PORT_EN = 1: qualification counts from it, and a cage whose overcurrent a write of 0 has followed is on again. -/
def State.portOn (s : State) (p : Nat) : State :=
  let t := s.wrI MAC_P_CTRL_PORT_EN p 1
  t.onMac (fun m => { m with
    qualAt := m.qualAt.insert p t.now, cageOff := if s.mac.cageOff.get p 0 = 2 then m.cageOff.erase p else m.cageOff })

section Links

variable {s : State} {p : Nat}

theorem State.linkQualified_held (hp : p ≠ 18) (hen : s.onI MAC_P_CTRL_PORT_EN p = true) (hspeed : s.rdI MAC_P_CFG_SPEED p ≠ 0)
    (hcage : s.mac.cageOff.get p 0 = 0) (hclk : s.clk (portUnit p) = true) (hheld : s.qualHeld p = true) :
    s.linkQualified p = ((s.phyFaultOver p).sfpSeen p).macLinkUp p :=
  if_pos (by simp [hp, hen, hspeed, hcage, hclk, hheld])

theorem State.linkQualified_none (h : p = 18 ∨ s.onI MAC_P_CTRL_PORT_EN p = false ∨ s.rdI MAC_P_CFG_SPEED p = 0 ∨
    s.mac.cageOff.get p 0 ≠ 0 ∨ s.qualHeld p = false) : s.linkQualified p = s := by
  refine if_neg ?_
  rcases h with hp | hen | hspeed | hcage | hheld
  · simp [hp]
  · simp [hen]
  · simp [hspeed]
  · simp [hcage]
  · simp [hheld]

theorem State.portEn_i0 (en : Bool) : s.portEn 18 en = s := rfl

theorem State.portEn_on (hp : p ≠ 18) : s.portEn p true = if p = 19 then (s.portOn p).portAUp else s.portOn p :=
  if_pos (hasLine_iff.mpr hp)

theorem State.portEn_off (hp : p ≠ 18) (hcage : s.mac.cageOff.get p 0 = 0) :
    s.portEn p false = (s.wrI MAC_P_CTRL_PORT_EN p 0).reportLost p := by
  rw [State.portEn, if_pos (hasLine_iff.mpr hp)]
  simp only [hcage, Bool.false_eq_true, if_false, if_true]
  rfl

/-- A cage that is off after an overcurrent is noted, so that PORT_EN = 1 turns it on again. -/
theorem State.portEn_off_cage (hp : p ≠ 18) (hcage : s.mac.cageOff.get p 0 ≠ 0) :
    s.portEn p false = ((s.wrI MAC_P_CTRL_PORT_EN p 0).onMac (fun m => { m with cageOff := m.cageOff.insert p 2 })).reportLost p := by
  rw [State.portEn, if_pos (hasLine_iff.mpr hp)]
  simp only [hcage, Bool.false_eq_true, if_false]
  rfl

end Links

/-! ## Collisions and back-off of port A (R281) -/

/-- The frame on the line of port A is taken back after its collision number `n`, with a jam and `r` slot times to wait. -/
def State.portAWait (s : State) (c : Copy) (n r : Nat) : State :=
  ((s.onSwc (fun w => { w with copies := w.copies.map (fun x => if x.id = c.id then { x with st := 4 } else x) })).wrI
    MAC_P_STATUS_SENDING 19 0).onMac
      (fun m => { m with collisions := n, carrierAt := s.now + 3200, backoffEnd := some (s.now + 3200 + r * 51200) })

/-- The frame that backs off at port A is sent again. -/
def State.portARetry (s : State) : State :=
  ((s.onSwc (fun w => { w with copies := w.copies.map (fun x =>
      if x.port = 19 ∧ x.st = 4 then { x with st := 2, egressTs := s.taiNs } else x) })).wrI MAC_P_STATUS_SENDING 19 1).onMac
    (fun m => { m with backoffEnd := none })

section PortA

variable {s : State} {sent : Nat} {c : Copy}

theorem State.portACollision_none (h : s.swc.copies.find? (fun c => c.port == 19 && c.st == 2) = none) (sent : Nat) :
    s.portACollision sent = s := by
  rw [State.portACollision, h]

theorem State.portACollision_late (hc : s.swc.copies.find? (fun c => c.port == 19 && c.st == 2) = some c) (hlate : 512 < sent) :
    s.portACollision sent = (s.bumpI MAC_P_COLLISIONS 19).portADrop c MAC_P_LATE_COLL := by
  rw [State.portACollision, hc]
  exact if_pos hlate

theorem State.portACollision_excess (hc : s.swc.copies.find? (fun c => c.port == 19 && c.st == 2) = some c) (hearly : sent ≤ 512)
    (hlast : 16 ≤ s.mac.collisions + 1) : s.portACollision sent = (s.bumpI MAC_P_COLLISIONS 19).portADrop c MAC_P_EXCESS_COLL := by
  rw [State.portACollision, hc]
  exact (if_neg (Nat.not_lt_of_le hearly)).trans (if_pos hlast)

theorem State.portACollision_waits (hc : s.swc.copies.find? (fun c => c.port == 19 && c.st == 2) = some c) (hearly : sent ≤ 512)
    (hretry : s.mac.collisions + 1 < 16) :
    let u := s.bumpI MAC_P_COLLISIONS 19
    let n := s.mac.collisions + 1
    s.portACollision sent = u.fresh.2.portAWait c n (u.fresh.1 % 2 ^ min n 10) := by
  intro u n
  rw [State.portACollision, hc]
  exact (if_neg (Nat.not_lt_of_le hearly)).trans (if_neg (Nat.not_le_of_lt hretry))

theorem State.portABackoff_early (h : s.due s.mac.backoffEnd = false) : s.portABackoff = s := if_neg (Bool.eq_false_iff.mp h)

section Due

variable (hdue : s.due s.mac.backoffEnd = true)
include hdue

theorem State.portABackoff_free (hfree : s.carrierBars 19 = false) : s.portABackoff = s.portARetry :=
  (if_pos hdue).trans (if_neg (Bool.eq_false_iff.mp hfree))

theorem State.portABackoff_defers (hcarrier : s.carrierBars 19 = true)
    (hc : s.swc.copies.find? (fun x => x.port == 19 && x.st == 4) = some c) : s.portABackoff = s.noteDefer c := by
  rw [State.portABackoff, if_pos hdue, if_pos hcarrier, hc]

theorem State.portABackoff_none (hcarrier : s.carrierBars 19 = true)
    (hc : s.swc.copies.find? (fun x => x.port == 19 && x.st == 4) = none) : s.portABackoff = s := by
  rw [State.portABackoff, if_pos hdue, if_pos hcarrier, hc]

end Due

/-! ## The frame interrupt of port A (R282) -/

/-- The received frame of port A whose reception began at `t` gets its timestamp, and the frames of `q` wait for theirs. -/
def State.portAStamp (s : State) (t : Nat) (q : List Nat) : State :=
  (s.onMac (fun m => { m with awaitRx := q })).onSwc (fun w => { w with
    copies := w.copies.map (fun c => if c.inPort = 19 ∧ c.firstAt = t then { c with rxTs := s.taiNs } else c) })

theorem State.portAIntr_noTx (h : s.mac.awaitTx = none) : s.portAIntr true = s := by
  rw [State.portAIntr, if_pos rfl, h]

theorem State.portAIntr_noRx (h : s.mac.awaitRx = []) : s.portAIntr false = s := by
  rw [State.portAIntr, if_neg Bool.false_ne_true, h]

theorem State.portAIntr_tx (h : s.mac.awaitTx = some c) :
    s.portAIntr true = (s.onMac (fun m => { m with awaitTx := none })).tsqPush 19 { c with egressTs := s.taiNs } 0 true := by
  rw [State.portAIntr, if_pos rfl, h]

theorem State.portAIntr_rx {t : Nat} {q : List Nat} (h : s.mac.awaitRx = t :: q) : s.portAIntr false = s.portAStamp t q := by
  rw [State.portAIntr, if_neg Bool.false_ne_true, h]
  rfl

end PortA

/-! ## Wake frames (R285-R287) -/

/-- The first wake frame is captured: WAKE is set, and its request code and source address are stored. -/
def State.wakeCapture (s : State) (p : Nat) (bs : List Byte) : State :=
  ((((s.flagI MAC_P_WAKE_STATUS_WAKE p).flagI MAC_P_TROUBLE_WAKE p).wrI MAC_P_WAKE_CODE p (beAt bs (etypeOff bs + 22) 4)).wrI
    MAC_P_WAKE_SRC p (beAt bs 8 4)).wrI MAC_P_WAKE_SRC_HI p (beAt bs 6 2)

section Wake

variable {s : State} {p : Nat} {bs : List Byte}

theorem State.wakeFrame_ignored (h : (s.wakeArmed p && s.isWake p bs) = false) : s.wakeFrame p bs = s := if_neg (Bool.eq_false_iff.mp h)

theorem State.wakeFrame_counted (harmed : s.wakeArmed p = true) (hwake : s.isWake p bs = true) :
    let u := s.bumpI MAC_P_RX_WAKE p
    s.wakeFrame p bs =
      if u.onI MAC_P_WAKE_STATUS_WAKE p then u.flagI MAC_P_WAKE_STATUS_WAKE_OVERRUN p else u.wakeCapture p bs :=
  if_pos (Bool.and_eq_true_iff.mpr ⟨harmed, hwake⟩)

end Wake

/-- Settles O41: links, cages, port A and the wake detector have one guarded operation for each row, whose cases are the clauses. -/
theorem linksCagesPortAAndWakeFrames : Obligations.LinksCagesPortAAndWakeFrames := by
  unfold Obligations.LinksCagesPortAAndWakeFrames
  refine ⟨⟨?qualified, ?unqualified, ?enable, ?cage, ?lost⟩, ?collision, ?backoff, ?idle, ?noWake, ?sent, ?received, ?wake⟩
  case qualified =>
    intro p s hruns hp hen hspeed hcage hheld a b
    rw [exec_linkQualified_of hruns]
    exact congrArg _ (State.linkQualified_held hp hen hspeed hcage hruns.2 hheld)
  case unqualified =>
    intro p s hruns hnone
    rw [exec_linkQualified_of hruns, State.linkQualified_none hnone]
  case enable =>
    intro who p s hadmits u
    simp only [exec_portEnWrite_of hadmits]
    refine ⟨fun hp => ⟨congrArg _ (State.portEn_on hp), fun hcage => congrArg _ (State.portEn_off hp hcage),
      fun hcage => congrArg _ (State.portEn_off_cage hp hcage)⟩, fun hp en => ?_⟩
    rw [hp, State.portEn_i0]
  case cage =>
    intro p s hup u
    exact ⟨exec_sfpOvercurrent_of hup p, exec_sfpFault_of hup p false, exec_sfpFault_of hup p true⟩
  case lost =>
    intro s p hp hlink a b
    exact if_pos (Bool.and_eq_true_iff.mpr ⟨hasLine_iff.mpr hp, hlink⟩)
  case collision =>
    intro sent s c hruns hc u
    rw [exec_portACollision_of hruns]
    refine ⟨fun hearly hretry => ⟨u.fresh.1 % 2 ^ min (u.mac.collisions + 1) 10, Nat.mod_lt _ (Nat.two_pow_pos _), ?_⟩,
      fun hlate => congrArg _ (State.portACollision_late hc hlate),
      fun hearly hlast => congrArg _ (State.portACollision_excess hc hearly hlast)⟩
    exact congrArg _ (State.portACollision_waits hc hearly hretry)
  case backoff =>
    intro s hruns hdue again
    rw [exec_portABackoffExpire_of hruns]
    exact ⟨fun hfree => congrArg _ (State.portABackoff_free hdue hfree),
      fun x hcarrier hx => congrArg _ (State.portABackoff_defers hdue hcarrier hx),
      fun hcarrier hnone => congrArg _ (State.portABackoff_none hdue hcarrier hnone)⟩
  case idle =>
    intro s hruns
    simp only [exec_portABackoffExpire_of hruns, exec_portAFrameInterrupt_of hruns, exec_portACollision_of hruns]
    exact ⟨fun hearly => congrArg _ (State.portABackoff_early hearly), fun hnone => congrArg _ (State.portAIntr_noTx hnone),
      fun hnone => congrArg _ (State.portAIntr_noRx hnone), fun hnone n => congrArg _ (State.portACollision_none hnone n)⟩
  case noWake =>
    intro p bs s hruns hnone
    rw [exec_wakeFrame_of hruns, State.wakeFrame_ignored hnone]
  case sent =>
    intro s c hruns hc
    rw [exec_portAFrameInterrupt_of hruns, State.portAIntr_tx hc]
  case received =>
    intro s t q hruns hq stamp
    rw [exec_portAFrameInterrupt_of hruns]
    exact congrArg _ (State.portAIntr_rx hq)
  case wake =>
    intro p bs s hruns harmed hwake u
    rw [exec_wakeFrame_of hruns, State.wakeFrame_counted harmed hwake]
    exact ⟨fun hagain => congrArg _ (if_pos hagain), fun hfirst => congrArg _ (if_neg (Bool.eq_false_iff.mp hfirst))⟩

end Sys2Proof.Machine
end

section
/-! PROOFS. The time base: the time floor, sources and holdover, IRIG-B, PPS, whole seconds and the host's adjustments (R291, R292,
R295-R300, R310, R312). -/

namespace Sys2Proof.Machine

open Sys2Proof Reg

/-! ## The time floor (R291) -/

theorem exec_timeFloorUpdate_of {s : State} (h : s.Runs 18) : exec .timeFloorUpdate s = .next s.floorUpdate :=
  congrArg Host.Outcome.next (State.liveU_of_runs h _)

section Floor

variable {s : State}

theorem State.floorUpdate_due (hlocked : s.rd TIM_STATUS_STATE = 2) (hdue : s.tim.floorAt + 3600000000000 ≤ s.now) :
    s.floorUpdate = s.onTim (fun t => { t with floor := max t.floor (s.taiNs / 1000000000), floorAt := s.now }) := by
  rw [State.floorUpdate, if_pos ⟨hlocked, hdue⟩, State.raiseFloor, if_pos hlocked]
  rfl

theorem State.floorUpdate_idle (h : s.rd TIM_STATUS_STATE ≠ 2 ∨ s.now < s.tim.floorAt + 3600000000000) : s.floorUpdate = s :=
  if_neg fun ⟨hlocked, hdue⟩ => h.elim (· hlocked) (Nat.not_lt_of_le hdue)

end Floor

/-- Settles O45: no step lowers the floor by what every step keeps, and the hourly update is `State.floorUpdate`. -/
theorem timeFloorNeverFalls : Obligations.TimeFloorNeverFalls := by
  unfold Obligations.TimeFloorNeverFalls
  refine ⟨fun s t e => ?_, fun s hs => ?_⟩
  · obtain ⟨-, -, -, -, hfloor, -⟩ := everyStepKeepsTheStateWellFormed s t e
    exact hfloor
  · rw [exec_timeFloorUpdate_of hs]
    exact ⟨fun hlocked hdue => congrArg _ (State.floorUpdate_due hlocked hdue), fun h => congrArg _ (State.floorUpdate_idle h)⟩

/-! ## Sources (R292, R298) -/

section SourceRows

variable {s : State} (h : s.Runs 18)
include h

theorem exec_sourceQualified_of (i : Fin 4) : exec (.sourceQualified i) s = .next (s.sourceQualified i.val) :=
  congrArg Host.Outcome.next (State.liveU_of_runs h _)

theorem exec_sourceLost_of (i : Fin 4) : exec (.sourceLost i) s = .next (s.sourceLost i.val) :=
  congrArg Host.Outcome.next (State.liveU_of_runs h _)

theorem exec_holdoverExpire_of : exec .holdoverExpire s = .next s.holdoverExpire :=
  congrArg Host.Outcome.next (State.liveU_of_runs h _)

theorem exec_ref10Qualified_of : exec .ref10Qualified s = .next (s.ref10 true) :=
  congrArg Host.Outcome.next (State.liveU_of_runs h _)

theorem exec_ref10Lost_of : exec .ref10Lost s = .next (s.ref10 false) :=
  congrArg Host.Outcome.next (State.liveU_of_runs h _)

end SourceRows

/-- What keeps a listed source with measurements from becoming qualified: its kind may not be used, it is qualified, no Binding lists
it, its measurements are too few, or it has fallen silent. -/
def State.SourceBarred (s : State) (i : Nat) (x : TimSrc) : Prop :=
  s.srcAt i = 0 ∨ 4 < s.srcAt i ∨ s.qualified i = true ∨ s.loaded = false ∨ x.last - x.first + 1 < max 1 (s.rd TIM_SRC_CFG_QUAL_S) ∨
    x.at_ + max 1 (s.rd TIM_SRC_CFG_LOSS_S) * 1000000000 ≤ s.now ∨ (s.srcAt i = 2 ∧ s.on TIM_STATUS_UTC_VALID = false) ∨
    (3 ≤ s.srcAt i ∧ s.on TIM_STATUS_TIME_VALID = false)

/-- A listed source has delivered no measurement for LOSS_S seconds. -/
def State.sourceSilent (s : State) (i : Nat) : Bool :=
  (s.tim.srcs.find? (fun p => p.1 == s.srcAt i)).all (fun p => decide (p.2.at_ + max 1 (s.rd TIM_SRC_CFG_LOSS_S) * 1000000000 ≤ s.now))

/-- A listed source is no longer qualified, and its measurements are forgotten. -/
def State.sourceDrop (s : State) (i : Nat) : State :=
  (s.wrBit TIM_STATUS_QUALIFIED 0 i false).onTim (fun t => { t with srcs := t.srcs.filter (fun p => p.1 != s.srcAt i) })

/-- No source is left: LOCKED becomes HOLDOVER, steered to the 10 MHz reference or held at the mean frequency, any other state FREERUN. -/
def State.sourceNone (s : State) : State :=
  if s.rd TIM_STATUS_STATE = 2 then
    let h := ((s.timState 3).flag TIM_TROUBLE_HOLDOVER).onTim (fun t => { t with holdAt := s.now })
    if h.on TIM_STATUS_REF10_OK then h.slew else h.wr TIM_FREQ (unsigned 32 h.meanFreq)
  else (s.timState 0).steer10

@[simp] theorem State.timState_now (s : State) (st : Nat) : (s.timState st).now = s.now := rfl

section Sources

variable {s : State} {i : Nat}

theorem State.sourceQualified_unmeasured (h : s.tim.srcs.find? (fun p => p.1 == s.srcAt i) = none) : s.sourceQualified i = s := by
  rw [State.sourceQualified]
  simp only [h, Option.map_none]

section Measured

variable {x : TimSrc} (hx : s.tim.srcs.find? (fun p => p.1 == s.srcAt i) = some (s.srcAt i, x))
include hx

theorem State.sourceQualified_barred (h : s.SourceBarred i x) : s.sourceQualified i = s := by
  rw [State.SourceBarred] at h
  simp only [State.sourceQualified, hx, Option.map_some, if_pos h]

theorem State.sourceQualified_taken (h : ¬ s.SourceBarred i x) :
    s.sourceQualified i =
      let u := s.wrBit TIM_STATUS_QUALIFIED 0 i true
      if u.rd TIM_STATUS_SOURCE = 0 then ((u.wr TIM_STATUS_SOURCE (s.srcAt i)).wr TIM_STATUS_HOLDOVER_MIN 0).timState 1 else u := by
  rw [State.SourceBarred] at h
  simp only [State.sourceQualified, hx, Option.map_some, if_neg h]

end Measured

theorem State.sourceSilent_some {p : Nat × TimSrc} (hfind : s.tim.srcs.find? (fun p => p.1 == s.srcAt i) = some p) :
    s.sourceSilent i = decide (p.2.at_ + max 1 (s.rd TIM_SRC_CFG_LOSS_S) * 1000000000 ≤ s.now) := by
  rw [State.sourceSilent, hfind, Option.all_some]

theorem State.sourceSilent_none (hfind : s.tim.srcs.find? (fun p => p.1 == s.srcAt i) = none) : s.sourceSilent i = true := by
  rw [State.sourceSilent, hfind, Option.all_none]

theorem State.sourceLost_kept (h : s.qualified i = false ∨ s.sourceSilent i = false) : s.sourceLost i = s := by
  unfold State.sourceLost
  refine if_pos (h.imp_right fun hheard => ?_)
  cases hfind : s.tim.srcs.find? (fun p => p.1 == s.srcAt i) with
  | none => cases hheard.symm.trans (State.sourceSilent_none hfind)
  | some p => rw [← hheard, State.sourceSilent_some hfind, Option.map_some]

/-- A qualified source that has fallen silent is dropped. Where it was the source, the best one left takes over, or none is left. -/
theorem State.sourceLost_dropped (hq : s.qualified i = true) (hsilent : s.sourceSilent i = true) :
    let d := s.sourceDrop i
    (d.rd TIM_STATUS_SOURCE ≠ s.srcAt i → s.sourceLost i = d) ∧
    (∀ j, d.rd TIM_STATUS_SOURCE = s.srcAt i → d.bestSource = some j →
      s.sourceLost i = ((d.wr TIM_STATUS_SOURCE (d.srcAt j)).flag TIM_TROUBLE_SOURCE_CHANGE).timState 1) ∧
    (d.rd TIM_STATUS_SOURCE = s.srcAt i → d.bestSource = none → s.sourceLost i = (d.wr TIM_STATUS_SOURCE 0).sourceNone) := by
  unfold State.sourceLost
  dsimp only
  rw [if_neg]
  · rw [← State.sourceDrop]
    refine ⟨fun hother => if_pos hother, fun j hmine hbest => ?_, fun hmine hnone => ?_⟩
    · rw [if_neg (not_not.mpr hmine), hbest]
    · rw [if_neg (not_not.mpr hmine), hnone]
      rfl
  · rintro (hn | hheard)
    · exact Bool.false_ne_true (hn.symm.trans hq)
    · cases hfind : s.tim.srcs.find? (fun p => p.1 == s.srcAt i) with
      | none => simp only [hfind, Option.map_none, Bool.true_eq_false] at hheard
      | some p =>
        rw [State.sourceSilent_some hfind] at hsilent
        rw [hfind, Option.map_some] at hheard
        exact Bool.false_ne_true (hheard.symm.trans hsilent)

theorem State.holdoverExpire_ended (hstate : s.rd TIM_STATUS_STATE = 3)
    (hdue : s.tim.holdAt + s.rd TIM_SERVO_CFG_HOLDOVER_MAX_MIN * 60000000000 ≤ s.now) :
    s.holdoverExpire = ((s.timState 0).flag TIM_TROUBLE_FREERUN).steer10 :=
  if_pos ⟨hstate, hdue⟩

theorem State.holdoverExpire_early
    (h : s.rd TIM_STATUS_STATE ≠ 3 ∨ s.now < s.tim.holdAt + s.rd TIM_SERVO_CFG_HOLDOVER_MAX_MIN * 60000000000) : s.holdoverExpire = s :=
  if_neg fun ⟨hstate, hdue⟩ => h.elim (· hstate) (Nat.not_lt_of_le hdue)

theorem State.ref10_lost (s : State) : s.ref10 false = s.wr TIM_STATUS_REF10_OK 0 := rfl

theorem State.ref10_qualified (s : State) :
    s.ref10 true =
      let u := s.wr TIM_STATUS_REF10_OK 1
      if u.rd TIM_STATUS_STATE = 0 ∨ u.rd TIM_STATUS_STATE = 3 then u.slew else u := by
  simp [State.ref10, State.wrB, b2n]

end Sources

/-- Settles O42: a source becomes qualified unless it is barred, and is lost once it is silent; what follows is read off the state that
is left. -/
theorem timeSourcesQualifyAndAreLost : Obligations.TimeSourcesQualifyAndAreLost := by
  unfold Obligations.TimeSourcesQualifyAndAreLost
  refine ⟨?taken, ?barred, ?lost, ?reference⟩
  case taken =>
    intro i s x hs hx hkind hnew hloaded hlong hfresh u
    rw [exec_sourceQualified_of hs, State.sourceQualified_taken hx]
    rintro (h | h | h | h | h | h | ⟨h, h'⟩ | ⟨h, h'⟩)
    · omega
    · omega
    · simp [hnew] at h
    · simp [hloaded] at h
    · omega
    · omega
    · simp [h, h'] at hkind
    · simp [h'] at hkind
      omega
  case barred =>
    intro i s hs h
    rw [exec_sourceQualified_of hs]
    cases hx : s.tim.srcs.find? (fun p => p.1 == s.srcAt i.val) with
    | none => rw [State.sourceQualified_unmeasured hx]
    | some p =>
      obtain ⟨code, x⟩ := p
      obtain rfl : code = s.srcAt i.val := by simpa using List.find?_some hx
      rw [State.sourceQualified_barred hx]
      rcases h with h | h | h | h | h | h | h
      case inr.inr.inr.inr.inr.inr => exact (h _ hx).elim (by grind [State.SourceBarred]) (by grind [State.SourceBarred])
      all_goals grind [State.SourceBarred]
  case lost =>
    intro i s hs silent u v
    rw [exec_sourceLost_of hs]
    refine ⟨fun h => congrArg _ (State.sourceLost_kept h), fun hq hsilent => ?_⟩
    obtain ⟨hother, hnext, hlast⟩ := State.sourceLost_dropped hq hsilent
    refine ⟨fun h => congrArg _ (hother h), fun j hmine hbest => congrArg _ (hnext j hmine hbest), fun hmine hnone => ?_⟩
    rw [hlast hmine hnone, State.flag_now, State.timState_now]
    exact ⟨fun hstate => congrArg _ (if_neg hstate), fun hstate => congrArg _ (if_pos hstate)⟩
  case reference =>
    intro s hs
    rw [exec_holdoverExpire_of hs, exec_ref10Lost_of hs, exec_ref10Qualified_of hs, State.ref10_qualified]
    refine ⟨fun hstate hdue => congrArg _ (State.holdoverExpire_ended hstate hdue), fun h => congrArg _ (State.holdoverExpire_early h), rfl,
      fun h => congrArg _ (if_pos h), fun h => congrArg _ (if_neg ?_)⟩
    omega

/-! ## Rows of IRIG-B, PPS, whole seconds and host adjustments -/

section TimeRows

variable {s : State} (h : s.Runs 18)
include h

theorem exec_irigFrame_of (ms : List (Fin 3)) (year : Bool) (ago : Nat) :
    exec (.irigFrame ms year ago) s = .next (s.irigFrame ms year ago) :=
  congrArg Host.Outcome.next (State.liveU_of_runs h _)

theorem exec_ppsEdge_of (bp : Bool) : exec (.ppsEdge bp) s = .next (s.ppsEdge bp) :=
  congrArg Host.Outcome.next (State.liveU_of_runs h _)

theorem exec_wholeSecond_of : exec .wholeSecond s = .next s.wholeSecond :=
  congrArg Host.Outcome.next (State.liveU_of_runs h _)

theorem exec_ppsOutFall_of : exec .ppsOutFall s = .next s.ppsFall :=
  congrArg Host.Outcome.next (State.liveU_of_runs h _)

theorem exec_leapSecond_of : exec .leapSecond s = .next s.leapSecond :=
  congrArg Host.Outcome.next (State.liveU_of_runs h _)

end TimeRows

section AdjustRows

variable {s : State} {who : Agent} (h : s.Admits who 0xE0068 true)
include h

theorem exec_timeSet_of :
    exec (.timeSet who) s = .next (((s.mbCount who).wr TIM_ADJ_CTRL_OP 1).timeAdjust 1 ((s.mbCount who).rd TIM_ADJ)) :=
  congrArg Host.Outcome.next (State.allow_of h _ _)

theorem exec_timeStep_of :
    exec (.timeStep who) s = .next (((s.mbCount who).wr TIM_ADJ_CTRL_OP 2).timeAdjust 2 ((s.mbCount who).rd TIM_ADJ)) :=
  congrArg Host.Outcome.next (State.allow_of h _ _)

end AdjustRows

/-! ## IRIG-B and PPS (R295) -/

section Inputs

variable {s : State}

theorem State.irigFrame_undecoded {ms : List (Fin 3)} {year : Bool} (ago : Nat) (h : s.irigDecode ms year = none) :
    s.irigFrame ms year ago = ((s.onTim (fun x => { x with irig := none })).bump TIM_IRIG_ERR).flag TIM_TROUBLE_IRIG_ERR := by
  rw [State.irigFrame, h]

/-- A frame that follows the one before it by a second, or comes first, measures its on-time point against its second (log entry 30). -/
theorem State.irigFrame_measured {ms : List (Fin 3)} {year : Bool} {sec : Nat} (ago : Nat) (h : s.irigDecode ms year = some sec)
    (hprev : s.tim.irig = none ∨ s.tim.irig = some (sec - 1) ∧ sec ≠ 0) (hext : s.on TIM_SRC_CFG_IRIG_EXT = false) :
    s.irigFrame ms year ago = (s.onTim (fun x => { x with irig := some sec })).measure 2
      (((s.taiNs - ago : Nat) : Int) - ((sec : Int) + s.utcOffset) * 1000000000) := by
  have hext' : ((s.onTim (fun x => { x with irig := some sec })).on TIM_SRC_CFG_IRIG_EXT) = false := hext
  rw [State.irigFrame, h]
  dsimp only
  rw [if_neg, hext', Bool.false_and, if_neg Bool.false_ne_true]
  · rfl
  · rcases hprev with hnone | ⟨hsome, hpos⟩
    · rw [hnone]
      exact Bool.false_ne_true
    · rw [hsome, decide_eq_true_eq]
      omega

/-- An edge of the front or the backplane PPS input is noted. -/
def State.ppsNoted (s : State) (bp : Bool) : State :=
  s.onTim (fun t => if bp then { t with ppsBp := some s.now } else { t with ppsFront := some s.now })

/-- The time of a noted PPS edge is measured against the nearest whole second. -/
def State.ppsMeasure (s : State) (bp : Bool) : State :=
  s.measure (if bp then 4 else 3) ((s.taiNs : Int) - ((s.taiNs + 500000000) / 1000000000 * 1000000000 : Nat))

theorem State.ppsEdge_first {bp : Bool} (h : (if bp then s.tim.ppsBp else s.tim.ppsFront) = none) :
    s.ppsEdge bp = (s.ppsNoted bp).ppsMeasure bp := by
  rw [State.ppsEdge, h]
  exact if_neg Bool.false_ne_true

theorem State.ppsEdge_later {bp : Bool} {t : Nat} (h : (if bp then s.tim.ppsBp else s.tim.ppsFront) = some t) :
    s.ppsEdge bp =
      if 1050000000 < s.now - t ∨ s.now - t < 950000000 then ((s.ppsNoted bp).bump TIM_PPS_ERR).flag TIM_TROUBLE_PPS_ERR
      else (s.ppsNoted bp).ppsMeasure bp := by
  rw [State.ppsEdge, h]
  dsimp only
  simp only [Bool.or_eq_true, decide_eq_true_eq]
  rfl

end Inputs

/-! ## Whole seconds, PPS out and leap seconds (R291, R296, R300) -/

/-- What a new TAI second sets: the second, the always-on counter in LOCKED, and PPS out where it is driven. -/
def State.secondBegin (s : State) : State :=
  s.onTim (fun t => {
    t with second := some (s.tai / 1000000000), aon := if s.rd TIM_STATUS_STATE = 2 then s.tai else t.aon,
           ppsOut := if s.ppsDriven && decide (s.rd TIM_LAUNCH_CFG_PPS_WIDTH_US ≠ 0)
                     then some (s.now + s.rd TIM_LAUNCH_CFG_PPS_WIDTH_US * 1000) else t.ppsOut })

section Seconds

variable {s : State}

theorem State.wholeSecond_new (h : s.tim.second ≠ some (s.tai / 1000000000)) :
    s.wholeSecond = (if s.secondBegin.rd TIM_STATUS_STATE = 3
      then s.secondBegin.wrSat TIM_STATUS_HOLDOVER_MIN ((s.secondBegin.now - s.secondBegin.tim.holdAt) / 60000000000)
      else s.secondBegin).ptpRefresh := by
  rw [State.wholeSecond, if_neg h, State.secondBegin]

theorem State.wholeSecond_same (h : s.tim.second = some (s.tai / 1000000000)) : s.wholeSecond = s := if_pos h

theorem State.ppsFall_early (h : s.due s.tim.ppsOut = false) : s.ppsFall = s := if_neg (Bool.eq_false_iff.mp h)

theorem State.ppsFall_due (h : s.due s.tim.ppsOut = true) : s.ppsFall = s.onTim (fun t => { t with ppsOut := none }) := if_pos h

theorem State.leapSecond_inserted (hleap : s.rd TIM_UTC_OFFSET_LEAP = 1) (hend : s.utcSecond % 86400 = 1) :
    s.leapSecond = s.utcSet (unsigned 16 (s.utcOffset + 1)) 0 :=
  if_pos ⟨hleap, hend⟩

theorem State.leapSecond_deleted (hleap : s.rd TIM_UTC_OFFSET_LEAP = 2) (hend : s.utcSecond % 86400 = 86399) :
    s.leapSecond = s.utcSet (unsigned 16 (s.utcOffset - 1)) 0 := by
  rw [State.leapSecond, if_neg (fun ⟨hone, _⟩ => by omega), if_pos ⟨hleap, hend⟩]

theorem State.leapSecond_none (hins : ¬(s.rd TIM_UTC_OFFSET_LEAP = 1 ∧ s.utcSecond % 86400 = 1))
    (hdel : ¬(s.rd TIM_UTC_OFFSET_LEAP = 2 ∧ s.utcSecond % 86400 = 86399)) : s.leapSecond = s := by
  rw [State.leapSecond, if_neg hins, if_neg hdel]

end Seconds

/-! ## Host adjustments and steps of the counter (R299, R310, R312) -/

section Adjust

variable {s : State} {op value : Nat}

theorem State.timeAdjust_busy (h : s.on TIM_ADJ_STATUS_BUSY = true) : s.timeAdjust op value = s := if_pos h

section Free

variable (hfree : s.on TIM_ADJ_STATUS_BUSY = false) (hop : op = 1 ∨ op = 2)
include hfree hop

theorem State.timeAdjust_waits (h : s.rd TIM_STATUS_SOURCE = 0) :
    s.timeAdjust op value = (s.begin TIM_ADJ_STATUS_BUSY).onTim (fun t => { t with adj := some (op, value) }) := by
  rw [State.timeAdjust, if_neg (Bool.eq_false_iff.mp hfree), if_neg (by omega), if_neg (not_not.mpr h)]

theorem State.timeAdjust_refused (h : s.rd TIM_STATUS_SOURCE ≠ 0) :
    s.timeAdjust op value = (s.answer TIM_ADJ_STATUS_DONE TIM_ADJ_STATUS_RESULT 1).flag TIM_ADJ_STATUS_ADJ_REFUSED := by
  rw [State.timeAdjust, if_neg (Bool.eq_false_iff.mp hfree), if_neg (by omega), if_pos h]

end Free

theorem State.timeApply_none (h : s.tim.adj = none) : s.timeApply = s := by
  rw [State.timeApply, h]

theorem State.timeApply_set (h : s.tim.adj = some (1, value)) :
    s.timeApply = ((((s.onTim (fun t => { t with adj := none })).wr TIM_STATUS_TIME_VALID 1).timeStep value 2).finish
      TIM_ADJ_STATUS_BUSY TIM_ADJ_STATUS_DONE TIM_ADJ_STATUS_RESULT 0) := by
  rw [State.timeApply, h]
  rfl

theorem State.timeApply_step (h : s.tim.adj = some (2, value)) :
    s.timeApply = (((s.onTim (fun t => { t with adj := none })).timeStep (unsigned 64 ((s.tai : Int) + signed 64 value)) 2).finish
      TIM_ADJ_STATUS_BUSY TIM_ADJ_STATUS_DONE TIM_ADJ_STATUS_RESULT 0) := by
  rw [State.timeApply, h]
  rfl

end Adjust

/-- The counter has stepped to `w`. -/
def State.stepped (s : State) (w : Nat) : State :=
  { s with tai := w, tim := { s.tim with second := if w % 1000000000 = 0 then none else some (w / 1000000000) } }

/-- The cycle that holds the time `w` after the step to it. -/
def State.stepCycle (s : State) (w : Nat) : Nat :=
  (s.stepped w).cycleAt (w - (s.stepped w).rd TIM_CADENCE_OFS_OFFSET_US * 1000)

/-- A step to `w` is counted, shown and recorded with the cadence action, and the gatherings learn of it. -/
def State.stepNoted (s : State) (w cause action : Nat) : State :=
  (((((s.stepped w).bump TIM_STEPS).wr TIM_LAST_STEP (unsigned 64 ((w : Int) - s.tai))).flag TIM_TROUBLE_STEP).event 0x03
    (leBytes 8 s.tai ++ leBytes 8 w ++ leBytes 8 (unsigned 64 ((w : Int) - s.tai)) ++ leBytes 1 cause ++ leBytes 1 action)).gthStep

/-- What the cadence does at a step to `w` (R310): 0 go on, 1 hold the cycle, 2 skip cycles, 3 restart. -/
def State.stepAction (s : State) (w : Nat) : Nat :=
  if !(s.stepped w).loaded || decide (s.stepCycle w = s.cycle) then 0
  else if s.stepCycle w < s.cycle ∧ -((w : Int) - s.tai) ≤ ((s.stepped w).cycleNs : Int) then 1
  else if 0 < (w : Int) - s.tai ∧ s.cycle < s.stepCycle w ∧ s.stepCycle w - s.cycle ≤ 63 then 2
  else 3

section Step

variable {s : State} {w : Nat}

theorem State.timeStep_eq (s : State) (new cause : Nat) :
    let w := new % 2 ^ 64
    let u := s.stepNoted w cause (s.stepAction w)
    s.timeStep new cause =
      (if s.stepAction w = 2 then u.cadenceSkip s.cycle (s.stepCycle w)
       else if s.stepAction w = 3 then u.cadenceRestart (s.stepCycle w) else u).retestLaunch :=
  rfl

section Outcome

variable {new cause : Nat}

theorem State.timeStep_continues {a : Nat} (ha : a < 2) (h : s.stepAction (new % 2 ^ 64) = a) :
    s.timeStep new cause = (s.stepNoted (new % 2 ^ 64) cause a).retestLaunch := by
  simp only [State.timeStep_eq, h]
  rw [if_neg (by omega), if_neg (by omega)]

theorem State.timeStep_skips (h : s.stepAction (new % 2 ^ 64) = 2) :
    s.timeStep new cause = ((s.stepNoted (new % 2 ^ 64) cause 2).cadenceSkip s.cycle (s.stepCycle (new % 2 ^ 64))).retestLaunch := by
  simp only [State.timeStep_eq, h, if_true]

theorem State.timeStep_restarts (h : s.stepAction (new % 2 ^ 64) = 3) :
    s.timeStep new cause = ((s.stepNoted (new % 2 ^ 64) cause 3).cadenceRestart (s.stepCycle (new % 2 ^ 64))).retestLaunch := by
  simp only [State.timeStep_eq, h, if_true]
  rw [if_neg (by decide)]

end Outcome

theorem State.stepAction_none (h : (s.stepped w).loaded = false ∨ s.stepCycle w = s.cycle) : s.stepAction w = 0 :=
  if_pos (by simpa using h)

section Moved

variable (hloaded : (s.stepped w).loaded = true)
include hloaded

theorem State.stepAction_hold (hback : s.stepCycle w < s.cycle) (hshort : -((w : Int) - s.tai) ≤ ((s.stepped w).cycleNs : Int)) :
    s.stepAction w = 1 := by
  rw [State.stepAction, if_neg (by simp [hloaded]; omega), if_pos ⟨hback, hshort⟩]

theorem State.stepAction_skip (hahead : s.cycle < s.stepCycle w) (hforward : 0 < (w : Int) - s.tai) (hnear : s.stepCycle w - s.cycle ≤ 63) :
    s.stepAction w = 2 := by
  rw [State.stepAction, if_neg (by simp [hloaded]; omega), if_neg (by omega), if_pos ⟨hforward, hahead, hnear⟩]

theorem State.stepAction_restart (hmoved : s.stepCycle w ≠ s.cycle)
    (hback : s.stepCycle w < s.cycle → ((s.stepped w).cycleNs : Int) < -((w : Int) - s.tai))
    (hahead : s.cycle < s.stepCycle w → 0 < (w : Int) - s.tai → 63 < s.stepCycle w - s.cycle) : s.stepAction w = 3 := by
  rw [State.stepAction, if_neg (by simp [hloaded, hmoved]), if_neg (by omega), if_neg (by omega)]

end Moved

end Step

/-- Settles O44: each input row is one operation with its cases, and a step of the counter is `State.timeStep` with the cadence action
that `State.stepAction` gives. -/
theorem irigPpsSecondsAndAdjustments : Obligations.IrigPpsSecondsAndAdjustments := by
  unfold Obligations.IrigPpsSecondsAndAdjustments
  refine ⟨⟨?irig, ?pps, ?seconds⟩, ?adjust, ?apply, ?step⟩
  case irig =>
    intro ms year ago s sec hs
    rw [exec_irigFrame_of hs]
    exact ⟨fun h => congrArg _ (State.irigFrame_undecoded ago h),
      fun h hprev hext => congrArg _ (State.irigFrame_measured ago h hprev hext)⟩
  case pps =>
    intro bp s hs prev u
    rw [exec_ppsEdge_of hs]
    refine ⟨fun h => congrArg _ (State.ppsEdge_first h), fun t h hnear hfar => ?_, fun t h hodd => ?_⟩
    · exact congrArg _ ((State.ppsEdge_later h).trans (if_neg (not_or.mpr ⟨Nat.not_lt_of_le hnear, Nat.not_lt_of_le hfar⟩)))
    · exact congrArg _ ((State.ppsEdge_later h).trans (if_pos hodd))
  case seconds =>
    intro s hs sec u
    rw [exec_wholeSecond_of hs, exec_ppsOutFall_of hs, exec_leapSecond_of hs]
    exact ⟨fun h => congrArg _ (State.wholeSecond_new h), fun h => congrArg _ (State.wholeSecond_same h),
      fun h => congrArg _ (State.ppsFall_early h), fun h => congrArg _ (State.ppsFall_due h),
      fun hleap hend => congrArg _ (State.leapSecond_inserted hleap hend),
      fun hleap hend => congrArg _ (State.leapSecond_deleted hleap hend),
      fun hins hdel => congrArg _ (State.leapSecond_none hins hdel)⟩
  case adjust =>
    intro who s h u value wait refused
    rw [exec_timeSet_of h, exec_timeStep_of h]
    exact ⟨fun hfree hnone => congrArg _ (State.timeAdjust_waits hfree (.inl rfl) hnone),
      fun hfree hsome => congrArg _ (State.timeAdjust_refused hfree (.inl rfl) hsome),
      fun hbusy => congrArg _ (State.timeAdjust_busy hbusy),
      fun hfree hnone => congrArg _ (State.timeAdjust_waits hfree (.inr rfl) hnone),
      fun hfree hsome => congrArg _ (State.timeAdjust_refused hfree (.inr rfl) hsome),
      fun hbusy => congrArg _ (State.timeAdjust_busy hbusy)⟩
  case apply =>
    intro s value u ok
    exact ⟨State.timeApply_set, State.timeApply_step, State.timeApply_none⟩
  case step =>
    intro s new cause w u m d noted
    exact ⟨fun h => State.timeStep_continues (by decide) (State.stepAction_none h),
      fun hloaded hback hshort => State.timeStep_continues (by decide) (State.stepAction_hold hloaded hback hshort),
      fun hloaded hahead hforward hnear => State.timeStep_skips (State.stepAction_skip hloaded hahead hforward hnear),
      fun hloaded hmoved hback hahead => State.timeStep_restarts (State.stepAction_restart hloaded hmoved hback hahead)⟩

end Sys2Proof.Machine
end

section
/-! PROOFS. The event recorder: commits, the start-up scan, the two read windows and the clear (R327-R336). -/

namespace Sys2Proof.Machine

open Sys2Proof Reg

/-! ## Rows -/

section RecorderRows

variable {s : State} (h : s.fabricUp = true)
include h

theorem exec_recordCommit_of : exec .recordCommit s = .next s.evrCommit.tlogReport :=
  congrArg Host.Outcome.next (State.live_of_up h _)

theorem exec_evrScanDone_of (un : Option Nat) :
    exec (.evrScanDone un) s = .next (if s.decided then (s.evrScanDone un).tlogReport else s) :=
  congrArg Host.Outcome.next (State.live_of_up h _)

theorem exec_evrClearDone_of : exec .evrClearDone s = .next s.evrClearDone :=
  congrArg Host.Outcome.next (State.live_of_up h _)

end RecorderRows

theorem exec_cursorLoad_of {s : State} {who : Agent} {win : Fin 2} (h : s.Admits who (0xF0204 + 0x80 * win.val) false) (hi : BitVec 32) :
    exec (.cursorLoad who win hi) s = .next ((s.mbCount who).evrCursorLoad who win.val hi.toNat) :=
  congrArg Host.Outcome.next (State.allow_of h _ _)

theorem exec_evrRead_of {s : State} {who : Agent} {win : Fin 2} (h : s.Admits who (0xF0208 + 0x80 * win.val) false) (un : Bool) :
    exec (.evrRead who win un) s = .next ((s.mbCount who).evrRead who win.val un) :=
  congrArg Host.Outcome.next (State.allow_of h _ _)

theorem exec_evrClear_of {s : State} {who : Agent} (h : s.Admits who 0xF0038 true) :
    exec (.evrClear who) s = .next (s.mbCount who).evrClear :=
  congrArg Host.Outcome.next (State.allow_of h _ _)

/-! ## Commits (R327, R328) -/

section Commit

variable {s : State}

theorem State.evrCommit_scanning (h : s.rd EVR_STATUS_STATE = 0) : s.evrCommit = s := if_pos h

theorem State.evrCommit_empty (h : s.evr.queue = []) : s.evrCommit = s := by
  rw [State.evrCommit, h]
  exact ite_self s

theorem State.evrCommit_oldest {r : EvRec} {q : List EvRec} (hstate : s.rd EVR_STATUS_STATE ≠ 0) (h : s.evr.queue = r :: q) :
    s.evrCommit = (((s.onEvr (fun e => { e with
      region := e.region ++ [(r, false)], queue := q, newNow := e.newNow + 1,
      front := if e.clearing then max e.front (min 1048576 ((s.evr.region.length / 4096 + 1) * 4096)) else e.front })).evrAfterCommit r).evrRefresh).evrFull := by
  rw [State.evrCommit, if_neg hstate, h]

end Commit

/-! ## The start-up scan (R330, R331) -/

/-- An update of the recorder depends on the recorder's state alone. -/
theorem State.onEvr_congr {s : State} {f g : EvrS → EvrS} (h : f s.evr = g s.evr) : s.onEvr f = s.onEvr g :=
  congrArg (fun e => { s with evr := e }) h

/-- What the recorder numbers once the region is known: a CLEARED record still owed, START, and the records that waited. -/
def State.evrNumbered (x : State) : State :=
  let a := (x.onEvr (fun e => { e with queue := [] })).wr EVR_STATUS_STATE 1
  let b := match a.evr.cleared with | some r => if x.evr.region.length = 0 then a.evrEnter r else a | none => a
  let c := (b.flagIf b.evr.clearing EVR_TROUBLE_CLEAR_RESUMED).wrB EVR_CLEAR_STATUS_BUSY b.evr.clearing
  (((c.evrEnter (b.evrMake 1 0 0 b.taiNs false
    (leBytes 8 x.evr.region.length ++ leBytes 1 (b.rd SYS_RST_STATUS_LAST_KIND) ++ leBytes 1 (b2n b.evr.clearing)))).evrAdmit x.evr.queue).evrRefresh).evrFull

/-- A slot of the run whose colophon cannot be read is marked. -/
def State.evrMarked (s : State) (i : Nat) : State :=
  (s.onEvr (fun e => { e with region := modAt e.region i (fun p => (p.1, true)) })).flag EVR_TROUBLE_ECC

/-- A slot at the end of the run whose colophon cannot be read stands there as an unreadable record. -/
def State.evrFilled (s : State) : State :=
  (s.onEvr (fun e => { e with region := e.region ++ [({
    stamp := 0, cls := 0, srcKind := 0, srcId := 0, stampCn := false, timeValid := false, active := false, body := [] }, true)] })).flag
      EVR_TROUBLE_ECC

section Scan

variable {s : State}

theorem State.evrScanDone_later (h : s.rd EVR_STATUS_STATE ≠ 0) (un : Option Nat) : s.evrScanDone un = s := if_pos h

variable (h : s.rd EVR_STATUS_STATE = 0)
include h

theorem State.evrScanDone_readable : s.evrScanDone none = s.evrNumbered := by
  rw [State.evrScanDone, if_neg (not_not.mpr h)]
  rfl

theorem State.evrScanDone_marked {i : Nat} (hi : i < s.evr.region.length) : s.evrScanDone (some i) = (s.evrMarked i).evrNumbered := by
  rw [State.evrScanDone, if_neg (not_not.mpr h), State.evrMarked,
    ← State.onEvr_congr (f := fun e => { e with region := if i < e.region.length then _ else if i = e.region.length then _ else e.region })
      (congrArg (fun r => { s.evr with region := r }) (if_pos hi))]
  rfl

theorem State.evrScanDone_filled : s.evrScanDone (some s.evr.region.length) = s.evrFilled.evrNumbered := by
  rw [State.evrScanDone, if_neg (not_not.mpr h), State.evrFilled,
    ← State.onEvr_congr (f := fun e => { e with region := if s.evr.region.length < e.region.length then _ else
        if s.evr.region.length = e.region.length then _ else e.region })
      (congrArg (fun r => { s.evr with region := r }) ((if_neg (Nat.lt_irrefl _)).trans (if_pos rfl)))]
  rfl

end Scan

/-! ## Read windows (R333, R334) -/

/-- Window 0 is the Supervisor's, window 1 the management bus's. -/
theorem evrWindowAgent_iff {who : Agent} {win : Fin 2} :
    evrWindowAgent win.val who = true ↔ who = .folio 0 ∧ win = 0 ∨ who = .mgmt ∧ win = 1 := by
  have hwin : win = 0 ∨ win = 1 := by omega
  rcases hwin with rfl | rfl
  · cases who <;> simp [evrWindowAgent, isSup]
  · simp [evrWindowAgent]

/-- A read of window `w` ends with a result. -/
def State.evrDone (s : State) (w r : Nat) : State :=
  ((s.wrI EVR_W_STATUS_BUSY w 0).wrI EVR_W_STATUS_RESULT w r).flagI EVR_W_STATUS_DONE w

section Windows

variable {s : State} {who : Agent} {w : Nat}

theorem State.evrCursorLoad_own (h : evrWindowAgent w who = true) (hi : BitVec 32) :
    s.evrCursorLoad who w hi.toNat = s.wrI EVR_W_CURSOR w (s.rdI EVR_W_CURSOR w % 2 ^ 32 + hi.toNat * 2 ^ 32) := by
  rw [State.evrCursorLoad, if_pos h, Nat.mod_eq_of_lt hi.isLt]

theorem State.evrCursorLoad_foreign (h : ¬ evrWindowAgent w who = true) (hi : Nat) :
    s.evrCursorLoad who w hi = s.flag EVR_TROUBLE_WRONG_AGENT :=
  if_neg h

theorem State.evrRead_foreign (h : ¬ evrWindowAgent w who = true) (un : Bool) : s.evrRead who w un = s.flag EVR_TROUBLE_WRONG_AGENT :=
  if_neg h

section Own

variable {un : Bool} {v : Nat} (h : evrWindowAgent w who = true)
include h

/-- NOT_YET and CLEARED end a read without data. -/
theorem State.evrRead_nothing {r : Nat} (hl : s.evrLookup (s.rdI EVR_W_CURSOR w) un = (r, v)) (hr : r = 1 ∨ r = 2) :
    s.evrRead who w un = s.evrDone w r := by
  rw [State.evrRead, if_pos h]
  dsimp only
  rw [hl]
  dsimp only
  rw [if_neg (by omega), decide_eq_false (by omega), if_neg (by omega)]
  rfl

theorem State.evrRead_ecc (hl : s.evrLookup (s.rdI EVR_W_CURSOR w) un = (3, v)) :
    s.evrRead who w un = ((s.evrLatch w v).evrDone w 3).flag EVR_TROUBLE_ECC := by
  rw [State.evrRead, if_pos h]
  dsimp only
  rw [hl]
  rfl

theorem State.evrRead_valid (hl : s.evrLookup (s.rdI EVR_W_CURSOR w) un = (0, v)) :
    s.evrRead who w un =
      if ((s.evrLatch w v).evrDone w 0).onI EVR_W_CTRL_AUTO_INC w = true then
        ((s.evrLatch w v).evrDone w 0).wrI EVR_W_CURSOR w (s.rdI EVR_W_CURSOR w + 1)
      else (s.evrLatch w v).evrDone w 0 := by
  rw [State.evrRead, if_pos h]
  dsimp only
  rw [hl]
  dsimp only
  simp only [true_or, if_true, true_and]
  rfl

end Own

section Lookup

variable {c : Nat} (un : Bool)

theorem State.evrLookup_notYet (h : s.rd EVR_STATUS_STATE = 0 ∨ s.evrNext ≤ c + s.evr.newNow) : s.evrLookup c un = (1, 0) := by
  rw [State.evrLookup]
  rcases h with h | h
  · rw [if_pos h]
  · rw [if_pos h, ite_self]

variable (hstate : s.rd EVR_STATUS_STATE ≠ 0) (hold : c + s.evr.newNow < s.evrNext)
include hstate hold

theorem State.evrLookup_cleared (h : c < s.evrBase) : s.evrLookup c un = (2, 0) := by
  rw [State.evrLookup, if_neg hstate, if_neg (Nat.not_le_of_lt hold), if_pos h]

theorem State.evrLookup_stored {r : EvRec} {bad : Bool} (hbase : s.evrBase ≤ c) (h : s.evr.region[c - s.evrBase]? = some (r, bad)) :
    s.evrLookup c un = if bad || un then (3, 0) else (0, r.toNat c) := by
  rw [State.evrLookup, if_neg hstate, if_neg (Nat.not_le_of_lt hold), if_neg (Nat.not_lt_of_le hbase), h]

end Lookup

end Windows

/-! ## The clear (R335, R336) -/

section Clear

variable {s : State}

theorem State.evrClear_again (h : s.evr.clearing = true) : s.evrClear = s.answer EVR_CLEAR_STATUS_DONE EVR_CLEAR_STATUS_RESULT 2 :=
  if_pos h

section Idle

variable (hidle : s.evr.clearing = false)
include hidle

theorem State.evrClear_scanning (h : s.rd EVR_STATUS_STATE = 0) :
    s.evrClear = s.answer EVR_CLEAR_STATUS_DONE EVR_CLEAR_STATUS_RESULT 3 := by
  rw [State.evrClear, if_neg (Bool.eq_false_iff.mp hidle), if_pos h]

variable (hstate : s.rd EVR_STATUS_STATE ≠ 0)
include hstate

theorem State.evrClear_stale (h : s.rd EVR_CLEAR_UPTO + 1 ≠ s.evrNext ∨ s.evrIdle = false) :
    s.evrClear = s.answer EVR_CLEAR_STATUS_DONE EVR_CLEAR_STATUS_RESULT 1 := by
  rw [State.evrClear, if_neg (Bool.eq_false_iff.mp hidle), if_neg hstate, if_pos h]

/-- The CLEARED record with the figures of the region that a clear empties. -/
def State.evrClearedRec (s : State) : EvRec :=
  s.evrMake 0 0 0 s.taiNs false (leBytes 8 s.evrBase ++ leBytes 8 s.evr.region.length ++ leBytes 4 (s.rd EVR_LOST) ++
    leBytes 4 (s.rd EVR_QUEUE_LOST) ++ leBytes 4 (s.rd EVR_REFUSED))

theorem State.evrClear_starts (hupto : s.rd EVR_CLEAR_UPTO + 1 = s.evrNext) (hempty : s.evrIdle = true) :
    s.evrClear = (((s.onEvr (fun e => { e with
      region := [], queue := [s.evrClearedRec], clearing := true, front := 0, cleared := some s.evrClearedRec,
      firstRefusal := none })).wr EVR_BASE s.evrNext).begin EVR_CLEAR_STATUS_BUSY).evrRefresh := by
  rw [State.evrClear, if_neg (Bool.eq_false_iff.mp hidle), if_neg hstate, if_neg (by simp [hupto, hempty])]
  rfl

end Idle

theorem State.evrClearDone_ended (hclear : s.evr.clearing = true) (hwritten : s.evr.region ≠ []) (hstate : s.rd EVR_STATUS_STATE ≠ 0) :
    s.evrClearDone = (((s.onEvr (fun e => { e with clearing := false, front := 1048576, cleared := none })).finish
      EVR_CLEAR_STATUS_BUSY EVR_CLEAR_STATUS_DONE EVR_CLEAR_STATUS_RESULT 0).flag EVR_TROUBLE_CLEARED).evrRefresh :=
  if_pos ⟨hclear, hwritten, hstate⟩

theorem State.evrClearDone_early (h : s.evr.clearing = false ∨ s.evr.region = [] ∨ s.rd EVR_STATUS_STATE = 0) : s.evrClearDone = s :=
  if_neg fun ⟨hclear, hwritten, hstate⟩ =>
    h.elim (fun hidle => Bool.false_ne_true (hidle.symm.trans hclear)) (fun h => h.elim hwritten hstate)

end Clear

/-- Settles O47: each row is one operation of the recorder, and a read is decided by what `State.evrLookup` finds at the cursor. -/
theorem eventRecordsAreCommittedReadAndCleared : Obligations.EventRecordsAreCommittedReadAndCleared := by
  unfold Obligations.EventRecordsAreCommittedReadAndCleared
  refine ⟨?running, ?scanning, ?scanned, ?cursor, ?read, ?clear, ?cleared⟩
  case running =>
    intro s hup hstate
    rw [exec_recordCommit_of hup]
    refine ⟨fun r q hq => ?_, fun hq => ?_, fun un hdecided => ?_⟩
    · rw [State.evrCommit_oldest hstate hq]
    · rw [State.evrCommit_empty hq]
    · rw [exec_evrScanDone_of hup, if_pos hdecided, State.evrScanDone_later hstate]
  case scanning =>
    intro s hup
    rw [exec_recordCommit_of hup]
    refine ⟨fun hstate => ?_, fun hdecided un => ?_⟩
    · rw [State.evrCommit_scanning hstate]
    · rw [exec_evrScanDone_of hup, if_neg (Bool.eq_false_iff.mp hdecided)]
  case scanned =>
    intro s hup hdecided hstate scanned
    simp only [exec_evrScanDone_of hup, hdecided, if_true]
    refine ⟨?_, fun i hi => ?_, ?_⟩
    · rw [State.evrScanDone_readable hstate]
      rfl
    · rw [State.evrScanDone_marked hstate hi]
      rfl
    · rw [State.evrScanDone_filled hstate]
      rfl
  case cursor =>
    intro who win hi s h u
    rw [exec_cursorLoad_of h]
    exact ⟨fun hown => congrArg _ (State.evrCursorLoad_own (evrWindowAgent_iff.mpr hown) hi),
      fun hforeign => congrArg _ (State.evrCursorLoad_foreign (mt evrWindowAgent_iff.mp hforeign) _)⟩
  case read =>
    intro who win un s h u c done
    rw [exec_evrRead_of h]
    refine ⟨fun hforeign => congrArg _ (State.evrRead_foreign (mt evrWindowAgent_iff.mp hforeign) un), fun hown => ?_⟩
    have hagent := evrWindowAgent_iff.mpr hown
    refine ⟨fun hyet => congrArg _ (State.evrRead_nothing hagent (State.evrLookup_notYet un hyet) (.inl rfl)),
      fun hstate hold hgone => congrArg _ (State.evrRead_nothing hagent (State.evrLookup_cleared un hstate hold hgone) (.inr rfl)),
      fun r bad hstate hold hbase hrec => ?_⟩
    have hlook := State.evrLookup_stored un hstate hold hbase hrec
    refine ⟨fun hbad => congrArg _ (State.evrRead_ecc hagent (hlook.trans (if_pos ?_))), fun hgood hread => ?_⟩
    · simpa using hbad
    · exact congrArg _ (State.evrRead_valid hagent (hlook.trans (if_neg (by simp [hgood, hread]))))
  case clear =>
    intro who s h u
    rw [exec_evrClear_of h]
    exact ⟨fun hclear => congrArg _ (State.evrClear_again hclear),
      fun hidle hstate => congrArg _ (State.evrClear_scanning hidle hstate),
      fun hidle hstate hstale => congrArg _ (State.evrClear_stale hidle hstate hstale),
      fun hidle hstate hupto hempty => congrArg _ (State.evrClear_starts hidle hstate hupto hempty)⟩
  case cleared =>
    intro s hup
    rw [exec_evrClearDone_of hup]
    exact ⟨fun hclear hwritten hstate => congrArg _ (State.evrClearDone_ended hclear hwritten hstate),
      fun h => congrArg _ (State.evrClearDone_early h)⟩

end Sys2Proof.Machine
end

section
/-! PROOFS. Capture definitions and trigger sequencers (R339-R349, R352, R355). -/

namespace Sys2Proof.Machine

open Sys2Proof Reg

/-! ## Rows of the gathering engine -/

section CaptureRows

variable {s : State} (h : s.fabricUp = true)
include h

theorem exec_positionCapture_of (d : Nat) : exec (.positionCapture d) s = .next (s.gthCapture d) :=
  congrArg Host.Outcome.next (State.live_of_up h _)

theorem exec_headFilled_of (d : Nat) : exec (.headFilled d) s = .next (s.headFilled d) :=
  congrArg Host.Outcome.next (State.live_of_up h _)

theorem exec_gutterEnd_of (d : Nat) : exec (.gutterEnd d) s = .next (s.gutterEnd d) :=
  congrArg Host.Outcome.next (State.live_of_up h _)

theorem exec_captureResume_of (d : Nat) : exec (.captureResume d) s = .next (s.captureResume d) :=
  congrArg Host.Outcome.next (State.live_of_up h _)

theorem exec_gapEnd_of (d : Nat) : exec (.gapEnd d) s = .next (s.gapEnd d) :=
  congrArg Host.Outcome.next (State.live_of_up h _)

theorem exec_gatheringComplete_of (d : Nat) : exec (.gatheringComplete d) s = .next (s.gatheringComplete d) :=
  congrArg Host.Outcome.next (State.live_of_up h _)

theorem exec_sequencerEval_of : exec .sequencerEval s = .next s.sequencerEval :=
  congrArg Host.Outcome.next (State.live_of_up h _)

end CaptureRows

theorem exec_gthEnable_of {s : State} {who : Agent} (h : s.Admits who 0x100004 false) (en : Bool) :
    exec (.gthEnable who en) s = .next ((s.mbCount who).gthEnable en) :=
  congrArg Host.Outcome.next (State.allow_of h _ _)

/-! ## Capture of a position (R341, R342, R352) -/

/-- The record of R341 for the next position of a definition with the values `vs` of its analogue channels. -/
def State.gRecAt (s : State) (d : Nat) (vs : List (Int × Nat × Bool)) : GRec :=
  let x := s.gdef d
  { off := x.wr, n := x.n, bytes := gRecord x.cfg x.cfg.rate x.n (x.num x.n) (s.gBits x.cfg) vs,
    vals := vs.map (fun v => (v.1, v.2.1)), act := s.isActive, tv := s.on TIM_STATUS_TIME_VALID, utc := s.rd TIM_UTC_OFFSET_OFFSET_S }

/-- A position that finds no room ends the gathering with OVERFLOW, and the definition is PAUSED. -/
def State.gOverflow (s : State) (d : Nat) : State :=
  let u := ((s.gEnd d 1).bump GTH_OVERFLOWS).flag GTH_TROUBLE_OVERFLOW
  (u.setGdef d { u.gdef d with st := 5 }).gPass d

section Capture

variable {s : State} {d : Nat} {vs : List (Int × Nat × Bool)}

theorem State.gTake_gap (h : (s.gdef d).gap.isSome = true) : s.gTake d vs = (s.bump GTH_GAP_POSITIONS).gPass d := if_pos h

section NoGap

variable (hgap : (s.gdef d).gap = none)
include hgap

theorem State.gTake_room (hroom : (s.gdef d).cfg.p ≤ s.gFree d) : s.gTake d vs = (s.gWrite d (s.gRecAt d vs)).gPass d := by
  rw [State.gTake, if_neg (by simp [hgap]), if_pos hroom, State.gRecAt]

variable (hfull : s.gFree d < (s.gdef d).cfg.p)
include hfull

theorem State.gTake_gapBegins (hover : Ent.GATH_OVERFLOW.on (s.gdef d).cfg.ent = true) :
    s.gTake d vs = (((s.setGdef d { s.gdef d with gap := some (s.gdef d).n }).flag GTH_TROUBLE_GAP).bump GTH_GAP_POSITIONS).gPass d := by
  rw [State.gTake, if_neg (by simp [hgap]), if_neg (Nat.not_le_of_lt hfull), if_pos hover]

theorem State.gTake_overflow (hover : Ent.GATH_OVERFLOW.on (s.gdef d).cfg.ent = false) : s.gTake d vs = s.gOverflow d := by
  rw [State.gTake, if_neg (by simp [hgap]), if_neg (Nat.not_le_of_lt hfull), if_neg (Bool.eq_false_iff.mp hover), State.gOverflow]

end NoGap

theorem State.gthCapture_none (h : (s.gdef d).st = 0 ∨ s.gSettled d = false ∨ s.gRefSet (s.gdef d).cfg (s.gdef d).n = none ∨
    s.gChans (s.gdef d).cfg.sc (s.gdef d).n (s.gdef d).cfg.srcs = none) : s.gthCapture d = s := by
  rcases h with h | h | h | h
  · exact if_pos (.inl h)
  · exact if_pos (.inr h)
  · simp only [State.gthCapture, h, ite_self]
  · unfold State.gthCapture
    cases href : s.gRefSet (s.gdef d).cfg (s.gdef d).n <;> simp only [href, h, ite_self]

/-- A delivered position passes a PAUSED or SUSPENDED definition, and is taken by another. -/
theorem State.gthCapture_delivered {e : Nat} (hst : (s.gdef d).st ≠ 0) (hset : s.gSettled d = true)
    (href : s.gRefSet (s.gdef d).cfg (s.gdef d).n = some e)
    (hch : s.gChans (s.gdef d).cfg.sc (s.gdef d).n (s.gdef d).cfg.srcs = some vs) (hnext : (s.gdef d).next = none) :
    s.gthCapture d = (if (s.gdef d).st = 5 ∨ (s.gdef d).st = 6 then s.gPass d else s.gTake d vs).gShow := by
  simp only [State.gthCapture, hst, hset, href, hch, hnext, Bool.true_eq_false, or_self, if_false, Option.isSome_none, Bool.false_and,
    Bool.false_eq_true]

end Capture

/-! ## Changes of state (R348, R352, R355) -/

/-- The gap of a definition that began at position `n0` ends with its record. -/
def State.gGapWritten (s : State) (d n0 : Nat) : State :=
  let x := s.gdef d
  let bs := List.replicate 8 0xFF#8 ++ leBytes 4 (x.n - n0) ++ leBytes 4 (x.num n0) ++ leBytes 8 (instantOf x.cfg.rate n0) ++ List.replicate 40 0
  (s.setGdef d { x with gap := none }).gWrite d { off := x.wr, n := n0, gap := true, bytes := bs }

/-- The gathering in capture of a definition ends COMPLETE, GUTTER or ARMED follows, and a waiting configuration applies. -/
def State.gCompleted (s : State) (d : Nat) (g : Gath) : State :=
  let u := s.gEnd d 0
  ((u.setGdef d { u.gdef d with
    st := if Ent.GATH_GUTTER.of (u.gdef d).cfg.ent = 0 then 2 else 4, gutter := g.tp + g.cfg.tail }).gApply d).gShow

section Changes

variable {s : State} {d : Nat}

theorem State.gapEnd_none (h : (s.gdef d).gap = none) : s.gapEnd d = s := by
  rw [State.gapEnd]
  dsimp only
  rw [h]

theorem State.gapEnd_full {n0 : Nat} (h : (s.gdef d).gap = some n0)
    (hroom : ¬ (65536 + (s.gdef d).cfg.p ≤ s.gFree d ∧ 1 ≤ (s.gdef d).st ∧ (s.gdef d).st ≤ 4)) : s.gapEnd d = s := by
  rw [State.gapEnd]
  dsimp only
  rw [h]
  exact if_neg hroom

theorem State.gapEnd_written {n0 : Nat} (h : (s.gdef d).gap = some n0)
    (hroom : 65536 + (s.gdef d).cfg.p ≤ s.gFree d ∧ 1 ≤ (s.gdef d).st ∧ (s.gdef d).st ≤ 4) :
    s.gapEnd d = (if (s.gdef d).st = 3 then s.gGapWritten d n0 else (s.gGapWritten d n0).gFill d (s.gdef d).n).gShow := by
  rw [State.gapEnd, State.gGapWritten]
  dsimp only
  rw [h]
  exact if_pos hroom

theorem State.gatheringComplete_idle (h : (s.gdef d).cur = none) : s.gatheringComplete d = s := by
  rw [State.gatheringComplete]
  dsimp only
  rw [h]

section InCapture

variable {q : Nat} (hcur : (s.gdef d).cur = some q)
include hcur

theorem State.gatheringComplete_gone (h : s.gth.open_.find? (fun g => decide (g.seq = q)) = none) : s.gatheringComplete d = s := by
  rw [State.gatheringComplete]
  dsimp only
  rw [hcur]
  dsimp only
  rw [h]

theorem State.gatheringComplete_open {g : Gath} (h : s.gth.open_.find? (fun g => decide (g.seq = q)) = some g) :
    s.gatheringComplete d = if (s.gdef d).n < g.tp + g.cfg.tail then s else s.gCompleted d g := by
  rw [State.gatheringComplete]
  dsimp only
  rw [hcur]
  dsimp only
  rw [h]
  rfl

end InCapture

end Changes

/-! ## Sequencers (R345, R360) -/

/-- RESET takes a sequencer back to its first state. -/
def GSeq.restarted (q : GSeq) : GSeq := if q.reset = true then { q with st := 0, run := false, left := 0, count := 0 } else q

/-- The running timer of a sequencer counts one position down. -/
def GSeq.counted (q : GSeq) : GSeq := if q.run = true ∧ 0 < q.left then { q with left := q.left - 1 } else q

/-- Transition A is taken, or B where A is not, or none. -/
def State.gTaken (u : State) (i : Nat) (q : GSeq) (n rate : Nat) : State :=
  match u.gTry i q true n rate with
  | some t => t
  | none => (u.gTry i q false n rate).getD u

/-- Whether the waiting rows of sequencer `i` take effect at position `n`. -/
def State.gBrings (s : State) (i n : Nat) : Prop :=
  (s.gseq i).next.isSome = true ∧ s.rd BND_TIP_EPOCH ≤ ((s.gTimeline (s.gseq i)).bind (fun x => s.gRefSet x.cfg n)).getD (2 ^ 64)

section Sequencers

variable {s : State} {i n rate : Nat}

theorem State.seqEvalAt_eq (s : State) (i n rate : Nat) :
    let q := (s.gseq i).restarted.counted
    let u := s.setGseq i q
    let v := u.gTaken i q n rate
    s.seqEvalAt i n rate = (v.setGseq i { v.gseq i with n := some (n + 1), force := false, reset := false, prev := u.gSeen q }).gShow := by
  rw [State.seqEvalAt]
  simp only [Bool.and_eq_true, decide_eq_true_eq, State.gTaken]
  rewrite [← GSeq.restarted, ← GSeq.counted]
  cases (s.setGseq i (s.gseq i).restarted.counted).gTry i (s.gseq i).restarted.counted true n rate <;> rfl

theorem State.sequencerEval_none (h : firstDue s.gDue = none) : s.sequencerEval = s := by
  rw [State.sequencerEval, h]

theorem State.sequencerEval_brings (h : firstDue s.gDue = some (i, n, rate)) (hnew : s.gBrings i n) :
    s.sequencerEval = ((s.setGseq i (s.gseq i).apply).gRetime).gShow := by
  rw [State.sequencerEval, h]
  exact if_pos (by simpa [State.gBrings] using hnew)

theorem State.sequencerEval_evaluates (h : firstDue s.gDue = some (i, n, rate)) (hold : ¬ s.gBrings i n) :
    s.sequencerEval = s.seqEvalAt i n rate := by
  rw [State.sequencerEval, h]
  exact if_neg (by simpa [State.gBrings] using hold)

end Sequencers

/-- Settles O48: a delivered position is `State.gTake` with its cases, each change of state one guarded operation, and the due sequencer
is evaluated or takes its new rows. -/
theorem captureDefinitionsFollowTheirStates : Obligations.CaptureDefinitionsFollowTheirStates := by
  unfold Obligations.CaptureDefinitionsFollowTheirStates
  refine ⟨?capture, ?changes, ?complete, ?enable, ?evaluate⟩
  case capture =>
    intro d s hup x
    rw [exec_positionCapture_of hup]
    refine ⟨fun h => congrArg _ (State.gthCapture_none h), fun e vs hst hset href hch hnext => ?_⟩
    rw [State.gthCapture_delivered hst hset href hch hnext]
    refine ⟨fun hpass => congrArg _ (congrArg _ (if_pos hpass)), fun htake hgap => ?_, fun htake hgap hroom => ?_,
      fun htake hgap hfull hover => ?_, fun htake hgap hfull hover => ?_⟩ <;> rw [if_neg htake]
    · rw [State.gTake_gap hgap]
    · rw [State.gTake_room hgap hroom]
      rfl
    · rw [State.gTake_gapBegins hgap hfull hover]
    · rw [State.gTake_overflow hgap hfull hover]
      rfl
  case changes =>
    intro d s hup x
    rw [exec_headFilled_of hup, exec_gutterEnd_of hup, exec_captureResume_of hup, exec_gapEnd_of hup]
    refine ⟨fun h => congrArg _ (if_pos h), fun h => congrArg _ (if_neg h), fun h => congrArg _ (if_pos h), fun h => congrArg _ (if_neg h),
      fun h => congrArg _ (if_pos h), fun h => congrArg _ (if_neg h), fun h => congrArg _ (State.gapEnd_none h), fun n0 hgap => ?_⟩
    exact ⟨fun hfull => congrArg _ (State.gapEnd_full hgap hfull), fun hroom => congrArg _ (State.gapEnd_written hgap hroom)⟩
  case complete =>
    intro d s hup x
    rw [exec_gatheringComplete_of hup]
    refine ⟨fun hidle => congrArg _ (State.gatheringComplete_idle hidle), fun q hcur hgone => congrArg _ (State.gatheringComplete_gone hcur hgone),
      fun q g hcur hopen => ?_⟩
    rw [State.gatheringComplete_open hcur hopen]
    exact ⟨fun hearly => congrArg _ (if_pos hearly), fun hlast => congrArg _ (if_neg (Nat.not_lt_of_le hlast))⟩
  case enable =>
    intro who s h u
    exact ⟨exec_gthEnable_of h true, exec_gthEnable_of h false⟩
  case evaluate =>
    intro s hup
    rw [exec_sequencerEval_of hup]
    refine ⟨fun h => congrArg _ (State.sequencerEval_none h), fun i n rate hdue => ?_⟩
    refine ⟨fun hnew => congrArg _ (State.sequencerEval_brings hdue hnew), ?_⟩
    intro hold q1 q2 u v
    have hv : u.gTaken i q2 n rate = v := by
      cases htry : u.gTry i q2 true n rate <;> simp only [v, State.gTaken, htry]
    rewrite [State.sequencerEval_evaluates hdue hold, State.seqEvalAt_eq, ← hv]
    rfl

end Sys2Proof.Machine
end

section
/-! PROOFS. The gathering store, the host ring, the NAND window and the sequencer commands (R345, R351, R353, R354, R361). -/

namespace Sys2Proof.Machine

open Sys2Proof Reg

/-! ## Rows -/

section StoreRows

variable {s : State} (h : s.Runs 17)
include h

theorem exec_gatheringStored_of : exec .gatheringStored s = .next s.gatheringStored :=
  congrArg Host.Outcome.next (State.liveU_of_runs h _)

theorem exec_storeScanDone_of : exec .storeScanDone s = .next (if s.decided then s.storeScanDone else s) :=
  congrArg Host.Outcome.next (State.liveU_of_runs h _)

theorem exec_gthStoreCmdDone_of : exec .gthStoreCmdDone s = .next s.storeCmdDone :=
  congrArg Host.Outcome.next (State.liveU_of_runs h _)

end StoreRows

section HostRows

variable {s : State} {who : Agent}

theorem exec_hostEnWrite_of (h : s.Admits who 0x100004 false) (en : Bool) :
    exec (.hostEnWrite who en) s = .next ((s.mbCount who).hostEn en) :=
  congrArg Host.Outcome.next (State.allow_of h _ _)

theorem exec_hostConsumedWrite_of (h : s.Admits who 0x100040 false) (v : BitVec 32) :
    exec (.hostConsumedWrite who v) s = .next ((s.mbCount who).wr GTH_HOST_CONSUMED v.toNat).hostRun :=
  congrArg Host.Outcome.next (State.allow_of h _ _)

theorem exec_deleteUpto_of (h : s.Admits who 0x100020 true) : exec (.deleteUpto who) s = .next ((s.mbCount who).storeCmd 1) :=
  congrArg Host.Outcome.next (State.allow_of h _ _)

theorem exec_readToHost_of (h : s.Admits who 0x100020 true) : exec (.readToHost who) s = .next ((s.mbCount who).storeCmd 2) :=
  congrArg Host.Outcome.next (State.allow_of h _ _)

theorem exec_nandWindowRead_of (h : s.Admits who 0x10007C false) (un : Bool) :
    exec (.nandWindowRead who un) s = .next ((s.mbCount who).nandRead un) :=
  congrArg Host.Outcome.next (State.allow_of h _ _)

theorem exec_sequencerForce_of {q : Fin 16} (h : s.Admits who (0x100800 + 32 * q.val) true) :
    exec (.sequencerForce who q) s = .next ((s.mbCount who).sequencerForce q.val) :=
  congrArg Host.Outcome.next (State.allow_of h _ _)

theorem exec_sequencerReset_of {q : Fin 16} (h : s.Admits who (0x100800 + 32 * q.val) true) :
    exec (.sequencerReset who q) s = .next ((s.mbCount who).sequencerReset q.val) :=
  congrArg Host.Outcome.next (State.allow_of h _ _)

end HostRows

/-! ## The NAND store (R351, R353, R354) -/

/-- The gathering that the NAND channel serves joins the store, and an event reports it. -/
def State.gStore (s : State) (g : Gath) : State :=
  (((s.gDrained g.seq).onGth (fun e => { e with stored := e.stored ++ [(g.seq, g.bytes g.cycle)] })).gEvent
    3 g.d g.sqr g.cause g.seq (instantOf g.rate g.tp) g.count g.gaps).gShow

section Stored

variable {s : State}

theorem State.gatheringStored_none (h : s.gHead false = none) : s.gatheringStored = s := by
  simp only [State.gatheringStored, h]

section Served

variable {g : Gath} (h : s.gHead false = some g)
include h

theorem State.gatheringStored_waits (hwait : g.ended = false ∨ s.on GTH_STATUS_STORE_SCANNING = true) : s.gatheringStored = s := by
  simp only [State.gatheringStored, h, if_pos hwait]

variable (hended : g.ended = true) (hscan : s.on GTH_STATUS_STORE_SCANNING = false)
include hended hscan

theorem State.gatheringStored_stalls (hfull : s.gFull = true ∨ s.gRoom < (g.bytes g.cycle).length) :
    s.gatheringStored = (s.flag GTH_TROUBLE_STORE_FULL).gShow := by
  have hbar : (s.gFull || decide (s.gRoom < (g.bytes g.cycle).length)) = true := by simpa using hfull
  simp only [State.gatheringStored, h, hended, hscan, hbar, Bool.true_eq_false, Bool.false_eq_true, or_self, if_false, if_true]

theorem State.gatheringStored_stores (hfull : s.gFull = false) (hroom : (g.bytes g.cycle).length ≤ s.gRoom) :
    s.gatheringStored = s.gStore g := by
  have hbar : (s.gFull || decide (s.gRoom < (g.bytes g.cycle).length)) = false := by simpa [hfull] using hroom
  simp only [State.gatheringStored, h, hended, hscan, hbar, Bool.true_eq_false, Bool.false_eq_true, or_self, if_false, State.gStore]

end Served

theorem State.storeScanDone_scanned (h : s.on GTH_STATUS_STORE_SCANNING = true) :
    s.storeScanDone = (s.gth.torn.foldl (fun s t => ((s.bump GTH_TORN).flag GTH_TROUBLE_TORN).gEvent 4 t.2.1 t.2.2.1 0 t.1 t.2.2.2 0 0)
      ((s.wr GTH_STATUS_STORE_SCANNING 0).onGth (fun g => { g with torn := [] }))).gShow :=
  if_pos h

theorem State.storeScanDone_idle (h : s.on GTH_STATUS_STORE_SCANNING = false) : s.storeScanDone = s :=
  if_neg (Bool.eq_false_iff.mp h)

end Stored

/-! ## Store commands (R353, R485) -/

section StoreCommands

variable {s : State}

theorem State.storeCmdDone_none (h : s.gth.cmdResult = none) : s.storeCmdDone = s := by
  simp only [State.storeCmdDone, h]

theorem State.storeCmdDone_some {r : Nat} (h : s.gth.cmdResult = some r) :
    s.storeCmdDone = (s.onGth (fun g => { g with cmdResult := none })).finish
      GTH_STORE_STATUS_BUSY GTH_STORE_STATUS_DONE GTH_STORE_STATUS_RESULT r := by
  simp only [State.storeCmdDone, h]

theorem State.storeCmd_busy {op : Nat} (h : (s.wr GTH_STORE_CMD_OP op).on GTH_STORE_STATUS_BUSY = true) :
    s.storeCmd op = (s.wr GTH_STORE_CMD_OP op).answer GTH_STORE_STATUS_DONE GTH_STORE_STATUS_RESULT 2 :=
  if_pos h

theorem State.storeCmd_delete (h : (s.wr GTH_STORE_CMD_OP 1).on GTH_STORE_STATUS_BUSY = false) :
    s.storeCmd 1 = (s.wr GTH_STORE_CMD_OP 1).deleteUpto := by
  rw [State.storeCmd, if_neg (Bool.eq_false_iff.mp h), if_pos rfl]

theorem State.storeCmd_read (h : (s.wr GTH_STORE_CMD_OP 2).on GTH_STORE_STATUS_BUSY = false) :
    s.storeCmd 2 = (s.wr GTH_STORE_CMD_OP 2).readToHost := by
  rw [State.storeCmd, if_neg (Bool.eq_false_iff.mp h), if_neg (by decide), if_pos rfl]

/-- The stored gatherings that DELETE_UPTO removes. -/
def State.gGone (s : State) : List (Nat × List Byte) := s.gth.stored.filter (fun g => decide (g.1 ≤ s.rd GTH_STORE_ARG))

theorem State.deleteUpto_none (h : s.gGone = []) : s.deleteUpto = (s.begin GTH_STORE_STATUS_BUSY).storeCmdEnds 1 := by
  rw [State.gGone] at h
  simp only [State.deleteUpto, h, List.getLast?_nil]

theorem State.deleteUpto_some {g : Nat × List Byte} (h : s.gGone.getLast? = some g) :
    s.deleteUpto = ((((s.begin GTH_STORE_STATUS_BUSY).onGth (fun e => { e with
      stored := e.stored.filter (fun x => decide (s.rd GTH_STORE_ARG < x.1)) })).storeCmdEnds 0).gEvent 5 0 0 0 g.1 0 0 0).gShow := by
  rw [State.gGone] at h
  simp only [State.deleteUpto, h]

/-- READ_TO_HOST needs a host ring and a stored gathering; the copy then waits for the host channel. -/
theorem State.readToHost_eq (s : State) :
    let c := s.begin GTH_STORE_STATUS_BUSY
    s.readToHost =
      if c.on GTH_CTRL_HOST_EN = false ∨ c.hostRing = none then c.storeCmdEnds 3
      else if (c.gStored (s.rd GTH_STORE_ARG)).isNone then c.storeCmdEnds 1
      else (c.onGth (fun g => { g with copyWaits := some (s.rd GTH_STORE_ARG) })).hostRun :=
  rfl

end StoreCommands

/-! ## The NAND window (R353) -/

section Window

variable {s : State} {un : Bool}

theorem State.nandRead_none (h : s.gStored (s.rd GTH_NW_SEQ) = none) :
    s.nandRead un = s.answer GTH_NW_STATUS_DONE GTH_NW_STATUS_RESULT 1 := by
  simp only [State.nandRead, h]

theorem State.nandRead_some {bs : List Byte} (h : s.gStored (s.rd GTH_NW_SEQ) = some bs) :
    s.nandRead un =
      if bs.length ≤ s.rd GTH_NW_OFFSET then s.answer GTH_NW_STATUS_DONE GTH_NW_STATUS_RESULT 2
      else if un then (s.answer GTH_NW_STATUS_DONE GTH_NW_STATUS_RESULT 3).flag GTH_TROUBLE_ECC
      else ((List.range 16).foldl (fun t k =>
          t.wrK GTH_NW_DATA 0 k (leAt (slice bs (s.rd GTH_NW_OFFSET / 64 * 64) 64) (4 * k) 4)) s).answer
        GTH_NW_STATUS_DONE GTH_NW_STATUS_RESULT 0 := by
  simp only [State.nandRead, h]

end Window

/-- Settles O49: the NAND channel, the store commands and the window are each one operation with its cases; what the host channel moves
is `State.hostRun`. -/
theorem gatheringsAreStoredReadAndDeleted : Obligations.GatheringsAreStoredReadAndDeleted := by
  unfold Obligations.GatheringsAreStoredReadAndDeleted
  refine ⟨?stored, ?hostEn, fun who v s h => exec_hostConsumedWrite_of h v, ?commands, ?window, ?sequencer⟩
  case stored =>
    intro s hs
    rw [exec_gatheringStored_of hs, exec_storeScanDone_of hs, exec_gthStoreCmdDone_of hs]
    refine ⟨fun h => congrArg _ (State.gatheringStored_none h), fun g h => ?_, fun hdecided hscan => ?_, fun h => congrArg _ ?_,
      fun h => congrArg _ (State.storeCmdDone_none h), fun r h => congrArg _ (State.storeCmdDone_some h)⟩
    · exact ⟨fun hwait => congrArg _ (State.gatheringStored_waits h hwait),
        fun hended hscan hfull => congrArg _ (State.gatheringStored_stalls h hended hscan hfull),
        fun hended hscan hfull hroom => congrArg _ (State.gatheringStored_stores h hended hscan hfull hroom)⟩
    · rw [if_pos hdecided, State.storeScanDone_scanned hscan]
    · rcases h with hundecided | hscan
      · exact if_neg (Bool.eq_false_iff.mp hundecided)
      · rw [State.storeScanDone_idle hscan, ite_self]
  case hostEn =>
    intro who en s h u
    rw [exec_hostEnWrite_of h]
    exact ⟨fun hbad => congrArg _ (if_pos hbad), fun hgood => congrArg _ (if_neg hgood)⟩
  case commands =>
    intro who s h a b gone
    rw [exec_deleteUpto_of h, exec_readToHost_of h]
    refine ⟨fun hbusy => congrArg _ (State.storeCmd_busy hbusy), fun hfree hnone => ?_, fun g hfree hgone => ?_,
      fun hbusy => congrArg _ (State.storeCmd_busy hbusy), fun hfree => ?_⟩
    · exact congrArg _ ((State.storeCmd_delete hfree).trans (State.deleteUpto_none hnone))
    · exact congrArg _ ((State.storeCmd_delete hfree).trans (State.deleteUpto_some hgone))
    · rw [State.storeCmd_read hfree, State.readToHost_eq]
      refine ⟨fun hring => congrArg _ (if_pos hring), fun hen hring hnone => congrArg _ ?_, fun hen hring hsome => congrArg _ ?_⟩
      · exact (if_neg (not_or.mpr ⟨ne_false_of_eq_true hen, hring⟩)).trans (if_pos (Option.isNone_iff_eq_none.mpr hnone))
      · exact (if_neg (not_or.mpr ⟨ne_false_of_eq_true hen, hring⟩)).trans (if_neg (mt Option.isNone_iff_eq_none.mp hsome))
  case window =>
    intro who un s h u off
    rw [exec_nandWindowRead_of h]
    refine ⟨fun hnone => congrArg _ (State.nandRead_none hnone), fun bs hbs => ?_⟩
    rw [State.nandRead_some hbs]
    refine ⟨fun hend => congrArg _ (if_pos hend), fun hin hun => congrArg _ ?_, fun hin hun => congrArg _ ?_⟩
    · rw [if_neg (Nat.not_le_of_lt hin), if_pos hun]
    · rw [if_neg (Nat.not_le_of_lt hin), if_neg (Bool.eq_false_iff.mp hun)]
  case sequencer =>
    intro who q s h u
    exact ⟨exec_sequencerForce_of h, exec_sequencerReset_of h⟩

end Sys2Proof.Machine
end

section
/-! PROOFS. The twin role: ENABLE, the peer's line, its heartbeats, and a silent peer (R364, R365, R367, R370, R376, R380). -/

namespace Sys2Proof.Machine

open Sys2Proof Reg

/-! ## Rows -/

theorem exec_twinEnable_of {s : State} {who : Agent} (h : s.Admits who 0x110004 true) (en : Bool) :
    exec (.twinEnable who en) s = .next ((s.mbCount who).twinEnable en) :=
  congrArg Host.Outcome.next (State.allow_of h _ _)

theorem exec_heartbeatRx_of {s : State} (h : s.Runs 19) (bs : List Byte) : exec (.heartbeatRx bs) s = .next (s.heartbeatRx bs) :=
  congrArg Host.Outcome.next (State.liveU_of_runs h _)

section PeerRows

variable {s : State} (h : s.fabricUp = true)
include h

theorem exec_peerHolding_of : exec .peerHolding s = .next s.peerHolding := congrArg Host.Outcome.next (State.live_of_up h _)

theorem exec_peerForcing_of : exec .peerForcing s = .next s.peerForcing := congrArg Host.Outcome.next (State.live_of_up h _)

theorem exec_peerReleased_of : exec .peerReleased s = .next s.peerReleased := congrArg Host.Outcome.next (State.live_of_up h _)

theorem exec_peerFailed_of : exec .peerFailed s = .next s.peerFailed := congrArg Host.Outcome.next (State.live_of_up h _)

theorem exec_coruskLost_of : exec .coruskLost s = .next s.coruskLost := congrArg Host.Outcome.next (State.live_of_up h _)

theorem exec_tokenReadbackFault_of : exec .tokenReadbackFault s = .next s.readbackFault :=
  congrArg Host.Outcome.next (State.live_of_up h _)

end PeerRows

/-! ## The peer's line (R365, R376, R380) -/

/-- FORCING is seen on the peer's line. -/
def State.lineForcing (s : State) : State := (s.onTwn (fun t => { t with peerLine := 2, lineAt := some s.now, peerDown := false })).twnShow

/-- The peer's line is seen RELEASED. -/
def State.lineReleased (s : State) : State := (s.onTwn (fun t => { t with peerLine := 0 })).twnShow

section Line

variable {s : State}

section BothClaim

variable (hrole : s.lineForcing.role = 4) (hclaim : s.lineForcing.twn.initClaim = true)
include hrole hclaim

theorem State.peerForcing_preferred (hpos : s.lineForcing.rd TWN_STATUS_POSITION = s.lineForcing.rd TWN_CFG_PREFER_POS) :
    s.peerForcing = s.lineForcing :=
  (if_pos ⟨hrole, hclaim⟩).trans (if_pos hpos)

theorem State.peerForcing_yields (hpos : s.lineForcing.rd TWN_STATUS_POSITION ≠ s.lineForcing.rd TWN_CFG_PREFER_POS) :
    s.peerForcing = ((s.lineForcing.onTwn (fun t => { t with accepted := 0 })).twnRole 5 3).stopActing.twnShow :=
  (if_pos ⟨hrole, hclaim⟩).trans (if_neg hpos)

end BothClaim

theorem State.peerForcing_withdraws (h : s.lineForcing.role = 3 ∨ s.lineForcing.role = 4 ∧ s.lineForcing.twn.initClaim = false) :
    s.peerForcing = (s.lineForcing.onTwn (fun t => { t with forceSeen := true })).withdraw 9 :=
  (if_neg fun ⟨hrole, hclaim⟩ => h.elim (fun h3 => absurd (h3.symm.trans hrole) (by decide))
    (fun h => Bool.false_ne_true (h.2.symm.trans hclaim))).trans (if_pos (h.imp_right And.left))

theorem State.peerForcing_noted (h3 : s.lineForcing.role ≠ 3) (h4 : s.lineForcing.role ≠ 4) : s.peerForcing = s.lineForcing :=
  (if_neg fun h => h4 h.1).trans (if_neg (not_or.mpr ⟨h3, h4⟩))

theorem State.peerReleased_noted (h : s.twn.peerLine = 0 ∨ s.lineReleased.twinOn = false ∨ s.lineReleased.hbFresh = false) :
    s.peerReleased = s.lineReleased :=
  if_pos h

section Fresh

variable {p : Beat} (hwas : s.twn.peerLine ≠ 0) (hon : s.lineReleased.twinOn = true) (hfresh : s.lineReleased.hbFresh = true)
  (hp : s.lineReleased.twn.peer = some p)
include hwas hon hfresh hp

/-- A RELEASED line with fresh heartbeats: the beat of a peer that acts is lost, else the peer has relinquished. -/
theorem State.peerReleased_fresh :
    s.peerReleased =
      if p.role = 3 ∨ p.role = 4 then s.lineReleased.flag TWN_TROUBLE_TOKEN_FAULT
      else if s.lineReleased.role = 6 ∧ s.lineReleased.power = 3 then s.lineReleased.claim false 8 else s.lineReleased := by
  rw [State.lineReleased] at *
  simp only [State.peerReleased, hwas, hon, hfresh, hp, Bool.true_eq_false, or_self, if_false]

end Fresh

end Line

/-! ## A silent peer (R364, R376) -/

/-- The peer is declared failed. -/
def State.peerLost (s : State) : State :=
  ((s.flag TWN_TROUBLE_PEER_FAILED).onTwn (fun t => { t with peerDown := true, peerLine := 0 })).twnShow

/-- No edge has been seen on the peer's line for 25 µs. -/
def State.LineSilent (s : State) : Prop := s.twn.lineAt = none ∨ s.twn.peerLine = 0 ∨ ∃ t, s.twn.lineAt = some t ∧ t + 25000 ≤ s.now

section Silent

variable {s : State}

theorem State.peerFailed_idle (h : s.twinOn = false ∨ s.hbFresh = true ∨ s.twn.peerDown = true ∨
    (s.twn.peerLine ≠ 0 ∧ ∃ t, s.twn.lineAt = some t ∧ s.now < t + 25000)) : s.peerFailed = s := by
  rw [State.peerFailed]
  refine if_pos ?_
  rcases h with h | h | h | ⟨hline, t, ht, hnow⟩
  · exact .inl h
  · exact .inr (.inl h)
  · exact .inr (.inr (.inr h))
  · refine .inr (.inr (.inl ?_))
    simp only [ht, Bool.or_eq_false_iff, decide_eq_false_iff_not]
    exact ⟨hline, Nat.not_le_of_lt hnow⟩

section Declared

variable (hon : s.twinOn = true) (hold : s.hbFresh = false) (hnew : s.twn.peerDown = false) (hsilent : s.LineSilent)
include hon hold hnew hsilent

/-- What a module does once the peer is declared failed depends on its role. -/
theorem State.peerFailed_declared :
    (s.peerLost.role = 6 →
      s.peerFailed = if s.peerLost.power = 3 then s.peerLost.claim false 7 else State.peerFailed.cold s.peerLost) ∧
    (s.peerLost.role = 5 ∨ s.peerLost.role = 7 ∨ s.peerLost.role = 8 → s.peerFailed = State.peerFailed.cold s.peerLost) ∧
    (s.peerLost.role < 5 ∨ 8 < s.peerLost.role → s.peerFailed = s.peerLost) := by
  unfold State.peerFailed
  rw [if_neg]
  · refine ⟨fun h => ?_, fun h => ?_, fun h => ?_⟩ <;> rw [State.peerLost] at h
    · simp only [h]
      rfl
    · rcases h with h | h | h <;> simp only [h] <;> rfl
    · dsimp only
      split
      case h_5 => rfl
      all_goals omega
  · rintro (hoff | hfresh | hheard | hdown)
    · exact Bool.false_ne_true (hoff.symm.trans hon)
    · exact Bool.false_ne_true (hold.symm.trans hfresh)
    · rcases hsilent with hnone | hline | ⟨t, ht, hnow⟩
      · simp [hnone] at hheard
      · cases hat : s.twn.lineAt <;> simp [hat, hline] at hheard
      · simp [ht, hnow] at hheard
    · exact Bool.false_ne_true (hnew.symm.trans hdown)

end Declared

/-- A module that may not claim sets NO_PEER and is ISOLATED. -/
theorem State.peerFailed_cold_barred {u : State} (h : ¬ (u.on TWN_CFG_COLD_PROMOTE = true ∧ u.power = 3)) :
    State.peerFailed.cold u =
      if (u.flag TWN_TROUBLE_NO_PEER).role = 7 then u.flag TWN_TROUBLE_NO_PEER else (u.flag TWN_TROUBLE_NO_PEER).twnRole 7 7 :=
  if_neg h

theorem State.peerFailed_cold_claims {u : State} (h : u.on TWN_CFG_COLD_PROMOTE = true ∧ u.power = 3) :
    State.peerFailed.cold u = u.claim true 7 :=
  if_pos h

theorem State.coruskLost_idle (h : s.twinOn = false ∨ s.hbFresh = true ∨ s.twn.peerLine ≠ 1) : s.coruskLost = s := if_pos h

theorem State.coruskLost_lost (hon : s.twinOn = true) (hold : s.hbFresh = false) (hline : s.twn.peerLine = 1) :
    s.coruskLost =
      if (s.flag TWN_TROUBLE_CORUSK_LOST).twnShow.role = 5 ∨ (s.flag TWN_TROUBLE_CORUSK_LOST).twnShow.role = 6 then
        (s.flag TWN_TROUBLE_CORUSK_LOST).twnShow.twnRole 7 13
      else (s.flag TWN_TROUBLE_CORUSK_LOST).twnShow :=
  if_neg (by simp [hon, hold, hline])

end Silent

/-! ## Heartbeats (R364, R370, R376) -/

/-- A heartbeat of the peer is noted. -/
def State.beatNoted (s : State) (f : CFrame) : State :=
  (s.onTwn (fun t => { t with peer := some (beatOf f s.now), peerDown := false })).twnShow

section Heartbeat

variable {s : State} {bs : List Byte}

theorem State.heartbeatRx_off (h : s.twinOn = false) : s.heartbeatRx bs = s := if_pos h

theorem State.heartbeatRx_bad (hon : s.twinOn = true) (h : parseFrame bs = none) : s.heartbeatRx bs = s.bump TWN_FRAME_ERR := by
  simp only [State.heartbeatRx, hon, h, Bool.true_eq_false, if_false]

section Frame

variable {f : CFrame} (hon : s.twinOn = true) (hf : parseFrame bs = some f)
include hon hf

theorem State.heartbeatRx_other (h : f.typ ≠ 1 ∨ f.payload.length ≠ 64) : s.heartbeatRx bs = s := by
  simp only [State.heartbeatRx, hon, hf, h, Bool.true_eq_false, if_false, if_true]

/-- What a noted heartbeat brings depends on the module's role. -/
theorem State.heartbeatRx_noted (htyp : f.typ = 1) (hlen : f.payload.length = 64) :
    let u := s.beatNoted f
    let b := beatOf f s.now
    let sync := fun n => (u.onTwn (fun t => { t with accepted := 0 })).twnRole 5 n
    (u.role = 6 → s.heartbeatRx bs = if b.role = 8 ∧ u.twn.peerLine ≠ 1 ∧ u.power = 3 then u.claim false 8 else u) ∧
    (u.role = 7 → s.heartbeatRx bs = if b.role = 3 then sync 14 else u) ∧
    (u.role = 8 → s.heartbeatRx bs = if b.role = 3 ∨ b.role = 4 then sync 4 else u) ∧
    (u.role < 6 ∨ 8 < u.role → s.heartbeatRx bs = u) := by
  intro u b sync
  have hbranch : ¬ (f.typ ≠ 1 ∨ f.payload.length ≠ 64) := by simp [htyp, hlen]
  unfold State.heartbeatRx
  simp only [hon, hf, hbranch, Bool.true_eq_false, if_false]
  refine ⟨fun h => ?_, fun h => ?_, fun h => ?_, fun h => ?_⟩ <;> simp only [u, State.beatNoted] at h
  · simp only [h]
    rfl
  · simp only [h]
    rfl
  · simp only [h]
    rfl
  · split
    case h_4 => rfl
    all_goals omega

end Frame

end Heartbeat

/-- Settles O50: each row of the peer is one operation on the state that its sign leaves, decided by the module's role. -/
theorem twinRolesFollowThePeer : Obligations.TwinRolesFollowThePeer := by
  unfold Obligations.TwinRolesFollowThePeer
  refine ⟨?enable, ?line, ?failed, ?others, ?heartbeat⟩
  case enable =>
    intro who en s h u
    rw [exec_twinEnable_of h]
    exact ⟨fun hstart => congrArg _ (if_pos hstart), fun hnone => congrArg _ (if_neg hnone)⟩
  case line =>
    intro s hup a b c
    rw [exec_peerHolding_of hup, exec_peerForcing_of hup, exec_peerReleased_of hup]
    refine ⟨fun h => congrArg _ (if_pos h), fun h => congrArg _ (if_neg h),
      fun hrole hclaim hpos => congrArg _ (State.peerForcing_preferred hrole hclaim hpos),
      fun hrole hclaim hpos => congrArg _ (State.peerForcing_yields hrole hclaim hpos),
      fun h => congrArg _ (State.peerForcing_withdraws h), fun h3 h4 => congrArg _ (State.peerForcing_noted h3 h4),
      fun h => congrArg _ (State.peerReleased_noted h), fun p hwas hon hfresh hp => ?_⟩
    rw [State.peerReleased_fresh hwas hon hfresh hp]
    exact ⟨fun hacts => congrArg _ (if_pos hacts), fun h3 h4 => congrArg _ (if_neg (not_or.mpr ⟨h3, h4⟩))⟩
  case failed =>
    intro s hup hon hold hnew hsilent u v
    rw [exec_peerFailed_of hup]
    obtain ⟨hstandby, hcold, hother⟩ := State.peerFailed_declared hon hold hnew hsilent
    refine ⟨fun hrole hpower => congrArg _ ((hstandby hrole).trans (if_pos hpower)),
      fun hrole hmay => congrArg _ ((hcold hrole).trans (State.peerFailed_cold_claims hmay)), ?_, fun hrole => congrArg _ (hother hrole)⟩
    rintro (⟨hrole, hpower⟩ | ⟨hrole, hbarred⟩)
    · exact congrArg _ ((hstandby hrole).trans ((if_neg hpower).trans (State.peerFailed_cold_barred fun hmay => hpower hmay.2)))
    · exact congrArg _ ((hcold hrole).trans (State.peerFailed_cold_barred hbarred))
  case others =>
    intro s hup
    rw [exec_peerFailed_of hup, exec_coruskLost_of hup, exec_tokenReadbackFault_of hup]
    exact ⟨fun h => congrArg _ (State.peerFailed_idle h), fun h => congrArg _ (State.coruskLost_idle h),
      fun hon hold hline => congrArg _ (State.coruskLost_lost hon hold hline), rfl⟩
  case heartbeat =>
    intro bs s hs
    rw [exec_heartbeatRx_of hs]
    refine ⟨fun hoff => congrArg _ (State.heartbeatRx_off hoff), fun f hon hf hother => congrArg _ (State.heartbeatRx_other hon hf hother),
      fun hon hbad => congrArg _ (State.heartbeatRx_bad hon hbad), fun f hon hf htyp hlen => ?_⟩
    obtain ⟨hstandby, hisolated, hfenced, hrest⟩ := State.heartbeatRx_noted hon hf htyp hlen
    exact ⟨fun h => congrArg _ (hstandby h), fun h => congrArg _ (hisolated h), fun h => congrArg _ (hfenced h), fun h => congrArg _ (hrest h)⟩

end Sys2Proof.Machine
end

section
/-! PROOFS. The lease, cold claims, promotions, handovers, heartbeats sent, quires and lanes (R364, R366, R368, R370, R371, R374, R375,
R377, R380, R382). -/

namespace Sys2Proof.Machine

open Sys2Proof Reg

/-! ## Rows -/

section RoleRows

variable {s : State} (h : s.fabricUp = true)
include h

theorem exec_leaseRenew_of : exec .leaseRenew s = .next s.leaseRenew := congrArg Host.Outcome.next (State.live_of_up h _)

theorem exec_leaseLapse_of : exec .leaseLapse s = .next s.leaseLapse := congrArg Host.Outcome.next (State.live_of_up h _)

theorem exec_initClaim_of : exec .initClaim s = .next s.initClaim := congrArg Host.Outcome.next (State.live_of_up h _)

theorem exec_promotionComplete_of : exec .promotionComplete s = .next s.promotionComplete :=
  congrArg Host.Outcome.next (State.live_of_up h _)

theorem exec_relinquishWithdraw_of : exec .relinquishWithdraw s = .next s.relinquishWithdraw :=
  congrArg Host.Outcome.next (State.live_of_up h _)

theorem exec_coruskLaneDown_of (l : Fin 2) : exec (.coruskLaneDown l) s = .next (s.laneDown l.val) :=
  congrArg Host.Outcome.next (State.live_of_up h _)

/-- A lane rejoins only while the unit of Corusk runs. -/
theorem exec_coruskLaneRejoin_of (l : Fin 2) : exec (.coruskLaneRejoin l) s = .next (if s.clk 19 then s.laneRejoin l.val else s) :=
  congrArg Host.Outcome.next (State.live_of_up h _)

end RoleRows

theorem exec_relinquish_of {s : State} {who : Agent} (h : s.Admits who 0x110004 true) :
    exec (.relinquish who) s = .next (s.mbCount who).relinquish :=
  congrArg Host.Outcome.next (State.allow_of h _ _)

section CoruskRows

variable {s : State} (h : s.Runs 19)
include h

theorem exec_heartbeatTx_of : exec .heartbeatTx s = .next s.heartbeatTx := congrArg Host.Outcome.next (State.liveU_of_runs h _)

theorem exec_quireTxDone_of : exec .quireTxDone s = .next s.quireTxDone := congrArg Host.Outcome.next (State.liveU_of_runs h _)

theorem exec_quireRx_of (frames : List (List Byte)) : exec (.quireRx frames) s = .next (s.quireRx frames) :=
  congrArg Host.Outcome.next (State.liveU_of_runs h _)

end CoruskRows

/-! ## The lease (R366) -/

section Lease

variable {s : State} {t : Nat}

theorem State.leaseRenew_none (h : s.twn.leaseAt = none) : s.leaseRenew = s := by
  simp only [State.leaseRenew, h]

theorem State.leaseLapse_none (h : s.twn.leaseAt = none) : s.leaseLapse = s := by
  simp only [State.leaseLapse, h]

/-- The conditions under which the lease given at `t` is renewed. -/
def State.LeaseRenews (s : State) (t : Nat) : Prop :=
  s.role = 3 ∧ t + s.cycleNs ≤ s.now ∧ s.now < t + s.cycleNs + 50000 ∧ s.twn.peerLine ≠ 2 ∧ s.twn.readbackBad = false

variable (h : s.twn.leaseAt = some t)
include h

theorem State.leaseRenew_renews (hmay : s.LeaseRenews t) : s.leaseRenew = s.onTwn (fun e => { e with leaseAt := some s.now }) := by
  rw [State.LeaseRenews] at hmay
  simp only [State.leaseRenew, h, if_pos hmay]

theorem State.leaseRenew_kept (hnot : ¬ s.LeaseRenews t) : s.leaseRenew = s := by
  rw [State.LeaseRenews] at hnot
  simp only [State.leaseRenew, h, if_neg hnot]

theorem State.leaseLapse_lapses (hrole : s.role = 3) (hpast : t + s.cycleNs + 50000 ≤ s.now) :
    s.leaseLapse = ((s.wr TWN_STATUS_LEASE 0).flag TWN_TROUBLE_LEASE_LAPSED).withdraw 11 := by
  simp only [State.leaseLapse, h, hrole, hpast, and_self, if_true]

theorem State.leaseLapse_kept (hnot : s.role ≠ 3 ∨ s.now < t + s.cycleNs + 50000) : s.leaseLapse = s := by
  have hbar : ¬ (s.role = 3 ∧ t + s.cycleNs + 50000 ≤ s.now) := fun ⟨hrole, hpast⟩ => hnot.elim (· hrole) (Nat.not_lt_of_le hpast)
  simp only [State.leaseLapse, h, if_neg hbar]

end Lease

/-! ## Cold claims and promotions (R377, R380) -/

/-- The instant from which the peer's line has been released, or INIT began. -/
def State.lineSince (s : State) : Nat := max s.twn.initAt (s.twn.lineAt.getD 0)

/-- The instant of the last sign of the peer. -/
def State.signSince (s : State) : Nat := max s.lineSince ((s.twn.peer.map (fun b => b.at_)).getD 0)

/-- A module in INIT may claim cold: at PREFER_POS after 1 ms, or alone for INIT_WAIT_MS. -/
def State.MayClaim (s : State) : Prop :=
  (s.rd TWN_STATUS_POSITION = s.rd TWN_CFG_PREFER_POS ∧ s.lineSince + 1000000 ≤ s.now) ∨
    s.signSince + s.rdOr TWN_CFG_INIT_WAIT_MS 100 * 1000000 ≤ s.now

section Claim

variable {s : State}

/-- The four conditions of a cold claim out of INIT. -/
theorem State.initClaim_eq (s : State) :
    (s.role = 2 → s.power = 3 → s.twn.peerLine = 0 → s.MayClaim → s.initClaim = s.claim true 2) ∧
    (s.role ≠ 2 ∨ s.power ≠ 3 ∨ s.twn.peerLine ≠ 0 ∨ ¬ s.MayClaim → s.initClaim = s) := by
  have hmay : s.MayClaim ↔
      ((decide (s.rd TWN_STATUS_POSITION = s.rd TWN_CFG_PREFER_POS) && decide (s.lineSince + 1000000 ≤ s.now)) ||
        decide (s.signSince + s.rdOr TWN_CFG_INIT_WAIT_MS 100 * 1000000 ≤ s.now)) = true := by
    simp only [State.MayClaim, Bool.or_eq_true, Bool.and_eq_true, decide_eq_true_eq]
  rw [hmay]
  exact ⟨fun hrole hpower hline hclaim => if_pos ⟨hrole, hpower, hline, hclaim⟩,
    fun h => if_neg fun ⟨hrole, hpower, hline, hclaim⟩ =>
      h.elim (· hrole) (fun h => h.elim (· hpower) (fun h => h.elim (· hline) (· hclaim)))⟩

/-- PROMOTING may end: FORCING has ended without the peer's, and the module is caught up. -/
def State.PromotionEnds (s : State) : Prop :=
  s.role = 4 ∧ s.twn.forceEnd ≤ s.now ∧ s.twn.forceSeen = false ∧ s.caughtUp = true

/-- The gap of a promotion is shown, and the lease is granted. -/
def State.leaseGranted (s : State) : State :=
  ((s.wrSat TWN_PROMOTION_GAP_US ((s.now - s.twn.declAt) / 1000)).onTwn (fun t => { t with
    leaseAt := some s.now, initClaim := false })).wr TWN_STATUS_LEASE 1

theorem State.promotionComplete_ends (h : s.PromotionEnds) :
    s.promotionComplete = ((s.leaseGranted.twnRole 3 15).ctlFollow).twnShow := if_pos h

theorem State.promotionComplete_waits (h : ¬ s.PromotionEnds) : s.promotionComplete = s := if_neg h

end Claim

/-! ## Heartbeats and quires sent (R370, R371) -/

section Sent

variable {s : State}

theorem State.heartbeatTx_due (hon : s.twinOn = true) (hdue : s.twn.hbAt = none ∨ ∃ t, s.twn.hbAt = some t ∧ t + 10000 ≤ s.now) :
    s.heartbeatTx = s.onTwn (fun t => { t with hbOut := s.hbFrame, hbAt := some s.now, txSeq := (t.txSeq + 1) % 2 ^ 32 }) := by
  rcases hdue with hnone | ⟨t, ht, hpast⟩
  · simp only [State.heartbeatTx, hon, hnone, Bool.and_self, if_true]
  · simp only [State.heartbeatTx, hon, ht, hpast, decide_true, Bool.and_self, if_true]

theorem State.heartbeatTx_idle (h : s.twinOn = false ∨ ∃ t, s.twn.hbAt = some t ∧ s.now < t + 10000) : s.heartbeatTx = s := by
  rcases h with hoff | ⟨t, ht, hearly⟩
  · simp only [State.heartbeatTx, hoff, Bool.false_and, Bool.false_eq_true, if_false]
  · simp only [State.heartbeatTx, ht, decide_eq_false (Nat.not_le_of_lt hearly), Bool.and_false, Bool.false_eq_true, if_false]

theorem State.quireTxDone_none (h : s.twn.tx = none) : s.quireTxDone = s := by
  simp only [State.quireTxDone, h]

theorem State.quireTxDone_sent {q : QuireTx} (h : s.twn.tx = some q) :
    let fs := q.frames s.bindingDigest s.twn.txSeq
    let t := satNat 16 ((s.now - q.at_) / 100)
    let u := s.onTwn (fun e => { e with tx := none, quireOut := fs, txSeq := (e.txSeq + fs.length) % 2 ^ 32 })
    s.quireTxDone = ((((u.wr TWN_QUIRE_TX q.n).wrSat TWN_QUIRE_LEN q.len).wr TWN_QUIRE_TIME_LAST t).wr TWN_QUIRE_TIME_PEAK
      (max t (s.rd TWN_QUIRE_TIME_PEAK))).bump TWN_QUIRES_SENT := by
  simp only [State.quireTxDone, h]
  rfl

end Sent

/-! ## Quires received (R374, R375) -/

/-- The frames of a quire that arrive broken are counted. -/
def State.quireHeard (s : State) (frames : List (List Byte)) : State :=
  s.bumpBy TWN_FRAME_ERR (frames.filter (fun f => (parseFrame f).isNone)).length

/-- An accepted quire is installed, counted and shown; after SYNC_QUIRES in a row a SYNCING module is STANDBY. -/
def State.quireTaken (u : State) (q : QuireRx) : State :=
  let a := u.quireInstall q
  let b := a.onTwn (fun t => { t with accepted := a.twn.accepted + 1 })
  let v := (((b.bump TWN_QUIRES_ACCEPTED).wr TWN_QUIRE_RX q.n).wrSat TWN_QUIRE_LEN q.total).wr TWN_STATUS_QUIRE_AGE 0
  if v.role = 5 ∧ v.rdOr TWN_CFG_SYNC_QUIRES 8 ≤ a.twn.accepted + 1 then v.twnRole 6 5 else v

/-- A refused quire is counted with its cause; CADENCE and CONFIG take a STANDBY back to SYNCING. -/
def State.quireRefused (u : State) (c : Nat) : State :=
  let v := ((((u.bump TWN_QUIRES_REFUSED).wr TWN_LAST_REFUSE_CAUSE c).wr TWN_LAST_REFUSE_VALID 1).flag
    TWN_TROUBLE_QUIRE_REFUSED).onTwn (fun t => { t with accepted := 0 })
  if v.role = 6 ∧ (c = 3 ∨ c = 4) then (v.flag TWN_TROUBLE_SYNC_LOST).twnRole 5 6 else v

section Received

variable {s : State} {frames : List (List Byte)}

theorem State.quireRx_other (h5 : s.role ≠ 5) (h6 : s.role ≠ 6) : s.quireRx frames = s := if_pos ⟨h5, h6⟩

/-- Frames that make no quire are refused with FRAME. -/
theorem State.quireCause_none (h : parseQuire frames = none) : s.quireCause frames = 1 := by
  simp only [State.quireCause, h]

theorem State.quireRx_standby (h : s.role = 5 ∨ s.role = 6) :
    let u := s.quireHeard frames
    let c := u.quireCause frames
    s.quireRx frames = ((parseQuire frames).filter (fun _ => decide (c = 0))).elim (u.quireRefused c) u.quireTaken := by
  intro u c
  have hrx : s.quireRx frames = if c = 0 then (parseQuire frames).elim u u.quireTaken else u.quireRefused c := by
    rw [State.quireRx, if_neg (by omega)]
    cases hq : parseQuire frames <;> rfl
  rw [hrx]
  cases hq : parseQuire frames with
  | none => rw [if_neg (by simp [c, State.quireCause_none hq])]; rfl
  | some q =>
    by_cases hc : c = 0
    · rw [if_pos hc, decide_eq_true hc, Option.filter_some, if_pos rfl]
      rfl
    · rw [if_neg hc, decide_eq_false hc, Option.filter_some, if_neg Bool.false_ne_true]
      rfl

end Received

/-! ## Handovers and lanes (R368, R382) -/

section Handover

variable {s : State}

/-- An ACTIVE module whose peer says that it is STANDBY. -/
def State.MayRelinquish (s : State) : Prop := s.role = 3 ∧ (s.twn.peer.map (fun b => b.role)) = some 6

theorem State.relinquish_schedules (h : s.MayRelinquish) :
    s.relinquish = s.onTwn (fun t => { t with relinquish := max 1 t.relinquish }) := if_pos h

theorem State.relinquish_ignored (h : ¬ s.MayRelinquish) : s.relinquish = s := if_neg h

/-- The last quire of a module that hands over has left. -/
def State.LastQuireLeft (s : State) : Prop := s.role = 3 ∧ s.twn.relinquish = 2 ∧ s.twn.tx = none

theorem State.relinquishWithdraw_withdraws (h : s.LastQuireLeft) : s.relinquishWithdraw = s.withdraw 12 := if_pos h

theorem State.relinquishWithdraw_waits (h : ¬ s.LastQuireLeft) : s.relinquishWithdraw = s := if_neg h

theorem State.laneDown_up {l : Nat} (h : bitAt (s.rd TWN_STATUS_LANES_UP) l = true) :
    s.laneDown l = ((s.wrBit TWN_STATUS_LANES_UP 0 l false).bump TWN_LANE_LOSSES).flag TWN_TROUBLE_LANE_DOWN := if_pos h

theorem State.laneDown_down {l : Nat} (h : bitAt (s.rd TWN_STATUS_LANES_UP) l = false) : s.laneDown l = s := by
  rw [State.laneDown, h, if_neg Bool.false_ne_true]

theorem State.laneRejoin_on {l : Nat} (h : s.twinOn = true) : s.laneRejoin l = s.wrBit TWN_STATUS_LANES_UP 0 l true := if_pos h

theorem State.laneRejoin_off {l : Nat} (h : s.twinOn = false) : s.laneRejoin l = s := by
  rw [State.laneRejoin, h, if_neg Bool.false_ne_true]

end Handover

/-! ## O51 -/

/-- Settles O51, one rule per row: the row's conditions hold and it acts, or one fails and the state stays. -/
theorem leasesQuiresAndHandovers : Obligations.LeasesQuiresAndHandovers := by
  unfold Obligations.LeasesQuiresAndHandovers
  refine ⟨?role, ?relinquish, ?corusk, ?lane⟩
  case role =>
    intro s h
    rw [exec_leaseRenew_of h, exec_leaseLapse_of h, exec_initClaim_of h, exec_promotionComplete_of h, exec_relinquishWithdraw_of h]
    refine ⟨?none, ?active, ?inactive, ?claim, ?noClaim, ?ends, ?waits, ?left, ?notLeft⟩
    case none => exact fun hn => ⟨congrArg _ (State.leaseRenew_none hn), congrArg _ (State.leaseLapse_none hn)⟩
    case active =>
      intro t ht hrole
      refine ⟨fun hdue hlive hline hback => congrArg _ (State.leaseRenew_renews ht ⟨hrole, hdue, hlive, hline, hback⟩),
        fun hnot => congrArg _ (State.leaseRenew_kept ht ?_), fun hpast => congrArg _ (State.leaseLapse_lapses ht hrole hpast),
        fun hlive => congrArg _ (State.leaseLapse_kept ht (.inr hlive))⟩
      rintro ⟨-, hdue, hlive, hline, hback⟩
      rcases hnot with h | h | h | h
      · exact absurd hdue (Nat.not_le_of_lt h)
      · exact absurd hlive (Nat.not_lt_of_le h)
      · exact hline h
      · exact Bool.false_ne_true (hback.symm.trans h)
    case inactive =>
      exact fun t ht hrole => ⟨congrArg _ (State.leaseRenew_kept ht fun hmay => hrole hmay.1),
        congrArg _ (State.leaseLapse_kept ht (.inl hrole))⟩
    case claim =>
      intro hrole hpower hline
      refine ⟨fun hmay => congrArg _ (s.initClaim_eq.1 hrole hpower hline hmay), fun hpos hsign =>
        congrArg _ (s.initClaim_eq.2 (.inr (.inr (.inr ?_))))⟩
      rintro (⟨hprefer, hpast⟩ | hpast)
      · exact hpos.elim (Nat.not_lt_of_le hpast) (· hprefer)
      · exact Nat.not_le_of_lt hsign hpast
    case noClaim =>
      exact fun hnot => congrArg _ (s.initClaim_eq.2 (hnot.imp_right (Or.imp_right Or.inl)))
    case ends =>
      exact fun hrole hend hseen hcaught => congrArg _ (State.promotionComplete_ends ⟨hrole, hend, hseen, hcaught⟩)
    case waits =>
      refine fun hnot => congrArg _ (State.promotionComplete_waits ?_)
      rintro ⟨hrole, hend, hseen, hcaught⟩
      rcases hnot with h | h | h | h
      · exact h hrole
      · exact Nat.not_le_of_lt h hend
      · exact Bool.false_ne_true (hseen.symm.trans h)
      · exact Bool.false_ne_true (h.symm.trans hcaught)
    case left => exact fun hleft => congrArg _ (State.relinquishWithdraw_withdraws hleft)
    case notLeft => exact fun hnot => congrArg _ (State.relinquishWithdraw_waits hnot)
  case relinquish =>
    intro who s h
    rw [exec_relinquish_of h]
    exact ⟨fun hmay => congrArg _ (State.relinquish_schedules hmay), fun hnot => congrArg _ (State.relinquish_ignored hnot)⟩
  case corusk =>
    intro s h
    rw [exec_heartbeatTx_of h, exec_quireTxDone_of h]
    refine ⟨fun hon hdue => congrArg _ (State.heartbeatTx_due hon hdue), fun hidle => congrArg _ (State.heartbeatTx_idle hidle),
      fun hn => congrArg _ (State.quireTxDone_none hn), fun q hq => congrArg _ (State.quireTxDone_sent hq), ?other, ?standby⟩
    case other => exact fun frames h5 h6 => (exec_quireRx_of h frames).trans (congrArg _ (State.quireRx_other h5 h6))
    case standby => exact fun frames hrole => (exec_quireRx_of h frames).trans (congrArg _ (State.quireRx_standby hrole))
  case lane =>
    intro l s h
    rw [exec_coruskLaneDown_of h, exec_coruskLaneRejoin_of h]
    refine ⟨fun hup => congrArg _ (State.laneDown_up hup), fun hdown => congrArg _ (State.laneDown_down hdown), ?rejoins, ?stays⟩
    case rejoins => exact fun hclk hon => congrArg _ ((if_pos hclk).trans (State.laneRejoin_on hon))
    case stays =>
      intro hnot
      refine congrArg _ ?_
      by_cases hclk : s.clk 19 = true
      · exact (if_pos hclk).trans (State.laneRejoin_off (hnot.resolve_right fun hoff => Bool.false_ne_true (hoff.symm.trans hclk)))
      · exact if_neg hclk

end Sys2Proof.Machine
end

section
/-! PROOFS. KEY operations: how they start, run and answer, the operation buffers, and the unseal of the store (R390, R407,
R411-R414, R418, R484, R485). -/

namespace Sys2Proof.Machine

open Sys2Proof Reg

/-! ## Reads of a field just written -/

theorem State.rd_wr_self {s : State} (f : Fld) (v : Nat) (h : s.regs.wf = true) : (s.wr f v).rd f = v % 2 ^ f.w :=
  State.rdK_wrK_self s f 0 0 v h

theorem State.rd_wr_ne {s : State} {f g : Fld} (v : Nat) (hne : g.key 0 0 ≠ f.key 0 0) (h : s.regs.wf = true) :
    (s.wr f v).rd g = s.rd g := State.rdK_wrK_ne s v hne h

theorem State.mbCount_wf {s : State} (who : Agent) (h : s.Wf) : (s.mbCount who).Wf := (State.mbCount_keeps who (Keeps.refl s)).wf h

theorem State.mbCount_key (s : State) (who : Agent) : (s.mbCount who).key = s.key := by
  rw [State.mbCount]
  split <;> rfl

/-! ## Rows -/

section KeyRows

variable {s : State} {who : Agent}

theorem exec_keyOp_of (src : Bool) (slot : Fin 1024) (h : s.Admits who 0x120030 true) :
    let go := fun (k : Nat) => ((s.mbCount who).keyFields k src slot.val).keyStart (s.mbCount who).lcs.log.length
    exec (.update who src slot) s = .next (go 1) ∧ exec (.verify who src slot) s = .next (go 2) ∧
    exec (.attest who src slot) s = .next (go 3) ∧ exec (.pubkey who src slot) s = .next (go 4) ∧
    exec (.delete who src slot) s = .next (go 5) :=
  ⟨congrArg Host.Outcome.next (State.allow_of h _ _), congrArg Host.Outcome.next (State.allow_of h _ _),
    congrArg Host.Outcome.next (State.allow_of h _ _), congrArg Host.Outcome.next (State.allow_of h _ _),
    congrArg Host.Outcome.next (State.allow_of h _ _)⟩

theorem exec_keyOpComplete_of (h : s.Runs 16) : exec .keyOpComplete s = .next s.keyComplete.svOrphans :=
  congrArg Host.Outcome.next (State.liveU_of_runs h _)

theorem exec_keyOpWrite_of (h : s.Admits who 0x120050 false) (v : BitVec 32) :
    exec (.keyOpWrite who v) s = .next ((s.mbCount who).keyWrite v.toNat) :=
  congrArg Host.Outcome.next (State.allow_of h _ _)

theorem exec_keyOpRead_of (h : s.InTurn who 0x120054) : exec (.keyOpRead who) s = .next (s.readReg who 0x120054) :=
  congrArg Host.Outcome.next (State.inTurn_of h _ _)

theorem exec_unsealDone_of (h : s.fabricUp = true) (failed : List Nat) :
    exec (.unsealDone failed) s = .next (if s.decided then s.unseal failed else s) :=
  congrArg Host.Outcome.next (State.live_of_up h _)

theorem exec_zeroizeMetadataDone_of (h : s.fabricUp = true) :
    exec .zeroizeMetadataDone s = .next (s.onKey (fun k => { k with rewrite := false })) :=
  congrArg Host.Outcome.next (State.live_of_up h _)

end KeyRows

/-! ## KEY_OP_CTRL starts an operation or is refused (R407, R412, R418) -/

/-- What a write of KEY_OP_CTRL leaves in OP and SLOT. -/
theorem State.keyFields_rd {s : State} (h : s.Wf) {op slot : Nat} (src : Bool) (hop : op < 8) (hslot : slot < 1024) :
    (s.keyFields op src slot).rd KEY_OP_CTRL_OP = op ∧ (s.keyFields op src slot).rd KEY_OP_CTRL_SLOT = slot := by
  have h1 : (s.wr KEY_OP_CTRL_OP op).regs.wf = true := Store.put_wf _ _ _ h.regs
  have h2 : ((s.wr KEY_OP_CTRL_OP op).wrB KEY_OP_CTRL_SRC src).regs.wf = true := Store.put_wf _ _ _ h1
  constructor
  · calc (s.keyFields op src slot).rd KEY_OP_CTRL_OP
        = ((s.wr KEY_OP_CTRL_OP op).wrB KEY_OP_CTRL_SRC src).rd KEY_OP_CTRL_OP := State.rd_wr_ne _ (by decide) h2
      _ = (s.wr KEY_OP_CTRL_OP op).rd KEY_OP_CTRL_OP := State.rd_wr_ne _ (by decide) h1
      _ = op % 2 ^ KEY_OP_CTRL_OP.w := State.rd_wr_self _ _ h.regs
      _ = op := Nat.mod_eq_of_lt hop
  · exact (State.rd_wr_self _ _ h2).trans (Nat.mod_eq_of_lt hslot)

/-- A KEY operation that is refused: no valid output, DONE with the result. -/
def State.keyRefuse (s : State) (r : Nat) : State := (s.wr KEY_OP_STATUS_OUTPUT_VALID 0).answer KEY_OP_STATUS_DONE KEY_OP_STATUS_RESULT r

/-- The address of the input of an operation in DRAM. -/
def State.keyIn (s : State) : Option Nat := s.window 0 (s.rd KEY_OP_BASE) (s.rd KEY_OP_LEN) false

/-- The address of the output of an operation in DRAM. -/
def State.keyOut (s : State) : Option Nat := s.window 0 (s.rd KEY_OP_OUT) (keyOutLen (s.rd KEY_OP_CTRL_OP)) true

/-- UPDATE or VERIFY without a readable input. -/
def State.keyLacksIn (s : State) : Bool :=
  decide (s.rd KEY_OP_CTRL_OP = 1 ∨ s.rd KEY_OP_CTRL_OP = 2) &&
    ((decide (s.rd KEY_OP_CTRL_SRC = 0) && (s.keyIn.isNone || decide (65536 < s.rd KEY_OP_LEN))) ||
      (!decide (s.rd KEY_OP_CTRL_SRC = 0) && decide (49152 < s.rd KEY_OP_LEN)))

/-- ATTEST or PUBKEY without a place for the output. -/
def State.keyLacksOut (s : State) : Bool :=
  decide (s.rd KEY_OP_CTRL_SRC = 0) && decide (keyOutLen (s.rd KEY_OP_CTRL_OP) ≠ 0) && s.keyOut.isNone

/-- An ATTEST is enabled and has an index left. -/
def State.KeyAttests (s : State) : Prop := s.on KEY_POLICY_ATTEST_EN = true ∧ s.rd KEY_ATTEST_NEXT < 1048576

/-- The bytes that an operation takes as its input. -/
def State.keyInput (s : State) : List Byte :=
  if s.rd KEY_OP_CTRL_OP = 1 ∨ s.rd KEY_OP_CTRL_OP = 2 then
    (if s.rd KEY_OP_CTRL_SRC = 0 then s.dramBytes (s.keyIn.getD 0) (s.rd KEY_OP_LEN) else s.key.inBuf.take (s.rd KEY_OP_LEN))
  else []

/-- The job that KEY_OP_CTRL begins in `s`, where `v` is the state after the index was taken. -/
def State.keyJobOf (s v : State) (tamperEntries : Nat) : KeyJob :=
  let k := s.rd KEY_OP_CTRL_OP
  { op := k, slot := s.rd KEY_OP_CTRL_SLOT
    uses := (v.keyUses k (s.rd KEY_OP_CTRL_SLOT) s.keyInput).map (fun n => (n, (v.slot n).gen)), input := s.keyInput
    statement := if k = 3 then v.statement s.takeIndex.1 tamperEntries else []
    index := if k = 3 then s.takeIndex.1 else 0, outAddr := if s.rd KEY_OP_CTRL_SRC = 0 then s.keyOut else none, forced := none }

theorem keyOutLen_ne_zero {k : Nat} : keyOutLen k ≠ 0 ↔ k = 3 ∨ k = 4 := by
  rw [keyOutLen]
  split
  · simp [*]
  · split <;> simp [*]

theorem State.keyLacksIn_iff {s : State} : s.keyLacksIn = true ↔
    (s.rd KEY_OP_CTRL_OP = 1 ∨ s.rd KEY_OP_CTRL_OP = 2) ∧
      (s.rd KEY_OP_CTRL_SRC = 0 ∧ (s.keyIn = none ∨ 65536 < s.rd KEY_OP_LEN) ∨ ¬ s.rd KEY_OP_CTRL_SRC = 0 ∧ 49152 < s.rd KEY_OP_LEN) := by
  simp only [State.keyLacksIn, Bool.and_eq_true, Bool.or_eq_true, decide_eq_true_eq, Option.isNone_iff_eq_none, Bool.not_eq_true',
    decide_eq_false_iff_not]

theorem State.keyLacksOut_iff {s : State} : s.keyLacksOut = true ↔
    (s.rd KEY_OP_CTRL_OP = 3 ∨ s.rd KEY_OP_CTRL_OP = 4) ∧ s.rd KEY_OP_CTRL_SRC = 0 ∧ s.keyOut = none := by
  simp only [State.keyLacksOut, Bool.and_eq_true, decide_eq_true_eq, Option.isNone_iff_eq_none, keyOutLen_ne_zero]
  exact ⟨fun ⟨⟨hdram, hop⟩, hout⟩ => ⟨hop, hdram, hout⟩, fun ⟨hop, hdram, hout⟩ => ⟨⟨hdram, hop⟩, hout⟩⟩

section Start

variable {s : State} (n : Nat)

theorem State.keyStart_busy (h : s.on KEY_OP_STATUS_BUSY = true) :
    s.keyStart n = s.answer KEY_OP_STATUS_DONE KEY_OP_STATUS_RESULT 0x11 := if_pos h

variable (hidle : s.on KEY_OP_STATUS_BUSY = false)
include hidle

theorem State.keyStart_bindingBusy (h : s.on BND_STATUS_BUSY = true) : s.keyStart n = s.keyRefuse 0x11 := by
  simp only [State.keyStart, hidle, h, Bool.false_eq_true, if_true, if_false]
  rfl

variable (hbnd : s.on BND_STATUS_BUSY = false)
include hbnd

theorem State.keyStart_notReady (h : s.rd KEY_STATUS_STATE ≠ 2) : s.keyStart n = s.keyRefuse 0x12 := by
  simp only [State.keyStart, hidle, hbnd, if_pos h, Bool.false_eq_true, if_false]
  rfl

variable (hready : s.rd KEY_STATUS_STATE = 2)
include hready

theorem State.keyStart_attestOff (hk : s.rd KEY_OP_CTRL_OP = 3) (h : s.on KEY_POLICY_ATTEST_EN = false) :
    s.keyStart n = s.keyRefuse 0x13 := by
  have hop : ¬ (s.rd KEY_OP_CTRL_OP = 0 ∨ 5 < s.rd KEY_OP_CTRL_OP) := by omega
  simp only [State.keyStart, hidle, hbnd, if_neg (not_not_intro hready), if_neg hop, if_pos (And.intro hk h), Bool.false_eq_true,
    if_false]
  rfl

theorem State.keyStart_attestSpent (hk : s.rd KEY_OP_CTRL_OP = 3) (hen : s.on KEY_POLICY_ATTEST_EN = true)
    (h : 1048576 ≤ s.rd KEY_ATTEST_NEXT) : s.keyStart n = (s.keyRefuse 0x0E).flag KEY_TROUBLE_ATTEST_EXHAUSTED := by
  have hop : ¬ (s.rd KEY_OP_CTRL_OP = 0 ∨ 5 < s.rd KEY_OP_CTRL_OP) := by omega
  simp only [State.keyStart, hidle, hbnd, if_neg (not_not_intro hready), if_neg hop, hen, if_pos (And.intro hk h), Bool.false_eq_true,
    Bool.true_eq_false, and_false, if_false]
  rfl

variable (hop0 : s.rd KEY_OP_CTRL_OP ≠ 0) (hop5 : s.rd KEY_OP_CTRL_OP ≤ 5) (hattest : s.rd KEY_OP_CTRL_OP = 3 → s.KeyAttests)
include hop0 hop5 hattest

/-- Past the gates an operation starts or lacks a buffer. -/
theorem State.keyStart_gated :
    s.keyStart n =
      if s.keyLacksIn = true then s.keyRefuse 0x14 else if s.keyLacksOut = true then s.keyRefuse 0x14 else
        let v := if s.rd KEY_OP_CTRL_OP = 3 then s.takeIndex.2 else s
        ((v.onKey (fun e => { e with job := some (s.keyJobOf v n) })).begin KEY_OP_STATUS_BUSY).wr KEY_OP_STATUS_OUTPUT_VALID 0 := by
  have hop : ¬ (s.rd KEY_OP_CTRL_OP = 0 ∨ 5 < s.rd KEY_OP_CTRL_OP) := by omega
  have hoff : ¬ (s.rd KEY_OP_CTRL_OP = 3 ∧ s.on KEY_POLICY_ATTEST_EN = false) := fun ⟨hk, hen⟩ =>
    Bool.false_ne_true (hen.symm.trans (hattest hk).1)
  have hspent : ¬ (s.rd KEY_OP_CTRL_OP = 3 ∧ 1048576 ≤ s.rd KEY_ATTEST_NEXT) := fun ⟨hk, hnext⟩ =>
    Nat.not_le_of_lt (hattest hk).2 hnext
  by_cases hk : s.rd KEY_OP_CTRL_OP = 3
  · simp only [State.keyStart, hidle, hbnd, if_neg (not_not_intro hready), if_neg hop, if_neg hoff, if_neg hspent, Bool.false_eq_true,
      if_false]
    simp only [if_pos hk, State.keyJobOf, State.keyInput, decide_eq_true_eq]
    rfl
  · simp only [State.keyStart, hidle, hbnd, if_neg (not_not_intro hready), if_neg hop, if_neg hoff, if_neg hspent, Bool.false_eq_true,
      if_false]
    simp only [if_neg hk, State.keyJobOf, State.keyInput, decide_eq_true_eq]
    rfl

theorem State.keyStart_starts (hin : ¬ s.keyLacksIn = true) (hout : ¬ s.keyLacksOut = true) :
    let v := if s.rd KEY_OP_CTRL_OP = 3 then s.takeIndex.2 else s
    s.keyStart n =
      ((v.onKey (fun e => { e with job := some (s.keyJobOf v n) })).begin KEY_OP_STATUS_BUSY).wr KEY_OP_STATUS_OUTPUT_VALID 0 := by
  rw [State.keyStart_gated n hidle hbnd hready hop0 hop5 hattest, if_neg hin, if_neg hout]

theorem State.keyStart_lacksBuffer (h : s.keyLacksIn = true ∨ s.keyLacksOut = true) : s.keyStart n = s.keyRefuse 0x14 := by
  rw [State.keyStart_gated n hidle hbnd hready hop0 hop5 hattest]
  by_cases hin : s.keyLacksIn = true
  · exact if_pos hin
  · rw [if_neg hin, if_pos (h.resolve_left hin)]

end Start

/-! ## An operation finishes (R393, R411, R414, R418) -/

/-- An operation ends with a result and output bytes. -/
def State.keyDone (x : State) (r : Nat) (out : List Byte) : State :=
  let y := x.onKey (fun e => { e with outBuf := out, outOff := 0 })
  ((y.wr KEY_OP_OUT_LEN out.length).wrB KEY_OP_STATUS_OUTPUT_VALID (decide (out ≠ []))).finish
    KEY_OP_STATUS_BUSY KEY_OP_STATUS_DONE KEY_OP_STATUS_RESULT r

/-- A slot that the operation uses has lost its usability or its generation. -/
def State.keyLost (s : State) (j : KeyJob) : Bool := j.uses.any (fun x => !s.usable x.1 || decide ((s.slot x.1).gen ≠ x.2))

/-- The state in which the operation in progress is computed: no job any more. -/
def State.keyIdle (s : State) : State := s.onKey (fun e => { e with job := none })

section Finish

variable {s b : State} {j : KeyJob}

theorem State.keyComplete_none (h : s.key.job = none) : s.keyComplete = s := by
  simp only [State.keyComplete, h]

variable (h : s.key.job = some j)
include h

theorem State.keyComplete_silent {r : Nat} (hrun : s.keyIdle.keyRun j = (r, [], b)) : s.keyComplete = b.keyDone r [] := by
  rw [State.keyIdle] at hrun
  simp only [State.keyComplete, h, hrun]
  cases j.outAddr <;> simp only [ne_eq, not_true_eq_false, decide_false, Bool.and_false, Bool.false_eq_true, if_false] <;> rfl

theorem State.keyComplete_output {out : List Byte} (hrun : s.keyIdle.keyRun j = (0, out, b)) :
    s.keyComplete = ((j.outAddr.map (fun d => b.dramWrite d out)).getD b).keyDone 0 out := by
  rw [State.keyIdle] at hrun
  cases out with
  | nil =>
    rw [State.keyComplete_silent h hrun]
    cases j.outAddr <;> rfl
  | cons o os =>
    simp only [State.keyComplete, h, hrun]
    cases j.outAddr <;> rfl

end Finish

section Run

variable {s : State} {j : KeyJob}

theorem State.keyRun_forced {r : Nat} (h : j.forced = some r) : s.keyRun j = (r, [], s) := by
  simp only [State.keyRun, h]

variable (h : j.forced = none)
include h

theorem State.keyRun_lost (hlost : s.keyLost j = true) : s.keyRun j = (0x0C, [], s) := by
  simp only [State.keyRun, h]
  exact if_pos hlost

variable (hheld : s.keyLost j = false)
include hheld

omit h in
/-- An operation that is not forced and has lost no slot computes by its OP. -/
theorem State.keyRun_held {x : Nat × List Byte × State} (hx : s.keyRun j = if s.keyLost j = true then (0x0C, [], s) else x) :
    s.keyRun j = x := by rw [hx, if_neg (Bool.eq_false_iff.mp hheld)]

theorem State.keyRun_update (hop : j.op = 1) : s.keyRun j = ((s.keyUpdate j.input).1, [], (s.keyUpdate j.input).2) :=
  State.keyRun_held hheld (by simp only [State.keyRun, h, hop]; rfl)

theorem State.keyRun_verify (hop : j.op = 2) : s.keyRun j = ((s.keyVerify j.slot j.input).1, [], (s.keyVerify j.slot j.input).2) :=
  State.keyRun_held hheld (by simp only [State.keyRun, h, hop]; rfl)

theorem State.keyRun_attest (hop : j.op = 3) : s.keyRun j =
    (0, j.statement ++ Config.hssSign j.index j.statement, ((s.keyUse 0).2.bump KEY_ATTESTS).keyEvent 9 0 0 0 j.index 0) :=
  State.keyRun_held hheld (by simp only [State.keyRun, h, hop]; rfl)

theorem State.keyRun_pubkey (hop : j.op = 4) : s.keyRun j = (0, Config.attestPublicKey, s) :=
  State.keyRun_held hheld (by simp only [State.keyRun, h, hop]; rfl)

theorem State.keyRun_delete (hop : j.op = 5) : s.keyRun j = ((s.keyDelete j.slot).1, [], (s.keyDelete j.slot).2) :=
  State.keyRun_held hheld (by simp only [State.keyRun, h, hop]; rfl)

end Run

/-! ## The operation buffers (R418, R484) -/

section Buffers

variable {s : State}

theorem State.keyWrite_room {v : Nat} (h : s.key.inOff < 49152) :
    s.keyWrite v = s.onKey (fun e => { e with
      inBuf := patch (e.inBuf ++ List.replicate (e.inOff - e.inBuf.length) 0#8) e.inOff (beBytes 4 v), inOff := e.inOff + 4 }) :=
  if_neg (Nat.not_le_of_lt h)

theorem State.keyWrite_full {v : Nat} (h : 49152 ≤ s.key.inOff) : s.keyWrite v = s := if_pos h

/-- A read of KEY_OP_RD answers the next four output bytes and moves the offset on. -/
theorem State.readReg_keyOpRd {who : Agent} (hup : s.fabricUp = true) (h : s.mayRead who 0x120054 = true) :
    (s.readReg who 0x120054).lastRead = beNat (slice (s.key.outBuf ++ List.replicate 4 0#8) s.key.outOff 4) % 2 ^ 32 ∧
      (s.readReg who 0x120054).key = { s.key with outOff := s.key.outOff + 4 } := by
  rw [State.readReg_permitted hup h, State.busRead_keyOpRd]
  exact ⟨rfl, State.mbCount_key _ _⟩

end Buffers

/-! ## The unseal (R389, R390) -/

/-- A zeroization that the reset left pending, before the unseal. -/
def State.unsealPending (s : State) : State :=
  if s.on KEY_STATUS_PENDING_ZEROIZE then (s.zeroize (s.on LCS_TAMPER_AON_CLASS_AON)).wr KEY_STATUS_PENDING_ZEROIZE 0 else s

/-- The loss of the always-on supply, before the unseal. -/
def State.unsealLoss (s : State) : State :=
  if s.key.aonLost then (if s.key.lossZeroize then s.zeroize false else s).flag KEY_TROUBLE_AON_LOSS else s

/-- The slots as the unwrap leaves them: those that fail are ZEROIZED, and lost use counts are made up. -/
def State.unsealSlots (s : State) (failed : List Nat) : State :=
  let lost := s.key.ramLost
  (s.onKey (fun e => { e with
    slots := e.slots.map (fun p =>
      let k := p.2
      let k := if decide (p.1 ≠ 0) && decide (k.state ≠ 0) && failed.contains p.1 then { k with state := 2, material := [] } else k
      let k := if lost && decide (k.state ≠ 0) then { k with useCount := k.useMram + 65536, useMram := k.useMram + 65536 } else k
      (p.1, k)), ramLost := false, aonLost := false })).flagIf (failed ≠ []) KEY_TROUBLE_STORE_ECC

/-- The limits of one slot, at the reset count `rc`. -/
def State.unsealLimit (rc : Nat) (s : State) (p : Nat × KeySlot) : State :=
  let s := s.keyExpire p.1
  let k := s.slot p.1
  if k.state = 1 ∧ k.resetLimit ≠ 0 ∧ k.resetLimit ≤ rc - k.resetAt then
    ((s.setSlot p.1 { k with state := 3 }).flag KEY_TROUBLE_EXPIRED).keyEvent 5 0x0D p.1 k.parent 0 0
  else s

/-- The state of an unseal before it reads READY. -/
def State.unsealed (s : State) (failed : List Nat) : State :=
  let a := s.unsealPending.unsealLoss
  let b := a.wr KEY_RESET_COUNT (a.rd KEY_RESET_COUNT + 1)
  let c := b.unsealSlots failed
  let d := c.key.slots.foldl (State.unsealLimit (b.rd KEY_RESET_COUNT)) c
  (d.wr KEY_ATTEST_NEXT (d.rd KEY_ATTEST_FRONT)).attestLow

section Unseal

variable {s₀ s : State} {failed : List Nat}

theorem State.unsealPending_keeps (h : Keeps s₀ s) : Keeps s₀ s.unsealPending := by
  rw [State.unsealPending]
  split
  · exact State.wr_keeps _ _ (State.zeroize_keeps _ h)
  · exact h

theorem State.unsealLoss_keeps (h : Keeps s₀ s) : Keeps s₀ s.unsealLoss := by
  rw [State.unsealLoss]
  split
  · refine State.flag_keeps _ ?_
    split
    · exact State.zeroize_keeps _ h
    · exact h
  · exact h

theorem State.unsealLimit_keeps {rc : Nat} {p : Nat × KeySlot} (h : Keeps s₀ s) : Keeps s₀ (s.unsealLimit rc p) := by
  have hexpire := State.keyExpire_keeps p.1 h
  rw [State.unsealLimit]
  split
  · exact State.keyEvent_keeps _ _ _ _ _ _ (State.flag_keeps _ (State.setSlot_keeps _ _ hexpire))
  · exact hexpire

theorem State.unsealed_keeps (s : State) (failed : List Nat) : Keeps s (s.unsealed failed) :=
  have hcount := State.wr_keeps KEY_RESET_COUNT _ (State.unsealLoss_keeps (State.unsealPending_keeps (Keeps.refl s)))
  have hslots := State.flagIf_keeps _ _ (State.onKey_keeps _ hcount)
  State.attestLow_keeps (State.wr_keeps _ _ (keeps_foldl _ _ (fun _ _ hx => State.unsealLimit_keeps hx) hslots))

theorem State.unseal_unsealing (h : s.rd KEY_STATUS_STATE = 1) : s.unseal failed = (s.unsealed failed).wr KEY_STATUS_STATE 2 :=
  if_neg (not_not_intro h)

theorem State.unseal_other (h : s.rd KEY_STATUS_STATE ≠ 1) : s.unseal failed = s := if_pos h

/-- An unseal in progress ends in READY. -/
theorem State.unseal_ready (hwf : s.Wf) (h : s.rd KEY_STATUS_STATE = 1) : (s.unseal failed).rd KEY_STATUS_STATE = 2 := by
  rw [State.unseal_unsealing h, State.rd_wr_self _ _ ((s.unsealed_keeps failed).wf hwf).regs]
  decide

end Unseal

/-! ## O52 -/

/-- Settles O52: the gates of KEY_OP_CTRL in their order, then what each operation computes when it finishes. -/
theorem keyOperationsRunAndAnswer : Obligations.KeyOperationsRunAndAnswer := by
  unfold Obligations.KeyOperationsRunAndAnswer
  refine ⟨?start, ?complete, ?write, ?read, ?ready⟩
  case start =>
    intro who src slot s h
    obtain ⟨hupdate, hverify, hattest, hpubkey, hdelete⟩ := exec_keyOp_of src slot h
    refine ⟨⟨hupdate, hverify, hattest, hpubkey, hdelete⟩, ?_⟩
    intro p hp u refuse k dram inA outA
    have hgo : exec p.1 s = .next (u.keyStart u.lcs.log.length) ∧ p.2 < 8 := by
      simp only [List.mem_cons, List.not_mem_nil, or_false] at hp
      rcases hp with rfl | rfl | rfl | rfl | rfl
      · exact ⟨hupdate, by simp⟩
      · exact ⟨hverify, by simp⟩
      · exact ⟨hattest, by simp⟩
      · exact ⟨hpubkey, by simp⟩
      · exact ⟨hdelete, by simp⟩
    obtain ⟨hexec, hop⟩ := hgo
    rw [hexec]
    refine ⟨fun hwf => State.keyFields_rd (State.mbCount_wf who hwf) src hop slot.isLt,
      fun hbusy => congrArg _ (State.keyStart_busy _ hbusy), fun hidle =>
      ⟨fun hbnd => congrArg _ (State.keyStart_bindingBusy _ hidle hbnd), fun hbnd =>
        ⟨fun hstate => congrArg _ (State.keyStart_notReady _ hidle hbnd hstate), fun hready =>
          ⟨fun hk hen => congrArg _ (State.keyStart_attestOff _ hidle hbnd hready hk hen),
            fun hk hen hnext => congrArg _ (State.keyStart_attestSpent _ hidle hbnd hready hk hen hnext), ?starts, ?lacks⟩⟩⟩⟩
    case starts =>
      intro h0 h5 hatt hin hout
      refine congrArg _ (State.keyStart_starts _ hidle hbnd hready h0 h5 hatt ?_ ?_)
      · rw [State.keyLacksIn_iff]
        rintro ⟨hk, ⟨hdram, hno⟩ | ⟨hdram, hlong⟩⟩
        · obtain ⟨haddr, hlen⟩ := (hin hk).1 hdram
          exact hno.elim haddr (Nat.not_lt_of_le hlen)
        · exact Nat.not_lt_of_le ((hin hk).2 hdram) hlong
      · rw [State.keyLacksOut_iff]
        rintro ⟨hk, hdram, hnone⟩
        exact hout hdram hk hnone
    case lacks =>
      intro h0 h5 hatt hno
      refine congrArg _ (State.keyStart_lacksBuffer _ hidle hbnd hready h0 h5 hatt ?_)
      rw [State.keyLacksIn_iff, State.keyLacksOut_iff]
      exact hno
  case complete =>
    intro s h
    rw [exec_keyOpComplete_of h]
    refine ⟨fun hn => congrArg _ (congrArg State.svOrphans (State.keyComplete_none hn)), fun j hj => ?_⟩
    intro a done lost
    have hsilent {r : Nat} {b : State} (hrun : a.keyRun j = (r, [], b)) : s.keyComplete.svOrphans = done b r [] :=
      congrArg State.svOrphans (State.keyComplete_silent hj hrun)
    have hout {out : List Byte} {b : State} (hrun : a.keyRun j = (0, out, b)) :
        s.keyComplete.svOrphans = done ((j.outAddr.map (fun d => b.dramWrite d out)).getD b) 0 out :=
      congrArg State.svOrphans (State.keyComplete_output hj hrun)
    exact ⟨fun r hr => congrArg _ (hsilent (State.keyRun_forced hr)),
      fun hf hlost => congrArg _ (hsilent (State.keyRun_lost hf hlost)),
      fun hf hheld hop => congrArg _ (hsilent (State.keyRun_update hf hheld hop)),
      fun hf hheld hop => congrArg _ (hsilent (State.keyRun_verify hf hheld hop)),
      fun hf hheld hop => congrArg _ (hout (State.keyRun_attest hf hheld hop)),
      fun hf hheld hop => congrArg _ (hout (State.keyRun_pubkey hf hheld hop)),
      fun hf hheld hop => congrArg _ (hsilent (State.keyRun_delete hf hheld hop))⟩
  case write =>
    intro who v s h
    rw [exec_keyOpWrite_of h]
    exact ⟨fun hroom => congrArg _ (State.keyWrite_room hroom), fun hfull => congrArg _ (State.keyWrite_full hfull)⟩
  case read =>
    exact fun who s hup hturn hmay => ⟨_, exec_keyOpRead_of hturn, State.readReg_keyOpRd hup hmay⟩
  case ready =>
    intro failed s h
    rw [exec_unsealDone_of h]
    refine ⟨fun hdec hwf hstate => ⟨_, congrArg _ (if_pos hdec), State.unseal_ready hwf hstate⟩, fun hnot => congrArg _ ?_,
      exec_zeroizeMetadataDone_of h⟩
    by_cases hdec : s.decided = true
    · exact (if_pos hdec).trans (State.unseal_other (hnot.resolve_left fun hoff => Bool.false_ne_true (hoff.symm.trans hdec)))
    · exact if_neg hdec

end Sys2Proof.Machine
end

section
/-! PROOFS. The debug transport under the debug states (R431, R432, R434). -/

namespace Sys2Proof.Machine

open Sys2Proof Reg

section Transport

variable {s : State}

/-- With debug CLOSED no folio is open. -/
theorem State.debugFolio_closed (h : s.debugCode = 0) (f : Nat) : s.debugFolio f = false := by
  rw [State.debugFolio, h]
  rfl

variable (hup : s.fabricUp = true)
include hup

theorem State.debugAccess_writeMemory {f : Fin 32} {a : BitVec 64} {bs : List Byte} {d : Nat}
    (hwin : s.window f.val a.toNat bs.length true = some d) (hopen : s.debugFolio f.val = true) :
    s.debugAccess (.writeMemory f a bs) = s.dramWrite d bs := by
  rw [State.debugAccess, State.live_of_up hup]
  simp only [hwin, hopen, if_true]

theorem State.debugAccess_readMemory {f : Fin 32} {a : BitVec 64} {n : Fin 9} {d : Nat}
    (hwin : s.window f.val a.toNat n.val false = some d) (hopen : s.debugFolio f.val = true) :
    s.debugAccess (.readMemory f a n) = { s with lastRead := s.dramGet d n.val } := by
  rw [State.debugAccess, State.live_of_up hup]
  simp only [hwin, hopen, if_true]

/-- A folio that is not open keeps its memory, window or not. -/
theorem State.debugAccess_writeMemory_refused {f : Fin 32} (a : BitVec 64) (bs : List Byte) (hshut : s.debugFolio f.val = false) :
    s.debugAccess (.writeMemory f a bs) = s.debugRefused := by
  rw [State.debugAccess, State.live_of_up hup]
  cases hwin : s.window f.val a.toNat bs.length true <;> simp only [hwin, hshut, Bool.false_eq_true, if_false]

theorem State.debugAccess_context_refused {f : Fin 32} (hshut : s.debugFolio f.val = false) :
    s.debugAccess (.context f) = s.debugRefused := by
  rw [State.debugAccess, State.live_of_up hup]
  exact if_neg (Bool.eq_false_iff.mp hshut)

theorem State.debugAccess_closed (h : s.debugCode = 0) :
    s.debugAccess .trace = s.debugRefused ∧ s.debugAccess .kernel = s.debugRefused ∧ s.debugAccess .scan = s.debugRefused := by
  simp only [State.debugAccess, State.live_of_up hup, h]
  exact ⟨rfl, rfl, rfl⟩

/-- KERNEL and FULL write every register that is not host only and not of the token. -/
theorem State.debugAccess_writeReg {o : BitVec 24} (v : BitVec 32) (hmapped : mapped o.toNat = true)
    (htoken : ¬ (0x130034 ≤ o.toNat ∧ o.toNat ≤ 0x13003C)) (hcode : 3 ≤ s.debugCode) (hmask : hostMask o.toNat = 0) :
    s.debugAccess (.writeReg o v) = s.busWrite .debug o.toNat v.toNat := by
  simp only [State.debugAccess, State.writeReg, State.live_of_up hup, hmapped, if_true, if_neg htoken, if_neg (Nat.not_lt_of_le hcode),
    hmask]

end Transport

/-! ## O10 -/

/-- Settles O10, access by access of the debug transport. -/
theorem debugAccessesFollowTheDebugState : Obligations.DebugAccessesFollowTheDebugState := by
  unfold Obligations.DebugAccessesFollowTheDebugState
  refine ⟨?write, ?read, ?register, ?shut, ?closed⟩
  case write => exact fun f a bs s d hup hwin hopen => congrArg Host.Outcome.next (State.debugAccess_writeMemory hup hwin hopen)
  case read => exact fun f a n s d hup hwin hopen => congrArg Host.Outcome.next (State.debugAccess_readMemory hup hwin hopen)
  case register =>
    exact fun o v s hup hmapped htoken hcode hmask =>
      congrArg Host.Outcome.next (State.debugAccess_writeReg hup v hmapped htoken hcode hmask)
  case shut =>
    exact fun f a bs s hup hshut => ⟨congrArg Host.Outcome.next (State.debugAccess_writeMemory_refused hup a bs hshut),
      congrArg Host.Outcome.next (State.debugAccess_context_refused hup hshut)⟩
  case closed =>
    intro s hup hcode
    obtain ⟨htrace, hkernel, hscan⟩ := State.debugAccess_closed hup hcode
    exact ⟨congrArg Host.Outcome.next htrace, congrArg Host.Outcome.next hkernel, congrArg Host.Outcome.next hscan,
      State.debugFolio_closed hcode⟩

end Sys2Proof.Machine
end

section
/-! PROOFS. Challenges and tokens: the token buffer, the order of the checks, what an accepted token does, and the burnt transition
record (R420, R421, R432, R435, R436, R443, R445). -/

namespace Sys2Proof.Machine

open Sys2Proof Reg

/-! ## Rows -/

/-- An agent submits token bytes now: it may write the register, or it is the debug transport, which may in every debug state. -/
abbrev State.AdmitsToken (s : State) (who : Agent) (o : Nat) : Prop := s.Admits who o false ∨ who = .debug ∧ s.fabricUp = true

/-- The state in which the write of a token register acts. -/
def State.tokenIn (s : State) (who : Agent) : State := if who = .debug then s else s.mbCount who

section TokenRows

variable {s : State} {who : Agent}

theorem State.admitToken_of {o : Nat} (h : s.AdmitsToken who o) (c : Instr) (f : State → State) :
    s.admitToken c who o f = f (s.tokenIn who) := by
  cases who with
  | debug => exact State.live_of_up (h.elim And.left And.right) f
  | folio n => exact State.allow_of (h.resolve_right fun hdbg => Agent.noConfusion hdbg.1) c f
  | kernel p => exact State.allow_of (h.resolve_right fun hdbg => Agent.noConfusion hdbg.1) c f
  | mgmt => exact State.allow_of (h.resolve_right fun hdbg => Agent.noConfusion hdbg.1) c f

theorem exec_challengeNew_of (h : s.Admits who 0x130030 false) : exec (.challengeNew who) s = .next (s.mbCount who).challengeNew :=
  congrArg Host.Outcome.next (State.allow_of h _ _)

theorem exec_challengeExpire_of (h : s.fabricUp = true) : exec .challengeExpire s =
    .next (if (s.on LCS_CHALLENGE_CTRL_LIVE && decide (s.lcs.drawnAt + 600000000000 ≤ s.now)) = true then s.challengeVoid else s) :=
  congrArg Host.Outcome.next (State.live_of_up h _)

theorem exec_tokenWrite_of (h : s.AdmitsToken who 0x130038) (v : BitVec 32) :
    exec (.tokenWrite who v) s = .next ((s.tokenIn who).tokenWrite v.toNat) :=
  congrArg Host.Outcome.next (State.admitToken_of h _ _)

theorem exec_tokenSubmit_of (h : s.AdmitsToken who 0x13003C) :
    exec (.tokenDebug who) s = .next ((s.tokenIn who).tokenSubmit 1) ∧
    exec (.tokenLifecycle who) s = .next ((s.tokenIn who).tokenSubmit 2) ∧
    exec (.tokenClearLog who) s = .next ((s.tokenIn who).tokenSubmit 3) :=
  ⟨congrArg Host.Outcome.next (State.admitToken_of h _ _), congrArg Host.Outcome.next (State.admitToken_of h _ _),
    congrArg Host.Outcome.next (State.admitToken_of h _ _)⟩

theorem exec_tokenCheckDone_of (h : s.Runs 16) : exec .tokenCheckDone s = .next s.tokenDone :=
  congrArg Host.Outcome.next (State.liveU_of_runs h _)

theorem exec_lifecycleBurnDone_of (h : s.fabricUp = true) : exec .lifecycleBurnDone s = .next s.burnDone :=
  congrArg Host.Outcome.next (State.live_of_up h _)

end TokenRows

/-! ## The buffer and GO (R435, R436) -/

section Submit

variable {s : State}

theorem State.tokenWrite_room {v : Nat} (h : s.lcs.tokOff < 40960) :
    s.tokenWrite v = s.onLcs (fun l => { l with
      tokBuf := patch (l.tokBuf ++ List.replicate (l.tokOff - l.tokBuf.length) 0#8) l.tokOff (beBytes 4 v), tokOff := l.tokOff + 4 }) :=
  if_pos h

theorem State.tokenWrite_full {v : Nat} (h : 40960 ≤ s.lcs.tokOff) : s.tokenWrite v = s := if_neg (Nat.not_lt_of_le h)

theorem State.tokenGo_busy (h : s.on LCS_TOKEN_STATUS_BUSY = true ∨ s.lcs.burn.isSome = true) :
    s.tokenGo = s.answer LCS_TOKEN_STATUS_DONE LCS_TOKEN_STATUS_RESULT 12 := if_pos (Bool.or_eq_true_iff.mpr h)

theorem State.tokenGo_starts (hidle : s.on LCS_TOKEN_STATUS_BUSY = false) (hburn : s.lcs.burn = none) :
    let bs := s.tokenBytes
    let v := if (tokenFormat bs && tokenDevice bs) = true then s.wr LCS_CHALLENGE_CTRL_LIVE 0 else s
    s.tokenGo = (v.onLcs (fun l => { l with job := some {
      bytes := bs, challengeOk := s.on LCS_CHALLENGE_CTRL_LIVE && decide (slice bs 0x20 32 = s.challenge) } })).begin
      LCS_TOKEN_STATUS_BUSY :=
  if_neg (by rw [hidle, hburn]; exact Bool.false_ne_true)

end Submit

/-! ## The checks (R436) and their effect (R421, R432, R443) -/

section Check

variable {s : State} {j : TokJob}

theorem State.tokenDone_none (h : s.lcs.job = none) : s.tokenDone = s := by
  simp only [State.tokenDone, h]

/-- The end of a check accepts the token with result 0 and refuses it with any other. -/
theorem State.tokenDone_some (h : s.lcs.job = some j) :
    s.tokenDone = if (s.tokenCheck j).1 = 0 then (s.tokenCheck j).2.tokenAccept j.bytes
      else (s.tokenCheck j).2.tokenRefuse j.bytes (s.tokenCheck j).1 := by
  simp only [State.tokenDone, h]
  rcases s.tokenCheck j with ⟨_ | r, t⟩ <;> rfl

theorem State.tokenCheck_format (h : tokenFormat j.bytes = false) : s.tokenCheck j = (1, s) := if_pos h

theorem State.tokenCheck_rest (h : tokenFormat j.bytes = true) : s.tokenCheck j =
    if tokenDevice j.bytes = false then (2, s)
    else if j.challengeOk = false then (3, s)
    else if s.tokenSigner j.bytes = false then (4, s)
    else if hssPubOk (s.tokenKey j.bytes) = false ∨ Config.hssLevelsOk (s.tokenKey j.bytes) (j.bytes.drop 0xC4) = false then (5, s)
    else s.tokenSigned j.bytes := if_neg (by rw [h]; decide)

end Check

/-- An accepted token has raised its issuer's counter. -/
def State.tokenCounted (s : State) (bs : List Byte) : State := (s.tokenEnd 0).wr (tokCounter (tokField bs 7 1)) (tokField bs 0x18 8)

section Accept

variable {s : State} {bs : List Byte}

theorem State.tokenAccept_debug (h : tokField bs 6 1 = 1) : s.tokenAccept bs =
    (s.tokenCounted bs).debugOpen (tokField bs 0x42 1) {
      issuer := tokField bs 7 1, counter := tokField bs 0x18 8, mask := tokField bs 0x48 4, secs := tokField bs 0x44 4,
      ends := (s.tokenCounted bs).now + tokField bs 0x44 4 * 1000000000 } := by
  simp only [State.tokenAccept, h]
  rfl

theorem State.tokenAccept_lifecycle (h : tokField bs 6 1 = 2) : s.tokenAccept bs =
    (s.tokenCounted bs).onLcs (fun l => { l with burn := some (tokField bs 0x42 1, tokField bs 7 1, tokField bs 0x18 8) }) := by
  simp only [State.tokenAccept, h]
  rfl

theorem State.tokenAccept_clearLog (h : tokField bs 6 1 = 3) : s.tokenAccept bs =
    ((s.tokenCounted bs).onLcs (fun l => { l with log := [] })).lifecycleEvent 5 (s.tokenCounted bs).lifecycle
      (s.tokenCounted bs).lifecycle 0 (tokField bs 7 1) (tokField bs 0x18 8) 0 0 := by
  simp only [State.tokenAccept, h]
  rfl

end Accept

section Burn

variable {s : State}

theorem State.burnDone_none (h : s.lcs.burn = none) : s.burnDone = s := by
  simp only [State.burnDone, h]

/-- Class Z is zeroized before the lifecycle moves to a target that asks for it (R420). -/
def State.burnZeroized (s : State) (target : Nat) : State :=
  let a := s.onLcs (fun l => { l with burn := none })
  if transitionZeroizes s.lifecycle target = true then (a.zeroize false).svOrphans else a

theorem State.burnDone_some {target issuer counter : Nat} (h : s.lcs.burn = some (target, issuer, counter)) :
    let b := s.burnZeroized target
    let c := ((b.wr LCS_STATUS_LIFECYCLE target).wr LCS_STATUS_TRANSITIONS_LEFT (b.rd LCS_STATUS_TRANSITIONS_LEFT - 1)).flag
      LCS_TROUBLE_LIFECYCLE_CHANGED
    s.burnDone = (c.debugClose (if target = 1 then 4 else 0) 6).lifecycleEvent 1 s.lifecycle target 0 issuer counter 0 0 := by
  simp only [State.burnDone, h, State.burnZeroized, debugDefault]

end Burn

/-! ## O53 -/

/-- Settles O53, row by row: the draw, the buffer, GO, the checks in their order, and the effect of the token and of its burn. -/
theorem tokensAreCheckedInOrder : Obligations.TokensAreCheckedInOrder := by
  unfold Obligations.TokensAreCheckedInOrder
  refine ⟨?draw, ?expire, ?write, ?submit, ?check, ?idle, ?accept, ?burn⟩
  case draw => exact fun who s h => exec_challengeNew_of h
  case expire =>
    intro s h
    rw [exec_challengeExpire_of h]
    refine ⟨fun hlive hpast => congrArg _ (if_pos ?_), fun hnot => congrArg _ (if_neg ?_)⟩
    · rw [Bool.and_eq_true, decide_eq_true_eq]
      exact ⟨hlive, hpast⟩
    · rw [Bool.and_eq_true, decide_eq_true_eq]
      rintro ⟨hlive, hpast⟩
      exact hnot.elim (fun hoff => Bool.false_ne_true (hoff.symm.trans hlive)) (Nat.not_lt_of_le hpast)
  case write =>
    intro who v s h
    rw [exec_tokenWrite_of h]
    exact ⟨fun hroom => congrArg _ (State.tokenWrite_room hroom), fun hfull => congrArg _ (State.tokenWrite_full hfull)⟩
  case submit =>
    intro who s h
    exact ⟨exec_tokenSubmit_of h, State.tokenGo_busy, State.tokenGo_starts⟩
  case check =>
    intro s j h hjob
    rw [exec_tokenCheckDone_of h]
    exact ⟨congrArg _ (State.tokenDone_some hjob), State.tokenCheck_format, State.tokenCheck_rest⟩
  case idle =>
    intro s h hnone
    rw [exec_tokenCheckDone_of h, State.tokenDone_none hnone]
  case accept => exact fun s bs => ⟨State.tokenAccept_debug, State.tokenAccept_lifecycle, State.tokenAccept_clearLog⟩
  case burn =>
    intro s h
    rw [exec_lifecycleBurnDone_of h]
    exact ⟨fun hnone => congrArg _ (State.burnDone_none hnone),
      fun target issuer counter hburn => congrArg _ (State.burnDone_some hburn)⟩

end Sys2Proof.Machine
end

section
/-! PROOFS. Debug sessions that close, tamper events with their matrix, log and response, and TAMPER_N (R433, R437, R439-R444). -/

namespace Sys2Proof.Machine

open Sys2Proof Reg

/-! ## Rows -/

theorem exec_debugClose_of {s : State} {who : Agent} (h : s.Admits who 0x130048 true) :
    exec (.debugClose who) s = .next ((s.mbCount who).sessionClose 2) := congrArg Host.Outcome.next (State.allow_of h _ _)

theorem exec_sessionExpire_of {s : State} (h : s.fabricUp = true) : exec .sessionExpire s =
    .next (if s.lcs.session.any (fun x => decide (x.ends ≤ s.now)) = true then s.sessionClose 1 else s) :=
  congrArg Host.Outcome.next (State.live_of_up h _)

theorem exec_tamperRelease_of {s : State} {who : Agent} (h : s.Admits who 0x130054 true) :
    exec (.tamperRelease who) s = .next (s.mbCount who).releaseWrite := congrArg Host.Outcome.next (State.allow_of h _ _)

/-! ## Sessions (R433) -/

section Session

variable {s : State} {cause : Nat}

theorem State.sessionClose_none (h : s.lcs.session = none) : s.sessionClose cause = s := by
  simp only [State.sessionClose, h, Option.isSome_none, Bool.false_eq_true, if_false]

theorem State.sessionClose_open (h : s.lcs.session.isSome = true) :
    s.sessionClose cause = s.debugClose (if s.lifecycle = 1 then 4 else 0) cause := if_pos h

end Session

/-! ## Tamper events (R437-R443) -/

/-- The conditions of a tamper event whose sensors are armed. -/
def State.tamperHits (s : State) (sensors : Nat) : List Nat := (List.range 6).filter (fun c => bitAt sensors c && s.armed c)

section Tamper

variable {s : State} {sensors : Nat}

theorem State.tamper_unarmed (h : (s.wr LCS_STATUS_SENSORS sensors).tamperHits sensors = []) :
    s.tamper sensors = s.wr LCS_STATUS_SENSORS sensors := if_pos h

/-- Only a zeroizing response in QUIET or RUN aborts an operation. -/
theorem aborted_false {resp power : Nat} (x : Bool) (h : resp < 3 ∨ power < 2) :
    (decide (3 ≤ resp) && decide (2 ≤ power) && x) = false := by
  have hlive : ¬ (3 ≤ resp ∧ 2 ≤ power) := by omega
  rw [← Bool.decide_and, decide_eq_false hlive, Bool.false_and]

/-- An armed condition stops what R438 stops, is answered by its cell, and is logged for each sensor. -/
theorem State.tamper_armed (h : (s.wr LCS_STATUS_SENSORS sensors).tamperHits sensors ≠ []) :
    let a := s.wr LCS_STATUS_SENSORS sensors
    let resp := response a.lifecycle (a.rd LCS_DEBUG_STATUS_STATE) a.power
    let now := decide (2 ≤ a.power) && decide (a.rd EVR_STATUS_STATE ≠ 0)
    let ended := a.bnd.load.isSome || decide (a.tipSt = 1 ∨ a.tipSt = 2 ∨ a.tipSt = 3)
    ∃ aborted : Bool, (resp < 3 ∨ a.power < 2 → aborted = false) ∧
      s.tamper sensors = (a.tamperHits sensors).foldl (fun t c =>
        let t := t.wr LCS_TAMPER_TOTAL (t.rd LCS_TAMPER_TOTAL + 1)
        let e := tlogEntry (t.rd LCS_TAMPER_TOTAL) c a.lifecycle (a.rd LCS_DEBUG_STATUS_STATE) a.power resp (decide (resp = 3) && a.classP)
          now (decide (a.rd KEY_STATUS_STATE = 1)) aborted (decide (3 ≤ resp) && decide (a.power < 2)) a.aonSeconds
        if now = true then (t.tlogAdd e).tamperEvent e (4 * b2n ended) else t.tlogAdd e)
        ((a.tamperStops.tamperRespond resp (decide (resp = 3) && a.classP)).flag LCS_TROUBLE_TAMPER) :=
  ⟨_, aborted_false _, if_neg h⟩

end Tamper

theorem response_eq (lc debug power : Nat) :
    (lc = 1 → response lc debug power = 1) ∧
    (lc = 2 ∨ lc = 3 → 2 ≤ power ∧ 3 ≤ debug → response lc debug power = 4) ∧
    (lc = 2 ∨ lc = 3 → ¬ (2 ≤ power ∧ 3 ≤ debug) → response lc debug power = 3) ∧
    (lc = 0 ∨ 3 < lc → response lc debug power = 2) := by
  refine ⟨?manufacture, ?exposed, ?guarded, ?other⟩
  case manufacture =>
    rintro rfl
    rfl
  case exposed =>
    rintro (rfl | rfl) h
    · exact if_pos h
    · exact if_pos h
  case guarded =>
    rintro (rfl | rfl) h
    · exact if_neg h
    · exact if_neg h
  case other =>
    intro h
    rw [response]
    · rintro rfl; omega
    · rintro rfl; omega
    · rintro rfl; omega

section Respond

variable {s : State} {resp : Nat} {classP : Bool}

/-- TAMPER_N is driven, and its hold starts. -/
def State.tamperDriven (s : State) : State :=
  (s.wr LCS_STATUS_TAMPER_N_DRIVEN 1).onLcs (fun l => { l with
    holdEnd := some (s.now + s.rdOr LCS_TAMPER_POLICY_TAMPER_HOLD_MS 10 * 1000000), releaseAsked := false })

theorem State.tamperRespond_log (h : resp < 2) : s.tamperRespond resp classP = s := by
  simp only [State.tamperRespond, if_neg (Nat.not_le_of_lt h), if_pos (Nat.lt_succ_of_lt h)]

theorem State.tamperRespond_notify (h : resp = 2) : s.tamperRespond resp classP = s.tamperDriven := by
  subst h
  rfl

theorem State.tamperRespond_zeroize (h : 3 ≤ resp) : s.tamperRespond resp classP =
    (if 2 ≤ (s.tamperDriven.debugClose 0 5).power then (s.tamperDriven.debugClose 0 5).tamperZeroize classP
      else (s.tamperDriven.debugClose 0 5).wr KEY_STATUS_PENDING_ZEROIZE 1) := by
  simp only [State.tamperRespond, if_pos (Nat.le_of_succ_le h), if_neg (Nat.not_lt_of_le h)]
  rfl

end Respond

/-! ## TAMPER_N (R441) -/

section Hold

variable {s : State} {t : Nat}

theorem State.releaseWrite_idle (h : s.on LCS_STATUS_TAMPER_N_DRIVEN = false) : s.releaseWrite = s := if_pos h

theorem State.releaseWrite_unheld (hdriven : s.on LCS_STATUS_TAMPER_N_DRIVEN = true) (h : s.lcs.holdEnd = none) :
    s.releaseWrite = s.tamperRelease := by
  simp only [State.releaseWrite, hdriven, h, Option.isNone_none, Bool.true_eq_false, Bool.true_or, if_true, if_false]

theorem State.releaseWrite_held (hdriven : s.on LCS_STATUS_TAMPER_N_DRIVEN = true) (h : s.lcs.holdEnd = some t) :
    s.releaseWrite = if t ≤ s.now then s.tamperRelease else s.onLcs (fun l => { l with releaseAsked := true }) := by
  simp only [State.releaseWrite, hdriven, h, State.due, Option.isNone_some, Bool.true_eq_false, Bool.false_or, if_false,
    decide_eq_true_eq]

theorem State.tamperHoldExpire_none (h : s.lcs.holdEnd = none) : s.tamperHoldExpire = s := by
  simp only [State.tamperHoldExpire, h, State.due, Bool.false_eq_true, if_false]

variable (h : s.lcs.holdEnd = some t)
include h

theorem State.tamperHoldExpire_early (hearly : s.now < t) : s.tamperHoldExpire = s := by
  simp only [State.tamperHoldExpire, h, State.due, decide_eq_true_eq, if_neg (Nat.not_le_of_lt hearly)]

theorem State.tamperHoldExpire_kept (hpast : t ≤ s.now) (hask : s.lcs.releaseAsked = false) :
    s.tamperHoldExpire = s.onLcs (fun l => { l with holdEnd := none }) := by
  simp only [State.tamperHoldExpire, h, State.due, decide_eq_true_eq, if_pos hpast, hask, Bool.false_eq_true, if_false]

theorem State.tamperHoldExpire_released (hpast : t ≤ s.now) (hask : s.lcs.releaseAsked = true) :
    s.tamperHoldExpire = s.tamperRelease := by
  simp only [State.tamperHoldExpire, h, State.due, decide_eq_true_eq, if_pos hpast, hask, if_true]

end Hold

/-! ## O54 -/

/-- Settles O54, row by row: the close of a session, the tamper event with its matrix and response, and the hold of TAMPER_N. -/
theorem debugSessionsAndTamperResponses : Obligations.DebugSessionsAndTamperResponses := by
  unfold Obligations.DebugSessionsAndTamperResponses
  refine ⟨?close, ?expire, ?tamper, response_eq, ?respond, ?release, ?hold⟩
  case close =>
    intro who s h
    rw [exec_debugClose_of h]
    exact ⟨fun hopen => congrArg _ (State.sessionClose_open hopen), fun hnone => congrArg _ (State.sessionClose_none hnone)⟩
  case expire =>
    intro s d h hd
    rw [exec_sessionExpire_of h, hd, Option.any_some]
    exact ⟨fun hpast => congrArg _ ((if_pos (decide_eq_true hpast)).trans (State.sessionClose_open (by rw [hd]; rfl))),
      fun hearly => congrArg _ (if_neg fun hle => Nat.not_le_of_lt hearly (of_decide_eq_true hle))⟩
  case tamper =>
    intro sensors s
    refine ⟨fun hnone => congrArg Host.Outcome.next (State.tamper_unarmed hnone), fun hsome => ?_⟩
    obtain ⟨aborted, hfalse, heq⟩ := State.tamper_armed hsome
    exact ⟨aborted, hfalse, congrArg Host.Outcome.next heq⟩
  case respond =>
    exact fun s resp classP => ⟨State.tamperRespond_log, State.tamperRespond_notify, State.tamperRespond_zeroize⟩
  case release =>
    intro who s h
    rw [exec_tamperRelease_of h]
    exact ⟨fun hidle => congrArg _ (State.releaseWrite_idle hidle), fun hdriven =>
      ⟨fun hnone => congrArg _ (State.releaseWrite_unheld hdriven hnone),
        fun t ht => congrArg _ (State.releaseWrite_held hdriven ht)⟩⟩
  case hold =>
    exact fun s => ⟨fun hnone => congrArg Host.Outcome.next (State.tamperHoldExpire_none hnone), fun t ht =>
      ⟨fun hearly => congrArg Host.Outcome.next (State.tamperHoldExpire_early ht hearly),
        fun hpast hask => congrArg Host.Outcome.next (State.tamperHoldExpire_kept ht hpast hask),
        fun hpast hask => congrArg Host.Outcome.next (State.tamperHoldExpire_released ht hpast hask)⟩⟩

end Sys2Proof.Machine
end

section
/-! PROOFS. Power commands, the entry to STANDBY and OFF, PWR_EN, and clock units (R422, R423, R425, R426, R428-R430). -/

namespace Sys2Proof.Machine

open Sys2Proof Reg

/-! ## Rows -/

section PowerRows

variable {s : State} {who : Agent} (h : s.Admits who 0x40 true)
include h

theorem exec_pwrRun_of : exec (.pwrRun who) s = .next (s.mbCount who).pwrRun := congrArg Host.Outcome.next (State.allow_of h _ _)

theorem exec_pwrQuiet_of : exec (.pwrQuiet who) s = .next (s.mbCount who).pwrQuiet := congrArg Host.Outcome.next (State.allow_of h _ _)

theorem exec_pwrStandby_of : exec (.pwrStandby who) s = .next ((s.mbCount who).pwrDown 1) :=
  congrArg Host.Outcome.next (State.allow_of h _ _)

theorem exec_pwrOff_of : exec (.pwrOff who) s = .next ((s.mbCount who).pwrDown 0) := congrArg Host.Outcome.next (State.allow_of h _ _)

end PowerRows

theorem exec_clkReqLow_of {s : State} {who : Agent} (h : s.Admits who 0x50 true) (v : BitVec 32) : exec (.clkReqWrite who false v) s =
    .next ((List.range 22).foldl (fun t x => t.clkWrite x (bitAt v.toNat x)) (s.mbCount who)) :=
  congrArg Host.Outcome.next (State.allow_of h _ _)

theorem exec_clkReqHigh_of {s : State} {who : Agent} (h : s.Admits who 0x54 true) (v : BitVec 32) : exec (.clkReqWrite who true v) s =
    .next ((List.range 16).foldl (fun t b => t.clkWrite (32 + b) (bitAt v.toNat b)) (s.mbCount who)) :=
  congrArg Host.Outcome.next (State.allow_of h _ _)

theorem exec_clockUnitRunning_of {s : State} (h : s.fabricUp = true) (x : Fin 48) : exec (.clockUnitRunning x) s =
    .next (if bitAt (s.rd SYS_CLK_REQ) x.val = true then s.wrBit SYS_CLK_RUN 0 x.val true else s) :=
  congrArg Host.Outcome.next (State.live_of_up h _)

/-! ## RUN and QUIET (R423) -/

/-- The state in which a power command with a target is judged. -/
abbrev State.pwrAsked (s : State) (k : Nat) : State := s.wr SYS_PWR_CMD_TARGET k

/-- A clock unit that RUN requires does not run. -/
def State.clocksMissing (s : State) : Bool := (List.range 48).any (fun x => s.unitForRun x && !s.clk x)

theorem State.clocksMissing_iff (s : State) : s.clocksMissing = true ↔ ∃ x < 48, s.unitForRun x = true ∧ s.clk x = false := by
  simp only [State.clocksMissing, List.any_eq_true, List.mem_range, Bool.and_eq_true, Bool.not_eq_true']

theorem State.clocksMissing_eq_false {s : State} (h : ∀ x < 48, s.unitForRun x = true → s.clk x = true) : s.clocksMissing = false := by
  rw [← Bool.not_eq_true, State.clocksMissing_iff]
  rintro ⟨x, hx, hreq, hstill⟩
  exact Bool.false_ne_true (hstill.symm.trans (h x hx hreq))

theorem State.roleHeld_iff (s : State) : s.roleHeld = true ↔ (s.role = 3 ∨ s.role = 4) ∧ s.hbFresh = true := by
  rw [State.roleHeld, Bool.and_eq_true, decide_eq_true_eq]

section Run

variable {s : State}

theorem State.pwrRun_busy (h : (s.pwrAsked 3).on SYS_PWR_STATUS_BUSY = true) : s.pwrRun = (s.pwrAsked 3).pwrAnswer 4 := if_pos h

/-- RUN with no change of power state in progress: the causes of R423 in their order. -/
theorem State.pwrRun_judged (h : (s.pwrAsked 3).on SYS_PWR_STATUS_BUSY = false) :
    s.pwrRun =
      if (s.pwrAsked 3).power = 3 then (s.pwrAsked 3).pwrAnswer 0
      else if (s.pwrAsked 3).loaded = false ∨ (s.pwrAsked 3).on BST_STATUS_SAFE = true then (s.pwrAsked 3).pwrAnswer 1
      else if (s.pwrAsked 3).lifecycle = 5 then (s.pwrAsked 3).pwrAnswer 3
      else if (s.pwrAsked 3).clocksMissing = true then (s.pwrAsked 3).pwrAnswer 5
      else if (s.pwrAsked 3).on SYS_SUPPLY_STATUS_VWARN = true then (s.pwrAsked 3).pwrAnswer 6
      else ((s.pwrAsked 3).setPower 3).pwrAnswer 0 :=
  if_neg (Bool.eq_false_iff.mp h)

theorem State.pwrQuiet_busy (h : (s.pwrAsked 2).on SYS_PWR_STATUS_BUSY = true) : s.pwrQuiet = (s.pwrAsked 2).pwrAnswer 4 := if_pos h

theorem State.pwrQuiet_judged (h : (s.pwrAsked 2).on SYS_PWR_STATUS_BUSY = false) :
    s.pwrQuiet =
      if (s.pwrAsked 2).power = 2 then (s.pwrAsked 2).pwrAnswer 0
      else if (s.pwrAsked 2).roleHeld = true then (s.pwrAsked 2).pwrAnswer 2
      else ((s.pwrAsked 2).setPower 2).pwrAnswer 0 :=
  if_neg (Bool.eq_false_iff.mp h)

end Run

/-! ## STANDBY and OFF (R425, R426) -/

section Down

variable {s : State} {k : Nat}

theorem State.storesBusy_iff (s : State) : s.storesBusy = true ↔
    s.lcs.burn.isSome = true ∨ s.bnd.store.isSome = true ∨ s.key.job.any (fun j => decide (j.op = 1 ∨ j.op = 5)) = true := by
  rw [State.storesBusy, Bool.or_eq_true, Bool.or_eq_true, or_assoc]

theorem State.pwrDown_eq (s : State) (k : Nat) : s.pwrDown k =
    if (s.pwrAsked k).on SYS_PWR_STATUS_BUSY = true ∨ (s.pwrAsked k).power ≠ 2 ∨ (s.pwrAsked k).storesBusy = true then
      (s.pwrAsked k).pwrAnswer 4
    else (s.pwrAsked k).downStart k :=
  if_congr (by simp only [Bool.or_eq_true, decide_eq_true_eq, or_assoc]) rfl rfl

theorem State.pwrDown_busy (h : (s.pwrAsked k).on SYS_PWR_STATUS_BUSY = true ∨ (s.pwrAsked k).power ≠ 2 ∨
    (s.pwrAsked k).lcs.burn.isSome = true ∨ (s.pwrAsked k).bnd.store.isSome = true ∨
    (s.pwrAsked k).key.job.any (fun j => decide (j.op = 1 ∨ j.op = 5)) = true) : s.pwrDown k = (s.pwrAsked k).pwrAnswer 4 := by
  rw [State.pwrDown_eq, if_pos]
  rwa [State.storesBusy_iff]

theorem State.pwrDown_starts (hidle : (s.pwrAsked k).on SYS_PWR_STATUS_BUSY = false) (hquiet : (s.pwrAsked k).power = 2)
    (hburn : (s.pwrAsked k).lcs.burn = none) (hstore : (s.pwrAsked k).bnd.store = none)
    (hjob : (s.pwrAsked k).key.job.any (fun j => decide (j.op = 1 ∨ j.op = 5)) = false) :
    s.pwrDown k = (s.pwrAsked k).downStart k := by
  have hstores : ¬ (s.pwrAsked k).storesBusy = true := by
    rw [State.storesBusy_iff, hburn, hstore, hjob]
    decide
  rw [State.pwrDown_eq, if_neg]
  rintro (hbusy | hpower | hbusy)
  · exact Bool.false_ne_true (hidle.symm.trans hbusy)
  · exact hpower hquiet
  · exact hstores hbusy

theorem State.drained_iff (s : State) :
    s.drained = true ↔ s.evrIdle = true ∧ ∀ q : Nat, s.sys.writing = some q → ∀ g ∈ s.gth.open_, g.seq ≠ q := by
  cases h : s.sys.writing with
  | none => simp only [State.drained, h, Bool.and_true, reduceCtorEq, false_implies, implies_true, and_true]
  | some q => simp only [State.drained, h, Bool.and_eq_true, List.all_eq_true, decide_eq_true_eq, Option.some.injEq, forall_eq']

theorem State.downDone_none (h : s.sys.down = none) : s.downDone = s := by
  simp only [State.downDone, h]

/-- Retention is taken and the main rails are switched off. -/
def State.downTaken (s : State) (target : Nat) : State :=
  let a := s.keyCommitCounts
  let b := a.wrB LCS_TAMPER_AON_CLASS_AON (a.on LCS_TAMPER_POLICY_CLASS)
  let c := (b.finish SYS_PWR_STATUS_BUSY SYS_PWR_STATUS_DONE SYS_PWR_STATUS_RESULT 0).wr SYS_CLK_RUN 0
  (c.wr SYS_PWR_STATUS_STATE target).onSys (fun y => { y with down := none, writing := none, boot := 0 })

/-- Once drained, or at the limit, the power-down takes effect. -/
theorem State.downDone_some {target limit : Nat} (h : s.sys.down = some (target, limit)) :
    s.downDone = if s.drained = true ∨ limit ≤ s.now then s.downTaken target else s := by
  simp only [State.downDone, h, Bool.or_eq_true, decide_eq_true_eq]
  rfl

/-- The state of SLEEP_MODE: 0 OFF, 1 STANDBY. -/
def State.sleepTarget (s : State) : Nat := if s.on SYS_PWR_AON_SLEEP_MODE = true then 0 else 1

section PwrEn

variable {a : State}

theorem State.pwrEnLow_ignored (ha : s.wr SYS_PWR_AON_PWR_EN 0 = a)
    (h : a.power < 2 ∨ a.sys.boot = 0 ∨ a.sys.down.isSome = true) : s.pwrEnLow = a := by
  simp only [State.pwrEnLow, ha, if_pos h]

variable (ha : s.wr SYS_PWR_AON_PWR_EN 0 = a) (hboot : a.sys.boot ≠ 0) (hdown : a.sys.down = none)
include ha hboot hdown

theorem State.pwrEnLow_quiet (hpower : a.power = 2) : s.pwrEnLow = a.downStart a.sleepTarget := by
  have hstart : ¬ (a.power < 2 ∨ a.sys.boot = 0 ∨ a.sys.down.isSome = true) := by
    rw [hpower, hdown]
    simpa using hboot
  have hrun : ¬ a.power = 3 := by omega
  simp only [State.pwrEnLow, ha, if_neg hstart, if_neg hrun, State.sleepTarget]

theorem State.pwrEnLow_run (hpower : a.power = 3) :
    let b := (if a.role = 0 then a.stopActing else a.withdraw 12).setPower 2
    s.pwrEnLow = b.downStart b.sleepTarget := by
  have hstart : ¬ (a.power < 2 ∨ a.sys.boot = 0 ∨ a.sys.down.isSome = true) := by
    rw [hpower, hdown]
    simpa using hboot
  simp only [State.pwrEnLow, ha, if_neg hstart, if_pos hpower, State.sleepTarget]

end PwrEn

end Down

/-! ## Clock units (R429) -/

section Clock

variable {s : State} {x : Nat}

theorem State.clkWrite_gated (h : bitAt (s.rd SYS_CLK_REQ) x = false) : s.clkWrite x false = s := by
  rw [State.clkWrite, if_neg Bool.false_ne_true, if_pos h]

variable (h : bitAt (s.rd SYS_CLK_REQ) x = true)
include h

theorem State.clkWrite_refused (huse : s.unitInUse x = true) : s.clkWrite x false =
    (((s.wrBit SYS_CLK_REFUSED 0 x true).noteSet (SYS_CLK_REFUSED.key 0 0) (2 ^ x)).flag SYS_PWR_STATUS_CLK_REFUSED).flag
      SYS_TROUBLE_CLK_REFUSED := by
  rw [State.clkWrite, if_neg Bool.false_ne_true, if_neg (by rw [h]; decide), if_pos huse]

theorem State.clkWrite_gates (huse : s.unitInUse x = false) :
    s.clkWrite x false = (s.wrBit SYS_CLK_REQ 0 x false).wrBit SYS_CLK_RUN 0 x false := by
  rw [State.clkWrite, if_neg Bool.false_ne_true, if_neg (by rw [h]; decide), if_neg (Bool.eq_false_iff.mp huse)]

end Clock

/-! ## O55 -/

/-- Settles O55: the causes of each power command in their order, the power-down, PWR_EN, and the requests of clock units. -/
theorem powerCommandsMoveOrAreRefused : Obligations.PowerCommandsMoveOrAreRefused := by
  unfold Obligations.PowerCommandsMoveOrAreRefused
  refine ⟨?command, ?start, ?down, ?request, ?unit, fun x s h => exec_clockUnitRunning_of h x⟩
  case command =>
    intro who s h u ans
    refine ⟨?run, ?quiet, ?go, ?each⟩
    case run =>
      rw [exec_pwrRun_of h]
      refine ⟨fun hbusy => congrArg _ (State.pwrRun_busy hbusy), fun hidle => ?_⟩
      rw [State.pwrRun_judged hidle]
      refine ⟨fun hrun => congrArg _ (if_pos hrun), fun hnotRun => ?_⟩
      rw [if_neg hnotRun]
      refine ⟨fun hbar => congrArg _ (if_pos hbar), fun hloaded hsafe => ?_⟩
      rw [if_neg (by rintro (hno | hyes); exacts [Bool.false_ne_true (hno.symm.trans hloaded), Bool.false_ne_true (hsafe.symm.trans hyes)])]
      refine ⟨fun hlc => congrArg _ (if_pos hlc), fun hlc => ?_⟩
      rw [if_neg hlc]
      refine ⟨fun hmissing => congrArg _ (if_pos ((State.clocksMissing_iff _).mpr hmissing)), fun hall => ?_⟩
      rw [if_neg (Bool.eq_false_iff.mp (State.clocksMissing_eq_false hall))]
      exact ⟨fun hlow => congrArg _ (if_pos hlow), fun hgood => congrArg _ (if_neg (Bool.eq_false_iff.mp hgood))⟩
    case quiet =>
      rw [exec_pwrQuiet_of h]
      refine ⟨fun hbusy => congrArg _ (State.pwrQuiet_busy hbusy), fun hidle => ?_⟩
      rw [State.pwrQuiet_judged hidle]
      refine ⟨fun hquiet => congrArg _ (if_pos hquiet),
        fun hpower hheld => congrArg _ ((if_neg hpower).trans (if_pos ((State.roleHeld_iff _).mpr hheld))),
        fun hpower hfree => congrArg _ ((if_neg hpower).trans (if_neg fun hheld => hfree ((State.roleHeld_iff _).mp hheld)))⟩
    case go =>
      rw [exec_pwrStandby_of h, exec_pwrOff_of h]
      exact ⟨congrArg _ (State.pwrDown_eq _ 1), congrArg _ (State.pwrDown_eq _ 0)⟩
    case each =>
      intro p hp a
      have hexec : exec p.1 s = .next (u.pwrDown p.2) := by
        simp only [List.mem_cons, List.not_mem_nil, or_false] at hp
        rcases hp with rfl | rfl
        · exact exec_pwrStandby_of h
        · exact exec_pwrOff_of h
      rw [hexec]
      exact ⟨fun hbusy => congrArg _ (State.pwrDown_busy hbusy), fun hidle hquiet hburn hstore hjob =>
        congrArg _ (State.pwrDown_starts hidle hquiet hburn hstore hjob)⟩
  case start => exact fun s target => ⟨rfl, s.drained_iff⟩
  case down =>
    intro s
    refine ⟨fun hnone => congrArg Host.Outcome.next (State.downDone_none hnone), fun target limit hdown => ?_, ?_, rfl⟩
    · refine ⟨fun hdrain hearly => congrArg Host.Outcome.next ((State.downDone_some hdown).trans (if_neg ?_)),
        fun hdue => congrArg Host.Outcome.next ((State.downDone_some hdown).trans (if_pos hdue))⟩
      rintro (hdrained | hpast)
      · exact Bool.false_ne_true (hdrain.symm.trans hdrained)
      · exact Nat.not_le_of_lt hearly hpast
    · exact ⟨fun hbar => congrArg Host.Outcome.next (State.pwrEnLow_ignored rfl hbar),
        fun hpower hboot hdown => congrArg Host.Outcome.next (State.pwrEnLow_quiet rfl hboot hdown hpower),
        fun hpower hboot hdown => congrArg Host.Outcome.next (State.pwrEnLow_run rfl hboot hdown hpower)⟩
  case request => exact fun who v s => ⟨fun h => exec_clkReqLow_of h v, fun h => exec_clkReqHigh_of h v⟩
  case unit => exact fun x s => ⟨rfl, State.clkWrite_gated, State.clkWrite_refused, State.clkWrite_gates⟩

end Sys2Proof.Machine
end

section
/-! PROOFS. Resets and what they keep, HOST resets, the watchdog, and start-up (R446-R451, R466). -/

namespace Sys2Proof.Machine

open Sys2Proof Reg

/-! ## Rows -/

theorem exec_hostReset_of {s : State} {who : Agent} (h : s.Admits who 0x80 true) (key : BitVec 16) :
    exec (.hostReset who key) s = .next ((s.mbCount who).hostResetCmd key.toNat) := congrArg Host.Outcome.next (State.allow_of h _ _)

theorem exec_hostResetEffect_of {s : State} (h : s.fabricUp = true) : exec .hostResetEffect s = .next s.resetEffect :=
  congrArg Host.Outcome.next (State.live_of_up h _)

theorem exec_wdogExpire_of {s : State} (h : s.fabricUp = true) : exec .wdogExpire s = .next s.wdogExpire :=
  congrArg Host.Outcome.next (State.live_of_up h _)

theorem exec_wdogKick_of {s : State} {who : Agent} (h : s.Admits who 0x94 true) :
    exec (.wdogKick who) s = .next (if isSup who = true then (s.mbCount who).wdogReload else s.mbCount who) :=
  congrArg Host.Outcome.next (State.allow_of h _ _)

/-! ## What a reset keeps (R447) -/

section Cleared

variable (s : State) (kind : Nat)

theorem State.cleared_tables : ∀ x ∈ (s.cleared kind).tables, x.active = [] ∧ x.shadow = [] := by
  intro x hx
  obtain ⟨t, -, rfl⟩ := List.mem_map.mp hx
  exact ⟨rfl, rfl⟩

theorem State.cleared_aon (h : kind ≠ 1) : (s.cleared kind).lcs.log = s.lcs.log ∧ (s.cleared kind).tim.aon = s.tim.aon := by
  simp only [State.cleared, if_neg h, and_self]

theorem State.cleared_log (h : kind = 1) : (s.cleared kind).lcs.log = [] := by
  simp only [State.cleared, if_pos h]

end Cleared

/-! ## PIN and HOST resets (R448, R449) -/

section Resets

variable {s : State}

theorem State.pinReset_off (h : s.power < 2 ∨ s.sys.boot = 0) : s.pinReset = s := if_pos h

theorem State.pinReset_on (hpower : 2 ≤ s.power) (hboot : s.sys.boot ≠ 0) : s.pinReset = s.resetTo 4 :=
  if_neg fun h => h.elim (Nat.not_lt_of_le hpower) hboot

theorem State.hostResetCmd_badKey {key : Nat} (h : key ≠ 0x4B52) :
    s.hostResetCmd key = s.answer SYS_RST_STATUS_DONE SYS_RST_STATUS_RESULT 3 := if_pos h

theorem State.hostResetCmd_keyed (s : State) : s.hostResetCmd 0x4B52 =
    if s.on SYS_RST_STATUS_BUSY = true then s.answer SYS_RST_STATUS_DONE SYS_RST_STATUS_RESULT 2
    else if s.roleHeld = true then s.answer SYS_RST_STATUS_DONE SYS_RST_STATUS_RESULT 1
    else if s.storesBusy = true then s.answer SYS_RST_STATUS_DONE SYS_RST_STATUS_RESULT 2
    else (s.keyCommitCounts.begin SYS_RST_STATUS_BUSY).onSys (fun y => { y with drain := some (5, s.now + 5000000) }) := by
  simp only [State.hostResetCmd, ne_eq, not_true_eq_false, if_false]

theorem State.resetEffect_none (h : s.sys.drain = none) : s.resetEffect = s := by
  simp only [State.resetEffect, h]

theorem State.resetEffect_some {kind limit : Nat} (h : s.sys.drain = some (kind, limit)) :
    s.resetEffect = if s.evrIdle = true ∨ limit ≤ s.now then (s.resetTo kind).bootClocks else s := by
  simp only [State.resetEffect, h]

end Resets

/-! ## The watchdog (R450) -/

section Watchdog

variable {s : State} {t : Nat}

theorem State.wdogReload_stopped (h : s.sys.wdogEnd = none) : s.wdogReload = s := by
  simp only [State.wdogReload, h]

theorem State.wdogReload_running (h : s.sys.wdogEnd = some t) :
    s.wdogReload = (s.onSys (fun e => { e with wdogEnd := some (s.now + s.rd SYS_WDOG_CFG_PERIOD_MS * 1000000) })).wr
      SYS_WDOG_STATUS_LEFT_MS (s.rd SYS_WDOG_CFG_PERIOD_MS) := by
  simp only [State.wdogReload, h]

theorem State.wdogExpire_early (h : s.due s.sys.wdogEnd = false) : s.wdogExpire = s := if_pos h

/-- The watchdog's expiry is flagged, and it stops. -/
def State.wdogBitten (s : State) : State :=
  ((s.flag SYS_RST_STATUS_WDOG_EXPIRED).flag SYS_TROUBLE_WDOG_EXPIRED).onSys (fun y => { y with wdogEnd := none })

variable (h : s.due s.sys.wdogEnd = true)
include h

theorem State.wdogExpire_flags (hact : s.wdogBitten.rd SYS_WDOG_CFG_ACTION = 0) : s.wdogExpire = s.wdogBitten := by
  rw [State.wdogBitten] at hact ⊢
  simp only [State.wdogExpire, h, Bool.true_eq_false, if_false, hact]

theorem State.wdogExpire_resetsFolio (hact : s.wdogBitten.rd SYS_WDOG_CFG_ACTION = 1) :
    s.wdogExpire = s.wdogBitten.wdogStart.hostReset 0 := by
  rw [State.wdogBitten] at hact ⊢
  simp only [State.wdogExpire, h, Bool.true_eq_false, if_false, hact]

theorem State.wdogExpire_resets (hact : 2 ≤ s.wdogBitten.rd SYS_WDOG_CFG_ACTION) :
    s.wdogExpire = (s.wdogBitten.keyCommitCounts.onSys (fun y => { y with
      drain := some (y.drain.getD (6, s.wdogBitten.now + 5000000)) })).resetEffect := by
  obtain ⟨n, hn⟩ := Nat.exists_eq_add_of_le' hact
  rw [State.wdogBitten] at hn ⊢
  simp only [State.wdogExpire, h, Bool.true_eq_false, if_false, hn]

end Watchdog

/-! ## Start-up (R451, R466) -/

section Start

variable {s : State}

theorem State.resetRelease_idle (h : s.sys.boot ≠ 0 ∨ s.power < 2 ∨ s.rd SYS_RST_STATUS_LAST_KIND ≠ 4) : s.resetRelease = s := if_pos h

theorem State.resetRelease_starts (hboot : s.sys.boot = 0) (hpower : 2 ≤ s.power) (hkind : s.rd SYS_RST_STATUS_LAST_KIND = 4) :
    s.resetRelease = s.bootClocks := if_neg fun h => h.elim (· hboot) (fun h => h.elim (Nat.not_lt_of_le hpower) (· hkind))

/-- A condition of the start of the rails fails. -/
def State.StartBarred (s : State) : Prop :=
  s.sys.boot ≠ 0 ∨ s.power < 2 ∨ s.on SYS_PWR_AON_PWR_EN = false ∨ s.on SYS_SUPPLY_STATUS_VSTBY_OK = false ∨
    s.rd SYS_RST_STATUS_LAST_KIND = 4 ∨ s.now < s.sys.railsOff.getD 0

theorem State.powerUp_barred (h : s.StartBarred) : s.powerUp = s := if_pos h

/-- The state after the CLOCKS step of a start of the rails. -/
def State.railsUp (s : State) : State := (s.wr SYS_SUPPLY_STATUS_VWARN 0).bootClocks

variable (h : ¬ s.StartBarred)
include h

theorem State.powerUp_plain (hv : s.railsUp.sys.vreset = none) : s.powerUp = s.railsUp := by
  rw [State.StartBarred] at h
  rw [State.railsUp] at hv ⊢
  simp only [State.powerUp, if_neg h, hv]

/-- The first start after a SUPPLY reset requests the record of that reset. -/
theorem State.powerUp_recorded {p vin us low : Nat} (hv : s.railsUp.sys.vreset = some (p, vin, us, low)) :
    s.powerUp = (s.railsUp.event 0x11 (leBytes 4 (3 + p * 256) ++ leBytes 4 vin ++ leBytes 4 us ++ leBytes 4 low ++
      leBytes 4 (s.railsUp.rd SYS_SUPPLY_STATUS_DIPS))).onSys (fun y => { y with vreset := none }) := by
  rw [State.StartBarred] at h
  rw [State.railsUp] at hv ⊢
  simp only [State.powerUp, if_neg h, hv]

end Start

/-! ## O56 -/

/-- Settles O56: what each reset clears and keeps, then the rows of the HOST reset, the watchdog and start-up case by case. -/
theorem resetsAndTheWatchdog : Obligations.ResetsAndTheWatchdog := by
  unfold Obligations.ResetsAndTheWatchdog
  refine ⟨?resets, ?cleared, ?command, ?effect, ?kick, ?start⟩
  case resets =>
    exact fun s => ⟨rfl, fun hoff => congrArg Host.Outcome.next (State.pinReset_off hoff),
      fun hpower hboot => congrArg Host.Outcome.next (State.pinReset_on hpower hboot)⟩
  case cleared =>
    exact fun s kind => ⟨rfl, rfl, rfl, rfl, rfl, rfl, rfl, rfl, rfl, rfl, rfl, rfl, rfl, rfl, s.cleared_tables kind,
      s.cleared_aon kind, s.cleared_log kind⟩
  case command =>
    intro who key s h u ans
    rw [exec_hostReset_of h, exec_hostReset_of h]
    refine ⟨fun hkey => congrArg _ (State.hostResetCmd_badKey fun heq => hkey (BitVec.eq_of_toNat_eq heq)), ?_⟩
    have hkeyed := u.hostResetCmd_keyed
    refine ⟨fun hbusy => congrArg _ (hkeyed.trans (if_pos hbusy)), fun hidle => ?_⟩
    replace hkeyed := hkeyed.trans (if_neg (Bool.eq_false_iff.mp hidle))
    refine ⟨fun hheld => congrArg _ (hkeyed.trans (if_pos hheld)), fun hfree hbusy => ?_, fun hfree hstill => ?_⟩
    · exact congrArg _ ((hkeyed.trans (if_neg (Bool.eq_false_iff.mp hfree))).trans (if_pos hbusy))
    · exact congrArg _ ((hkeyed.trans (if_neg (Bool.eq_false_iff.mp hfree))).trans (if_neg (Bool.eq_false_iff.mp hstill)))
  case effect =>
    intro s h
    rw [exec_hostResetEffect_of h, exec_wdogExpire_of h]
    refine ⟨fun hnone => congrArg _ (State.resetEffect_none hnone), fun kind limit hdrain => ?_,
      fun hnone => congrArg _ (State.wdogExpire_early (by rw [hnone]; rfl)), fun t ht => ?_⟩
    · refine ⟨fun hdue => congrArg _ ((State.resetEffect_some hdrain).trans (if_pos hdue)),
        fun hwait hearly => congrArg _ ((State.resetEffect_some hdrain).trans (if_neg ?_))⟩
      rintro (hidle | hpast)
      · exact Bool.false_ne_true (hwait.symm.trans hidle)
      · exact Nat.not_le_of_lt hearly hpast
    · have hdue : s.due s.sys.wdogEnd = decide (t ≤ s.now) := by rw [ht]; rfl
      refine ⟨fun hearly => congrArg _ (State.wdogExpire_early (hdue.trans (decide_eq_false (Nat.not_le_of_lt hearly)))), fun hpast => ?_⟩
      replace hdue := hdue.trans (decide_eq_true hpast)
      exact ⟨fun hact => congrArg _ (State.wdogExpire_flags hdue hact), fun hact => congrArg _ (State.wdogExpire_resetsFolio hdue hact),
        fun hact => congrArg _ (State.wdogExpire_resets hdue hact)⟩
  case kick =>
    intro who s h
    rw [exec_wdogKick_of h]
    refine ⟨fun hother => congrArg _ (if_neg fun hsup => hother (isSup_iff.mp hsup)), ?_, ?_⟩
    · rintro rfl hstopped
      exact congrArg Host.Outcome.next (State.wdogReload_stopped hstopped)
    · rintro t rfl ht
      exact congrArg Host.Outcome.next (State.wdogReload_running ht)
  case start =>
    intro s
    refine ⟨fun hidle => congrArg Host.Outcome.next (State.resetRelease_idle hidle),
      fun hboot hpower hkind => congrArg Host.Outcome.next (State.resetRelease_starts hboot hpower hkind),
      fun hbar => congrArg Host.Outcome.next (State.powerUp_barred hbar), ?_⟩
    intro hboot hpower hen hstby hkind hrails
    have hstart : ¬ s.StartBarred := by
      rintro (h | h | h | h | h | h)
      · exact h hboot
      · exact Nat.not_lt_of_le hpower h
      · exact Bool.false_ne_true (h.symm.trans hen)
      · exact Bool.false_ne_true (h.symm.trans hstby)
      · exact hkind h
      · exact Nat.not_lt_of_le hrails h
    exact ⟨fun hv => congrArg Host.Outcome.next (State.powerUp_plain hstart hv),
      fun p vin us low hv => congrArg Host.Outcome.next (State.powerUp_recorded hstart hv)⟩

end Sys2Proof.Machine
end

section
/-! PROOFS. VWARN, VRESET and VSTBY (R463-R468). -/

namespace Sys2Proof.Machine

open Sys2Proof Reg

/-! ## Rows -/

section SupplyRows

variable {s : State} (h : s.fabricUp = true) (vin : BitVec 16)
include h

theorem exec_vwarnFall_of : exec (.vwarnFall vin) s = .next (s.vwarnFall vin.toNat) := congrArg Host.Outcome.next (State.live_of_up h _)

theorem exec_vwarnRise_of (low : BitVec 16) : exec (.vwarnRise vin low) s = .next (s.vwarnRise vin.toNat low.toNat) :=
  congrArg Host.Outcome.next (State.live_of_up h _)

theorem exec_vreset_of : exec (.vreset vin) s = .next (s.vresetAct vin.toNat) := congrArg Host.Outcome.next (State.live_of_up h _)

theorem exec_vstbyLow_of : exec (.vstbyLow vin) s = .next (s.vstbyLow vin.toNat) := congrArg Host.Outcome.next (State.live_of_up h _)

theorem exec_vstbyOk_of : exec (.vstbyOk vin) s = .next (s.vstbyOk vin.toNat) := congrArg Host.Outcome.next (State.live_of_up h _)

end SupplyRows

/-! ## VWARN (R463-R465) -/

/-- VWARN has fallen: shown, counted and recorded, and loads and a rebuild ended. -/
def State.dipBegun (s : State) (vin : Nat) : State :=
  let a := ((((s.wr SYS_SUPPLY_STATUS_VWARN 1).flag SYS_SUPPLY_STATUS_VWARN_SEEN).bump SYS_SUPPLY_STATUS_DIPS).wr
    SYS_SUPPLY_MIN_NOW_MV (vin / 50)).flag SYS_TROUBLE_SUPPLY
  let b := (a.onSys (fun y => { y with dip := some (a.now, vin), supplyIrq := true })).supplyEvent 1 vin 0 vin
  (b.bndStop 0x0E).rebuildStop

section Vwarn

variable {s : State} {vin low : Nat}

theorem State.vwarnFall_low (h : s.on SYS_SUPPLY_STATUS_VWARN = true) : s.vwarnFall vin = s := if_pos h

/-- An UPDATE or ATTEST in progress ends with SUPPLY, then the rest of R464. -/
theorem State.vwarnFall_falls (h : s.on SYS_SUPPLY_STATUS_VWARN = false) :
    let c := s.dipBegun vin
    let d := if c.key.job.any (fun j => decide (j.op = 1 ∨ j.op = 3)) = true then (c.keyForce 0x10).keyComplete else c
    s.vwarnFall vin = (d.keyCommitCounts.gthSuspend).raiseFloor := by
  intro c d
  cases hjob : c.key.job with
  | none =>
    simp only [d, hjob, Option.any_none, Bool.false_eq_true, if_false]
    simp only [c, State.dipBegun] at hjob ⊢
    simp only [State.vwarnFall, h, Bool.false_eq_true, if_false, hjob]
  | some j =>
    simp only [d, hjob, Option.any_some, decide_eq_true_eq]
    simp only [c, State.dipBegun] at hjob ⊢
    simp only [State.vwarnFall, h, Bool.false_eq_true, if_false, hjob]

theorem State.vwarnRise_high (h : s.on SYS_SUPPLY_STATUS_VWARN = false) : s.vwarnRise vin low = s := if_pos h

theorem State.vresetAct_high (h : s.on SYS_SUPPLY_STATUS_VWARN = false) : s.vresetAct vin = s := if_pos h

section Dip

variable {t m : Nat} (h : s.on SYS_SUPPLY_STATUS_VWARN = true) (hdip : s.sys.dip = some (t, m))

include hdip in
theorem State.dipUs_some : s.dipUs = (s.now - t) / 1000 := by
  simp only [State.dipUs, hdip]

include hdip in
theorem State.dipLow_some : s.dipLow vin = min m vin := by
  simp only [State.dipLow, hdip]

include h hdip

theorem State.vwarnRise_rises :
    let us := (s.now - t) / 1000
    let lowest := min m (min vin low)
    let a := (((s.wr SYS_SUPPLY_STATUS_VWARN 0).wrSat SYS_SUPPLY_LAST_DURATION_US us).wrSat SYS_SUPPLY_MIN_MIN_MV lowest).wr
      SYS_SUPPLY_MIN_NOW_MV (vin / 50)
    s.vwarnRise vin low = ((a.onSys (fun y => { y with dip := none })).supplyEvent 2 vin us lowest).gthUnsuspend.bndLoadWaiting := by
  simp only [State.vwarnRise, h, Bool.true_eq_false, if_false, State.dipUs_some hdip, State.dipLow_some hdip]

theorem State.vresetAct_resets :
    let us := (s.now - t) / 1000
    let a := (((s.wrSat SYS_SUPPLY_LAST_DURATION_US us).wrSat SYS_SUPPLY_MIN_MIN_MV (min m vin)).flag
      SYS_SUPPLY_STATUS_VRESET_SEEN).flag SYS_TROUBLE_SUPPLY
    s.vresetAct vin = (a.onSys (fun y => { y with vreset := some (s.power, vin, us, min m vin) })).resetTo 3 := by
  simp only [State.vresetAct, h, Bool.true_eq_false, if_false, State.dipUs_some hdip, State.dipLow_some hdip]

end Dip

end Vwarn

/-! ## VSTBY (R467) -/

section Vstby

variable {s : State} {vin : Nat}

theorem State.vstbyLow_again (h : s.on SYS_SUPPLY_STATUS_VSTBY_OK = false) : s.vstbyLow vin = s := if_pos h

theorem State.vstbyLow_falls (h : s.on SYS_SUPPLY_STATUS_VSTBY_OK = true) :
    let a := ((s.wr SYS_SUPPLY_STATUS_VSTBY_OK 0).flag SYS_SUPPLY_STATUS_VSTBY_LOW).flag SYS_TROUBLE_SUPPLY
    s.vstbyLow vin = a.supplyEvent 4 vin 0 (a.dipLow vin) := by
  simp only [State.vstbyLow, h, Bool.true_eq_false, if_false]
  rfl

theorem State.vstbyOk_again (h : s.on SYS_SUPPLY_STATUS_VSTBY_OK = true) : s.vstbyOk vin = s := if_pos h

theorem State.vstbyOk_returns (h : s.on SYS_SUPPLY_STATUS_VSTBY_OK = false) :
    s.vstbyOk vin = (s.wr SYS_SUPPLY_STATUS_VSTBY_OK 1).supplyEvent 5 vin 0 (s.dipLow vin) := if_neg (Bool.eq_false_iff.mp h)

end Vstby

/-! ## O57 -/

/-- Settles O57: each supply event acts in the level it finds, and changes nothing in the other. -/
theorem supplyEventsAreActedOn : Obligations.SupplyEventsAreActedOn := by
  unfold Obligations.SupplyEventsAreActedOn
  refine ⟨?fall, ?rise, ?reset, ?vstby⟩
  case fall =>
    intro vin s h
    rw [exec_vwarnFall_of h]
    exact ⟨fun hlow => congrArg _ (State.vwarnFall_low hlow), fun hhigh => congrArg _ (State.vwarnFall_falls hhigh)⟩
  case rise =>
    intro vin low s h
    rw [exec_vwarnRise_of h]
    exact ⟨fun hhigh => congrArg _ (State.vwarnRise_high hhigh), fun t m hlow hdip => congrArg _ (State.vwarnRise_rises hlow hdip)⟩
  case reset =>
    intro vin s h
    rw [exec_vreset_of h]
    exact ⟨fun hhigh => congrArg _ (State.vresetAct_high hhigh), fun t m hlow hdip => congrArg _ (State.vresetAct_resets hlow hdip)⟩
  case vstby =>
    intro vin s h
    rw [exec_vstbyLow_of h, exec_vstbyOk_of h]
    exact ⟨fun hlow => congrArg _ (State.vstbyLow_again hlow), fun hok => congrArg _ (State.vstbyLow_falls hok),
      fun hok => congrArg _ (State.vstbyOk_again hok), fun hlow => congrArg _ (State.vstbyOk_returns hlow)⟩

end Sys2Proof.Machine
end

section
/-! PROOFS. Self-test findings, DECIDE, and tests on demand (R451, R454, R456-R462, R478). -/

namespace Sys2Proof.Machine

open Sys2Proof Reg

/-! ## Rows -/

section TestRows

variable {s : State} (h : s.fabricUp = true)
include h

theorem exec_mbistDone_of (fs : List Finding) (spares : List Bool) : exec (.mbistDone fs spares) s = .next (s.mbistDone fs spares) :=
  congrArg Host.Outcome.next (State.live_of_up h _)

theorem exec_lbistDone_of (fs : List Finding) : exec (.lbistDone fs) s = .next (s.lbistDone fs) :=
  congrArg Host.Outcome.next (State.live_of_up h _)

theorem exec_ddrTrainingDone_of : exec .ddrTrainingDone s = .next (s.onSys (fun y => { y with ddr := true })) :=
  congrArg Host.Outcome.next (State.live_of_up h _)

theorem exec_bootDecide_of : exec .bootDecide s = .next s.bootDecide := congrArg Host.Outcome.next (State.live_of_up h _)

theorem exec_bistDemandDone_of (fs : List Finding) : exec (.bistDemandDone fs) s = .next ((s.bistDemandDone fs).hkaFollow s false) :=
  congrArg Host.Outcome.next (State.live_of_up h _)

end TestRows

theorem exec_bistTest_of {s : State} {who : Agent} (h : s.Admits who 0x140010 true) (inst : Fin 16) :
    exec (.bistTestPair who inst) s = .next ((s.mbCount who).bistStart 1 inst.val) ∧
    exec (.bistTestUnit who inst) s = .next ((s.mbCount who).bistStart 2 inst.val) :=
  ⟨congrArg Host.Outcome.next (State.allow_of h _ _), congrArg Host.Outcome.next (State.allow_of h _ _)⟩

/-! ## MBIST, LBIST and their findings (R454, R456, R457) -/

section Findings

variable {s : State} {f : Finding}

theorem State.mbistDone_other (fs : List Finding) (spares : List Bool) (h : s.sys.boot ≠ 1) : s.mbistDone fs spares = s := if_pos h

/-- The findings of MBIST and the queued repairs have been taken. -/
def State.mbistTaken (s : State) (fs : List Finding) (spares : List Bool) : State :=
  let a := fs.foldl State.memFinding s
  let b := (a.hka.queued.zip (spares ++ List.replicate 8 false)).foldl (fun t q => t.queuedRepair q.1 q.2) a
  (b.onHka (fun h => { h with queued := [] })).wr HKA_SPARES_QUEUED 0

theorem State.mbistDone_ends (fs : List Finding) (spares : List Bool) (h : s.sys.boot = 1) :
    let c := s.mbistTaken fs spares
    s.mbistDone fs spares = if 2 ≤ c.rd BST_STATUS_MODE then (c.onSys (fun y => { y with boot := 2 })).wr BST_STATUS_PHASE 2
      else (c.onSys (fun y => { y with boot := 3 })).wr BST_STATUS_PHASE 3 :=
  (if_neg (not_not_intro h)).trans (if_congr decide_eq_true_iff rfl rfl)

theorem State.lbistDone_other (fs : List Finding) (h : s.sys.boot ≠ 2) : s.lbistDone fs = s := if_pos h

theorem State.lbistDone_ends (fs : List Finding) (h : s.sys.boot = 2) : s.lbistDone fs = (fs.foldl State.logicFinding s).tested :=
  if_neg (not_not_intro h)

theorem State.findings_absent (h : bistInstances f.target ≤ f.inst) : s.memFinding f = s ∧ s.logicFinding f = s :=
  ⟨if_pos (.inl h), if_pos (.inl h)⟩

theorem State.logicFinding_mismatch (hinst : f.inst < bistInstances f.target) (htarget : 0x40 ≤ f.target) :
    s.logicFinding f = s.failAdd (failEntry f.target f.inst 3 0xFF 0 0xFF) :=
  if_neg fun h => h.elim (Nat.not_le_of_lt hinst) (Nat.not_lt_of_le htarget)

section Memory

variable (hinst : f.inst < bistInstances f.target) (htarget : f.target < 0x40)
include hinst htarget

theorem State.memFinding_exists : ¬ (bistInstances f.target ≤ f.inst ∨ 0x40 ≤ f.target) :=
  fun h => h.elim (Nat.not_le_of_lt hinst) (Nat.not_le_of_lt htarget)

theorem State.memFinding_logFull (hfull : 256 ≤ s.sys.repairs.length) :
    s.memFinding f = (s.flag BST_TROUBLE_REPAIR_LOG_FULL).failAdd (failEntry f.target f.inst 2 f.bit f.addr 0xFF) := by
  simp only [State.memFinding, if_neg (State.memFinding_exists hinst htarget), decide_eq_true hfull, Nat.not_lt_of_le hfull, and_false,
    if_false]
  rfl

variable (hfree : s.sys.repairs.length < 256)
include hfree

theorem State.memFinding_repaired (hspare : f.spare = true) :
    let e := failEntry f.target f.inst 1 f.bit f.addr s.sys.repairs.length
    s.memFinding f = ((((s.onSys (fun y => { y with repairs := y.repairs ++ [e] })).wr BST_REPAIR_USED
      (s.sys.repairs.length + 1)).wrSat BST_REPAIR_NEW (s.rd BST_REPAIR_NEW + 1)).flag BST_TROUBLE_REPAIRED).failAdd e := by
  simp only [State.memFinding, if_neg (State.memFinding_exists hinst htarget), decide_eq_false (Nat.not_le_of_lt hfree),
    if_pos (And.intro hspare hfree)]
  rfl

theorem State.memFinding_noSpare (hspare : f.spare = false) :
    s.memFinding f = s.failAdd (failEntry f.target f.inst 2 f.bit f.addr 0xFF) := by
  simp only [State.memFinding, if_neg (State.memFinding_exists hinst htarget), decide_eq_false (Nat.not_le_of_lt hfree), hspare,
    Bool.false_eq_true, false_and, if_false]
  rfl

end Memory

end Findings

/-! ## DECIDE (R451, R459, R460) -/

section Decide

variable {s : State}

theorem State.bootDecide_waits (h : s.sys.boot ≠ 3 ∨ s.sys.ddr = false) : s.bootDecide = s := if_pos h

/-- The µs that self-test took. -/
def State.testUs (s : State) : Nat := (s.now - s.sys.testAt) / 1000

/-- DECIDE has shown its result and the duration, and requested its record, with the store scan started. -/
def State.decideShown (s : State) (kind : Nat) : State :=
  let b := (((s.onSys (fun y => { y with boot := 4 })).wr BST_STATUS_RESULT kind).wrSat BST_STATUS_DURATION (s.testUs / 100)).wr
    SYS_CLK_RUN (s.rd SYS_CLK_REQ ||| 1)
  (b.bistEvent kind (s.rd BST_STATUS_MODE) (b.rd SYS_RST_STATUS_LAST_KIND) s.testUs).wr GTH_STATUS_STORE_SCANNING 1

/-- The result of DECIDE where no essential target failed. -/
def State.decideKind (s : State) : Nat :=
  if s.failedUnits ≠ [] ∨ s.failedPairs ≠ [] then 3 else if s.rd BST_REPAIR_NEW ≠ 0 then 2 else 1

/-- The failed units and pairs are retired, and the unseal starts. -/
def State.decideStarted (s : State) : State :=
  let b := s.failedPairs.foldl State.bootRetirePair (s.failedUnits.foldl State.bootRetireUnit (s.decideShown s.decideKind))
  (b.flagIf (decide (s.decideKind = 3)) BST_TROUBLE_SUBSTITUTED).wr KEY_STATUS_STATE 1

variable (hboot : s.sys.boot = 3) (hddr : s.sys.ddr = true)
include hboot hddr

theorem State.decide_due : ¬ (s.sys.boot ≠ 3 ∨ s.sys.ddr = false) :=
  fun h => h.elim (· hboot) fun hno => Bool.false_ne_true (hno.symm.trans hddr)

theorem State.bootDecide_safe (hsafe : s.essentialFailed = true) :
    s.bootDecide = (((s.decideShown 4).wr BST_STATUS_SAFE 1).flag BST_TROUBLE_BOOT_FAIL).onBnd (fun b => { b with wait := none }) := by
  simp only [State.bootDecide, if_neg (State.decide_due hboot hddr), hsafe, if_true]
  rfl

theorem State.bootDecide_starts (hsafe : s.essentialFailed = false) :
    s.bootDecide = if s.decideStarted.on BND_BOOT_CFG_AUTOLOAD = true then
        (s.decideStarted.onBnd (fun b => { b with wait := none })).bndLoad (s.decideStarted.rd BND_BOOT_CFG_SLOT_SEL)
      else s.decideStarted.bndLoadWaiting := by
  simp only [State.bootDecide, if_neg (State.decide_due hboot hddr), hsafe, Bool.false_eq_true, if_false]
  rfl

end Decide

/-! ## Tests on demand (R461) -/

/-- What a test on demand names is spare: a pair with a Binding loaded (1), or a verifier unit (2). -/
def State.TestSpare (s : State) (target inst : Nat) : Prop :=
  if target = 1 then inst < 12 ∧ s.pairSt inst = 1 ∧ s.loaded = true else inst < 4 ∧ s.unitState inst = 3

/-- A test on demand has begun. -/
def State.testBegun (s : State) (target inst : Nat) : State :=
  let v := (s.begin BST_CMD_STATUS_BUSY).failClear
  let w := v.onSys (fun y => { y with test := some (target, inst, v.now) })
  if target = 1 then (w.wrI FOL_P_STATE inst 3).folRefresh else w.setUnit inst 1

/-- TARGET and INSTANCE of BST_CMD are written. -/
abbrev State.testAsked (s : State) (target inst : Nat) : State := (s.wr BST_CMD_TARGET target).wr BST_CMD_INSTANCE inst

section Demand

variable {s : State} {target inst : Nat}

/-- Whether what a test on demand names is spare, as the command reads it. -/
def State.testSpare (s : State) (target inst : Nat) : Bool :=
  if target = 1 then decide (inst < 12 ∧ s.pairSt inst = 1) && s.loaded else decide (target = 2 ∧ inst < 4) && decide (s.unitState inst = 3)

theorem State.testSpare_iff (htarget : target = 1 ∨ target = 2) : s.testSpare target inst = true ↔ s.TestSpare target inst := by
  rcases htarget with rfl | rfl
  · rw [State.testSpare, State.TestSpare, if_pos rfl, if_pos rfl, Bool.and_eq_true, decide_eq_true_eq, and_assoc]
  · rw [State.testSpare, State.TestSpare, if_neg (by decide), if_neg (by decide), Bool.and_eq_true, decide_eq_true_eq, decide_eq_true_eq]
    exact and_congr_left fun _ => ⟨And.right, fun hlt => ⟨rfl, hlt⟩⟩

theorem State.bistStart_busy (h : (s.testAsked target inst).on BST_CMD_STATUS_BUSY = true) :
    s.bistStart target inst = (s.testAsked target inst).bistAnswer 5 := if_pos h

/-- A test on demand with none in progress: the causes of R461 in their order. -/
theorem State.bistStart_judged (h : (s.testAsked target inst).on BST_CMD_STATUS_BUSY = false) :
    s.bistStart target inst =
      if (s.testAsked target inst).lifecycle = 5 then (s.testAsked target inst).bistAnswer 4
      else if (s.testAsked target inst).testSpare target inst = false then (s.testAsked target inst).bistAnswer 3
      else if target = 1 ∧ (s.testAsked target inst).sparesLeft < 2 then (s.testAsked target inst).bistAnswer 2
      else (s.testAsked target inst).testBegun target inst :=
  if_neg (Bool.eq_false_iff.mp h)

theorem State.hkaFollow_self (s : State) (commanded : Bool) : s.hkaFollow s commanded = s := by
  have hpairs : ∀ st : Nat,
      (List.range 12).foldl (fun t p => if s.pairSt p ≠ 2 ∧ t.pairSt p = 2 then t.propSettle p st else t) s = s :=
    fun st => List.foldl_fixed' (fun p => if_neg fun ⟨hne, heq⟩ => hne heq) _
  have hunits : ∀ st : Nat,
      (List.range 4).foldl (fun t u => if s.unitState u ≠ 2 ∧ t.unitState u = 2 then t.propSettle (12 + u) st else t) s = s :=
    fun st => List.foldl_fixed' (fun u => if_neg fun ⟨hne, heq⟩ => hne heq) _
  simp only [State.hkaFollow, hpairs, hunits]

theorem State.bistDemandDone_none (fs : List Finding) (h : s.sys.test = none) : s.bistDemandDone fs = s := by
  simp only [State.bistDemandDone, h]

/-- The findings of what was tested are taken. -/
def State.demandTaken (s : State) (target inst : Nat) (fs : List Finding) : State :=
  (fs.filter (fun f => decide (f.inst = inst) &&
    decide (f.target = (if target = 1 then 0x03 else 0x04) ∨ f.target = (if target = 1 then 0x40 else 0x41)))).foldl
      (fun t f => if f.target < 0x40 then t.memFinding f else t.logicFinding f) s

variable {t0 : Nat} (h : s.sys.test = some (target, inst, t0))
include h

theorem State.bistDemandDone_some (fs : List Finding) :
    s.bistDemandDone fs = (s.demandTaken target inst fs).bistEnd (if (s.demandTaken target inst fs).failures = [] then 0 else 1) := by
  simp only [State.bistDemandDone, h]
  rfl

theorem State.bistEnd_some (r : Nat) :
    let a := (s.onSys (fun y => { y with test := none })).finish BST_CMD_STATUS_BUSY BST_CMD_STATUS_DONE BST_CMD_STATUS_RESULT r
    let b := if target = 1 then a.wrI FOL_P_STATE inst (if r = 1 then 2 else 1) else a.setUnit inst (if r = 1 then 2 else 3)
    let c := if target = 1 ∧ r = 1 then b.folNoticeNow 6 inst 0 else b
    let d := c.flagIf (decide (r = 1)) BST_TROUBLE_DEMAND_FAIL
    s.bistEnd r = (d.bistEvent (if r = 0 then 5 else if r = 1 then 6 else 7) 2 0 ((d.now - t0) / 1000)).folRefresh := by
  simp only [State.bistEnd, h]

end Demand

/-! ## O58 -/

/-- Settles O58, in the order of start-up: the findings, DECIDE, then the commands and ends of tests on demand. -/
theorem selfTestDecidesTheStart : Obligations.SelfTestDecidesTheStart := by
  unfold Obligations.SelfTestDecidesTheStart
  refine ⟨?phases, ?findings, ?repairs, ?decided, ?command, ?demand, fun r s target inst t0 h => State.bistEnd_some h r⟩
  case phases =>
    intro fs spares s h
    rw [exec_mbistDone_of h, exec_lbistDone_of h]
    exact ⟨fun hother => congrArg _ (State.mbistDone_other fs spares hother), fun hboot => congrArg _ (State.mbistDone_ends fs spares hboot),
      fun hother => congrArg _ (State.lbistDone_other fs hother), fun hboot => congrArg _ (State.lbistDone_ends fs hboot),
      exec_ddrTrainingDone_of h⟩
  case findings => exact fun f s => ⟨State.findings_absent, State.logicFinding_mismatch, State.memFinding_logFull⟩
  case repairs =>
    exact fun f s hinst htarget hfree =>
      ⟨State.memFinding_repaired hinst htarget hfree, State.memFinding_noSpare hinst htarget hfree⟩
  case decided =>
    intro s h
    rw [exec_bootDecide_of h]
    exact ⟨fun hwait => congrArg _ (State.bootDecide_waits hwait), fun hboot hddr =>
      ⟨fun hsafe => congrArg _ (State.bootDecide_safe hboot hddr hsafe),
        fun hsound => congrArg _ (State.bootDecide_starts hboot hddr hsound)⟩⟩
  case command =>
    intro who inst s h
    obtain ⟨hpair, hunit⟩ := exec_bistTest_of h inst
    refine ⟨⟨hpair, hunit⟩, ?_⟩
    intro p hp u ans spare
    have hgo : exec p.1 s = .next ((s.mbCount who).bistStart p.2 inst.val) ∧ (p.2 = 1 ∨ p.2 = 2) := by
      simp only [List.mem_cons, List.not_mem_nil, or_false] at hp
      rcases hp with rfl | rfl
      · exact ⟨hpair, .inl rfl⟩
      · exact ⟨hunit, .inr rfl⟩
    obtain ⟨hexec, htarget⟩ := hgo
    have hspare : u.testSpare p.2 inst.val = true ↔ spare := State.testSpare_iff htarget
    rw [hexec]
    refine ⟨fun hbusy => congrArg _ (State.bistStart_busy hbusy), fun hidle => ?_⟩
    have hjudged := State.bistStart_judged hidle
    refine ⟨fun hlc => congrArg _ (hjudged.trans (if_pos hlc)), fun hlc => ?_⟩
    replace hjudged := hjudged.trans (if_neg hlc)
    refine ⟨fun hno => congrArg _ (hjudged.trans (if_pos (Bool.eq_false_iff.mpr fun h => hno (hspare.mp h)))), ?_, ?_⟩
    · intro hyes hone hlast
      exact congrArg _ ((hjudged.trans (if_neg (by rw [hspare.mpr hyes]; decide))).trans (if_pos ⟨hone, hlast⟩))
    · intro hyes hleft
      refine congrArg _ ((hjudged.trans (if_neg (by rw [hspare.mpr hyes]; decide))).trans (if_neg ?_))
      rintro ⟨hone, hlast⟩
      exact hleft.elim (fun htwo => absurd (hone.symm.trans htwo) (by decide)) (Nat.not_le_of_lt hlast)
  case demand =>
    intro fs s h
    rw [exec_bistDemandDone_of h]
    refine ⟨fun hnone => ?_, fun target inst t0 htest => congrArg _ (congrArg (State.hkaFollow · s false) (State.bistDemandDone_some htest fs))⟩
    rw [State.bistDemandDone_none fs hnone, State.hkaFollow_self]

end Sys2Proof.Machine
end

section
/-! PROOFS. Sweeps, ageing, thermal life and ECC counts, and what their monitors warn of and propose (R470, R472-R474, R477-R480). -/

namespace Sys2Proof.Machine

open Sys2Proof Reg

/-! ## Rows -/

section MonitorRows

variable {s : State} (h : s.fabricUp = true)
include h

theorem exec_adcSweep_of (vals : List Int) : exec (.adcSweep vals) s = .next (s.sweep vals) :=
  congrArg Host.Outcome.next (State.live_of_up h _)

theorem exec_ageingMeasure_of (ppm : List Nat) (nand : Nat) : exec (.ageingMeasure ppm nand) s = .next (s.ageing ppm nand) :=
  congrArg Host.Outcome.next (State.live_of_up h _)

theorem exec_lifeAccrue_of : exec .lifeAccrue s = .next s.lifeAccrue := congrArg Host.Outcome.next (State.live_of_up h _)

theorem exec_lifeCommit_of : exec .lifeCommit s = .next s.lifeCommit := congrArg Host.Outcome.next (State.live_of_up h _)

theorem exec_eccCorrected_of (m : Fin 32) (target inst addr : Nat) :
    exec (.eccCorrected m target inst addr) s = .next (s.eccCorrected m.val target inst addr) :=
  congrArg Host.Outcome.next (State.live_of_up h _)

theorem exec_eccWindowEnd_of : exec .eccWindowEnd s = .next s.eccWindow := congrArg Host.Outcome.next (State.live_of_up h _)

theorem exec_proposalRemind_of (m : Fin 32) : exec (.proposalRemind m) s = .next (s.remind m.val) :=
  congrArg Host.Outcome.next (State.live_of_up h _)

end MonitorRows

/-! ## What happens once in a while -/

section Each

variable {s : State} {last : Option Nat} {ns : Nat}

theorem State.each_eq_false (h : ∃ t, last = some t ∧ s.now < t + ns) : s.each last ns = false := by
  obtain ⟨t, rfl, hearly⟩ := h
  exact decide_eq_false (Nat.not_le_of_lt hearly)

theorem State.each_eq_true (h : ∀ t, last = some t → t + ns ≤ s.now) : s.each last ns = true := by
  cases hlast : last with
  | none => rfl
  | some t => exact decide_eq_true (h t hlast)

end Each

/-! ## Sweeps and ageing (R470, R472) -/

section Engine

variable {s : State}

/-- Converting one channel of a sweep. -/
def State.sweepChannel (vals : List Int) (t : State) (c : Nat) : State :=
  match vals[c]? with
  | none => t
  | some v =>
    if bitAt (t.rd HKA_SEQ_CFG_MASK) c = false then t
    else
      let w := if 8 ≤ c ∧ c ≤ 13 then t.tempCheck c v else t
      if c = 13 then w.onHka (fun h => { h with board := some v }) else w

theorem State.sweep_idle (vals : List Int) (h : s.hkaRuns = false ∨
    s.each (s.hka.burst.map (fun b => b.1)) (s.rdOr HKA_SEQ_CFG_SWEEP_MS 10 * 1000000) = false) : s.sweep vals = s := if_pos h

theorem State.sweep_runs (vals : List Int) (hruns : s.hkaRuns = true)
    (hdue : s.each (s.hka.burst.map (fun b => b.1)) (s.rdOr HKA_SEQ_CFG_SWEEP_MS 10 * 1000000) = true) :
    let n := ((List.range 16).filter (bitAt (s.rd HKA_SEQ_CFG_MASK))).length
    s.sweep vals = (List.range 16).foldl (State.sweepChannel vals)
      (s.onHka (fun h => { h with burst := some (max s.now s.convBusy, max s.now s.convBusy + 1000 * n) })) :=
  if_neg fun h => h.elim (fun hoff => Bool.false_ne_true (hoff.symm.trans hruns)) (fun hno => Bool.false_ne_true (hno.symm.trans hdue))

/-- The measurement of one ageing monitor, at a warning and a proposal level. -/
def State.ageTake (warn prop : Nat) (ppm : List Nat) (t : State) (m : Nat) : State :=
  match ppm[m]? with
  | none => t
  | some v =>
    let w := t.monTake m v warn HKA_TROUBLE_AGE_WARN
    if prop ≤ v then w.proposeOpt (w.ageProp m prop) else w

/-- A value of the NAND (26) or of thermal life (27), in 0.01 %: it warns, and proposes at the proposal level. -/
def State.wearTake (s : State) (m v : Nat) : State :=
  let b := s.monTake m v (s.rdOr HKA_LIFE_LIMIT_WARN_PCT 80 * 100) HKA_TROUBLE_LIFE_WARN
  let p := b.rdOr HKA_LIFE_LIMIT_PROPOSE_PCT 90 * 100
  if p ≤ v then b.propose { mon := m, action := 6, subject := 0, detail := 0, addr := 0, level := p } else b

theorem State.ageing_idle (ppm : List Nat) (nand : Nat) (h : s.hkaRuns = false ∨ s.each s.hka.agedAt 3600000000000 = false) :
    s.ageing ppm nand = s := if_pos h

theorem State.ageing_due (ppm : List Nat) (nand : Nat) (hruns : s.hkaRuns = true) (hdue : s.each s.hka.agedAt 3600000000000 = true) :
    let o := s.onHka (fun h => { h with agedAt := some s.now })
    s.ageing ppm nand = ((List.range 18).foldl
      (State.ageTake (o.rdOr HKA_AGE_LIMIT_WARN_PPM 15000) (o.rdOr HKA_AGE_LIMIT_PROPOSE_PPM 20000) ppm) o).wearTake 26 nand :=
  if_neg fun h => h.elim (fun hoff => Bool.false_ne_true (hoff.symm.trans hruns)) (fun hno => Bool.false_ne_true (hno.symm.trans hdue))

end Engine

/-! ## Thermal life (R473) -/

section Life

variable {s : State}

theorem State.lifeAccrue_unread (h : s.hka.board = none) : s.lifeAccrue = s := by
  simp only [State.lifeAccrue, h]

theorem State.lifeAccrue_early (h : s.each s.hka.accruedAt 60000000000 = false) : s.lifeAccrue = s := by
  cases hboard : s.hka.board with
  | none => exact State.lifeAccrue_unread hboard
  | some t => simp only [State.lifeAccrue, h, hboard]

theorem State.lifeAccrue_due {t : Int} (hboard : s.hka.board = some t) (h : s.each s.hka.accruedAt 60000000000 = true) :
    let a := s.onHka (fun h => { h with life := h.life + lifeWeight t, accruedAt := some s.now })
    s.lifeAccrue = a.wearTake 27 (a.hka.life / 2 ^ 32 * 10000 / 13149000) := by
  simp only [State.lifeAccrue, h, hboard, State.wearTake]

theorem State.lifeCommit_early (h : s.each s.hka.committedAt 3600000000000 = false) : s.lifeCommit = s := by
  rw [State.lifeCommit, h, if_neg Bool.false_ne_true]

theorem State.lifeCommit_due (h : s.each s.hka.committedAt 3600000000000 = true) : s.lifeCommit =
    (s.onHka (fun h => { h with lifeMram := h.life, committedAt := some s.now })).wr HKA_LIFE (s.hka.life / 2 ^ 32) := if_pos h

end Life

/-! ## ECC counts (R474) -/

section Ecc

variable {s : State} {m target inst addr : Nat}

theorem State.eccCorrected_other (h : s.hkaRuns = false ∨ m < 18 ∨ 25 < m) : s.eccCorrected m target inst addr = s := if_pos h

theorem State.eccCorrected_counts (hruns : s.hkaRuns = true) (hlow : 18 ≤ m) (hhigh : m ≤ 25) :
    let a := (s.monPut m Ent.MON_VALUE (satNat 32 (Ent.MON_VALUE.of (s.mon m) + 1))).monPut m Ent.MON_UPDATED_S s.aonSeconds
    let b := a.onHka (fun h => { h with
      addrs := trackEcc h.addrs { mon := m, target := target, inst := inst, addr := addr, count := 0 },
      devs := if m ≤ 21 then bumpDev h.devs m inst else h.devs })
    s.eccCorrected m target inst addr = b.eccJudge m := by
  have hcounts : ¬ (s.hkaRuns = false ∨ m < 18 ∨ 25 < m) := by
    rintro (hoff | hout)
    · exact Bool.false_ne_true (hoff.symm.trans hruns)
    · omega
  simp only [State.eccCorrected, if_neg hcounts]

/-- The window of one ECC monitor ends. -/
def State.eccClose (t : State) (k : Nat) : State :=
  let w := t.eccJudge (18 + k)
  let v := Ent.MON_VALUE.of (w.mon (18 + k))
  let x := (w.monPut (18 + k) Ent.MON_PEAK (max v (Ent.MON_PEAK.of (w.mon (18 + k))))).monPut (18 + k) Ent.MON_VALUE 0
  (x.monPut (18 + k) Ent.MON_WARN 0).monPut (18 + k) Ent.MON_UPDATED_S x.aonSeconds

/-- The next window of 24 hours begins. -/
def State.eccNext (s : State) : State := s.onHka (fun h => { h with windowAt := h.windowAt + 86400000000000 })

theorem State.eccWindow_early (h : s.now < s.hka.windowAt + 86400000000000) : s.eccWindow = s := if_pos h

section Over

variable (h : s.hka.windowAt + 86400000000000 ≤ s.now)
include h

theorem State.eccWindow_still (hruns : s.eccNext.hkaRuns = false) : s.eccWindow = s.eccNext := by
  rw [State.eccNext] at hruns ⊢
  simp only [State.eccWindow, if_neg (Nat.not_lt_of_le h), hruns, if_true]

theorem State.eccWindow_closes (hruns : s.eccNext.hkaRuns = true) :
    s.eccWindow = ((List.range 8).foldl State.eccClose s.eccNext).onHka (fun h => { h with addrs := [], devs := [] }) := by
  rw [State.eccNext] at hruns ⊢
  simp only [State.eccWindow, if_neg (Nat.not_lt_of_le h), hruns, Bool.true_eq_false, if_false]
  rfl

end Over

end Ecc

/-! ## Monitors and proposals (R472, R477, R478) -/

section Monitor

variable {s : State} {m v warn : Nat} {trouble : Fld}

/-- A monitor has taken a value and its peak. -/
def State.monShown (s : State) (m v : Nat) : State :=
  ((s.monPut m Ent.MON_VALUE (satNat 32 v)).monPut m Ent.MON_UPDATED_S s.aonSeconds).monPut m Ent.MON_PEAK
    (max (satNat 32 v) (Ent.MON_PEAK.of (s.mon m)))

theorem State.monTake_silent (h : satNat 32 v < warn ∨ Ent.MON_WARN.on ((s.monShown m v).mon m) = true) :
    s.monTake m v warn trouble = s.monShown m v := if_pos h

theorem State.monTake_warns (hlevel : warn ≤ satNat 32 v) (hfirst : Ent.MON_WARN.on ((s.monShown m v).mon m) = false) :
    s.monTake m v warn trouble = (((s.monShown m v).monPut m Ent.MON_WARN 1).flag trouble).wearEvent 1 m 0 0xFF (satNat 32 v) warn 0 :=
  if_neg fun h => h.elim (Nat.not_lt_of_le hlevel) (fun hon => Bool.false_ne_true (hfirst.symm.trans hon))

end Monitor

section Propose

variable {s : State} {p : HkaProp}

/-- A monitor has an open, waiting or dismissed proposal. -/
def State.propHeld (s : State) (p : HkaProp) : Bool :=
  Ent.MON_PROPOSED.on (s.mon p.mon) || s.hka.waiting.any (fun q => q.mon == p.mon) || s.hka.dismissed.any (fun q => q.1.mon == p.mon)

theorem State.propose_held (h : s.propHeld p = true) : s.propose p = s := if_pos h

variable (hheld : s.propHeld p = false)
include hheld

theorem State.propose_free : s.propose p =
    if s.actionBarred p = true then
      (if Ent.MON_EXHAUSTED.on (s.mon p.mon) = true then s
      else ((s.monPut p.mon Ent.MON_EXHAUSTED 1).flag HKA_TROUBLE_SPARE_EXHAUSTED).wearEvent 6 p.mon p.action 0xFF
        (Ent.MON_VALUE.of (s.mon p.mon)) p.level 0)
    else ((s.propFree).map (fun i => s.propWrite i p)).getD (s.onHka (fun h => { h with waiting := h.waiting ++ [p] })) := by
  rw [State.propHeld] at hheld
  simp only [State.propose, hheld, Bool.false_eq_true, if_false]
  cases s.propFree <;> rfl

end Propose

section Remind

variable {s : State} {m : Nat}

theorem State.remind_none (h : s.hka.dismissed.find? (fun d => d.1.mon == m) = none) : s.remind m = s := by
  simp only [State.remind, h]

variable {p : HkaProp} {t : Nat} (h : s.hka.dismissed.find? (fun d => d.1.mon == m) = some (p, t))
include h

theorem State.remind_silent
    (hwait : s.rd HKA_LIFE_LIMIT_REMIND_DAYS = 0 ∨ s.now < t + s.rd HKA_LIFE_LIMIT_REMIND_DAYS * 86400000000000) : s.remind m = s := by
  simp only [State.remind, h, if_pos hwait]

theorem State.remind_proposes (hdays : s.rd HKA_LIFE_LIMIT_REMIND_DAYS ≠ 0)
    (hpast : t + s.rd HKA_LIFE_LIMIT_REMIND_DAYS * 86400000000000 ≤ s.now) :
    s.remind m = (s.onHka (fun h => { h with dismissed := h.dismissed.filter (fun d => !(d.1.mon == m)) })).proposeOpt
      (if m ≤ 15 then s.ageProp m p.level else some p) := by
  have hdue : ¬ (s.rd HKA_LIFE_LIMIT_REMIND_DAYS = 0 ∨ s.now < t + s.rd HKA_LIFE_LIMIT_REMIND_DAYS * 86400000000000) :=
    fun h => h.elim hdays (Nat.not_lt_of_le hpast)
  simp only [State.remind, h, if_neg hdue]

end Remind

/-! ## O59 -/

/-- Settles O59: each measurement in its time, and what a monitor and a proposal do with it. -/
theorem monitorsAndProposals : Obligations.MonitorsAndProposals := by
  unfold Obligations.MonitorsAndProposals
  refine ⟨?sweep, ?ageing, ?life, ?ecc, ?window, ?monitor, ?propose, ?remind⟩
  case sweep =>
    intro vals s h ms n a
    rw [exec_adcSweep_of h]
    refine ⟨fun hidle => congrArg _ (State.sweep_idle vals (hidle.imp_right fun ⟨b, hb, hearly⟩ =>
        State.each_eq_false ⟨b.1, by rw [hb]; rfl, hearly⟩)),
      fun hruns hpast => congrArg _ (State.sweep_runs vals hruns (State.each_eq_true fun t ht => ?_))⟩
    obtain ⟨b, hb, rfl⟩ := Option.map_eq_some_iff.mp ht
    exact hpast b hb
  case ageing =>
    intro ppm nand s h
    rw [exec_ageingMeasure_of h]
    exact ⟨fun hidle => congrArg _ (State.ageing_idle ppm nand (hidle.imp_right State.each_eq_false)),
      fun hruns hpast => congrArg _ (State.ageing_due ppm nand hruns (State.each_eq_true hpast))⟩
  case life =>
    intro s h
    rw [exec_lifeAccrue_of h, exec_lifeCommit_of h]
    exact ⟨fun hidle => congrArg _ (hidle.elim State.lifeAccrue_unread fun hearly => State.lifeAccrue_early (State.each_eq_false hearly)),
      fun t hboard hpast => congrArg _ (State.lifeAccrue_due hboard (State.each_eq_true hpast)),
      fun hearly => congrArg _ (State.lifeCommit_early (State.each_eq_false hearly)),
      fun hpast => congrArg _ (State.lifeCommit_due (State.each_eq_true hpast))⟩
  case ecc =>
    intro m target inst addr s h
    rw [exec_eccCorrected_of h]
    exact ⟨fun hother => congrArg _ (State.eccCorrected_other hother),
      fun hruns hlow hhigh => congrArg _ (State.eccCorrected_counts hruns hlow hhigh)⟩
  case window =>
    intro s h
    rw [exec_eccWindowEnd_of h]
    exact ⟨fun hearly => congrArg _ (State.eccWindow_early hearly), fun hpast hstill => congrArg _ (State.eccWindow_still hpast hstill),
      fun hpast hruns => congrArg _ (State.eccWindow_closes hpast hruns)⟩
  case monitor => exact fun m v warn trouble s => ⟨State.monTake_silent, State.monTake_warns⟩
  case propose =>
    intro p s
    refine ⟨State.propose_held, fun hheld hbar hex => ?_, fun hheld hbar hex => ?_, fun hheld hbar => ?_⟩
    · rw [State.propose_free hheld, if_pos hbar, if_pos hex]
    · rw [State.propose_free hheld, if_pos hbar, if_neg (Bool.eq_false_iff.mp hex)]
    · rw [State.propose_free hheld, if_neg (Bool.eq_false_iff.mp hbar)]
  case remind =>
    intro m s h
    rw [exec_proposalRemind_of h]
    exact ⟨fun hnone => congrArg _ (State.remind_none hnone), fun p t hp =>
      ⟨fun hwait => congrArg _ (State.remind_silent hp hwait), fun hdays hpast => congrArg _ (State.remind_proposes hp hdays hpast)⟩⟩

end Sys2Proof.Machine
end

section
/-! PROOFS. Host conversions of the ADC, and SPARE_DEVICE, QUEUE_REPAIR and DISMISS (R470, R471, R478-R480, R485). -/

namespace Sys2Proof.Machine

open Sys2Proof Reg

/-! ## Rows -/

section ConversionRows

variable {s : State} {who : Agent}

theorem exec_adcConvert_of (h : s.Admits who 0x150010 true) (ch : Fin 16) :
    exec (.adcConvert who ch) s = .next ((s.mbCount who).convGo ch.val false) ∧
    exec (.adcConvertUrgent who ch) s = .next ((s.mbCount who).convGo ch.val true) :=
  ⟨congrArg Host.Outcome.next (State.allow_of h _ _), congrArg Host.Outcome.next (State.allow_of h _ _)⟩

theorem exec_adcResult_of (h : s.Runs 17) (value : BitVec 32) : exec (.adcResult value) s = .next (s.convResult value.toNat) :=
  congrArg Host.Outcome.next (State.liveU_of_runs h _)

theorem exec_spareRebuildDone_of (h : s.Runs 17) : exec .spareRebuildDone s = .next s.rebuildDone :=
  congrArg Host.Outcome.next (State.liveU_of_runs h _)

section Commands

variable (h : s.Admits who 0x150050 true)
include h

theorem exec_spareDevice_of (rank : Fin 4) (dev : Fin 32) :
    exec (.spareDevice who rank dev) s = .next ((s.mbCount who).spareDevice rank.val dev.val) :=
  congrArg Host.Outcome.next (State.allow_of h _ _)

theorem exec_queueRepair_of (i : Fin 16) : exec (.queueRepair who i) s = .next ((s.mbCount who).queueRepair i.val) :=
  congrArg Host.Outcome.next (State.allow_of h _ _)

theorem exec_dismiss_of (i : Fin 16) : exec (.dismiss who i) s = .next ((s.mbCount who).dismiss i.val) :=
  congrArg Host.Outcome.next (State.allow_of h _ _)

end Commands

end ConversionRows

/-! ## Conversions (R470, R471) -/

section Start

variable {s : State} {urgent : Bool}

theorem State.convStart_idle (h : s.hka.burst = none) : s.convStart urgent = s.now + b2n urgent := by
  simp only [State.convStart, h]

variable {a b : Nat} (h : s.hka.burst = some (a, b))
include h

theorem State.convStart_over (hover : s.hkaRuns = false ∨ b ≤ s.now) : s.convStart urgent = s.now + b2n urgent := by
  simp only [State.convStart, h, if_pos hover]

/-- During a burst an urgent request starts at the end of the running conversion, another at the end of the burst. -/
theorem State.convStart_burst (hruns : s.hkaRuns = true) (hlast : s.now < b) :
    s.convStart urgent = if urgent = true then a + ceilDiv (s.now - a) 1000 * 1000 else b := by
  have hburst : ¬ (s.hkaRuns = false ∨ b ≤ s.now) :=
    fun h => h.elim (fun hoff => Bool.false_ne_true (hoff.symm.trans hruns)) (Nat.not_le_of_lt hlast)
  simp only [State.convStart, h, if_neg hburst]

end Start

/-- CHANNEL and URGENT of HKA_CONV_CTRL are written. -/
abbrev State.convAsked (s : State) (ch : Nat) (urgent : Bool) : State := (s.wr HKA_CONV_CTRL_CHANNEL ch).wrB HKA_CONV_CTRL_URGENT urgent

section Convert

variable {s : State} {ch : Nat} {urgent : Bool}

theorem State.convGo_ignored (h : (s.convAsked ch urgent).hka.conv.isSome = true ∨ (s.convAsked ch urgent).clk 17 = false) :
    s.convGo ch urgent = (s.convAsked ch urgent).flag HKA_TROUBLE_REQ_BUSY :=
  if_pos (Bool.or_eq_true_iff.mpr (h.imp_right fun hoff => by rw [hoff]; rfl))

theorem State.convGo_requests (hidle : (s.convAsked ch urgent).hka.conv = none) (hclk : (s.convAsked ch urgent).clk 17 = true) :
    let u := s.convAsked ch urgent
    s.convGo ch urgent = (u.onHka (fun h => { h with
      conv := some { channel := ch, urgent := urgent, goAt := u.now, goTai := u.taiNs, start := u.convStart urgent }
      burst := h.burst.map (fun b => if urgent = true ∧ u.now < b.2 then (b.1, b.2 + 1000) else b) })).wr HKA_CONV_STATUS_BUSY 1 :=
  if_neg (by rw [hidle, hclk]; decide)

theorem State.convResult_none (value : Nat) (h : s.hka.conv = none) : s.convResult value = s := by
  simp only [State.convResult, h]

variable {c : HkaConv} (h : s.hka.conv = some c)
include h

theorem State.convResult_early (value : Nat) (hearly : s.now < c.start + 1000) : s.convResult value = s := by
  simp only [State.convResult, h, if_pos (Or.inr hearly)]

theorem State.convResult_delivers (value : Nat) (hclk : s.clk 17 = true) (hpast : c.start + 1000 ≤ s.now) :
    let a := if s.on HKA_DATA_LO_VALID = true then (s.flag HKA_TROUBLE_OVERRUN).bump HKA_OVERRUNS else s
    let b := (((a.flag HKA_DATA_LO_VALID).wrB HKA_DATA_LO_URGENT c.urgent).wr HKA_DATA_LO_CHANNEL c.channel).wrSat HKA_DATA_LO_WAIT
      ((c.start - c.goAt) / 10)
    let d := (b.wr HKA_DATA_HI_VALUE value).wr HKA_DATA_TAI (c.goTai + (c.start - c.goAt))
    s.convResult value = ((d.onHka (fun h => { h with conv := none })).wr HKA_CONV_STATUS_BUSY 0).bump HKA_CONVERSIONS := by
  have hdue : ¬ (s.clk 17 = false ∨ s.now < c.start + 1000) :=
    fun h => h.elim (fun hoff => Bool.false_ne_true (hoff.symm.trans hclk)) (Nat.not_lt_of_le hpast)
  simp only [State.convResult, h, if_neg hdue]

end Convert

/-! ## Commands (R478) -/

/-- HKA_CMD with SPARE_DEVICE is written. -/
abbrev State.spareAsked (s : State) (rank dev : Nat) : State := ((s.wr HKA_CMD_OP 1).wr HKA_CMD_RANK rank).wr HKA_CMD_DEVICE dev

/-- HKA_CMD with an operation on a proposal is written. -/
abbrev State.propAsked (s : State) (op i : Nat) : State := (s.wr HKA_CMD_OP op).wr HKA_CMD_PROP i

section Maintain

variable {s : State}

theorem State.spareDevice_busy {rank dev : Nat} (h : (s.spareAsked rank dev).on HKA_CMD_STATUS_BUSY = true) :
    s.spareDevice rank dev = (s.spareAsked rank dev).hkaAnswer 1 := if_pos h

/-- SPARE_DEVICE with no command in progress: GATED, EXHAUSTED, or the rebuild begins. -/
theorem State.spareDevice_judged {rank dev : Nat} (h : (s.spareAsked rank dev).on HKA_CMD_STATUS_BUSY = false) :
    s.spareDevice rank dev =
      if (s.spareAsked rank dev).clk 17 = false then (s.spareAsked rank dev).hkaAnswer 5
      else if bitAt ((s.spareAsked rank dev).rd HKA_SPARES_DRAM_SPARE) rank = false then
        ((s.spareAsked rank dev).flag HKA_TROUBLE_SPARING_FAIL).hkaAnswer 2
      else (((s.spareAsked rank dev).begin HKA_CMD_STATUS_BUSY).onHka (fun h => { h with rebuild := some (rank, dev) })).hkaShow :=
  if_neg (Bool.eq_false_iff.mp h)

theorem State.rebuildDone_none (h : s.hka.rebuild = none) : s.rebuildDone = s := by
  simp only [State.rebuildDone, h]

theorem State.rebuildDone_some {r d : Nat} (h : s.hka.rebuild = some (r, d)) :
    let a := (s.onHka (fun h => { h with rebuild := none, map := h.map ++ [(r, d)] })).wrBit HKA_SPARES_DRAM_SPARE 0 r false
    s.rebuildDone = ((a.finish HKA_CMD_STATUS_BUSY HKA_CMD_STATUS_DONE HKA_CMD_STATUS_RESULT 0).hkaShow).propSettle (18 + r) 2 := by
  simp only [State.rebuildDone, h]

theorem State.queueRepair_busy {i : Nat} (h : (s.propAsked 2 i).on HKA_CMD_STATUS_BUSY = true) :
    s.queueRepair i = (s.propAsked 2 i).hkaAnswer 1 := if_pos h

/-- QUEUE_REPAIR with no command in progress: GATED, BAD_ARG, EXHAUSTED, or the repair is queued. -/
theorem State.queueRepair_judged {i : Nat} (h : (s.propAsked 2 i).on HKA_CMD_STATUS_BUSY = false) :
    let u := s.propAsked 2 i
    let e := u.hka.prop.get i 0
    let v := u.onHka (fun h => { h with queued := h.queued ++ [(Ent.PROP_SUBJECT.of e, Ent.PROP_DETAIL.of e, Ent.PROP_ADDRESS.of e)] })
    s.queueRepair i =
      if u.clk 17 = false then u.hkaAnswer 5
      else if Ent.PROP_STATE.of e ≠ 1 ∨ Ent.PROP_ACTION.of e ≠ 5 then u.hkaAnswer 3
      else if 8 ≤ u.hka.queued.length then u.hkaAnswer 2
      else ((v.wr HKA_SPARES_QUEUED v.hka.queued.length).propClose i 2).hkaAnswer 0 :=
  if_neg (Bool.eq_false_iff.mp h)

theorem State.dismiss_busy {i : Nat} (h : (s.propAsked 3 i).on HKA_CMD_STATUS_BUSY = true) :
    s.dismiss i = (s.propAsked 3 i).hkaAnswer 1 := if_pos h

/-- The proposal that an entry of the table holds, as a dismissal keeps it. -/
def propOfEntry (e : Nat) : HkaProp :=
  { mon := Ent.PROP_MONITOR.of e, action := Ent.PROP_ACTION.of e, subject := Ent.PROP_SUBJECT.of e,
    detail := Ent.PROP_DETAIL.of e, addr := Ent.PROP_ADDRESS.of e, level := 0 }

/-- DISMISS with no command in progress: GATED, BAD_ARG, or the proposal is DISMISSED. -/
theorem State.dismiss_judged {i : Nat} (h : (s.propAsked 3 i).on HKA_CMD_STATUS_BUSY = false) :
    let u := s.propAsked 3 i
    let e := u.hka.prop.get i 0
    s.dismiss i =
      if u.clk 17 = false then u.hkaAnswer 5
      else if Ent.PROP_STATE.of e ≠ 1 then u.hkaAnswer 3
      else ((u.onHka (fun h => { h with dismissed := h.dismissed ++ [(propOfEntry e, u.now)] })).propClose i 3).hkaAnswer 0 :=
  if_neg (Bool.eq_false_iff.mp h)

end Maintain

/-! ## O60 -/

/-- Settles O60: the request and the result of a conversion, then each command with its answers in their order. -/
theorem conversionsAndMaintenanceCommands : Obligations.ConversionsAndMaintenanceCommands := by
  unfold Obligations.ConversionsAndMaintenanceCommands
  refine ⟨?convert, ?result, ?spare, ?rebuilt, ?proposals⟩
  case convert =>
    intro who ch s h
    obtain ⟨hplain, hurgent⟩ := exec_adcConvert_of h ch
    refine ⟨⟨hplain, hurgent⟩, ?_⟩
    intro p hp u
    have hexec : exec p.1 s = .next ((s.mbCount who).convGo ch.val p.2) := by
      simp only [List.mem_cons, List.not_mem_nil, or_false] at hp
      rcases hp with rfl | rfl
      · exact hplain
      · exact hurgent
    rw [hexec]
    refine ⟨fun hbusy => congrArg _ (State.convGo_ignored hbusy), fun hidle hclk => congrArg _ (State.convGo_requests hidle hclk),
      State.convStart_idle, fun a b hburst => ⟨State.convStart_over hburst, fun hruns hlast hyes => ?_, fun hruns hlast hno => ?_⟩⟩
    · exact (State.convStart_burst hburst hruns hlast).trans (if_pos hyes)
    · exact (State.convStart_burst hburst hruns hlast).trans (if_neg (Bool.eq_false_iff.mp hno))
  case result =>
    intro value s h
    rw [exec_adcResult_of h]
    exact ⟨fun hnone => congrArg _ (State.convResult_none _ hnone), fun c hc =>
      ⟨fun hearly => congrArg _ (State.convResult_early hc _ hearly), fun hpast => congrArg _ (State.convResult_delivers hc _ h.2 hpast)⟩⟩
  case spare =>
    intro who rank dev s h
    rw [exec_spareDevice_of h]
    refine ⟨fun hbusy => congrArg _ (State.spareDevice_busy hbusy), fun hidle => ?_⟩
    have hjudged := State.spareDevice_judged hidle
    refine ⟨fun hoff => congrArg _ (hjudged.trans (if_pos hoff)), fun hclk => ?_⟩
    replace hjudged := hjudged.trans (if_neg (by rw [hclk]; decide))
    exact ⟨fun hnone => congrArg _ (hjudged.trans (if_pos hnone)),
      fun hleft => congrArg _ (hjudged.trans (if_neg (by rw [hleft]; decide)))⟩
  case rebuilt =>
    intro s h
    rw [exec_spareRebuildDone_of h]
    exact ⟨fun hnone => congrArg _ (State.rebuildDone_none hnone), fun r d hr => congrArg _ (State.rebuildDone_some hr)⟩
  case proposals =>
    intro who i s h
    rw [exec_queueRepair_of h, exec_dismiss_of h]
    refine ⟨⟨fun hbusy => congrArg _ (State.queueRepair_busy hbusy), fun hidle => ?_⟩,
      ⟨fun hbusy => congrArg _ (State.dismiss_busy hbusy), fun hidle => ?_⟩⟩
    · have hjudged := State.queueRepair_judged hidle
      refine ⟨fun hoff => congrArg _ (hjudged.trans (if_pos hoff)), fun hclk => ?_⟩
      replace hjudged := hjudged.trans (if_neg (by rw [hclk]; decide))
      refine ⟨fun hbad => congrArg _ (hjudged.trans (if_pos hbad)), fun hopen hrepair hfull => ?_, fun hopen hrepair hroom => ?_⟩
      · exact congrArg _ ((hjudged.trans (if_neg fun hbad => hbad.elim (· hopen) (· hrepair))).trans (if_pos hfull))
      · exact congrArg _ ((hjudged.trans (if_neg fun hbad => hbad.elim (· hopen) (· hrepair))).trans (if_neg (Nat.not_le_of_lt hroom)))
    · have hjudged := State.dismiss_judged hidle
      refine ⟨fun hoff => congrArg _ (hjudged.trans (if_pos hoff)), fun hclk => ?_⟩
      replace hjudged := hjudged.trans (if_neg (by rw [hclk]; decide))
      exact ⟨fun hbad => congrArg _ (hjudged.trans (if_pos hbad)), fun hopen => congrArg _ (hjudged.trans (if_neg (not_not_intro hopen)))⟩

end Sys2Proof.Machine
end
